-- ==== Sys2Proof/Word.lean ====
section
/-! DEFINITION. The word types of the hub and the sparse map they are kept in. -/

namespace Sys2Proof

/-- One byte of memory. -/
abbrev Byte := BitVec 8

/-- A register: 64 bits (R6). -/
abbrev Word := BitVec 64

/-- One lane of a hold vector row: 32 bits (R87). -/
abbrev Lane := BitVec 32

/-- A coherence line: 128 bytes (R17). -/
abbrev Line := BitVec 1024

/-- A sparse table by number: pairs with strictly rising keys. -/
abbrev NMap (α : Type) := List (Nat × α)

/-- A field of a register: its lowest bit and its width (R4). -/
structure Fld where
  lo : Nat
  w : Nat
  deriving DecidableEq, Repr

end Sys2Proof
end

