-- ==== Sys2Proof/Syntax.lean ====
section
/-! DEFINITION. The commands of the hub, one constructor per row of spec/opcode_table.json: what the outside does to
the hub (register and BAR accesses, messages, pin and link events) and what its own sequencers do (the steps of a
sailing, the instructions of a leg). The table gives its rows no bits, so that the operands are fields of a command. -/

namespace Sys2Proof

/-- The commands. The docstring of each is its row of the table with the rule it names. -/
inductive Instr where
  /-- SAILING_BOUNDARY (R25): The TCLK count reaches PERIOD: a new sailing begins, SAIL_NUM increments and the boundary is broadcast on the tree to every block. -/
  | sailingBoundary (lateNs : Nat) (rails : List Nat) (tiles : List Nat) (badMeter : Bool)
  /-- COMMIT_C1 (R29): Completion records of the previous sailing are issued in ring and descriptor order. -/
  | commitC1 (fit : Nat)
  /-- COMMIT_C2 (R29): After the last C1 write, MSI-X messages are issued in ascending function and vector order. -/
  | commitC2 (fit : Nat)
  /-- COMMIT_SPILL (R30): Completion records or messages that did not fit in COMMIT are issued after it in the same order and counted. -/
  | commitSpill (n : Nat)
  /-- INTAKE_I0 (R32): B-class and slip window shadows transfer into force. -/
  | intakeI0
  /-- INTAKE_I1 (R32): Accepted translation invalidations are applied in every translation cache. -/
  | intakeI1 (unfin : Bool)
  /-- INTAKE_I2 (R32): Sparing remaps take effect, key slots due for retirement are retired, and a staged re-manifest is switched in. -/
  | intakeI2 (unfin : Bool)
  /-- INTAKE_I3 (R433): Captured doorbells are sampled and descriptors are admitted up to their quotas. -/
  | intakeI3 (unfin : Bool)
  /-- INTAKE_I4 (R232): Invalidation acknowledgements are issued for the invalidations applied at I1. -/
  | intakeI4 (unfin : Bool)
  /-- RUN_START (R35): RUN begins, each named TE starts its first leg, and the domains of the next wake list are woken. -/
  | runStart
  /-- LEG_START (R35): A further leg on a TE starts at its fixed offset, checks its region alignment and starts its weight stream. -/
  | legStart (te : Nat)
  /-- COPY_ISSUE (R193): A COPY prefetch entry issues at its START offset after translating its footprints. -/
  | copyIssue (part : Nat) (idx : Nat)
  /-- COPY_COMPLETE (R194): A COPY transfer completes, which makes its consuming step eligible to run. -/
  | copyComplete (part : Nat) (idx : Nat)
  /-- QUIET_START (R37): QUIET begins: hub masters stop issuing, spur credits are withheld and running legs are abandoned. -/
  | quietStart
  /-- SURVEY_START (R508): At QUIET plus DRAIN of a survey sailing, the survey items that fit run. -/
  | surveyStart
  /-- SURVEY_ITEM_DONE (R509): A survey measurement completes and firmware records it and re-plans. -/
  | surveyItemDone (kind : Nat) (unit : Nat) (value : Nat) (low : Bool) (ch : Nat)
  /-- LEG_WATCHDOG (R44): A leg reaches its declared bound without END and is abandoned with LEG_OVERRUN. -/
  | legWatchdog (te : Nat) (lost : Nat)
  /-- END (R130): END retires once every MOV and MMA has completed and every write is observable. -/
  | endLeg (te : Nat) (cyc : Nat) (lost : Nat)
  /-- MOV_LOAD (R119): A MOV loads region rows into the hold after translating its whole footprint. -/
  | movLoad (te : Nat)
  /-- MOV_STORE (R119): A MOV stores hold rows to a region. -/
  | movStore (te : Nat)
  /-- MOV_HCOPY (R119): A MOV copies hold rows to hold rows. -/
  | movHcopy (te : Nat)
  /-- MOV_ZERO (R118): A MOV sets hold rows to 0. -/
  | movZero (te : Nat)
  /-- MOV_COMPLETE (R82): An outstanding MOV transfer completes and releases its hold range. -/
  | movComplete (te : Nat) (mov : Nat)
  /-- MMA_ACC (R121): An MMA adds block products into the accumulator sets. -/
  | mmaAcc (te : Nat) (cyc : Nat)
  /-- MMA_ACC_DRAIN (R121): An MMA adds block products and then drains the sets to the hold. -/
  | mmaAccDrain (te : Nat) (cyc : Nat)
  /-- MMA_DRAIN (R121): An MMA drains accumulator sets to the hold without adding. -/
  | mmaDrain (te : Nat) (cyc : Nat)
  /-- MMA_CLEAR (R121): An MMA sets P accumulator sets to 0. -/
  | mmaClear (te : Nat) (cyc : Nat)
  /-- MMA_COMPLETE (R74): An MMA completes 16 cycles after its last block. -/
  | mmaComplete (te : Nat)
  /-- WSB_BLOCK_ARRIVE (R78): A weight block is delivered into its WSB slot. -/
  | wsbBlockArrive (te : Nat) (cyc : Nat)
  /-- VEC_ADD (R89): Lane-wise addition. -/
  | vecAdd (te : Nat)
  /-- VEC_SUB (R89): Lane-wise subtraction. -/
  | vecSub (te : Nat)
  /-- VEC_MUL (R89): Lane-wise multiplication. -/
  | vecMul (te : Nat)
  /-- VEC_FMA (R89): Lane-wise fused multiply-add. -/
  | vecFma (te : Nat)
  /-- VEC_MIN (R152): Lane-wise minimum. -/
  | vecMin (te : Nat)
  /-- VEC_MAX (R152): Lane-wise maximum. -/
  | vecMax (te : Nat)
  /-- VEC_ABS (R89): Lane-wise absolute value. -/
  | vecAbs (te : Nat)
  /-- VEC_NEG (R89): Lane-wise negation. -/
  | vecNeg (te : Nat)
  /-- VEC_AND (R154): Lane-wise bitwise AND. -/
  | vecAnd (te : Nat)
  /-- VEC_OR (R154): Lane-wise bitwise OR. -/
  | vecOr (te : Nat)
  /-- VEC_XOR (R154): Lane-wise bitwise XOR. -/
  | vecXor (te : Nat)
  /-- VEC_SHL (R154): Lane-wise shift left. -/
  | vecShl (te : Nat)
  /-- VEC_SHR (R154): Lane-wise logical shift right. -/
  | vecShr (te : Nat)
  /-- VEC_SRA (R154): Lane-wise arithmetic shift right. -/
  | vecSra (te : Nat)
  /-- VEC_CMPEQ (R152): Lane-wise equality compare. -/
  | vecCmpeq (te : Nat)
  /-- VEC_CMPLT (R152): Lane-wise less-than compare. -/
  | vecCmplt (te : Nat)
  /-- VEC_CMPLE (R152): Lane-wise less-or-equal compare. -/
  | vecCmple (te : Nat)
  /-- VEC_SELECT (R89): Lane-wise selection on the raw bits of A. -/
  | vecSelect (te : Nat)
  /-- VEC_EXP (R153): Correctly rounded exponential. -/
  | vecExp (te : Nat)
  /-- VEC_LOG (R153): Correctly rounded logarithm. -/
  | vecLog (te : Nat)
  /-- VEC_RCP (R153): Correctly rounded reciprocal. -/
  | vecRcp (te : Nat)
  /-- VEC_RSQRT (R153): Correctly rounded reciprocal square root. -/
  | vecRsqrt (te : Nat)
  /-- VEC_SQRT (R153): Correctly rounded square root. -/
  | vecSqrt (te : Nat)
  /-- VEC_TANH (R153): Correctly rounded hyperbolic tangent. -/
  | vecTanh (te : Nat)
  /-- VEC_LD (R123): Loads 256 hold bytes into a vector register. -/
  | vecLd (te : Nat)
  /-- VEC_ST (R123): Stores a vector register into 256 hold bytes. -/
  | vecSt (te : Nat)
  /-- VEC_RAND (R124): Draws raw Philox words into a vector register. -/
  | vecRand (te : Nat)
  /-- VEC_RANDU (R93): Draws uniform FP32 values into a vector register. -/
  | vecRandu (te : Nat)
  /-- CVT_CAST (R164): Converts elements to another format. -/
  | cvtCast (te : Nat)
  /-- CVT_SCALE (R165): Scales INT32 accumulators by sw times sa into a destination format. -/
  | cvtScale (te : Nat)
  /-- CVT_QUANT (R166): Quantises FP32 elements by a given scale. -/
  | cvtQuant (te : Nat)
  /-- CVT_QSCALE (R167): Quantises FP32 to INT8 with a computed scale and writes that scale. -/
  | cvtQscale (te : Nat)
  /-- RED_SUM (R90): Ordered FP32 sum. -/
  | redSum (te : Nat)
  /-- RED_MAX (R90): Ordered FP32 maximum. -/
  | redMax (te : Nat)
  /-- RED_SOFTMAX (R91): Softmax over N elements. -/
  | redSoftmax (te : Nat)
  /-- RED_RMSNORM (R91): RMS normalisation. -/
  | redRmsnorm (te : Nat)
  /-- RED_LAYERNORM (R91): Layer normalisation. -/
  | redLayernorm (te : Nat)
  /-- RED_ARGMAX (R91): Index and value of the largest element. -/
  | redArgmax (te : Nat)
  /-- RED_TOPK (R91): The k largest elements and their indices. -/
  | redTopk (te : Nat)
  /-- SYNC_BAR (R138): A group member arrives at a barrier once its MOVs are observable. -/
  | syncBar (te : Nat)
  /-- BAR_RELEASE (R138): All members have arrived and are released within 160 cycles. -/
  | barRelease (mask : Nat) (bid : Nat)
  /-- SYNC_FENCE (R136): Waits until the TE's MOVs have completed and are observable. -/
  | syncFence (te : Nat)
  /-- LOOP_REPEAT (R129): Starts a counted loop over the following body. -/
  | loopRepeat (te : Nat)
  /-- PRED_CMP (R128): Sets a predicate from a hold word compared with IMM. -/
  | predCmp (te : Nat)
  /-- PRED_VCMP (R128): Sets a predicate from a register lane compared with IMM. -/
  | predVcmp (te : Nat)
  /-- PRED_AND (R128): Predicate AND. -/
  | predAnd (te : Nat)
  /-- PRED_OR (R128): Predicate OR. -/
  | predOr (te : Nat)
  /-- PRED_NOT (R128): Predicate NOT. -/
  | predNot (te : Nat)
  /-- PRED_SET (R128): Sets a predicate from IMM[0]. -/
  | predSet (te : Nat)
  /-- TE_FAILING (R94): A physical TE detects a hold UE, a WSB parity error or a residue or exponent mismatch and becomes failing. -/
  | teFailing (tile : Nat) (phys : Nat) (cause : Nat)
  /-- DOORBELL (R431): Host software writes a ring doorbell index, which is accepted at once. -/
  | doorbell (tenant : Nat) (ring : Nat) (half : Nat) (value : Nat)
  /-- DESC_RUN (R434): A fetched RUN descriptor starts a voyage and its staging. -/
  | descRun (ring : Nat) (didx : Nat)
  /-- DESC_XFER (R437): A fetched XFER descriptor moves data through the pool. -/
  | descXfer (ring : Nat) (didx : Nat)
  /-- DESC_LOAD_PROG (R140): A fetched LOAD_PROG descriptor loads and checks a program image. -/
  | descLoadProg (ring : Nat) (didx : Nat)
  /-- DESC_ABORT (R443): An ABORT descriptor ends the named admitted descriptor. -/
  | descAbort (ring : Nat) (didx : Nat)
  /-- CHUNK_FILL_DONE (R437): A pool buffer's fill from the source completes and its drain starts. -/
  | chunkFillDone (ring : Nat) (buf : Nat)
  /-- CHUNK_DRAIN_DONE (R438): A pool buffer's drain to the destination completes. -/
  | chunkDrainDone (ring : Nat) (buf : Nat)
  /-- DTU_INV_PAGE (R230): A PAGE invalidation is queued on its lane. -/
  | dtuInvPage (lane : Nat) (seq : Nat) (vpn : Nat) (tenant : Nat)
  /-- DTU_INV_TENANT (R230): A TENANT invalidation is queued on its lane. -/
  | dtuInvTenant (lane : Nat) (seq : Nat) (tenant : Nat)
  /-- DTU_INV_ALL (R230): An ALL invalidation is queued on its lane. -/
  | dtuInvAll (lane : Nat) (seq : Nat)
  /-- TRANSLATION_WALK (R224): A translation-cache miss walks the two-level tables and completes or fails. -/
  | translationWalk (cache : Nat) (tenant : Nat) (va : Nat)
  /-- PIN_LOAD_DONE (R235): The walks of a tenant's pinned pages end, and the context becomes ON or PIN_FAULT. -/
  | pinLoadDone (tenant : Nat)
  /-- TFQ_POP (R239): The tenant removes the head fault record. -/
  | tfqPop (tenant : Nat)
  /-- TINV_CLR (R526): The tenant removes all of its region marks and ALL. -/
  | tinvClr (tenant : Nat)
  /-- TMEAS_GO (R571): The tenant starts the measurement of a weight set into a slot. -/
  | tmeasGo (tenant : Nat)
  /-- TMEAS_DONE (R571): The weight digest completes and is placed into its slot at the next I0. -/
  | tmeasDone (tenant : Nat)
  /-- ATS_TRANSLATION_COMPLETION (R241): A Translation Completion arrives and the ATC entry is filled. -/
  | atsTranslationCompletion (fn : Nat) (page : Nat) (trans : Nat) (ok : Bool) (rd : Bool) (wr : Bool)
  /-- ATS_INVALIDATE_REQUEST (R242): An ATS Invalidate Request is accepted for application at the next I1. -/
  | atsInvalidateRequest (itag : Nat) (fn : Nat) (page : Nat)
  /-- ATS_INVALIDATION_COMPLETION (R242): The Invalidation Completion is sent once the accesses that used removed entries have completed. -/
  | atsInvalidationCompletion (itag : Nat)
  /-- RDS (R258): The home serves a read to be cached shared. -/
  | rds (req : Nat) (pa : Nat) (tag : Nat) (credit : Bool) (qc : Nat) (ten : Nat) (ue : Bool)
  /-- RDO (R258): The home serves a read for ownership. -/
  | rdo (req : Nat) (pa : Nat) (tag : Nat) (credit : Bool) (qc : Nat) (ten : Nat)
  /-- UPG (R258): The home serves an upgrade from S or F. -/
  | upg (req : Nat) (pa : Nat) (tag : Nat) (credit : Bool) (qc : Nat) (ten : Nat)
  /-- RDC (R258): The home serves a non-caching read. -/
  | rdc (req : Nat) (pa : Nat) (tag : Nat) (alloc : Bool) (credit : Bool) (qc : Nat) (ten : Nat)
  /-- WRI (R258): The home serves a full-line write. -/
  | wri (req : Nat) (pa : Nat) (tag : Nat) (credit : Bool) (qc : Nat) (ten : Nat) (data : Line)
  /-- WRP (R258): The home serves a masked partial write. -/
  | wrp (req : Nat) (pa : Nat) (tag : Nat) (credit : Bool) (qc : Nat) (ten : Nat) (mask : Nat) (data : Line)
  /-- WB (R259): The home absorbs a writeback from M. -/
  | wb (agent : Nat) (pa : Nat) (data : Line)
  /-- EVCT (R259): The home absorbs the drop of a clean copy. -/
  | evct (agent : Nat) (pa : Nat)
  /-- COMP_ACK (R260): The requester confirms its grant, BUSY ends and the next waiting request is served. -/
  | compAck (req : Nat) (pa : Nat)
  /-- SNOOP_AT_STOP (R256): A snoop (SNP_S, SNP_CUR, SNP_I or SNP_BI) reaches a ring stop, which applies its transition and forwards it. -/
  | snoopAtStop (pa : Nat) (stop : Nat) (ue : Bool)
  /-- SNP_RSP (R257): A slip agent's answer to a snoop arrives at the home. -/
  | snpRsp (slip : Nat) (pa : Nat) (held : Bool) (dirty : Bool) (sends : Bool) (wbseen : Bool) (reqhold : Bool)
  /-- SNP_DATA (R252): Line data from a snooped agent arrives at the home. -/
  | snpData (agent : Nat) (pa : Nat) (dirty : Bool) (data : Line)
  /-- SNOOP_COMPLETE (R257): A snoop returns to its home with every answer in, and the home grants. -/
  | snoopComplete (pa : Nat)
  /-- DATA (R251): A requester receives line data with its granted state. -/
  | data (req : Nat) (pa : Nat)
  /-- GNT (R251): A requester receives a grant without data, or a write completion. -/
  | gnt (req : Nat) (pa : Nat)
  /-- RETRY (R264): A requester receives RETRY, with or without a credit. -/
  | retry (req : Nat) (pa : Nat)
  /-- WB_ACK (R251): An agent leaves WBP or EVP for I. -/
  | wbAck (agent : Nat) (pa : Nat)
  /-- SLIP_SNP_TO (R260): A chiplet misses the snoop or COMP_ACK limit and the slip is declared failed. -/
  | slipSnpTo (slip : Nat)
  /-- SLIP_AGENT_LOSS (R270): The lines owned by a failed COMPUTE slip are marked invalid and its entries are cleaned. -/
  | slipAgentLoss (slip : Nat)
  /-- MRD (R282): A memory controller serves a memory read. -/
  | mrd (src : Nat) (pa : Nat) (tag : Nat) (rid : Nat) (qc : Nat) (ten : Nat) (ecc : Nat)
  /-- MWR (R282): A memory controller serves a memory write. -/
  | mwr (src : Nat) (pa : Nat) (tag : Nat) (rid : Nat) (qc : Nat) (mask : Nat) (ten : Nat) (data : Line)
  /-- MDATA (R282): Memory read data arrives at the requesting home or spur. -/
  | mdata (router : Nat) (tag : Nat)
  /-- MWR_ACK (R282): A memory write acknowledgement arrives. -/
  | mwrAck (router : Nat) (tag : Nat)
  /-- ERR_RESPONSE (R283): An ERR response with a cause arrives at its requester. -/
  | errResponse (router : Nat) (tag : Nat)
  /-- REG_WR (R315): A register write reaches its block through one handshake ford, and REG_ACK is returned. -/
  | regWr (off : Nat) (size : Nat) (value : Nat) (src : Nat) (tag : Nat)
  /-- REG_ACK (R315): A block acknowledges a write, releasing the next held register request. -/
  | regAck (block : Nat)
  /-- ERR_CAPTURE_CLEAR (R106): Writing VALID of a first-error capture register clears VALID, CAUSE and COUNT. -/
  | errCaptureClear (off : Nat)
  /-- ERR_REC (R518): The error sequencer receives an error report and makes, folds or queues a record. -/
  | errRec (block : Nat) (cause : Nat) (unit : Nat)
  /-- RECORD_HANDLED (R521): Firmware finishes handling a record, which enters the log ring. -/
  | recordHandled
  /-- FATAL (R517): A FATAL error abandons legs, stops outputs, steps down and holds the ports. -/
  | fatal (block : Nat) (cause : Nat) (unit : Nat)
  /-- PARTITION_RESET (R300): A request to a TE, copy or ring engine of a partition in reset is answered with PARTITION_RESET. -/
  | partitionReset (part : Nat) (cls : Nat) (src : Nat) (tag : Nat)
  /-- FLIT_CRC_ERROR (R301): A receiver discards a flit with a CRC error and requests a replay. -/
  | flitCrcError (router : Nat) (port : Nat) (again : Bool)
  /-- LINK_RETRAIN_DONE (R301): A torus or spur link retrain ends, and a link that failed becomes FAILED. -/
  | linkRetrainDone (router : Nat) (port : Nat) (ok : Bool)
  /-- HDR_UE (R302): An uncorrectable header error in a router buffer raises FATAL. -/
  | hdrUe (router : Nat)
  /-- DATA_UE (R304): An uncorrectable data error sets DMG, voids the sailing and marks the line. -/
  | dataUe (router : Nat) (ten : Nat) (pa : Nat) (tag : Nat)
  /-- WAKE_REQUEST (R298): A packet for a sleeping domain is held and its wake line is raised. -/
  | wakeRequest (d : Nat)
  /-- DOMAIN_UP (R298): A woken domain comes up and the held packet is delivered. -/
  | domainUp (d : Nat)
  /-- WAKE_FAIL (R298): A domain is not up within 4 µs and FATAL is raised. -/
  | wakeFail (d : Nat)
  /-- TOLL_RELEASE (R294): A request held at its toll finds enough tokens and is injected. -/
  | tollRelease (p : Nat) (q : Nat)
  /-- FEEDBACK_SCALE_UPDATE (R333): Every 16 TCLK cycles, the QC2 and QC3 toll scales are set from the queue levels. -/
  | feedbackScaleUpdate (vaults : List Nat) (lrsQueues : List Nat)
  /-- FORD_OVERRUN (R319): A ford overrun or pointer failure is counted and voids every partition's sailing. -/
  | fordOverrun (src : Nat) (dst : Nat) (n : Nat) (ptr : Bool) (leaf : Bool)
  /-- FORD_RESET (R321): One side of a reset ford enters reset, and the other side flushes and refuses. -/
  | fordReset (dom : Nat) (other : Nat) (n : Nat) (m : Nat)
  /-- FORD_READY (R321): Both sides report ready and transfers resume. -/
  | fordReady (dom : Nat) (other : Nat)
  /-- LOCK_LOST (R312): A PLL of a core domain loses lock and FATAL is raised. -/
  | lockLost (dom : Nat)
  /-- TREF_LOST (R312): TREF is lost, the time base holds its frequency and FATAL is raised. -/
  | trefLost
  /-- OSP_FLIT_RECEIVE (R356): An OSP flit is received and checked for CRC and FSEQ. -/
  | ospFlitReceive (slip : Nat) (flit : List Byte)
  /-- OSP_REPLAY (R356): A CTRL REPLAY flit makes the sender resend from the named FSEQ. -/
  | ospReplay (slip : Nat) (fseq : Nat)
  /-- SLIP_REQUEST (R364): A new chiplet request is translated by an inbound window and sent, or refused with ERR. -/
  | slipRequest (slip : Nat)
  /-- CREDIT_TO (R359): The hub waits for a credit beyond CREDIT_TO and declares the slip failed. -/
  | creditTo (slip : Nat)
  /-- MEM_TO (R361): A chiplet misses the MRD or MWR limit, the request fails and the slip is declared failed. -/
  | memTo (slip : Nat) (tag : Nat)
  /-- SLIP_LINK_ERROR (R367): UCIe reports a link error and the slip retrains. -/
  | slipLinkError (slip : Nat)
  /-- SLIP_RETRAIN_DONE (R367): A slip retrain ends at some rate, or the link goes DOWN. -/
  | slipRetrainDone (slip : Nat) (rate : Nat) (mods : Nat) (ok : Bool)
  /-- SLIP_DOWN (R368): A slip goes DOWN or is declared failed, and its traffic is cleaned up. -/
  | slipDown (slip : Nat)
  /-- SLIP_SIDEBAND_LINK_DOWN (R368): A chiplet takes the link down over the sideband. -/
  | slipSidebandLinkDown (slip : Nat)
  /-- SLIP_RETRAIN (R369): SLIP_CTL.RETRAIN restarts training and discovery for a DOWN slip. -/
  | slipRetrain (slip : Nat)
  /-- SLIP_DISCOVERY_DONE (R352): Descriptor reads complete and are checked against the manifest. -/
  | slipDiscoveryDone (slip : Nat) (rate : Nat) (mods : Nat) (link : Bool) (desc : List Byte)
  /-- SLIP_CLR (R371): SLIP_CTL.CLR clears SLIP_CNT. -/
  | slipClr (slip : Nat)
  /-- STACK_TEMP_READ (R382): The per-millisecond stack sensor read sets the regime or trips the stack. -/
  | stackTempRead (port : Nat) (temp : Nat) (answered : Bool)
  /-- CHANNEL_FAILING (R384): A Lararis channel becomes failing and a copy to a spare starts. -/
  | channelFailing (port : Nat) (ch : Nat) (silent : Bool)
  /-- SPARE_COPY_DONE (R384): The channel copy completes, and the spare takes over at the next I2. -/
  | spareCopyDone (port : Nat) (bad : List Nat)
  /-- STACK_TAKEN_OUT (R388): A stack trips, stops answering or loses too many channels, and its reset line is asserted. -/
  | stackTakenOut (port : Nat)
  /-- LRS_SPARE_CH (R384): LRS_CTL.SPARE_CH makes a logical channel failing. -/
  | lrsSpareCh (port : Nat) (ch : Nat)
  /-- LRS_RET_CH (R387): LRS_CTL.RET_CH retrains a FAILED channel and returns it to FREE. -/
  | lrsRetCh (port : Nat) (ch : Nat) (pass : Bool)
  /-- LRS_RESET (R389): LRS_CTL.RESET retrains and rechecks a LOST stack. -/
  | lrsReset (port : Nat) (mism : Nat)
  /-- LRS_CLR (R391): LRS_CTL.CLR clears the counters. -/
  | lrsClr (port : Nat)
  /-- PATROL_SCRUB (R188): A patrol scrub pass reads and corrects every line of a vault or stack. -/
  | patrolScrub (unit : Nat) (ces : List Nat) (ues : List Nat)
  /-- VAULT_REGIME_CHANGE (R190): A vault tier sensor crosses a threshold, changing the refresh regime or tripping FATAL. -/
  | vaultRegimeChange (vault : Nat) (t : Nat)
  /-- ROW_REPAIR_DONE (R189): A runtime row repair copy completes and takes effect at the next I2. -/
  | rowRepairDone (vault : Nat) (chan : Nat) (bank : Nat) (row : Nat) (found : Bool)
  /-- LLC_WAY_FAIL (R181): An LLC way fails and is written back, invalidated and spared. -/
  | llcWayFail (slice : Nat) (way : Nat) (lines : List Nat) (bad : List Nat)
  /-- TE_REQ_LANE (R97): Firmware requests that a lane move onto the free spare. -/
  | teReqLane (tile : Nat) (lane : Nat)
  /-- TE_CLR_FAILED (R98): Firmware requests that a FAILED TE return to spare duty. -/
  | teClrFailed (tile : Nat) (mask : Nat)
  /-- TE_CLR (R108): TE_CTL.CLR clears the flags and counters of a lane. -/
  | teClr (te : Nat)
  /-- TILE_CLR (R207): TILE_CTL.CLR clears the tile counters. -/
  | tileClr (tile : Nat)
  /-- COH_CLR (R275): COH_CTL.CLR clears the high-water marks and counts. -/
  | cohClr
  /-- OCT_CLR (R306): OCT_CTL.CLR clears the link, toll and wake counts. -/
  | octClr
  /-- FORD_CLR (R323): FORD_CTL.CLR clears the FORD_LOST counts. -/
  | fordClr
  /-- PCI_CLR (R426): PCI_CTL.CLR clears PCI_CNT and PCI_CNT2. -/
  | pciClr
  /-- Q_CLR (R449): Q_CTL.CLR clears Q_CNT. -/
  | qClr
  /-- PWR_CLR (R514): PWR_CTL.CLR clears the switch and survey counts. -/
  | pwrClr
  /-- TWIN_CLR (R545): TWIN_CTL.CLR clears TWIN_CNT. -/
  | twinClr
  /-- REGISTER_WRITE (R10): A write to a register with no row of its own takes effect by its class. -/
  | registerWrite (off : Nat) (size : Nat) (value : Nat)
  /-- STAGE (R462): MAN_CTL.STAGE reads and checks a manifest. -/
  | stage
  /-- ABANDON (R462): MAN_CTL.ABANDON discards the staged manifest. -/
  | abandon
  /-- SWITCH (R463): MAN_CTL.SWITCH schedules the crossing. -/
  | switch
  /-- MANIFEST_CHECK_DONE (R461): Manifest checking ends, and the manifest is admitted or rejected. -/
  | manifestCheckDone
  /-- PWR_LEAN_END (R503): Writing a PWR_LEAN_END bit ends a partition's lean operation at the next I0. -/
  | pwrLeanEnd (mask : Nat)
  /-- KA_SUPPLY_UNHEALTHY (R496): VDD_KA_A becomes unhealthy and the domain switches to VDD_KA_B. -/
  | kaSupplyUnhealthy (mvA : Nat) (mvB : Nat)
  /-- KA_SUPPLY_RETURN (R496): After 100 ms of health, the domain returns to VDD_KA_A. -/
  | kaSupplyReturn (mvA : Nat) (mvB : Nat)
  /-- KA_SUPPLY_LOSS (R497): Both keep-alive supplies fail, and the domain resets and restarts bring-up. -/
  | kaSupplyLoss
  /-- VDROOP (R506): VDD_ENG falls below VMIN during RUN, and every partition's sailing is voided. -/
  | vdroop (mv : Nat)
  /-- MAIN_RAIL_FAULT (R595): A main rail stays out of range for 1 µs and FATAL is raised. -/
  | mainRailFault (rail : Nat)
  /-- LOGIC_TEMP_CHANGE (R507): A logic sensor crosses a threshold, entering LEAN, HOT or the FATAL trip. -/
  | logicTempChange (t : Nat)
  /-- HUB_RST_N (R597): HUB_RST_N resets the whole hub, and its release starts keep-alive power good. -/
  | hubRstN
  /-- KEEPALIVE_POWER_GOOD (R597): The keep-alive domain leaves reset and bring-up begins at KEEPALIVE. -/
  | keepalivePowerGood
  /-- FUSES (R473): The ROM decodes the fuses and the life-cycle state. -/
  | fuses (ms : Nat)
  /-- FIRMWARE (R475): The ROM verifies the firmware image and starts it, or opens recovery. -/
  | firmware (ms : Nat)
  /-- RCV_LOAD (R476): BRG_CTL.RCV_LOAD streams a recovery image into flash and checks it. -/
  | rcvLoad
  /-- CANDIDATE (R477): Firmware checks the saved manifest and takes it as the candidate, or waits. -/
  | candidate (ms : Nat)
  /-- TRAIN (R480): The PLLs start, the time base starts and every populated port is trained. -/
  | train (ms : Nat) (badRail : Option Nat)
  /-- TWIN_WINDOW_EXPIRY (R481): The 120 s twin window closes with the link down, and the hub enters HELD. -/
  | twinWindowExpiry
  /-- MEMTEST (R483): Memory tests run and repairs are made, ending with lines marked invalid and the repair map written. -/
  | memtest (ms : Nat) (rows : List (Nat × Nat × Nat × Nat × Bool)) (banks : List (Nat × Nat × Nat)) (ways : List (Nat × Nat)) (tes : List (Nat × Nat)) (chans : List (Nat × Nat))
  /-- DISCOVER (R471): Chiplet descriptors, stack identities and the twin peer are read. -/
  | discover (ms : Nat) (mism : List Nat) (peer : Nat)
  /-- COMPARE (R488): The findings are compared with the candidate, leading to crossing or HELD. -/
  | compare (ms : Nat)
  /-- READY (R489): The candidate crosses in and the hub reports READY at I2. -/
  | ready (ms : Nat)
  /-- FULL_NEXT (R482): BRG_CTL.FULL_NEXT records a full-start request in the repair map. -/
  | fullNext
  /-- FW_LOAD (R529): GLB_FW_CTL.LOAD copies, checks and writes a new firmware image. -/
  | fwLoad
  /-- ACTIVATE (R530): GLB_FW_CTL.ACTIVATE schedules a warm handoff. -/
  | activate
  /-- WARM_HANDOFF (R530): At the scheduled C0, firmware saves state and restarts the controller on the new image. -/
  | warmHandoff
  /-- HANDOFF_TIMEOUT (R530): The new firmware has not resumed within 4 s, and the watchdog rule applies. -/
  | handoffTimeout
  /-- MC_WDOG (R528): The keep-alive watchdog expires and the management controller restarts from ROM. -/
  | mcWdog
  /-- HEARTBEAT_TOGGLE (R533): Each HB_MS, the hub toggles its heartbeat output. -/
  | heartbeatToggle
  /-- HEARTBEAT_LOST (R539): 3 × HB_MS pass with no peer toggle, leading to takeover or HB_LOST. -/
  | heartbeatLost (frames : Bool)
  /-- HELLO (R531): A HELLO frame is received and the pair digest, roles and peer are checked. -/
  | hello (digest : Nat) (role : Nat) (peer : Nat) (serial : Nat) (auth : Bool)
  /-- KEYX (R531): A key exchange frame agrees the frame keys. -/
  | keyx
  /-- FERRY (R535): A ferry frame carries entries of a sailing's inputs to the shadow. -/
  | ferry (typ : Nat) (part : Nat) (key : Nat) (data : List Byte)
  /-- FERRY_RUN (R537): The shadow runs one whole ferry in one of its sailings. -/
  | ferryRun
  /-- ACK (R532): An ACK frame reports the last ferry, backlog, overruns and digest mismatches. -/
  | ack (last : Nat) (backlog : Nat) (overfl : List Nat) (mism : List Nat)
  /-- COPY (R534): A COPY frame delivers a line for resynchronisation or echo. -/
  | copy (pa : Nat) (data : List Byte)
  /-- MREQ (R532): A node-1 read or write request frame is served. -/
  | mreq (write : Bool) (pa : Nat) (len : Nat) (tag : Nat) (data : List Byte)
  /-- MRSP (R532): A node-1 response frame arrives. -/
  | mrsp (write : Bool) (tag : Nat) (err : Bool) (data : List Byte)
  /-- STEPDOWN (R539): A NOTICE STEPDOWN makes the shadow take over. -/
  | stepdown
  /-- HANDOFF (R530): A NOTICE HANDOFF announces the peer's firmware handoff. -/
  | handoff
  /-- TAKEOVER_REQUEST (R539): A NOTICE TAKEOVER request makes the primary step down. -/
  | takeoverRequest
  /-- TAKEOVER (R540): The shadow becomes ACTING, runs the whole ferries and reissues its retained outputs. -/
  | takeover
  /-- TWIN_TAKEOVER_CMD (R539): TWIN_CTL.TAKEOVER on a shadow requests STEPDOWN and takes over. -/
  | twinTakeoverCmd
  /-- RESYNC (R534): TWIN_CTL.RESYNC starts copying a partition to the shadow. -/
  | resync (part : Nat)
  /-- RESYNC_SWITCH (R534): After the copy and drain, the partition becomes PAIRED at I3. -/
  | resyncSwitch (part : Nat)
  /-- TWIN_LINK_DOWN (R539): The twin link goes down, and both hubs become UNPAIRED. -/
  | twinLinkDown
  /-- BACKLOG_OVERFLOW (R537): The backlog exceeds 16, or the replay store overflows, and paired partitions become UNPAIRED. -/
  | backlogOverflow (replay : Bool)
  /-- ROTATE (R554): SAL_KEY_CMD ROTATE requests a new key slot and a re-encryption sweep. -/
  | rotate (owner : Nat)
  /-- RETIRE (R556): SAL_KEY_CMD RETIRE destroys the non-current slot. -/
  | retire (owner : Nat)
  /-- SWEEP_DONE (R555): The re-encryption sweep writes its last line, and SWEEP clears. -/
  | sweepDone (owner : Nat)
  /-- SCRUB_DONE (R565): The scrub overwrite ends, the throwaway key is destroyed and the scrub bits clear. -/
  | scrubDone (owner : Nat)
  /-- DRBG_FAIL (R548): A DRBG health test fails and fresh-key operations wait. -/
  | drbgFail
  /-- IDE_INTEGRITY (R562): An IDE integrity failure puts the bound TDIs in ERROR and tears them down. -/
  | ideIntegrity (stream : Nat)
  /-- TDISP_GET_VERSION (R557): TDISP GET_VERSION is answered. -/
  | tdispGetVersion (tenant : Nat)
  /-- TDISP_GET_CAPABILITIES (R557): TDISP GET_CAPABILITIES is answered. -/
  | tdispGetCapabilities (tenant : Nat)
  /-- LOCK_INTERFACE (R558): A TDI is locked if every condition holds, starting confidential mode. -/
  | lockInterface (tenant : Nat) (stream : Nat)
  /-- GET_DEVICE_INTERFACE_REPORT (R557): The TDI interface report is returned. -/
  | getDeviceInterfaceReport (tenant : Nat)
  /-- GET_DEVICE_INTERFACE_STATE (R557): The TDI state is returned. -/
  | getDeviceInterfaceState (tenant : Nat)
  /-- START_INTERFACE (R557): The TDI moves from CONFIG_LOCKED to RUN. -/
  | startInterface (tenant : Nat) (nonce : Nat)
  /-- STOP_INTERFACE (R562): The TDI returns to CONFIG_UNLOCKED and the tenant is torn down. -/
  | stopInterface (tenant : Nat)
  /-- IDE_KM (R557): IDE keys are programmed over the secured session. -/
  | ideKm (stream : Nat) (secure : Bool)
  /-- SPDM_GET_CERTIFICATE (R568): A certificate chain is returned. -/
  | spdmGetCertificate (slot : Nat) (off : Nat) (len : Nat)
  /-- SPDM_CHALLENGE (R568): A signed challenge response is returned. -/
  | spdmChallenge (slot : Nat) (nonce : List Byte)
  /-- SPDM_GET_MEASUREMENTS (R569): Signed measurement blocks are returned. -/
  | spdmGetMeasurements (index : Nat) (nonce : List Byte)
  /-- SPDM_KEY_EXCHANGE (R568): An SPDM session is established. -/
  | spdmKeyExchange (transport : Nat) (exchange : List Byte)
  /-- GET_PQ_SIG (R568): The ML-DSA-65 half of the preceding signature is returned. -/
  | getPqSig
  /-- TRANSITION (R580): LCS TRANSITION checks the token and programs the life-cycle codeword. -/
  | transition (route : Nat) (dest : Nat) (fail : Nat) (buf : List Byte)
  /-- FUSE (R583): LCS FUSE programs one fuse field from LCS_BUF. -/
  | fuse (route : Nat) (id : Nat) (fail : Nat) (buf : List Byte)
  /-- CHALLENGE (R586): LCS CHALLENGE places a fresh nonce in LCS_CHAL. -/
  | challenge (route : Nat)
  /-- DBG_AUTH (R586): LCS DBG_AUTH verifies a signed blob and opens debug. -/
  | dbgAuth (route : Nat) (buf : List Byte)
  /-- DBG_REVOKE (R586): LCS DBG_REVOKE ends the debug authorisation. -/
  | dbgRevoke (route : Nat)
  /-- DBG_EXPIRE (R586): A debug authorisation's lifetime expires. -/
  | dbgExpire
  /-- IDCODE (R587): The TAP selects IDCODE. -/
  | idcode
  /-- BYPASS (R587): The TAP selects BYPASS. -/
  | bypass
  /-- SAMPLE_PRELOAD (R587): The TAP selects SAMPLE/PRELOAD. -/
  | samplePreload
  /-- EXTEST (R587): The TAP selects EXTEST. -/
  | extest
  /-- CLAMP (R587): The TAP selects CLAMP. -/
  | clamp
  /-- HIGHZ (R587): The TAP selects HIGHZ. -/
  | highz
  /-- LCS_ACCESS (R587): The TAP accesses an LCS register through JTAG. -/
  | lcsAccess (off : Nat) (write : Bool) (data : Nat)
  /-- REG_ACCESS (R587): The TAP accesses any register-space offset. -/
  | regAccess (off : Nat) (write : Bool) (data : Nat)
  /-- WSP_SELECT (R587): The TAP selects the IEEE 1500 wrapper serial port. -/
  | wspSelect
  /-- TRACE_READ (R587): The TAP reads trace. -/
  | traceRead
  /-- PERST (R420): PERST# or DL_Down resets the PCIe controller and tears down PF0. -/
  | perst (pin : Bool)
  /-- LINK_TRAINING_START (R421): After PERST# release, the PCIe link starts training. -/
  | linkTrainingStart
  /-- HOST_CONFIG_REQUEST (R403): A configuration request is released at C0 and takes effect. -/
  | hostConfigRequest (fn : Nat) (off : Nat) (write : Bool) (data : List Byte) (len : Nat) (tag : Nat)
  /-- VF_FLR (R417): An FLR of a VF tears down its tenant. -/
  | vfFlr (t : Nat)
  /-- PF0_FLR (R419): An FLR of PF0 tears down every tenant and resets PF0. -/
  | pf0Flr
  /-- VF_ENABLE_CLEAR (R419): Clearing VF Enable tears down every tenant. -/
  | vfEnableClear
  /-- VF_ENABLE_SET (R399): Setting VF Enable enables the VFs, or only VF1 to VF7 without ARI. -/
  | vfEnableSet
  /-- D3HOT (R414): PF0 enters D3hot and every function behaves as disabled. -/
  | d3hot
  /-- LTR_SEND (R416): An LTR message is sent on enable or on a change of LTR_US. -/
  | ltrSend
  /-- HOST_BAR0_ACCESS (R402): A host read or write of PF0 BAR0 or a VF page is completed in order. -/
  | hostBar0Access (fn : Nat) (off : Nat) (write : Bool) (data : List Byte) (len : Nat) (tag : Nat) (poison : Bool) (tbit : Bool)
  /-- HOST_BAR2_READ (R218): A host BAR2 read is decrypted under the owner's key and returned. -/
  | hostBar2Read (off : Nat) (len : Nat) (tag : Nat) (dmg : Bool)
  /-- HOST_BAR2_WRITE (R218): A host BAR2 write is encrypted under the owner's key and stored. -/
  | hostBar2Write (off : Nat) (data : List Byte) (poison : Bool)
  /-- PCIE_COMPLETION (R408): A completion for a hub read arrives and is stored by tag. -/
  | pcieCompletion (fn : Nat) (tag : Nat) (st : Nat) (poison : Bool) (count : Nat) (data : List Byte)
  /-- COMPLETION_TIMEOUT (R410): A read times out, the read fails and its tag is quarantined. -/
  | completionTimeout (tag : Nat)
  /-- TAG_QUARANTINE_END (R411): The quarantine of a tag ends and the tag is free. -/
  | tagQuarantineEnd (tag : Nat)
  /-- L0P_ENTRY (R415): After L0P_IDLE µs idle, the hub requests x4. -/
  | l0pEntry
  /-- L1_ENTRY (R415): After L1_IDLE µs with nothing pending, the link enters L1. -/
  | l1Entry (sub : Bool)
  /-- L1_EXIT (R415): The hub has a TLP to send and starts the L1 exit. -/
  | l1Exit
  /-- TWIN_LINK_UP (R481): The twin link finishes training and comes up, which lets a waiting COMPARE begin and lets HELLO and pairing follow. -/
  | twinLinkUp
  /-- HB_IN_TOGGLE (R533): A toggle of the peer's heartbeat arrives on HB_IN, restarting the 3 x HB_MS loss count and setting TWIN_STATUS.HB_PEER. -/
  | hbInToggle
  /-- TWIN_FRAME_ERROR (R532): A twin frame arrives that fails its FEC or tag, is discarded and a replay is requested, counted in TWIN_CNT.REPLAY. -/
  | twinFrameError
  /-- PCIE_LINK_UP (R395): PCIe link training or retraining completes at some rate and width, setting PCI_STATUS and counting any shortfall from 128 GT/s x16 as a capacity loss. -/
  | pcieLinkUp (rate : Nat) (width : Nat) (eq : Nat) (flit : Bool)
  /-- PCIE_RECEIVER_ERROR (R422): A link-layer error on the PCIe link (Receiver Error, Bad TLP, Bad DLLP, replay timeout) is handled by replay and counted as CORRECTED. -/
  | pcieReceiverError (kind : Nat)
  /-- L0P_EXIT (R415): The link returns from L0p x4 to x16, either when the hub has a TLP to send or when the link partner requests it. -/
  | l0pExit
  /-- BRG_CTL_RETRY (R491): A write of BRG_CTL.RETRY while HELD with a candidate STAGED restarts bring-up at TRAIN under warm-start rules. -/
  | brgCtlRetry
  /-- FIRMWARE_RESUME (R530): The restarted or newly activated firmware loads the saved handoff state and resumes, releasing the held heartbeat and fixing when the new measurement appears. -/
  | firmwareResume
  /-- DRBG_OK_RETURN (R548): The DRBG health tests pass again and DRBG_OK returns to 1, after which deferred key creation proceeds at the next I2. -/
  | drbgOkReturn
  /-- PARTITION_RESET_ENTRY (R176): A partition enters reset: its tile caches are flushed, TC_UP and OCT_PRST change, its TE flags clear and its requests are answered with PARTITION_RESET until it leaves reset. -/
  | partitionResetEntry (part : Nat)
  deriving DecidableEq, Repr

end Sys2Proof
end

