-- ==== Sys2Proof/Decode.lean ====
section
/-! DEFINITION. The command a word of the opcode table spells. The table gives none of its rows bits (every row's list
of fields is empty), so that no word spells a command. -/

namespace Sys2Proof

/-- The command whose bits are w: none, as no row of the table has bits. -/
def decodeTableWord (_nbits _w : Nat) : Option Instr := none

end Sys2Proof
end

