-- ==== Sys2Proof/Machine/Maps.lean ====
section
/-! DEFINITION. Sparse tables by number (NMap), lists of numbers as sets, and the bit fields of a 64-bit word. -/

namespace Sys2Proof.Machine

/-! ### Sparse tables -/

/-- What a sparse table holds at a key. -/
def mget {α : Type} : NMap α → Nat → Option α
  | [], _ => none
  | (k, v) :: m, i => if k = i then some v else mget m i

/-- A sparse table with a value put at a key, keys kept rising. -/
def mput {α : Type} : NMap α → Nat → α → NMap α
  | [], i, x => [(i, x)]
  | (k, v) :: m, i, x =>
    if i < k then (i, x) :: (k, v) :: m
    else if k = i then (i, x) :: m
    else (k, v) :: mput m i x

/-- A sparse table with nothing at a key. -/
def mdel {α : Type} : NMap α → Nat → NMap α
  | [], _ => []
  | (k, v) :: m, i => if k = i then mdel m i else (k, v) :: mdel m i

/-- What a table holds at a key, or the value an unlisted key stands for. -/
def mgetD {α : Type} (m : NMap α) (i : Nat) (d : α) : α := (mget m i).getD d

/-- A sparse table with one entry put or deleted. -/
def mset {α : Type} (m : NMap α) (i : Nat) : Option α → NMap α
  | some x => mput m i x
  | none => mdel m i

/-- A sparse table whose entry at a key is changed, where there is one. -/
def mmod {α : Type} (m : NMap α) (i : Nat) (f : α → α) : NMap α :=
  match mget m i with
  | some v => mput m i (f v)
  | none => m

/-- Keys strictly rising, the first above a bound. -/
def risingFrom {α : Type} : Nat → NMap α → Bool
  | _, [] => true
  | b, (k, _) :: m => decide (b ≤ k) && risingFrom (k + 1) m

/-- The canonical form of a sparse table: keys strictly rising. -/
def mrising {α : Type} (m : NMap α) : Bool := risingFrom 0 m

/-! ### Lists of numbers as sets -/

/-- A list of numbers as a set: x put in once. -/
def nins (l : List Nat) (x : Nat) : List Nat := if l.contains x then l else l ++ [x]

/-- x taken out. -/
def nrem (l : List Nat) (x : Nat) : List Nat := l.filter (fun y => y != x)

/-! ### Bits -/

/-- Bit i of a number. -/
def bitOf (n i : Nat) : Bool := n / 2 ^ i % 2 = 1

/-- 1 for true, 0 for false. -/
def b2n (b : Bool) : Nat := if b then 1 else 0

/-- The bits [lo + w - 1 : lo] of a number. -/
def bitsOf (n lo w : Nat) : Nat := n / 2 ^ lo % 2 ^ w

/-- Field f of a word, as a number. -/
def fget (v : Word) (f : Fld) : Nat := v.toNat / 2 ^ f.lo % 2 ^ f.w

/-- A word with field f set to x (its low w bits). -/
def fset (v : Word) (f : Fld) (x : Nat) : Word :=
  BitVec.ofNat 64 (v.toNat / 2 ^ (f.lo + f.w) * 2 ^ (f.lo + f.w) + x % 2 ^ f.w * 2 ^ f.lo + v.toNat % 2 ^ f.lo)

/-- The bits of a field, as a mask. -/
def fmask (f : Fld) : Word := BitVec.ofNat 64 ((2 ^ f.w - 1) * 2 ^ f.lo)

/-- Bit i of a number set or cleared. -/
def setBit (n i : Nat) (b : Bool) : Nat := n / 2 ^ (i + 1) * 2 ^ (i + 1) + b2n b * 2 ^ i + n % 2 ^ i

/-- How many of the low w bits of a number are set. -/
def popCount (n : Nat) : Nat → Nat
  | 0 => 0
  | w + 1 => b2n (bitOf n w) + popCount n w

/-- n plus d, held at a maximum: the counts that saturate and do not wrap. -/
def satAdd (n d mx : Nat) : Nat := min (n + d) mx

/-- A number rounded up to a multiple of m. -/
def roundUp (n m : Nat) : Nat := (n + m - 1) / m * m

/-- n divided by d, rounded up. -/
def ceilDiv (n d : Nat) : Nat := (n + d - 1) / d

/-- A signed reading of the low w bits of a number. -/
def signed (w n : Nat) : Int :=
  let m := n % 2 ^ w
  if m < 2 ^ (w - 1) then (m : Int) else (m : Int) - 2 ^ w

/-- The low w bits of a signed number. -/
def unsignedOf (w : Nat) (z : Int) : Nat := (z % (2 ^ w : Int)).toNat

/-! ### Bytes -/

/-- A little-endian number from bytes (R4). -/
def leNat : List Byte → Nat
  | [] => 0
  | b :: bs => b.toNat + 256 * leNat bs

/-- The n little-endian bytes of a number (R4). -/
def leBytes : Nat → Nat → List Byte
  | 0, _ => []
  | n + 1, x => BitVec.ofNat 8 x :: leBytes n (x / 256)

/-- The 48 bytes of a SHA-384 digest, in the order SHA-384 writes them. -/
def digestBytes (d : BitVec 384) : List Byte := (leBytes 48 d.toNat).reverse

/-- A SHA-384 digest as the number State and the fuses hold: byte 0 of the digest lowest. -/
def digestNum (d : BitVec 384) : Nat := leNat (digestBytes d)

/-- n bytes of a list from offset o, short only where the list is. -/
def slice {α : Type} (l : List α) (o n : Nat) : List α := (l.drop o).take n

/-- The little-endian number in n bytes at offset o. -/
def leAt (l : List Byte) (o n : Nat) : Nat := leNat (slice l o n)

end Sys2Proof.Machine
end

