-- ==== Sys2Proof/Machine/Formats.lean ====
section
/-! DEFINITION. Number formats and conversion (R145 to R172): exact values, the single rounding rule, FP32 vector
arithmetic, the special functions, and the conversions with the events they count. -/

namespace Sys2Proof.Machine

/-! ### Exact values -/

/-- An exact value: NaN, an infinity, or a fraction with a sign (a zero keeps its sign, R162). -/
inductive FVal where
  | nan
  | inf (neg : Bool)
  | fin (neg : Bool) (num den : Nat)
  deriving DecidableEq, Repr

/-- A floating-point format: exponent bits, fraction bits, bias (R148). -/
structure FpFmt where
  ebits : Nat
  fbits : Nat
  bias : Nat
  deriving DecidableEq, Repr

/-- FP32 (R148). -/
def fp32 : FpFmt := ⟨8, 23, 127⟩

/-- BF16 (R148). -/
def bf16 : FpFmt := ⟨8, 7, 127⟩

/-- FP16 (R148). -/
def fp16 : FpFmt := ⟨5, 10, 15⟩

/-- The exponent field of an infinity or a NaN, all ones. -/
def FpFmt.top (f : FpFmt) : Nat := 2 ^ f.ebits - 1

/-- The canonical NaN of a format: sign 0, the highest fraction bit set (R148, R149). -/
def FpFmt.canonNan (f : FpFmt) : Nat := f.top * 2 ^ f.fbits + 2 ^ (f.fbits - 1)

/-- The largest finite magnitude's code (R148). -/
def FpFmt.maxCode (f : FpFmt) : Nat := f.top * 2 ^ f.fbits - 1

/-- The code with its sign bit. -/
def FpFmt.signed (f : FpFmt) (neg : Bool) (mag : Nat) : Nat := b2n neg * 2 ^ (f.ebits + f.fbits) + mag

/-- 2 to a signed power, as a fraction. -/
def pow2 (e : Int) : Nat × Nat := if e ≥ 0 then (2 ^ e.toNat, 1) else (1, 2 ^ (-e).toNat)

/-- The exact value of a code: subnormals at their exact value (R150), every NaN alike (R149). -/
def decodeFp (f : FpFmt) (code : Nat) : FVal :=
  let frac := code % 2 ^ f.fbits
  let e := code / 2 ^ f.fbits % 2 ^ f.ebits
  let neg := bitOf code (f.ebits + f.fbits)
  if e = f.top then (if frac = 0 then .inf neg else .nan)
  else
    let m := if e = 0 then frac else frac + 2 ^ f.fbits
    let p := pow2 ((max e 1 : Nat) - (f.bias : Int) - f.fbits)
    .fin neg (m * p.1) p.2

/-- a divided by b, rounded to nearest, ties to even (R158). -/
def roundDiv (a b : Nat) : Nat :=
  let q := a / b
  let r := a % b
  if 2 * r < b then q else if 2 * r > b then q + 1 else q + q % 2

/-- The exponent e with 2^e at most num/den and 2^(e+1) above it, for num and den not 0. -/
def ilog (num den : Nat) : Int :=
  let e : Int := (num.log2 : Int) - den.log2
  let p := pow2 e
  if num * p.2 < den * p.1 then e - 1 else e

/-- The magnitude num/den rounded to a format with an unbounded exponent above (R158): the code it would have; a code
past maxCode is beyond range. -/
def roundMag (f : FpFmt) (num den : Nat) : Nat :=
  if num = 0 then 0
  else
    let e := max (ilog num den) (1 - (f.bias : Int))
    let p := pow2 (e - f.fbits)
    let n := roundDiv (num * p.2) (den * p.1)
    (e + f.bias - 1).toNat * 2 ^ f.fbits + n

/-- Rounding for vector arithmetic (R151): beyond the largest finite value the result is an infinity. -/
def roundFp (f : FpFmt) : FVal → Nat
  | .nan => f.canonNan
  | .inf neg => f.signed neg (f.top * 2 ^ f.fbits)
  | .fin neg num den =>
    let c := roundMag f num den
    f.signed neg (if c > f.maxCode then f.top * 2 ^ f.fbits else c)

/-- The exact value of a signed fraction; a zero takes the given sign. -/
def ofFrac (z : Int) (den : Nat) (zneg : Bool) : FVal :=
  if z = 0 then .fin zneg 0 1 else .fin (decide (z < 0)) z.natAbs den

/-- The exact value of an integer. -/
def ofInt (z : Int) : FVal := ofFrac z 1 false

/-- The signed numerator of a finite value. -/
def snum (neg : Bool) (num : Nat) : Int := if neg then -(num : Int) else num

/-! ### Exact arithmetic (R151) -/

/-- The sum; an exact zero sum is +0 unless both operands are -0. -/
def fAdd : FVal → FVal → FVal
  | .nan, _ => .nan
  | _, .nan => .nan
  | .inf a, .inf b => if a = b then .inf a else .nan
  | .inf a, _ => .inf a
  | _, .inf b => .inf b
  | .fin a n d, .fin b m e =>
    ofFrac (snum a n * e + snum b m * d) (d * e) (a && b && decide (n = 0) && decide (m = 0))

/-- The value with its sign turned. -/
def fNeg : FVal → FVal
  | .nan => .nan
  | .inf a => .inf (!a)
  | .fin a n d => .fin (!a) n d

/-- The magnitude. -/
def fAbs : FVal → FVal
  | .nan => .nan
  | .inf _ => .inf false
  | .fin _ n d => .fin false n d

/-- The product; 0 times an infinity is NaN. -/
def fMul : FVal → FVal → FVal
  | .nan, _ => .nan
  | _, .nan => .nan
  | .inf a, .inf b => .inf (a != b)
  | .inf a, .fin b m _ => if m = 0 then .nan else .inf (a != b)
  | .fin a n _, .inf b => if n = 0 then .nan else .inf (a != b)
  | .fin a n d, .fin b m e => .fin (a != b) (n * m) (d * e)

/-- The exact quotient IEEE 754 division has before rounding (R166). -/
def fDiv : FVal → FVal → FVal
  | .nan, _ => .nan
  | _, .nan => .nan
  | .inf _, .inf _ => .nan
  | .inf a, .fin b _ _ => .inf (a != b)
  | .fin a _ _, .inf b => .fin (a != b) 0 1
  | .fin a n d, .fin b m e =>
    if m = 0 then (if n = 0 then .nan else .inf (a != b)) else .fin (a != b) (n * e) (d * m)

/-- Less than, false for a NaN; +0 equals -0 (R152). -/
def fLt : FVal → FVal → Bool
  | .nan, _ => false
  | _, .nan => false
  | .inf a, .inf b => a && !b
  | .inf a, _ => a
  | _, .inf b => !b
  | .fin a n d, .fin b m e => decide (snum a n * e < snum b m * d)

/-- Equal, false for a NaN; +0 equals -0 (R152). -/
def fEq : FVal → FVal → Bool
  | .nan, _ => false
  | _, .nan => false
  | .inf a, .inf b => a == b
  | .inf _, _ => false
  | _, .inf _ => false
  | .fin a n d, .fin b m e => decide (snum a n * e = snum b m * d)

/-! ### FP32 vector operations on codes -/

/-- The exact value of an FP32 code. -/
def fv (c : Nat) : FVal := decodeFp fp32 c

def vAdd (a b : Nat) : Nat := roundFp fp32 (fAdd (fv a) (fv b))
def vSub (a b : Nat) : Nat := roundFp fp32 (fAdd (fv a) (fNeg (fv b)))
def vMul (a b : Nat) : Nat := roundFp fp32 (fMul (fv a) (fv b))

/-- A × B + C, rounded once (R151). -/
def vFma (a b c : Nat) : Nat := roundFp fp32 (fAdd (fMul (fv a) (fv b)) (fv c))
def vAbs (a : Nat) : Nat := roundFp fp32 (fAbs (fv a))
def vNeg (a : Nat) : Nat := roundFp fp32 (fNeg (fv a))

/-- The sign bit of an FP32 code. -/
def fsign (c : Nat) : Bool := bitOf c 31

/-- MIN: canonical NaN with a NaN; -0 is less than +0 (R152). -/
def vMin (a b : Nat) : Nat :=
  if fv a = .nan ∨ fv b = .nan then fp32.canonNan
  else if fLt (fv a) (fv b) then a
  else if fLt (fv b) (fv a) then b
  else if fsign a then a else b

/-- MAX: canonical NaN with a NaN; -0 is less than +0 (R152). -/
def vMax (a b : Nat) : Nat :=
  if fv a = .nan ∨ fv b = .nan then fp32.canonNan
  else if fLt (fv a) (fv b) then b
  else if fLt (fv b) (fv a) then a
  else if fsign a then b else a

/-! ### Special functions (R153): the exact value correctly rounded (R89) -/

/-- The integer square root by bits, from bit b down. -/
def isqrtFrom (n : Nat) : Nat → Nat → Nat
  | 0, r => r
  | b + 1, r => isqrtFrom n b (if (r + 2 ^ b) * (r + 2 ^ b) ≤ n then r + 2 ^ b else r)

/-- The largest r with r × r at most n, for n below 2^1024. -/
def isqrt (n : Nat) : Nat := isqrtFrom n 512 0

/-- The square root of num/den rounded to FP32. The 140 extra bits leave a result that is exact, or lies strictly
between two neighbours of every rounding point, so that half a last place stands for what is cut off. -/
def roundSqrt (num den : Nat) : Nat :=
  let x := num * 4 ^ 140 / den
  let r := isqrt x
  if r * r * den = num * 4 ^ 140 then roundMag fp32 r (2 ^ 140) else roundMag fp32 (2 * r + 1) (2 ^ 141)

/-- Fraction bits of the fixed-point numbers below. -/
def fixBits : Nat := 256

/-- One in fixed point. -/
def fixOne : Nat := 2 ^ fixBits

/-- A closed interval of fixed-point numbers. -/
structure Ivl where
  lo : Nat
  hi : Nat
  deriving DecidableEq, Repr

/-- An interval that holds num/den. -/
def Ivl.ofFrac (num den : Nat) : Ivl := ⟨num * fixOne / den, ceilDiv (num * fixOne) den⟩

def Ivl.add (a b : Ivl) : Ivl := ⟨a.lo + b.lo, a.hi + b.hi⟩
def Ivl.mul (a b : Ivl) : Ivl := ⟨a.lo * b.lo / fixOne, ceilDiv (a.hi * b.hi) fixOne⟩
def Ivl.divNat (a : Ivl) (n : Nat) : Ivl := ⟨a.lo / n, ceilDiv a.hi n⟩

/-- n more terms of the exponential series after the term t^i / i!. -/
def expTerms (t : Ivl) : Nat → Nat → Ivl → Ivl → Ivl
  | 0, _, term, acc => ⟨acc.lo, acc.hi + 2 * term.hi⟩
  | n + 1, i, term, acc =>
    let term' := (term.mul t).divNat (i + 1)
    expTerms t n (i + 1) term' (acc.add term')

/-- An interval squared n times. -/
def Ivl.squares : Nat → Ivl → Ivl
  | 0, a => a
  | n + 1, a => Ivl.squares n (a.mul a)

/-- An interval that holds e to num/den, for num/den from 0 to 208: the series at num/den/512, squared nine times. The
rest of the series after its last term is less than twice that term. -/
def expIvl (num den : Nat) : Ivl :=
  let t := Ivl.ofFrac num (den * 512)
  (expTerms t 60 0 ⟨fixOne, fixOne⟩ ⟨fixOne, fixOne⟩).squares 9

/-- n more terms of the inverse hyperbolic tangent series z + z³/3 + z⁵/5 + …, the power z^(2i+1) in hand. -/
def atanhTerms (z2 : Ivl) : Nat → Nat → Ivl → Ivl → Ivl
  | 0, _, pow, acc => ⟨acc.lo, acc.hi + 2 * pow.hi⟩
  | n + 1, i, pow, acc =>
    let pow' := pow.mul z2
    atanhTerms z2 n (i + 1) pow' (acc.add (pow'.divNat (2 * i + 3)))

/-- An interval that holds the inverse hyperbolic tangent of num/den, for num/den at most 1/3. -/
def atanhIvl (num den : Nat) : Ivl :=
  let z := Ivl.ofFrac num den
  atanhTerms (z.mul z) 90 0 z z

/-- The code both ends of a positive interval round to: the interval is far narrower than the distance of any such
function's value from a rounding point, so that both ends give one code. -/
def ivlCode (lo hi : Nat × Nat) : Nat :=
  let a := roundMag fp32 lo.1 lo.2
  let b := roundMag fp32 hi.1 hi.2
  if a = b then a else b

/-- EXP of a finite value. Above 89 it is past the largest finite value, below -104 it rounds to +0. -/
def expFin (neg : Bool) (num den : Nat) : Nat :=
  if num = 0 then roundMag fp32 1 1
  else if num > 104 * den then (if neg then 0 else fp32.top * 2 ^ 23)
  else
    let e := expIvl num den
    let c := if neg then ivlCode (fixOne, e.hi) (fixOne, e.lo) else ivlCode (e.lo, fixOne) (e.hi, fixOne)
    if c > fp32.maxCode then fp32.top * 2 ^ 23 else c

/-- LOG of num/den: with num/den = m × 2^e and m from 1 to 2, e × ln 2 + 2 atanh ((m − 1) / (m + 1)). -/
def logFin (num den : Nat) : Nat :=
  if num = den then 0
  else
    let e := ilog num den
    let p := pow2 e
    let mn := num * p.2
    let md := den * p.1
    let a := atanhIvl (mn - md) (mn + md)
    let l2 := atanhIvl 1 3
    let lo : Int := 2 * (a.lo : Int) + 2 * (if e ≥ 0 then e * l2.lo else e * l2.hi)
    let hi : Int := 2 * (a.hi : Int) + 2 * (if e ≥ 0 then e * l2.hi else e * l2.lo)
    if lo ≥ 0 then fp32.signed false (ivlCode (lo.toNat, fixOne) (hi.toNat, fixOne))
    else fp32.signed true (ivlCode ((-hi).toNat, fixOne) ((-lo).toNat, fixOne))

/-- TANH of a magnitude: (e^2x − 1) / (e^2x + 1); from 10 up it is nearer to 1 than to any other FP32 value. -/
def tanhMag (num den : Nat) : Nat :=
  if num = 0 then 0
  else if num ≥ 10 * den then roundMag fp32 1 1
  else
    let e := expIvl (2 * num) den
    ivlCode (e.lo - fixOne, e.lo + fixOne) (e.hi - fixOne, e.hi + fixOne)

def vExp (a : Nat) : Nat :=
  match fv a with
  | .nan => fp32.canonNan
  | .inf neg => if neg then 0 else fp32.top * 2 ^ 23
  | .fin neg n d => expFin neg n d

def vLog (a : Nat) : Nat :=
  match fv a with
  | .nan => fp32.canonNan
  | .inf neg => if neg then fp32.canonNan else fp32.top * 2 ^ 23
  | .fin neg n d =>
    if n = 0 then fp32.signed true (fp32.top * 2 ^ 23) else if neg then fp32.canonNan else logFin n d

def vRcp (a : Nat) : Nat := roundFp fp32 (fDiv (.fin false 1 1) (fv a))

def vRsqrt (a : Nat) : Nat :=
  match fv a with
  | .nan => fp32.canonNan
  | .inf neg => if neg then fp32.canonNan else 0
  | .fin neg n d =>
    if n = 0 then fp32.signed neg (fp32.top * 2 ^ 23) else if neg then fp32.canonNan else roundSqrt d n

def vSqrt (a : Nat) : Nat :=
  match fv a with
  | .nan => fp32.canonNan
  | .inf neg => if neg then fp32.canonNan else fp32.top * 2 ^ 23
  | .fin neg n d =>
    if n = 0 then fp32.signed neg 0 else if neg then fp32.canonNan else roundSqrt n d

def vTanh (a : Nat) : Nat :=
  match fv a with
  | .nan => fp32.canonNan
  | .inf neg => fp32.signed neg (roundMag fp32 1 1)
  | .fin neg n d => fp32.signed neg (tanhMag n d)

/-! ### INT32 vector operations (R154) -/

/-- The INT32 value of a lane. -/
def i32 (c : Nat) : Int := Machine.signed 32 c

/-- A signed number clamped to INT32, as a lane. -/
def clamp32 (z : Int) : Nat := unsignedOf 32 (min (max z (-(2 ^ 31))) (2 ^ 31 - 1))

/-- The 32-bit code of a signed number. -/
def code32 (z : Int) : Nat := unsignedOf 32 z

/-! ### Conversion (R158 to R162) -/

/-- The formats CVT converts between (R125). -/
inductive CFmt where
  | fp32 | bf16 | fp16 | int32 | int16 | int8 | int4
  deriving DecidableEq, Repr

/-- The format a 4-bit code names (R125); other codes are reserved. -/
def CFmt.ofCode : Nat → Option CFmt
  | 0 => some .fp32
  | 1 => some .bf16
  | 2 => some .fp16
  | 3 => some .int32
  | 4 => some .int16
  | 5 => some .int8
  | 6 => some .int4
  | _ => none

/-- Bits of one element (R147, R148). -/
def CFmt.bits : CFmt → Nat
  | .fp32 => 32
  | .bf16 => 16
  | .fp16 => 16
  | .int32 => 32
  | .int16 => 16
  | .int8 => 8
  | .int4 => 4

/-- The layout of a floating-point format. -/
def CFmt.fp : CFmt → Option FpFmt
  | .fp32 => some Machine.fp32
  | .bf16 => some Machine.bf16
  | .fp16 => some Machine.fp16
  | _ => none

/-- The exact value of an element. -/
def CFmt.value (f : CFmt) (code : Nat) : FVal :=
  match f.fp with
  | some p => decodeFp p code
  | none => ofInt (Machine.signed f.bits code)

/-- A converted element and what it counts (R159 to R161). -/
structure Conv where
  code : Nat
  sat : Bool
  nan : Bool
  deriving DecidableEq, Repr

/-- A fraction rounded to an integer, ties to even (R158). -/
def roundInt (neg : Bool) (num den : Nat) : Int := snum neg (roundDiv num den)

/-- Conversion to an integer of w bits: clamped and counted beyond range (R159), an infinity to the end of its sign
(R160), a NaN to 0 (R161). -/
def convInt (w : Nat) : FVal → Conv
  | .nan => ⟨0, false, true⟩
  | .inf neg => ⟨if neg then 2 ^ (w - 1) else 2 ^ (w - 1) - 1, true, false⟩
  | .fin neg num den =>
    let z := roundInt neg num den
    if z > 2 ^ (w - 1) - 1 then ⟨2 ^ (w - 1) - 1, true, false⟩
    else if z < -(2 ^ (w - 1)) then ⟨2 ^ (w - 1), true, false⟩
    else ⟨unsignedOf w z, false, false⟩

/-- Conversion to a floating-point format: beyond range the largest finite value, counted (R159); an infinity stays
(R160), a NaN is canonical (R161), a zero keeps its sign (R162). -/
def convFp (f : FpFmt) : FVal → Conv
  | .nan => ⟨f.canonNan, false, false⟩
  | .inf neg => ⟨f.signed neg (f.top * 2 ^ f.fbits), false, false⟩
  | .fin neg num den =>
    let c := roundMag f num den
    if c > f.maxCode then ⟨f.signed neg f.maxCode, true, false⟩ else ⟨f.signed neg c, false, false⟩

/-- The one conversion rule (R158 to R162). -/
def conv (f : CFmt) (v : FVal) : Conv :=
  match f.fp with
  | some p => convFp p v
  | none => convInt f.bits v

/-! ### Weights and activations (R145, R147) -/

/-- Weight formats (R120). -/
inductive WFmt where
  | w1 | w2t | w2q | w4 | w8
  deriving DecidableEq, Repr

/-- Activation formats (R120). -/
inductive AFmt where
  | a4 | a8 | a16
  deriving DecidableEq, Repr

def WFmt.bits : WFmt → Nat
  | .w1 => 1
  | .w2t => 2
  | .w2q => 2
  | .w4 => 4
  | .w8 => 8

def AFmt.bits : AFmt → Nat
  | .a4 => 4
  | .a8 => 8
  | .a16 => 16

/-- The integer a weight code stands for (R145); the reserved W2T code reads as 0 (R146). -/
def WFmt.value (f : WFmt) (c : Nat) : Int :=
  match f with
  | .w1 => if c % 2 = 1 then 1 else -1
  | .w2t => match c % 4 with
    | 1 => 1
    | 3 => -1
    | _ => 0
  | .w2q => match c % 4 with
    | 0 => 1
    | 1 => 3
    | 2 => -1
    | _ => -3
  | .w4 => signed 4 c
  | .w8 => signed 8 c

/-- The shape of a mode: K rows, N columns, bytes of a block (R70). -/
structure Mode where
  k : Nat
  n : Nat
  size : Nat
  deriving DecidableEq, Repr

/-- The mode table (R70): the row's number for MODES (R110) and its shape; none where the pair is no mode. -/
def modeOf : WFmt → AFmt → Option (Nat × Mode)
  | .w1, .a4 => some (0, ⟨16, 512, 1024⟩)
  | .w1, .a8 => some (0, ⟨16, 512, 1024⟩)
  | .w2t, .a4 => some (1, ⟨16, 512, 2048⟩)
  | .w2t, .a8 => some (1, ⟨16, 512, 2048⟩)
  | .w2q, .a4 => some (1, ⟨16, 512, 2048⟩)
  | .w2q, .a8 => some (1, ⟨16, 512, 2048⟩)
  | .w1, .a16 => some (2, ⟨8, 512, 512⟩)
  | .w2t, .a16 => some (3, ⟨8, 512, 1024⟩)
  | .w2q, .a16 => some (3, ⟨8, 512, 1024⟩)
  | .w4, .a4 => some (4, ⟨16, 256, 2048⟩)
  | .w4, .a8 => some (4, ⟨16, 256, 2048⟩)
  | .w8, .a8 => some (5, ⟨16, 128, 2048⟩)
  | _, _ => none

/-- The weight format a 4-bit code names. -/
def WFmt.ofCode : Nat → Option WFmt
  | 0 => some .w1
  | 1 => some .w2t
  | 2 => some .w2q
  | 3 => some .w4
  | 4 => some .w8
  | _ => none

/-- The activation format a 2-bit code names. -/
def AFmt.ofCode : Nat → Option AFmt
  | 0 => some .a4
  | 1 => some .a8
  | 2 => some .a16
  | _ => none

/-- An accumulator after one column sum, and whether it was clamped (R156, R157). -/
def accAdd (acc colsum : Int) : Int × Bool :=
  let z := acc + colsum
  (min (max z (-(2 ^ 31))) (2 ^ 31 - 1), decide (z > 2 ^ 31 - 1) || decide (z < -(2 ^ 31)))

/-! ### Ordered reductions (R90) -/

/-- The 64 lane results, element i taken by lane i mod 64 in increasing i. -/
def laneFold (op : Nat → Nat → Nat) (start : Nat) (xs : List Nat) : List Nat :=
  (List.range 64).map (fun l => ((xs.zipIdx).filter (fun p => p.2 % 64 = l)).foldl (fun a p => op a p.1) start)

/-- One combining level: position j takes (2j) op (2j + 1). -/
def pairUp (op : Nat → Nat → Nat) : List Nat → List Nat
  | a :: b :: r => op a b :: pairUp op r
  | r => r

/-- The sum or maximum of R90: lanes, then six levels. -/
def reduce64 (op : Nat → Nat → Nat) (start : Nat) (xs : List Nat) : Nat :=
  let l := pairUp op (pairUp op (pairUp op (pairUp op (pairUp op (pairUp op (laneFold op start xs))))))
  l.headD start

/-- The FP32 code of minus infinity. -/
def negInf : Nat := 0xFF800000

/-- Sum (R90). -/
def redSum (xs : List Nat) : Nat := reduce64 vAdd 0 xs

/-- Maximum (R90, R152). -/
def redMax (xs : List Nat) : Nat := reduce64 vMax negInf xs

/-- Softmax (R91). -/
def softmax (xs : List Nat) : List Nat :=
  let m := redMax xs
  let e := xs.map (fun x => vExp (vSub x m))
  let r := vRcp (redSum e)
  e.map (fun x => vMul x r)

/-- The FP32 code of a small count. -/
def fpOfNat (n : Nat) : Nat := roundMag fp32 n 1

/-- RMS normalisation (R91). -/
def rmsNorm (xs ws : List Nat) (eps : Nat) : List Nat :=
  let q := redSum (xs.map (fun x => vMul x x))
  let v := vMul q (vRcp (fpOfNat xs.length))
  let g := vRsqrt (vAdd v eps)
  (xs.zip ws).map (fun p => vMul (vMul p.1 g) p.2)

/-- Layer normalisation (R91). -/
def layerNorm (xs ws bs : List Nat) (eps : Nat) : List Nat :=
  let rn := vRcp (fpOfNat xs.length)
  let mu := vMul (redSum xs) rn
  let d := xs.map (fun x => vSub x mu)
  let v := vMul (redSum (d.map (fun x => vMul x x))) rn
  let g := vRsqrt (vAdd v eps)
  ((d.zip ws).zip bs).map (fun p => vAdd (vMul (vMul p.1.1 g) p.1.2) p.2)

/-- x ranks above y for argmax and top-k (R91): a NaN ranks below every number; zeros rank as equal. -/
def ranksAbove (x y : Nat) : Bool :=
  match fv x, fv y with
  | .nan, _ => false
  | _, .nan => true
  | a, b => fLt b a

/-- The index and value of the largest element, ties to the lowest index; index 0 if all are NaN (R91). -/
def argmaxFrom : List Nat → Nat → Nat × Nat → Nat × Nat
  | [], _, best => best
  | x :: xs, i, best => argmaxFrom xs (i + 1) (if ranksAbove x best.2 then (i, x) else best)

def argmax : List Nat → Nat × Nat
  | [] => (0, 0)
  | x :: xs => argmaxFrom xs 1 (0, x)

/-- An element put in descending order, after those it does not rank above. -/
def rankInsert (p : Nat × Nat) : List (Nat × Nat) → List (Nat × Nat)
  | [] => [p]
  | q :: r => if ranksAbove p.2 q.2 then p :: q :: r else q :: rankInsert p r

/-- The k largest elements with their indices, in descending order, ties to the lower index; entries past n hold index
0xFFFF_FFFF and minus infinity (R91). -/
def topk (xs : List Nat) (k : Nat) : List (Nat × Nat) :=
  let l := ((xs.zipIdx).foldl (fun acc p => (rankInsert (p.2, p.1) acc).take k) [])
  l ++ List.replicate (k - l.length) (0xFFFFFFFF, negInf)

/-! ### Philox4x32-10 (R92) -/

/-- One round: the four counter words and the two key words (Salmon, Moraes, Dror and Shaw, 2011). -/
def philoxRound (c : Nat × Nat × Nat × Nat) (k0 k1 : Nat) : Nat × Nat × Nat × Nat :=
  let p0 := 0xD2511F53 * c.1
  let p1 := 0xCD9E8D57 * c.2.2.1
  ((p1 / 2 ^ 32 ^^^ c.2.1 ^^^ k0), p1 % 2 ^ 32, (p0 / 2 ^ 32 ^^^ c.2.2.2 ^^^ k1), p0 % 2 ^ 32)

/-- n rounds, the key raised by the Weyl constants after each. -/
def philoxRounds : Nat → Nat × Nat × Nat × Nat → Nat → Nat → Nat × Nat × Nat × Nat
  | 0, c, _, _ => c
  | n + 1, c, k0, k1 =>
    philoxRounds n (philoxRound c k0 k1) ((k0 + 0x9E3779B9) % 2 ^ 32) ((k1 + 0xBB67AE85) % 2 ^ 32)

/-- The four words of one draw for a 64-bit key and a 128-bit counter. -/
def philox (key ctr : Nat) : List Nat :=
  let c := (bitsOf ctr 0 32, bitsOf ctr 32 32, bitsOf ctr 64 32, bitsOf ctr 96 32)
  let r := philoxRounds 10 c (bitsOf key 0 32) (bitsOf key 32 32)
  [r.1, r.2.1, r.2.2.1, r.2.2.2]

/-- A uniform FP32 draw (w >> 8) × 2⁻²⁴ (R93). -/
def uniform (w : Nat) : Nat := roundMag fp32 (w / 256) (2 ^ 24)

end Sys2Proof.Machine
end

