-- ==== Sys2Proof/Machine/RegTable.lean ====
section
/-! DEFINITION. Every register the spec's register tables name: where it lies (its key), its fields with their access
codes and update classes (R7, R8, R10), and the value after HUB_RST_N (R7). A register's KEY is its offset in register
space (R214, R215); a VF-page register of tenant t has key 0x400_0000 + 0x1_0000 t + page offset (R219). Fields the
tables mark reserved are left out: they read 0 and writes to them are ignored (R9). -/

namespace Sys2Proof.Machine

/-- How a field is read and written (R8). -/
inductive Access where
  | rw | ro | wo | w1c | w1s
  deriving DecidableEq, Repr

/-- When a write takes effect (R10). -/
inductive UClass where
  | s | b | l
  deriving DecidableEq, Repr

/-- One field of a register table: its lowest bit, its width, its access code and its update class. -/
structure RegField where
  lo : Nat
  w : Nat
  acc : Access
  cls : UClass
  deriving DecidableEq, Repr

/-- The registers of the spec, by name (R5). -/
inductive RegName where
  | glbId
  | sailNum
  | sailPeriod
  | sailStatus
  | sailEvent
  | sailOvrCnt
  | sailSpillCnt
  | sailLag
  | teStatus
  | teFlags
  | teCvtCnt
  | teNumCnt
  | tePerfBusy
  | tePerfStall
  | tePerfWs
  | teErr
  | teSpare
  | teCtl
  | teRng
  | tileStatus
  | tileVmap
  | tileVrepair
  | tileLlcSpare
  | tileSpfCtl
  | tilePfCnt
  | tileSpfCnt
  | tilePerfLlc
  | tileErr
  | tileCtl
  | glbDecode
  | dtuInvAck
  | dtuAckAddr
  | dtuCtxRoot
  | dtuCtxCfg
  | dtuFqStatus
  | dtuAtsStatus
  | dtuPerf
  | tfqStatus
  | tfqCtl
  | tfqPop
  | cohHash
  | cohCfg
  | cohStatus
  | cohErr
  | cohCtl
  | cohSlice
  | cohPerf
  | octCfg
  | octStatus
  | octPrst
  | octErr
  | octCtl
  | octLink
  | octLinkCnt
  | octToll
  | octTollCnt
  | octPwr
  | fordStatus
  | fordCtl
  | fordErr
  | fordDom
  | fordLost
  | qosCfg
  | qosFb
  | qosStatus
  | qosEvent
  | qosSnapSail
  | qosTgt
  | qosLat
  | qosStep
  | qosBytes
  | qosSnap
  | qosGrant
  | qosGrantEff
  | qosCap
  | slipStatus
  | slipCfg
  | slipCtl
  | slipErr
  | slipCnt
  | slipWinIn
  | slipWinInTgt
  | slipWinOut
  | slipWinOutTgt
  | lrsStatus
  | lrsCfg
  | lrsCtl
  | lrsErr
  | lrsCnt
  | lrsPerf
  | lrsCh
  | pciStatus
  | pciLpm
  | pciTag
  | pciErr
  | pciCnt
  | pciCnt2
  | pciCtl
  | pciFlr
  | ringBase
  | ringCfg
  | ringPtr
  | ringStatus
  | qPool
  | qPoolUse
  | qVctx
  | qErr
  | qCnt
  | qCtl
  | manStatus
  | manFail
  | manSrc
  | manLen
  | manCtl
  | manSwitch
  | manCrossing
  | manSvn
  | manSerial
  | manDigest
  | manStgDigest
  | brgStatus
  | brgMism
  | brgStart
  | brgCtl
  | brgRcvSrc
  | brgRcvLen
  | brgTime
  | pwrStatus
  | pwrBudget
  | pwrEnergySail
  | pwrLean
  | pwrLeanEnd
  | pwrEvent
  | pwrKa
  | pwrSurvey
  | pwrErr
  | pwrCtl
  | pwrRail
  | pwrPart
  | errStatus
  | errLogBase
  | errLogPtr
  | errCtl
  | errCnt
  | errOvf
  | errLast
  | tinvStatus
  | tinvClr
  | glbFwSrc
  | glbFwLen
  | glbFwBuf
  | glbFwCtl
  | glbFwAt
  | glbFwStatus
  | twinStatus
  | twinPart
  | twinFerry
  | twinEvent
  | twinCtl
  | twinReplay
  | twinErr
  | twinCnt
  | salStatus
  | salEvent
  | salKeyCmd
  | salCfg
  | salErr
  | salKey
  | salScrub
  | salTdi
  | tmeasVa
  | tmeasLen
  | tmeasCtl
  | tmeasStatus
  | lcsStatus
  | lcsCmd
  | lcsCtl
  | lcsDbg
  | lcsChal
  | lcsField
  | lcsBuf
  | lrsLost
  | slipDesc
  | dtuInv
  | msixAddr
  | msixCtl
  | msixPba
  | vfMsixAddr
  | vfMsixCtl
  | vfMsixPba
  deriving DecidableEq, Repr

/-- One register or one array of registers: the key of instance 0, the strides and counts of its indices (outermost
first), the value after HUB_RST_N, and its fields. -/
structure RegDesc where
  name : RegName
  base : Nat
  dims : List (Nat × Nat)
  reset : Nat
  fields : List RegField
  deriving DecidableEq, Repr

/-! ### Keys -/
namespace R

/-- GLB_ID (R20). -/
def glbId : Nat := 0x0
/-- SAIL_NUM (R60). -/
def sailNum : Nat := 0x100000
/-- SAIL_PERIOD (R61). -/
def sailPeriod : Nat := 0x100008
/-- SAIL_STATUS (R62). -/
def sailStatus : Nat := 0x100010
/-- SAIL_EVENT (R63). -/
def sailEvent : Nat := 0x100018
/-- SAIL_OVR_CNT (R64). -/
def sailOvrCnt : Nat := 0x100020
/-- SAIL_SPILL_CNT (R65). -/
def sailSpillCnt : Nat := 0x100028
/-- SAIL_LAG (R66). -/
def sailLag (i : Nat) : Nat := 0x100100 + 0x8 * i
/-- TE_STATUS (R102). -/
def teStatus (i : Nat) : Nat := 0x300000 + 0x1000 * i
/-- TE_FLAGS (R103). -/
def teFlags (i : Nat) : Nat := 0x300008 + 0x1000 * i
/-- TE_CVT_CNT (R104). -/
def teCvtCnt (i : Nat) : Nat := 0x300010 + 0x1000 * i
/-- TE_NUM_CNT (R104). -/
def teNumCnt (i : Nat) : Nat := 0x300018 + 0x1000 * i
/-- TE_PERF_BUSY (R105). -/
def tePerfBusy (i : Nat) : Nat := 0x300020 + 0x1000 * i
/-- TE_PERF_STALL (R105). -/
def tePerfStall (i : Nat) : Nat := 0x300028 + 0x1000 * i
/-- TE_PERF_WS (R105). -/
def tePerfWs (i : Nat) : Nat := 0x300030 + 0x1000 * i
/-- TE_ERR (R106). -/
def teErr (i : Nat) : Nat := 0x300038 + 0x1000 * i
/-- TE_SPARE (R107). -/
def teSpare (i : Nat) : Nat := 0x300040 + 0x4000 * i
/-- TE_CTL (R108). -/
def teCtl (i : Nat) : Nat := 0x300048 + 0x1000 * i
/-- TE_RNG (R108). -/
def teRng (i : Nat) : Nat := 0x300050 + 0x1000 * i
/-- TILE_STATUS (R203). -/
def tileStatus (i : Nat) : Nat := 0x400000 + 0x1000 * i
/-- TILE_VMAP (R204). -/
def tileVmap (i : Nat) : Nat := 0x400008 + 0x1000 * i
/-- TILE_VREPAIR (R204). -/
def tileVrepair (i : Nat) : Nat := 0x400010 + 0x1000 * i
/-- TILE_LLC_SPARE (R205). -/
def tileLlcSpare (i : Nat) : Nat := 0x400018 + 0x1000 * i
/-- TILE_SPF_CTL (R205). -/
def tileSpfCtl (i : Nat) : Nat := 0x400020 + 0x1000 * i
/-- TILE_PF_CNT (R206). -/
def tilePfCnt (i : Nat) : Nat := 0x400028 + 0x1000 * i
/-- TILE_SPF_CNT (R206). -/
def tileSpfCnt (i : Nat) : Nat := 0x400030 + 0x1000 * i
/-- TILE_PERF_LLC (R206). -/
def tilePerfLlc (i : Nat) : Nat := 0x400038 + 0x1000 * i
/-- TILE_ERR (R207). -/
def tileErr (i : Nat) : Nat := 0x400040 + 0x1000 * i
/-- TILE_CTL (R207). -/
def tileCtl (i : Nat) : Nat := 0x400048 + 0x1000 * i
/-- GLB_DECODE (R221). -/
def glbDecode : Nat := 0x40
/-- DTU_INV_ACK (R244). -/
def dtuInvAck (i : Nat) : Nat := 0xC00200 + 0x8 * i
/-- DTU_ACK_ADDR (R244). -/
def dtuAckAddr (i : Nat) : Nat := 0xC00400 + 0x8 * i
/-- DTU_CTX_ROOT (R245). -/
def dtuCtxRoot (i : Nat) : Nat := 0xC10000 + 0x10 * i
/-- DTU_CTX_CFG (R245). -/
def dtuCtxCfg (i : Nat) : Nat := 0xC10008 + 0x10 * i
/-- DTU_FQ_STATUS (R246). -/
def dtuFqStatus : Nat := 0xC00600
/-- DTU_ATS_STATUS (R246). -/
def dtuAtsStatus : Nat := 0xC00608
/-- DTU_PERF (R246). -/
def dtuPerf : Nat := 0xC00610
/-- TFQ_STATUS (R247). -/
def tfqStatus (i : Nat) : Nat := 0x4001800 + 0x10000 * i
/-- TFQ_CTL (R247). -/
def tfqCtl (i : Nat) : Nat := 0x4001808 + 0x10000 * i
/-- TFQ_POP (R247). -/
def tfqPop (i : Nat) : Nat := 0x4001810 + 0x10000 * i
/-- COH_HASH (R273). -/
def cohHash (i : Nat) : Nat := 0x500000 + 0x8 * i
/-- COH_CFG (R274). -/
def cohCfg : Nat := 0x500040
/-- COH_STATUS (R274). -/
def cohStatus : Nat := 0x500048
/-- COH_ERR (R275). -/
def cohErr : Nat := 0x500050
/-- COH_CTL (R275). -/
def cohCtl : Nat := 0x500058
/-- COH_SLICE (R276). -/
def cohSlice (i : Nat) : Nat := 0x501000 + 0x10 * i
/-- COH_PERF (R276). -/
def cohPerf (i : Nat) : Nat := 0x501008 + 0x10 * i
/-- OCT_CFG (R305). -/
def octCfg : Nat := 0x600000
/-- OCT_STATUS (R305). -/
def octStatus : Nat := 0x600008
/-- OCT_PRST (R306). -/
def octPrst : Nat := 0x600010
/-- OCT_ERR (R306). -/
def octErr : Nat := 0x600018
/-- OCT_CTL (R306). -/
def octCtl : Nat := 0x600020
/-- OCT_LINK (R307). -/
def octLink (i : Nat) : Nat := 0x601000 + 0x8 * i
/-- OCT_LINK_CNT (R307). -/
def octLinkCnt (i : Nat) : Nat := 0x601400 + 0x8 * i
/-- OCT_TOLL (R308). -/
def octToll (i j : Nat) : Nat := 0x602000 + 0x20 * i + 0x8 * j
/-- OCT_TOLL_CNT (R308). -/
def octTollCnt (i : Nat) : Nat := 0x603000 + 0x8 * i
/-- OCT_PWR (R309). -/
def octPwr (i : Nat) : Nat := 0x604000 + 0x8 * i
/-- FORD_STATUS (R323). -/
def fordStatus : Nat := 0x1200000
/-- FORD_CTL (R323). -/
def fordCtl : Nat := 0x1200018
/-- FORD_ERR (R324). -/
def fordErr : Nat := 0x1200008
/-- FORD_DOM (R325). -/
def fordDom (i : Nat) : Nat := 0x1200100 + 0x8 * i
/-- FORD_LOST (R325). -/
def fordLost (i : Nat) : Nat := 0x1200200 + 0x8 * i
/-- QOS_CFG (R343). -/
def qosCfg : Nat := 0x700000
/-- QOS_FB (R343). -/
def qosFb : Nat := 0x700008
/-- QOS_STATUS (R344). -/
def qosStatus : Nat := 0x700010
/-- QOS_EVENT (R344). -/
def qosEvent : Nat := 0x700018
/-- QOS_SNAP_SAIL (R344). -/
def qosSnapSail : Nat := 0x700020
/-- QOS_TGT (R345). -/
def qosTgt (i j : Nat) : Nat := 0x701000 + 0x20 * i + 0x8 * j
/-- QOS_LAT (R345). -/
def qosLat (i j : Nat) : Nat := 0x702000 + 0x20 * i + 0x8 * j
/-- QOS_STEP (R345). -/
def qosStep (i : Nat) : Nat := 0x703000 + 0x8 * i
/-- QOS_BYTES (R346). -/
def qosBytes (i j : Nat) : Nat := 0x704000 + 0x20 * i + 0x8 * j
/-- QOS_SNAP (R346). -/
def qosSnap (i j : Nat) : Nat := 0x705000 + 0x20 * i + 0x8 * j
/-- QOS_GRANT (R347). -/
def qosGrant (i : Nat) : Nat := 0x706000 + 0x10 * i
/-- QOS_GRANT_EFF (R347). -/
def qosGrantEff (i : Nat) : Nat := 0x706008 + 0x10 * i
/-- QOS_CAP (R348). -/
def qosCap (i : Nat) : Nat := 0x707000 + 0x8 * i
/-- SLIP_STATUS (R370). -/
def slipStatus (i : Nat) : Nat := 0x800000 + 0x10000 * i
/-- SLIP_CFG (R370). -/
def slipCfg (i : Nat) : Nat := 0x800008 + 0x10000 * i
/-- SLIP_CTL (R371). -/
def slipCtl (i : Nat) : Nat := 0x800010 + 0x10000 * i
/-- SLIP_ERR (R371). -/
def slipErr (i : Nat) : Nat := 0x800018 + 0x10000 * i
/-- SLIP_CNT (R371). -/
def slipCnt (i : Nat) : Nat := 0x800020 + 0x10000 * i
/-- SLIP_WIN_IN (R373). -/
def slipWinIn (i j : Nat) : Nat := 0x801000 + 0x10000 * i + 0x10 * j
/-- SLIP_WIN_IN_TGT (R373). -/
def slipWinInTgt (i j : Nat) : Nat := 0x801008 + 0x10000 * i + 0x10 * j
/-- SLIP_WIN_OUT (R373). -/
def slipWinOut (i j : Nat) : Nat := 0x802000 + 0x10000 * i + 0x10 * j
/-- SLIP_WIN_OUT_TGT (R373). -/
def slipWinOutTgt (i j : Nat) : Nat := 0x802008 + 0x10000 * i + 0x10 * j
/-- LRS_STATUS (R390). -/
def lrsStatus (i : Nat) : Nat := 0x900000 + 0x10000 * i
/-- LRS_CFG (R390). -/
def lrsCfg (i : Nat) : Nat := 0x900008 + 0x10000 * i
/-- LRS_CTL (R391). -/
def lrsCtl (i : Nat) : Nat := 0x900010 + 0x10000 * i
/-- LRS_ERR (R392). -/
def lrsErr (i : Nat) : Nat := 0x900018 + 0x10000 * i
/-- LRS_CNT (R392). -/
def lrsCnt (i : Nat) : Nat := 0x900020 + 0x10000 * i
/-- LRS_PERF (R392). -/
def lrsPerf (i : Nat) : Nat := 0x900028 + 0x10000 * i
/-- LRS_CH (R393). -/
def lrsCh (i j : Nat) : Nat := 0x901000 + 0x10000 * i + 0x8 * j
/-- PCI_STATUS (R423). -/
def pciStatus : Nat := 0xA00000
/-- PCI_LPM (R424). -/
def pciLpm : Nat := 0xA00008
/-- PCI_TAG (R424). -/
def pciTag : Nat := 0xA00010
/-- PCI_ERR (R425). -/
def pciErr : Nat := 0xA00018
/-- PCI_CNT (R426). -/
def pciCnt : Nat := 0xA00020
/-- PCI_CNT2 (R426). -/
def pciCnt2 : Nat := 0xA00028
/-- PCI_CTL (R426). -/
def pciCtl : Nat := 0xA00030
/-- PCI_FLR (R427). -/
def pciFlr (i : Nat) : Nat := 0xA00100 + 0x8 * i
/-- RING_BASE (R446). -/
def ringBase (i j : Nat) : Nat := 0x4001000 + 0x10000 * i + 0x20 * j
/-- RING_CFG (R446). -/
def ringCfg (i j : Nat) : Nat := 0x4001008 + 0x10000 * i + 0x20 * j
/-- RING_PTR (R447). -/
def ringPtr (i j : Nat) : Nat := 0x4001010 + 0x10000 * i + 0x20 * j
/-- RING_STATUS (R447). -/
def ringStatus (i j : Nat) : Nat := 0x4001018 + 0x10000 * i + 0x20 * j
/-- Q_POOL (R448). -/
def qPool : Nat := 0xB00000
/-- Q_POOL_USE (R448). -/
def qPoolUse : Nat := 0xB00008
/-- Q_VCTX (R448). -/
def qVctx : Nat := 0xB00010
/-- Q_ERR (R449). -/
def qErr : Nat := 0xB00018
/-- Q_CNT (R449). -/
def qCnt : Nat := 0xB00020
/-- Q_CTL (R449). -/
def qCtl : Nat := 0xB00028
/-- MAN_STATUS (R468). -/
def manStatus : Nat := 0x200000
/-- MAN_FAIL (R468). -/
def manFail : Nat := 0x200008
/-- MAN_SRC (R469). -/
def manSrc : Nat := 0x200010
/-- MAN_LEN (R469). -/
def manLen : Nat := 0x200018
/-- MAN_CTL (R469). -/
def manCtl : Nat := 0x200020
/-- MAN_SWITCH (R469). -/
def manSwitch : Nat := 0x200028
/-- MAN_CROSSING (R470). -/
def manCrossing : Nat := 0x200030
/-- MAN_SVN (R470). -/
def manSvn : Nat := 0x200038
/-- MAN_SERIAL (R470). -/
def manSerial : Nat := 0x200040
/-- MAN_DIGEST (R470). -/
def manDigest (i : Nat) : Nat := 0x200100 + 0x8 * i
/-- MAN_STG_DIGEST (R470). -/
def manStgDigest (i : Nat) : Nat := 0x200140 + 0x8 * i
/-- BRG_STATUS (R492). -/
def brgStatus : Nat := 0x1300000
/-- BRG_MISM (R493). -/
def brgMism : Nat := 0x1300008
/-- BRG_START (R494). -/
def brgStart : Nat := 0x1300010
/-- BRG_CTL (R494). -/
def brgCtl : Nat := 0x1300018
/-- BRG_RCV_SRC (R495). -/
def brgRcvSrc : Nat := 0x1300020
/-- BRG_RCV_LEN (R495). -/
def brgRcvLen : Nat := 0x1300028
/-- BRG_TIME (R495). -/
def brgTime (i : Nat) : Nat := 0x1300108 + 0x8 * i
/-- PWR_STATUS (R511). -/
def pwrStatus : Nat := 0xD00000
/-- PWR_BUDGET (R511). -/
def pwrBudget : Nat := 0xD00008
/-- PWR_ENERGY_SAIL (R512). -/
def pwrEnergySail : Nat := 0xD00010
/-- PWR_LEAN (R512). -/
def pwrLean : Nat := 0xD00018
/-- PWR_LEAN_END (R512). -/
def pwrLeanEnd : Nat := 0xD00020
/-- PWR_EVENT (R513). -/
def pwrEvent : Nat := 0xD00028
/-- PWR_KA (R513). -/
def pwrKa : Nat := 0xD00030
/-- PWR_SURVEY (R513). -/
def pwrSurvey : Nat := 0xD00038
/-- PWR_ERR (R514). -/
def pwrErr : Nat := 0xD00040
/-- PWR_CTL (R514). -/
def pwrCtl : Nat := 0xD00048
/-- PWR_RAIL (R515). -/
def pwrRail (i : Nat) : Nat := 0xD00100 + 0x8 * i
/-- PWR_PART (R515). -/
def pwrPart (i : Nat) : Nat := 0xD00200 + 0x8 * i
/-- ERR_STATUS (R541). -/
def errStatus : Nat := 0xE00000
/-- ERR_LOG_BASE (R541). -/
def errLogBase : Nat := 0xE00008
/-- ERR_LOG_PTR (R541). -/
def errLogPtr : Nat := 0xE00010
/-- ERR_CTL (R541). -/
def errCtl : Nat := 0xE00018
/-- ERR_CNT (R541). -/
def errCnt : Nat := 0xE00020
/-- ERR_OVF (R542). -/
def errOvf (i : Nat) : Nat := 0xE00100 + 0x8 * i
/-- ERR_LAST (R542). -/
def errLast (i j : Nat) : Nat := 0xE01000 + 0x40 * i + 0x8 * j
/-- TINV_STATUS (R543). -/
def tinvStatus (i : Nat) : Nat := 0x4001900 + 0x10000 * i
/-- TINV_CLR (R543). -/
def tinvClr (i : Nat) : Nat := 0x4001908 + 0x10000 * i
/-- GLB_FW_SRC (R544). -/
def glbFwSrc : Nat := 0x100
/-- GLB_FW_LEN (R544). -/
def glbFwLen : Nat := 0x108
/-- GLB_FW_BUF (R544). -/
def glbFwBuf : Nat := 0x110
/-- GLB_FW_CTL (R544). -/
def glbFwCtl : Nat := 0x118
/-- GLB_FW_AT (R544). -/
def glbFwAt : Nat := 0x120
/-- GLB_FW_STATUS (R544). -/
def glbFwStatus : Nat := 0x128
/-- TWIN_STATUS (R545). -/
def twinStatus : Nat := 0xF00000
/-- TWIN_PART (R545). -/
def twinPart (i : Nat) : Nat := 0xF00010 + 0x8 * i
/-- TWIN_FERRY (R545). -/
def twinFerry : Nat := 0xF00020
/-- TWIN_EVENT (R545). -/
def twinEvent : Nat := 0xF00028
/-- TWIN_CTL (R545). -/
def twinCtl : Nat := 0xF00030
/-- TWIN_REPLAY (R546). -/
def twinReplay : Nat := 0xF00038
/-- TWIN_ERR (R546). -/
def twinErr : Nat := 0xF00040
/-- TWIN_CNT (R546). -/
def twinCnt : Nat := 0xF00048
/-- SAL_STATUS (R572). -/
def salStatus : Nat := 0x1000000
/-- SAL_EVENT (R572). -/
def salEvent : Nat := 0x1000008
/-- SAL_KEY_CMD (R573). -/
def salKeyCmd : Nat := 0x1000010
/-- SAL_CFG (R573). -/
def salCfg : Nat := 0x1000018
/-- SAL_ERR (R573). -/
def salErr : Nat := 0x1000020
/-- SAL_KEY (R574). -/
def salKey (i : Nat) : Nat := 0x1001000 + 0x8 * i
/-- SAL_SCRUB (R574). -/
def salScrub (i : Nat) : Nat := 0x100A000 + 0x8 * i
/-- SAL_TDI (R574). -/
def salTdi (i : Nat) : Nat := 0x100B000 + 0x8 * i
/-- TMEAS_VA (R575). -/
def tmeasVa (i : Nat) : Nat := 0x4001A00 + 0x10000 * i
/-- TMEAS_LEN (R575). -/
def tmeasLen (i : Nat) : Nat := 0x4001A08 + 0x10000 * i
/-- TMEAS_CTL (R575). -/
def tmeasCtl (i : Nat) : Nat := 0x4001A10 + 0x10000 * i
/-- TMEAS_STATUS (R575). -/
def tmeasStatus (i : Nat) : Nat := 0x4001A18 + 0x10000 * i
/-- LCS_STATUS (R588). -/
def lcsStatus : Nat := 0x1100000
/-- LCS_CMD (R588). -/
def lcsCmd : Nat := 0x1100008
/-- LCS_CTL (R588). -/
def lcsCtl : Nat := 0x1100010
/-- LCS_DBG (R589). -/
def lcsDbg : Nat := 0x1100018
/-- LCS_CHAL (R589). -/
def lcsChal (i : Nat) : Nat := 0x1100020 + 0x8 * i
/-- LCS_FIELD (R589). -/
def lcsField (i : Nat) : Nat := 0x1100040 + 0x8 * i
/-- LCS_BUF (R589). -/
def lcsBuf (i : Nat) : Nat := 0x1101000 + 0x8 * i
/-- LRS_LOST (R393). -/
def lrsLost (i j : Nat) : Nat := 0x900030 + 0x10000 * i + 0x8 * j
/-- SLIP_DESC (R372). -/
def slipDesc (i j : Nat) : Nat := 0x800100 + 0x10000 * i + 0x8 * j
/-- DTU_INV (R230). -/
def dtuInv (i : Nat) : Nat := 0xC00000 + 0x8 * i
/-- MSIX_ADDR (R412). -/
def msixAddr (i : Nat) : Nat := 0xA10000 + 0x10 * i
/-- MSIX_CTL (R412). -/
def msixCtl (i : Nat) : Nat := 0xA10008 + 0x10 * i
/-- MSIX_PBA (R412). -/
def msixPba (i : Nat) : Nat := 0xA18000 + 0x8 * i
/-- VF_MSIX_ADDR (R219). -/
def vfMsixAddr (i j : Nat) : Nat := 0x4002000 + 0x10000 * i + 0x10 * j
/-- VF_MSIX_CTL (R219). -/
def vfMsixCtl (i j : Nat) : Nat := 0x4002008 + 0x10000 * i + 0x10 * j
/-- VF_MSIX_PBA (R219). -/
def vfMsixPba (i : Nat) : Nat := 0x4003000 + 0x10000 * i

end R

/-! ### Fields -/
namespace F

def glbId_PART : Fld := ⟨32, 32⟩
def glbId_LINE : Fld := ⟨24, 8⟩
def glbId_BASE_STEP : Fld := ⟨16, 8⟩
def glbId_DRAM_STEP : Fld := ⟨8, 8⟩
def glbId_ROM_VER : Fld := ⟨0, 8⟩
def sailNum_NUM : Fld := ⟨0, 64⟩
def sailPeriod_QUIET : Fld := ⟨32, 17⟩
def sailPeriod_PERIOD : Fld := ⟨0, 17⟩
def sailStatus_CYCLE : Fld := ⟨32, 8⟩
def sailStatus_TB_RUN : Fld := ⟨31, 1⟩
def sailStatus_LEAN : Fld := ⟨24, 1⟩
def sailStatus_VARIANT : Fld := ⟨16, 8⟩
def sailStatus_SLOT : Fld := ⟨8, 6⟩
def sailStatus_PHASE : Fld := ⟨0, 2⟩
def sailEvent_SKEW : Fld := ⟨5, 1⟩
def sailEvent_QUIET_DRAIN : Fld := ⟨4, 1⟩
def sailEvent_REPEAT : Fld := ⟨3, 1⟩
def sailEvent_VARIANT : Fld := ⟨2, 1⟩
def sailEvent_SPILL : Fld := ⟨1, 1⟩
def sailEvent_OVERRUN : Fld := ⟨0, 1⟩
def sailOvrCnt_DRAIN : Fld := ⟨32, 32⟩
def sailOvrCnt_LEG : Fld := ⟨0, 32⟩
def sailSpillCnt_MSIX : Fld := ⟨32, 32⟩
def sailSpillCnt_CMP : Fld := ⟨0, 32⟩
def sailLag_VARIANT : Fld := ⟨32, 8⟩
def sailLag_LAG : Fld := ⟨0, 16⟩
def teStatus_TILE : Fld := ⟨32, 8⟩
def teStatus_LEG : Fld := ⟨16, 4⟩
def teStatus_PHYS : Fld := ⟨8, 3⟩
def teStatus_STATE : Fld := ⟨0, 3⟩
def teFlags_WS_MISS : Fld := ⟨7, 1⟩
def teFlags_RSV_CODE : Fld := ⟨6, 1⟩
def teFlags_UNDERFLOW : Fld := ⟨5, 1⟩
def teFlags_ZERO_TENSOR : Fld := ⟨4, 1⟩
def teFlags_NAN : Fld := ⟨3, 1⟩
def teFlags_SAT : Fld := ⟨2, 1⟩
def teFlags_ACC_SAT : Fld := ⟨1, 1⟩
def teCvtCnt_SAT : Fld := ⟨32, 32⟩
def teCvtCnt_NAN : Fld := ⟨0, 32⟩
def teNumCnt_UNDERFLOW : Fld := ⟨32, 32⟩
def teNumCnt_RSV_CODE : Fld := ⟨0, 32⟩
def tePerfBusy_BUSY : Fld := ⟨0, 64⟩
def tePerfStall_WS : Fld := ⟨32, 32⟩
def tePerfStall_HOLD : Fld := ⟨0, 32⟩
def tePerfWs_MISS : Fld := ⟨32, 32⟩
def tePerfWs_BLOCKS : Fld := ⟨0, 32⟩
def teErr_SAIL_LO : Fld := ⟨32, 32⟩
def teErr_VALID : Fld := ⟨31, 1⟩
def teErr_CAUSE : Fld := ⟨16, 8⟩
def teErr_COUNT : Fld := ⟨0, 16⟩
def teSpare_REQ_DROP : Fld := ⟨40, 1⟩
def teSpare_CLR_FAILED : Fld := ⟨32, 5⟩
def teSpare_REQ_LANE : Fld := ⟨24, 3⟩
def teSpare_SERVES : Fld := ⟨16, 2⟩
def teSpare_FAILED : Fld := ⟨8, 5⟩
def teSpare_STATE : Fld := ⟨4, 2⟩
def teSpare_MIRROR : Fld := ⟨3, 1⟩
def teSpare_SPARE_PHYS : Fld := ⟨0, 3⟩
def teCtl_CLR : Fld := ⟨0, 1⟩
def teRng_SEED : Fld := ⟨0, 64⟩
def tileStatus_VTEMP : Fld := ⟨48, 8⟩
def tileStatus_THERM : Fld := ⟨40, 2⟩
def tileStatus_CWAYS : Fld := ⟨32, 5⟩
def tileStatus_RWAYS : Fld := ⟨24, 5⟩
def tileStatus_LLC_SPARE : Fld := ⟨16, 2⟩
def tileStatus_TC_UP : Fld := ⟨8, 1⟩
def tileStatus_VAULT_UP : Fld := ⟨0, 1⟩
def tileVmap_HOME_LOCAL : Fld := ⟨48, 1⟩
def tileVmap_LOCAL_32M : Fld := ⟨32, 4⟩
def tileVmap_POOL_WAYS : Fld := ⟨0, 4⟩
def tileVrepair_FENCED : Fld := ⟨48, 16⟩
def tileVrepair_BANK_SPARED : Fld := ⟨32, 16⟩
def tileVrepair_ROWS : Fld := ⟨0, 15⟩
def tileLlcSpare_LOST : Fld := ⟨32, 8⟩
def tileLlcSpare_SPARE_FOR : Fld := ⟨0, 5⟩
def tileSpfCtl_STRIDE : Fld := ⟨36, 4⟩
def tileSpfCtl_DEPTH : Fld := ⟨24, 3⟩
def tileSpfCtl_PCIE_EN : Fld := ⟨8, 1⟩
def tileSpfCtl_SLIP_EN : Fld := ⟨0, 8⟩
def tilePfCnt_DEFER : Fld := ⟨48, 16⟩
def tilePfCnt_LATE : Fld := ⟨32, 16⟩
def tilePfCnt_SKIP : Fld := ⟨16, 16⟩
def tileSpfCnt_ISSUED : Fld := ⟨32, 32⟩
def tileSpfCnt_DROPPED : Fld := ⟨0, 32⟩
def tilePerfLlc_HIT : Fld := ⟨32, 32⟩
def tilePerfLlc_MISS : Fld := ⟨0, 32⟩
def tileErr_SAIL_LO : Fld := ⟨32, 32⟩
def tileErr_VALID : Fld := ⟨31, 1⟩
def tileErr_CAUSE : Fld := ⟨16, 8⟩
def tileErr_COUNT : Fld := ⟨0, 16⟩
def tileCtl_CLR : Fld := ⟨0, 1⟩
def glbDecode_VALID : Fld := ⟨63, 1⟩
def glbDecode_SRC : Fld := ⟨60, 3⟩
def glbDecode_NODE : Fld := ⟨56, 4⟩
def glbDecode_ADDR : Fld := ⟨15, 41⟩
def glbDecode_COUNT : Fld := ⟨0, 15⟩
def dtuInvAck_SEQ : Fld := ⟨48, 16⟩
def dtuInvAck_REFUSED_SEQ : Fld := ⟨32, 16⟩
def dtuInvAck_BAD : Fld := ⟨2, 1⟩
def dtuInvAck_REFUSED : Fld := ⟨1, 1⟩
def dtuInvAck_OVF : Fld := ⟨0, 1⟩
def dtuAckAddr_ADDR : Fld := ⟨3, 61⟩
def dtuAckAddr_EN : Fld := ⟨0, 1⟩
def dtuCtxRoot_ROOT : Fld := ⟨12, 40⟩
def dtuCtxCfg_PIN_VA : Fld := ⟨33, 31⟩
def dtuCtxCfg_L1_LOG : Fld := ⟨8, 5⟩
def dtuCtxCfg_STATE : Fld := ⟨1, 2⟩
def dtuCtxCfg_EN : Fld := ⟨0, 1⟩
def dtuFqStatus_DROP : Fld := ⟨32, 32⟩
def dtuFqStatus_USED : Fld := ⟨0, 11⟩
def dtuAtsStatus_DUP_ITAG : Fld := ⟨32, 32⟩
def dtuAtsStatus_INV_OUT : Fld := ⟨16, 6⟩
def dtuAtsStatus_ATC_USED : Fld := ⟨0, 14⟩
def dtuPerf_WALK : Fld := ⟨32, 32⟩
def dtuPerf_MISS : Fld := ⟨0, 32⟩
def tfqStatus_DROP : Fld := ⟨32, 32⟩
def tfqStatus_COUNT : Fld := ⟨0, 5⟩
def tfqCtl_VEC_EN : Fld := ⟨4, 1⟩
def tfqCtl_VEC : Fld := ⟨0, 4⟩
def tfqPop_POP : Fld := ⟨0, 1⟩
def cohHash_MASK : Fld := ⟨0, 45⟩
def cohCfg_SNP_TO : Fld := ⟨8, 8⟩
def cohStatus_SLIP_FAILED : Fld := ⟨8, 8⟩
def cohStatus_SLIP_AGENT : Fld := ⟨0, 8⟩
def cohErr_SAIL_LO : Fld := ⟨32, 32⟩
def cohErr_VALID : Fld := ⟨31, 1⟩
def cohErr_SLICE : Fld := ⟨24, 6⟩
def cohErr_CAUSE : Fld := ⟨16, 8⟩
def cohErr_COUNT : Fld := ⟨0, 16⟩
def cohCtl_CLR : Fld := ⟨0, 1⟩
def cohSlice_TRK_MAX : Fld := ⟨32, 9⟩
def cohSlice_CREDITS : Fld := ⟨16, 7⟩
def cohSlice_CQ_MAX : Fld := ⟨0, 7⟩
def cohPerf_SNOOPS : Fld := ⟨32, 32⟩
def cohPerf_RETRY : Fld := ⟨0, 32⟩
def octCfg_IDLE_SAIL : Fld := ⟨40, 8⟩
def octCfg_AGE : Fld := ⟨16, 16⟩
def octStatus_PRST_DROP : Fld := ⟨48, 16⟩
def octStatus_LINKS_DOWN : Fld := ⟨32, 8⟩
def octStatus_ROUTE : Fld := ⟨0, 4⟩
def octPrst_PART : Fld := ⟨0, 64⟩
def octErr_SAIL_LO : Fld := ⟨32, 32⟩
def octErr_VALID : Fld := ⟨31, 1⟩
def octErr_ROUTER : Fld := ⟨24, 7⟩
def octErr_CAUSE : Fld := ⟨16, 8⟩
def octErr_COUNT : Fld := ⟨0, 16⟩
def octCtl_CLR : Fld := ⟨0, 1⟩
def octLink_PORTS : Fld := ⟨0, 16⟩
def octLinkCnt_REPLAY : Fld := ⟨32, 32⟩
def octLinkCnt_CE : Fld := ⟨0, 32⟩
def octToll_RATE : Fld := ⟨32, 32⟩
def octToll_BURST : Fld := ⟨0, 24⟩
def octTollCnt_QC3 : Fld := ⟨48, 16⟩
def octTollCnt_QC2 : Fld := ⟨32, 16⟩
def octTollCnt_QC1 : Fld := ⟨16, 16⟩
def octTollCnt_QC0 : Fld := ⟨0, 16⟩
def octPwr_WAKES : Fld := ⟨32, 32⟩
def octPwr_SLEEP_EN : Fld := ⟨8, 1⟩
def octPwr_STATE : Fld := ⟨0, 2⟩
def fordStatus_NOT_READY : Fld := ⟨32, 18⟩
def fordStatus_OVR : Fld := ⟨0, 18⟩
def fordCtl_CLR : Fld := ⟨0, 1⟩
def fordErr_SAIL_LO : Fld := ⟨32, 32⟩
def fordErr_VALID : Fld := ⟨31, 1⟩
def fordErr_SRC_DOM : Fld := ⟨26, 5⟩
def fordErr_DST_DOM : Fld := ⟨21, 5⟩
def fordErr_CAUSE : Fld := ⟨16, 5⟩
def fordErr_COUNT : Fld := ⟨0, 16⟩
def fordDom_STATE : Fld := ⟨32, 2⟩
def fordDom_LOCK : Fld := ⟨16, 1⟩
def fordDom_MHZ : Fld := ⟨0, 16⟩
def fordLost_FLUSH : Fld := ⟨32, 32⟩
def fordLost_OVR : Fld := ⟨0, 32⟩
def qosCfg_FB_LRS : Fld := ⟨16, 8⟩
def qosCfg_THRESH : Fld := ⟨8, 3⟩
def qosCfg_DERATE : Fld := ⟨0, 7⟩
def qosFb_FB_VAULT : Fld := ⟨0, 64⟩
def qosStatus_S3 : Fld := ⟨12, 4⟩
def qosStatus_S2 : Fld := ⟨8, 4⟩
def qosStatus_H : Fld := ⟨0, 3⟩
def qosEvent_Q0_SHORT : Fld := ⟨4, 1⟩
def qosEvent_RESTORE : Fld := ⟨3, 1⟩
def qosEvent_YIELD : Fld := ⟨2, 1⟩
def qosEvent_CAP_LOSS : Fld := ⟨1, 1⟩
def qosEvent_TARGET_MISS : Fld := ⟨0, 1⟩
def qosSnapSail_SAIL : Fld := ⟨0, 64⟩
def qosTgt_TARGET : Fld := ⟨0, 14⟩
def qosLat_COUNT : Fld := ⟨40, 24⟩
def qosLat_SUM : Fld := ⟨0, 40⟩
def qosStep_STEP : Fld := ⟨0, 12⟩
def qosBytes_BYTES : Fld := ⟨0, 64⟩
def qosSnap_BYTES : Fld := ⟨0, 64⟩
def qosGrant_RANK : Fld := ⟨32, 8⟩
def qosGrant_ADMITTED : Fld := ⟨0, 32⟩
def qosGrantEff_RATE : Fld := ⟨0, 32⟩
def qosCap_DERATED : Fld := ⟨32, 32⟩
def qosCap_Q0 : Fld := ⟨0, 32⟩
def slipStatus_MISMATCH : Fld := ⟨40, 8⟩
def slipStatus_RATE : Fld := ⟨32, 3⟩
def slipStatus_ROLE : Fld := ⟨24, 2⟩
def slipStatus_MODS : Fld := ⟨16, 4⟩
def slipStatus_STATE : Fld := ⟨0, 3⟩
def slipCfg_MEM_TO : Fld := ⟨40, 8⟩
def slipCfg_CREDIT_TO : Fld := ⟨32, 8⟩
def slipCfg_MIN_RATE : Fld := ⟨8, 3⟩
def slipCfg_MAX_RATE : Fld := ⟨4, 3⟩
def slipCfg_MIN_MOD : Fld := ⟨2, 1⟩
def slipCtl_CLR : Fld := ⟨1, 1⟩
def slipCtl_RETRAIN : Fld := ⟨0, 1⟩
def slipErr_SAIL_LO : Fld := ⟨32, 32⟩
def slipErr_VALID : Fld := ⟨31, 1⟩
def slipErr_CAUSE : Fld := ⟨16, 8⟩
def slipErr_COUNT : Fld := ⟨0, 16⟩
def slipCnt_REPLAY : Fld := ⟨32, 32⟩
def slipCnt_RETRAIN : Fld := ⟨16, 16⟩
def slipCnt_PROTOCOL : Fld := ⟨0, 16⟩
def slipWinIn_CBASE : Fld := ⟨20, 44⟩
def slipWinIn_SIZE_LOG : Fld := ⟨8, 6⟩
def slipWinIn_EN : Fld := ⟨0, 1⟩
def slipWinInTgt_READ : Fld := ⟨63, 1⟩
def slipWinInTgt_WRITE : Fld := ⟨62, 1⟩
def slipWinInTgt_CACHE : Fld := ⟨61, 1⟩
def slipWinInTgt_REG : Fld := ⟨60, 1⟩
def slipWinInTgt_QC : Fld := ⟨58, 2⟩
def slipWinInTgt_TPA : Fld := ⟨20, 32⟩
def slipWinInTgt_TENANT : Fld := ⟨0, 13⟩
def slipWinOut_HBASE : Fld := ⟨20, 28⟩
def slipWinOut_SIZE_LOG : Fld := ⟨8, 6⟩
def slipWinOut_EN : Fld := ⟨0, 1⟩
def slipWinOutTgt_CADDR : Fld := ⟨20, 44⟩
def lrsStatus_TEMP : Fld := ⟨56, 8⟩
def lrsStatus_REGIME : Fld := ⟨48, 2⟩
def lrsStatus_MISMATCH : Fld := ⟨40, 8⟩
def lrsStatus_INDEX : Fld := ⟨32, 3⟩
def lrsStatus_CAP : Fld := ⟨24, 2⟩
def lrsStatus_LOST_CH : Fld := ⟨16, 8⟩
def lrsStatus_SPARES : Fld := ⟨8, 3⟩
def lrsStatus_STATE : Fld := ⟨0, 3⟩
def lrsCfg_TRIP : Fld := ⟨32, 8⟩
def lrsCfg_MAX_LOST : Fld := ⟨16, 8⟩
def lrsCfg_CE_THRESH : Fld := ⟨0, 16⟩
def lrsCtl_RET_CH : Fld := ⟨24, 8⟩
def lrsCtl_SPARE_CH : Fld := ⟨8, 8⟩
def lrsCtl_CLR : Fld := ⟨1, 1⟩
def lrsCtl_RESET : Fld := ⟨0, 1⟩
def lrsErr_SAIL_LO : Fld := ⟨32, 32⟩
def lrsErr_VALID : Fld := ⟨31, 1⟩
def lrsErr_CAUSE : Fld := ⟨16, 8⟩
def lrsErr_COUNT : Fld := ⟨0, 16⟩
def lrsCnt_CE : Fld := ⟨32, 32⟩
def lrsCnt_UE : Fld := ⟨16, 16⟩
def lrsCnt_COPIES : Fld := ⟨0, 16⟩
def lrsPerf_RD : Fld := ⟨32, 32⟩
def lrsPerf_WR : Fld := ⟨0, 32⟩
def lrsCh_CE : Fld := ⟨32, 32⟩
def lrsCh_SERVES : Fld := ⟨16, 8⟩
def lrsCh_STATE : Fld := ⟨0, 3⟩
def pciStatus_NO_ARI : Fld := ⟨24, 1⟩
def pciStatus_VF_READY : Fld := ⟨16, 1⟩
def pciStatus_FLIT : Fld := ⟨14, 1⟩
def pciStatus_LPM : Fld := ⟨12, 2⟩
def pciStatus_WIDTH : Fld := ⟨4, 5⟩
def pciStatus_RATE : Fld := ⟨0, 4⟩
def pciLpm_LTR_US : Fld := ⟨32, 10⟩
def pciLpm_L1_IDLE : Fld := ⟨16, 16⟩
def pciLpm_L0P_IDLE : Fld := ⟨0, 16⟩
def pciTag_VALUES : Fld := ⟨32, 15⟩
def pciTag_QUAR : Fld := ⟨16, 14⟩
def pciTag_OUT : Fld := ⟨0, 13⟩
def pciErr_SAIL_LO : Fld := ⟨32, 32⟩
def pciErr_VALID : Fld := ⟨31, 1⟩
def pciErr_FUNC : Fld := ⟨16, 13⟩
def pciErr_CAUSE : Fld := ⟨8, 8⟩
def pciErr_COUNT : Fld := ⟨0, 8⟩
def pciCnt_LATE : Fld := ⟨48, 16⟩
def pciCnt_FAILED : Fld := ⟨32, 16⟩
def pciCnt_PRST : Fld := ⟨16, 16⟩
def pciCnt_EARLY : Fld := ⟨0, 16⟩
def pciCnt2_DROPPED : Fld := ⟨0, 32⟩
def pciCtl_CLR : Fld := ⟨0, 1⟩
def pciFlr_TEARDOWN : Fld := ⟨0, 64⟩
def ringBase_BASE : Fld := ⟨6, 50⟩
def ringCfg_BQUOTA : Fld := ⟨48, 16⟩
def ringCfg_DQUOTA : Fld := ⟨32, 16⟩
def ringCfg_LEAD : Fld := ⟨28, 4⟩
def ringCfg_VEC_EN : Fld := ⟨25, 1⟩
def ringCfg_VEC : Fld := ⟨21, 4⟩
def ringCfg_CMPR : Fld := ⟨15, 6⟩
def ringCfg_QC : Fld := ⟨14, 1⟩
def ringCfg_TYPE : Fld := ⟨13, 1⟩
def ringCfg_SIZE_LOG : Fld := ⟨8, 5⟩
def ringCfg_EN : Fld := ⟨0, 1⟩
def ringPtr_HEAD : Fld := ⟨32, 32⟩
def ringPtr_TAIL : Fld := ⟨0, 32⟩
def ringStatus_LOST : Fld := ⟨48, 16⟩
def ringStatus_OUT : Fld := ⟨32, 16⟩
def ringStatus_CAUSE : Fld := ⟨8, 8⟩
def ringStatus_STATE : Fld := ⟨0, 3⟩
def qPool_BUFS : Fld := ⟨32, 17⟩
def qPool_BUF_LOG : Fld := ⟨16, 4⟩
def qPoolUse_RESERVED : Fld := ⟨32, 17⟩
def qPoolUse_FREE : Fld := ⟨0, 17⟩
def qVctx_USED : Fld := ⟨0, 15⟩
def qErr_SAIL_LO : Fld := ⟨32, 32⟩
def qErr_VALID : Fld := ⟨31, 1⟩
def qErr_RING : Fld := ⟨13, 18⟩
def qErr_CAUSE : Fld := ⟨8, 5⟩
def qErr_COUNT : Fld := ⟨0, 8⟩
def qCnt_DB_IGNORED : Fld := ⟨32, 32⟩
def qCnt_LOST : Fld := ⟨16, 16⟩
def qCnt_STG_LATE : Fld := ⟨0, 16⟩
def qCtl_CLR : Fld := ⟨0, 1⟩
def manStatus_RESULT : Fld := ⟨32, 8⟩
def manStatus_STATE : Fld := ⟨8, 3⟩
def manStatus_IN_FORCE : Fld := ⟨0, 1⟩
def manFail_TYPE : Fld := ⟨32, 32⟩
def manFail_OFFSET : Fld := ⟨0, 26⟩
def manSrc_ADDR : Fld := ⟨6, 58⟩
def manLen_LEN : Fld := ⟨0, 27⟩
def manCtl_SWITCH : Fld := ⟨2, 1⟩
def manCtl_ABANDON : Fld := ⟨1, 1⟩
def manCtl_STAGE : Fld := ⟨0, 1⟩
def manSwitch_AT : Fld := ⟨0, 64⟩
def manCrossing_SAIL : Fld := ⟨0, 64⟩
def manSvn_SVN : Fld := ⟨0, 64⟩
def manSerial_SERIAL : Fld := ⟨0, 64⟩
def manDigest_BYTES : Fld := ⟨0, 64⟩
def manStgDigest_BYTES : Fld := ⟨0, 64⟩
def brgStatus_FW_CODE : Fld := ⟨40, 8⟩
def brgStatus_WAIT : Fld := ⟨32, 4⟩
def brgStatus_START : Fld := ⟨24, 2⟩
def brgStatus_STEP : Fld := ⟨8, 8⟩
def brgStatus_STATE : Fld := ⟨0, 3⟩
def brgMism_OVERSUB : Fld := ⟨31, 1⟩
def brgMism_FLASH : Fld := ⟨30, 1⟩
def brgMism_LLC_WAYS : Fld := ⟨26, 1⟩
def brgMism_VAULT_FENCED : Fld := ⟨25, 1⟩
def brgMism_VAULT_ROWS : Fld := ⟨24, 1⟩
def brgMism_TE_LOST : Fld := ⟨23, 1⟩
def brgMism_TE_SPARED : Fld := ⟨22, 1⟩
def brgMism_TWIN : Fld := ⟨20, 2⟩
def brgMism_STACK : Fld := ⟨8, 8⟩
def brgMism_SLIP : Fld := ⟨0, 8⟩
def brgStart_WARM_CNT : Fld := ⟨24, 8⟩
def brgStart_SAMPLE : Fld := ⟨16, 3⟩
def brgStart_REASON : Fld := ⟨8, 4⟩
def brgStart_FULL_PEND : Fld := ⟨0, 1⟩
def brgCtl_FULL_NEXT : Fld := ⟨2, 1⟩
def brgCtl_RCV_LOAD : Fld := ⟨1, 1⟩
def brgCtl_RETRY : Fld := ⟨0, 1⟩
def brgRcvSrc_ADDR : Fld := ⟨6, 58⟩
def brgRcvLen_LEN : Fld := ⟨0, 26⟩
def brgTime_MS : Fld := ⟨0, 32⟩
def pwrStatus_LOGIC_T : Fld := ⟨56, 8⟩
def pwrStatus_THERM : Fld := ⟨48, 2⟩
def pwrStatus_KA_SRC : Fld := ⟨40, 1⟩
def pwrStatus_FORCED : Fld := ⟨36, 1⟩
def pwrStatus_GUARD : Fld := ⟨24, 6⟩
def pwrStatus_VENG_MV : Fld := ⟨0, 16⟩
def pwrBudget_BUDGET_W : Fld := ⟨32, 16⟩
def pwrBudget_BUDGET_UJ : Fld := ⟨0, 32⟩
def pwrEnergySail_SAIL_LO : Fld := ⟨32, 32⟩
def pwrEnergySail_UJ : Fld := ⟨0, 32⟩
def pwrLean_PART : Fld := ⟨0, 64⟩
def pwrLeanEnd_PART : Fld := ⟨0, 64⟩
def pwrEvent_SURVEY_DEFER : Fld := ⟨9, 1⟩
def pwrEvent_GUARD_CHG : Fld := ⟨8, 1⟩
def pwrEvent_VDROOP : Fld := ⟨7, 1⟩
def pwrEvent_THERM : Fld := ⟨6, 1⟩
def pwrEvent_KA_SWITCH : Fld := ⟨5, 1⟩
def pwrEvent_BUDGET_OVER : Fld := ⟨4, 1⟩
def pwrEvent_NO_LEAN : Fld := ⟨3, 1⟩
def pwrEvent_LEAN_OFF : Fld := ⟨2, 1⟩
def pwrEvent_LEAN_ON : Fld := ⟨1, 1⟩
def pwrEvent_OVER : Fld := ⟨0, 1⟩
def pwrKa_SWITCHES : Fld := ⟨48, 16⟩
def pwrKa_KA_B_MV : Fld := ⟨16, 16⟩
def pwrKa_KA_A_MV : Fld := ⟨0, 16⟩
def pwrSurvey_DONE : Fld := ⟨32, 32⟩
def pwrSurvey_DEFER : Fld := ⟨16, 16⟩
def pwrSurvey_LINK_POS : Fld := ⟨0, 8⟩
def pwrErr_SAIL_LO : Fld := ⟨32, 32⟩
def pwrErr_VALID : Fld := ⟨31, 1⟩
def pwrErr_CAUSE : Fld := ⟨16, 8⟩
def pwrErr_COUNT : Fld := ⟨0, 16⟩
def pwrCtl_CLR : Fld := ⟨0, 1⟩
def pwrRail_UJ : Fld := ⟨0, 64⟩
def pwrPart_DECL : Fld := ⟨32, 32⟩
def pwrPart_MEAS : Fld := ⟨0, 32⟩
def errStatus_PREEMPT : Fld := ⟨48, 16⟩
def errStatus_Q2 : Fld := ⟨24, 7⟩
def errStatus_Q1 : Fld := ⟨16, 7⟩
def errStatus_Q0 : Fld := ⟨8, 7⟩
def errStatus_QFULL : Fld := ⟨7, 1⟩
def errStatus_BASE_BAD : Fld := ⟨4, 1⟩
def errStatus_BUSY : Fld := ⟨3, 1⟩
def errStatus_HCLASS : Fld := ⟨0, 3⟩
def errLogBase_BASE : Fld := ⟨18, 34⟩
def errLogBase_EN : Fld := ⟨0, 1⟩
def errLogPtr_HEAD : Fld := ⟨32, 32⟩
def errLogPtr_TAIL : Fld := ⟨0, 32⟩
def errCtl_VEC : Fld := ⟨5, 11⟩
def errCtl_VEC_EN : Fld := ⟨0, 1⟩
def errCnt_LOST : Fld := ⟨32, 32⟩
def errCnt_RECORDS : Fld := ⟨0, 32⟩
def errOvf_OVF : Fld := ⟨0, 32⟩
def errLast_WORD : Fld := ⟨0, 64⟩
def tinvStatus_ALL : Fld := ⟨8, 1⟩
def tinvStatus_COUNT : Fld := ⟨0, 4⟩
def tinvClr_CLR : Fld := ⟨0, 1⟩
def glbFwSrc_ADDR : Fld := ⟨6, 58⟩
def glbFwLen_LEN : Fld := ⟨0, 26⟩
def glbFwBuf_BASE : Fld := ⟨25, 27⟩
def glbFwCtl_ACTIVATE : Fld := ⟨1, 1⟩
def glbFwCtl_LOAD : Fld := ⟨0, 1⟩
def glbFwAt_AT : Fld := ⟨0, 64⟩
def glbFwStatus_WDOG : Fld := ⟨48, 16⟩
def glbFwStatus_CODE : Fld := ⟨8, 8⟩
def glbFwStatus_STATE : Fld := ⟨0, 3⟩
def twinStatus_TRIM : Fld := ⟨40, 8⟩
def twinStatus_CODE : Fld := ⟨32, 8⟩
def twinStatus_BACKLOG : Fld := ⟨24, 5⟩
def twinStatus_ROLE : Fld := ⟨16, 3⟩
def twinStatus_HB_PEER : Fld := ⟨8, 1⟩
def twinStatus_LINK : Fld := ⟨0, 2⟩
def twinPart_STATE : Fld := ⟨0, 64⟩
def twinFerry_LAST : Fld := ⟨0, 64⟩
def twinEvent_HOLD : Fld := ⟨6, 1⟩
def twinEvent_REPLAY_FULL : Fld := ⟨5, 1⟩
def twinEvent_BACKLOG : Fld := ⟨4, 1⟩
def twinEvent_HB_LOST : Fld := ⟨3, 1⟩
def twinEvent_MISMATCH : Fld := ⟨2, 1⟩
def twinEvent_STEPDOWN : Fld := ⟨1, 1⟩
def twinEvent_TAKEOVER : Fld := ⟨0, 1⟩
def twinCtl_VEC : Fld := ⟨21, 11⟩
def twinCtl_VEC_EN : Fld := ⟨20, 1⟩
def twinCtl_PART : Fld := ⟨8, 6⟩
def twinCtl_RESYNC : Fld := ⟨2, 1⟩
def twinCtl_TAKEOVER : Fld := ⟨1, 1⟩
def twinCtl_CLR : Fld := ⟨0, 1⟩
def twinReplay_BASE : Fld := ⟨25, 27⟩
def twinReplay_SIZE_32M : Fld := ⟨8, 8⟩
def twinErr_SAIL_LO : Fld := ⟨32, 32⟩
def twinErr_VALID : Fld := ⟨31, 1⟩
def twinErr_CAUSE : Fld := ⟨16, 8⟩
def twinErr_COUNT : Fld := ⟨0, 16⟩
def twinCnt_HOLD : Fld := ⟨32, 32⟩
def twinCnt_REPLAY : Fld := ⟨16, 16⟩
def twinCnt_IGNORED : Fld := ⟨0, 16⟩
def salStatus_LOCKED : Fld := ⟨40, 8⟩
def salStatus_SCRUBS : Fld := ⟨16, 13⟩
def salStatus_DRBG_OK : Fld := ⟨3, 1⟩
def salStatus_TRACE : Fld := ⟨2, 1⟩
def salStatus_DEBUG : Fld := ⟨1, 1⟩
def salStatus_CONF : Fld := ⟨0, 1⟩
def salEvent_DRBG_FAIL : Fld := ⟨7, 1⟩
def salEvent_IDE_FAIL : Fld := ⟨6, 1⟩
def salEvent_FW_BLOCKED : Fld := ⟨5, 1⟩
def salEvent_KEY_REFUSED : Fld := ⟨4, 1⟩
def salEvent_WIN_REFUSED : Fld := ⟨3, 1⟩
def salEvent_LOCK_REFUSED : Fld := ⟨2, 1⟩
def salEvent_CONF_OFF : Fld := ⟨1, 1⟩
def salEvent_CONF_ON : Fld := ⟨0, 1⟩
def salKeyCmd_OP : Fld := ⟨16, 2⟩
def salKeyCmd_OWNER : Fld := ⟨0, 13⟩
def salCfg_SCRUB_RATE : Fld := ⟨32, 32⟩
def salCfg_ROT_RATE : Fld := ⟨0, 32⟩
def salErr_SAIL_LO : Fld := ⟨32, 32⟩
def salErr_VALID : Fld := ⟨31, 1⟩
def salErr_CAUSE : Fld := ⟨16, 8⟩
def salErr_COUNT : Fld := ⟨0, 16⟩
def salKey_SWEPT : Fld := ⟨32, 32⟩
def salKey_CLEAN : Fld := ⟨9, 1⟩
def salKey_SWEEP : Fld := ⟨8, 1⟩
def salKey_RETIRE_PEND : Fld := ⟨7, 1⟩
def salKey_SLOT1 : Fld := ⟨5, 1⟩
def salKey_SLOT0 : Fld := ⟨4, 1⟩
def salKey_CUR : Fld := ⟨0, 1⟩
def salScrub_PEND : Fld := ⟨0, 64⟩
def salTdi_STATE : Fld := ⟨0, 64⟩
def tmeasVa_VA : Fld := ⟨6, 50⟩
def tmeasLen_LEN : Fld := ⟨0, 40⟩
def tmeasCtl_GO : Fld := ⟨4, 1⟩
def tmeasCtl_SLOT : Fld := ⟨0, 4⟩
def tmeasStatus_CAUSE : Fld := ⟨8, 8⟩
def tmeasStatus_STATE : Fld := ⟨0, 2⟩
def lcsStatus_RESULT : Fld := ⟨16, 8⟩
def lcsStatus_CMD : Fld := ⟨8, 2⟩
def lcsStatus_NEXT : Fld := ⟨4, 3⟩
def lcsStatus_STATE : Fld := ⟨0, 3⟩
def lcsCmd_ARG : Fld := ⟨8, 8⟩
def lcsCmd_OP : Fld := ⟨0, 8⟩
def lcsCtl_HOLD_NEXT : Fld := ⟨0, 1⟩
def lcsDbg_REMAIN_S : Fld := ⟨32, 32⟩
def lcsDbg_SCOPE : Fld := ⟨8, 4⟩
def lcsDbg_OPEN : Fld := ⟨0, 1⟩
def lcsChal_NONCE : Fld := ⟨0, 64⟩
def lcsField_RAW : Fld := ⟨0, 64⟩
def lcsBuf_DATA : Fld := ⟨0, 64⟩
def lrsLost_CH : Fld := ⟨0, 64⟩
def slipDesc_WORD : Fld := ⟨0, 64⟩
def dtuInv_CMD : Fld := ⟨0, 64⟩
def msixAddr_ADDR : Fld := ⟨0, 64⟩
def msixCtl_DATA : Fld := ⟨0, 32⟩
def msixCtl_MASK : Fld := ⟨32, 1⟩
def msixPba_PEND : Fld := ⟨0, 64⟩
def vfMsixAddr_ADDR : Fld := ⟨0, 64⟩
def vfMsixCtl_DATA : Fld := ⟨0, 32⟩
def vfMsixCtl_MASK : Fld := ⟨32, 1⟩
def vfMsixPba_PEND : Fld := ⟨0, 64⟩

end F

/-! ### Tables, one list per block -/

/-- The registers of block GLB. -/
def glbRegs : List RegDesc :=
  [{ name := .glbId, base := 0x0, dims := [], reset := 0x70304A101001,
       fields := [⟨32, 32, .ro, .s⟩, ⟨24, 8, .ro, .s⟩, ⟨16, 8, .ro, .s⟩, ⟨8, 8, .ro, .s⟩, ⟨0, 8, .ro, .s⟩] },
   { name := .glbDecode, base := 0x40, dims := [], reset := 0x0,
       fields := [⟨63, 1, .w1c, .l⟩, ⟨60, 3, .ro, .l⟩, ⟨56, 4, .ro, .l⟩, ⟨15, 41, .ro, .l⟩, ⟨0, 15, .ro, .l⟩] },
   { name := .glbFwSrc, base := 0x100, dims := [], reset := 0x0,
       fields := [⟨6, 58, .rw, .l⟩] },
   { name := .glbFwLen, base := 0x108, dims := [], reset := 0x0,
       fields := [⟨0, 26, .rw, .l⟩] },
   { name := .glbFwBuf, base := 0x110, dims := [], reset := 0x0,
       fields := [⟨25, 27, .rw, .l⟩] },
   { name := .glbFwCtl, base := 0x118, dims := [], reset := 0x0,
       fields := [⟨1, 1, .wo, .l⟩, ⟨0, 1, .wo, .l⟩] },
   { name := .glbFwAt, base := 0x120, dims := [], reset := 0x0,
       fields := [⟨0, 64, .rw, .l⟩] },
   { name := .glbFwStatus, base := 0x128, dims := [], reset := 0x0,
       fields := [⟨48, 16, .ro, .l⟩, ⟨8, 8, .ro, .l⟩, ⟨0, 3, .ro, .l⟩] }]

/-- The registers of block SAIL. -/
def sailRegs : List RegDesc :=
  [{ name := .sailNum, base := 0x100000, dims := [], reset := 0x0,
       fields := [⟨0, 64, .ro, .l⟩] },
   { name := .sailPeriod, base := 0x100008, dims := [], reset := 0x64000009C4,
       fields := [⟨32, 17, .ro, .b⟩, ⟨0, 17, .ro, .b⟩] },
   { name := .sailStatus, base := 0x100010, dims := [], reset := 0x100000000,
       fields := [⟨32, 8, .ro, .b⟩, ⟨31, 1, .ro, .l⟩, ⟨24, 1, .ro, .b⟩, ⟨16, 8, .ro, .b⟩, ⟨8, 6, .ro, .l⟩, ⟨0, 2, .ro, .l⟩] },
   { name := .sailEvent, base := 0x100018, dims := [], reset := 0x0,
       fields := [⟨5, 1, .w1c, .l⟩, ⟨4, 1, .w1c, .l⟩, ⟨3, 1, .w1c, .l⟩, ⟨2, 1, .w1c, .l⟩, ⟨1, 1, .w1c, .l⟩, ⟨0, 1, .w1c, .l⟩] },
   { name := .sailOvrCnt, base := 0x100020, dims := [], reset := 0x0,
       fields := [⟨32, 32, .ro, .l⟩, ⟨0, 32, .ro, .l⟩] },
   { name := .sailSpillCnt, base := 0x100028, dims := [], reset := 0x0,
       fields := [⟨32, 32, .ro, .l⟩, ⟨0, 32, .ro, .l⟩] },
   { name := .sailLag, base := 0x100100, dims := [(0x8, 64)], reset := 0x0,
       fields := [⟨32, 8, .ro, .b⟩, ⟨0, 16, .ro, .b⟩] }]

/-- The registers of block MAN. -/
def manRegs : List RegDesc :=
  [{ name := .manStatus, base := 0x200000, dims := [], reset := 0x0,
       fields := [⟨32, 8, .ro, .l⟩, ⟨8, 3, .ro, .l⟩, ⟨0, 1, .ro, .l⟩] },
   { name := .manFail, base := 0x200008, dims := [], reset := 0x0,
       fields := [⟨32, 32, .ro, .l⟩, ⟨0, 26, .ro, .l⟩] },
   { name := .manSrc, base := 0x200010, dims := [], reset := 0x0,
       fields := [⟨6, 58, .rw, .l⟩] },
   { name := .manLen, base := 0x200018, dims := [], reset := 0x0,
       fields := [⟨0, 27, .rw, .l⟩] },
   { name := .manCtl, base := 0x200020, dims := [], reset := 0x0,
       fields := [⟨2, 1, .wo, .l⟩, ⟨1, 1, .wo, .l⟩, ⟨0, 1, .wo, .l⟩] },
   { name := .manSwitch, base := 0x200028, dims := [], reset := 0x0,
       fields := [⟨0, 64, .rw, .l⟩] },
   { name := .manCrossing, base := 0x200030, dims := [], reset := 0x0,
       fields := [⟨0, 64, .ro, .l⟩] },
   { name := .manSvn, base := 0x200038, dims := [], reset := 0x0,
       fields := [⟨0, 64, .ro, .l⟩] },
   { name := .manSerial, base := 0x200040, dims := [], reset := 0x0,
       fields := [⟨0, 64, .ro, .l⟩] },
   { name := .manDigest, base := 0x200100, dims := [(0x8, 6)], reset := 0x0,
       fields := [⟨0, 64, .ro, .l⟩] },
   { name := .manStgDigest, base := 0x200140, dims := [(0x8, 6)], reset := 0x0,
       fields := [⟨0, 64, .ro, .l⟩] }]

/-- The registers of block TE. -/
def teRegs : List RegDesc :=
  [{ name := .teStatus, base := 0x300000, dims := [(0x1000, 256)], reset := 0x0,
       fields := [⟨32, 8, .ro, .s⟩, ⟨16, 4, .ro, .l⟩, ⟨8, 3, .ro, .b⟩, ⟨0, 3, .ro, .l⟩] },
   { name := .teFlags, base := 0x300008, dims := [(0x1000, 256)], reset := 0x0,
       fields := [⟨7, 1, .w1c, .l⟩, ⟨6, 1, .w1c, .l⟩, ⟨5, 1, .w1c, .l⟩, ⟨4, 1, .w1c, .l⟩, ⟨3, 1, .w1c, .l⟩, ⟨2, 1, .w1c, .l⟩, ⟨1, 1, .w1c, .l⟩] },
   { name := .teCvtCnt, base := 0x300010, dims := [(0x1000, 256)], reset := 0x0,
       fields := [⟨32, 32, .ro, .l⟩, ⟨0, 32, .ro, .l⟩] },
   { name := .teNumCnt, base := 0x300018, dims := [(0x1000, 256)], reset := 0x0,
       fields := [⟨32, 32, .ro, .l⟩, ⟨0, 32, .ro, .l⟩] },
   { name := .tePerfBusy, base := 0x300020, dims := [(0x1000, 256)], reset := 0x0,
       fields := [⟨0, 64, .ro, .l⟩] },
   { name := .tePerfStall, base := 0x300028, dims := [(0x1000, 256)], reset := 0x0,
       fields := [⟨32, 32, .ro, .l⟩, ⟨0, 32, .ro, .l⟩] },
   { name := .tePerfWs, base := 0x300030, dims := [(0x1000, 256)], reset := 0x0,
       fields := [⟨32, 32, .ro, .l⟩, ⟨0, 32, .ro, .l⟩] },
   { name := .teErr, base := 0x300038, dims := [(0x1000, 256)], reset := 0x0,
       fields := [⟨32, 32, .ro, .l⟩, ⟨31, 1, .w1c, .l⟩, ⟨16, 8, .ro, .l⟩, ⟨0, 16, .ro, .l⟩] },
   { name := .teSpare, base := 0x300040, dims := [(0x4000, 64)], reset := 0x700000C,
       fields := [⟨40, 1, .w1c, .l⟩, ⟨32, 5, .wo, .b⟩, ⟨24, 3, .rw, .b⟩, ⟨16, 2, .ro, .b⟩, ⟨8, 5, .ro, .b⟩, ⟨4, 2, .ro, .b⟩, ⟨3, 1, .ro, .b⟩, ⟨0, 3, .ro, .b⟩] },
   { name := .teCtl, base := 0x300048, dims := [(0x1000, 256)], reset := 0x0,
       fields := [⟨0, 1, .wo, .l⟩] },
   { name := .teRng, base := 0x300050, dims := [(0x1000, 256)], reset := 0x0,
       fields := [⟨0, 64, .ro, .b⟩] }]

/-- The registers of block TILE. -/
def tileRegs : List RegDesc :=
  [{ name := .tileStatus, base := 0x400000, dims := [(0x1000, 64)], reset := 0x1800000000,
       fields := [⟨48, 8, .ro, .l⟩, ⟨40, 2, .ro, .b⟩, ⟨32, 5, .ro, .b⟩, ⟨24, 5, .ro, .b⟩, ⟨16, 2, .ro, .b⟩, ⟨8, 1, .ro, .l⟩, ⟨0, 1, .ro, .l⟩] },
   { name := .tileVmap, base := 0x400008, dims := [(0x1000, 64)], reset := 0xF00000000,
       fields := [⟨48, 1, .ro, .b⟩, ⟨32, 4, .ro, .b⟩, ⟨0, 4, .ro, .b⟩] },
   { name := .tileVrepair, base := 0x400010, dims := [(0x1000, 64)], reset := 0x0,
       fields := [⟨48, 16, .ro, .l⟩, ⟨32, 16, .ro, .b⟩, ⟨0, 15, .ro, .b⟩] },
   { name := .tileLlcSpare, base := 0x400018, dims := [(0x1000, 64)], reset := 0x0,
       fields := [⟨32, 8, .ro, .b⟩, ⟨0, 5, .ro, .b⟩] },
   { name := .tileSpfCtl, base := 0x400020, dims := [(0x1000, 64)], reset := 0x0,
       fields := [⟨36, 4, .rw, .b⟩, ⟨24, 3, .rw, .b⟩, ⟨8, 1, .rw, .b⟩, ⟨0, 8, .rw, .b⟩] },
   { name := .tilePfCnt, base := 0x400028, dims := [(0x1000, 64)], reset := 0x0,
       fields := [⟨48, 16, .ro, .l⟩, ⟨32, 16, .ro, .l⟩, ⟨16, 16, .ro, .l⟩] },
   { name := .tileSpfCnt, base := 0x400030, dims := [(0x1000, 64)], reset := 0x0,
       fields := [⟨32, 32, .ro, .l⟩, ⟨0, 32, .ro, .l⟩] },
   { name := .tilePerfLlc, base := 0x400038, dims := [(0x1000, 64)], reset := 0x0,
       fields := [⟨32, 32, .ro, .l⟩, ⟨0, 32, .ro, .l⟩] },
   { name := .tileErr, base := 0x400040, dims := [(0x1000, 64)], reset := 0x0,
       fields := [⟨32, 32, .ro, .l⟩, ⟨31, 1, .w1c, .l⟩, ⟨16, 8, .ro, .l⟩, ⟨0, 16, .ro, .l⟩] },
   { name := .tileCtl, base := 0x400048, dims := [(0x1000, 64)], reset := 0x0,
       fields := [⟨0, 1, .wo, .l⟩] }]

/-- The registers of block COH. -/
def cohRegs : List RegDesc :=
  [{ name := .cohHash, base := 0x500000, dims := [(0x8, 6)], reset := 0x0,
       fields := [⟨0, 45, .ro, .b⟩] },
   { name := .cohCfg, base := 0x500040, dims := [], reset := 0x400,
       fields := [⟨8, 8, .rw, .b⟩] },
   { name := .cohStatus, base := 0x500048, dims := [], reset := 0x0,
       fields := [⟨8, 8, .ro, .l⟩, ⟨0, 8, .ro, .b⟩] },
   { name := .cohErr, base := 0x500050, dims := [], reset := 0x0,
       fields := [⟨32, 32, .ro, .l⟩, ⟨31, 1, .w1c, .l⟩, ⟨24, 6, .ro, .l⟩, ⟨16, 8, .ro, .l⟩, ⟨0, 16, .ro, .l⟩] },
   { name := .cohCtl, base := 0x500058, dims := [], reset := 0x0,
       fields := [⟨0, 1, .wo, .l⟩] },
   { name := .cohSlice, base := 0x501000, dims := [(0x10, 64)], reset := 0x0,
       fields := [⟨32, 9, .ro, .l⟩, ⟨16, 7, .ro, .l⟩, ⟨0, 7, .ro, .l⟩] },
   { name := .cohPerf, base := 0x501008, dims := [(0x10, 64)], reset := 0x0,
       fields := [⟨32, 32, .ro, .l⟩, ⟨0, 32, .ro, .l⟩] }]

/-- The registers of block OCT. -/
def octRegs : List RegDesc :=
  [{ name := .octCfg, base := 0x600000, dims := [], reset := 0x100001000000,
       fields := [⟨40, 8, .rw, .b⟩, ⟨16, 16, .rw, .b⟩] },
   { name := .octStatus, base := 0x600008, dims := [], reset := 0x0,
       fields := [⟨48, 16, .ro, .l⟩, ⟨32, 8, .ro, .l⟩, ⟨0, 4, .ro, .b⟩] },
   { name := .octPrst, base := 0x600010, dims := [], reset := 0x0,
       fields := [⟨0, 64, .ro, .l⟩] },
   { name := .octErr, base := 0x600018, dims := [], reset := 0x0,
       fields := [⟨32, 32, .ro, .l⟩, ⟨31, 1, .w1c, .l⟩, ⟨24, 7, .ro, .l⟩, ⟨16, 8, .ro, .l⟩, ⟨0, 16, .ro, .l⟩] },
   { name := .octCtl, base := 0x600020, dims := [], reset := 0x0,
       fields := [⟨0, 1, .wo, .l⟩] },
   { name := .octLink, base := 0x601000, dims := [(0x8, 83)], reset := 0xFFFF,
       fields := [⟨0, 16, .ro, .l⟩] },
   { name := .octLinkCnt, base := 0x601400, dims := [(0x8, 83)], reset := 0x0,
       fields := [⟨32, 32, .ro, .l⟩, ⟨0, 32, .ro, .l⟩] },
   { name := .octToll, base := 0x602000, dims := [(0x20, 75), (0x8, 4)], reset := 0xFFFFFFFF00010000,
       fields := [⟨32, 32, .rw, .b⟩, ⟨0, 24, .rw, .b⟩] },
   { name := .octTollCnt, base := 0x603000, dims := [(0x8, 75)], reset := 0x0,
       fields := [⟨48, 16, .ro, .l⟩, ⟨32, 16, .ro, .l⟩, ⟨16, 16, .ro, .l⟩, ⟨0, 16, .ro, .l⟩] },
   { name := .octPwr, base := 0x604000, dims := [(0x8, 529)], reset := 0x0,
       fields := [⟨32, 32, .ro, .l⟩, ⟨8, 1, .rw, .b⟩, ⟨0, 2, .ro, .l⟩] }]

/-- The registers of block QOS. -/
def qosRegs : List RegDesc :=
  [{ name := .qosCfg, base := 0x700000, dims := [], reset := 0xFF065A,
       fields := [⟨16, 8, .rw, .b⟩, ⟨8, 3, .rw, .b⟩, ⟨0, 7, .ro, .b⟩] },
   { name := .qosFb, base := 0x700008, dims := [], reset := 0xFFFFFFFFFFFFFFFF,
       fields := [⟨0, 64, .rw, .b⟩] },
   { name := .qosStatus, base := 0x700010, dims := [], reset := 0x8800,
       fields := [⟨12, 4, .ro, .l⟩, ⟨8, 4, .ro, .l⟩, ⟨0, 3, .ro, .l⟩] },
   { name := .qosEvent, base := 0x700018, dims := [], reset := 0x0,
       fields := [⟨4, 1, .w1c, .l⟩, ⟨3, 1, .w1c, .l⟩, ⟨2, 1, .w1c, .l⟩, ⟨1, 1, .w1c, .l⟩, ⟨0, 1, .w1c, .l⟩] },
   { name := .qosSnapSail, base := 0x700020, dims := [], reset := 0x0,
       fields := [⟨0, 64, .ro, .l⟩] },
   { name := .qosTgt, base := 0x701000, dims := [(0x20, 75), (0x8, 4)], reset := 0x0,
       fields := [⟨0, 14, .rw, .b⟩] },
   { name := .qosLat, base := 0x702000, dims := [(0x20, 75), (0x8, 4)], reset := 0x0,
       fields := [⟨40, 24, .ro, .b⟩, ⟨0, 40, .ro, .b⟩] },
   { name := .qosStep, base := 0x703000, dims := [(0x8, 75)], reset := 0x0,
       fields := [⟨0, 12, .ro, .b⟩] },
   { name := .qosBytes, base := 0x704000, dims := [(0x20, 75), (0x8, 4)], reset := 0x0,
       fields := [⟨0, 64, .ro, .l⟩] },
   { name := .qosSnap, base := 0x705000, dims := [(0x20, 75), (0x8, 4)], reset := 0x0,
       fields := [⟨0, 64, .ro, .l⟩] },
   { name := .qosGrant, base := 0x706000, dims := [(0x10, 75)], reset := 0xFF00000000,
       fields := [⟨32, 8, .ro, .b⟩, ⟨0, 32, .ro, .b⟩] },
   { name := .qosGrantEff, base := 0x706008, dims := [(0x10, 75)], reset := 0x0,
       fields := [⟨0, 32, .ro, .b⟩] },
   { name := .qosCap, base := 0x707000, dims := [(0x8, 82)], reset := 0x0,
       fields := [⟨32, 32, .ro, .b⟩, ⟨0, 32, .ro, .b⟩] }]

/-- The registers of block SLIP. -/
def slipRegs : List RegDesc :=
  [{ name := .slipStatus, base := 0x800000, dims := [(0x10000, 8)], reset := 0x0,
       fields := [⟨40, 8, .ro, .l⟩, ⟨32, 3, .ro, .l⟩, ⟨24, 2, .ro, .b⟩, ⟨16, 4, .ro, .l⟩, ⟨0, 3, .ro, .l⟩] },
   { name := .slipCfg, base := 0x800008, dims := [(0x10000, 8)], reset := 0x101000000040,
       fields := [⟨40, 8, .rw, .b⟩, ⟨32, 8, .rw, .b⟩, ⟨8, 3, .ro, .b⟩, ⟨4, 3, .ro, .b⟩, ⟨2, 1, .ro, .b⟩] },
   { name := .slipCtl, base := 0x800010, dims := [(0x10000, 8)], reset := 0x0,
       fields := [⟨1, 1, .wo, .l⟩, ⟨0, 1, .wo, .l⟩] },
   { name := .slipErr, base := 0x800018, dims := [(0x10000, 8)], reset := 0x0,
       fields := [⟨32, 32, .ro, .l⟩, ⟨31, 1, .w1c, .l⟩, ⟨16, 8, .ro, .l⟩, ⟨0, 16, .ro, .l⟩] },
   { name := .slipCnt, base := 0x800020, dims := [(0x10000, 8)], reset := 0x0,
       fields := [⟨32, 32, .ro, .l⟩, ⟨16, 16, .ro, .l⟩, ⟨0, 16, .ro, .l⟩] },
   { name := .slipWinIn, base := 0x801000, dims := [(0x10000, 8), (0x10, 16)], reset := 0x1400,
       fields := [⟨20, 44, .rw, .b⟩, ⟨8, 6, .rw, .b⟩, ⟨0, 1, .rw, .b⟩] },
   { name := .slipWinInTgt, base := 0x801008, dims := [(0x10000, 8), (0x10, 16)], reset := 0x800000000001000,
       fields := [⟨63, 1, .rw, .b⟩, ⟨62, 1, .rw, .b⟩, ⟨61, 1, .rw, .b⟩, ⟨60, 1, .rw, .b⟩, ⟨58, 2, .rw, .b⟩, ⟨20, 32, .rw, .b⟩, ⟨0, 13, .rw, .b⟩] },
   { name := .slipWinOut, base := 0x802000, dims := [(0x10000, 8), (0x10, 16)], reset := 0x1400,
       fields := [⟨20, 28, .rw, .b⟩, ⟨8, 6, .rw, .b⟩, ⟨0, 1, .rw, .b⟩] },
   { name := .slipWinOutTgt, base := 0x802008, dims := [(0x10000, 8), (0x10, 16)], reset := 0x0,
       fields := [⟨20, 44, .rw, .b⟩] },
   { name := .slipDesc, base := 0x800100, dims := [(0x10000, 8), (0x8, 32)], reset := 0x0,
       fields := [⟨0, 64, .ro, .l⟩] }]

/-- The registers of block LRS. -/
def lrsRegs : List RegDesc :=
  [{ name := .lrsStatus, base := 0x900000, dims := [(0x10000, 8)], reset := 0x0,
       fields := [⟨56, 8, .ro, .l⟩, ⟨48, 2, .ro, .b⟩, ⟨40, 8, .ro, .l⟩, ⟨32, 3, .ro, .b⟩, ⟨24, 2, .ro, .b⟩, ⟨16, 8, .ro, .b⟩, ⟨8, 3, .ro, .b⟩, ⟨0, 3, .ro, .l⟩] },
   { name := .lrsCfg, base := 0x900008, dims := [(0x10000, 8)], reset := 0x5F00040100,
       fields := [⟨32, 8, .rw, .b⟩, ⟨16, 8, .rw, .b⟩, ⟨0, 16, .rw, .b⟩] },
   { name := .lrsCtl, base := 0x900010, dims := [(0x10000, 8)], reset := 0xFF00FF00,
       fields := [⟨24, 8, .rw, .b⟩, ⟨8, 8, .rw, .b⟩, ⟨1, 1, .wo, .l⟩, ⟨0, 1, .wo, .l⟩] },
   { name := .lrsErr, base := 0x900018, dims := [(0x10000, 8)], reset := 0x0,
       fields := [⟨32, 32, .ro, .l⟩, ⟨31, 1, .w1c, .l⟩, ⟨16, 8, .ro, .l⟩, ⟨0, 16, .ro, .l⟩] },
   { name := .lrsCnt, base := 0x900020, dims := [(0x10000, 8)], reset := 0x0,
       fields := [⟨32, 32, .ro, .l⟩, ⟨16, 16, .ro, .l⟩, ⟨0, 16, .ro, .l⟩] },
   { name := .lrsPerf, base := 0x900028, dims := [(0x10000, 8)], reset := 0x0,
       fields := [⟨32, 32, .ro, .l⟩, ⟨0, 32, .ro, .l⟩] },
   { name := .lrsCh, base := 0x901000, dims := [(0x10000, 8), (0x8, 132)], reset := 0x0,
       fields := [⟨32, 32, .ro, .l⟩, ⟨16, 8, .ro, .b⟩, ⟨0, 3, .ro, .b⟩] },
   { name := .lrsLost, base := 0x900030, dims := [(0x10000, 8), (0x8, 2)], reset := 0x0,
       fields := [⟨0, 64, .ro, .b⟩] }]

/-- The registers of block PCI. -/
def pciRegs : List RegDesc :=
  [{ name := .pciStatus, base := 0xA00000, dims := [], reset := 0x0,
       fields := [⟨24, 1, .ro, .l⟩, ⟨16, 1, .ro, .l⟩, ⟨14, 1, .ro, .l⟩, ⟨12, 2, .ro, .l⟩, ⟨4, 5, .ro, .l⟩, ⟨0, 4, .ro, .l⟩] },
   { name := .pciLpm, base := 0xA00008, dims := [], reset := 0xA00320008,
       fields := [⟨32, 10, .rw, .b⟩, ⟨16, 16, .rw, .b⟩, ⟨0, 16, .rw, .b⟩] },
   { name := .pciTag, base := 0xA00010, dims := [], reset := 0x0,
       fields := [⟨32, 15, .ro, .l⟩, ⟨16, 14, .ro, .l⟩, ⟨0, 13, .ro, .l⟩] },
   { name := .pciErr, base := 0xA00018, dims := [], reset := 0x0,
       fields := [⟨32, 32, .ro, .l⟩, ⟨31, 1, .w1c, .l⟩, ⟨16, 13, .ro, .l⟩, ⟨8, 8, .ro, .l⟩, ⟨0, 8, .ro, .l⟩] },
   { name := .pciCnt, base := 0xA00020, dims := [], reset := 0x0,
       fields := [⟨48, 16, .ro, .l⟩, ⟨32, 16, .ro, .l⟩, ⟨16, 16, .ro, .l⟩, ⟨0, 16, .ro, .l⟩] },
   { name := .pciCnt2, base := 0xA00028, dims := [], reset := 0x0,
       fields := [⟨0, 32, .ro, .l⟩] },
   { name := .pciCtl, base := 0xA00030, dims := [], reset := 0x0,
       fields := [⟨0, 1, .wo, .l⟩] },
   { name := .pciFlr, base := 0xA00100, dims := [(0x8, 64)], reset := 0x0,
       fields := [⟨0, 64, .ro, .l⟩] },
   { name := .msixAddr, base := 0xA10000, dims := [(0x10, 2048)], reset := 0x0,
       fields := [⟨0, 64, .rw, .l⟩] },
   { name := .msixCtl, base := 0xA10008, dims := [(0x10, 2048)], reset := 0x100000000,
       fields := [⟨0, 32, .rw, .l⟩, ⟨32, 1, .rw, .l⟩] },
   { name := .msixPba, base := 0xA18000, dims := [(0x8, 32)], reset := 0x0,
       fields := [⟨0, 64, .ro, .l⟩] }]

/-- The registers of block Q. -/
def qRegs : List RegDesc :=
  [{ name := .qPool, base := 0xB00000, dims := [], reset := 0xC0000,
       fields := [⟨32, 17, .ro, .b⟩, ⟨16, 4, .ro, .b⟩] },
   { name := .qPoolUse, base := 0xB00008, dims := [], reset := 0x0,
       fields := [⟨32, 17, .ro, .l⟩, ⟨0, 17, .ro, .l⟩] },
   { name := .qVctx, base := 0xB00010, dims := [], reset := 0x0,
       fields := [⟨0, 15, .ro, .l⟩] },
   { name := .qErr, base := 0xB00018, dims := [], reset := 0x0,
       fields := [⟨32, 32, .ro, .l⟩, ⟨31, 1, .w1c, .l⟩, ⟨13, 18, .ro, .l⟩, ⟨8, 5, .ro, .l⟩, ⟨0, 8, .ro, .l⟩] },
   { name := .qCnt, base := 0xB00020, dims := [], reset := 0x0,
       fields := [⟨32, 32, .ro, .l⟩, ⟨16, 16, .ro, .l⟩, ⟨0, 16, .ro, .l⟩] },
   { name := .qCtl, base := 0xB00028, dims := [], reset := 0x0,
       fields := [⟨0, 1, .wo, .l⟩] }]

/-- The registers of block DTU. -/
def dtuRegs : List RegDesc :=
  [{ name := .dtuInvAck, base := 0xC00200, dims := [(0x8, 64)], reset := 0x0,
       fields := [⟨48, 16, .ro, .l⟩, ⟨32, 16, .ro, .l⟩, ⟨2, 1, .w1c, .l⟩, ⟨1, 1, .w1c, .l⟩, ⟨0, 1, .w1c, .l⟩] },
   { name := .dtuAckAddr, base := 0xC00400, dims := [(0x8, 64)], reset := 0x0,
       fields := [⟨3, 61, .rw, .b⟩, ⟨0, 1, .rw, .b⟩] },
   { name := .dtuCtxRoot, base := 0xC10000, dims := [(0x10, 4096)], reset := 0x0,
       fields := [⟨12, 40, .rw, .b⟩] },
   { name := .dtuCtxCfg, base := 0xC10008, dims := [(0x10, 4096)], reset := 0x0,
       fields := [⟨33, 31, .ro, .l⟩, ⟨8, 5, .rw, .b⟩, ⟨1, 2, .ro, .l⟩, ⟨0, 1, .rw, .b⟩] },
   { name := .dtuFqStatus, base := 0xC00600, dims := [], reset := 0x0,
       fields := [⟨32, 32, .ro, .l⟩, ⟨0, 11, .ro, .l⟩] },
   { name := .dtuAtsStatus, base := 0xC00608, dims := [], reset := 0x0,
       fields := [⟨32, 32, .ro, .l⟩, ⟨16, 6, .ro, .l⟩, ⟨0, 14, .ro, .l⟩] },
   { name := .dtuPerf, base := 0xC00610, dims := [], reset := 0x0,
       fields := [⟨32, 32, .ro, .l⟩, ⟨0, 32, .ro, .l⟩] },
   { name := .dtuInv, base := 0xC00000, dims := [(0x8, 64)], reset := 0x0,
       fields := [⟨0, 64, .wo, .l⟩] }]

/-- The registers of block PWR. -/
def pwrRegs : List RegDesc :=
  [{ name := .pwrStatus, base := 0xD00000, dims := [], reset := 0x8000000,
       fields := [⟨56, 8, .ro, .l⟩, ⟨48, 2, .ro, .b⟩, ⟨40, 1, .ro, .l⟩, ⟨36, 1, .ro, .b⟩, ⟨24, 6, .ro, .b⟩, ⟨0, 16, .ro, .l⟩] },
   { name := .pwrBudget, base := 0xD00008, dims := [], reset := 0x2BC0000445C,
       fields := [⟨32, 16, .ro, .b⟩, ⟨0, 32, .ro, .b⟩] },
   { name := .pwrEnergySail, base := 0xD00010, dims := [], reset := 0x0,
       fields := [⟨32, 32, .ro, .l⟩, ⟨0, 32, .ro, .l⟩] },
   { name := .pwrLean, base := 0xD00018, dims := [], reset := 0x0,
       fields := [⟨0, 64, .ro, .b⟩] },
   { name := .pwrLeanEnd, base := 0xD00020, dims := [], reset := 0x0,
       fields := [⟨0, 64, .w1s, .b⟩] },
   { name := .pwrEvent, base := 0xD00028, dims := [], reset := 0x0,
       fields := [⟨9, 1, .w1c, .l⟩, ⟨8, 1, .w1c, .l⟩, ⟨7, 1, .w1c, .l⟩, ⟨6, 1, .w1c, .l⟩, ⟨5, 1, .w1c, .l⟩, ⟨4, 1, .w1c, .l⟩, ⟨3, 1, .w1c, .l⟩, ⟨2, 1, .w1c, .l⟩, ⟨1, 1, .w1c, .l⟩, ⟨0, 1, .w1c, .l⟩] },
   { name := .pwrKa, base := 0xD00030, dims := [], reset := 0x0,
       fields := [⟨48, 16, .ro, .l⟩, ⟨16, 16, .ro, .l⟩, ⟨0, 16, .ro, .l⟩] },
   { name := .pwrSurvey, base := 0xD00038, dims := [], reset := 0x0,
       fields := [⟨32, 32, .ro, .l⟩, ⟨16, 16, .ro, .l⟩, ⟨0, 8, .ro, .l⟩] },
   { name := .pwrErr, base := 0xD00040, dims := [], reset := 0x0,
       fields := [⟨32, 32, .ro, .l⟩, ⟨31, 1, .w1c, .l⟩, ⟨16, 8, .ro, .l⟩, ⟨0, 16, .ro, .l⟩] },
   { name := .pwrCtl, base := 0xD00048, dims := [], reset := 0x0,
       fields := [⟨0, 1, .wo, .l⟩] },
   { name := .pwrRail, base := 0xD00100, dims := [(0x8, 9)], reset := 0x0,
       fields := [⟨0, 64, .ro, .l⟩] },
   { name := .pwrPart, base := 0xD00200, dims := [(0x8, 64)], reset := 0x0,
       fields := [⟨32, 32, .ro, .b⟩, ⟨0, 32, .ro, .l⟩] }]

/-- The registers of block ERR. -/
def errRegs : List RegDesc :=
  [{ name := .errStatus, base := 0xE00000, dims := [], reset := 0x0,
       fields := [⟨48, 16, .ro, .l⟩, ⟨24, 7, .ro, .l⟩, ⟨16, 7, .ro, .l⟩, ⟨8, 7, .ro, .l⟩, ⟨7, 1, .w1c, .l⟩, ⟨4, 1, .w1c, .l⟩, ⟨3, 1, .ro, .l⟩, ⟨0, 3, .ro, .l⟩] },
   { name := .errLogBase, base := 0xE00008, dims := [], reset := 0x0,
       fields := [⟨18, 34, .rw, .b⟩, ⟨0, 1, .rw, .b⟩] },
   { name := .errLogPtr, base := 0xE00010, dims := [], reset := 0x0,
       fields := [⟨32, 32, .rw, .l⟩, ⟨0, 32, .ro, .l⟩] },
   { name := .errCtl, base := 0xE00018, dims := [], reset := 0x0,
       fields := [⟨5, 11, .rw, .b⟩, ⟨0, 1, .rw, .b⟩] },
   { name := .errCnt, base := 0xE00020, dims := [], reset := 0x0,
       fields := [⟨32, 32, .ro, .l⟩, ⟨0, 32, .ro, .l⟩] },
   { name := .errOvf, base := 0xE00100, dims := [(0x8, 20)], reset := 0x0,
       fields := [⟨0, 32, .ro, .l⟩] },
   { name := .errLast, base := 0xE01000, dims := [(0x40, 16), (0x8, 8)], reset := 0x0,
       fields := [⟨0, 64, .ro, .l⟩] }]

/-- The registers of block TWIN. -/
def twinRegs : List RegDesc :=
  [{ name := .twinStatus, base := 0xF00000, dims := [], reset := 0x0,
       fields := [⟨40, 8, .ro, .l⟩, ⟨32, 8, .ro, .l⟩, ⟨24, 5, .ro, .l⟩, ⟨16, 3, .ro, .l⟩, ⟨8, 1, .ro, .l⟩, ⟨0, 2, .ro, .l⟩] },
   { name := .twinPart, base := 0xF00010, dims := [(0x8, 2)], reset := 0x0,
       fields := [⟨0, 64, .ro, .l⟩] },
   { name := .twinFerry, base := 0xF00020, dims := [], reset := 0x0,
       fields := [⟨0, 64, .ro, .l⟩] },
   { name := .twinEvent, base := 0xF00028, dims := [], reset := 0x0,
       fields := [⟨6, 1, .w1c, .l⟩, ⟨5, 1, .w1c, .l⟩, ⟨4, 1, .w1c, .l⟩, ⟨3, 1, .w1c, .l⟩, ⟨2, 1, .w1c, .l⟩, ⟨1, 1, .w1c, .l⟩, ⟨0, 1, .w1c, .l⟩] },
   { name := .twinCtl, base := 0xF00030, dims := [], reset := 0x0,
       fields := [⟨21, 11, .rw, .b⟩, ⟨20, 1, .rw, .b⟩, ⟨8, 6, .rw, .l⟩, ⟨2, 1, .wo, .l⟩, ⟨1, 1, .wo, .l⟩, ⟨0, 1, .wo, .l⟩] },
   { name := .twinReplay, base := 0xF00038, dims := [], reset := 0x0,
       fields := [⟨25, 27, .rw, .b⟩, ⟨8, 8, .rw, .b⟩] },
   { name := .twinErr, base := 0xF00040, dims := [], reset := 0x0,
       fields := [⟨32, 32, .ro, .l⟩, ⟨31, 1, .w1c, .l⟩, ⟨16, 8, .ro, .l⟩, ⟨0, 16, .ro, .l⟩] },
   { name := .twinCnt, base := 0xF00048, dims := [], reset := 0x0,
       fields := [⟨32, 32, .ro, .l⟩, ⟨16, 16, .ro, .l⟩, ⟨0, 16, .ro, .l⟩] }]

/-- The registers of block SAL. -/
def salRegs : List RegDesc :=
  [{ name := .salStatus, base := 0x1000000, dims := [], reset := 0x0,
       fields := [⟨40, 8, .ro, .l⟩, ⟨16, 13, .ro, .l⟩, ⟨3, 1, .ro, .l⟩, ⟨2, 1, .ro, .l⟩, ⟨1, 1, .ro, .l⟩, ⟨0, 1, .ro, .l⟩] },
   { name := .salEvent, base := 0x1000008, dims := [], reset := 0x0,
       fields := [⟨7, 1, .w1c, .l⟩, ⟨6, 1, .w1c, .l⟩, ⟨5, 1, .w1c, .l⟩, ⟨4, 1, .w1c, .l⟩, ⟨3, 1, .w1c, .l⟩, ⟨2, 1, .w1c, .l⟩, ⟨1, 1, .w1c, .l⟩, ⟨0, 1, .w1c, .l⟩] },
   { name := .salKeyCmd, base := 0x1000010, dims := [], reset := 0x0,
       fields := [⟨16, 2, .wo, .l⟩, ⟨0, 13, .wo, .l⟩] },
   { name := .salCfg, base := 0x1000018, dims := [], reset := 0x100000000400000,
       fields := [⟨32, 32, .ro, .b⟩, ⟨0, 32, .ro, .b⟩] },
   { name := .salErr, base := 0x1000020, dims := [], reset := 0x0,
       fields := [⟨32, 32, .ro, .l⟩, ⟨31, 1, .w1c, .l⟩, ⟨16, 8, .ro, .l⟩, ⟨0, 16, .ro, .l⟩] },
   { name := .salKey, base := 0x1001000, dims := [(0x8, 4097)], reset := 0x200,
       fields := [⟨32, 32, .ro, .l⟩, ⟨9, 1, .ro, .l⟩, ⟨8, 1, .ro, .l⟩, ⟨7, 1, .ro, .l⟩, ⟨5, 1, .ro, .b⟩, ⟨4, 1, .ro, .b⟩, ⟨0, 1, .ro, .b⟩] },
   { name := .salScrub, base := 0x100A000, dims := [(0x8, 65)], reset := 0x0,
       fields := [⟨0, 64, .ro, .l⟩] },
   { name := .salTdi, base := 0x100B000, dims := [(0x8, 128)], reset := 0x0,
       fields := [⟨0, 64, .ro, .l⟩] }]

/-- The registers of block LCS. -/
def lcsRegs : List RegDesc :=
  [{ name := .lcsStatus, base := 0x1100000, dims := [], reset := 0x0,
       fields := [⟨16, 8, .ro, .l⟩, ⟨8, 2, .ro, .l⟩, ⟨4, 3, .ro, .l⟩, ⟨0, 3, .ro, .l⟩] },
   { name := .lcsCmd, base := 0x1100008, dims := [], reset := 0x0,
       fields := [⟨8, 8, .rw, .l⟩, ⟨0, 8, .wo, .l⟩] },
   { name := .lcsCtl, base := 0x1100010, dims := [], reset := 0x0,
       fields := [⟨0, 1, .rw, .l⟩] },
   { name := .lcsDbg, base := 0x1100018, dims := [], reset := 0x0,
       fields := [⟨32, 32, .ro, .l⟩, ⟨8, 4, .ro, .l⟩, ⟨0, 1, .ro, .l⟩] },
   { name := .lcsChal, base := 0x1100020, dims := [(0x8, 4)], reset := 0x0,
       fields := [⟨0, 64, .ro, .l⟩] },
   { name := .lcsField, base := 0x1100040, dims := [(0x8, 2)], reset := 0x0,
       fields := [⟨0, 64, .ro, .l⟩] },
   { name := .lcsBuf, base := 0x1101000, dims := [(0x8, 1024)], reset := 0x0,
       fields := [⟨0, 64, .rw, .l⟩] }]

/-- The registers of block FORD. -/
def fordRegs : List RegDesc :=
  [{ name := .fordStatus, base := 0x1200000, dims := [], reset := 0x3FFFF00000000,
       fields := [⟨32, 18, .ro, .l⟩, ⟨0, 18, .w1c, .l⟩] },
   { name := .fordCtl, base := 0x1200018, dims := [], reset := 0x0,
       fields := [⟨0, 1, .wo, .l⟩] },
   { name := .fordErr, base := 0x1200008, dims := [], reset := 0x0,
       fields := [⟨32, 32, .ro, .l⟩, ⟨31, 1, .w1c, .l⟩, ⟨26, 5, .ro, .l⟩, ⟨21, 5, .ro, .l⟩, ⟨16, 5, .ro, .l⟩, ⟨0, 16, .ro, .l⟩] },
   { name := .fordDom, base := 0x1200100, dims := [(0x8, 18)], reset := 0x0,
       fields := [⟨32, 2, .ro, .l⟩, ⟨16, 1, .ro, .l⟩, ⟨0, 16, .ro, .l⟩] },
   { name := .fordLost, base := 0x1200200, dims := [(0x8, 18)], reset := 0x0,
       fields := [⟨32, 32, .ro, .l⟩, ⟨0, 32, .ro, .l⟩] }]

/-- The registers of block BRG. -/
def brgRegs : List RegDesc :=
  [{ name := .brgStatus, base := 0x1300000, dims := [], reset := 0x100,
       fields := [⟨40, 8, .ro, .l⟩, ⟨32, 4, .ro, .l⟩, ⟨24, 2, .ro, .l⟩, ⟨8, 8, .ro, .l⟩, ⟨0, 3, .ro, .l⟩] },
   { name := .brgMism, base := 0x1300008, dims := [], reset := 0x0,
       fields := [⟨31, 1, .ro, .l⟩, ⟨30, 1, .ro, .l⟩, ⟨26, 1, .ro, .l⟩, ⟨25, 1, .ro, .l⟩, ⟨24, 1, .ro, .l⟩, ⟨23, 1, .ro, .l⟩, ⟨22, 1, .ro, .l⟩, ⟨20, 2, .ro, .l⟩, ⟨8, 8, .ro, .l⟩, ⟨0, 8, .ro, .l⟩] },
   { name := .brgStart, base := 0x1300010, dims := [], reset := 0x0,
       fields := [⟨24, 8, .ro, .l⟩, ⟨16, 3, .ro, .l⟩, ⟨8, 4, .ro, .l⟩, ⟨0, 1, .ro, .l⟩] },
   { name := .brgCtl, base := 0x1300018, dims := [], reset := 0x0,
       fields := [⟨2, 1, .wo, .l⟩, ⟨1, 1, .wo, .l⟩, ⟨0, 1, .wo, .l⟩] },
   { name := .brgRcvSrc, base := 0x1300020, dims := [], reset := 0x0,
       fields := [⟨6, 58, .rw, .l⟩] },
   { name := .brgRcvLen, base := 0x1300028, dims := [], reset := 0x0,
       fields := [⟨0, 26, .rw, .l⟩] },
   { name := .brgTime, base := 0x1300108, dims := [(0x8, 10)], reset := 0xFFFFFFFF,
       fields := [⟨0, 32, .ro, .l⟩] }]

/-- The registers of block VF. -/
def vfRegs : List RegDesc :=
  [{ name := .tfqStatus, base := 0x4001800, dims := [(0x10000, 4096)], reset := 0x0,
       fields := [⟨32, 32, .ro, .l⟩, ⟨0, 5, .ro, .l⟩] },
   { name := .tfqCtl, base := 0x4001808, dims := [(0x10000, 4096)], reset := 0x0,
       fields := [⟨4, 1, .rw, .b⟩, ⟨0, 4, .rw, .b⟩] },
   { name := .tfqPop, base := 0x4001810, dims := [(0x10000, 4096)], reset := 0x0,
       fields := [⟨0, 1, .wo, .l⟩] },
   { name := .ringBase, base := 0x4001000, dims := [(0x10000, 4096), (0x20, 64)], reset := 0x0,
       fields := [⟨6, 50, .rw, .b⟩] },
   { name := .ringCfg, base := 0x4001008, dims := [(0x10000, 4096), (0x20, 64)], reset := 0x2004000004600,
       fields := [⟨48, 16, .rw, .b⟩, ⟨32, 16, .rw, .b⟩, ⟨28, 4, .rw, .b⟩, ⟨25, 1, .rw, .b⟩, ⟨21, 4, .rw, .b⟩, ⟨15, 6, .rw, .b⟩, ⟨14, 1, .rw, .b⟩, ⟨13, 1, .rw, .b⟩, ⟨8, 5, .rw, .b⟩, ⟨0, 1, .rw, .b⟩] },
   { name := .ringPtr, base := 0x4001010, dims := [(0x10000, 4096), (0x20, 64)], reset := 0x0,
       fields := [⟨32, 32, .ro, .l⟩, ⟨0, 32, .ro, .l⟩] },
   { name := .ringStatus, base := 0x4001018, dims := [(0x10000, 4096), (0x20, 64)], reset := 0x0,
       fields := [⟨48, 16, .ro, .l⟩, ⟨32, 16, .ro, .l⟩, ⟨8, 8, .ro, .l⟩, ⟨0, 3, .ro, .l⟩] },
   { name := .tinvStatus, base := 0x4001900, dims := [(0x10000, 4096)], reset := 0x0,
       fields := [⟨8, 1, .ro, .l⟩, ⟨0, 4, .ro, .l⟩] },
   { name := .tinvClr, base := 0x4001908, dims := [(0x10000, 4096)], reset := 0x0,
       fields := [⟨0, 1, .wo, .l⟩] },
   { name := .tmeasVa, base := 0x4001A00, dims := [(0x10000, 4096)], reset := 0x0,
       fields := [⟨6, 50, .rw, .l⟩] },
   { name := .tmeasLen, base := 0x4001A08, dims := [(0x10000, 4096)], reset := 0x0,
       fields := [⟨0, 40, .rw, .l⟩] },
   { name := .tmeasCtl, base := 0x4001A10, dims := [(0x10000, 4096)], reset := 0x0,
       fields := [⟨4, 1, .wo, .l⟩, ⟨0, 4, .rw, .l⟩] },
   { name := .tmeasStatus, base := 0x4001A18, dims := [(0x10000, 4096)], reset := 0x0,
       fields := [⟨8, 8, .ro, .l⟩, ⟨0, 2, .ro, .l⟩] },
   { name := .vfMsixAddr, base := 0x4002000, dims := [(0x10000, 4096), (0x10, 16)], reset := 0x0,
       fields := [⟨0, 64, .rw, .l⟩] },
   { name := .vfMsixCtl, base := 0x4002008, dims := [(0x10000, 4096), (0x10, 16)], reset := 0x100000000,
       fields := [⟨0, 32, .rw, .l⟩, ⟨32, 1, .rw, .l⟩] },
   { name := .vfMsixPba, base := 0x4003000, dims := [(0x10000, 4096)], reset := 0x0,
       fields := [⟨0, 64, .ro, .l⟩] }]

/-- The table of the block a key lies in (R215), one MiB per block; VF pages come after register space. -/
def regBlock (key : Nat) : List RegDesc :=
  match key / 0x100000 with
  | 0 => glbRegs
  | 1 => sailRegs
  | 2 => manRegs
  | 3 => teRegs
  | 4 => tileRegs
  | 5 => cohRegs
  | 6 => octRegs
  | 7 => qosRegs
  | 8 => slipRegs
  | 9 => lrsRegs
  | 10 => pciRegs
  | 11 => qRegs
  | 12 => dtuRegs
  | 13 => pwrRegs
  | 14 => errRegs
  | 15 => twinRegs
  | 16 => salRegs
  | 17 => lcsRegs
  | 18 => fordRegs
  | 19 => brgRegs
  | n => if n < 64 then [] else vfRegs

end Sys2Proof.Machine
end

