-- ==== Sys2Proof/Machine/State.lean ====
section
/-! DEFINITION. The state of the hub: plain data. Registers lie in one sparse table by key (RegTable.lean says what an
unlisted register holds); what the spec describes without a register lies in the structures below. -/

namespace Sys2Proof.Machine

/-! ### Outcomes -/

/-- Reasons to stop with a fault. No command of the hub ends a run: the spec gives each of them an effect. -/
inductive Fault where
  /-- Raised by no meaning (safe). -/
  | none
  deriving DecidableEq, Repr

/-- Reasons to refuse a command. -/
inductive Refusal where
  /-- Raised by exec's arms of commands whose meaning is not written (safe). -/
  | notModelled (mnemonic : String)
  deriving DecidableEq, Repr

/-! ### What leaves the hub -/

/-- The kinds of message and signal the hub sends (in the order of the chapters that define them). -/
inductive OutKind where
  | memWrite | memRead | msix | cpl | cplUr | pcieMsg | flit
  | osp | twin | spdm | jtag | flash | lrs | signal
  deriving DecidableEq, Repr

/-- One message: its kind, its header fields, its data. -/
structure Out where
  kind : OutKind
  args : List Nat
  data : List Byte
  deriving DecidableEq, Repr

/-! ### The time base (R22 to R39) -/

/-- Where the hub stands in the fixed order of a sailing's steps (R29, R32). -/
inductive Stage where
  | boundary | c1 | c2 | i0 | i1 | i2 | i3 | i4 | run | quiet
  deriving DecidableEq, Repr

/-- The time base: TCLK cycles since it started, the TCLK count of the sailing, the last step taken, consecutive late boundaries
before this sailing's, and whether this sailing's was late (R26). -/
structure TimeSt where
  total : Nat
  tclk : Nat
  stage : Stage
  lateRun : Nat
  late : Bool
  deriving DecidableEq, Repr

/-- What the INTAKE in progress acts on at I1 and I2: the requests accepted before it began (R33). The entries each
invalidation lane held and the lanes that had overflowed, the rotations and the retirements asked for. -/
structure IntakeSt where
  lanes : NMap Nat
  overfl : List Nat
  rotate : List Nat
  retire : List Nat
  deriving DecidableEq, Repr

/-! ### The manifest (R450 to R459) -/

/-- A slip record of TOPOLOGY (R455): the role the slip is declared in, the rates and the module it may train to, and the identity its chiplet is checked against. -/
structure SlipTop where
  role : Nat
  minRate : Nat
  maxRate : Nat
  minMod : Nat
  minRev : Nat
  dflag : Nat
  vendor : Nat
  product : Nat
  idDigest : List Byte
  deriving DecidableEq, Repr

/-- A scratch record of MEMMAP (R455): a number of LLC ways and their owner. -/
structure ScratchRec where
  ways : Nat
  owner : Nat
  deriving DecidableEq, Repr

/-- A carve-up record of MEMMAP (R455): a range of 32 MiB units and its owner. -/
structure CarveRec where
  base : Nat
  size32 : Nat
  owner : Nat
  deriving DecidableEq, Repr

/-- The MEMMAP section (R455): the local share, the home mode, the pool's ways, the buffer size, the hash masks M0 to M5, the scratch and the carve-up records. -/
structure MemMap where
  local32 : Nat
  homeLocal : Nat
  poolWays : Nat
  bufLog : Nat
  masks : List Nat
  scratch : List ScratchRec
  carve : List CarveRec
  deriving DecidableEq, Repr

/-- A partition record of PARTITIONS (R455): its tiles and the seed of its TEs. -/
structure PartRec where
  part : Nat
  tiles : Nat
  seed : Nat
  deriving DecidableEq, Repr

/-- A tenant record of PARTITIONS (R455): its partition and its pin records, each an address and a number of 32 MiB units. -/
structure TenRec where
  tenant : Nat
  part : Nat
  pins : List (Nat × Nat)
  deriving DecidableEq, Repr

/-- A table of FABRIC (R455): the ports it takes as failed, and the output port at each router toward each router. -/
structure FabTab where
  failed : Nat
  ports : List Nat
  deriving DecidableEq, Repr

/-- A record of GUARANTEES (R455): a point, a rank and the resources of R335 it is guaranteed at. -/
structure GrantRec where
  point : Nat
  rank : Nat
  res : Nat
  deriving DecidableEq, Repr

/-- A record of PROGRAMS (R455): a program's index, its tenant, whether its digest is checked, and the digest. -/
structure ProgRec where
  index : Nat
  tenant : Nat
  check : Bool
  digest : Nat
  deriving DecidableEq, Repr

/-- A leg entry of a partition block (R457). -/
structure LegEntry where
  te : Nat
  prog : Nat
  tenant : Nat
  vclass : Nat
  step : Nat
  bound : Nat
  deriving DecidableEq, Repr

/-- A prefetch or COPY entry of a partition block (R457). -/
structure PfEntry where
  copy : Bool
  lead : Nat
  te : Nat
  leg : Nat
  sreg : Nat
  dreg : Nat
  bsz : Nat
  soff : Nat
  doff : Nat
  len : Nat
  start : Nat
  deriving DecidableEq, Repr

/-- A partition's block of a slot (R41, R457). -/
structure SlotBlk where
  part : Nat
  qc : Nat
  survey : Bool
  energy : Nat
  drain : Nat
  legs : List LegEntry
  pfs : List PfEntry
  q0s : List (Nat × Nat)
  wake : Nat
  deriving DecidableEq, Repr

/-- A re-entry entry of a variant (R457): from which step of which variant a voyage goes on at which step. -/
structure ReEntry where
  src : Nat
  vclass : Nat
  fromStep : Nat
  toStep : Nat
  deriving DecidableEq, Repr

/-- A variant of the TIMETABLE section (R457): its cycle, the TEs it covers, its slots' partition blocks and its re-entry entries. -/
structure Variant where
  variant : Nat
  cycle : Nat
  covers : Nat
  slots : List (List SlotBlk)
  reentry : List ReEntry
  deriving DecidableEq, Repr

/-- The TWIN section (R454): the hub's role, the heartbeat's time in ms and the peer's serial number. -/
structure TwinTop where
  role : Nat
  hbMs : Nat
  peer : Nat
  deriving DecidableEq, Repr

/-- A section as it lies in the manifest: its TYPE, the offset of its TLV header, its body. -/
structure Sect where
  typ : Nat
  off : Nat
  body : List Byte
  deriving DecidableEq, Repr

/-- A manifest as parsed (R450 to R458): what its sections say, and its bytes. -/
structure Manifest where
  digest : Nat
  svn : Nat
  serial : Nat
  prev : Nat
  sects : List Sect
  slips : List SlipTop
  stackMask : Nat
  stackCap : Nat
  twinDeclared : Bool
  limits : List Nat
  period : Nat
  quiet : Nat
  mm : MemMap
  parts : List PartRec
  tenants : List TenRec
  tabs : List FabTab
  grants : List GrantRec
  progs : List ProgRec
  variants : List Variant
  budgetW : Nat
  regs : List (Nat × Nat)
  tdiMap : Nat
  scrubRate : Nat
  rotRate : Nat
  twin : Option TwinTop
  bytes : List Byte
  deriving DecidableEq, Repr

/-- The manifest block: what is in force, what is staged, the crossing scheduled (R462 to R465). -/
structure ManSt where
  inForce : Option Manifest
  staged : Option Manifest
  loading : List Byte
  crossAt : Option Nat
  crossed : Bool
  replaced : Option Manifest
  deriving DecidableEq, Repr

/-! ### Programs, voyages and legs -/

/-- A region entry (R111). -/
structure Region where
  base : Nat
  arg : Nat
  length : Nat
  stride : Nat
  attr : Nat
  deriving DecidableEq, Repr

/-- A geometry entry (R114). -/
structure Geo where
  rows : Nat
  lvl : Nat
  rbytes : Nat
  mpitch : Nat
  mstep : Int
  hpitch : Nat
  hstep : Int
  deriving DecidableEq, Repr

/-- A checked program image (R109, R110, R140). -/
structure Prog where
  digest : Nat
  size : Nat
  bound : Nat
  modes : Nat
  regions : List Region
  geos : List Geo
  groups : List Nat
  words : List Nat
  carryReading : Bool
  image : List Byte
  deriving DecidableEq, Repr

/-- A load that passed its checks and waits for the COMMIT that issues its completion (R142). -/
structure ProgLoad where
  index : Nat
  prog : Prog
  ring : Nat
  didx : Nat
  issued : Bool
  deriving DecidableEq, Repr

/-- An outstanding MOV (R82): its hold range as destination or source, its pieces (memory address or hold source, hold
address, bytes), the key its memory accesses use and the sailing it issued in. -/
structure MovX where
  id : Nat
  op : Nat
  lo : Nat
  hi : Nat
  slo : Nat
  shi : Nat
  pieces : List (Nat × Nat × Nat)
  cache : Nat
  tenant : Nat
  sail : Nat
  deriving DecidableEq, Repr

/-- A running MMA: its formats and shape, the blocks still to be consumed (virtual address, bytes), the next block's number, where its operands
lie, and the cycle f of R74. -/
structure MmaX where
  op : Nat
  wf : Nat
  af : Nat
  p : Nat
  blocks : List (Nat × Nat)
  next : Nat
  act : Nat
  apitch : Nat
  dst : Nat
  alo : Nat
  ahi : Nat
  dlo : Nat
  dhi : Nat
  f : Nat
  deriving DecidableEq, Repr

/-- A running loop: its level, its counter, its count, its body's first and last instruction (R129). -/
structure LoopX where
  lvl : Nat
  ctr : Nat
  count : Nat
  first : Nat
  last : Nat
  deriving DecidableEq, Repr

/-- A leg that runs (R35, R129, R135): its place in the slot's list, its entry, its voyage (ring, descriptor), its
program, and the TE's own registers of the leg; ninth: the oldest MOV outstanding when a MOV found eight of them (R82). -/
structure LegRun where
  idx : Nat
  part : Nat
  entry : LegEntry
  ring : Nat
  didx : Nat
  prog : Prog
  rank : Nat
  args : List Nat
  seed : Nat
  pc : Nat
  loops : List LoopX
  preds : Nat
  draws : NMap Nat
  movs : List MovX
  nextMov : Nat
  ninth : Option Nat
  mma : Option MmaX
  bars : List (Nat × Nat × Nat)
  waitBar : Option (Nat × Nat)
  halted : Option (Nat × Bool)
  nflags : Nat
  start : Nat
  deriving DecidableEq, Repr

/-- A leg the sailing's slot still has to start on a TE: list index, entry, voyage, offset of its start (R35). -/
structure LegPlan where
  idx : Nat
  part : Nat
  entry : LegEntry
  voyage : Option (Nat × Nat)
  blocked : Bool
  offset : Nat
  deriving DecidableEq, Repr

/-- A leg that ended in a sailing (R606): outcome 0 OK, 1 LEG_OVERRUN, 2 FAULT, 3 no binding, 4 deferred (R194). -/
structure LegEnd where
  part : Nat
  te : Nat
  idx : Nat
  entry : LegEntry
  voyage : Option (Nat × Nat)
  outcome : Nat
  cause : Nat
  pinned : Bool
  nflags : Nat
  outs : List (Nat × Nat)
  deriving DecidableEq, Repr

/-- A weight block in the WSB: its virtual address, its bytes, the ECLK cycle it arrived in (R76, R74). -/
structure WsbBlk where
  va : Nat
  data : List Byte
  at_ : Nat
  deriving DecidableEq, Repr

/-- A block of a weight stream still to come: its virtual address, its bytes, the physical pieces its translation gave when
its range was checked (R132, R192, R228). -/
structure StrBlk where
  va : Nat
  size : Nat
  pas : List (Nat × Nat)
  deriving DecidableEq, Repr

/-- A logical TE: the legs its slot still has for it, the leg that runs, the WSB, the stream's blocks still to
come, the WSTREAM entries whose ranges are still to be translated, block slots delivered since the
stream began, and transfers that outlived their leg. -/
structure TeSt where
  plan : List LegPlan
  run : Option LegRun
  wsb : List WsbBlk
  stream : List StrBlk
  ahead : List PfEntry
  slots : Nat
  tail : List MovX
  tailTenant : Nat
  deriving DecidableEq, Repr

/-- A physical TE: its accumulator file, its vector registers, which sleep last lost them (0: none), the quarter of its
hold that is its carry window (R87), whether it is failing, its first-error capture (R106). -/
structure PhysSt where
  acc : NMap Lane
  vreg : NMap Lane
  epoch : Nat
  carryQ : Nat
  failing : Option Nat
  cap : Word
  deriving DecidableEq, Repr

/-- A barrier of this sailing: its mask and number, the arrivals each member has made at it, and how many arrivals of every
member have been paired and released (R138). -/
structure BarSt where
  mask : Nat
  bid : Nat
  arrivals : NMap Nat
  released : Nat
  deriving DecidableEq, Repr

/-- A COPY entry that issued (R193, R194): its place, its voyage, its pieces, whether it completed or faulted; the class of the slot it
issued in; whether its walks still run, and the virtual addresses of its source and destination. -/
structure CopyX where
  part : Nat
  idx : Nat
  entry : PfEntry
  ring : Nat
  didx : Nat
  vclass : Nat
  step : Nat
  tenant : Nat
  target : Nat
  pieces : List (Nat × Nat × Nat)
  done : Bool
  fault : Option (Nat × Bool)
  qc : Nat
  walking : Bool
  src : Nat
  dst : Nat
  deriving DecidableEq, Repr

/-- What one partition carries from sailing to sailing: the void causes of the sailing that runs and of the one COMMIT
closes; a repeat that this sailing calls for and the one that falls due at this INTAKE's I2 (R54); repeats of one sailing so
far; the slot of this sailing; what the block it ran declares, where it ran one (R499); whether it runs no legs (R59,
R459); partition reset in progress (R176); whether it switched variant in this sailing (R463). -/
structure PartSt where
  void : Option Nat
  voidPrev : Option Nat
  repeatDue : Bool
  repeatPrev : Bool
  repeats : Nat
  slot : Nat
  decl : Option Nat
  stopped : Bool
  reset : Bool
  switched : Bool
  deriving DecidableEq, Repr

/-! ### Rings (R428 to R445) -/

/-- An admitted descriptor that has not completed (R433 to R443): its ring and index, its admission sailing, whether no
voyage context was free; what its 64 bytes said; whether it is past its fence, and the sailing its lead counts from; its
status and detail once it has ended, and the sailing of that end. For a RUN: arguments (argx: the block still to be
read), next step, steps completed, logical TEs it ran on, the carry-exposed and suspended marks, the sailing its staging
completed in. For a transfer: the list entry to be read next, the entry in hand (address, bytes left), entries and bytes
so far, whether the list ended, bytes handed to chunks and bytes observable, the image collected, and the destinations of
the chunks it moved last with that sailing. -/
structure Ctx where
  ring : Nat
  didx : Nat
  admitSail : Nat
  noVctx : Bool
  fetched : Bool
  op : Nat
  fence : Bool
  notify : Bool
  utag : Nat
  started : Bool
  from_ : Nat
  done : Option (Nat × Nat)
  doneSail : Nat
  vclass : Nat
  seed : Nat
  stg : Nat
  args : List Nat
  argx : Nat
  step : Nat
  steps : Nat
  nflags : Nat
  tes : List Nat
  exposed : Bool
  suspended : Bool
  staged : Option Nat
  late : Bool
  dir : Nat
  hva : Nat
  sgl : Nat
  ents : Nat
  cur : Option (Nat × Nat)
  listEnd : Bool
  total : Nat
  moved : Nat
  drained : Nat
  index : Nat
  img : Nat
  len : Nat
  image : List Byte
  lastMove : Nat
  lastDst : List (Nat × Nat)
  deriving DecidableEq, Repr

/-- A pool buffer in use: the chunk it carries (R437), its source and destination pieces in the tenant's virtual
addresses (none: an image), whether it is filled, whether its drain has gone out, its pool slot, and its place in its
transfer. -/
structure Chunk where
  ring : Nat
  buf : Nat
  didx : Nat
  src : List (Nat × Nat)
  dst : List (Nat × Nat)
  len : Nat
  filled : Bool
  sent : Bool
  slot : Nat
  off : Nat
  deriving DecidableEq, Repr

/-- The translations a ring's access keeps from its issue to its end (R228): the requester, write or read, the ranges, their physical
pieces. -/
structure DmaKept where
  who : List Nat
  wr : Bool
  ranges : List (Nat × Nat)
  pas : List (Nat × Nat)
  deriving DecidableEq, Repr

/-- A completion record on its way: the order it is issued in, its ring and its bytes (R444, R445). -/
structure CmpRec where
  ring : Nat
  didx : Nat
  status : Nat
  detail : Nat
  notify : Bool
  utag : Nat
  nflags : Nat
  info : Nat
  deriving DecidableEq, Repr

/-- All rings: the global numbers of those ON, in ERROR or DRAINING; admitted descriptors in admission order; chunks in
buffers; buffers granted for this sailing and not yet used; records due and those COMMIT could not take; CMP entries
promised; doorbells of the sailing in progress and the indices captured so far; held enables (R430); vectors due; the
messages that were due at C2 and did not leave within COMMIT (R30); the translations of accesses under way. -/
structure RingSt where
  live : List Nat
  ctxs : List Ctx
  chunks : List Chunk
  grants : NMap Nat
  due : List CmpRec
  spill : List CmpRec
  promised : NMap Nat
  db : NMap Nat
  caught : NMap Nat
  held : List Nat
  vecDue : List (Nat × Nat)
  vecSpill : List Out
  kept : List DmaKept
  deriving DecidableEq, Repr

/-! ### Translation (R222 to R243) -/

/-- A cached leaf translation (R227): size 1 GiB or 32 MiB. -/
structure TcEnt where
  tenant : Nat
  va : Nat
  big : Bool
  pa : Nat
  r : Bool
  w : Bool
  pinned : Bool
  way : Nat
  deriving DecidableEq, Repr

/-- A walk that has started and not ended (R224, R228): its cache, its tenant, its page, the level-1 entry once it was read, the class of
the access that caused it (R227). -/
structure WalkRec where
  cache : Nat
  tenant : Nat
  page : Nat
  l1 : Option Nat
  qc : Nat
  deriving DecidableEq, Repr

/-- A queued invalidation (R230): scope 0 PAGE, 1 TENANT, 2 ALL. -/
structure InvReq where
  scope : Nat
  vpn : Nat
  tenant : Nat
  seq : Nat
  deriving DecidableEq, Repr

/-- A fault record (R238); fresh: changed in the sailing in progress; seen: CAUSES, FLAGS, COUNT, LAST and REQ as the last C1
made them visible, empty while the record is not; edge: the same as the last boundary left them, where the C1 after it is to
make them visible (R239). -/
structure FqRec where
  tenant : Nat
  causes : Nat
  flags : Nat
  count : Nat
  vpage : Nat
  first : Nat
  last : Nat
  req : Nat
  fresh : Bool
  seen : List Nat
  edge : List Nat
  deriving DecidableEq, Repr

/-- Translation: the 65 caches; invalidation lanes and what overflowed them; acknowledgements due at I4; the fault queue;
tenants whose entries go at the next I1, all or the unpinned ones; contexts whose pinned pages are loaded; by context, the leaves of its pinned pages found so far; the ATC
(function and page: the translated page, read and write), requests of it outstanding, invalidations taken (ITag, function,
page), and those applied whose completion is still to be sent; the replacement trees of the caches' sets; the walks under way. An
acknowledgement due at I4 carries the entries its invalidations removed. The tags of host reads issued by an entry of the ATC, with the
entry (function and page); the ITags with the tags of reads that used an entry they removed (R242). -/
structure DtuSt where
  caches : NMap (List TcEnt)
  lanes : NMap (List InvReq)
  overfl : NMap (List InvReq)
  acks : List (Nat × Nat × List TcEnt)
  fq : List FqRec
  dropCtx : List Nat
  dropUnp : List Nat
  pinDone : List Nat
  pinGot : NMap (List TcEnt)
  atc : NMap Nat
  atsReq : List Nat
  atsInv : List (Nat × Nat × Nat)
  atsDone : List (Nat × Nat × Nat)
  trees : NMap Nat
  walks : List WalkRec
  atsUse : List (Nat × Nat)
  atsHold : List (Nat × Nat)
  deriving DecidableEq, Repr

/-! ### Memory (R173, R182, R188, R525, R551) -/

/-- A vault or Lararis line's metadata: its valid bit, its GEN bit, and the serial number of the key it was written
under (R188, R380, R552). A line with no entry is invalid (R485 marks every line so). -/
structure LineMeta where
  valid : Bool
  gen : Nat
  kid : Nat
  deriving DecidableEq, Repr

/-! ### Errors (R516 to R527) -/

/-- An error on its way to the error sequencer (R518). -/
structure ErrRep where
  cls : Nat
  block : Nat
  cause : Nat
  unit : Nat
  part : Option Nat
  vcause : Nat
  tenant : Option Nat
  addr : Option Nat
  sail : Nat
  twin : Bool
  deriving DecidableEq, Repr

/-- A record (R518): its SEQ, the report, HIDDEN, OVF, CAPTURE. -/
structure ErrRec where
  seq : Nat
  rep : ErrRep
  hidden : Bool
  ovf : Nat
  cap : Nat
  deriving DecidableEq, Repr

/-- A tenant's region marks (R526). -/
structure Marks where
  ranges : List (Nat × Nat)
  all : Bool
  deriving DecidableEq, Repr

/-- The error sequencer (R510 to R527): reports on their way, the three queues, the record being handled, the sequence number, the count of records not seen, the FATAL state, the marks of what failed and the table of invalid lines. -/
structure ErrSt where
  inbox : List ErrRep
  q0 : List ErrRec
  q1 : List ErrRec
  q2 : List ErrRec
  handling : Option ErrRec
  seq : Nat
  unseen : Nat
  vecDue : Bool
  last : List ErrRec
  fatal : Bool
  marks : NMap Marks
  invTable : List Nat
  deriving DecidableEq, Repr

/-! ### Coherence (R248 to R270) -/

/-- The state of a line in a caching agent (R250). -/
inductive CSt where
  | m | e | s | f | i | wbp | evp
  deriving DecidableEq, Repr

/-- A tile cache's copy: its state, its way, its data. -/
structure CLine where
  st : CSt
  way : Nat
  data : Line
  deriving DecidableEq, Repr

/-- A line in a caching way of its home slice: its data, whether it is modified, its way (R179 to R181). -/
structure LLine where
  data : Line
  dirty : Bool
  way : Nat
  deriving DecidableEq, Repr

/-- A snoop-filter entry (R265): OWNED or SHARED, FWD, and its way in the set. -/
structure FEnt where
  owned : Bool
  fwd : Option Nat
  way : Nat
  deriving DecidableEq, Repr

/-- Snoops (R256): SNP_S, SNP_CUR, SNP_I, SNP_BI. -/
inductive SnpK where
  | s | cur | i | bi
  deriving DecidableEq, Repr

/-- Requests a home serves (R251, R258), its own back-invalidations (R267), and the snoop that goes before an access of the
hub's own movers to a line a chiplet may hold. -/
inductive ReqK where
  | rds | rdo | upg | rdc | wri | wrp | bi
  | prep (k : SnpK)
  deriving DecidableEq, Repr

/-- A request at its home (R251, R281): line number, requester, tag, the data and byte mask of a write, ALLOC, whether
it came with a credit, its QoS class, its tenant (4096: none), the TCLK count at its injection, whether the fabric
damaged a write's data (R304). -/
structure CReq where
  kind : ReqK
  line : Nat
  req : Nat
  tag : Nat
  mask : Nat
  data : Line
  alloc : Bool
  credited : Bool
  qc : Nat
  ten : Nat
  ts : Nat
  dmg : Bool
  deriving DecidableEq, Repr

/-- An open transaction: BUSY holds its line (R260). The snoop's outcome field (R254), the stop it reaches next, the
slips that have not answered (SLIPPEND), the data in hand by R252's priority (3 DIRTY, 2 writeback, 1 CLEAN or
fetched, 0 none), announced SNP_DATA still to come, whether the grant is out and waits for COMP_ACK, the agents found
in WBP, those whose WB is still to come (R262), the line's filter entry when the request was accepted, whether a read
of the memory behind a slip is under way for it (R208), the number of its snoop's packet on the way to the stop it
reaches next (R287). -/
structure Txn where
  q : CReq
  snp : Option SnpK
  stop : Nat
  held : Bool
  dirty : Bool
  wbseen : Bool
  reqhold : Bool
  pend : Nat
  await : List Nat
  prio : Nat
  data : Line
  granted : Bool
  seen : List Nat
  owed : List Nat
  ent : Option FEnt
  fetch : Bool
  spid : Nat
  deriving DecidableEq, Repr

/-- A coherence message under way to a requester or an agent (R251): kind 0 DATA, 1 GNT, 2 RETRY, 3 WB_ACK, 4 SNP_DATA
to the home, 5 ERR to a chiplet with its cause as the data; the state granted; the data; the QoS class and the tenant of the
request that caused it (R281, R293); the number of its packet on the fabric; whether the fabric damaged its data (R304). -/
structure CMsg where
  kind : Nat
  agent : Nat
  line : Nat
  tag : Nat
  st : CSt
  credit : Bool
  dirty : Bool
  data : Line
  qc : Nat
  ten : Nat
  pid : Nat
  dmg : Bool
  deriving DecidableEq, Repr

/-- A stream tracker (R198): its slice, source (requester and, behind PCIe, tenant), 64 KiB window, the last read's line, its
direction (0 none, 1 ascending, 2 descending), reads in that direction. -/
structure Tracker where
  slice : Nat
  src : Nat
  ten : Nat
  win : Nat
  last : Nat
  dir : Nat
  run : Nat
  deriving DecidableEq, Repr

/-- A line whose copies have been snooped for a mover's access that has not happened yet: the agent, the line, the snoop it sent,
the CLEAN data that came with it (R252). -/
structure Prep where
  agent : Nat
  line : Nat
  snp : SnpK
  clean : Option Line
  deriving DecidableEq, Repr

/-- The coherence engine (R248 to R276): the lines that caching agents hold, the LLC and the snoop filter with their
replacement trees, the homes' transactions and queues, credits, the messages on their way, the stream trackers, and
the lines whose copies have been snooped for a mover's access that has not happened yet. -/
structure CohSt where
  agents : NMap CLine
  plru : NMap Nat
  llc : NMap LLine
  lplru : NMap Nat
  filter : NMap FEnt
  fplru : NMap Nat
  txns : NMap Txn
  queue : List CReq
  credits : List (Nat × Nat)
  held : List (Nat × Nat)
  msgs : List CMsg
  trackers : List Tracker
  preps : List Prep
  deriving DecidableEq, Repr

/-! ### Accesses to other nodes -/

/-- A read of another node on behalf of a requester: who it is for, its address and length, the bytes so far, its
requests still out (tag, offset, bytes), those that wait for a tag (offset, bytes; R407), and its end: 0 under way, 1 done,
2 failed (its data then the PCI_ERR code of a host read), 3 ended without data by the teardown of its function (R417). -/
structure RRead where
  who : List Nat
  pa : Nat
  len : Nat
  func : Nat
  data : List Byte
  left : List (Nat × Nat × Nat)
  wait : List (Nat × Nat)
  st : Nat
  deriving DecidableEq, Repr

/-- A write of another node that is not yet acknowledged: who it is for, its tag and address, the sailing it left in. -/
structure RWrite where
  who : List Nat
  tag : Nat
  pa : Nat
  sail : Nat
  deriving DecidableEq, Repr

/-- Vault and cache repair state (R181, R189): fenced rows (vault, channel, bank, row), failed ways to be replaced at the
next I2 (slice, way), row repairs that take effect at the next I2, rows that spare rows replace (each spare row counts, R508),
vaults a canary holds in the doubled regime (R509), and vault refresh regimes due at the next I0 (R190); LLC ways that cache
no more, failed or moved to a reserved way's duty (slice, way; R181); which stacks' addresses are absent (R388 to R390); the keys of the owners' two slots and the number of keys made (R551); reads and writes
of other nodes, and the next tag of a write. -/
structure HeapSt where
  fenced : List (Nat × Nat × Nat × Nat)
  wayDue : List (Nat × Nat)
  rowDue : List (Nat × Nat × Nat × Nat)
  repaired : List (Nat × Nat × Nat × Nat)
  short : List Nat
  regimeDue : NMap Nat
  waysOff : List (Nat × Nat)
  absent : List Nat
  keys : NMap (Option Nat × Option Nat)
  keySeq : Nat
  remReads : List RRead
  remWrites : List RWrite
  nextTag : Nat
  deriving DecidableEq, Repr

/-! ### The fabric, its tolls, its sleep (R277 to R309, R326 to R348) -/

/-- A message header (R281): class, opcode, QoS class, destination and source routers, requester ID, tag, line address PA[51:7],
tenant (bit 12: none), TS, AUX, whether a D flit and a mask slot belong to it. -/
structure FabHdr where
  cls : Nat
  op : Nat
  qc : Nat
  dst : Nat
  src : Nat
  rid : Nat
  tag : Nat
  addr : Nat
  ten : Nat
  ts : Nat
  aux : Nat
  df : Bool
  masked : Bool
  deriving DecidableEq, Repr

/-- A packet on the fabric: its number, its header, the dimension it moves in (0 X, 1 Y, 2 neither) and whether on its
class's upper VC (R286), the FCLK cycles it has waited at the router that holds it (R291), what its mask slot and its
D flit hold (R284), whether that flit is damaged (R304). -/
structure Pkt where
  id : Nat
  hdr : FabHdr
  dim : Nat
  up : Bool
  wait : Nat
  mask : Nat
  data : Line
  dmg : Bool
  deriving DecidableEq, Repr

/-- A flit in a buffer (R280): a C flit with the headers it still holds, or the D flit of a packet. -/
inductive FFlit where
  | c (slots : List Pkt)
  | d (p : Pkt)
  deriving DecidableEq, Repr

/-- The network of routers and links: the next packet number, the numbers under way, packets waiting at their source
routers, the input buffers by router, port and VC (12 (8r + port) + VC; R285), the D flits an output still owes on a
VC, with the buffer each comes from (12 (8r + port) + VC; R284), packets at their destination whose D flit has not
come, the last flits sent on each link with their control words (8r + port, newest last; R280, R301). -/
structure NetSt where
  next : Nat
  live : List Nat
  inj : List (Nat × Pkt)
  bufs : NMap (List FFlit)
  due : NMap (List (Pkt × Nat))
  await : List Nat
  sent : NMap (List (FFlit × Nat))
  deriving DecidableEq, Repr

/-- A message of the fabric on its way to a router (R281, R282): kind 0 MDATA, 1 MWR_ACK, 2 ERR, 3 PARTITION_RESET, 4
REG_RSP, 5 REG_ACK; its destination, tag, line, ERR's cause, data; its source router, QoS class and tenant, the number
of its packet, whether its data is damaged (R304), the requester it answers. -/
structure FMsg where
  kind : Nat
  dst : Nat
  tag : Nat
  line : Nat
  cause : Nat
  data : Line
  src : Nat
  qc : Nat
  ten : Nat
  pid : Nat
  dmg : Bool
  rid : Nat
  deriving DecidableEq, Repr

/-- A memory read or write as its controller gets it (R282): the router that asks, the address, the tag, the requester
and class of the request that caused it (R293), its tenant; for a write its mask, its data and whether the fabric
damaged it (R304); for a read what the controller's code finds in the line; the TCLK count at its injection. -/
structure MemReq where
  src : Nat
  pa : Nat
  tag : Nat
  rid : Nat
  qc : Nat
  ten : Nat
  write : Bool
  ecc : Nat
  mask : Nat
  data : Line
  dmg : Bool
  ts : Nat
  deriving DecidableEq, Repr

/-- A register write on its way to its block or held at the block's router (R315): block, offset, bytes, value, the router and the
tag that its answer goes to. -/
structure RegReq where
  block : Nat
  off : Nat
  size : Nat
  value : Nat
  src : Nat
  tag : Nat
  deriving DecidableEq, Repr

/-- A packet for a home, a controller or a block, on its way or held for a sleeping domain (R298): a request, a writeback (its tag,
its data, whether the fabric damaged it), the drop of a clean copy, COMP_ACK, a slip's SNP_RSP (HELD, DIRTY, whether data comes,
WBSEEN, REQHOLD), a memory access, a register write. -/
inductive HPkt where
  | req (q : CReq)
  | wb (agent tag pa : Nat) (data : Line) (dmg : Bool)
  | evct (agent tag pa : Nat)
  | compAck (req pa : Nat)
  | snpRsp (slip pa : Nat) (held dirty sends wbseen reqhold : Bool)
  | mem (m : MemReq)
  | reg (r : RegReq)
  deriving DecidableEq, Repr

/-- The fabric: toll buckets by pair (4p + q: level in units of 2⁻¹⁶ byte, the TCLK cycle it was brought up to;
unlisted ones are full), requests held at their tolls, queue levels by controller (0 to 63 vaults, 64 to 71 Lararis
ports), the latency samples of this sailing and of the one closed last, by pair (sum, count), messages under way,
register writes in flight, one for each block, with whether the block has taken it, and what waits behind them,
failures in a row and retrains of this sailing by link (8r + port), FAILED links, a routing table switch due at I2,
whole sailings a domain has been idle, domains used in this sailing, packets held for a sleeping domain (how many, and
those for homes), packets for homes, controllers and blocks under way (by the packet's number), the capacities C_r the
guarantees were last fitted to, those of the ports and links when the last sailing closed, whether one fell in this
sailing and in one closed since (R338), a lost LLC way to record, counts to wipe at the next boundary because
confidential mode ended, the network, and the movers that wait at a toll (who, pair, lines paid for, requests of the
pair held before it; R294), and the pairs of clock domains of which one entered reset and that have not both reported ready
since (R321, R322). -/
structure FabSt where
  buckets : NMap (Int × Nat)
  tolled : List CReq
  levels : NMap Nat
  samples : NMap (Nat × Nat)
  closed : NMap (Nat × Nat)
  msgs : List FMsg
  regBusy : List (RegReq × Bool)
  regHeld : List RegReq
  crc : NMap Nat
  retrains : NMap Nat
  failed : List Nat
  routeDue : Bool
  idle : NMap Nat
  used : List Nat
  held : NMap Nat
  parked : List (Nat × HPkt)
  air : List (Nat × HPkt)
  caps : NMap Nat
  capsEnd : NMap Nat
  lossSeen : Bool
  lossDue : Bool
  wayLost : Bool
  wipe : Bool
  net : NetSt
  movers : List (List Nat × Nat × Nat × Nat)
  fords : List (Nat × Nat)
  deriving DecidableEq, Repr

/-! ### Slips (R349 to R373) -/

/-- A header received and not yet delivered (R358, R360), a new request's with the translation it got on receipt (R365): the
ERR cause that answers it, or the hub address, class and tenant it goes with. -/
structure OHdr where
  cls : Nat
  op : Nat
  tag : Nat
  addr : Nat
  aux : Nat
  df : Bool
  masked : Bool
  mask : Nat
  err : Option Nat
  pa : Nat
  qc : Nat
  ten : Nat
  deriving DecidableEq, Repr

/-- A new request of a chiplet, translated on receipt (R364, R365): its request, its chiplet address, the ERR cause that
answers it, or the hub address it goes to. -/
structure SReq where
  kind : ReqK
  caddr : Nat
  tag : Nat
  mask : Nat
  data : Line
  alloc : Bool
  credit : Bool
  err : Option Nat
  pa : Nat
  qc : Nat
  ten : Nat
  deriving DecidableEq, Repr

/-- A header that waits to be sent over a slip (R357, R360): its 128 bits, a mask slot, its line. -/
structure OspHead where
  bits : Nat
  mask : Nat
  data : Option Line
  deriving DecidableEq, Repr

/-- The hub's own flits on a slip (R355 to R359): the next FSEQ, the flits kept until they are acknowledged, headers that wait, the
data stream's bytes that no flit has taken; credits the hub holds, those the chiplet holds, those to be returned to it, each by class
REQ, SNP, RSP, DAT, WB and by request and response pool; whether a flit has come that is to be acknowledged. -/
structure OspTx where
  seq : Nat
  kept : List (Nat × List Byte)
  heads : List OspHead
  bytes : List Byte
  cred : List Nat
  adv : List Nat
  give : List Nat
  got : Bool
  owed : Bool
  deriving DecidableEq, Repr

/-- A slip: the next FSEQ expected, whether REPLAY was sent for it and flits are discarded until it arrives, failures
of it in a row; a WRP header that waits for its mask slot; headers that wait for their lines and the data stream's
bytes that no line has taken; requests in the adapter; retrains in this sailing; a RETRAIN that waits for the line
work of R270, and whether that work is done; UP and absence due at the next I2; whether the node is absent; the
chiplet addresses of its requests by tag; its sending side; the settings it was trained to (R480). -/
structure SlipSt where
  rxSeq : Nat
  skip : Bool
  fails : Nat
  maskDue : Option OHdr
  hdrs : List OHdr
  bytes : List Byte
  queue : List SReq
  retrains : Nat
  retry : Bool
  cleaned : Bool
  upDue : Bool
  goneDue : Bool
  gone : Bool
  sent : NMap Nat
  tx : OspTx
  settings : Nat
  deriving DecidableEq, Repr

/-! ### Lararis ports (R374 to R393) -/

/-- A Lararis port: the copy that runs (failing channel, target), channels that wait for one, take-overs due at the next I2
(channel, target, copied), channels that passed their retrain, channels to become LOST, sensor reads unanswered in a row,
the regime due at the next I0, the stack's addresses to become absent or present at the next I2, corrected errors by channel in
the patrol pass that runs, how the retrain that LRS_RET_CH asks for ends; the serial number the stack's identity record gave
when it was trained and the settings it was trained to (R375, R383). -/
structure LrsSt where
  copy : Option (Nat × Nat)
  queue : List Nat
  takeDue : List (Nat × Nat × Bool)
  freeDue : List Nat
  lostDue : List Nat
  unread : Nat
  regimeDue : Option Nat
  goneDue : Bool
  backDue : Bool
  passCe : NMap Nat
  retPass : Option Bool
  serial : Nat
  settings : Nat
  deriving DecidableEq, Repr

/-! ### The host endpoint (R394 to R427) -/

/-- Requests of the host: to PF0 BAR0, a doorbell, to PF0 BAR2, to configuration space; and configuration writes by what they
ask for: the reset of a VF or of PF0, VF Enable cleared or set, D3hot. -/
inductive HReqK where
  | bar0 | bell | bar2 | cfg | flr | pfFlr | vfOff | vfOn | d3hot
  deriving DecidableEq, Repr

/-- A request of the host (R402, R403): its function, offset, direction, length in bytes, tag, data, poison,
the IDE T bit. -/
structure HostReq where
  kind : HReqK
  fn : Nat
  off : Nat
  write : Bool
  len : Nat
  tag : Nat
  data : List Byte
  poison : Bool
  tbit : Bool
  deriving DecidableEq, Repr

/-- The PCIe controller: configuration space by function and double word, requests stalled in QUIET (R38), quarantined
tags and whether a late piece of each was logged (R411), reads whose completions are discarded (R418; tag, bytes still
expected, and the function a failure of it is still reported for), PERST#, whether the link trains, the VFs SR-IOV has enabled (R399), the width the link trained to, and the twelve bits per lane and phase the
VSEC shows (R400). -/
structure PciSt where
  cfg : NMap Nat
  stalled : List HostReq
  quar : List (Nat × Bool)
  orphan : List (Nat × Nat × Option Nat)
  perst : Bool
  training : Bool
  vfs : Nat
  width : Nat
  eq128 : Nat
  deriving DecidableEq, Repr

/-! ### Pins (R592, R600) -/

/-- HUB_FAULT_N and THERM_TRIP_N asserted; slips held in UCIe link reset and stacks held by their reset lines, as masks;
the level of HB_OUT. -/
structure PinSt where
  fault : Bool
  therm : Bool
  slipRst : Nat
  lrsRst : Nat
  hb : Bool
  deriving DecidableEq, Repr

/-! ### Flash and bring-up (R471 to R491) -/

/-- A flash record (R487): its SEQ, the Device Serial Number it names, its content as numbered values, its bytes. A copy
whose check fails is no record. -/
structure FRec where
  seq : Nat
  dsn : Nat
  vals : NMap Nat
  bytes : List Byte
  deriving DecidableEq, Repr

/-- The two copies of a record. -/
structure FPair where
  a : Option FRec
  b : Option FRec
  deriving DecidableEq, Repr

/-- A record of the margin ledger (R509): unit, monitor (0 path, 1 ring oscillator, 2 canary, 3 eye, 4 guard band, 5 a channel without a canary), value,
VDD_ENG, temperature, sailing. -/
structure Ledger where
  unit : Nat
  monitor : Nat
  value : Nat
  veng : Nat
  temp : Nat
  sail : Nat
  deriving DecidableEq, Repr

/-- The SPI flash (R486): the firmware region, the saved manifest, the training record, the repair map, the margin
ledger and the channels on the weak list (R484), the user region, whether it holds 256 MiB and takes every write. It keeps its content
without power. -/
structure FlashSt where
  fw : List Byte
  saved : FPair
  train : FPair
  repair : FPair
  ledger : List Ledger
  weak : List Nat
  user : List Host.Cell
  good : Bool
  deriving DecidableEq, Repr

/-- Bring-up: whether the boot ROM runs (and no firmware), whether this pass restarted at TRAIN (R491), the sailing in
which COMPARE ended with agreement (R489), whether the twin window is open (R481), DISCOVER ended, the twin's serial
number as DISCOVER read it, the sailing of the warm handoff scheduled, whether one is in progress (R530), whether the
watchdog restarted the controller and whether its image is new to it when it resumes (R528). -/
structure BrgSt where
  rom : Bool
  restarted : Bool
  agreed : Option Nat
  window : Bool
  discovered : Bool
  peer : Nat
  handoff : Option Nat
  handing : Bool
  wdog : Bool
  fwNew : Bool
  deriving DecidableEq, Repr

/-! ### Power, energy and ageing (R496 to R510) -/

/-- Power state beyond the registers: a meter has failed its check (R500); partitions with the sailing at whose I0 their
lean variant begins (R501); the sailing at whose I0 the force begins, sailings it has lasted, whether every partition kept
within its declaration in the sailing closed last (R502); partitions lean by energy and by temperature alone, ends of lean
operation firmware has decided (R503, R507, R510); the guard step due (R505); the temperature regime due at the next I0
(R507); survey items running, the lowest slack code of this survey, consecutive surveys with every slack at 6 or more (R508,
R509). -/
structure PwrSt where
  meterBad : Bool
  leanDue : NMap Nat
  forceDue : Option Nat
  forceRun : Nat
  within : Bool
  byEnergy : List Nat
  byTemp : List Nat
  endDue : List Nat
  guardDue : Int
  thermDue : Nat
  running : List (Nat × Nat)
  slack : Option Nat
  highRun : Nat
  deriving DecidableEq, Repr

/-! ### The twin pair (R531 to R540) -/

/-- An entry of a ferry (R535). -/
structure FEntry where
  typ : Nat
  part : Nat
  key : Nat
  data : List Byte
  deriving DecidableEq, Repr

/-- A whole ferry: its sailing and its entries. -/
structure Ferry where
  sail : Nat
  entries : List FEntry
  deriving DecidableEq, Repr

/-- The twin pair: the peer's HELLO passed and keys agreed (R531); partitions being copied with the next line to send, and
those that take nothing in until their switch (R534); the ferry of the sailing in progress, its bytes and whether intake is
held back (R535, R536); entries received since the last END, the backlog, the ferry this sailing runs (R537); outputs
retained by sailing; digests of the hub's own runs and the peer's, by partition and timetable sailing (R538); frames sent
and not acknowledged, and the next frame numbers; outputs to be reissued at the first COMMIT after a takeover (R540); whether the peer's
heartbeat toggled; the shadow's own overruns for the next ACK (R504); what the sailing's STOREs and COPY entries of paired
partitions wrote so far, by logical TE and by 65536 (p + 1) plus the entry's place (R538); the settings the link was trained to (R480). -/
structure TwinSt where
  hello : Bool
  keyed : Bool
  copy : NMap Nat
  drain : List Nat
  out : List FEntry
  bytes : Nat
  hold : Bool
  rx : List FEntry
  backlog : List Ferry
  running : Option Ferry
  base : NMap Nat
  mism : List Nat
  retained : List (Nat × Out)
  mine : List (Nat × Nat × Nat)
  peer : List (Nat × Nat × Nat)
  unacked : Nat
  takeover : Bool
  hbSeen : Bool
  overfl : List Nat
  stores : NMap (List Byte)
  settings : Nat
  deriving DecidableEq, Repr

/-! ### Security, life cycle and debug (R547 to R589) -/

/-- A tenant's running measurement (R571): its range, its slot, the digest once the range has been read. -/
structure Tmeas where
  va : Nat
  len : Nat
  slot : Nat
  deriving DecidableEq, Repr

/-- Saldon: rotations and retirements due at the next I2; sweeps by owner with the bytes of the carve-up covered, and
those whose last line is written with that sailing (R554 to R556); tenants torn down since the last I0 and those this
INTAKE handles (R417); scrubs by owner with the bytes overwritten, and those whose last write is observable (R565);
owners that wait for a key (R553); weight-slot digests by tenant and slot, those due at the next I0, measurements that
run (R571); IDE streams in the Secure state, the stream, the T bit and START nonce of each TDI (R557); the message the
last signed SPDM response covered (R568), sessions, numbers drawn, the digest and the SVN that blocks 0x02 and 0x03
show, and those they show from the next I0 (R569); how far this RUN's share of sweeps and scrubs is reckoned: to which
TCLK count, eighths of cycles at the toll scales in force, bytes of sweeps and of scrubs moved (R334, R555, R565). -/
structure SecSt where
  rotate : List Nat
  retire : List Nat
  sweeps : NMap Nat
  swept : NMap Nat
  tear : List Nat
  tearNow : List Nat
  scrubs : NMap Nat
  scrubbed : List Nat
  keysDue : List Nat
  wgt : NMap Nat
  wgtDue : List (Nat × Nat × Option Nat)
  tmeas : NMap Tmeas
  ide : List Nat
  stream : NMap Nat
  nonce : NMap Nat
  signed : Option (List Byte)
  sessions : NMap Nat
  draws : Nat
  fwMeas : Nat
  fwSvn : Nat
  fwDue : Option (Nat × Nat)
  cleanAt : Nat
  cleanCr : Nat
  cleanRot : Nat
  cleanScr : Nat
  deriving DecidableEq, Repr

/-- The fuses (R576, R578, R583, R550): the life-cycle field, key digests, token digests, subsystem IDs, SVN floors,
the secrets UDS and FSEC, the serial number, the DeviceID certificates' presence, VMIN, the factory repair (R482).
They keep their value across HUB_RST_N and the loss of all supplies. -/
structure FuseSt where
  lc : Nat
  manEd : Nat
  manMl : Nat
  dbgEd : Nat
  dbgMl : Nat
  tokInt : Nat
  tokFld : Nat
  tokRet : Nat
  tokScr : Nat
  subsys : Nat
  manSvn : Nat
  fwSvn : Nat
  uds : Nat
  fsec : Nat
  serial : Nat
  certs : Bool
  vmin : Nat
  mfr : Nat
  factory : NMap Nat
  deriving DecidableEq, Repr

/-- The TAP (R587): the instruction selected and the nonce LCS holds (R586); the trace buffers (R560). -/
structure TapSt where
  ir : Nat
  nonce : Option (List Byte)
  trace : List Byte
  deriving DecidableEq, Repr

/-! ### The whole state -/

/-- The state of the hub. regs: registers by key, unlisted ones at their value after HUB_RST_N; shadow: waiting writes
of B-class bits, value and mask (R11); mem: the bytes of the local map and their canonical form, unlisted bytes 0;
lmeta: line metadata by line number; holds: hold bytes by physical TE and address (R80). fresh counts the free values
taken and nothing else (the model's own field). -/
structure State where
  pending : List Instr
  fresh : Nat
  out : List Out
  regs : NMap Word
  shadow : NMap (Word × Word)
  time : TimeSt
  intake : IntakeSt
  man : ManSt
  parts : NMap PartSt
  te : NMap TeSt
  phys : NMap PhysSt
  holds : List Host.Cell
  mem : List Host.Cell
  lmeta : NMap LineMeta
  progs : NMap Prog
  loads : List ProgLoad
  ended : List LegEnd
  endedPrev : List LegEnd
  bars : List BarSt
  copies : List CopyX
  deferred : List LegEnd
  rings : RingSt
  dtu : DtuSt
  err : ErrSt
  coh : CohSt
  heap : HeapSt
  fab : FabSt
  slips : NMap SlipSt
  lrs : NMap LrsSt
  pci : PciSt
  pins : PinSt
  flash : FlashSt
  brg : BrgSt
  pwr : PwrSt
  twin : TwinSt
  sec : SecSt
  fuses : FuseSt
  tap : TapSt
  deriving DecidableEq, Repr

/-- The state right after HUB_RST_N. -/
def State.reset : State where
  pending := []
  fresh := 0
  out := []
  regs := []
  shadow := []
  time := ⟨0, 0, .quiet, 0, false⟩
  intake := ⟨[], [], [], []⟩
  man := ⟨none, none, [], none, false, none⟩
  parts := []
  te := []
  phys := []
  holds := []
  mem := []
  lmeta := []
  progs := []
  loads := []
  ended := []
  endedPrev := []
  bars := []
  copies := []
  deferred := []
  rings := ⟨[], [], [], [], [], [], [], [], [], [], [], [], []⟩
  dtu := ⟨[], [], [], [], [], [], [], [], [], [], [], [], [], [], [], [], []⟩
  err := ⟨[], [], [], [], none, 0, 0, false, [], false, [], []⟩
  coh := ⟨[], [], [], [], [], [], [], [], [], [], [], [], []⟩
  heap := ⟨[], [], [], [], [], [], [], [], [], 0, [], [], 0⟩
  fab := ⟨[], [], [], [], [], [], [], [], [], [], [], false, [], [], [], [], [], [], [], false, false, false, false, ⟨1, [], [], [], [], [], []⟩, [], []⟩
  slips := []
  lrs := []
  pci := ⟨[], [], [], [], true, false, 0, 0, 0⟩
  pins := ⟨false, false, 255, 255, false⟩
  flash := ⟨[], ⟨none, none⟩, ⟨none, none⟩, ⟨none, none⟩, [], [], [], true⟩
  brg := ⟨true, false, none, false, false, 0, none, false, false, false⟩
  pwr := ⟨false, [], none, 0, true, [], [], [], 0, 0, [], none, 0⟩
  twin := ⟨false, false, [], [], [], 0, false, [], [], none, [], [], [], [], [], 0, false, false, [], [], 0⟩
  sec := ⟨[], [], [], [], [], [], [], [], [], [], [], [], [], [], [], none, [], 0, 0, 0, none, 0, 0, 0, 0⟩
  fuses := ⟨0, 0, 0, 0, 0, 0, 0, 0, 0, 0, 0, 0, 0, 0, 0, false, 0, 0, []⟩
  tap := ⟨0x01, none, []⟩

end Sys2Proof.Machine
end

