-- ==== Sys2Proof/Machine/Operands.lean ====
section
/-! DEFINITION. The program image and the instruction word (R109 to R130): reading the bytes of an image, the fields of
every class, and the addresses an instruction's operands name (R111, R112, R119, R121). -/

namespace Sys2Proof.Machine

/-! ### The image (R109 to R115) -/

/-- A region entry of 32 bytes (R111). -/
def regionOf (b : List Byte) : Region :=
  ⟨leAt b 0 7, leAt b 7 1, leAt b 8 8, leAt b 16 8, leAt b 24 1⟩

/-- A geometry entry of 32 bytes (R114). -/
def geoOf (b : List Byte) : Geo :=
  ⟨leAt b 0 2, leAt b 2 1, leAt b 4 4, leAt b 8 8, signed 64 (leAt b 16 8), leAt b 24 4, signed 32 (leAt b 28 4)⟩

/-- n records of m bytes from offset o. -/
def records (b : List Byte) (o m n : Nat) : List (List Byte) := (List.range n).map (fun i => slice b (o + i * m) m)

/-- The header fields of an image (R110). -/
structure ImgHdr where
  magic : Nat
  version : Nat
  ninstr : Nat
  bound : Nat
  nregion : Nat
  ngeo : Nat
  ngroup : Nat
  modes : Nat
  deriving DecidableEq, Repr

def imgHdr (b : List Byte) : ImgHdr :=
  ⟨leAt b 0 4, leAt b 4 2, leAt b 8 4, leAt b 12 4, leAt b 16 1, leAt b 17 1, leAt b 18 1, leAt b 20 4⟩

/-- The bytes "JLEG" as a number. -/
def jleg : Nat := 0x47454C4A

/-- The length R109 gives an image with these counts. -/
def imgLen (h : ImgHdr) : Nat := 128 + 32 * h.nregion + 32 * h.ngeo + 32 * h.ngroup + 16 * h.ninstr

/-- The parts of an image. -/
def progOf (b : List Byte) (digest : Nat) : Prog :=
  let h := imgHdr b
  let o1 := 128 + 32 * h.nregion
  let o2 := o1 + 32 * h.ngeo
  let o3 := o2 + 32 * h.ngroup
  { digest := digest, size := b.length, bound := h.bound, modes := h.modes,
    regions := (records b 128 32 h.nregion).map regionOf,
    geos := (records b o1 32 h.ngeo).map geoOf,
    groups := (records b o2 32 h.ngroup).map leNat,
    words := (records b o3 16 h.ninstr).map leNat,
    carryReading := false, image := b }

/-! ### Attributes of a region (R111) -/

def Region.canRead (r : Region) : Bool := bitOf r.attr 0
def Region.canWrite (r : Region) : Bool := bitOf r.attr 1
def Region.isWeight (r : Region) : Bool := bitOf r.attr 2
def Region.isCarry (r : Region) : Bool := bitOf r.attr 3

/-! ### The common fields (R116) -/

def insClass (w : Nat) : Nat := bitsOf w 124 4
def insPsel (w : Nat) : Nat := bitsOf w 121 3
def insPneg (w : Nat) : Nat := bitsOf w 120 1

/-- The OP field of every class but VEC. -/
def insOp (w : Nat) : Nat := bitsOf w 116 4

/-- VEC's FUNC and TYPE (R123). -/
def vecFunc (w : Nat) : Nat := bitsOf w 114 6
def vecInt (w : Nat) : Bool := bitOf w 113

/-! ### MOV (R118) -/

structure MovI where
  op : Nat
  reg : Nat
  geo : Nat
  haddr : Nat
  off : Nat
  hsrc : Nat
  cache : Nat
  rsv : Nat
  deriving DecidableEq, Repr

def movI (w : Nat) : MovI :=
  ⟨insOp w, bitsOf w 111 5, bitsOf w 105 6, bitsOf w 90 15, bitsOf w 50 40, bitsOf w 35 15, bitsOf w 33 2, bitsOf w 0 33⟩

/-! ### MMA (R120) -/

structure MmaI where
  op : Nat
  wfmt : Nat
  afmt : Nat
  reg : Nat
  woff : Nat
  bcnt : Nat
  p : Nat
  act : Nat
  apitch : Nat
  dst : Nat
  lvl : Nat
  step : Nat
  rsv : Nat
  deriving DecidableEq, Repr

def mmaI (w : Nat) : MmaI :=
  ⟨insOp w, bitsOf w 112 4, bitsOf w 110 2, bitsOf w 105 5, bitsOf w 73 32, bitsOf w 57 16, bitsOf w 53 4 + 1,
   bitsOf w 38 15, bitsOf w 23 15, bitsOf w 8 15, bitsOf w 6 2, bitsOf w 4 2, bitsOf w 0 4⟩

/-- The mode of an MMA, for every OP (R110). -/
def MmaI.mode (m : MmaI) : Option (Nat × Mode) :=
  match WFmt.ofCode m.wfmt, AFmt.ofCode m.afmt with
  | some wf, some af => modeOf wf af
  | _, _ => none

/-! ### VEC (R123) -/

structure VecI where
  func : Nat
  int : Bool
  vd : Nat
  va : Nat
  vb : Nat
  vc : Nat
  immb : Bool
  imm : Nat
  haddr : Nat
  lvl : Nat
  hstep : Nat
  sidx : Nat
  rsv : Nat
  deriving DecidableEq, Repr

def vecI (w : Nat) : VecI :=
  ⟨vecFunc w, vecInt w, bitsOf w 107 6, bitsOf w 101 6, bitsOf w 95 6, bitsOf w 89 6, bitOf w 88, bitsOf w 56 32,
   bitsOf w 41 15, bitsOf w 39 2, bitsOf w 24 15, bitsOf w 16 8, bitsOf w 0 16⟩

/-! ### CVT (R125) -/

structure CvtI where
  op : Nat
  sfmt : Nat
  dfmt : Nat
  src : Nat
  dst : Nat
  scl : Nat
  n : Nat
  lvl : Nat
  sstep : Nat
  dstep : Nat
  rsv : Nat
  deriving DecidableEq, Repr

def cvtI (w : Nat) : CvtI :=
  ⟨insOp w, bitsOf w 112 4, bitsOf w 108 4, bitsOf w 93 15, bitsOf w 78 15, bitsOf w 63 15, bitsOf w 43 20, bitsOf w 41 2,
   bitsOf w 26 15, bitsOf w 11 15, bitsOf w 0 11⟩

/-! ### RED (R127) -/

structure RedI where
  op : Nat
  src : Nat
  dst : Nat
  n : Nat
  k : Nat
  eps : Nat
  wadr : Nat
  badr : Nat
  rsv : Nat
  deriving DecidableEq, Repr

def redI (w : Nat) : RedI :=
  ⟨insOp w, bitsOf w 101 15, bitsOf w 86 15, bitsOf w 66 20, bitsOf w 60 6 + 1, bitsOf w 45 15, bitsOf w 30 15,
   bitsOf w 15 15, bitsOf w 0 15⟩

/-! ### SYNC, LOOP, PRED (R128) -/

structure SyncI where
  op : Nat
  group : Nat
  bid : Nat
  rsv : Nat
  deriving DecidableEq, Repr

def syncI (w : Nat) : SyncI := ⟨insOp w, bitsOf w 113 3, bitsOf w 105 8, bitsOf w 0 105⟩

structure LoopI where
  op : Nat
  lvl : Nat
  body : Nat
  max : Nat
  src : Bool
  haddr : Nat
  word : Nat
  rsv : Nat
  deriving DecidableEq, Repr

def loopI (w : Nat) : LoopI :=
  ⟨insOp w, bitsOf w 114 2, bitsOf w 100 14, bitsOf w 80 20, bitOf w 79, bitsOf w 64 15, bitsOf w 60 4, bitsOf w 0 60⟩

structure PredI where
  op : Nat
  pd : Nat
  pa : Nat
  pb : Nat
  cond : Nat
  fp : Bool
  haddr : Nat
  word : Nat
  vreg : Nat
  lane : Nat
  imm : Nat
  rsv : Nat
  deriving DecidableEq, Repr

def predI (w : Nat) : PredI :=
  ⟨insOp w, bitsOf w 113 3, bitsOf w 110 3, bitsOf w 107 3, bitsOf w 104 3, bitOf w 103, bitsOf w 88 15, bitsOf w 84 4,
   bitsOf w 78 6, bitsOf w 72 6, bitsOf w 40 32, bitsOf w 0 40⟩

/-! ### Operand addresses -/

/-- The base of a region for a TE of a rank (R111, R112): its own base address. -/
def Region.ownBase (r : Region) (args : List Nat) (rank : Nat) : Nat :=
  (if r.arg = 0 then r.base else args.getD (r.arg - 1) 0 + r.base) + rank * r.stride

/-- The counter of a loop level; 0 where no loop of that level runs. -/
def ctrOf (loops : List LoopX) (lvl : Nat) : Nat :=
  match loops.find? (fun l => l.lvl = lvl) with
  | some l => l.ctr
  | none => 0

/-- A MOV's rows in iteration c: region offset (or hold source), hold address, bytes (R119). -/
def movRows (m : MovI) (g : Geo) (c : Nat) : List (Int × Int × Nat) :=
  let memBase : Int := if m.op = 2 then (m.hsrc * 64 : Nat) else (m.off * 64 : Nat)
  (List.range g.rows).map (fun i =>
    (memBase + c * g.mstep + (i * g.mpitch : Nat), (m.haddr * 64 : Nat) + c * g.hstep + (i * g.hpitch : Nat), g.rbytes))

/-- Whether a MOV steps, and its iteration (R119). -/
def movIter (g : Geo) (loops : List LoopX) : Nat := if g.lvl = 0xFF then 0 else ctrOf loops g.lvl

/-- The stepped operands of an MMA in iteration c: first block in units of 512 bytes, ACT byte, DST byte (R121). The
activation width is in bits, so that A4 counts half a byte. -/
def mmaStep (m : MmaI) (md : Mode) (abits c : Nat) : Nat × Nat × Nat :=
  let w := if m.step = 0 then m.woff else m.woff + c * m.bcnt * md.size / 512
  let a := if m.step = 2 then m.act * 64 + c * m.bcnt * md.k * abits / 8 else m.act * 64
  let d := if m.step = 1 then m.dst * 64 + c * m.p * md.n * 4 else m.dst * 64
  (w, a, d)

/-- The hold bytes an MMA's activations span, from ACT. -/
def actSpan (m : MmaI) (md : Mode) (abits : Nat) : Nat := (m.p - 1) * m.apitch * 64 + ceilDiv (m.bcnt * md.k * abits) 8

/-- The hold address of a VEC LD or ST (R123). -/
def vecHold (v : VecI) (loops : List LoopX) : Nat := (v.haddr + ctrOf loops v.lvl * v.hstep) * 64

/-- Two half-open ranges meet. -/
def meets (a alen b blen : Nat) : Bool := decide (a < b + blen) && decide (b < a + alen)

/-! ### Program control (R129) -/

/-- Where control goes after the instruction at pc: a loop whose body ended there runs again or ends. -/
def nextPc : List LoopX → Nat → List LoopX × Nat
  | [], pc => ([], pc + 1)
  | l :: ls, pc =>
    if pc = l.last then
      (if l.ctr + 1 < l.count then ({ l with ctr := l.ctr + 1 } :: ls, l.first) else nextPc ls pc)
    else (l :: ls, pc + 1)

/-- A predicate register: p0 always reads 1 (R116). -/
def predBit (preds i : Nat) : Bool := if i = 0 then true else bitOf preds i

/-- An instruction executes when p[PSEL] XOR PNEG is 1 (R116). -/
def predicated (preds w : Nat) : Bool := predBit preds (insPsel w) != decide (insPneg w = 1)

end Sys2Proof.Machine
end

