-- ==== Sys2Proof/Config.lean ====
section
/-! DEFINITION. The values the spec leaves open: constants with no body, so that no proof can see what they are. -/

namespace Sys2Proof.Config

/-- A word of a physical TE's accumulator file or vector registers after a sleep lost it (R69): the value depends on
which sleep (a fresh number) and on the place. -/
opaque lostWord : Nat → Nat → BitVec 32

/-- Which entry leaves a full ATC: a fresh number and the number of candidates. R241 gives its size and no replacement. -/
opaque tcVictim : Nat → Nat → Nat

/-- The number from which a translation cache takes a page's set, modulo its sets: tenant, page number, 1 GiB or 32 MiB. R227 gives
the sets and their replacement, not the index. -/
opaque tcIndex : Nat → Nat → Bool → Nat

/-- What a line reads as under a key that is not the one it was written with (R226, R466, R554): the ciphertext's
bytes, by a fresh number and the byte's place. -/
opaque wrongKeyByte : Nat → Nat → BitVec 8

/-- The SHA-384 digest of a byte string, as a number of 384 bits (R140, R453): an uninterpreted function. -/
opaque sha384 : List (BitVec 8) → BitVec 384

/-- Whether an Ed25519 signature verifies (RFC 8032): key, message, signature. -/
opaque edVerify : List (BitVec 8) → List (BitVec 8) → List (BitVec 8) → Bool

/-- Whether an ML-DSA-65 signature verifies (FIPS 204): key, message, signature. -/
opaque mlVerify : List (BitVec 8) → List (BitVec 8) → List (BitVec 8) → Bool

/-- An Ed25519 signature by a device key: which key, the message. -/
opaque edSign : Nat → List (BitVec 8) → List (BitVec 8)

/-- An ML-DSA-65 signature by a device key: which key, the message. -/
opaque mlSign : Nat → List (BitVec 8) → List (BitVec 8)

/-- A number the hub's generator draws (nonces, keys, slots): the number of the draw. -/
opaque drawn : Nat → BitVec 64

/-- A value the spec calls undefined after an event, or states nothing about: a fresh number and what it is of. -/
opaque freeValue : Nat → Nat → Nat

/-- The CRC-24 of a fabric flit (R280), over its 1,024 bits and control bits [47:24]: the spec gives no polynomial. -/
opaque crc24 : Nat → Nat → BitVec 24

/-- The bytes of a public key, by its SHA-384 digest (R578, R583, R586): the fuses hold digests only. -/
opaque keyOf : BitVec 384 → List (BitVec 8)

/-- The SHA-384 digest of the boot ROM's mask (R550, R569). -/
opaque romDigest : BitVec 384

/-- The certificate chains of slots 0 (Ed25519) and 1 (ML-DSA-65), by slot, running firmware and the Device Serial Number that the
DeviceID certificates carry (R550). -/
opaque certChain : Nat → BitVec 384 → Nat → List (BitVec 8)

/-- Whether a sealed byte string opens under a fuse secret, and what it holds (R486, R578): the user region of flash. -/
opaque openSealed : Nat → List (BitVec 8) → Option (List (BitVec 8))

/-- The SHA-384 digests of Halduewald's firmware keys, which the ROM mask holds (R474): Ed25519, ML-DSA-65. -/
opaque romKeyEd : BitVec 384
opaque romKeyMl : BitVec 384

end Sys2Proof.Config
end

