-- ==== Sys2Proof/Machine/Ops.lean ====
section
/-! DEFINITION. The named operations over registers, memory, holds, line metadata, errors and voids that every meaning
is written with. -/

namespace Sys2Proof.Machine

/-! ### Registers (R6 to R12) -/

/-- The indices a distance from a register array's base names, outermost first; none where it falls between. -/
def dimIdx : List (Nat × Nat) → Nat → Option (List Nat)
  | [], r => if r = 0 then some [] else none
  | (st, c) :: ds, r =>
    let i := r / st
    if i < c then (dimIdx ds (r % st)).map (fun l => i :: l) else none

/-- The first register of a table that a key names, with its indices. -/
def findReg : List RegDesc → Nat → Option (RegDesc × List Nat)
  | [], _ => none
  | d :: ds, key =>
    if key < d.base then findReg ds key
    else
      match dimIdx d.dims (key - d.base) with
      | some l => some (d, l)
      | none => findReg ds key

/-- The register a key names; none for a reserved offset (R216). -/
def regOf (key : Nat) : Option (RegDesc × List Nat) := findReg (regBlock key) key

/-- COH_HASH's reset masks (R273). -/
def cohHashReset : Nat → Nat
  | 0 => 0x041041041041
  | 1 => 0x082082082082
  | 2 => 0x104104104104
  | 3 => 0x008208208208
  | 4 => 0x010410410410
  | _ => 0x020820820820

/-- A register's value after HUB_RST_N: the table's, but for the fields the tables give by index (R102, R273, R393) and LCS_DBG, which is from
the fuses: blank ones decode as MAKER, which opens debug (R576, R589). -/
def resetVal (d : RegDesc) (idx : List Nat) : Nat :=
  match d.name, idx with
  | .fordDom, [d] => if d = 15 then 2 ^ 16 else 0
  | .teStatus, [k] => k / 4 * 2 ^ 32 + k % 4 * 2 ^ 8
  | .cohHash, [j] => cohHashReset j
  | .lcsDbg, _ => 0xF01
  | .lrsCh, [_, c] => if c < 128 then c * 2 ^ 16 else 0xFF * 2 ^ 16 + 1
  | _, _ => d.reset

/-- What an unlisted register holds. -/
def resetReg (key : Nat) : Word :=
  match regOf key with
  | some (d, idx) => BitVec.ofNat 64 (resetVal d idx)
  | none => 0

/-- The value in force of the register at a key. -/
def State.rv (s : State) (key : Nat) : Word := (mget s.regs key).getD (resetReg key)

/-- A field's value in force. -/
def State.rf (s : State) (key : Nat) (f : Fld) : Nat := fget (s.rv key) f

/-- The shadow with the bits of a field the hub itself changed no longer waiting (R11). -/
def dropShadow (m : NMap (Word × Word)) (key : Nat) (f : Fld) : NMap (Word × Word) :=
  mmod m key (fun p => (p.1, p.2 &&& ~~~ fmask f))

/-- The hub sets a field's value in force; a write waiting for it in the shadow is discarded (R11). -/
def State.rset (s : State) (key : Nat) (f : Fld) (x : Nat) : State :=
  { s with regs := mput s.regs key (fset (s.rv key) f x), shadow := dropShadow s.shadow key f }

/-- The whole word as one field. -/
def fAll : Fld := ⟨0, 64⟩

/-- The hub sets a whole register in force. -/
def State.rput (s : State) (key : Nat) (v : Nat) : State := s.rset key fAll v

/-- A count that saturates at its field's maximum and does not wrap. -/
def State.radd (s : State) (key : Nat) (f : Fld) (n : Nat) : State :=
  s.rset key f (satAdd (s.rf key f) n (2 ^ f.w - 1))

/-- A count that wraps. -/
def State.rinc (s : State) (key : Nat) (f : Fld) (n : Nat) : State :=
  s.rset key f ((s.rf key f + n) % 2 ^ f.w)

/-- The fabric's state replaced. -/
def State.setFab (s : State) (x : FabSt) : State := { s with fab := x }

/-- rset where a condition holds. -/
def State.rsetIf (s : State) (c : Bool) (key : Nat) (f : Fld) (x : Nat) : State := if c then s.rset key f x else s

/-- A message sent. -/
def State.send (s : State) (k : OutKind) (args : List Nat) (data : List Byte) : State :=
  { s with out := s.out ++ [⟨k, args, data⟩] }

/-- The next fresh number for a free value. -/
def State.tick (s : State) : State := { s with fresh := s.fresh + 1 }

/-- The chiplet address that an answer to a slip's request carries (R361): that of the request under this tag. -/
def State.osAddr (s : State) (agent tag pa : Nat) : Nat :=
  match mget s.slips (agent - 64) with
  | some x => mgetD x.sent tag pa
  | none => pa

/-- The sailing in progress (R23). -/
def State.sail (s : State) : Nat := s.rf R.sailNum F.sailNum_NUM

/-- Confidential mode (R572). -/
def State.conf (s : State) : Bool := s.rf R.salStatus F.salStatus_CONF = 1

/-- A count that stops in confidential mode (R101, R206). -/
def State.raddOpen (s : State) (key : Nat) (f : Fld) (n : Nat) : State := if s.conf then s else s.radd key f n

/-- A fold over a list of numbers. -/
def State.each (s : State) (l : List Nat) (f : State → Nat → State) : State := l.foldl f s

/-! ### First-error captures (R106 and its likes) -/

/-- The fields of a block's first-error capture. -/
structure CapFlds where
  sailLo : Fld
  valid : Fld
  cause : Fld
  count : Fld
  deriving DecidableEq, Repr

/-- The layout most blocks share. -/
def capStd : CapFlds := ⟨⟨32, 32⟩, ⟨31, 1⟩, ⟨16, 8⟩, ⟨0, 16⟩⟩

/-- An error captured: the first sets VALID, CAUSE and SAIL_LO, later ones count. -/
def capture (v : Word) (c : CapFlds) (sail cause : Nat) : Word :=
  if fget v c.valid = 1 then fset v c.count (satAdd (fget v c.count) 1 (2 ^ c.count.w - 1))
  else fset (fset (fset v c.valid 1) c.cause cause) c.sailLo (sail % 2 ^ 32)

/-- An error captured in the register at a key, and whether it was the first. -/
def State.captureAt (s : State) (key : Nat) (c : CapFlds) (cause : Nat) : State :=
  { s with regs := mput s.regs key (capture (s.rv key) c s.sail cause) }

/-- Whether the capture at a key already holds a first error. -/
def State.captured (s : State) (key : Nat) (c : CapFlds) : Bool := s.rf key c.valid = 1

/-! ### Errors (R516, R518) -/

/-- A report put on its way to the error sequencer. -/
def State.report (s : State) (r : ErrRep) : State := { s with err := { s.err with inbox := s.err.inbox ++ [r] } }

/-- The classes (R518). -/
def clsCorrected : Nat := 0
def clsVoiding : Nat := 1
def clsDegrading : Nat := 2
def clsFatal : Nat := 3

/-- Report an error of a block. -/
def State.errBare (s : State) (cls block cause unit : Nat) : State :=
  s.report ⟨cls, block, cause, unit, none, 0, none, none, s.sail, false⟩

/-! ### The manifest in force -/

def State.mf (s : State) : Option Manifest := s.man.inForce

/-- The partitions the manifest in force defines. -/
def State.partRecs (s : State) : List PartRec :=
  match s.mf with
  | some m => m.parts
  | none => []

/-- The tenants the manifest in force defines. -/
def State.tenRecs (s : State) : List TenRec :=
  match s.mf with
  | some m => m.tenants
  | none => []

/-- The partition of a tenant (R455). -/
def State.partOf (s : State) (tenant : Nat) : Option Nat :=
  ((s.tenRecs).find? (fun r => r.tenant = tenant)).map (·.part)

/-- The tiles of a partition, as a mask. -/
def State.tilesOf (s : State) (p : Nat) : Nat :=
  match (s.partRecs).find? (fun r => r.part = p) with
  | some r => r.tiles
  | none => 0

/-- The partition a tile belongs to. -/
def State.partOfTile (s : State) (t : Nat) : Option Nat :=
  ((s.partRecs).find? (fun r => bitOf r.tiles t)).map (·.part)

/-- The logical TEs of a partition, in ascending order (R15, R455). -/
def State.tesOf (s : State) (p : Nat) : List Nat := (List.range 256).filter (fun k => bitOf (s.tilesOf p) (k / 4))

/-- The rank of a logical TE in its partition (R112). -/
def State.rankOf (s : State) (p k : Nat) : Nat := ((s.tesOf p).filter (fun j => j < k)).length

/-! ### The timetable in force (R40, R66) -/

/-- A variant of a manifest. -/
def Manifest.var (m : Manifest) (v : Nat) : Option Variant := m.variants.find? (fun x => x.variant = v)

/-- The variant in force for a partition (R66). -/
def State.variantOf (s : State) (p : Nat) : Nat := s.rf (R.sailLag p) F.sailLag_VARIANT

def State.lagOf (s : State) (p : Nat) : Nat := s.rf (R.sailLag p) F.sailLag_LAG

/-- The manifest whose timetable governs: in the sailing of a crossing, until the I0 after it, still the one replaced (R464). -/
def State.tableMan (s : State) : Option Manifest := if s.man.crossed then s.man.replaced else s.man.inForce

/-- The timetable partition p runs. -/
def State.varFor (s : State) (p : Nat) : Option Variant := s.tableMan.bind (fun m => m.var (s.variantOf p))


/-! ### Partitions and voids (R522, R523) -/

/-- A partition nothing has happened to. -/
def PartSt.idle : PartSt :=
  ⟨none, none, false, false, 0, 0, none, false, false, false⟩

def State.part (s : State) (p : Nat) : PartSt := mgetD s.parts p PartSt.idle

def State.setPart (s : State) (p : Nat) (x : PartSt) : State := { s with parts := mput s.parts p x }

/-- A partition's TWIN_PART state: 0 UNPAIRED, 1 COPYING, 2 PAIRED, 3 DIVERGED. -/
def State.twinPart (s : State) (p : Nat) : Nat := if 64 ≤ p then 0 else bitsOf (s.rv (R.twinPart (p / 32))).toNat (2 * (p % 32)) 2

/-- The partition runs from ferries: a shadow's (R537), and after a takeover until the whole ferries are run (R540). -/
def State.shadowed (s : State) (p : Nat) : Bool :=
  (decide (s.rf R.twinStatus F.twinStatus_ROLE = 2) ||
    (decide (s.rf R.twinStatus F.twinStatus_ROLE = 3) && (s.twin.running.isSome || !s.twin.backlog.isEmpty))) &&
  decide (s.twinPart p = 2)

/-- A hub that stepped down runs nothing for the paired partitions (R539). -/
def State.steppedDown (s : State) (p : Nat) : Bool := decide (s.rf R.twinStatus F.twinStatus_ROLE = 4) && decide (s.twinPart p = 2)

/-- No host-visible output leaves: after FATAL (R517) and after stepping down (R539). -/
def State.muted (s : State) : Bool := s.err.fatal || decide (s.rf R.twinStatus F.twinStatus_ROLE = 4)

/-- The number a partition counts the current sailing by: this hub's SAIL_NUM, or where ferries have run it the primary's,
which it goes on counting after a takeover (R537, R540). -/
def State.sailNo (s : State) (p : Nat) : Nat := (s.sail + 2 ^ 64 - mgetD s.twin.base p 0) % 2 ^ 64

/-- The sailing of the timetable a partition runs (R40, R537). -/
def State.timetableSail (s : State) (p : Nat) : Nat := s.sailNo p - s.lagOf p

/-- (n − LAG) mod cycle. -/
def slotAt (n lag cycle : Nat) : Nat := (n + 65536 * cycle - lag) % max 1 cycle

/-- The slot in force for a partition in the current sailing (R40); a shadow's is its ferry's. -/
def State.slotIn (s : State) (p : Nat) : Nat :=
  match s.varFor p with
  | some v => if s.shadowed p then (s.part p).slot else slotAt (s.sailNo p) (s.lagOf p) v.cycle
  | none => 0

/-- Partition p's block of its slot; a shadow without a ferry runs none, nor does a hub that stepped down. -/
def State.blockOf (s : State) (p : Nat) : Option SlotBlk :=
  if (s.shadowed p && s.twin.running.isNone) || s.steppedDown p then none
  else (s.varFor p).bind (fun v => (v.slots[s.slotIn p]?).bind (fun b => b.find? (fun x => x.part = p)))

/-- The lower of the causes a sailing is voided for (R522). -/
def minCause (o : Option Nat) (c : Nat) : Option Nat :=
  match o with
  | some d => some (min c d)
  | none => some c

/-- The current sailing of a partition is voided: its cause noted, its VOIDING record on its way (R522, R523). -/
def State.voidPart (s : State) (p vcause block cause unit : Nat) (tenant addr : Option Nat) : State :=
  let q := s.part p
  (s.setPart p { q with void := minCause q.void vcause }).report
    ⟨clsVoiding, block, cause, unit, some p, vcause, tenant, addr, s.sail, false⟩

/-- A partition with a cause noted. -/
def PartSt.voided (q : PartSt) (c : Nat) : PartSt := { q with void := minCause q.void c }

/-- The current sailing of every partition is voided, in one record without a partition. -/
def State.voidAll (s : State) (vcause block cause unit : Nat) (addr : Option Nat) : State :=
  let ps := (s.partRecs).foldl (fun m r => mput m r.part ((mgetD m r.part PartSt.idle).voided vcause)) s.parts
  ({ s with parts := ps }).report
    ⟨clsVoiding, block, cause, unit, none, vcause, none, addr, s.sail, false⟩

/-- The sailing voided is that of the request's tenant's partition, or of every partition without one (R524). -/
def State.voidFor (s : State) (tenant : Option Nat) (vcause block cause unit : Nat) (addr : Option Nat) :
    State :=
  match tenant with
  | some t =>
    match s.partOf t with
    | some p => s.voidPart p vcause block cause unit (some t) addr
    | none => s.voidAll vcause block cause unit addr
  | none => s.voidAll vcause block cause unit addr

/-! ### Bytes by address, in canonical form -/

/-- A byte of a memory whose unlisted bytes are 0. -/
def cellRead : List Host.Cell → Nat → Byte
  | [], _ => 0
  | (k, v) :: m, a => if k = a then v else cellRead m a

/-- A byte written, addresses kept rising and no listed byte 0. -/
def cellWrite : List Host.Cell → Nat → Byte → List Host.Cell
  | [], a, b => if b = 0 then [] else [(a, b)]
  | (k, v) :: m, a, b =>
    if a < k then (if b = 0 then (k, v) :: m else (a, b) :: (k, v) :: m)
    else if k = a then (if b = 0 then m else (a, b) :: m)
    else (k, v) :: cellWrite m a b

/-- Addresses strictly rising from a bound and no byte 0. -/
def cellsFrom : Nat → List Host.Cell → Bool
  | _, [] => true
  | b, (k, v) :: m => decide (b ≤ k) && (v != 0) && cellsFrom (k + 1) m

/-- The canonical form of a memory. -/
def Memory.wf (m : List Host.Cell) : Bool := cellsFrom 0 m

/-- n bytes from an address. -/
def cellsRead (m : List Host.Cell) : Nat → Nat → List Byte
  | _, 0 => []
  | a, n + 1 => cellRead m a :: cellsRead m (a + 1) n

/-- Bytes written from an address up. -/
def cellsWrite (m : List Host.Cell) (a : Nat) : List Byte → List Host.Cell
  | [] => m
  | b :: bs => cellsWrite (cellWrite m a b) (a + 1) bs

/-! ### Holds (R80, R84 to R87) -/

/-- The state of a physical TE never used. -/
def PhysSt.fresh : PhysSt := ⟨[], [], 0, 3, none, 0⟩

def State.ph (s : State) (x : Nat) : PhysSt := mgetD s.phys x PhysSt.fresh

def State.setPh (s : State) (x : Nat) (p : PhysSt) : State := { s with phys := mput s.phys x p }

/-- The physical TE that serves a logical TE: 5 per tile (R67, R102). -/
def State.physOf (s : State) (k : Nat) : Nat := 5 * (k / 4) + s.rf (R.teStatus k) F.teStatus_PHYS

/-- The SRAM address of a hold address: the carry window lies in one quarter, the other addresses in the remaining three
in ascending order (R87). -/
def holdAddr (carryQ a : Nat) : Nat :=
  let q := a / 0x80000
  let c := carryQ % 4
  if q = 3 then c * 0x80000 + a % 0x80000 else (if q < c then q else q + 1) * 0x80000 + a % 0x80000

/-- The key of a byte of a physical TE's hold. -/
def holdKey (x a : Nat) : Nat := x * 0x200000 + a

/-- A byte of logical TE k's hold. -/
def State.holdByte (s : State) (k a : Nat) : Byte :=
  let x := s.physOf k
  cellRead s.holds (holdKey x (holdAddr (s.ph x).carryQ (a % 0x200000)))

/-- n bytes of a hold from an address. -/
def State.holdRead (s : State) (k : Nat) : Nat → Nat → List Byte
  | _, 0 => []
  | a, n + 1 => s.holdByte k a :: s.holdRead k (a + 1) n

/-- The tile's spare physical TE, and whether it mirrors the carry windows (R86, R107). -/
def State.mirrorOf (s : State) (k : Nat) : Option Nat :=
  let t := k / 4
  if s.rf (R.teSpare t) F.teSpare_STATE = 0 ∧ s.rf (R.teSpare t) F.teSpare_MIRROR = 1 ∧
      5 * t + s.rf (R.teSpare t) F.teSpare_SPARE_PHYS ≠ s.physOf k then
    some (5 * t + s.rf (R.teSpare t) F.teSpare_SPARE_PHYS)
  else none

/-- A byte of logical TE k's hold written; while the spare is free, a byte of the carry window is written to the spare
as well, at 0x8_0000 times the lane (R86). -/
def holdPut (m : List Host.Cell) (x carryQ : Nat) (mirror : Option Nat) (lane a : Nat) (b : Byte) : List Host.Cell :=
  let m1 := cellWrite m (holdKey x (holdAddr carryQ a)) b
  match mirror with
  | some y => if 0x180000 ≤ a then cellWrite m1 (holdKey y (0x80000 * lane + a % 0x80000)) b else m1
  | none => m1

/-- Bytes written into a hold from an address up. -/
def holdPuts (m : List Host.Cell) (x carryQ : Nat) (mirror : Option Nat) (lane a : Nat) : List Byte → List Host.Cell
  | [] => m
  | b :: bs => holdPuts (holdPut m x carryQ mirror lane (a % 0x200000) b) x carryQ mirror lane (a + 1) bs

/-- Bytes written into logical TE k's hold. -/
def State.holdWrite (s : State) (k a : Nat) (bs : List Byte) : State :=
  let x := s.physOf k
  { s with holds := holdPuts s.holds x (s.ph x).carryQ (s.mirrorOf k) (k % 4) a bs }

/-- The little-endian number in n bytes of a hold. -/
def State.holdNat (s : State) (k a n : Nat) : Nat := leNat (s.holdRead k a n)

/-- n elements of 32 bits from a hold address. -/
def State.hold32s (s : State) (k a n : Nat) : List Nat := (List.range n).map (fun i => s.holdNat k (a + 4 * i) 4)

/-- Numbers as 32-bit little-endian elements. -/
def bytes32 (l : List Nat) : List Byte := l.flatMap (leBytes 4)

/-! ### The local map (R208 to R213) -/

/-- What a physical address names. -/
inductive Place where
  | vault | lararis | reserved | regs | twin | slip (s : Nat) | host | absent
  deriving DecidableEq, Repr

/-- An address in host memory: node 14 (R208). A host address above 2⁴⁸, which only PF0's own registers name, has its
upper bits above the node number; no transfer reaches it (R210). -/
def onHost (pa : Nat) : Bool := pa / 2 ^ 48 % 2 ^ 16 = 14

/-- The PCIe address of an address in host memory. -/
def hostAddr (pa : Nat) : Nat := pa % 2 ^ 48 + pa / 2 ^ 64 * 2 ^ 48

/-- A PCIe address as an address in host memory. -/
def hostPa (a : Nat) : Nat := 14 * 2 ^ 48 + a % 2 ^ 48 + a / 2 ^ 48 * 2 ^ 64

/-- The start of the LLC-reserved range. -/
def resvBase : Nat := 0x00F000000000

/-- The start of the Lararis range. -/
def lrsBase : Nat := 0x001000000000

/-- Bytes of one Lararis stack (R374). -/
def stackBytes (cap : Nat) : Nat := if cap = 1 then 2 ^ 35 else if cap = 2 then 2 ^ 36 else 0

/-- The populated capacity C (R212). -/
def State.lrsCap (s : State) : Nat :=
  match s.mf with
  | some m => popCount m.stackMask 8 * stackBytes m.stackCap
  | none => 0

/-- Reserved ways in force (R179, R203). -/
def State.rways (s : State) : Nat := s.rf (R.tileStatus 0) F.tileStatus_RWAYS

/-- The owner the carve-up gives a vault or Lararis address: PF0 (0x1000) where no record covers it (R455). -/
def State.ownerOf (s : State) (pa : Nat) : Nat :=
  match s.mf with
  | some m =>
    match (m.mm.carve).find? (fun c => decide (c.base ≤ pa) && decide (pa < c.base + c.size32 * 2 ^ 25)) with
    | some c => c.owner
    | none => 0x1000
  | none => 0x1000

/-- The line of an address. -/
def lineOf (pa : Nat) : Nat := pa / 128

/-- n bytes split into pieces that each lie in one line. -/
def linePieces (fuel pa n : Nat) : List (Nat × Nat) :=
  match fuel with
  | 0 => []
  | f + 1 =>
    if n = 0 then []
    else
      let k := min n (128 - pa % 128)
      (pa, k) :: linePieces f (pa + k) (n - k)

/-- The lines n bytes touch. -/
def linesOf (pa n : Nat) : List Nat := if n = 0 then [] else (List.range ((pa + n - 1) / 128 - pa / 128 + 1)).map (· + pa / 128)

end Sys2Proof.Machine
end

