-- ==== Sys2Proof/Machine/Load.lean ====
section
/-! DEFINITION. The checks of a program image at load (R110 to R130, R137, R139 to R141) and the carry-reading mark
(R96). A check answers the codes of R140 that the image breaks; the lowest is reported. -/

namespace Sys2Proof.Machine

/-! ### Loops in force at an instruction (R129) -/

/-- An enclosing loop at load: its level, its MAX, its last instruction. -/
structure Encl where
  lvl : Nat
  max : Nat
  last : Nat
  deriving DecidableEq, Repr

/-- A code where a rule is broken. -/
def bad (code : Nat) (broken : Bool) : List Nat := if broken then [code] else []

/-- The largest iteration number an instruction that steps by a level can see; none where no such loop encloses it. -/
def topIter (enc : List Encl) (lvl : Nat) : Option Nat := (enc.find? (fun e => e.lvl = lvl)).map (fun e => e.max - 1)

/-- Iterations of all enclosing loops. -/
def runsOf (enc : List Encl) : Nat := enc.foldl (fun n e => n * e.max) 1

/-! ### Footprints at their extremes (R140) -/

/-- A range of bytes that steps: where it begins in iteration 0, its step, its last iteration, its bytes. -/
structure Span where
  base : Int
  step : Int
  top : Nat
  len : Nat
  deriving DecidableEq, Repr

/-- The lowest address and the end of a stepping range. -/
def Span.lo (f : Span) : Int := min f.base (f.base + f.step * f.top)
def Span.hi (f : Span) : Int := max f.base (f.base + f.step * f.top) + f.len

/-- The range leaves a space of n bytes. -/
def Span.outside (f : Span) (n : Nat) : Bool := decide (f.lo < 0) || decide ((n : Int) < f.hi)

/-- The range meets the carry window (R84). -/
def Span.inCarry (f : Span) : Bool := decide (f.lo < 0x200000) && decide (0x180000 < f.hi)

/-- The hold ranges an instruction reads and writes, and its region range, in the worst case. -/
structure Feet where
  reads : List Span
  writes : List Span
  region : Option (Nat × Span)
  deriving DecidableEq, Repr

/-- The bytes a two-dimensional transfer spans. -/
def spanBytes (rows rbytes pitch : Nat) : Nat := (rows - 1) * pitch + rbytes

/-- Widths of the CVT formats in bits (R125). -/
def cvtBits : Nat → Nat
  | 0 => 32
  | 1 => 16
  | 2 => 16
  | 3 => 32
  | 4 => 16
  | 5 => 8
  | _ => 4

/-- The last iteration of a level where the instruction steps by it, else 0. -/
def stepTop (enc : List Encl) (lvl : Nat) (steps : Bool) : Nat := if steps then (topIter enc lvl).getD 0 else 0

def movFeet (m : MovI) (g : Geo) (enc : List Encl) : Feet :=
  let top := stepTop enc g.lvl (g.lvl != 0xFF)
  let h : Span := ⟨(m.haddr * 64 : Nat), g.hstep, top, spanBytes g.rows g.rbytes g.hpitch⟩
  let mem (b : Nat) : Span := ⟨(b * 64 : Nat), g.mstep, top, spanBytes g.rows g.rbytes g.mpitch⟩
  match m.op with
  | 0 => ⟨[], [h], some (m.reg, mem m.off)⟩
  | 1 => ⟨[h], [], some (m.reg, mem m.off)⟩
  | 2 => ⟨[mem m.hsrc], [h], none⟩
  | _ => ⟨[], [h], none⟩

/-- The activation width of an AFMT code in bits. -/
def afmtBits : Nat → Nat
  | 0 => 4
  | 1 => 8
  | _ => 16

def mmaFeet (m : MmaI) (md : Mode) (enc : List Encl) : Feet :=
  let top := stepTop enc m.lvl (m.step != 0)
  let ab := afmtBits m.afmt
  let act : Span := ⟨(m.act * 64 : Nat), if m.step = 2 then (m.bcnt * md.k * ab / 8 : Nat) else 0, top, actSpan m md ab⟩
  let dst : Span := ⟨(m.dst * 64 : Nat), if m.step = 1 then (m.p * md.n * 4 : Nat) else 0, top, m.p * md.n * 4⟩
  let w : Span := ⟨(m.woff * 512 : Nat), if m.step = 0 then 0 else (m.bcnt * md.size : Nat), top, m.bcnt * md.size⟩
  match m.op with
  | 0 => ⟨[act], [], some (m.reg, w)⟩
  | 1 => ⟨[act], [dst], some (m.reg, w)⟩
  | 2 => ⟨[], [dst], none⟩
  | _ => ⟨[], [], none⟩

def vecFeet (v : VecI) (enc : List Encl) : Feet :=
  let h : Span := ⟨(v.haddr * 64 : Nat), (v.hstep * 64 : Nat), stepTop enc v.lvl (v.hstep != 0), 256⟩
  if v.func = 0x20 then ⟨[h], [], none⟩ else if v.func = 0x21 then ⟨[], [h], none⟩ else ⟨[], [], none⟩

def cvtFeet (c : CvtI) (enc : List Encl) : Feet :=
  let top := stepTop enc c.lvl (c.sstep != 0 || c.dstep != 0)
  let src : Span := ⟨(c.src * 64 : Nat), (c.sstep * 64 : Nat), top, ceilDiv (c.n * cvtBits c.sfmt) 8⟩
  let dst : Span := ⟨(c.dst * 64 : Nat), (c.dstep * 64 : Nat), top, ceilDiv (c.n * cvtBits c.dfmt) 8⟩
  let scl (n : Nat) : Span := ⟨(c.scl * 64 : Nat), 0, 0, n⟩
  match c.op with
  | 0 => ⟨[src], [dst], none⟩
  | 1 => ⟨[src, scl 68], [dst], none⟩
  | 2 => ⟨[src, scl 4], [dst], none⟩
  | _ => ⟨[src], [dst, scl 4], none⟩

def redFeet (d : RedI) : Feet :=
  let at_ (a n : Nat) : Span := ⟨(a * 64 : Nat), 0, 0, n⟩
  let out := match d.op with
    | 0 => 4
    | 1 => 4
    | 5 => 8
    | 6 => 256 + 4 * d.k
    | _ => 4 * d.n
  ⟨[at_ d.src (4 * d.n)] ++ (if d.op = 3 ∨ d.op = 4 then [at_ d.eps 4, at_ d.wadr (4 * d.n)] else []) ++
    (if d.op = 4 then [at_ d.badr (4 * d.n)] else []), [at_ d.dst out], none⟩

/-- The worst-case footprints of an instruction. -/
def feetOf (p : Prog) (enc : List Encl) (w : Nat) : Feet :=
  let word (h i : Nat) : Span := ⟨(h * 64 + i * 4 : Nat), 0, 0, 4⟩
  match insClass w with
  | 1 =>
    match p.geos[(movI w).geo]? with
    | some g => movFeet (movI w) g enc
    | none => ⟨[], [], none⟩
  | 2 =>
    match (mmaI w).mode with
    | some md => mmaFeet (mmaI w) md.2 enc
    | none => ⟨[], [], none⟩
  | 3 => vecFeet (vecI w) enc
  | 4 => cvtFeet (cvtI w) enc
  | 5 => redFeet (redI w)
  | 7 => if (loopI w).src then ⟨[word (loopI w).haddr (loopI w).word], [], none⟩ else ⟨[], [], none⟩
  | 8 => if (predI w).op = 0 then ⟨[word (predI w).haddr (predI w).word], [], none⟩ else ⟨[], [], none⟩
  | _ => ⟨[], [], none⟩

/-! ### Checks of one instruction -/

/-- FUNC codes of the VEC table (R123). -/
def vecListed (f : Nat) : Bool := decide (f ≤ 0x11) || (decide (0x18 ≤ f) && decide (f ≤ 0x1D)) || (decide (0x20 ≤ f) && decide (f ≤ 0x23))

/-- Reserved classes and opcodes (R117). -/
def opBad (w : Nat) : Bool :=
  match insClass w with
  | 0 => false
  | 1 => decide (insOp w > 3)
  | 2 => decide (insOp w > 3)
  | 3 => !(vecListed (vecFunc w))
  | 4 => decide (insOp w > 3)
  | 5 => decide (insOp w > 6)
  | 6 => decide (insOp w > 1)
  | 7 => decide (insOp w ≠ 0)
  | 8 => decide (insOp w > 5)
  | _ => true

/-- The formats a CVT allows (R125). -/
def cvtFmtBad (c : CvtI) : Bool :=
  match c.op with
  | 0 => decide (c.sfmt > 6) || decide (c.dfmt > 6) || decide (c.sfmt = c.dfmt)
  | 1 => decide (c.sfmt ≠ 3) || !([0, 1, 2, 4, 5].contains c.dfmt)
  | 2 => decide (c.sfmt ≠ 0) || !([4, 5, 6].contains c.dfmt)
  | _ => decide (c.sfmt ≠ 0) || decide (c.dfmt ≠ 5)

/-- Reserved bits, and fields outside their stated range (BAD_FIELD). DESIGN CHOICE: the COND codes 6 and 7, which R128 does not list, are
refused in the forms that use COND alone; AND, OR, NOT and SET take any (log 168). -/
def fieldBad (p : Prog) (w : Nat) : Bool :=
  match insClass w with
  | 0 => decide (bitsOf w 0 120 ≠ 0)
  | 1 =>
    let m := movI w
    decide (m.rsv ≠ 0) || decide (m.cache = 3) || decide (m.geo ≥ p.geos.length) ||
      (decide (m.op ≥ 2) && decide (m.reg ≠ 0)) || (decide (m.op ≠ 2) && decide (m.hsrc ≠ 0)) ||
      (decide (m.op < 2) && decide (m.reg ≥ p.regions.length))
  | 2 =>
    let m := mmaI w
    decide (m.rsv ≠ 0) || decide (m.step = 3) || (if m.op ≤ 1 then decide (m.bcnt = 0) || decide (m.reg ≥ p.regions.length)
      else decide (m.bcnt ≠ 0))
  | 3 =>
    let v := vecI w
    decide (v.rsv ≠ 0) || (decide (8 ≤ v.func) && decide (v.func ≤ 0xD) && !v.int) ||
      (((decide (0x18 ≤ v.func) && decide (v.func ≤ 0x1D)) || decide (v.func = 0x23)) && v.int)
  | 4 => decide ((cvtI w).rsv ≠ 0) || decide ((cvtI w).n = 0) || cvtFmtBad (cvtI w)
  | 5 => decide ((redI w).rsv ≠ 0) || decide ((redI w).n = 0) || decide ((redI w).n > 524288)
  | 6 =>
    let y := syncI w
    decide (y.rsv ≠ 0) || (decide (y.op = 1) && (decide (y.group ≠ 0) || decide (y.bid ≠ 0)))
  | 7 => decide ((loopI w).rsv ≠ 0) || decide ((loopI w).body = 0) || decide ((loopI w).max = 0)
  | 8 => decide ((predI w).rsv ≠ 0) || decide ((predI w).pd = 0) || ((decide ((predI w).op ≤ 1)) && decide ((predI w).cond > 5))
  | _ => false

/-- The mode of an MMA is in the table and its MODES bit is set (BAD_MODE). DESIGN CHOICE: a WFMT or AFMT code that R140 does not list is
no mode and nothing else, so its code is BAD_MODE and not BAD_FIELD (log 169). -/
def modeBad (p : Prog) (w : Nat) : Bool :=
  decide (insClass w = 2) && (match (mmaI w).mode with
    | some md => !(bitOf p.modes md.1)
    | none => true)

/-- An instruction steps by a level of no loop that encloses it (R129). -/
def stepBad (p : Prog) (enc : List Encl) (w : Nat) : Bool :=
  let no (lvl : Nat) := (topIter enc lvl).isNone
  match insClass w with
  | 1 => (match p.geos[(movI w).geo]? with
    | some g => decide (g.lvl ≠ 0xFF) && no g.lvl
    | none => false)
  | 2 => decide ((mmaI w).step ≠ 0) && no (mmaI w).lvl
  | 3 => ((vecI w).func == 0x20 || (vecI w).func == 0x21) && decide ((vecI w).hstep ≠ 0) && no (vecI w).lvl
  | 4 => (decide ((cvtI w).sstep ≠ 0) || decide ((cvtI w).dstep ≠ 0)) && no (cvtI w).lvl
  | _ => false

/-- A LOOP whose body reaches the END, leaves an outer body, or whose level an outer loop uses (R129). -/
def loopBad (n pc : Nat) (enc : List Encl) (w : Nat) : Bool :=
  let l := loopI w
  decide (insClass w = 7) && (decide (pc + l.body ≥ n - 1) || enc.any (fun e => decide (e.lvl = l.lvl) || decide (e.last < pc + l.body)))

/-- Worst-case footprints outside the hold or beyond LENGTH; a misaligned ACT step (BAD_GEOM). -/
def geomBad (p : Prog) (enc : List Encl) (w : Nat) : Bool :=
  let f := feetOf p enc w
  (f.reads ++ f.writes).any (fun x => x.outside 0x200000) || (match f.region with
    | some (r, x) => (match p.regions[r]? with
      | some g => x.outside g.length
      | none => false)
    | none => false) || (decide (insClass w = 2) && decide ((mmaI w).step = 2) && (match (mmaI w).mode with
      | some md => decide ((mmaI w).bcnt * md.2.k * afmtBits (mmaI w).afmt % 512 ≠ 0)
      | none => false))

/-- A region used without the attribute its use needs (BAD_ACCESS, R120). DESIGN CHOICE: the spec does not say whether REG of a DRAIN or
a CLEAR, which read no weights, must name a WEIGHT region; it is not looked at (log 167). -/
def accessBad (p : Prog) (w : Nat) : Bool :=
  match insClass w with
  | 1 => (match p.regions[(movI w).reg]? with
    | some g => (decide ((movI w).op = 0) && !g.canRead) || (decide ((movI w).op = 1) && !g.canWrite)
    | none => false)
  | 2 => (match p.regions[(mmaI w).reg]? with
    | some g => decide ((mmaI w).op ≤ 1) && !g.isWeight
    | none => false)
  | _ => false

/-- A BAR names a group the image does not have (BAD_GROUP). -/
def barBad (p : Prog) (w : Nat) : Bool :=
  decide (insClass w = 6) && decide ((syncI w).op = 0) && decide ((syncI w).group ≥ p.groups.length)

/-! ### The scan of an image -/

/-- What a scan has found: the loops in force, the codes broken, draws by stream index, the carry-reading mark. -/
structure Scan where
  enc : List Encl
  codes : List Nat
  draws : NMap Nat
  carry : Bool
  deriving DecidableEq, Repr

/-- One instruction scanned. -/
def scanIns (p : Prog) (n : Nat) (c : Scan) (x : Nat × Nat) : Scan :=
  let w := x.1
  let pc := x.2
  let enc := c.enc.filter (fun e => decide (pc ≤ e.last))
  let v := vecI w
  let rnd := decide (insClass w = 3) && decide (v.func = 0x22 ∨ v.func = 0x23)
  { enc := if insClass w = 7 then ⟨(loopI w).lvl, (loopI w).max, pc + (loopI w).body⟩ :: enc else enc,
    codes := c.codes ++ bad 5 (opBad w) ++ bad 6 (fieldBad p w) ++ bad 7 (modeBad p w) ++
      bad 8 (stepBad p enc w || loopBad n pc enc w) ++ bad 9 (geomBad p enc w) ++ bad 10 (accessBad p w) ++
      bad 11 (barBad p w) ++
      bad 15 (if insClass w = 0 then decide (pc + 1 ≠ n) || decide (bitsOf w 120 4 ≠ 0) else decide (pc + 1 = n)),
    draws := if rnd then mput c.draws v.sidx (mgetD c.draws v.sidx 0 + runsOf enc) else c.draws,
    carry := c.carry || (feetOf p enc w).reads.any Span.inCarry }

/-- A whole image scanned. -/
def scanProg (p : Prog) : Scan := p.words.zipIdx.foldl (scanIns p p.words.length) ⟨[], [], [], false⟩

/-! ### Checks of header and tables -/

/-- Bytes of a list that must be 0. -/
def zeros (b : List Byte) (o n : Nat) : Bool := (slice b o n).all (· == 0)

/-- A region entry outside its stated ranges (R111). -/
def regionBad (b : List Byte) : Bool :=
  let r := regionOf b
  decide (r.arg > 8) || decide (r.length < 64) || decide (r.length > 2 ^ 56) || decide (r.length % 64 ≠ 0) ||
    decide (r.stride % 64 ≠ 0) || decide (r.attr > 15) || !(zeros b 25 7)

/-- A geometry entry outside its stated ranges (R114). -/
def geoBad (b : List Byte) : Bool :=
  let g := geoOf b
  decide (g.rows = 0) || (decide (g.lvl > 3) && decide (g.lvl ≠ 0xFF)) || decide (g.rbytes < 64) || decide (g.rbytes > 2 ^ 21) ||
    decide (g.rbytes % 64 ≠ 0) || decide (g.mpitch < g.rbytes) || decide (g.hpitch < g.rbytes) || !(zeros b 3 1)

/-- A pitch or step that is not a multiple of 64 (BAD_GEOM). -/
def geoSkew (g : Geo) : Bool :=
  decide (g.mpitch % 64 ≠ 0) || decide (g.hpitch % 64 ≠ 0) || decide (g.mstep % 64 ≠ 0) || decide (g.hstep % 64 ≠ 0)

/-- Reserved header bits, and a BOUND of 0 (R110). -/
def hdrBad (b : List Byte) (h : ImgHdr) : Bool :=
  !(zeros b 6 2) || !(zeros b 19 1) || !(zeros b 24 104) || decide (h.modes ≥ 64) || decide (h.bound = 0)

/-! ### What the rest of the hub says of a load -/

/-- A program index of the manifest in force. -/
def State.progRec (s : State) (i : Nat) : Option ProgRec :=
  match s.mf with
  | some m => m.progs.find? (fun r => r.index = i)
  | none => none

/-- Every leg entry of a manifest, in any variant. -/
def Manifest.entries (m : Manifest) : List LegEntry := m.variants.flatMap (fun v => v.slots.flatMap (fun sl => sl.flatMap (·.legs)))

/-- The lowest declared bound of the slot entries that name an index is below a BOUND (R137). -/
def State.boundBad (s : State) (i bound : Nat) : Bool :=
  match s.mf with
  | some m => m.entries.any (fun e => decide (e.prog = i) && decide (e.bound < bound))
  | none => false

/-- The partition of the tenant that owns an index. -/
def State.progPart (s : State) (i : Nat) : Option Nat := (s.progRec i).bind (fun r => s.partOf r.tenant)

/-- What the store of every tile of partition p holds: bound images, and loads not yet bound (R141). -/
def State.storeUse (s : State) (p : Nat) : Nat :=
  ((s.progs.filter (fun x => s.progPart x.1 = some p)).map (fun x => x.2.size)).sum +
    ((s.loads.filter (fun l => s.progPart l.index = some p)).map (fun l => l.prog.size)).sum

/-- The mask of the logical TEs of a partition. -/
def State.teMask (s : State) (p : Nat) : Nat := (s.tesOf p).foldl (fun m k => m + 2 ^ k) 0

/-- The codes a load of an image to an index by a tenant breaks, and the program it gives. -/
def State.loadCheck (s : State) (tenant index : Nat) (img : List Byte) : List Nat × Prog :=
  let h := imgHdr img
  let dig := digestNum (Config.sha384 img)
  let p := progOf img dig
  let magic := decide (h.magic ≠ jleg) || decide (h.version ≠ 1)
  let size := decide (img.length ≠ imgLen h) || decide (h.ninstr = 0) || decide (h.ninstr > 16384) ||
    decide (h.nregion > 32) || decide (h.ngeo > 64) || decide (h.ngroup > 8)
  if magic then ([1], p)
  else if size then ([2], p)
  else
    let c := scanProg p
    let own := match s.progRec index with
      | some r => decide (r.tenant = tenant)
      | none => false
    let digBad := match s.progRec index with
      | some r => r.check && decide (r.digest ≠ dig)
      | none => false
    let pt := (s.partOf tenant).getD 64
    let o1 := 128 + 32 * h.nregion
    (bad 3 (!own) ++ bad 4 digBad ++
      bad 6 (hdrBad img h || (records img 128 32 h.nregion).any regionBad || (records img o1 32 h.ngeo).any geoBad) ++
      bad 9 (p.geos.any geoSkew) ++
      bad 11 (p.groups.any (fun g => decide (g &&& s.teMask pt ≠ g))) ++
      bad 12 (c.draws.any (fun d => decide (16 * d.2 > 2 ^ 32))) ++
      bad 13 (s.boundBad index h.bound) ++
      bad 14 (decide (s.storeUse pt + img.length > 512 * 1024)) ++ c.codes,
     { p with carryReading := c.carry })

/-- The lowest of the codes, if any is broken. -/
def lowestCode (l : List Nat) : Option Nat := l.min?

end Sys2Proof.Machine
end

