-- ==== Sys2Proof/Machine/Mem.lean ====
section
/-! DEFINITION. Where lines live (R177 to R187, R379), and reading and writing a line at its memory controller: the
valid bit, the key generation, fenced rows and lost channels (R188, R189, R380, R386, R525, R552, R553). -/

namespace Sys2Proof.Machine

/-! ### Placement -/

/-- LOCAL, in bytes (R185, R204). -/
def State.localBytes (s : State) : Nat := s.rf (R.tileVmap 0) F.tileVmap_LOCAL_32M * 2 ^ 25

/-- The end of the vault range (R211). -/
def vaultEnd : Nat := 0x000780000000

/-- The vault of a vault address and the offset in it (R185). -/
def State.vaultOf (s : State) (pa : Nat) : Nat × Nat :=
  let loc := s.localBytes
  if pa < 64 * loc then (pa / loc, pa % loc)
  else
    let g := (pa - 64 * loc) / 4096
    ((g % 64) ^^^ (g / 64 % 64), loc + g / 64 * 4096 + pa % 4096)

/-- The channel, bank and row of a vault offset (R187). -/
def vaultCell (f : Nat) : Nat × Nat × Nat := (f / 128 % 16, f / 2048 % 16, f / 2048 / 256)

/-- Whether a page lies in the local part of one vault, and which (R186). -/
def State.residentIn (s : State) (pa : Nat) (big : Bool) : Option Nat :=
  let loc := s.localBytes
  if big then none else if pa + 2 ^ 25 ≤ 64 * loc ∧ pa / 2 ^ 48 = 0 then some (pa / loc) else none

/-- The parity of a number's low w bits. -/
def parity (n w : Nat) : Nat := popCount n w % 2

/-- The home slice of a line (R177, R178). -/
def State.homeOf (s : State) (pa : Nat) : Nat :=
  let l := pa / 128
  if s.rf (R.tileVmap 0) F.tileVmap_HOME_LOCAL = 1 ∧ pa < 64 * s.localBytes then (s.vaultOf pa).1
  else if resvBase ≤ pa ∧ pa < resvBase + 2 ^ 29 then pa / 128 % 64
  else (List.range 6).foldl (fun h j => h + parity (l &&& s.rf (R.cohHash j) F.cohHash_MASK) 45 * 2 ^ j) 0

/-- The set of a line in its slice (R177 to R179). -/
def State.setOf (s : State) (pa : Nat) : Nat :=
  if s.rf (R.tileVmap 0) F.tileVmap_HOME_LOCAL = 1 ∧ pa < 64 * s.localBytes then pa / 128 % 4096 else pa / 8192 % 4096

/-- The ports of populated stacks in ascending order: stack index i is at place i (R374). -/
def State.stackPorts (s : State) : List Nat :=
  match s.mf with
  | some m => (List.range 8).filter (bitOf m.stackMask)
  | none => []

/-- The offset w in its stack of a Lararis offset, of n stacks (R379). -/
def lrsOff (n o : Nat) : Nat := o / 4096 / n * 4096 + o % 4096

/-- The offset f in its channel; its bank, column and row there (R379). -/
def lrsChanOff (w : Nat) : Nat := w / 2 ^ 14 * 128 + w % 128
def lrsBank (f : Nat) : Nat := f / 128 % 32
def lrsColumn (f : Nat) : Nat := f / 2 ^ 12 % 16
def lrsRow (f : Nat) : Nat := f / 2 ^ 16

/-- The port, logical channel and bank of a Lararis offset (R379). -/
def State.lrsCell (s : State) (o : Nat) : Nat × Nat × Nat :=
  let n := s.stackPorts.length
  let w := lrsOff n o
  (s.stackPorts.getD (o / 4096 % n) 8, (w / 128 % 128) ^^^ (w / 2 ^ 14 % 128), lrsBank (lrsChanOff w))

/-- An address lies in an outbound window of slip v that is enabled (R220). -/
def State.inWinOut (s : State) (v a : Nat) : Bool :=
  (List.range 16).any (fun w =>
    decide (s.rf (R.slipWinOut v w) F.slipWinOut_EN = 1) &&
    decide (s.rf (R.slipWinOut v w) F.slipWinOut_HBASE * 2 ^ 20 ≤ a) &&
    decide (a < s.rf (R.slipWinOut v w) F.slipWinOut_HBASE * 2 ^ 20 + 2 ^ s.rf (R.slipWinOut v w) F.slipWinOut_SIZE_LOG))

/-- What an address names (R208 to R212, R220). -/
def State.placeOf (s : State) (pa : Nat) : Place :=
  let a := pa % 2 ^ 48
  match pa / 2 ^ 48 with
  | 0 =>
    if a < vaultEnd then .vault
    else if lrsBase ≤ a ∧ a < lrsBase + s.lrsCap then
      if s.heap.absent.contains (s.lrsCell (a - lrsBase)).1 then .absent else .lararis
    else if resvBase ≤ a ∧ a < resvBase + s.rways * 2 ^ 25 then .reserved
    else if 0x00FF00000000 ≤ a ∧ a ≤ 0x00FF03FFFFFF then .regs
    else .absent
  | 1 => match s.mf with
    | some m => if m.twinDeclared then .twin else .absent
    | none => .absent
  | 14 => .host
  | n => if 2 ≤ n ∧ n ≤ 9 ∧ s.rf (R.slipStatus (n - 2)) F.slipStatus_ROLE ≠ 0 ∧ s.inWinOut (n - 2) a ∧
      (mget s.slips (n - 2)).any (·.gone) = false then .slip (n - 2)
    else .absent

/-! ### Lines at their controller -/

/-- What a controller answers for a line: its data; invalid (R525); uncorrectable, with the block and cause that
recorded it (R523); a fenced row (R189); a lost channel (R386); absent. -/
inductive LineRes where
  | ok (data : Line)
  | inval
  | ue (block cause : Nat)
  | fenced
  | lost
  | absent
  deriving DecidableEq, Repr

/-- 128 bytes as a line, byte 0 lowest. -/
def lineOfBytes (l : List Byte) : Line := BitVec.ofNat 1024 (leNat l)

/-- A line as 128 bytes. -/
def bytesOfLine (l : Line) : List Byte := leBytes 128 l.toNat

/-- The bytes of a line in memory. -/
def State.rawLine (s : State) (l : Nat) : Line := lineOfBytes (cellsRead s.mem (l * 128) 128)

/-- Whether an address lies in a fenced row of its vault (R189). -/
def State.isFenced (s : State) (pa : Nat) : Bool :=
  let v := s.vaultOf pa
  let c := vaultCell v.2
  s.heap.fenced.contains (v.1, c.1, c.2.1, c.2.2)

/-- Whether a Lararis address lies in a LOST logical channel (R386, R393). -/
def State.isLost (s : State) (pa : Nat) : Bool :=
  let c := s.lrsCell (pa - lrsBase)
  bitOf (s.rv (R.lrsLost c.1 (c.2.1 / 64))).toNat (c.2.1 % 64)

/-- Whether a Lararis address lies in a stack that is taken out and not yet absent (R388). -/
def State.isOut (s : State) (pa : Nat) : Bool := decide (s.rf (R.lrsStatus (s.lrsCell (pa - lrsBase)).1) F.lrsStatus_STATE = 3)

/-- The serial number of an owner's key in a slot; none while the slot is EMPTY. -/
def State.keyIn (s : State) (o slot : Nat) : Option Nat :=
  match mget s.heap.keys o with
  | some p => if slot = 0 then p.1 else p.2
  | none => none

/-- A line that a key it was not written under decrypts: any bytes. -/
def garbled (l kid : Nat) : Line := lineOfBytes ((List.range 128).map (Config.wrongKeyByte (l * 2 ^ 32 + kid)))

/-- The controller's answer to a read of line l of a vault, a stack or the LLC-reserved range, decrypted with the keys of
owner o. -/
def State.lineReadAs (s : State) (l o : Nat) : LineRes :=
  let pa := l * 128
  match s.placeOf pa with
  | .reserved => if s.err.invTable.contains l then .inval else .ok (s.rawLine l)
  | .vault =>
    if s.isFenced pa then .fenced
    else match mget s.lmeta l with
      | some m => if m.valid then
          match s.keyIn o m.gen with
          | some k => .ok (if k = m.kid then s.rawLine l else garbled l k)
          | none => .ue 0x10 3
        else .inval
      | none => .inval
  | .lararis =>
    if s.isOut pa then .ue 0x09 8
    else if s.isLost pa then .lost
    else match mget s.lmeta l with
      | some m => if m.valid then
          match s.keyIn o m.gen with
          | some k => .ok (if k = m.kid then s.rawLine l else garbled l k)
          | none => .ue 0x10 3
        else .inval
      | none => .inval
  | .slip _ => if s.err.invTable.contains l then .inval else .absent
  | _ => .absent

/-- The controller's answer, decrypted with the keys of the owner the carve-up gives the line (R551, R552). -/
def State.lineRead (s : State) (l : Nat) : LineRes := s.lineReadAs l (s.ownerOf (l * 128))

/-- A line read at a Lararis port counted (R392). -/
def State.countRd (s : State) (l : Nat) : State :=
  match s.placeOf (l * 128) with
  | .lararis => s.raddOpen (R.lrsPerf (s.lrsCell (l * 128 - lrsBase)).1) F.lrsPerf_RD 1
  | _ => s

/-- A line's bytes with those of new where the mask has a bit. -/
def mergeLine (old new : Line) (mask : Nat) : Line :=
  lineOfBytes (((bytesOfLine old).zip (bytesOfLine new)).zipIdx.map (fun p => if bitOf mask p.2 then p.1.2 else p.1.1))

/-- A mask that selects a whole line. -/
def fullMask : Nat := 2 ^ 128 - 1

/-- A byte mask selects the whole line. -/
def isFull (mask : Nat) : Bool := decide (mask % 2 ^ 128 = fullMask)

/-- Line metadata after a write under an owner's current key (R552): a full line is valid again, a partial write leaves
the valid bit (R525). -/
def newMeta (old : Option LineMeta) (full : Bool) (gen kid : Nat) : LineMeta :=
  ⟨full || (match old with
    | some m => m.valid
    | none => false), gen, kid⟩

/-- SAL_KEY[o].CLEAN cleared by an access to a line of o's carve-up under its key (R574). -/
def State.unclean (s : State) (o : Nat) : State :=
  { s with
    regs := if s.rf (R.salKey o) F.salKey_CLEAN = 1 then mput s.regs (R.salKey o) (fset (s.rv (R.salKey o)) F.salKey_CLEAN 0)
      else s.regs }

/-- A write of a line at its controller under the keys of owner o. It answers what the writer is told: .ok after a write, .fenced or
.lost where the write is dropped, .ue SAL GEN_EMPTY where the owner has no key (R553). -/
def State.lineWriteAs (s : State) (l : Nat) (data : Line) (mask o : Nat) : State × LineRes :=
  let pa := l * 128
  let full := isFull mask
  let merged := mergeLine (s.rawLine l) data mask
  let put := cellsWrite s.mem pa (bytesOfLine merged)
  match s.placeOf pa with
  | .reserved =>
    ({ s with
        mem := put, err := { s.err with
        invTable := if full then s.err.invTable.filter (· != l) else s.err.invTable } }, .ok merged)
  | .vault =>
    let cur := s.rf (R.salKey o) F.salKey_CUR
    if s.isFenced pa then (s, .fenced)
    else match s.keyIn o cur with
      | some k => (({ s with mem := put, lmeta := mput s.lmeta l (newMeta (mget s.lmeta l) full cur k) }).unclean o, .ok merged)
      | none => (s.captureAt R.salErr capStd 3, .ue 0x10 3)
  | .lararis =>
    let cur := s.rf (R.salKey o) F.salKey_CUR
    if s.isOut pa then (s, .ue 0x09 8)
    else if s.isLost pa then (s, .lost)
    else match s.keyIn o cur with
      | some k => ((({ s with mem := put, lmeta := mput s.lmeta l (newMeta (mget s.lmeta l) full cur k) }).unclean o).raddOpen
          (R.lrsPerf (s.lrsCell (pa - lrsBase)).1) F.lrsPerf_WR 1, .ok merged)
      | none => (s.captureAt R.salErr capStd 3, .ue 0x10 3)
  | _ => (s, .absent)

/-- A write of a line under the keys of the owner the carve-up gives it (R551, R552). -/
def State.lineWrite (s : State) (l : Nat) (data : Line) (mask : Nat) : State × LineRes := s.lineWriteAs l data mask (s.ownerOf (l * 128))

/-- A line mark (R525): the valid bit cleared, or an entry of the invalid-line table. A mark that finds the table full
is answered true: INV_TABLE, FATAL. -/
def State.lineMark (s : State) (l : Nat) : State × Bool :=
  match s.placeOf (l * 128) with
  | .reserved | .slip _ =>
    if s.err.invTable.contains l then (s, false)
    else if s.err.invTable.length < 256 then
      ({ s with err := { s.err with invTable := s.err.invTable ++ [l] } }, false)
    else (s, true)
  | .vault | .lararis =>
    match mget s.lmeta l with
    | some m => ({ s with lmeta := mput s.lmeta l { m with valid := false } }, false)
    | none => (s, false)
  | _ => (s, false)

end Sys2Proof.Machine
end

