-- ==== Sys2Proof/Machine/Errors.lean ====
section
/-! DEFINITION. FATAL (R517), uncorrectable memory errors (R524), vectors due at C2, twin events, and the AER bits the
hub raises (R422). -/

namespace Sys2Proof.Machine

/-! ### Vectors (R412, R413) -/

/-- An event of a function's vector is noted for the next C2; several events of one vector are one message. -/
def State.signal (s : State) (fn vec : Nat) : State :=
  { s with
      rings := { s.rings with
      vecDue := if s.rings.vecDue.contains (fn, vec) then s.rings.vecDue else s.rings.vecDue ++ [(fn, vec)] } }

/-- signal where a condition holds. -/
def State.signalIf (s : State) (c : Bool) (fn vec : Nat) : State := if c then s.signal fn vec else s

/-! ### Configuration space (raw) and AER (R422) -/

/-- The configuration double word of a function at a byte offset; d is its reset value. -/
def State.cfgRaw (s : State) (fn off d : Nat) : Nat := mgetD s.pci.cfg (fn * 1024 + off / 4) d

/-- A configuration double word put. -/
def State.cfgPut (s : State) (fn off v : Nat) : State :=
  { s with pci := { s.pci with cfg := mput s.pci.cfg (fn * 1024 + off / 4) (v % 2 ^ 32) } }

/-- PF0's AER status registers: uncorrectable at 0x104, correctable at 0x110. -/
def aerUnc : Nat := 0x104
def aerCor : Nat := 0x110

/-- A bit of an AER status register set; an error that its mask lets through is told to the host by a message of its
severity (0 correctable, 1 non-fatal, 2 fatal) where Device Control enables it. -/
def State.aer (s : State) (off bit : Nat) : State :=
  let sev := if off = aerCor then 0 else if bitOf (s.cfgRaw 0 0x10C 0x00462030) bit then 2 else 1
  let masked := if off = aerCor then bitOf (s.cfgRaw 0 0x114 0x2000) bit else bitOf (s.cfgRaw 0 0x108 0x00400000) bit
  let s1 := s.cfgPut 0 off (setBit (s.cfgRaw 0 off 0) bit true)
  if !masked && bitOf (s.cfgRaw 0 0x58 0x2000) sev then s1.send .pcieMsg [4, 0, sev] [] else s1

/-! ### The twin pair's events (R545) -/

/-- TWIN_STATUS.ROLE. -/
def State.twinRole (s : State) : Nat := s.rf R.twinStatus F.twinStatus_ROLE

/-- A bit of TWIN_EVENT set, and its vector signalled. -/
def State.twinEvt (s : State) (f : Fld) : State :=
  (s.rset R.twinEvent f 1).signalIf (s.rf R.twinCtl F.twinCtl_VEC_EN = 1) 0 (s.rf R.twinCtl F.twinCtl_VEC)

/-- Stepping down (R539): output stops, STEPDOWN is sent while the link is up, the heartbeat stops. -/
def State.stepDown (s : State) : State :=
  if s.twinRole = 0 ∨ s.twinRole = 4 then s
  else
    let s1 := (s.rset R.twinStatus F.twinStatus_ROLE 4).twinEvt F.twinEvent_STEPDOWN
    if s.rf R.twinStatus F.twinStatus_LINK = 2 then s1.send .twin [9, 1] [] else s1

/-! ### The counts of a leg's end (R81, R102, R105) -/

/-- The TE's STATE after a leg: FAILING and LOST stay (R102). -/
def State.teState (s : State) (k x : Nat) : State :=
  if s.rf (R.teStatus k) F.teStatus_STATE ≥ 3 then s else s.rset (R.teStatus k) F.teStatus_STATE x

/-- ECLK cycles a leg ran, added to BUSY (R105). -/
def State.busyCycles (s : State) (k n : Nat) : State := s.raddOpen (R.tePerfBusy k) F.tePerfBusy_BUSY n

/-- Cycles a leg's requesters lost to bank conflicts, added to HOLD (R81, R105). -/
def State.holdStall (s : State) (k n : Nat) : State := s.raddOpen (R.tePerfStall k) F.tePerfStall_HOLD n

/-- Cycles that no command names: how many of its bound a leg ran before it halted (0), or lost to bank conflicts when it
ended without an END (1). A free value up to the bound. -/
def State.freeCycles (s : State) (r : LegRun) (what : Nat) : Nat := Config.freeValue s.fresh (6 + what) % (r.entry.bound + 1)

/-- Cycles the array waits for a block, added to WS (R105). -/
def State.wsStall (s : State) (k n : Nat) : State := s.raddOpen (R.tePerfStall k) F.tePerfStall_WS n

/-- The cycles the array of a leg has waited for a block that has not come when the leg has run n cycles: since the cycle f of R74. -/
def LegRun.arrayWait (r : LegRun) (n : Nat) : Nat :=
  match r.mma with
  | some m => if m.blocks.isEmpty then 0 else r.start + n - m.f
  | none => 0

/-- The counts of a leg that ends otherwise than by END or its watchdog (R81, R105): BUSY takes n cycles, HOLD those lost, WS
those its array waited for the block it still lacks. -/
def State.cutCycles (s : State) (k : Nat) (r : LegRun) (n : Nat) : State :=
  (((s.busyCycles k n).holdStall k (s.freeCycles r 1)).wsStall k (r.arrayWait n)).tick

/-- A leg taken off TE k at a moment no command names: its counts, and the TE idle; one that had halted was counted then. -/
def State.legCut (s : State) (k : Nat) (r : LegRun) : State :=
  if r.halted.isSome then s else (s.cutCycles k r (s.freeCycles r 0)).teState k 1

/-- legCut for the running legs that a condition picks. -/
def State.legsCut (s : State) (sel : LegRun → Bool) : State :=
  s.te.foldl (fun s p => match p.2.run with
    | some r => if sel r then s.legCut p.1 r else s
    | none => s) s

/-! ### FATAL (R517) -/

/-- A TE that abandoned its leg and starts no other. -/
def TeSt.abandoned (t : TeSt) : TeSt :=
  { t with
    plan := [], run := none, wsb := [], stream := [], ahead := [],
    tail := t.tail ++ (match t.run with
      | some r => r.movs
      | none => []) }

/-! ### Clock domains (R310, R321 to R325) -/

/-- The frequency of a domain in MHz (R310): the slips' by their link's rate, PCLK by the host link's. -/
def State.domMhz (s : State) (d : Nat) : Nat :=
  if d = 0 then 1050 else if d = 1 then 2000 else if d = 2 then 1600 else if d = 3 then 800
  else if d < 12 then [250, 375, 500, 750, 1000].getD (s.rf (R.slipStatus (d - 4)) F.slipStatus_RATE) 0
  else if d = 12 then 800
  else if d = 13 then (let r := s.rf R.pciStatus F.pciStatus_RATE; if 5 ≤ r then 1000 else if r = 4 then 500 else 250)
  else if d = 14 then 875 else if d = 15 then 200 else if d = 16 then 100 else 0

/-- A domain's state shown (R325, R323): 0 STOPPED, 1 RESET, 2 RUN; a domain that runs is locked, and its pairs are open. -/
def State.domTo (s : State) (d st : Nat) : State :=
  let s1 := ((s.rset (R.fordDom d) F.fordDom_STATE st).rset (R.fordDom d) F.fordDom_MHZ (if st = 0 then 0 else s.domMhz d)).rset
    R.fordStatus ⟨F.fordStatus_NOT_READY.lo + d, 1⟩ (b2n (decide (st ≠ 2)))
  let s2 := s1.setFab { s1.fab with fords := if st = 2 then s1.fab.fords.filter (fun x => !(decide (x.1 = d) || decide (x.2 = d))) else s1.fab.fords }
  s2.rsetIf (decide (st = 2) || decide (d = 15)) (R.fordDom d) F.fordDom_LOCK 1

/-- A pair of domains joined by fords one of which is, or has been, in reset, and has not reported ready with the other: nothing passes
(R321). -/
def State.fordShut (s : State) (a b : Nat) : Bool := s.fab.fords.any (fun x => decide (x = (a, b)) || decide (x = (b, a)))

/-! ### FATAL (R517) -/

/-- What FATAL does at once. -/
def State.fatalNow (s : State) : State :=
  let s0 := s.legsCut (fun _ => true)
  let s1 : State :=
    { s0 with
      te := s0.te.map (fun p => (p.1, p.2.abandoned)),
      bars := [], copies := [],
      rings := { s0.rings with due := [], spill := [], vecDue := [], vecSpill := [] },
      err := { s0.err with fatal := true },
      pins := { s0.pins with fault := true, slipRst := 255, lrsRst := 255, hb := false } }
  let s2 := ((List.range 8).filter (fun v => decide (s1.rf (R.slipStatus v) F.slipStatus_STATE ≠ 0))).foldl (fun s v => s.domTo (4 + v) 1) s1
  ((s2.rset R.brgStatus F.brgStatus_STATE 4).aer aerUnc 22).stepDown

/-- FATAL: its effect at once, and its report on the way to the sequencer. -/
def State.fatal (s : State) (block cause unit : Nat) : State := s.fatalNow.errBare clsFatal block cause unit

/-- FATAL by a temperature trip: THERM_TRIP_N is asserted with it, unless FATAL has another cause already (R592). -/
def State.fatalTrip (s : State) (block cause unit : Nat) : State :=
  let s1 := s.fatal block cause unit
  { s1 with pins := { s1.pins with therm := s1.pins.therm || !s.err.fatal } }

/-! ### Uncorrectable memory errors (R524) -/

/-- The line marked, the sailing voided with MEM_UE. -/
def State.memUe (s : State) (l block cause unit : Nat) (tenant : Option Nat) : State :=
  let m := s.lineMark l
  let s1 := m.1.voidFor tenant 0x42 block cause unit (some (l * 128))
  if m.2 then s1.fatal 0x0E 1 0 else s1

end Sys2Proof.Machine
end

