-- ==== Sys2Proof/Machine/Osp.lean ====
section
/-! DEFINITION. The sending side of a slip's adapter (R355 to R361, R367): headers that wait for credits, HEAD, DATA, CTRL and IDLE
flits, the store that a replay is sent from. -/

namespace Sys2Proof.Machine

/-! ### The state of a slip -/

/-- A sending side without credits. -/
def OspTx.idle : OspTx := ⟨0, [], [], [], [], [], [], false, false⟩

/-- A slip nothing has happened to. -/
def SlipSt.idle : SlipSt := ⟨0, false, 0, none, [], [], [], 0, false, true, false, false, false, [], OspTx.idle, 0⟩

def State.sl (s : State) (v : Nat) : SlipSt := mgetD s.slips v SlipSt.idle

def State.setSl (s : State) (v : Nat) (x : SlipSt) : State := { s with slips := mput s.slips v x }

/-- SLIP_STATUS.STATE: 0 OFF, 1 TRAINING, 2 UP, 3 RETRAIN, 4 DOWN. -/
def State.slState (s : State) (v : Nat) : Nat := s.rf (R.slipStatus v) F.slipStatus_STATE

/-- A slip's link carries traffic, or will after its retrain (R367). -/
def State.slipLive (s : State) (v : Nat) : Bool := decide (s.slState v = 2) || decide (s.slState v = 3)

/-- A slip's sending side replaced. -/
def State.setTx (s : State) (v : Nat) (x : OspTx) : State := s.setSl v { s.sl v with tx := x }

/-! ### CRC-32 (IEEE 802.3) -/

/-- One bit of the reflected CRC. -/
def crcBit (c : Nat) : Nat := if c % 2 = 1 then (c / 2) ^^^ 0xEDB88320 else c / 2

def crcByte (c : Nat) (b : Byte) : Nat := crcBit (crcBit (crcBit (crcBit (crcBit (crcBit (crcBit (crcBit (c ^^^ b.toNat))))))))

def crc32 (bs : List Byte) : Nat := (bs.foldl crcByte 0xFFFFFFFF) ^^^ 0xFFFFFFFF

/-! ### Headers and credits (R357, R360) -/

/-- A field of a word being built: its bits below 2^w at bit lo. -/
def atBit (lo w x : Nat) : Nat := x % 2 ^ w * 2 ^ lo

/-- The 128 bits of an OSP header (R360): class, opcode, QoS class, tag, address, AUX, whether a line and a mask slot follow. -/
def ospBits (cls op qc tag addr aux : Nat) (df masked : Bool) : Nat :=
  atBit 125 3 cls + atBit 120 5 op + atBit 118 2 qc + atBit 105 10 tag + atBit 48 57 (addr / 128) + atBit 2 12 aux + atBit 1 1 (b2n df) +
    b2n masked

/-- The slots a header that waits takes. -/
def OspHead.slots (h : OspHead) : Nat := 1 + h.bits % 2

/-- What a header takes of credits: slots of its class, a line of its pool (R357). -/
def ospNeed (cls slots : Nat) (df : Bool) : List Nat :=
  (List.range 7).map (fun i => if i = cls then slots else if df = true ∧ i = (if cls = 0 then 5 else 6) then 1 else 0)

def OspHead.need (h : OspHead) : List Nat := ospNeed (bitsOf h.bits 125 3) h.slots h.data.isSome

/-- Credits enough. -/
def credOk (have_ need : List Nat) : Bool := (List.range 7).all (fun i => decide (need.getD i 0 ≤ have_.getD i 0))

/-- Credits spent, and credits gained. -/
def credSub (a b : List Nat) : List Nat := (List.range 7).map (fun i => a.getD i 0 - b.getD i 0)
def credAdd (a b : List Nat) : List Nat := (List.range 7).map (fun i => a.getD i 0 + b.getD i 0)

/-- What the hub offers a chiplet: 64 slots of each class, 256 lines in each pool (R357). -/
def ospOffer : List Nat := [64, 64, 64, 64, 64, 256, 256]

/-- The sending side of a link that comes UP: it holds what the chiplet's descriptor declares (R351, R357). -/
def State.ospStart (s : State) (v : Nat) : State :=
  let d (i lo w : Nat) : Nat := bitsOf (s.rv (R.slipDesc v i)).toNat lo w
  s.setTx v { OspTx.idle with cred := List.replicate 5 (d 2 48 8) ++ [d 3 0 16, d 3 16 16], adv := ospOffer, give := List.replicate 7 0 }

/-- Credits of headers and lines that the adapter has let go, to be returned. -/
def State.ospFree (s : State) (v : Nat) (need : List Nat) : State := s.setTx v { (s.sl v).tx with give := credAdd (s.sl v).tx.give need }

/-- A message for a chiplet handed to its slip: it waits for its credits. What is for a link that is DOWN is discarded (R368). -/
def State.osp (s : State) (v : Nat) (args : List Nat) (bytes : List Byte) (h : OspHead) : State :=
  if s.slState v = 4 then s
  else
    let s1 := s.send .osp args bytes
    s1.setTx v { (s1.sl v).tx with heads := (s1.sl v).tx.heads ++ [h] }

/-- A message without a line. -/
def State.ospMsg (s : State) (v : Nat) (args : List Nat) (cls op qc tag addr aux : Nat) : State :=
  s.osp v args [] ⟨ospBits cls op qc tag addr aux false false, 0, none⟩

/-- ERR with a cause for a chiplet's request. -/
def State.ospErr (s : State) (v qc tag addr cause : Nat) : State := s.ospMsg v [8, v + 2, tag, addr, cause] 2 7 qc tag addr cause

/-- DATA with a grant, and GNT, for a chiplet's request. -/
def State.ospData (s : State) (v qc tag addr grant : Nat) (d : Line) : State :=
  s.osp v [4, v + 2, tag, addr, grant] (bytesOfLine d) ⟨ospBits 3 1 qc tag addr grant true false, 0, some d⟩
def State.ospGnt (s : State) (v qc tag addr : Nat) : State := s.ospMsg v [5, v + 2, tag, addr] 2 1 qc tag addr 0

/-! ### Flits (R355, R356) -/

/-- The credits a flit returns: none of class REQ and its pool in QUIET (R38, R359). -/
def State.ospGive (s : State) (v : Nat) : List Nat :=
  let g := (s.sl v).tx.give
  if s.time.stage = .quiet then (List.range 7).map (fun i => if i = 0 ∨ i = 5 then 0 else g.getD i 0) else (List.range 7).map (fun i => g.getD i 0)

/-- The CREDIT field. -/
def creditField (g : List Nat) : Nat :=
  ((List.range 5).map (fun i => atBit (8 * i) 8 (g.getD i 0))).sum + atBit 40 12 (g.getD 5 0) + atBit 52 12 (g.getD 6 0)

/-- Credits of a CREDIT field. -/
def creditsOf (n : Nat) : List Nat := (List.range 5).map (fun i => bitsOf n (8 * i) 8) ++ [bitsOf n 40 12, bitsOf n 52 12]

/-- The 256 bytes of a flit of a kind with a payload of 240. -/
def State.ospFlit (s : State) (v kind fseq : Nat) (payload : List Byte) : List Byte :=
  let x := s.sl v
  let b := leBytes 2 (fseq % 4096 + kind * 4096) ++ leBytes 2 ((x.rxSeq + 4095) % 4096 + 4096 * b2n x.tx.got) ++
    leBytes 8 (creditField (s.ospGive v)) ++ (payload ++ List.replicate (240 - payload.length) 0)
  b ++ leBytes 4 (crc32 b)

/-- A flit sent: the credits it returns are the chiplet's. -/
def State.ospSend (s : State) (v kind fseq : Nat) (payload : List Byte) : State :=
  let f := s.ospFlit v kind fseq payload
  let g := s.ospGive v
  let t := (s.sl v).tx
  (s.send .osp [11, v + 2] f).setTx v { t with adv := credAdd t.adv g, give := credSub t.give g, owed := false }

/-- A HEAD or DATA flit sent and kept until it is acknowledged (R356). -/
def State.ospKeep (s : State) (v kind : Nat) (payload : List Byte) : State :=
  let t := (s.sl v).tx
  let f := s.ospFlit v kind t.seq payload
  let s1 := s.ospSend v kind t.seq payload
  s1.setTx v { (s1.sl v).tx with seq := (t.seq + 1) % 4096, kept := t.kept ++ [(t.seq, f)] }

/-- The headers of a HEAD flit, of those that wait: in their order within a class, while credits and its 15 slots last; those left, the
credits left (R357, R358). stuck: classes of which one already waits. -/
def ospPick : List OspHead → List Nat → Nat → List Nat → List OspHead × List OspHead × List Nat
  | [], cred, _, _ => ([], [], cred)
  | h :: hs, cred, room, stuck =>
    let c := bitsOf h.bits 125 3
    if !(stuck.contains c) && credOk cred h.need && decide (h.slots ≤ room) then
      let r := ospPick hs (credSub cred h.need) (room - h.slots) stuck
      (h :: r.1, r.2.1, r.2.2)
    else
      let r := ospPick hs cred room (c :: stuck)
      (r.1, h :: r.2.1, r.2.2)

/-- The slots of headers as bytes. -/
def ospSlots (hs : List OspHead) : List Byte :=
  hs.flatMap (fun h => leBytes 16 h.bits ++ (if h.bits % 2 = 1 then leBytes 16 h.mask else []))

/-- One flit of a slip that is UP and whose fords are open: a DATA flit while 240 bytes of the stream wait, else a HEAD flit, else what is left of the stream, else an
IDLE flit where there is something to acknowledge or return. Not more than 128 flits are unacknowledged (R356). DESIGN CHOICE (log 207):
the bytes of a DATA flit after the last line whose header was sent are 0 and belong to no line. -/
def State.ospStep (s : State) (v : Nat) : State :=
  let t := (s.sl v).tx
  let p := ospPick t.heads t.cred 15 []
  if s.slState v ≠ 2 ∨ s.fordShut 1 (4 + v) = true then s
  else if t.kept.length < 128 ∧ 240 ≤ t.bytes.length then (s.setTx v { t with bytes := t.bytes.drop 240 }).ospKeep v 2 (t.bytes.take 240)
  else if t.kept.length < 128 ∧ p.1.isEmpty = false then
    (s.setTx v { t with heads := p.2.1, cred := p.2.2, bytes := t.bytes ++ p.1.flatMap (fun h => match h.data with
      | some d => bytesOfLine d
      | none => []) }).ospKeep v 1 (ospSlots p.1)
  else if t.kept.length < 128 ∧ t.bytes.isEmpty = false then (s.setTx v { t with bytes := [] }).ospKeep v 2 t.bytes
  else if t.owed || (s.ospGive v).any (fun n => decide (n ≠ 0)) then s.ospSend v 0 0 []
  else s

/-- Every slip's flits of one TCLK cycle: up to eight (DESIGN CHOICE, log 207). -/
def State.ospTick (s : State) : State :=
  (List.range 8).foldl (fun s v => if s.slState v = 2 then (List.range 8).foldl (fun s _ => s.ospStep v) s else s) s

/-- The hub waits for a credit of a slip (R359). -/
def State.ospStuck (s : State) (v : Nat) : Bool :=
  let t := (s.sl v).tx
  (t.heads.head?).any (fun h => !(credOk t.cred h.need))

/-- What a good flit says of the hub's own: those it acknowledges are dropped; fresh: the credits it returns are gained (R355, R356). -/
def State.ospHear (s : State) (v : Nat) (flit : List Byte) (fresh : Bool) : State :=
  let t := (s.sl v).tx
  let a := leAt flit 2 2
  let kept := if bitOf a 12 && t.kept.any (fun (k : Nat × List Byte) => decide (k.1 = a % 4096)) then
      (t.kept.dropWhile (fun (k : Nat × List Byte) => decide (k.1 ≠ a % 4096))).drop 1 else t.kept
  s.setTx v { t with kept := kept, cred := if fresh then credAdd t.cred (creditsOf (leAt flit 4 8)) else t.cred, owed := t.owed || fresh }

/-- Kept flits sent again, from an FSEQ on (R356), or all of them after a retrain (R367). -/
def State.ospResend (s : State) (v : Nat) (fseq : Option Nat) : State :=
  let k := (s.sl v).tx.kept
  let from_ := match fseq with
    | some n => k.dropWhile (fun (x : Nat × List Byte) => decide (x.1 ≠ n % 4096))
    | none => k
  from_.foldl (fun s x => s.send .osp [11, v + 2] x.2) s

/-- CTRL REPLAY from the next FSEQ expected. -/
def State.ospReplay (s : State) (v : Nat) : State := s.ospSend v 3 0 (leBytes 1 1 ++ leBytes 2 (s.sl v).rxSeq)

end Sys2Proof.Machine
end

