-- ==== Sys2Proof/Machine/Hostlink.lean ====
section
/-! DEFINITION. The hub as a PCIe requester (R405 to R411): what may be issued, tags, reads in pieces, posted writes,
failed master requests, and the links to the twin and the slips on which other reads leave. -/

namespace Sys2Proof.Machine

/-! ### What may be issued (R405, R414, R417) -/

/-- PF0 is in D3hot (R414). -/
def State.d3hot (s : State) : Bool := s.cfgRaw 0 0x44 8 % 4 = 3

/-- A function's Bus Master Enable, as it acts. -/
def State.busMaster (s : State) (fn : Nat) : Bool := bitOf (s.cfgRaw fn 4 0x00100000) 2 && !s.d3hot

/-- A function's Memory Space Enable, as it acts: PF0's own, or the SR-IOV VF MSE for a VF. -/
def State.memSpace (s : State) (fn : Nat) : Bool :=
  bitOf (s.cfgRaw fn 4 0x00100000) 1 && !s.d3hot

/-- A tenant being torn down (R417). -/
def State.torn (s : State) (t : Nat) : Bool := bitOf (s.rv (R.pciFlr (t / 64))).toNat (t % 64)

/-- A function whose VF is being torn down. -/
def State.tornFn (s : State) (fn : Nat) : Bool := decide (fn > 0) && s.torn (fn - 1)

/-- The host link carries traffic: trained, whatever its power state, since a TLP to send starts the exit from L1 and
the request for x16 (R415). -/
def State.hostUp (s : State) : Bool := s.rf R.pciStatus F.pciStatus_RATE ≠ 0

/-- A request of a function can be issued: none of a tenant whose TDI is CONFIG_LOCKED (R559). -/
def State.canIssue (s : State) (fn : Nat) : Bool :=
  s.busMaster fn && s.hostUp && !(decide (fn > 0) && decide (bitsOf (s.rv (R.salTdi ((fn - 1) / 32))).toNat (2 * ((fn - 1) % 32)) 2 = 1))

/-- The link in L0 at the width it trained to (R415). -/
def State.toL0 (s : State) : State := (s.rset R.pciStatus F.pciStatus_WIDTH s.pci.width).rset R.pciStatus F.pciStatus_LPM 0

/-- A TLP leaves: the link is in L0. -/
def State.wakeLink (s : State) : State := if s.rf R.pciStatus F.pciStatus_LPM = 0 then s else s.toL0

/-- One LTR message, where LTR Mechanism Enable is set (R416). -/
def State.ltrSend (s : State) : State :=
  if bitOf (s.cfgRaw 0 0x78 0) 10 && s.hostUp then (s.send .pcieMsg [3, 0, s.rf R.pciLpm F.pciLpm_LTR_US] []).wakeLink else s

/-! ### Failures (R409, R425) -/

/-- The layout of PCI_ERR. -/
def capPci : CapFlds := ⟨F.pciErr_SAIL_LO, F.pciErr_VALID, F.pciErr_CAUSE, F.pciErr_COUNT⟩

/-- An error captured in PCI_ERR, with its function where it is the first. -/
def State.pciCap (s : State) (fn cause : Nat) : State :=
  let s1 := s.captureAt R.pciErr capPci cause
  if s.captured R.pciErr capPci then s1 else { s1 with regs := mput s1.regs R.pciErr (fset (s1.rv R.pciErr) F.pciErr_FUNC fn) }

/-- A failed master request counted and captured. -/
def State.hostFail (s : State) (fn cause : Nat) : State := (s.radd R.pciCnt F.pciCnt_FAILED 1).pciCap fn cause

/-! ### The twin pair's part in host traffic (R535, R537) -/

/-- A partition's TWIN_PART state put. -/
def State.setTwinPart (s : State) (p x : Nat) : State := s.rset (R.twinPart (p / 32)) ⟨2 * (p % 32), 2⟩ x

/-- An entry put into the ferry of the sailing in progress, where this hub is the primary and the partition is paired;
it leaves as it is produced. -/
def State.ferry (s : State) (typ part key : Nat) (data : List Byte) : State :=
  if (s.twinRole = 1 ∨ s.twinRole = 3) ∧ s.twinPart part = 2 ∧ s.shadowed part = false then
    let n := s.twin.bytes + 16 + data.length
    let full := !s.twin.hold && decide (n ≥ s.rf (R.qosGrantEff 73) F.qosGrantEff_RATE)
    let s1 := (({ s with
      twin := { s.twin with
        out := s.twin.out ++ [⟨typ, part, key, data⟩], bytes := n, hold := s.twin.hold || full } } : State).radd R.twinCnt
      F.twinCnt_HOLD (b2n full)).send .twin [5, typ, part, key] data
    if full then s1.twinEvt F.twinEvent_HOLD else s1
  else s

/-- The partition of a function's tenant. -/
def State.partOfFn (s : State) (fn : Nat) : Nat := if fn = 0 then 64 else (s.partOf (fn - 1)).getD 64

/-- The entry of the ferry that serves a read of host memory: HOSTDATA of the requester, the address and the length (R535,
R537). -/
def State.ferried (s : State) (who : List Nat) (pa len : Nat) : Option FEntry :=
  s.twin.running.bind (fun f => f.entries.find? (fun e =>
    decide (e.typ = 3) && decide (e.key = hostAddr pa) && decide (e.data.length = len + 8) && decide (leAt e.data 0 1 = who.headD 0)))

/-- An entry of the ferry used: the next one of its requester and address serves the next read. -/
def State.useEntry (s : State) (e : FEntry) : State :=
  { s with
    twin := { s.twin with running := s.twin.running.map (fun f => { f with entries := f.entries.erase e }) } }

/-- A shadow keeps this function's writes (R537). -/
def State.shadows (s : State) (fn : Nat) : Bool := decide (s.twinRole = 2) && decide (s.twinPart (s.partOfFn fn) = 2)

/-- A function's reads are served from ferries, and its partition admits what they list (R537). -/
def State.fed (s : State) (fn : Nat) : Bool := s.shadowed (s.partOfFn fn)

/-- An output a shadow keeps until ISSUED arrives for its sailing (R537). -/
def State.retain (s : State) (o : Out) : State := { s with twin := { s.twin with retained := s.twin.retained ++ [(s.sailNo (s.partOfFn (o.args.headD 0)), o)] } }

/-! ### ATS (R241) -/

/-- A function's ATS Enable: PF0's at 0x2B4, a VF's at 0x114, bit 31. -/
def State.atsOn (s : State) (fn : Nat) : Bool :=
  if fn = 0 then bitOf (s.cfgRaw 0 0x2B4 0x20) 31 else bitOf (s.cfgRaw fn 0x114 0x20) 31

/-- The key of a function's host page in the ATC. -/
def atcKey (fn addr : Nat) : Nat := fn * 2 ^ 52 + addr / 4096

/-- A host access looked up in the ATC: the address and AT field it is issued with, 2 Translated where the entry
grants it, 0 Untranslated; a miss sends one Translation Request for the page. DESIGN CHOICE: an entry that grants only
the other direction gives an Untranslated access (log 215). -/
def State.atsLook (s : State) (fn addr : Nat) (write : Bool) : State × Nat × Nat :=
  if s.atsOn fn then
    match mget s.dtu.atc (atcKey fn addr) with
    | some v => if bitOf v (if write then 1 else 0) then (s, v / 4 * 4096 + addr % 4096, 2) else (s, addr, 0)
    | none =>
      if s.dtu.atsReq.contains (atcKey fn addr) then (s, addr, 0)
      else
        (({ s with dtu := { s.dtu with atsReq := s.dtu.atsReq ++ [atcKey fn addr] } } : State).send .pcieMsg
          [1, fn, addr / 4096] [], addr, 0)
  else (s, addr, 0)

/-- A read's tag with the ATC entry it was issued by (R242); what the tag stood for before is over. -/
def State.atsTag (s : State) (tag key : Nat) (translated : Bool) : State :=
  { s with
    dtu := { s.dtu with
      atsUse := s.dtu.atsUse.filter (fun u => decide (u.1 ≠ tag)) ++ (if translated then [(tag, key)] else []),
      atsHold := s.dtu.atsHold.filter (fun h => decide (h.2 ≠ tag)) } }

/-! ### Tags (R407) -/

/-- Tag values usable. -/
def State.tagValues (s : State) : Nat :=
  if bitOf (s.cfgRaw 0 0x268 0) 2 then 16384 else if bitOf (s.cfgRaw 0 0x78 0) 12 then 768 else 256

/-- The tags of reads outstanding on the host link. -/
def State.hostTags (s : State) : List Nat :=
  (s.heap.remReads.filter (fun r => onHost r.pa)).flatMap (fun r => r.left.map (·.1)) ++ s.pci.orphan.map (·.1)

/-- PCI_TAG shows the counts (R407, R424). -/
def State.showTags (s : State) : State :=
  ((s.rset R.pciTag F.pciTag_OUT s.hostTags.length).rset R.pciTag F.pciTag_QUAR s.pci.quar.length).rset R.pciTag
    F.pciTag_VALUES s.tagValues

/-- The lowest tag value that is free, while fewer than 4,096 reads are outstanding. -/
def freeTag (used quar : List Nat) (values : Nat) : Option Nat :=
  if used.length ≥ 4096 then none
  else (List.range values).find? (fun t => !(used.contains t) && !(quar.contains t))

/-- The address a node's own side knows an address by: a chiplet's through the lowest outbound window that covers it
(R366), the twin's local address. -/
def State.sideAddr (s : State) (pa : Nat) : Nat :=
  let v := pa / 2 ^ 48 - 2
  let a := pa % 2 ^ 48
  match (List.range 16).find? (fun w =>
      decide (s.rf (R.slipWinOut v w) F.slipWinOut_EN = 1) &&
      decide (s.rf (R.slipWinOut v w) F.slipWinOut_HBASE * 2 ^ 20 ≤ a) &&
      decide (a < s.rf (R.slipWinOut v w) F.slipWinOut_HBASE * 2 ^ 20 + 2 ^ s.rf (R.slipWinOut v w) F.slipWinOut_SIZE_LOG)) with
  | some w => if pa / 2 ^ 48 < 2 then a else
      s.rf (R.slipWinOutTgt v w) F.slipWinOutTgt_CADDR * 2 ^ 20 + (a - s.rf (R.slipWinOut v w) F.slipWinOut_HBASE * 2 ^ 20)
  | none => a

/-! ### Reads of other nodes, shared by every requester -/

/-- The read a requester has made of an address range, where it has made one. -/
def State.remFind (s : State) (who : List Nat) (pa len : Nat) : Option RRead :=
  s.heap.remReads.find? (fun r => decide (r.who = who) && decide (r.pa = pa) && decide (r.len = len))

/-- The table of reads replaced. -/
def State.remSet (s : State) (l : List RRead) : State := { s with heap := { s.heap with remReads := l } }

/-- A range cut at multiples of a boundary and into pieces: offset and bytes of each. -/
def cutRead (fuel pa n piece bound off : Nat) : List (Nat × Nat) :=
  match fuel with
  | 0 => []
  | f + 1 =>
    if n = 0 then []
    else
      let k := min (min n piece) (bound - pa % bound)
      (off, k) :: cutRead f (pa + k) (n - k) piece bound (off + k)

/-- Max Read Request Size in force (R406), and the host's MPS (R405), both from PF0's Device Control. -/
def State.mrrs (s : State) : Nat := min 4096 (128 * 2 ^ (bitsOf (s.cfgRaw 0 0x58 0x2000) 12 3))
def State.mps (s : State) : Nat := min 512 (128 * 2 ^ (bitsOf (s.cfgRaw 0 0x58 0x2000) 5 3))

/-- The pieces of a read of a node: host reads by MRRS and 4 KiB boundaries (R406), other nodes by lines (R282). -/
def State.cutFor (s : State) (pa len : Nat) : List (Nat × Nat) :=
  if onHost pa then cutRead (len / s.mrrs + len / 4096 + 3) pa len s.mrrs 4096 0
  else cutRead (len / 128 + 2) pa len 128 128 0

/-- The first read with a piece waiting for a tag. -/
def firstWaiting : List RRead → Option (RRead × Nat × Nat)
  | [] => none
  | r :: rs =>
    match r.wait with
    | (o, n) :: _ => some (r, o, n)
    | [] => firstWaiting rs

/-- The read with the first of its waiting pieces sent under a tag. -/
def RRead.tagged (r : RRead) (tag : Nat) : RRead :=
  match r.wait with
  | (o, n) :: w => { r with left := r.left ++ [(tag, o, n)], wait := w }
  | [] => r

/-- Waiting pieces go out in order while tags are free (R407). -/
def State.pumpTags (s : State) : Nat → State
  | 0 => s
  | f + 1 =>
    match firstWaiting s.heap.remReads with
    | some (r, o, n) =>
      match freeTag s.hostTags (s.pci.quar.map (·.1)) s.tagValues with
      | some t =>
        let a := s.atsLook r.func (hostAddr r.pa + o) false
        ((((a.1.atsTag t (atcKey r.func (hostAddr r.pa + o)) (decide (a.2.2 = 2))).remSet (a.1.heap.remReads.map (fun x => if x = r then r.tagged t else x))).send .memRead
          [r.func, t, a.2.1, n, a.2.2] []).wakeLink).pumpTags f
      | none => s
    | none => s

/-- Pieces that wait for a tag, in all reads. -/
def State.waiting (s : State) : Nat := (s.heap.remReads.map (fun r => r.wait.length)).sum

/-- A read of host memory issued: cut into pieces, or failed at once where it cannot be issued, or ended without data
for a tenant being torn down. -/
def State.hostRead (s : State) (who : List Nat) (pa len func : Nat) : State :=
  let add (st : Nat) (w : List (Nat × Nat)) (s : State) : State :=
    s.remSet (s.heap.remReads ++ [⟨who, pa, len, func, List.replicate len 0, [], w, st⟩])
  if s.fed func then
    match s.ferried who pa len with
    | some e => (s.useEntry e).remSet (s.heap.remReads ++ [⟨who, pa, len, func, e.data.drop 8, [], [], 1⟩])
    | none => s
  else if s.tornFn func then add 3 [] s
  else if 2 ^ 48 < hostAddr pa + len then s.remSet (s.heap.remReads ++ [⟨who, pa, len, func, [0], [], [], 2⟩])
  else if !(s.canIssue func) then (s.hostFail func 7).remSet (s.heap.remReads ++ [⟨who, pa, len, func, [7], [], [], 2⟩])
  else
    let ps := s.cutFor pa len
    let s1 := add (if ps.isEmpty then 1 else 0) ps s
    (s1.pumpTags (s1.waiting)).showTags

/-- The port of another node takes requests: the twin's link is up, a slip's is up or retrains (R367). -/
def State.nodeUp (s : State) (node : Nat) : Bool :=
  if node = 1 then decide (s.rf R.twinStatus F.twinStatus_LINK = 2) else s.slipLive (node - 2)

/-- A request to the twin or to a slip leaves by its port. -/
def State.askNode (s : State) (node : Nat) (args : List Nat) (bytes : List Byte) (h : OspHead) : State :=
  if node = 1 then s.send .twin args bytes else s.osp (node - 2) args bytes h

/-- The class of a request that goes on for a requester (R293): of a home's or a controller's it is carried on. -/
def whoQc (who : List Nat) : Nat :=
  match who with
  | [9, _, _, _, q, _, _] => q
  | [14, _, _, q, _, _] => q
  | _ => 2

/-- An MWR of the bytes of a line that a mask selects: a partial one carries its mask in the next slot (R284, R360; DESIGN CHOICE, log
207). -/
def mwrHead (who : List Nat) (tag addr mask : Nat) (bs : List Byte) : OspHead :=
  let part := decide (mask ≠ 2 ^ 128 - 1)
  ⟨ospBits 0 8 (whoQc who) tag addr 0 true part, mask, some (BitVec.ofNat 1024 (leNat bs))⟩

/-- A read of memory behind a slip or of the twin: tagged requests leave through the node's port, or it fails at once
where the link is not up. -/
def State.nodeRead (s : State) (who : List Nat) (pa len func : Nat) : State :=
  let node := pa / 2 ^ 48
  let ps := s.cutFor pa len
  let tagged := (ps.zipIdx s.heap.nextTag).map (fun p => (p.2, p.1.1, p.1.2))
  if s.nodeUp node && !s.err.fatal then
    let s1 : State := { s with
      heap := { s.heap with
        remReads := s.heap.remReads ++
          [⟨who, pa, len, func, List.replicate len 0, tagged, [], if ps.isEmpty then 1 else 0⟩],
        nextTag := s.heap.nextTag + ps.length } }
    tagged.foldl (fun s p => s.askNode node [1, node, p.1, s.sideAddr (pa + p.2.1), p.2.2] []
      ⟨ospBits 0 7 (whoQc who) p.1 (s.sideAddr (pa + p.2.1)) 0 false false, 0, none⟩) s1
  else s.remSet (s.heap.remReads ++ [⟨who, pa, len, func, [], [], [], 2⟩])

/-- A read of another node issued for a requester. -/
def State.remIssue (s : State) (who : List Nat) (pa len func : Nat) : State :=
  if onHost pa then s.hostRead who pa len func else s.nodeRead who pa len func

/-- The bytes of a read of another node: 0 while under way, with the read issued if it was not yet; 1 with its bytes once
done; 2 when it failed; 3 when it ended without data. A finished read is taken. -/
def State.remGet (s : State) (who : List Nat) (pa len func : Nat) : State × Nat × List Byte :=
  match s.remFind who pa len with
  | some r =>
    if r.st = 0 then (s, 0, [])
    else (s.remSet (s.heap.remReads.erase r), r.st, r.data)
  | none => (s.remIssue who pa len func, 0, [])

/-- Every read of a requester forgotten; tags of its reads of host memory stay in use until they end (R418). -/
def State.remDrop (s : State) (p : RRead → Bool) : State :=
  let gone := s.heap.remReads.filter p
  { s with
    heap := { s.heap with remReads := s.heap.remReads.filter (fun r => !(p r)) },
    pci := { s.pci with
    orphan := s.pci.orphan ++
      (gone.filter (fun r => onHost r.pa)).flatMap (fun r => r.left.map (fun l => (l.1, l.2.2, some r.func))) } }

/-! ### The read of a manifest (R462) -/

/-- The reads of a manifest are this requester's. -/
def manWho : List Nat := [8]

/-- The read of the manifest that STAGE started. -/
def State.manRead (s : State) : Option RRead := s.heap.remReads.find? (fun r => r.who = manWho)

/-- MAN_STATUS.STATE goes from LOADING to CHECKING once the manifest's range is read, or its read has failed (R462). -/
def State.manArrived (s : State) : State :=
  s.rsetIf (decide (s.rf R.manStatus F.manStatus_STATE = 1) && s.manRead.any (fun r => r.st ≠ 0)) R.manStatus F.manStatus_STATE 2

/-! ### Posted writes (R405) -/

/-- Bytes written to host memory by a function: split at the MPS and at 4 KiB boundaries. It answers false where the
write could not be issued; to an address of 2⁴⁸ or above none is (R210). After FATAL none is issued (R517); for a
tenant being torn down it is dropped (R417). -/
def State.hostWrite (s : State) (func addr : Nat) (bs : List Byte) : State × Bool :=
  if s.muted || s.tornFn func then (s, true)
  else if s.shadows func then (s.retain ⟨.memWrite, [func, addr], bs⟩, true)
  else if 2 ^ 48 < addr + bs.length then (s, false)
  else if !(s.canIssue func) then (s.hostFail func 7, false)
  else
    let ps := cutRead (bs.length / s.mps + bs.length / 4096 + 3) addr bs.length s.mps 4096 0
    ((ps.foldl (fun s p =>
        let a := s.atsLook func (addr + p.1) true
        a.1.send .memWrite [func, a.2.1, a.2.2] (slice bs p.1 p.2)) s).wakeLink, true)

/-- One MWR of a line's bytes to the memory behind a slip or of the twin, sent and kept until it is acknowledged (R361). -/
def State.nodeWrite (s : State) (who : List Nat) (pa mask : Nat) (args : List Nat) (bs line : List Byte) : State :=
  let tag := s.heap.nextTag
  let s1 : State := { s with heap := { s.heap with remWrites := s.heap.remWrites ++ [⟨who, tag, pa, s.sail⟩], nextTag := tag + 1 } }
  s1.askNode (pa / 2 ^ 48) ([2, pa / 2 ^ 48, tag, s.sideAddr pa] ++ args) bs (mwrHead who tag (s.sideAddr pa) mask line)

/-- A write to another node: posted to the host, or sent to the twin or a slip line by line and acknowledged later (R361). It answers
false where it could not be issued. -/
def State.remWrite (s : State) (who : List Nat) (pa func : Nat) (bs : List Byte) : State × Bool :=
  if onHost pa then s.hostWrite func (hostAddr pa) bs
  else if s.nodeUp (pa / 2 ^ 48) && !s.err.fatal then
    ((s.cutFor pa bs.length).foldl (fun s p =>
      let o := (pa + p.1) % 128
      s.nodeWrite who (pa + p.1) ((2 ^ p.2 - 1) * 2 ^ o) [p.2] (slice bs p.1 p.2) (List.replicate o 0 ++ slice bs p.1 p.2)) s, true)
  else (s, false)

/-- The bytes of a line that a mask selects, written to the memory behind a slip or of the twin as one MWR with its mask (R281). -/
def State.remMasked (s : State) (who : List Nat) (pa mask : Nat) (bs : List Byte) : State × Bool :=
  if s.nodeUp (pa / 2 ^ 48) && !s.err.fatal then (s.nodeWrite who pa mask [bs.length, mask] bs bs, true) else (s, false)

/-- No write of a requester is unacknowledged. -/
def State.writesDone (s : State) (who : List Nat) : Bool := !(s.heap.remWrites.any (fun w => w.who = who))

end Sys2Proof.Machine
end

