-- ==== Sys2Proof/Machine/Packet.lean ====
section
/-! DEFINITION. The fabric's links: headers, flits and the control word (R280 to R284), routers, ports and routes (R277 to R279,
R288), virtual channels and their buffers (R285 to R287), output arbitration (R291), packets under way (R289, R290, R301,
R303). -/

namespace Sys2Proof.Machine

/-! ### Headers and flits (R280, R281, R284) -/

/-- The 128 bits of a header (R281). -/
def FabHdr.bits (h : FabHdr) : Nat :=
  atBit 125 3 h.cls + atBit 120 5 h.op + atBit 118 2 h.qc + atBit 111 7 h.dst + atBit 104 7 h.src + atBit 97 7 h.rid +
    atBit 87 10 h.tag + atBit 42 45 h.addr + atBit 29 13 h.ten + atBit 14 15 h.ts + atBit 2 12 h.aux + atBit 1 1 (b2n h.df) +
    b2n h.masked

/-- The header 128 bits hold (R281). -/
def fabHdrOf (n : Nat) : FabHdr :=
  ⟨bitsOf n 125 3, bitsOf n 120 5, bitsOf n 118 2, bitsOf n 111 7, bitsOf n 104 7, bitsOf n 97 7, bitsOf n 87 10, bitsOf n 42 45,
    bitsOf n 29 13, bitsOf n 14 15, bitsOf n 2 12, bitOf n 1, bitOf n 0⟩

/-- Codes R282 lists: OP 0 and the others are reserved. -/
def opListed (cls op : Nat) : Bool :=
  match cls with
  | 0 => decide (1 ≤ op) && decide (op ≤ 8)
  | 1 => decide (1 ≤ op) && decide (op ≤ 4)
  | 2 => decide (1 ≤ op) && decide (op ≤ 8)
  | 3 => decide (1 ≤ op) && decide (op ≤ 3)
  | 4 => decide (1 ≤ op) && decide (op ≤ 2)
  | 5 => decide (1 ≤ op) && decide (op ≤ 5)
  | _ => false

/-- Whether a message of R282 has a D flit. -/
def opData (cls op : Nat) : Bool :=
  match cls with
  | 0 => decide (op = 5) || decide (op = 6) || decide (op = 8)
  | 3 => true
  | 4 => decide (op = 1)
  | 5 => decide (op = 2) || decide (op = 3) || decide (op = 5)
  | _ => false

/-- A C flit: slot i at bits [128i + 127:128i], an unused slot 0 (R280, R281). -/
def cFlit (slots : List Nat) : Nat := ((slots.take 8).zipIdx.map (fun x => atBit (128 * x.2) 128 x.1)).sum

/-- A D flit: byte i of the line at bits [8i + 7:8i] (R280). -/
def dFlit (l : Line) : Nat := l.toNat

/-- The control word beside a flit (R280): VC, KIND, DMG, CREDIT, CRC. -/
def controlWord (vc : Nat) (isD dmg : Bool) (credit flit : Nat) : Nat :=
  let hi := atBit 44 4 vc + atBit 43 1 (b2n isD) + atBit 42 1 (b2n dmg) + atBit 24 18 credit
  hi + (Config.crc24 flit (hi / 2 ^ 24)).toNat

/-- The slots a header takes: WRP's mask takes a second one (R284). -/
def FabHdr.slots (h : FabHdr) : Nat := 1 + b2n h.masked

/-! ### Routers, ports and routes (R277 to R279, R288) -/

/-- The router a port of a router leads to. -/
def portTo (r p : Nat) : Option Nat :=
  let y := r / 8
  let x := r % 8
  if r < 64 then
    match p with
    | 0 => some (8 * y + (x + 1) % 8)
    | 1 => some (8 * y + (x + 7) % 8)
    | 2 => some (8 * ((y + 1) % 8) + x)
    | 3 => some (8 * ((y + 7) % 8) + x)
    | 4 => some (if 4 ≤ x then 64 + y else 72 + y)
    | 5 => if 4 ≤ x then some (72 + y) else if r = 27 then some 80 else if r = 35 then some 81 else if r = 0 then some 82 else none
    | _ => none
  else if r < 72 then (if p < 4 then some (8 * (r - 64) + 4 + p) else none)
  else if r < 80 then (if p < 8 then some (8 * (r - 72) + p) else none)
  else if p ≠ 0 then none
  else if r = 80 then some 27 else if r = 81 then some 35 else some 0

/-- The router and port at the other end of a link. -/
def otherEnd (r p : Nat) : Option (Nat × Nat) :=
  (portTo r p).bind (fun t => ((List.range 8).find? (fun q => portTo t q = some r)).map (fun q => (t, q)))

/-- The shorter way in a dimension of 8 from position a to b: the port of the ascending direction on a tie of 4 hops. -/
def shortWay (a b up down : Nat) : Nat := if (b + 8 - a) % 8 ≤ 4 then up else down

/-- The columns of a spur's attachments in its row (R279). -/
def spurCols (d : Nat) : List Nat :=
  if d < 72 then [4, 5, 6, 7] else if d < 80 then [0, 1, 2, 3, 4, 5, 6, 7] else if d = 80 ∨ d = 81 then [3] else [0]

/-- The row a spur is attached in. -/
def spurRow (d : Nat) : Nat := if d < 72 then d - 64 else if d < 80 then d - 72 else if d = 80 then 3 else if d = 81 then 4 else 0

/-- Hops between two columns of a ring of 8. -/
def ringDist (a b : Nat) : Nat := min ((b + 8 - a) % 8) ((a + 8 - b) % 8)

/-- The port by which a packet leaves a spur: the attachment nearest to its destination in X. -/
def spurExit (r d : Nat) : Nat :=
  let ways := (List.range 8).filterMap (fun p => (portTo r p).map (fun t => (ringDist (t % 8) (d % 8), p)))
  (ways.foldl (fun b c => if c.1 < b.1 then c else b) (ways.headD (0, 0))).2

/-- Igmin's default route (R288): the shorter way in each dimension, X first, leaving the torus at the attachment nearest in X. -/
def defaultPort (r d : Nat) : Nat :=
  let x := r % 8
  let y := r / 8
  if r = d then 6
  else if 64 ≤ r then spurExit r d
  else
    let col := if d < 64 then d % 8 else
      ((spurCols d).foldl (fun b c => if ringDist x c < ringDist x b then c else b) ((spurCols d).headD 0))
    let row := if d < 64 then d / 8 else spurRow d
    if x ≠ col then shortWay x col 0 1
    else if y ≠ row then shortWay y row 2 3
    else if 72 ≤ d ∧ d < 80 then (if 4 ≤ x then 5 else 4)
    else if d < 72 then 4 else 5

/-- A table's port at router r toward router d. -/
def tabPort (t : Array Nat) (r d : Nat) : Nat := t.getD (83 * r + d) 7

/-- The output port in force at router r toward router d: the manifest's table that OCT_STATUS.ROUTE names, or the default. -/
def State.route (s : State) (r d : Nat) : Nat :=
  match s.mf with
  | some m => match m.tabs[s.rf R.octStatus F.octStatus_ROUTE]? with
    | some t => t.ports.getD (83 * r + d) 7
    | none => defaultPort r d
  | none => defaultPort r d

/-- The state of a port (R307): 0 UP, 1 RETRAIN, 2 FAILED, 3 ABSENT. -/
def State.portSt (s : State) (r p : Nat) : Nat := bitsOf (s.rv (R.octLink r)).toNat (2 * p) 2

/-- The router of a requester (R249, R277): a tile's own, a slip's, the PCIe, twin and management spurs. -/
def reqRouter (a : Nat) : Nat := if a < 72 then a else a + 8

/-! ### Virtual channels (R285 to R287) -/

/-- The dimension of a torus port: 0 X, 1 Y, 2 neither. -/
def portDim (p : Nat) : Nat := if p < 2 then 0 else if p < 4 then 1 else 2

/-- A hop over the dateline of its dimension: between positions 7 and 0. -/
def crossesDate (r p : Nat) : Bool :=
  decide (r < 64) && ((decide (p = 0) && decide (r % 8 = 7)) || (decide (p = 1) && decide (r % 8 = 0)) ||
    (decide (p = 2) && decide (r / 8 = 7)) || (decide (p = 3) && decide (r / 8 = 0)))

/-- A packet after it takes port p of router r: a new dimension starts on the lower VC, the dateline moves it to the upper one,
spur links use the lower one (R286). A snoop keeps the VC of its part of the ring (R287). -/
def Pkt.hop (x : Pkt) (r p : Nat) : Pkt :=
  let dim := if 64 ≤ r then 2 else portDim p
  { x with
    dim := dim, wait := 0,
    up := if x.hdr.cls = 1 then x.up else decide (dim < 2) && ((decide (x.dim = dim) && x.up) || crossesDate r p) }

/-- The VC a packet uses: 2c or 2c + 1. -/
def Pkt.vc (x : Pkt) : Nat := 2 * x.hdr.cls + b2n x.up

/-- The VC a snoop uses toward the stop at a ring position (R287): 2 from its home's entry stop, 3 once it has passed from slip 7 to
tile 0, 2 again at its home. -/
def snoopVc (home stop : Nat) : Nat := if stop ≤ home then 3 else 2

/-- The key of a router's port and VC. -/
def vcKey (r p v : Nat) : Nat := 12 * (8 * r + p) + v

/-- The packets of a flit. -/
def FFlit.pkts : FFlit → List Pkt
  | .c l => l
  | .d p => [p]

/-- The 1,024 bits of a flit: a C flit's headers, each with its mask slot, or a D flit's line (R280, R284). -/
def FFlit.bits : FFlit → Nat
  | .c l => cFlit (l.flatMap (fun p => if p.hdr.masked then [p.hdr.bits, p.mask] else [p.hdr.bits]))
  | .d p => dFlit p.data

/-- A flit carries a line, and whether it is damaged (R280, R304). -/
def FFlit.isD : FFlit → Bool
  | .c _ => false
  | .d _ => true
def FFlit.dmg : FFlit → Bool
  | .c _ => false
  | .d p => p.dmg

/-- A flit of QC0: its highest class. -/
def FFlit.qc0 (f : FFlit) : Bool := f.pkts.any (fun p => decide (p.hdr.qc = 0))

/-- Room for a flit in an input buffer: 8 flits, of which two are for QC0 only (R285). -/
def NetSt.room (n : NetSt) (key : Nat) (f : FFlit) : Bool :=
  let b := mgetD n.bufs key []
  decide (b.length < 8) && (f.qc0 || decide ((b.filter (fun x => !x.qc0)).length < 6))

/-! ### Output arbitration (R291) -/

/-- The escalation step of a requester and class (R328, R345). -/
def State.escStep (s : State) (p q : Nat) : Nat := bitsOf (s.rv (R.qosStep p)).toNat (3 * q) 3

/-- OCT_CFG.AGE; 0 acts as 1. -/
def State.ageLim (s : State) : Nat := max 1 (s.rf R.octCfg F.octCfg_AGE)

/-- The priority of a requester's class after a wait in FCLK cycles (R291). -/
def State.prio (s : State) (rid qc wait : Nat) : Nat :=
  if s.ageLim ≤ wait then 32
  else match qc with
    | 0 => 31
    | 1 => 16 + s.escStep rid 1
    | 2 => 8 + s.escStep rid 2
    | _ => s.escStep rid 3

/-- The place of a class in a tie: RSP, DAT, WB, SNP, REQ, MGT. -/
def classRank (c : Nat) : Nat :=
  match c with
  | 2 => 0
  | 3 => 1
  | 4 => 2
  | 1 => 3
  | 0 => 4
  | _ => 5

/-- A flit's rank at an output, lower first: priority, class, upper VC before lower, the oldest packet. -/
def State.flitRank (s : State) (v : Nat) (f : FFlit) : List Nat :=
  let ps := f.pkts
  let pr := ps.foldl (fun m p => max m (s.prio p.hdr.rid p.hdr.qc p.wait)) 0
  [32 - pr, classRank (v / 2), 1 - v % 2, (ps.map (·.id)).foldl min (((ps.map (·.id)).head?).getD 0)]

/-- The order of ranks. -/
def rankLt : List Nat → List Nat → Bool
  | a :: as, b :: bs => decide (a < b) || (decide (a = b) && rankLt as bs)
  | _, _ => false

/-- Where an output's next flit of a VC comes from: the D flit it owes, or a C flit packed from the heads of the router's
buffers. -/
structure Cand where
  vc : Nat
  flit : FFlit
  owes : Bool
  deriving DecidableEq, Repr

/-- The headers at the front of a list that leave by port p on VC v, up to a number of slots (R284). -/
def State.fronts (s : State) (r p v : Nat) : Nat → List Pkt → List Pkt
  | _, [] => []
  | k, x :: xs =>
    if decide (s.route r x.hdr.dst = p) && decide ((x.hop r p).vc = v) && decide (x.hdr.slots ≤ k)
    then x :: s.fronts r p v (k - x.hdr.slots) xs else []

/-- The headers at the head of a buffer: those of a C flit; none while a D flit leads. -/
def headPkts (b : List FFlit) : List Pkt :=
  match b with
  | .c l :: _ => l
  | _ => []

/-- Packets that wait at their source router, of one class. -/
def NetSt.injAt (n : NetSt) (r c : Nat) : List Pkt := (n.inj.filter (fun x => decide (x.1 = r) && decide (x.2.hdr.cls = c))).map (·.2)

/-- The headers an output packs into a C flit of VC v: from the source queue, then from its router's input buffers. -/
def State.pack (s : State) (r p v : Nat) : List Pkt :=
  let n := s.fab.net
  let heads := n.injAt r (v / 2) :: (n.bufs.filter (fun b => decide (b.1 / 96 = r) && decide (b.1 % 12 / 2 = v / 2))).map (fun b => headPkts b.2)
  heads.foldl (fun acc l => acc ++ s.fronts r p v (8 - (acc.map (·.hdr.slots)).sum) l) []

/-- What an output can send on a VC: the D flit it owes, once it is there, or else a C flit; only where the next buffer has room. -/
def State.candOf (s : State) (r p v : Nat) (nx : Nat × Nat) : Option Cand :=
  let n := s.fab.net
  let mk (f : FFlit) (owes : Bool) : Option Cand := if n.room (vcKey nx.1 nx.2 v) f then some ⟨v, f, owes⟩ else none
  match mgetD n.due (vcKey r p v) [] with
  | (x, key) :: _ =>
    if key = 0 ∨ (mgetD n.bufs (key - 1) []).any (fun f => match f with
      | .d y => decide (y.id = x.id)
      | .c _ => false) then mk (.d x) true else none
  | [] =>
    match s.pack r p v with
    | [] => none
    | l => mk (.c l) false

/-- The flit an output sends in this cycle (R291). -/
def State.choose (s : State) (r p : Nat) (nx : Nat × Nat) : Option Cand :=
  ((List.range 12).filterMap (fun v => s.candOf r p v nx)).foldl (fun best c =>
    match best with
    | none => some c
    | some b => if rankLt (s.flitRank c.vc c.flit) (s.flitRank b.vc b.flit) then some c else some b) none

/-! ### One FCLK cycle -/

/-- A buffer without a list of packets' headers; an empty C flit is gone. -/
def dropPkts (ids : List Nat) (b : List FFlit) : List FFlit :=
  b.filterMap (fun f => match f with
    | .c l => match l.filter (fun x => !(ids.contains x.id)) with
      | [] => none
      | l' => some (.c l')
    | .d p => some (.d p))

/-- A buffer without a packet's D flit. -/
def dropD (id : Nat) (b : List FFlit) : List FFlit :=
  b.filter (fun f => match f with
    | .d p => decide (p.id ≠ id)
    | .c _ => true)

/-- A buffer put; an empty one is not listed. -/
def NetSt.putBuf (n : NetSt) (key : Nat) (b : List FFlit) : NetSt :=
  { n with bufs := if b.isEmpty then mdel n.bufs key else mput n.bufs key b }

/-- Where the D flit of a packet that leaves router r comes from: 0 its source, else a buffer's key plus 1. -/
def NetSt.dFrom (n : NetSt) (r : Nat) (x : Pkt) : Nat :=
  if n.inj.any (fun y => decide (y.1 = r) && decide (y.2.id = x.id)) then 0
  else match n.bufs.find? (fun b => decide (b.1 / 96 = r) && b.2.any (fun f => f.pkts.any (fun y => decide (y.id = x.id)))) with
    | some b => b.1 + 1
    | none => 0

/-- A packet at its destination (R290): it is there once its D flit is. -/
def NetSt.eject (n : NetSt) (x : Pkt) : NetSt :=
  if x.hdr.df then { n with await := n.await ++ [x.id] } else { n with live := n.live.filter (· != x.id) }

/-- A flit arrives at a router's port: headers and lines for this router leave the network, the rest waits in the buffer. -/
def NetSt.arrive (n : NetSt) (at_ : Nat × Nat) (v : Nat) (f : FFlit) : NetSt :=
  let key := vcKey at_.1 at_.2 v
  match f with
  | .c l =>
    let n1 := (l.filter (fun x => decide (x.hdr.dst = at_.1))).foldl NetSt.eject n
    match l.filter (fun x => decide (x.hdr.dst ≠ at_.1)) with
    | [] => n1
    | rest => n1.putBuf key (mgetD n1.bufs key [] ++ [.c rest])
  | .d x =>
    if x.hdr.dst = at_.1 then { n with await := n.await.filter (· != x.id), live := n.live.filter (· != x.id) }
    else n.putBuf key (mgetD n.bufs key [] ++ [.d x])

/-- CREDIT (R280): one bit for each VC of the reverse direction whose buffer at a port has room. -/
def NetSt.credits (n : NetSt) (r p : Nat) : Nat :=
  ((List.range 12).map (fun v => b2n (decide ((mgetD n.bufs (vcKey r p v) []).length < 8)) * 2 ^ v)).sum

/-- The control word that travels beside a flit that leaves by a port (R280). -/
def NetSt.control (n : NetSt) (r p : Nat) (c : Cand) : Nat := controlWord c.vc c.flit.isD c.flit.dmg (n.credits r p) c.flit.bits

/-- The flit an output has chosen leaves its router: it is kept with its control word among the link's last 32 (R301), its D flits are
owed next. -/
def NetSt.leave (n : NetSt) (r p : Nat) (c : Cand) : NetSt :=
  let k := vcKey r p c.vc
  let n1 := { n with
    sent := mput n.sent (8 * r + p) ((mgetD n.sent (8 * r + p) [] ++ [(c.flit, n.control r p c)]).drop
      ((mgetD n.sent (8 * r + p) []).length - 31)) }
  match c.flit with
  | .c l =>
    let ids := l.map (·.id)
    let owed : List (Pkt × Nat) := (l.filter (fun x => x.hdr.df)).map (fun x => (x.hop r p, n.dFrom r x))
    { n1 with
      inj := n1.inj.filter (fun (y : Nat × Pkt) => !(ids.contains y.2.id)),
      bufs := (n1.bufs.map (fun (b : Nat × List FFlit) => if b.1 / 96 = r then (b.1, dropPkts ids b.2) else b)).filter (fun b => !b.2.isEmpty),
      due := if owed.isEmpty then n1.due else mput n1.due k owed }
  | .d x =>
    let rest := (mgetD n1.due k []).drop 1
    let key := ((mgetD n1.due k []).map (·.2)).headD 0
    let n2 := { n1 with due := if rest.isEmpty then mdel n1.due k else mput n1.due k rest }
    if key = 0 then n2 else n2.putBuf (key - 1) (dropD x.id (mgetD n2.bufs (key - 1) []))

/-- A flit as the next router receives it. -/
def Cand.taken (c : Cand) (r p : Nat) : FFlit :=
  match c.flit with
  | .c l => .c (l.map (fun x => x.hop r p))
  | .d x => .d x

/-- The routers that hold a packet. -/
def NetSt.busyAt (n : NetSt) : List Nat :=
  let a : List Nat := n.inj.map Prod.fst
  let b : List Nat := n.bufs.map (fun (b : Nat × List FFlit) => b.1 / 96)
  let d : List Nat := n.due.map (fun (b : Nat × List (Pkt × Nat)) => b.1 / 96)
  (a ++ b ++ d).eraseDups

/-- One output's turn: its flit leaves, and is noted to arrive when the cycle ends. -/
def State.outTurn (x : State × List ((Nat × Nat) × Nat × FFlit)) (o : Nat × Nat) : State × List ((Nat × Nat) × Nat × FFlit) :=
  match otherEnd o.1 o.2 with
  | some nx =>
    if x.1.portSt o.1 o.2 ≠ 0 then x
    else match x.1.choose o.1 o.2 nx with
      | some c => (x.1.setFab { x.1.fab with net := x.1.fab.net.leave o.1 o.2 c }, x.2 ++ [(nx, c.vc, c.taken o.1 o.2)])
      | none => x
  | none => x

/-- A packet that has waited one more cycle. -/
def Pkt.older (x : Pkt) : Pkt := { x with wait := x.wait + 1 }

def FFlit.older : FFlit → FFlit
  | .c l => .c (l.map Pkt.older)
  | .d p => .d p.older

/-- Everything that waits is a cycle older. -/
def NetSt.age (n : NetSt) : NetSt :=
  { n with
    inj := n.inj.map (fun x => (x.1, x.2.older)),
    bufs := n.bufs.map (fun b => (b.1, b.2.map FFlit.older)),
    due := n.due.map (fun b => (b.1, b.2.map (fun x => (x.1.older, x.2)))) }

/-- One FCLK cycle of every router: each output of a port that is UP sends one flit. -/
def State.fabTick (s : State) : State :=
  if s.fab.net.live.isEmpty then s
  else
    let outs := s.fab.net.busyAt.flatMap (fun r => (List.range 8).map (fun p => (r, p)))
    let x := outs.foldl State.outTurn (s, [])
    x.1.setFab { x.1.fab with net := x.2.foldl (fun n a => n.arrive a.1 a.2.1 a.2.2) x.1.fab.net.age }

/-! ### Packets injected and received (R289) -/

/-- A packet injected at a router on the lower VC of its class, or with up on the upper one, with what its mask slot and its D flit
hold: its number; 0 for one that stays at its router. -/
def State.postAt (s : State) (at_ : Nat) (h : FabHdr) (up : Bool) (mask : Nat) (d : Line) : State × Nat :=
  if at_ = h.dst then (s, 0)
  else
    let n := s.fab.net
    (s.setFab { s.fab with net := { n with
      next := n.next + 1, live := n.live ++ [n.next], inj := n.inj ++ [(at_, ⟨n.next, h, 2, up, 0, mask, d, false⟩)] } }, n.next)

/-- A message's packet injected at its source router. -/
def State.post (s : State) (h : FabHdr) (mask : Nat) (d : Line) : State × Nat := s.postAt h.src h false mask d

/-- A message's packet has reached its destination. -/
def State.there (s : State) (pid : Nat) : Bool := !(s.fab.net.live.contains pid)

/-- A packet whose D flits an output that failed still owes: it goes back to its router with its line. -/
def NetSt.recall (n : NetSt) (r p : Nat) : NetSt :=
  let back := ((List.range 12).flatMap (fun v => mgetD n.due (vcKey r p v) [])).map (·.1)
  let ids := back.map (·.id)
  { n with
    inj := back.map (fun x => (r, { x with dim := 2, up := false })) ++ n.inj,
    bufs := (n.bufs.map (fun b => (b.1, back.foldl (fun l x => dropD x.id l) (dropPkts ids b.2)))).filter (fun b => !b.2.isEmpty),
    due := n.due.filter (fun b => !(decide (b.1 / 12 = 8 * r + p)) && !(b.2.all (fun x => ids.contains x.1.id))),
    await := n.await.filter (fun i => !(ids.contains i)) }

/-- Packets held at a router for a failed output go on from it on the lower VC of their class (R303). -/
def NetSt.reinject (n : NetSt) (held : Nat → Pkt → Bool) : NetSt :=
  { n with
    inj := n.inj.map (fun x => if held x.1 x.2 then (x.1, { x.2 with dim := 2, up := false }) else x),
    bufs := n.bufs.map (fun b => (b.1, b.2.map (fun f => match f with
      | .c l => .c (l.map (fun x => if held (b.1 / 96) x then { x with dim := 2, up := false } else x))
      | .d x => .d x))) }

/-- The D flits of a line under a tag damaged where they are (R304). -/
def NetSt.damage (n : NetSt) (tag l : Nat) (d : Line) : NetSt :=
  let hit (x : Pkt) : Pkt := if x.hdr.df ∧ x.hdr.tag = tag ∧ x.hdr.addr = l then { x with data := d, dmg := true } else x
  { n with
    inj := n.inj.map (fun x => (x.1, hit x.2)),
    bufs := n.bufs.map (fun b => (b.1, b.2.map (fun f => match f with
      | .c l => .c (l.map hit)
      | .d x => .d (hit x)))),
    due := n.due.map (fun b => (b.1, b.2.map (fun x => (hit x.1, x.2)))) }

/-! ### Packets for homes, controllers and blocks -/

/-- A packet put on the fabric for a home, a controller or a block. -/
def State.fly (s : State) (h : FabHdr) (mask : Nat) (d : Line) (x : HPkt) : State :=
  let p := s.post h mask d
  p.1.setFab { p.1.fab with air := p.1.fab.air ++ [(p.2, x)] }

end Sys2Proof.Machine
end

