-- ==== Sys2Proof/Machine/Toll.lean ====
section
/-! DEFINITION. Tolls, byte counters and latency samples (R294, R295, R327, R332, R333, R342). -/

namespace Sys2Proof.Machine

/-- The number of a pair: injection point p in class q. -/
def pairNo (p q : Nat) : Nat := 4 * p + q

/-- The rate of a pair's toll; none where it is untolled. A QC1 pair runs at no more than its effective rate (R342). -/
def State.pairRate (s : State) (p q : Nat) : Option Nat :=
  let r := s.rf (R.octToll p q) F.octToll_RATE
  if q = 1 then some (min r (s.rf (R.qosGrantEff p) F.qosGrantEff_RATE))
  else if r = 2 ^ 32 - 1 then none
  else some r

/-- The scale s of a class (R294, R333). -/
def State.tollScale (s : State) (q : Nat) : Nat :=
  if q = 2 then s.rf R.qosStatus F.qosStatus_S2 else if q = 3 then s.rf R.qosStatus F.qosStatus_S3 else 8

/-- What one TCLK cycle adds to a bucket. -/
def refill (rate period scale : Nat) : Nat := rate * 65536 / period * scale / 8

/-- A bucket's size. -/
def State.bucketMax (s : State) (p q : Nat) : Nat := s.rf (R.octToll p q) F.octToll_BURST * 65536

/-- The level of a pair's bucket now. -/
def State.bucket (s : State) (p q : Nat) : Int :=
  match mget s.fab.buckets (pairNo p q) with
  | some (lv, t) =>
    let per := s.rf R.sailPeriod F.sailPeriod_PERIOD
    min (lv + refill ((s.pairRate p q).getD 0) per (s.tollScale q) * (s.time.total - t : Nat)) (s.bucketMax p q)
  | none => s.bucketMax p q

/-- A pair's bucket put at a level. -/
def State.putBucket (s : State) (p q : Nat) (lv : Int) : State :=
  s.setFab { s.fab with buckets := mput s.fab.buckets (pairNo p q) (lv, s.time.total) }

/-- Every bucket brought up to date, before a rate, a size or a scale changes. -/
def State.settleAll (s : State) : State :=
  s.setFab { s.fab with buckets := s.fab.buckets.map (fun b => (b.1, (s.bucket (b.1 / 4) (b.1 % 4), s.time.total))) }

/-- The tokens of one request. -/
def oneLine : Int := 128 * 65536

/-- A request of a pair may be injected. -/
def State.tokens (s : State) (p q : Nat) : Bool := (s.pairRate p q).isNone || decide (oneLine ≤ s.bucket p q)

/-- The tokens of one request taken. -/
def State.takeTokens (s : State) (p q : Nat) : State :=
  if (s.pairRate p q).isNone then s else s.putBucket p q (s.bucket p q - oneLine)

/-- A stream prefetch's debit: below zero too, but never below minus the bucket's size (R295). -/
def State.debitSpf (s : State) (p q : Nat) : State :=
  if (s.pairRate p q).isNone then s else s.putBucket p q (max (s.bucket p q - oneLine) (-(s.bucketMax p q : Int)))

/-- Bytes of a pair counted (R332). -/
def State.charge (s : State) (p q n : Nat) : State := s.rinc (R.qosBytes p q) F.qosBytes_BYTES n

/-- The count of requests a class's toll has held. -/
def tollCntFld (q : Nat) : Fld :=
  if q = 0 then F.octTollCnt_QC0 else if q = 1 then F.octTollCnt_QC1 else if q = 2 then F.octTollCnt_QC2 else F.octTollCnt_QC3

/-- A mover's record at its toll: who, the pair, the lines paid for, the held requests of the pair that came before it. -/
def State.moverRec (s : State) (who : List Nat) (p q : Nat) : Option (List Nat × Nat × Nat × Nat) :=
  s.fab.movers.find? (fun m => decide (m.1 = who) && decide (m.2.1 = pairNo p q))

/-- Lines a mover has paid for. -/
def State.moverPaid (s : State) (who : List Nat) (p q : Nat) : Nat := ((s.moverRec who p q).map (fun m => m.2.2.1)).getD 0

/-- A mover still has the access it waits with: a walk (1), a leg's MOV (2), a ring's descriptor or chunk (3), a
record (5), a measurement (6), a COPY (7), a host access of BAR2 (13). -/
def State.moverLive (s : State) : List Nat → Bool
  | [1, t, c, _] => s.dtu.walks.any (fun w => decide (w.cache = c) && decide (w.tenant = t))
  | [2, k, i] => (mget s.te k).any (fun t => t.tail.any (fun m => decide (m.id = i)) || t.run.any (fun r => r.movs.any (fun m => decide (m.id = i))))
  | 3 :: g :: d :: _ => s.rings.ctxs.any (fun c => decide (c.ring = g) && decide (c.didx = d))
  | [6, t] => (mget s.sec.tmeas t).isSome
  | 5 :: _ => !(s.rings.due ++ s.rings.spill).isEmpty
  | [7, p, i, n] => s.copies.any (fun c => decide (c.part = p) && decide (c.idx = i) && decide (c.target = n))
  | [13, o, tag] => s.pci.stalled.any (fun r => decide (r.off = o) && decide (r.tag = tag))
  | _ => true

/-- The mover is the next of its pair: the first that waits, with no held request before it (R294: the requests behind a
waiting one wait too). -/
def State.moverTurn (s : State) (who : List Nat) (p q : Nat) : Bool :=
  match s.fab.movers.find? (fun m => decide (m.2.1 = pairNo p q) && (decide (m.1 = who) || s.moverLive m.1)) with
  | some m => decide (m.1 = who) && decide (m.2.2.2 = 0)
  | none => !(s.fab.tolled.any (fun w => decide (w.req = p) && decide (w.qc = q)))

/-- A mover's n requests are injected or can be now. -/
def State.tollReady (s : State) (who : List Nat) (p q n : Nat) : Bool :=
  (s.pairRate p q).isNone || decide (n ≤ s.moverPaid who p q) ||
    (s.moverTurn who p q && decide (oneLine * (n - s.moverPaid who p q : Nat) ≤ s.bucket p q))

/-- The records of movers at their tolls replaced. -/
def State.setMovers (s : State) (l : List (List Nat × Nat × Nat × Nat)) : State := s.setFab { s.fab with movers := l }

/-- A mover whose requests do not all find tokens: those that do are injected, the next one waits and is counted (R294). -/
def State.tollPay (s : State) (who : List Nat) (p q n : Nat) : State :=
  if s.tollReady who p q n then s
  else if s.moverTurn who p q then
    let paid := s.moverPaid who p q
    let k := min (n - paid) (s.bucket p q / oneLine).toNat
    if k = 0 ∧ (s.moverRec who p q).isSome then s
    else
      let s1 := s.putBucket p q (s.bucket p q - oneLine * (k : Nat))
      (s1.setMovers (match s.moverRec who p q with
        | some m => s1.fab.movers.map (fun x => if x = m then (who, pairNo p q, paid + k, 0) else x)
        | none => s1.fab.movers ++ [(who, pairNo p q, k, 0)])).raddOpen (R.octTollCnt p) (tollCntFld q) 1
  else if (s.moverRec who p q).isSome then s
  else (s.setMovers (s.fab.movers ++ [(who, pairNo p q, 0,
      (s.fab.tolled.filter (fun w => decide (w.req = p) && decide (w.qc = q))).length)])).raddOpen (R.octTollCnt p) (tollCntFld q) 1

/-- The tokens of a mover's n requests taken, where it has not paid for them yet; its record ends. -/
def State.tollTake (s : State) (who : List Nat) (p q n : Nat) : State :=
  if (s.pairRate p q).isNone then s
  else
    let paid := s.moverPaid who p q
    let s1 := if paid < n then s.putBucket p q (s.bucket p q - oneLine * (n - paid : Nat)) else s
    s1.setMovers (s1.fab.movers.filter (fun m => !(decide (m.1 = who) && decide (m.2.1 = pairNo p q))))

/-- A request that waits at its injection point. -/
def State.holdReq (s : State) (q : CReq) : State :=
  (s.setFab { s.fab with tolled := s.fab.tolled ++ [q] }).raddOpen (R.octTollCnt q.req) (tollCntFld q.qc) 1

/-- A latency sample of a pair: TCLK cycles since the request's injection, modulo 2¹⁵ (R327). -/
def State.latSample (s : State) (p q ts : Nat) : State :=
  let x := mgetD s.fab.samples (pairNo p q) (0, 0)
  s.setFab { s.fab with
    samples := mput s.fab.samples (pairNo p q) (x.1 + (s.time.total % 2 ^ 15 + 2 ^ 15 - ts % 2 ^ 15) % 2 ^ 15, x.2 + 1) }

/-- n requests of a hub mover that its targets answer in the cycle they are injected in: samples of 0 (R327; DESIGN CHOICE, log 195). -/
def State.latNow (s : State) (p q n : Nat) : State :=
  let x := mgetD s.fab.samples (pairNo p q) (0, 0)
  s.setFab { s.fab with samples := mput s.fab.samples (pairNo p q) (x.1, x.2 + n) }

/-- A RUN's sweeps and scrubs reckoned to this cycle, at the scale in force (R333, R334). -/
def State.cleanTick (s : State) : State :=
  { s with sec := { s.sec with cleanAt := s.time.total, cleanCr := s.sec.cleanCr + s.tollScale 3 * (s.time.total - s.sec.cleanAt) } }

/-- The tenant a request carries; none for PF0, firmware or chiplet traffic (R281). -/
def tenOpt (t : Nat) : Option Nat := if t < 4096 then some t else none

/-- A power domain used in this sailing (R297). -/
def State.useDom (s : State) (d : Nat) : State := s.setFab { s.fab with used := nins s.fab.used d }

/-- The tile-cache domain of a tile agent used: it has sent or received a packet (R296, R297). -/
def State.useAgent (s : State) (a : Nat) : State := if a < 64 then s.useDom (8 * a + 5) else s

/-- The home domain of a slice and the tile-cache domain of a tile agent used by a request (R296). -/
def State.useReq (s : State) (req home : Nat) : State := (s.useDom (8 * home + 6)).useAgent req

/-- OCT_PWR.STATE: 0 ON, 1 SLEEP, 2 WAKING, 3 OFF. -/
def State.domSt (s : State) (d : Nat) : Nat := s.rf (R.octPwr d) F.octPwr_STATE

/-- A packet for a sleeping domain raises its wake line (R298). -/
def State.wake (s : State) (d : Nat) : State :=
  if s.domSt d = 1 then (s.rset (R.octPwr d) F.octPwr_STATE 2).raddOpen (R.octPwr d) F.octPwr_WAKES 1 else s

/-- A hit or miss of a slice counted (R206). -/
def State.countLlc (s : State) (h : Nat) (hit : Bool) : State :=
  s.raddOpen (R.tilePerfLlc h) (if hit then F.tilePerfLlc_HIT else F.tilePerfLlc_MISS) 1

/-- The published queue level of the controller that serves an address (R333). -/
def State.levelOf (s : State) (pa : Nat) : Nat :=
  match s.placeOf pa with
  | .vault => mgetD s.fab.levels (s.vaultOf pa).1 0
  | .lararis => mgetD s.fab.levels (64 + (s.lrsCell (pa - lrsBase)).1) 0
  | _ => 0

/-- QOS_CFG.THRESH; 0 acts as 1. -/
def State.thresh (s : State) : Nat := max 1 (s.rf R.qosCfg F.qosCfg_THRESH)

end Sys2Proof.Machine
end

