-- ==== Sys2Proof/Machine/Coh.lean ====
section
/-! DEFINITION. Octel coherence (R248 to R276): the homes, the snoop ring, the filter, the tile agents, and the coherent
accesses the hub's own movers make. -/

namespace Sys2Proof.Machine

/-! ### Requesters and agents -/

/-- Slip v is a COMPUTE caching agent (R248, R274). -/
def State.computeSlip (s : State) (v : Nat) : Bool := bitOf (s.rf R.cohStatus F.cohStatus_SLIP_AGENT) v

/-- Slip v was declared failed (R270). -/
def State.slipFailed (s : State) (v : Nat) : Bool := bitOf (s.rf R.cohStatus F.cohStatus_SLIP_FAILED) v

/-- A chiplet that caches lines and answers snoops. -/
def State.liveSlip (s : State) (v : Nat) : Bool := s.computeSlip v && !(s.slipFailed v)

/-- Some chiplet caches lines. -/
def State.liveSlips (s : State) : Bool := (List.range 8).any s.liveSlip

/-- Requester x may cache: a tile agent or a COMPUTE slip (R248, R249). -/
def State.mayCache (s : State) (x : Nat) : Bool := decide (x < 64) || (decide (x < 72) && s.computeSlip (x - 64))

/-- A class that a requester's sources use: no source but a tile's legs, COPYs and walks uses QC0 (R326). -/
def classOk (req qc : Nat) : Bool := decide (qc ≠ 0) || decide (req < 64)

/-- Requester x exists (R249). -/
def State.isReq (_ : State) (x : Nat) : Bool := decide (x < 75)

/-- A line has a home (R208, R211): local memory, the LLC-reserved range, memory behind a COMPUTE slip. -/
def State.homed (s : State) (pa : Nat) : Bool :=
  match s.placeOf pa with
  | .vault | .lararis | .reserved => true
  | .slip v => s.computeSlip v
  | _ => false

/-- The key of agent a's copy of line l. -/
def agentKey (a l : Nat) : Nat := a * 2 ^ 45 + l

/-- Agent a's state of line l. -/
def State.copySt (s : State) (a l : Nat) : CSt :=
  match mget s.coh.agents (agentKey a l) with
  | some c => c.st
  | none => .i

/-- A state that keeps a copy. -/
def keeps : CSt → Bool
  | .m | .e | .s | .f => true
  | _ => false

def State.setCoh (s : State) (c : CohSt) : State := { s with coh := c }

/-! ### Tree pseudo-LRU (R175, R180, R227, R267) -/

/-- The leaf a tree of a depth points at below node n, among the leaves that may leave: from the root, a 0 goes to the lower
half; a half with no such leaf is passed over. -/
def treeWalk (bits depth : Nat) (ok : Nat → Bool) : Nat → Nat → Nat
  | 0, n => n - 2 ^ depth
  | d + 1, n =>
    let c := 2 * n + b2n (bitOf bits n)
    if (List.range (2 ^ d)).any (fun i => ok (c * 2 ^ d + i - 2 ^ depth)) then treeWalk bits depth ok d c
    else treeWalk bits depth ok d (4 * n + 1 - c)

/-- The leaf a tree of a depth gives up. -/
def treeVictim (depth bits : Nat) (ok : Nat → Bool) : Nat := treeWalk bits depth ok depth 1

/-- The tree after a use of leaf w: each node on its path points away from it. -/
def treeTouch (depth bits w : Nat) : Nat :=
  (List.range depth).foldl (fun b i => setBit b ((w + 2 ^ depth) / 2 ^ (i + 1)) (decide ((w + 2 ^ depth) / 2 ^ i % 2 = 0))) bits

/-- The way a tree of 16 ways points at. -/
def plruVictim (bits : Nat) : Nat := treeVictim 4 bits (fun _ => true)

/-- The tree of 16 ways after a use of way w. -/
def plruTouch (bits w : Nat) : Nat := treeTouch 4 bits w

/-- A tile cache's tree after a use of its copy of a line (R175). -/
def State.touchCopy (s : State) (a l : Nat) : State :=
  match mget s.coh.agents (agentKey a l) with
  | some c => s.setCoh { s.coh with plru := mput s.coh.plru (a * 512 + l % 512) (plruTouch (mgetD s.coh.plru (a * 512 + l % 512) 0) c.way) }
  | none => s

/-! ### Messages on the fabric (R281 to R283, R293) -/

/-- The class and opcode of a coherence message (R282). -/
def cmsgOp : Nat → Nat × Nat
  | 0 => (3, 1)
  | 1 => (2, 1)
  | 2 => (2, 2)
  | 3 => (2, 4)
  | 4 => (3, 2)
  | _ => (2, 7)

/-- DATA's grant field (R283). -/
def grantCode : CSt → Nat
  | .e => 1
  | .f => 2
  | .m => 3
  | _ => 0

/-- AUX of a coherence message (R283). -/
def cmsgAux (m : CMsg) : Nat :=
  match m.kind with
  | 0 => grantCode m.st
  | 2 => b2n m.credit
  | 4 => b2n m.dirty
  | 5 => m.data.toNat % 256
  | _ => 0

/-- The header of a coherence message from one router to another. -/
def State.cmsgHdr (s : State) (m : CMsg) (src dst : Nat) : FabHdr :=
  ⟨(cmsgOp m.kind).1, (cmsgOp m.kind).2, m.qc, dst, src, m.agent, m.tag, m.line, m.ten, s.time.total % 2 ^ 15, cmsgAux m,
    opData (cmsgOp m.kind).1 (cmsgOp m.kind).2, false⟩

/-- A coherence message put on the fabric between its line's home and an agent: SNP_DATA goes to the home, the rest comes from
it. What is for a chiplet whose link is DOWN is discarded (R368). -/
def State.cohSend (s : State) (m : CMsg) : State :=
  let h := s.homeOf (m.line * 128)
  if 64 ≤ m.agent ∧ m.agent < 72 ∧ s.rf (R.slipStatus (m.agent - 64)) F.slipStatus_STATE = 4 then s
  else
  let x := if m.kind = 4 then s.post (s.cmsgHdr m (reqRouter m.agent) h) 0 m.data
    else s.post (s.cmsgHdr m h (reqRouter m.agent)) 0 m.data
  x.1.setCoh { x.1.coh with msgs := x.1.coh.msgs ++ [{ m with pid := x.2 }] }

/-- A packet of an agent to a line's home (R281): class, opcode, QoS class, the agent, its tag, the line, the tenant, AUX. -/
def State.homeHdr (s : State) (cls op qc a tag l ten aux : Nat) (df masked : Bool) : FabHdr :=
  ⟨cls, op, qc, s.homeOf (l * 128), reqRouter a, a, tag, l, ten, s.time.total % 2 ^ 15, aux, df, masked⟩

/-- The opcode of a request (R282). -/
def reqOp : ReqK → Nat
  | .rds => 1
  | .rdo => 2
  | .upg => 3
  | .rdc => 4
  | .wri => 5
  | _ => 6

/-- A request's header: AUX holds CREDIT and ALLOC, a WRP's mask takes the next slot (R283, R284). -/
def State.reqHdr (s : State) (q : CReq) : FabHdr :=
  s.homeHdr 0 (reqOp q.kind) q.qc q.req q.tag q.line q.ten (b2n q.credited + 2 * b2n (q.alloc && decide (q.kind = .rdc)))
    (opData 0 (reqOp q.kind)) (decide (q.kind = .wrp))

/-! ### LLC slices (R177 to R181) -/

/-- Caching ways of a slice in force (R203). -/
def State.cways (s : State) (h : Nat) : Nat := s.rf (R.tileStatus h) F.tileStatus_CWAYS

/-- The caching ways themselves: those above the reserved ones that have not failed and do no reserved way's duty. -/
def State.cwayList (s : State) (h : Nat) : List Nat :=
  ((List.range 24).filter (fun w => decide (s.rf (R.tileStatus h) F.tileStatus_RWAYS ≤ w) && !(s.heap.waysOff.contains (h, w)))).take
    (s.cways h)

/-- The set of a line over all slices. -/
def State.llcKey (s : State) (l : Nat) : Nat := s.homeOf (l * 128) * 4096 + s.setOf (l * 128)

/-- Lines of a line's set held in caching ways. -/
def State.llcSet (s : State) (l : Nat) : List (Nat × LLine) :=
  s.coh.llc.filter (fun x => decide (s.llcKey x.1 = s.llcKey l))

/-- A line in its slice, or one of the LLC-reserved range, which is always in its own way (R179, R206). -/
def State.llcHit (s : State) (l : Nat) : Bool := (mget s.coh.llc l).isSome || decide (s.placeOf (l * 128) = .reserved)

/-- An access to a fenced row of a vault captured in its tile's TILE_ERR (R189, R207). -/
def State.fencedCap (s : State) (l : Nat) : State := s.captureAt (R.tileErr (s.vaultOf (l * 128)).1) capStd 7

/-- The marks of whole lines written behind a slip cleared (R525). -/
def State.unmark (s : State) (ls : List Nat) : State :=
  { s with err := { s.err with invTable := s.err.invTable.filter (fun l => !(ls.contains l)) } }

/-- A line written at its memory: its controller, under the keys of owner o, or the port of a COMPUTE slip (R208). -/
def State.memWrite (s : State) (l : Nat) (d : Line) (mask o : Nat) : State × LineRes :=
  match s.placeOf (l * 128) with
  | .slip _ =>
    let w := s.remMasked [11, l] (l * 128) mask (bytesOfLine d)
    (if w.2 && isFull mask then w.1.unmark [l] else w.1, if w.2 then .ok d else .absent)
  | _ => s.lineWriteAs l d mask o

/-- A slice's modified line written back. A write to a fenced row is dropped and voids every partition's sailing: a writeback carries no
tenant (R189). -/
def State.writeBack (s : State) (l : Nat) (d : Line) : State :=
  let w := s.memWrite l d fullMask (s.ownerOf (l * 128))
  match w.2 with
  | .fenced => (w.1.fencedCap l).voidFor none 0x44 0x04 0x07 (s.vaultOf (l * 128)).1 (some (l * 128))
  | _ => w.1

/-- A line leaves its slice, written back where it was modified (R180). -/
def State.llcEvict (s : State) (l : Nat) : State :=
  match mget s.coh.llc l with
  | some x =>
    let s1 := s.setCoh { s.coh with llc := mdel s.coh.llc l }
    if x.dirty = false then s1 else s1.writeBack l x.data
  | none => s

/-- The tree of a line's set after a use of the line in its slice (R180). -/
def State.llcTouch (s : State) (l : Nat) : State :=
  match mget s.coh.llc l with
  | some x => s.setCoh { s.coh with lplru := mput s.coh.lplru (s.llcKey l) (treeTouch 5 (mgetD s.coh.lplru (s.llcKey l) 0) x.way) }
  | none => s

/-- A line in a caching way, its set's tree touched. -/
def State.llcIn (s : State) (l w : Nat) (d : Line) (dirty : Bool) : State :=
  s.setCoh { s.coh with
    llc := mput s.coh.llc l ⟨d, dirty, w⟩,
    lplru := mput s.coh.lplru (s.llcKey l) (treeTouch 5 (mgetD s.coh.lplru (s.llcKey l) 0) w) }

/-- A line put in a caching way of its home slice: its own, a free one, or the one its set's tree gives up (R180). A slice with no
caching way keeps nothing. -/
def State.llcPut (s : State) (l : Nat) (d : Line) (dirty : Bool) : State :=
  match mget s.coh.llc l with
  | some x => s.llcIn l x.way d dirty
  | none =>
    let ws := s.cwayList (s.homeOf (l * 128))
    let set := s.llcSet l
    match ws.find? (fun w => set.all (fun x => x.2.way != w)) with
    | some w => s.llcIn l w d dirty
    | none =>
      let w := treeVictim 5 (mgetD s.coh.lplru (s.llcKey l) 0) (fun w => ws.contains w)
      match set.find? (fun x => decide (x.2.way = w)) with
      | some v => (s.llcEvict v.1).llcIn l w d dirty
      | none => if dirty then s.writeBack l d else s

/-- A modified line put in its slice: a reserved line in its own way (R179), any other in a caching way. -/
def State.slicePut (s : State) (l : Nat) (d : Line) : State :=
  if s.placeOf (l * 128) = .reserved then (s.lineWrite l d fullMask).1 else s.llcPut l d true

/-- The home's own copy of a line: the slice, then memory decrypted with the keys of owner o (R252). -/
def State.homeDataAs (s : State) (l o : Nat) : LineRes :=
  match mget s.coh.llc l with
  | some x => .ok x.data
  | none => s.lineReadAs l o

/-- The home's own copy of a line under the keys of its owner. -/
def State.homeData (s : State) (l : Nat) : LineRes := s.homeDataAs l (s.ownerOf (l * 128))

/-- The owner whose keys a request's data is under: of a chiplet's the TENANT of its window, PF0 where it carries none (R364); of any
other the one the carve-up gives the line (R551). -/
def State.keyFor (s : State) (q : CReq) : Nat :=
  if 64 ≤ q.req ∧ q.req < 72 ∧ (s.placeOf (q.line * 128) = .vault ∨ s.placeOf (q.line * 128) = .lararis) then
    (if q.ten < 4096 then q.ten else 0x1000)
  else s.ownerOf (q.line * 128)

/-- homeData, with what was fetched of the memory behind a slip (R208). -/
def State.homeLine (s : State) (l : Nat) (got : Option Line) : LineRes :=
  match got, mget s.coh.llc l with
  | some d, none => .ok d
  | _, _ => s.homeData l

/-- A line's data written at the home (R174): a copy in the slice is updated; with alloc the line is allocated in it, merged with
what memory holds where the write is partial; otherwise the write goes to memory under the keys of owner o. -/
def State.homeWrite (s : State) (l : Nat) (d : Line) (mask o : Nat) (alloc : Bool) (got : Option Line) : State × LineRes :=
  match mget s.coh.llc l with
  | some x => (s.llcPut l (mergeLine x.data d mask) true, .ok (mergeLine x.data d mask))
  | none =>
    if !alloc || decide (s.placeOf (l * 128) = .reserved) then s.memWrite l d mask o
    else if isFull mask then (s.llcPut l d true, .ok d)
    else match s.homeLine l got with
      | .ok x => ((s.countRd l).llcPut l (mergeLine x d mask) true, .ok (mergeLine x d mask))
      | _ => s.memWrite l d mask o

/-- A read of the home's own copy: a use of the slice's line (R180), or counted where it reaches a port. -/
def State.countHome (s : State) (l : Nat) : State := if (mget s.coh.llc l).isSome then s.llcTouch l else s.countRd l

/-! ### The snoop filter (R265 to R268) -/

/-- The filter set of a line. -/
def State.filterSet (s : State) (pa : Nat) : Nat := s.homeOf pa * 512 + s.setOf pa % 512

/-- Entries of a line's filter set. -/
def State.fways (s : State) (pa : Nat) : List (Nat × FEnt) :=
  s.coh.filter.filter (fun p => decide (s.filterSet (p.1 * 128) = s.filterSet pa))

def State.busy (s : State) (l : Nat) : Bool := (mget s.coh.txns l).isSome

/-- Back-invalidations open at home h; 16 tracker entries are reserved for them (R261, R268). -/
def State.biOf (s : State) (h : Nat) : Nat :=
  (s.coh.txns.filter (fun p => decide (p.2.q.kind = .bi) && decide (s.homeOf (p.1 * 128) = h))).length

/-- A way free for a new entry: an unused way, or a way whose line is not BUSY while a back-invalidation entry is free. -/
def State.wayFree (s : State) (pa : Nat) : Bool :=
  decide ((s.fways pa).length < 16) || ((s.fways pa).any (fun p => !(s.busy p.1)) && decide (s.biOf (s.homeOf pa) < 16))

/-- The lowest way of a set no entry uses. -/
def freeWay (l : List (Nat × FEnt)) : Nat := ((List.range 16).find? (fun w => l.all (fun p => p.2.way != w))).getD 0

/-- A snoop's first stop: the one after the home's tile (R253). Stops are numbered in ring order: after tile 8v + 7
comes slip v. -/
def ringPos (a : Nat) : Nat := if a < 64 then a + a / 8 else (a - 64) * 9 + 8

/-- The agent at a ring position. -/
def ringAgent (p : Nat) : Nat := if p % 9 = 8 then 64 + p / 9 else p / 9 * 8 + p % 9

/-- A transaction opened with the snoop k, or with none, for a line with the entry e. -/
def Txn.open (q : CReq) (k : Option SnpK) (home : Nat) (e : Option FEnt) : Txn :=
  ⟨q, k, (ringPos home + 1) % 72, false, false, false, false, 0, [], 0, 0, false, [], [], e, false, 0⟩

/-- The opcode of a snoop (R282). -/
def snpOp : SnpK → Nat
  | .s => 1
  | .cur => 2
  | .i => 3
  | .bi => 4

/-- AUX of a snoop: its outcome field (R254, R283). -/
def Txn.aux (t : Txn) : Nat :=
  atBit 11 1 (b2n t.held) + atBit 10 1 (b2n t.dirty) + atBit 9 1 (b2n t.wbseen) + atBit 8 1 (b2n t.reqhold) + t.pend % 256

/-- The header of a transaction's snoop on its way from its home to the router of an agent (R281). -/
def Txn.hdr (t : Txn) (home a : Nat) : FabHdr :=
  ⟨1, snpOp (t.snp.getD .i), t.q.qc, reqRouter a, home, t.q.req, t.q.tag, t.q.line, t.q.ten, t.q.ts, t.aux, false, false⟩

/-- A transaction's snoop sent on from a router toward the stop it reaches next, on the ring's VC (R287). -/
def State.snoopOn (s : State) (l at_ : Nat) : State :=
  match mget s.coh.txns l with
  | some t =>
    if 72 ≤ t.stop then s
    else
      let home := s.homeOf (l * 128)
      let x := s.postAt at_ (t.hdr home (ringAgent t.stop)) (decide (snoopVc (ringPos home) t.stop = 3)) 0 0
      x.1.setCoh { x.1.coh with txns := mput x.1.coh.txns l { t with spid := x.2 } }
  | none => s

/-- Count a snoop sent by home h (R276). -/
def State.countSnoop (s : State) (h : Nat) : State := s.raddOpen (R.cohPerf h) F.cohPerf_SNOOPS 1

/-- A filter entry put in a way, its tree touched. -/
def State.filterPut (s : State) (l : Nat) (e : FEnt) : State :=
  s.setCoh { s.coh with
    filter := mput s.coh.filter l e,
    fplru := mput s.coh.fplru (s.filterSet (l * 128)) (plruTouch (mgetD s.coh.fplru (s.filterSet (l * 128)) 0) e.way) }

/-- The way a line's entry is in. -/
def State.wayOf (s : State) (l : Nat) : Nat := ((mget s.coh.filter l).map (·.way)).getD 0

/-- A line's entry freed. -/
def State.filterDel (s : State) (l : Nat) : State := s.setCoh { s.coh with filter := mdel s.coh.filter l }

/-- The victim among the ways whose lines are not BUSY: the one the tree gives up. -/
def State.filterVictim (s : State) (pa : Nat) : Option (Nat × FEnt) :=
  let ws := (s.fways pa).filter (fun p => !(s.busy p.1))
  let w := treeVictim 4 (mgetD s.coh.fplru (s.filterSet pa) 0) (fun w => ws.any (fun p => decide (p.2.way = w)))
  ws.find? (fun p => decide (p.2.way = w))

/-- Trackers of home h in use, by general and credited requests, those that wait in their reserved entries among them. -/
def State.trackersOf (s : State) (h : Nat) : Nat :=
  (s.coh.txns.filter (fun p => decide (s.homeOf (p.1 * 128) = h))).length +
    (s.coh.queue.filter (fun q => decide (s.homeOf (q.line * 128) = h) && q.credited && decide (q.kind ≠ .bi))).length

/-- Requests waiting in home h's conflict queue. -/
def State.queueOf (s : State) (h : Nat) : List CReq :=
  s.coh.queue.filter (fun q => decide (s.homeOf (q.line * 128) = h) && !q.credited)

/-- The high-water marks of a slice (R276). -/
def State.marksOf (s : State) (h : Nat) : State :=
  if s.conf then s
  else
    let s1 := s.rset (R.cohSlice h) F.cohSlice_TRK_MAX (max (s.rf (R.cohSlice h) F.cohSlice_TRK_MAX) (s.trackersOf h))
    s1.rset (R.cohSlice h) F.cohSlice_CQ_MAX (max (s.rf (R.cohSlice h) F.cohSlice_CQ_MAX) (min 64 (s.queueOf h).length))

/-- An entry allocated for a line (R267): an unused way, or the victim's, which is then back-invalidated. -/
def State.filterAlloc (s : State) (l : Nat) (owned : Bool) (fwd : Option Nat) : State :=
  let ws := s.fways (l * 128)
  if ws.length < 16 then s.filterPut l ⟨owned, fwd, freeWay ws⟩
  else match s.filterVictim (l * 128) with
    | some v =>
      let q : CReq := ⟨.bi, v.1, 0, 0, 0, 0, false, false, 3, 4096, s.time.total, false⟩
      let s1 := s.setCoh { s.coh with
        filter := mdel s.coh.filter v.1,
        txns := mput s.coh.txns v.1 (Txn.open q (some .bi) (s.homeOf (v.1 * 128)) (some v.2)) }
      (((s1.snoopOn v.1 (s.homeOf (l * 128))).filterPut l ⟨owned, fwd, v.2.way⟩).countSnoop (s.homeOf (l * 128))).marksOf (s.homeOf (l * 128))
    | none => s

/-- A line's entry after a grant: in the way it has, or in a new one. -/
def State.filterSetOrNew (s : State) (l : Nat) (owned : Bool) (fwd : Option Nat) : State :=
  if (mget s.coh.filter l).isSome then s.filterPut l ⟨owned, fwd, s.wayOf l⟩ else s.filterAlloc l owned fwd

/-! ### Serving a request (R258, R260) -/

/-- The request asks for a copy to cache. -/
def ReqK.caches : ReqK → Bool
  | .rds | .rdo | .upg => true
  | _ => false

def ReqK.writes : ReqK → Bool
  | .wri | .wrp => true
  | _ => false

/-- The message a grant goes out as. -/
def grantMsg (q : CReq) (kind : Nat) (st : CSt) (d : Line) : CMsg := ⟨kind, q.req, q.line, q.tag, st, false, false, d, q.qc, q.ten, 0, false⟩

/-- A granted transaction: it waits for COMP_ACK. -/
def State.grantWait (s : State) (t : Txn) (m : CMsg) : State :=
  (s.setCoh { s.coh with txns := mput s.coh.txns t.q.line { t with granted := true } }).cohSend m

/-- A transaction that ends with its answer (R260). -/
def State.endTxn (s : State) (l : Nat) (m : CMsg) : State :=
  (s.setCoh { s.coh with txns := mdel s.coh.txns l }).cohSend m

/-- What a home's read error does: an invalid line reads as 0 to its requester's own rule (R527); an uncorrectable one is
marked and voids (R524); a fenced row and a lost channel void the sailing of the request's tenant (R189, R386). -/
def State.homeErr (s : State) (l req ten : Nat) (r : LineRes) : State :=
  match r with
  | .ue b c => s.memUe l b c (s.homeOf (l * 128)) (tenOpt ten)
  | .fenced => (s.fencedCap l).voidFor (tenOpt ten) 0x44 0x04 0x07 (s.vaultOf (l * 128)).1 (some (l * 128))
  | .lost =>
    if req < 64 then s.voidFor (tenOpt ten) 0x45 0x09 0x05 (s.lrsCell (l * 128 - lrsBase)).1 (some (l * 128)) else s
  | _ => s

/-- The data a home answers with: 0 where there is none to give. -/
def resData : LineRes → Line
  | .ok d => d
  | _ => 0

/-- The data of a transaction by R252's priority, and what reading it from the home does. -/
def State.txnData (s : State) (t : Txn) : Line × State :=
  if t.prio > 0 then (t.data, s)
  else
    let r := s.homeDataAs t.q.line (s.keyFor t.q)
    (resData r, (s.countHome t.q.line).homeErr t.q.line t.q.req t.q.ten r)

/-- DIRTY or written-back data that is not passed on with a grant of M goes into the slice (R252). -/
def State.keepDirty (s : State) (t : Txn) : State := if t.prio ≥ 2 then s.slicePut t.q.line t.data else s

/-- A line's entry after a snoop that gave nobody the line: SHARED while a copy is left, freed otherwise (R258). -/
def State.afterSnoop (s : State) (l : Nat) (held keepFwd : Bool) : State :=
  match mget s.coh.filter l with
  | some e => if held then s.filterPut l { e with owned := false, fwd := if keepFwd then e.fwd else none } else s.filterDel l
  | none => s

/-- A WRI's or WRP's line written at the home; what the fabric damaged is stored nowhere (R304). -/
def State.reqWrite (s : State) (q : CReq) : State × LineRes :=
  if q.dmg then (s, .ok 0)
  else s.homeWrite q.line q.data (if q.kind = .wri then fullMask else q.mask) (s.keyFor q) (q.alloc && decide (q.kind = .wri)) none

/-- The end of a request's snoop, or its service on a filter miss (R258). A back-invalidation keeps what was modified,
but for a scrub's, which drops it (R267, R565). DESIGN CHOICE: a line read under other keys than its owner's is not
allocated (log 212). -/
def State.serve (s : State) (t : Txn) (hit : Bool) : State :=
  let l := t.q.line
  match t.q.kind with
  | .rds =>
    let s1 := s.keepDirty t
    let dd := s1.txnData t
    let shared := hit && t.held
    (dd.2.filterSetOrNew l (!shared) (some t.q.req)).grantWait t (grantMsg t.q 0 (if shared then .f else .e) dd.1)
  | .rdo =>
    let dd := s.txnData t
    (dd.2.filterSetOrNew l true (some t.q.req)).grantWait t (grantMsg t.q 0 .m dd.1)
  | .upg =>
    if hit && t.reqhold then (s.filterSetOrNew l true (some t.q.req)).grantWait t (grantMsg t.q 1 .m 0)
    else
      let dd := s.txnData t
      (dd.2.filterSetOrNew l true (some t.q.req)).grantWait t (grantMsg t.q 0 .m dd.1)
  | .rdc =>
    let s1 := s.keepDirty t
    let dd := s1.txnData t
    let s2 := if t.q.alloc && decide (t.prio < 2) && !(s1.llcHit l) && decide (s.keyFor t.q = s.ownerOf (l * 128)) then dd.2.llcPut l dd.1 false else dd.2
    (s2.afterSnoop l t.held true).endTxn l (grantMsg t.q 0 .i dd.1)
  | .wri | .wrp =>
    let w := (s.keepDirty t).reqWrite t.q
    ((w.1.homeErr l t.q.req t.q.ten w.2).filterDel l).endTxn l (grantMsg t.q 1 .i 0)
  | .bi =>
    let s1 := (if t.q.dmg then s else s.keepDirty t).filterDel l
    s1.setCoh { s1.coh with txns := mdel s1.coh.txns l }
  | .prep k =>
    let s1 := (s.keepDirty t).afterSnoop l t.held (decide (k = .cur))
    s1.setCoh { s1.coh with
      txns := mdel s1.coh.txns l, preps := s1.coh.preps ++ [⟨t.q.req, l, k, if t.prio = 1 then some t.data else none⟩] }

/-- A request whose answer carries data. -/
def Txn.reads (t : Txn) : Bool :=
  match t.q.kind with
  | .rds | .rdo | .rdc => true
  | .upg => !t.reqhold
  | _ => false

/-- What the request of a chiplet or a spur gets in place of data its home cannot give: 1, ERR with ABSENT, for a lost
channel or an absent address; 4, a DATA marked damaged, for the rest: the slip sends it on as ERR with OSP's cause
DATA (R283, R360, R386, R527, R189). -/
def State.slipErr (s : State) (t : Txn) : Option Nat :=
  let writes := match t.q.kind with
    | .wri | .wrp => true
    | _ => false
  if t.q.req < 64 then none
  else match s.homeDataAs t.q.line (s.keyFor t.q) with
    | .ok _ => none
    | .lost => if writes || (t.reads && decide (t.prio = 0)) then some 1 else none
    | .absent => if t.reads && decide (t.prio = 0) then some 1 else none
    | _ => if t.reads && decide (t.prio = 0) then some 4 else none

/-- The home reads the memory behind a COMPUTE slip for a transaction that has no data in hand (R208). -/
def State.fetchFor (s : State) (t : Txn) : Bool :=
  t.reads && decide (t.prio = 0) && (mget s.coh.llc t.q.line).isNone && !(s.err.invTable.contains t.q.line) && (match s.placeOf (t.q.line * 128) with
    | .slip _ => true
    | _ => false)

/-- A request served, and its latency sampled as its first response leaves (R327). A read that goes to the memory
behind a slip has its entry from its acceptance on (R267). A caching request of a slip that failed meanwhile is
granted nothing (R260). -/
def State.answer (s : State) (t : Txn) (hit : Bool) : State :=
  if s.fetchFor t then
    let s1 := s.setCoh { s.coh with txns := mput s.coh.txns t.q.line { t with fetch := true } }
    (if t.q.kind.caches && (mget s.coh.filter t.q.line).isNone then s1.filterAlloc t.q.line true (some t.q.req) else s1).remIssue
      [11, t.q.line] (t.q.line * 128) 128 0
  else if t.q.kind.caches && decide (64 ≤ t.q.req) && s.slipFailed (t.q.req - 64) then
    ((s.keepDirty t).afterSnoop t.q.line t.held true).endTxn t.q.line (grantMsg t.q 0 .i 0)
  else
    let s1 := match s.slipErr t with
      | some c => ((s.txnData t).2.keepDirty t).endTxn t.q.line
          (if c = 4 then { grantMsg t.q 0 .i 0 with dmg := true } else { grantMsg t.q 5 .i 0 with data := BitVec.ofNat 1024 c })
      | none => s.serve t hit
    match t.q.kind with
    | .bi | .prep _ => s1
    | _ => s1.latSample t.q.req t.q.qc t.q.ts

/-- The snoop a request's filter hit sends (R258). -/
def snoopOf : ReqK → SnpK
  | .rds => .s
  | .rdc => .cur
  | .bi => .bi
  | .prep k => k
  | _ => .i

/-- A request's use of its slice counted (R206); a back-invalidation is none. -/
def State.countReq (s : State) (q : CReq) (h : Nat) : State := if q.kind = .bi then s else s.countLlc h (s.llcHit q.line)

/-- A request accepted: the line becomes BUSY; a hit opens its snoop, a miss is served at once. -/
def State.accept (s : State) (q : CReq) : State :=
  let h := s.homeOf (q.line * 128)
  let e := mget s.coh.filter q.line
  let t := Txn.open q (if e.isSome then some (snoopOf q.kind) else none) h e
  let s1 := ((s.setCoh { s.coh with
    txns := mput s.coh.txns q.line t, preps := s.coh.preps.filter (fun p => decide (p.line ≠ q.line)) }).countReq q h).marksOf h
  if e.isSome then (s1.countSnoop h).snoopOn q.line h else s1.answer t false

/-- Whether a request needs a filter entry allocated. -/
def State.needsWay (s : State) (q : CReq) : Bool :=
  (match q.kind with
    | .rds | .rdo | .upg => true
    | _ => false) && (mget s.coh.filter q.line).isNone

/-- General tracker entries in use at home h. -/
def State.generalOf (s : State) (h : Nat) : Nat :=
  (s.coh.txns.filter (fun p => decide (s.homeOf (p.1 * 128) = h) && decide (p.2.q.kind ≠ .bi) && !p.2.q.credited)).length

/-- A request can be accepted now: its line not BUSY, a tracker entry free (165 general ones, or the requester's own), a
way free where it needs one (R261); a back-invalidation takes one of its 16 (R268). -/
def State.canAccept (s : State) (q : CReq) : Bool :=
  if q.kind = .bi then !(s.busy q.line) && decide (s.biOf (s.homeOf (q.line * 128)) < 16)
  else !(s.busy q.line) && (q.credited || decide (s.generalOf (s.homeOf (q.line * 128)) < 165)) &&
    (!(s.needsWay q) || s.wayFree (q.line * 128))

/-- The credits held at a home (R276). -/
def State.showCredits (s : State) (h : Nat) : State :=
  s.rset (R.cohSlice h) F.cohSlice_CREDITS ((s.coh.credits.filter (fun p => decide (p.1 = h))).length)

/-- A protocol breach recorded at a home (R272, R275). -/
def State.cohErr (s : State) (h cause cls : Nat) : State :=
  let first := !(s.captured R.cohErr capStd)
  let s1 := s.captureAt R.cohErr capStd cause
  let s2 := if first then s1.rset R.cohErr F.cohErr_SLICE h else s1
  s2.errBare cls 0x05 cause h

/-! ### Waiting requests (R263, R330) -/

/-- The requests that wait at home h for the same thing as q, in R263's order: its line, a way of its filter set, or
the last tracker entry alone. -/
def State.aheadOf (s : State) (q w : CReq) : Bool :=
  decide (w.line = q.line) ||
    (s.needsWay q && s.needsWay w && !(s.busy w.line) && decide (s.filterSet (w.line * 128) = s.filterSet (q.line * 128))) ||
    (!q.credited && !w.credited && !(s.busy w.line) && (!(s.needsWay w) || s.wayFree (w.line * 128)) &&
      decide (s.homeOf (w.line * 128) = s.homeOf (q.line * 128)) && decide (s.generalOf (s.homeOf (q.line * 128)) = 164))

/-- Waiting requests that can be accepted now and have none before them in the order of R263. -/
def State.eligible (s : State) : List CReq → List CReq → List CReq
  | _, [] => []
  | before, q :: qs =>
    let rest := s.eligible (before ++ [q]) qs
    if s.canAccept q && !(before.any (s.aheadOf q)) then q :: rest else rest

/-- The priority of a waiting request at its home (R330): its class and step, or its age. FCLK runs 20 cycles in one of TCLK. -/
def State.waitPrio (s : State) (q : CReq) : Nat := s.prio q.req q.qc (20 * (s.time.total - q.ts))

/-- The request a home takes next: of the eligible ones the highest priority, the oldest on a tie. -/
def State.nextWaiting (s : State) : Option CReq :=
  (s.eligible [] s.coh.queue).foldl (fun best q =>
    match best with
    | none => some q
    | some b => if s.waitPrio b < s.waitPrio q then some q else some b) none

/-- Waiting requests accepted as far as they can be (R263). -/
def State.wakeFor (s : State) : Nat → State
  | 0 => s
  | f + 1 =>
    match s.nextWaiting with
    | some q => ((s.setCoh { s.coh with queue := s.coh.queue.erase q }).accept q).wakeFor f
    | none => s

/-- A line or an entry has come free: the waiting requests it lets in are accepted. -/
def State.wakeQueue (s : State) : State := s.wakeFor s.coh.queue.length

/-- The answer of the memory behind a slip to its home's read: the transaction goes on with it. -/
def State.homeFill (s : State) (l : Nat) (d : Option Line) : State :=
  match mget s.coh.txns l with
  | some t =>
    if t.fetch && !t.granted then
      let t1 := { t with fetch := false, prio := max t.prio 1, data := if t.prio = 0 then d.getD 0 else t.data }
      let s1 := s.setCoh { s.coh with txns := mput s.coh.txns l t1 }
      match d with
      | some _ => (s1.answer t1 t.ent.isSome).wakeQueue
      | none =>
        if 64 ≤ t.q.req then
          ((if t.ent.isNone then s1.filterDel l else s1).endTxn l { grantMsg t.q 5 .i 0 with data := 1 }).wakeQueue
        else ((if s1.err.invTable.contains l then s1 else
          s1.memUe l 0x08 0 (l * 128 / 2 ^ 48 - 2) (tenOpt t.q.ten)).answer t1 t.ent.isSome).wakeQueue
    else s
  | none => s

/-- An uncorrectable error in a tile cache's copy (R175): a clean line is dropped, to be fetched again, and the error is
CORRECTED; a modified line's data is lost, an uncorrectable memory error (R524), and the home's older copy does not stand. -/
def State.tcUe (s : State) (a l : Nat) (ten : Option Nat) : State :=
  match mget s.coh.agents (agentKey a l) with
  | some c =>
    if a < 64 ∧ c.st ≠ .wbp ∧ c.st ≠ .evp then
      let s1 := (s.setCoh { s.coh with
        agents := mdel s.coh.agents (agentKey a l),
        llc := if c.st = .m then mdel s.coh.llc l else s.coh.llc }).captureAt (R.tileErr a) capStd 2
      if c.st = .m then s1.memUe l 0x04 2 a ten else s1.errBare clsCorrected 0x04 2 a
    else s
  | none => s

/-! ### Stream prefetch (R198 to R200) -/

/-- A slice's trackers train on a source (R205). -/
def State.spfOn (s : State) (h src : Nat) : Bool :=
  (decide (64 ≤ src) && decide (src < 72) && bitOf (s.rf (R.tileSpfCtl h) F.tileSpfCtl_SLIP_EN) (src - 64)) ||
    (decide (src = 72) && decide (s.rf (R.tileSpfCtl h) F.tileSpfCtl_PCIE_EN = 1))

/-- The direction from one line to another: 0 none, 1 ascending, 2 descending. -/
def lineDir (a b : Nat) : Nat := if a < b then 1 else if b < a then 2 else 0

/-- A tracker after a read of its key at a line: three reads in one strict direction confirm it, and it keeps that direction. -/
def Tracker.step (t : Tracker) (l : Nat) : Tracker :=
  let d := lineDir t.last l
  if 3 ≤ t.run then { t with last := l }
  else { t with last := l, dir := d, run := if d = 0 then 1 else if d = t.dir then t.run + 1 else 2 }

/-- One line prefetched into its slice, or dropped (R199); a fenced row voids as any access to one does (R189). DESIGN
CHOICE: R199 says nothing of a line that cannot be read for another reason (lost, marked, without a key): it changes
nothing more (log 204). -/
def State.spfLine (s : State) (h src qc ten l : Nat) : State :=
  if (mget s.coh.llc l).isSome || s.busy l || (mget s.coh.filter l).isSome || decide (s.thresh ≤ s.levelOf (l * 128)) ||
      decide (s.time.stage = .quiet) then
    s.raddOpen (R.tileSpfCnt h) F.tileSpfCnt_DROPPED 1
  else
    let s1 := ((s.raddOpen (R.tileSpfCnt h) F.tileSpfCnt_ISSUED 1).debitSpf src qc).charge src qc 128
    match s1.lineRead l with
    | .ok d => (s1.countRd l).llcPut l d false
    | .fenced => (s1.fencedCap l).voidFor (tenOpt ten) 0x44 0x04 0x07 (s.vaultOf (l * 128)).1 (some (l * 128))
    | _ => s1

/-- The lines a confirmed tracker asks for: multiples of the stride beyond a line in its direction, homed at the slice,
within the window and the next. -/
def State.spfLines (s : State) (h : Nat) (t : Tracker) (l : Nat) : List Nat :=
  let st := 2 ^ min 9 (s.rf (R.tileSpfCtl h) F.tileSpfCtl_STRIDE)
  let ks := (List.range 1024).map (fun k => (k + 1) * st)
  let ls := if t.dir = 1 then ks.map (fun d => l + d) else (ks.filter (fun d => decide (d ≤ l))).map (fun d => l - d)
  (ls.filter (fun x => (decide (x / 512 = t.win) || decide (x / 512 = if t.dir = 1 then t.win + 1 else t.win - 1)) &&
    decide (s.homeOf (x * 128) = h))).take (s.rf (R.tileSpfCtl h) F.tileSpfCtl_DEPTH + 1)

/-- A demand read trains its slice's trackers and, on a confirmed one, prefetches. -/
def State.spfTrain (s : State) (q : CReq) : State :=
  let h := s.homeOf (q.line * 128)
  let place := s.placeOf (q.line * 128)
  if !(s.spfOn h q.req) || !(decide (place = .vault) || decide (place = .lararis)) then s
  else
    let key (t : Tracker) : Bool := decide (t.slice = h) && decide (t.src = q.req) &&
      (decide (q.req < 72) || decide (t.ten = q.ten)) && decide (t.win = q.line / 512)
    match s.coh.trackers.find? key with
    | some t =>
      let t1 := t.step q.line
      let s1 := s.setCoh { s.coh with trackers := t1 :: s.coh.trackers.erase t }
      if 3 ≤ t.run ∧ lineDir t.last q.line = t.dir then (s1.spfLines h t1 q.line).foldl (fun s l => s.spfLine h q.req q.qc q.ten l) s1 else s1
    | none =>
      let mine := s.coh.trackers.filter (fun t => decide (t.slice = h))
      let rest := if mine.length < 32 then s.coh.trackers else
        match mine.getLast? with
        | some v => s.coh.trackers.erase v
        | none => s.coh.trackers
      s.setCoh { s.coh with trackers := ⟨h, q.req, q.ten, q.line / 512, q.line, 0, 1⟩ :: rest }

/-- A source's trackers cleared (R200): a slip's, or a PCIe function's by its tenant (4096: PF0). -/
def State.untrain (s : State) (src ten : Nat) : State :=
  s.setCoh { s.coh with trackers := s.coh.trackers.filter (fun t => !(decide (t.src = src) && (decide (src < 72) || decide (t.ten = ten)))) }

/-! ### Requests at their home (R261, R264, R272) -/

/-- A read that trains trackers. -/
def CReq.demand (q : CReq) : Bool :=
  match q.kind with
  | .rds | .rdo | .rdc => true
  | _ => false

/-- An agent has a request for a line outstanding. -/
def State.asked (s : State) (a l : Nat) : Bool :=
  (mget s.coh.txns l).any (fun t => decide (t.q.req = a) && decide (t.q.kind ≠ .bi)) ||
    s.coh.queue.any (fun w => decide (w.line = l) && decide (w.req = a) && decide (w.kind ≠ .bi))

/-- The coherent requests an agent has outstanding (R272). -/
def State.askedAll (s : State) (a : Nat) : Nat :=
  (s.coh.txns.filter (fun p => decide (p.2.q.req = a) && p.2.q.kind.caches)).length +
    (s.coh.queue.filter (fun w => decide (w.req = a) && w.kind.caches)).length

/-- MAX_COH of a slip's chiplet descriptor (R351). -/
def State.maxCoh (s : State) (v : Nat) : Nat := bitsOf (s.rv (R.slipDesc v 2)).toNat 16 16

/-- A chiplet's request breaks R272: a second one for a line, or more coherent requests than its descriptor declares. -/
def State.askBreach (s : State) (q : CReq) : Bool :=
  decide (64 ≤ q.req) && decide (q.req < 72) &&
    (s.asked q.req q.line || (q.kind.caches && decide (s.maxCoh (q.req - 64) ≤ s.askedAll q.req)))

/-- RETRY, with a credit or without (R261, R264). -/
def State.retry (s : State) (q : CReq) (h : Nat) (give : Bool) : State :=
  let s1 := s.setCoh { s.coh with credits := if give then s.coh.credits ++ [(h, q.req)] else s.coh.credits }
  ((s1.cohSend { grantMsg q 2 .i 0 with credit := give }).showCredits h).raddOpen (R.cohPerf h) F.cohPerf_RETRY 1

/-- A request arrives at its home (R261, R264, R272). An uncredited one from a requester that holds a credit there is answered
RETRY each time. -/
def State.request (s : State) (q : CReq) : State :=
  let h := s.homeOf (q.line * 128)
  let s0 := if s.askBreach q then s.cohErr h 5 clsCorrected else s
  let hasCredit := s0.coh.credits.contains (h, q.req)
  let credited := q.credited && hasCredit
  let q := { q with credited := credited }
  if hasCredit && !credited then s0.retry q h false
  else
    let s1 := if credited then (s0.setCoh { s0.coh with credits := s0.coh.credits.filter (· != (h, q.req)) }).showCredits h else s0
    if s1.canAccept q && !(s1.coh.queue.any (fun w => decide (w.line = q.line))) then s1.accept q
    else if credited || decide ((s1.queueOf h).length < 64) then
      (s1.setCoh { s1.coh with queue := s1.coh.queue ++ [q] }).marksOf h
    else s1.retry q h true

/-! ### Writebacks (R259, R262) -/

/-- WB_ACK sent to an agent, with the tag of its WB or EVCT (R251, R360). -/
def State.wbAck (s : State) (a tag l : Nat) : State := s.cohSend ⟨3, a, l, tag, .i, false, false, 0, 2, 4096, 0, false⟩

/-- The filter entry after a writeback or a drop by agent a (R259). -/
def State.dropFwd (s : State) (a l : Nat) : State :=
  match mget s.coh.filter l with
  | some e =>
    if e.fwd = some a then
      (if e.owned then s.filterDel l
        else s.setCoh { s.coh with filter := mput s.coh.filter l { e with fwd := none } })
    else s
  | none => s

/-- Agent a's copy as it waits for WB_ACK. -/
def State.leaving (s : State) (a l : Nat) (st : CSt) : State :=
  if a < 64 then s.setCoh { s.coh with agents := mmod s.coh.agents (agentKey a l) (fun c => { c with st := st }) } else s

/-- An entry names agent a as its line's owner. -/
def ownedBy (e : Option FEnt) (a : Nat) : Bool := e.any (fun e => e.owned && decide (e.fwd = some a))

/-- A WB for a BUSY line is explained: before the grant by the entry the request found, or by a snoop that found its sender in WBP;
after it by the entry as it is now (R259, R262). -/
def State.wbKnown (s : State) (t : Txn) (a : Nat) : Bool :=
  if t.granted then ownedBy (mget s.coh.filter t.q.line) a else ownedBy t.ent a || t.seen.contains a

/-- A transaction that has absorbed agent a's WB as its data (R252, R262). -/
def Txn.absorb (t : Txn) (a : Nat) (d : Line) : Txn :=
  let t1 := { t with owed := t.owed.filter (· != a) }
  if t.prio < 2 then { t1 with prio := 2, data := d } else t1

/-- A WB's data written into the slice; what the fabric damaged is stored nowhere (R304). -/
def State.wbPut (s : State) (l : Nat) (d : Line) (dmg : Bool) : State := if dmg then s else s.slicePut l d

/-- A transaction whose WB has come damaged: it waits for it no longer, and has no data of it (R304). -/
def Txn.absorbBad (t : Txn) (a : Nat) : Txn := { t with owed := t.owed.filter (· != a) }

/-- A WB at its home: absorbed into an open transaction (R262) — once its grant is out, into the slice —, else written into the
slice (R259). A WB the entry does not explain is discarded and recorded. -/
def State.wbHome (s : State) (agent tag l : Nat) (d : Line) (dmg : Bool) : State :=
  match mget s.coh.txns l with
  | some t =>
    if !(s.wbKnown t agent) then (s.cohErr (s.homeOf (l * 128)) 5 clsCorrected).wbAck agent tag l
    else if t.granted then (s.wbPut l d dmg).wbAck agent tag l
    else (s.setCoh { s.coh with
      txns := mput s.coh.txns l (if dmg then t.absorbBad agent else t.absorb agent d) }).wbAck agent tag l
  | none =>
    if ownedBy (mget s.coh.filter l) agent then (((s.wbPut l d dmg).dropFwd agent l).wakeQueue).wbAck agent tag l
    else (s.cohErr (s.homeOf (l * 128)) 5 clsCorrected).wbAck agent tag l

/-- An EVCT at its home (R259, R262). -/
def State.evctHome (s : State) (agent tag l : Nat) : State :=
  if s.busy l then s.wbAck agent tag l else ((s.dropFwd agent l).wakeQueue).wbAck agent tag l

/-! ### Requests that a home passes on (R208, R209, R220) -/

/-- An access to an absent address recorded in GLB_DECODE: src 0 chiplet, 1 host through BAR2, 2 twin, 3 management
controller. -/
def State.noteDecode (s : State) (src pa : Nat) : State :=
  if s.rf R.glbDecode F.glbDecode_VALID = 1 then s.radd R.glbDecode F.glbDecode_COUNT 1
  else (((s.rset R.glbDecode F.glbDecode_VALID 1).rset R.glbDecode F.glbDecode_SRC src).rset R.glbDecode F.glbDecode_NODE
    (pa / 2 ^ 48)).rset R.glbDecode F.glbDecode_ADDR (pa / 128)

/-- The requester key of a request that its home passes on to another node: requester, tag, class, tenant, the TCLK
count at its injection. -/
def passWho (q : CReq) : List Nat := [14, q.req, q.tag, q.qc, q.ten, q.ts]

/-- The request such a key and an address stand for. -/
def passReq (who : List Nat) (pa : Nat) : CReq :=
  ⟨.rdc, pa / 128, who.getD 1 0, who.getD 2 0, 0, 0, false, false, who.getD 3 2, who.getD 4 4096, who.getD 5 0, false⟩

/-- The answer to a request that has no home here, its latency sampled as it leaves (R327). -/
def State.passMsg (s : State) (q : CReq) (m : CMsg) : State := (s.cohSend m).latSample q.req q.qc q.ts

/-- The answer to a read that was passed on: DATA, without data marked damaged (R283, R304). -/
def State.passData (s : State) (q : CReq) (d : Option Line) : State := s.passMsg q { grantMsg q 0 .i (d.getD 0) with dmg := d.isNone }

/-- A request refused: ERR with a cause. -/
def State.passErr (s : State) (q : CReq) (c : Nat) : State := s.passMsg q { grantMsg q 5 .i 0 with data := BitVec.ofNat 1024 c }

/-- The answer to a write that was passed on: GNT, or ERR with ABSENT. -/
def State.passAck (s : State) (q : CReq) (ok : Bool) : State := if ok then s.passMsg q (grantMsg q 1 .i 0) else s.passErr q 1

/-- A read passed on to another node; one that fails at once is answered at once. -/
def State.passRead (s : State) (q : CReq) : State :=
  let s1 := s.remIssue (passWho q) (q.line * 128) 128 0
  match s1.remFind (passWho q) (q.line * 128) 128 with
  | some r => if r.st = 0 then s1 else (s1.remSet (s1.heap.remReads.erase r)).passData q (if r.st = 1 then some (lineOfBytes r.data) else none)
  | none => s1

/-- The runs of bytes a mask selects, by offset and length, from byte i on. -/
def maskRuns (mask : Nat) : Nat → Nat → List (Nat × Nat)
  | 0, _ => []
  | f + 1, i =>
    let rest := maskRuns mask f (i + 1)
    if bitOf mask i then
      match rest with
      | (o, n) :: t => if o = i + 1 then (i, n + 1) :: t else (i, 1) :: rest
      | [] => [(i, 1)]
    else rest

/-- A write passed on to another node: to the host its runs of bytes are posted; a slip or the twin gets one masked write, which it
acknowledges (R361). What the fabric damaged is not written (R304). A whole line of a slip's memory is valid again (R525). -/
def State.passWrite (s : State) (q : CReq) : State :=
  if q.dmg then s.passAck q true
  else if onHost (q.line * 128) then
    let w := (maskRuns q.mask 128 0).foldl (fun (p : State × Bool) r =>
      let x := p.1.remWrite (passWho q) (q.line * 128 + r.1) 0 (slice (bytesOfLine q.data) r.1 r.2)
      (x.1, p.2 && x.2)) (s, true)
    w.1.passAck q w.2
  else
    let w := s.remMasked (passWho q) (q.line * 128) q.mask (bytesOfLine q.data)
    if w.2 then (if isFull q.mask then w.1.unmark [q.line] else w.1) else w.1.passAck q false

/-- Where an access of a requester to an absent address is recorded: a chiplet's, the host's, the twin's, the management controller's. -/
def decodeSrc (req : Nat) : Option Nat :=
  if req < 64 then none else if req < 72 then some 0 else if req < 75 then some (req - 71) else none

/-- A request for a line that has no home (R209, R220): another node's is passed on without a copy in any cache, one
that asks for a copy as a plain read; register space, which REQ does not reach (R214), is refused with PERM; an absent
address is answered ERR with ABSENT, to the host with 0. -/
def State.passOn (s : State) (q : CReq) : State :=
  let pa := q.line * 128
  match s.placeOf pa with
  | .absent =>
    let s1 := match decodeSrc q.req with
      | some c => s.noteDecode c pa
      | none => s
    if q.req = 72 then (if q.kind.writes then s1.passAck q true else s1.passData q (some 0)) else s1.passErr q 1
  | .regs => s.passErr q 2
  | _ => if q.kind.writes then s.passWrite q else s.passRead q

/-! ### The way to a home (R289, R290, R298) -/

/-- COMP_ACK at its home: BUSY ends, and the next waiting request is served (R260, R263). -/
def State.compAck (s : State) (req l : Nat) : State :=
  match mget s.coh.txns l with
  | some t =>
    if t.granted && decide (t.q.req = req) then (s.setCoh { s.coh with txns := mdel s.coh.txns l }).wakeQueue else s
  | none => s

/-- The agents whose WB a snoop that found them in WBP waits for: all but one whose WB_ACK is already on its way. -/
def State.wbComing (s : State) (a l : Nat) : Bool :=
  !(s.coh.msgs.any (fun m => decide (m.kind = 3) && decide (m.agent = a) && decide (m.line = l)))

/-- A slip agent's answer at the home (R255, R256): it clears its SLIPPEND bit; sends tells that SNP_DATA comes with it. -/
def State.snpRsp (s : State) (slip l : Nat) (held dirty sends wbseen reqhold : Bool) : State :=
  match mget s.coh.txns l with
  | some t =>
    if bitOf t.pend slip then
      let own := decide (t.q.req = 64 + slip)
      s.setCoh { s.coh with
      txns := mput s.coh.txns l
        { t with
                 pend := setBit t.pend slip false, held := t.held || held, dirty := t.dirty || dirty, wbseen := t.wbseen || wbseen,
                 reqhold := t.reqhold || (reqhold && own),
                 seen := if wbseen then t.seen ++ [64 + slip] else t.seen,
                 owed := if wbseen && decide (t.prio < 2) && s.wbComing (64 + slip) l then t.owed ++ [64 + slip] else t.owed,
                 await := if sends || dirty then t.await ++ [64 + slip] else t.await } }
    else s
  | none => s

/-- A request at its line's home; a read trains the slice's trackers (R199). One whose line has no home is passed on (R209). -/
def State.reqHome (s : State) (q : CReq) : State :=
  if s.homed (q.line * 128) then (if q.demand then (s.request q).spfTrain q else s.request q) else s.passOn q

/-- A coherence packet delivered to its home; memory and register packets are their controllers' and blocks' (State.deliver). -/
def State.atHome (s : State) : HPkt → State
  | .req q => s.reqHome q
  | .wb a tag pa d dmg => s.wbHome a tag (lineOf pa) d dmg
  | .evct a tag pa => s.evctHome a tag (lineOf pa)
  | .compAck a pa => s.compAck a (lineOf pa)
  | .snpRsp v pa held dirty sends wbseen reqhold => s.snpRsp v (lineOf pa) held dirty sends wbseen reqhold
  | .mem _ | .reg _ => s

/-- The line address of a packet for a home. -/
def HPkt.pa : HPkt → Nat
  | .req q => q.line * 128
  | .wb _ _ pa _ _ => pa
  | .evct _ _ pa => pa
  | .compAck _ pa => pa
  | .snpRsp _ pa _ _ _ _ _ => pa
  | .mem m => m.pa
  | .reg _ => 0

/-- A packet waits at its router for a domain that sleeps, and wakes it (R298). -/
def State.park (s : State) (d : Nat) (x : HPkt) : State :=
  let s1 := s.wake d
  s1.setFab { s1.fab with parked := s1.fab.parked ++ [(d, x)], held := mput s1.fab.held d (mgetD s1.fab.held d 0 + 1) }

/-- A packet goes to its home, or waits while the home's domain sleeps (R298). -/
def State.toHome (s : State) (x : HPkt) : State :=
  let d := 8 * s.homeOf x.pa + 6
  if s.domSt d = 0 then (s.useDom d).atHome x else s.park d x

/-- A packet sent to a line's home: over the fabric, or to the home at its own router. -/
def State.sendHome (s : State) (h : FabHdr) (mask : Nat) (d : Line) (x : HPkt) : State :=
  if h.src = h.dst then s.toHome x else s.fly h mask d x

/-- A request injected: counted, stamped, and on its way to its home (R281, R294, R332). -/
def State.inject (s : State) (q : CReq) : State :=
  let q1 := { q with ts := s.time.total }
  ((s.charge q.req q.qc 128).useAgent q.req).sendHome (s.reqHdr q1) (if q.kind = .wrp then q.mask else 0) q.data (.req q1)

/-- The requests of coherence packets among packets. -/
def pktReqs (l : List (Nat × HPkt)) : List CReq := l.filterMap (fun x => match x.2 with
  | .req q => some q
  | _ => none)

/-- Requests that are not yet at their home: held at a toll, under way, or held for a sleeping home. -/
def State.reqsOut (s : State) : List CReq := s.fab.tolled ++ pktReqs s.fab.air ++ pktReqs s.fab.parked

/-- A tile agent's request that R272 forbids: a second one for a line, or the 129th. Its protocol logic never sends one. -/
def State.askStops (s : State) (q : CReq) : Bool :=
  decide (q.req < 64) && (s.asked q.req q.line || s.reqsOut.any (fun w => decide (w.req = q.req) && decide (w.line = q.line)) ||
    (q.kind.caches && decide (128 ≤ s.askedAll q.req + (s.reqsOut.filter (fun w => decide (w.req = q.req) && w.kind.caches)).length)))

/-- A request from outside the hub's own movers, where its requester may send it (R249, R272, R326): it waits behind
requests of its pair that its toll holds, or for tokens (R294). -/
def State.reqFrom (s : State) (caching : Bool) (q : CReq) : State :=
  if !(s.isReq q.req && classOk q.req q.qc && (!caching || s.mayCache q.req)) || s.askStops q then s
  else if s.fab.tolled.any (fun w => decide (w.req = q.req) && decide (w.qc = q.qc)) ||
      s.fab.movers.any (fun m => decide (m.2.1 = pairNo q.req q.qc) && s.moverLive m.1) || !(s.tokens q.req q.qc) then s.holdReq q
  else (s.takeTokens q.req q.qc).inject q

/-- TOLL_RELEASE: the first request a toll holds finds enough tokens and is injected; a mover that came before it goes first. -/
def execTollRelease (p q : Nat) (s : State) : Host.Outcome State Fault Refusal :=
  match s.fab.tolled.find? (fun w => decide (w.req = p) && decide (w.qc = q)) with
  | some w =>
    if s.tokens p q && !(s.fab.movers.any (fun m => decide (m.2.1 = pairNo p q) && decide (m.2.2.2 = 0) && s.moverLive m.1)) then
      .next (((s.setFab { s.fab with
        tolled := s.fab.tolled.erase w,
        movers := s.fab.movers.map (fun m => if m.2.1 = pairNo p q then (m.1, m.2.1, m.2.2.1, m.2.2.2 - 1) else m) }).takeTokens p q).inject w)
    else .next s
  | none => .next s

/-- RDS; ue: the requester's own copy has an uncorrectable error, and the line is fetched again (R175). -/
def execRds (req pa tag : Nat) (credit : Bool) (qc ten : Nat) (ue : Bool) (s : State) : Host.Outcome State Fault Refusal :=
  .next ((if ue then s.tcUe req (lineOf pa) (tenOpt ten) else s).reqFrom true
    ⟨.rds, lineOf pa, req, tag, 0, 0, false, credit, qc, ten, 0, false⟩)

def execRdo (req pa tag : Nat) (credit : Bool) (qc ten : Nat) (s : State) : Host.Outcome State Fault Refusal :=
  .next (s.reqFrom true ⟨.rdo, lineOf pa, req, tag, 0, 0, false, credit, qc, ten, 0, false⟩)

def execUpg (req pa tag : Nat) (credit : Bool) (qc ten : Nat) (s : State) : Host.Outcome State Fault Refusal :=
  .next (s.reqFrom true ⟨.upg, lineOf pa, req, tag, 0, 0, false, credit, qc, ten, 0, false⟩)

def execRdc (req pa tag : Nat) (alloc credit : Bool) (qc ten : Nat) (s : State) : Host.Outcome State Fault Refusal :=
  .next (s.reqFrom false ⟨.rdc, lineOf pa, req, tag, 0, 0, alloc, credit, qc, ten, 0, false⟩)

def execWri (req pa tag : Nat) (credit : Bool) (qc ten : Nat) (data : Line) (s : State) : Host.Outcome State Fault Refusal :=
  .next (s.reqFrom false ⟨.wri, lineOf pa, req, tag, fullMask, data, false, credit, qc, ten, 0, false⟩)

def execWrp (req pa tag : Nat) (credit : Bool) (qc ten mask : Nat) (data : Line) (s : State) :
    Host.Outcome State Fault Refusal :=
  .next (s.reqFrom false ⟨.wrp, lineOf pa, req, tag, mask, data, false, credit, qc, ten, 0, false⟩)

/-- An agent sends WB: a tile agent from M, which it leaves for WBP with the data it holds (R251). -/
def State.wbArrive (s : State) (agent pa tag : Nat) (data : Line) : State :=
  let l := lineOf pa
  let d := if agent < 64 then ((mget s.coh.agents (agentKey agent l)).map (·.data)).getD data else data
  if !(s.mayCache agent) || (decide (agent < 64) && decide (s.copySt agent l ≠ .m)) then s
  else (s.leaving agent l .wbp).sendHome (s.homeHdr 4 1 2 agent tag l 4096 0 true false) 0 d (.wb agent tag pa d false)

/-- WB; the command names no tag, its WB_ACK carries tag 0. One that comes over a slip has its own (R251, R360). -/
def execWb (agent pa : Nat) (data : Line) (s : State) : Host.Outcome State Fault Refusal := .next (s.wbArrive agent pa 0 data)

/-- An agent sends EVCT: a tile agent from E, S or F, which it leaves for EVP (R251). -/
def State.evctArrive (s : State) (agent pa tag : Nat) : State :=
  let l := lineOf pa
  if !(s.mayCache agent) || (decide (agent < 64) && !([CSt.e, .s, .f].contains (s.copySt agent l))) then s
  else (s.leaving agent l .evp).sendHome (s.homeHdr 4 2 2 agent tag l 4096 0 false false) 0 0 (.evct agent tag pa)

/-- EVCT; its WB_ACK carries tag 0, as WB's. -/
def execEvct (agent pa : Nat) (s : State) : Host.Outcome State Fault Refusal := .next (s.evctArrive agent pa 0)

/-- Two messages take one path: they are of one class and between the same two routers (R289). -/
def State.samePath (s : State) (m n : CMsg) : Bool :=
  decide ((cmsgOp m.kind).1 = (cmsgOp n.kind).1) && decide (m.agent = n.agent) && (decide (m.kind = 4) == decide (n.kind = 4)) &&
    decide (s.homeOf (m.line * 128) = s.homeOf (n.line * 128))

/-- No message sent before one on its path is still to be taken: they come in the order they were sent (R289). -/
def State.inOrder (s : State) (m : CMsg) : Bool := !((s.coh.msgs.takeWhile (fun n => decide (n ≠ m))).any (s.samePath m))

/-- A message of a kind for an agent and a line whose packet has arrived. -/
def State.msgFor (s : State) (kind req l : Nat) : Option CMsg :=
  s.coh.msgs.find? (fun m => decide (m.kind = kind) && decide (m.agent = req) && decide (m.line = l) && s.there m.pid && s.inOrder m)

/-- A message taken off the fabric. -/
def State.cohTake (s : State) (m : CMsg) : State := s.setCoh { s.coh with msgs := s.coh.msgs.erase m }

/-- A tile's cache domain sleeps: a packet for it waits and wakes it (R298). -/
def State.asleepAt (s : State) (a : Nat) : Bool := decide (a < 64) && decide (s.domSt (8 * a + 5) ≠ 0)

/-- A message taken by its agent: a tile's cache domain has received a packet (R297). -/
def State.agentTake (s : State) (m : CMsg) : State := (s.cohTake m).useAgent m.agent

/-- WB_ACK reaches an agent, which leaves WBP or EVP for I (R251). -/
def execWbAck (agent pa : Nat) (s : State) : Host.Outcome State Fault Refusal :=
  let l := lineOf pa
  match s.msgFor 3 agent l with
  | some m =>
    if s.asleepAt agent then .next (s.wake (8 * agent + 5))
    else
      let s1 := s.agentTake m
      let s2 := if s.copySt agent l = .wbp ∨ s.copySt agent l = .evp then
        s1.setCoh { s1.coh with agents := mdel s1.coh.agents (agentKey agent l) } else s1
      .next (if 64 ≤ agent ∧ agent < 72 then s2.ospMsg (agent - 64) [7, agent - 62, m.tag, l * 128] 2 4 m.qc m.tag (l * 128) 0 else s2)
  | none => .next s

/-! ### The snoop ring (R253 to R257) -/

/-- What a snooped agent becomes, and the data it sends: none, DIRTY or CLEAN (R256). -/
def snoopMove : CSt → SnpK → CSt × Option Bool
  | .m, .s => (.s, some true)
  | .m, .cur => (.f, some true)
  | .m, _ => (.i, some true)
  | .e, .s => (.s, some false)
  | .e, .cur => (.f, some false)
  | .e, _ => (.i, none)
  | .f, .s => (.s, some false)
  | .f, .cur => (.f, some false)
  | .f, _ => (.i, none)
  | .s, .s => (.s, none)
  | .s, .cur => (.s, none)
  | .s, _ => (.i, none)
  | .i, _ => (.i, none)
  | .wbp, _ => (.wbp, none)
  | .evp, _ => (.evp, none)

/-- The outcome field after tile agent a's stop (R254, R256); the requester's own stop leaves its copy as it is and reports HELD and
REQHOLD. coming: a WB of this agent is still on its way. -/
def Txn.atTile (t : Txn) (a : Nat) (st : CSt) (k : SnpK) (coming : Bool) : Txn :=
  if a = t.q.req ∧ k ≠ .bi then
    { t with stop := (t.stop + 1) % 72, held := t.held || keeps st, reqhold := t.reqhold || decide (st = .s) || decide (st = .f) }
  else
    let m := snoopMove st k
    { t with
             stop := (t.stop + 1) % 72, held := t.held || keeps m.1, dirty := t.dirty || decide (m.2 = some true),
             wbseen := t.wbseen || decide (st = .wbp),
             seen := if st = .wbp then t.seen ++ [a] else t.seen,
             owed := if st = .wbp ∧ coming = true then t.owed ++ [a] else t.owed,
             await := match m.2 with
               | some _ => t.await ++ [a]
               | none => t.await }

/-- A snoop k at tile agent a's stop: its copy's transition, its data on the way to the home, the outcome field (R255, R256). -/
def State.snoopTile (s : State) (l a : Nat) (k : SnpK) (t : Txn) (last : Bool) : State :=
  let st := s.copySt a l
  let mv := snoopMove st k
  let d := ((mget s.coh.agents (agentKey a l)).map (·.data)).getD 0
  let t1 := t.atTile a st k (s.wbComing a l)
  let t2 := if last then { t1 with stop := 72 } else t1
  let own := decide (a = t.q.req) && decide (k ≠ .bi)
  let s1 := s.setCoh { s.coh with
    txns := mput s.coh.txns l t2,
    agents := if own then s.coh.agents else if mv.1 = .i then mdel s.coh.agents (agentKey a l)
      else mmod s.coh.agents (agentKey a l) (fun c => { c with st := mv.1 }) }
  if own then s1 else match mv.2 with
    | some dirty => s1.cohSend ⟨4, a, l, t.q.tag, .i, false, dirty, d, t.q.qc, t.q.ten, 0, false⟩
    | none => s1

/-- What the stop of agent a does with a snoop (R255): a tile applies its transition, a COMPUTE slip's stop marks SLIPPEND and passes the
snoop to its chiplet with its requester, tag and outcome, any other stop leaves it unchanged. -/
def State.stopDoes (s : State) (l a : Nat) (k : SnpK) (t : Txn) : State :=
  if a < 64 then s.snoopTile l a k t (decide (t.stop = ringPos (s.homeOf (l * 128))))
  else if s.liveSlip (a - 64) then
    (s.setCoh { s.coh with
      txns := mput s.coh.txns l
        { t with stop := (t.stop + 1) % 72, pend := setBit t.pend (a - 64) true } }).ospMsg (a - 64)
      [3, a - 62, l * 128, snpOp k, t.q.req, t.q.tag, t.q.qc, t.aux] 1 (snpOp k) t.q.qc t.q.tag (l * 128) t.aux
  else s.setCoh { s.coh with txns := mput s.coh.txns l { t with stop := (t.stop + 1) % 72 } }

/-- A snoop that has reached the stop it is due at, once its packet is there: the stop's transition, and its way to the next stop. -/
def State.snoopAt (s : State) (pa stop : Nat) : State :=
  let l := lineOf pa
  match mget s.coh.txns l with
  | some t =>
    match t.snp with
    | some k =>
      if t.stop ≠ stop ∨ t.granted ∨ s.there t.spid = false then s
      else (s.stopDoes l (ringAgent stop) k t).snoopOn l (reqRouter (ringAgent stop))
    | none => s
  | none => s

/-- The snoop due at a tile's stop meets a copy with an uncorrectable error (R175). -/
def State.snoopUe (s : State) (pa stop : Nat) : State :=
  let l := lineOf pa
  match mget s.coh.txns l with
  | some t =>
    if t.snp.isSome && decide (t.stop = stop) && !t.granted && s.there t.spid && (decide (ringAgent stop ≠ t.q.req) || decide (t.snp = some .bi)) then
      s.tcUe (ringAgent stop) l (tenOpt t.q.ten)
    else s
  | none => s

/-- SNOOP_AT_STOP; ue: the copy the snoop meets has an uncorrectable error. -/
def execSnoopAtStop (pa stop : Nat) (ue : Bool) (s : State) : Host.Outcome State Fault Refusal :=
  .next ((if ue then s.snoopUe pa stop else s).snoopAt pa stop)

/-- SNP_RSP: a slip agent's answer arrives at the home. -/
def execSnpRsp (slip pa : Nat) (held dirty sends wbseen reqhold : Bool) (s : State) : Host.Outcome State Fault Refusal :=
  .next (s.toHome (.snpRsp slip pa held dirty sends wbseen reqhold))

/-- The SNP_DATA of an agent for a line that has arrived. -/
def State.snpSent (s : State) (a l : Nat) : Option CMsg := s.msgFor 4 a l

/-- A transaction after the SNP_DATA of an agent: it takes its place in R252's priority; none the fabric damaged does (R304). -/
def Txn.snpIn (t : Txn) (agent : Nat) (dirty dmg : Bool) (d : Line) : Txn :=
  let t1 := { t with await := t.await.erase agent }
  if !dmg && decide (t.prio < if dirty then 3 else 1) then { t1 with prio := if dirty then 3 else 1, data := d } else t1

/-- SNP_DATA arrives at the home. What its agent has sent over the fabric is taken once its packet is there; a slip agent's may also be
the command's own. -/
def State.snpData (s : State) (agent pa : Nat) (dirty : Bool) (data : Line) : State :=
  let l := lineOf pa
  match mget s.coh.txns l with
  | some t =>
    if t.await.contains agent then
      (match s.snpSent agent l with
      | some m => (s.setCoh { s.coh with
          msgs := s.coh.msgs.erase m, txns := mput s.coh.txns l (t.snpIn agent m.dirty m.dmg m.data) }).useDom (8 * s.homeOf pa + 6)
      | none =>
        if 64 ≤ agent ∧ s.coh.msgs.any (fun m => decide (m.kind = 4) && decide (m.agent = agent) && decide (m.line = l)) = false then
          (s.setCoh { s.coh with txns := mput s.coh.txns l (t.snpIn agent dirty false data) }).useDom (8 * s.homeOf pa + 6)
        else s)
    else s
  | none => s

def execSnpData (agent pa : Nat) (dirty : Bool) (data : Line) (s : State) : Host.Outcome State Fault Refusal := .next (s.snpData agent pa dirty data)

/-- A transaction's snoop is complete (R257): it has returned, every slip has answered, every SNP_DATA announced is in, and the WB of
an agent seen in WBP has come. -/
def Txn.complete (t : Txn) : Bool :=
  t.snp.isSome && !t.granted && !t.fetch && decide (t.stop = 72) && decide (t.pend = 0) && t.await.isEmpty && t.owed.isEmpty

/-- The slip whose copy of a line a home must treat as lost first: the entry's owner, declared failed (R270). -/
def State.lostOwner (s : State) (t : Txn) : Bool :=
  match t.ent with
  | some e => e.owned && decide (t.prio < 2) && (match e.fwd with
    | some a => decide (64 ≤ a) && decide (a < 72) && s.slipFailed (a - 64)
    | none => false)
  | none => false

/-- A line whose owner was lost: marked invalid, MEM_UE, its entry freed (R270); the home's older copy does not stand. DESIGN CHOICE:
R275 names no class for the COH error OWNER_LOST; its record is CORRECTED beside the VOIDING one of MEM_UE (log 172). -/
def State.ownerLost (s : State) (l : Nat) : State :=
  let h := s.homeOf (l * 128)
  let s1 := s.cohErr h 4 clsCorrected
  let s2 := s1.memUe l 0x05 4 h none
  s2.setCoh { s2.coh with filter := mdel s2.coh.filter l, llc := mdel s2.coh.llc l }

/-- A complete snoop's end: a line whose owner failed meanwhile is lost first; then the home answers (R258). -/
def State.snoopEnd (s : State) (t : Txn) : State :=
  if s.lostOwner t then ((s.ownerLost t.q.line).answer t false).wakeQueue else (s.answer t t.ent.isSome).wakeQueue

/-- SNOOP_COMPLETE. -/
def execSnoopComplete (pa : Nat) (s : State) : Host.Outcome State Fault Refusal :=
  match mget s.coh.txns (lineOf pa) with
  | some t => .next (if t.complete then s.snoopEnd t else s)
  | none => .next s

/-! ### Grants and answers reaching a requester (R251, R260, R269) -/

/-- A tile's agent flushes its cache: its partition is in reset (R176, R269). -/
def State.tileReset (s : State) (t : Nat) : Bool :=
  match s.partOfTile t with
  | some p => (s.part p).reset
  | none => false

/-- A line left by tile agent a in the way its new line takes: WB from M, EVCT from E, S or F (R250). -/
def State.tileDrop (s : State) (a l : Nat) (d : Line) : State :=
  if s.copySt a l = .m then s.wbArrive a (l * 128) 0 d else s.evctArrive a (l * 128) 0

/-- The other lines that tile agent a holds in the set of line l. -/
def State.tileSet (s : State) (a l : Nat) : List (Nat × CLine) :=
  s.coh.agents.filter (fun p => decide (p.1 / 2 ^ 45 = a) && decide (p.1 % 512 = l % 512) && decide (p.1 ≠ agentKey a l) && keeps p.2.st)

/-- The way a tile cache gives a line: its own, a free one, the tree's (R175). -/
def State.tileWay (s : State) (a l : Nat) : Nat :=
  match mget s.coh.agents (agentKey a l) with
  | some c => c.way
  | none => ((List.range 16).find? (fun w => (s.tileSet a l).all (fun p => p.2.way != w))).getD
      (plruVictim (mgetD s.coh.plru (a * 512 + l % 512) 0))

/-- A line installed in a tile cache; the line it displaces leaves. -/
def State.tileInstall (s : State) (a l : Nat) (st : CSt) (d : Line) : State :=
  let w := s.tileWay a l
  let s1 := (s.setCoh { s.coh with agents := mput s.coh.agents (agentKey a l) ⟨st, w, d⟩ }).touchCopy a l
  match (s.tileSet a l).find? (fun p => decide (p.2.way = w)) with
  | some v => s1.tileDrop a (v.1 % 2 ^ 45) v.2.data
  | none => s1

/-- Agent a's COMP_ACK for a line is on its way. -/
def State.ackSent (s : State) (a l : Nat) : Bool :=
  (s.fab.air ++ s.fab.parked).any (fun x => match x.2 with
    | .compAck b pa => decide (b = a) && decide (lineOf pa = l)
    | _ => false)

/-- COMP_ACK sent by a requester that has taken its grant, once (R260). -/
def State.compAckFrom (s : State) (req pa : Nat) : State :=
  let l := lineOf pa
  match mget s.coh.txns l with
  | some t =>
    if t.granted && decide (t.q.req = req) && !(s.ackSent req l) &&
        !(s.coh.msgs.any (fun m => decide (m.kind < 2) && decide (m.agent = req) && decide (m.line = l))) then
      s.sendHome (s.homeHdr 2 3 t.q.qc req t.q.tag l t.q.ten 0 false false) 0 0 (.compAck req pa)
    else s
  | none => s

def execCompAck (req pa : Nat) (s : State) : Host.Outcome State Fault Refusal := .next (s.compAckFrom req pa)

/-- A grant that reaches a tile agent while its cache is flushed: COMP_ACK, then WB of a grant of M, EVCT of another (R269). -/
def State.grantFlushed (s : State) (req l : Nat) (st : CSt) (d : Line) : State :=
  let s1 := (s.setCoh { s.coh with agents := mput s.coh.agents (agentKey req l) ⟨st, 0, d⟩ }).compAckFrom req (l * 128)
  s1.tileDrop req l d

/-- A grant of M without data for a tile agent whose copy the flush has let go: COMP_ACK, then EVCT in place of WB, since it has no data to
write back and the home's is current (DESIGN CHOICE, log 205). -/
def State.grantGone (s : State) (req pa : Nat) : State :=
  let s1 := s.compAckFrom req pa
  s1.sendHome (s1.homeHdr 4 2 2 req 0 (lineOf pa) 4096 0 false false) 0 0 (.evct req 0 pa)

/-- DATA reaches its requester: a tile agent installs the line in the granted state, but none that the fabric damaged;
data for a slip goes out on it, or ERR with cause DATA where the fabric damaged it (R304). -/
def execData (req pa : Nat) (s : State) : Host.Outcome State Fault Refusal :=
  let l := lineOf pa
  match s.msgFor 0 req l with
  | some m =>
    if s.asleepAt req then .next (s.wake (8 * req + 5))
    else
      let s1 := s.agentTake m
      if req < 64 then .next (if m.st = .i ∨ m.dmg = true then s1 else if s.tileReset req then s1.grantFlushed req l m.st m.data
        else s1.tileInstall req l m.st m.data)
      else if req < 72 then
        .next (if m.dmg then s1.ospErr (req - 64) m.qc m.tag (s.osAddr req m.tag (l * 128)) 4
          else s1.ospData (req - 64) m.qc m.tag (s.osAddr req m.tag (l * 128)) (grantCode m.st) m.data)
      else .next s1
  | none => .next s

/-- GNT reaches its requester: an UPG's line becomes M; a WRI or WRP is complete. -/
def execGnt (req pa : Nat) (s : State) : Host.Outcome State Fault Refusal :=
  let l := lineOf pa
  match s.msgFor 1 req l with
  | some m =>
    if s.asleepAt req then .next (s.wake (8 * req + 5))
    else
      let s1 := s.agentTake m
      if req < 64 then
        .next (if m.st = .m then
            (match s.tileReset req, mget s.coh.agents (agentKey req l) with
              | true, some c => s1.grantFlushed req l .m c.data
              | true, none => s1.grantGone req pa
              | false, _ => (s1.setCoh { s1.coh with agents := mmod s1.coh.agents (agentKey req l) (fun c => { c with st := .m }) }).touchCopy req l)
          else s1)
      else if req < 72 then .next (s1.ospGnt (req - 64) m.qc m.tag (s.osAddr req m.tag (l * 128)))
      else .next s1
  | none => .next s

/-- RETRY reaches its requester, with the credit it holds from then on (R264). -/
def execRetry (req pa : Nat) (s : State) : Host.Outcome State Fault Refusal :=
  let l := lineOf pa
  match s.msgFor 2 req l with
  | some m =>
    if s.asleepAt req then .next (s.wake (8 * req + 5))
    else
      let s0 := s.agentTake m
      let s1 := s0.setCoh { s0.coh with held := if m.credit then s.coh.held ++ [(s.homeOf pa, req)] else s.coh.held }
      if 64 ≤ req ∧ req < 72 then
        .next (s1.ospMsg (req - 64) [6, req - 62, m.tag, s.osAddr req m.tag (l * 128), b2n m.credit] 2 2 m.qc m.tag
          (s.osAddr req m.tag (l * 128)) (b2n m.credit))
      else .next s1
  | none => .next s

/-! ### Loss of a slip agent (R257, R260, R270) -/

/-- An open transaction without slip v: its answer to the snoop is taken as I with no data. -/
def Txn.without (t : Txn) (v : Nat) : Txn :=
  { t with
    pend := setBit t.pend v false, await := t.await.filter (· != 64 + v), owed := t.owed.filter (· != 64 + v),
    seen := t.seen.filter (· != 64 + v) }

/-- A coherence packet that slip v has sent. -/
def HPkt.ofSlip (x : HPkt) (v : Nat) : Bool :=
  match x with
  | .req q => decide (q.req = 64 + v)
  | .wb a _ _ _ _ => decide (a = 64 + v)
  | .evct a _ _ => decide (a = 64 + v)
  | .compAck a _ => decide (a = 64 + v)
  | .snpRsp w _ _ _ _ _ _ => decide (w = v)
  | .mem _ | .reg _ => false

/-- Slip v gone as an agent and requester: its answer to every open snoop taken as I with no data, its unacknowledged grants ended,
its waiting requests, credits and answers dropped; what waited for a line of these is served. -/
def State.slipGone (s : State) (v : Nat) : State :=
  let homes := (s.coh.credits.filter (fun c => decide (c.2 = 64 + v))).map (·.1)
  let s1 := s.setCoh { s.coh with
    txns := (s.coh.txns.filter (fun p => !(p.2.granted && decide (p.2.q.req = 64 + v)))).map (fun p => (p.1, p.2.without v)),
    queue := s.coh.queue.filter (fun q => decide (q.req ≠ 64 + v)),
    credits := s.coh.credits.filter (fun c => decide (c.2 ≠ 64 + v)),
    held := s.coh.held.filter (fun c => decide (c.2 ≠ 64 + v)),
    msgs := s.coh.msgs.filter (fun m => decide (m.agent ≠ 64 + v)) }
  let s2 := s1.setFab { s1.fab with air := s1.fab.air.filter (fun x => !(x.2.ofSlip v)), parked := s1.fab.parked.filter (fun x => !(x.2.ofSlip v)) }
  (s2.each homes State.showCredits).wakeQueue

/-- The entries of a failed slip: owned lines are lost, shared ones keep the home's copy (R270). -/
def State.agentLoss (s : State) (slip : Nat) : State :=
  let owned := (s.coh.filter.filter (fun p => p.2.owned && decide (p.2.fwd = some (64 + slip)))).map (·.1)
  let s1 := s.slipGone slip
  let s2 := s1.setCoh { s1.coh with
    filter := s1.coh.filter.map (fun p =>
      (p.1, if !p.2.owned && decide (p.2.fwd = some (64 + slip)) then { p.2 with fwd := none } else p.2)),
    txns := s1.coh.txns.map (fun p => (p.1, if owned.contains p.1 then { p.2 with ent := none } else p.2)) }
  (s2.each owned State.ownerLost).wakeQueue

/-! ### Accesses of the hub's own movers

A MOV, a copy engine or a ring DMA engine reads and writes lines through their homes. The model runs each such access as one
indivisible transaction once the line can be served; where a chiplet may hold the line, its snoop goes around the ring first, as a
transaction of its own (R248: the order in which a home serves rivals never changes a leg's result). -/

/-- The snoop of an access: write w, or a read with CACHE (R258). -/
def moverSnp (w : Bool) (a cache : Nat) : SnpK := if w then .i else if cache = 2 ∧ a < 64 then .s else .cur

/-- Agent a's own copy serves its access. -/
def State.ownEnough (s : State) (a l : Nat) (w : Bool) : Bool :=
  match s.copySt a l with
  | .m | .e => true
  | .s | .f => !w
  | _ => false

/-- The line's entry names a failed slip as its owner: it waits for the line work (R270). -/
def State.ownerFailed (s : State) (l : Nat) : Bool :=
  match mget s.coh.filter l with
  | some e => e.owned && (match e.fwd with
    | some a => decide (64 ≤ a) && decide (a < 72) && s.slipFailed (a - 64)
    | none => false)
  | none => false

/-- The snoop that agent a's access of a line has sent ahead: the one it needs, or SNP_I, after which no agent keeps a copy (R256). -/
def State.prepOf (s : State) (a l : Nat) (k : SnpK) : Option Prep :=
  s.coh.preps.find? (fun p => decide (p.agent = a) && decide (p.line = l) && (decide (p.snp = k) || decide (p.snp = .i)))

/-- A line's entry was made ahead for agent a, which has no copy yet: nobody holds the line. -/
def State.ownEntry (s : State) (a l : Nat) : Bool := ownedBy (mget s.coh.filter l) a && decide (s.copySt a l = .i) && decide (a < 64)

/-- A line's entry names agents that may hold it. -/
def State.entryFor (s : State) (a l : Nat) : Bool := (mget s.coh.filter l).isSome && !(s.ownEntry a l)

/-- An access must wait for a snoop that reaches chiplets. -/
def State.wantsPrep (s : State) (a l : Nat) (k : SnpK) (w : Bool) : Bool :=
  !(s.ownEnough a l w) && s.entryFor a l && s.liveSlips && (s.prepOf a l k).isNone

/-- A back-invalidation of a line waits for its turn. -/
def State.biWaits (s : State) (l : Nat) : Bool := s.coh.queue.any (fun q => decide (q.line = l) && decide (q.kind = .bi))

/-- Whether an access of a line by agent a can be served now: its line not BUSY, its own copy not on its way out; where its own copy does
not serve it, its home awake, a general tracker entry free there (R261), chiplets snooped, a way free for a new entry (R267). -/
def State.lineReady (s : State) (a : Nat) (w : Bool) (cache l : Nat) : Bool :=
  !(s.busy l) && !(s.biWaits l) && decide (s.copySt a l ≠ .wbp) && decide (s.copySt a l ≠ .evp) &&
    (s.ownEnough a l w ||
      (!(s.ownerFailed l) && !(s.wantsPrep a l (moverSnp w a cache) w) && decide (s.domSt (8 * s.homeOf (l * 128) + 6) = 0) &&
        decide (s.generalOf (s.homeOf (l * 128)) < 165) &&
        (decide (cache ≠ 2) || decide (64 ≤ a) || (mget s.coh.filter l).isSome ||
          decide ((s.fways (l * 128)).length < 16))))

/-- What an access of a line that is not ready does first: it wakes the line's home (R298), sends the snoop of its request, or takes an entry
for a copy it will cache, which may back-invalidate another line (R267, R268). -/
def State.prepLine (s : State) (a : Nat) (w : Bool) (cache l : Nat) : State :=
  let d := 8 * s.homeOf (l * 128) + 6
  if s.ownEnough a l w then s
  else if s.domSt d ≠ 0 then s.wake d
  else if s.wantsPrep a l (moverSnp w a cache) w && !(s.busy l) && !(s.ownerFailed l) && decide (s.generalOf (s.homeOf (l * 128)) < 165) then
    s.accept ⟨.prep (moverSnp w a cache), l, a, 0, 0, 0, false, false, 2, 4096, s.time.total, false⟩
  else if cache = 2 ∧ a < 64 ∧ s.busy l = false ∧ (mget s.coh.filter l).isNone ∧ s.wayFree (l * 128) then s.filterAlloc l true (some a)
  else s

/-- The tile agent that holds a line in M, with its copy. -/
def State.dirtyHolder (s : State) (l : Nat) : Option (Nat × CLine) :=
  ((List.range 64).filterMap (fun a => (mget s.coh.agents (agentKey a l)).map (fun c => (a, c)))).find?
    (fun p => p.2.st = .m)

/-- Every tile agent's copy of a line moved by a snoop. -/
def snoopAll (agents : NMap CLine) (l : Nat) (k : SnpK) (but : Option Nat) : NMap CLine :=
  (agents.filter (fun p => !(decide (p.1 % 2 ^ 45 = l) && decide (some (p.1 / 2 ^ 45) ≠ but) &&
      decide ((snoopMove p.2.st k).1 = .i)))).map
    (fun p => if p.1 % 2 ^ 45 = l ∧ some (p.1 / 2 ^ 45) ≠ but then (p.1, { p.2 with st := (snoopMove p.2.st k).1 }) else p)

/-- Some tile keeps a copy of a line. -/
def State.tileHolds (s : State) (l : Nat) : Bool := s.coh.agents.any (fun p => decide (p.1 % 2 ^ 45 = l) && keeps p.2.st)

/-- The high-water mark of a slice's trackers with a mover's own transaction in one of them (R276). -/
def State.moverMark (s : State) (h : Nat) : State :=
  if s.conf then s
  else s.rset (R.cohSlice h) F.cohSlice_TRK_MAX (max (s.rf (R.cohSlice h) F.cohSlice_TRK_MAX) (s.trackersOf h + 1))

/-- The request of a mover's access at its home: counted, in a tracker entry, and its snoop of the tiles (R206, R276, R297). -/
def State.moverReq (s : State) (a l : Nat) (k : SnpK) (but : Option Nat) : State :=
  let h := s.homeOf (l * 128)
  let s0 := ((s.countLlc h (s.llcHit l)).useReq a h).moverMark h
  let s1 := if s.entryFor a l && (s.prepOf a l k).isNone then s0.countSnoop h else s0
  let s2 := match s1.dirtyHolder l with
    | some (b, c) => if some b = but then s1 else s1.slicePut l c.data
    | none => s1
  s2.setCoh { s2.coh with agents := snoopAll s2.coh.agents l k but, preps := s2.coh.preps.filter (fun p => decide (p.line ≠ l)) }

/-- The data marked CLEAN that a read's snoop brings (R252, R256): of the tile that holds the line in E or F, or what its snoop ahead
brought. -/
def State.cleanData (s : State) (a l : Nat) (k : SnpK) : Option Line :=
  match ((List.range 64).filterMap (fun b => mget s.coh.agents (agentKey b l))).find? (fun c => decide (c.st = .e) || decide (c.st = .f)) with
  | some c => some c.data
  | none => (s.prepOf a l k).bind (·.clean)

/-- A line read by the hub's own mover from requester agent a: the newest data by R252, allocated as CACHE tells (R174); got: what was
fetched of the memory behind a slip. -/
def State.cohRead (s : State) (a l cache : Nat) (got : Option Line) : State × LineRes :=
  match s.ownEnough a l false, mget s.coh.agents (agentKey a l) with
  | true, some c => (s.touchCopy a l, .ok c.data)
  | _, _ =>
    let hit := s.entryFor a l
    let k := moverSnp false a cache
    let prepped := (s.prepOf a l k).isSome
    let s2 := s.moverReq a l k none
    let held := hit && (prepped || s2.tileHolds l)
    let clean := s.cleanData a l k
    let r : LineRes := match clean with
      | some d => .ok d
      | none => s2.homeLine l got
    let s3 := if clean.isSome then s2 else s2.countHome l
    match r with
    | .ok d =>
      let s4 := if !(s3.llcHit l) && decide (cache ≠ 1) then s3.llcPut l d false else s3
      if cache = 2 ∧ a < 64 then
        (((s4.filterSetOrNew l (!held) (some a)).tileInstall a l (if held then .f else .e) d), .ok d)
      else (s4.afterSnoop l held true, .ok d)
    | _ => (s3, r)

/-- A line written into a tile's cache, over what it held before. -/
def State.ownWrite (s : State) (a l mask : Nat) (d : Line) (old : LineRes) : State × LineRes :=
  match old with
  | .ok x => ((s.filterSetOrNew l true (some a)).tileInstall a l .m (mergeLine x d mask), .ok d)
  | _ => (s, old)

/-- A line, or the bytes of it a mask selects, written by the hub's own mover: CACHE 2 takes ownership in the tile cache,
0 allocates in the slice, 1 updates a copy in the slice or goes to memory (R174). -/
def State.cohWrite (s : State) (a l cache mask : Nat) (d : Line) (got : Option Line) : State × LineRes :=
  let full := isFull mask
  if cache = 2 ∧ a < 64 then
    match s.ownEnough a l false, mget s.coh.agents (agentKey a l) with
    | true, some c =>
      (if s.ownEnough a l true then s else s.moverReq a l .i (some a)).ownWrite a l mask d (.ok c.data)
    | _, _ =>
      let s1 := s.moverReq a l .i (some a)
      let s2 := if full then s1 else s1.countHome l
      s2.ownWrite a l mask d (if full then .ok d else s2.homeLine l got)
  else ((s.moverReq a l .i none).filterDel l).homeWrite l d mask (s.ownerOf (l * 128)) (decide (cache = 0)) got

end Sys2Proof.Machine
end

