-- ==== Sys2Proof/Machine/Xlate.lean ====
section
/-! DEFINITION. Address translation (R222 to R240): the two-level walk, the translation caches, footprints, and the
coalescing fault queue. -/

namespace Sys2Proof.Machine

/-! ### Walks (R224 to R226) -/

/-- Fault causes (R133). -/
def cXlate : Nat := 1
def cPerm : Nat := 2
def cWsRemote : Nat := 3
def cAlign : Nat := 4
def cBadEntry : Nat := 5
def cTableErr : Nat := 6
def cCtxOff : Nat := 7

/-- A table entry read: its value, a failure, or not yet there (a table in host memory). -/
inductive TblRes where
  | ok (v : Nat)
  | fail
  | wait
  deriving DecidableEq, Repr

/-- The cache all ring DMA engines share; the number walks of pinned pages go by (R235). -/
def ringCache : Nat := 64
def pinCache : Nat := 65

/-- The requester agent whose walks a cache's are (R249): a tile, the PCIe spur, the management spur. -/
def tcAgent (c : Nat) : Nat := if c = ringCache then 72 else if c = pinCache then 74 else c

/-- The 64 bytes a walk reads hold the entry (R228). -/
def tblBlk (pa : Nat) : Nat := pa / 64 * 64

/-- The entry at an address in a line. -/
def lineEntry (d : Line) (pa : Nat) : Nat := bitsOf d.toNat (8 * (pa % 128)) 64

/-- A table entry in the vault range: the newest data of its line, through its home and its toll (R227, R229, R294); a table outside
PF0's memory reads as its controller gives it under PF0's key (R226). -/
def State.tableVault (s : State) (c q tenant pa : Nat) : State × TblRes :=
  let l := lineOf pa
  let a := tcAgent c
  let who := [1, tenant, c, q]
  if !(s.tollReady who a q 1) then (s.tollPay who a q 1, .wait)
  else if !(s.lineReady a false 1 l) then (s.prepLine a false 1 l, .wait)
  else
    let s1 := ((s.tollTake who a q 1).charge a q 128).latNow a q 1
    let r := if s.ownerOf (l * 128) = 0x1000 then s1.cohRead a l 1 none else (s1, s1.lineReadAs l 0x1000)
    match r.2 with
    | .ok d => (r.1, .ok (lineEntry d pa))
    | x => (r.1.homeErr l a tenant x, .fail)

/-- An 8-byte table entry (R224), in the class of the access that caused the walk (R227); one read from host memory, with its
tenant's function (R241, R558), stays at hand until the walk that asked for it has ended: from the vault range with PF0's key, from
node 14 through the host link, from nowhere else (R226). -/
def State.tableRead (s : State) (c q tenant pa : Nat) : State × TblRes :=
  if onHost pa then
    match s.remFind [1, tenant, c, q] (tblBlk pa) 64 with
    | some r => (s, if r.st = 0 then .wait else if r.st = 1 then .ok (leAt r.data (pa % 64) 8) else .fail)
    | none => (s.remIssue [1, tenant, c, q] (tblBlk pa) 64 (tenant + 1), .wait)
  else if s.placeOf pa = .vault then s.tableVault c q tenant pa
  else (s, .fail)

/-- A leaf translation, a failure with its cause, or a walk still waiting for host memory. -/
inductive Walk where
  | ok (e : TcEnt)
  | fail (cause : Nat)
  | wait
  deriving DecidableEq, Repr

/-- A level-1 entry's meaning (R225, R226): a block, a pointer to a level-2 table, or a failure. -/
inductive L1 where
  | block (pa : Nat) (r w : Bool)
  | ptr (pa : Nat)
  | fail (cause : Nat)
  deriving DecidableEq, Repr

def l1Of (e : Nat) : L1 :=
  if !(bitOf e 0) then .fail cXlate
  else if bitOf e 1 then
    if bitsOf e 52 12 ≠ 0 ∨ bitsOf e 2 6 ≠ 0 then .fail cBadEntry else .ptr (bitsOf e 8 44 * 2 ^ 8)
  else if bitsOf e 52 12 ≠ 0 ∨ bitsOf e 4 26 ≠ 0 ∨ (bitOf e 3 = true ∧ bitOf e 2 = false) then .fail cBadEntry
  else .block (bitsOf e 30 22 * 2 ^ 30) (bitOf e 2) (bitOf e 3)

/-- A level-2 leaf's meaning (R225, R226). -/
def l2Of (e tenant va : Nat) : Walk :=
  if !(bitOf e 0) then .fail cXlate
  else if bitOf e 1 = true ∨ bitsOf e 52 12 ≠ 0 ∨ bitsOf e 4 21 ≠ 0 ∨ (bitOf e 3 = true ∧ bitOf e 2 = false) then .fail cBadEntry
  else .ok ⟨tenant, va / 2 ^ 25 * 2 ^ 25, false, bitsOf e 25 27 * 2 ^ 25, bitOf e 2, bitOf e 3, false, 0⟩

/-- L1_LOG, at most 26 (R245). -/
def State.l1Log (s : State) (t : Nat) : Nat := min 26 (s.rf (R.dtuCtxCfg t) F.dtuCtxCfg_L1_LOG)

/-- The physical addresses of the level-1 entry of a virtual address, and of its level-2 entry in a table. -/
def State.l1At (s : State) (t va : Nat) : Nat := s.rf (R.dtuCtxRoot t) F.dtuCtxRoot_ROOT * 2 ^ 12 + 8 * (va / 2 ^ 30)
def l2At (table va : Nat) : Nat := table + 8 * (va / 2 ^ 25 % 32)

/-- The walk of a cache for a tenant's page, while it is under way. -/
def State.walkRec (s : State) (c t va : Nat) : Option WalkRec :=
  s.dtu.walks.find? (fun w => decide (w.cache = c) && decide (w.tenant = t) && decide (w.page = va / 2 ^ 25))

def State.setWalks (s : State) (l : List WalkRec) : State := { s with dtu := { s.dtu with walks := l } }

/-- A walk that starts is counted, and the miss that caused it (R246); a pinned page is walked without one. -/
def State.walkBegin (s : State) (c q t va : Nat) : State :=
  if (s.walkRec c t va).isSome then s
  else
    let s1 := s.raddOpen R.dtuPerf F.dtuPerf_WALK 1
    let s2 := if c = pinCache then s1 else s1.raddOpen R.dtuPerf F.dtuPerf_MISS 1
    s2.setWalks (s2.dtu.walks ++ [⟨c, t, va / 2 ^ 25, none, q⟩])

/-- The class of a walk under way: that of the access that caused it (R227). -/
def State.walkQ (s : State) (c q t va : Nat) : Nat := ((s.walkRec c t va).map (·.qc)).getD q

/-- The level-1 entry of a walk kept for its second read. -/
def State.walkNote (s : State) (c t va e : Nat) : State :=
  s.setWalks (s.dtu.walks.map (fun w => if w.cache = c ∧ w.tenant = t ∧ w.page = va / 2 ^ 25 then { w with l1 := some e } else w))

/-- The level-1 entry of a walk: read once. -/
def State.walkL1 (s : State) (c q t va : Nat) : State × TblRes :=
  match (s.walkRec c t va).bind (·.l1) with
  | some e => (s, .ok e)
  | none => match s.tableRead c q t (s.l1At t va) with
    | (s1, .ok e) => (s1.walkNote c t va e, .ok e)
    | x => x

/-- A walk of tenant t's tables for a virtual address, for a cache, in a class. -/
def State.walk (s : State) (c q t va : Nat) : State × Walk :=
  if va ≥ 2 ^ (30 + s.l1Log t) then (s, .fail cXlate)
  else
    match s.walkL1 c q t va with
    | (s1, .wait) => (s1, .wait)
    | (s1, .fail) => (s1, .fail cTableErr)
    | (s1, .ok e) =>
      match l1Of e with
      | .fail c => (s1, .fail c)
      | .block pa r w => (s1, .ok ⟨t, va / 2 ^ 30 * 2 ^ 30, true, pa, r, w, false, 0⟩)
      | .ptr p =>
        match s1.tableRead c q t (l2At p va) with
        | (s2, .wait) => (s2, .wait)
        | (s2, .fail) => (s2, .fail cTableErr)
        | (s2, .ok e2) => (s2, l2Of e2 t va)

/-- A finished read of a table entry let go. -/
def State.tableDrop (s : State) (c q t pa : Nat) : State :=
  s.remSet (s.heap.remReads.filter (fun r => !(decide (r.who = [1, t, c, q]) && decide (r.pa = tblBlk pa) && decide (r.st ≠ 0))))

/-- A walk has ended: what it read is let go. -/
def State.walkEnd (s : State) (c q0 t va : Nat) : State :=
  let q := s.walkQ c q0 t va
  let s1 := s.tableDrop c q t (s.l1At t va)
  let s2 := match ((s.walkRec c t va).bind (·.l1)).map l1Of with
    | some (.ptr p) => s1.tableDrop c q t (l2At p va)
    | _ => s1
  s2.setWalks (s2.dtu.walks.filter (fun w => !(decide (w.cache = c) && decide (w.tenant = t) && decide (w.page = va / 2 ^ 25))))

/-- Entries read for walks that nobody waits for any more, and those walks. -/
def State.walksForget (s : State) : State :=
  let busy (t : Nat) : Bool := s.heap.remReads.any (fun r => decide (r.who.headD 0 = 1) && decide (r.who.getD 1 0 = t) && decide (r.st = 0))
  (s.remSet (s.heap.remReads.filter (fun r => !(decide (r.who.headD 0 = 1) && decide (r.st ≠ 0) && !(busy (r.who.getD 1 0)))))).setWalks
    (s.dtu.walks.filter (fun w => busy w.tenant))

/-- The walks of some tenants begin again: what they have read of the tables, or are still to get, counts no more (R229). DESIGN CHOICE:
every walk of a tenant that an invalidation names, whatever its page (log 213). -/
def State.walksAgain (s : State) (p : Nat → Bool) : State :=
  (s.remDrop (fun r => decide (r.who.headD 0 = 1) && p (r.who.getD 1 0))).setWalks
    (s.dtu.walks.map (fun w => if p w.tenant then { w with l1 := none } else w))

/-! ### The translation caches (R227) -/

def State.tc (s : State) (c : Nat) : List TcEnt := mgetD s.dtu.caches c []

/-- An entry covers a tenant's address. -/
def TcEnt.covers (e : TcEnt) (t va : Nat) : Bool :=
  decide (e.tenant = t) && decide (e.va ≤ va) && decide (va < e.va + (if e.big then 2 ^ 30 else 2 ^ 25))

/-- Sets and ways of a cache's general entries (R227). -/
def tcSets (c : Nat) : Nat := if c = ringCache then 512 else 128
def tcWays (c : Nat) : Nat := if c = ringCache then 16 else 12

/-- The set of a general entry, over all caches. -/
def tcSet (c : Nat) (e : TcEnt) : Nat := c * 512 + Config.tcIndex e.tenant (e.va / 2 ^ (if e.big then 30 else 25)) e.big % tcSets c

/-- A use of a general entry turns its set's tree. -/
def State.tcTouch (s : State) (c : Nat) (e : TcEnt) : State :=
  if e.pinned then s
  else { s with dtu := { s.dtu with trees := mput s.dtu.trees (tcSet c e) (treeTouch 4 (mgetD s.dtu.trees (tcSet c e) 0) e.way) } }

/-- The way a general entry goes into: a free one of its set, or the one the tree gives up. -/
def State.tcWay (s : State) (c : Nat) (e : TcEnt) : Nat :=
  let set := (s.tc c).filter (fun x => !x.pinned && decide (tcSet c x = tcSet c e))
  ((List.range (tcWays c)).find? (fun w => set.all (fun x => x.way != w))).getD
    (treeVictim 4 (mgetD s.dtu.trees (tcSet c e) 0) (fun w => decide (w < tcWays c)))

/-- An entry put into a cache; a pinned one beside the sets, never replaced. -/
def State.tcPut (s : State) (c : Nat) (e : TcEnt) : State :=
  if e.pinned then { s with dtu := { s.dtu with caches := mput s.dtu.caches c (s.tc c ++ [e]) } }
  else
    let w := s.tcWay c e
    let l := (s.tc c).filter (fun x => x.pinned || !(decide (tcSet c x = tcSet c e) && decide (x.way = w)))
    ({ s with dtu := { s.dtu with caches := mput s.dtu.caches c (l ++ [{ e with way := w }]) } } : State).tcTouch c { e with way := w }

/-- A page is one of its tenant's pinned pages (R234). -/
def State.isPinned (s : State) (t va : Nat) : Bool :=
  s.tenRecs.any (fun r => decide (r.tenant = t) &&
    r.pins.any (fun p => decide (p.1 ≤ va) && decide (va < p.1 + p.2 * 2 ^ 25)))

/-- A leaf for an address: from the cache, or by a walk that fills it during RUN (R227, R228). A walk that fails is ended by its
requester once the whole footprint is known. -/
def State.leaf (s : State) (c q t va : Nat) : State × Walk :=
  match (s.tc c).find? (fun e => e.covers t va) with
  | some e => (s.tcTouch c e, .ok e)
  | none =>
    match (s.walkBegin c q t va).walk c ((s.walkBegin c q t va).walkQ c q t va) t va with
    | (s1, .wait) => (s1, .wait)
    | (s1, .fail x) => (s1, .fail x)
    | (s1, .ok e) =>
      let s2 := s1.walkEnd c q t va
      (if s2.time.stage = .run then s2.tcPut c e else s2, .ok e)

/-- How an access uses a page: a read, a write, or an MMA stream of a tile (R226). -/
inductive Acc where
  | rd | wr | mma (tile : Nat)
  deriving DecidableEq, Repr

/-- Some byte of a range is absent. What is absent begins and ends at 4 KiB granules (R211, R212, R379); between two bytes of one of
the ranges without holes there is none. -/
def State.anyAbsent (s : State) (pa n : Nat) : Bool :=
  match s.placeOf pa, s.placeOf (pa + max n 1 - 1) with
  | .vault, .vault | .reserved, .reserved | .host, .host | .twin, .twin | .regs, .regs => false
  | _, _ => ((List.range (n / 4096 + 2)).map (fun i => if i = 0 then pa else (pa / 4096 + i) * 4096)).any (fun x =>
      decide (x < pa + max n 1) && decide (s.placeOf x = .absent))

/-- The checks of a leaf for an access to n bytes at an address (R226): absent, register space or not permitted, not resident. -/
def State.leafCheck (s : State) (e : TcEnt) (va n : Nat) (a : Acc) : Option Nat :=
  let pa := e.pa + (va - e.va)
  let pl := s.placeOf pa
  if s.anyAbsent pa n then some cXlate
  else if pl = .regs ∨ (a = .wr ∧ e.w = false) ∨ (a ≠ .wr ∧ e.r = false) then some cPerm
  else match a with
    | .mma v => if s.residentIn e.pa e.big = some v then none else some cWsRemote
    | _ => none

/-- A piece of a footprint after translation; walked: a walk failed. -/
inductive XRes where
  | ok (pa : Nat)
  | fail (cause : Nat) (walked : Bool)
  | wait
  deriving DecidableEq, Repr

/-- The translation of n bytes within a page for an access. A context that is not ON fails with CTX_OFF (R223). -/
def State.xlate (s : State) (c q t va n : Nat) (a : Acc) : State × XRes :=
  if s.rf (R.dtuCtxCfg t) F.dtuCtxCfg_STATE ≠ 2 then (s, .fail cCtxOff false)
  else match s.leaf c q t va with
    | (s1, .wait) => (s1, .wait)
    | (s1, .fail x) => (s1, .fail x true)
    | (s1, .ok e) =>
      match s1.leafCheck e va n a with
      | some x => (s1, .fail x false)
      | none => (s1, .ok (e.pa + (va - e.va)))

/-- A range cut at the 32 MiB pages. -/
def pagePieces (fuel va n : Nat) : List (Nat × Nat) :=
  match fuel with
  | 0 => []
  | f + 1 =>
    if n = 0 then []
    else
      let k := min n (2 ^ 25 - va % 2 ^ 25)
      (va, k) :: pagePieces f (va + k) (n - k)

/-- The range's pieces, each within a 32 MiB page. -/
def piecesOf (va n : Nat) : List (Nat × Nat) := pagePieces (n / 2 ^ 25 + 2) va n

/-- The outcome of a whole footprint (R131): every piece's physical address, the pages that failed with their causes, the
addresses whose walks failed, or a walk that still waits. -/
structure FpRes where
  pas : List (Nat × Nat)
  fails : List (Nat × Nat)
  walked : List Nat
  wait : Bool
  deriving DecidableEq, Repr

/-- Every page a footprint touches is translated and checked (R131). Failed walks are still to be ended. -/
def State.footprintOpen (s : State) (c q t : Nat) (a : Acc) : List (Nat × Nat) → State × FpRes
  | [] => (s, ⟨[], [], [], false⟩)
  | (va, n) :: rest =>
    match s.xlate c q t va n a with
    | (s1, .wait) => (s1, ⟨[], [], [], true⟩)
    | (s1, .fail x w) =>
      let r := s1.footprintOpen c q t a rest
      (r.1, { r.2 with
        fails := (va / 2 ^ 25, x) :: r.2.fails.filter (fun p => p.1 ≠ va / 2 ^ 25),
        walked := if w then va :: r.2.walked.filter (fun y => y / 2 ^ 25 ≠ va / 2 ^ 25) else r.2.walked })
    | (s1, .ok pa) =>
      let r := s1.footprintOpen c q t a rest
      (r.1, { r.2 with pas := (pa, n) :: r.2.pas })

/-- A footprint's failed walks ended. -/
def State.walksEnd (s : State) (c q t : Nat) (l : List Nat) : State := l.foldl (fun s va => s.walkEnd c q t va) s

/-- A footprint; once no walk of it waits, its failed walks are ended. -/
def State.footprint (s : State) (c q t : Nat) (a : Acc) (ps : List (Nat × Nat)) : State × FpRes :=
  let r := s.footprintOpen c q t a ps
  if r.2.wait then r else (r.1.walksEnd c q t r.2.walked, r.2)

/-! ### The fault queue (R237 to R239) -/

/-- The bit of a cause in a record (R238). -/
def causeBit (c : Nat) : Nat :=
  if c = cXlate then 0 else if c = cPerm then 1 else if c = cWsRemote then 2 else if c = cBadEntry then 3 else 4

/-- Records a tenant holds. -/
def State.fqOf (s : State) (t : Nat) : List FqRec := s.dtu.fq.filter (fun r => r.tenant = t)

/-- TFQ_STATUS.COUNT and DTU_FQ_STATUS.USED show the records held (R246, R247). -/
def State.fqShow (s : State) (t : Nat) : State :=
  (s.rset (R.tfqStatus t) F.tfqStatus_COUNT (s.fqOf t).length).rset R.dtuFqStatus F.dtuFqStatus_USED s.dtu.fq.length

/-- A failure recorded (R237): coalesced into the record of its tenant and page, or a new record, or dropped and counted.
req is a logical TE, or none for ring DMA. -/
def State.faultRec (s : State) (t page cause : Nat) (req : Option Nat) (write : Bool) : State :=
  let n := s.sail
  let reqBit := match req with
    | some k => 2 ^ k
    | none => 0
  let flag := (match req with
    | some _ => 0
    | none => 1) + b2n write * 2
  if s.dtu.fq.any (fun r => decide (r.tenant = t) && decide (r.vpage = page * 2 ^ 25)) then
    { s with
      dtu := { s.dtu with
      fq := s.dtu.fq.map (fun r =>
        if r.tenant = t ∧ r.vpage = page * 2 ^ 25 then
          { r with
                   causes := r.causes ||| 2 ^ causeBit cause, flags := r.flags ||| flag,
                   count := satAdd r.count 1 (2 ^ 32 - 1), last := n, req := r.req ||| reqBit, fresh := true }
        else r) } }
  else if (s.fqOf t).length < 16 ∧ s.dtu.fq.length < 1024 then
    let r : FqRec := ⟨t, 2 ^ causeBit cause, flag, 1, page * 2 ^ 25, n, n, reqBit, true, [], []⟩
    let s1 : State := { s with dtu := { s.dtu with fq := s.dtu.fq ++ [r] } }
    s1.fqShow t
  else (s.radd (R.tfqStatus t) F.tfqStatus_DROP 1).radd R.dtuFqStatus F.dtuFqStatus_DROP 1

/-- A failed page handled for its requester (R133, R223, R236, R237): CTX_OFF makes no record; a pinned page makes a
CORRECTED record with cause PIN_FAULT; any other page goes to the fault queue. -/
def State.pageFail (s : State) (t page cause : Nat) (req : Option Nat) (write : Bool) : State :=
  if cause = cCtxOff then s
  else if s.isPinned t (page * 2 ^ 25) then
    s.report ⟨clsCorrected, 0x0E, 4, 0, none, 0, some t, none, s.sail, false⟩
  else s.faultRec t page cause req write

/-- Every failed page of a footprint handled. -/
def State.pageFails (s : State) (t : Nat) (fails : List (Nat × Nat)) (req : Option Nat) (write : Bool) : State :=
  fails.foldl (fun s p => s.pageFail t p.1 p.2 req write) s

/-- Whether a failure stops the voyage: a pinned page or CTX_OFF (R133). -/
def State.stopsVoyage (s : State) (t page cause : Nat) : Bool := decide (cause = cCtxOff) || s.isPinned t (page * 2 ^ 25)

/-! ### Region marks (R526, R527) -/

def State.marksOf' (s : State) (t : Nat) : Marks := mgetD s.err.marks t ⟨[], false⟩

/-- A tenant's range lies in a marked range. -/
def State.isMarked (s : State) (t va n : Nat) : Bool :=
  let m := s.marksOf' t
  m.all || m.ranges.any (fun r => meets va n r.1 r.2)

/-- A tenant's range marked; a ninth mark sets ALL instead (R526). -/
def State.markRange (s : State) (t va n : Nat) : State :=
  let m := s.marksOf' t
  let m' : Marks := if m.ranges.contains (va, n) then m
    else if m.ranges.length < 8 then ⟨m.ranges ++ [(va, n)], m.all⟩ else ⟨m.ranges, true⟩
  let s1 : State := { s with err := { s.err with marks := mput s.err.marks t m' } }
  (s1.rset (R.tinvStatus t) F.tinvStatus_COUNT m'.ranges.length).rset (R.tinvStatus t) F.tinvStatus_ALL (b2n m'.all)

end Sys2Proof.Machine
end

