-- ==== Sys2Proof/Machine/Mover.lean ====
section
/-! DEFINITION. Moving bytes for a leg, a copy engine or a ring DMA engine: lines with a home through it, other nodes
by their ports, and what a bad line does to each kind of reader and writer (R189, R386, R524, R527, R553). -/

namespace Sys2Proof.Machine

/-! ### Lines that have a home -/

/-- The copies of a range's lines that a tile will cache have entries, or free ways enough in their sets (R268). -/
def State.rangeWays (s : State) (a cache pa n : Nat) : Bool :=
  let new := (linesOf pa n).filter (fun l => (mget s.coh.filter l).isNone)
  decide (cache ≠ 2) || decide (64 ≤ a) || new.all (fun l =>
    decide ((new.filter (fun x => decide (s.filterSet (x * 128) = s.filterSet (l * 128)))).length + (s.fways (l * 128)).length ≤ 16))

/-- Every line of a range can be accessed now by agent a: written (w) or read, with CACHE. -/
def State.rangeReady (s : State) (a : Nat) (w : Bool) (cache pa n : Nat) : Bool :=
  (linesOf pa n).all (s.lineReady a w cache) && s.rangeWays a cache pa n

/-- The bytes of a line from offset o. -/
def lineSlice (d : Line) (o n : Nat) : List Byte := slice (bytesOfLine d) o n

/-- An access needs a line's old content from the memory behind a slip (R208): a read, or a partial write that allocates, of a line
that neither the slice nor a tile has. -/
def State.wantsMem (s : State) (a : Nat) (w part : Bool) (cache l : Nat) : Bool :=
  (match s.placeOf (l * 128) with
    | .slip _ => true
    | _ => false) && !(s.ownEnough a l false) && (mget s.coh.llc l).isNone && (s.dirtyHolder l).isNone &&
    !(s.err.invTable.contains l) && (if w then part && decide (cache ≠ 1) else (s.cleanData a l (moverSnp false a cache)).isNone)

/-- A line behind a slip that a requester has read from its memory. -/
def State.memGot (s : State) (who : List Nat) (l : Nat) : Option Line :=
  match s.remFind who (l * 128) 128 with
  | some r => if r.st = 1 then some (lineOfBytes r.data) else none
  | none => none

/-- The content is there, or its read has failed. -/
def State.memReady (s : State) (who : List Nat) (a : Nat) (w part : Bool) (cache l : Nat) : Bool :=
  !(s.wantsMem a w part cache l) || (match s.remFind who (l * 128) 128 with
    | some r => decide (r.st ≠ 0)
    | none => false)

/-- A requester's read of a line's memory let go. -/
def State.memDrop (s : State) (who : List Nat) (l : Nat) : State :=
  match s.remFind who (l * 128) 128 with
  | some r => if r.st = 0 then s else s.remSet (s.heap.remReads.erase r)
  | none => s

/-- What a line behind a slip that answered nothing is to its reader: an uncorrectable error of the slip (R361). -/
def State.slipLost (s : State) (l : Nat) (r : LineRes) : LineRes :=
  match s.placeOf (l * 128), r with
  | .slip v, .absent => .ue 0x08 (s.rf (R.slipErr v) F.slipErr_CAUSE)
  | _, x => x

/-- Pieces of lines read through their homes: the bytes, with 0 for a line that gives none, and what each bad line
answered. -/
def State.readPieces (s : State) (who : List Nat) (a cache : Nat) : List (Nat × Nat) → State × List Byte × List (Nat × LineRes)
  | [] => (s, [], [])
  | (pa, n) :: rest =>
    let r := s.cohRead a (lineOf pa) cache (s.memGot who (lineOf pa))
    let t := (r.1.memDrop who (lineOf pa)).readPieces who a cache rest
    match r.2 with
    | .ok d => (t.1, lineSlice d (pa % 128) n ++ t.2.1, t.2.2)
    | x => (t.1, List.replicate n 0 ++ t.2.1, (lineOf pa, s.slipLost (lineOf pa) x) :: t.2.2)

/-- n bytes read by agent a for a requester. -/
def State.moverRead (s : State) (who : List Nat) (a cache pa n : Nat) : State × List Byte × List (Nat × LineRes) :=
  s.readPieces who a cache (linePieces (n / 128 + 2) pa n)

/-- A line's worth of bytes at an offset, as data and mask. -/
def placed (o : Nat) (bs : List Byte) : Line × Nat :=
  (BitVec.ofNat 1024 (leNat bs * 256 ^ o), (2 ^ bs.length - 1) * 2 ^ o)

/-- Bytes written through the homes of the lines they lie in. -/
def State.writePieces (s : State) (who : List Nat) (a cache : Nat) : List (Nat × Nat) → List Byte → State × List (Nat × LineRes)
  | [], _ => (s, [])
  | (pa, n) :: rest, bs =>
    let dm := placed (pa % 128) (bs.take n)
    let r := s.cohWrite a (lineOf pa) cache dm.2 dm.1 (s.memGot who (lineOf pa))
    let t := (r.1.memDrop who (lineOf pa)).writePieces who a cache rest (bs.drop n)
    match r.2 with
    | .ok _ => t
    | x => (t.1, (lineOf pa, s.slipLost (lineOf pa) x) :: t.2)

/-- Bytes written by agent a for a requester. -/
def State.moverWrite (s : State) (who : List Nat) (a cache pa : Nat) (bs : List Byte) : State × List (Nat × LineRes) :=
  s.writePieces who a cache (linePieces (bs.length / 128 + 2) pa bs.length) bs

/-! ### Bad lines met by a leg or a COPY -/

/-- A bad line read by a leg or COPY of partition p (R189, R386, R524, R527). -/
def State.legBadRead (s : State) (p tenant : Nat) (x : Nat × LineRes) : State :=
  let h := s.homeOf (x.1 * 128)
  match x.2 with
  | .inval => s.voidPart p 0x43 0x0E 0 0 (some tenant) (some (x.1 * 128))
  | .ue b c => s.memUe x.1 b c h (some tenant)
  | .fenced => (s.fencedCap x.1).voidPart p 0x44 0x04 0x07 (s.vaultOf (x.1 * 128)).1 (some tenant) (some (x.1 * 128))
  | .lost => s.voidPart p 0x45 0x09 0x05 (s.lrsCell (x.1 * 128 - lrsBase)).1 (some tenant) (some (x.1 * 128))
  | _ => s

/-- A bad line written by a leg or COPY: a fenced row or a lost channel drops the write and voids; an owner without a key
drops it with MEM_UE (R553). -/
def State.legBadWrite (s : State) (p tenant : Nat) (x : Nat × LineRes) : State :=
  match x.2 with
  | .ue b c => s.voidPart p 0x42 b c 0 (some tenant) (some (x.1 * 128))
  | .inval => s
  | _ => s.legBadRead p tenant x

/-! ### The class of a mover's traffic (R326) -/

/-- The class a partition's slot declares. -/
def State.partQc (s : State) (p : Nat) : Nat := ((s.blockOf p).map (·.qc)).getD 1

/-- The class of a requester's accesses: a leg uses its partition's, a COPY that of the slot it issued in
(R193), a ring its own, a walk that of the access that caused it (R227), a measurement QC3 (R571). -/
def State.classOf (s : State) (who : List Nat) : Nat :=
  match who with
  | [1, _, _, q] => q
  | 2 :: k :: _ => ((s.partOfTile (k / 4)).map s.partQc).getD 1
  | 3 :: g :: _ => s.rf (R.ringCfg (g / 64) (g % 64)) F.ringCfg_QC + 1
  | 4 :: k :: _ => ((s.partOfTile (k / 4)).map s.partQc).getD 1
  | 5 :: g :: _ => s.rf (R.ringCfg (g / 64) (g % 64)) F.ringCfg_QC + 1
  | [7, p, i, n] =>
    ((s.copies.find? (fun c => decide (c.part = p) && decide (c.idx = i) && decide (c.target = n))).map (·.qc)).getD (s.partQc p)
  | 7 :: p :: _ => s.partQc p
  | 6 :: _ => 3
  | 12 :: _ => 1
  | _ => 2

/-- Another node's address that has no home here: its accesses go by the node's port. -/
def remote (pa : Nat) : Bool := decide (pa / 2 ^ 48 ≠ 0)

def State.away (s : State) (pa : Nat) : Bool := remote pa && !(s.homed pa)

/-- Lines of pieces that agent a does not hold: each is one request of its pair (R294, R332), those of other nodes too. -/
def State.linesNew (s : State) (a : Nat) (ps : List (Nat × Nat)) : Nat :=
  (ps.map (fun p => ((linesOf p.1 p.2).filter (fun l => s.away p.1 || !(keeps (s.copySt a l)))).length)).sum

/-- A requester's accesses pass their toll (R294). A weight stream comes by its vault's lane, not through the fabric (R183, R184). -/
def State.tollOk (s : State) (who : List Nat) (a n : Nat) : Bool := decide (who.headD 0 = 4) || s.tollReady who a (s.classOf who) n

/-- n requests of a mover injected: tokens, bytes and latency samples (R294, R327, R332). One access is charged once, for all its
pieces. -/
def State.chargeFor (s : State) (who : List Nat) (a n : Nat) : State :=
  if who.headD 0 = 4 ∨ n = 0 then s else ((s.tollTake who a (s.classOf who) n).charge a (s.classOf who) (128 * n)).latNow a (s.classOf who) n

/-- Lines a partition being brought into step wrote are echoed to the twin, behind the copy (R534). -/
def State.echo (s : State) (pa n : Nat) : State :=
  if s.twin.drain.isEmpty then s
  else (linesOf pa n).foldl (fun s l =>
    if (s.partOf (s.ownerOf (l * 128))).any (fun p => s.twin.drain.contains p) then
      let r := (s.chargeFor [12] 73 (s.linesNew 73 [(l * 128, 128)])).readPieces [12] 73 1 [(l * 128, 128)]
      r.1.send .twin [7, l * 128] r.2.1
    else s) s

/-- The movers that wait at a toll with an access that is still theirs, in its class (R294). -/
def State.moversKeep (s : State) : State :=
  s.setMovers (s.fab.movers.filter (fun m => s.moverLive m.1 && decide (m.2.1 % 4 = s.classOf m.1)))

/-! ### Pieces of either kind -/

/-- A failed access of another node: its node, and 16 times the PCI_ERR code of a failure at the host link. -/
def remCode (pa code : Nat) : Nat := pa / 2 ^ 48 % 16 + 16 * code

/-- A read of pieces for a requester: whether all have come; each piece's bytes and whether they are data (a failed read
gives none, R409); bad lines; the reads of other nodes that failed (remCode). -/
structure GetRes where
  ready : Bool
  parts : List (List Byte × Bool)
  bad : List (Nat × LineRes)
  remFail : List Nat
  deriving DecidableEq, Repr

/-- The bytes of all pieces, 0 for those that gave no data. -/
def GetRes.data (g : GetRes) : List Byte := g.parts.flatMap (·.1)

/-- A piece of lines with homes can be accessed now. -/
def State.pieceReady (s : State) (who : List Nat) (a : Nat) (w : Bool) (cache pa n : Nat) : Bool :=
  s.rangeReady a w cache pa n &&
    (linePieces (n / 128 + 2) pa n).all (fun p => s.memReady who a w (decide (p.2 < 128)) cache (lineOf p.1))

/-- Lines of another node's piece that are marked (R525, R527): a slip's memory has its marks in the invalid-line table. -/
def State.markedIn (s : State) (pa n : Nat) : List (Nat × LineRes) :=
  ((linesOf pa n).filter (fun l => s.err.invTable.contains l)).map (fun l => (l, .inval))

/-- The pieces' bytes, those of other nodes by tagged reads for who. -/
def State.getPieces (s : State) (who : List Nat) (a cache func : Nat) : List (Nat × Nat) → State × GetRes
  | [] => (s, ⟨true, [], [], []⟩)
  | (pa, n) :: rest =>
    if s.away pa then
      let x := s.remGet who pa n func
      let t := x.1.getPieces who a cache func rest
      let part := if x.2.1 = 1 then (x.2.2, true) else (List.replicate n 0, false)
      (t.1, ⟨decide (x.2.1 ≠ 0) && t.2.ready, part :: t.2.parts, s.markedIn pa n ++ t.2.bad,
        if x.2.1 = 2 then remCode pa (leNat (x.2.2.take 1)) :: t.2.remFail else t.2.remFail⟩)
    else if s.pieceReady who a false cache pa n then
      let r := s.moverRead who a cache pa n
      let t := r.1.getPieces who a cache func rest
      (t.1, ⟨t.2.ready, (r.2.1, true) :: t.2.parts, r.2.2 ++ t.2.bad, t.2.remFail⟩)
    else
      let t := s.getPieces who a cache func rest
      (t.1, { t.2 with ready := false })

/-- Whether every piece's read could end now: lines with homes ready, reads of other nodes done. -/
def State.piecesReady (s : State) (who : List Nat) (a cache : Nat) (ps : List (Nat × Nat)) : Bool :=
  ps.all (fun p => if s.away p.1 then (match s.remFind who p.1 p.2 with
      | some r => decide (r.st ≠ 0)
      | none => false) else s.pieceReady who a false cache p.1 p.2)

/-- Whether every piece could be written now. -/
def State.putReady (s : State) (who : List Nat) (a cache : Nat) (ps : List (Nat × Nat)) : Bool :=
  ps.all (fun p => s.away p.1 || s.pieceReady who a true cache p.1 p.2)

/-- What the lines of a piece that is not ready need first: their homes awake, their chiplet copies snooped, their content read. -/
def State.prepPiece (s : State) (who : List Nat) (a : Nat) (w : Bool) (cache func pa n : Nat) : State :=
  let room := s.rangeWays a cache pa n
  (linePieces (n / 128 + 2) pa n).foldl (fun s p =>
    let l := lineOf p.1
    let s1 := if s.lineReady a w cache l && room then s else s.prepLine a w cache l
    if s1.wantsMem a w (decide (p.2 < 128)) cache l && (s1.remFind who (l * 128) 128).isNone then s1.remIssue who (l * 128) 128 func
    else s1) s

/-- Reads made ready ahead for a requester: those of other nodes issued, lines with homes prepared. -/
def State.openReads (s : State) (who : List Nat) (a cache func : Nat) (ps : List (Nat × Nat)) : State :=
  ps.foldl (fun s p =>
    if s.away p.1 then (if (s.remFind who p.1 p.2).isNone then s.remIssue who p.1 p.2 func else s)
    else s.prepPiece who a false cache func p.1 p.2) s

/-- Writes made ready ahead for a requester. -/
def State.openWrites (s : State) (who : List Nat) (a cache func : Nat) (ps : List (Nat × Nat)) : State :=
  ps.foldl (fun s p => if s.away p.1 then s else s.prepPiece who a true cache func p.1 p.2) s

/-- The tokens of a mover's n requests, as far as there are any (R294). -/
def State.payFor (s : State) (who : List Nat) (a n : Nat) : State :=
  if who.headD 0 = 4 then s else s.tollPay who a (s.classOf who) n

/-- Whole lines of a piece. -/
def wholeLines (pa n : Nat) : List Nat := ((linePieces (n / 128 + 2) pa n).filter (fun p => decide (p.2 = 128))).map (fun p => lineOf p.1)

/-- Pieces written for a requester: lines with homes through them, the rest by their ports; what bad lines answered,
and the nodes whose writes could not be issued. -/
def State.putPieces (s : State) (who : List Nat) (a cache func : Nat) :
    List (Nat × Nat) → List Byte → State × List (Nat × LineRes) × List Nat
  | [], _ => (s, [], [])
  | (pa, n) :: rest, bs =>
    if s.away pa then
      let r := (s.unmark (wholeLines pa n)).remWrite who pa func (bs.take n)
      let t := r.1.putPieces who a cache func rest (bs.drop n)
      (t.1, t.2.1, if r.2 then t.2.2 else remCode pa 7 :: t.2.2)
    else
      let r := s.moverWrite who a cache pa (bs.take n)
      let t := (r.1.echo pa n).putPieces who a cache func rest (bs.drop n)
      (t.1, r.2 ++ t.2.1, t.2.2)

/-- A failed access of another node (remCode) met by a leg or COPY: HOST_ERR for node 14 (R409), MEM_UE for a slip or the
twin. -/
def State.legRemFail (s : State) (p tenant n : Nat) : State :=
  let node := n % 16
  if node = 14 then s.voidPart p 0x47 0x0A (n / 16) 0 (some tenant) none
  else if node = 1 then s.voidPart p 0x42 0x0F 0 0 (some tenant) none
  else s.voidPart p 0x42 0x08 (s.rf (R.slipErr (node - 2)) F.slipErr_CAUSE) (node - 2) (some tenant) none

end Sys2Proof.Machine
end

