-- ==== Sys2Proof/Machine/Rings.lean ====
section
/-! DEFINITION. Rings and the buffer pool (R428 to R449): enabling, doorbells, admission, the descriptors and their
failures, chunks, and completion records. -/

namespace Sys2Proof.Machine

/-! ### A ring's registers by its global number (R428) -/

def ringTen (g : Nat) : Nat := g / 64
def rBase (g : Nat) : Nat := R.ringBase (g / 64) (g % 64)
def rCfg (g : Nat) : Nat := R.ringCfg (g / 64) (g % 64)
def rPtr (g : Nat) : Nat := R.ringPtr (g / 64) (g % 64)
def rStat (g : Nat) : Nat := R.ringStatus (g / 64) (g % 64)

/-- RING_STATUS.STATE: 0 OFF, 1 ON, 2 ERROR, 3 REFUSED, 4 DRAINING. -/
def State.ringState (s : State) (g : Nat) : Nat := s.rf (rStat g) F.ringStatus_STATE

def State.setRing (s : State) (g st cause : Nat) : State :=
  (s.rset (rStat g) F.ringStatus_STATE st).rset (rStat g) F.ringStatus_CAUSE cause

/-- A CMP ring. -/
def State.isCmp (s : State) (g : Nat) : Bool := s.rf (rCfg g) F.ringCfg_TYPE = 1

/-- Entries of a ring: SIZE_LOG held between 6 and 16 (R446). -/
def State.ringLen (s : State) (g : Nat) : Nat := 2 ^ (max 6 (min 16 (s.rf (rCfg g) F.ringCfg_SIZE_LOG)))

/-- Bytes of a ring's entry. -/
def State.entBytes (s : State) (g : Nat) : Nat := if s.isCmp g then 32 else 64

/-- BASE as a virtual address. -/
def State.ringVa (s : State) (g : Nat) : Nat := s.rf (rBase g) F.ringBase_BASE * 64

/-- The CMP ring a SUB ring names. -/
def State.cmpOf (s : State) (g : Nat) : Nat := g / 64 * 64 + s.rf (rCfg g) F.ringCfg_CMPR

/-- BQUOTA held between 2 and 4,096; DQUOTA, of which 0 acts as 1 (R446). -/
def State.bquota (s : State) (g : Nat) : Nat := max 2 (min 4096 (s.rf (rCfg g) F.ringCfg_BQUOTA))
def State.dquota (s : State) (g : Nat) : Nat := max 1 (s.rf (rCfg g) F.ringCfg_DQUOTA)

/-- BUF_SIZE and the buffers of the pool (R448). -/
def State.bufSize (s : State) : Nat := 2 ^ s.rf R.qPool F.qPool_BUF_LOG
def State.bufs (s : State) : Nat := s.rf R.qPool F.qPool_BUFS

/-- Changes of the ring structure. -/
def State.setRings (s : State) (r : RingSt) : State := { s with rings := r }

/-- A number put into a rising list once. -/
def insSorted : List Nat → Nat → List Nat
  | [], x => [x]
  | y :: ys, x => if x < y then x :: y :: ys else if x = y then y :: ys else y :: insSorted ys x

/-- Q_POOL_USE and Q_VCTX show what is held (R448). -/
def State.showPool (s : State) : State :=
  let res := 2 * s.rings.live.length
  let extra := (s.rings.live.map (fun g =>
    mgetD s.rings.grants g 0 + (s.rings.chunks.filter (fun c => c.ring = g)).length - 2)).sum
  ((s.rset R.qPoolUse F.qPoolUse_RESERVED res).rset R.qPoolUse F.qPoolUse_FREE (s.bufs - res - extra)).rset R.qVctx
    F.qVctx_USED (s.rings.ctxs.filter (fun c => !c.noVctx)).length

/-- The layout of Q_ERR. -/
def capQ : CapFlds := ⟨F.qErr_SAIL_LO, F.qErr_VALID, F.qErr_CAUSE, F.qErr_COUNT⟩

/-- A ring fault or refusal captured (R449). -/
def State.qCap (s : State) (g cause : Nat) : State :=
  let s1 := s.captureAt R.qErr capQ cause
  if s.captured R.qErr capQ then s1 else { s1 with regs := mput s1.regs R.qErr (fset (s1.rv R.qErr) F.qErr_RING g) }

/-! ### Enabling (R429, R430) -/

/-- The first condition of R429 that fails. -/
def State.refusal (s : State) (g : Nat) : Option Nat :=
  let c := s.cmpOf g
  if s.ringVa g % (s.entBytes g * s.ringLen g) ≠ 0 then some 1
  else if !(s.isCmp g) && !(s.isCmp c && decide (s.ringState c = 1)) then some 2
  else if s.bufs < 2 * s.rings.live.length + 2 then some 3
  else if s.torn (ringTen g) then some 4
  else none

/-- A ring checked and put in force, or refused. -/
def State.enableRing (s : State) (g : Nat) : State :=
  match s.refusal g with
  | some c => (s.setRing g 3 c).qCap g c
  | none =>
    let s1 := (s.setRing g 1 0).rput (rPtr g) 0
    s1.setRings { s1.rings with
      live := insSorted s1.rings.live g, caught := mdel s1.rings.caught g, promised := mdel s1.rings.promised g }

/-- A ring that reaches OFF gives its reserve back. -/
def State.ringOff (s : State) (g : Nat) : State :=
  (s.setRing g 0 0).setRings { s.rings with live := nrem s.rings.live g, grants := mdel s.rings.grants g }

/-- Admitted descriptors of a ring that have not completed. -/
def State.outOf (s : State) (g : Nat) : Nat := (s.rings.ctxs.filter (fun c => c.ring = g)).length

/-- EN = 0 in force: a SUB ring with work drains; a held enable is cancelled. -/
def State.disableRing (s : State) (g : Nat) : State :=
  let s1 := s.setRings { s.rings with held := nrem s.rings.held g }
  match s.ringState g with
  | 0 => s1
  | 3 => s1.setRing g 0 0
  | 4 => s1
  | _ => if !(s.isCmp g) && decide (s.outOf g > 0) then s1.setRing g 4 0 else s1.ringOff g

/-- EN = 1 in force: no effect while ON or in ERROR, held while DRAINING (R429, R430). -/
def State.applyEn (s : State) (g : Nat) : State :=
  match s.ringState g with
  | 0 => s.enableRing g
  | 3 => s.enableRing g
  | 4 => s.setRings { s.rings with held := insSorted s.rings.held g }
  | _ => s

/-- RING_ENABLE_CHECK (R429): rings whose EN transferred at this I0, disables first, then held and new enables, CMP rings
before SUB rings, each in ascending number. -/
def State.ringEnables (s : State) (gs : List Nat) : State :=
  let off := gs.filter (fun g => s.rf (rCfg g) F.ringCfg_EN = 0)
  let s1 := off.foldl (fun s g => s.disableRing g) s
  let ready := s1.rings.held.filter (fun g => decide (s1.ringState g = 0))
  let s2 := s1.setRings { s1.rings with held := s1.rings.held.filter (fun g => !(ready.contains g)) }
  let on := (gs.filter (fun g => s.rf (rCfg g) F.ringCfg_EN = 1) ++ ready).foldl insSorted []
  let s3 := (on.filter s2.isCmp).foldl (fun s g => s.applyEn g) s2
  ((on.filter (fun g => !(s2.isCmp g))).foldl (fun s g => s.applyEn g) s3).showPool

/-! ### Doorbells (R431, R33) -/

/-- A doorbell accepted: shown in RING_PTR and kept for the boundary; one to a ring that is not ON, or of a shadow, is
ignored and counted. half 2 is the upper half, which carries no index. -/
def State.doorbell (s : State) (tenant ring half value : Nat) : State :=
  let g := tenant * 64 + ring
  let v := value % 2 ^ 32
  if half = 2 ∨ ring ≥ 64 ∨ tenant ≥ 4096 then s
  else if (s.partOf tenant).any (fun p => (s.part p).reset) then (s.radd R.pciCnt F.pciCnt_PRST 1)
  else if s.twinRole = 2 then (s.radd R.twinCnt F.twinCnt_IGNORED 1)
  else if s.ringState g ≠ 1 ∨ bitsOf (s.rv (R.salTdi (tenant / 32))).toNat (2 * (tenant % 32)) 2 = 1 then (s.raddOpen R.qCnt F.qCnt_DB_IGNORED 1)
  else
    ((s.rset (rPtr g) (if s.isCmp g then F.ringPtr_HEAD else F.ringPtr_TAIL) v).setRings
      { s.rings with db := mput s.rings.db g v })

/-- DOORBELL_CAPTURE: the boundary fixes the indices sampled at the next I3. -/
def State.captureDoorbells (s : State) : State :=
  s.setRings { s.rings with caught := s.rings.db.foldl (fun m p => mput m p.1 p.2) s.rings.caught, db := [] }

/-! ### Admission (R432, R433) -/

/-- RING_OVERFLOW (R432). -/
def State.ringError (s : State) (g : Nat) : State := (s.setRing g 2 5).qCap g 5

/-- A SUB ring's captured tail beyond its entries, or a CMP ring's captured head beyond the hub's tail. -/
def State.overflowed (s : State) (g : Nat) : Bool :=
  match mget s.rings.caught g with
  | some v =>
    if s.isCmp g then
      let d := (v + 2 ^ 32 - s.rf (rPtr g) F.ringPtr_TAIL) % 2 ^ 32
      decide (0 < d) && decide (d < 2 ^ 31)
    else decide ((v + 2 ^ 32 - s.rf (rPtr g) F.ringPtr_HEAD) % 2 ^ 32 > s.ringLen g)
  | none => false

/-- Voyage contexts of the hub (R48). -/
def vctxLimit : Nat := 16384

/-- The partition of a ring's tenant; 64 where it has none. -/
def State.ringPart (s : State) (g : Nat) : Nat := (s.partOf (ringTen g)).getD 64

/-- A fresh context. -/
def Ctx.admitted (ring didx sail : Nat) (noVctx : Bool) : Ctx :=
  ⟨ring, didx, sail, noVctx, false, 0, false, false, 0, false, sail, none, 0, 0, 0, 0, [], 0, 0, 0, 0, [], false, false,
   none, false, 0, 0, 0, 0, none, false, 0, 0, 0, 0, 0, 0, [], 0, []⟩

/-- RING_STATUS.OUT shows a ring's work. -/
def State.showOut (s : State) (g : Nat) : State := s.rset (rStat g) F.ringStatus_OUT (s.outOf g)

/-- One descriptor admitted: a CMP entry promised, a voyage context taken while one is free. -/
def State.admitOne (s : State) (g : Nat) : State :=
  let h := s.rf (rPtr g) F.ringPtr_HEAD
  let c := s.cmpOf g
  let full := decide ((s.rings.ctxs.filter (fun x => !x.noVctx)).length ≥ vctxLimit)
  let s1 := s.setRings { s.rings with
    ctxs := s.rings.ctxs ++ [Ctx.admitted g h (s.sailNo (s.ringPart g)) full],
    promised := mput s.rings.promised c (mgetD s.rings.promised c 0 + 1) }
  s1.rset (rPtr g) F.ringPtr_HEAD ((h + 1) % 2 ^ 32)

def State.admitN (s : State) (g : Nat) : Nat → State
  | 0 => s
  | n + 1 => (s.admitOne g).admitN g n

/-- Descriptors a SUB ring may take in now: the least of DQUOTA, the entries rung, the free entries not promised. -/
def State.admissible (s : State) (g : Nat) : Nat :=
  let c := s.cmpOf g
  let avail := (mgetD s.rings.caught g 0 + 2 ^ 32 - s.rf (rPtr g) F.ringPtr_HEAD) % 2 ^ 32
  let used := (s.rf (rPtr c) F.ringPtr_TAIL + 2 ^ 32 - mgetD s.rings.caught c 0) % 2 ^ 32
  min (s.dquota g) (min avail (s.ringLen c - used - mgetD s.rings.promised c 0))

/-- A ring admits: not in a partition held for its resynchronisation (R534) or a paired partition of a shadow, which
admits what ADMIT lists (R537). -/
def State.admitRing (s : State) (g : Nat) : State :=
  let p := (s.partOf (ringTen g)).getD 64
  let n := if s.twin.drain.contains p ∨ s.steppedDown p = true ∨ s.fed (ringTen g + 1) = true ∨ (s.twin.hold = true ∧ s.twinPart p = 2) then 0
    else s.admissible g
  let h := s.rf (rPtr g) F.ringPtr_HEAD
  let s1 := (s.admitN g n).showOut g
  if n = 0 then s1 else s1.ferry 2 p g (leBytes 4 h ++ leBytes 4 n)

/-- A shadow admits what the ferry's ADMIT entries list, each from its first index (R537). -/
def State.admitFerry (s : State) : State :=
  match s.twin.running with
  | some f => (f.entries.filter (fun e => decide (e.typ = 2) && s.shadowed e.part)).foldl (fun s e =>
      ((s.rset (rPtr e.key) F.ringPtr_HEAD (leAt e.data 0 4)).admitN e.key (leAt e.data 4 4)).showOut e.key) s
  | none => s

/-- I3's admission: overflow checks, then every SUB ring that is ON in ascending number. A hub that is FATAL admits
nothing. -/
def State.admitAll (s : State) : State :=
  if s.err.fatal then s
  else
    let s1 := s.rings.live.foldl (fun s g => if s.ringState g = 1 && s.overflowed g then s.ringError g else s) s
    ((s1.rings.live.filter (fun g => decide (s1.ringState g = 1) && !(s1.isCmp g))).foldl (fun s g => s.admitRing g) s1).admitFerry.showPool

/-! ### Contexts -/

def State.ctxOf (s : State) (ring didx : Nat) : Option Ctx :=
  s.rings.ctxs.find? (fun c => decide (c.ring = ring) && decide (c.didx = didx))

def State.setCtx (s : State) (c : Ctx) : State :=
  s.setRings { s.rings with ctxs := s.rings.ctxs.map (fun x => if x.ring = c.ring ∧ x.didx = c.didx then c else x) }

/-- Chunks not yet filled of a descriptor that has ended leave their buffers. -/
def State.dropChunks (s : State) (ring didx : Nat) : State :=
  (s.setRings { s.rings with
    chunks := s.rings.chunks.filter (fun c => !(decide (c.ring = ring) && decide (c.didx = didx) && !c.filled)),
    kept := s.rings.kept.filter (fun k => !(decide (k.who = [3, ring, didx]) && !k.wr)) }).remDrop
    (fun r => decide (r.who = [3, ring, didx]))

/-- A descriptor ends with a status and a detail in this sailing. -/
def State.ctxEnd (s : State) (c : Ctx) (status detail : Nat) : State :=
  (s.setCtx { c with done := some (status, detail), doneSail := s.sail }).dropChunks c.ring c.didx

/-- Statuses and details (R444). -/
def stOk : Nat := 0
def stVoided : Nat := 1
def stOverrun : Nat := 2
def stFault : Nat := 3
def stRejected : Nat := 4
def stAborted : Nat := 5
def stReset : Nat := 6

/-- A descriptor ends by a failure of R436, captured as FETCH. -/
def State.ctxFail (s : State) (c : Ctx) (status detail : Nat) : State := (s.ctxEnd c status detail).qCap c.ring 0x10

/-! ### Reads and writes of a tenant's memory for a ring (R428, R436) -/

/-- The requester identity of ring DMA at the homes (R251). -/
def ringAgentId : Nat := 72

/-- What a ring DMA read gave. -/
inductive DmaRes where
  | ok (data : List Byte)
  | wait
  | fail (status detail : Nat)
  deriving DecidableEq, Repr

/-- A bad line met by ring DMA: what it does to the partition, and the void cause the descriptor completes with. -/
def State.ringBad (s : State) (tenant : Nat) (x : Nat × LineRes) : State × Nat :=
  let h := s.homeOf (x.1 * 128)
  match x.2 with
  | .ue b c => (s.memUe x.1 b c h (some tenant), 0x42)
  | .fenced => ((s.fencedCap x.1).voidFor (some tenant) 0x44 0x04 0x07 (s.vaultOf (x.1 * 128)).1 (some (x.1 * 128)), 0x44)
  | .lost => (s, 0x45)
  | _ => (s, 0x43)

/-- The outcome of bad lines: the first one's cause ends the descriptor VOIDED. -/
def State.ringBads (s : State) (tenant : Nat) (l : List (Nat × LineRes)) : State × Option Nat :=
  l.foldl (fun p x =>
    let r := p.1.ringBad tenant x
    (r.1, match p.2 with
      | some c => some c
      | none => some r.2)) (s, none)

/-- The tenant a kept access is for. -/
def DmaKept.tenant (k : DmaKept) : Nat := if k.who.headD 0 = 6 then k.who.getD 1 0 else ringTen (k.who.getD 1 0)

/-- The translations kept of an access under way (R228). -/
def State.keptOf (s : State) (who : List Nat) (wr : Bool) (ranges : List (Nat × Nat)) : Option DmaKept :=
  s.rings.kept.find? (fun k => decide (k.who = who) && decide (k.wr = wr) && decide (k.ranges = ranges))

/-- An access has ended: its translations go. -/
def State.unkeep (s : State) (who : List Nat) (wr : Bool) (ranges : List (Nat × Nat)) : State :=
  s.setRings { s.rings with
    kept := s.rings.kept.filter (fun k => !(decide (k.who = who) && decide (k.wr = wr) && decide (k.ranges = ranges))) }

/-- The ranges of a ring's access translated once, as it is issued; the pieces are kept until it ends. -/
def State.dmaXlate (s : State) (who : List Nat) (wr : Bool) (tenant : Nat) (ranges : List (Nat × Nat)) : State × FpRes :=
  match s.keptOf who wr ranges with
  | some k => (s, ⟨k.pas, [], [], false⟩)
  | none =>
    let f := s.footprint ringCache (s.classOf who) tenant (if wr then .wr else .rd) (ranges.flatMap (fun r => piecesOf r.1 r.2))
    if f.2.wait ∨ f.2.fails ≠ [] then f
    else (f.1.setRings { f.1.rings with kept := f.1.rings.kept ++ [⟨who, wr, ranges, f.2.pas⟩] }, f.2)

/-- n bytes of a tenant's virtual memory read for ring DMA: translated, marks checked (R527), other nodes through their
ports, its toll paid (R294). -/
def State.dmaRead (s : State) (who : List Nat) (tenant : Nat) (ranges : List (Nat × Nat)) : State × DmaRes :=
  let f := s.dmaXlate who false tenant ranges
  let n := f.1.linesNew ringAgentId f.2.pas
  if f.2.wait then (f.1, .wait)
  else if f.2.fails ≠ [] then (f.1.pageFails tenant f.2.fails none false, .fail stFault 0x26)
  else if ranges.any (fun r => f.1.isMarked tenant r.1 r.2) then (f.1.unkeep who false ranges, .fail stVoided 0x43)
  else if f.1.piecesReady who ringAgentId 1 f.2.pas && f.1.tollOk who ringAgentId n then
    let g := ((f.1.unkeep who false ranges).chargeFor who ringAgentId n).getPieces who ringAgentId 1 (tenant + 1) f.2.pas
    let b := g.1.ringBads tenant g.2.bad
    match b.2 with
    | some c => (b.1, .fail stVoided c)
    | none =>
      match g.2.remFail with
      | [] => (b.1, .ok g.2.data)
      | n :: _ => if n % 16 = 14 then (b.1, .fail stFault 0x25)
        else (b.1.legRemFail ((s.partOf tenant).getD 64) tenant n, .fail stVoided 0x42)
  else ((f.1.openReads who ringAgentId 1 (tenant + 1) f.2.pas).payFor who ringAgentId n, .wait)

/-- Bytes written to a tenant's virtual memory for ring DMA; .wait while a line is busy, a walk or a toll waits. -/
def State.dmaWrite (s : State) (who : List Nat) (tenant : Nat) (ranges : List (Nat × Nat)) (bs : List Byte) :
    State × DmaRes :=
  let f := s.dmaXlate who true tenant ranges
  let n := f.1.linesNew ringAgentId f.2.pas
  if f.2.wait then (f.1, .wait)
  else if f.2.fails ≠ [] then (f.1.pageFails tenant f.2.fails none true, .fail stFault 0x26)
  else if f.1.putReady who ringAgentId 1 f.2.pas && f.1.tollOk who ringAgentId n then
    let g := ((f.1.unkeep who true ranges).chargeFor who ringAgentId n).putPieces who ringAgentId 1 (tenant + 1) f.2.pas bs
    let b := g.1.ringBads tenant g.2.1
    match b.2 with
    | some c => (b.1, .fail stVoided c)
    | none =>
      match g.2.2 with
      | [] => (b.1, .ok [])
      | n :: _ => if n % 16 = 14 then (b.1, .fail stFault 0x25)
        else (b.1.legRemFail ((s.partOf tenant).getD 64) tenant n, .fail stVoided 0x42)
  else ((f.1.openWrites who ringAgentId 1 (tenant + 1) f.2.pas).payFor who ringAgentId n, .wait)

/-! ### The fetch of a descriptor (R433, R434, R436) -/

/-- The virtual address of an entry of a ring. -/
def State.entVa (s : State) (g idx : Nat) : Nat := s.ringVa g + s.entBytes g * (idx % s.ringLen g)

/-- Whether the 64 bytes carry an OP of the table, and whether every reserved bit is 0 (R434). -/
def descOpOk (b : List Byte) : Bool := decide (1 ≤ leAt b 0 1) && decide (leAt b 0 1 ≤ 4)

/-- A 64-bit argument or address whose bits [63:56] are 0. -/
def argOk (a : Nat) : Bool := decide (a < 2 ^ 56)

def descFieldsOk (b : List Byte) : Bool :=
  decide (leAt b 1 1 < 4) &&
  match leAt b 0 1 with
  | 1 => decide (leAt b 6 1 < 8) && zeros b 7 1 && argOk (leAt b 16 8) && argOk (leAt b 24 8) &&
      (List.range 4).all (fun i => argOk (leAt b (32 + 8 * i) 8))
  | 2 => decide (leAt b 4 1 < 2) && zeros b 5 3 && zeros b 24 40 && argOk (leAt b 8 8) && decide (leAt b 8 8 % 64 = 0) &&
      argOk (leAt b 16 8) && decide (leAt b 16 8 ≠ 0)
  | 3 => zeros b 6 2 && argOk (leAt b 8 8) && decide (leAt b 8 8 % 64 = 0) && zeros b 20 44
  | 4 => decide (leAt b 4 1 < 64) && zeros b 5 1 && zeros b 8 56
  | _ => true

/-- A context with what its descriptor says. -/
def Ctx.loaded (c : Ctx) (b : List Byte) : Ctx :=
  let op := leAt b 0 1
  { c with
    fetched := true, op := op, fence := bitOf (leAt b 1 1) 0, notify := bitOf (leAt b 1 1) 1, utag := leAt b 2 2,
    vclass := leAt b 4 2, stg := leAt b 6 1 % 8, seed := leAt b 8 8, sgl := leAt b 16 8, argx := leAt b 24 8,
    args := (List.range 4).map (fun i => leAt b (32 + 8 * i) 8) ++ [0, 0, 0, 0],
    dir := leAt b 4 1 % 2, hva := leAt b 8 8,
    index := leAt b (if op = 4 then 6 else 4) 2, img := leAt b 8 8, len := leAt b 16 4,
    cur := if op = 3 then some (leAt b 8 8, leAt b 16 4) else none,
    listEnd := decide (op = 3) || (decide (op = 1) && decide (leAt b 16 8 = 0)),
    ents := leAt b 16 8 }

/-- The fetch of an admitted descriptor; one without a voyage context only has its header read (R433). -/
def State.fetchDesc (s : State) (c : Ctx) : State :=
  let t := ringTen c.ring
  let n := if c.noVctx then 8 else 64
  match s.dmaRead [3, c.ring, c.didx] t [(s.entVa c.ring c.didx, n)] with
  | (s1, .wait) => s1
  | (s1, .fail st d) => s1.ctxFail { c with fetched := true } st d
  | (s1, .ok b) =>
    if c.noVctx then
      s1.ctxFail { c with fetched := true, notify := bitOf (leAt b 1 1) 1, utag := leAt b 2 2 } stRejected 0x22
    else
      let c1 := c.loaded b
      if !(descOpOk b) then s1.ctxFail c1 stRejected 0x20
      else if !(descFieldsOk b) then s1.ctxFail c1 stRejected 0x21
      else s1.setCtx c1

/-- Every earlier descriptor of the ring has completed (R439). -/
def State.fenceClear (s : State) (c : Ctx) : Bool :=
  !(s.rings.ctxs.any (fun x => decide (x.ring = c.ring) && decide (x.admitSail ≤ c.admitSail) &&
    decide ((c.didx + 2 ^ 32 - x.didx) % 2 ^ 32 ≠ 0) && decide ((c.didx + 2 ^ 32 - x.didx) % 2 ^ 32 < 2 ^ 31)))

/-- A descriptor past its fence: a lead counts from the sailing of the last completion waited for. -/
def Ctx.begin (c : Ctx) : Ctx := { c with started := true, from_ := if c.fence then max c.admitSail c.from_ else c.admitSail }

/-- A RUN past its fence reads its ARGX block: 32 bytes, bits [63:56] of each argument 0. -/
def State.startRun (s : State) (c : Ctx) : State :=
  if c.argx = 0 then s.setCtx c.begin
  else
    match s.dmaRead [3, c.ring, c.didx] (ringTen c.ring) [(c.argx, 32)] with
    | (s1, .wait) => s1
    | (s1, .fail st d) => s1.ctxFail c st d
    | (s1, .ok b) =>
      let xs := (List.range 4).map (fun i => leAt b (8 * i) 8)
      if xs.all argOk then s1.setCtx ({ c with args := c.args.take 4 ++ xs, argx := 0 }.begin)
      else s1.ctxFail c stRejected 0x21

/-! ### Scatter lists and chunks (R435, R437, R438) -/

/-- A descriptor with bytes still to be put into chunks: past its fence, not ended, its list not exhausted. -/
def Ctx.hungry (c : Ctx) : Bool :=
  c.started && c.done.isNone && decide (c.op ≤ 3) && (decide (c.op = 3) || decide (c.sgl ≠ 0)) &&
    (!c.listEnd || (match c.cur with
      | some (_, n) => decide (n > 0)
      | none => false))

/-- The next entry of a list read and checked (R435): none while it waits; the context with the entry in hand, or its
failure. -/
def State.nextEntry (s : State) (c : Ctx) : State × Option (Except (Nat × Nat) Ctx) :=
  if c.sgl % 64 ≠ 0 ∨ (c.ents - c.sgl) / 16 ≥ 65536 then (s, some (.error (stRejected, 0x24)))
  else
    match s.dmaRead [3, c.ring, c.didx] (ringTen c.ring) [(c.ents, 16)] with
    | (s1, .wait) => (s1, none)
    | (s1, .fail st d) => (s1, some (.error (st, d)))
    | (s1, .ok b) =>
      let a := leAt b 0 8
      let n := leAt b 8 4
      if n < 64 ∨ n % 64 ≠ 0 ∨ leAt b 12 1 ≥ 2 ∨ zeros b 13 3 = false ∨ c.total + n > 2 ^ 28 ∨ argOk a = false ∨ a % 64 ≠ 0 then
        (s1, some (.error (stRejected, 0x24)))
      else (s1, some (.ok { c with cur := some (a, n), ents := c.ents + 16, total := c.total + n, listEnd := decide (leAt b 12 1 = 1) }))

/-- The pieces of the next chunk in list order: those gathered, and the context after them; the list may still wait. -/
def State.gather (s : State) (c : Ctx) (room : Nat) (acc : List (Nat × Nat)) : Nat → State × Ctx × Option (Except (Nat × Nat) (List (Nat × Nat)))
  | 0 => (s, c, some (.ok acc))
  | f + 1 =>
    if room = 0 then (s, c, some (.ok acc))
    else match c.cur with
      | some (a, n) =>
        if n = 0 then
          if c.listEnd then (s, c, some (.ok acc)) else s.gather { c with cur := none } room acc f
        else
          let k := min n room
          s.gather { c with cur := some (a + k, n - k) } (room - k) (acc ++ [(a, k)]) f
      | none =>
        if c.listEnd then (s, c, some (.ok acc))
        else match s.nextEntry c with
          | (s1, none) => (s1, c, none)
          | (s1, some (.error e)) => (s1, c, some (.error e))
          | (s1, some (.ok c1)) => s1.gather c1 room acc f

/-- Bytes of a list of pieces. -/
def piecesLen (l : List (Nat × Nat)) : Nat := (l.map (·.2)).sum

/-- The lowest buffer number of a ring that is free. -/
def State.freeBuf (s : State) (g : Nat) : Nat :=
  let used := (s.rings.chunks.filter (fun c => c.ring = g)).map (·.buf)
  ((List.range (used.length + 1)).find? (fun b => !(used.contains b))).getD 0

/-- The lowest buffer of the pool that no chunk is in (R437). -/
def State.freeSlot (s : State) : Nat :=
  let used := s.rings.chunks.map (·.slot)
  ((List.range (used.length + 1)).find? (fun b => !(used.contains b))).getD 0

/-- The address of a buffer of the pool: the first part of the LLC-reserved range (R213, R437). -/
def State.poolAt (s : State) (slot : Nat) : Nat := resvBase + slot * s.bufSize

/-- Bytes put in a buffer of the pool, and the bytes a chunk's buffer holds. -/
def State.poolPut (s : State) (slot : Nat) (bs : List Byte) : State := { s with mem := cellsWrite s.mem (s.poolAt slot) bs }
def State.poolGet (s : State) (c : Chunk) : List Byte := cellsRead s.mem (s.poolAt c.slot) c.len

/-- The hub-side range of a transfer's chunk: HVA, or the address a RUN's argument holds. -/
def Ctx.hubSide (c : Ctx) : Nat := if c.op = 2 then c.hva else c.args.getD c.stg 0

/-- One chunk of ring g put into a buffer, taken from the first descriptor with bytes left; the flag says whether
another might follow. -/
def State.startChunk (s : State) (g : Nat) : State × Bool :=
  if mgetD s.rings.grants g 0 = 0 then (s, false)
  else match s.rings.ctxs.find? (fun c => decide (c.ring = g) && c.hungry) with
    | none => (s, false)
    | some c =>
      match s.gather c s.bufSize [] (s.bufSize / 32 + 4) with
      | (s1, _, none) => (s1, false)
      | (s1, c1, some (.error e)) => (s1.ctxFail c1 e.1 e.2, true)
      | (s1, c1, some (.ok ps)) =>
        let n := piecesLen ps
        let hub := [(c.hubSide + c.moved, n)]
        let io := if c.op = 3 then (ps, []) else if c.op = 2 ∧ c.dir = 1 then (hub, ps) else (ps, hub)
        let s2 := s1.setCtx { c1 with moved := c.moved + n }
        (s2.setRings { s2.rings with
          chunks := s2.rings.chunks ++ [⟨g, s2.freeBuf g, c.didx, io.1, io.2, 0, false, false, s2.freeSlot, c.moved⟩],
          grants := mput s2.rings.grants g (mgetD s2.rings.grants g 0 - 1) }, true)

def State.startChunksN (s : State) (g : Nat) : Nat → State
  | 0 => s
  | f + 1 =>
    let r := s.startChunk g
    if r.2 then r.1.startChunksN g f else r.1

/-- Chunks of ring g started while buffers are granted, in RUN. -/
def State.startChunks (s : State) (g : Nat) : State :=
  if s.time.stage = .run ∧ s.err.fatal = false ∧ s.twin.hold = false then s.startChunksN g 4097 else s

/-- Grants of an I3 (R442): each SUB ring with work its reserve, then up to BQUOTA − 2 more in ascending number from the
unreserved buffers; a buffer that kept its chunk counts against its ring's grant (R437). -/
def State.grantAll (s : State) : State :=
  let work := s.rings.live.filter (fun g => !(s.isCmp g) && s.rings.ctxs.any (fun c => decide (c.ring = g) &&
    c.done.isNone && (!c.fetched || !c.started || c.hungry)))
  let kept (g : Nat) : Nat := (s.rings.chunks.filter (fun c => c.ring = g)).length
  let base := s.bufs - 2 * s.rings.live.length - ((s.rings.live.map (fun g => kept g - 2)).sum)
  let r := work.foldl (fun (p : NMap Nat × Nat) g =>
    let more := min (s.bquota g - max 2 (kept g)) p.2
    (mput p.1 g ((2 - kept g) + more), p.2 - more)) ([], base)
  (s.setRings { s.rings with grants := r.1 }).showPool

/-! ### The descriptor commands -/

/-- What every DESC row does first: in RUN, the fetch where the descriptor was not fetched yet. -/
def State.descFetch (s : State) (ring didx : Nat) : State :=
  match s.ctxOf ring didx with
  | some c => if c.fetched ∨ c.done.isSome ∨ s.time.stage ≠ .run then s else s.fetchDesc c
  | none => s

/-- A fetched descriptor of an OP that has not ended and is not yet past its fence, acted on; one past it goes on with its
list and its chunks. -/
def State.descDo (s : State) (ring didx op : Nat) (f : State → Ctx → State) : State :=
  let s1 := s.descFetch ring didx
  match s1.ctxOf ring didx with
  | some c =>
    if c.fetched ∧ c.op = op ∧ c.done.isNone ∧ s1.time.stage = .run then
      (if c.started then s1.startChunks ring else f s1 c)
    else s1
  | none => s1

/-- DESC_RUN: a voyage starts with its arguments and staging (R434, R439). -/
def execDescRun (ring didx : Nat) (s : State) : Host.Outcome State Fault Refusal :=
  .next (s.descDo ring didx 1 (fun s c =>
    if c.fence && !(s.fenceClear c) then s else (s.startRun c).startChunks ring))

/-- DESC_XFER (R434). -/
def execDescXfer (ring didx : Nat) (s : State) : Host.Outcome State Fault Refusal :=
  .next (s.descDo ring didx 2 (fun s c =>
    if c.fence && !(s.fenceClear c) then s else (s.setCtx c.begin).startChunks ring))

/-- A LOAD_PROG of a length that no image can have: its first bytes are read, since a wrong MAGIC or VERSION has the lower
code (R140). DESIGN CHOICE (log 203): bytes of MAGIC and VERSION that so short a LEN leaves out count as 0, a wrong MAGIC. -/
def State.loadSize (s : State) (c : Ctx) : State :=
  match s.dmaRead [3, c.ring, c.didx] (ringTen c.ring) (if c.len = 0 then [] else [(c.hva, min c.len 8)]) with
  | (s1, .wait) => s1
  | (s1, .fail st d) => s1.ctxFail c st d
  | (s1, .ok b) =>
    let h := imgHdr (b ++ List.replicate 128 0)
    s1.ctxFail c stRejected (if h.magic ≠ jleg ∨ h.version ≠ 1 then 1 else 2)

/-- DESC_LOAD_PROG: the image is fetched through the pool (R438) and then checked (R140). A length that no image can have
is refused at once. -/
def execDescLoadProg (ring didx : Nat) (s : State) : Host.Outcome State Fault Refusal :=
  .next (s.descDo ring didx 3 (fun s c =>
    if c.fence && !(s.fenceClear c) then s
    else if c.len < 128 ∨ c.len > 265600 then s.loadSize c
    else (s.setCtx c.begin).startChunks ring))

/-- The leg of a voyage taken from its TE, and its legs not started dropped (R443). -/
def TeSt.withoutVoyage (t : TeSt) (ring didx : Nat) : TeSt :=
  { t with
    plan := t.plan.map (fun e => if e.voyage = some (ring, didx) then { e with blocked := true } else e),
    run := t.run.filter (fun r => !(decide (r.ring = ring) && decide (r.didx = didx))),
    tail := t.tail ++ (match t.run with
      | some r => if r.ring = ring ∧ r.didx = didx then r.movs else []
      | none => []) }

/-- The target of an ABORT: the earliest admitted descriptor of the tenant that TRING and TUTAG name and that has not
completed (R443). -/
def State.abortTarget (s : State) (c : Ctx) : Option Ctx :=
  let g := c.ring / 64 * 64 + c.vclass % 256
  s.rings.ctxs.find? (fun x => decide (x.ring = g) && x.fetched && decide (x.utag = c.index) && !(decide (x.ring = c.ring) && decide (x.didx = c.didx)))

/-- DESC_ABORT (R443): the target ends ABORTED; its voyage runs no step, its transfer moves no further chunk, and an image of it that
has passed its checks is discarded (R141). -/
def execDescAbort (ring didx : Nat) (s : State) : Host.Outcome State Fault Refusal :=
  .next (s.descDo ring didx 4 (fun s c =>
    match s.abortTarget c with
    | some x =>
      let s1 := s.ctxEnd x stAborted 0
      let s0 := s1.legsCut (fun r => decide (r.ring = x.ring) && decide (r.didx = x.didx))
      let s2 : State := { s0 with
        te := s0.te.map (fun p => (p.1, p.2.withoutVoyage x.ring x.didx))
        loads := s0.loads.filter (fun l => !(decide (l.ring = x.ring) && decide (l.didx = x.didx))) }
      s2.setCtx { c with started := true, done := some (stOk, 0), doneSail := s.sail }
    | none => s.setCtx { c with started := true, done := some (stRejected, 0x23), doneSail := s.sail }))

/-! ### Chunks -/

def State.chunkOf (s : State) (ring buf : Nat) : Option Chunk :=
  s.rings.chunks.find? (fun c => decide (c.ring = ring) && decide (c.buf = buf))

def State.setChunk (s : State) (c : Chunk) : State :=
  s.setRings { s.rings with chunks := s.rings.chunks.map (fun x => if x.ring = c.ring ∧ x.buf = c.buf then c else x) }

def State.delChunk (s : State) (c : Chunk) : State :=
  s.setRings { s.rings with chunks := s.rings.chunks.filter (fun x => !(decide (x.ring = c.ring) && decide (x.buf = c.buf))) }

/-- The transfer of a chunk fails: its descriptor ends, its buffer is free. -/
def State.chunkFail (s : State) (c : Chunk) (st d : Nat) : State :=
  let s1 := s.delChunk c
  match s1.ctxOf c.ring c.didx with
  | some x => if x.done.isSome then s1 else s1.ctxFail x st d
  | none => s1

/-- A chunk's fill may go on now: in RUN, or with every request of it issued before QUIET (R37, R437). -/
def State.fillGoes (s : State) (c : Chunk) : Bool :=
  decide (s.time.stage = .run) || (s.keptOf [3, c.ring, c.didx] false c.src).isSome

/-- A buffer's fill completes from its source (R437). New fills are not issued in QUIET (R37). -/
def execChunkFillDone (ring buf : Nat) (s : State) : Host.Outcome State Fault Refusal :=
  match s.chunkOf ring buf with
  | some c =>
    if c.filled || !(s.fillGoes c) then .next s
    else
      match s.dmaRead [3, ring, c.didx] (ringTen ring) c.src with
      | (s1, .wait) => .next s1
      | (s1, .fail st d) => .next (s1.chunkFail c st d)
      | (s1, .ok b) => .next (((s1.poolPut c.slot b).setChunk { c with len := b.length, filled := true }).startChunks ring)
  | none => .next s

/-- A LOAD_PROG whose image has come: checked, and kept for the I0 that binds it, or rejected with the lowest code. -/
def State.finishLoad (s : State) (c : Ctx) : State :=
  let t := ringTen c.ring
  let r := s.loadCheck t c.index c.image
  match lowestCode r.1 with
  | some code => s.ctxEnd c stRejected code
  | none =>
    let s1 : State := { s with loads := s.loads ++ [⟨c.index, r.2, c.ring, c.didx, false⟩] }
    s1.ctxEnd c stOk 0

/-- Bytes laid over a byte string at an offset. -/
def bytesAt (l : List Byte) (off : Nat) (b : List Byte) : List Byte :=
  (l ++ List.replicate (off - l.length) 0).take off ++ b ++ l.drop (off + b.length)

/-- What a drained chunk means for its descriptor: bytes moved, an image's at the chunk's place in it, and its end once the list is exhausted and all has become
observable (R439); the staging of a RUN is complete instead. -/
def State.drained (s : State) (c : Chunk) : State :=
  match s.ctxOf c.ring c.didx with
  | none => s
  | some x =>
    if x.done.isSome then s
    else
      let n := c.len
      let x1 := { x with
        drained := x.drained + n,
        image := if x.op = 3 then bytesAt x.image c.off (s.poolGet c) else x.image,
        lastMove := s.sail,
        lastDst := if x.lastMove = s.sail then x.lastDst ++ c.dst else c.dst }
      let all := decide (x1.drained = x1.moved) && !x1.hungry
      if !all then s.setCtx x1
      else if x.op = 1 then s.setCtx { x1 with staged := some s.sail }
      else if x.op = 2 then s.ctxEnd x1 stOk 0
      else s.finishLoad x1

/-- A chunk that has drained leaves its buffer. -/
def State.chunkGone (s : State) (c : Chunk) : State := ((s.delChunk c).drained c).showPool

/-- A buffer drains to its destination, in RUN (R37, R437); the chunk has moved once its writes are observable (R439). -/
def execChunkDrainDone (ring buf : Nat) (s : State) : Host.Outcome State Fault Refusal :=
  match s.chunkOf ring buf with
  | some c =>
    if !c.filled then .next s
    else if c.sent then
      if s.writesDone [3, ring, c.didx] then .next (s.chunkGone c) else .next s
    else if s.time.stage ≠ .run then .next s
    else if c.dst.isEmpty then .next (s.chunkGone c)
    else
      match s.dmaWrite [3, ring, c.didx] (ringTen ring) c.dst (s.poolGet c) with
      | (s1, .wait) => .next s1
      | (s1, .fail st d) => .next (s1.chunkFail c st d)
      | (s1, .ok _) =>
        if s1.writesDone [3, ring, c.didx] then .next (s1.chunkGone c) else .next (s1.setChunk { c with sent := true })
  | none => .next s

/-! ### Completion records (R444, R445) -/

/-- The 32 bytes of a record, to be written at index idx of a CMP ring of 2^n entries. -/
def recBytes (r : CmpRec) (idx len sail : Nat) : List Byte :=
  leBytes 2 r.utag ++ leBytes 1 (r.ring % 64) ++ leBytes 1 r.status ++ leBytes 2 (if r.status = 0 then 0 else r.detail) ++
    leBytes 1 (r.nflags % 128) ++ leBytes 1 ((idx / len + 1) % 2) ++ leBytes 4 r.didx ++ leBytes 4 0 ++ leBytes 8 sail ++
    leBytes 8 r.info

/-- The SAIL a record of a tenant carries: a shadow's is that of the sailing its ferry belongs to (R537, R540). -/
def State.recSail (s : State) (t : Nat) : Nat :=
  s.sailNo ((s.partOf t).getD 64) + b2n (s.shadowed ((s.partOf t).getD 64))

/-- A record not written: counted on its CMP ring and in Q_CNT (R430). -/
def State.lostRec (s : State) (c : Nat) : State := (s.radd (rStat c) F.ringStatus_LOST 1).raddOpen R.qCnt F.qCnt_LOST 1

/-- What became of a record: it left, it never will, or it waits for its line, its walk or its toll. -/
inductive Sent where
  | left | gone | waits
  deriving DecidableEq, Repr

/-- A record issued to the CMP ring of its SUB ring: written at the tail, which advances; its vector noted (R445). Of a
tenant being torn down none is issued (R417), nor after FATAL. -/
def State.issueRec (s : State) (r : CmpRec) : State × Sent :=
  let c := s.cmpOf r.ring
  let t := ringTen r.ring
  let s0 := s.setRings { s.rings with promised := mput s.rings.promised c (mgetD s.rings.promised c 0 - 1) }
  if s.muted ∨ s.torn t then (s0, .gone)
  else if s.ringState c ≠ 1 then (s0.lostRec c, .gone)
  else
    let idx := s.rf (rPtr c) F.ringPtr_TAIL
    let w := s.dmaWrite [5, c] t [(s.entVa c idx, 32)] (recBytes r idx (s.ringLen c) (s.recSail t))
    match w.2 with
    | .wait => (w.1, .waits)
    | x =>
      let s1 := w.1.setRings { w.1.rings with promised := mput w.1.rings.promised c (mgetD w.1.rings.promised c 0 - 1) }
      let y : State × Sent := match x with
        | .ok _ => (s1, if s1.shadows (t + 1) then .gone else .left)
        | _ => (s1.radd R.pciCnt2 F.pciCnt2_DROPPED 1, .gone)
      ((y.1.rset (rPtr c) F.ringPtr_TAIL ((idx + 1) % 2 ^ 32)).signalIf
        (r.notify && decide (s.rf (rCfg c) F.ringCfg_VEC_EN = 1)) (t + 1) (s.rf (rCfg c) F.ringCfg_VEC), y.2)

/-- A context's record: steps completed for a RUN, bytes moved for an XFER. -/
def Ctx.record (c : Ctx) (status detail : Nat) : CmpRec :=
  ⟨c.ring, c.didx, status, detail, c.notify, c.utag, c.nflags, if c.op = 1 then c.steps else if c.op = 2 then c.drained else 0⟩

/-- A context released at its completion, the sailing a fence behind it counts from; a DRAINING ring without work reaches
OFF (R430, R439). -/
def State.releaseCtx (s : State) (c : Ctx) : State :=
  let n := s.sailNo (s.ringPart c.ring)
  let s1 := s.setRings { s.rings with
    ctxs := (s.rings.ctxs.filter (fun x => !(decide (x.ring = c.ring) && decide (x.didx = c.didx)))).map (fun x =>
      if x.ring = c.ring ∧ x.started = false then { x with from_ := n } else x) }
  let s2 := s1.showOut c.ring
  if s2.ringState c.ring = 4 ∧ s2.outOf c.ring = 0 then s2.ringOff c.ring else s2

end Sys2Proof.Machine
end

