-- ==== Sys2Proof/Machine/Dtu.lean ====
section
/-! DEFINITION. The translation unit's own commands (R223, R227 to R242): invalidation lanes and their application,
contexts and pinned pages, walks, the fault queue's reading, region marks cleared, and ATS. -/

namespace Sys2Proof.Machine

/-- Changes of the translation structure. -/
def State.setDtu (s : State) (d : DtuSt) : State := { s with dtu := d }

/-! ### Invalidation lanes (R230, R231) -/

/-- An invalidation accepted in a lane; one that finds the lane full sets OVF and stands with all that follow until the
next I1 for ALL. The primary ferries it (R535). -/
def State.invAccept (s : State) (w : Nat) (r : InvReq) : State :=
  let lane := mgetD s.dtu.lanes w []
  let overfl := mgetD s.dtu.overfl w []
  let word := leBytes 8 (r.seq % 2 ^ 16 * 2 ^ 48 + r.vpn % 2 ^ 31 * 2 ^ 17 + r.scope * 2 ^ 15 + r.tenant)
  let s0 := if r.scope = 2 then (s.partRecs).foldl (fun s p => s.ferry 5 p.part w word) s
    else s.ferry 5 ((s.partOf r.tenant).getD 64) w word
  if lane.length < 32 ∧ overfl.isEmpty then s0.setDtu { s0.dtu with lanes := mput s0.dtu.lanes w (lane ++ [r]) }
  else (s0.setDtu { s0.dtu with overfl := mput s0.dtu.overfl w [r] }).rset (R.dtuInvAck w) F.dtuInvAck_OVF 1

/-- A write of a word to DTU_INV[w] (R230): half is none for one 64-bit write. -/
def State.invWrite (s : State) (w word : Nat) (half : Bool) : State :=
  if half ∨ bitsOf word 15 2 = 3 ∨ bitsOf word 12 3 ≠ 0 then s.rset (R.dtuInvAck w) F.dtuInvAck_BAD 1
  else s.invAccept w ⟨bitsOf word 15 2, bitsOf word 17 31, bitsOf word 0 12, bitsOf word 48 16⟩

def execDtuInvPage (lane seq vpn tenant : Nat) (s : State) : Host.Outcome State Fault Refusal :=
  .next (if lane < 64 then s.invAccept lane ⟨0, vpn, tenant, seq⟩ else s)

def execDtuInvTenant (lane seq tenant : Nat) (s : State) : Host.Outcome State Fault Refusal :=
  .next (if lane < 64 then s.invAccept lane ⟨1, 0, tenant, seq⟩ else s)

def execDtuInvAll (lane seq : Nat) (s : State) : Host.Outcome State Fault Refusal :=
  .next (if lane < 64 then s.invAccept lane ⟨2, 0, 0, seq⟩ else s)

/-! ### Application at I1 (R223, R231, R233) -/

/-- Every cache with the entries a test selects removed. -/
def State.tcDrop (s : State) (p : TcEnt → Bool) : State :=
  s.setDtu { s.dtu with caches := s.dtu.caches.map (fun c => (c.1, c.2.filter (fun e => !(p e)))) }

/-- One invalidation applied; a PAGE on a pinned page is refused. The last SEQ applied goes along. -/
def State.invOne (s : State) (w : Nat) (last : Option Nat) (r : InvReq) : State × Option Nat :=
  match r.scope with
  | 0 =>
    if s.isPinned r.tenant (r.vpn * 2 ^ 25) then
      ((s.rset (R.dtuInvAck w) F.dtuInvAck_REFUSED 1).rset (R.dtuInvAck w) F.dtuInvAck_REFUSED_SEQ r.seq, last)
    else (s.tcDrop (fun e => !e.pinned && e.covers r.tenant (r.vpn * 2 ^ 25)), some r.seq)
  | 1 => (s.tcDrop (fun e => !e.pinned && decide (e.tenant = r.tenant)), some r.seq)
  | _ => (s.tcDrop (fun e => !e.pinned), some r.seq)

/-- The entries an invalidation removes: a PAGE on a pinned page is refused, and pinned entries stay (R233). -/
def State.invTakes (s : State) (r : InvReq) (e : TcEnt) : Bool :=
  !e.pinned && (match r.scope with
    | 0 => !(s.isPinned r.tenant (r.vpn * 2 ^ 25)) && e.covers r.tenant (r.vpn * 2 ^ 25)
    | 1 => decide (e.tenant = r.tenant)
    | _ => true)

/-- The entries that outstanding accesses may have used: those of the caches, and those removed whose acknowledgement is still due. -/
def State.entsUsable (s : State) : List TcEnt := s.dtu.caches.flatMap (·.2) ++ s.dtu.acks.flatMap (fun a => a.2.2)

/-- A lane applied as far as this INTAKE found it: a lane that had overflowed goes whole, with every write it has
taken since (R231); of another the entries accepted before the INTAKE began, the rest wait for the next one (R33). Its
acknowledgement is due at I4 where anything was applied, with every entry of base its invalidations cover, whichever
lane removed it. Walks of the tenants it names begin again. -/
def State.invLane (s : State) (base : List TcEnt) (w : Nat) : State :=
  let full := s.intake.overfl.contains w
  let lane := mgetD s.dtu.lanes w []
  let n := mgetD s.intake.lanes w 0
  let reqs := if full then [⟨2, 0, 0, 0⟩] else lane.take n
  let r := match full, (mgetD s.dtu.overfl w []).getLast? with
    | true, some x => (s.tcDrop (fun e => !e.pinned), some x.seq)
    | _, _ => (lane.take n).foldl (fun p x => p.1.invOne w p.2 x) (s, none)
  let gone := base.filter (fun e => reqs.any (fun x => s.invTakes x e))
  let s1 := r.1.walksAgain (fun t => reqs.any (fun x => decide (x.scope = 2) || decide (x.tenant = t)))
  let d := s1.dtu
  s1.setDtu { d with
    lanes := if full then mdel d.lanes w else mput d.lanes w (lane.drop n)
    overfl := if full then mdel d.overfl w else d.overfl
    acks := match r.2 with
      | some q => d.acks ++ [(w, q, gone)]
      | none => d.acks }

/-- A context that was dropped and one whose pinned pages are loaded (R223, R235). -/
def State.ctxOn (s : State) (t : Nat) : State :=
  if s.rf (R.dtuCtxCfg t) F.dtuCtxCfg_STATE = 1 then s.rset (R.dtuCtxCfg t) F.dtuCtxCfg_STATE 2 else s

/-- ATS invalidations taken are applied to the ATC (R242); the reads that used an entry they remove hold their completions. -/
def State.atsApply (s : State) : State :=
  let gone (k : Nat) : Bool := s.dtu.atsInv.any (fun x => decide (k = x.2.1 * 2 ^ 52 + x.2.2))
  let atc := s.dtu.atc.filter (fun e => !(gone e.1))
  let held := s.dtu.atsInv.flatMap (fun x =>
    (s.dtu.atsUse.filter (fun u => decide (u.2 = x.2.1 * 2 ^ 52 + x.2.2) && s.hostTags.contains u.1)).map (fun u => (x.1, u.1)))
  (s.setDtu { s.dtu with
    atc := atc, atsDone := s.dtu.atsDone ++ s.dtu.atsInv, atsInv := [],
    atsUse := s.dtu.atsUse.filter (fun u => !(gone u.2)), atsHold := s.dtu.atsHold ++ held }).rset R.dtuAtsStatus
    F.dtuAtsStatus_ATC_USED atc.length

/-- I1: drops of contexts, lanes in ascending number, contexts that become ON, the ATC. -/
def State.applyI1 (s : State) : State :=
  let dc := s.dtu.dropCtx
  let du := s.dtu.dropUnp
  let base := s.entsUsable
  let s1 := (s.walksForget.tcDrop (fun e => dc.contains e.tenant || (!e.pinned && du.contains e.tenant))).walksAgain
    (fun t => dc.contains t || du.contains t)
  let s2 := ((s1.intake.lanes.map (·.1) ++ s1.intake.overfl).foldl insSorted []).foldl (fun s w => s.invLane base w) s1
  let s3 := s2.dtu.pinDone.foldl (fun s t => s.ctxOn t) s2
  (s3.setDtu { s3.dtu with dropCtx := [], dropUnp := [], pinDone := [] }).atsApply

/-! ### Acknowledgement at I4 (R232, R242) -/

/-- A lane's acknowledgement: SEQ, and the posted write through PF0 where it is enabled. -/
def State.ackLane (s : State) (w seq : Nat) : State :=
  let s1 := s.rset (R.dtuInvAck w) F.dtuInvAck_SEQ seq
  if s1.rf (R.dtuAckAddr w) F.dtuAckAddr_EN = 1 then
    let r := s1.hostWrite 0 (s1.rf (R.dtuAckAddr w) F.dtuAckAddr_ADDR * 8) (leBytes 8 (s1.rv (R.dtuInvAck w)).toNat)
    if r.2 then r.1 else r.1.radd R.pciCnt2 F.pciCnt2_DROPPED 1
  else s1

/-- No access that used an entry which an ITag's invalidation removed is outstanding. -/
def State.atsQuiet (s : State) (itag : Nat) : Bool :=
  !(s.dtu.atsHold.any (fun h => decide (h.1 = itag) && s.hostTags.contains h.2))

/-- The Invalidation Completion of an ITag. -/
def State.atsComplete (s : State) (x : Nat × Nat × Nat) : State :=
  ((s.setDtu { s.dtu with atsDone := s.dtu.atsDone.erase x, atsHold := s.dtu.atsHold.filter (fun h => decide (h.1 ≠ x.1)) }).send .pcieMsg [2, x.2.1, x.1] []).rset R.dtuAtsStatus
    F.dtuAtsStatus_INV_OUT (s.rf R.dtuAtsStatus F.dtuAtsStatus_INV_OUT - 1)

/-- A physical piece lies in a removed entry's page. -/
def TcEnt.holds (e : TcEnt) (pa : Nat) : Bool := decide (e.pa ≤ pa) && decide (pa < e.pa + (if e.big then 2 ^ 30 else 2 ^ 25))

/-- An access that used a removed entry is still outstanding (R232): a MOV, a COPY, an access of ring DMA, a posted write. -/
def State.entUsed (s : State) (e : TcEnt) : Bool :=
  s.te.any (fun t => (t.2.tail ++ (match t.2.run with
      | some r => r.movs
      | none => [])).any (fun m => decide (m.tenant = e.tenant) && decide (m.op ≤ 1) && m.pieces.any (fun p => e.holds p.1))) ||
    s.copies.any (fun c => decide (c.tenant = e.tenant) && c.pieces.any (fun p => e.holds p.1 || e.holds p.2.1)) ||
    s.rings.kept.any (fun k => decide (k.tenant = e.tenant) && k.pas.any (fun p => e.holds p.1)) ||
    s.heap.remWrites.any (fun w => e.holds w.pa)

/-- The lanes whose acknowledgement an outstanding access holds back, from the first one it holds on (R232). -/
def State.acksHeld (s : State) : List (Nat × Nat × List TcEnt) → List Nat → List (Nat × Nat × List TcEnt)
  | [], _ => []
  | a :: r, held =>
    if held.contains a.1 || a.2.2.any s.entUsed then a :: s.acksHeld r (a.1 :: held) else s.acksHeld r held

/-- The acknowledgements that leave, by lane: the last SEQ of those that nothing holds back. -/
def State.acksNow (s : State) : List (Nat × Nat × List TcEnt) → List Nat → NMap Nat → NMap Nat
  | [], _, m => m
  | a :: r, held, m =>
    if held.contains a.1 || a.2.2.any s.entUsed then s.acksNow r (a.1 :: held) m else s.acksNow r held (mput m a.1 a.2.1)

/-- I4: acknowledgements of the lanes applied, each lane's in its order, but those that accesses outstanding hold back (R232), and ATS
completions that nothing outstanding holds back. -/
def State.applyI4 (s : State) : State :=
  let s1 := (s.acksNow s.dtu.acks [] []).foldl (fun s a => s.ackLane a.1 a.2) s
  let s2 := s1.setDtu { s1.dtu with acks := s.acksHeld s.dtu.acks [] }
  s2.dtu.atsDone.foldl (fun s x => if s.atsQuiet x.1 then s.atsComplete x else s) s2

/-- An Invalidation Completion that an access held back leaves once it has ended; none between I1 and I4 (R242). -/
def execAtsInvalidationCompletion (itag : Nat) (s : State) : Host.Outcome State Fault Refusal :=
  match s.dtu.atsDone.find? (fun x => x.1 = itag) with
  | some x => .next (if s.atsQuiet x.1 && !([Stage.i1, .i2, .i3].contains s.time.stage) then s.atsComplete x else s)
  | none => .next s

/-- An ATS Invalidate Request is taken; one that repeats an outstanding ITag is merged and counted (R242). DESIGN CHOICE: a repeat that
names another page or function removes nothing of its own (log 214). -/
def execAtsInvalidateRequest (itag fn page : Nat) (s : State) : Host.Outcome State Fault Refusal :=
  if (s.dtu.atsInv ++ s.dtu.atsDone).any (fun x => x.1 = itag) then
    .next (s.radd R.dtuAtsStatus F.dtuAtsStatus_DUP_ITAG 1)
  else
    .next ((s.setDtu { s.dtu with atsInv := s.dtu.atsInv ++ [(itag, fn, page)] }).rset R.dtuAtsStatus
      F.dtuAtsStatus_INV_OUT (s.rf R.dtuAtsStatus F.dtuAtsStatus_INV_OUT + 1))

/-- A Translation Completion fills the ATC, one without any grant too; a failed one (ok = false) caches nothing (R241,
R409). A full ATC loses an entry, which one is a free choice. -/
def execAtsTranslationCompletion (fn page trans : Nat) (ok rd wr : Bool) (s : State) :
    Host.Outcome State Fault Refusal :=
  let k := fn * 2 ^ 52 + page
  if s.dtu.atsReq.contains k then
    let s1 := s.setDtu { s.dtu with atsReq := nrem s.dtu.atsReq k }
    if ok then
      let n := s1.dtu.atc.length
      let atc := if n < 8192 then s1.dtu.atc
        else (s1.dtu.atc.take (Config.tcVictim s1.fresh n % n)) ++ s1.dtu.atc.drop (Config.tcVictim s1.fresh n % n + 1)
      let atc1 := mput atc k (trans * 4 + b2n rd + 2 * b2n wr)
      .next ((s1.tick.setDtu { s1.dtu with atc := atc1 }).rset R.dtuAtsStatus F.dtuAtsStatus_ATC_USED atc1.length)
    else .next s1
  else .next s

/-! ### Contexts (R223, R235, R245) -/

/-- A context becomes LOADING: no pinned page of it has been walked. -/
def State.loadPins (s : State) (t : Nat) : State :=
  (s.rset (R.dtuCtxCfg t) F.dtuCtxCfg_STATE 1).setDtu { s.dtu with pinGot := mdel s.dtu.pinGot t }

/-- A tenant's cached translations go at the next I1. -/
def State.dropTables (s : State) (t : Nat) : State := s.setDtu { s.dtu with dropCtx := nins s.dtu.dropCtx t }

/-- What a transfer at I0 of a context's registers does: whether EN was written, whether ROOT or L1_LOG changed. -/
def State.ctxTransfer (s : State) (t : Nat) (wroteEn moved : Bool) : State :=
  let s1 := if moved then s.setDtu { s.dtu with dropUnp := nins s.dtu.dropUnp t } else s
  if wroteEn then
    let st := s1.rf (R.dtuCtxCfg t) F.dtuCtxCfg_STATE
    if s1.rf (R.dtuCtxCfg t) F.dtuCtxCfg_EN = 0 then
      (s1.rset (R.dtuCtxCfg t) F.dtuCtxCfg_STATE 0).setDtu { s1.dtu with
        dropCtx := nins s1.dtu.dropCtx t, pinDone := nrem s1.dtu.pinDone t }
    else if st = 0 then s1.loadPins t
    else if st = 3 then (s1.loadPins t).dropTables t
    else s1
  else s1

/-- A context switched OFF with EN cleared in force and in the shadow (R223, R417). -/
def State.ctxOff (s : State) (t : Nat) : State :=
  ((s.rset (R.dtuCtxCfg t) F.dtuCtxCfg_EN 0).rset (R.dtuCtxCfg t) F.dtuCtxCfg_STATE 0).setDtu { s.dtu with
    dropCtx := nins s.dtu.dropCtx t, pinDone := nrem s.dtu.pinDone t }

/-- The pinned 32 MiB pages of a tenant in walk order. -/
def State.pinPages (s : State) (t : Nat) : List Nat :=
  (s.tenRecs.filter (fun r => r.tenant = t)).flatMap (fun r =>
    r.pins.flatMap (fun p => (List.range p.2).map (fun i => p.1 + i * 2 ^ 25)))

/-- A pinned page's walk fails by its target: absent addresses or register space (R226). -/
def State.pinBad (s : State) (e : TcEnt) (va : Nat) : Bool :=
  s.anyAbsent (e.pa + (va - e.va)) (2 ^ 25) || decide (s.placeOf (e.pa + (va - e.va)) = .regs)

/-- The walks of a tenant's pinned pages, with the leaves found so far: all of them found, the first page whose walk failed, or one that
waits. A page of a 1 GiB block found is not walked again, its own target is checked. -/
def State.pinWalk (s : State) (t : Nat) : List Nat → List TcEnt → State × List TcEnt × Option (Option Nat)
  | [], acc => (s, acc, some none)
  | va :: rest, acc =>
    match acc.find? (fun e => e.covers t va) with
    | some e => if s.pinBad e va then (s, acc, some (some va)) else s.pinWalk t rest acc
    | none => match (s.walkBegin pinCache 2 t va).walk pinCache 2 t va with
      | (s1, .wait) => (s1, acc, none)
      | (s1, .fail _) => (s1.walkEnd pinCache 2 t va, acc, some (some va))
      | (s1, .ok e) =>
        let s2 := s1.walkEnd pinCache 2 t va
        if s2.pinBad e va then (s2, acc, some (some va))
        else s2.pinWalk t rest (acc ++ [{ e with pinned := true }])

/-- The tiles of a tenant's partition. -/
def State.tilesOfTenant (s : State) (t : Nat) : List Nat :=
  match s.partOf t with
  | some p => (List.range 64).filter (bitOf (s.tilesOf p))
  | none => []

/-- PIN_LOAD_DONE (R235): every pinned page of a LOADING context has been walked; its entries go into each tile cache of
the partition and the context is ON from the next I1, or the context is in PIN_FAULT. -/
def execPinLoadDone (tenant : Nat) (s : State) : Host.Outcome State Fault Refusal :=
  if s.rf (R.dtuCtxCfg tenant) F.dtuCtxCfg_STATE ≠ 1 ∨ s.dtu.pinDone.contains tenant ∨ s.dtu.dropCtx.contains tenant then .next s
  else
    match s.pinWalk tenant (s.pinPages tenant) (mgetD s.dtu.pinGot tenant []) with
    | (s1, es, none) => .next (s1.setDtu { s1.dtu with pinGot := mput s1.dtu.pinGot tenant es })
    | (s1, _, some (some va)) =>
      .next ((s1.rset (R.dtuCtxCfg tenant) F.dtuCtxCfg_STATE 3).rset (R.dtuCtxCfg tenant) F.dtuCtxCfg_PIN_VA (va / 2 ^ 25))
    | (s1, es, some none) =>
      let s2 := (s1.tilesOfTenant tenant).foldl (fun s c => es.foldl (fun s e => s.tcPut c e) s) s1
      .next (s2.setDtu { s2.dtu with pinDone := s2.dtu.pinDone ++ [tenant], pinGot := mdel s2.dtu.pinGot tenant })

/-- TRANSLATION_WALK (R224 to R228): a cache that misses walks the tables and keeps the leaf found; outside QUIET. A walk under way goes on
in its class (R227); one that no access has begun goes in its partition's, in the ring cache in QC2 (DESIGN CHOICE, log 180). -/
def execTranslationWalk (cache tenant va : Nat) (s : State) : Host.Outcome State Fault Refusal :=
  if s.rf (R.dtuCtxCfg tenant) F.dtuCtxCfg_STATE ≠ 2 ∨ cache > ringCache ∨ s.time.stage = .quiet then .next s
  else
    let q := if cache = ringCache then 2 else ((s.partOf tenant).map s.partQc).getD 2
    match s.leaf cache q tenant va with
    | (s1, .fail _) => .next (s1.walksEnd cache q tenant [va])
    | (s1, _) => .next s1

/-! ### The fault queue and region marks (R239, R247, R526, R543) -/

/-- The boundary: what the sailing that ends left in its records is what the C1 after it makes visible (R239). -/
def State.fqEdge (s : State) : State :=
  s.setDtu { s.dtu with
    fq := s.dtu.fq.map (fun r => if r.fresh then { r with fresh := false, edge := [r.causes, r.flags, r.count, r.last, r.req] } else r) }

/-- Records of the sailing before become visible at C1, and their tenants' vectors are due at C2 (R239). -/
def State.fqVisible (s : State) : State :=
  let ts := (s.dtu.fq.filter (fun r => !r.edge.isEmpty)).map (·.tenant)
  let s1 := s.setDtu { s.dtu with
    fq := s.dtu.fq.map (fun r => if r.edge.isEmpty then r else { r with seen := r.edge, edge := [] }) }
  ts.foldl (fun s t => s.signalIf (s.rf (R.tfqCtl t) F.tfqCtl_VEC_EN = 1) (t + 1) (s.rf (R.tfqCtl t) F.tfqCtl_VEC)) s1

/-- The 64 bytes of a record as it is visible. -/
def FqRec.bytes (r : FqRec) : List Byte :=
  match r.seen with
  | [c, f, n, l, q] => leBytes 2 r.tenant ++ leBytes 1 c ++ leBytes 1 f ++ leBytes 4 n ++ leBytes 8 r.vpage ++
      leBytes 8 r.first ++ leBytes 8 l ++ leBytes 32 q
  | _ => List.replicate 64 0

/-- The oldest record of a tenant, as its VF page shows it: zeros where there is none. -/
def State.fqHead (s : State) (t : Nat) : List Byte :=
  match s.fqOf t with
  | r :: _ => r.bytes
  | [] => List.replicate 64 0

/-- TFQ_POP: the head record is removed at once. -/
def State.tfqPop (s : State) (tenant : Nat) : State :=
  match s.fqOf tenant with
  | r :: _ => ((s.setDtu { s.dtu with fq := s.dtu.fq.erase r }).fqShow tenant)
  | [] => s

def execTfqPop (tenant : Nat) (s : State) : Host.Outcome State Fault Refusal := .next (s.tfqPop tenant)

/-- TINV_CLR: all of the tenant's region marks and ALL removed. -/
def State.tinvClr (s : State) (tenant : Nat) : State :=
  ((({ s with err := { s.err with marks := mdel s.err.marks tenant } } : State).rset (R.tinvStatus tenant)
    F.tinvStatus_COUNT 0).rset (R.tinvStatus tenant) F.tinvStatus_ALL 0)

def execTinvClr (tenant : Nat) (s : State) : Host.Outcome State Fault Refusal := .next (s.tinvClr tenant)

end Sys2Proof.Machine
end

