-- ==== Sys2Proof/Machine/Teardown.lean ====
section
/-! DEFINITION. TDIs and confidential mode (R557 to R562), debug authorisations (R585, R586), and the teardown of a
tenant (R417 to R419). -/

namespace Sys2Proof.Machine

def State.setSec (s : State) (x : SecSt) : State := { s with sec := x }

/-! ### Life-cycle state and debug (R576, R585) -/

/-- The life-cycle state in force: 0 MAKER, 1 INTEGRATOR, 2 FIELDED, 3 RETURNED, 4 SCRAPPED, 7 LOCKED. -/
def State.lcs (s : State) : Nat := s.rf R.lcsStatus F.lcsStatus_STATE

/-- Debug is open by state. -/
def State.openByState (s : State) : Bool := s.lcs = 0 || s.lcs = 3

/-- LCS_DBG and SAL_STATUS.DEBUG show a scope and the seconds left (R586, R589); 0 closes debug unless the state opens
it. -/
def State.showDebug (s : State) (scope remain : Nat) : State :=
  let sc := if s.openByState then 15 else scope
  (((s.rset R.lcsDbg F.lcsDbg_SCOPE sc).rset R.lcsDbg F.lcsDbg_OPEN (b2n (decide (sc ≠ 0)))).rset R.lcsDbg
    F.lcsDbg_REMAIN_S remain).rset R.salStatus F.salStatus_DEBUG (b2n (decide (scope ≠ 0)))

/-- Every debug authorisation in force is revoked. -/
def State.revokeDebug (s : State) : State := s.showDebug 0 0

/-! ### Confidential mode (R560, R561) -/

/-- Confidential mode begins. -/
def State.confOn (s : State) : State :=
  let s1 := ((s.rset R.salStatus F.salStatus_CONF 1).rset R.salEvent F.salEvent_CONF_ON 1).revokeDebug
  let s2 := s1.rset R.salStatus F.salStatus_TRACE 0
  { s2 with tap := { s2.tap with trace := [], ir := if s2.tap.ir = 0x01 then 0x01 else 0xFF } }

/-- Confidential mode ends; the counts kept meanwhile go at the next boundary (R345, R346). -/
def State.confOff (s : State) : State :=
  let s1 := (s.rset R.salStatus F.salStatus_CONF 0).rset R.salEvent F.salEvent_CONF_OFF 1
  { s1 with fab := { s1.fab with wipe := true } }

/-- A tenant's TDI: 0 CONFIG_UNLOCKED, 1 CONFIG_LOCKED, 2 RUN, 3 ERROR (R574). -/
def State.tdi (s : State) (t : Nat) : Nat := bitsOf (s.rv (R.salTdi (t / 32))).toNat (2 * (t % 32)) 2

/-- CONFIG_LOCKED or RUN. -/
def State.tdiHeld (s : State) (t : Nat) : Bool := s.tdi t = 1 || s.tdi t = 2

/-! ### The twin pair's partitions (R534, R564) -/

def State.setTwin (s : State) (x : TwinSt) : State := { s with twin := x }

/-- A shadow's work for a partition it no longer runs from ferries is dropped, without records. -/
def State.dropPart (s : State) (p : Nat) : State :=
  let mine (c : Ctx) : Bool := decide (s.ringPart c.ring = p)
  let s1 := s.setRings { s.rings with ctxs := s.rings.ctxs.filter (fun c => !(mine c)) }
  { s1 with copies := s1.copies.filter (fun c => decide (c.part ≠ p)) }

/-- A partition leaves the pair: UNPAIRED (0) or DIVERGED (3). -/
def State.unpair (s : State) (p st : Nat) : State :=
  let s1 := s.setTwinPart p st
  let s2 := s1.setTwin { s1.twin with copy := mdel s1.twin.copy p, drain := nrem s1.twin.drain p }
  if s2.twinRole = 2 then s2.dropPart p else s2

/-- Partitions in one of two states of TWIN_PART. -/
def State.partsIn (s : State) (a b : Nat) : List Nat := (List.range 64).filter (fun p => decide (s.twinPart p = a) || decide (s.twinPart p = b))

/-- The lines of the carve-up of a partition's tenants that hold data. -/
def State.linesOfPart (s : State) (p : Nat) : List Nat :=
  (s.lmeta.filter (fun x => x.2.valid && (s.partOf (s.ownerOf (x.1 * 128)) == some p))).map (·.1)

/-- A line sent, charged at point 73 (R326, R332). DESIGN CHOICE (log 208): a copy's or an echo's lines go at once; what the bucket of their
pair does not hold yet is taken from it in advance, and every later request of the pair waits for it. -/
def State.sendLine (s : State) (l : Nat) : State :=
  let r := (s.chargeFor [12] 73 (s.linesNew 73 [(l * 128, 128)])).readPieces [12] 73 1 [(l * 128, 128)]
  r.1.send .twin [7, l * 128] r.2.1

/-- The lowest partition that waits is brought into step: COPYING, its lines sent, and nothing admitted for it from now on. -/
def State.syncNext (s : State) : State :=
  match s.twin.drain, s.twin.copy with
  | [], (p, _) :: _ =>
    let s1 := (s.setTwinPart p 1).setTwin { s.twin with drain := [p] }
    (s1.linesOfPart p).foldl (fun s l => s.sendLine l) s1
  | _, _ => s

/-- A partition whose tenant's TDI is locked but not in RUN, or leaves RUN, is UNPAIRED, and the next one's turn comes (R564). -/
def State.tdiUnpair (s : State) (t : Nat) : State :=
  match s.partOf t with
  | some p => if s.twinPart p = 0 ∧ (mget s.twin.copy p).isNone then s else (s.unpair p 0).syncNext
  | none => s

/-- A TDI changes state: the count of held TDIs and the mode follow (R561); its partition is paired only while it is in RUN (R564). -/
def State.setTdi (s : State) (t x : Nat) : State :=
  let n := s.rf R.salStatus F.salStatus_LOCKED
  let m := n + b2n (decide (x = 1 ∨ x = 2)) - b2n (s.tdiHeld t)
  let s1 := (s.rset (R.salTdi (t / 32)) ⟨2 * (t % 32), 2⟩ x).rset R.salStatus F.salStatus_LOCKED m
  let s2 := if x = 1 ∨ (s.tdi t = 2 ∧ x ≠ 2) then s1.tdiUnpair t else s1
  if n = 0 ∧ m > 0 then s2.confOn else if n > 0 ∧ m = 0 then s2.confOff else s2

/-! ### Teardown (R417, R418) -/

/-- A VF's configuration space and MSI-X state at their reset values. -/
def State.vfReset (s : State) (fn : Nat) : State :=
  let lo := 0x4002000 + 0x10000 * (fn - 1)
  { s with
    pci := { s.pci with cfg := s.pci.cfg.filter (fun p => p.1 / 1024 ≠ fn) },
    regs := s.regs.filter (fun p => !(decide (lo ≤ p.1) && decide (p.1 ≤ lo + 0x1000))) }

/-- Reads of a function end without data; their tags stay in use, and what still comes for them is discarded. -/
def State.endReads (s : State) (fn : Nat) : State :=
  let mine := s.heap.remReads.filter (fun r => decide (r.func = fn) && onHost r.pa && decide (r.st = 0))
  { s with
    heap := { s.heap with
      remReads := s.heap.remReads.map (fun r =>
        if r.func = fn ∧ onHost r.pa ∧ r.st = 0 then { r with left := [], wait := [], st := 3 } else r) },
    pci := { s.pci with orphan := s.pci.orphan ++ mine.flatMap (fun r => r.left.map (fun l => (l.1, l.2.2, none))) } }

/-- A scrub of an owner is pending (R574). -/
def State.scrubPending (s : State) (o : Nat) : Bool := bitOf (s.rv (R.salScrub (o / 64))).toNat (o % 64)

/-- An FLR clears EN of the tenant's rings as a write of it would: in force from the next I0, and over what was written
before it (R11, R417). -/
def State.enOff (s : State) (t : Nat) : State :=
  { s with
    shadow := ((List.range 64).map (fun r => rCfg (t * 64 + r))).foldl (fun m k =>
      let old := mgetD m k (0, 0)
      if s.rf k F.ringCfg_EN = 1 ∨ fget old.1 F.ringCfg_EN = 1 then
        mput m k (fset old.1 F.ringCfg_EN 0, fset old.2 F.ringCfg_EN 1)
      else m) s.shadow }

/-- Tenant t torn down, as an FLR of its VF accepted now does (R417): PCI_FLR and SAL_SCRUB set, configuration reset,
its reads ended, its prefetch trackers cleared (R200), its measurement ended (DESIGN CHOICE, log 217); the rest
follows at the next COMMIT and INTAKE. The primary ferries the FLR. -/
def State.teardown (s : State) (t : Nat) : State :=
  let s1 := (s.rset (R.pciFlr (t / 64)) ⟨t % 64, 1⟩ 1).enOff t
  let s2 := if s1.scrubPending t then s1
    else (s1.rset (R.salScrub (t / 64)) ⟨t % 64, 1⟩ 1).rset R.salStatus F.salStatus_SCRUBS (s1.rf R.salStatus F.salStatus_SCRUBS + 1)
  let s3 := (((s2.vfReset (t + 1)).endReads (t + 1)).untrain 72 t).ferry 6 ((s.partOf t).getD 64) (t + 1) []
  let s4 := s3.rsetIf (decide (s3.rf (R.tmeasStatus t) F.tmeasStatus_STATE = 1)) (R.tmeasStatus t) F.tmeasStatus_STATE 0
  s4.setSec { s4.sec with tear := nins s4.sec.tear t, tmeas := mdel s4.sec.tmeas t }

/-- An FLR of VF t + 1: teardown, the TDI back to CONFIG_UNLOCKED (R562). -/
def State.vfFlr (s : State) (t : Nat) : State := (s.setTdi t 0).teardown t

/-- Every tenant the manifest in force defines is torn down in this sailing (R419). -/
def State.tearAll (s : State) : State := (s.tenRecs.map (·.tenant)).foldl (fun s t => s.vfFlr t) s

/-- Rings of a tenant off at the I0 after its FLR; their work is released without records, at the I2 that ends the
teardown. EN takes what was written since the FLR, at the transfer that follows. -/
def State.ringsOff (s : State) (t : Nat) : State :=
  ((List.range 64).map (fun r => t * 64 + r)).foldl (fun s g => if s.ringState g = 0 then s else s.ringOff g)
    (s.setRings { s.rings with held := s.rings.held.filter (fun g => g / 64 ≠ t) })

/-- The voyage contexts and chunks of a tenant released: no completion is issued for them. -/
def State.releaseTenant (s : State) (t : Nat) : State :=
  let gs := ((s.rings.ctxs.filter (fun c => c.ring / 64 = t)).map (·.ring))
  let s1 := s.setRings { s.rings with
    ctxs := s.rings.ctxs.filter (fun c => c.ring / 64 ≠ t),
    chunks := s.rings.chunks.filter (fun c => c.ring / 64 ≠ t),
    kept := s.rings.kept.filter (fun k => k.tenant ≠ t),
    promised := s.rings.promised.filter (fun p => p.1 / 64 ≠ t),
    caught := s.rings.caught.filter (fun p => p.1 / 64 ≠ t),
    db := s.rings.db.filter (fun p => p.1 / 64 ≠ t) }
  (gs.foldl (fun s g => s.showOut g) s1).showPool

end Sys2Proof.Machine
end

