-- ==== Sys2Proof/Machine/Sec.lean ====
section
/-! DEFINITION. Saldon (R547 to R575): keys, rotation, retirement, sweeps and scrubs, the TDISP and IDE messages, SPDM and
the measurements. -/

namespace Sys2Proof.Machine

/-! ### Keys (R551 to R556) -/

/-- PF0 as a key owner. -/
def pfOwner : Nat := 0x1000

/-- The owner is defined in the manifest in force. -/
def State.ownerDefined (s : State) (o : Nat) : Bool := decide (o = pfOwner) || s.tenRecs.any (fun r => r.tenant = o)

/-- SAL_STATUS.DRBG_OK (R548). -/
def State.drbgOk (s : State) : Bool := s.rf R.salStatus F.salStatus_DRBG_OK = 1

def State.keysOf (s : State) (o : Nat) : Option Nat × Option Nat := mgetD s.heap.keys o (none, none)

/-- An owner's slots put, as SAL_KEY shows them. -/
def State.setKeys (s : State) (o : Nat) (k : Option Nat × Option Nat) (cur : Nat) : State :=
  let s1 : State := { s with heap := { s.heap with keys := mput s.heap.keys o k } }
  ((s1.rset (R.salKey o) F.salKey_SLOT0 (b2n k.1.isSome)).rset (R.salKey o) F.salKey_SLOT1 (b2n k.2.isSome)).rset (R.salKey o)
    F.salKey_CUR cur

/-- A fresh key in a slot; its serial number tells it from every other key. -/
def State.freshKey (s : State) (o slot cur : Nat) : State :=
  let k := s.keysOf o
  let n := s.heap.keySeq
  ({ s with heap := { s.heap with keySeq := n + 1 } } : State).setKeys o
    (if slot = 0 then (some n, k.2) else (k.1, some n)) cur

/-- The non-current slot destroyed. -/
def State.retireKey (s : State) (o : Nat) : State :=
  let k := s.keysOf o
  let cur := s.rf (R.salKey o) F.salKey_CUR
  s.setKeys o (if cur = 0 then (k.1, none) else (none, k.2)) cur

/-- The non-current slot is IN_USE. -/
def State.otherInUse (s : State) (o : Nat) : Bool :=
  if s.rf (R.salKey o) F.salKey_CUR = 0 then (s.keysOf o).2.isSome else (s.keysOf o).1.isSome

/-- KEY_REFUSED. -/
def State.keyRefused (s : State) : State := s.rset R.salEvent F.salEvent_KEY_REFUSED 1

/-- ROTATE (R554): refused, or in force at the next I2. -/
def State.rotateCmd (s : State) (owner : Nat) : State :=
  if s.ownerDefined owner = false ∨ s.otherInUse owner = true ∨ s.rf (R.salKey owner) F.salKey_SWEEP = 1 ∨
      s.scrubPending owner = true ∨ s.drbgOk = false then s.keyRefused
  else (s.setSec { s.sec with rotate := nins s.sec.rotate owner })

def execRotate (owner : Nat) (s : State) : Host.Outcome State Fault Refusal := .next (s.rotateCmd owner)

/-- RETIRE (R556): refused without an IN_USE non-current slot, kept while a sweep runs, else in force at the next I2. -/
def State.retireCmd (s : State) (owner : Nat) : State :=
  if s.otherInUse owner = false then s.keyRefused
  else if s.rf (R.salKey owner) F.salKey_SWEEP = 1 then (s.rset (R.salKey owner) F.salKey_RETIRE_PEND 1)
  else (s.setSec { s.sec with retire := nins s.sec.retire owner })

def execRetire (owner : Nat) (s : State) : Host.Outcome State Fault Refusal := .next (s.retireCmd owner)

/-! ### An owner's carve-up -/

/-- Its ranges in ascending address: base and bytes. -/
def State.carveOf (s : State) (o : Nat) : List (Nat × Nat) :=
  match s.mf with
  | some m => ((m.mm.carve).filter (fun c => c.owner = o)).foldl
      (fun l c => (l.filter (fun x => decide (x.1 < c.base))) ++ [(c.base, c.size32 * 2 ^ 25)] ++ l.filter (fun x => decide (c.base ≤ x.1))) []
  | none => []

/-- Its bytes. -/
def State.carveBytes (s : State) (o : Nat) : Nat := piecesLen (s.carveOf o)

/-- The n bytes of a list of ranges from offset d. -/
def cutRanges : List (Nat × Nat) → Nat → Nat → List (Nat × Nat)
  | [], _, _ => []
  | (b, len) :: rs, d, n =>
    if d ≥ len then cutRanges rs (d - len) n
    else
      let k := min n (len - d)
      (b + d, k) :: cutRanges rs 0 (n - k)

/-- An address lies in one of the ranges. -/
def inRanges (rs : List (Nat × Nat)) (a : Nat) : Bool := rs.any (fun r => decide (r.1 ≤ a) && decide (a < r.1 + r.2))

/-- ROT_RATE and SCRUB_RATE; a rate below 1 MiB acts as 1 MiB (R573). -/
def State.rotRate (s : State) : Nat := max (2 ^ 20) (s.rf R.salCfg F.salCfg_ROT_RATE)
def State.scrubRate (s : State) : Nat := max (2 ^ 20) (s.rf R.salCfg F.salCfg_SCRUB_RATE)

/-- One line's metadata re-encrypted under the current slot where it is valid under the other (R555). -/
def sweepMeta (cur : Nat) (kid : Option Nat) (m : LineMeta) : LineMeta :=
  match kid with
  | some k => if m.valid && decide (m.gen ≠ cur) then ⟨true, cur, k⟩ else m
  | none => m

/-- A sweep moves on by n bytes: its lines, as indivisible steps; SWEPT. -/
def State.sweepStep (s : State) (o n : Nat) : State :=
  match mget s.sec.sweeps o with
  | some d =>
    let rs := cutRanges (s.carveOf o) d n
    let cur := s.rf (R.salKey o) F.salKey_CUR
    let s1 : State := { s with
      lmeta := s.lmeta.map (fun p => if inRanges rs (p.1 * 128) then (p.1, sweepMeta cur (s.keyIn o cur) p.2) else p) }
    (s1.setSec { s1.sec with sweeps := mput s1.sec.sweeps o (d + n) }).rset (R.salKey o) F.salKey_SWEPT
      (min (2 ^ 32 - 1) (min (d + n) (s.carveBytes o) / 2 ^ 20))
  | none => s

/-- C0: SWEEP clears for sweeps whose last line was written in an earlier sailing. -/
def State.sweepsEnd (s : State) : State :=
  let done := (s.sec.swept.filter (fun p => p.2 < s.sail)).map (·.1)
  (done.foldl (fun s o => s.rset (R.salKey o) F.salKey_SWEEP 0) s).setSec { s.sec with
    swept := s.sec.swept.filter (fun p => !(decide (p.2 < s.sail))) }

/-! ### Scrubs (R565) -/

/-- The scratch carve-outs an owner holds: base and bytes, after the pool (R213). -/
def scratchOf (o base : Nat) : List ScratchRec → List (Nat × Nat)
  | [] => []
  | r :: rs => (if r.owner = o then [(base, r.ways * 2 ^ 25)] else []) ++ scratchOf o (base + r.ways * 2 ^ 25) rs

def State.scratchRanges (s : State) (o : Nat) : List (Nat × Nat) :=
  match s.mf with
  | some m => scratchOf o (resvBase + m.mm.poolWays * 2 ^ 25) m.mm.scratch
  | none => []

/-- Bytes of ranges zeroed. -/
def zeroRanges (m : List Host.Cell) (rs : List (Nat × Nat)) : List Host.Cell := m.filter (fun c => !(inRanges rs c.1))

/-- The physical TEs of a partition's tiles. -/
def State.physOfPart (s : State) (p : Nat) : List Nat :=
  ((List.range 64).filter (bitOf (s.tilesOf p))).flatMap (fun t => (List.range 5).map (fun j => 5 * t + j))

/-- A chiplet may hold the line of an entry. -/
def State.slipMayHold (s : State) (e : FEnt) : Bool :=
  s.liveSlips && (!e.owned || (match e.fwd with
    | some a => decide (64 ≤ a)
    | none => true))

/-- Cached copies of lines in ranges discarded without writeback: tiles' and slices' at once, the tiles' by an SNP_BI that is counted; for
a line a chiplet may hold its home opens a back-invalidation, whose data is dropped, as soon as it has an entry for one (R255, R268). -/
def State.discardLines (s : State) (rs : List (Nat × Nat)) : State :=
  let gone (l : Nat) : Bool := inRanges rs (l * 128)
  let es := s.coh.filter.filter (fun e => gone e.1)
  let bi := es.filter (fun e => s.slipMayHold e.2)
  let s1 := s.setCoh { s.coh with
    agents := s.coh.agents.filter (fun p => !(gone (p.1 % 2 ^ 45))),
    llc := s.coh.llc.filter (fun p => !(gone p.1)),
    filter := s.coh.filter.filter (fun p => !(gone p.1 && !(s.slipMayHold p.2))),
    queue := s.coh.queue ++ bi.map (fun e => ⟨.bi, e.1, 0, 0, 0, 0, false, true, 3, 4096, s.time.total, true⟩) }
  ((es.filter (fun e => !(s.slipMayHold e.2))).foldl (fun s e => s.countSnoop (s.homeOf (e.1 * 128))) s1).wakeQueue

/-- The scrub of a tenant begins (R565 steps 1 to 4). -/
def State.scrubStart (s : State) (o : Nat) : State :=
  let rs := s.carveOf o
  let alone := match s.partOf o with
    | some p => if (s.tenRecs.filter (fun (r : TenRec) => r.part = p)).length = 1 then s.physOfPart p else []
    | none => []
  let s1 := ((s.setKeys o (none, none) (s.rf (R.salKey o) F.salKey_CUR)).rset (R.salKey o) F.salKey_SWEEP 0).rset (R.salKey o)
    F.salKey_RETIRE_PEND 0
  let s2 := s1.discardLines rs
  let s3 : State := { s2 with
    mem := zeroRanges s2.mem (s.scratchRanges o),
    holds := s2.holds.filter (fun c => !(alone.contains (c.1 / 0x200000))) }
  s3.setSec { s3.sec with
    rotate := nrem s3.sec.rotate o, retire := nrem s3.sec.retire o,
    sweeps := mdel s3.sec.sweeps o, swept := mdel s3.sec.swept o, scrubs := mput s3.sec.scrubs o 0 }

/-- The overwrite moves on by n bytes: lines with the valid bit clear, their content gone. -/
def State.scrubStep (s : State) (o n : Nat) : State :=
  match mget s.sec.scrubs o with
  | some d =>
    let rs := cutRanges (s.carveOf o) d n
    let s1 : State := { s with
      mem := zeroRanges s.mem rs,
      lmeta := s.lmeta.filter (fun p => !(inRanges rs (p.1 * 128))) }
    s1.setSec { s1.sec with scrubs := mput s1.sec.scrubs o (d + n) }
  | none => s

/-- The TCLK cycles of a RUN. -/
def State.runLen (s : State) : Nat := max 1 (s.rf R.sailPeriod F.sailPeriod_PERIOD - s.rf R.sailPeriod F.sailPeriod_QUIET - 100)

/-- A RUN's sweeps and scrubs as far as they have come: of the bytes of a sailing the part whose cycles have passed, each cycle counted by
its toll scale (R333, R334, R502). -/
def State.cleanMove (s : State) : State :=
  let part (rate : Nat) : Nat := rate * s.sec.cleanCr / (8 * s.runLen)
  let r := part s.rotRate
  let c := part s.scrubRate
  let s1 := (s.sec.sweeps.map (·.1)).foldl (fun s o => s.sweepStep o (r - s.sec.cleanRot)) s
  let s2 := (s1.sec.scrubs.map (·.1)).foldl (fun s o => s.scrubStep o (c - s.sec.cleanScr)) s1
  s2.setSec { s2.sec with cleanRot := max s2.sec.cleanRot r, cleanScr := max s2.sec.cleanScr c }

/-- Sweeps and scrubs brought up to this cycle of a RUN. -/
def State.cleanNow (s : State) : State := if s.time.stage = .run then s.cleanTick.cleanMove else s

/-- SWEEP_DONE: the last line has been written; SWEEP clears at C0 of the next sailing. -/
def execSweepDone (owner : Nat) (s : State) : Host.Outcome State Fault Refusal :=
  let s := s.cleanNow
  match mget s.sec.sweeps owner with
  | some d =>
    if d < s.carveBytes owner then .next s
    else .next (s.setSec { s.sec with sweeps := mdel s.sec.sweeps owner, swept := mput s.sec.swept owner s.sail })
  | none => .next s

/-- SCRUB_DONE: the overwrite's last write is observable; the bits clear at the next I0. -/
def execScrubDone (owner : Nat) (s : State) : Host.Outcome State Fault Refusal :=
  let s := s.cleanNow
  match mget s.sec.scrubs owner with
  | some d =>
    if d < s.carveBytes owner then .next s
    else .next (s.setSec { s.sec with scrubs := mdel s.sec.scrubs owner, scrubbed := nins s.sec.scrubbed owner })
  | none => .next s

/-- I0: SAL_SCRUB and PCI_FLR clear, CLEAN is set, and the owner's key falls due at this INTAKE's I2. -/
def State.scrubsEnd (s : State) : State :=
  s.sec.scrubbed.foldl (fun s o =>
    let s1 := ((s.rset (R.salScrub (o / 64)) ⟨o % 64, 1⟩ 0).rset R.salStatus F.salStatus_SCRUBS
      (s.rf R.salStatus F.salStatus_SCRUBS - 1)).rset (R.salKey o) F.salKey_CLEAN 1
    let s2 := if o < 4096 then s1.rset (R.pciFlr (o / 64)) ⟨o % 64, 1⟩ 0 else s1
    s2.setSec { s2.sec with
                            scrubbed := nrem s2.sec.scrubbed o,
                            keysDue := if s2.ownerDefined o then nins s2.sec.keysDue o else s2.sec.keysDue }) s

/-- A rotation in force: a new key, CUR flips, the sweep starts (R554). -/
def State.rotateKey (s : State) (o : Nat) : State :=
  let cur := s.rf (R.salKey o) F.salKey_CUR
  let s1 := ((s.freshKey o (1 - cur) (1 - cur)).rset (R.salKey o) F.salKey_SWEEP 1).rset (R.salKey o) F.salKey_SWEPT 0
  s1.setSec { s1.sec with sweeps := mput s1.sec.sweeps o 0 }

/-- Owners with a RETIRE that waits for a sweep that has ended. -/
def State.retirePend (s : State) : List Nat :=
  (s.heap.keys.map (·.1)).filter (fun o =>
    decide (s.rf (R.salKey o) F.salKey_RETIRE_PEND = 1) && decide (s.rf (R.salKey o) F.salKey_SWEEP = 0))

/-- Keys at I2 (R32, R553, R554, R556): retirements, rotations, scrubs of torn-down tenants, keys that fell due;
rotations, scrubs and new keys wait while the generator fails (R548). -/
def State.keysI2 (s : State) : State :=
  let pend := s.retirePend
  let s1 := (s.intake.retire ++ pend).foldl (fun s o => if s.otherInUse o then s.retireKey o else s) s
  let s2 := pend.foldl (fun s o => s.rset (R.salKey o) F.salKey_RETIRE_PEND 0) s1
  let s3 := if s2.drbgOk then s2.intake.rotate.foldl (fun s o => s.rotateKey o) s2
    else s2.setSec { s2.sec with rotate := s2.intake.rotate.foldl nins s2.sec.rotate }
  let s4 : State := { s3 with intake := { s3.intake with rotate := [], retire := [] } }
  let s5 := s4.sec.tearNow.foldl (fun s t => s.releaseTenant t) s4
  if s5.drbgOk then
    let s6 := s5.sec.tearNow.foldl (fun s t => s.scrubStart t) s5
    let s7 := s6.setSec { s6.sec with tearNow := [] }
    (s7.sec.keysDue.foldl (fun s o => s.freshKey o 0 0) s7).setSec { s7.sec with keysDue := [] }
  else s5

/-! ### The random generator (R548) -/

def execDrbgFail (s : State) : Host.Outcome State Fault Refusal :=
  let s1 := ((s.rset R.salStatus F.salStatus_DRBG_OK 0).rset R.salEvent F.salEvent_DRBG_FAIL 1).captureAt R.salErr capStd 1
  .next (s1.errBare clsDegrading 0x10 1 0)

def execDrbgOkReturn (s : State) : Host.Outcome State Fault Refusal := .next (s.rset R.salStatus F.salStatus_DRBG_OK 1)

/-- A number of 64 bits drawn. -/
def State.draw (s : State) : State × Nat :=
  (s.setSec { s.sec with draws := s.sec.draws + 1 }, (Config.drawn s.sec.draws).toNat)

/-! ### TDISP and IDE (R557 to R562) -/

/-- A message that is no signed response: GET_PQ_SIG cannot follow it (R568). -/
def State.unsigned (s : State) : State := s.setSec { s.sec with signed := none }

/-- A TDISP response: its code, the tenant, its fields. -/
def State.tdisp (s : State) (code tenant : Nat) (args : List Nat) : State := s.unsigned.send .spdm ([0x100 + code, tenant] ++ args) []

/-- TDISP_ERROR. -/
def State.tdispErr (s : State) (tenant : Nat) : State := s.tdisp 0x7F tenant []

/-- Entry to ERROR tears the tenant down (R562). -/
def State.tdiError (s : State) (t : Nat) : State := (s.setTdi t 3).teardown t

/-- A failed request: in RUN it leads to ERROR (R562). -/
def State.tdispFail (s : State) (t : Nat) : State :=
  let s1 := s.tdispErr t
  if s.tdi t = 2 then s1.tdiError t else s1

def execTdispGetVersion (tenant : Nat) (s : State) : Host.Outcome State Fault Refusal := .next (s.tdisp 1 tenant [0x10])

def execTdispGetCapabilities (tenant : Nat) (s : State) : Host.Outcome State Fault Refusal := .next (s.tdisp 2 tenant [])

/-- The conditions of R558. -/
def State.lockable (s : State) (t stream : Nat) : Bool :=
  decide (s.rf R.brgStatus F.brgStatus_STATE = 1) && (s.lcs == 1 || s.lcs == 2) &&
  (match s.mf with
    | some m => bitOf m.tdiMap t
    | none => false) &&
  (match s.partOf t with
    | some p => decide ((s.tenRecs.filter (fun (r : TenRec) => r.part = p)).length = 1)
    | none => false) &&
  decide (s.rf (R.dtuCtxRoot t) F.dtuCtxRoot_ROOT * 2 ^ 12 / 2 ^ 48 = 14) &&
  !((List.range 8).any (fun v => (List.range 16).any (fun w =>
    decide (s.rf (R.slipWinIn v w) F.slipWinIn_EN = 1) && decide (s.rf (R.slipWinInTgt v w) F.slipWinInTgt_TENANT = t)))) &&
  s.sec.ide.contains stream && !(s.scrubPending t)

/-- LOCK_INTERFACE: refused with LOCK_REFUSED, or CONFIG_LOCKED with the nonce START must bring. -/
def execLockInterface (tenant stream : Nat) (s : State) : Host.Outcome State Fault Refusal :=
  if s.tdi tenant ≠ 0 then .next (s.tdispFail tenant)
  else if s.lockable tenant stream then
    let d := s.draw
    let s1 := d.1.setSec { d.1.sec with stream := mput d.1.sec.stream tenant stream, nonce := mput d.1.sec.nonce tenant d.2 }
    .next ((s1.setTdi tenant 1).tdisp 3 tenant [d.2])
  else .next ((s.rset R.salEvent F.salEvent_LOCK_REFUSED 1).tdispErr tenant)

/-- The report is given of a locked interface. -/
def execGetDeviceInterfaceReport (tenant : Nat) (s : State) : Host.Outcome State Fault Refusal :=
  if s.tdiHeld tenant then .next (s.tdisp 4 tenant [s.tdi tenant, mgetD s.sec.stream tenant 0]) else .next (s.tdispFail tenant)

def execGetDeviceInterfaceState (tenant : Nat) (s : State) : Host.Outcome State Fault Refusal :=
  .next (s.tdisp 5 tenant [s.tdi tenant])

/-- START_INTERFACE: from CONFIG_LOCKED with the nonce of its LOCK to RUN. -/
def execStartInterface (tenant nonce : Nat) (s : State) : Host.Outcome State Fault Refusal :=
  if s.tdi tenant = 1 ∧ mget s.sec.nonce tenant = some nonce then
    let s1 := s.setSec { s.sec with nonce := mdel s.sec.nonce tenant }
    .next ((s1.setTdi tenant 2).tdisp 6 tenant [])
  else .next (s.tdispFail tenant)

/-- STOP_INTERFACE: CONFIG_UNLOCKED, the tenant torn down where it was held. -/
def execStopInterface (tenant : Nat) (s : State) : Host.Outcome State Fault Refusal :=
  let s1 := (s.setTdi tenant 0).tdisp 7 tenant []
  .next (if s.tdiHeld tenant then s1.teardown tenant else s1)

/-- IDE_KM: keys of a selective stream programmed and the stream brought to Secure, or stopped. -/
def execIdeKm (stream : Nat) (secure : Bool) (s : State) : Host.Outcome State Fault Refusal :=
  .next ((s.setSec { s.sec with ide := if secure then nins s.sec.ide stream else nrem s.sec.ide stream }).unsigned.send .spdm
    [0x200, stream, b2n secure] [])

/-- An integrity failure of a stream: its TDIs enter ERROR (R562). -/
def execIdeIntegrity (stream : Nat) (s : State) : Host.Outcome State Fault Refusal :=
  let s1 := ((s.captureAt R.salErr capStd 4).rset R.salEvent F.salEvent_IDE_FAIL 1)
  let s2 := s1.setSec { s1.sec with ide := nrem s1.sec.ide stream }
  let ts := (s2.sec.stream.filter (fun p => decide (p.2 = stream) && s2.tdiHeld p.1)).map (·.1)
  .next (ts.foldl (fun s t => s.tdiError t) s2)

/-! ### Measurements (R569, R570) -/

/-- The tenant-table entry of a tenant (R570). -/
def State.tenantEntry (s : State) (t : Nat) : List Byte :=
  let progs := s.progs.filter (fun p => match s.progRec p.1 with
    | some r => decide (r.tenant = t)
    | none => false)
  leBytes 2 t ++ leBytes 2 (b2n (s.tdiHeld t)) ++
    digestBytes (Config.sha384 (progs.flatMap (fun p => leBytes 2 p.1 ++ leBytes 48 p.2.digest))) ++
    digestBytes (Config.sha384 ((List.range 16).flatMap (fun i => match mget s.sec.wgt (t * 16 + i) with
      | some d => leBytes 48 d
      | none => List.replicate 48 0)))

/-- A byte string with n bytes from an offset zeroed. -/
def zeroAt (l : List Byte) (o n : Nat) : List Byte := l.take o ++ List.replicate (min n (l.length - o)) 0 ++ l.drop (o + n)

/-- The pair digest (R531): over the manifest's bytes up to its TRAILER, the TWIN body zeroed. -/
def Manifest.pairDigest (m : Manifest) : Nat :=
  let b := m.bytes.take (m.bytes.length - 3421)
  match m.sects.find? (fun x => x.typ = 0xC0) with
  | some x => digestNum (Config.sha384 (zeroAt b (x.off + 8) x.body.length))
  | none => digestNum (Config.sha384 b)

/-- The pair digest of the manifest in force. -/
def State.pairDigest (s : State) : Nat :=
  match s.mf with
  | some m => m.pairDigest
  | none => 0

/-- A measurement block's value (R569). -/
def State.measBlock (s : State) (i : Nat) : Option (List Byte) :=
  if i = 1 then some (digestBytes Config.romDigest)
  else if i = 2 then some (leBytes 48 s.sec.fwMeas)
  else if i = 3 then some (leBytes 8 s.sec.fwSvn)
  else if i = 4 then some ((List.range 6).flatMap (fun j => leBytes 8 (s.rv (R.manDigest j)).toNat) ++
      leBytes 8 (s.rv R.manSvn).toNat ++ leBytes 8 (s.rv R.manSerial).toNat)
  else if i = 5 then some (leBytes 1 s.lcs)
  else if i = 6 then some (leBytes 1 (b2n s.conf + 2 * s.rf R.salStatus F.salStatus_DEBUG + 4 * s.rf R.salStatus F.salStatus_TRACE))
  else if i = 7 then some (digestBytes (Config.sha384 (leBytes 48 s.fuses.manEd ++ leBytes 48 s.fuses.manMl ++
      leBytes 48 s.fuses.dbgEd ++ leBytes 48 s.fuses.dbgMl ++ leBytes 48 s.fuses.tokInt ++ leBytes 48 s.fuses.tokFld ++
      leBytes 48 s.fuses.tokRet ++ leBytes 48 s.fuses.tokScr ++ leBytes 8 s.fuses.manSvn ++ leBytes 8 s.fuses.fwSvn ++
      leBytes 4 s.fuses.subsys ++ leBytes 8 s.fuses.vmin)))
  else if i = 8 then
    let tw := match s.mf with
      | some m => m.twin
      | none => none
    some (leBytes 1 (match tw with
      | some t => t.role
      | none => 0) ++ leBytes 8 (s.rv (R.twinPart 0)).toNat ++ leBytes 8 (s.rv (R.twinPart 1)).toNat ++
      leBytes 8 (match tw with
        | some t => t.peer
        | none => 0) ++ leBytes 48 s.pairDigest)
  else if 0x40 ≤ i ∧ i ≤ 0x7F then some ((List.range 64).flatMap (fun k => s.tenantEntry (64 * (i - 0x40) + k)))
  else none

/-- Every index that has a block: 72 of them. -/
def measIndices : List Nat := [1, 2, 3, 4, 5, 6, 7, 8] ++ (List.range 64).map (· + 0x40)

/-! ### SPDM (R568) -/

/-- An SPDM response; its code, and whether the response was signed and so lets GET_PQ_SIG follow. -/
def State.spdm (s : State) (code : Nat) (args : List Nat) (data : List Byte) (signed : Option (List Byte)) : State :=
  (s.setSec { s.sec with signed := signed }).send .spdm (code :: args) data

/-- SPDM ERROR with a code: 0x04 UnexpectedRequest, 0x01 InvalidRequest, 0x03 Busy. -/
def State.spdmErr (s : State) (code : Nat) : State := s.spdm 0x7F [code] [] none

/-- The bytes of a chain from an offset; slots 0 and 1 exist (R550). -/
def execSpdmGetCertificate (slot off len : Nat) (s : State) : Host.Outcome State Fault Refusal :=
  if slot ≤ 1 then
    .next (s.spdm 0x02 [slot, off] (slice (Config.certChain slot (BitVec.ofNat 384 s.sec.fwMeas) s.fuses.serial) off len) none)
  else .next (s.spdmErr 1)

/-- A response signed by the Alias Ed25519 key over its message. -/
def State.spdmSigned (s : State) (code : Nat) (args : List Nat) (data nonce : List Byte) : State :=
  let msg := leBytes 1 code ++ nonce ++ data
  s.spdm code args (data ++ Config.edSign 1 msg) (some msg)

def execSpdmChallenge (slot : Nat) (nonce : List Byte) (s : State) : Host.Outcome State Fault Refusal :=
  if slot ≤ 1 then
    .next (s.spdmSigned 0x03 [slot]
      (digestBytes (Config.sha384 (Config.certChain slot (BitVec.ofNat 384 s.sec.fwMeas) s.fuses.serial))) nonce)
  else .next (s.spdmErr 1)

/-- One block, or all of them for index 0xFF. -/
def execSpdmGetMeasurements (index : Nat) (nonce : List Byte) (s : State) : Host.Outcome State Fault Refusal :=
  if index = 0xFF then
    .next (s.spdmSigned 0x60 [measIndices.length] (measIndices.flatMap (fun i => leBytes 1 i ++ (s.measBlock i).getD [])) nonce)
  else match s.measBlock index with
    | some b => .next (s.spdmSigned 0x60 [1] (leBytes 1 index ++ b) nonce)
    | none => .next (s.spdmErr 1)

/-- KEY_EXCHANGE: a new session, up to 8 on a transport, while the generator is healthy (R548, R568). -/
def execSpdmKeyExchange (transport : Nat) (exchange : List Byte) (s : State) : Host.Outcome State Fault Refusal :=
  let n := mgetD s.sec.sessions transport 0
  if s.drbgOk = false ∨ n ≥ 8 then .next (s.spdmErr 3)
  else
    let s1 := s.setSec { s.sec with sessions := mput s.sec.sessions transport (n + 1) }
    .next (s1.spdmSigned 0x64 [transport, n] (exchange) [])

/-- GET_PQ_SIG: the ML-DSA-65 signature over the bytes of the signed response just before it, else UnexpectedRequest. -/
def execGetPqSig (s : State) : Host.Outcome State Fault Refusal :=
  match s.sec.signed with
  | some m => .next (s.spdm 0x7E [] (Config.mlSign 1 m) none)
  | none => .next (s.spdmErr 4)

/-! ### Weight measurement (R571, R575) -/

/-- TMEAS_GO: VA, LEN and SLOT captured; LEN 0 empties the slot at the next I0; ignored while BUSY. -/
def State.tmeasGo (s : State) (tenant : Nat) : State :=
  if s.rf (R.tmeasStatus tenant) F.tmeasStatus_STATE = 1 then s
  else
    let slot := s.rf (R.tmeasCtl tenant) F.tmeasCtl_SLOT
    let len := s.rf (R.tmeasLen tenant) F.tmeasLen_LEN / 64 * 64
    let s1 := (s.rset (R.tmeasStatus tenant) F.tmeasStatus_STATE 1).rset (R.tmeasStatus tenant) F.tmeasStatus_CAUSE 0
    if len = 0 then (s1.setSec { s1.sec with wgtDue := s1.sec.wgtDue ++ [(tenant, slot, none)] })
    else (s1.setSec { s1.sec with
      tmeas := mput s1.sec.tmeas tenant ⟨s.rf (R.tmeasVa tenant) F.tmeasVa_VA * 64, len, slot⟩ })

def execTmeasGo (tenant : Nat) (s : State) : Host.Outcome State Fault Refusal := .next (s.tmeasGo tenant)

/-- The measurement fails with a cause; the slot stays. -/
def State.tmeasFail (s : State) (t cause : Nat) : State :=
  ((s.setSec { s.sec with tmeas := mdel s.sec.tmeas t }).rset (R.tmeasStatus t) F.tmeasStatus_STATE 3).rset (R.tmeasStatus t)
    F.tmeasStatus_CAUSE cause

/-- TMEAS_DONE: the range read through the tenant's translation; its digest goes into the slot at the next I0. -/
def execTmeasDone (tenant : Nat) (s : State) : Host.Outcome State Fault Refusal :=
  match mget s.sec.tmeas tenant with
  | some m =>
    let rs := [(m.va, m.len)]
    let f := s.dmaXlate [6, tenant] false tenant rs
    let n := f.1.linesNew ringAgentId f.2.pas
    if f.2.wait then .next f.1
    else match f.2.fails with
      | x :: _ => .next ((f.1.pageFails tenant f.2.fails none false).tmeasFail tenant (if x.2 = cPerm then 2 else 1))
      | [] =>
        if f.1.piecesReady [6, tenant] ringAgentId 1 f.2.pas && f.1.tollOk [6, tenant] ringAgentId n then
          let g := ((f.1.unkeep [6, tenant] false rs).chargeFor [6, tenant] ringAgentId n).getPieces [6, tenant] ringAgentId 1
            (tenant + 1) f.2.pas
          let b := g.1.ringBads tenant g.2.bad
          if g.2.remFail ≠ [] then .next (b.1.tmeasFail tenant 3)
          else
            let s1 := b.1.setSec { b.1.sec with
              tmeas := mdel b.1.sec.tmeas tenant,
              wgtDue := b.1.sec.wgtDue ++ [(tenant, m.slot, some (digestNum (Config.sha384 g.2.data)))] }
            .next s1
        else .next ((f.1.openReads [6, tenant] ringAgentId 1 (tenant + 1) f.2.pas).payFor [6, tenant] ringAgentId n)
  | none => .next s

/-- I0: weight slots take their digests, and TMEAS_STATUS reads DONE. -/
def State.wgtI0 (s : State) : State :=
  let s1 := s.sec.wgtDue.foldl (fun s x =>
    (s.setSec { s.sec with wgt := mset s.sec.wgt (x.1 * 16 + x.2.1) x.2.2 }).rset (R.tmeasStatus x.1) F.tmeasStatus_STATE 2) s
  s1.setSec { s1.sec with wgtDue := [] }

end Sys2Proof.Machine
end

