-- ==== Sys2Proof/Machine/Flash.lean ====
section
/-! DEFINITION. Flash records in two copies (R486, R487), the repair map's values, the fuse field of the life cycle. -/

namespace Sys2Proof.Machine

/-! ### Records -/

/-- The copy in force: the valid one with the higher SEQ. -/
def FPair.inForce (p : FPair) : Option FRec :=
  match p.a, p.b with
  | some x, some y => if x.seq < y.seq then some y else some x
  | some x, none => some x
  | none, y => y

/-- A record written: to an invalid copy or the one with the lower SEQ, one above the other copy's. -/
def FPair.write (p : FPair) (dsn : Nat) (vals : NMap Nat) (bytes : List Byte) : FPair :=
  match p.a, p.b with
  | none, none => ⟨some ⟨1, dsn, vals, bytes⟩, none⟩
  | none, some y => ⟨some ⟨y.seq + 1, dsn, vals, bytes⟩, p.b⟩
  | some x, none => ⟨p.a, some ⟨x.seq + 1, dsn, vals, bytes⟩⟩
  | some x, some y =>
    if x.seq < y.seq then ⟨some ⟨y.seq + 1, dsn, vals, bytes⟩, p.b⟩
    else ⟨p.a, some ⟨x.seq + 1, dsn, vals, bytes⟩⟩

def State.setFlash (s : State) (x : FlashSt) : State := { s with flash := x }

/-! ### The repair map (R487)

Its values by number: 0 IN_PROGRESS, 1 FULL_NEXT, 2 the warm-start count, 3 whether the last start ended in FATAL, 4
HOLD_NEXT, 5 SAMPLE; from 2^32 up, the registers of the units' repair state by key. -/

/-- The values of the repair map in force. -/
def State.repairVals (s : State) : NMap Nat :=
  match s.flash.repair.inForce with
  | some r => r.vals
  | none => []

/-- A value of the repair map; none without a valid map. -/
def State.repairVal (s : State) (i : Nat) : Option Nat := (s.flash.repair.inForce).map (fun r => mgetD r.vals i 0)

/-- The repair map written with new values; without a flash that takes writes, nothing changes (R486). -/
def State.putRepair (s : State) (vals : NMap Nat) : State :=
  if s.flash.good then s.setFlash { s.flash with repair := s.flash.repair.write s.fuses.serial vals [] } else s

/-- One value recorded in the repair map; a map written for the first time shows that no MEMTEST has ended. -/
def State.recordRepair (s : State) (i x : Nat) : State :=
  match s.flash.repair.inForce with
  | some r => s.putRepair (mput r.vals i x)
  | none => s.putRepair (mput (mput [] 0 1) i x)

/-- Registers whose state the repair map keeps (R487). -/
def repairReg : RegName → Bool
  | .teStatus | .teSpare | .tileVrepair | .tileLlcSpare | .tileStatus | .lrsCh | .lrsLost => true
  | _ => false

/-- A row as one number, from 2^40 up; the repair map holds 1 for one that a spare row replaces, 2 for a fenced one. -/
def rowKey (x : Nat × Nat × Nat × Nat) : Nat := 2 ^ 40 + ((x.1 * 16 + x.2.1) * 16 + x.2.2.1) * 2 ^ 20 + x.2.2.2

def rowOfKey (k : Nat) : Nat × Nat × Nat × Nat :=
  let n := (k - 2 ^ 40) / 2 ^ 20
  (n / 256, n / 16 % 16, n % 16, k % 2 ^ 20)

/-- The units' repair state as it stands. -/
def State.repairImage (s : State) : NMap Nat :=
  let regs := (s.regs.filter (fun p => match regOf p.1 with
    | some (d, _) => repairReg d.name
    | none => false)).map (fun p => (2 ^ 32 + p.1, p.2.toNat))
  let m := s.heap.repaired.foldl (fun m x => mput m (rowKey x) 1) regs
  s.heap.fenced.foldl (fun m x => mput m (rowKey x) 2) m

/-- Firmware saves the repair state in the repair map, where there is one (R99, R204, R487). -/
def State.saveRepair (s : State) : State :=
  match s.flash.repair.inForce with
  | some r => s.putRepair ((r.vals.filter (fun p => decide (p.1 < 2 ^ 32))) ++ s.repairImage)
  | none => s

/-! ### The training record (R480, R486) -/

/-- The key of a partner's settings: of a stack (0) by its serial number, of a slip's chiplet (1) by VENDOR, PRODUCT and REVISION, of the
twin (2) by the peer's serial number. -/
def trainKey (kind id : Nat) : Nat := 3 * id + kind

/-- The settings saved, where the record names this hub. -/
def State.ownTrain (s : State) : NMap Nat :=
  match s.flash.train.inForce with
  | some r => if r.dsn = s.fuses.serial then r.vals else []
  | none => []

/-- The settings a port trains to: those saved for its partner, or those of a training in full, which no rule gives: a free value (log 209). -/
def State.settingsOf (s : State) (key port : Nat) : Nat := (mget s.ownTrain key).getD (Config.freeValue s.fresh port)

/-- A partner's settings saved; without a flash that takes writes, nothing changes (R486). -/
def State.saveTrain (s : State) (key x : Nat) : State :=
  if s.flash.good && decide (mget s.ownTrain key ≠ some x) then
    s.setFlash { s.flash with train := s.flash.train.write s.fuses.serial (mput s.ownTrain key x) [] }
  else s

/-! ### The life-cycle field (R576, R577) -/

/-- The codeword of a state. -/
def lcWord : Nat → Nat
  | 0 => 0
  | 1 => 2 ^ 32 - 1
  | 2 => 2 ^ 64 - 1
  | 3 => 2 ^ 96 - 1
  | _ => 2 ^ 128 - 1

/-- The state a field value decodes to; any other value is LOCKED. -/
def lcDecode (v : Nat) : Nat :=
  if v = lcWord 0 then 0 else if v = lcWord 1 then 1 else if v = lcWord 2 then 2 else if v = lcWord 3 then 3
  else if v = lcWord 4 then 4 else 7

/-- LCS_STATUS.NEXT and LCS_FIELD show the fuses as they are now. -/
def State.showField (s : State) : State :=
  ((s.rset R.lcsStatus F.lcsStatus_NEXT (lcDecode s.fuses.lc)).rset (R.lcsField 0) F.lcsField_RAW (s.fuses.lc % 2 ^ 64)).rset
    (R.lcsField 1) F.lcsField_RAW (s.fuses.lc / 2 ^ 64)

def State.setFuses (s : State) (x : FuseSt) : State := { s with fuses := x }

end Sys2Proof.Machine
end

