-- ==== Sys2Proof/Machine/Life.lean ====
section
/-! DEFINITION. The LCS block (R578 to R589): transitions of the life cycle, fuse fields, challenges and debug
authorisations. A command's route is 0 PF0, 1 MCTP, 2 JTAG; over MCTP the command carries its buffer. -/

namespace Sys2Proof.Machine

/-! ### The end of a command (R580, R588) -/

/-- Result codes. -/
def lcsOk : Nat := 1
def lcsBadToken : Nat := 2
def lcsBadTransition : Nat := 3
def lcsHubActive : Nat := 4
def lcsMissing : Nat := 5
def lcsFuseFail : Nat := 6
def lcsBadSig : Nat := 7
def lcsBadChal : Nat := 8
def lcsConf : Nat := 9
def lcsFieldSet : Nat := 0x0A
def lcsRoute : Nat := 0x0B
def lcsBadFormat : Nat := 0x0C
def lcsBadScope : Nat := 0x0D
def lcsWipeFail : Nat := 0x0E

/-- LCS_BUF zeroed. -/
def State.zeroBuf (s : State) : State :=
  { s with regs := s.regs.filter (fun p => !(decide (R.lcsBuf 0 ≤ p.1) && decide (p.1 < R.lcsBuf 1024))) }

/-- A command ends: its result, DONE or FAILED, the buffer zeroed. -/
def State.lcsEnd (s : State) (r : Nat) : State :=
  ((s.rset R.lcsStatus F.lcsStatus_RESULT r).rset R.lcsStatus F.lcsStatus_CMD (if r = lcsOk then 2 else 3)).zeroBuf

/-- The bytes of LCS_BUF. -/
def State.bufBytes (s : State) (n : Nat) : List Byte :=
  ((List.range ((n + 7) / 8)).flatMap (fun i => leBytes 8 (s.rv (R.lcsBuf i)).toNat)).take n

/-- n bytes of a command's buffer. -/
def State.lcsBytes (s : State) (route : Nat) (buf : List Byte) (n : Nat) : List Byte :=
  if route = 1 then (buf ++ List.replicate n 0).take n else s.bufBytes n

/-! ### Transitions (R578 to R582) -/

/-- The transitions: from, to. -/
def lcsPairs : List (Nat × Nat) := [(0, 1), (1, 2), (2, 3), (0, 4), (1, 4), (2, 4), (3, 4)]

/-- The token digest of a transition. -/
def FuseSt.tokenOf (f : FuseSt) (dest : Nat) : Nat :=
  if dest = 1 then f.tokInt else if dest = 2 then f.tokFld else if dest = 3 then f.tokRet else f.tokScr

/-- A digest field that accepts nothing: all zeros or all ones. -/
def digestOpen (d : Nat) : Bool := d ≠ 0 && d ≠ 2 ^ 384 - 1

/-- A token matches a transition's digest. -/
def FuseSt.tokenOk (f : FuseSt) (dest : Nat) (token : List Byte) : Bool :=
  digestOpen (f.tokenOf dest) && decide (digestNum (Config.sha384 token) = f.tokenOf dest)

/-- The fields a transition requires are programmed. -/
def FuseSt.fieldsFor (f : FuseSt) (dest : Nat) : Bool :=
  if dest = 1 then f.uds ≠ 0 && f.serial ≠ 0 && f.certs
  else if dest = 2 then f.manEd ≠ 0 && f.manMl ≠ 0 && f.dbgEd ≠ 0 && f.dbgMl ≠ 0 && f.tokRet ≠ 0
  else true

/-- A field value lies between two codewords, bit for bit (R582). -/
def lcBetween (v lo hi : Nat) : Bool := decide (lo &&& v = lo) && decide (v &&& hi = v)

/-- The wipe (R581). bad: the erasure of the user region fails. -/
def State.wipe (s : State) (bad : Bool) : State :=
  let s1 := (s.heap.keys.map (·.1)).foldl (fun s o => s.setKeys o (none, none) (s.rf (R.salKey o) F.salKey_CUR)) s
  let s2 : State := { s1 with sec := { s1.sec with sessions := [] }, twin := { s1.twin with keyed := false } }
  if bad then s2
  else
    (s2.setFlash { s2.flash with user := [] }).setFuses { s2.fuses with
      fsec := s2.fuses.fsec ||| (2 ^ 256 - 1), manEd := s2.fuses.manEd ||| (2 ^ 384 - 1), manMl := s2.fuses.manMl ||| (2 ^ 384 - 1),
      dbgEd := s2.fuses.dbgEd ||| (2 ^ 384 - 1), dbgMl := s2.fuses.dbgMl ||| (2 ^ 384 - 1) }

/-- The missing bits of a codeword programmed in ascending order, at most n of them. -/
def programBits (v dest : Nat) : Nat → Nat → Nat
  | 0, _ => v
  | k + 1, n =>
    let i := 127 - k
    if n = 0 then v
    else if bitOf dest i && !(bitOf v i) then programBits (setBit v i true) dest k (n - 1)
    else programBits v dest k n

/-- Steps 3 to 6 of R580 toward a state, and the result. fail: 0 nothing fails, 1 the wipe, 2 a fuse of the extra action,
3 + n the codeword's programming after n bits. -/
def State.transitTo (s : State) (dest fail : Nat) : State × Nat :=
  let s1 := s.revokeDebug
  let s2 := if dest = 3 ∨ dest = 4 then s1.wipe (decide (fail = 1)) else s1
  if (dest = 3 ∨ dest = 4) ∧ fail = 1 then (s2, lcsWipeFail)
  else if (dest = 2 ∨ dest = 4) ∧ fail = 2 then (s2, lcsFuseFail)
  else if dest = 2 ∧ s2.drbgOk = false then (s2, lcsFuseFail)
  else
    let s3 := if dest = 2 then
        let d := s2.sec.draws
        (s2.setFuses { s2.fuses with
          fsec := s2.fuses.fsec ||| (List.range 4).foldl (fun v i => v + (Config.drawn (d + i)).toNat * 2 ^ (64 * i)) 0 }).setSec
          { s2.sec with draws := d + 4 }
      else if dest = 4 then s2.setFuses { s2.fuses with uds := s2.fuses.uds ||| (2 ^ 256 - 1) }
      else s2
    let v := programBits s3.fuses.lc (lcWord dest) 128 (if 3 ≤ fail then fail - 3 else 128)
    let s4 := (s3.setFuses { s3.fuses with lc := v }).showField
    (s4, if v = lcWord dest then lcsOk else lcsFuseFail)

/-- BRG_STATUS.STATE: 0 BRING_UP, 1 READY, 2 HELD, 3 LOCKED, 4 FATAL. -/
def State.brgState (s : State) : Nat := s.rf R.brgStatus F.brgStatus_STATE

/-- READY or FATAL: no transition is accepted (R579). -/
def State.hubActive (s : State) : Bool := s.brgState = 1 || s.brgState = 4

/-- In LOCKED, the transitions whose codewords the field lies between (R582); over JTAG only MAKER to INTEGRATOR (R584). -/
def State.recoverable (s : State) (route : Nat) : List (Nat × Nat) :=
  lcsPairs.filter (fun p => lcBetween s.fuses.lc (lcWord p.1) (lcWord p.2) && (route ≠ 2 || p == (0, 1)))

/-- TRANSITION (R580, R582): the state it leaves and its result. -/
def State.lcsTransition (s : State) (route dest fail : Nat) (token : List Byte) : State × Nat :=
  if s.lcs = 4 then (s, lcsBadTransition)
  else if s.lcs = 7 then
    let fits := lcsPairs.filter (fun p => lcBetween s.fuses.lc (lcWord p.1) (lcWord p.2))
    let open_ := s.recoverable route
    if fits.isEmpty then (s, lcsBadTransition)
    else if open_.isEmpty then (s, lcsRoute)
    else match open_.find? (fun p => s.fuses.tokenOk p.2 token) with
      | some p => s.transitTo p.2 fail
      | none => (s, lcsBadToken)
  else if route = 2 ∧ s.lcs ≠ 0 then (s, lcsRoute)
  else if lcsPairs.contains (s.lcs, dest) = false then (s, lcsBadTransition)
  else if s.fuses.fieldsFor dest = false then (s, lcsMissing)
  else if s.hubActive then (s, lcsHubActive)
  else if s.fuses.tokenOk dest token then s.transitTo dest fail
  else (s, lcsBadToken)

/-- LCS_CMD holds the operand, and no command starts while one runs (R584). -/
def State.lcsRun (s : State) (arg : Option Nat) (f : State → State × Nat) : State :=
  if s.rf R.lcsStatus F.lcsStatus_CMD = 1 then s
  else
    let s1 := match arg with
      | some a => s.rset R.lcsCmd F.lcsCmd_ARG a
      | none => s
    let r := f s1
    r.1.lcsEnd r.2

def State.doTransition (s : State) (route dest fail : Nat) (buf : List Byte) : State :=
  s.lcsRun (some dest) (fun s => s.lcsTransition route dest fail (s.lcsBytes route buf 32))

def execTransition (route dest fail : Nat) (buf : List Byte) (s : State) : Host.Outcome State Fault Refusal :=
  .next (s.doTransition route dest fail buf)

/-! ### Fuse fields (R583) -/

/-- A signature pair over a message under keys whose digests are given (R549). -/
def sigPairOk (ed ml : Nat) (msg edSig mlSig : List Byte) : Bool :=
  digestOpen ed && digestOpen ml &&
  Config.edVerify (Config.keyOf (BitVec.ofNat 384 ed)) msg edSig && Config.mlVerify (Config.keyOf (BitVec.ofNat 384 ml)) msg mlSig

/-- The signed bytes of a floor: SHA-384 of the serial number, the ID and the value. -/
def floorMsg (serial id value : Nat) : List Byte :=
  digestBytes (Config.sha384 (leBytes 8 serial ++ leBytes 1 id ++ leBytes 8 value))

/-- The bytes of a FUSE field. -/
def fuseSize (id : Nat) : Nat := if id ≤ 6 then 48 else if id = 7 then 4 else 8

/-- What a FUSE field holds now. -/
def FuseSt.fieldOf (f : FuseSt) (id : Nat) : Nat :=
  if id = 1 then f.manEd else if id = 2 then f.manMl else if id = 3 then f.dbgEd else if id = 4 then f.dbgMl
  else if id = 5 then f.tokFld else if id = 6 then f.tokRet else if id = 7 then f.subsys
  else if id = 8 then f.manSvn else f.fwSvn

/-- A FUSE field programmed. -/
def FuseSt.putField (f : FuseSt) (id x : Nat) : FuseSt :=
  { f with
    manEd := if id = 1 then x else f.manEd, manMl := if id = 2 then x else f.manMl,
    dbgEd := if id = 3 then x else f.dbgEd, dbgMl := if id = 4 then x else f.dbgMl,
    tokFld := if id = 5 then x else f.tokFld, tokRet := if id = 6 then x else f.tokRet,
    subsys := if id = 7 then x else f.subsys, manSvn := if id = 8 then x else f.manSvn,
    fwSvn := if id = 9 then x else f.fwSvn }

/-- The states that accept a field. -/
def fuseStates (id : Nat) : List Nat :=
  if 1 ≤ id ∧ id ≤ 7 then [1] else if id = 8 then [1, 2] else if id = 9 then [0, 1, 2] else []

/-- FUSE: the state it leaves and its result. A floor's value is followed in the buffer by its signature pair. -/
def State.lcsFuse (s : State) (route id fail : Nat) (buf : List Byte) : State × Nat :=
  if s.lcs = 4 then (s, lcsBadTransition)
  else if route = 2 ∧ s.lcs ≠ 0 then (s, lcsRoute)
  else if (fuseStates id).contains s.lcs = false then (s, lcsBadTransition)
  else
    let n := fuseSize id
    let x := leNat (slice buf 0 n)
    let old := s.fuses.fieldOf id
    let signed : Bool :=
      if id = 8 ∧ s.lcs = 2 then
        sigPairOk s.fuses.manEd s.fuses.manMl (floorMsg s.fuses.serial id x) (slice buf 8 64) (slice buf 72 3309)
      else if id = 9 then
        sigPairOk (digestNum Config.romKeyEd) (digestNum Config.romKeyMl) (floorMsg s.fuses.serial id x)
          (slice buf 8 64) (slice buf 72 3309)
      else true
    if signed = false then (s, lcsBadSig)
    else if (if id ≥ 8 then decide (old &&& x = old) else decide (old = 0)) = false then (s, lcsFieldSet)
    else if fail ≠ 0 then (s, lcsFuseFail)
    else (s.setFuses (s.fuses.putField id x), lcsOk)

def State.doFuse (s : State) (route id fail : Nat) (buf : List Byte) : State :=
  s.lcsRun (some id) (fun s => s.lcsFuse route id fail (s.lcsBytes route buf 3381))

def execFuse (route id fail : Nat) (buf : List Byte) (s : State) : Host.Outcome State Fault Refusal :=
  .next (s.doFuse route id fail buf)

/-! ### Debug authorisation (R584 to R586) -/

/-- The routes of CHALLENGE, DBG_AUTH and DBG_REVOKE: BAD_TRANSITION in SCRAPPED, ROUTE in LOCKED. -/
def State.dbgRoute (s : State) : Option Nat :=
  if s.lcs = 4 then some lcsBadTransition else if s.lcs = 7 then some lcsRoute else none

/-- LCS_CHAL shows the nonce; none clears it. -/
def State.showNonce (s : State) (n : Option (List Byte)) : State :=
  let b := n.getD (List.replicate 32 0)
  (List.range 4).foldl (fun s i => s.rset (R.lcsChal i) F.lcsChal_NONCE (leAt b (8 * i) 8))
    { s with tap := { s.tap with nonce := n } }

/-- CHALLENGE: a fresh nonce in LCS_CHAL. -/
def State.lcsChallenge (s : State) : State × Nat :=
  match s.dbgRoute with
  | some r => (s, r)
  | none =>
    let s1 := s.showNonce none
    if s1.drbgOk then
      let d := s1.sec.draws
      ((s1.setSec { s1.sec with draws := d + 4 }).showNonce
        (some ((List.range 4).flatMap (fun i => leBytes 8 (Config.drawn (d + i)).toNat))), lcsOk)
    else (s1, lcsBadChal)

def State.challenge (s : State) (route : Nat) : State :=
  (s.lcsRun none (fun s => if route ≤ 2 then s.lcsChallenge else (s, lcsRoute)))

def execChallenge (route : Nat) (s : State) : Host.Outcome State Fault Refusal := .next (s.challenge route)

/-- The scope bits a state offers (R585). -/
def scopeOf (lcs : Nat) : Nat := if lcs = 0 ∨ lcs = 3 then 15 else if lcs = 1 then 15 else if lcs = 2 then 5 else 0

/-- A blob's fixed fields are right (R586). -/
def blobOk (b : List Byte) : Bool :=
  (slice b 0 4 == [0x4A, 0x44, 0x42, 0x47]) && leAt b 4 2 == 1 && leAt b 6 1 < 16 && leAt b 7 1 == 0 &&
  decide (1 ≤ leAt b 48 4) && decide (leAt b 48 4 ≤ 86400) && leAt b 52 12 == 0

/-- DBG_AUTH: a blob and its signature pair; the nonce is spent. -/
def State.lcsAuth (s : State) (b : List Byte) : State × Nat :=
  match s.dbgRoute with
  | some r => (s, r)
  | none =>
    if s.conf then (s, lcsConf)
    else
      let s1 := s.showNonce none
      let blob := slice b 0 64
      let scope := leAt b 6 1
      if blobOk blob = false then (s1, lcsBadFormat)
      else if scope &&& scopeOf s.lcs ≠ scope then (s1, lcsBadScope)
      else if s.tap.nonce ≠ some (slice b 16 32) ∨ leAt b 8 8 ≠ s.fuses.serial then (s1, lcsBadChal)
      else if sigPairOk s.fuses.dbgEd s.fuses.dbgMl (digestBytes (Config.sha384 blob)) (slice b 64 64)
          (slice b 128 3309) = false then (s1, lcsBadSig)
      else (s1.showDebug scope (leAt b 48 4), lcsOk)

def State.doAuth (s : State) (route : Nat) (buf : List Byte) : State :=
  s.lcsRun none (fun s => s.lcsAuth (s.lcsBytes route buf 3437))

def execDbgAuth (route : Nat) (buf : List Byte) (s : State) : Host.Outcome State Fault Refusal :=
  .next (s.doAuth route buf)

/-- DBG_REVOKE: the authorisation in force ends. -/
def State.lcsRevoke (s : State) : State × Nat :=
  match s.dbgRoute with
  | some r => (s, r)
  | none => (s.revokeDebug, lcsOk)

def State.dbgRevoke (s : State) (route : Nat) : State :=
  (s.lcsRun none (fun s => if route ≤ 2 then s.lcsRevoke else (s, lcsRoute)))

def execDbgRevoke (route : Nat) (s : State) : Host.Outcome State Fault Refusal := .next (s.dbgRevoke route)

/-- The lifetime of an authorisation has been counted down: it ends (R586). -/
def execDbgExpire (s : State) : Host.Outcome State Fault Refusal :=
  if s.rf R.salStatus F.salStatus_DEBUG = 1 then .next s.revokeDebug else .next s

end Sys2Proof.Machine
end

