-- ==== Sys2Proof/Machine/ErrSeq.lean ====
section
/-! DEFINITION. The error sequencer (R517 to R521): records, folding, queues, handling, the log ring, and the clearing of
first-error captures. -/

namespace Sys2Proof.Machine

def State.setErr (s : State) (x : ErrSt) : State := { s with err := x }

/-! ### Records (R518, R520) -/

/-- The key of a block's first-error capture register; none for a block without one. -/
def capKeyOf (block unit : Nat) : Option Nat :=
  if block = 0x03 then some (R.teErr unit) else if block = 0x04 then some (R.tileErr unit)
  else if block = 0x05 then some R.cohErr else if block = 0x06 then some R.octErr
  else if block = 0x08 then some (R.slipErr unit) else if block = 0x09 then some (R.lrsErr unit)
  else if block = 0x0A then some R.pciErr else if block = 0x0B then some R.qErr
  else if block = 0x0D then some R.pwrErr else if block = 0x0F then some R.twinErr
  else if block = 0x10 then some R.salErr else if block = 0x12 then some R.fordErr
  else none

/-- The capture register's value now. -/
def State.capOf (s : State) (r : ErrRep) : Nat :=
  match capKeyOf r.block r.unit with
  | some k => (s.rv k).toNat
  | none => 0

/-- The owner of an address: by the carve-up, or of a scratch carve-out. -/
def State.memOwner (s : State) (pa : Nat) : Nat :=
  if resvBase ≤ pa ∧ pa < resvBase + 2 ^ 32 then
    match (s.tenRecs.map (·.tenant)).find? (fun t => inRanges (s.scratchRanges t) pa) with
    | some t => t
    | none => s.ownerOf pa
  else s.ownerOf pa

/-- The address lies in memory of a tenant whose TDI is CONFIG_LOCKED or RUN. -/
def State.addrHidden (s : State) (a : Nat) : Bool :=
  let o := s.memOwner a
  decide (a / 2 ^ 48 = 0) && decide (o < 4096) && s.tdiHeld o

/-- A record's 64 bytes. -/
def ErrRec.bytes (r : ErrRec) : List Byte :=
  let x := r.rep
  let av := x.addr.isSome && !r.hidden
  let flags := b2n av + 2 * b2n x.part.isSome + 4 * b2n r.hidden + 8 * b2n x.twin
  leBytes 8 r.seq ++ leBytes 8 x.sail ++ leBytes 1 x.cls ++ leBytes 1 x.block ++ leBytes 1 x.cause ++ leBytes 1 flags ++
    leBytes 2 x.unit ++ leBytes 1 (x.part.getD 0) ++ leBytes 1 (if x.cls = clsVoiding then x.vcause else 0) ++
    leBytes 2 (match x.tenant with
      | some t => t
      | none => 0x1000) ++ leBytes 6 0 ++ leBytes 8 (if av then x.addr.getD 0 / 128 * 128 else 0) ++ leBytes 4 r.ovf ++
    leBytes 4 0 ++ leBytes 8 r.cap ++ leBytes 8 0

/-- A record made: the next SEQ, counted, in ERR_LAST. -/
def State.makeRec (s : State) (x : ErrRep) : State × ErrRec :=
  let h := match x.addr with
    | some a => s.addrHidden a
    | none => false
  let r : ErrRec := ⟨s.err.seq, x, h, 0, s.capOf x⟩
  ((s.setErr { s.err with seq := s.err.seq + 1, last := (r :: s.err.last).take 16 }).radd R.errCnt F.errCnt_RECORDS 1, r)

/-! ### The log ring (R519) -/

/-- The ring lies wholly in present vault or Lararis memory of PF0. -/
def State.logBaseOk (s : State) : Bool :=
  let b := s.rf R.errLogBase F.errLogBase_BASE * 2 ^ 18
  let here (a : Nat) : Bool := match s.placeOf a with
    | .vault => true
    | .lararis => decide (s.pins.lrsRst &&& 2 ^ (s.lrsCell (a - lrsBase)).1 = 0)
    | _ => false
  ((List.range 64).all (fun i => here (b + 4096 * i) && decide (s.ownerOf (b + 4096 * i) = pfOwner)))

/-- The agent number of the hub's own accesses. -/
def hubAgent : Nat := 74

/-- A record enters the ring, or is counted in LOST. -/
def State.logRec (s : State) (r : ErrRec) : State :=
  let tail := (s.rf R.errLogPtr F.errLogPtr_TAIL + s.err.unseen) % 2 ^ 32
  let used := (tail + 2 ^ 32 - s.rf R.errLogPtr F.errLogPtr_HEAD) % 2 ^ 32
  if s.rf R.errLogBase F.errLogBase_EN = 0 ∨ used = 4096 then s.radd R.errCnt F.errCnt_LOST 1
  else if s.logBaseOk = false then (s.radd R.errCnt F.errCnt_LOST 1).rset R.errStatus F.errStatus_BASE_BAD 1
  else
    let w := (s.chargeFor [14] hubAgent 1).moverWrite [14] hubAgent 1 (s.rf R.errLogBase F.errLogBase_BASE * 2 ^ 18 + tail % 4096 * 64) r.bytes
    w.1.setErr { w.1.err with unseen := w.1.err.unseen + 1 }

/-- C1: what the ring took in the sailing before becomes visible, and its vector falls due. -/
def State.logVisible (s : State) : State :=
  if s.err.unseen = 0 then s
  else
    let s1 := s.rinc R.errLogPtr F.errLogPtr_TAIL s.err.unseen
    s1.setErr { s1.err with unseen := 0, vecDue := decide (s1.rf R.errCtl F.errCtl_VEC_EN = 1) }

/-! ### Queues and handling (R521) -/

/-- ERR_STATUS shows the queues and the record being handled. -/
def State.showErr (s : State) : State :=
  ((((s.rset R.errStatus F.errStatus_Q0 s.err.q0.length).rset R.errStatus F.errStatus_Q1 s.err.q1.length).rset R.errStatus
    F.errStatus_Q2 s.err.q2.length).rset R.errStatus F.errStatus_BUSY (b2n s.err.handling.isSome)).rset R.errStatus
    F.errStatus_HCLASS (match s.err.handling with
      | some r => r.rep.cls
      | none => 0)

/-- The queue of a class. -/
def ErrSt.queue (e : ErrSt) (cls : Nat) : List ErrRec := if cls = 0 then e.q0 else if cls = 1 then e.q1 else e.q2

/-- The queue of a class put. -/
def ErrSt.setQueue (e : ErrSt) (cls : Nat) (l : List ErrRec) : ErrSt :=
  { e with q0 := if cls = 0 then l else e.q0, q1 := if cls = 1 then l else e.q1,
           q2 := if cls = 0 ∨ cls = 1 then e.q2 else l }

/-- An error counted in ERR_OVF of its block. -/
def State.countOvf (s : State) (block : Nat) : State := s.radd (R.errOvf block) F.errOvf_OVF 1

/-- A record that its queue cannot take. -/
def State.queueFull (s : State) (block : Nat) : State := (s.countOvf block).rset R.errStatus F.errStatus_QFULL 1

/-- The record being handled goes back to the head of its queue; a queue over its 64 gives up its newest record, which is
counted. -/
def State.putBack (s : State) : State :=
  match s.err.handling with
  | some h =>
    let q := h :: s.err.queue h.rep.cls
    let s1 := s.setErr ({ s.err with handling := none }.setQueue h.rep.cls (q.take 64))
    match q.drop 64 with
    | r :: _ => s1.queueFull r.rep.block
    | [] => s1
  | none => s

/-- Firmware takes the head of the highest-class queue that is not empty. -/
def State.takeNext (s : State) : State :=
  if s.err.handling.isSome ∨ s.brg.rom = true then s
  else match s.err.q2, s.err.q1, s.err.q0 with
    | r :: q, _, _ => s.setErr { s.err with handling := some r, q2 := q }
    | [], r :: q, _ => s.setErr { s.err with handling := some r, q1 := q }
    | [], [], r :: q => s.setErr { s.err with handling := some r, q0 := q }
    | [], [], [] => s

/-- A record at the end of its queue; one that finds 64 is counted and not recorded. -/
def State.enqueue (s : State) (x : ErrRep) : State :=
  if (s.err.queue x.cls).length ≥ 64 then s.queueFull x.block
  else
    let m := s.makeRec x
    m.1.setErr (m.1.err.setQueue x.cls (m.1.err.queue x.cls ++ [m.2]))

/-- A folded error: OVF of the record being handled, and of its copy in ERR_LAST. -/
def State.fold (s : State) (h : ErrRec) : State :=
  let up (r : ErrRec) : ErrRec := if r.seq = h.seq then { r with ovf := min (2 ^ 32 - 1) (r.ovf + 1) } else r
  (s.setErr { s.err with handling := some (up h), last := s.err.last.map up }).countOvf h.rep.block

/-- A new record against the one being handled. -/
def State.newRec (s : State) (x : ErrRep) : State :=
  if x.cls = clsFatal then
    let m := s.makeRec x
    m.1.logRec m.2
  else match s.err.handling with
    | some h =>
      if x.cls > h.rep.cls ∧ (s.err.queue x.cls).length < 64 then
        let s1 := (s.putBack.radd R.errStatus F.errStatus_PREEMPT 1)
        let m := s1.makeRec x
        m.1.setErr { m.1.err with handling := some m.2 }
      else if x.cls = h.rep.cls ∧ x.block = h.rep.block then s.fold h
      else s.enqueue x
    | none => (s.enqueue x).takeNext

/-- A block's first-error capture of an error whose unit exists; the coherence block and the fabric name a slice or a router
beside it (R275, R306). -/
def State.blockCap (s : State) (block cause unit : Nat) : State :=
  match capKeyOf block unit with
  | some k =>
    if !([0x03, 0x04, 0x05, 0x06, 0x08, 0x09, 0x0D, 0x0F, 0x10].contains block) || decide (256 ≤ unit) ||
        (decide (64 ≤ unit) && decide (block = 0x04)) || (decide (8 ≤ unit) && (decide (block = 0x08) || decide (block = 0x09))) then s
    else
      let s1 := s.captureAt k capStd cause
      if s.captured k capStd then s1
      else if block = 0x05 then s1.rset R.cohErr F.cohErr_SLICE unit
      else if block = 0x06 then s1.rset R.octErr F.octErr_ROUTER unit
      else s1
  | none => s

/-- Corrected errors that leave nothing but their capture and a record (block, cause): a tile cache's and an LLC slice's
(R175, R207), one copy of a snoop-filter entry (R266), a router buffer's (R302). -/
def corrected : List (Nat × Nat) := [(0x04, 1), (0x04, 3), (0x05, 1), (0x06, 3)]

/-- A router's corrected buffer errors are counted in OCT_LINK_CNT too (R307). -/
def State.countCe (s : State) (block unit : Nat) : State :=
  if block = 0x06 ∧ unit < 83 then s.radd (R.octLinkCnt unit) F.octLinkCnt_CE 1 else s

/-- ERR_REC: the sequencer receives a report: one of a corrected error that a block makes now, or else the next on its way. -/
def execErrRec (block cause unit : Nat) (s : State) : Host.Outcome State Fault Refusal :=
  if corrected.contains (block, cause) then
    .next ((((s.blockCap block cause unit).countCe block unit).newRec
      ⟨clsCorrected, block, cause, unit, none, 0, none, none, s.sail, false⟩).showErr)
  else match s.err.inbox with
  | x :: rest => .next ((s.setErr { s.err with inbox := rest }).newRec x).showErr
  | [] => .next s

/-- The piece of the log ring the next record goes to, where it goes to one. -/
def State.logSlot (s : State) : Option (Nat × Nat) :=
  let tail := (s.rf R.errLogPtr F.errLogPtr_TAIL + s.err.unseen) % 2 ^ 32
  if s.rf R.errLogBase F.errLogBase_EN = 0 ∨ (tail + 2 ^ 32 - s.rf R.errLogPtr F.errLogPtr_HEAD) % 2 ^ 32 = 4096 ∨ s.logBaseOk = false then none
  else some (s.rf R.errLogBase F.errLogBase_BASE * 2 ^ 18 + tail % 4096 * 64, 64)

/-- The record's line can be written now, and its toll has tokens (R258, R260, R294). -/
def State.logReady (s : State) : Bool :=
  s.logSlot.all (fun p => s.putReady [14] hubAgent 1 [p] && s.tollOk [14] hubAgent 1)

/-- What a record that cannot be written yet waits for. -/
def State.logOpen (s : State) : State :=
  match s.logSlot with
  | some p => (s.openWrites [14] hubAgent 1 0 [p]).payFor [14] hubAgent 1
  | none => s

/-- RECORD_HANDLED: the record's handling ends; it enters the ring and firmware takes the next. The record waits for its line and its
toll. -/
def execRecordHandled (s : State) : Host.Outcome State Fault Refusal :=
  match s.err.handling with
  | some r => if s.brg.rom then .next s
    else if !s.logReady then .next s.logOpen
    else .next ((((s.setErr { s.err with handling := none }).logRec r).takeNext).showErr)
  | none => .next s

/-- FATAL (R517): a block raises it, its first error captured (a snoop-filter entry both of whose copies fail: COH_ERR cause
SF_UE, R266). -/
def execFatal (block cause unit : Nat) (s : State) : Host.Outcome State Fault Refusal :=
  .next ((s.blockCap block cause unit).fatal block cause unit)

/-! ### First-error captures (R106 and its likes) -/

/-- What writing VALID of a first-error capture clears: all of the register below SAIL_LO; all of GLB_DECODE (R221). -/
def capCleared : RegName → Option Fld
  | .teErr | .tileErr | .cohErr | .octErr | .slipErr | .lrsErr | .pwrErr | .twinErr | .salErr | .fordErr | .pciErr | .qErr =>
    some ⟨0, 32⟩
  | .glbDecode => some fAll
  | _ => none

/-- VALID of the capture at a key written with 1. -/
def State.clearCapture (s : State) (key : Nat) : State :=
  match regOf key with
  | some (d, _) =>
    match capCleared d.name with
    | some f => s.rset key f 0
    | none => s
  | none => s

/-- ERR_CAPTURE_CLEAR: the capture register at an offset. -/
def execErrCaptureClear (off : Nat) (s : State) : Host.Outcome State Fault Refusal := .next (s.clearCapture off)

end Sys2Proof.Machine
end

