-- ==== Sys2Proof/Machine/Timetable.lean ====
section
/-! DEFINITION. The timetable as it stands for a partition: variants, slots, steps, re-entry (R40, R52, R53, R459, R605). -/

namespace Sys2Proof.Machine

/-- Every leg entry of a variant. -/
def Variant.entries (v : Variant) : List LegEntry := v.slots.flatMap (fun sl => sl.flatMap (·.legs))

/-- The highest STEP a variant names for a class (R605). -/
def Variant.lastStep (v : Variant) (cls : Nat) : Option Nat :=
  ((v.entries.filter (fun e => e.vclass = cls)).map (·.step)).max?

/-- A step that the variant names for a class. -/
def Variant.hasStep (v : Variant) (cls step : Nat) : Bool := v.entries.any (fun e => decide (e.vclass = cls) && decide (e.step = step))

/-- Where a voyage of a class continues in variant v that was at a step of the timetable src (R52, R458). -/
def Variant.reenter (v : Variant) (src cls step : Nat) : Nat :=
  match v.reentry.find? (fun e => decide (e.src = src) && decide (e.vclass = cls) && decide (e.fromStep = step)) with
  | some e => e.toStep
  | none => step

/-- A voyage in progress of a partition. -/
def State.voyageOf (s : State) (p : Nat) (c : Ctx) : Bool :=
  decide (c.op = 1) && c.done.isNone && c.fetched && decide (s.partOf (ringTen c.ring) = some p)

/-- A voyage moved to another timetable; one whose step that timetable does not name ends ABORTED (R605). -/
def Ctx.moved' (c : Ctx) (v : Variant) (src sail : Nat) : Ctx :=
  let st := v.reenter src c.vclass c.step
  if v.hasStep c.vclass st then { c with step := st } else { c with step := st, done := some (stAborted, 0), doneSail := sail }

/-- SAIL_STATUS shows partition 0 and whether any partition runs lean (R62). -/
def State.showVariant (s : State) : State :=
  (s.rset R.sailStatus F.sailStatus_VARIANT (s.variantOf 0)).rset R.sailStatus F.sailStatus_LEAN
    (b2n (s.partRecs.any (fun r => decide (s.variantOf r.part = 1))))

/-- Partition p switches to variant v (R52, R53). -/
def State.switchVar (s : State) (p v : Nat) : State :=
  match s.mf.bind (fun m => m.var v) with
  | some x =>
    let src := s.variantOf p
    let s1 := s.setRings { s.rings with ctxs := s.rings.ctxs.map (fun c => if s.voyageOf p c then c.moved' x src s.sail else c) }
    let s2 := s1.setPart p { s1.part p with switched := true }
    ((s2.rset (R.sailLag p) F.sailLag_VARIANT v).rset R.sailEvent F.sailEvent_VARIANT 1).showVariant
  | none => s

/-- The LOST logical TEs of a partition. -/
def State.lostTes (s : State) (p : Nat) : List Nat := (s.tesOf p).filter (fun k => s.rf (R.teStatus k) F.teStatus_STATE = 4)

/-- The lowest degraded variant that covers every LOST TE (R459). -/
def Manifest.degraded (m : Manifest) (lost : List Nat) : Option Nat :=
  ((m.variants.filter (fun v => decide (2 ≤ v.variant) && lost.all (fun k => bitOf v.covers k))).map (·.variant)).min?

/-- The variant a partition must run once TEs are LOST; a partition without one runs no legs and the hub is degraded. DESIGN
CHOICE (log 162): VARIANT then keeps the number of the last one. -/
def State.degradePart (s : State) (p : Nat) : State :=
  let lost := s.lostTes p
  if lost.isEmpty then s
  else match s.mf.bind (fun m => m.degraded lost) with
    | some v =>
      let s1 := if s.variantOf p = v then s else s.switchVar p v
      s1.rset R.pwrLean ⟨p, 1⟩ 0
    | none => if (s.part p).stopped then s
      else (s.setPart p { s.part p with stopped := true }).errBare clsDegrading 0x01 0 p

/-- Whether a partition can run its lean variant: it is defined, runs variant 0 and the manifest has a lean one (R502). -/
def State.canLean (s : State) (p : Nat) : Bool :=
  s.partRecs.any (fun r => r.part = p) && decide (s.variantOf p = 0) && (s.lostTes p).isEmpty && (match s.mf with
    | some m => (m.var 1).isSome
    | none => false)

end Sys2Proof.Machine
end

