-- ==== Sys2Proof/Machine/Qos.lean ====
section
/-! DEFINITION. Bandwidth and latency regulation (R326 to R348): capacities, admission's sums, yields and restores, the
counters of a sailing, escalation, queue feedback. -/

namespace Sys2Proof.Machine

/-! ### What a manifest asks for (R335, R336, R456, R458) -/

/-- The value a manifest gives a register its REGS section may name: the entry, or the reset value. -/
def Manifest.regVal (m : Manifest) (key : Nat) : Word :=
  match m.regs.find? (fun e => e.1 = key) with
  | some e => BitVec.ofNat 64 e.2
  | none => resetReg key

/-- A field of it. -/
def Manifest.regFld (m : Manifest) (key : Nat) (f : Fld) : Nat := fget (m.regVal key) f

/-- Every block of a partition, in every slot of every variant. -/
def Manifest.blocks (m : Manifest) (p : Nat) : List SlotBlk :=
  m.variants.flatMap (fun v => v.slots.flatMap (fun sl => sl.filter (fun b => b.part = p)))

/-- Q0_r: the partitions' largest QC0 declarations at resource r, added (R458). -/
def Manifest.q0 (m : Manifest) (r : Nat) : Nat :=
  (m.parts.map (fun p =>
    (((m.blocks p.part).map (fun b => ((b.q0s.filter (fun q => q.1 = r)).map (·.2)).sum)).max?).getD 0)).sum

/-- The admitted rate of a guarantee. -/
def Manifest.rateOf (m : Manifest) (g : GrantRec) : Nat :=
  if g.point < 75 then m.regFld (R.octToll g.point 1) F.octToll_RATE else 0

/-! ### Capacities (R190, R335, R338, R378), in units of 1/20480 byte per TCLK cycle -/

/-- GT/s of a UCIe rate code (R349). -/
def ucieRate (code : Nat) : Nat := [8, 12, 16, 24, 32].getD code 0

/-- Ten times the GT/s of PCI_STATUS.RATE (R423). -/
def pcieRate10 (code : Nat) : Nat := [0, 25, 50, 80, 160, 320, 640, 1280].getD code 0

/-- C_r in force under a manifest, as a multiple of 1/20480. adm: at admission, where a link that is down or not trained
counts at the highest rate declared. -/
def State.capK (s : State) (m : Manifest) (adm : Bool) (r : Nat) : Nat :=
  20480 * (if r < 64 then
    (if s.rf (R.tileStatus r) F.tileStatus_THERM = 0 then 640 else if s.rf (R.tileStatus r) F.tileStatus_THERM = 1 then 480 else 320)
  else if r < 72 then
    (if bitOf m.stackMask (r - 64) ∧ s.rf (R.lrsStatus (r - 64)) F.lrsStatus_STATE ≠ 3 then
      160 * (128 - s.rf (R.lrsStatus (r - 64)) F.lrsStatus_LOST_CH) else 0)
  else if r < 80 then
    (let st := s.rf (R.slipStatus (r - 72)) F.slipStatus_STATE
     match m.slips[r - 72]? with
     | some x =>
       if x.role = 0 then 0
       else if st = 2 ∨ st = 3 then
         80 * ucieRate (s.rf (R.slipStatus (r - 72)) F.slipStatus_RATE) *
           popCount (s.rf (R.slipStatus (r - 72)) F.slipStatus_MODS) 4
       else if adm then 320 * ucieRate x.maxRate else 0
     | none => 0)
  else if r = 81 then
    (if m.twinDeclared ∧ (s.rf R.twinStatus F.twinStatus_LINK = 2 ∨ adm) then 1000 else 0)
  else 0) +
  (if r = 80 then
    (let c := s.rf R.pciStatus F.pciStatus_RATE
     if c = 0 ∧ adm then 2300 * 20480 else 2300 * pcieRate10 c * s.pci.width)
  else 0)

/-- D_r of a capacity (R335). -/
def derated (cap period derate : Nat) : Nat := cap * period * derate / (20480 * 100)

/-- D_r under a manifest, with its own PERIOD and DERATE. -/
def State.deratedOf (s : State) (m : Manifest) (adm : Bool) (r : Nat) : Nat :=
  derated (s.capK m adm r) m.period (m.regFld R.qosCfg F.qosCfg_DERATE)

/-! ### Admission (R336) -/

/-- The guarantees of a manifest at r, added. -/
def Manifest.g1 (m : Manifest) (r : Nat) : Nat := ((m.grants.filter (fun g => bitOf g.res r)).map m.rateOf).sum

/-- A QC1 pair a manifest leaves untolled. -/
def Manifest.untolled (m : Manifest) (p : Nat) : Bool := decide (m.regFld (R.octToll p 1) F.octToll_RATE = 2 ^ 32 - 1)

/-- Injection points whose sources use QC1: tiles whose legs or COPY entries run in a QC1 block, slips with a QC1 window, the
twin's ferry, and the PCIe point while a ring of class QC1 is on (R326). -/
def State.qc1Points (s : State) (m : Manifest) : List Nat :=
  let tiles := (m.parts.flatMap (fun p => (m.blocks p.part).flatMap (fun b =>
    if b.qc = 1 then b.legs.map (fun e => e.te / 4) ++ b.pfs.map (fun e => e.te / 4) else []))).eraseDups
  let slips := (List.range 8).filter (fun v => (List.range 16).any (fun w =>
    decide (m.regFld (R.slipWinIn v w) F.slipWinIn_EN = 1) && decide (m.regFld (R.slipWinInTgt v w) F.slipWinInTgt_QC = 1)))
  let ring := s.rings.live.any (fun g => decide (s.rf (R.ringCfg (g / 64) (g % 64)) F.ringCfg_QC = 0))
  tiles ++ slips.map (fun v => 64 + v) ++ (if ring then [72] else []) ++ (if m.twinDeclared then [73] else [])

/-- Step 18's failures: a resource check, or a QC1 pair left untolled. -/
def State.overRes (s : State) (m : Manifest) (adm : Bool) : Bool :=
  (List.range 82).any (fun r => decide (s.deratedOf m adm r < m.q0 r + m.g1 r))

def State.overPair (s : State) (m : Manifest) : Bool := (s.qc1Points m).any m.untolled

/-! ### Loss and return of capacity (R338 to R341) -/

/-- The effective rate of a guarantee. -/
def State.effOf (s : State) (g : GrantRec) : Nat := s.rf (R.qosGrantEff g.point) F.qosGrantEff_RATE

def State.setEff (s : State) (g : GrantRec) (x : Nat) : State := s.rset (R.qosGrantEff g.point) F.qosGrantEff_RATE x

/-- Guarantees in yield order: ascending rank, then ascending point. -/
def Manifest.yieldOrder (m : Manifest) : List GrantRec :=
  m.grants.mergeSort (fun a b => decide (a.rank < b.rank) || (decide (a.rank = b.rank) && decide (a.point ≤ b.point)))

/-- D_r in force. -/
def State.dNow (s : State) (r : Nat) : Nat := s.rf (R.qosCap r) F.qosCap_DERATED

/-- The effective guarantees at r, added. -/
def State.g1Now (s : State) (m : Manifest) (r : Nat) : Nat := ((m.grants.filter (fun g => bitOf g.res r)).map s.effOf).sum

/-- Guarantees reduced until x bytes are covered. -/
def State.takeFrom (s : State) : Nat → List GrantRec → State
  | _, [] => s
  | x, g :: gs =>
    let d := min (s.effOf g) x
    (if d = 0 then s else (s.setEff g (s.effOf g - d)).rset R.qosEvent F.qosEvent_YIELD 1).takeFrom (x - d) gs

/-- One resource examined (R339, R340). -/
def State.yieldAt (s : State) (m : Manifest) (r : Nat) : State :=
  let q0 := m.q0 r
  let mine := m.yieldOrder.filter (fun g => bitOf g.res r)
  if s.dNow r < q0 then
    ((s.takeFrom (s.g1Now m r) mine).rset R.qosEvent F.qosEvent_Q0_SHORT 1).errBare clsDegrading 0x07 0 r
  else s.takeFrom (q0 + s.g1Now m r - s.dNow r) mine

/-- The room a guarantee has at every resource of its set. -/
def State.roomFor (s : State) (m : Manifest) (g : GrantRec) : Nat :=
  ((((List.range 82).filter (fun r => bitOf g.res r)).map (fun r => s.dNow r - (m.q0 r + s.g1Now m r))).min?).getD (m.rateOf g)

/-- A guarantee raised as far as every check still holds, at most to its admitted rate (R341). -/
def State.restore (s : State) (m : Manifest) (g : GrantRec) : State :=
  let d := min (s.rf (R.qosGrant g.point) F.qosGrant_ADMITTED - s.effOf g) (s.roomFor m g)
  if d = 0 then s else (s.setEff g (s.effOf g + d)).rset R.qosEvent F.qosEvent_RESTORE 1

/-- Yields restored, in the reverse of their order (R339). -/
def State.restoreAll (s : State) (m : Manifest) : State := (m.yieldOrder.reverse).foldl (fun s g => s.restore m g) s

/-- The capacity a first manifest's guarantees start from: a slip at the highest rate declared, with four modules (R335, R350), any other
resource as it is. -/
def State.admCap (s : State) (m : Manifest) (r : Nat) : Nat :=
  match m.slips[r - 72]? with
  | some x => if 72 ≤ r ∧ r < 80 ∧ x.role ≠ 0 then 20480 * (320 * ucieRate x.maxRate) else s.capK m true r
  | none => s.capK m true r

/-- The capacity fitted at an I2: a fall detected since the boundary is applied at the next one, a rise at this one (R338, R341). The
regimes and the channels of a port change in INTAKE, as detected in the sailing before. -/
def State.fitCap (s : State) (m : Manifest) (r : Nat) : Nat :=
  let c := s.capK m false r
  let e := mgetD s.fab.capsEnd r c
  if r < 64 then c else if r < 72 then (if c = 0 then e else c) else max c e

/-- QOS_CAP shows D_r and Q0_r for a capacity (R348). -/
def State.showCap (s : State) (m : Manifest) (cap : Nat → Nat) (r : Nat) : State :=
  (s.rset (R.qosCap r) F.qosCap_DERATED (derated (cap r) (s.rf R.sailPeriod F.sailPeriod_PERIOD)
    (s.rf R.qosCfg F.qosCfg_DERATE))).rset (R.qosCap r) F.qosCap_Q0 (m.q0 r)

/-- The capacities the guarantees are now fitted to. -/
def State.noteCaps (s : State) (cap : Nat → Nat) : State :=
  s.setFab { s.fab with caps := (List.range 82).map (fun r => (r, cap r)), wayLost := false, lossDue := false }

/-- The boundary: the capacities of the ports and links as the sailing leaves them, and whether one fell in it (R338). -/
def State.capsClose (s : State) : State :=
  s.setFab { s.fab with
    capsEnd := (match s.mf with
      | some m => ((List.range 82).filter (fun r => decide (64 ≤ r))).map (fun r => (r, s.capK m false r))
      | none => []),
    lossDue := s.fab.lossDue || s.fab.lossSeen, lossSeen := false }

/-- I2: a capacity that fell or rose since the last fitting is applied; one that fell and rose again is a loss still (R338). -/
def State.capI2 (s : State) : State :=
  match s.mf with
  | some m =>
    let cap := s.fitCap m
    let ch := (List.range 82).filter (fun r => decide (cap r ≠ mgetD s.fab.caps r (cap r)))
    let fell := ch.any (fun r => decide (cap r < mgetD s.fab.caps r 0))
    let rose := ch.any (fun r => decide (mgetD s.fab.caps r 0 < cap r))
    let s0 := if fell ∨ s.fab.wayLost ∨ s.fab.lossDue then
        (s.rset R.qosEvent F.qosEvent_CAP_LOSS 1).errBare clsCorrected 0x0E 5 0
      else s
    let s1 := s0.each ch (fun s r => s.showCap m cap r)
    let s2 := if fell then s1.each (List.range 82) (fun s r => s.yieldAt m r) else s1
    let s3 := if rose then s2.restoreAll m else s2
    s3.noteCaps cap
  | none => s

/-- I0 of the sailing after a crossing: the manifest's guarantees govern (R464), from the capacities last fitted; those of a first manifest
from what its admission counted. -/
def State.grantsI0 (s : State) (m : Manifest) : State :=
  let s0 := (List.range 75).foldl (fun s p =>
    if s.rf (R.qosGrant p) F.qosGrant_ADMITTED = 0 ∧ s.rf (R.qosGrant p) F.qosGrant_RANK = 0xFF then s
    else ((s.rset (R.qosGrant p) F.qosGrant_ADMITTED 0).rset (R.qosGrant p) F.qosGrant_RANK 0xFF).rset (R.qosGrantEff p)
      F.qosGrantEff_RATE 0) s
  let s1 := m.grants.foldl (fun s g =>
    if g.point < 75 then
      ((s.rset (R.qosGrant g.point) F.qosGrant_ADMITTED (m.rateOf g)).rset (R.qosGrant g.point) F.qosGrant_RANK g.rank).rset
        (R.qosGrantEff g.point) F.qosGrantEff_RATE (m.rateOf g)
    else s) s0
  let cap (r : Nat) : Nat := (mget s.fab.caps r).getD (s.admCap m r)
  ((List.range 82).foldl (fun s r => s.showCap m cap r) s1).setFab { s1.fab with caps := (List.range 82).map (fun r => (r, cap r)) }

/-! ### Byte counters and samples of a sailing (R327 to R332) -/

/-- Every pair. -/
def allPairs : List (Nat × Nat) := (List.range 300).map (fun i => (i / 4, i % 4))

/-- C0: the byte counters are copied (R332). -/
def State.qosSnapshot (s : State) (closed : Nat) : State :=
  let s1 := allPairs.foldl (fun s p =>
    if s.rv (R.qosBytes p.1 p.2) = s.rv (R.qosSnap p.1 p.2) then s
    else s.rput (R.qosSnap p.1 p.2) (s.rv (R.qosBytes p.1 p.2)).toNat) s
  (s1.rput R.qosSnapSail closed).setFab { s1.fab with closed := s1.fab.samples, samples := [] }

/-- The first boundary after confidential mode ends: the counts go to 0 (R345, R346). -/
def State.qosWipe (s : State) : State :=
  if s.fab.wipe && !s.conf then
    let z (s : State) (k : Nat) : State := if s.rv k = 0 then s else s.rput k 0
    let s1 := allPairs.foldl (fun s p => z (z (z s (R.qosBytes p.1 p.2)) (R.qosSnap p.1 p.2)) (R.qosLat p.1 p.2)) s
    let s2 := (List.range 75).foldl (fun s p => z s (R.qosStep p)) s1
    s2.setFab { s2.fab with wipe := false, samples := [], closed := [] }
  else s

/-- The escalation step of a pair (R328). -/
def stepOf (sum count target : Nat) : Nat :=
  if count = 0 ∨ target = 0 then 0 else min 7 (16 * sum / (count * target) - 8)

/-- I0: the step of one pair from the samples of the sailing before. -/
def State.escalate (s : State) (p q : Nat) : State :=
  let x := mgetD s.fab.closed (pairNo p q) (0, 0)
  let t := s.rf (R.qosTgt p q) F.qosTgt_TARGET
  if x = (0, 0) ∧ s.rv (R.qosLat p q) = 0 then s
  else
    let s1 := (s.rset (R.qosLat p q) F.qosLat_SUM (min x.1 (2 ^ 40 - 1))).rset (R.qosLat p q) F.qosLat_COUNT (min x.2 (2 ^ 24 - 1))
    if q = 0 then s1
    else (s1.rset (R.qosStep p) ⟨3 * q, 3⟩ (stepOf x.1 x.2 t)).rsetIf (decide (t ≠ 0 ∧ x.2 ≠ 0 ∧ x.2 * t ≤ x.1)) R.qosEvent
      F.qosEvent_TARGET_MISS 1

/-- I0: every pair. -/
def State.escalateAll (s : State) : State := allPairs.foldl (fun s p => s.escalate p.1 p.2) s

/-! ### Queue feedback (R333, R334) -/

/-- The scale of a class at a distance d = H − THRESH + 1 (0: H below THRESH). -/
def scaleOf (q d : Nat) : Nat :=
  if q = 2 then (if d = 0 then 8 else if d = 1 then 4 else if d = 2 then 2 else if d = 3 then 1 else 0)
  else if d = 0 then 8 else if d = 1 then 2 else if d = 2 then 1 else 0

/-- The highest level among the controllers QOS_CFG and QOS_FB select. -/
def State.highest (s : State) (vaults lrsLevels : List Nat) : Nat :=
  let vs := (vaults.take 64).zipIdx.filter (fun x => bitOf (s.rf R.qosFb F.qosFb_FB_VAULT) x.2)
  let ls := (lrsLevels.take 8).zipIdx.filter (fun x => bitOf (s.rf R.qosCfg F.qosCfg_FB_LRS) x.2)
  (((vs ++ ls).map (fun x => min 7 x.1)).max?).getD 0

/-- The scales in force: those of the level H, or 0 while they are forced (R502). -/
def State.showScale (s : State) : State :=
  let d := s.rf R.qosStatus F.qosStatus_H + 1 - s.thresh
  let x (q : Nat) : Nat := if s.rf R.pwrStatus F.pwrStatus_FORCED = 1 then 0 else scaleOf q d
  (s.rset R.qosStatus F.qosStatus_S2 (x 2)).rset R.qosStatus F.qosStatus_S3 (x 3)

/-- The published level of a Lararis port whose queue of 256 entries holds n (R378). -/
def lrsLevel (n : Nat) : Nat := min 7 (8 * n / 256)

/-- FEEDBACK_SCALE_UPDATE: the vault controllers' levels and the entries of the Lararis ports' request queues, and the scales they set. -/
def execFeedbackScaleUpdate (vaults lrsQueues : List Nat) (s : State) : Host.Outcome State Fault Refusal :=
  let lrsLevels := lrsQueues.map lrsLevel
  let h := s.highest vaults lrsLevels
  let s1 := if s.time.stage = .run then s.settleAll.cleanTick else s.settleAll
  let s2 := s1.setFab { s1.fab with
    levels := (((vaults.take 64).zipIdx) ++ ((lrsLevels.take 8).zipIdx 64)).map (fun x => (x.2, min 7 x.1)) }
  .next (s2.rset R.qosStatus F.qosStatus_H h).showScale

end Sys2Proof.Machine
end

