-- ==== Sys2Proof/Machine/Manifest.lean ====
section
/-! DEFINITION. The manifest as bytes (R450 to R459): its container, its sections, the timetable, and the manifest they make. -/

namespace Sys2Proof.Machine

/-- A failed check: its code, and the TYPE and offset MAN_FAIL names (R604); none where the check passes. -/
abbrev Verdict := Option (Nat × Nat × Nat)

/-- A failure outside any section. -/
def failAt0 (code : Nat) (broken : Bool) : Verdict := if broken then some (code, 0, 0) else none

/-- The first failure of a list of checks. -/
def firstFail : List Verdict → Verdict
  | [] => none
  | some v :: _ => some v
  | none :: l => firstFail l

/-! ### The container (R450 to R453) -/

def jman : Nat := 0x4E414D4A
def manTrailer (b : List Byte) : Nat := leAt b 0x0C 4
def manDigestOf (b : List Byte) : Nat := leAt b (manTrailer b) 48
def manSvnOf (b : List Byte) : Nat := leAt b 0x18 8
def manPrevOf (b : List Byte) : Nat := leAt b 0x30 48

/-- The section types the hub knows. -/
def sectKnown (typ : Nat) : Bool :=
  [0x01, 0x10, 0x20, 0x30, 0x40, 0x50, 0x60, 0x70, 0x80, 0x90, 0xA0, 0xB0, 0xC0].contains typ || decide (0x80000000 ≤ typ)

/-- The types every manifest has. -/
def sectRequired : List Nat := [0x01, 0x10, 0x20, 0x30, 0x40, 0x50, 0x60, 0x70, 0x80, 0x90, 0xA0, 0xB0]

/-- n sections from an offset, types above last: the sections; the one whose header, type or placement is wrong; where the
next would start. -/
def walkSects (b : List Byte) (trailer : Nat) : Nat → Nat → Nat → List Sect × Option (Nat × Nat) × Nat
  | 0, off, _ => ([], none, off)
  | n + 1, off, last =>
    let typ := leAt b off 4
    let len := leAt b (off + 4) 4
    let stop := off + 8 + len
    if trailer < stop ∨ typ ≤ last ∨ !(sectKnown typ) ∨ !(zeros b stop (roundUp stop 64 - stop)) then ([], some (typ, off), off)
    else
      let r := walkSects b trailer n (roundUp stop 64) typ
      (⟨typ, off, slice b (off + 8) len⟩ :: r.1, r.2)

/-- The sections of a manifest. -/
def manSects (b : List Byte) : List Sect × Option (Nat × Nat) × Nat := walkSects b (manTrailer b) (leAt b 6 2) 0x100 0

/-- The header of R451 and the lengths of R452. -/
def manHdrBad (b : List Byte) : Bool :=
  decide (leAt b 0 4 ≠ jman) || decide (leAt b 4 2 ≠ 1) || decide (leAt b 8 4 ≠ b.length) ||
    decide (leAt b 8 4 ≠ manTrailer b + 3421) || !(zeros b 0x16 2) || !(zeros b 0x60 160)

/-- Step 2. -/
def manStep2 (b : List Byte) : Verdict :=
  let w := manSects b
  firstFail [failAt0 2 (manHdrBad b), w.2.1.map (fun x => (2, x.1, x.2)), failAt0 2 (w.2.2 ≠ manTrailer b),
    failAt0 2 (sectRequired.any (fun t => w.1.all (fun x => x.typ != t)))]

/-- A section of a type. -/
def sectOf (l : List Sect) (typ : Nat) : Option Sect := l.find? (fun x => x.typ = typ)

/-- A section's body. -/
def sbody (l : List Sect) (typ : Nat) : List Byte := ((sectOf l typ).map (·.body)).getD []

/-- A failure in a section. -/
def failIn (l : List Sect) (code typ : Nat) (broken : Bool) : Verdict :=
  if broken then some (code, typ, ((sectOf l typ).map (·.off)).getD 0) else none

/-! ### Records (R455) -/

def slipTopOf (b : List Byte) : SlipTop :=
  ⟨leAt b 0 1, leAt b 1 1, leAt b 2 1, leAt b 3 1, leAt b 4 2, leAt b 6 2, leAt b 8 4, leAt b 12 4, slice b 16 48⟩

def scratchRecOf (b : List Byte) : ScratchRec := ⟨leAt b 0 1, leAt b 2 2⟩
def carveRecOf (b : List Byte) : CarveRec := ⟨leAt b 0 8, leAt b 8 4, leAt b 12 2⟩

/-- Counts of MEMMAP. -/
def nScratch (b : List Byte) : Nat := leAt b 4 1
def nCarve (b : List Byte) : Nat := leAt b 6 2

def memMapOf (b : List Byte) : MemMap :=
  ⟨leAt b 0 1, leAt b 1 1, leAt b 2 1, leAt b 3 1, (List.range 6).map (fun j => leAt b (8 + 8 * j) 8),
    (records b 56 8 (nScratch b)).map scratchRecOf,
    (records b (56 + 8 * nScratch b) 16 (nCarve b)).map carveRecOf⟩

/-- Counts of PARTITIONS. -/
def nPart (b : List Byte) : Nat := leAt b 0 1
def nTen (b : List Byte) : Nat := leAt b 4 2

def partRecOf (b : List Byte) : PartRec := ⟨leAt b 0 1, leAt b 8 8, leAt b 16 8⟩

def tenRecOf (b : List Byte) : TenRec :=
  ⟨leAt b 0 2, leAt b 2 1, (List.range (min 8 (leAt b 3 1))).map (fun i => (leAt b (8 + 16 * i) 8, leAt b (16 + 16 * i) 4))⟩

def fabTabOf (b : List Byte) : FabTab := ⟨leAt b 0 84, (slice b 84 6889).map (·.toNat)⟩
def grantRecOf (b : List Byte) : GrantRec := ⟨leAt b 0 1, leAt b 1 1, leAt b 8 16⟩
def progRecOf (b : List Byte) : ProgRec := ⟨leAt b 0 2, leAt b 2 2, bitOf (leAt b 4 1) 0, leAt b 16 48⟩
def twinTopOf (b : List Byte) : TwinTop := ⟨leAt b 0 1, leAt b 2 2, leAt b 8 8⟩
def regEntries (b : List Byte) : List (Nat × Nat) := (records b 0 16 (b.length / 16)).map (fun e => (leAt e 0 4, leAt e 8 8))

/-! ### The timetable (R191, R457) -/

/-- A reader of bytes: a value and the rest; none where they are too few. -/
abbrev Rd (α : Type) := List Byte → Option (α × List Byte)

/-- A record of n bytes. -/
def rdRec {α : Type} (n : Nat) (f : List Byte → α) : Rd α := fun b =>
  if (b.take n).length < n then none else some (f (b.take n), b.drop n)

/-- n values in a row. -/
def rdMany {α : Type} (f : Rd α) : Nat → Rd (List α)
  | 0, b => some ([], b)
  | n + 1, b =>
    match f b with
    | some (x, r) =>
      match rdMany f n r with
      | some (xs, r2) => some (x :: xs, r2)
      | none => none
    | none => none

/-- A value with the codes its fields break: 2 for undefined bytes that are not 0, 15 for what R191 and R197 refuse. -/
abbrev Flagged (α : Type) := α × List Nat

def legEntryOf (b : List Byte) : Flagged LegEntry :=
  (⟨leAt b 0 1, leAt b 2 2, leAt b 4 2, leAt b 6 2, leAt b 8 2, leAt b 12 4⟩, bad 2 (!(zeros b 1 1 && zeros b 10 2)))

/-- A prefetch entry's own rules. -/
def pfBad (b : List Byte) : Bool :=
  let kind := leAt b 0 1
  let lead := leAt b 1 1
  let soff := leAt b 8 8
  let doff := leAt b 16 8
  let len := leAt b 24 4
  let bsz := leAt b 7 1
  !(zeros b 6 1) || decide (1 < kind) || decide (15 < leAt b 3 1) ||
    (if kind = 0 then decide (lead ≠ 0) || decide (leAt b 5 1 ≠ 0) || decide (2 < bsz) || decide (soff % 512 ≠ 0) ||
        decide (doff ≠ 0) || decide (len % (2048 / 2 ^ bsz) ≠ 0) || decide (leAt b 28 4 ≠ 0)
      else decide (lead = 0) || decide (3 < lead) || decide (bsz ≠ 0) || decide (soff % 64 ≠ 0) || decide (doff % 64 ≠ 0) ||
        decide (len < 64) || decide (2 ^ 28 < len) || decide (len % 64 ≠ 0))

def pfEntryOf (b : List Byte) : Flagged PfEntry :=
  (⟨decide (leAt b 0 1 = 1), leAt b 1 1, leAt b 2 1, leAt b 3 1, leAt b 4 1, leAt b 5 1, leAt b 7 1, leAt b 8 8, leAt b 16 8,
    leAt b 24 4, leAt b 28 4⟩, bad 15 (pfBad b))

def q0Of (b : List Byte) : Flagged (Nat × Nat) := ((leAt b 0 1, leAt b 4 4), bad 2 (!(zeros b 1 3)))
def reEntryOf (b : List Byte) : Flagged ReEntry := (⟨leAt b 0 1, leAt b 2 2, leAt b 4 2, leAt b 6 2⟩, bad 2 (!(zeros b 1 1)))

/-- The values of flagged ones, and all their codes. -/
def unflag {α : Type} (l : List (Flagged α)) : Flagged (List α) := (l.map (·.1), l.flatMap (·.2))

/-- A partition block (R457). -/
def rdBlock : Rd (Flagged SlotBlk) := fun b =>
  match rdRec 96 id b with
  | some (h, r) =>
    match rdMany (rdRec 16 legEntryOf) (leAt h 12 2) r with
    | some (legs, r1) =>
      match rdMany (rdRec 32 pfEntryOf) (leAt h 14 2) r1 with
      | some (pfs, r2) =>
        match rdMany (rdRec 8 q0Of) (leAt h 16 2) r2 with
        | some (q0s, r3) =>
          let l := unflag legs
          let p := unflag pfs
          let q := unflag q0s
          some ((⟨leAt h 0 1, leAt h 1 1, bitOf (leAt h 2 1) 0, leAt h 4 4, leAt h 8 4, l.1, p.1, q.1, leAt h 24 72⟩,
            bad 2 (!(zeros h 3 1 && zeros h 18 6)) ++ l.2 ++ p.2 ++ q.2), r3)
        | none => none
      | none => none
    | none => none
  | none => none

/-- A slot: its header, its blocks. -/
def rdSlot : Rd (Flagged (List SlotBlk)) := fun b =>
  match rdRec 8 id b with
  | some (h, r) =>
    match rdMany rdBlock (leAt h 0 1) r with
    | some (l, r1) => let u := unflag l; some ((u.1, bad 2 (!(zeros h 1 7)) ++ u.2), r1)
    | none => none
  | none => none

/-- A variant: its header, its slots, its re-entry entries. -/
def rdVariant : Rd (Flagged Variant) := fun b =>
  match rdRec 48 id b with
  | some (h, r) =>
    match rdMany rdSlot (leAt h 1 1) r with
    | some (sl, r1) =>
      match rdMany (rdRec 8 reEntryOf) (leAt h 4 4) r1 with
      | some (re, r2) =>
        let u := unflag sl
        let e := unflag re
        some ((⟨leAt h 0 1, leAt h 1 1, leAt h 16 32, u.1, e.1⟩, bad 2 (!(zeros h 2 2 && zeros h 8 8)) ++ u.2 ++ e.2), r2)
      | none => none
    | none => none
  | none => none

/-- The TIMETABLE body: its variants where its sizes agree with its counts. -/
def timetableOf (b : List Byte) : Option (Flagged (List Variant)) :=
  match rdRec 8 id b with
  | some (h, r) =>
    match rdMany rdVariant (leAt h 0 1) r with
    | some (l, []) => let u := unflag l; some (u.1, bad 2 (!(zeros h 1 7)) ++ u.2)
    | _ => none
  | none => none

/-! ### The manifest -/

/-- The manifest of checked sections. -/
def manOf (b : List Byte) (l : List Sect) (vs : List Variant) : Manifest :=
  let top := sbody l 0x10
  let part := sbody l 0x40
  { digest := manDigestOf b, svn := manSvnOf b, serial := leAt b 0x20 8, prev := manPrevOf b, sects := l,
    slips := (records top 0 64 8).map slipTopOf, stackMask := leAt top 512 1, stackCap := leAt top 513 1,
    twinDeclared := decide (leAt top 514 1 = 1), limits := (List.range 6).map (fun i => leAt top (520 + 2 * i) 2),
    period := leAt (sbody l 0x20) 0 4, quiet := leAt (sbody l 0x20) 4 4, mm := memMapOf (sbody l 0x30),
    parts := (records part 8 24 (nPart part)).map partRecOf,
    tenants := (records part (8 + 24 * nPart part) 136 (nTen part)).map tenRecOf,
    tabs := (records (sbody l 0x50) 8 6973 (leAt (sbody l 0x50) 0 1)).map fabTabOf,
    grants := (records (sbody l 0x60) 8 24 (leAt (sbody l 0x60) 0 1)).map grantRecOf,
    progs := (records (sbody l 0x70) 8 64 (leAt (sbody l 0x70) 0 2)).map progRecOf,
    variants := vs, budgetW := leAt (sbody l 0x90) 0 2, regs := regEntries (sbody l 0xA0),
    tdiMap := leAt (sbody l 0xB0) 0 512, scrubRate := leAt (sbody l 0xB0) 512 4, rotRate := leAt (sbody l 0xB0) 516 4,
    twin := (sectOf l 0xC0).map (fun x => twinTopOf x.body), bytes := b }

end Sys2Proof.Machine
end

