-- ==== Sys2Proof/Machine/Admit.lean ====
section
/-! DEFINITION. Checking a manifest (R460, R461, R604): the steps in their order, each answering its first failure. -/

namespace Sys2Proof.Machine

/-! ### Steps 3 to 9 -/

/-- Steps 3 to 9: digest, keys, signatures, part, versions. -/
def State.manSteps39 (s : State) (b : List Byte) (l : List Sect) : Verdict :=
  let keys := sbody l 0x01
  let t := manTrailer b
  let msg := slice b t 48
  let old := s.mf
  firstFail [
    failAt0 3 (digestNum (Config.sha384 (b.take t)) ≠ manDigestOf b),
    failAt0 4 (s.fuses.manEd = 0 ∨ s.fuses.manMl = 0),
    failIn l 5 0x01 (digestNum (Config.sha384 (slice keys 0 32)) ≠ s.fuses.manEd ∨
      digestNum (Config.sha384 (slice keys 32 1952)) ≠ s.fuses.manMl),
    failAt0 6 (!(Config.edVerify (slice keys 0 32) msg (slice b (t + 48) 64)) ||
      !(Config.mlVerify (slice keys 32 1952) msg (slice b (t + 112) 3309))),
    failAt0 7 (leAt b 0x10 4 ≠ 0x7030 ∨ leAt b 0x14 1 ≠ 0x4A ∨ s.rf R.glbId F.glbId_BASE_STEP < leAt b 0x15 1 ∨
      ¬(leAt b 0x28 8 = 0 ∨ leAt b 0x28 8 = s.fuses.serial)),
    failAt0 8 (manSvnOf b < popCount s.fuses.manSvn 64 ∨ manSvnOf b < ((old.map (·.svn)).getD 0)),
    failAt0 9 (match old with
      | some m => manPrevOf b ≠ 0 ∧ manPrevOf b ≠ m.digest
      | none => False)]

/-! ### Step 10: sizes, undefined bytes, REGS -/

/-- The body of a section is not as long as its counts say. -/
def sizeBad (l : List Sect) (typ n : Nat) : Bool := decide ((sbody l typ).length ≠ n)

/-- Undefined bytes of a record list that are not 0: record offset, size, count, the places within a record. -/
def undefAt (b : List Byte) (o m n : Nat) (places : List (Nat × Nat)) : Bool :=
  (records b o m n).any (fun r => places.any (fun p => !(zeros r p.1 p.2)))

/-- The registers REGS may name (R456). -/
def regListed : RegName → Bool
  | .octCfg | .octToll | .octPwr | .qosCfg | .qosFb | .qosTgt | .tileSpfCtl | .slipCfg | .slipWinIn | .slipWinInTgt
  | .slipWinOut | .slipWinOutTgt | .lrsCfg | .cohCfg | .pciLpm => true
  | _ => false

/-- The bits of a register that some field holds. -/
def fieldMask (d : RegDesc) : Nat := d.fields.foldl (fun m f => m ||| ((2 ^ f.w - 1) * 2 ^ f.lo)) 0

/-- One REGS entry breaks R456. -/
def regEntryBad (slips : List SlipTop) (e : Nat × Nat) : Bool :=
  match regOf e.1 with
  | some (d, idx) =>
    !(regListed d.name) || decide (e.2 &&& fieldMask d ≠ e.2) ||
      (match d.name, idx with
        | .slipCfg, [v] =>
          (match slips[v]? with
            | some x => decide (fget (BitVec.ofNat 64 e.2) F.slipCfg_MIN_RATE ≠ x.minRate) ||
              decide (fget (BitVec.ofNat 64 e.2) F.slipCfg_MAX_RATE ≠ x.maxRate) ||
              decide (fget (BitVec.ofNat 64 e.2) F.slipCfg_MIN_MOD ≠ x.minMod)
            | none => true)
        | .octPwr, [d] => decide (d < 512 ∧ d % 8 = 7)
        | _, _ => false)
  | none => true

/-- REGS breaks R456. -/
def regsBad (b : List Byte) (slips : List SlipTop) : Bool :=
  let es := regEntries b
  decide (b.length % 16 ≠ 0) || undefAt b 0 16 (b.length / 16) [(4, 4)] || es.any (regEntryBad slips) ||
    decide ((es.map (·.1)).eraseDups.length ≠ es.length)

/-- Step 10. -/
def manStep10 (l : List Sect) : Verdict :=
  let top := sbody l 0x10
  let mm := sbody l 0x30
  let pt := sbody l 0x40
  let fb := sbody l 0x50
  let gr := sbody l 0x60
  let pg := sbody l 0x70
  firstFail [
    failIn l 2 0x01 (sizeBad l 0x01 1984),
    failIn l 2 0x10 (sizeBad l 0x10 536 || !(zeros top 515 5) || !(zeros top 532 4)),
    failIn l 2 0x20 (sizeBad l 0x20 8),
    failIn l 2 0x30 (decide (mm.length < 56) || sizeBad l 0x30 (56 + 8 * nScratch mm + 16 * nCarve mm) || !(zeros mm 5 1) ||
      undefAt mm 56 8 (nScratch mm) [(1, 1), (4, 4)] || undefAt mm (56 + 8 * nScratch mm) 16 (nCarve mm) [(14, 2)]),
    failIn l 2 0x40 (decide (pt.length < 8) || sizeBad l 0x40 (8 + 24 * nPart pt + 136 * nTen pt) || !(zeros pt 1 3) ||
      !(zeros pt 6 2) || undefAt pt 8 24 (nPart pt) [(1, 7)] ||
      undefAt pt (8 + 24 * nPart pt) 136 (nTen pt) ((4, 4) :: (List.range 8).map (fun i => (20 + 16 * i, 4)))),
    failIn l 2 0x50 (decide (fb.length < 8) || sizeBad l 0x50 (8 + 6973 * leAt fb 0 1) || !(zeros fb 1 7) ||
      undefAt fb 8 6973 (leAt fb 0 1) [(83, 1)]),
    failIn l 2 0x60 (decide (gr.length < 8) || sizeBad l 0x60 (8 + 24 * leAt gr 0 1) || !(zeros gr 1 7) ||
      undefAt gr 8 24 (leAt gr 0 1) [(2, 6)]),
    failIn l 2 0x70 (decide (pg.length < 8) || sizeBad l 0x70 (8 + 64 * leAt pg 0 2) || !(zeros pg 2 6) ||
      undefAt pg 8 64 (leAt pg 0 2) [(5, 11)]),
    failIn l 2 0x80 (match timetableOf (sbody l 0x80) with
      | some t => t.2.contains 2
      | none => true),
    failIn l 2 0x90 (sizeBad l 0x90 8 || !(zeros (sbody l 0x90) 2 6)),
    failIn l 2 0xA0 (regsBad (sbody l 0xA0) ((records top 0 64 8).map slipTopOf)),
    failIn l 2 0xB0 (sizeBad l 0xB0 528 || !(zeros (sbody l 0xB0) 520 8)),
    failIn l 2 0xC0 ((sectOf l 0xC0).isSome && (sizeBad l 0xC0 24 || !(zeros (sbody l 0xC0) 1 1) ||
      !(zeros (sbody l 0xC0) 4 4) || !(zeros (sbody l 0xC0) 16 8)))]

/-! ### Steps 11 to 14 -/

/-- A slip record out of range. -/
def SlipTop.bad (x : SlipTop) : Bool :=
  decide (2 < x.role) || decide (4 < x.minRate) || decide (4 < x.maxRate) || decide (1 < x.minMod)

/-- Step 11. -/
def manStep11 (m : Manifest) : Verdict :=
  let l := m.sects
  let twinByte := leAt (sbody l 0x10) 514 1
  let n := popCount m.stackMask 8
  firstFail [
    failIn l 10 0x10 (m.slips.any SlipTop.bad || decide (1 < twinByte) ||
      (if m.stackMask = 0 then decide (m.stackCap ≠ 0) else !(decide (m.stackCap = 1) || decide (m.stackCap = 2)))),
    failIn l 12 0x10 (n % 2 = 1),
    failIn l 10 0xC0 (m.twin.isSome && !m.twinDeclared),
    failAt0 10 (m.twinDeclared && m.twin.isNone)]

/-- Step 12 (R22, R28). -/
def manStep12 (m : Manifest) : Verdict :=
  failIn m.sects 11 0x20 (m.period < 800 ∨ 100000 < m.period ∨ m.quiet < 100 ∨ m.period < m.quiet + 300)

/-- Rank over GF(2) of the columns of numbers below 2^b. -/
def gfRank : Nat → List Nat → Nat
  | 0, _ => 0
  | b + 1, l =>
    match l.find? (fun x => bitOf x b) with
    | some p => 1 + gfRank b ((l.erase p).map (fun x => if bitOf x b then x ^^^ p else x))
    | none => gfRank b l

/-- Two ranges of 32 MiB units meet. -/
def CarveRec.meets (c d : CarveRec) : Bool :=
  decide (c.base < d.base + d.size32 * 2 ^ 25) && decide (d.base < c.base + c.size32 * 2 ^ 25)

/-- No two of a list are related. -/
def pairwiseNot {α : Type} (r : α → α → Bool) : List α → Bool
  | [] => true
  | x :: l => l.all (fun y => !(r x y)) && pairwiseNot r l

/-- A carve-up record out of place (R455). -/
def Manifest.carveBad (m : Manifest) (c : CarveRec) : Bool :=
  let stop := c.base + c.size32 * 2 ^ 25
  decide (c.size32 = 0) || decide (c.base % 2 ^ 25 ≠ 0) || decide (0x1000 < c.owner) ||
    !(decide (stop ≤ vaultEnd) ||
      (decide (lrsBase ≤ c.base) && decide (stop ≤ lrsBase + popCount m.stackMask 8 * stackBytes m.stackCap)))

/-- The MEMMAP rules of step 13. DESIGN CHOICE: a pin record of no size is refused, and ranges that overlap count once each (log 216). -/
def Manifest.memMapBad (m : Manifest) : Bool :=
  let mm := m.mm
  decide (15 < mm.local32) || decide (1 < mm.homeLocal) || decide (mm.poolWays < 2) || decide (8 < mm.poolWays) ||
    decide (mm.bufLog < 12) || decide (16 < mm.bufLog) || mm.masks.any (fun x => decide (2 ^ 45 ≤ x)) ||
    decide (gfRank 6 (mm.masks.map (· % 64)) ≠ 6) || decide (16 < mm.poolWays + (mm.scratch.map (·.ways)).sum) ||
    mm.scratch.any (fun r => decide (r.ways = 0) ||
      !(decide (r.owner = 0x1000) || m.tenants.any (fun t => t.tenant = r.owner))) ||
    mm.carve.any m.carveBad || !(pairwiseNot CarveRec.meets mm.carve) ||
    m.tenants.any (fun t => t.pins.any (fun p => decide (p.1 % 2 ^ 25 ≠ 0) || decide (p.2 = 0)))

/-- The pinned count of a partition (R234). -/
def Manifest.pinned (m : Manifest) (p : Nat) : Nat :=
  ((m.tenants.filter (fun t => t.part = p)).map (fun t => (t.pins.map (·.2)).sum)).sum

/-- A tenant has more than 8 pinned ranges (R234). -/
def Manifest.pinMany (m : Manifest) : Bool :=
  (records (sbody m.sects 0x40) (8 + 24 * nPart (sbody m.sects 0x40)) 136 (nTen (sbody m.sects 0x40))).any (fun r => decide (8 < leAt r 3 1))

/-- Step 13. -/
def manStep13 (m : Manifest) : Verdict :=
  firstFail [failIn m.sects 12 0x30 (m.memMapBad || m.pinMany),
    failIn m.sects 12 0x40 ((m.tenants.map (·.part)).any (fun p => decide (512 < m.pinned p)))]

/-- Step 14. -/
def manStep14 (m : Manifest) : Verdict :=
  failIn m.sects 13 0x40 (
    m.parts.any (fun p => decide (64 ≤ p.part) || decide (p.tiles = 0)) ||
    !(pairwiseNot (fun (p q : PartRec) => decide (p.part = q.part) || decide (p.tiles &&& q.tiles ≠ 0)) m.parts) ||
    m.tenants.any (fun t => decide (4096 ≤ t.tenant) || !(m.parts.any (fun p => p.part = t.part))) ||
    decide ((m.tenants.map (·.tenant)).eraseDups.length ≠ m.tenants.length))

/-! ### Step 15: the fabric (R277 to R279, R287, R288, R295) -/

/-- A path from torus router r toward d, obeying R288: the last move's dimension and direction (0 to 3; 4 at the start) and
the moves made in that dimension. -/
def pathOk (t : Array Nat) (d : Nat) : Nat → Nat → Nat → Nat → Bool
  | 0, _, _, _ => false
  | f + 1, r, dir, n =>
    let p := tabPort t r d
    if r = d then decide (p = 6)
    else
      match portTo r p with
      | some q =>
        if 64 ≤ q then decide (q = d)
        else
          let sameDim := decide (dir < 4) && decide (dir / 2 = p / 2)
          if (decide (p < 2) && (dir == 2 || dir == 3)) || (sameDim && decide (dir ≠ p)) then false
          else
            let k := if sameDim then n + 1 else 1
            decide (k ≤ 7) && pathOk t d f q p k
      | none => false

/-- A path from any router. -/
def pathFrom (t : Array Nat) (r d : Nat) : Bool :=
  if r < 64 then pathOk t d 20 r 4 0
  else if r = d then true
  else
    match portTo r (tabPort t r d) with
    | some q => pathOk t d 20 q 4 0
    | none => false

/-- The ring's segment from each tile and each slip to the next stop (R287). -/
def ringOk (t : Array Nat) : Bool :=
  (List.range 64).all (fun k =>
    if k % 8 = 7 then decide (tabPort t k (64 + k / 8) = 4) else decide (tabPort t k (k + 1) = 0)) &&
  (List.range 8).all (fun v =>
    let d := (8 * v + 8) % 64
    decide (tabPort t (64 + v) d = 3) && decide (tabPort t (8 * v + 7) d = 0) && decide (tabPort t (8 * v) d = 2))

/-- A table that breaks R288. -/
def FabTab.bad (x : FabTab) : Bool :=
  let t := x.ports.toArray
  !((List.range 83).all (fun r => (List.range 83).all (fun d => pathFrom t r d)) && ringOk t)

/-- Step 15. -/
def manStep15 (m : Manifest) : Verdict :=
  let n := m.tabs.length
  firstFail [
    failIn m.sects 14 0x50 (decide (n = 0) || decide (16 < n) || decide ((m.tabs.head?.map (·.failed)).getD 0 ≠ 0) ||
      m.tabs.any FabTab.bad),
    failIn m.sects 14 0xA0 (allPairs.any (fun p =>
      decide (m.regFld (R.octToll p.1 p.2) F.octToll_RATE ≠ 2 ^ 32 - 1) &&
      decide (m.regFld (R.octToll p.1 p.2) F.octToll_BURST < 128)))]

/-! ### Step 16: programs and the timetable -/

/-- Tiles of a partition of a manifest. -/
def Manifest.tilesOf (m : Manifest) (p : Nat) : Nat := ((m.parts.find? (fun r => r.part = p)).map (·.tiles)).getD 0

/-- The partition of a tenant of a manifest. -/
def Manifest.partOf (m : Manifest) (t : Nat) : Option Nat := (m.tenants.find? (fun r => r.tenant = t)).map (·.part)

/-- A leg entry that breaks R43, R137 or its owner's rules. -/
def State.legBad (s : State) (m : Manifest) (b : SlotBlk) (e : LegEntry) : Bool :=
  !(bitOf (m.tilesOf b.part) (e.te / 4)) || decide (m.partOf e.tenant ≠ some b.part) ||
    !(m.progs.any (fun p => decide (p.index = e.prog) && decide (p.tenant = e.tenant))) ||
    (match mget s.progs e.prog with
      | some p => s.mf.isSome && decide (e.bound < p.bound)
      | none => false)

/-- The legs of a TE in a block. -/
def SlotBlk.legsOn (b : SlotBlk) (te : Nat) : List LegEntry := b.legs.filter (fun e => e.te = te)

/-- Variant v's block of a partition in the slot k after slot i. -/
def Variant.blockAt (v : Variant) (part i k : Nat) : Option SlotBlk :=
  (v.slots[(i + k) % max 1 v.slots.length]?).bind (fun l => l.find? (fun b => b.part = part))

/-- A prefetch entry that names no leg entry. -/
def Variant.pfLost (v : Variant) (i : Nat) (b : SlotBlk) (e : PfEntry) : Bool :=
  match v.blockAt b.part i (if e.copy then e.lead else 0) with
  | some c => decide ((c.legsOn e.te).length ≤ e.leg)
  | none => true

/-- The cycles available to legs (R36). -/
def legCycles (period quiet : Nat) : Nat := 21 * (period - 100 - quiet) / 2 - 64

/-- A block that breaks its rules (R41 to R43, R59, R197, R457, R458). -/
def State.blockBad (s : State) (m : Manifest) (v : Variant) (i : Nat) (b : SlotBlk) : Bool :=
  let tes := (b.legs.map (·.te)).eraseDups
  !(m.parts.any (fun p => p.part = b.part)) || decide (1 < b.qc) || decide (m.quiet < b.drain) ||
    (List.range 576).any (fun d => bitOf b.wake d && (decide (529 ≤ d) || decide (d < 512 ∧ d % 8 = 7))) ||
    b.q0s.any (fun q => decide (81 < q.1)) || b.legs.any (s.legBad m b) ||
    tes.any (fun k => decide (16 < (b.legsOn k).length) ||
      decide (legCycles m.period m.quiet < ((b.legsOn k).map (·.bound)).sum)) ||
    b.pfs.any (v.pfLost i b) ||
    b.pfs.any (fun e => !e.copy && decide (16 < (b.pfs.filter (fun x => !x.copy && decide (x.te = e.te ∧ x.leg = e.leg))).length)) ||
    (decide (2 ≤ v.variant) &&
      ((b.legs.any (fun e => bitOf v.covers e.te)) || (b.pfs.any (fun e => bitOf v.covers e.te))))

/-- Numbers that rise strictly. -/
def rising : List Nat → Bool
  | a :: b :: l => decide (a < b) && rising (b :: l)
  | _ => true

/-- A re-entry entry that breaks R52 or R458. -/
def Manifest.reBad (m : Manifest) (v : Variant) (e : ReEntry) : Bool :=
  !(v.hasStep e.vclass e.toStep) ||
    (if e.src ≤ 16 then
      (match m.var e.src with
        | some x => !(x.hasStep e.vclass e.fromStep)
        | none => true)
    else decide (e.src < 0x80) || decide (0x90 < e.src))

/-- A variant that breaks its rules. -/
def State.variantBad (s : State) (m : Manifest) (v : Variant) : Bool :=
  decide (v.cycle = 0) || decide (64 < v.cycle) || decide (16 < v.variant) || decide ((v.covers = 0) ≠ (v.variant < 2)) ||
    v.slots.zipIdx.any (fun x => !(rising (x.1.map (·.part))) || decide (2048 < (x.1.map (fun b => b.pfs.length)).sum) ||
      x.1.any (s.blockBad m v x.2)) ||
    v.reentry.any (m.reBad v) ||
    ((v.entries.map (·.vclass)).eraseDups).any (fun c =>
      (List.range ((v.lastStep c).getD 0)).any (fun k => !(v.hasStep c k)))

/-- Step 16. -/
def State.manStep16 (s : State) (m : Manifest) (flags : List Nat) : Verdict :=
  let vs := m.variants.map (·.variant)
  firstFail [
    failIn m.sects 15 0x70 (decide ((m.progs.map (·.index)).eraseDups.length ≠ m.progs.length) ||
      m.progs.any (fun p => decide (4096 ≤ p.index) || !(m.tenants.any (fun t => t.tenant = p.tenant)))),
    failIn m.sects 15 0x80 (flags.contains 15 || decide (vs.length = 0) || decide (17 < vs.length) || !(rising vs) ||
      decide (vs.head? ≠ some 0) || m.variants.any (s.variantBad m))]

/-! ### Steps 17 and 18 -/

/-- The largest energy a partition's blocks declare. -/
def Manifest.peak (m : Manifest) (p : Nat) : Nat := (((m.blocks p).map (·.energy)).max?).getD 0

/-- Step 17. -/
def manStep17 (m : Manifest) : Verdict :=
  firstFail [failIn m.sects 16 0x90 (m.budgetW < 300 ∨ 700 < m.budgetW),
    failIn m.sects 16 0x80 (m.budgetW * m.period < (m.parts.map (fun p => m.peak p.part)).sum * 100)]

/-- Step 18 (R336). -/
def State.manStep18 (s : State) (m : Manifest) (adm : Bool) : Verdict :=
  firstFail [failIn m.sects 17 0x60 (s.overRes m adm), failIn m.sects 17 0xA0 (s.overPair m)]

/-! ### Step 19: what may change (R466, R467) -/

/-- A tenant is idle. -/
def State.tenantIdle (s : State) (t : Nat) : Bool :=
  !(s.rings.live.any (fun g => g / 64 = t)) && !(s.rings.ctxs.any (fun c => c.ring / 64 = t)) && !(s.torn t) && decide (s.tdi t = 0)

/-- A partition is idle, under both manifests. -/
def State.partIdle (s : State) (old new : Manifest) (p : Nat) : Bool :=
  ((old.tenants ++ new.tenants).filter (fun t => t.part = p)).all (fun t => s.tenantIdle t.tenant)

/-- MEMMAP without its carve-up records and their count. -/
def memMapFixed (b : List Byte) : List Byte := b.take 6 ++ slice b 8 (48 + 8 * nScratch b)

/-- The elements of one list that another lacks. -/
def listDiff {α : Type} [BEq α] (a b : List α) : List α := a.filter (fun x => !(b.contains x))

/-- Step 19: a SAME section differs, or an IDLE change concerns a tenant or partition that is not idle. -/
def State.manStep19 (s : State) (old new : Manifest) : Verdict :=
  let same (typ : Nat) : Verdict := failIn new.sects 18 typ (sbody old.sects typ ≠ sbody new.sects typ)
  let gone := listDiff old.mm.carve new.mm.carve
  let come := listDiff new.mm.carve old.mm.carve
  let owners := (gone ++ come).map (·.owner)
  let parts := (listDiff old.parts new.parts ++ listDiff new.parts old.parts).map (·.part)
  let tens := listDiff old.tenants new.tenants ++ listDiff new.tenants old.tenants
  firstFail [same 0x01, same 0x10,
    failIn new.sects 18 0x30 (memMapFixed (sbody old.sects 0x30) ≠ memMapFixed (sbody new.sects 0x30)),
    same 0x50, same 0xB0, same 0xC0,
    failIn new.sects 19 0x30 (owners.any (fun o => decide (o < 4096) && !(s.tenantIdle o)) ||
      gone.any (fun c => decide (c.owner < 4096) && decide (s.rf (R.salKey c.owner) F.salKey_CLEAN = 0))),
    failIn new.sects 19 0x40 ((parts ++ tens.map (·.part)).any (fun p => !(s.partIdle old new p)))]

/-- Step 19 against the manifest in force; the first manifest after HUB_RST_N has none to meet. -/
def State.manStep19Now (s : State) (m : Manifest) : Verdict := s.mf.bind (fun old => s.manStep19 old m)

/-! ### The whole check -/

/-- The checks from step 10 on. -/
def State.manChecks (s : State) (m : Manifest) (flags : List Nat) : Verdict :=
  firstFail [manStep11 m, manStep12 m, manStep13 m, manStep14 m, manStep15 m, s.manStep16 m flags, manStep17 m,
    s.manStep18 m true, s.manStep19Now m]

/-- A manifest's bytes checked from step 2 on: the first failure, or the manifest admitted. -/
def State.checkMan (s : State) (b : List Byte) : Verdict × Option Manifest :=
  match manStep2 b with
  | some v => (some v, none)
  | none =>
    let l := (manSects b).1
    match firstFail [s.manSteps39 b l, manStep10 l] with
    | some v => (some v, none)
    | none =>
      let t := (timetableOf (sbody l 0x80)).getD ([], [])
      let m := manOf b l t.1
      match s.manChecks m t.2 with
      | some v => (some v, none)
      | none => (none, some m)

end Sys2Proof.Machine
end

