-- ==== Sys2Proof/Machine/Power.lean ====
section
/-! DEFINITION. Power, energy and temperature (R496 to R507, R595). -/

namespace Sys2Proof.Machine

def State.setPwr (s : State) (x : PwrSt) : State := { s with pwr := x }

/-- An error captured in PWR_ERR. -/
def State.pwrCap (s : State) (cause : Nat) : State := s.captureAt R.pwrErr capStd cause

/-! ### Keep-alive supplies (R496) -/

/-- The domain changes supply: event, count, CORRECTED record. -/
def State.kaSwitch (s : State) (src : Nat) : State :=
  ((((s.rset R.pwrStatus F.pwrStatus_KA_SRC src).rset R.pwrEvent F.pwrEvent_KA_SWITCH 1).radd R.pwrKa F.pwrKa_SWITCHES 1).pwrCap
    1).errBare clsCorrected 0x0D 1 0

/-- The measured supplies, in mV. -/
def State.kaShow (s : State) (mvA mvB : Nat) : State := (s.rset R.pwrKa F.pwrKa_KA_A_MV mvA).rset R.pwrKa F.pwrKa_KA_B_MV mvB

def execKaSupplyUnhealthy (mvA mvB : Nat) (s : State) : Host.Outcome State Fault Refusal :=
  let s1 := s.kaShow mvA mvB
  .next (if s.rf R.pwrStatus F.pwrStatus_KA_SRC = 0 then s1.kaSwitch 1 else s1)

def execKaSupplyReturn (mvA mvB : Nat) (s : State) : Host.Outcome State Fault Refusal :=
  let s1 := s.kaShow mvA mvB
  .next (if s.rf R.pwrStatus F.pwrStatus_KA_SRC = 1 then s1.kaSwitch 0 else s1)

/-! ### Energy (R498 to R502) -/

/-- The sum of the tile meters of a mask of tiles. -/
def tileSum (tiles : List Nat) (mask : Nat) : Nat :=
  ((List.range 64).map (fun t => if bitOf mask t then tiles.getD t 0 else 0)).sum

/-- E_p of a sailing (R499). -/
def State.energyOf (s : State) (rails tiles : List Nat) (r : PartRec) : Nat :=
  let tdef := (s.partRecs.map (fun x => popCount x.tiles 64)).sum
  let esh := rails.sum - (s.partRecs.map (fun x => tileSum tiles x.tiles)).sum
  tileSum tiles r.tiles + esh * popCount r.tiles 64 / max 1 tdef

/-- One partition's energy of the sailing closed: MEAS and DECL, and whether it exceeded its declaration. A sailing in which
the partition ran no block has no declaration to exceed. -/
def State.partOver (s : State) (e : Nat) (p : Nat) : Bool :=
  match (s.part p).decl with
  | some d => decide (e > d) || s.pwr.meterBad || decide (s.rf R.pwrStatus F.pwrStatus_THERM ≥ 1)
  | none => false

/-- Over by energy or a failed meter, and not by temperature alone. -/
def State.overEnergy (s : State) (e p : Nat) : Bool :=
  match (s.part p).decl with
  | some d => decide (e > d) || s.pwr.meterBad
  | none => false

/-- A partition over its declaration (R501, R502): its lean variant two sailings on, or the force. A shadow's overruns of a
paired partition go to the primary (R504). -/
def State.overAct (s : State) (p : Nat) (energy : Bool) : State :=
  let s1 := s.rset R.pwrEvent F.pwrEvent_OVER 1
  if s1.twinRole = 2 ∧ s1.twinPart p = 2 then { s1 with twin := { s1.twin with overfl := nins s1.twin.overfl p } }
  else if s1.canLean p then
    if (mget s1.pwr.leanDue p).isSome then s1
    else s1.setPwr { s1.pwr with
      leanDue := mput s1.pwr.leanDue p (s1.sail + 1),
      byEnergy := if energy then nins s1.pwr.byEnergy p else s1.pwr.byEnergy,
      byTemp := if energy then s1.pwr.byTemp else nins s1.pwr.byTemp p }
  else
    let s2 := ((s1.rset R.pwrEvent F.pwrEvent_NO_LEAN 1).pwrCap 5).errBare clsCorrected 0x0D 5 p
    let on := s2.rf R.pwrStatus F.pwrStatus_FORCED = 1 ∧ s2.rf R.pwrStatus F.pwrStatus_THERM ≠ 2
    s2.setPwr { s2.pwr with
      forceDue := if s2.pwr.forceDue.isSome ∨ on then s2.pwr.forceDue else some (s2.sail + 1) }

/-- A partition's line of the energy close. -/
def State.closePart (s : State) (rails tiles : List Nat) (r : PartRec) : State :=
  let e := s.energyOf rails tiles r
  let s1 := ((s.rset (R.pwrPart r.part) F.pwrPart_MEAS (min e (2 ^ 32 - 1))).rset (R.pwrPart r.part) F.pwrPart_DECL
    ((s.part r.part).decl.getD 0))
  if s.partOver e r.part then s1.overAct r.part (s.overEnergy e r.part) else s1

/-- GUARD after the step that is due. -/
def State.guardNext (s : State) : Nat :=
  if s.pwr.guardDue > 0 then min 40 (s.rf R.pwrStatus F.pwrStatus_GUARD + 1) else s.rf R.pwrStatus F.pwrStatus_GUARD - 1

/-- The VDD_ENG setpoint of a guard band, in mV (R505). -/
def State.setpoint (s : State) (guard : Nat) : Nat := max 650 (min 850 (s.fuses.vmin + 5 * guard))

/-- A guard step that is due asks the regulator for the setpoint of the new guard band, and that band (R505). -/
def State.askSetpoint (s : State) : State :=
  if s.pwr.guardDue = 0 then s else s.send .signal [5, s.guardNext, s.setpoint s.guardNext] []

/-- C0: the energy of the sailing that ended is closed (R498 to R502), and a regulator setpoint requested (R505). -/
def State.closeEnergy (s : State) (rails tiles : List Nat) (badMeter : Bool) : State :=
  let s1 := s.each (List.range 9) (fun s i => s.rinc (R.pwrRail i) F.pwrRail_UJ (rails.getD i 0))
  let s2 := (s1.rset R.pwrEnergySail F.pwrEnergySail_SAIL_LO ((s.sail + 0xFFFFFFFF) % 2 ^ 32)).rset R.pwrEnergySail
    F.pwrEnergySail_UJ (min rails.sum (2 ^ 32 - 1))
  let s3 := if badMeter then ((s2.pwrCap 6).setPwr { s2.pwr with meterBad := true }) else s2
  let s4 := s3.rsetIf (decide (rails.sum > s3.rf R.pwrBudget F.pwrBudget_BUDGET_UJ)) R.pwrEvent F.pwrEvent_BUDGET_OVER 1
  let s5 := s4.setPwr { s4.pwr with
    within := !(s4.partRecs.any (fun r => s4.partOver (s4.energyOf rails tiles r) r.part)) }
  (s5.partRecs.foldl (fun s r => s.closePart rails tiles r) s5).askSetpoint

/-! ### At I0 (R501 to R503, R505, R507) -/

/-- Lean operation of a partition ends: back to variant 0 (R503). -/
def State.leanOff (s : State) (p : Nat) : State :=
  if s.variantOf p = 1 then
    let s1 := ((s.switchVar p 0).rset R.pwrLean ⟨p, 1⟩ 0).rset R.pwrEvent F.pwrEvent_LEAN_OFF 1
    s1.setPwr { s1.pwr with byEnergy := nrem s1.pwr.byEnergy p, byTemp := nrem s1.pwr.byTemp p }
  else s

/-- A partition's lean variant begins (R501). -/
def State.leanOn (s : State) (p : Nat) : State :=
  if s.canLean p then
    ((s.switchVar p 1).rset R.pwrLean ⟨p, 1⟩ 1).rset R.pwrEvent F.pwrEvent_LEAN_ON 1
  else s

/-- The force of R502 on or off. -/
def State.forceI0 (s : State) : State :=
  let on := s.rf R.pwrStatus F.pwrStatus_FORCED = 1
  let hot := s.pwr.thermDue = 2
  let begins := match s.pwr.forceDue with
    | some n => decide (n ≤ s.sail)
    | none => false
  let keep := (decide on && !s.pwr.within) || begins || decide hot
  let run := if keep then s.pwr.forceRun + 1 else 0
  let s1 := (s.rset R.pwrStatus F.pwrStatus_FORCED (b2n keep)).setPwr { s.pwr with
    forceDue := if begins then none else s.pwr.forceDue, forceRun := run }
  if run = 64 then s1.errBare clsDegrading 0x0D 5 0 else s1

/-- The guard step due takes effect (R505). -/
def State.guardI0 (s : State) : State :=
  if s.pwr.guardDue = 0 then s
  else
    let g1 := s.guardNext
    let s1 := ((s.rset R.pwrStatus F.pwrStatus_GUARD g1).rset R.pwrEvent F.pwrEvent_GUARD_CHG 1).setFlash { s.flash with
      ledger := s.flash.ledger ++ [⟨0, 4, g1, s.rf R.pwrStatus F.pwrStatus_VENG_MV, s.rf R.pwrStatus F.pwrStatus_LOGIC_T, s.sail⟩] }
    s1.setPwr { s1.pwr with guardDue := 0 }

/-- The temperature regime due takes effect; back at normal, firmware ends what temperature alone caused (R507). -/
def State.thermI0 (s : State) : State :=
  let old := s.rf R.pwrStatus F.pwrStatus_THERM
  let new := s.pwr.thermDue
  let s1 := s.rset R.pwrStatus F.pwrStatus_THERM new
  if old ≠ 0 ∧ new = 0 then s1.pwr.byTemp.foldl (fun s p => s.leanOff p) s1 else s1

/-- I0's power step: ends of lean operation that host software or firmware asked for, lean variants that fall due, the
force, the guard band, the temperature. asked: PWR_LEAN_END as transferred. -/
def State.powerI0 (s : State) (asked : Nat) : State :=
  let ends := (List.range 64).filter (fun p => bitOf asked p || s.pwr.endDue.contains p)
  let s1 := ends.foldl (fun s p => s.leanOff p) s
  let due := (s1.pwr.leanDue.filter (fun x => decide (x.2 ≤ s1.sail))).map (·.1)
  let s2 := due.foldl (fun s p => s.leanOn p) s1
  let s3 := (s2.setPwr { s2.pwr with
    leanDue := s2.pwr.leanDue.filter (fun x => !(decide (x.2 ≤ s2.sail))), endDue := [] }).rput R.pwrLeanEnd 0
  (s3.forceI0.guardI0).thermI0

/-- PWR_LEAN_END (R503): a bit written with 1 waits for the next I0; 0 bits change nothing. -/
def State.leanEnd (s : State) (mask : Nat) : State :=
  let old := mgetD s.shadow R.pwrLeanEnd (0, 0)
  let m := BitVec.ofNat 64 mask
  { s with shadow := mput s.shadow R.pwrLeanEnd (old.1 ||| m, old.2 ||| m) }

def execPwrLeanEnd (mask : Nat) (s : State) : Host.Outcome State Fault Refusal := .next (s.leanEnd mask)

/-! ### Droops, rails and temperature -/

/-- VDD_ENG below VMIN (R506): in RUN every partition's sailing is voided; outside RUN the rule asks for nothing. -/
def execVdroop (mv : Nat) (s : State) : Host.Outcome State Fault Refusal :=
  let s1 := s.rset R.pwrStatus F.pwrStatus_VENG_MV mv
  if s.time.stage = .run then
    .next (((s1.rset R.pwrEvent F.pwrEvent_VDROOP 1).pwrCap 2).voidAll 0x4A 0x0D 2 0 none)
  else .next s1

/-- A main rail out of its range for 1 µs (R595). -/
def execMainRailFault (rail : Nat) (s : State) : Host.Outcome State Fault Refusal :=
  .next ((s.pwrCap 2).fatal 0x0D 2 rail)

/-- The regime a temperature leads to from a regime, with 3 °C of hysteresis (R507): 0 normal, 1 LEAN, 2 HOT. -/
def thermRegime (old t : Nat) : Nat :=
  if 105 ≤ t then 2
  else if 100 ≤ t then (if old = 2 ∧ t > 102 then 2 else 1)
  else if old ≥ 1 ∧ t > 97 then 1
  else 0

/-- LOGIC_TEMP_CHANGE: the hottest sensor reads t °C; 110 °C or above is FATAL at once. -/
def execLogicTempChange (t : Nat) (s : State) : Host.Outcome State Fault Refusal :=
  let s1 := s.rset R.pwrStatus F.pwrStatus_LOGIC_T t
  if 110 ≤ t then .next ((s1.pwrCap 4).fatalTrip 0x0D 4 0)
  else
    let new := thermRegime s.pwr.thermDue t
    let s2 := s1.rsetIf (decide (new ≥ 1)) R.pwrEvent F.pwrEvent_THERM 1
    let s3 := if new = 2 ∧ s.pwr.thermDue ≠ 2 then (s2.pwrCap 3).errBare clsDegrading 0x0D 3 0 else s2
    .next (s3.setPwr { s3.pwr with thermDue := new })

/-- PWR_CTL.CLR (R514). -/
def State.pwrClr (s : State) : State :=
  (((s.rset R.pwrKa F.pwrKa_SWITCHES 0).rset R.pwrSurvey F.pwrSurvey_DONE 0).rset R.pwrSurvey F.pwrSurvey_DEFER 0)

def execPwrClr (s : State) : Host.Outcome State Fault Refusal := .next (s.pwrClr)

end Sys2Proof.Machine
end

