-- ==== Sys2Proof/Machine/Spare.lean ====
section
/-! DEFINITION. Failing TEs, spares, LOST lanes and repeats (R83, R94 to R99, R607, R54). -/

namespace Sys2Proof.Machine

/-! ### Failing TEs (R94) -/

/-- The lane of a tile that a physical TE serves. -/
def State.laneOf (s : State) (tile phys : Nat) : Option Nat :=
  (List.range 4).find? (fun j => decide (s.rf (R.teStatus (4 * tile + j)) F.teStatus_PHYS = phys) &&
    decide (s.rf (R.teStatus (4 * tile + j)) F.teStatus_STATE ≠ 4))

/-- The physical TE is the tile's free spare. -/
def State.isFreeSpare (s : State) (tile phys : Nat) : Bool :=
  decide (s.rf (R.teSpare tile) F.teSpare_STATE = 0) && decide (s.rf (R.teSpare tile) F.teSpare_SPARE_PHYS = phys)

/-- The FAILED mark of a physical TE. -/
def State.teFailed (s : State) (tile phys : Nat) : Bool := bitOf (s.rf (R.teSpare tile) F.teSpare_FAILED) phys

/-- An error of a physical TE captured: in TE_ERR of the lane it serves, or kept with the spare (R106). -/
def State.teCap (s : State) (tile phys cause : Nat) : State :=
  match s.laneOf tile phys with
  | some j => s.captureAt (R.teErr (4 * tile + j)) capStd cause
  | none =>
    let p := s.ph (5 * tile + phys)
    s.setPh (5 * tile + phys) { p with cap := capture p.cap capStd s.sail cause }

/-- A lane whose physical TE is failing: its STATE, and the repeat its partition falls due for (R94, R95). -/
def State.laneFails (s : State) (tile j : Nat) : State :=
  let s1 := s.rset (R.teStatus (4 * tile + j)) F.teStatus_STATE 3
  match s.partOfTile tile with
  | some p => s1.setPart p { s1.part p with repeatDue := true }
  | none => s1

/-- A physical TE becomes failing: captured, reported, its lane FAILING, its partition due for a repeat. -/
def State.becomeFailing (s : State) (tile phys cause : Nat) : State :=
  let x := 5 * tile + phys
  let s1 := s.teCap tile phys cause
  if s.teFailed tile phys ∨ (s.ph x).failing.isSome = true ∨ phys ≥ 5 then s1
  else
    let k := 4 * tile + (s.laneOf tile phys).getD 0
    let s2 := (s1.setPh x { s1.ph x with failing := some s.sail }).errBare clsDegrading 0x03 cause k
    match s.laneOf tile phys with
    | some j => s2.laneFails tile j
    | none => s2

/-- TE_FAILING: cause 1 is a corrected hold error, which only counts (R83); the others make the TE failing. -/
def execTeFailing (tile phys cause : Nat) (s : State) : Host.Outcome State Fault Refusal :=
  if cause = 1 then
    .next ((s.teCap tile phys 1).errBare clsCorrected 0x03 1 (4 * tile + (s.laneOf tile phys).getD 0))
  else .next (s.becomeFailing tile phys cause)

/-! ### Remaps at I2 (R95 to R98, R607) -/

/-- A physical TE marked FAILED. -/
def State.markFailed (s : State) (tile phys : Nat) : State :=
  (s.rset (R.teSpare tile) ⟨F.teSpare_FAILED.lo + phys, 1⟩ 1).setPh (5 * tile + phys)
    { s.ph (5 * tile + phys) with failing := none }

/-- The spare takes over lane j (R87, R95, R97): the lane's TE FAILED, the spare's quarter j its carry window, TE_ERR that of
the new physical TE, no mirror. A spare that became failing while it was FREE and is not yet FAILED takes the lane as a failing
TE: from then on the second row of R95 applies to it. -/
def State.takeLane (s : State) (tile j : Nat) : State :=
  let k := 4 * tile + j
  let old := s.rf (R.teStatus k) F.teStatus_PHYS
  let new := s.rf (R.teSpare tile) F.teSpare_SPARE_PHYS
  let oldCap := s.rv (R.teErr k)
  let newCap := (s.ph (5 * tile + new)).cap
  let s1 := (s.markFailed tile old)
  let s2 := s1.setPh (5 * tile + old) { s1.ph (5 * tile + old) with cap := oldCap }
  let s3 := s2.setPh (5 * tile + new) { s2.ph (5 * tile + new) with carryQ := j, cap := 0 }
  let s4 := (((((s3.rput (R.teErr k) newCap.toNat).rset (R.teStatus k) F.teStatus_PHYS new).rset (R.teStatus k) F.teStatus_STATE 1).rset
    (R.teSpare tile) F.teSpare_STATE 1).rset (R.teSpare tile) F.teSpare_SERVES j).rset (R.teSpare tile) F.teSpare_MIRROR 0
  if (s4.ph (5 * tile + new)).failing.isSome then s4.laneFails tile j else s4

/-- Logical TE k becomes LOST (R95, R96): voyages that have run a step on it are carry-exposed; the failed physical TE keeps its
capture (R106). DESIGN CHOICE (log 196): TE_ERR of a lane that no physical TE serves goes on showing the last capture, and a W1C
there clears that register alone. -/
def State.loseLane (s : State) (tile j : Nat) : State :=
  let k := 4 * tile + j
  let old := s.rf (R.teStatus k) F.teStatus_PHYS
  let spare := decide (s.rf (R.teSpare tile) F.teSpare_STATE = 1) && decide (s.rf (R.teSpare tile) F.teSpare_SPARE_PHYS = old)
  let s0 := s.markFailed tile old
  let s0c := s0.setPh (5 * tile + old) { s0.ph (5 * tile + old) with cap := s.rv (R.teErr k) }
  let s1 := (s0c.rset (R.teStatus k) F.teStatus_STATE 4).rsetIf spare (R.teSpare tile) F.teSpare_STATE 3
  s1.setRings { s1.rings with
    ctxs := s1.rings.ctxs.map (fun c => if c.op = 1 ∧ c.done.isNone ∧ c.tes.contains k then { c with exposed := true } else c) }

/-- A physical TE that became failing in an earlier sailing: it is remapped at this I2, with the repeat its failure calls for
(R53, R54, R95). -/
def State.dueTE (s : State) (x : Nat) : Bool :=
  match (s.ph x).failing with
  | some n => decide (n ≠ s.sail)
  | none => false

/-- Step 1 of R607: a free spare that failed becomes FAILED; then lanes whose TE is failing, in ascending order, take the
spare or become LOST. -/
def State.remapFailed (s : State) (tile : Nat) : State :=
  let sp := s.rf (R.teSpare tile) F.teSpare_SPARE_PHYS
  let s1 := if s.isFreeSpare tile sp && s.dueTE (5 * tile + sp) then
      ((s.markFailed tile sp).rset (R.teSpare tile) F.teSpare_STATE 2).rset (R.teSpare tile) F.teSpare_MIRROR 0
    else s
  (List.range 4).foldl (fun s j =>
    let k := 4 * tile + j
    let x := 5 * tile + s.rf (R.teStatus k) F.teStatus_PHYS
    if s.rf (R.teStatus k) F.teStatus_STATE ≠ 4 ∧ s.dueTE x = true then
      if s.rf (R.teSpare tile) F.teSpare_STATE = 0 then s.takeLane tile j else s.loseLane tile j
    else s) s1

/-- What waits in the shadow of TE_SPARE: the lane, and the TEs to be returned. -/
def State.spareReq (s : State) (tile : Nat) : Nat × Nat :=
  let sh := mgetD s.shadow (R.teSpare tile) (0, 0)
  (if fget sh.2 F.teSpare_REQ_LANE = 0 then 7 else fget sh.1 F.teSpare_REQ_LANE,
    fget sh.1 F.teSpare_CLR_FAILED &&& fget sh.2 F.teSpare_CLR_FAILED)

/-- The requests in force since the I0 of this INTAKE (R11, R33, R107): the lane, and the TEs to be returned. -/
def State.spareTaken (s : State) (tile : Nat) : Nat × Nat :=
  (s.rf (R.teSpare tile) F.teSpare_REQ_LANE, s.rf (R.teSpare tile) F.teSpare_CLR_FAILED)

/-- After the I2 no request is in force: REQ_LANE is back at 0b111, the hub's own change of the field (R11); CLR_FAILED, which holds
no value of its own, is spent, and later requests wait on. -/
def State.spareSpent (s : State) (tile : Nat) : State :=
  let s1 := s.rsetIf (decide (s.rf (R.teSpare tile) F.teSpare_REQ_LANE ≠ 7)) (R.teSpare tile) F.teSpare_REQ_LANE 7
  { s1 with regs := mput s1.regs (R.teSpare tile) (fset (s1.rv (R.teSpare tile)) F.teSpare_CLR_FAILED 0) }

/-- Step 2 of R607 (R97). -/
def State.takeReq (s : State) (tile j : Nat) : State :=
  if j = 7 then s
  else if j < 4 ∧ s.rf (R.teSpare tile) F.teSpare_STATE = 0 ∧ s.rf (R.teStatus (4 * tile + j)) F.teStatus_STATE ≠ 4 then
    s.takeLane tile j
  else s.rset (R.teSpare tile) F.teSpare_REQ_DROP 1

/-- Step 3 of R607 (R98): the lowest-numbered TE named and FAILED becomes the free spare; where its domain sleeps it is powered
again, as a spare's always is (R69). DESIGN CHOICE (log 197): bytes of the mirror that no write has renewed since are what that TE's
SRAM held. -/
def State.returnReq (s : State) (tile mask : Nat) : State :=
  if s.rf (R.teSpare tile) F.teSpare_STATE = 0 then s
  else match (List.range 5).find? (fun x => bitOf mask x && s.teFailed tile x) with
    | some x =>
      ((((s.rset (R.teSpare tile) ⟨F.teSpare_FAILED.lo + x, 1⟩ 0).rset (R.teSpare tile) F.teSpare_SPARE_PHYS x).rset (R.teSpare tile)
        F.teSpare_STATE 0).rset (R.teSpare tile) F.teSpare_MIRROR 1).rsetIf (decide (s.rf (R.octPwr (8 * tile + x)) F.octPwr_STATE = 1))
        (R.octPwr (8 * tile + x)) F.octPwr_STATE 0
    | none => s

/-- The sparing of one tile at I2. -/
def State.spareTile (s : State) (tile : Nat) : State :=
  let q := s.spareTaken tile
  (((s.remapFailed tile).takeReq tile q.1).returnReq tile q.2).spareSpent tile

/-- Tiles with anything to do at I2. -/
def State.spareTiles (s : State) : List Nat :=
  (List.range 64).filter (fun t => decide (s.spareTaken t ≠ (7, 0)) || (List.range 5).any (fun x => s.dueTE (5 * t + x)))

/-- Sparing remaps at I2 (R32, R95, R97, R98), and the variants LOST lanes call for (R53, R459). -/
def State.sparing (s : State) : State :=
  let ts := s.spareTiles
  let s0 := ts.foldl (fun s t => s.spareTile t) s
  let s1 := if ts.isEmpty then s0 else s0.saveRepair
  s1.partRecs.foldl (fun s r => if ts.any (bitOf r.tiles) then s.degradePart r.part else s) s1

/-- A remap of the tile falls due at the next I2 (R463). -/
def State.spareDue (s : State) : Bool :=
  !s.spareTiles.isEmpty

/-! ### Firmware's requests -/

/-- Bits of TE_SPARE put into its one shadow. -/
def State.spareShadow (s : State) (tile : Nat) (f : Fld) (x : Nat) : State :=
  let old := mgetD s.shadow (R.teSpare tile) (0, 0)
  { s with shadow := mput s.shadow (R.teSpare tile) (fset old.1 f x, old.2 ||| fmask f) }

/-- TE_REQ_LANE: the last write before the INTAKE counts. -/
def execTeReqLane (tile lane : Nat) (s : State) : Host.Outcome State Fault Refusal :=
  .next (s.spareShadow tile F.teSpare_REQ_LANE lane)

/-- TE_CLR_FAILED: requests combine. -/
def State.clrFailed (s : State) (tile mask : Nat) : State :=
  s.spareShadow tile F.teSpare_CLR_FAILED ((s.spareReq tile).2 ||| mask % 32)

def execTeClrFailed (tile mask : Nat) (s : State) : Host.Outcome State Fault Refusal := .next (s.clrFailed tile mask)

/-! ### Repeats (R54) -/

/-- C0: what the sailing that ended comes to for a partition: voided, repeated, or neither. -/
def State.decidePart (s : State) (p : Nat) : State :=
  let q := s.part p
  if q.repeatDue ∧ q.void.isNone ∧ q.repeats ≥ 8 then
    (s.setPart p { q with void := none, voidPrev := some 0x4B, repeatDue := false, repeatPrev := false, repeats := 0 }).report
      ⟨clsVoiding, 0x01, 0, p, some p, 0x4B, none, none, s.sail, false⟩
  else
    let rep := q.repeatDue && q.void.isNone
    (s.setPart p { q with
      void := none, voidPrev := q.void, repeatDue := false, repeatPrev := rep, repeats := if rep then q.repeats + 1 else 0 }).rsetIf
      rep R.sailEvent F.sailEvent_REPEAT 1

/-- I2: a repeated partition falls one sailing behind; at the end of the count it is held idle (R59). -/
def State.repeatI2 (s : State) (p : Nat) : State :=
  let q := s.part p
  if q.repeatPrev then
    let lag := s.lagOf p
    let s1 := s.setPart p { q with repeatPrev := false }
    if lag = 65535 then (s1.setPart p { q with repeatPrev := false, stopped := true }).errBare clsDegrading 0x01 0 p
    else s1.rset (R.sailLag p) F.sailLag_LAG (lag + 1)
  else s

end Sys2Proof.Machine
end

