-- ==== Sys2Proof/Machine/Cross.lean ====
section
/-! DEFINITION. Staging a manifest and the crossing (R462 to R467). -/

namespace Sys2Proof.Machine

def State.setMan (s : State) (x : ManSt) : State := { s with man := x }

/-! ### The MAN registers (R468, R470) -/

/-- MAN_STATUS.STATE: 0 EMPTY, 1 LOADING, 2 CHECKING, 3 STAGED, 4 SWITCHING. -/
def State.manState (s : State) : Nat := s.rf R.manStatus F.manStatus_STATE

def State.manTo (s : State) (x : Nat) : State := s.rset R.manStatus F.manStatus_STATE x

/-- A digest shown in six registers. -/
def State.showDigest (s : State) (key : Nat → Nat) (d : Nat) : State :=
  (List.range 6).foldl (fun s i => s.rput (key i) (bitsOf d (64 * i) 64)) s

/-- A check's outcome: RESULT, MAN_FAIL, and the state it leaves. -/
def State.manResult (s : State) (v : Verdict) (m : Option Manifest) : State :=
  let x := v.getD (1, 0, 0)
  let s1 := ((s.rset R.manStatus F.manStatus_RESULT x.1).rset R.manFail F.manFail_TYPE x.2.1).rset R.manFail F.manFail_OFFSET x.2.2
  ((s1.setMan { s1.man with staged := m, crossAt := none }).manTo (if m.isSome then 3 else 0)).showDigest R.manStgDigest
    ((m.map (·.digest)).getD 0)

/-- The staged manifest discarded. -/
def State.manDrop (s : State) (result : Nat) : State := s.manResult (some (result, 0, 0)) none

/-! ### Commands (R462, R463) -/

/-- MAN_LEN in range (R461 step 1). -/
def State.manLenOk (s : State) : Bool :=
  decide (256 ≤ s.rf R.manLen ⟨0, 27⟩) && decide (s.rf R.manLen ⟨0, 27⟩ ≤ 2 ^ 26)

/-- MAN_CTL.STAGE: acts in EMPTY and STAGED, and not while the life cycle is LOCKED or SCRAPPED; the manifest's range is
read in QC2 with PF0's requester ID. -/
def State.stage (s : State) : State :=
  if (s.manState = 0 ∨ s.manState = 3) ∧ s.lcs ≠ 7 ∧ s.lcs ≠ 4 then
    let s1 := ((s.setMan { s.man with staged := none, crossAt := none }).manTo 1).showDigest R.manStgDigest 0
    if s1.manLenOk then (s1.remIssue manWho (hostPa (s1.rf R.manSrc F.manSrc_ADDR * 64)) (s1.rf R.manLen ⟨0, 27⟩) 0).manArrived
    else s1.manTo 2
  else s

def execStage (s : State) : Host.Outcome State Fault Refusal := .next s.stage

/-- MAN_CTL.ABANDON. -/
def State.abandon (s : State) : State := if s.manState = 3 then s.manDrop 0x15 else s

def execAbandon (s : State) : Host.Outcome State Fault Refusal := .next s.abandon

/-- MAN_CTL.SWITCH: the crossing is the sailing MAN_SWITCH.AT names, the next one at the earliest. -/
def State.switchCmd (s : State) : State :=
  if s.manState = 3 then
    (s.manTo 4).setMan { s.man with crossAt := some (max (s.rf R.manSwitch F.manSwitch_AT) (s.sail + 1)) }
  else s

def execSwitch (s : State) : Host.Outcome State Fault Refusal := .next s.switchCmd

/-- Once the range is read, the check's outcome. Nothing was read where STAGE found MAN_LEN out of range. -/
def State.manCheck (s : State) : State :=
  if s.manState = 1 ∨ s.manState = 2 then
    match s.manRead with
    | some r =>
      if r.st = 0 then s
      else
        let s1 := s.remSet (s.heap.remReads.erase r)
        if r.st = 1 then let c := s1.checkMan r.data; s1.manResult c.1 c.2
        else s1.manResult (some (0x14, 0, 0)) none
    | none => s.manResult (some (if s.manState = 1 then 0x14 else 2, 0, 0)) none
  else s

/-! ### At I2 of the crossing (R464) -/

/-- The bindings and loads a new program table keeps: those of an index whose owner and DIGEST stay. -/
def keepIndex (old : Option Manifest) (new : Manifest) (i : Nat) : Bool :=
  let find (m : Manifest) := m.progs.find? (fun p => p.index = i)
  match old.bind find, find new with
  | some a, some b => decide (a.tenant = b.tenant) && decide (a.digest = b.digest)
  | none, some _ => old.isNone
  | _, none => false

/-- Tenants the new manifest leaves undefined: context OFF, EN cleared in force and in the shadow, entries dropped at the
next I1. -/
def State.ctxUndef (s : State) (t : Nat) : State :=
  let s1 := (s.rset (R.dtuCtxCfg t) F.dtuCtxCfg_EN 0).rset (R.dtuCtxCfg t) F.dtuCtxCfg_STATE 0
  s1.setDtu { s1.dtu with dropCtx := nins s1.dtu.dropCtx t, pinDone := nrem s1.dtu.pinDone t }

/-- A tenant whose pinned regions or tiles change loads its pinned pages again. -/
def State.ctxReload (s : State) (t : Nat) : State :=
  if s.rf (R.dtuCtxCfg t) F.dtuCtxCfg_STATE = 0 then s
  else
    let s1 := s.loadPins t
    s1.setDtu { s1.dtu with dropCtx := nins s1.dtu.dropCtx t, pinDone := nrem s1.dtu.pinDone t }

/-- A tenant's translation context at a crossing. -/
def State.ctxOne (s : State) (old new : Manifest) (t : TenRec) : State :=
  match new.tenants.find? (fun x => x.tenant = t.tenant) with
  | some x => if x.pins ≠ t.pins ∨ old.tilesOf t.part ≠ new.tilesOf x.part then s.ctxReload t.tenant else s
  | none => s.ctxUndef t.tenant

/-- Every context of the old manifest. -/
def State.ctxCross (s : State) (old new : Manifest) : State := old.tenants.foldl (fun s t => s.ctxOne old new t) s

/-- A new key owner gets its first key; while the generator fails it falls due later (R553). -/
def State.firstKey (s : State) (o : Nat) : State :=
  if s.drbgOk then s.freshKey o 0 0 else s.setSec { s.sec with keysDue := nins s.sec.keysDue o }

/-- Key owners at a crossing. -/
def State.keysCross (s : State) (old : Option Manifest) (new : Manifest) : State :=
  let owners (m : Manifest) : List Nat := pfOwner :: m.tenants.map (·.tenant)
  let was : List Nat := match old with
    | some m => owners m
    | none => []
  let now := owners new
  let s1 := (was.filter (fun o => !(now.contains o))).foldl (fun s o => s.setKeys o (none, none) 0) s
  (now.filter (fun o => !(was.contains o))).foldl (fun s o => s.firstKey o) s1

/-- What a first manifest after HUB_RST_N fixes for good: the memory map, the homes, the agents, the stacks (R179, R203, R204,
R271, R273, R274, R370, R390, R573). -/
def State.fixedCross (s : State) (m : Manifest) : State :=
  let rw := m.mm.poolWays + (m.mm.scratch.map (·.ways)).sum
  let s1 := (List.range 64).foldl (fun s t =>
    let d := s.rf (R.tileStatus t) F.tileStatus_RWAYS
    (((((s.rset (R.tileVmap t) F.tileVmap_HOME_LOCAL m.mm.homeLocal).rset (R.tileVmap t) F.tileVmap_LOCAL_32M m.mm.local32).rset
      (R.tileVmap t) F.tileVmap_POOL_WAYS m.mm.poolWays).rset (R.tileStatus t) F.tileStatus_CWAYS
      (s.rf (R.tileStatus t) F.tileStatus_CWAYS + d - rw)).rset (R.tileStatus t) F.tileStatus_RWAYS rw)) s
  let s2 := (List.range 6).foldl (fun s j => s.rset (R.cohHash j) F.cohHash_MASK (m.mm.masks.getD j 0)) s1
  let s3 := (m.slips.zipIdx).foldl (fun s x =>
    (s.rset (R.slipStatus x.2) F.slipStatus_ROLE x.1.role).rset R.cohStatus ⟨F.cohStatus_SLIP_AGENT.lo + x.2, 1⟩
      (b2n (decide (x.1.role = 1)))) s2
  let s4 := (((List.range 8).filter (bitOf m.stackMask)).zipIdx).foldl (fun s x =>
    (s.rset (R.lrsStatus x.1) F.lrsStatus_INDEX x.2).rset (R.lrsStatus x.1) F.lrsStatus_CAP m.stackCap) s3
  (s4.rset R.salCfg F.salCfg_SCRUB_RATE m.scrubRate).rset R.salCfg F.salCfg_ROT_RATE m.rotRate

/-- Partitions at a crossing: lags back to 0, seeds, nothing held idle; a partition the new manifest does not define reads 0
whole and runs no lean variant (R66). COPYs already issued complete, and one that is done keeps the sailing its step runs in (R196). A TE whose tile no partition holds keeps the seed it had: DESIGN CHOICE (log 161). -/
def State.partsCross (s : State) (m : Manifest) : State :=
  let gone (p : Nat) : Bool := !(m.parts.any (fun r => r.part = p))
  let s0 := (List.range 64).foldl (fun s p =>
    (s.rset (R.sailLag p) F.sailLag_LAG 0).rsetIf (gone p) (R.sailLag p) F.sailLag_VARIANT 0) s
  let s1 : State := { s0 with pwr := { s0.pwr with leanDue := s0.pwr.leanDue.filter (fun x => !(gone x.1)) } }
  let s2 := m.parts.foldl (fun s r =>
    ((List.range 256).filter (fun k => bitOf r.tiles (k / 4))).foldl (fun s k => s.rset (R.teRng k) F.teRng_SEED r.seed) s) s1
  { s2 with
    parts := s2.parts.map (fun p => (p.1, { p.2 with stopped := false })),
    copies := s2.copies.map (fun c => if c.done then { c with target := c.target + s.lagOf c.part } else c) }

/-- Voyages whose class no slot of the new primary timetable names end ABORTED. -/
def State.voyagesCross (s : State) (m : Manifest) : State :=
  s.setRings { s.rings with ctxs := s.rings.ctxs.map (fun c =>
    if c.op = 1 ∧ c.done.isNone ∧ c.fetched ∧ ((m.var 0).bind (fun v => v.lastStep c.vclass)).isNone then
      { c with done := some (stAborted, 0), doneSail := s.sail } else c) }

/-- The new manifest in force (I2 of w), and saved in flash (R465). -/
def State.crossNow (s : State) (m : Manifest) : State :=
  let old := s.mf
  let s1 := s.setMan { s.man with inForce := some m, staged := none, crossAt := none, crossed := true, replaced := old }
  let s2 : State := { s1 with
    progs := s1.progs.filter (fun p => keepIndex old m p.1), loads := s1.loads.filter (fun x => keepIndex old m x.index) }
  let s3 := match old with
    | some o => s2.ctxCross o m
    | none => s2.fixedCross m
  let s4 := ((s3.keysCross old m).partsCross m).showVariant.voyagesCross m
  let s5 := (((((((((s4.rset R.qPool F.qPool_BUF_LOG m.mm.bufLog).rset R.qPool F.qPool_BUFS (m.mm.poolWays * 2 ^ 25 / 2 ^
    m.mm.bufLog)).manTo 0).rset R.manStatus F.manStatus_IN_FORCE 1).showDigest R.manDigest m.digest).showDigest R.manStgDigest
    0).rput R.manCrossing s4.sail).rput R.manSvn m.svn).rput R.manSerial m.serial)
  if s5.flash.good then
    s5.setFlash { s5.flash with saved := s5.flash.saved.write s5.fuses.serial [] m.bytes } else s5

/-- The entry that tells a shadow of the crossing (R535). -/
def State.ferryCrossing (s : State) (m : Manifest) : State :=
  match (s.partRecs.map (·.part)).find? (fun p => s.twinPart p = 2) with
  | some p => s.ferry 7 p (s.sailNo p) (leBytes 48 m.digest)
  | none => s

/-- The crossing at an I2: due: a repeat, a remap or a variant switch falls due at it, and the crossing moves on; steps 18
and 19 are repeated against the state before it (R463). -/
def State.crossI2 (s : State) (due : Bool) (again : Verdict) : State :=
  match s.man.crossAt, s.man.staged with
  | some w, some m =>
    if s.sail < w then s
    else if due then s.setMan { s.man with crossAt := some (s.sail + 1) }
    else match again with
      | some v => s.manResult (some v) none
      | none => (s.ferryCrossing m).crossNow m
  | _, _ => s

/-- Steps 18 and 19 of the staged manifest, against the state now in force. -/
def State.manAgain (s : State) : Verdict :=
  match s.man.staged with
  | some m => firstFail [s.manStep18 m false, s.manStep19Now m]
  | none => none

/-! ### At I0 of the sailing after it (R456, R464) -/

/-- A register REGS may name. -/
def listedKey (key : Nat) : Bool :=
  match regOf key with
  | some (d, _) => regListed d.name
  | none => false

/-- A register whose value at a crossing is only in part the manifest's: SLIP_CFG takes three fields from TOPOLOGY, of OCT_PWR
the manifest loads SLEEP_EN (R309). -/
def octPwrKey (key : Nat) : Bool := decide (R.octPwr 0 ≤ key) && decide (key ≤ R.octPwr 528)

/-- A field of a register put without the write that waits for it being lost: it was accepted after this value. -/
def State.underput (s : State) (key : Nat) (f : Fld) (x : Nat) : State := { s with regs := mput s.regs key (fset (s.rv key) f x) }

/-- The REGS values in force; writes accepted since the crossing, which come later, wait on in the shadows. -/
def State.loadRegs (s : State) (m : Manifest) : State :=
  let keep := s.regs.filter (fun p => !(listedKey p.1) || octPwrKey p.1)
  let s0 := s.settleAll
  let s1 : State := { s0 with regs := keep.map (fun p => if octPwrKey p.1 then (p.1, fset p.2 F.octPwr_SLEEP_EN 0) else p) }
  let s2 := m.regs.foldl (fun s e =>
    if octPwrKey e.1 then s.underput e.1 F.octPwr_SLEEP_EN (e.2 / 2 ^ 8) else { s with regs := mput s.regs e.1 (BitVec.ofNat 64 e.2) }) s1
  (m.slips.zipIdx).foldl (fun s x =>
    ((s.underput (R.slipCfg x.2) F.slipCfg_MIN_RATE x.1.minRate).underput (R.slipCfg x.2) F.slipCfg_MAX_RATE x.1.maxRate).underput
      (R.slipCfg x.2) F.slipCfg_MIN_MOD x.1.minMod) s2

/-- The variant a partition runs under a new timetable (R459): a degraded one where TEs are LOST, the lean one where it runs
lean, else the primary. -/
def State.variantFor (s : State) (m : Manifest) (p : Nat) : Option Nat :=
  let lost := s.lostTes p
  if lost.isEmpty then (if s.rf R.pwrLean ⟨p, 1⟩ = 1 ∧ (m.var 1).isSome = true then some 1 else some 0) else m.degraded lost

/-- The new timetable governs partition p: voyages go on at the steps its re-entry entries name. DESIGN CHOICE (log 162): where
no variant covers its LOST TEs, VARIANT keeps the number of the last one. -/
def State.enterTable (s : State) (m : Manifest) (p : Nat) : State :=
  let src := 0x80 + s.variantOf p
  match s.variantFor m p with
  | some v =>
    match m.var v with
    | some x =>
      (s.setRings { s.rings with ctxs := s.rings.ctxs.map (fun c => if s.voyageOf p c then c.moved' x src s.sail else c) }).rset
        (R.sailLag p) F.sailLag_VARIANT v
    | none => s
  | none => (s.setPart p { s.part p with stopped := true }).errBare clsDegrading 0x01 0 p

/-- I0 after a crossing: before the shadows transfer, since writes made after the crossing come later. -/
def State.crossI0 (s : State) : State :=
  match s.man.crossed, s.mf with
  | true, some m =>
    let s1 := ((s.loadRegs m).rset R.sailPeriod F.sailPeriod_PERIOD m.period).rset R.sailPeriod F.sailPeriod_QUIET m.quiet
    let s2 := ((s1.rset R.pwrBudget F.pwrBudget_BUDGET_W m.budgetW).rset R.pwrBudget F.pwrBudget_BUDGET_UJ
      (m.budgetW * m.period / 100)).grantsI0 m
    let s3 := (List.range 64).foldl (fun s p =>
      if m.parts.any (fun r => r.part = p) then s.enterTable m p else s.rset (R.sailLag p) F.sailLag_VARIANT 0) s2
    ((s3.setMan { s3.man with crossed := false, replaced := none }).rset R.sailStatus F.sailStatus_CYCLE
      (((m.var 0).map (·.cycle)).getD 1)).showVariant
  | _, _ => s

/-- The write a crossing makes to the shadows of the listed registers (R464): what waited there is gone. -/
def State.crossShadow (s : State) : State :=
  if s.man.crossed then { s with shadow := s.shadow.filter (fun p => !(listedKey p.1)) } else s

end Sys2Proof.Machine
end

