-- ==== Sys2Proof/Machine/Flags.lean ====
section
/-! DEFINITION. The flags and counters of a logical TE (R100, R103, R104, R146, R157, R159 to R163, R168, R169) and the
flags a leg's completion record carries (R444). -/

namespace Sys2Proof.Machine

/-- What an instruction counted: accumulators clamped, elements saturated, NaNs converted, an all-zero tensor,
underflows, reserved codes, prefetch mismatches. -/
structure Evts where
  accSat : Nat
  sat : Nat
  nan : Nat
  zero : Nat
  under : Nat
  rsv : Nat
  miss : Nat
  deriving DecidableEq, Repr

def Evts.none : Evts := ⟨0, 0, 0, 0, 0, 0, 0⟩

/-- The NFLAGS bits of the events (R444). -/
def Evts.bits (e : Evts) : Nat :=
  b2n (decide (e.accSat > 0)) + 2 * b2n (decide (e.sat > 0)) + 4 * b2n (decide (e.nan > 0)) +
    8 * b2n (decide (e.zero > 0)) + 16 * b2n (decide (e.under > 0)) + 32 * b2n (decide (e.rsv > 0)) +
    64 * b2n (decide (e.miss > 0))

/-- The TE_FLAGS bits of the events (R103): bit 1 ACC_SAT to bit 7 WS_MISS. -/
def Evts.flagBits (e : Evts) : Nat := 2 * e.bits

/-- The sticky flags of logical TE k with more set. -/
def orFlags (v : Word) (bits : Nat) : Word := BitVec.ofNat 64 (v.toNat ||| bits)

/-- The events entered in the registers of logical TE k; in confidential mode none is (R101, R169). -/
def State.countEvts (s : State) (k : Nat) (e : Evts) : State :=
  if s.conf then s
  else
    let s1 := { s with regs := mput s.regs (R.teFlags k) (orFlags (s.rv (R.teFlags k)) e.flagBits) }
    let s2 := (s1.radd (R.teCvtCnt k) F.teCvtCnt_SAT e.sat).radd (R.teCvtCnt k) F.teCvtCnt_NAN e.nan
    let s3 := (s2.radd (R.teNumCnt k) F.teNumCnt_UNDERFLOW e.under).radd (R.teNumCnt k) F.teNumCnt_RSV_CODE e.rsv
    s3.radd (R.tePerfWs k) F.tePerfWs_MISS e.miss

/-- The sticky flags, counters and TE_PERF registers of logical TE k cleared (TE_CTL.CLR, R108, and R100). -/
def State.clearTe (s : State) (k : Nat) : State :=
  { s with
    regs := [R.teFlags k, R.teCvtCnt k, R.teNumCnt k, R.tePerfBusy k, R.tePerfStall k, R.tePerfWs k].foldl
      (fun m r => mput m r 0) s.regs }

end Sys2Proof.Machine
end

