-- ==== Sys2Proof/Machine/Leg.lean ====
section
/-! DEFINITION. A leg's run on a TE: issue in program order, predicates, the waits of R82 and R135, halting on a fault,
and how a leg ends. -/

namespace Sys2Proof.Machine

/-- A TE with nothing to do. -/
def TeSt.idle : TeSt := ⟨[], none, [], [], [], 0, [], 0⟩

def State.tez (s : State) (k : Nat) : TeSt := mgetD s.te k TeSt.idle

def State.setTe (s : State) (k : Nat) (t : TeSt) : State := { s with te := mput s.te k t }

/-- The leg that runs on a TE replaced. -/
def State.setLeg (s : State) (k : Nat) (r : LegRun) : State := s.setTe k { s.tez k with run := some r }

/-- The program counter past the instruction at it (R129). -/
def LegRun.advance (r : LegRun) : LegRun :=
  let n := nextPc r.loops r.pc
  { r with loops := n.1, pc := n.2 }

/-- The address space key of a leg's region in its tenant. -/
def LegRun.regionBase (r : LegRun) (g : Region) : Nat := g.ownBase r.args r.rank

/-- A range of hold bytes meets an outstanding MOV's ranges (R82). -/
def movMeets (m : MovX) (a n : Nat) : Bool := meets a n m.lo (m.hi - m.lo) || meets a n m.slo (m.shi - m.slo)

/-- A range meets the ACT or DST range of a running MMA (R135). -/
def mmaMeets (m : MmaX) (a n : Nat) : Bool := meets a n m.alo (m.ahi - m.alo) || meets a n m.dlo (m.dhi - m.dlo)

/-- MOVs outstanding on a TE: the leg's, and those of a leg before it that still run. -/
def TeSt.outstanding (t : TeSt) (r : LegRun) : List MovX := t.tail ++ r.movs

/-- An instruction with these hold operands waits (R82, R135). -/
def TeSt.blocked (t : TeSt) (r : LegRun) (hs : List (Nat × Nat)) : Bool :=
  hs.any (fun h => (t.outstanding r).any (fun m => movMeets m h.1 h.2) || (match r.mma with
    | some m => mmaMeets m h.1 h.2
    | none => false))

/-- The instruction a TE's leg is at, while it runs: not halted, not waiting at a barrier. -/
def State.atIns (s : State) (k : Nat) : Option (LegRun × Nat) :=
  match (s.tez k).run with
  | some r =>
    if r.halted.isSome || r.waitBar.isSome then none
    else (r.prog.words[r.pc]?).map (fun w => (r, w))
  | none => none

/-- An instruction of a class and form issues on TE k: one predicated off only advances, one whose hold operands are in
use waits, otherwise act gives the state and the leg after it, which then advances. -/
def State.issue (s : State) (k cls : Nat) (sel : Nat → Bool) (hold : LegRun → Nat → List (Nat × Nat))
    (act : State → LegRun → Nat → State × LegRun) : State :=
  match s.atIns k with
  | some (r, w) =>
    if insClass w = cls ∧ sel w = true then
      if predicated r.preds w then
        if (s.tez k).blocked r (hold r w) then s
        else
          let x := act s r w
          x.1.setLeg k x.2.advance
      else s.setLeg k r.advance
    else s
  | none => s

/-- Events counted for the TE and for the leg's record. -/
def State.legEvts (s : State) (k : Nat) (e : Evts) : State :=
  let s1 := s.countEvts k e
  match (s1.tez k).run with
  | some r => s1.setLeg k { r with nflags := r.nflags ||| e.bits }
  | none => s1

/-- The output regions of a leg: its WRITE regions over the TE's rank (R113, R526). -/
def LegRun.outs (r : LegRun) : List (Nat × Nat) :=
  (r.prog.regions.filter Region.canWrite).map (fun g => (g.ownBase r.args r.rank, g.length))

/-- A leg's end entered in the sailing's list (R606). -/
def State.legEnd (s : State) (k : Nat) (r : LegRun) (outcome cause : Nat) (pinned : Bool) : State :=
  { s with ended := s.ended ++ [⟨r.part, k, r.idx, r.entry, some (r.ring, r.didx), outcome, cause, pinned, r.nflags, r.outs⟩] }

/-- The leg halts at its instruction with a fault (R131, R133): it keeps its TE idle; its MOVs go on. -/
def State.halt (s : State) (k : Nat) (r : LegRun) (cause : Nat) (stops : Bool) : State :=
  (((s.setLeg k { r with halted := some (cause, stops) }).legEnd k r 2 cause stops).cutCycles k r (s.freeCycles r 0)).teState k 1

/-- A fault cause and whether the voyage stops, for a footprint with failing pages: the cause of the first in row order, and
stopped where any of them stops it (R133, R236). DESIGN CHOICE (log 165): the spec orders several failures nowhere. -/
def State.worst (s : State) (t : Nat) (fails : List (Nat × Nat)) : Nat × Bool :=
  ((fails.head?.map (·.2)).getD 0, fails.any (fun p => s.stopsVoyage t p.1 p.2))

/-- The leg leaves the TE; MOVs still outstanding stay with the TE until they complete. -/
def State.dropLeg (s : State) (k : Nat) : State :=
  let t := s.tez k
  match t.run with
  | some r => s.setTe k { t with
      run := none, tail := t.tail ++ r.movs, tailTenant := r.entry.tenant, stream := [], ahead := [], wsb := [] }
  | none => s

/-- A leg voided (R45): its output regions marked (R526). -/
def State.markOuts (s : State) (tenant : Nat) (outs : List (Nat × Nat)) : State :=
  outs.foldl (fun s o => s.markRange tenant o.1 o.2) s

/-- A running leg is abandoned with LEG_OVERRUN (R44, R45): voided, its output regions marked, the event and the count
set. A leg that has halted on a fault cannot end so (R134). -/
def State.overrun (s : State) (k : Nat) : State :=
  match (s.tez k).run with
  | some r =>
    if r.halted.isSome then s.dropLeg k
    else
      let s1 := ((s.legEnd k r 1 0 false).markOuts r.entry.tenant r.outs).rset R.sailEvent F.sailEvent_OVERRUN 1
      (s1.radd R.sailOvrCnt F.sailOvrCnt_LEG 1).dropLeg k
  | none => s

/-- END retires once every MOV and MMA of the leg has completed, a STORE with its writes observable (R130); cyc is the ECLK cycle counted
from the start of RUN, lost the cycles the leg lost to bank conflicts (R81). -/
def execEndLeg (te cyc lost : Nat) (s : State) : Host.Outcome State Fault Refusal :=
  match s.atIns te with
  | some (r, w) =>
    if insClass w = 0 ∧ r.movs.isEmpty ∧ r.mma.isNone then
      .next (((((s.legEnd te r 0 0 false).busyCycles te (cyc - r.start)).holdStall te lost).dropLeg te).teState te 1)
    else .next s
  | none => .next s

end Sys2Proof.Machine
end

