-- ==== Sys2Proof/Machine/Lrs.lean ====
section
/-! DEFINITION. The Lararis ports (R374 to R393) and the ECC events of vaults and stacks (R188, R381): corrected and
uncorrectable errors, patrol scrubs, channel sparing, stacks taken out and reset. -/

namespace Sys2Proof.Machine

/-- A port nothing has happened to. -/
def LrsSt.idle : LrsSt := ⟨none, [], [], [], [], 0, none, false, false, [], none, 0, 0⟩

def State.lp (s : State) (p : Nat) : LrsSt := mgetD s.lrs p LrsSt.idle

def State.setLp (s : State) (p : Nat) (x : LrsSt) : State := { s with lrs := mput s.lrs p x }

/-! ### Channels -/

/-- LRS_CH.STATE: 0 IN_SERVICE, 1 FREE, 2 COPY_TARGET, 3 FAILING, 4 FAILED. -/
def State.chSt (s : State) (p c : Nat) : Nat := s.rf (R.lrsCh p c) F.lrsCh_STATE

def State.setCh (s : State) (p c st serves : Nat) : State :=
  (s.rset (R.lrsCh p c) F.lrsCh_STATE st).rset (R.lrsCh p c) F.lrsCh_SERVES serves

/-- The physical channel that carries a logical channel. -/
def State.physCh (s : State) (p lc : Nat) : Option Nat :=
  (List.range 132).find? (fun c => decide (s.rf (R.lrsCh p c) F.lrsCh_SERVES = lc) && (decide (s.chSt p c = 0) || decide (s.chSt p c = 3)))

/-- The lowest FREE spare. -/
def State.freeCh (s : State) (p : Nat) : Option Nat := (List.range 132).find? (fun c => s.chSt p c = 1)

/-- LRS_STATUS.SPARES: spare channels that carry data. -/
def State.showSpares (s : State) (p : Nat) : State :=
  s.rset (R.lrsStatus p) F.lrsStatus_SPARES (([128, 129, 130, 131].filter (fun c =>
    decide (s.chSt p c = 0) || decide (s.chSt p c = 3))).length)

/-- A line of a stack, present or absent: its port and logical channel. -/
def State.inChan (s : State) (p lc l : Nat) : Bool :=
  decide (lrsBase ≤ l * 128) && decide ((s.lrsCell (l * 128 - lrsBase)).1 = p) && decide ((s.lrsCell (l * 128 - lrsBase)).2.1 = lc)

/-- Every line of a logical channel becomes invalid. -/
def State.chInvalid (s : State) (p lc : Nat) : State := { s with lmeta := s.lmeta.filter (fun x => !(s.inChan p lc x.1)) }

/-- LRS_STATUS.SPARES and LOST_CH as the channel map and LRS_LOST give them (R390, R393). -/
def State.showChans (s : State) (p : Nat) : State :=
  (s.showSpares p).rset (R.lrsStatus p) F.lrsStatus_LOST_CH
    (popCount (s.rv (R.lrsLost p 0)).toNat 64 + popCount (s.rv (R.lrsLost p 1)).toNat 64)

/-- A copy of a failing channel starts on the lowest free spare; with none free the channel becomes LOST at the next I2
(R384 to R386). -/
def State.copyStart (s : State) (p c : Nat) : State :=
  match s.freeCh p with
  | some t => (s.rset (R.lrsCh p t) F.lrsCh_STATE 2).setLp p { s.lp p with copy := some (c, t) }
  | none => s.setLp p { s.lp p with copy := none, lostDue := nins (s.lp p).lostDue c }

/-- The next failing channel that waits starts its copy. -/
def State.copyNext (s : State) (p : Nat) : State :=
  match (s.lp p).queue with
  | c :: q => (s.setLp p { s.lp p with copy := none, queue := q }).copyStart p c
  | [] => s.setLp p { s.lp p with copy := none }

/-- A failing channel that answers no command is remapped at the next I2, without a copy, to the lowest FREE spare; with none it becomes
LOST (R384, R386). -/
def State.remapCh (s : State) (p c : Nat) : State :=
  match s.freeCh p with
  | some t => (s.rset (R.lrsCh p t) F.lrsCh_STATE 2).setLp p { s.lp p with takeDue := (s.lp p).takeDue ++ [(c, t, false)] }
  | none => s.setLp p { s.lp p with lostDue := nins (s.lp p).lostDue c }

/-- A failing channel's copy: at once, or after the one that runs (R385). -/
def State.copyAsk (s : State) (p c : Nat) : State :=
  if (s.lp p).copy.isSome then s.setLp p { s.lp p with queue := nins (s.lp p).queue c } else s.copyStart p c

/-- A channel that was failing already answers no command any more: the copy that runs, or its place in the queue, is given up for a
remap at the next I2 (R384). -/
def State.chSilent (s : State) (p c : Nat) : State :=
  let x := s.lp p
  match x.copy with
  | some (f, t) =>
    if f = c then (s.setLp p { x with takeDue := x.takeDue ++ [(c, t, false)] }).copyNext p
    else if x.queue.contains c then (s.setLp p { x with queue := nrem x.queue c }).remapCh p c
    else s
  | none => s

/-- A copy's target fails (R385): the copy that runs starts again on the next free spare, and so does one that had ended and was to take
over at I2; a channel that answers no command takes the next free spare. -/
def State.targetFail (s : State) (p c : Nat) : State :=
  let x := s.lp p
  match x.copy, x.takeDue.find? (fun t => decide (t.2.1 = c)) with
  | some (f, t), none => if t = c then s.copyStart p f else s
  | _, some d =>
    let s1 := s.setLp p { x with takeDue := x.takeDue.erase d }
    if d.2.2 then s1.copyAsk p d.1 else s1.remapCh p d.1
  | none, none => s

/-- Physical channel c of a populated port fails (R384, R385), recorded with a cause; silent: it answers no command at all. A spare's mark
is saved at once (R387). -/
def State.chFail (s : State) (p c cause : Nat) (silent : Bool) : State :=
  let st := s.chSt p c
  if 4 ≤ st ∨ 132 ≤ c ∨ s.rf (R.lrsStatus p) F.lrsStatus_STATE = 0 then s
  else if st = 3 then (if silent then s.chSilent p c else s)
  else
    let s0 := (s.captureAt (R.lrsErr p) capStd cause).errBare clsCorrected 0x09 cause p
    if st = 1 then (s0.rset (R.lrsCh p c) F.lrsCh_STATE 4).saveRepair
    else if st = 2 then ((s0.rset (R.lrsCh p c) F.lrsCh_STATE 4).targetFail p c).saveRepair
    else
      let s1 := s0.rset (R.lrsCh p c) F.lrsCh_STATE 3
      if silent then s1.remapCh p c else s1.copyAsk p c

/-- CHANNEL_FAILING: by a survey verdict, or by answering nothing. -/
def execChannelFailing (port ch : Nat) (silent : Bool) (s : State) : Host.Outcome State Fault Refusal :=
  if port < 8 && decide (s.rf (R.lrsStatus port) F.lrsStatus_STATE = 2) then .next (s.chFail port ch 3 silent) else .next s

/-- SPARE_COPY_DONE: the copy that runs completes; lines it could not correct are invalid in the spare. -/
def execSpareCopyDone (port : Nat) (bad : List Nat) (s : State) : Host.Outcome State Fault Refusal :=
  match (s.lp port).copy with
  | some (c, t) =>
    let lc := s.rf (R.lrsCh port c) F.lrsCh_SERVES
    let mine := bad.filter (fun l => decide (s.placeOf (l * 128) = .lararis) && s.inChan port lc l)
    let s1 := mine.foldl (fun s l => (s.lineMark l).1) s
    let s2 := (s1.radd (R.lrsCnt port) F.lrsCnt_COPIES 1).setLp port { s1.lp port with takeDue := (s1.lp port).takeDue ++ [(c, t, true)] }
    .next (s2.copyNext port)
  | none => .next s

/-! ### A stack taken out, and reset (R388, R389) -/

/-- A stack is taken out with a cause: its reset line asserted at once, LOST, its addresses absent from the next I2; a request that reaches
it until then is answered as an uncorrectable error of its line (State.isOut). -/
def State.takeOut (s : State) (p cause : Nat) : State :=
  if s.rf (R.lrsStatus p) F.lrsStatus_STATE = 3 then s
  else
    let s1 := (((s.rset (R.lrsStatus p) F.lrsStatus_STATE 3).captureAt (R.lrsErr p) capStd cause).errBare clsDegrading 0x09
      cause p).setLp p { s.lp p with copy := none, queue := [], takeDue := [], lostDue := [], goneDue := true, backDue := false }
    { s1 with pins := { s1.pins with lrsRst := s1.pins.lrsRst ||| 2 ^ p }, fab := { s1.fab with lossSeen := true } }

/-- STACK_TAKEN_OUT: the stack stops answering, or loses more channels than its spares cover. -/
def execStackTakenOut (port : Nat) (s : State) : Host.Outcome State Fault Refusal :=
  if port < 8 && decide (s.rf (R.lrsStatus port) F.lrsStatus_STATE = 2) then .next (s.takeOut port 8) else .next s

/-- TRIP, held to 85 to 105 °C. -/
def State.trip (s : State) (p : Nat) : Nat := max 85 (min 105 (s.rf (R.lrsCfg p) F.lrsCfg_TRIP))

/-- STACK_TEMP_READ (R382): firmware's read of the hottest sensor of a stack that trains or is UP. -/
def execStackTempRead (port temp : Nat) (answered : Bool) (s : State) : Host.Outcome State Fault Refusal :=
  if 8 ≤ port ∨ (s.rf (R.lrsStatus port) F.lrsStatus_STATE ≠ 1 ∧ s.rf (R.lrsStatus port) F.lrsStatus_STATE ≠ 2) then .next s
  else if answered then
    let s1 := (s.rset (R.lrsStatus port) F.lrsStatus_TEMP temp).setLp port { s.lp port with unread := 0 }
    if s.trip port ≤ temp then .next (s1.takeOut port 6)
    else
      let old := (s.lp port).regimeDue.getD (s.rf (R.lrsStatus port) F.lrsStatus_REGIME)
      let new := if 85 ≤ temp then 1 else if old = 1 ∧ temp > 82 then 1 else 0
      .next (s1.setLp port { s1.lp port with regimeDue := some new })
  else
    let n := (s.lp port).unread + 1
    let s1 := s.setLp port { s.lp port with unread := n }
    .next (if n ≥ 3 then s1.takeOut port 7 else s1)

/-- A check of a stack after its training (R375): x is NO_STACK (1), CAPACITY (2) or TRAIN (3) where one of them applies, 0 else; SPARES (4)
follows from the manifest's limits. -/
def State.stackCheck (s : State) (m : Option Manifest) (p x : Nat) : Nat :=
  let lim (i : Nat) : Nat := (m.map (fun m => m.limits.getD i 0)).getD 0
  if x % 4 ≠ 0 then x % 4
  else if lim 4 < s.rf (R.lrsStatus p) F.lrsStatus_SPARES ∨ lim 5 < s.rf (R.lrsStatus p) F.lrsStatus_LOST_CH then 4
  else 0

/-- MISMATCH shows a check's outcome; a failed training is captured (R392). -/
def State.stackShow (s : State) (p y : Nat) : State :=
  let s1 := s.rset (R.lrsStatus p) F.lrsStatus_MISMATCH y
  if y = 3 then (s1.captureAt (R.lrsErr p) capStd 4).errBare clsCorrected 0x09 4 p else s1

/-- LRS_CTL.RESET (R389): a LOST stack is trained and checked; mism is the first failure of R375, 0 for none. A channel that
passes its training is in service again, a copy's target free; of a stack that passes every line is invalid. -/
def State.lrsReset (s : State) (p mism : Nat) : State :=
  if 8 ≤ p ∨ s.rf (R.lrsStatus p) F.lrsStatus_STATE ≠ 3 then s
  else
    let s1 := s.stackShow p (s.stackCheck s.mf p mism)
    if s.stackCheck s.mf p mism ≠ 0 then s1
    else
      let s2 := (List.range 132).foldl (fun s c => if s.chSt p c = 2 then s.rset (R.lrsCh p c) F.lrsCh_STATE 1
        else if s.chSt p c = 3 then s.rset (R.lrsCh p c) F.lrsCh_STATE 0 else s) ((List.range 128).foldl (fun s lc => s.chInvalid p lc) s1)
      let s3 := ((s2.rset (R.lrsStatus p) F.lrsStatus_STATE 2).setLp p { s2.lp p with goneDue := false, backDue := true, unread := 0 }).showSpares p
      { s3 with pins := { s3.pins with lrsRst := s3.pins.lrsRst &&& (255 - 2 ^ p) } }

def execLrsReset (port mism : Nat) (s : State) : Host.Outcome State Fault Refusal := .next (s.lrsReset port mism)

/-- LRS_CTL.CLR. -/
def State.lrsClr (s : State) (p : Nat) : State :=
  (List.range 132).foldl (fun s c => s.rset (R.lrsCh p c) F.lrsCh_CE 0) ((s.rput (R.lrsCnt p) 0).rput (R.lrsPerf p) 0)

def execLrsClr (port : Nat) (s : State) : Host.Outcome State Fault Refusal := .next (if port < 8 then s.lrsClr port else s)

/-! ### LRS_CTL's requests, taken at I0 (R391) -/

/-- A field of a B-class register put into its shadow. -/
def State.putShadow (s : State) (key : Nat) (f : Fld) (x : Nat) : State :=
  let old := mgetD s.shadow key (0, 0)
  { s with shadow := mput s.shadow key (fset old.1 f x, old.2 ||| fmask f) }

def execLrsSpareCh (port ch : Nat) (s : State) : Host.Outcome State Fault Refusal :=
  .next (if port < 8 then s.putShadow (R.lrsCtl port) F.lrsCtl_SPARE_CH ch else s)

/-- LRS_RET_CH; pass tells whether the retrain and the pattern check will pass. -/
def execLrsRetCh (port ch : Nat) (pass : Bool) (s : State) : Host.Outcome State Fault Refusal :=
  if port < 8 then
    let s1 := s.putShadow (R.lrsCtl port) F.lrsCtl_RET_CH ch
    .next (s1.setLp port { s1.lp port with retPass := some pass })
  else .next s

/-- I0: the requests transferred are taken, and the fields return to 0xFF; the regime due takes effect. A retrain whose
outcome no command told ends as a free value says. -/
def State.lrsI0 (s : State) (p : Nat) : State :=
  let sp := s.rf (R.lrsCtl p) F.lrsCtl_SPARE_CH
  let rt := s.rf (R.lrsCtl p) F.lrsCtl_RET_CH
  let s1 := match s.physCh p sp with
    | some c => if sp < 128 then s.chFail p c 3 false else s
    | none => s
  let pass := ((s1.lp p).retPass).getD (decide (Config.freeValue s1.fresh (R.lrsCtl p) % 2 = 1))
  let s2 := if rt < 132 ∧ s1.chSt p rt = 4 ∧ pass = true then s1.setLp p { s1.lp p with freeDue := nins (s1.lp p).freeDue rt } else s1
  let s3 := if sp = 255 ∧ rt = 255 then s2 else (((s2.rset (R.lrsCtl p) F.lrsCtl_SPARE_CH 255).rset (R.lrsCtl p) F.lrsCtl_RET_CH
    255).setLp p { s2.lp p with retPass := none }).tick
  match (s3.lp p).regimeDue with
  | some r => (s3.rset (R.lrsStatus p) F.lrsStatus_REGIME r).setLp p { s3.lp p with regimeDue := none }
  | none => s3

/-! ### I2 (R384, R386, R387) -/

/-- A spare takes over from a failing channel. -/
def State.takeCh (s : State) (p : Nat) (x : Nat × Nat × Bool) : State :=
  let lc := s.rf (R.lrsCh p x.1) F.lrsCh_SERVES
  let s1 := (s.setCh p x.1 4 255).setCh p x.2.1 0 lc
  if x.2.2 then s1 else s1.chInvalid p lc

/-- A failing channel without a spare: its logical channel is LOST. -/
def State.loseCh (s : State) (p c : Nat) : State :=
  let lc := s.rf (R.lrsCh p c) F.lrsCh_SERVES
  let s1 := ((s.setCh p c 4 255).rset (R.lrsLost p (lc / 64)) ⟨lc % 64, 1⟩ 1).radd (R.lrsStatus p) F.lrsStatus_LOST_CH 1
  (s1.captureAt (R.lrsErr p) capStd 5).errBare clsDegrading 0x09 5 p

/-- The lowest LOST logical channel. -/
def State.lostCh (s : State) (p : Nat) : Option Nat :=
  (List.range 128).find? (fun lc => bitOf (s.rv (R.lrsLost p (lc / 64))).toNat (lc % 64))

/-- A channel that passed its retrain: FREE, or at once in the service of a LOST logical channel. -/
def State.freeI2 (s : State) (p c : Nat) : State :=
  match s.lostCh p with
  | some lc =>
    ((((s.setCh p c 0 lc).rset (R.lrsLost p (lc / 64)) ⟨lc % 64, 1⟩ 0).rset (R.lrsStatus p) F.lrsStatus_LOST_CH
      (s.rf (R.lrsStatus p) F.lrsStatus_LOST_CH - 1))).chInvalid p lc
  | none => s.setCh p c 1 255

/-- Failing channels that become LOST at this I2: those found without a spare, and those that wait for one while none is FREE (R385, R386). -/
def State.lostNow (s : State) (p : Nat) : List Nat :=
  (s.lp p).lostDue ++ (if (s.freeCh p).isNone then (s.lp p).queue else [])

/-- A port's I2. -/
def State.lrsI2 (s : State) (p : Nat) : State :=
  let x := s.lp p
  let lost := s.lostNow p
  let s1 := x.takeDue.foldl (fun s t => s.takeCh p t) s
  let s2 := lost.foldl (fun s c => s.loseCh p c) s1
  let s3 := x.freeDue.foldl (fun s c => s.freeI2 p c) s2
  let s4 := s3.setLp p { x with
    queue := x.queue.filter (fun c => !(lost.contains c)), takeDue := [], lostDue := [], freeDue := [], goneDue := false, backDue := false }
  let s5 := (if x.takeDue.isEmpty && lost.isEmpty && x.freeDue.isEmpty then s4 else (s4.showSpares p).saveRepair)
  let s6 : State := { s5 with heap := { s5.heap with
      absent := if x.goneDue then nins s5.heap.absent p else if x.backDue then nrem s5.heap.absent p else s5.heap.absent } }
  if s6.rf (R.lrsStatus p) F.lrsStatus_STATE = 2 ∧ s6.rf (R.lrsStatus p) F.lrsStatus_LOST_CH > s6.rf (R.lrsCfg p) F.lrsCfg_MAX_LOST
  then s6.takeOut p 8 else s6

/-! ### ECC at a vault or a stack (R188, R381, R384, R524) -/

/-- A corrected error of a line. -/
def State.lineCe (s : State) (l : Nat) : State :=
  match s.placeOf (l * 128) with
  | .vault => (s.captureAt (R.tileErr (s.vaultOf (l * 128)).1) capStd 5).errBare clsCorrected 0x04 5 (s.vaultOf (l * 128)).1
  | .lararis =>
    let c := s.lrsCell (l * 128 - lrsBase)
    let s1 := ((s.captureAt (R.lrsErr c.1) capStd 1).radd (R.lrsCnt c.1) F.lrsCnt_CE 1).errBare clsCorrected 0x09 1 c.1
    match s1.physCh c.1 c.2.1 with
    | some ch =>
      let n := mgetD (s1.lp c.1).passCe ch 0 + 1
      let s2 := (s1.radd (R.lrsCh c.1 ch) F.lrsCh_CE 1).setLp c.1 { s1.lp c.1 with passCe := mput (s1.lp c.1).passCe ch n }
      let th := s2.rf (R.lrsCfg c.1) F.lrsCfg_CE_THRESH
      if th ≠ 0 ∧ n > th then s2.chFail c.1 ch 3 false else s2
    | none => s1
  | _ => s

/-- An uncorrectable error of a line, for a request of a tenant. -/
def State.lineUe (s : State) (l : Nat) (tenant : Option Nat) : State :=
  match s.placeOf (l * 128) with
  | .vault => ((s.captureAt (R.tileErr (s.vaultOf (l * 128)).1) capStd 6)).memUe l 0x04 6 (s.vaultOf (l * 128)).1 tenant
  | .lararis =>
    let c := s.lrsCell (l * 128 - lrsBase)
    let s1 := ((s.captureAt (R.lrsErr c.1) capStd 2).radd (R.lrsCnt c.1) F.lrsCnt_UE 1).memUe l 0x09 2 c.1 tenant
    match s1.physCh c.1 c.2.1 with
    | some ch => s1.chFail c.1 ch 3 false
    | none => s1
  | _ => s

/-- PATROL_SCRUB: a pass over vault unit (0 to 63) or stack unit − 64 (64 to 71) corrects the lines ces and finds the lines
ues uncorrectable; a stack's next pass counts anew. -/
def execPatrolScrub (unit : Nat) (ces ues : List Nat) (s : State) : Host.Outcome State Fault Refusal :=
  let mine (l : Nat) : Bool := match s.placeOf (l * 128) with
    | .vault => decide ((s.vaultOf (l * 128)).1 = unit)
    | .lararis => decide (64 + (s.lrsCell (l * 128 - lrsBase)).1 = unit)
    | _ => false
  let s1 := (ces.filter mine).foldl (fun s l => s.lineCe l) s
  let s2 := (ues.filter mine).foldl (fun s l => s.lineUe l none) s1
  .next (if 64 ≤ unit ∧ unit < 72 then s2.setLp (unit - 64) { s2.lp (unit - 64) with passCe := [] } else s2)

end Sys2Proof.Machine
end

