-- ==== Sys2Proof/Machine/Fabric.lean ====
section
/-! DEFINITION. The fabric's messages to and from controllers (R282), its errors and alternate routes (R301 to R304), its
sleep and wake (R296 to R299), partition reset (R176, R269, R300), counter clears, and the vaults' repairs and regimes
(R181, R189, R190). -/

namespace Sys2Proof.Machine

/-! ### Memory messages (R282, R283) -/

/-- The class and opcode of a message to or from a controller (R282). -/
def fmsgOp : Nat → Nat × Nat
  | 0 => (3, 3)
  | 1 => (2, 6)
  | 2 => (2, 7)
  | 3 => (2, 8)
  | 4 => (5, 3)
  | _ => (5, 4)

/-- The requester ID of a router; none for a stack's. -/
def ridOf (r : Nat) : Nat := if r < 72 then r else if 80 ≤ r then r - 8 else 127

/-- A message put on the fabric, with its header (R281, R283). -/
def State.fabMsg (s : State) (m : FMsg) : State :=
  let o := fmsgOp m.kind
  let x := s.post ⟨o.1, o.2, m.qc, m.dst, m.src, m.rid, m.tag, m.line, m.ten, s.time.total % 2 ^ 15,
    if m.kind = 2 then m.cause % 256 else 0, opData o.1 o.2, false⟩ 0 m.data
  x.1.setFab { x.1.fab with msgs := x.1.fab.msgs ++ [{ m with pid := x.2 }] }

/-- The router of the controller a line is at (R277). -/
def State.ctrlRouter (s : State) (pa : Nat) : Nat :=
  match s.placeOf pa with
  | .vault => (s.vaultOf pa).1
  | .lararis => 72 + (s.lrsCell (pa - lrsBase)).1
  | .twin => 81
  | .host => 80
  | .slip v => 64 + v
  | _ => s.homeOf pa

/-- The answer of a line's controller to a memory access: to the router that asked, in its class (R293), for its
requester, whose latency is sampled (R327). -/
def State.reply (s : State) (kind : Nat) (m : MemReq) (cause : Nat) (d : Line) (dmg : Bool) : State :=
  (s.fabMsg ⟨kind, m.src, m.tag, lineOf m.pa, cause, d, s.ctrlRouter (lineOf m.pa * 128), m.qc, m.ten, 0, dmg, m.rid⟩).latSample m.rid m.qc
    m.ts

def State.mdata (s : State) (m : MemReq) (d : Line) : State := s.reply 0 m 0 d false
def State.mwrAck (s : State) (m : MemReq) : State := s.reply 1 m 0 0 false
def State.fabErr (s : State) (m : MemReq) (cause : Nat) : State := s.reply 2 m cause 0 false

/-- A line without data, marked damaged on its way: ERR has no cause for it (R283). -/
def State.mlost (s : State) (m : MemReq) : State := s.reply 0 m 0 0 true

/-- The requester key of a memory access that goes on to another node: router, tag, requester, class, tenant, the TCLK
count at its injection. -/
def MemReq.who (m : MemReq) : List Nat := [9, m.src, m.tag, m.rid, m.qc, m.ten, m.ts]

/-- The access such a key and an address stand for. -/
def memOf (who : List Nat) (pa : Nat) : MemReq :=
  ⟨who.getD 1 0, pa, who.getD 2 0, who.getD 3 0, who.getD 4 2, who.getD 5 4096, false, 0, 0, 0, false, who.getD 6 0⟩

/-- One read relayed to its requester: a home's to its transaction (R208), a request that was passed on (R209), a memory access. -/
def State.relayOne (s : State) (r : RRead) : State :=
  let s1 := s.remSet (s.heap.remReads.erase r)
  let d := if r.st = 1 then some (lineOfBytes r.data) else none
  if r.who.head? = some 11 then s1.homeFill (lineOf r.pa) d
  else if r.who.head? = some 14 then s1.passData (passReq r.who r.pa) d
  else match d with
    | some x => s1.mdata (memOf r.who r.pa) x
    | none => s1.mlost (memOf r.who r.pa)

/-- Reads of other nodes that have ended go back: as MDATA to a memory access, as DATA to a request that was passed on, a home's to the
transaction that waits for it. -/
def State.relay (s : State) : State :=
  (s.heap.remReads.filter (fun r => [some 9, some 11, some 14].contains r.who.head? && decide (r.st ≠ 0))).foldl
    (fun s r => s.relayOne r) s

/-- The bytes of a read with a piece put at an offset. -/
def putBytes (b : List Byte) (o : Nat) (d : List Byte) : List Byte := b.take o ++ d ++ b.drop (o + d.length)

/-- A read after the answer to one of its tags: data, or none for a failure. -/
def RRead.answered (r : RRead) (tag : Nat) (d : Option (List Byte)) : RRead :=
  match r.left.find? (fun x => x.1 % 1024 = tag), d with
  | some x, some b =>
    let left := r.left.erase x
    { r with data := putBytes r.data x.2.1 (b.take x.2.2), left := left, st := if left.isEmpty && r.wait.isEmpty then 1 else r.st }
  | some x, none => { r with left := r.left.erase x, st := 2 }
  | none, _ => r

/-- The read of a node (not the host) that waits under a tag. -/
def State.readOf (s : State) (node tag : Nat) : Option RRead :=
  s.heap.remReads.find? (fun r => decide (r.pa / 2 ^ 48 = node) && decide (r.st = 0) && r.left.any (fun x => x.1 % 1024 = tag))

/-- The answer of another node to a read. -/
def State.nodeAnswer (s : State) (node tag : Nat) (d : Option (List Byte)) : State :=
  match s.readOf node tag with
  | some r => (s.remSet (s.heap.remReads.map (fun x => if x = r then r.answered tag d else x))).relay
  | none => s

/-- The write to a node that waits under a tag. -/
def State.writeOf (s : State) (node tag : Nat) : Option RWrite :=
  s.heap.remWrites.find? (fun w => decide (w.pa / 2 ^ 48 = node) && decide (w.tag % 1024 = tag))

def State.setHeap (s : State) (x : HeapSt) : State := { s with heap := x }

/-- The answer to a requester whose write another node has answered. -/
def State.ackOne (s : State) (w : RWrite) (ok : Bool) : State :=
  if w.who.head? = some 14 then s.passAck (passReq w.who w.pa) ok
  else if w.who.head? = some 9 then (if ok then s.mwrAck (memOf w.who w.pa) else s.fabErr (memOf w.who w.pa) 1)
  else s

/-- Another node's acknowledgement of a write, or its refusal. -/
def State.nodeAck (s : State) (node tag : Nat) (ok : Bool) : State :=
  match s.writeOf node tag with
  | some w => (s.setHeap { s.heap with remWrites := s.heap.remWrites.erase w }).ackOne w ok
  | none => s

/-- What a controller tells a fabric requester for a line it gives no data for: ERR with ABSENT for a lost channel or an absent
address, a damaged line for the rest. -/
def State.noData (s : State) (r : LineRes) (m : MemReq) : State :=
  match r with
  | .lost | .absent => s.fabErr m 1
  | _ => s.mlost m

/-- An access of the management controller (router 82) to an absent address recorded in GLB_DECODE; it gets a bus error (R220). -/
def State.memAbsent (s : State) (m : MemReq) : State := (if m.src = 82 then s.noteDecode 3 m.pa else s).fabErr m 1

/-- A memory read at its controller; ecc is what its code finds in the line: 0 nothing, 1 a corrected error, 2 an uncorrectable one.
The twin's and the slips' memory answers later. -/
def State.mrd (s : State) (m : MemReq) : State :=
  let l := lineOf m.pa
  match s.placeOf m.pa with
  | .vault | .lararis =>
    match s.lineRead l with
    | .ok d =>
      if m.ecc = 2 then (s.lineUe l (tenOpt m.ten)).mlost m
      else ((if m.ecc = 1 then s.lineCe l else s).countRd l).mdata m d
    | r => (s.homeErr l m.src m.ten r).noData r m
  | .twin | .slip _ => (s.remIssue m.who (l * 128) 128 0).relay
  | .absent => s.memAbsent m
  | _ => s.fabErr m 3

/-- What a controller tells the writer of a line: one it drops for a fenced row or a missing key is answered, its error is recorded. -/
def State.wrAnswer (s : State) (r : LineRes) (m : MemReq) : State :=
  match r with
  | .ok _ => s.mwrAck m
  | .lost => (s.homeErr (lineOf m.pa) m.src m.ten .lost).fabErr m 1
  | r => (s.homeErr (lineOf m.pa) m.src m.ten r).mwrAck m

/-- A memory write of the bytes a mask selects at its controller (R525); one it drops is answered, its error is recorded. What the fabric
damaged is stored nowhere (R304). -/
def State.mwr (s : State) (m : MemReq) : State :=
  let l := lineOf m.pa
  if m.dmg then s.mwrAck m
  else match s.placeOf m.pa with
  | .vault | .lararis =>
    let w := s.lineWrite l m.data m.mask
    w.1.wrAnswer w.2 m
  | .twin | .slip _ =>
    let w := s.remMasked m.who (l * 128) m.mask (bytesOfLine m.data)
    if w.2 then (if isFull m.mask then w.1.unmark [l] else w.1) else w.1.fabErr m 1
  | .absent => s.memAbsent m
  | _ => s.fabErr m 3

/-- The domain of a line's vault controller, where it has one (R296). -/
def State.vaultDom (s : State) (pa : Nat) : Option Nat :=
  match s.placeOf pa with
  | .vault => some (8 * (s.vaultOf pa).1 + 6)
  | _ => none

/-- A memory access served by its controller. -/
def State.memServe (s : State) (m : MemReq) : State := if m.write then s.mwr m else s.mrd m

/-- A memory packet goes to its controller, or waits while its domain sleeps (R298). -/
def State.toCtrl (s : State) (m : MemReq) : State :=
  match s.vaultDom m.pa with
  | some d => if s.domSt d = 0 then (s.useDom d).memServe m else s.park d (.mem m)
  | none => s.memServe m

/-- The header of a memory access (R281, R282). -/
def State.memHdr (s : State) (m : MemReq) : FabHdr :=
  ⟨0, if m.write then 8 else 7, m.qc, s.ctrlRouter (lineOf m.pa * 128), m.src, m.rid, m.tag, lineOf m.pa, m.ten, s.time.total % 2 ^ 15, 0,
    m.write, false⟩

/-- A memory access sent by a home or a spur: over the fabric, or to the controller at its own router. -/
def State.memSend (s : State) (m : MemReq) : State :=
  if m.src = s.ctrlRouter (lineOf m.pa * 128) then s.toCtrl m else s.fly (s.memHdr m) 0 m.data (.mem m)

/-- MRD. -/
def execMrd (src pa tag rid qc ten ecc : Nat) (s : State) : Host.Outcome State Fault Refusal :=
  .next (s.memSend ⟨src, pa, tag, rid, qc, ten, false, ecc, 0, 0, false, s.time.total⟩)

/-- MWR. -/
def execMwr (src pa tag rid qc mask ten : Nat) (data : Line) (s : State) : Host.Outcome State Fault Refusal :=
  .next (s.memSend ⟨src, pa, tag, rid, qc, ten, true, 0, mask, data, false, s.time.total⟩)

/-- No message of its class sent before one between the same routers is still to be taken (R289). -/
def State.fabOrder (s : State) (m : FMsg) : Bool :=
  !((s.fab.msgs.takeWhile (fun n => decide (n ≠ m))).any (fun n =>
    decide ((fmsgOp n.kind).1 = (fmsgOp m.kind).1) && decide (n.src = m.src) && decide (n.dst = m.dst)))

/-- The message of a kind for a router under a tag whose packet has arrived: packets of a class between two routers come in
the order they were sent (R289). -/
def State.fabFor (s : State) (kind at_ tag : Nat) : Option FMsg :=
  s.fab.msgs.find? (fun m => decide (m.kind = kind) && decide (m.dst = at_) && decide (m.tag = tag) && s.there m.pid && s.fabOrder m)

/-- A message taken off the fabric. -/
def State.fabTake (s : State) (m : FMsg) : State := s.setFab { s.fab with msgs := s.fab.msgs.erase m }

/-- The node behind a spur router: slip s's node 2 + s, the twin's node 1; 0 for any other router. -/
def nodeAt (r : Nat) : Nat := if 64 ≤ r ∧ r < 72 then r - 62 else if r = 81 then 1 else 0

/-- MDATA arrives at the home or spur that asked; at the spur of another node it is the hub's own read of that node. -/
def execMdata (router tag : Nat) (s : State) : Host.Outcome State Fault Refusal :=
  match s.fabFor 0 router tag with
  | some m => .next ((s.fabTake m).nodeAnswer (nodeAt router) tag (if m.dmg then none else some (bytesOfLine m.data)))
  | none => .next s

/-- MWR_ACK arrives. -/
def execMwrAck (router tag : Nat) (s : State) : Host.Outcome State Fault Refusal :=
  match s.fabFor 1 router tag with
  | some m => .next ((s.fabTake m).nodeAck (nodeAt router) tag true)
  | none => .next s

/-- ERR arrives: a home's answer to a requester, which goes out on the slip where that is a chiplet; elsewhere the
read or write it answers fails. -/
def execErrResponse (router tag : Nat) (s : State) : Host.Outcome State Fault Refusal :=
  match s.coh.msgs.find? (fun m => decide (m.kind = 5) && decide (reqRouter m.agent = router) && decide (m.tag = tag) && s.there m.pid && s.inOrder m) with
  | some m =>
    let s1 := s.agentTake m
    .next (if 64 ≤ router ∧ router < 72 then s1.ospErr (router - 64) m.qc tag (s.osAddr router tag (m.line * 128)) m.data.toNat else s1)
  | none =>
    match s.fabFor 2 router tag with
    | some m => .next (((s.fabTake m).nodeAnswer (nodeAt router) tag none).nodeAck (nodeAt router) tag false)
    | none => .next s

/-! ### Errors of links and buffers (R301 to R304) -/

/-- An error captured in OCT_ERR, with its router where it is the first. -/
def State.octCap (s : State) (router cause : Nat) : State :=
  if s.captured R.octErr capStd then s.captureAt R.octErr capStd cause
  else (s.captureAt R.octErr capStd cause).rset R.octErr F.octErr_ROUTER router

/-- A port state put (R307). -/
def State.setPort (s : State) (r p x : Nat) : State := s.rset (R.octLink r) ⟨2 * p, 2⟩ x

/-- A port state at both ends of a link. -/
def State.setLink (s : State) (r p x : Nat) : State :=
  match otherEnd r p with
  | some (t, q) => (s.setPort r p x).setPort t q x
  | none => s

/-- FLIT_CRC_ERROR: a receiver asks for a replay; again: the same flit failed last time too. Sixteen in a row retrain the
link. -/
def execFlitCrcError (router port : Nat) (again : Bool) (s : State) : Host.Outcome State Fault Refusal :=
  if 83 ≤ router ∨ s.portSt router port ≠ 0 ∨ (otherEnd router port).isNone then .next s
  else
    let k := 8 * router + port
    let n := if again then mgetD s.fab.crc k 0 + 1 else 1
    let s1 := ((s.octCap router 1).radd (R.octLinkCnt router) F.octLinkCnt_REPLAY 1).errBare clsCorrected 0x06 1 router
    let s2 := s1.setFab { s1.fab with crc := if n ≥ 16 then mdel s1.fab.crc k else mput s1.fab.crc k n }
    .next (if n ≥ 16 then s2.setLink router port 1 else s2)

/-- One name of a link: the lower of its ends' keys. -/
def linkKey (r p : Nat) : Nat :=
  match otherEnd r p with
  | some (t, q) => min (8 * r + p) (8 * t + q)
  | none => 8 * r + p

/-- LINK_RETRAIN_DONE: a retrain that fails, or the third of a sailing, makes the link FAILED; what it was still sending is held at its
router (R303). -/
def execLinkRetrainDone (router port : Nat) (ok : Bool) (s : State) : Host.Outcome State Fault Refusal :=
  if 83 ≤ router ∨ s.portSt router port ≠ 1 ∨ (otherEnd router port).isNone then .next s
  else
    let k := linkKey router port
    let n := mgetD s.fab.retrains k 0 + 1
    let s1 := s.setFab { s.fab with retrains := mput s.fab.retrains k n }
    if ok && decide (n < 3) then .next (s1.setLink router port 0)
    else
      let s2 := ((s1.setLink router port 2).radd R.octStatus F.octStatus_LINKS_DOWN 1).octCap router 2
      let n2 := match otherEnd router port with
        | some (t, q) => (s2.fab.net.recall router port).recall t q
        | none => s2.fab.net
      .next ((s2.errBare clsDegrading 0x06 2 router).setFab { s2.fab with failed := nins s2.fab.failed k, routeDue := true, net := n2 })

/-- An alternate table avoids a FAILED link: its set names either end. -/
def FabTab.avoids (x : FabTab) (k : Nat) : Bool :=
  bitOf x.failed k || (match otherEnd (k / 8) (k % 8) with
    | some (t, q) => bitOf x.failed (8 * t + q)
    | none => false)

/-- A packet at a router is held for a FAILED link. -/
def State.blockedAt (s : State) (r : Nat) (x : Pkt) : Bool := decide (s.portSt r (s.route r x.hdr.dst) = 2)

/-- I2: the first alternate table that avoids every FAILED link comes into force, and packets held for one go on from their router on
the lower VC of their class; with no such table, FATAL (R303). -/
def State.routeI2 (s : State) : State :=
  if s.fab.routeDue = false then s
  else
    let s1 := s.setFab { s.fab with routeDue := false }
    match (match s.mf with
      | some m => ((m.tabs.zipIdx).drop 1).find? (fun (x : FabTab × Nat) => s.fab.failed.all x.1.avoids)
      | none => none) with
    | some x => (s1.setFab { s1.fab with net := s1.fab.net.reinject s.blockedAt }).rset R.octStatus F.octStatus_ROUTE x.2
    | none => (s1.octCap ((s.fab.failed.getLast?.getD 0) / 8) 7).fatal 0x06 7 ((s.fab.failed.getLast?.getD 0) / 8)

/-- HDR_UE: an uncorrectable header error is FATAL (R302). -/
def execHdrUe (router : Nat) (s : State) : Host.Outcome State Fault Refusal :=
  .next ((s.octCap router 4).fatal 0x06 4 router)

/-- A packet under way whose line is damaged. -/
def HPkt.damaged (x : HPkt) (tag l : Nat) : HPkt :=
  match x with
  | .req q => if q.tag = tag ∧ q.line = l ∧ q.kind.writes then .req { q with dmg := true } else x
  | .wb a t pa d _ => if t = tag ∧ lineOf pa = l then .wb a t pa d true else x
  | .mem m => if m.tag = tag ∧ lineOf m.pa = l ∧ m.write then .mem { m with dmg := true } else x
  | _ => x

/-- A line's data under way is damaged, whichever router it is at: its D flit and its message carry DMG to their end, with bits nobody
knows, and a slice's older copy of the line does not stand. A chiplet, the host or the twin gets its port's data-error response (R304). -/
def State.damage (s : State) (pa tag : Nat) : State :=
  let l := lineOf pa
  let d : Line := BitVec.ofNat 1024 (Config.freeValue s.fresh 8)
  let s1 := s.tick.setFab { s.fab with
    net := s.fab.net.damage tag l d,
    air := s.fab.air.map (fun x => (x.1, x.2.damaged tag l)),
    msgs := s.fab.msgs.map (fun m =>
      if (m.kind = 0 ∨ m.kind = 4) ∧ m.tag = tag ∧ m.line = l then { m with dmg := true, data := d } else m) }
  s1.setCoh { s1.coh with
    llc := mdel s1.coh.llc l,
    msgs := s1.coh.msgs.map (fun m =>
      if (m.kind = 0 ∨ m.kind = 4) ∧ m.tag = tag ∧ m.line = l then { m with dmg := true, data := d } else m) }

/-- DATA_UE: a flit with DMG set; its partition's sailing is voided, the line it names is lost (R304). -/
def execDataUe (router ten pa tag : Nat) (s : State) : Host.Outcome State Fault Refusal :=
  let s1 := (s.octCap router 5).voidFor (tenOpt ten) 0x49 0x06 5 router (some (pa / 128 * 128))
  .next ((s1.memUe (lineOf pa) 0x06 5 router (tenOpt ten)).damage pa tag)

/-! ### Sleep and wake (R296 to R299) -/

/-- A tile domain: 8t + 0 to 6. -/
def tileDom (d : Nat) : Bool := decide (d < 512) && decide (d % 8 ≠ 7)

/-- WAKE_REQUEST: a packet for a sleeping domain is held, and its wake line raised. -/
def execWakeRequest (d : Nat) (s : State) : Host.Outcome State Fault Refusal :=
  if tileDom d && (decide (s.domSt d = 1) || decide (s.domSt d = 2)) then
    let s1 := s.setFab { s.fab with held := mput s.fab.held d (mgetD s.fab.held d 0 + 1) }
    .next (if s.domSt d = 1 then (s1.rset (R.octPwr d) F.octPwr_STATE 2).raddOpen (R.octPwr d) F.octPwr_WAKES 1 else s1)
  else .next s

/-- The priority of a packet held at a router (R291): its class and step, or its age; what carries no class of its own is best
effort. -/
def State.heldPrio (s : State) : HPkt → Nat
  | .req q => s.waitPrio q
  | .wb a _ _ _ _ | .evct a _ _ | .compAck a _ => s.prio a 2 0
  | .snpRsp v _ _ _ _ _ _ => s.prio (64 + v) 2 0
  | .mem m => s.prio m.rid m.qc (20 * (s.time.total - m.ts))
  | .reg r => s.prio (ridOf r.src) 2 0

/-- The class of a packet and the router it comes from. -/
def HPkt.path : HPkt → Nat × Nat
  | .req q => (0, reqRouter q.req)
  | .wb a _ _ _ _ | .evct a _ _ => (4, reqRouter a)
  | .compAck a _ => (2, reqRouter a)
  | .snpRsp v _ _ _ _ _ _ => (2, 64 + v)
  | .mem m => (0, m.src)
  | .reg r => (5, r.src)

/-- A packet joins those held: it goes before those of lower priority that came last, but never before one of its own class and source
(R289). -/
def State.heldIn (s : State) (acc : List HPkt) (x : HPkt) : List HPkt :=
  let late := acc.reverse.takeWhile (fun y => decide (s.heldPrio y < s.heldPrio x) && decide (y.path ≠ x.path))
  acc.take (acc.length - late.length) ++ [x] ++ late.reverse

/-- Packets in the order a port gives them: the highest priority first, the oldest of one priority first. -/
def State.heldOrder (s : State) (l : List HPkt) : List HPkt := l.foldl s.heldIn []

/-- A packet that waited for its domain delivered: to its home or its controller. What its block's router holds of register writes waits
there (State.regPoll). -/
def State.deliver (s : State) : HPkt → State
  | .mem m => s.memServe m
  | .reg _ => s
  | x => s.atHome x

/-- A domain that has come up takes what was held for it (R298). -/
def State.domUp (s : State) (d : Nat) : State :=
  let s1 := (s.rset (R.octPwr d) F.octPwr_STATE 0).useDom d
  let s2 := s1.setFab { s1.fab with
    idle := mdel s1.fab.idle d, held := mdel s1.fab.held d, parked := s1.fab.parked.filter (fun x => x.1 ≠ d) }
  (s.heldOrder ((s.fab.parked.filter (fun x => x.1 = d)).map (·.2))).foldl State.deliver s2

/-- DOMAIN_UP. -/
def execDomainUp (d : Nat) (s : State) : Host.Outcome State Fault Refusal :=
  if tileDom d && decide (s.domSt d = 2) then .next (s.domUp d) else .next s

/-- WAKE_FAIL: not up within 4 µs. -/
def execWakeFail (d : Nat) (s : State) : Host.Outcome State Fault Refusal :=
  if tileDom d && decide (s.domSt d = 2) then .next ((s.octCap (d / 8) 6).fatal 0x06 6 (d / 8)) else .next s

/-- The tile-cache lines of a tile leave it (R269): WB of modified ones, EVCT of the others; each waits for its WB_ACK. -/
def State.flushTile (s : State) (t : Nat) : State :=
  (s.coh.agents.filter (fun x => decide (x.1 / 2 ^ 45 = t) && keeps x.2.st)).foldl (fun s x => s.tileDrop t (x.1 % 2 ^ 45) x.2.data) s

/-- A sleeping physical TE loses its accumulators, weight buffer and vector registers (R69). -/
def State.teSleep (s : State) (x : Nat) : State := (s.setPh x { s.ph x with acc := [], vreg := [], epoch := s.fresh + 1 }).tick

/-- The domain of a tile's free spare: it stays powered, ready within 100 ns of a remap (R69). -/
def State.spareDom (s : State) (d : Nat) : Bool := decide (d < 512) && decide (d % 8 < 5) && s.isFreeSpare (d / 8) (d % 8)

/-- One tile domain at I0: it has been used, or another whole sailing idle; it sleeps when R297 says so. -/
def State.sleepOne (s : State) (wake : Nat → Bool) (d : Nat) : State :=
  let n := if s.fab.used.contains d then 0 else mgetD s.fab.idle d 0 + 1
  let s1 := s.setFab { s.fab with idle := mput s.fab.idle d n }
  let lim := s.rf R.octCfg F.octCfg_IDLE_SAIL
  let t := d / 8
  let busy := decide (d % 8 = 6) && (s.coh.txns.any (fun p => decide (s.homeOf (p.1 * 128) = t)) ||
    s.coh.queue.any (fun q => decide (s.homeOf (q.line * 128) = t)))
  if s.rf (R.octPwr d) F.octPwr_SLEEP_EN = 1 ∧ s.domSt d = 0 ∧ lim ≠ 0 ∧ n ≥ lim ∧ wake d = false ∧ busy = false ∧ s.spareDom d = false then
    let s2 := if d % 8 = 5 then s1.flushTile t else if d % 8 < 5 then s1.teSleep (5 * t + d % 8) else s1
    s2.rset (R.octPwr d) F.octPwr_STATE 1
  else s1

/-- The wake list of the slots of this sailing. -/
def State.wakeSet (s : State) : Nat :=
  (s.partRecs.map (·.part)).foldl (fun m p => match s.blockOf p with
    | some b => m ||| b.wake
    | none => m) 0

/-- TE_STATUS.STATE of a TE without a leg: SLEEP or IDLE, as its domain is (R102). -/
def State.teRest (s : State) (k : Nat) : State :=
  if s.rf (R.teStatus k) F.teStatus_STATE ≤ 1 then
    s.rset (R.teStatus k) F.teStatus_STATE (b2n (decide (s.domSt (8 * (k / 4) + s.rf (R.teStatus k) F.teStatus_PHYS) ≠ 1)))
  else s

/-- I0: idle tile domains sleep (R297). -/
def State.sleepI0 (s : State) : State :=
  let w := s.wakeSet
  let s1 := ((List.range 512).filter tileDom).foldl (fun s d => s.sleepOne (bitOf w) d) s
  (s1.setFab { s1.fab with used := [] }).each (List.range 256) State.teRest

/-- The block of a partition in the next sailing, where nothing moves its lag. -/
def State.nextBlock (s : State) (p : Nat) : Option SlotBlk :=
  (s.varFor p).bind (fun v => (v.slots[slotAt (s.sailNo p + 1) (s.lagOf p) v.cycle]?).bind (fun b => b.find? (fun x => x.part = p)))

/-- RUN's start: the domains the next slots list are woken (R299). -/
def State.wakeNext (s : State) : State :=
  let w := (s.partRecs.map (·.part)).foldl (fun m p => match s.nextBlock p with
    | some b => m ||| b.wake
    | none => m) 0
  ((List.range 512).filter (fun d => tileDom d && bitOf w d && decide (s.domSt d = 1))).foldl (fun s d =>
    s.domUp d) s |>.each (List.range 256) State.teRest

/-! ### Partition reset (R176, R269, R300) -/

/-- TILE_STATUS.TC_UP of a partition's tiles. -/
def State.showTc (s : State) (p x : Nat) : State :=
  ((List.range 64).filter (bitOf (s.tilesOf p))).foldl (fun s t => s.rset (R.tileStatus t) F.tileStatus_TC_UP x) s

/-- What TE_CTL.CLR clears (R108). -/
def State.teClr (s : State) (k : Nat) : State :=
  (((((s.rput (R.teFlags k) 0).rput (R.teCvtCnt k) 0).rput (R.teNumCnt k) 0).rput (R.tePerfBusy k) 0).rput (R.tePerfStall k)
    0).rput (R.tePerfWs k) 0

/-- The sticky flags and saturating counters of R100: of TE_PERF_WS BLOCKS wraps and stays. -/
def State.teFlagsClr (s : State) (k : Nat) : State :=
  (((((s.rput (R.teFlags k) 0).rput (R.teCvtCnt k) 0).rput (R.teNumCnt k) 0).rput (R.tePerfBusy k) 0).rput (R.tePerfStall k)
    0).rset (R.tePerfWs k) F.tePerfWs_MISS 0

/-- PARTITION_RESET_ENTRY: the partition's tile caches are flushed and its TEs, copy engines and rings leave their work. -/
def execPartitionResetEntry (part : Nat) (s : State) : Host.Outcome State Fault Refusal :=
  if !(s.partRecs.any (fun r => r.part = part)) || (s.part part).reset then .next s
  else
    let ks := s.tesOf part
    let s1 := (((List.range 64).filter (bitOf (s.tilesOf part))).foldl (fun s t => s.flushTile t) s).showTc part 0
    let s2 := ks.foldl (fun s k => ((s.teFlagsClr k).setTe k (s.tez k).abandoned).teState k 1) s1
    let s3 := { s2 with
      copies := s2.copies.filter (fun c => !(decide (c.part = part) && c.walking)),
      bars := s2.bars.filter (fun b => !(ks.any (bitOf b.mask))) }
    let s4 := s3.setRings { s3.rings with ctxs := s3.rings.ctxs.map (fun c =>
      if s3.partOf (ringTen c.ring) = some part ∧ c.done.isNone then { c with done := some (stReset, 0), doneSail := s3.sail } else c) }
    .next ((s4.setPart part { s4.part part with reset := true }).rset R.octPrst ⟨part, 1⟩ 1)

/-- I2: partitions whose flush is done leave reset. -/
def State.resetI2 (s : State) : State :=
  ((s.partRecs.map (·.part)).filter (fun p => (s.part p).reset)).foldl (fun s p =>
    ((s.setPart p { s.part p with reset := false }).rset R.octPrst ⟨p, 1⟩ 0).showTc p 1) s

/-- PARTITION_RESET sent from a tile of the partition. -/
def State.prstAnswer (s : State) (part dst tag qc : Nat) : State :=
  s.fabMsg ⟨3, dst, tag, 0, 0, 0, ((List.range 64).find? (bitOf (s.tilesOf part))).getD 0, qc, 4096, 0, false, ridOf dst⟩

/-- PARTITION_RESET: a packet for a TE, copy engine or ring engine of a partition in reset: a request (REQ 0, MGT 5) is
answered, an answer (RSP 2, DAT 3) absorbed and counted. -/
def execPartitionReset (part cls src tag : Nat) (s : State) : Host.Outcome State Fault Refusal :=
  if bitOf (s.rv R.octPrst).toNat part && decide (part < 64) then
    (if cls = 0 ∨ cls = 5 then .next (s.prstAnswer part src tag 2)
      else if cls = 2 ∨ cls = 3 then .next (s.radd R.octStatus F.octStatus_PRST_DROP 1)
      else .next s)
  else .next s

/-! ### Counter clears -/

def State.octClr (s : State) : State :=
  let s1 := (List.range 83).foldl (fun s r => s.rput (R.octLinkCnt r) 0) s
  let s2 := (List.range 75).foldl (fun s p => s.rput (R.octTollCnt p) 0) s1
  ((List.range 529)).foldl (fun s d => if d < 512 ∧ d % 8 = 7 then s else s.rset (R.octPwr d) F.octPwr_WAKES 0) s2

def execOctClr (s : State) : Host.Outcome State Fault Refusal := .next s.octClr

/-- COH_CTL.CLR: the high-water marks and the counts (R275, R276). -/
def State.cohClr (s : State) : State :=
  (List.range 64).foldl (fun s h =>
    ((s.rset (R.cohSlice h) F.cohSlice_TRK_MAX 0).rset (R.cohSlice h) F.cohSlice_CQ_MAX 0).rput (R.cohPerf h) 0) s

def execCohClr (s : State) : Host.Outcome State Fault Refusal := .next s.cohClr

def State.tileClr (s : State) (t : Nat) : State :=
  ((s.rput (R.tilePfCnt t) 0).rput (R.tileSpfCnt t) 0).rput (R.tilePerfLlc t) 0

def execTileClr (tile : Nat) (s : State) : Host.Outcome State Fault Refusal := .next (if tile < 64 then s.tileClr tile else s)

def execTeClr (te : Nat) (s : State) : Host.Outcome State Fault Refusal := .next (if te < 256 then s.teClr te else s)

/-! ### Vaults and slices (R181, R189, R190) -/

/-- The regime a tier temperature leads to from a regime (R190): 0 below 85 °C, 1, 2 from 95 °C; left 3 °C below. -/
def vaultRegime (old t : Nat) : Nat :=
  if 95 ≤ t then 2
  else if 85 ≤ t then (if old = 2 ∧ t > 92 then 2 else 1)
  else if old ≥ 1 ∧ t > 82 then 1
  else 0

/-- VAULT_REGIME_CHANGE: the hottest tier sensor of a vault reads t °C. -/
def execVaultRegimeChange (vault t : Nat) (s : State) : Host.Outcome State Fault Refusal :=
  if 64 ≤ vault then .next s
  else
    let s1 := s.rset (R.tileStatus vault) F.tileStatus_VTEMP t
    if 100 ≤ t then .next ((s1.captureAt (R.tileErr vault) capStd 8).fatalTrip 0x04 8 vault)
    else
      let old := mgetD s.heap.regimeDue vault (s.rf (R.tileStatus vault) F.tileStatus_THERM)
      let new := max (vaultRegime old t) (b2n (s.heap.short.contains vault))
      let s2 := s1.setHeap { s1.heap with regimeDue := mput s1.heap.regimeDue vault new }
      .next (if new = 2 ∧ old ≠ 2 then (s2.captureAt (R.tileErr vault) capStd 8).errBare clsDegrading 0x04 8 vault else s2)

/-- I0: vault regimes due take effect. -/
def State.regimeI0 (s : State) : State :=
  (s.heap.regimeDue.foldl (fun s x => s.rset (R.tileStatus x.1) F.tileStatus_THERM x.2) s).setHeap { s.heap with regimeDue := [] }

/-- A bank has a spare row left (R182, R189): fewer than 64 rows of it repaired or due, and its channel's spare rows not gone to a failed
bank. -/
def State.rowSpare (s : State) (v c b : Nat) : Bool :=
  !(bitOf (s.rf (R.tileVrepair v) F.tileVrepair_BANK_SPARED) c) &&
    decide (((s.heap.repaired ++ s.heap.rowDue).filter (fun x => decide (x.1 = v) && decide (x.2.1 = c) && decide (x.2.2.1 = b))).length < 64)

/-- ROW_REPAIR_DONE: a row's copy is done, or (found = false, or no spare row is left) the row cannot be repaired and is fenced at
once (R189). -/
def execRowRepairDone (vault chan bank row : Nat) (found : Bool) (s : State) : Host.Outcome State Fault Refusal :=
  let x := (vault, chan, bank, row)
  if 64 ≤ vault ∨ 16 ≤ chan ∨ 16 ≤ bank ∨ 960 ≤ row then .next s
  else if found && (s.heap.rowDue.contains x || s.rowSpare vault chan bank) then .next (s.setHeap { s.heap with rowDue := if s.heap.rowDue.contains x then s.heap.rowDue else s.heap.rowDue ++ [x] })
  else if s.heap.fenced.contains x then .next s
  else .next ((((s.setHeap { s.heap with fenced := s.heap.fenced ++ [x] }).radd (R.tileVrepair vault) F.tileVrepair_FENCED
    1).captureAt (R.tileErr vault) capStd 7).errBare clsDegrading 0x04 7 vault).saveRepair

/-- I2: repaired rows take effect; a row that was fenced serves again. -/
def State.rowI2 (s : State) : State :=
  let s1 := s.heap.rowDue.foldl (fun s x => s.radd (R.tileVrepair x.1) F.tileVrepair_ROWS 1) s
  let s2 := s1.setHeap { s1.heap with rowDue := [], repaired := s1.heap.repaired ++ s1.heap.rowDue }
  if s.heap.rowDue.isEmpty then s2 else s2.saveRepair

/-- The lines a slice holds in a way. -/
def State.linesIn (s : State) (slice way : Nat) : List Nat :=
  (s.coh.llc.filter (fun x => decide (s.homeOf (x.1 * 128) = slice) && decide (x.2.way = way))).map (·.1)

/-- A line of a failed way that cannot be read is lost: an uncorrectable memory error (R181). -/
def State.wayLineLost (s : State) (slice l : Nat) : State :=
  (s.setCoh { s.coh with llc := mdel s.coh.llc l }).memUe l 0x04 4 slice none

/-- The way of a slice's failed line that holds it: one of the LLC-reserved range is in the way of its offset (R179). -/
def State.inWay (s : State) (slice way l : Nat) : Bool :=
  (s.linesIn slice way).contains l ||
    (decide (s.placeOf (l * 128) = .reserved) && decide (s.homeOf (l * 128) = slice) && decide ((l * 128 - resvBase) / 2 ^ 25 = way))

/-- LLC_WAY_FAIL: a way of a slice fails. Its lines that bad lists cannot be read: they are lost; its other modified lines are written
back, and a caching way holds nothing more (R181). What the command lists as the way's lines is the slice's own knowledge already. -/
def execLlcWayFail (slice way : Nat) (_lines bad : List Nat) (s : State) : Host.Outcome State Fault Refusal :=
  if 64 ≤ slice ∨ 24 ≤ way then .next s
  else
    let s1 := (bad.filter (fun l => s.inWay slice way l)).foldl (fun s l => s.wayLineLost slice l) s
    let s2 := (s1.linesIn slice way).foldl (fun s l => s.llcEvict l) s1
    let s3 := s2.captureAt (R.tileErr slice) capStd 4
    let s4 := s3.setHeap { s3.heap with
      wayDue := s3.heap.wayDue ++ [(slice, way)],
      waysOff := if s3.heap.waysOff.contains (slice, way) then s3.heap.waysOff else s3.heap.waysOff ++ [(slice, way)] }
    .next (s4.errBare clsCorrected 0x04 4 slice)

/-- Lines a slice must give up because it has caching ways less: those in a way that is none any more. -/
def State.shrink (s : State) (h : Nat) : State :=
  let ws := s.cwayList h
  ((s.coh.llc.filter (fun x => decide (s.homeOf (x.1 * 128) = h) && !(ws.contains x.2.way))).map (·.1)).foldl (fun s l => s.llcEvict l) s

/-- A failed way without a spare: a caching way is lost; for a reserved way the highest caching way does its duty, its own lines written
back and gone (R181). -/
def State.wayLose (s : State) (slice way : Nat) : State :=
  let s0 := if s.rf (R.tileStatus slice) F.tileStatus_LLC_SPARE = 1 ∧ s.rf (R.tileLlcSpare slice) F.tileLlcSpare_SPARE_FOR = way then
    s.rset (R.tileStatus slice) F.tileStatus_LLC_SPARE 2 else s
  let s1 := ((s0.radd (R.tileLlcSpare slice) F.tileLlcSpare_LOST 1).rset (R.tileStatus slice) F.tileStatus_CWAYS
    (s0.rf (R.tileStatus slice) F.tileStatus_CWAYS - 1)).errBare clsDegrading 0x04 4 slice
  let off := if way < s.rf (R.tileStatus slice) F.tileStatus_RWAYS then
      match (s0.cwayList slice).getLast? with
      | some w => (s1.heap.waysOff.filter (· != (slice, way))) ++ [(slice, w)]
      | none => s1.heap.waysOff
    else s1.heap.waysOff
  ((s1.setHeap { s1.heap with waysOff := off }).setFab { s1.fab with wayLost := true }).shrink slice

/-- I2: the spare takes a failed way's place, or the slice has a caching way less. -/
def State.wayI2 (s : State) : State :=
  let s1 := s.heap.wayDue.foldl (fun s x =>
    if s.rf (R.tileStatus x.1) F.tileStatus_LLC_SPARE = 0 then
      ((s.rset (R.tileStatus x.1) F.tileStatus_LLC_SPARE 1).rset (R.tileLlcSpare x.1) F.tileLlcSpare_SPARE_FOR x.2).setHeap
        { s.heap with waysOff := s.heap.waysOff.filter (· != x) }
    else s.wayLose x.1 x.2) s
  if s.heap.wayDue.isEmpty then s1 else (s1.setHeap { s1.heap with wayDue := [] }).saveRepair

end Sys2Proof.Machine
end

