-- ==== Sys2Proof/Machine/Ford.lean ====
section
/-! DEFINITION. Clock domains and fords (R310 to R325), and late boundaries (R26). -/

namespace Sys2Proof.Machine

/-- The layout of FORD_ERR. -/
def capFord : CapFlds := ⟨F.fordErr_SAIL_LO, F.fordErr_VALID, F.fordErr_CAUSE, F.fordErr_COUNT⟩

/-- An error captured in FORD_ERR, with its domains where it is the first. -/
def State.fordCap (s : State) (src dst cause : Nat) : State :=
  if s.captured R.fordErr capFord then s.captureAt R.fordErr capFord cause
  else ((s.captureAt R.fordErr capFord cause).rset R.fordErr F.fordErr_SRC_DOM src).rset R.fordErr F.fordErr_DST_DOM dst

/-- A late boundary (R26): SKEW, every partition's sailing voided; the third in a row is FATAL. -/
def State.lateBoundary (s : State) : State :=
  if s.time.late then s
  else
    let s1 := (s.rset R.sailEvent F.sailEvent_SKEW 1).voidAll 0x40 0x01 0 0 none
    let s2 : State := { s1 with time := { s1.time with late := true } }
    if s2.time.lateRun + 1 ≥ 3 then s2.fatal 0x01 0 0 else s2

/-- FORD_OVERRUN: a handshake ford into domain dst is offered an event while one is in flight, or (ptr) a FIFO ford's pointer
check fails over n entries; leaf: a ford of the boundary tree (R319, R320). -/
def execFordOverrun (src dst n : Nat) (ptr leaf : Bool) (s : State) : Host.Outcome State Fault Refusal :=
  if 18 ≤ src ∨ 18 ≤ dst then .next s
  else
    let s1 := s.rsetIf (!ptr) R.fordStatus ⟨F.fordStatus_OVR.lo + dst, 1⟩ 1
    let s2 := (s1.radd (R.fordLost dst) F.fordLost_OVR (if ptr then n else 1)).fordCap src dst (if ptr then 2 else 1)
    let s3 := s2.voidAll 0x48 0x12 (if ptr then 2 else 1) dst none
    .next (if leaf then s3.lateBoundary else s3)

/-- FORD_RESET: domain dom enters reset; n entries and events bound for it and m bound for domain other are discarded; nothing passes
between the two until both report ready (R321, R322). -/
def execFordReset (dom other n m : Nat) (s : State) : Host.Outcome State Fault Refusal :=
  if 18 ≤ dom ∨ 18 ≤ other ∨ dom = other then .next s
  else
    let s1 := ((s.domTo dom 1).radd (R.fordLost dom) F.fordLost_FLUSH n).radd (R.fordLost other) F.fordLost_FLUSH m
    .next ((s1.setFab { s1.fab with fords := if s1.fordShut dom other then s1.fab.fords else s1.fab.fords ++ [(dom, other)] }).rset R.fordStatus
      ⟨F.fordStatus_NOT_READY.lo + other, 1⟩ 1)

/-- A domain has reported ready: to every pair it is in, where no other pair of it is shut. -/
def State.domReady (s : State) (d : Nat) : State :=
  if s.fab.fords.any (fun x => decide (x.1 = d) || decide (x.2 = d)) then s else s.domTo d 2

/-- FORD_READY: both sides of a pair report ready, and transfers between them resume (R321, R322). -/
def execFordReady (dom other : Nat) (s : State) : Host.Outcome State Fault Refusal :=
  if s.fordShut dom other then
    .next (((s.setFab { s.fab with fords := s.fab.fords.filter (fun x => !(decide (x = (dom, other)) || decide (x = (other, dom)))) }).domReady
      dom).domReady other)
  else .next s

/-- TREF_LOST (R312). -/
def execTrefLost (s : State) : Host.Outcome State Fault Refusal := .next ((s.fordCap 0 0 4).fatal 0x12 4 0)

/-- FORD_CTL.CLR. -/
def State.fordClr (s : State) : State := (List.range 18).foldl (fun s d => s.rput (R.fordLost d) 0) s

def execFordClr (s : State) : Host.Outcome State Fault Refusal := .next s.fordClr

end Sys2Proof.Machine
end

