-- ==== Sys2Proof/Machine/Slip.lean ====
section
/-! DEFINITION. Slips and the Octel Slip Protocol (R349 to R373): flits and their checks, headers, windows, link states,
failure and recovery. -/

namespace Sys2Proof.Machine

def State.slipTo (s : State) (v x : Nat) : State := s.rset (R.slipStatus v) F.slipStatus_STATE x

/-- The manifest that gives the population: the one in force, or bring-up's candidate (R479). -/
def State.topo (s : State) : Option Manifest :=
  match s.man.inForce with
  | some m => some m
  | none => s.man.staged

def State.slipTop (s : State) (v : Nat) : Option SlipTop := s.topo.bind (fun m => m.slips[v]?)

/-! ### Failure (R368, R270, R361) -/

/-- The tenant a requester acts for. -/
def State.tenOfWho (s : State) (who : List Nat) : Option Nat :=
  match who with
  | [1, t, _, _] => some t
  | [9, _, _, _, _, t, _] => tenOpt t
  | [14, _, _, _, t, _] => tenOpt t
  | [11, l] => (mget s.coh.txns l).bind (fun t => tenOpt t.q.ten)
  | [6, t] => some t
  | 2 :: k :: _ => match (s.tez k).run with
    | some r => some r.entry.tenant
    | none => some (s.tez k).tailTenant
  | 3 :: g :: _ => some (ringTen g)
  | [4, k] => (s.tez k).run.map (·.entry.tenant)
  | [5, g] => some (ringTen g)
  | 7 :: p :: i :: _ => (s.copies.find? (fun c => decide (c.part = p) && decide (c.idx = i))).map (·.tenant)
  | _ => none

/-- The lines of a read that gets no answer. -/
def State.readLost (s : State) (r : RRead) (block cause unit : Nat) : State :=
  r.left.foldl (fun s x => s.memUe (lineOf (r.pa + x.2.1)) block cause unit (s.tenOfWho r.who)) s

/-- Every read and write of a node still out is answered inside the hub as an uncorrectable memory error on its line. -/
def State.failNode (s : State) (node block cause unit : Nat) : State :=
  let rs := s.heap.remReads.filter (fun r => decide (r.pa / 2 ^ 48 = node) && decide (r.st = 0))
  let ws := s.heap.remWrites.filter (fun w => decide (w.pa / 2 ^ 48 = node))
  let s1 := rs.foldl (fun s r => s.readLost r block cause unit) s
  let s2 := ws.foldl (fun s w => s.memUe (lineOf w.pa) block cause unit (s.tenOfWho w.who)) s1
  let s3 : State := { s2 with heap := { s2.heap with
      remReads := s2.heap.remReads.map (fun r => if r.pa / 2 ^ 48 = node ∧ r.st = 0 then { r with left := [], wait := [], st := 2 } else r),
      remWrites := s2.heap.remWrites.filter (fun w => !(decide (w.pa / 2 ^ 48 = node))) } }
  ws.foldl (fun s w => s.ackOne w false) s3.relay

/-- A slip goes DOWN or is declared failed (R368). -/
def State.slipDown (s : State) (v cause : Nat) : State :=
  if s.slState v = 4 ∨ s.slState v = 0 then s
  else
    let comp := s.computeSlip v
    let s1 := (((s.captureAt (R.slipErr v) capStd cause).slipTo v 4).domTo (4 + v) 1).untrain (64 + v) 4096
    let s2 : State := { s1 with pins := { s1.pins with slipRst := s1.pins.slipRst ||| 2 ^ v } }
    let s3 := if comp then (s2.rset R.cohStatus ⟨F.cohStatus_SLIP_FAILED.lo + v, 1⟩ 1).slipGone v else s2
    let s4 := (s3.failNode (2 + v) 0x08 cause v).errBare clsDegrading 0x08 cause v
    let s5 := s4.setFab { s4.fab with
    tolled := s4.fab.tolled.filter (fun q => decide (q.req ≠ 64 + v)), lossSeen := s4.fab.lossSeen || s.slipLive v }
    s5.setSl v { SlipSt.idle with retrains := (s.sl v).retrains, cleaned := !comp, goneDue := true, gone := (s.sl v).gone }

/-- A breach of the protocol recorded (R361): captured and counted. -/
def State.slipBreach (s : State) (v : Nat) : State :=
  ((s.captureAt (R.slipErr v) capStd 3).radd (R.slipCnt v) F.slipCnt_PROTOCOL 1).errBare clsCorrected 0x08 3 v

/-- A retrain starts; the third of a sailing takes the link DOWN (R367). -/
def State.slipRetrain (s : State) (v : Nat) : State :=
  let n := (s.sl v).retrains + 1
  let s1 := ((s.captureAt (R.slipErr v) capStd 1).radd (R.slipCnt v) F.slipCnt_RETRAIN 1).errBare clsCorrected 0x08 1 v
  let s2 := s1.setSl v { s1.sl v with retrains := n, fails := 0, skip := false }
  if n ≥ 3 then s2.slipDown v 2 else (s2.slipTo v 3).domTo (4 + v) 1

/-! ### Windows (R362 to R366) -/

/-- The lowest inbound window in force that covers a chiplet address. -/
def State.winIn (s : State) (v a : Nat) : Option Nat :=
  (List.range 16).find? (fun w =>
    let b := s.rf (R.slipWinIn v w) F.slipWinIn_CBASE * 2 ^ 20
    decide (s.rf (R.slipWinIn v w) F.slipWinIn_EN = 1) && decide (b ≤ a) && decide (a < b + 2 ^ s.rf (R.slipWinIn v w) F.slipWinIn_SIZE_LOG))

/-- A window breaks R363. -/
def State.winBad (s : State) (v w : Nat) : Bool :=
  let sz := s.rf (R.slipWinIn v w) F.slipWinIn_SIZE_LOG
  let cb := s.rf (R.slipWinIn v w) F.slipWinIn_CBASE
  let ta := s.rf (R.slipWinInTgt v w) F.slipWinInTgt_TPA
  decide (sz < 20) || decide (52 < sz) || decide (cb * 2 ^ 20 % 2 ^ sz ≠ 0) || decide (ta * 2 ^ 20 % 2 ^ sz ≠ 0) ||
    decide (s.rf (R.slipWinInTgt v w) F.slipWinInTgt_QC = 0) ||
    (decide (s.rf (R.slipWinInTgt v w) F.slipWinInTgt_CACHE = 1) && (decide (cb ≥ 2 ^ 32) || decide (cb ≠ ta)))

/-- I0: inbound windows that break R363, or name a tenant whose TDI is locked or runs (R559), are not put in force. -/
def State.windowsI0 (s : State) : State :=
  (List.range 128).foldl (fun s i =>
    let held := decide (s.rf (R.slipWinInTgt (i / 16) (i % 16)) F.slipWinInTgt_TENANT < 4096) &&
      s.tdiHeld (s.rf (R.slipWinInTgt (i / 16) (i % 16)) F.slipWinInTgt_TENANT)
    if s.rf (R.slipWinIn (i / 16) (i % 16)) F.slipWinIn_EN = 1 ∧ (held || s.winBad (i / 16) (i % 16)) = true then
      ((((s.rsetIf held R.salEvent F.salEvent_WIN_REFUSED 1).rset (R.slipWinIn (i / 16) (i % 16)) F.slipWinIn_EN 0).captureAt (R.slipErr (i / 16)) capStd 6).errBare clsCorrected 0x08 6
        (i / 16))
    else s) s

/-- The kind of a new request by its opcode (R282). -/
def reqOf : Nat → Option ReqK
  | 1 => some .rds
  | 2 => some .rdo
  | 3 => some .upg
  | 4 => some .rdc
  | 5 => some .wri
  | 6 => some .wrp
  | _ => none

/-- A new request's header with its translation (R363 to R365): the conditions of R364 that the window decides. -/
def State.xlateHdr (s : State) (v : Nat) (h : OHdr) (k : ReqK) : OHdr :=
  match s.winIn v h.addr with
  | none => { h with err := some 1 }
  | some w =>
    let t := R.slipWinInTgt v w
    let pa := s.rf t F.slipWinInTgt_TPA * 2 ^ 20 + (h.addr - s.rf (R.slipWinIn v w) F.slipWinIn_CBASE * 2 ^ 20)
    let h1 := { h with pa := pa, qc := s.rf t F.slipWinInTgt_QC, ten := s.rf t F.slipWinInTgt_TENANT }
    if (k.caches && decide (s.rf t F.slipWinInTgt_CACHE = 0)) || (!k.writes && decide (s.rf t F.slipWinInTgt_READ = 0)) ||
        (k.writes && decide (s.rf t F.slipWinInTgt_WRITE = 0)) ||
        (decide (s.placeOf pa = .regs) && (decide (s.rf t F.slipWinInTgt_REG = 0) || decide (k = .wri))) then { h1 with err := some 2 }
    else h1

/-! ### Headers (R357 to R361) -/

/-- A header from its slot. -/
def hdrOf (n : Nat) : OHdr :=
  ⟨bitsOf n 125 3, bitsOf n 120 5, bitsOf n 105 10, bitsOf n 48 57 * 128, bitsOf n 2 12, bitOf n 1, bitOf n 0, 0, none, 0, 1, 4096⟩

/-- The slots a header takes. -/
def OHdr.slots (h : OHdr) : Nat := 1 + b2n h.masked

/-- The credits a header of a chiplet spends (R357). -/
def OHdr.need (h : OHdr) : List Nat := ospNeed h.cls h.slots h.df

/-- A chiplet may send a class and opcode in its role (R361): a new request, an answer, a coherence follow-up. -/
def State.slipMay (s : State) (v : Nat) (h : OHdr) : Bool :=
  let comp := s.computeSlip v
  match h.cls with
  | 0 => match reqOf h.op with
    | some k => comp || !k.caches
    | none => false
  | 2 => decide (h.op = 6) || decide (h.op = 7) || (comp && (decide (h.op = 3) || decide (h.op = 5)) && decide (h.addr < 2 ^ 52))
  | 3 => decide (h.op = 3) || (comp && decide (h.op = 2) && decide (h.addr < 2 ^ 52))
  | 4 => comp && (decide (h.op = 1) || decide (h.op = 2)) && decide (h.addr < 2 ^ 52)
  | _ => false

/-- A chiplet's clean SNP_DATA comes with its SNP_RSP when it held the line as its forwarder (R255, R256). -/
def State.slipSends (s : State) (v l : Nat) (held : Bool) : Bool :=
  match mget s.coh.txns l with
  | some t => held && decide (((mget s.coh.filter l).bind (·.fwd)) = some (64 + v)) && (match t.snp with
      | some .s => true
      | some .cur => true
      | _ => false)
  | none => false

/-- A chiplet's answer to an access of its memory, at its slip's spur, which asked. -/
def State.slipMsg (s : State) (v : Nat) (h : OHdr) (kind cause : Nat) (d : Line) : State :=
  s.fabMsg ⟨kind, 64 + v, h.tag, lineOf h.addr, cause, d, 64 + v, 2, 4096, 0, false, 64 + v⟩

/-- The class and tenant of the request whose snoop a line's answers belong to (R293). -/
def State.snpQc (s : State) (l : Nat) : Nat := ((mget s.coh.txns l).map (·.q.qc)).getD 2
def State.snpTen (s : State) (l : Nat) : Nat := ((mget s.coh.txns l).map (·.q.ten)).getD 4096

/-- A header delivered with its line (R361). -/
def State.slipDeliver (s : State) (v : Nat) (h : OHdr) (d : Line) : State :=
  if s.slipMay v h = false then
    (if h.cls = 0 then s.ospErr v 2 h.tag h.addr 3 else s).slipBreach v
  else
    let l := lineOf h.addr
    match h.cls with
    | 0 => match reqOf h.op with
      | some k =>
        let q : SReq := ⟨k, h.addr, h.tag, if k = .wri then fullMask else h.mask, d, bitOf h.aux 1, bitOf h.aux 0, h.err, h.pa, h.qc, h.ten⟩
        s.setSl v { s.sl v with queue := (s.sl v).queue ++ [q] }
      | none => s
    | 2 =>
      if h.op = 3 then s.compAckFrom (64 + v) h.addr
      else if h.op = 5 then
        s.sendHome (s.homeHdr 2 5 (s.snpQc l) (64 + v) h.tag l (s.snpTen l) (h.aux % 4096) false false) 0 0
          (.snpRsp v h.addr (bitOf h.aux 11) (bitOf h.aux 10) (s.slipSends v l (bitOf h.aux 11)) (bitOf h.aux 9) (bitOf h.aux 8))
      else if h.op = 6 then s.slipMsg v h 1 0 0
      else s.slipMsg v h 2 (h.aux % 256) 0
    | 3 =>
      if h.op = 3 then s.slipMsg v h 0 0 d
      else s.cohSend ⟨4, 64 + v, l, h.tag, .i, false, bitOf h.aux 0, d, s.snpQc l, s.snpTen l, 0, false⟩
    | _ => if h.op = 1 then s.wbArrive (64 + v) h.addr h.tag d else s.evctArrive (64 + v) h.addr h.tag

/-- A header cannot be delivered yet: an earlier one of its class waits, its line has not come, or it is SNP_DATA ahead of
its SNP_RSP. -/
def State.hdrWaits (s : State) (v : Nat) (before : List OHdr) (h : OHdr) : Bool :=
  before.any (fun b => b.cls = h.cls) ||
    (h.df && (before.any (·.df) || decide ((s.sl v).bytes.length < 128))) ||
    (decide (h.cls = 3) && decide (h.op = 2) && (match mget s.coh.txns (lineOf h.addr) with
      | some t => bitOf t.pend v
      | none => false))

/-- The first header that can be delivered, with those before it. -/
def State.firstHdr (s : State) (v : Nat) : List OHdr → List OHdr → Option (List OHdr × OHdr × List OHdr)
  | _, [] => none
  | before, h :: hs => if s.hdrWaits v before h then s.firstHdr v (before ++ [h]) hs else some (before, h, hs)

/-- Headers delivered as far as their lines have come; the credits of all but a request, which waits in the adapter,
are free again. -/
def State.slipPump (s : State) (v : Nat) : Nat → State
  | 0 => s
  | f + 1 =>
    match s.firstHdr v [] (s.sl v).hdrs with
    | some (b, h, r) =>
      let x := s.sl v
      let d := if h.df then lineOfBytes (x.bytes.take 128) else 0
      let s1 := s.setSl v { x with hdrs := b ++ r, bytes := if h.df then x.bytes.drop 128 else x.bytes }
      ((if h.cls = 0 ∧ s.slipMay v h = true then s1 else s1.ospFree v h.need).slipDeliver v h d).slipPump v f
    | none => s

/-- A whole header received: without a credit for it the slip fails (R357). -/
def State.slipHdr (s : State) (v : Nat) (h : OHdr) : State :=
  let x := s.sl v
  if credOk x.tx.adv h.need then s.setSl v { x with hdrs := x.hdrs ++ [h], tx := { x.tx with adv := credSub x.tx.adv h.need } }
  else (s.radd (R.slipCnt v) F.slipCnt_PROTOCOL 1).slipDown v 3

/-- A header as it is received: a new request is translated now, though its mask slot comes later (R365). -/
def State.hdrIn (s : State) (v : Nat) (h : OHdr) : OHdr :=
  match h.cls, reqOf h.op with
  | 0, some k => s.xlateHdr v h k
  | _, _ => h

/-- One slot of a HEAD flit. -/
def State.slipSlot (s : State) (v n : Nat) : State :=
  if s.slState v ≠ 2 then s
  else match (s.sl v).maskDue with
    | some h => ((s.setSl v { s.sl v with maskDue := none }).slipHdr v { h with mask := n })
    | none =>
      if n = 0 then s
      else if (hdrOf n).masked then s.setSl v { s.sl v with maskDue := some (s.hdrIn v (hdrOf n)) }
      else s.slipHdr v (s.hdrIn v (hdrOf n))

/-! ### Flits (R355, R356) -/

/-- A replay asked for by either side. -/
def State.slipReplay (s : State) (v : Nat) : State := (s.radd (R.slipCnt v) F.slipCnt_REPLAY 1).errBare clsCorrected 0x08 0 v

/-- A flit that failed: REPLAY asked for; the eighth failure in a row of one FSEQ retrains the link. -/
def State.flitBad (s : State) (v : Nat) : State :=
  let n := (s.sl v).fails + 1
  let s1 := (s.slipReplay v).ospReplay v
  let s2 := s1.setSl v { s1.sl v with fails := n, skip := true }
  if n ≥ 8 then s2.slipRetrain v else s2

/-- The sender resends from an FSEQ. -/
def State.slipResend (s : State) (v fseq : Nat) : State := (s.slipReplay v).ospResend v (some fseq)

/-- The bytes of the data stream that no line has taken: those beyond the last line announced belong to none (DESIGN CHOICE, log 207). -/
def State.slipTrim (s : State) (v : Nat) : State :=
  let x := s.sl v
  s.setSl v { x with bytes := x.bytes.take (128 * ((x.hdrs.filter (·.df)).length + (match x.maskDue with
    | some h => b2n h.df
    | none => 0))) }

/-- A HEAD or DATA flit in order. -/
def State.flitGood (s : State) (v : Nat) (b : List Byte) (head : Bool) : State :=
  let x := s.sl v
  let s1 := (s.setSl v { x with
    rxSeq := (x.rxSeq + 1) % 4096, skip := false, fails := 0, bytes := if head then x.bytes else x.bytes ++ slice b 12 240,
    tx := { x.tx with got := true } }).ospHear v b true
  let s2 := if head then (List.range 15).foldl (fun s i => s.slipSlot v (leAt b (12 + 16 * i) 16)) s1 else s1.slipTrim v
  s2.slipPump v ((s2.sl v).hdrs.length)

/-- OSP_FLIT_RECEIVE: a flit of 256 bytes arrives on a slip that is UP; while the fords behind it are shut the adapter stalls (R321). -/
def execOspFlitReceive (slip : Nat) (flit : List Byte) (s : State) : Host.Outcome State Fault Refusal :=
  if 8 ≤ slip ∨ s.slState slip ≠ 2 ∨ flit.length ≠ 256 ∨ s.err.fatal = true ∨ s.fordShut 1 (4 + slip) = true then .next s
  else if crc32 (flit.take 252) ≠ leAt flit 252 4 then .next (s.flitBad slip)
  else
    let hdr := leAt flit 0 2
    let kind := bitsOf hdr 12 2
    if kind = 0 then .next ((s.ospHear slip flit true).setTx slip { ((s.ospHear slip flit true).sl slip).tx with owed := (s.sl slip).tx.owed })
    else if kind = 3 then .next (if leAt flit 12 1 = 1 then (s.ospHear slip flit true).slipResend slip (leAt flit 13 2) else s.ospHear slip flit true)
    else if hdr % 4096 = (s.sl slip).rxSeq then .next (s.flitGood slip flit (decide (kind = 1)))
    else if (s.sl slip).skip then .next (s.ospHear slip flit false)
    else .next ((s.ospHear slip flit false).flitBad slip)

/-- OSP_REPLAY: the chiplet's CTRL REPLAY. -/
def execOspReplay (slip fseq : Nat) (s : State) : Host.Outcome State Fault Refusal :=
  .next (if slip < 8 ∧ s.slState slip = 2 then s.slipResend slip fseq else s)

/-! ### Limits and link events (R356 to R369) -/

/-- CREDIT_TO: the hub has waited too long for a credit; none that it waits for in QUIET counts (R359). -/
def execCreditTo (slip : Nat) (s : State) : Host.Outcome State Fault Refusal :=
  .next (if slip < 8 ∧ s.slState slip = 2 ∧ s.time.stage ≠ .quiet ∧ s.ospStuck slip = true then s.slipDown slip 4 else s)

/-- MEM_TO: the read or write under a tag was not answered in time. -/
def execMemTo (slip tag : Nat) (s : State) : Host.Outcome State Fault Refusal :=
  .next (if slip < 8 ∧ ((s.readOf (2 + slip) tag).isSome ∨ (s.writeOf (2 + slip) tag).isSome) then s.slipDown slip 5 else s)

/-- SLIP_LINK_ERROR. -/
def execSlipLinkError (slip : Nat) (s : State) : Host.Outcome State Fault Refusal :=
  .next (if slip < 8 ∧ s.slState slip = 2 then s.slipRetrain slip else s)

/-- A rate and width the manifest and the chiplet's RATE_CAP allow (R350). -/
def State.slipFit (s : State) (v rate mods : Nat) : Bool :=
  match s.slipTop v with
  | some x => bitOf (s.rv (R.slipDesc v 0)).toNat (56 + rate) && decide (x.minRate ≤ rate) && decide (rate ≤ x.maxRate) && (decide (mods = 15) ||
      (decide (x.minMod = 1) && (decide (mods = 3) || decide (mods = 12))))
  | none => false

/-- The rate and width trained, shown. -/
def State.slipRate (s : State) (v rate mods : Nat) : State :=
  (s.rset (R.slipStatus v) F.slipStatus_RATE rate).rset (R.slipStatus v) F.slipStatus_MODS mods

/-- SLIP_RETRAIN_DONE: the flits kept are sent again (R367); ok false: the retrain failed. -/
def execSlipRetrainDone (slip rate mods : Nat) (ok : Bool) (s : State) : Host.Outcome State Fault Refusal :=
  if 8 ≤ slip ∨ s.slState slip ≠ 3 then .next s
  else if ok && s.slipFit slip rate mods then
    .next ((((s.slipRate slip rate mods).slipTo slip 2).domTo (4 + slip) 2).ospResend slip none)
  else .next (s.slipDown slip 2)

/-- SLIP_DOWN. -/
def execSlipDown (slip : Nat) (s : State) : Host.Outcome State Fault Refusal :=
  .next (if slip < 8 ∧ (s.slState slip = 2 ∨ s.slState slip = 3) then s.slipDown slip 2 else s)

/-- SLIP_SIDEBAND_LINK_DOWN: taken as DOWN. -/
def execSlipSidebandLinkDown (slip : Nat) (s : State) : Host.Outcome State Fault Refusal :=
  .next (if slip < 8 ∧ (s.slState slip = 2 ∨ s.slState slip = 3) then s.slipDown slip 2 else s)

/-- SLIP_SNP_TO: a chiplet misses COH_CFG.SNP_TO with an answer, or with data it announced; the home records it, and the slip is declared
failed (R257, R260). Its SLIP_ERR cause is 0x02 LINK_DOWN: R371 lists no other for it (DESIGN CHOICE, log 176). -/
def execSlipSnpTo (slip : Nat) (s : State) : Host.Outcome State Fault Refusal :=
  let late (p : Nat × Txn) : Bool := bitOf p.2.pend slip || p.2.await.contains (64 + slip) || (p.2.granted && decide (p.2.q.req = 64 + slip))
  match s.coh.txns.find? late with
  | some p =>
    if s.computeSlip slip && !(s.slipFailed slip) then .next ((s.cohErr (s.homeOf (p.1 * 128)) 3 clsDegrading).slipDown slip 2)
    else .next s
  | none => .next s

/-- Training starts (R369). -/
def State.slipTrain (s : State) (v : Nat) : State :=
  let s1 := (s.slipTo v 1).setSl v { s.sl v with retry := false }
  { s1 with pins := { s1.pins with slipRst := s1.pins.slipRst &&& (255 - 2 ^ v) } }

/-- SLIP_CTL.RETRAIN: acts while DOWN, once R270's line work is done. -/
def State.slipRetry (s : State) (v : Nat) : State :=
  if 8 ≤ v ∨ s.slState v ≠ 4 then s
  else if (s.sl v).cleaned then s.slipTrain v
  else s.setSl v { s.sl v with retry := true }

def execSlipRetrain (slip : Nat) (s : State) : Host.Outcome State Fault Refusal := .next (s.slipRetry slip)

/-- SLIP_AGENT_LOSS: the entries of a failed slip are cleaned (R270): owned lines are lost, shared ones keep the home's copy; a
RETRAIN that waited starts. -/
def execSlipAgentLoss (slip : Nat) (s : State) : Host.Outcome State Fault Refusal :=
  if slip < 8 && s.slipFailed slip then
    let s1 := s.agentLoss slip
    let s2 := s1.setSl slip { s1.sl slip with cleaned := true }
    .next (if (s2.sl slip).retry ∧ s2.slState slip = 4 then s2.slipTrain slip else s2)
  else .next s

/-! ### Discovery (R351, R352) -/

/-- Bytes of a list outside given ranges are 0. -/
def restZero (b : List Byte) (used : List (Nat × Nat)) : Bool :=
  (b.zipIdx).all (fun x => decide (x.1 = 0) || used.any (fun u => decide (u.1 ≤ x.2) && decide (x.2 < u.1 + u.2)))

/-- A descriptor is malformed (BAD_DESC). -/
def descBad (b : List Byte) : Bool :=
  let f (o n : Nat) : Nat := leAt b o n
  decide (b.length ≠ 256) || decide (f 0 4 ≠ 0x4450534F) || decide (f 4 2 ≠ 1) || decide (f 0xFC 4 ≠ crc32 (b.take 252)) ||
    decide (4 ≤ f 6 1) || decide (32 ≤ f 7 1) || decide (512 < f 0x12 2) || (decide (f 6 1 % 2 = 0) && decide (f 0x12 2 ≠ 0)) ||
    decide (f 0x14 2 < 1) || decide (1024 < f 0x14 2) || decide (1024 < f 0x12 2 + f 0x14 2) || decide (f 0x16 1 < 8) ||
    decide (f 0x18 2 < 16) || decide (4095 < f 0x18 2) || decide (f 0x1A 2 < 16) || decide (4095 < f 0x1A 2) ||
    decide (f 0x20 8 % 2 ^ 20 ≠ 0) || !(restZero b [(0, 0x17), (0x18, 4), (0x20, 8), (0x30, 48), (0xFC, 4)])

/-- The first failure of R352; 0: none. -/
def SlipTop.mismatch (x : SlipTop) (link : Bool) (mods : Nat) (b : List Byte) : Nat :=
  if link = false then 1
  else if descBad b then 2
  else if bitOf (leAt b 6 1) (x.role - 1) = false then 3
  else if leAt b 8 4 ≠ x.vendor ∨ leAt b 0xC 4 ≠ x.product ∨ leAt b 0x10 2 < x.minRev then 4
  else if x.dflag = 1 ∧ slice b 0x30 48 ≠ x.idDigest then 5
  else if mods ≠ 15 ∧ !(decide (x.minMod = 1) && (decide (mods = 3) || decide (mods = 12))) then 6
  else 0

/-- The descriptor shown (R372). -/
def State.showDesc (s : State) (v : Nat) (b : List Byte) : State :=
  (List.range 32).foldl (fun s i => s.rput (R.slipDesc v i) (leAt b (8 * i) 8)) s

/-- The settings a slip has trained to, by its chiplet's VENDOR, PRODUCT and REVISION (R480). -/
def State.trainSlip (s : State) (v : Nat) (b : List Byte) : State :=
  let k := trainKey 1 (leAt b 8 10)
  let x := s.settingsOf k (32 + v)
  ((s.setSl v { s.sl v with settings := x }).saveTrain k x).tick

/-- What discovery found of a slip that trains: passed or not. -/
def State.slipFound (s : State) (v rate mods : Nat) (link : Bool) (b : List Byte) : State × Bool :=
  let mm := match s.slipTop v with
    | some x => x.mismatch (link && (decide (x.minRate ≤ rate) && decide (rate ≤ x.maxRate) && (descBad b || bitOf (leAt b 7 1) rate))) mods b
    | none => 1
  let s1 := (if link then (((s.showDesc v b).slipRate v rate mods).domTo (4 + v) 1).trainSlip v b else s).rset (R.slipStatus v) F.slipStatus_MISMATCH mm
  (s1, decide (mm = 0))

/-- SLIP_DISCOVERY_DONE: training and discovery of a slip end, at some rate and width or without a link. In bring-up the slip is
UP or DOWN at once; after it a pass becomes UP at the next I2 (R369). -/
def execSlipDiscoveryDone (slip rate mods : Nat) (link : Bool) (desc : List Byte) (s : State) : Host.Outcome State Fault Refusal :=
  if 8 ≤ slip ∨ s.slState slip ≠ 1 then .next s
  else
    let f := s.slipFound slip rate mods link desc
    if f.2 then
      if s.rf R.brgStatus F.brgStatus_STATE = 1 then .next (f.1.setSl slip { f.1.sl slip with upDue := true })
      else .next (((f.1.slipTo slip 2).domTo (4 + slip) 2).ospStart slip)
    else
      let s1 := (f.1.captureAt (R.slipErr slip) capStd 7).slipTo slip 4
      .next { s1 with pins := { s1.pins with slipRst := s1.pins.slipRst ||| 2 ^ slip } }

/-- I2: slips that passed discovery are UP with no lines cached, nodes of slips that went down are absent (R368, R369). -/
def State.slipI2 (s : State) (v : Nat) : State :=
  let x := s.sl v
  let s1 := s.setSl v { x with goneDue := false, gone := (x.gone || x.goneDue) && !x.upDue, upDue := false }
  if x.upDue then (((s1.slipTo v 2).domTo (4 + v) 2).ospStart v).rset R.cohStatus ⟨F.cohStatus_SLIP_FAILED.lo + v, 1⟩ 0 else s1

/-- SLIP_CTL.CLR. -/
def State.slipClr (s : State) (slip : Nat) : State :=
  (if slip < 8 then s.rput (R.slipCnt slip) 0 else s)

def execSlipClr (slip : Nat) (s : State) : Host.Outcome State Fault Refusal := .next (s.slipClr slip)

end Sys2Proof.Machine
end

