-- ==== Sys2Proof/Machine/Commit.lean ====
section
/-! DEFINITION. COMMIT (R29 to R31, R48 to R50, R444, R445, R522, R605, R606): the outcomes of the sailing that closed,
completion records, vectors, and what spills. -/

namespace Sys2Proof.Machine

/-! ### The order of a sailing's steps (R27, R29, R32) -/

/-- The time base moves on to an offset of the sailing. -/
def TimeSt.toStage (t : TimeSt) (st : Stage) (off : Nat) : TimeSt :=
  { t with total := t.total + (off - t.tclk), tclk := max t.tclk off, stage := st }

/-- A step of the sailing entered: SAIL_STATUS.PHASE, and the TCLK count at its offset. -/
def State.enter (s : State) (st : Stage) (off phase : Nat) : State :=
  ({ s with time := s.time.toStage st off } : State).rset R.sailStatus F.sailStatus_PHASE phase

/-- A step is taken when the one before it has been. -/
def State.after (s : State) (before : Stage) (f : State → State) : Host.Outcome State Fault Refusal :=
  .next (if s.time.stage = before ∧ s.rf R.sailStatus F.sailStatus_TB_RUN = 1 then f s else s)

/-! ### The outcome of a step (R605, R606) -/

/-- The legs a voyage ran in the sailing that closed. -/
def State.legsOf (s : State) (c : Ctx) : List LegEnd := s.endedPrev.filter (fun e => e.voyage = some (c.ring, c.didx))

/-- Of several legs the one with the lowest logical TE, then the lowest index. -/
def firstLeg : List LegEnd → Option LegEnd
  | [] => none
  | e :: es =>
    match firstLeg es with
    | some x => if e.te * 16 + e.idx ≤ x.te * 16 + x.idx then some e else some x
    | none => some e

/-- The DETAIL of a fault (R444, R606). -/
def faultDetail (ls : List LegEnd) : Nat := 0x30 + ((firstLeg (ls.filter (fun e => e.outcome = 2))).map (·.cause)).getD 0

/-- A context that completes at the COMMIT of this sailing. -/
def Ctx.ends (c : Ctx) (sail status detail : Nat) : Ctx := { c with done := some (status, detail), doneSail := sail - 1 }

/-- A voyage after a sailing in which these legs of it ran; its partition was not repeated. last: the last step of its
class. -/
def Ctx.stepped (c : Ctx) (ls : List LegEnd) (void last : Option Nat) (sail : Nat) : Ctx :=
  let c1 : Ctx := { c with nflags := ls.foldl (fun n e => n ||| e.nflags) c.nflags }
  if ls.any (fun e => e.outcome = 1) then c1.ends sail stOverrun 0
  else if ls.any (fun e => decide (e.outcome = 2) && e.pinned) then c1.ends sail stFault (faultDetail ls)
  else if ls.any (fun e => e.outcome = 2) then { c1 with suspended := true }
  else match void with
    | some v => c1.ends sail stVoided v
    | none =>
      if ls.any (fun e => e.outcome = 3) then c1.ends sail stRejected 0x27
      else
        let c2 : Ctx := { c1 with step := c1.step + 1, steps := c1.steps + 1, suspended := false }
        if last = some c1.step then c2.ends sail stOk 0 else c2

/-- Every voyage that ran a leg takes its step's outcome; those of a repeated partition keep their step (R54). -/
def State.stepCtx (s : State) (c : Ctx) : Ctx :=
  let ls := s.legsOf c
  if ls.isEmpty || decide (c.op ≠ 1) then c
  else
    let c1 : Ctx := { c with tes := ls.foldl (fun l e => nins l e.te) c.tes }
    if c1.done.isSome ∨ (s.part (s.ringPart c.ring)).repeatPrev = true then c1
    else c1.stepped ls (s.part (s.ringPart c.ring)).voidPrev
      ((s.varFor (s.ringPart c.ring)).bind (fun v => v.lastStep c.vclass)) s.sail

/-! ### Voided completions (R522) -/

/-- A status under a void: LEG_OVERRUN and FAULT stay, of several causes the lowest. -/
def voidStatus (v : Nat) : Nat × Nat → Nat × Nat
  | (st, d) => if st = stOverrun ∨ st = stFault then (st, d) else if st = stVoided then (st, min d v) else (stVoided, v)

/-- A transfer that moved a chunk in the sailing that closed. -/
def Ctx.movedIn (c : Ctx) (sail : Nat) : Bool := (decide (c.op = 2) || decide (c.op = 3)) && decide (c.lastMove = sail) && !c.lastDst.isEmpty

/-- A context of a partition whose sailing was voided with v. -/
def Ctx.underVoid (c : Ctx) (v sail : Nat) : Ctx :=
  match c.done with
  | some d => if c.doneSail < sail then { c with done := some (voidStatus v d) } else c
  | none => if c.movedIn (sail - 1) then c.ends sail stVoided v else c

/-- The void in force on a ring's completions. -/
def State.ringVoid (s : State) (g : Nat) : Option Nat := (s.part (s.ringPart g)).voidPrev

/-- Contexts after the voids; what a voided transfer moved is marked, and a voided load binds nothing. -/
def State.voidCtxs (s : State) : State :=
  let moved := s.rings.ctxs.filter (fun c => (s.ringVoid c.ring).isSome && c.movedIn (s.sail - 1))
  let s1 := moved.foldl (fun s c => c.lastDst.foldl (fun s d => s.markRange (ringTen c.ring) d.1 d.2) s) s
  let s2 := s1.setRings { s1.rings with ctxs := s1.rings.ctxs.map (fun c => match s1.ringVoid c.ring with
    | some v => c.underVoid v s1.sail
    | none => c) }
  { s2 with loads := s2.loads.filter (fun l => l.issued || (s2.ringVoid l.ring).isNone) }

/-- C0: every leg of a voided sailing is voided: the output regions of those that ended or halted are marked too (R45,
R134). -/
def State.voidLegs (s : State) : State :=
  s.endedPrev.foldl (fun s e =>
    if (s.part e.part).voidPrev.isSome ∧ (e.outcome = 0 ∨ e.outcome = 2) then s.markOuts e.entry.tenant e.outs else s) s

/-! ### Completion records -/

/-- A completed context whose record is issued at this C1. -/
def State.recordDue (s : State) (c : Ctx) : Bool :=
  c.done.isSome && decide (c.doneSail < s.sail) && !(s.torn (ringTen c.ring)) && !((s.part (s.ringPart c.ring)).repeatPrev)

/-- Contexts whose records are issued, ascending rings, descriptor order within each. -/
def State.dueCtxs (s : State) : List Ctx :=
  let due := s.rings.ctxs.filter s.recordDue
  ((due.map (·.ring)).foldl insSorted []).flatMap (fun g => due.filter (fun c => c.ring = g))

/-- The record of a completed context. -/
def Ctx.cmpRec (c : Ctx) : CmpRec :=
  match c.done with
  | some (st, d) => c.record st d
  | none => c.record 0 0

/-- Records issued in order, how many of them left, and those that wait: the first that cannot go and all behind it. -/
def State.issueRecs (s : State) (l : List CmpRec) : State × Nat × List CmpRec :=
  l.foldl (fun a r =>
    if a.2.2.isEmpty then
      let x := a.1.issueRec r
      match x.2 with
      | .left => (x.1, a.2.1 + 1, [])
      | .gone => (x.1, a.2.1, [])
      | .waits => (x.1, a.2.1, [r])
    else (a.1, a.2.1, a.2.2 ++ [r])) (s, 0, [])

/-- The load whose image a completed context carries. -/
def Ctx.loads (c : Ctx) (l : ProgLoad) : Bool := decide (c.ring = l.ring) && decide (c.didx = l.didx) && decide (c.done = some (stOk, 0))

/-- Loads in the order of the completions of this COMMIT: those of these contexts marked as issued, last and in their order
(R142, R445). -/
def markLoads (cs : List Ctx) (ls : List ProgLoad) : List ProgLoad :=
  ls.filter (fun l => !(cs.any (fun c => c.loads l))) ++
    cs.flatMap (fun c => (ls.filter c.loads).map (fun l => { l with issued := true }))

/-- Records and their contexts at C1: the first fit of them are issued, the rest spill, and all of them behind one that waits. A load whose completion is due at
this C1 is bound at the I0 that follows. -/
def State.commitRecs (s : State) (fit : Nat) : State :=
  let cs := s.dueCtxs
  let x := if s.rings.spill.isEmpty then s.issueRecs ((cs.take fit).map Ctx.cmpRec) else (s, 0, (cs.take fit).map Ctx.cmpRec)
  let s2 := x.1.setRings { x.1.rings with spill := x.1.rings.spill ++ x.2.2 ++ (cs.drop fit).map Ctx.cmpRec }
  let s3 := cs.foldl (fun s c => s.releaseCtx c) s2
  { s3 with loads := markLoads cs s3.loads }

/-! ### The twin pair's side of COMMIT (R535, R538, R540) -/

/-- The digest of a partition's outputs of the sailing that closed (R538). -/
def State.outDigest (s : State) (p : Nat) : Nat :=
  let recs := ((s.dueCtxs.filter (fun c => s.ringPart c.ring = p)).map (fun c =>
    recBytes c.cmpRec (s.rf (rPtr (s.cmpOf c.ring)) F.ringPtr_TAIL) (s.ringLen (s.cmpOf c.ring)) (s.recSail (ringTen c.ring)))).flatten
  let dig (b : List Byte) : List Byte := digestBytes (Config.sha384 b)
  let tes := (s.tesOf p).flatMap (fun k => dig (mgetD s.twin.stores k []))
  let copies := (s.twin.stores.filter (fun x => decide (x.1 / 65536 = p + 1))).flatMap (fun x => dig x.2)
  digestNum (Config.sha384 (recs ++ tes ++ copies))

/-- Paired partitions: digests of the sailing that closed, those of the primary ferried with ISSUED. -/
def State.twinCommit (s : State) : State :=
  let ps := ((s.partRecs.map (·.part)).filter (fun p => decide (s.twinPart p = 2) && !((s.part p).repeatPrev)))
  let s1 := ps.foldl (fun s p =>
    let k := s.sailNo p - b2n (!(s.shadowed p))
    let d := s.outDigest p
    ({ s with twin := { s.twin with mine := s.twin.mine ++ [(p, k, d)] } } : State).ferry 8 p k (leBytes 48 d)) s
  let s2 := ps.foldl (fun s p => s.ferry 9 p (s.sailNo p - 1) []) s1
  { s2 with twin := { s2.twin with stores := [] } }

/-- The first COMMIT after a takeover issues again what was retained and not known to be issued (R540). -/
def State.reissue (s : State) : State :=
  if s.twin.takeover then
    { s with out := s.out ++ s.twin.retained.map (·.2), twin := { s.twin with retained := [], takeover := false } }
  else s

/-! ### Vectors (R31, R412, R413) -/

/-- A vector's table entry and pending bit. -/
def vecAddr (fn v : Nat) : Nat := if fn = 0 then R.msixAddr v else R.vfMsixAddr (fn - 1) v
def vecCtl (fn v : Nat) : Nat := if fn = 0 then R.msixCtl v else R.vfMsixCtl (fn - 1) v
def vecPba (fn v : Nat) : Nat := if fn = 0 then R.msixPba (v / 64) else R.vfMsixPba (fn - 1)

/-- A function's MSI-X Message Control, in the upper half of its capability's first double word (R397, R398). -/
def State.msixCtrl (s : State) (fn : Nat) : Nat := if fn = 0 then s.cfgRaw 0 0xB0 0x07FF0011 else s.cfgRaw fn 0xA0 0x000F0011

/-- MSI-X and bus mastering are enabled. -/
def State.msixOn (s : State) (fn : Nat) : Bool := bitOf (s.msixCtrl fn) 31 && s.busMaster fn

/-- The vector is masked, by itself or by Function Mask. -/
def State.vecMasked (s : State) (fn v : Nat) : Bool := bitOf (s.msixCtrl fn) 30 || decide (s.rf (vecCtl fn v) ⟨32, 1⟩ = 1)

/-- A vector's pending bit put. -/
def State.setPend (s : State) (fn v x : Nat) : State := s.rset (vecPba fn v) ⟨v % 64, 1⟩ x

/-- The message of a vector as its table entry stands. -/
def State.vecMsg (s : State) (fn v : Nat) : Out :=
  ⟨.msix, [fn, v, (s.rv (vecAddr fn v)).toNat, s.rf (vecCtl fn v) ⟨0, 32⟩], []⟩

/-- A vector due at C2: dropped while the function has MSI-X off, pending while masked, else its message is due (R31). -/
def State.judge (s : State) (fn v : Nat) : State × List Out :=
  if s.tornFn fn then (s, [])
  else if !(s.msixOn fn) then (s.radd R.pciCnt2 F.pciCnt2_DROPPED 1, [])
  else if s.vecMasked fn v then (s.setPend fn v 1, [])
  else (s.setPend fn v 0, [s.vecMsg fn v])

/-- Every vector due judged in order, and the messages due. -/
def State.judgeAll (s : State) (l : List (Nat × Nat)) : State × List Out :=
  l.foldl (fun a x =>
    let y := a.1.judge x.1 x.2
    (y.1, a.2 ++ y.2)) (s, [])

/-- Vectors pending whose mask is gone. -/
def State.unmasked (s : State) : List (Nat × Nat) :=
  (s.regs.flatMap (fun p =>
    if 0xA18000 ≤ p.1 ∧ p.1 < 0xA18100 then
      ((List.range 64).filter (bitOf p.2.toNat)).map (fun i => (0, (p.1 - 0xA18000) * 8 + i))
    else if 0x4000000 ≤ p.1 ∧ (p.1 - 0x4000000) % 0x10000 = 0x3000 then
      ((List.range 16).filter (bitOf p.2.toNat)).map (fun i => ((p.1 - 0x4000000) / 0x10000 + 1, i))
    else [])).filter (fun x => s.msixOn x.1 && !(s.vecMasked x.1 x.2))

/-- The order of C2: ascending function, then ascending vector. -/
def vecOrder (l : List (Nat × Nat)) : List (Nat × Nat) :=
  ((l.map (fun x => x.1 * 2048 + x.2)).foldl insSorted []).map (fun n => (n / 2048, n % 2048))

/-! ### C1 -/

/-- A message put into its place among those of an earlier COMMIT: ascending function, then vector; one of its vector that waits
already stands for both. -/
def insMsg (o : Out) : List Out → List Out
  | [] => [o]
  | x :: xs =>
    let key (o : Out) : Nat := o.args.headD 0 * 2048 + o.args.getD 1 0
    if key o < key x then o :: x :: xs else if key o = key x then x :: xs else x :: insMsg o xs

/-- The vectors that records of an earlier COMMIT call for, judged as they are issued: their messages are late with them (R29, R30,
R31). -/
def State.lateVecs (s : State) (l : List (Nat × Nat)) : State :=
  let x := s.judgeAll (vecOrder l)
  x.1.setRings { x.1.rings with vecSpill := x.2.foldl (fun m o => insMsg o m) x.1.rings.vecSpill }

/-- The first n records of an earlier COMMIT still to be issued go, each that leaves counted late (R30, R63, R65); the messages they
call for are late too. -/
def State.issueSpill (s : State) (n : Nat) : State :=
  let now := s.rings.spill.take n
  let x := (s.setRings { s.rings with spill := s.rings.spill.drop n, vecDue := [] }).issueRecs now
  let s1 := (x.1.setRings { x.1.rings with spill := x.2.2 ++ x.1.rings.spill, vecDue := s.rings.vecDue }).lateVecs x.1.rings.vecDue
  (s1.radd R.sailSpillCnt F.sailSpillCnt_CMP x.2.1).rsetIf (decide (x.2.1 ≠ 0)) R.sailEvent F.sailEvent_SPILL 1

/-! ### Messages (R31, R412, R413) -/

/-- A message of MSI-X leaves, and whether it did: none of a function that is being torn down; a shadow retains it (R536); one
that the function may not issue is dropped and counted. -/
def State.fire (s : State) (o : Out) : State × Bool :=
  let fn := o.args.headD 0
  if s.tornFn fn then (s, false)
  else if s.shadows fn then (s.retain o, false)
  else if !(s.canIssue fn) then (s.radd R.pciCnt2 F.pciCnt2_DROPPED 1, false)
  else (({ s with out := s.out ++ [o] } : State).wakeLink, true)

/-- Messages in order, and how many of them left. -/
def State.fireAll (s : State) (l : List Out) : State × Nat :=
  l.foldl (fun a o =>
    let x := a.1.fire o
    (x.1, a.2 + b2n x.2)) (s, 0)

/-- The first n messages of an earlier COMMIT still to be sent go, none before every record of it has been issued, each that leaves
counted late (R29, R30, R63, R65). -/
def State.fireSpill (s : State) (n : Nat) : State :=
  if !s.rings.spill.isEmpty then s else
  let now := s.rings.vecSpill.take n
  let x := (s.setRings { s.rings with vecSpill := s.rings.vecSpill.drop n }).fireAll now
  (x.1.radd R.sailSpillCnt F.sailSpillCnt_MSIX x.2).rsetIf (decide (x.2 ≠ 0)) R.sailEvent F.sailEvent_SPILL 1

/-- COMMIT_C1: fit records find room on the link within COMMIT; what an earlier COMMIT left over goes before them (R30). -/
def State.commitC1 (s : State) (fit : Nat) : State :=
  let s0 := s.enter .c1 4 0
  let s1 := s0.setRings { s0.rings with ctxs := s0.rings.ctxs.map s0.stepCtx }
  let s2 := s1.voidCtxs.fqVisible.logVisible
  if s2.muted then s2
  else
    let s3 := s2.reissue.twinCommit
    let s4 := s3.issueSpill s3.rings.spill.length
    (s4.fireSpill s4.rings.vecSpill.length).commitRecs fit

def execCommitC1 (fit : Nat) (s : State) : Host.Outcome State Fault Refusal := s.after .boundary (fun s => s.commitC1 fit)

/-! ### C2 -/

/-- COMMIT_C2: every vector due is judged; fit messages find room, none before every record has been issued, and the rest leave
after COMMIT (R30). After FATAL only the ERR vector leaves (R517). -/
def State.commitC2 (s : State) (fit : Nat) : State :=
  let s0 := s.enter .c2 4 0
  let errv := if s0.err.vecDue then [(0, s0.rf R.errCtl F.errCtl_VEC)] else []
  let s1 := s0.setErr { s0.err with vecDue := false }
  if s1.muted then
    let x := s1.judgeAll errv
    (x.1.fireAll x.2).1
  else
    let x := s1.judgeAll (vecOrder (s1.rings.vecDue ++ errv ++ s1.unmasked))
    let n := if x.1.rings.spill.isEmpty then fit else 0
    ((x.1.setRings { x.1.rings with vecDue := [], vecSpill := x.1.rings.vecSpill ++ x.2.drop n }).fireAll (x.2.take n)).1

def execCommitC2 (fit : Nat) (s : State) : Host.Outcome State Fault Refusal := s.after .c1 (fun s => s.commitC2 fit)

/-- COMMIT_SPILL: after COMMIT, the next n records and then messages that did not fit leave, each counted (R30). In QUIET the ring DMA
engines issue no request, so that no record goes (R37). -/
def State.commitSpill (s : State) (n : Nat) : State :=
  if s.time.stage = .quiet ∧ s.rings.spill ≠ [] then s else (s.issueSpill n).fireSpill (n - s.rings.spill.length)

def execCommitSpill (n : Nat) (s : State) : Host.Outcome State Fault Refusal :=
  match s.time.stage with
  | .boundary => .next s
  | .c1 => .next s
  | _ => .next (if s.muted then s else s.commitSpill n)

end Sys2Proof.Machine
end

