-- ==== Sys2Proof/Machine/Cvt.lean ====
section
/-! DEFINITION. CVT (R125, R126, R158 to R168). -/

namespace Sys2Proof.Machine

/-- The stepped source and destination of a CVT (R125). -/
def cvtAt (c : CvtI) (loops : List LoopX) : Nat × Nat :=
  let i := ctrOf loops c.lvl
  ((c.src + i * c.sstep) * 64, (c.dst + i * c.dstep) * 64)

/-- Bytes n elements of a format take. -/
def elemBytes (f : CFmt) (n : Nat) : Nat := ceilDiv (n * f.bits) 8

/-- Element i of packed elements, as a code (R126, R147). -/
def State.elem (s : State) (k a : Nat) (f : CFmt) (i : Nat) : Nat :=
  match f with
  | .int4 => bitsOf (s.holdByte k (a + i / 2)).toNat (4 * (i % 2)) 4
  | _ => s.holdNat k (a + i * (f.bits / 8)) (f.bits / 8)

/-- The n elements of a source, as exact values. -/
def State.elems (s : State) (k a : Nat) (f : CFmt) (n : Nat) : List FVal :=
  (List.range n).map (fun i => f.value (s.elem k a f i))

/-- INT4 codes two to a byte; an odd last one keeps the other half of its byte (R126). -/
def packNibbles (old : Nat) : List Nat → List Byte
  | [] => []
  | [x] => [BitVec.ofNat 8 (old / 16 * 16 + x % 16)]
  | x :: y :: r => BitVec.ofNat 8 (y % 16 * 16 + x % 16) :: packNibbles old r

/-- Converted codes laid out in the hold (R126). -/
def State.putElems (s : State) (k a : Nat) (f : CFmt) (cs : List Nat) : State :=
  match f with
  | .int4 => s.holdWrite k a (packNibbles (s.holdByte k (a + cs.length / 2)).toNat cs)
  | _ => s.holdWrite k a (cs.flatMap (leBytes (f.bits / 8)))

/-- What a list of conversions counts, each element once (R163). -/
def convEvts (l : List Conv) : Evts :=
  { Evts.none with
    sat := (l.filter (·.sat)).length
    nan := (l.filter (·.nan)).length }

/-- The FP32 value of a scale (R126). -/
def State.scaleAt (s : State) (k a : Nat) : FVal := fv (s.holdNat k a 4)

/-- The form of a CVT word a command stands for. -/
def isCvt (op w : Nat) : Bool := decide (insOp w = op)

/-- The hold operands of a CVT: source, destination, scales. -/
def cvtHold (r : LegRun) (w : Nat) : List (Nat × Nat) :=
  let c := cvtI w
  let a := cvtAt c r.loops
  match CFmt.ofCode c.sfmt, CFmt.ofCode c.dfmt with
  | some f, some d =>
    [(a.1, elemBytes f c.n), (a.2, elemBytes d c.n)] ++ (if c.op = 0 then [] else [(c.scl * 64, if c.op = 1 then 128 else 64)])
  | _, _ => []

/-- The scale QSCALE computed, stored (R126). -/
def State.putScale (s : State) (k a : Nat) (q : Option Nat) : State :=
  match q with
  | some x => s.holdWrite k a (leBytes 4 x)
  | none => s

/-- A conversion's elements, scale and events (R164). DESIGN CHOICE: the spec is silent on a CVT whose source or scale overlaps its
destination; every element and the scale are read before a byte is written (log 170). -/
def State.cvtDo (s : State) (k : Nat) (rule : State → CvtI → CFmt → CFmt → List FVal → List Conv × Evts × Option Nat)
    (r : LegRun) (w : Nat) : State × LegRun :=
  let c := cvtI w
  let a := cvtAt c r.loops
  match CFmt.ofCode c.sfmt, CFmt.ofCode c.dfmt with
  | some f, some d =>
    let x := rule s c f d (s.elems k a.1 f c.n)
    ((((s.putElems k a.2 d (x.1.map (·.code))).putScale k (c.scl * 64) x.2.2)).countEvts k x.2.1,
      { r with nflags := r.nflags ||| x.2.1.bits })
  | _, _ => (s, r)

/-- A CVT that converts each element by a rule, where its formats are known. -/
def State.cvt (s : State) (k op : Nat)
    (rule : State → CvtI → CFmt → CFmt → List FVal → List Conv × Evts × Option Nat) : State :=
  s.issue k 4 (isCvt op) cvtHold (fun s r w => s.cvtDo k rule r w)

/-- CAST (R164). -/
def castRule (_ : State) (_ : CvtI) (_ d : CFmt) (l : List FVal) : List Conv × Evts × Option Nat :=
  let x := l.map (conv d)
  (x, convEvts x, none)

/-- SCALE: s = sw × sa rounded, a value beyond range saturated; v rounded; v × s rounded once to the destination. A
saturated s counts each element once (R163, R165). -/
def scaleRule (k : Nat) (s : State) (c : CvtI) (_ d : CFmt) (l : List FVal) : List Conv × Evts × Option Nat :=
  let p := convFp fp32 (fMul (s.scaleAt k (c.scl * 64)) (s.scaleAt k (c.scl * 64 + 64)))
  let x := l.map (fun v =>
    let r := conv d (fMul (fv (roundFp fp32 v)) (fv p.code))
    { r with sat := r.sat || p.sat })
  (x, convEvts x, none)

/-- QUANT: the exact quotient by the scale, rounded once (R166). -/
def quantRule (k : Nat) (s : State) (c : CvtI) (_ d : CFmt) (l : List FVal) : List Conv × Evts × Option Nat :=
  let x := l.map (fun v => conv d (fDiv v (s.scaleAt k (c.scl * 64))))
  (x, convEvts x, none)

/-- The larger of two finite magnitudes as fractions; others leave the first. -/
def maxMag (m : Nat × Nat) : FVal → Nat × Nat
  | .fin _ n d => if m.1 * d < n * m.2 then (n, d) else m
  | _ => m

/-- The scale QSCALE computes, and whether the tensor was all zero (R167, R168). -/
def qscaleOf (l : List FVal) : Nat × Bool :=
  let m := l.foldl maxMag (0, 1)
  if m.1 = 0 then (roundMag fp32 1 1, true) else (max 1 (roundMag fp32 m.1 (m.2 * 127)), false)

/-- A finite non-zero element that converts to 0 (R168). -/
def underflows (v : FVal) (q : Conv) : Bool :=
  match v with
  | .fin _ n _ => decide (n ≠ 0) && decide (q.code = 0)
  | _ => false

/-- QSCALE, its scale that of all elements and the first n of them converted (R167, R168). -/
def qscalePart (n : Nat) (d : CFmt) (l : List FVal) : List Conv × Evts × Option Nat :=
  let q := qscaleOf l
  let x := (l.take n).map (fun v => conv d (fDiv v (fv q.1)))
  let u := ((l.zip x).filter (fun p => underflows p.1 p.2)).length
  (x, { convEvts x with zero := b2n q.2, under := u }, some q.1)

/-- QSCALE (R167, R168). -/
def qscaleRule (_ : State) (_ : CvtI) (_ d : CFmt) (l : List FVal) : List Conv × Evts × Option Nat := qscalePart l.length d l

def execCvtCast (te : Nat) (s : State) : Host.Outcome State Fault Refusal := .next (s.cvt te 0 castRule)

def execCvtScale (te : Nat) (s : State) : Host.Outcome State Fault Refusal := .next (s.cvt te 1 (scaleRule te))

def execCvtQuant (te : Nat) (s : State) : Host.Outcome State Fault Refusal := .next (s.cvt te 2 (quantRule te))

def execCvtQscale (te : Nat) (s : State) : Host.Outcome State Fault Refusal := .next (s.cvt te 3 qscaleRule)

/-! ### A leg cut off (R44, R169) -/

/-- The rule of a CVT form, for the first n elements alone. -/
def cvtPart (k op n : Nat) (s : State) (c : CvtI) (f d : CFmt) (l : List FVal) : List Conv × Evts × Option Nat :=
  if op = 0 then castRule s c f d (l.take n)
  else if op = 1 then scaleRule k s c f d (l.take n)
  else if op = 2 then quantRule k s c f d (l.take n)
  else qscalePart n d l

/-- A leg is cut off at its instruction: a conversion under way has produced some of its elements, each counted as it was produced;
how many is a free value (R169). -/
def State.cutIns (s : State) (k : Nat) : State :=
  match s.atIns k with
  | some (r, w) =>
    let n := Config.freeValue s.fresh 9 % ((cvtI w).n + 1)
    if insClass w = 4 ∧ insOp w < 4 ∧ predicated r.preds w = true ∧ (s.tez k).blocked r (cvtHold r w) = false ∧ n ≠ 0 then
      let x := s.cvtDo k (cvtPart k (insOp w) n) r w
      (x.1.setLeg k x.2).tick
    else s.tick
  | none => s

/-- A leg cut off by QUIET or by the next leg's offset (R44): it has had its bound, and lost an unknown part of it to bank
conflicts. -/
def State.cutLeg (s : State) (k : Nat) : State :=
  let s1 := s.cutIns k
  match (s1.tez k).run with
  | some r => if r.halted.isSome then s1.overrun k else (s1.overrun k).cutCycles k r r.entry.bound
  | none => s1

/-- The watchdog (R44): the leg has run its bound without END, lost cycles of it to bank conflicts. -/
def execLegWatchdog (te lost : Nat) (s : State) : Host.Outcome State Fault Refusal :=
  match (s.tez te).run with
  | some r =>
    if r.halted.isSome then .next s
    else .next ((((((s.cutIns te).overrun te).busyCycles te r.entry.bound).holdStall te lost).wsStall te
      (r.arrayWait r.entry.bound)).teState te 1)
  | none => .next s

end Sys2Proof.Machine
end

