-- ==== Sys2Proof/Machine/Mma.lean ====
section
/-! DEFINITION. The MAC array and the weight stream (R70 to R79, R120 to R122, R145, R146, R155 to R157). -/

namespace Sys2Proof.Machine

/-- The mode and formats of the MMA in a word. -/
structure MmaMode where
  wf : WFmt
  af : AFmt
  md : Mode
  deriving DecidableEq, Repr

def mmaMode (m : MmaI) : Option MmaMode :=
  match WFmt.ofCode m.wfmt, AFmt.ofCode m.afmt with
  | some wf, some af => (modeOf wf af).map (fun x => ⟨wf, af, x.2⟩)
  | _, _ => none

/-! ### Accumulators (R73) -/

/-- An accumulator of a physical TE: column c of set p. -/
def PhysSt.accAt (x : PhysSt) (i : Nat) : Lane :=
  match mget x.acc i with
  | some v => v
  | none => if x.epoch = 0 then 0 else Config.lostWord x.epoch i

/-- The key of accumulator column c of set p. -/
def accKey (p c : Nat) : Nat := p * 512 + c

/-- The activation element r of position p for block i (R121): its signed value. -/
def State.actAt (s : State) (k : Nat) (af : AFmt) (act apitch p i kk r : Nat) : Int :=
  let base := act + p * apitch + i * kk * af.bits / 8
  match af with
  | .a4 => signed 4 (bitsOf (s.holdByte k (base + r / 2)).toNat (4 * (r % 2)) 4)
  | .a8 => signed 8 (s.holdByte k (base + r)).toNat
  | .a16 => signed 16 (s.holdNat k (base + 2 * r) 2)

/-- The column sum of one block at one position: K products, exact (R155). -/
def colSum (wf : WFmt) (md : Mode) (blk : Nat) (acts : List Int) (c : Nat) : Int :=
  (acts.zipIdx).foldl (fun z p => z + p.1 * wf.value (bitsOf blk (wf.bits * (p.2 * md.n + c)) wf.bits)) 0

/-- One position of one block added into its set (R156): the file, and whether a sum was clamped. -/
def accBlock (x : PhysSt) (wf : WFmt) (md : Mode) (blk p : Nat) (acts : List Int) : PhysSt × Nat :=
  (List.range md.n).foldl (fun (y : PhysSt × Nat) c =>
    let r := accAdd ((y.1.accAt (accKey p c)).toInt) (colSum wf md blk acts c)
    ({ y.1 with acc := mput y.1.acc (accKey p c) (BitVec.ofInt 32 r.1) }, y.2 + b2n r.2)) (x, 0)

/-- Reserved W2T codes in a block (R146). -/
def rsvCodes (wf : WFmt) (md : Mode) (blk : Nat) : Nat :=
  match wf with
  | .w2t => ((List.range (md.k * md.n)).filter (fun i => bitsOf blk (2 * i) 2 = 2)).length
  | _ => 0

/-- A block applied to every position (R72). -/
def State.applyBlock (s : State) (k : Nat) (m : MmaX) (mm : MmaMode) (blk : Nat) : PhysSt × Nat :=
  (List.range m.p).foldl (fun (y : PhysSt × Nat) p =>
    let acts := (List.range mm.md.k).map (fun r => s.actAt k mm.af m.act m.apitch p m.next mm.md.k r)
    let z := accBlock y.1 mm.wf mm.md blk p acts
    (z.1, y.2 + z.2)) (s.ph (s.physOf k), 0)

/-- The formats of a running MMA. -/
def MmaX.mode (m : MmaX) : Option MmaMode := mmaMode ⟨m.op, m.wf, m.af, 0, 0, 0, m.p, 0, 0, 0, 0, 0, 0⟩

/-- The running MMA takes the block at the head of the WSB, if it is the next one it needs: the array's time follows
R74, a wait for the block counts in WS, reserved codes and clamps are counted. -/
def State.takeBlock (s : State) (k : Nat) : State :=
  let t := s.tez k
  match t.run with
  | some r =>
    match r.mma with
    | some m =>
      match m.blocks, t.wsb, m.mode with
      | b :: bs, w :: ws, some mm =>
        if b = (w.va, w.data.length) then
          let blk := leNat w.data
          let x := s.applyBlock k m mm blk
          let s1 := s.setPh (s.physOf k) x.1
          let m' : MmaX := { m with blocks := bs, next := m.next + 1, f := max w.at_ m.f + m.p }
          let s2 := s1.setTe k { t with wsb := ws, run := some { r with mma := some m' } }
          let s3 := (s2.raddOpen (R.tePerfStall k) F.tePerfStall_WS (w.at_ - m.f))
          let s4 := if s3.conf then s3 else s3.rinc (R.tePerfWs k) F.tePerfWs_BLOCKS 1
          s4.legEvts k { Evts.none with accSat := x.2, rsv := rsvCodes mm.wf mm.md blk }
        else s
      | _, _, _ => s
    | none => s
  | none => s

/-- Every block that is present and needed is taken. -/
def State.feed (s : State) (k : Nat) : Nat → State
  | 0 => s
  | n + 1 => (s.takeBlock k).feed k n

/-- The blocks an MMA names (R121): address and bytes. -/
def mmaBlocks (base woff size n : Nat) : List (Nat × Nat) := (List.range n).map (fun i => (base + woff * 512 + i * size, size))

/-- The part of translated pieces from offset o on, n bytes long. -/
def cutPieces : List (Nat × Nat) → Nat → Nat → List (Nat × Nat)
  | [], _, _ => []
  | (a, m) :: ps, o, n =>
    if n = 0 then []
    else if m ≤ o then cutPieces ps (o - m) n
    else
      let k := min (m - o) n
      (a + o, k) :: cutPieces ps 0 (n - k)

/-- Blocks of one size from an address, each with its physical pieces of the whole range's. -/
def streamBlocks (va size n : Nat) (pas : List (Nat × Nat)) : List StrBlk :=
  (List.range n).map (fun i => ⟨va + i * size, size, cutPieces pas (i * size) size⟩)

/-- A block's place in a stream: address and bytes. -/
def StrBlk.key (b : StrBlk) : Nat × Nat := (b.va, b.size)
def WsbBlk.key (b : WsbBlk) : Nat × Nat := (b.va, b.data.length)

/-- The blocks at the head of the WSB and then of the stream. -/
def TeSt.coming (t : TeSt) : List (Nat × Nat) := t.wsb.map WsbBlk.key ++ t.stream.map StrBlk.key

/-- The array's hold operands: activations read, and the drain's destination. -/
def mmaHold (r : LegRun) (w : Nat) : List (Nat × Nat) :=
  let m := mmaI w
  match mmaMode m with
  | some mm =>
    let st := mmaStep m mm.md mm.af.bits (ctrOf r.loops m.lvl)
    (if m.op ≤ 1 then [(st.2.1, actSpan m mm.md mm.af.bits)] else []) ++
      (if m.op = 1 ∨ m.op = 2 then [(st.2.2, m.p * mm.md.n * 4)] else [])
  | none => []

/-- The MMA starts: its blocks are those at the head of the WSB and its stream, or a mismatch discards them and streams
its own (R79). -/
def State.mmaStart (s : State) (k cyc : Nat) (r : LegRun) (m : MmaI) (mm : MmaMode) (own : List StrBlk) : State :=
  let t := s.tez k
  let blocks := own.map StrBlk.key
  let st := mmaStep m mm.md mm.af.bits (ctrOf r.loops m.lvl)
  let x : MmaX := { op := m.op, wf := m.wfmt, af := m.afmt, p := m.p, blocks := blocks, next := 0, act := st.2.1,
                    apitch := m.apitch * 64, dst := st.2.2, alo := st.2.1,
                    ahi := if m.op ≤ 1 then st.2.1 + actSpan m mm.md mm.af.bits else st.2.1, dlo := st.2.2,
                    dhi := if m.op = 1 ∨ m.op = 2 then st.2.2 + m.p * mm.md.n * 4 else st.2.2, f := cyc }
  let good := blocks.isPrefixOf t.coming
  let t1 : TeSt := if good then t
    else { t with wsb := [], stream := own, ahead := [], slots := 0 }
  let s1 := s.setTe k { t1 with run := some ({ r with mma := some x } : LegRun).advance }
  let s2 := if good then s1 else s1.legEvts k { Evts.none with miss := 1 }
  s2.feed k blocks.length

/-- The bytes of a block of a WSTREAM entry. -/
def pfBlock (bsz : Nat) : Nat := if bsz = 0 then 2048 else if bsz = 1 then 1024 else 512

/-- WSTREAM entries in list order (R192): the blocks of those whose whole range translates into the tile's own vault, with the
translation checked (R228); one that does not is skipped and counted; from the first whose translation still waits, the
entries to come. DESIGN CHOICE (log 200): an entry whose SREG names no region of the leg's program is passed over and not counted. -/
def State.streamOf (s : State) (k : Nat) (r : LegRun) : List PfEntry → State × List StrBlk × List PfEntry
  | [] => (s, [], [])
  | f :: fs =>
    match r.prog.regions[f.sreg]? with
    | some g =>
      let base := r.regionBase g + f.soff
      let x := s.footprint (k / 4) (s.partQc r.part) r.entry.tenant (.mma (k / 4)) (piecesOf base f.len)
      if x.2.fails ≠ [] then (x.1.raddOpen (R.tilePfCnt (k / 4)) F.tilePfCnt_SKIP 1).streamOf k r fs
      else if x.2.wait then (x.1, [], f :: fs)
      else
        let t := x.1.streamOf k r fs
        (t.1, streamBlocks base (pfBlock f.bsz) (f.len / pfBlock f.bsz) x.2.pas ++ t.2.1, t.2.2)
    | none => s.streamOf k r fs

/-- The entries ahead of TE k's stream whose translation has come join it. -/
def State.streamOn (s : State) (k : Nat) (r : LegRun) : State :=
  if (s.tez k).ahead = [] then s
  else
    let x := s.streamOf k r (s.tez k).ahead
    x.1.setTe k { x.1.tez k with stream := (x.1.tez k).stream ++ x.2.1, ahead := x.2.2 }

/-- An MMA's blocks are not yet all known to be, or not to be, those of the stream: entries ahead are still untranslated. -/
def TeSt.undecided (t : TeSt) (blocks : List (Nat × Nat)) : Bool :=
  t.ahead ≠ [] && t.coming.isPrefixOf blocks && decide (t.coming.length < blocks.length)

/-- ACC or ACC_DRAIN issues (R121, R131): its weights translated and checked as resident in the tile's own vault. -/
def State.mmaIssue (s : State) (k cyc : Nat) (r : LegRun) (w : Nat) : State :=
  let m := mmaI w
  match mmaMode m, r.prog.regions[m.reg]? with
  | some mm, some g =>
    let t := r.entry.tenant
    let st := mmaStep m mm.md mm.af.bits (ctrOf r.loops m.lvl)
    let base := r.regionBase g
    let ps := piecesOf (base + st.1 * 512) (m.bcnt * mm.md.size)
    let f := s.footprint (k / 4) (s.partQc r.part) t (.mma (k / 4)) ps
    if f.2.wait then f.1
    else match f.2.fails with
      | _ :: _ => (f.1.pageFails t f.2.fails (some k) false).halt k r (s.worst t f.2.fails).1 (s.worst t f.2.fails).2
      | [] =>
        let bs := streamBlocks (base + st.1 * 512) mm.md.size m.bcnt f.2.pas
        let s0 := f.1.streamOn k r
        if (s0.tez k).undecided (bs.map StrBlk.key) then s0
        else
          let s1 := if ps.any (fun p => s.isMarked t p.1 p.2) then s0.voidPart r.part 0x43 0x0E 0 0 (some t) none else s0
          s1.mmaStart k cyc r m mm bs
  | _, _ => s

/-- The WSB without those of the blocks, in their order, that are at its head: a block that is not there is passed over. -/
def skipBlocks : List WsbBlk → List (Nat × Nat) → List WsbBlk
  | w :: ws, b :: bs => if w.key = b then skipBlocks ws bs else skipBlocks (w :: ws) bs
  | ws, _ => ws

/-- A predicated-off ACC or ACC_DRAIN removes its blocks that are at the head of the WSB (R122). -/
def State.mmaSkip (s : State) (k : Nat) (r : LegRun) (w : Nat) : State :=
  let m := mmaI w
  let t := s.tez k
  match mmaMode m, r.prog.regions[m.reg]? with
  | some mm, some g =>
    let st := mmaStep m mm.md mm.af.bits (ctrOf r.loops m.lvl)
    let bs := mmaBlocks (r.regionBase g) st.1 mm.md.size m.bcnt
    s.setTe k { t with run := some r.advance, wsb := skipBlocks t.wsb bs }
  | _, _ => s.setLeg k r.advance

/-- An MMA of an OP reaches issue on TE k: one that is predicated off, one that waits for an earlier MMA or a MOV (R135),
or one that starts. -/
def State.mma (s : State) (k cyc op : Nat) : State :=
  match s.atIns k with
  | some (r, w) =>
    if insClass w = 2 ∧ insOp w = op then
      if predicated r.preds w then
        if r.mma.isSome ∨ (s.tez k).blocked r (mmaHold r w) = true then s
        else if op ≤ 1 then s.mmaIssue k cyc r w
        else match mmaMode (mmaI w) with
          | some mm => s.mmaStart k cyc r (mmaI w) mm []
          | none => s
      else if op ≤ 1 then (if r.mma.isSome then s else s.mmaSkip k r w)
      else s.setLeg k r.advance
    else s
  | none => s

def execMmaAcc (te cyc : Nat) (s : State) : Host.Outcome State Fault Refusal := .next (s.mma te cyc 0)

def execMmaAccDrain (te cyc : Nat) (s : State) : Host.Outcome State Fault Refusal := .next (s.mma te cyc 1)

def execMmaDrain (te cyc : Nat) (s : State) : Host.Outcome State Fault Refusal := .next (s.mma te cyc 2)

def execMmaClear (te cyc : Nat) (s : State) : Host.Outcome State Fault Refusal := .next (s.mma te cyc 3)

/-- The N accumulators of the first P sets in drain order, as bytes (R73). -/
def drainBytes (x : PhysSt) (p n : Nat) : List Byte :=
  (List.range p).flatMap (fun i => (List.range n).flatMap (fun c => leBytes 4 (x.accAt (accKey i c)).toNat))

/-- The first p sets set to 0. -/
def clearSets (x : PhysSt) (p : Nat) : PhysSt :=
  { x with acc := (List.range (p * 512)).foldl (fun m i => mput m i 0) x.acc }

/-- The running MMA completes once its blocks are consumed (R74): a drain writes DST and clears the drained sets (R73), a
CLEAR sets them to 0. -/
def execMmaComplete (te : Nat) (s : State) : Host.Outcome State Fault Refusal :=
  match (s.tez te).run with
  | some r =>
    match r.mma with
    | some m =>
      if m.blocks.isEmpty then
        let x := s.ph (s.physOf te)
        let n := match m.mode with
          | some mm => mm.md.n
          | none => 0
        let s1 := if m.op = 1 ∨ m.op = 2 then s.holdWrite te m.dst (drainBytes x m.p n) else s
        let s2 := if m.op = 0 then s1 else s1.setPh (s.physOf te) (clearSets x m.p)
        .next (s2.setLeg te { r with mma := none })
      else .next s
    | none => .next s
  | none => .next s

/-- The next block of the stream may be written: within a half that is filling, or into a half the array has emptied
(R76). -/
def TeSt.canArrive (t : TeSt) : Bool := decide (t.wsb.length < 128) && (decide (t.slots % 64 ≠ 0) || decide (t.wsb.length ≤ 64))

/-- A block of the stream is delivered at ECLK cycle cyc (R76, R78), read from the TE's own vault; streams never run in
QUIET (R79). -/
def execWsbBlockArrive (te cyc : Nat) (s : State) : Host.Outcome State Fault Refusal :=
  let s0 := match (s.tez te).run with
    | some r => s.streamOn te r
    | none => s
  let t := s0.tez te
  match t.run, t.stream with
  | some r, b :: rest =>
    if t.canArrive then
      if s0.piecesReady [4, te] (te / 4) 1 b.pas then
        let g := s0.getPieces [4, te] (te / 4) 1 (r.entry.tenant + 1) b.pas
        let s1 := g.2.bad.foldl (fun s x => s.legBadRead r.part r.entry.tenant x) g.1
        let s2 := s1.setTe te { (s1.tez te) with wsb := t.wsb ++ [⟨b.va, g.2.data, cyc⟩], stream := rest, slots := t.slots + 1 }
        .next (s2.feed te 1)
      else .next (s0.openReads [4, te] (te / 4) 1 (r.entry.tenant + 1) b.pas)
    else .next s0
  | _, _ => .next s0

end Sys2Proof.Machine
end

