-- ==== Sys2Proof/Machine/Mov.lean ====
section
/-! DEFINITION. MOV (R118, R119, R131, R174) and its completion (R82). -/

namespace Sys2Proof.Machine

/-- The hold range a list of rows spans: lowest address and length. -/
def spanOf (rows : List (Nat × Nat)) : Nat × Nat :=
  match rows with
  | [] => (0, 0)
  | r :: rs =>
    let lo := rs.foldl (fun m x => min m x.1) r.1
    let hi := rs.foldl (fun m x => max m (x.1 + x.2)) (r.1 + r.2)
    (lo, hi - lo)

/-- A MOV's rows with natural addresses: memory offset or hold source, hold address, bytes. -/
def movRowsNat (m : MovI) (g : Geo) (c : Nat) : List (Nat × Nat × Nat) :=
  (movRows m g c).map (fun r => (r.1.toNat, r.2.1.toNat, r.2.2))

/-- The rows of the MOV a leg is at. -/
def LegRun.movRowsAt (r : LegRun) (w : Nat) : List (Nat × Nat × Nat) :=
  let m := movI w
  match r.prog.geos[m.geo]? with
  | some g => movRowsNat m g (movIter g r.loops)
  | none => []

/-- The hold operands of a MOV: its rows, and HCOPY's source rows. -/
def movHold (r : LegRun) (w : Nat) : List (Nat × Nat) :=
  let rows := r.movRowsAt w
  let d := spanOf (rows.map (fun x => (x.2.1, x.2.2)))
  if insOp w = 2 then [d, spanOf (rows.map (fun x => (x.1, x.2.2)))] else [d]

/-- Memory rows cut at pages, each piece with its hold address. -/
def cutRows (base : Nat) (rows : List (Nat × Nat × Nat)) : List (Nat × Nat × Nat) :=
  rows.flatMap (fun r => (piecesOf (base + r.1) r.2.2).map (fun p => (p.1, r.2.1 + (p.1 - (base + r.1)), p.2)))

/-- An outstanding MOV added to a leg. -/
def LegRun.addMov (r : LegRun) (m : MovX) : LegRun := { r with movs := r.movs ++ [m], nextMov := r.nextMov + 1, ninth := none }

/-- The writes of a STORE to other nodes leave when it issues; their acknowledgements are awaited at completion. -/
def State.storeRemote (s : State) (k id part tenant : Nat) (ps : List (Nat × Nat × Nat)) : State :=
  ps.foldl (fun s p =>
    if s.away p.1 then
      let r := (s.unmark (wholeLines p.1 p.2.2)).remWrite [2, k, id] p.1 (tenant + 1) (s.holdRead k p.2.1 p.2.2)
      if r.2 then r.1 else r.1.legRemFail part tenant (remCode p.1 7)
    else s) s

/-- What a STORE of a paired partition writes is kept for the digest, in program order (R538). -/
def State.storeLog (s : State) (key part : Nat) (l : List (Nat × List Byte)) : State :=
  if s.twinPart part = 2 then
    { s with twin := { s.twin with
        stores := mput s.twin.stores key (mgetD s.twin.stores key [] ++ l.flatMap (fun x => leBytes 8 x.1 ++ x.2)) } }
  else s

/-- Whether a MOV may issue (R82): fewer than eight are outstanding, and the one that was the oldest when it first found eight
has completed. -/
def TeSt.movRoom (t : TeSt) (r : LegRun) : Bool :=
  decide ((t.outstanding r).length < 8) && (match r.ninth with
    | some i => !((t.outstanding r).any (fun m => m.id = i))
    | none => true)

/-- A MOV that finds eight outstanding waits for the oldest of them. -/
def State.movWait (s : State) (k : Nat) (r : LegRun) : State :=
  match r.ninth with
  | some _ => s
  | none => s.setLeg k { r with ninth := ((s.tez k).outstanding r).head?.map (·.id) }

/-- A LOAD or STORE whose whole footprint translates becomes outstanding; one that fails halts the leg; one that waits
for a walk does not issue. -/
def State.movMem (s : State) (k : Nat) (r : LegRun) (w : Nat) : State :=
  let m := movI w
  match r.prog.regions[m.reg]? with
  | none => s
  | some g =>
    let t := r.entry.tenant
    let rows := r.movRowsAt w
    let cut := cutRows (r.regionBase g) rows
    let f := s.footprint (k / 4) (s.partQc r.part) t (if m.op = 1 then .wr else .rd) (cut.map (fun p => (p.1, p.2.2)))
    if f.2.wait then f.1
    else match f.2.fails with
      | _ :: _ =>
        (f.1.pageFails t f.2.fails (some k) (decide (m.op = 1))).halt k r (s.worst t f.2.fails).1 (s.worst t f.2.fails).2
      | [] =>
        let ps := (f.2.pas.zip cut).map (fun x => (x.1.1, x.2.2.1, x.2.2.2))
        let d := spanOf (rows.map (fun x => (x.2.1, x.2.2)))
        let marked := decide (m.op = 0) && cut.any (fun p => s.isMarked t p.1 p.2.2)
        let s1 := if marked then f.1.voidPart r.part 0x43 0x0E 0 0 (some t) none else f.1
        let s2 := if m.op = 0 then s1.openReads [2, k, r.nextMov] (k / 4) m.cache (t + 1) (ps.map (fun p => (p.1, p.2.2)))
          else (s1.storeLog k r.part (rows.map (fun x => (x.1, s.holdRead k x.2.1 x.2.2)))).storeRemote k r.nextMov r.part t ps
        s2.setLeg k ((r.addMov ⟨r.nextMov, m.op, d.1, d.1 + d.2, 0, 0, ps, m.cache, t, s.sail⟩).advance)

/-- HCOPY and ZERO become outstanding without translation. -/
def movLocal (r : LegRun) (w sail : Nat) : LegRun :=
  let m := movI w
  let rows := r.movRowsAt w
  let d := spanOf (rows.map (fun x => (x.2.1, x.2.2)))
  let c := if m.op = 2 then spanOf (rows.map (fun x => (x.1, x.2.2))) else (0, 0)
  r.addMov ⟨r.nextMov, m.op, d.1, d.1 + d.2, c.1, c.1 + c.2, rows, 1, r.entry.tenant, sail⟩

/-- A MOV that moves memory issues on TE k. -/
def State.issueMem (s : State) (k op : Nat) : State :=
  match s.atIns k with
  | some (r, w) =>
    if insClass w = 1 ∧ insOp w = op then
      if predicated r.preds w then
        if (s.tez k).blocked r (movHold r w) then s
        else if (s.tez k).movRoom r then s.movMem k r w else s.movWait k r
      else s.setLeg k r.advance
    else s
  | none => s

/-- A MOV inside the hold issues on TE k; a ninth waits. -/
def State.issueLocal (s : State) (k op : Nat) : State :=
  match s.atIns k with
  | some (r, w) =>
    if insClass w = 1 ∧ insOp w = op then
      if predicated r.preds w then
        if (s.tez k).blocked r (movHold r w) then s
        else if (s.tez k).movRoom r then s.setLeg k (movLocal r w s.sail).advance else s.movWait k r
      else s.setLeg k r.advance
    else s
  | none => s

def execMovLoad (te : Nat) (s : State) : Host.Outcome State Fault Refusal := .next (s.issueMem te 0)

def execMovStore (te : Nat) (s : State) : Host.Outcome State Fault Refusal := .next (s.issueMem te 1)

def execMovHcopy (te : Nat) (s : State) : Host.Outcome State Fault Refusal := .next (s.issueLocal te 2)

def execMovZero (te : Nat) (s : State) : Host.Outcome State Fault Refusal := .next (s.issueLocal te 3)

/-! ### Completion -/

/-- Pieces laid into the hold; one without data writes nothing (R409). -/
def State.scatter (s : State) (k : Nat) : List (Nat × Nat × Nat) → List (List Byte × Bool) → State
  | (_, h, _) :: rest, x :: xs => (if x.2 then s.holdWrite k h x.1 else s).scatter k rest xs
  | _, _ => s

/-- The memory pieces of a LOAD or STORE. -/
def MovX.mem (m : MovX) : List (Nat × Nat) := m.pieces.map (fun p => (p.1, p.2.2))

/-- The data of a completing LOAD put in the hold, and what its bad lines do. -/
def State.movFill (s : State) (k part : Nat) (m : MovX) : State :=
  let g := (s.chargeFor [2, k, m.id] (k / 4) (s.linesNew (k / 4) m.mem)).getPieces [2, k, m.id] (k / 4) m.cache (m.tenant + 1) m.mem
  let s1 := g.1.scatter k m.pieces g.2.parts
  let s2 := g.2.bad.foldl (fun s x => s.legBadRead part m.tenant x) s1
  g.2.remFail.foldl (fun s n => s.legRemFail part m.tenant n) s2

/-- The data of a completing STORE written, and what its bad lines do. -/
def State.movSpill (s : State) (k part : Nat) (m : MovX) : State :=
  let ps := m.pieces.filter (fun p => !(s.away p.1))
  let w := (s.chargeFor [2, k, m.id] (k / 4) (s.linesNew (k / 4) m.mem)).putPieces [2, k, m.id] (k / 4) m.cache (m.tenant + 1)
    (ps.map (fun p => (p.1, p.2.2))) (ps.flatMap (fun p => s.holdRead k p.2.1 p.2.2))
  w.2.1.foldl (fun s x => s.legBadWrite part m.tenant x) w.1

/-- The hold rows of an HCOPY moved, or of a ZERO cleared. DESIGN CHOICE (log 198): the rows move one after the other, in their
order, so that where source and destination rows overlap a later row reads what an earlier one wrote. -/
def State.movInside (s : State) (k : Nat) (m : MovX) : State :=
  m.pieces.foldl (fun s p =>
    s.holdWrite k p.2.1 (if m.op = 2 then s.holdRead k p.1 p.2.2 else List.replicate p.2.2 0)) s

/-- Whether an outstanding MOV can complete. -/
def State.movReady (s : State) (k : Nat) (m : MovX) : Bool :=
  let who := [2, k, m.id]
  let paid := s.tollOk who (k / 4) (s.linesNew (k / 4) m.mem)
  if m.op = 0 then s.piecesReady who (k / 4) m.cache m.mem && paid
  else if m.op = 1 then s.writesDone who && s.putReady who (k / 4) m.cache m.mem && paid
  else true

/-- What an outstanding MOV that cannot complete yet asks for: its reads, its lines, its tokens. -/
def State.movOpen (s : State) (k : Nat) (m : MovX) : State :=
  let who := [2, k, m.id]
  if m.op ≤ 1 then
    (if m.op = 0 then s.openReads who (k / 4) m.cache (m.tenant + 1) m.mem else s.openWrites who (k / 4) m.cache (m.tenant + 1) m.mem).payFor
      who (k / 4) (s.linesNew (k / 4) m.mem)
  else s

/-- The effect of a completing MOV. -/
def State.movDo (s : State) (k part : Nat) (m : MovX) : State :=
  if m.op = 0 then s.movFill k part m else if m.op = 1 then s.movSpill k part m else s.movInside k m

/-- A TE without one of its outstanding MOVs. -/
def TeSt.without (t : TeSt) (m : MovX) : TeSt :=
  { t with tail := t.tail.erase m, run := t.run.map (fun r => { r with movs := r.movs.erase m }) }

/-- An outstanding MOV completes and releases its hold range (R82): mov is its number within its leg. -/
def execMovComplete (te mov : Nat) (s : State) : Host.Outcome State Fault Refusal :=
  let t := s.tez te
  let l := t.tail ++ (match t.run with
    | some r => r.movs
    | none => [])
  match l.find? (fun m => m.id = mov) with
  | some m =>
    if s.movReady te m then
      let s1 := s.movDo te ((s.partOf m.tenant).getD 64) m
      .next (s1.setTe te ((s1.tez te).without m))
    else .next (s.movOpen te m)
  | none => .next s

end Sys2Proof.Machine
end

