-- ==== Sys2Proof/Machine/Sailing.lean ====
section
/-! DEFINITION. INTAKE (R32 to R34), the binding of voyages (R440, R441), RUN, legs and their streams (R35, R79, R192), COPY
entries (R193 to R196), QUIET (R37 to R39), and what the boundary closes. -/

namespace Sys2Proof.Machine

/-! ### I0: shadows (R11) -/

/-- A value with the bits of a mask replaced. -/
def mergeBits (old v m : Word) : Word := (old &&& ~~~m) ||| (v &&& m)

/-- The shadows of I0 transferred into force. -/
def State.transfer (s : State) : State :=
  { s with
    regs := s.shadow.foldl (fun r p => mput r p.1 (mergeBits (s.rv p.1) p.2.1 p.2.2)) s.regs,
    shadow := [] }

/-- I0: the invalidations and key commands this INTAKE acts on are those accepted by now (R33). -/
def State.intakeTakes (s : State) : State :=
  { s with
    intake := ⟨s.dtu.lanes.map (fun x => (x.1, x.2.length)), s.dtu.overfl.map (·.1), s.sec.rotate, s.sec.retire⟩
    sec := { s.sec with rotate := [], retire := [] } }

/-- Rings whose EN a shadow holds. -/
def State.enWritten (s : State) : List Nat :=
  s.shadow.filterMap (fun p => match regOf p.1 with
    | some (d, [t, r]) => if d.name = .ringCfg ∧ fget p.2.2 F.ringCfg_EN = 1 then some (t * 64 + r) else none
    | _ => none)

/-- Contexts with a shadow: the tenant, whether EN was written, whether ROOT or L1_LOG changes. -/
def State.ctxWritten (s : State) : List (Nat × Bool × Bool) :=
  s.shadow.filterMap (fun p => match regOf p.1 with
    | some (d, [t]) =>
      let new := mergeBits (s.rv p.1) p.2.1 p.2.2
      if d.name = .dtuCtxCfg then
        some (t, decide (fget p.2.2 F.dtuCtxCfg_EN = 1), decide (fget new F.dtuCtxCfg_L1_LOG ≠ fget (s.rv p.1) F.dtuCtxCfg_L1_LOG))
      else if d.name = .dtuCtxRoot then some (t, false, decide (new ≠ s.rv p.1))
      else none
    | _ => none)

/-! ### I0: bindings and teardown (R142, R143, R417) -/

/-- Images whose completions were issued at C1 are bound, the last one of an index last. -/
def State.bindLoads (s : State) : State :=
  { s with
    progs := (s.loads.filter (·.issued)).foldl (fun m l => mput m l.index l.prog) s.progs, loads := s.loads.filter (fun l => !l.issued) }

/-- The bindings of a tenant's indices removed. -/
def State.dropBinds (s : State) (t : Nat) : State :=
  let mine (i : Nat) : Bool := (s.progRec i).any (fun r => r.tenant = t)
  { s with progs := s.progs.filter (fun p => !(mine p.1)), loads := s.loads.filter (fun l => !(mine l.index)) }

/-- A tenant's weight slots cleared, with the digests that were to enter them (R570). -/
def State.dropWgt (s : State) (t : Nat) : State :=
  s.setSec { s.sec with
    wgt := s.sec.wgt.filter (fun x => decide (x.1 / 16 ≠ t)), wgtDue := s.sec.wgtDue.filter (fun x => decide (x.1 ≠ t)) }

/-- I0 of the teardown of the tenants torn down since the last one. -/
def State.tearI0 (s : State) : State :=
  let s1 := s.sec.tear.foldl (fun s t => (((s.ctxOff t).ringsOff t).dropBinds t).dropWgt t) s
  s1.setSec { s1.sec with tear := [], tearNow := s.sec.tear.foldl nins s1.sec.tearNow }

/-- A change of LTR_US sends one LTR message (R416). -/
def State.ltrIf (s : State) (old : Nat) : State := if s.rf R.pciLpm F.pciLpm_LTR_US = old then s else s.ltrSend

/-- The measurement of firmware that resumed (R569). -/
def State.measI0 (s : State) : State :=
  match s.sec.fwDue with
  | some x => s.setSec { s.sec with fwMeas := x.1, fwSvn := x.2, fwDue := none }
  | none => s

/-- TotalVFs and VF_READY from the I0 after READY (R421). -/
def State.vfReady (s : State) : State := s.rsetIf (s.brgState = 1) R.pciStatus F.pciStatus_VF_READY 1

/-- SAIL_STATUS.SLOT (R62). DESIGN CHOICE (log 160): it shows 0 where the manifest does not define partition 0. -/
def State.showSlot (s : State) : State :=
  s.rset R.sailStatus F.sailStatus_SLOT (if s.partRecs.any (fun r => r.part = 0) then s.slotIn 0 else 0)

/-- INTAKE_I0. A manifest that crossed in the sailing before governs first; writes made since come after it. -/
def State.intakeI0 (s : State) : State :=
  let s1 := (s.enter .i0 40 1).settleAll.crossI0
  let s2 := s1.intakeTakes.bindLoads.tearI0
  let gs := s2.enWritten
  let cs := s2.ctxWritten
  let s3 := (cs.foldl (fun s x => s.ctxTransfer x.1 x.2.1 x.2.2) s2.transfer).ltrIf (s2.rf R.pciLpm F.pciLpm_LTR_US)
  let s4 := (s3.windowsI0.each (List.range 8) State.lrsI0).scrubsEnd.wgtI0
  let s5 := (s4.powerI0 (s4.rv R.pwrLeanEnd).toNat).showScale.regimeI0
  ((s5.ringEnables gs).escalateAll.sleepI0).measI0.vfReady.showSlot.moversKeep

def execIntakeI0 (s : State) : Host.Outcome State Fault Refusal := s.after .c2 State.intakeI0

/-- A block has not finished the step before when a step's edge arrives: the earlier step is completed first, then the later one taken, and its
edge is a late boundary (R26, R318). -/
def State.edge (s : State) (unfin : Bool) : State := if unfin then s.lateBoundary else s

/-- INTAKE_I1; unfin, here and in the steps after it: some block is late with the step before. -/
def execIntakeI1 (unfin : Bool) (s : State) : Host.Outcome State Fault Refusal :=
  s.after .i0 (fun s => ((s.enter .i1 50 1).edge unfin).applyI1)

/-! ### I2 -/

/-- A repeat, a remap or a variant switch falls due at this I2 for some partition (R463). -/
def State.crossHeld (s : State) : Bool :=
  s.spareDue || s.partRecs.any (fun r => (s.part r.part).repeatPrev || (s.part r.part).switched)

/-- The entry that opens a sailing's ferry: each partition's slot, variant, lag and flags (R535). -/
def State.ferryBegin (s : State) : State :=
  match (s.partRecs.map (·.part)).find? (fun p => s.twinPart p = 2) with
  | some p => s.ferry 1 p (s.sailNo p) ((List.range 64).flatMap (fun q =>
      leBytes 1 (s.slotIn q) ++ leBytes 1 (s.variantOf q) ++ leBytes 2 (s.lagOf q) ++
        leBytes 1 (b2n (decide ((s.part q).repeats > 0)) + 2 * b2n (decide (s.variantOf q = 1))) ++ leBytes 3 0))
  | none => s

/-- INTAKE_I2: the crossing's conditions are read first, the crossing itself comes last. -/
def State.intakeI2 (s : State) (unfin : Bool) : State :=
  let s0 := (s.enter .i2 60 1).edge unfin
  let held := s0.crossHeld
  let again := s0.manAgain
  let s1 := ((s0.sparing).each (s0.partRecs.map (·.part)) State.repeatI2).keysI2
  let s2 := s1.routeI2.rowI2.wayI2
  let s3 := (((s2.each (List.range 8) State.lrsI2).each (List.range 8) State.slipI2).resetI2.settleAll.capI2).showSlot
  ((s3.crossI2 held again).crossShadow).ferryBegin

def execIntakeI2 (unfin : Bool) (s : State) : Host.Outcome State Fault Refusal := s.after .i1 (fun s => s.intakeI2 unfin)

/-! ### I3: voyages bound (R440, R441) -/

/-- The sailings a RUN's lead counts: at least one where it has staging. -/
def State.leadOf (s : State) (c : Ctx) : Nat := max (s.rf (rCfg c.ring) F.ringCfg_LEAD) (b2n (decide (c.sgl ≠ 0)))

/-- A voyage in progress past its fence whose lead is over d sailings on. -/
def State.leadOver (s : State) (c : Ctx) (d : Nat) : Bool :=
  c.fetched && c.started && decide (c.op = 1) && c.done.isNone && decide (c.from_ + s.leadOf c ≤ s.sailNo (s.ringPart c.ring) + d)

/-- Staging, where there is any, complete before sailing n. -/
def Ctx.stagedBy (c : Ctx) (n : Nat) : Bool :=
  decide (c.sgl = 0) || (match c.staged with
    | some k => decide (k < n)
    | none => false)

/-- The voyage an entry runs in this sailing. -/
def State.voyageFor (s : State) (e : LegEntry) : Option Ctx :=
  s.rings.ctxs.find? (fun c => s.leadOver c 0 && c.stagedBy s.sail && decide (ringTen c.ring = e.tenant) &&
    decide (c.vclass = e.vclass) && decide (c.step = e.step))

/-- Late staging counted once per voyage (R440). -/
def State.countLate (s : State) : State :=
  let late (c : Ctx) : Bool := s.leadOver c 0 && !(c.stagedBy s.sail) && !c.late &&
    !(s.shadowed (s.ringPart c.ring) && s.twin.running.isNone)
  let n := (s.rings.ctxs.filter late).length
  (s.setRings { s.rings with ctxs := s.rings.ctxs.map (fun c => if late c then { c with late := true } else c) }).raddOpen R.qCnt
    F.qCnt_STG_LATE n

/-- The legs of a block with each its index in its TE's list and its offset, the bounds before it added (R35). -/
def placeLegs : List LegEntry → NMap (Nat × Nat) → List (Nat × Nat × LegEntry)
  | [], _ => []
  | e :: es, m =>
    let x := mgetD m e.te (0, 0)
    (x.1, x.2, e) :: placeLegs es (mput m e.te (x.1 + 1, x.2 + e.bound))

/-- Two entries of the same step. -/
def LegEntry.sameStep (a b : LegEntry) : Bool :=
  decide (a.tenant = b.tenant) && decide (a.vclass = b.vclass) && decide (a.step = b.step)

/-- The slot d sailings on, where nothing moves the lag. -/
def State.slotAhead (s : State) (p d : Nat) : Option SlotBlk :=
  (s.varFor p).bind (fun v => (v.slots[(s.slotIn p + d) % max 1 v.cycle]?).bind (fun b => b.find? (fun x => x.part = p)))

/-- The slot d sailings before. -/
def State.slotBefore (s : State) (p d : Nat) : Option SlotBlk :=
  (s.varFor p).bind (fun v =>
    (v.slots[(s.slotIn p + 3 * max 1 v.cycle - d) % max 1 v.cycle]?).bind (fun b => b.find? (fun x => x.part = p)))

/-- The COPY entries that concern the step of an entry of block b: those of the slots one to three before it, by place. -/
def State.copiesFor (s : State) (p : Nat) (b : SlotBlk) (e : LegEntry) : List (Nat × PfEntry) :=
  [1, 2, 3].flatMap (fun d => match s.slotBefore p d with
    | some x => (x.pfs.zipIdx.filter (fun y => y.1.copy && decide (y.1.lead = d) && (match (b.legsOn y.1.te)[y.1.leg]? with
        | some f => f.sameStep e
        | none => false))).map (fun y => (y.2, y.1))
    | none => [])

/-- The COPY that issued for an entry, for a voyage, to be consumed in this sailing. -/
def State.copyOf (s : State) (p : Nat) (c : Ctx) (x : Nat × PfEntry) : Option CopyX :=
  s.copies.find? (fun y => decide (y.part = p) && decide (y.idx = x.1) && decide (y.entry = x.2) && decide (y.ring = c.ring) &&
    decide (y.didx = c.didx) && decide (y.target = s.timetableSail p))

/-- What keeps a step from running: nothing, its COPY entries (R194), or a COPY that faulted (R193). -/
inductive StepGate where
  | run
  | deferred
  | fault (x : CopyX)
  deriving DecidableEq, Repr

def State.gateOf (s : State) (p : Nat) (b : SlotBlk) (e : LegEntry) (c : Ctx) : StepGate :=
  let xs := (s.copiesFor p b e).map (s.copyOf p c)
  match (xs.filterMap id).find? (fun y => y.fault.isSome) with
  | some y => .fault y
  | none => if xs.all (fun y => match y with
      | some z => z.done
      | none => false) then .run else .deferred

/-- One entry of a slot planned: with a voyage, on a TE that is not LOST, bound to a program and let through by its step's
COPY entries, it will start at its offset. -/
def State.planLeg (s : State) (p : Nat) (b : SlotBlk) (x : Nat × Nat × LegEntry) : State :=
  let e := x.2.2
  let k := e.te
  match s.voyageFor e with
  | none => s
  | some c =>
    let entryEnd (o cause : Nat) (pin : Bool) : State :=
      { s with ended := s.ended ++ [⟨p, k, x.1, e, some (c.ring, c.didx), o, cause, pin, 0, []⟩] }
    if s.rf (R.teStatus k) F.teStatus_STATE = 4 then s
    else match s.gateOf p b e c with
      | .deferred => s
      | .fault y => if y.entry.te = k ∧ y.entry.leg = x.1 then entryEnd 2 ((y.fault.map (·.1)).getD 0) ((y.fault.map (·.2)).getD false) else s
      | .run =>
        match mget s.progs e.prog with
        | none => entryEnd 3 0 false
        | some _ =>
          s.setTe k { s.tez k with plan := (s.tez k).plan ++ [⟨x.1, p, e, some (c.ring, c.didx), false, x.2.1⟩] }

/-- Steps of a slot that wait for COPY entries, counted once on each tile whose TEs they name (R206). -/
def State.countDefer (s : State) (p : Nat) (b : SlotBlk) : State :=
  let waits := b.legs.filter (fun e => match s.voyageFor e with
    | some c => decide (s.gateOf p b e c = .deferred)
    | none => false)
  let ts := (waits.map (fun e => (e.te / 4, e.tenant, e.vclass, e.step))).eraseDups
  ts.foldl (fun s x => s.raddOpen (R.tilePfCnt x.1) F.tilePfCnt_DEFER 1) s

/-- The exposed carry of the voyage an entry of the slot runs. -/
def State.carryOne (s : State) (p : Nat) (b : SlotBlk) (e : LegEntry) : State :=
  match s.voyageFor e with
  | some c =>
    if c.exposed ∧ s.variantOf p ≥ 2 ∧ s.gateOf p b e c = .run then
      let reads := b.legs.any (fun f => f.sameStep e && (mget s.progs f.prog).any (·.carryReading))
      let s1 := s.setCtx { c with exposed := false }
      if reads then s1.voidPart p 0x46 0x03 0 e.te (some e.tenant) none else s1
    else s
  | none => s

/-- A carry-exposed voyage that now runs a step under a degraded variant: the sailing is voided where the step reads a carry
window, and its later steps are not checked (R96). -/
def State.carryCheck (s : State) (p : Nat) (b : SlotBlk) : State := b.legs.foldl (fun s e => s.carryOne p b e) s

/-- A partition's slot of this sailing planned. None runs in the sailing of a crossing, in reset, or held idle. -/
def State.planPart (s : State) (p : Nat) : State :=
  match s.blockOf p with
  | some b =>
    if s.man.crossed ∨ (s.part p).stopped = true ∨ (s.part p).reset = true then s
    else (((placeLegs b.legs []).foldl (fun s x => s.planLeg p b x) (s.countDefer p b))).carryCheck p b
  | none => s

/-- INTAKE_I3. -/
def State.intakeI3 (s : State) (unfin : Bool) : State :=
  let s1 := ((s.enter .i3 70 1).edge unfin).admitAll.grantAll
  if s1.err.fatal then s1 else s1.countLate.each (s1.partRecs.map (·.part)) State.planPart

def execIntakeI3 (unfin : Bool) (s : State) : Host.Outcome State Fault Refusal := s.after .i2 (fun s => s.intakeI3 unfin)

def execIntakeI4 (unfin : Bool) (s : State) : Host.Outcome State Fault Refusal :=
  s.after .i3 (fun s => ((s.enter .i4 90 1).edge unfin).applyI4)

/-! ### Legs start (R35, R133, R192) -/

/-- A region base that ALIGN refuses. -/
def LegRun.misaligned (r : LegRun) : Bool :=
  r.prog.regions.any (fun g => decide (r.regionBase g % (if g.isWeight then 512 else 64) ≠ 0))

/-- The leg of a plan with a voyage's arguments. MOVs that outlived an earlier leg keep their numbers. -/
def State.legRun (s : State) (k : Nat) (x : LegPlan) (c : Ctx) (pr : Prog) : LegRun :=
  { idx := x.idx, part := x.part, entry := x.entry, ring := c.ring, didx := c.didx, prog := pr, rank := s.rankOf x.part k,
    args := (List.range 8).map (fun i => c.args.getD i 0), seed := c.seed, pc := 0, loops := [], preds := 0, draws := [], movs := [], ninth := none,
    nextMov := ((s.tez k).tail.map (·.id)).foldl (fun m i => max m (i + 1)) 0, mma := none, bars := [], waitBar := none,
    halted := none, nflags := 0, start := x.offset }

/-- The WSTREAM entries of a leg in its slot. -/
def State.wstreams (s : State) (k : Nat) (x : LegPlan) : List PfEntry :=
  match s.blockOf x.part with
  | some b => b.pfs.filter (fun f => !f.copy && decide (f.te = k) && decide (f.leg = x.idx))
  | none => []

/-- The TE's power domain is in use; one that slept wakes (R298, R299). -/
def State.teWake (s : State) (k : Nat) : State :=
  let d := 8 * (k / 4) + s.rf (R.teStatus k) F.teStatus_PHYS
  let s1 := if s.domSt d = 1 then (s.rset (R.octPwr d) F.octPwr_STATE 0).raddOpen (R.octPwr d) F.octPwr_WAKES 1 else s
  s1.useDom d

/-- A planned leg starts. -/
def State.startLeg (s : State) (k : Nat) (x : LegPlan) : State :=
  if x.blocked then s
  else match x.voyage.bind (fun v => s.ctxOf v.1 v.2), mget s.progs x.entry.prog with
    | some c, some pr =>
      let r := s.legRun k x c pr
      let s1 := ((s.teWake k).rset (R.teStatus k) F.teStatus_LEG x.idx).teState k 2
      let s2 := s1.setTe k { s1.tez k with run := some r, wsb := [], stream := [], ahead := s1.wstreams k x, slots := 0 }
      if r.misaligned then s2.halt k r cAlign true
      else s2.streamOn k r
    | _, _ => s

/-- The leg still on a TE when the next one's offset comes: halted, it leaves; running, it has had its whole bound (R44). -/
def State.clearTE (s : State) (k : Nat) : State :=
  match (s.tez k).run with
  | some _ => (s.cutLeg k).teState k 1
  | none => s

/-- The next leg of a TE's plan starts. -/
def State.nextLeg (s : State) (k : Nat) : State :=
  match (s.tez k).plan with
  | x :: xs =>
    let s1 := s.clearTE k
    (s1.setTe k { s1.tez k with plan := xs }).startLeg k x
  | [] => s

/-- LEG_START: a further leg on a TE, in RUN. -/
def execLegStart (te : Nat) (s : State) : Host.Outcome State Fault Refusal :=
  if s.time.stage = .run ∧ s.err.fatal = false then .next (s.nextLeg te) else .next s

/-- TEs whose first leg starts with RUN. -/
def State.firstLegs (s : State) : List Nat :=
  (s.te.filter (fun t => match t.2.plan with
    | x :: _ => decide (x.offset = 0)
    | [] => false)).map (·.1)

/-- What each partition's slot declares for its energy, where it runs (R499). -/
def State.declare (s : State) (p : Nat) : State :=
  let off := s.man.crossed || (s.part p).stopped || (s.part p).reset
  s.setPart p { s.part p with decl := if off then none else (s.blockOf p).map (·.energy) }

/-- Sweeps and scrubs start on a sailing's bytes with RUN (R555, R565). -/
def State.cleanStart (s : State) : State :=
  s.setSec { s.sec with cleanAt := s.time.total, cleanCr := 0, cleanRot := 0, cleanScr := 0 }

/-- RUN_START. -/
def State.runStart (s : State) : State :=
  let s1 := s.enter .run 100 2
  if s1.err.fatal then s1
  else
    let s2 := s1.each (s1.partRecs.map (·.part)) State.declare
    ((s2.each s2.firstLegs State.nextLeg).wakeNext).cleanStart

def execRunStart (s : State) : Host.Outcome State Fault Refusal := s.after .i4 State.runStart

/-! ### COPY entries (R193, R194) -/

/-- A voyage foreseen: its ring and index, its class, the step it will be at. -/
abbrev Seen : Type := Ctx × Nat

/-- The voyage that an entry would run d sailings on among those foreseen. -/
def State.foreFind (s : State) (cs : List Seen) (e : LegEntry) (d : Nat) : Option Seen :=
  cs.find? (fun x => s.leadOver x.1 d && (decide (d > 0) || (x.1.stagedBy s.sail && decide (x.1.admitSail < s.sailNo (s.ringPart x.1.ring)))) &&
    decide (ringTen x.1.ring = e.tenant) && decide (x.1.vclass = e.vclass) && decide (x.2 = e.step))

/-- The voyages after a block's sailing in which every step bound completes. -/
def State.foreStep (s : State) (p : Nat) (b : SlotBlk) (cs : List Seen) (d : Nat) : List Seen :=
  let bound := b.legs.filterMap (fun e => s.foreFind cs e d)
  let last (c : Ctx) : Option Nat := (s.varFor p).bind (fun v => v.lastStep c.vclass)
  (cs.filter (fun x => !(bound.contains x && decide (last x.1 = some x.2)))).map (fun x => if bound.contains x then (x.1, x.2 + 1) else x)

/-- The voyages of a partition d sailings on, as far as they are admitted now. -/
def State.foresee (s : State) (p : Nat) : Nat → List Seen
  | 0 => (s.rings.ctxs.filter (fun c => s.voyageOf p c)).map (fun c => (c, c.step))
  | d + 1 =>
    match s.slotAhead p d with
    | some b => s.foreStep p b (s.foresee p d) d
    | none => s.foresee p d

/-- Two lists of pieces of one length, cut alike: source, destination, bytes. -/
def mergePieces : Nat → List (Nat × Nat) → List (Nat × Nat) → List (Nat × Nat × Nat)
  | 0, _, _ => []
  | f + 1, (a, n) :: xs, (b, m) :: ys =>
    let k := min n m
    (a, b, k) :: mergePieces f (if n = k then xs else (a + k, n - k) :: xs) (if m = k then ys else (b + k, m - k) :: ys)
  | _ + 1, _, _ => []

/-- A COPY entered in the list of those issued, in place of an earlier issue of the same entry for the same sailing. -/
def State.addCopy (s : State) (x : CopyX) : State :=
  { s with copies := s.copies.filter (fun y => !(decide (y.part = x.part) && decide (y.idx = x.idx) && decide (y.target = x.target))) ++ [x] }

/-- The requester a COPY's accesses are for. -/
def CopyX.who (x : CopyX) : List Nat := [7, x.part, x.idx, x.target]

/-- The pieces a COPY reads, and those it writes. -/
def CopyX.reads (x : CopyX) : List (Nat × Nat) := x.pieces.map (fun p => (p.1, p.2.2))
def CopyX.writes (x : CopyX) : List (Nat × Nat) := x.pieces.map (fun p => (p.2.1, p.2.2))

/-- A COPY translated whole, its marks checked, its accesses opened; while a walk waits it stays on record (R193). -/
def State.copyWalk (s : State) (x : CopyX) : State :=
  let f := x.entry
  let t := x.tenant
  let ps := piecesOf x.src f.len
  let qs := piecesOf x.dst f.len
  let a := s.footprintOpen (f.te / 4) x.qc t .rd ps
  let b := a.1.footprintOpen (f.te / 4) x.qc t .wr qs
  let w := b.1.walksEnd (f.te / 4) x.qc t (a.2.walked ++ b.2.walked)
  if a.2.wait || b.2.wait then b.1.addCopy { x with walking := true }
  else match a.2.fails ++ b.2.fails with
    | _ :: _ =>
      ((w.pageFails t a.2.fails (some f.te) false).pageFails t b.2.fails (some f.te) true).addCopy
        { x with walking := false, fault := some (s.worst t (a.2.fails ++ b.2.fails)) }
    | [] =>
      let s1 := if ps.any (fun p => s.isMarked t p.1 p.2) then w.voidPart x.part 0x43 0x0E 0 0 (some t) none else w
      let y := { x with walking := false, pieces := mergePieces (ps.length + qs.length) a.2.pas b.2.pas }
      (s1.addCopy y).openReads y.who (f.te / 4) 1 (t + 1) y.reads

/-- A COPY bound to a voyage and a program: aligned, then translated. -/
def State.copyGo (s : State) (x : CopyX) (r : LegRun) (sg dg : Region) : State :=
  if r.regionBase sg % (if sg.isWeight then 512 else 64) ≠ 0 ∨ r.regionBase dg % (if dg.isWeight then 512 else 64) ≠ 0 then
    s.addCopy { x with fault := some (cAlign, true) }
  else s.copyWalk { x with src := r.regionBase sg + x.entry.soff, dst := r.regionBase dg + x.entry.doff }

/-- The voyage a COPY entry binds to, with the leg entry that will consume it. -/
def State.copyBind (s : State) (p : Nat) (f : PfEntry) : Option (Ctx × LegEntry) :=
  (s.slotAhead p f.lead).bind (fun b => ((b.legsOn f.te)[f.leg]?).bind (fun e =>
    (s.foreFind (s.foresee p f.lead) e f.lead).map (fun v => (v.1, e))))

/-- A COPY entry issues in RUN; one without a voyage, or of a tenant that is being torn down (R196), does not. -/
def State.copyIssue (s : State) (p i : Nat) : State :=
  match (s.blockOf p).bind (fun b => b.pfs[i]?) with
  | some f =>
    if f.copy then
      match s.copyBind p f with
      | some (c, e) =>
        if s.torn e.tenant then s
        else match mget s.progs e.prog with
        | some pr =>
          let r := s.legRun f.te ⟨f.leg, p, e, some (c.ring, c.didx), false, 0⟩ c pr
          match pr.regions[f.sreg]?, pr.regions[f.dreg]? with
          | some sg, some dg =>
            s.copyGo ⟨p, i, f, c.ring, c.didx, e.vclass, e.step, e.tenant, s.timetableSail p + f.lead, [], false, none, s.partQc p, false, 0, 0⟩ r sg dg
          | _, _ => s
        | none => s
      | none => s
    else s
  | none => s

/-- COPY entries of a partition issue now (R37, R193, R196). -/
def State.copiesRun (s : State) (part : Nat) : Bool :=
  decide (s.time.stage = .run) && !s.err.fatal && !s.man.crossed && !(s.part part).stopped && !(s.part part).reset

/-- COPY_ISSUE: entry idx of a partition's block at its START. -/
def execCopyIssue (part idx : Nat) (s : State) : Host.Outcome State Fault Refusal :=
  if s.copiesRun part then .next (s.copyIssue part idx) else .next s

/-- A COPY whose writes are all observable is done, if that is still within the sailing it issued in. -/
def State.copyEnd (s : State) (x : CopyX) : State :=
  if s.writesDone x.who then
    let done := decide (s.timetableSail x.part + x.entry.lead = x.target)
    { s with copies := if done then s.copies.map (fun y => if y = x then { x with done := true } else y) else s.copies.erase x }
  else s

/-- The lines a COPY's accesses inject. -/
def State.copyLines (s : State) (x : CopyX) : Nat := s.linesNew (x.entry.te / 4) x.reads + s.linesNew (x.entry.te / 4) x.writes

/-- The bytes of a COPY moved, and what its bad lines do. DESIGN CHOICE (log 199): a COPY entry has no CACHE field; its accesses
act as CACHE = 1, without allocation. -/
def State.copyMove (s : State) (x : CopyX) : State :=
  let t := x.tenant
  let c := x.entry.te / 4
  let g := (s.chargeFor x.who c (s.copyLines x)).getPieces x.who c 1 (t + 1) x.reads
  let s1 := g.2.bad.foldl (fun s b => s.legBadRead x.part t b) g.1
  let s2 := g.2.remFail.foldl (fun s n => s.legRemFail x.part t n) s1
  let s3 := s2.storeLog (65536 * (x.part + 1) + x.idx) x.part [(x.entry.doff, g.2.data)]
  let w := s3.putPieces x.who c 1 (t + 1) x.writes g.2.data
  let s4 := w.2.1.foldl (fun s b => s.legBadWrite x.part t b) w.1
  let s5 := w.2.2.foldl (fun s n => s.legRemFail x.part t n) s4
  let y := { x with pieces := [] }
  ({ s5 with copies := s5.copies.map (fun z => if z = x then y else z) } : State).copyEnd y

/-- A COPY's bytes can move: its reads have come, its lines are ready, its tolls have tokens (R197). -/
def State.copyReady (s : State) (x : CopyX) : Bool :=
  s.piecesReady x.who (x.entry.te / 4) 1 x.reads && s.putReady x.who (x.entry.te / 4) 1 x.writes &&
    s.tollOk x.who (x.entry.te / 4) (s.copyLines x)

/-- COPY_COMPLETE: the oldest issue of an entry that is not done ends once its reads have come and its writes are
observable; one whose walks wait goes on with them while its partition's entries issue. -/
def execCopyComplete (part idx : Nat) (s : State) : Host.Outcome State Fault Refusal :=
  match s.copies.find? (fun y => decide (y.part = part) && decide (y.idx = idx) && !y.done && y.fault.isNone) with
  | some x =>
    if x.walking then .next (if s.copiesRun part && !(s.torn x.tenant) then s.copyWalk x else s)
    else if x.pieces.isEmpty then .next (s.copyEnd x)
    else if s.copyReady x then .next (s.copyMove x)
    else .next (((s.openReads x.who (x.entry.te / 4) 1 (x.tenant + 1) x.reads).openWrites x.who (x.entry.te / 4) 1 (x.tenant + 1)
      x.writes).payFor x.who (x.entry.te / 4) (s.copyLines x))
  | none => .next s

/-! ### QUIET (R37, R44) -/

/-- A TE at the start of QUIET: its leg abandoned; legs of its plan that never started end the same way. -/
def State.quietTe (s : State) (k : Nat) : State :=
  let s1 := (s.tez k).plan.foldl (fun s x => ((s.clearTE k).startLeg k x)) s
  let s2 := (s1.clearTE k)
  s2.setTe k { s2.tez k with plan := [], wsb := [], stream := [], ahead := [] }

/-- QUIET_START. -/
def State.quietStart (s : State) : State :=
  let off := s.rf R.sailPeriod F.sailPeriod_PERIOD - s.rf R.sailPeriod F.sailPeriod_QUIET
  let s1 := ((s.enter .run off 2).cleanNow).enter .quiet off 3
  let s2 := s1.each (s1.te.map (·.1)) State.quietTe
  (s2.setRings { s2.rings with grants := [] }).showPool

def execQuietStart (s : State) : Host.Outcome State Fault Refusal := s.after .run State.quietStart

/-! ### The boundary (R23, R25, R26, R29, R39) -/

/-- A partition's TEs have transfers outstanding that legs of this sailing began (R39). -/
def State.undrained (s : State) (p : Nat) : Bool :=
  (s.tesOf p).any (fun k =>
    s.heap.remWrites.any (fun w => decide (w.who.take 2 = [2, k]) && decide (w.sail = s.sail)) ||
      ((s.tez k).tail ++ (match (s.tez k).run with
        | some r => r.movs
        | none => [])).any (fun m => decide (m.sail = s.sail)))

/-- R39 for one partition. -/
def State.drainCheck (s : State) (p : Nat) : State :=
  if s.undrained p then
    ((s.voidPart p 0x41 0x01 0 p none none).rset R.sailEvent F.sailEvent_QUIET_DRAIN 1).radd R.sailOvrCnt F.sailOvrCnt_DRAIN 1
  else s

/-- COPY entries of the closing sailing that are not done are late, and those whose walks still wait are dropped; what ended is kept
for a sailing more, while a repeat may call for its step again (R54). -/
def State.copiesClose (s : State) : State :=
  let late := s.copies.filter (fun c => !c.done && c.fault.isNone && decide (s.timetableSail c.part + c.entry.lead = c.target))
  let s1 := late.foldl (fun s c => s.raddOpen (R.tilePfCnt (c.entry.te / 4)) F.tilePfCnt_LATE 1) s
  { s1 with copies := s1.copies.filter (fun c => !c.walking &&
      (decide (s1.timetableSail c.part ≤ c.target + 1) || (!c.done && c.fault.isNone))) }

/-- END of the ferry of the sailing that closed (R535). -/
def State.ferryEnd (s : State) : State :=
  let s1 := if s.twin.out.isEmpty then s
    else match (s.partRecs.map (·.part)).find? (fun p => s.twinPart p = 2) with
      | some p => s.ferry 10 p (s.sailNo p) (leBytes 4 (s.twin.out.length + 1) ++ leBytes 8 (s.twin.bytes + 28))
      | none => s
  { s1 with twin := { s1.twin with out := [], bytes := 0, hold := false } }

/-- The end of the closing sailing: what it comes to for each partition, and its lists. -/
def State.closeSail (s : State) : State :=
  let ps := s.partRecs.map (·.part)
  let s1 := ((s.each ps State.drainCheck).copiesClose).each ps State.decidePart
  let s2 := ({ s1 with endedPrev := s1.ended, ended := [], bars := [] } : State).voidLegs.moversKeep.capsClose
  let s3 := s2.each ps (fun s p => s.setPart p { s.part p with switched := false })
  { s3 with slips := s3.slips.map (fun x => (x.1, { x.2 with retrains := 0 })), fab := { s3.fab with retrains := [] } }

/-- A ferry's run ends with the sailing; partitions that ferries run count on only when the next ferry is run (R537). -/
def State.ferryRan (s : State) : State :=
  let s1 : State := { s with twin := { s.twin with running := none } }
  let ps := (s1.partRecs.map (·.part)).filter s1.shadowed
  { s1 with twin := { s1.twin with base := ps.foldl (fun m p => mput m p (mgetD m p 0 + 1)) s1.twin.base } }

/-- The new sailing begins: SAIL_NUM, the count, the phase. -/
def State.openSail (s : State) : State :=
  let t := s.time
  ({ s with time := { t with
      total := t.total + (s.rf R.sailPeriod F.sailPeriod_PERIOD - t.tclk), tclk := 0, stage := .boundary,
      lateRun := if t.late then t.lateRun + 1 else 0, late := false } } : State).rset R.sailNum F.sailNum_NUM ((s.sail + 1) % 2 ^ 64)

/-- The boundary but for what the host had stalled: rails and tiles are the energy meters' readings, badMeter a meter that
fails its check, lateNs the latest arrival at a leaf. -/
def State.boundary (s : State) (lateNs : Nat) (rails tiles : List Nat) (badMeter : Bool) : State :=
  let s1 := s.closeSail.fqEdge.ferryEnd.ferryRan.openSail.captureDoorbells
  let s2 := (s1.rset R.sailStatus F.sailStatus_PHASE 0).showSlot
  let s3 := if lateNs > 40 then s2.lateBoundary else s2
  ((s3.closeEnergy rails tiles badMeter).sweepsEnd.qosWipe).qosSnapshot s.sail

/-- With no command waiting, one cycle of TCLK passes where the time base runs and the sailing is not over (R22, R25). -/
def State.idleTick (s : State) : State :=
  if s.rf R.sailStatus F.sailStatus_TB_RUN = 1 ∧ s.time.tclk < s.rf R.sailPeriod F.sailPeriod_PERIOD then
    { s with time := { s.time with tclk := s.time.tclk + 1, total := s.time.total + 1 } }
  else s

end Sys2Proof.Machine
end

