-- ==== Sys2Proof/Machine/Survey.lean ====
section
/-! DEFINITION. Survey sailings (R508 to R510). -/

namespace Sys2Proof.Machine

/-! ### What a survey measures (R508): kinds 0 path replicas, 1 ring oscillators, 2 canary rows, 3 eye margins -/

/-- Item time of a kind, in ns. -/
def itemTime (kind : Nat) : Nat := if kind = 2 then 200 else if kind = 3 then 500 else 300

/-- The on-die links in the scan's order: router and port of the end with the lower number. -/
def dieLinks : List (Nat × Nat) :=
  (List.range 83).flatMap (fun r =>
    ((List.range 8).filter (fun p => (otherEnd r p).isSome && decide (linkKey r p = 8 * r + p))).map (fun p => (r, p)))

/-- Spare rows of a channel that repair uses: each replaced row takes one, a spared bank the 960 of the others (R182, R189). -/
def State.spareRows (s : State) (vault chan : Nat) : Nat :=
  (if bitOf (s.rf (R.tileVrepair vault) F.tileVrepair_BANK_SPARED) chan then 960 else 0) + (s.heap.repaired.filter (fun x => decide (x.1 = vault) && decide (x.2.1 = chan))).length

/-- A channel has a canary while one of its 1,024 spare rows is free. -/
def State.hasCanary (s : State) (unit : Nat) : Bool := decide (s.spareRows (unit / 16) (unit % 16) < 1024)

/-- The marked partitions of this sailing with the ns they have for items: QUIET less their DRAIN. -/
def State.marked (s : State) : List (Nat × Nat) :=
  s.partRecs.filterMap (fun r => match s.blockOf r.part with
    | some b => if b.survey then some (r.tiles, 10 * (s.rf R.sailPeriod F.sailPeriod_QUIET - b.drain)) else none
    | none => none)

/-- Units of a kind on a mask of tiles. -/
def unitsOf (kind tiles : Nat) : List Nat :=
  let ts := (List.range 64).filter (bitOf tiles)
  if kind = 0 then ts.flatMap (fun t => (List.range 8).map (fun i => 8 * t + i))
  else if kind = 1 then ts.flatMap (fun t => (List.range 5).map (fun i => 5 * t + i))
  else ts.flatMap (fun t => (List.range 16).map (fun i => 16 * t + i))

/-- Items of a partition's tiles: those of a kind together, one kind after another; what starts and what is deferred. -/
def tileItems (tiles : Nat) (ns : Nat) : List Nat → List (Nat × Nat) × List (Nat × Nat)
  | [] => ([], [])
  | k :: ks =>
    let us := (unitsOf k tiles).map (fun u => (k, u))
    if itemTime k ≤ ns then let r := tileItems tiles (ns - itemTime k) ks; (us ++ r.1, r.2)
    else let r := tileItems tiles ns ks; (r.1, us ++ r.2)

/-- The next eight links. -/
def State.nextLinks (s : State) : List (Nat × Nat) :=
  (List.range 8).map (fun i => (3, (s.rf R.pwrSurvey F.pwrSurvey_LINK_POS + i) % 245))

/-- The time left for the links: what the shortest of the marked partitions leaves after its items. -/
def linkTime (ms : List (Nat × Nat)) : Nat :=
  ((ms.map (fun m => m.2 - (([0, 1, 2].map (fun k => if itemTime k ≤ m.2 then itemTime k else 0)).sum))).min?).getD 0

def State.ledgerAdd (s : State) (unit monitor value : Nat) : State :=
  if s.flash.good then
    let l := s.flash.ledger ++ [⟨unit, monitor, value, s.rf R.pwrStatus F.pwrStatus_VENG_MV, s.rf R.pwrStatus F.pwrStatus_LOGIC_T, s.sail⟩]
    s.setFlash { s.flash with ledger := l.drop (l.length - 262144) }
  else s

/-- Items that do not run. -/
def State.defer (s : State) (n : Nat) : State :=
  (s.radd R.pwrSurvey F.pwrSurvey_DEFER n).rsetIf (decide (n > 0)) R.pwrEvent F.pwrEvent_SURVEY_DEFER 1

/-- SURVEY_START, in the QUIET of a survey sailing. -/
def execSurveyStart (s : State) : Host.Outcome State Fault Refusal :=
  let ms := s.marked
  if s.time.stage ≠ .quiet ∨ ms = [] then .next s
  else
    let rs := ms.map (fun m => tileItems m.1 m.2 [0, 1, 2])
    let go := (rs.flatMap (·.1))
    let none_ := go.filter (fun x => decide (x.1 = 2) && !(s.hasCanary x.2))
    let eyes := decide (500 ≤ linkTime ms)
    let run := go.filter (fun x => !(none_.contains x)) ++ (if eyes then s.nextLinks else [])
    let s1 := s.defer ((rs.flatMap (·.2)).length + none_.length + (if eyes then 0 else 8))
    let s2 := none_.foldl (fun s x => s.ledgerAdd x.2 5 0) s1
    let s3 := s2.rsetIf eyes R.pwrSurvey F.pwrSurvey_LINK_POS ((s2.rf R.pwrSurvey F.pwrSurvey_LINK_POS + 8) % 245)
    .next (s3.setPwr { s3.pwr with running := run, slack := none })

/-! ### Verdicts (R509, R510) -/

/-- A step of GUARD up or down at the next I0; at the top, the margin is gone. -/
def State.guardStep (s : State) (up : Bool) : State :=
  let g := s.rf R.pwrStatus F.pwrStatus_GUARD
  if up then
    if g ≥ 40 then (s.pwrCap 7).errBare clsDegrading 0x0D 7 0 else s.setPwr { s.pwr with guardDue := 1 }
  else if g = 0 ∨ s.pwr.guardDue > 0 then s
  else s.setPwr { s.pwr with guardDue := -1 }

/-- The slack codes of a survey are all in: 1 code or less anywhere raises the guard band; 6 or more everywhere, 1,000
surveys in a row, lowers it and ends lean operation that energy caused. -/
def State.slackDone (s : State) : State :=
  match s.pwr.slack with
  | none => s
  | some v =>
    let s1 := s.setPwr { s.pwr with slack := none, highRun := if v ≥ 6 then s.pwr.highRun + 1 else 0 }
    if v ≤ 1 then s1.guardStep true
    else if s1.pwr.highRun ≥ 1000 then
      let s2 := s1.guardStep false
      s2.setPwr { s2.pwr with highRun := 0, endDue := s2.pwr.byEnergy.foldl nins s2.pwr.endDue }
    else s1

/-- A path replica's slack code. -/
def State.slackSeen (s : State) (v : Nat) : State :=
  let s1 := s.setPwr { s.pwr with slack := some (match s.pwr.slack with
    | some w => min w v
    | none => v) }
  if s1.pwr.running.any (fun x => x.1 = 0) then s1 else s1.slackDone

/-- A ring oscillator's percentage of its baseline. -/
def State.oscSeen (s : State) (unit v : Nat) : State :=
  let tile := unit / 5
  let phys := unit % 5
  if v < 90 then s.becomeFailing tile phys 7
  else if v < 95 then
    match s.laneOf tile phys with
    | some j => if s.rf (R.teSpare tile) F.teSpare_STATE = 0 then s.spareShadow tile F.teSpare_REQ_LANE j else s
    | none => s
  else s

/-- The refresh interval in force in a vault, in ms (R190). -/
def State.refreshMs (s : State) (v : Nat) : Nat := 32 / 2 ^ s.rf (R.tileStatus v) F.tileStatus_THERM

/-- A canary's retention in ms: below 4 intervals its channel's rows are weak, below 2 the vault takes the doubled regime. -/
def State.canarySeen (s : State) (unit v : Nat) : State :=
  let vault := unit / 16
  let i := s.refreshMs vault
  let s1 := if v < 4 * i ∧ s.flash.good = true then s.setFlash { s.flash with weak := nins s.flash.weak unit } else s
  if v < 2 * i then
    s1.setHeap { s1.heap with
      short := nins s1.heap.short vault,
      regimeDue := mput s1.heap.regimeDue vault (max 1 (mgetD s1.heap.regimeDue vault (s1.rf (R.tileStatus vault) F.tileStatus_THERM))) }
  else s1

/-- A link's eye below its port's floor: an on-die link or a slip retrains, a channel of a Lararis port is failing; PCIe and
the twin are only recorded. -/
def State.eyeLow (s : State) (link ch : Nat) : State :=
  if link < 227 then
    match dieLinks[link]? with
    | some (r, p) => if s.portSt r p = 0 then s.setLink r p 1 else s
    | none => s
  else if link < 235 then s.slipRetrain (link - 227)
  else if link < 243 then s.chFail (link - 235) ch 3 false
  else s

/-- SURVEY_ITEM_DONE: an item that runs ends with a value; low: an eye below the floor of its port; ch: the channel of a
Lararis port. -/
def execSurveyItemDone (kind unit value : Nat) (low : Bool) (ch : Nat) (s : State) : Host.Outcome State Fault Refusal :=
  if s.pwr.running.contains (kind, unit) then
    let s1 := s.setPwr { s.pwr with running := s.pwr.running.erase (kind, unit) }
    let s2 := (s1.radd R.pwrSurvey F.pwrSurvey_DONE 1).ledgerAdd unit kind value
    .next (if kind = 0 then s2.slackSeen value
      else if kind = 1 then s2.oscSeen unit value
      else if kind = 2 then s2.canarySeen unit value
      else if low then s2.eyeLow unit ch
      else s2)
  else .next s

end Sys2Proof.Machine
end

