-- ==== Sys2Proof/Machine/Fwimg.lean ====
section
/-! DEFINITION. Firmware images: the ROM's check (R474, R475), the recovery mailbox (R476), an update (R529). -/

namespace Sys2Proof.Machine

/-! ### The check of an image (R474, R475) -/

/-- The firmware SVN an image carries, and its DIGEST. -/
def fwSvnOf (b : List Byte) : Nat := leAt b 0x10 8
def fwDigestOf (b : List Byte) : Nat := leAt b (leAt b 0x0C 4) 48

/-- FW_CODE of the first failing check of an image that begins a byte string, in the order of the codes; 0: none. -/
def State.fwCheck (s : State) (b : List Byte) : Nat :=
  let t := leAt b 0x0C 4
  let msg := slice b t 48
  if leAt b 0 4 ≠ 0x4957464A ∨ leAt b 4 2 ≠ 1 ∨ zeros b 6 2 = false ∨ zeros b 0x19 231 = false then 1
  else if t % 64 ≠ 0 ∨ t < 256 ∨ leAt b 8 4 ≠ t + 3421 ∨ 2 ^ 25 < leAt b 8 4 ∨ b.length < leAt b 8 4 then 2
  else if digestNum (Config.sha384 (b.take t)) ≠ fwDigestOf b then 3
  else if sigPairOk (digestNum Config.romKeyEd) (digestNum Config.romKeyMl) msg (slice b (t + 48) 64) (slice b (t + 112) 3309) = false then 4
  else if fwSvnOf b < popCount s.fuses.fwSvn 64 then 5
  else if s.rf R.glbId F.glbId_ROM_VER < leAt b 0x18 1 then 6
  else 0

/-- An image written to the firmware region of flash. -/
def State.fwStore (s : State) (b : List Byte) : State := s.setFlash { s.flash with fw := b ++ s.flash.fw.drop b.length }

/-- BRG_STATUS.WAIT: 0 none, 1 MANIFEST, 2 RECOVERY, 3 TWIN. -/
def State.brgWait (s : State) : Nat := s.rf R.brgStatus F.brgStatus_WAIT

def State.waitFor (s : State) (x : Nat) : State := s.rset R.brgStatus F.brgStatus_WAIT x

/-- The record being handled returns to the head of its queue (R521, R530); without firmware none is handled. -/
def State.romRuns (s : State) : State :=
  let s1 := s.putBack.showErr
  { s1 with brg := { s1.brg with rom := true } }

/-- Firmware started in bring-up: it runs, it is what measurement reports, and the repair map's requests are loaded (R588). -/
def State.fwStart (s : State) : State :=
  let s1 := (s.waitFor 0).setSec { s.sec with fwMeas := fwDigestOf s.flash.fw, fwSvn := fwSvnOf s.flash.fw, fwDue := none }
  let s2 : State := { s1 with brg := { s1.brg with rom := false } }
  ((s2.rset R.lcsCtl F.lcsCtl_HOLD_NEXT ((s2.repairVal 4).getD 0)).rset R.brgStart F.brgStart_FULL_PEND ((s2.repairVal 1).getD 0)).takeNext.showErr

/-- The ROM's check of the image in flash ends: a failure opens the recovery mailbox; a pass starts the firmware, or after a
watchdog restart lets it resume (FIRMWARE_RESUME). -/
def State.romVerdict (s : State) (code : Nat) : State :=
  if code ≠ 0 then (s.rset R.brgStatus F.brgStatus_FW_CODE code).waitFor 2
  else if s.brg.wdog then s.waitFor 0
  else s.fwStart

/-! ### Images from host memory -/

/-- The reads of a recovery image and of an update are these requesters'. -/
def rcvWho : List Nat := [10]
def fwWho : List Nat := [15]

/-- The recovery image has arrived, or its read has failed (R476). -/
def State.rcvDone (s : State) (r : RRead) : State :=
  if r.st ≠ 1 then s.romVerdict 7
  else
    let s1 := s.fwStore r.data
    let s2 : State := { s1 with brg := { s1.brg with fwNew := true } }
    if s1.flash.good = false then s.romVerdict 7
    else if 2 ^ 25 < r.len then s2.romVerdict 2
    else s2.romVerdict (s2.fwCheck s2.flash.fw)

/-- GLB_FW_STATUS after a step of R529: the state, and the code of a failure. -/
def State.fwState (s : State) (st : Nat) : State := s.rset R.glbFwStatus F.glbFwStatus_STATE st

def State.fwFail (s : State) (code : Nat) : State := (s.fwState 5).rset R.glbFwStatus F.glbFwStatus_CODE code

/-- The buffer lies in vault memory of PF0. -/
def State.fwBufOk (s : State) (pa : Nat) : Bool :=
  decide (s.placeOf pa = .vault) && decide (s.placeOf (pa + 2 ^ 25 - 128) = .vault) && decide (s.ownerOf pa = pfOwner)

/-- The new image has arrived, or its read has failed: it is copied to the buffer, checked, and written to flash (R529). -/
def State.fwLoadDone (s : State) (r : RRead) : State :=
  let pa := s.rf R.glbFwBuf F.glbFwBuf_BASE * 2 ^ 25
  if r.st ≠ 1 then s.fwFail 7
  else if 2 ^ 25 < r.len then s.fwFail 2
  else if s.fwBufOk pa = false then (if s.placeOf pa = .absent then s.noteDecode 3 pa else s).fwFail 7
  else
    let w := (s.chargeFor [14] hubAgent (s.linesNew hubAgent [(pa, r.data.length)])).moverWrite [14] hubAgent 1 pa r.data
    if !w.2.isEmpty then w.1.fwFail 7
    else
      let c := w.1.fwCheck r.data
      if c ≠ 0 then w.1.fwFail c
      else if w.1.flash.good then (w.1.fwStore r.data).fwState 3
      else w.1.fwFail 7

/-- Images and manifests whose reads have ended go on to their checks. -/
def State.imagesDone (s : State) : State :=
  (s.manArrived.heap.remReads.filter (fun r => decide (r.st ≠ 0) && (decide (r.who = rcvWho) || decide (r.who = fwWho)))).foldl (fun s r =>
    let s1 := s.remSet (s.heap.remReads.erase r)
    if r.who = rcvWho then s1.rcvDone r else s1.fwLoadDone r) s.manArrived

/-- RCV_LOAD: while the recovery mailbox is open, the image is read from host memory (R476). -/
def State.rcvLoad (s : State) : State :=
  if s.brgWait ≠ 2 ∨ (s.heap.remReads.any (fun r => r.who = rcvWho)) = true then s
  else (s.remIssue rcvWho (hostPa (s.rf R.brgRcvSrc F.brgRcvSrc_ADDR * 64)) (s.rf R.brgRcvLen F.brgRcvLen_LEN) 0).imagesDone

def execRcvLoad (s : State) : Host.Outcome State Fault Refusal := .next s.rcvLoad

/-- FW_LOAD: firmware reads a new image, unless a load or a handoff is in progress (R529). -/
def State.fwLoad (s : State) : State :=
  let st := s.rf R.glbFwStatus F.glbFwStatus_STATE
  if s.brg.rom ∨ st = 1 ∨ st = 2 ∨ st = 4 then s
  else
    ((s.fwState 1).remIssue fwWho (hostPa (s.rf R.glbFwSrc F.glbFwSrc_ADDR * 64)) (s.rf R.glbFwLen F.glbFwLen_LEN) 0).imagesDone

def execFwLoad (s : State) : Host.Outcome State Fault Refusal := .next s.fwLoad

end Sys2Proof.Machine
end

