-- ==== Sys2Proof/Machine/Pcie.lean ====
section
/-! DEFINITION. The host endpoint (R394 to R427): configuration space, resets and power states, completions of the hub's own
reads, BAR2, the link. -/

namespace Sys2Proof.Machine

/-! ### Configuration space (R396 to R400). The layout of standard capabilities inside their offsets is the PCI Express
standard's. -/

/-- A PF0 double word's reset value, where it does not depend on the rest of the state. -/
def cfgReset0 (o : Nat) : Nat :=
  match o with
  | 0x00 => 0x70301F6C
  | 0x04 => 0x00100000
  | 0x10 => 0x00000004
  | 0x18 => 0x0000000C
  | 0x34 => 0x00000040
  | 0x40 => 0x00035001
  | 0x44 => 0x00000008
  | 0x50 => 0x8002B010
  | 0x54 => 0x10008022
  | 0x58 => 0x00002000
  | 0x5C => 0x00410907
  | 0x74 => 0x0003080F
  | 0x7C => 0x000000FE
  | 0x80 => 0x00000007
  | 0xB0 => 0x07FF0011
  | 0xB4 => 0x00A10000
  | 0xB8 => 0x00A18000
  | 0x100 => 0x15020001
  | 0x108 => 0x00400000
  | 0x10C => 0x00462030
  | 0x114 => 0x00002000
  | 0x150 => 0x18010019
  | 0x180 => 0x1B010026
  | 0x1B0 => 0x1E01002A
  | 0x1E0 => 0x20010031
  | 0x200 => 0x25010027
  | 0x250 => 0x26010025
  | 0x254 => 0x80000001
  | 0x260 => 0x2701002F
  | 0x264 => 0x0000000E
  | 0x270 => 0x28010018
  | 0x280 => 0x2901001E
  | 0x284 => 0x00210A1E
  | 0x290 => 0x2A010003
  | 0x2A0 => 0x2B01000E
  | 0x2B0 => 0x2C01000F
  | 0x2B4 => 0x00000020
  | 0x2C0 => 0x30010010
  | 0x2D4 => 0x00010001
  | 0x2D8 => 0x70310000
  | 0x2DC => 0x0000001F
  | 0x2E0 => 0x00000001
  | 0x2E4 => 0x00000004
  | 0x300 => 0x3201002E
  | 0x320 => 0x42010030
  | 0x420 => 0x0001000B
  | 0x424 => 0x02010001
  | _ => 0

/-- A VF double word's reset value (R398). -/
def cfgResetV (o : Nat) : Nat :=
  match o with
  | 0x00 => 0xFFFFFFFF
  | 0x04 => 0x00100000
  | 0x34 => 0x00000040
  | 0x40 => 0x8002A010
  | 0x44 => 0x10008022
  | 0x4C => 0x00410907
  | 0x64 => 0x0003080F
  | 0xA0 => 0x000F0011
  | 0xA4 => 0x00002000
  | 0xA8 => 0x00003000
  | 0x100 => 0x1101000E
  | 0x110 => 0x0001000F
  | 0x114 => 0x00000020
  | _ => 0

def cfgReset (fn o : Nat) : Nat := if fn = 0 then cfgReset0 o else cfgResetV o

/-- The bits of a PF0 double word that a write sets. -/
def cfgRw0 (o : Nat) : Nat :=
  match o with
  | 0x04 => 0x00000146
  | 0x0C => 0x000000FF
  | 0x10 => 0xFC000000
  | 0x14 => 0xFFFFFFFF
  | 0x1C => 0xFFFFFFF8
  | 0x3C => 0x000000FF
  | 0x44 => 0x00000003
  | 0x58 => 0x000071EF
  | 0x60 => 0x000000C3
  | 0x78 => 0x0000140F
  | 0x80 => 0x0000000F
  | 0xB0 => 0xC0000000
  | 0x108 => 0x0047F010
  | 0x10C => 0x0047F010
  | 0x114 => 0x000031C1
  | 0x254 => 0x00000000
  | 0x268 => 0x0000000C
  | 0x274 => 0x1FFF1FFF
  | 0x288 => 0xE3FFFF0C
  | 0x28C => 0x000000FB
  | 0x2B4 => 0x801F0000
  | 0x2C8 => 0x00000019
  | 0x2D0 => 0x0000FFFF
  | 0x2E0 => 0x0000001F
  | 0x2E4 => 0xFFFF0000
  | 0x2E8 => 0xFFFFFFFF
  | 0x310 => 0xFFFFFFFF
  | _ => if 0x328 ≤ o ∧ o < 0x420 then 0xFFFFFFFF else 0

/-- The bits of a VF double word that a write sets. Memory Space Enable is the VF's own (R417). -/
def cfgRwV (o : Nat) : Nat :=
  match o with
  | 0x04 => 0x00000006
  | 0xA0 => 0xC0000000
  | 0x114 => 0x801F0000
  | _ => 0

def cfgRw (fn o : Nat) : Nat := if fn = 0 then cfgRw0 o else cfgRwV o

/-- The bits of a double word that writing 1 clears. -/
def cfgW1c (fn o : Nat) : Nat :=
  if o = 0x04 then 0xF9000000
  else if fn = 0 then (if o = 0x58 then 0x000F0000 else if o = 0x104 then 0x0047F010 else if o = 0x110 then 0x000031C1 else 0)
  else (if o = 0x48 then 0x000F0000 else 0)

/-- Lanes and speed as Link Status shows them. -/
def State.linkStatus (s : State) : Nat :=
  s.rf R.pciStatus F.pciStatus_RATE * 2 ^ 16 + s.rf R.pciStatus F.pciStatus_WIDTH * 2 ^ 20

/-- A configuration double word as read. -/
def State.cfgRead (s : State) (fn o : Nat) : Nat :=
  let v := s.cfgRaw fn o (cfgReset fn o)
  if o = 0x2C then s.fuses.subsys % 2 ^ 32
  else if fn ≠ 0 then (if o = 0x50 then s.linkStatus else v)
  else match o with
    | 0x08 => 0x12000000 + s.rf R.glbId F.glbId_BASE_STEP % 256
    | 0x60 => v + s.linkStatus
    | 0x294 => s.fuses.serial % 2 ^ 32
    | 0x298 => s.fuses.serial / 2 ^ 32 % 2 ^ 32
    | 0x2CC => if s.rf R.pciStatus F.pciStatus_VF_READY = 1 then 0x10001000 else 0
    | 0x428 => s.brgState % 8 + b2n s.conf * 8 + s.lcs % 8 * 16 + s.rf R.brgStatus F.brgStatus_STEP % 256 * 256
    | 0x430 => s.sail % 2 ^ 32
    | 0x434 => s.sail / 2 ^ 32 % 2 ^ 32
    | 0x438 => s.pci.eq128 % 2 ^ 17
    | _ => v

/-! ### Resets (R417 to R420) -/

/-- Registers of the PCI block in a range of offsets, but PCI_STATUS and PCI_FLR, at their reset values. -/
def State.pciRegsReset (s : State) (lo hi : Nat) : State :=
  let gone (k : Nat) : Bool :=
    decide (lo ≤ k) && decide (k < hi) && decide (k ≠ R.pciStatus) && !(decide (R.pciFlr 0 ≤ k) && decide (k < R.pciFlr 64))
  { s with regs := s.regs.filter (fun p => !(gone p.1)), shadow := s.shadow.filter (fun p => !(gone p.1)) }

/-- VFs cease to exist: none is enabled, none has configuration. -/
def State.vfsOff (s : State) : State :=
  { s with pci := { s.pci with vfs := 0, cfg := s.pci.cfg.filter (fun p => decide (p.1 < 1024)) } }

/-- VF Enable cleared: every tenant torn down (R419). -/
def State.vfEnableClear (s : State) : State :=
  let s1 := s.tearAll.vfsOff
  s1.cfgPut 0 0x2C8 (setBit (s1.cfgRaw 0 0x2C8 0) 0 false)

/-- PF0 torn down: every tenant, VF Enable, PF0's configuration space and MSI-X state, every DTU_ACK_ADDR write (R419). -/
def State.pf0Down (s : State) : State :=
  let s1 := s.tearAll.vfsOff.untrain 72 4096
  let s2 : State := { s1 with pci := { s1.pci with cfg := [] } }
  (s2.pciRegsReset 0xA10000 0xA20000).each (List.range 64) (fun s w =>
    s.rsetIf (decide (s.rf (R.dtuAckAddr w) F.dtuAckAddr_EN = 1) || (mget s.shadow (R.dtuAckAddr w)).isSome) (R.dtuAckAddr w)
      F.dtuAckAddr_EN 0)

/-- Every outstanding read of host memory fails with LINK_DOWN, and its tag is free (R420). -/
def State.failHostReads (s : State) : State :=
  let mine := s.heap.remReads.filter (fun r => onHost r.pa && decide (r.st = 0))
  let s1 := s.remSet (s.heap.remReads.map (fun r =>
    if onHost r.pa && decide (r.st = 0) then { r with left := [], wait := [], st := 2, data := [8] } else r))
  let fns := mine.flatMap (fun r => List.replicate (r.left.length + r.wait.length) r.func) ++ s.pci.orphan.filterMap (fun o => o.2.2)
  let s2 : State := { s1 with pci := { s1.pci with orphan := [], quar := [] } }
  (s2.each fns (fun s f => s.hostFail f 8)).relay.imagesDone

/-- PERST# or DL_Down (R420): the PCIe controller resets, PF0 is torn down, outstanding reads fail. PCLK's fords flush. -/
def State.pcieDown (s : State) (pin : Bool) : State :=
  let s1 := (s.pciRegsReset 0xA00000 0xA10000).failHostReads.pf0Down
  let s2 : State := { s1 with
    pci := { s1.pci with perst := pin, training := !pin, width := 0, eq128 := 0, stalled := [] }, fab := { s1.fab with lossSeen := s1.fab.lossSeen || s.hostUp }, dtu := { s1.dtu with atc := [], atsReq := [] } }
  ((((s2.rset R.pciStatus F.pciStatus_RATE 0).rset R.pciStatus F.pciStatus_WIDTH 0).rset R.pciStatus F.pciStatus_FLIT 0).rset
    R.pciStatus F.pciStatus_LPM 0).domTo 13 1

/-- PERST: PERST# is asserted (pin), or the link enters DL_Down. -/
def execPerst (pin : Bool) (s : State) : Host.Outcome State Fault Refusal := .next (s.pcieDown pin)

/-- LINK_TRAINING_START: PERST# has been released. -/
def execLinkTrainingStart (s : State) : Host.Outcome State Fault Refusal :=
  .next (if s.hostUp then s else { s with pci := { s.pci with perst := false, training := true } })

/-- PCIE_LINK_UP: training or retraining ends at a rate (1 to 7) and a width; eq: the equalisation bits of 128 GT/s (R400). -/
def execPcieLinkUp (rate width eq : Nat) (flit : Bool) (s : State) : Host.Outcome State Fault Refusal :=
  if s.pci.perst || decide (rate = 0) || decide (7 < rate) || !([1, 2, 4, 8, 16].contains width) then .next s
  else
    let s1 : State := { s with pci := { s.pci with training := false, width := width, eq128 := if rate = 7 then eq else 0 } }
    let s2 := ((((s1.rset R.pciStatus F.pciStatus_RATE rate).rset R.pciStatus F.pciStatus_WIDTH width).rset R.pciStatus
      F.pciStatus_FLIT (b2n (flit || decide (6 ≤ rate)))).rset R.pciStatus F.pciStatus_LPM 0).domTo 13 2
    .next ((s2.pumpTags s2.waiting).showTags)

/-- VF Enable set: NumVFs of the VFs, at most VF1 to VF7 without ARI Capable Hierarchy (R399). Before VF_READY it cannot be
set (R421). -/
def State.vfEnableSet (s : State) : State :=
  if s.rf R.pciStatus F.pciStatus_VF_READY = 0 then s
  else
    let ari := bitOf (s.cfgRaw 0 0x2C8 0) 4
    let n := min (s.cfgRaw 0 0x2D0 0 % 2 ^ 16) (if ari then 4096 else 7)
    let s1 := (s.cfgPut 0 0x2C8 (setBit (s.cfgRaw 0 0x2C8 0) 0 true)).rsetIf (!ari) R.pciStatus F.pciStatus_NO_ARI 1
    let s2 := s1.rsetIf ari R.pciStatus F.pciStatus_NO_ARI 0
    { s2 with pci := { s2.pci with vfs := n } }

/-- PF0's power state becomes D3hot, and every function acts as if disabled (R414). -/
def State.toD3 (s : State) : State := s.cfgPut 0 0x44 (s.cfgRaw 0 0x44 8 / 4 * 4 + 3)

/-- New requests of the host stall in QUIET (R38). -/
def State.stalling (s : State) : Bool := decide (s.time.stage = .quiet) && decide (s.rf R.sailStatus F.sailStatus_TB_RUN = 1)

/-- The host's requests stall: in QUIET, or while the fords between the PCIe controller and the fabric are shut (R38, R321). -/
def State.hostStalls (s : State) : Bool := s.stalling || s.fordShut 1 13

/-- A request stalled at its spur. -/
def State.stall (s : State) (r : HostReq) : State := { s with pci := { s.pci with stalled := s.pci.stalled ++ [r] } }

/-- A configuration write of the host named by what it asks for: it stalls in QUIET like any other (R38, R403). -/
def State.cfgAsk (s : State) (k : HReqK) (fn : Nat) (f : State → State) : State :=
  if s.hostStalls then s.stall ⟨k, fn, 0, true, 0, 0, [], false, false⟩ else f s

/-- VF_FLR of tenant t's VF. -/
def execVfFlr (t : Nat) (s : State) : Host.Outcome State Fault Refusal :=
  .next (s.cfgAsk .flr t (fun s => if t < s.pci.vfs then s.vfFlr t else s))

/-- PF0_FLR. -/
def execPf0Flr (s : State) : Host.Outcome State Fault Refusal := .next (s.cfgAsk .pfFlr 0 State.pf0Down)

/-- VF_ENABLE_CLEAR. -/
def execVfEnableClear (s : State) : Host.Outcome State Fault Refusal := .next (s.cfgAsk .vfOff 0 State.vfEnableClear)

/-- VF_ENABLE_SET. -/
def execVfEnableSet (s : State) : Host.Outcome State Fault Refusal := .next (s.cfgAsk .vfOn 0 State.vfEnableSet)

/-- D3HOT. -/
def execD3hot (s : State) : Host.Outcome State Fault Refusal := .next (s.cfgAsk .d3hot 0 State.toD3)

def execLtrSend (s : State) : Host.Outcome State Fault Refusal := .next s.ltrSend

/-! ### Configuration requests (R403) -/

/-- A double word with bytes replaced from byte b up. -/
def withBytes (old b : Nat) (data : List Byte) : Nat := leNat ((putBytes (leBytes 4 old) b data).take 4)

/-- What a write of a double word does beside the bits it stores. -/
def State.cfgEffect (s : State) (fn o old new : Nat) : State :=
  if fn = 0 then
    (if o = 0x58 ∧ bitOf new 15 then s.pf0Down
     else if o = 0x2C8 ∧ bitOf old 0 ∧ !(bitOf new 0) then s.vfEnableClear
     else if o = 0x2C8 ∧ !(bitOf old 0) ∧ bitOf new 0 then s.vfEnableSet
     else if o = 0x78 ∧ !(bitOf old 10) ∧ bitOf new 10 then s.ltrSend
     else s.showTags)
  else if o = 0x48 ∧ bitOf new 15 then s.vfFlr (fn - 1)
  else s

/-- The value a write leaves in a double word. A write of D1 or D2 leaves the power state; NumVFs is fixed while VF Enable is
set; VF Enable itself is put by its own effect. -/
def cfgWritten (fn o old new : Nat) (vfOn : Bool) : Nat :=
  let rw := if fn = 0 ∧ o = 0x44 ∧ (new % 4 = 1 ∨ new % 4 = 2) then 0
    else if fn = 0 ∧ o = 0x2D0 ∧ vfOn then 0
    else if fn = 0 ∧ o = 0x2C8 then 0x18
    else cfgRw fn o
  (BitVec.ofNat 32 ((old &&& (2 ^ 32 - 1 - rw)) ||| (new &&& rw)) &&& ~~~(BitVec.ofNat 32 (new &&& cfgW1c fn o))).toNat

/-- A configuration write taking effect. -/
def State.cfgWrite (s : State) (fn o b : Nat) (data : List Byte) : State :=
  let old := s.cfgRaw fn o (cfgReset fn o)
  let new := withBytes old b data
  let keep := cfgWritten fn o old new (bitOf (s.cfgRaw 0 0x2C8 0) 0)
  (if keep = old then s else s.cfgPut fn o keep).cfgEffect fn o old new

/-- A configuration request released (R403): functions that SR-IOV has not enabled answer nothing. -/
def State.cfgServe (s : State) (r : HostReq) : State :=
  if !s.hostUp || decide (s.pci.vfs < r.fn) || decide (4096 ≤ r.off) then s
  else if r.write then (s.cfgWrite r.fn (r.off / 4 * 4) (r.off % 4) r.data).send .cpl [r.fn, r.tag] []
  else s.send .cpl [r.fn, r.tag] (slice (leBytes 4 (s.cfgRead r.fn (r.off / 4 * 4))) (r.off % 4) r.len)

/-- HOST_CONFIG_REQUEST. -/
def execHostConfigRequest (fn off : Nat) (write : Bool) (data : List Byte) (len tag : Nat) (s : State) :
    Host.Outcome State Fault Refusal :=
  let r : HostReq := ⟨.cfg, fn, off, write, len, tag, data, false, false⟩
  .next (if s.hostStalls then s.stall r else s.cfgServe r)

/-! ### The hub as completer (R401, R402, R404) -/

/-- Unsupported Request (status 1) or Completer Abort (status 4): a read gets the status, a posted write nothing. -/
def State.unsupported (s : State) (r : HostReq) : State :=
  let s1 := s.aer aerUnc 20
  if r.write then s1 else s1.send .cplUr [r.fn, r.tag, 1] []

/-- A read's data in completions no larger than the host's MPS that end at 128-byte boundaries. -/
def State.complete (s : State) (r : HostReq) (d : List Byte) : State :=
  (cutRead (r.len / s.mps + 3) r.off r.len s.mps s.mps 0).foldl (fun s p => s.send .cpl [r.fn, r.tag, r.len - p.1] (slice d p.1 p.2)) s

/-- Before READY (R421). -/
def State.early (s : State) : Bool := decide (s.brgState ≠ 1) && decide (s.rf R.pciStatus F.pciStatus_VF_READY = 0)

/-- A bad line met by BAR2: a marked one reads as 0 with a CORRECTED record (R527), else it is as any requester's without a
tenant (R189, R524). It answers whether data may be returned. -/
def State.bar2Bad (s : State) (write : Bool) (x : Nat × LineRes) : State × Bool :=
  let h := s.homeOf (x.1 * 128)
  match x.2 with
  | .inval => (if write then s
    else s.report ⟨clsCorrected, 0x0E, 3, 0, none, 0, none, some (x.1 * 128), s.sail, false⟩, true)
  | .ue b c => if write then (s, true) else (s.memUe x.1 b c h none, false)
  | .fenced => ((s.fencedCap x.1).voidAll 0x44 0x04 0x07 (s.vaultOf (x.1 * 128)).1 (some (x.1 * 128)), false)
  | _ => (s, true)

def State.bar2Bads (s : State) (write : Bool) (l : List (Nat × LineRes)) : State × Bool :=
  l.foldl (fun p x =>
    let r := p.1.bar2Bad write x
    (r.1, p.2 && r.2)) (s, true)

/-- An owner the carve-up names in a range has its TDI locked or running. -/
def State.bar2Held (s : State) (pa n : Nat) : Bool :=
  (linesOf pa n).any (fun l => decide (s.ownerOf (l * 128) < 4096) && s.tdiHeld (s.ownerOf (l * 128)))

/-- The requester a BAR2 request's accesses are for. -/
def HostReq.who (r : HostReq) : List Nat := [13, r.off, r.tag]

/-- A BAR2 request's lines can be accessed and its toll has tokens (R294). -/
def State.bar2Ready (s : State) (r : HostReq) (ps : List (Nat × Nat)) : Bool :=
  (if r.write then s.putReady r.who 72 1 ps else s.piecesReady r.who 72 1 ps) && s.tollOk r.who 72 (s.linesNew 72 ps)

/-- A BAR2 request that cannot be served yet waits at its spur; its lines and its tokens are asked for. -/
def State.bar2Wait (s : State) (r : HostReq) (ps : List (Nat × Nat)) : State :=
  ((if r.write then s.openWrites r.who 72 1 0 ps else s.openReads r.who 72 1 0 ps).payFor r.who 72 (s.linesNew 72 ps)).stall r

/-- A read through BAR2 is PF0's demand read: it trains the prefetchers of its lines' slices (R198). -/
def State.bar2Train (s : State) (pa n : Nat) : State :=
  (linesOf pa n).foldl (fun s l => s.spfTrain ⟨.rdc, l, 72, 0, 0, 0, false, false, 2, 4096, 0, false⟩) s

/-- A BAR2 request served (R218, R220, R402). For a read, poison says that its data met DMG on the fabric (R304). -/
def State.bar2Serve (s : State) (r : HostReq) : State :=
  let n := if r.write then r.data.length else r.len
  if !s.hostUp then s
  else if r.write && r.poison then s.aer aerUnc 12
  else if !(s.memSpace 0) then s.unsupported r
  else if n = 0 then (if r.write then s else s.send .cpl [r.fn, r.tag, 4] (List.replicate 4 0))
  else if s.early then
    let s1 := s.radd R.pciCnt F.pciCnt_EARLY 1
    if r.write then s1 else s1.complete r (List.replicate n 0)
  else if vaultEnd < r.off + n then
    let s1 := s.noteDecode 1 r.off
    if r.write then s1 else s1.complete r (List.replicate n 0)
  else if s.bar2Held r.off n then (s.unsupported r).noteDecode 1 r.off
  else if !(s.bar2Ready r [(r.off, n)]) then s.bar2Wait r [(r.off, n)]
  else if r.write then
    let w := (s.chargeFor r.who 72 (s.linesNew 72 [(r.off, n)])).moverWrite r.who 72 1 r.off r.data
    (w.1.bar2Bads true w.2).1
  else
    let w := (s.chargeFor r.who 72 (s.linesNew 72 [(r.off, n)])).moverRead r.who 72 1 r.off n
    let b := (w.1.bar2Train r.off n).bar2Bads false w.2.2
    if r.poison || !b.2 then (b.1.aer aerUnc 15).send .cplUr [r.fn, r.tag, 4] []
    else b.1.complete r w.2.1

/-- HOST_BAR2_READ; dmg: the data met a DMG flit. -/
def execHostBar2Read (off len tag : Nat) (dmg : Bool) (s : State) : Host.Outcome State Fault Refusal :=
  let r : HostReq := ⟨.bar2, 0, off, false, len, tag, [], dmg, false⟩
  .next (if s.hostStalls then s.stall r else s.bar2Serve r)

/-- HOST_BAR2_WRITE. -/
def execHostBar2Write (off : Nat) (data : List Byte) (poison : Bool) (s : State) : Host.Outcome State Fault Refusal :=
  let r : HostReq := ⟨.bar2, 0, off, true, 0, 0, data, poison, false⟩
  .next (if s.hostStalls then s.stall r else s.bar2Serve r)

/-! ### Completions of the hub's reads (R408 to R411) -/

/-- The read of host memory that waits under a tag. -/
def State.hostReadOf (s : State) (tag : Nat) : Option RRead :=
  s.heap.remReads.find? (fun r => onHost r.pa && decide (r.st = 0) && r.left.any (fun x => x.1 = tag))

/-- A read replaced in the table. -/
def State.putRead (s : State) (old new : RRead) : State := s.remSet (s.heap.remReads.map (fun x => if x = old then new else x))

/-- After a tag became free: waiting pieces go out, PCI_TAG follows, fabric requesters get their answers. -/
def State.afterTag (s : State) : State := ((s.pumpTags s.waiting).showTags).relay.imagesDone

/-- A read fails: its data is discarded, its other tags stay in use until they end (R409). -/
def State.readFails (s : State) (r : RRead) (tag cause : Nat) : State :=
  let s1 := (s.hostFail r.func cause).putRead r { r with left := [], wait := [], st := 2, data := [BitVec.ofNat 8 cause] }
  { s1 with
    pci := { s1.pci with
      orphan := s1.pci.orphan ++ ((r.left.filter (fun x => x.1 ≠ tag)).map (fun x => (x.1, x.2.2, some r.func))) } }

/-- Tenants' partitions paired on the primary: the data read is ferried with its requester (R535). -/
def State.ferryRead (s : State) (r : RRead) : State :=
  if s.partOfFn r.func < 64 then
    s.ferry 3 (s.partOfFn r.func) (hostAddr r.pa) ([BitVec.ofNat 8 (r.who.headD 0)] ++ List.replicate 7 0 ++ r.data)
  else s

/-- A piece of good data for a tag of a read. -/
def State.pieceIn (s : State) (r : RRead) (x : Nat × Nat × Nat) (d : List Byte) : State :=
  let rest := x.2.2 - d.length
  let left := if rest = 0 then r.left.erase x else r.left.map (fun y => if y = x then (x.1, x.2.1 + d.length, rest) else y)
  let fin := left.isEmpty && r.wait.isEmpty
  let r1 : RRead := { r with data := putBytes r.data x.2.1 d, left := left, st := if fin then 1 else 0 }
  let s1 := s.putRead r r1
  if fin then s1.ferryRead r1 else s1

/-- PCI_ERR's code of a completion that fails its read; none for a good one (R408, R409, R425). st: the completion status, 0
Successful, 1 Unsupported Request, 4 Completer Abort. count: the bytes it says remain, its own among them. -/
def cplCause (st : Nat) (poison : Bool) (count expected len : Nat) : Option Nat :=
  if st = 1 then some 3 else if st ≠ 0 then some 4 else if poison then some 5
  else if count ≠ expected ∨ expected < len ∨ len = 0 then some 6 else none

/-- The AER error a failing completion raises: Poisoned TLP Received, Malformed TLP. -/
def State.cplAer (s : State) (cause : Nat) : State :=
  if cause = 5 then s.aer aerUnc 12 else if cause = 6 then s.aer aerUnc 18 else s

/-- A discarded piece: counted; log: reported as Unexpected Completion, advisory (R411). -/
def State.lateCpl (s : State) (fn : Nat) (log : Bool) : State :=
  let s1 := s.radd R.pciCnt F.pciCnt_LATE 1
  if log then ((s1.cfgPut 0 aerUnc (setBit (s1.cfgRaw 0 aerUnc 0) 16 true)).aer aerCor 13).pciCap fn 2 else s1

/-- PCIE_COMPLETION with the function it names. -/
def execPcieCompletion (fn tag st : Nat) (poison : Bool) (count : Nat) (data : List Byte) (s : State) :
    Host.Outcome State Fault Refusal :=
  match s.hostReadOf tag with
  | some r =>
    match r.left.find? (fun x => x.1 = tag) with
    | some x =>
      match cplCause st poison count x.2.2 data.length with
      | some c => .next ((s.readFails r tag c).cplAer c).afterTag
      | none => .next (s.pieceIn r x data).afterTag
    | none => .next s
  | none =>
    match s.pci.orphan.find? (fun o => o.1 = tag) with
    | some o =>
      let bad := cplCause st poison count o.2.1 data.length
      let fin := bad.isSome || decide (o.2.1 ≤ data.length)
      let s1 : State := { s with
        pci := { s.pci with
          orphan := if fin then s.pci.orphan.erase o
            else s.pci.orphan.map (fun y => if y = o then (o.1, o.2.1 - data.length, o.2.2) else y) } }
      (match bad, o.2.2 with
        | some c, some f => .next ((s1.hostFail f c).cplAer c).afterTag
        | _, _ => .next s1.afterTag)
    | none =>
      match s.pci.quar.find? (fun q => q.1 = tag) with
      | some q =>
        let s1 : State := { s with pci := { s.pci with quar := s.pci.quar.map (fun y => if y = q then (tag, true) else y) } }
        .next (s1.lateCpl fn (!q.2))
      | none => .next (if s.hostUp then s.lateCpl fn true else s)

/-- COMPLETION_TIMEOUT of a tag: the read fails, its tag is quarantined. A read of a torn-down VF reports nothing (R418). -/
def execCompletionTimeout (tag : Nat) (s : State) : Host.Outcome State Fault Refusal :=
  let quar (s : State) : State := { s with pci := { s.pci with quar := s.pci.quar ++ [(tag, false)] } }
  match s.hostReadOf tag with
  | some r => .next (quar ((s.readFails r tag 1).aer aerUnc 14)).afterTag
  | none =>
    match s.pci.orphan.find? (fun o => o.1 = tag) with
    | some o =>
      let s1 : State := { s with pci := { s.pci with orphan := s.pci.orphan.erase o } }
      (match o.2.2 with
        | some f => .next (quar ((s1.hostFail f 1).aer aerUnc 14)).afterTag
        | none => .next (quar s1).afterTag)
    | none => .next s

/-- TAG_QUARANTINE_END. -/
def execTagQuarantineEnd (tag : Nat) (s : State) : Host.Outcome State Fault Refusal :=
  .next ({ s with pci := { s.pci with quar := s.pci.quar.filter (fun q => q.1 ≠ tag) } } : State).afterTag

/-! ### Link power states and errors (R415, R422, R426) -/

/-- Nothing is pending in either direction. -/
def State.linkIdle (s : State) : Bool :=
  s.hostTags.isEmpty && decide (s.waiting = 0) && s.rings.spill.isEmpty && s.rings.due.isEmpty && s.rings.vecDue.isEmpty &&
    s.rings.vecSpill.isEmpty

/-- L0P_ENTRY: where L0p is enabled (Device Control 3) and L0P_IDLE asks for it. -/
def execL0pEntry (s : State) : Host.Outcome State Fault Refusal :=
  if bitOf (s.cfgRaw 0 0x268 0) 3 ∧ s.rf R.pciLpm F.pciLpm_L0P_IDLE ≠ 0 ∧ s.hostUp ∧ s.rf R.pciStatus F.pciStatus_LPM = 0 ∧
      s.waiting = 0 ∧ 4 < s.pci.width then
    .next ((s.rset R.pciStatus F.pciStatus_WIDTH 4).rset R.pciStatus F.pciStatus_LPM 1)
  else .next s

/-- L0P_EXIT. -/
def execL0pExit (s : State) : Host.Outcome State Fault Refusal :=
  .next (if s.rf R.pciStatus F.pciStatus_LPM = 1 then s.toL0 else s)

/-- L1_ENTRY: where ASPM L1 is enabled (Link Control) and L1_IDLE asks for it; sub: on to L1.1 or L1.2, where L1 PM Substates
Control 1 enables one under ASPM. -/
def execL1Entry (sub : Bool) (s : State) : Host.Outcome State Fault Refusal :=
  if bitOf (s.cfgRaw 0 0x60 0) 1 ∧ s.rf R.pciLpm F.pciLpm_L1_IDLE ≠ 0 ∧ s.hostUp ∧ s.linkIdle then
    .next (s.rset R.pciStatus F.pciStatus_LPM (if sub ∧ bitsOf (s.cfgRaw 0 0x288 0) 2 2 ≠ 0 then 3 else 2))
  else .next s

/-- L1_EXIT. -/
def execL1Exit (s : State) : Host.Outcome State Fault Refusal :=
  .next (if 2 ≤ s.rf R.pciStatus F.pciStatus_LPM then s.toL0 else s)

/-- PCIE_RECEIVER_ERROR: 0 Receiver Error, 1 Bad TLP, 2 Bad DLLP, 3 Replay Timer Timeout, 4 REPLAY_NUM Rollover. -/
def execPcieReceiverError (kind : Nat) (s : State) : Host.Outcome State Fault Refusal :=
  .next ((s.aer aerCor ([0, 6, 7, 12, 8].getD kind 0)).errBare clsCorrected 0x0A 0 0)

/-- PCI_CTL.CLR. -/
def State.pciClr (s : State) : State := (s.rput R.pciCnt 0).rput R.pciCnt2 0

def execPciClr (s : State) : Host.Outcome State Fault Refusal := .next s.pciClr

end Sys2Proof.Machine
end

