-- ==== Sys2Proof/Machine/BringUp.lean ====
section
/-! DEFINITION. Reset and bring-up (R471 to R495, R595 to R598). A row that begins a step carries the time since keep-alive
power good, in milliseconds, that BRG_TIME shows. -/

namespace Sys2Proof.Machine

/-! ### Reset (R24, R472, R497, R597) -/

/-- The life-cycle registers as the fuses give them (R576, R588, R589). -/
def State.showFuses (s : State) : State :=
  ((s.rset R.lcsStatus F.lcsStatus_STATE (lcDecode s.fuses.lc)).showField).showDebug 0 0

/-- The whole hub reset: fuses and flash keep their content, the life-cycle registers show the fuses (R7); the repair map tells
that the start ended in FATAL (R482); what has left the hub has left it. -/
def State.hubReset (s : State) : State :=
  let s1 := if s.err.fatal && s.flash.repair.inForce.isSome then s.recordRepair 3 1 else s
  ({ State.reset with pending := s.pending, fresh := s.fresh, out := s.out, fuses := s.fuses, flash := s1.flash } : State).showFuses

/-- HUB_RST_N low for 1 µs or more. -/
def execHubRstN (s : State) : Host.Outcome State Fault Refusal := .next s.hubReset

/-- KA_SUPPLY_LOSS: both keep-alive supplies unhealthy. -/
def execKaSupplyLoss (s : State) : Host.Outcome State Fault Refusal := .next s.hubReset

/-! ### Steps (R471) -/

/-- BRG_STATUS.STEP. -/
def State.brgStep (s : State) : Nat := s.rf R.brgStatus F.brgStatus_STEP

/-- A step has been reached. -/
def State.reached (s : State) (i : Nat) : Bool := s.rf (R.brgTime (i - 1)) F.brgTime_MS ≠ 0xFFFFFFFF

/-- A step begins. -/
def State.beginStep (s : State) (i ms : Nat) : State :=
  (s.rset R.brgStatus F.brgStatus_STEP i).rset (R.brgTime (i - 1)) F.brgTime_MS ms

def State.brgTo (s : State) (st : Nat) : State := s.rset R.brgStatus F.brgStatus_STATE st

def State.setBrg (s : State) (x : BrgSt) : State := { s with brg := x }

/-- Bring-up is in a step that the step before it may have ended. -/
def State.inStep (s : State) (i : Nat) : Bool := decide (s.brgState = 0) && decide (s.brgStep = i)

/-- KEEPALIVE_POWER_GOOD: KCLK runs, the boot ROM runs, the generator's health tests pass (R548). -/
def execKeepalivePowerGood (s : State) : Host.Outcome State Fault Refusal :=
  .next (if s.reached 1 then s else ((s.beginStep 1 0).domTo 15 2).rset R.salStatus F.salStatus_DRBG_OK 1)

/-- FUSES: the life-cycle state in force is decoded; LOCKED and SCRAPPED stop bring-up (R473, R577, R585). -/
def execFuses (ms : Nat) (s : State) : Host.Outcome State Fault Refusal :=
  if s.inStep 1 && s.reached 1 then
    let lc := lcDecode s.fuses.lc
    let s1 := (s.beginStep 2 ms).showFuses
    .next (if lc = 4 ∨ lc = 7 then s1.brgTo 3 else s1)
  else .next s

/-- FIRMWARE: the ROM checks the image in flash. -/
def execFirmware (ms : Nat) (s : State) : Host.Outcome State Fault Refusal :=
  .next (if s.inStep 2 then (s.beginStep 3 ms).romVerdict (s.fwCheck s.flash.fw) else s)

/-! ### The candidate (R477, R478, R579) -/

/-- A staged manifest becomes the candidate. -/
def State.candidate (s : State) : State := (s.manTo 4).waitFor 0

/-- No saved manifest passes: bring-up waits for one. -/
def State.noCandidate (s : State) (v : Verdict) : State := (s.manResult (some (v.getD (0x14, 0, 0))) none).waitFor 1

/-- CANDIDATE: the saved manifest in force in flash is checked; after HOLD_NEXT it counts as absent. -/
def State.findCandidate (s : State) : State :=
  if s.rf R.lcsCtl F.lcsCtl_HOLD_NEXT = 1 then
    ((s.rset R.lcsCtl F.lcsCtl_HOLD_NEXT 0).recordRepair 4 0).noCandidate none
  else match s.flash.saved.inForce with
    | some r =>
      let c := s.checkMan r.bytes
      (match c.2 with
        | some m => (s.manResult c.1 (some m)).candidate
        | none => s.noCandidate c.1)
    | none => s.noCandidate none

def execCandidate (ms : Nat) (s : State) : Host.Outcome State Fault Refusal :=
  .next (if s.inStep 3 && !s.brg.rom then (s.beginStep 4 ms).findCandidate else s)

/-! ### HELD (R488, R490, R491) -/

/-- A slip held in UCIe link reset: its link is down, its trackers are cleared (R200). -/
def State.holdSlip (s : State) (v : Nat) : State := (if s.slState v = 0 then s else (s.slipTo v 4).domTo (4 + v) 1).untrain (64 + v) 4096

/-- The hub enters HELD: slips and stacks in reset, the twin link down, the candidate back to STAGED. -/
def State.enterHeld (s : State) : State :=
  let s0 := (((s.brgTo 2).waitFor 0).manTo 3).rset R.twinStatus F.twinStatus_LINK 0
  let s1 := (if s.rf (R.fordDom 14) F.fordDom_STATE = 0 then s0 else s0.domTo 14 1).each (List.range 8) State.holdSlip
  let s2 := s1.each (List.range 8) (fun s p => s.rset (R.lrsStatus p) F.lrsStatus_STATE 0)
  let s3 := s2.setBrg { s2.brg with agreed := none, window := false }
  { s3 with pins := { s3.pins with slipRst := 255, lrsRst := 255, hb := false } }

/-- Bring-up restarts at TRAIN with the candidate (R491). -/
def State.restartTrain (s : State) : State :=
  ((((s.candidate).brgTo 0).rset R.brgStatus F.brgStatus_STEP 5).rput R.brgMism 0).setBrg { s.brg with
    restarted := true, agreed := none, discovered := false, window := false }

/-- BRG_CTL.RETRY. -/
def State.brgRetry (s : State) : State := if s.brgState = 2 ∧ s.manState = 3 then s.restartTrain else s

def execBrgCtlRetry (s : State) : Host.Outcome State Fault Refusal := .next s.brgRetry

/-- MANIFEST_CHECK_DONE: the check of a staged manifest ends. In bring-up's wait for one, a manifest that passes becomes the
candidate; in HELD it restarts bring-up at TRAIN. -/
def execManifestCheckDone (s : State) : Host.Outcome State Fault Refusal :=
  let s1 := s.manCheck
  if s.manState ≠ 3 ∧ s1.manState = 3 then
    .next (if s1.inStep 4 ∧ s1.brgWait = 1 then s1.candidate else if s1.brgState = 2 then s1.restartTrain else s1)
  else .next s1

/-- FULL_NEXT: the request is recorded in the repair map. -/
def State.fullNext (s : State) : State := (s.recordRepair 1 1).rset R.brgStart F.brgStart_FULL_PEND 1

def execFullNext (s : State) : Host.Outcome State Fault Refusal := .next s.fullNext

/-! ### Training (R24, R480, R481) -/

/-- The time base starts: SAIL_NUM 0 begins. -/
def State.startTime (s : State) : State :=
  if s.rf R.sailStatus F.sailStatus_TB_RUN = 1 then s
  else
    { (s.rset R.sailStatus F.sailStatus_TB_RUN 1).rput R.sailNum 0 with
      time := ⟨0, 0, .boundary, 0, false⟩ }

/-- PORTS of a router whose links are trained: every port with a link is UP, and a torus router's tile port (R307). -/
def portsUp (r : Nat) : Nat :=
  ((List.range 8).map (fun p => if (portTo r p).isSome || (decide (r < 64) && decide (p = 6)) then 0 else 3 * 4 ^ p)).sum

/-- The torus and spur links trained (R480). -/
def State.trainFabric (s : State) : State := s.each (List.range 83) (fun s r => s.rset (R.octLink r) F.octLink_PORTS (portsUp r))

/-- A populated or declared port begins to train; an EMPTY slip, an unpopulated port and an undeclared twin have their domain
OFF (R297, R353, R376, R479). -/
def State.trainPorts (s : State) (m : Manifest) : State :=
  let s1 := (m.slips.zipIdx).foldl (fun s x =>
    if x.1.role = 0 then (s.slipTo x.2 0).rset (R.octPwr (512 + x.2)) F.octPwr_STATE 3
    else (((s.slipTrain x.2).rset (R.octPwr (512 + x.2)) F.octPwr_STATE 0).domTo (4 + x.2) 1).rset (R.fordDom (4 + x.2)) F.fordDom_LOCK 1) s
  let s2 := s1.each (List.range 8) (fun s p =>
    if bitOf m.stackMask p then (s.rset (R.lrsStatus p) F.lrsStatus_STATE 1).rset (R.octPwr (520 + p)) F.octPwr_STATE 0
    else (s.rset (R.lrsStatus p) F.lrsStatus_STATE 0).rset (R.octPwr (520 + p)) F.octPwr_STATE 3)
  let s3 : State := { s2 with pins := { s2.pins with lrsRst := 255 - m.stackMask % 256 } }
  if m.twinDeclared then (((s3.rset R.twinStatus F.twinStatus_LINK 1).rset (R.octPwr 528) F.octPwr_STATE 0).domTo 14 1).rset (R.fordDom 14) F.fordDom_LOCK 1
  else s3.rset (R.octPwr 528) F.octPwr_STATE 3

/-- A populated stack's identity record is read and it is trained: to the settings saved for its serial number, or in full to new ones
(R375, R383, R480). What a stack's record and a training give is outside the hub: free values (log 209). -/
def State.trainStack (s : State) (p : Nat) : State :=
  let id := Config.freeValue s.fresh (16 + p)
  (s.setLp p { s.lp p with serial := id, settings := s.settingsOf (trainKey 0 id) (24 + p) }).tick

/-- TRAIN: the rails are checked (R595; rail 0 to 7 out of range: FATAL), the PLLs and the time base start, the first setpoint
goes to the VDD_ENG regulator (R505, R594), ports train. -/
def execTrain (ms : Nat) (badRail : Option Nat) (s : State) : Host.Outcome State Fault Refusal :=
  match s.man.staged with
  | some m =>
    if s.manState = 4 ∧ (s.inStep 4 ∨ (s.inStep 5 ∧ s.brg.restarted)) then
      match badRail with
      | some r => .next (((s.beginStep 5 ms).pwrCap 2).fatal 0x0D 2 r)
      | none =>
        let s1 := ((s.beginStep 5 ms).rput R.brgMism 0).startTime
        let s2 := [0, 1, 2, 3, 12, 16].foldl (fun s d => s.domTo d 2) s1
        let s3 := s2.rset R.pwrStatus F.pwrStatus_VENG_MV (s2.setpoint (s2.rf R.pwrStatus F.pwrStatus_GUARD))
        let ports := (List.range 8).filter (bitOf m.stackMask)
        .next ((((s3.trainFabric.trainPorts m).each ports State.trainStack).each ports (fun s p => s.saveTrain (trainKey 0 (s.lp p).serial)
          (s.lp p).settings)).setBrg { s3.brg with window := m.twinDeclared, discovered := false, agreed := none })
    else .next s
  | none => .next s

/-! ### The memory test (R482 to R485) -/

/-- The repair map, where it names this hub; without a valid one the factory repair held in fuses (R482). -/
def State.ownRepair (s : State) : NMap Nat :=
  match s.flash.repair.inForce with
  | some r => if r.dsn = s.fuses.serial then r.vals else s.fuses.factory
  | none => s.fuses.factory

/-- The first reason for a full start; 0: a warm start (R482). -/
def State.startReason (s : State) : Nat :=
  if s.brg.restarted then 0
  else match s.flash.repair.inForce with
    | none => 1
    | some r =>
      if r.dsn ≠ s.fuses.serial then 2
      else if mgetD r.vals 0 0 = 1 then 3
      else if mgetD r.vals 1 0 = 1 then 4
      else if 32 ≤ mgetD r.vals 2 0 then 5
      else if mgetD r.vals 3 0 = 1 then 6
      else 0

/-- A register the repair map holds, restored: of a TE its physical number and LOST, of a tile the LLC's spare and ways, of a channel the
one it carries and its state but for a copy's, which no copy follows after a start: a FAILING channel is in service, a COPY_TARGET free
(R387, R393). -/
def State.restoreReg (s : State) (key v : Nat) : State :=
  let w : Word := BitVec.ofNat 64 v
  match regOf key with
  | some (d, [i]) =>
    if d.name = .teStatus then
      (s.rset key F.teStatus_PHYS (fget w F.teStatus_PHYS)).rsetIf (decide (fget w F.teStatus_STATE = 4)) key F.teStatus_STATE 4
    else if d.name = .tileStatus then
      (s.rset key F.tileStatus_LLC_SPARE (fget w F.tileStatus_LLC_SPARE)).rset key F.tileStatus_CWAYS
        (fget (resetReg key) F.tileStatus_CWAYS - s.rf (R.tileLlcSpare i) F.tileLlcSpare_LOST)
    else if d.name = .teSpare then
      let s1 := s.rput key v
      if fget w F.teSpare_STATE = 1 then
        let x := 5 * i + fget w F.teSpare_SPARE_PHYS
        s1.setPh x { s1.ph x with carryQ := fget w F.teSpare_SERVES }
      else s1
    else s.rput key v
  | some (d, _) =>
    if d.name = .lrsCh then
      let st := fget w F.lrsCh_STATE
      (s.rset key F.lrsCh_SERVES (fget w F.lrsCh_SERVES)).rset key F.lrsCh_STATE (if st = 2 then 1 else if st = 3 then 0 else st)
    else s.rput key v
  | none => s

/-- The registers a repair map's record holds, those of the tiles' status last; it speaks of no other register (R487). -/
def repairRegs (m : NMap Nat) : List (Nat × Nat) :=
  let regs := m.filter (fun p => decide (2 ^ 32 ≤ p.1) && decide (p.1 < 2 ^ 40) && (regOf (p.1 % 2 ^ 32)).any (fun x => repairReg x.1.name))
  let late (p : Nat × Nat) : Bool := (regOf (p.1 - 2 ^ 32)).any (fun x => x.1.name = .tileStatus)
  (regs.filter (fun p => !(late p))) ++ regs.filter late

/-- The rows a repair map's record holds under a mark: 1 repaired, 2 fenced. -/
def repairRows (m : NMap Nat) (x : Nat) : List (Nat × Nat × Nat × Nat) :=
  (m.filter (fun p => decide (2 ^ 40 ≤ p.1) && decide (p.2 = x))).map (fun p => rowOfKey p.1)

/-- The saved repair map applied, its counts of ways before the tiles' status; the ports show their channels. -/
def State.applyRepair (s : State) : State :=
  let s1 := (repairRegs s.ownRepair).foldl (fun s p => s.restoreReg (p.1 % 2 ^ 32) p.2) s
  (s1.setHeap { s1.heap with repaired := repairRows s.ownRepair 1, fenced := repairRows s.ownRepair 2 }).each (List.range 8) State.showChans

/-- A failed row of the 960 a bank has: replaced by a spare row of its bank while one is left, or fenced (R182, R189). -/
def State.testRow (s : State) (x : Nat × Nat × Nat × Nat) (found : Bool) : State :=
  if s.heap.repaired.contains x || s.heap.fenced.contains x || decide (960 ≤ x.2.2.2) then s
  else if found && s.rowSpare x.1 x.2.1 x.2.2.1 then
    (s.radd (R.tileVrepair x.1) F.tileVrepair_ROWS 1).setHeap { s.heap with repaired := s.heap.repaired ++ [x] }
  else
    ((((s.setHeap { s.heap with fenced := s.heap.fenced ++ [x] }).radd (R.tileVrepair x.1) F.tileVrepair_FENCED 1).captureAt
      (R.tileErr x.1) capStd 7).errBare clsDegrading 0x04 7 x.1)

/-- A failed bank: the channel's other spare rows replace it while they are all unused, else its rows are fenced. -/
def State.testBank (s : State) (v c b : Nat) : State :=
  let spared := bitOf (s.rf (R.tileVrepair v) F.tileVrepair_BANK_SPARED) c
  if spared || s.heap.repaired.any (fun x => decide (x.1 = v) && decide (x.2.1 = c) && decide (x.2.2.1 ≠ b)) then
    (List.range 960).foldl (fun s r => s.testRow (v, c, b, r) false) s
  else (s.radd (R.tileVrepair v) F.tileVrepair_ROWS 960).rset (R.tileVrepair v) ⟨F.tileVrepair_BANK_SPARED.lo + c, 1⟩ 1

/-- A failed physical TE: FAILED, and the spare takes its lane, or the lane is LOST (R95, R485). -/
def State.testTe (s : State) (tile phys : Nat) : State :=
  if s.teFailed tile phys then s
  else (s.setPh (5 * tile + phys) { s.ph (5 * tile + phys) with failing := some 0 }).remapFailed tile

/-- What the test found: rows (vault, channel, bank, row, whether a spare row is left), banks, LLC ways, TEs, Lararis
channels, which have failed their training or the test (R383, R485). -/
def State.testRepairs (s : State) (rows : List (Nat × Nat × Nat × Nat × Bool)) (banks : List (Nat × Nat × Nat))
    (ways tes chans : List (Nat × Nat)) : State :=
  let s1 := rows.foldl (fun s x =>
    if x.1 < 64 ∧ x.2.1 < 16 ∧ x.2.2.1 < 16 then s.testRow (x.1, x.2.1, x.2.2.1, x.2.2.2.1) x.2.2.2.2 else s) s
  let s2 := banks.foldl (fun s x => if x.1 < 64 ∧ x.2.1 < 16 ∧ x.2.2 < 16 then s.testBank x.1 x.2.1 x.2.2 else s) s1
  let bad := ways.filter (fun x => decide (x.1 < 64) && decide (x.2 < 24))
  let s3 := (s2.setHeap { s2.heap with
    wayDue := bad, waysOff := s2.heap.waysOff ++ bad.filter (fun x => !(s2.heap.waysOff.contains x)) }).wayI2
  let s4 := tes.foldl (fun s x => if x.1 < 64 ∧ x.2 < 5 then s.testTe x.1 x.2 else s) s3
  (chans.foldl (fun s x => if x.1 < 8 then s.chFail x.1 x.2 4 true else s) s4).each (List.range 8) State.lrsI2

/-- Every line of every vault and stack invalid, the LLC-reserved lines 0 (R179, R485). -/
def State.clearLines (s : State) : State :=
  { s with
    lmeta := [], mem := s.mem.filter (fun c => !(decide (resvBase ≤ c.1) && decide (c.1 < resvBase + 2 ^ 29))),
    err := { s.err with invTable := [] } }

/-- The end of the test: the repair map, IN_PROGRESS and the end in FATAL cleared, FULL_NEXT too after a full start; without a
flash that takes it, BRG_MISM.FLASH. -/
def State.writeRepair (s : State) (reason warm sample : Nat) : State :=
  let full := if reason = 0 then mgetD s.ownRepair 1 0 else 0
  let s1 := s.rset R.brgStart F.brgStart_FULL_PEND full
  if s.flash.good then
    s1.putRepair (mput (mput (mput (mput [] 1 full) 2 warm) 4 (mgetD s.ownRepair 4 0)) 5 sample ++ s.repairImage)
  else s1.rset R.brgMism F.brgMism_FLASH 1

/-- MEMTEST, from its mark in flash to the repair map it writes. -/
def execMemtest (ms : Nat) (rows : List (Nat × Nat × Nat × Nat × Bool)) (banks : List (Nat × Nat × Nat))
    (ways tes chans : List (Nat × Nat)) (s : State) : Host.Outcome State Fault Refusal :=
  if s.inStep 5 && s.manState = 4 && decide (s.rf R.sailStatus F.sailStatus_TB_RUN = 1) then
    let reason := s.startReason
    let old := s.ownRepair
    let warm := if reason = 0 then mgetD old 2 0 + 1 else 0
    let sample := if reason = 0 then (mgetD old 5 0 + 1) % 8 else mgetD old 5 0
    let s1 := (((((s.beginStep 6 ms).rset R.brgStatus F.brgStatus_START (if reason = 0 then 2 else 1)).rset R.brgStart
      F.brgStart_REASON reason).rset R.brgStart F.brgStart_WARM_CNT warm).rset R.brgStart F.brgStart_SAMPLE sample)
    let s2 := (s1.applyRepair).testRepairs rows banks ways tes chans
    let s3 := s2.clearLines.each (List.range 64) (fun s v =>
      (s.rset (R.tileStatus v) F.tileStatus_VAULT_UP 1).rset (R.tileStatus v) F.tileStatus_TC_UP 1)
    .next (s3.writeRepair reason warm sample)
  else .next s

/-! ### DISCOVER (R375, R481) -/

/-- A populated port after DISCOVER: mism is the first of NO_STACK, CAPACITY and TRAIN that applies; a stack that was taken out meanwhile
does not answer (R375, R382). -/
def State.findStack (s : State) (m : Manifest) (mism : List Nat) (p : Nat) : State :=
  if bitOf m.stackMask p then
    let y := s.stackCheck (some m) p (if s.rf (R.lrsStatus p) F.lrsStatus_STATE = 3 then 1 else mism.getD p 0)
    (s.stackShow p y).rset (R.lrsStatus p) F.lrsStatus_STATE (if y = 0 then 2 else 3)
  else s

/-- The twin must still come up before COMPARE. -/
def State.twinAwaited (s : State) (m : Manifest) : Bool :=
  m.twinDeclared && s.brg.window && decide (s.rf R.twinStatus F.twinStatus_LINK ≠ 2)

/-- The twin's settings by its serial number, once its link is up (R480). -/
def State.trainTwin (s : State) (peer : Nat) : State :=
  if s.rf R.twinStatus F.twinStatus_LINK = 2 then
    let x := s.settingsOf (trainKey 2 peer) 40
    (({ s with twin := { s.twin with settings := x } } : State).saveTrain (trainKey 2 peer) x).tick
  else s

/-- DISCOVER ends: the stacks' identities (mism by port) and the twin's serial number are read; the descriptors of the slips
have been (SLIP_DISCOVERY_DONE). -/
def execDiscover (ms : Nat) (mism : List Nat) (peer : Nat) (s : State) : Host.Outcome State Fault Refusal :=
  match s.inStep 6, s.man.staged with
  | true, some m =>
    let s1 := ((s.beginStep 7 ms).each (List.range 8) (fun s p => s.findStack m mism p)).trainTwin peer
    let s2 := s1.setBrg { s1.brg with discovered := true, peer := peer }
    .next (if s2.twinAwaited m then s2.waitFor 3 else s2)
  | _, _ => .next s

/-- TWIN_WINDOW_EXPIRY: the window closes; with the link down the hub enters HELD. -/
def execTwinWindowExpiry (s : State) : Host.Outcome State Fault Refusal :=
  if s.brg.window then
    let s1 := s.setBrg { s.brg with window := false }
    .next (if s.brgState = 0 ∧ s.rf R.twinStatus F.twinStatus_LINK ≠ 2 then (s1.rset R.brgMism F.brgMism_TWIN 1).enterHeld else s1)
  else .next s

/-! ### COMPARE and READY (R488, R489) -/

/-- A register-array count over a limit somewhere. -/
def anyOver (n : Nat) (f : Nat → Nat) (limit : Nat) : Bool := (List.range n).any (fun i => decide (limit < f i))

/-- Every finding of COMPARE in BRG_MISM. -/
def State.compareAll (s : State) (m : Manifest) : State :=
  let s1 := (m.slips.zipIdx).foldl (fun s x =>
    if x.1.role = 0 then s
    else
      let s0 := s.rsetIf (decide (s.slState x.2 ≠ 2) && decide (s.rf (R.slipStatus x.2) F.slipStatus_MISMATCH = 0)) (R.slipStatus x.2)
        F.slipStatus_MISMATCH 1
      s0.rsetIf (decide (s0.rf (R.slipStatus x.2) F.slipStatus_MISMATCH ≠ 0)) R.brgMism ⟨F.brgMism_SLIP.lo + x.2, 1⟩ 1) s
  let s2 := s1.each (List.range 8) (fun s p =>
    s.rsetIf (bitOf m.stackMask p && decide (s.rf (R.lrsStatus p) F.lrsStatus_MISMATCH ≠ 0)) R.brgMism ⟨F.brgMism_STACK.lo + p, 1⟩ 1)
  let s3 := match m.twinDeclared, m.twin with
    | true, some t =>
      if s2.rf R.twinStatus F.twinStatus_LINK ≠ 2 then s2.rset R.brgMism F.brgMism_TWIN 1
      else s2.rsetIf (decide (t.peer ≠ s2.brg.peer)) R.brgMism F.brgMism_TWIN 2
    | _, _ => s2
  let lim (i : Nat) : Nat := m.limits.getD i 0
  let spared := ((List.range 64).filter (fun t => decide (s3.rf (R.teSpare t) F.teSpare_STATE = 1))).length
  let lost := ((List.range 256).filter (fun k => decide (s3.rf (R.teStatus k) F.teStatus_STATE = 4))).length
  let s4 := ((s3.rsetIf (decide (lim 0 < spared)) R.brgMism F.brgMism_TE_SPARED 1).rsetIf (decide (lim 1 < lost)) R.brgMism
    F.brgMism_TE_LOST 1).rsetIf (anyOver 64 (fun v => s3.rf (R.tileVrepair v) F.tileVrepair_ROWS) (lim 2)) R.brgMism
    F.brgMism_VAULT_ROWS 1
  let s5 := (s4.rsetIf (anyOver 64 (fun v => s3.rf (R.tileVrepair v) F.tileVrepair_FENCED) 0) R.brgMism F.brgMism_VAULT_FENCED
    1).rsetIf (anyOver 64 (fun v => s3.rf (R.tileLlcSpare v) F.tileLlcSpare_LOST) (lim 3)) R.brgMism F.brgMism_LLC_WAYS 1
  s5.rsetIf (!s.flash.good) R.brgMism F.brgMism_FLASH 1

/-- COMPARE: waits for the twin where it must; any disagreement makes the hub enter HELD. -/
def execCompare (ms : Nat) (s : State) : Host.Outcome State Fault Refusal :=
  match s.inStep 7 && s.brg.discovered, s.man.staged with
  | true, some m =>
    if s.twinAwaited m then .next (s.waitFor 3)
    else
      let s1 := ((s.beginStep 8 ms).waitFor 0).compareAll m
      if s1.rv R.brgMism = 0 then .next ((s1.beginStep 9 ms).setBrg { s1.brg with agreed := some s1.sail })
      else .next s1.enterHeld
  | _, _ => .next s

/-- READY: the candidate crosses in at I2 of the sailing after the one in which COMPARE ended, unless step 18 fails against
the trained capacities. -/
def execReady (ms : Nat) (s : State) : Host.Outcome State Fault Refusal :=
  match s.brg.agreed, s.man.staged with
  | some n, some m =>
    if s.inStep 9 ∧ n < s.sail ∧ s.time.stage = .i2 then
      match s.manStep18 m false with
      | some _ => .next ((s.rset R.brgMism F.brgMism_OVERSUB 1).enterHeld)
      | none =>
        let s1 := (s.crossNow m).crossShadow
        .next (((s1.beginStep 10 ms).brgTo 1).setBrg { s1.brg with agreed := none })
    else .next s
  | _, _ => .next s

end Sys2Proof.Machine
end

