-- ==== Sys2Proof/Machine/Warm.lean ====
section
/-! DEFINITION. The controller restarted: the warm handoff of an update (R530, R563), the keep-alive watchdog (R528), and the
heartbeat output (R533). -/

namespace Sys2Proof.Machine

/-- GLB_FW_CTL.ACTIVATE: a handoff from sailing max(GLB_FW_AT, next) on, where an image is WRITTEN; confidential mode blocks it
(R563). -/
def State.fwActivate (s : State) : State :=
  if s.conf then s.rset R.salEvent F.salEvent_FW_BLOCKED 1
  else if s.rf R.glbFwStatus F.glbFwStatus_STATE = 3 then
    s.setBrg { s.brg with handoff := some (max (s.rf R.glbFwAt F.glbFwAt_AT) (s.sail + 1)) }
  else s

def execActivate (s : State) : Host.Outcome State Fault Refusal := .next s.fwActivate

/-- The ROM's check after a handoff: an image that fails opens the recovery mailbox (R475). -/
def State.handCheck (s : State) : State :=
  let c := s.fwCheck s.flash.fw
  if c = 0 then s else (s.rset R.brgStatus F.brgStatus_FW_CODE c).waitFor 2

/-- The handoff: the record goes back to its queue, the twin is told, the controller restarts on the new image. -/
def State.warmHandoff (s : State) : State :=
  let s1 := (s.fwState 4).romRuns
  let s2 := s1.setBrg { s1.brg with handoff := none, handing := true, fwNew := true }
  (if s2.rf R.twinStatus F.twinStatus_LINK = 2 then s2.send .twin [9, 2] [] else s2).handCheck

/-- WARM_HANDOFF: at C0 of the first sailing that is due. -/
def execWarmHandoff (s : State) : Host.Outcome State Fault Refusal :=
  if s.time.stage = .boundary ∧ s.brg.rom = false ∧ s.brg.handoff.any (fun n => decide (n ≤ s.sail)) = true then .next s.warmHandoff
  else .next s

/-- The watchdog restarts the controller from ROM; a hub that serves steps down (R528, R539). -/
def State.watchdog (s : State) : State :=
  let s1 := (s.radd R.glbFwStatus F.glbFwStatus_WDOG 1).romRuns
  let s2 := s1.setBrg { s1.brg with handing := false, wdog := true }
  let s3 := if s2.twinRole = 1 ∨ s2.twinRole = 3 then s2.stepDown else s2
  s3.romVerdict (s3.fwCheck s3.flash.fw)

/-- MC_WDOG: running firmware missed its watchdog. -/
def execMcWdog (s : State) : Host.Outcome State Fault Refusal := if s.brg.rom then .next s else .next s.watchdog

/-- HANDOFF_TIMEOUT: the new firmware has not resumed within 4 s. -/
def execHandoffTimeout (s : State) : Host.Outcome State Fault Refusal := if s.brg.handing then .next s.watchdog else .next s

/-- The firmware resumes from its saved state; an image new to it is measured from the next I0 (R569); after the watchdog it
writes its DEGRADING record. -/
def State.fwResume (s : State) : State :=
  let b := s.brg
  let s1 := s.setBrg { b with rom := false, handing := false, wdog := false, fwNew := false }
  let s2 := s1.rset R.glbFwStatus F.glbFwStatus_STATE (if b.handing then 0 else s1.rf R.glbFwStatus F.glbFwStatus_STATE)
  let s3 := s2.setSec { s2.sec with fwDue := if b.fwNew then some (fwDigestOf s2.flash.fw, fwSvnOf s2.flash.fw) else s2.sec.fwDue }
  let s4 := if b.wdog then s3.errBare clsDegrading 0x0E 2 0 else s3
  s4.takeNext.showErr

/-- FIRMWARE_RESUME: after a handoff or a watchdog restart whose image passed. -/
def execFirmwareResume (s : State) : Host.Outcome State Fault Refusal :=
  if s.brg.rom ∧ (s.brg.handing || s.brg.wdog) = true ∧ s.brgWait ≠ 2 then .next s.fwResume else .next s

/-- The heartbeat runs (R533): not without firmware, but for a handoff; not while stepped down, FATAL or HELD. -/
def State.hbOn (s : State) : Bool :=
  (!s.brg.rom || s.brg.handing) && decide (s.twinRole ≠ 4) && !s.err.fatal && decide (s.brgState ≠ 2) &&
    s.mf.any (·.twinDeclared)

/-- HEARTBEAT_TOGGLE. -/
def execHeartbeatToggle (s : State) : Host.Outcome State Fault Refusal :=
  .next { s with pins := { s.pins with hb := s.hbOn ^^ s.pins.hb } }

end Sys2Proof.Machine
end

