-- ==== Sys2Proof/Machine/Twin.lean ====
section
/-! DEFINITION. The twin pair (R531 to R540, R564): its link, HELLO and KEYX, resynchronisation, acknowledgements, node-1
traffic, heartbeats, stepping down and taking over. What arrives is a row's operands; what is sent is an Out of kind twin
whose first number says which frame: 1 and 2 node-1 reads and writes, 3 HELLO, 4 KEYX, 5 a ferry entry, 6 ACK, 7 COPY,
8 MRSP, 9 NOTICE, 10 a replay request. -/

namespace Sys2Proof.Machine

/-! ### Shared operations -/

def State.twinLink (s : State) : Nat := s.rf R.twinStatus F.twinStatus_LINK

/-- This hub serves the pair's partitions: PRIMARY or ACTING. -/
def State.serves (s : State) : Bool := decide (s.twinRole = 1) || decide (s.twinRole = 3)

/-- An error of the TWIN block captured and recorded. -/
def State.twinErr (s : State) (cls cause : Nat) : State := (s.captureAt R.twinErr capStd cause).errBare cls 0x0F cause 0

/-- TWIN_STATUS.BACKLOG shows the ferries waiting. -/
def State.showBacklog (s : State) : State := s.rset R.twinStatus F.twinStatus_BACKLOG s.twin.backlog.length

/-- Every PAIRED or COPYING partition becomes UNPAIRED, and the ferries in progress are gone. -/
def State.unpairAll (s : State) : State :=
  let s1 := (s.partsIn 1 2).foldl (fun s p => s.unpair p 0) s
  (s1.setTwin { s1.twin with
    copy := [], drain := [], out := [], bytes := 0, hold := false, rx := [], backlog := [], running := none, retained := [],
    mine := [], peer := [], overfl := [], mism := [], unacked := 0, stores := [] }).showBacklog

/-! ### Pairing (R531) -/

/-- The hub's HELLO. -/
def State.sendHello (s : State) : State :=
  match s.mf.bind (fun m => m.twin) with
  | some t => s.send .twin [3, t.role, t.peer, s.fuses.serial] (leBytes 48 s.pairDigest)
  | none => s

/-- TWIN_STATUS.CODE. -/
def State.twinCode (s : State) (c : Nat) : State := s.rset R.twinStatus F.twinStatus_CODE c

/-- The code of the first condition of R531 that a HELLO breaks: 2 AUTH, 3 PAIR_DIGEST, 4 PEER, 5 ROLE. -/
def State.helloCode (s : State) (t : TwinTop) (digest role peer serial : Nat) (auth : Bool) : Nat :=
  if !auth then 2
  else if digest ≠ s.pairDigest then 3
  else if t.peer ≠ serial ∨ peer ≠ s.fuses.serial then 4
  else if t.role + role ≠ 1 then 5
  else 0

/-- HELLO: the peer's pair digest, TWIN role, PEER and serial number, and whether its identity was authenticated (R550). -/
def execHello (digest role peer serial : Nat) (auth : Bool) (s : State) : Host.Outcome State Fault Refusal :=
  match s.mf.bind (fun m => m.twin) with
  | some t =>
    if s.twinLink ≠ 2 then .next s
    else
      let c := s.helloCode t digest role peer serial auth
      let s1 := (s.setTwin { s.twin with hello := decide (c = 0) }).twinCode c
      .next (if c = 0 then s1.send .twin [4] [] else (if c = 2 then s1.twinErr clsCorrected 3 else s1).unpairAll)
  | none => .next s

/-! ### Resynchronisation (R534, R564) -/

/-- A tenant of the partition has its TDI locked but not in RUN. -/
def State.tdiBars (s : State) (p : Nat) : Bool :=
  s.tenRecs.any (fun r => decide (r.part = p) && decide (s.tdi r.tenant = 1))

/-- A partition enters the queue of those to be copied. -/
def State.resync (s : State) (p : Nat) : State :=
  if s.serves && s.twin.keyed && decide (s.twinLink = 2) && s.partRecs.any (fun r => decide (r.part = p)) &&
      (decide (s.twinPart p = 0) || decide (s.twinPart p = 3)) && !(s.tdiBars p) then
    (s.setTwin { s.twin with copy := mput s.twin.copy p 0 }).syncNext
  else s

/-- RESYNC. -/
def execResync (part : Nat) (s : State) : Host.Outcome State Fault Refusal := .next (s.resync part)

/-- KEYX: keys are agreed after HELLO; the roles take effect and a primary brings every partition into step. A hub that took
over or stepped down keeps its role. -/
def execKeyx (s : State) : Host.Outcome State Fault Refusal :=
  match s.mf.bind (fun m => m.twin) with
  | some t =>
    if s.twin.hello = false ∨ s.drbgOk = false ∨ s.twinLink ≠ 2 then .next s
    else
      let s1 := s.setTwin { s.twin with keyed := true }
      let s2 := if s1.twinRole = 3 ∨ s1.twinRole = 4 then s1 else s1.rset R.twinStatus F.twinStatus_ROLE (t.role + 1)
      .next (if s2.twinRole = 1 then (s2.partRecs.map (·.part)).foldl (fun s p => s.resync p) s2 else s2)
  | none => .next s

/-- COPY: a line delivered to the shadow, which encrypts it under its own key; the partition it belongs to is COPYING. A hub
that stepped down becomes the shadow. The frame waits for its line and its toll. -/
def execCopy (pa : Nat) (data : List Byte) (s : State) : Host.Outcome State Fault Refusal :=
  if s.twinLink ≠ 2 ∨ s.twin.keyed = false ∨ (s.twinRole ≠ 2 ∧ s.twinRole ≠ 4) ∨ data.length ≠ 128 ∨ pa % 128 ≠ 0 then .next s
  else if !(s.putReady [12, pa] 73 1 [(pa, 128)] && s.tollOk [12, pa] 73 (s.linesNew 73 [(pa, 128)])) then
    .next ((s.openWrites [12, pa] 73 1 0 [(pa, 128)]).payFor [12, pa] 73 (s.linesNew 73 [(pa, 128)]))
  else
    let s0 := if s.twinRole = 4 then ((s.rset R.twinStatus F.twinStatus_ROLE 2).partsIn 2 2).foldl (fun s p => s.unpair p 0)
      (s.rset R.twinStatus F.twinStatus_ROLE 2) else s
    let s1 := match s0.partOf (s0.ownerOf pa) with
      | some p => if s0.twinPart p = 1 then s0 else (s0.unpair p 0).setTwinPart p 1
      | none => s0
    .next ((s1.chargeFor [12, pa] 73 (s1.linesNew 73 [(pa, 128)])).moverWrite [12, pa] 73 1 pa data).1

/-- What brings a shadow's partition into step at the switch: its rings' and translation contexts' registers, each a key
and a value, then its program images (entry type 0x0B). -/
def State.switchBytes (s : State) (p : Nat) : List Byte :=
  let ts := (s.tenRecs.filter (fun r => r.part = p)).map (·.tenant)
  let keys := ts.flatMap (fun t =>
    [R.dtuCtxRoot t, R.dtuCtxCfg t, R.tfqCtl t] ++ (List.range 64).flatMap (fun r => [R.ringBase t r, R.ringCfg t r, R.ringPtr t r, R.ringStatus t r]))
  let ks := keys.filter (fun k => (mget s.regs k).isSome)
  let ps := s.progs.filter (fun x => (s.progRec x.1).any (fun r => ts.contains r.tenant))
  leBytes 4 ks.length ++ ks.flatMap (fun k => leBytes 8 k ++ leBytes 8 (s.rv k).toNat) ++
    leBytes 4 ps.length ++ ps.flatMap (fun x => leBytes 4 x.1 ++ leBytes 4 x.2.image.length ++ x.2.image)

/-- No voyage context of the partition is left. -/
def State.partDrained (s : State) (p : Nat) : Bool := !(s.rings.ctxs.any (fun c => decide (s.ringPart c.ring = p)))

/-- The switch: the partition is PAIRED from this sailing, whose ferry carries its contexts; the next one's turn comes. -/
def State.pairPart (s : State) (p : Nat) : State :=
  let s1 := (s.setTwinPart p 2).setTwin { s.twin with drain := nrem s.twin.drain p, copy := mdel s.twin.copy p }
  let s2 := if s1.twin.out.isEmpty then s1.ferryBegin else s1
  (s2.ferry 0x0B p p (s2.switchBytes p)).syncNext

/-- RESYNC_SWITCH: at I3, before its admission, of a sailing that begins drained. -/
def execResyncSwitch (part : Nat) (s : State) : Host.Outcome State Fault Refusal :=
  if s.time.stage = .i2 ∧ s.twin.drain.contains part = true ∧ s.partDrained part = true then .next (s.pairPart part) else .next s

/-! ### Stepping down and taking over (R539, R540) -/

/-- A takeover: entries of a ferry without END are discarded, whole ferries are still run, and what is retained is issued
again at the next COMMIT. Before this sailing's slots are planned, its partitions take their next sailing. -/
def State.takeover (s : State) : State :=
  if s.twinRole = 2 then
    let early := decide (s.time.stage = .boundary ∨ s.time.stage = .c1 ∨ s.time.stage = .c2 ∨ s.time.stage = .i0 ∨ s.time.stage = .i1)
    let back := early && s.twin.running.isNone && s.twin.backlog.isEmpty
    let s1 := s.setTwin { s.twin with
      rx := [], takeover := true,
      base := if back then s.twin.base.map (fun x => (x.1, x.2 - 1)) else s.twin.base }
    ((s1.rset R.twinStatus F.twinStatus_ROLE 3).rset R.twinStatus F.twinStatus_TRIM 0).twinEvt F.twinEvent_TAKEOVER
  else s

def execTakeover (s : State) : Host.Outcome State Fault Refusal := .next s.takeover

/-- STEPDOWN: the peer's notice. -/
def execStepdown (s : State) : Host.Outcome State Fault Refusal := if s.twinLink = 2 then .next s.takeover else .next s

/-- HANDOFF: the peer's notice that its firmware hands over; its heartbeat goes on, and nothing else changes (R530). -/
def execHandoff (s : State) : Host.Outcome State Fault Refusal := .next s

/-- TAKEOVER_REQUEST: the peer's notice makes a hub that serves step down. -/
def execTakeoverRequest (s : State) : Host.Outcome State Fault Refusal :=
  if s.twinLink = 2 ∧ s.serves = true then .next s.stepDown else .next s

/-- TWIN_CTL.TAKEOVER, ignored unless this hub is the shadow. -/
def State.twinTakeover (s : State) : State :=
  if s.twinRole = 2 then (if s.twinLink = 2 then s.send .twin [9, 3] [] else s).takeover else s

def execTwinTakeoverCmd (s : State) : Host.Outcome State Fault Refusal := .next s.twinTakeover

/-- HEARTBEAT_LOST: 3 × HB_MS without a toggle; frames: frames of the peer still arrive. A heartbeat already counted as lost makes the
shadow take over once frames stop as well. -/
def execHeartbeatLost (frames : Bool) (s : State) : Host.Outcome State Fault Refusal :=
  if s.rf R.twinStatus F.twinStatus_HB_PEER = 0 then
    .next (if s.twinRole ≠ 2 ∨ frames = true ∨ s.twin.keyed = false then s else s.takeover)
  else
    let s1 := (s.rset R.twinStatus F.twinStatus_HB_PEER 0).twinErr clsCorrected 5
    .next (if s1.twinRole ≠ 2 then s1 else if frames then s1.twinEvt F.twinEvent_HB_LOST else s1.takeover)

/-- HB_IN_TOGGLE. -/
def execHbInToggle (s : State) : Host.Outcome State Fault Refusal := .next (s.rset R.twinStatus F.twinStatus_HB_PEER 1)

/-! ### The link -/

/-- TWIN_LINK_UP: a COMPARE that waits may begin (R481), and the hub sends its HELLO. -/
def execTwinLinkUp (s : State) : Host.Outcome State Fault Refusal :=
  if s.twinLink = 2 ∨ s.mf.any (·.twinDeclared) = false ∨ s.brgState = 2 then .next s
  else
    let s1 := (s.rset R.twinStatus F.twinStatus_LINK 2).domTo 14 2
    let s2 := if s1.brgWait = 3 then s1.waitFor 0 else s1
    .next s2.sendHello

/-- The link goes down: reads and writes of node 1 fail; with the peer's heartbeat present the pair parts, without it the
shadow takes over (R539). -/
def State.twinDown (s : State) : State :=
  let s1 := (((s.rset R.twinStatus F.twinStatus_LINK 0).domTo 14 1).twinCode 1).twinErr clsDegrading 2
  let s2 := ((s1.setFab { s1.fab with lossSeen := true }).setTwin { s1.twin with hello := false, keyed := false }).failNode 1 0x0F 2 0
  if s2.rf R.twinStatus F.twinStatus_HB_PEER = 1 then s2.unpairAll else s2.takeover

def execTwinLinkDown (s : State) : Host.Outcome State Fault Refusal := if s.twinLink = 0 then .next s else .next s.twinDown

/-- TWIN_FRAME_ERROR: the frame is discarded and a replay requested. -/
def execTwinFrameError (s : State) : Host.Outcome State Fault Refusal :=
  if s.twinLink ≠ 2 then .next s
  else .next (((s.radd R.twinCnt F.twinCnt_REPLAY 1).send .twin [10] []).twinErr clsCorrected 1)

/-- TWIN_CTL.CLR. -/
def State.twinClr (s : State) : State := s.rput R.twinCnt 0

def execTwinClr (s : State) : Host.Outcome State Fault Refusal := .next s.twinClr

/-! ### Node-1 traffic (R208, R220, R532, R559) -/

/-- The answer to a node-1 request: 0 done, 1 the twin error. -/
def State.mrsp (s : State) (tag err : Nat) (d : List Byte) : State := s.send .twin [8, tag, err] d

/-- A range's owners' TDIs are locked or run. -/
def State.anyHeld (s : State) (pa n : Nat) : Bool :=
  (linesOf pa n).any (fun l => decide (s.ownerOf (l * 128) < 4096) && s.tdiHeld (s.ownerOf (l * 128)))

/-- A bad line the twin's read met. -/
def State.mreqBad (s : State) (x : Nat × LineRes) : State :=
  match x.2 with
  | .ue b c => s.memUe x.1 b c (s.homeOf (x.1 * 128)) none
  | _ => s

/-- A node-1 request served: an absent address is recorded; a bad line, or memory of a locked tenant, gets the error. -/
def State.mreq (s : State) (write : Bool) (pa len tag : Nat) (data : List Byte) : State :=
  let n := if write then data.length else len
  if (linesOf pa n).any (fun l => decide (s.placeOf (l * 128) ≠ .vault) && decide (s.placeOf (l * 128) ≠ .lararis)) then
    (if (linesOf pa n).any (fun l => decide (s.placeOf (l * 128) = .absent)) then s.noteDecode 2 pa else s).mrsp tag 1 []
  else if s.anyHeld pa n then s.mrsp tag 1 []
  else if write then
    let w := (s.chargeFor [12, tag] 73 (s.linesNew 73 [(pa, n)])).moverWrite [12, tag] 73 1 pa data
    w.1.mrsp tag (b2n (w.2.any (fun x => decide (x.2 ≠ .inval)))) []
  else
    let r := (s.chargeFor [12, tag] 73 (s.linesNew 73 [(pa, n)])).moverRead [12, tag] 73 1 pa n
    let u := r.2.2.foldl (fun s x => s.mreqBad x) r.1
    if r.2.2.isEmpty then u.mrsp tag 0 r.2.1 else u.mrsp tag 1 []

/-- MREQ: a read or a write of this hub's memory by the twin; the frame waits for its lines and its toll. -/
def execMreq (write : Bool) (pa len tag : Nat) (data : List Byte) (s : State) : Host.Outcome State Fault Refusal :=
  let ps := [(pa, if write then data.length else len)]
  if s.twinLink ≠ 2 ∨ s.twin.keyed = false then .next s
  else if (if write then s.putReady [12, tag] 73 1 ps else s.piecesReady [12, tag] 73 1 ps) && s.tollOk [12, tag] 73 (s.linesNew 73 ps) then
    .next (s.mreq write pa len tag data)
  else .next ((if write then s.openWrites [12, tag] 73 1 0 ps else s.openReads [12, tag] 73 1 0 ps).payFor [12, tag] 73 (s.linesNew 73 ps))

/-- MRSP: the answer to one of this hub's node-1 requests. -/
def execMrsp (write : Bool) (tag : Nat) (err : Bool) (data : List Byte) (s : State) : Host.Outcome State Fault Refusal :=
  .next (if write then s.nodeAck 1 tag (!err) else s.nodeAnswer 1 tag (if err then none else some data))

/-! ### Ferries received, and their acknowledgement (R532, R535, R537) -/

/-- A partition diverges: DEGRADING, MISMATCH (R538); told: the twin reported it. -/
def State.diverge (s : State) (p : Nat) (told : Bool) : State :=
  let s1 := ((s.unpair p 3).captureAt R.twinErr capStd 4).report ⟨clsDegrading, 0x0F, 4, 0, some p, 0, none, none, s.sail, told⟩
  s1.twinEvt F.twinEvent_MISMATCH

/-- The ACK after a whole ferry: its sailing, the backlog, then the partitions over their energy and those that diverged. -/
def State.sendAck (s : State) (n : Nat) : State :=
  (s.send .twin [6, n, s.twin.backlog.length, s.twin.overfl.length] ((s.twin.overfl ++ s.twin.mism).flatMap (leBytes 1))).setTwin
    { s.twin with overfl := [], mism := [] }

/-- FERRY: one entry; END makes the ferry whole. At most 17 whole ferries wait. -/
def execFerry (typ part key : Nat) (data : List Byte) (s : State) : Host.Outcome State Fault Refusal :=
  if s.twinRole ≠ 2 ∨ s.twinLink ≠ 2 ∨ s.twin.keyed = false then .next s
  else if typ ≠ 10 then .next (s.setTwin { s.twin with rx := s.twin.rx ++ [⟨typ, part, key, data⟩] })
  else if 17 ≤ s.twin.backlog.length then .next s
  else
    let s1 := s.setTwin { s.twin with rx := [], backlog := s.twin.backlog ++ [⟨key, s.twin.rx⟩] }
    .next ((s1.rset R.twinFerry F.twinFerry_LAST key).showBacklog.sendAck key)

/-- ACK: the last ferry the shadow has, its backlog, its overruns, the partitions that diverged. -/
def execAck (last backlog : Nat) (overfl mism : List Nat) (s : State) : Host.Outcome State Fault Refusal :=
  if s.serves = false ∨ s.twinLink ≠ 2 ∨ s.twin.keyed = false ∨ s.rf R.twinFerry F.twinFerry_LAST < last then .next s
  else
    let s1 := (s.setTwin { s.twin with unacked := 0 }).rset R.twinStatus F.twinStatus_BACKLOG (min 17 backlog)
    let s2 := (overfl.filter (fun p => decide (s1.twinPart p = 2))).foldl (fun s p => s.overAct p true) s1
    let s3 := (mism.filter (fun p => decide (s2.twinPart p = 2))).foldl (fun s p => s.diverge p true) s2
    .next (if 16 < backlog then s3.unpairAll else s3)

/-- The bytes of what a shadow retains. -/
def TwinSt.retainedBytes (t : TwinSt) : Nat := (t.retained.map (fun x => x.2.data.length + 16)).sum

/-- BACKLOG_OVERFLOW: a backlog above 16, or a replay store too small (replay). -/
def execBacklogOverflow (replay : Bool) (s : State) : Host.Outcome State Fault Refusal :=
  let due := if replay then decide (s.rf R.twinReplay F.twinReplay_SIZE_32M * 2 ^ 25 < s.twin.retainedBytes)
    else decide (16 < s.twin.backlog.length)
  if due then
    .next ((s.unpairAll.twinErr clsCorrected (if replay then 7 else 6)).twinEvt
      (if replay then F.twinEvent_REPLAY_FULL else F.twinEvent_BACKLOG))
  else .next s

end Sys2Proof.Machine
end

