-- ==== Sys2Proof/Machine/Regs.lean ====
section
/-! DEFINITION. Register accesses: the write of a register by access code and update class (R6 to R12), what its fields set
off, the read of a register, register requests on the fabric (R315), and the host's accesses of PF0 BAR0 and the VF pages
(R214 to R219, R401 to R404, R421, R559). -/

namespace Sys2Proof.Machine

/-! ### The write of one field (R8, R10, R11) -/

/-- The bits of a field that a write of the lanes mask touches. -/
def RegField.bits (f : RegField) (mask : Word) : Word := fmask ⟨f.lo, f.w⟩ &&& mask

/-- A field's value in force replaced at once. -/
def State.liveWrite (s : State) (key : Nat) (w : Word) : State := { s with regs := mput s.regs key w }

/-- Bits put into a register's shadow, to be transferred where m says. -/
def State.shadowWrite (s : State) (key : Nat) (v m : Word) : State := { s with shadow := mput s.shadow key (v, m) }

/-- One field of a register written with the value v in the lanes mask. -/
def State.fieldWrite (s : State) (key : Nat) (mask v : Word) (f : RegField) : State :=
  let b := f.bits mask
  let old := s.rv key
  let sh := mgetD s.shadow key (0, 0)
  if b = 0 then s
  else match f.acc, f.cls with
    | .rw, .b => s.shadowWrite key (mergeBits sh.1 v b) (sh.2 ||| b)
    | .rw, _ => s.liveWrite key (mergeBits old v b)
    | .w1s, .b => s.shadowWrite key (sh.1 ||| (v &&& b)) (sh.2 ||| (v &&& b))
    | .w1s, _ => s.liveWrite key (old ||| (v &&& b))
    | .w1c, _ => s.liveWrite key (old &&& ~~~(v &&& b))
    | .wo, .b => s.shadowWrite key (sh.1 ||| (v &&& b)) (sh.2 ||| (v &&& b))
    | .wo, _ => s
    | .ro, _ => s

/-! ### What a write sets off -/

/-- Q_CTL.CLR (R449). -/
def State.qClr (s : State) : State := s.rput R.qCnt 0

def execQClr (s : State) : Host.Outcome State Fault Refusal := .next s.qClr

/-- MAN_CTL: a write that sets more than one bit is ignored whole (R469). -/
def State.manCmd (s : State) (v : Nat) : State :=
  if v % 8 = 1 then s.stage else if v % 8 = 2 then s.abandon else if v % 8 = 4 then s.switchCmd else s

/-- LCS_CMD.OP over PF0 (R584, R588); whether a fuse fails is a free value. -/
def State.lcsCmd (s : State) (op : Nat) : State :=
  let arg := s.rf R.lcsCmd F.lcsCmd_ARG
  let fail := Config.freeValue s.fresh 3
  if op = 1 then (s.tick).doTransition 0 arg fail []
  else if op = 2 then (s.tick).doFuse 0 arg fail []
  else if op = 3 then s.challenge 0
  else if op = 4 then s.doAuth 0 []
  else if op = 5 then s.dbgRevoke 0
  else s

/-- SAL_KEY_CMD (R573). -/
def State.keyCmd (s : State) (v : Nat) : State :=
  let op := bitsOf v 16 2
  if op = 1 then s.rotateCmd (bitsOf v 0 13) else if op = 2 then s.retireCmd (bitsOf v 0 13) else s

/-- LRS_CTL (R391, R389); how a reset stack answers is a free value. -/
def State.lrsCmd (s : State) (p v : Nat) : State :=
  let s1 := if bitOf v 1 then s.lrsClr p else s
  if bitOf v 0 then s1.tick.lrsReset p (Config.freeValue s1.fresh 4) else s1

/-- TWIN_CTL (R545). -/
def State.twinCmd (s : State) (v : Nat) : State :=
  let s1 := if bitOf v 0 then s.twinClr else s
  let s2 := if bitOf v 1 then s1.twinTakeover else s1
  if bitOf v 2 then s2.resync (s2.rf R.twinCtl F.twinCtl_PART) else s2

/-- An operation where a bit of the value is set. -/
def State.onBit (s : State) (v i : Nat) (f : State → State) : State := if bitOf v i then f s else s

/-- What the value v, written to a register by name and indices, sets off; half: one 32-bit write. -/
def State.regEffect (s : State) (n : RegName) (idx : List Nat) (key v : Nat) (half : Bool) : State :=
  let i := idx.headD 0
  match n with
  | .glbDecode => s.onBit v 63 (·.clearCapture key)
  | .teErr | .tileErr | .cohErr | .octErr | .slipErr | .lrsErr | .pwrErr | .twinErr | .salErr | .fordErr | .pciErr | .qErr =>
    s.onBit v 31 (·.clearCapture key)
  | .glbFwCtl => (s.onBit v 0 State.fwLoad).onBit v 1 State.fwActivate
  | .manCtl => s.manCmd v
  | .teCtl => s.onBit v 0 (·.teClr i)
  | .tileCtl => s.onBit v 0 (·.tileClr i)
  | .cohCtl => s.onBit v 0 State.cohClr
  | .octCtl => s.onBit v 0 State.octClr
  | .slipCtl => (s.onBit v 1 (·.slipClr i)).onBit v 0 (·.slipRetry i)
  | .lrsCtl => s.lrsCmd i v
  | .pciCtl => s.onBit v 0 State.pciClr
  | .qCtl => s.onBit v 0 State.qClr
  | .pwrCtl => s.onBit v 0 State.pwrClr
  | .fordCtl => s.onBit v 0 State.fordClr
  | .twinCtl => s.twinCmd v
  | .salKeyCmd => s.keyCmd v
  | .lcsCmd => s.lcsCmd (v % 256)
  | .lcsCtl => s.recordRepair 4 (s.rf R.lcsCtl F.lcsCtl_HOLD_NEXT)
  | .brgCtl => ((s.onBit v 2 State.fullNext).onBit v 1 State.rcvLoad).onBit v 0 State.brgRetry
  | .dtuInv => s.invWrite i v half
  | .tfqPop => s.onBit v 0 (·.tfqPop i)
  | .tinvClr => s.onBit v 0 (·.tinvClr i)
  | .tmeasCtl => s.onBit v 4 (·.tmeasGo i)
  | _ => s

/-! ### The write of a register -/

/-- TE_SPARE answers in each of its tile's four pages (R107). -/
def regKey (o : Nat) : Nat :=
  if 0x300000 ≤ o ∧ o < 0x400000 ∧ o % 0x1000 = 0x40 then R.teSpare ((o - 0x300000) / 0x4000) else o

/-- A key of TE_SPARE. -/
def isSpareKey (key : Nat) : Bool :=
  match regOf key with
  | some (d, _) => decide (d.name = .teSpare)
  | none => false

/-- Writes that are ignored whole: domains that do not exist (R309). -/
def regIgnored (n : RegName) (idx : List Nat) : Bool := decide (n = .octPwr) && decide (idx.headD 0 % 8 = 7) && decide (idx.headD 0 < 512)

/-- PF0's write to the context registers of a tenant whose TDI is locked or runs (R559). -/
def State.lockRefused (s : State) (n : RegName) (idx : List Nat) : Bool :=
  (decide (n = .dtuCtxRoot) || decide (n = .dtuCtxCfg)) && s.tdiHeld (idx.headD 0)

/-- The value a register's shadow holds where no write waits: the value in force, or from I2 of a crossing to the I0 after it
the value the new manifest gives a listed register (R11, R373, R464). -/
def State.shadowBase (s : State) (key : Nat) : Word :=
  match s.man.crossed, s.mf with
  | true, some m => if listedKey key then (s.loadRegs m).rv key else s.rv key
  | _, _ => s.rv key

/-- The shadow of a register: what waits, and its base where nothing does (R11). -/
def State.shadowOf (s : State) (key : Nat) : Word :=
  let sh := mgetD s.shadow key (0, 0)
  mergeBits (s.shadowBase key) sh.1 sh.2

/-- The tenant a boundary-class register belongs to, where it is ferried for one (R535). -/
def ferryTen (n : RegName) (idx : List Nat) : Option Nat :=
  match n with
  | .dtuCtxRoot | .dtuCtxCfg | .ringBase | .ringCfg | .tfqCtl => some (idx.headD 0)
  | _ => none

/-- A paired partition's write that takes effect at the next I0 goes into the ferry: the function, the register or page
offset, the register's value from then on. -/
def State.ferryReg (s : State) (n : RegName) (idx : List Nat) (key : Nat) : State :=
  match ferryTen n idx with
  | some t =>
    let vf := decide (0x4000000 ≤ key)
    s.ferry 4 ((s.partOf t).getD 64) (if vf then key % 0x10000 else key)
      (leBytes 2 (if vf then t + 1 else 0) ++ List.replicate 6 0 ++ leBytes 8 (s.shadowOf key).toNat)
  | none => s

/-- The register at a key written in the lanes mask; a reserved offset ignores it (R216). -/
def State.regPut (s : State) (o : Nat) (mask v : Word) (half : Bool) : State :=
  match regOf (regKey o) with
  | some (d, idx) =>
    if regIgnored d.name idx then s
    else if s.lockRefused d.name idx then s.rset R.salEvent F.salEvent_LOCK_REFUSED 1
    else
      let s1 := d.fields.foldl (fun s f => s.fieldWrite (regKey o) mask v f) s
      (s1.regEffect d.name idx (regKey o) (v &&& mask).toNat half).ferryReg d.name idx (regKey o)
  | none => s

/-- A naturally aligned write of size 8 or 4 bytes at an offset; a 4-byte write touches its half alone (R6). Others do
nothing. -/
def State.regWrite (s : State) (off size value : Nat) : State :=
  if size = 8 ∧ off % 8 = 0 then s.regPut off (BitVec.allOnes 64) (BitVec.ofNat 64 value) false
  else if size = 4 ∧ off % 4 = 0 then
    let sh := 8 * (off % 8)
    s.regPut (off - off % 8) (BitVec.ofNat 64 ((2 ^ 32 - 1) * 2 ^ sh)) (BitVec.ofNat 64 (value % 2 ^ 32 * 2 ^ sh)) true
  else s

/-! ### The read of a register -/

/-- The bits of a register that read as 0 in confidential mode (R101, R206, R560). -/
def confHides : RegName → Word
  | .teFlags | .teCvtCnt | .teNumCnt | .tePerfBusy | .tePerfStall | .tePerfWs | .tilePfCnt | .tileSpfCnt | .tilePerfLlc | .cohSlice
  | .cohPerf | .octTollCnt | .qosBytes | .qosSnap | .qosLat | .qosStep | .lrsPerf | .qPoolUse | .qVctx | .qCnt | .dtuPerf
  | .pwrRail => BitVec.allOnes 64
  | .teStatus => fmask F.teStatus_LEG
  | .octPwr => fmask F.octPwr_WAKES ||| fmask F.octPwr_STATE
  | .pwrEnergySail => fmask F.pwrEnergySail_UJ
  | .pwrPart => fmask F.pwrPart_MEAS
  | _ => 0

/-- The bits of a register that a read returns: the fields its table names, but for write-only ones (R8, R9). -/
def readable (l : List RegField) : Word :=
  l.foldl (fun m f => if f.acc = .wo then m else m ||| fmask ⟨f.lo, f.w⟩) 0

/-- The bits of the boundary-class fields, which a companion register shows (R10). -/
def boundaryBits (l : List RegField) : Word :=
  l.foldl (fun m f => if f.cls = .b ∧ f.acc ≠ .wo then m ||| fmask ⟨f.lo, f.w⟩ else m) 0

/-- The register whose companion lies at an offset: those of the SLIP windows alone have one (R373). -/
def companionOf (o : Nat) : Option Nat :=
  let p := o % 0x10000
  if 0x800000 ≤ o ∧ o < 0x880000 ∧ ((0x1100 ≤ p ∧ p < 0x1200) ∨ (0x2100 ≤ p ∧ p < 0x2200)) then some (o - 0x100) else none

/-- Word j of the record PF0 sees at place i of the fault queue; a locked tenant's records are hidden (R238, R240, R246). DESIGN CHOICE:
the spec does not number the records; place i is the i-th made of those held, over all tenants, and later ones move down when one is
popped (log 171). -/
def State.fqWord (s : State) (i j : Nat) : Nat :=
  match s.dtu.fq[i]? with
  | some r => if s.tdiHeld r.tenant then 0 else leAt r.bytes (8 * j) 8
  | none => 0

/-- Word j of ERR_LAST[i] (R542). -/
def State.lastWord (s : State) (i j : Nat) : Nat :=
  match s.err.last[i]? with
  | some r => leAt r.bytes (8 * j) 8
  | none => 0

/-- The 64 bits an aligned read of an offset returns; a reserved offset reads as 0. -/
def State.regRead (s : State) (o : Nat) : Nat :=
  let page := (o - 0x4000000) % 0x10000
  if 0xC20000 ≤ o ∧ o < 0xC30000 then s.fqWord ((o - 0xC20000) / 64) (o % 64 / 8)
  else if 0x4000000 ≤ o ∧ 0x1840 ≤ page ∧ page < 0x1880 then leAt (s.fqHead ((o - 0x4000000) / 0x10000)) (page - 0x1840) 8
  else match companionOf o with
    | some k => match regOf k with
      | some (d, _) => (s.shadowOf k &&& boundaryBits d.fields).toNat
      | none => 0
    | none => match regOf (regKey o) with
      | some (d, idx) =>
        if regIgnored d.name idx then 0
        else if d.name = .errLast then s.lastWord (idx.headD 0) (idx.getD 1 0)
        else (s.rv (regKey o) &&& readable d.fields &&& (if s.conf then ~~~(confHides d.name) else BitVec.allOnes 64)).toNat
      | none => 0

/-- n bytes of registers from an offset. -/
def State.regBytes (s : State) (off n : Nat) : List Byte :=
  (((List.range ((off % 8 + n + 7) / 8)).flatMap (fun i => leBytes 8 (s.regRead (off / 8 * 8 + 8 * i)))).drop (off % 8)).take n

/-! ### Register requests on the fabric (R315) -/

/-- The block of a register (R215). Of the VF pages the rings' part counts to Q, the fault queue's and the tenant's other registers to DTU
(DESIGN CHOICE, log 206). -/
def blockOfReg (off : Nat) : Nat := if off < 0x4000000 then off / 0x100000 else if off % 0x10000 < 0x1800 then 11 else 12

/-- The router of a register's block: of a tile's TEs and its page the tile's, of a slip's and a port's page theirs, of PCI, the VF pages
and TWIN their spurs, of every other block the management spur. R315 names no block's router (DESIGN CHOICE, log 206). -/
def regRouter (off : Nat) : Nat :=
  match off / 0x100000 with
  | 3 => (off - 0x300000) / 0x4000
  | 4 => (off - 0x400000) / 0x1000 % 64
  | 8 => 64 + (off - 0x800000) / 0x10000 % 8
  | 9 => 72 + (off - 0x900000) / 0x10000 % 8
  | 10 => 80
  | 15 => 81
  | _ => if 0x4000000 ≤ off then 80 else 82

/-- The partition whose engine a register belongs to: of a TE page its tile's, of a VF page its tenant's. -/
def State.regPart (s : State) (off : Nat) : Option Nat :=
  if 0x4000000 ≤ off then s.partOf ((off - 0x4000000) / 0x10000)
  else if off / 0x100000 = 3 then s.partOfTile ((off - 0x300000) / 0x4000)
  else none

/-- The partition of a register is in reset (R300, R404). -/
def State.regReset (s : State) (off : Nat) : Bool := (s.regPart off).any (fun p => (s.part p).reset)

/-- The domain of a TE's registers; a lane that no physical TE serves has none (R296). -/
def State.regDom (s : State) (off : Nat) : Option Nat :=
  if 0x4000000 ≤ off ∨ off / 0x100000 ≠ 3 then none
  else
    let k := (off - 0x300000) / 0x1000
    let x := s.rf (R.teStatus k) F.teStatus_PHYS
    if x < 5 then some (8 * (k / 4) + x) else none

/-- A register's domain sleeps. -/
def State.regAsleep (s : State) (off : Nat) : Bool := (s.regDom off).any (fun d => decide (s.domSt d ≠ 0))

/-- A register's domain has received a packet (R297). -/
def State.regUse (s : State) (off : Nat) : State :=
  match s.regDom off with
  | some d => s.useDom d
  | none => s

/-- A register write of a block in flight. -/
def State.regOut (s : State) (b : Nat) : Bool := s.fab.regBusy.any (fun x => decide (x.1.block = b))

/-- AUX of a register request (R283): the 64-bit word in its line, a 32-bit access, its upper half. -/
def regAux (off size : Nat) : Nat :=
  atBit 0 4 (off % 128 / 8) + atBit 4 1 (b2n (decide (size = 4))) + atBit 5 1 (b2n (decide (size = 4) && decide (off % 8 = 4)))

/-- The header of a message of class MGT between a requester's router and a block's (R281, R282). -/
def State.regHdr (s : State) (op src dst tag off aux : Nat) (df : Bool) : FabHdr :=
  ⟨5, op, 2, dst, src, ridOf src, tag, (0xFF00000000 + off) / 128, 4096, s.time.total % 2 ^ 15, aux, df, false⟩

/-- The header of a register write. -/
def State.regWrHdr (s : State) (r : RegReq) : FabHdr := s.regHdr 2 r.src (regRouter r.off) r.tag r.off (regAux r.off r.size) true

/-- PARTITION_RESET sent for a register write (R300). -/
def State.regRefuse (s : State) (r : RegReq) : State := s.prstAnswer ((s.regPart r.off).getD 0) r.src r.tag 2

/-- The clock domain of a register's block (R310). Of the blocks R310 does not name, the rings' part goes with PCLK, the boundary's with
TCLK, translation with LCLK, the rest with KCLK (DESIGN CHOICE, log 206). -/
def regClock (off : Nat) : Nat :=
  match blockOfReg off with
  | 2 => 16
  | 3 => 0
  | 4 | 5 | 12 => 2
  | 6 | 7 => 1
  | 8 => 4 + (off - 0x800000) / 0x10000 % 8
  | 9 => 12
  | 10 | 11 => 13
  | 15 => 14
  | _ => 15

/-- A register write at its block: performed, or, where it belongs to a partition in reset, answered PARTITION_RESET (R300); one that finds
the ford into its block shut is not carried and is counted (R321). -/
def State.regTake (s : State) (r : RegReq) : State :=
  if s.regReset r.off then s.regRefuse r
  else if s.fordShut 1 (regClock r.off) then s.radd (R.fordLost (regClock r.off)) F.fordLost_FLUSH 1
  else (s.regUse r.off).regWrite r.off r.size r.value

/-- A register write in flight: its block takes it at once, or once its domain, which it wakes, is up (R298). -/
def State.regGo (s : State) (r : RegReq) : State :=
  match s.regDom r.off with
  | some d =>
    if s.domSt d = 0 then (s.setFab { s.fab with regBusy := s.fab.regBusy ++ [(r, true)] }).regTake r
    else (s.setFab { s.fab with regBusy := s.fab.regBusy ++ [(r, false)] }).wake d
  | none => (s.setFab { s.fab with regBusy := s.fab.regBusy ++ [(r, true)] }).regTake r

/-- A register write at its block's router: answered PARTITION_RESET, or held behind the one in flight, or in flight (R300, R315). -/
def State.regLand (s : State) (r : RegReq) : State :=
  if s.regReset r.off then s.regRefuse r
  else if s.regOut r.block then s.setFab { s.fab with regHeld := s.fab.regHeld ++ [r] }
  else s.regGo r

/-- Register writes in flight whose domain has come up are taken. -/
def State.regPoll (s : State) : State :=
  (s.fab.regBusy.filter (fun x => !x.2 && !(s.regAsleep x.1.off))).foldl (fun s x =>
    (s.setFab { s.fab with regBusy := s.fab.regBusy.map (fun y => if y = x then (x.1, true) else y) }).regTake x.1) s

/-- A register write sent to its block's router. -/
def State.regSend (s : State) (r : RegReq) : State :=
  if r.src = regRouter r.off then s.regLand r else s.fly (s.regWrHdr r) 0 (BitVec.ofNat 1024 r.value) (.reg r)

/-- A register write taken with its acknowledgement, both of them on the fabric (R282, R315). -/
def State.regNow (s : State) (r : RegReq) : State :=
  let s1 := (s.post (s.regWrHdr r) 0 (BitVec.ofNat 1024 r.value)).1
  ((s1.post (s1.regHdr 4 (regRouter r.off) r.src r.tag r.off 0 false) 0 0).1).regTake r

/-- REG_WR sent by a spur; one write to a block is in flight, the next ones wait behind it. -/
def execRegWr (off size value src tag : Nat) (s : State) : Host.Outcome State Fault Refusal :=
  .next (s.regSend ⟨blockOfReg off, off, size, value, src, tag⟩)

/-- REGISTER_WRITE: firmware's, of register space, or of a VF page by its key: it waits while a write of its block is in flight, and is
acknowledged as it is taken otherwise. -/
def execRegisterWrite (off size value : Nat) (s : State) : Host.Outcome State Fault Refusal :=
  let r : RegReq := ⟨blockOfReg off, off, size, value, 82, 0⟩
  .next (if s.regReset off then s.regRefuse r
    else if s.regOut r.block then s.setFab { s.fab with regHeld := s.fab.regHeld ++ [r] }
    else if s.regAsleep off then s.regGo r
    else s.regNow r)

/-- REG_ACK goes back to the requester's router. -/
def State.regDone (s : State) (r : RegReq) : State :=
  let s1 := (s.post (s.regHdr 4 (regRouter r.off) r.src r.tag r.off 0 false) 0 0).1
  s1.setFab { s1.fab with regBusy := s1.fab.regBusy.filter (fun x => decide (x.1.block ≠ r.block)) }

/-- REG_ACK: the block has taken its write, and acknowledges it; the next one held for it goes. -/
def execRegAck (block : Nat) (s : State) : Host.Outcome State Fault Refusal :=
  match s.fab.regBusy.find? (fun x => decide (x.1.block = block) && x.2) with
  | some x =>
    match s.fab.regHeld.find? (fun r => r.block = block) with
    | some r =>
      let s1 := s.regDone x.1
      .next ((s1.setFab { s1.fab with regHeld := s1.fab.regHeld.erase r }).regGo r)
    | none => .next (s.regDone x.1)
  | none => .next s

/-- REG_RD and REG_RSP of the 64-bit words of a read, one of each for a word, between a requester's router and the block's (R282, R283). DESIGN
CHOICE: the read itself takes its value as it is injected (log 164). -/
def State.regReadMsgs (s : State) (src tag off n : Nat) : State :=
  (List.range ((off % 8 + n + 7) / 8)).foldl (fun s i =>
    let o := off / 8 * 8 + 8 * i
    let half := decide (n ≤ 4) && decide (off % 8 + n ≤ 8)
    let s1 := (s.post (s.regHdr 1 src (regRouter o) tag o (regAux (if half then off else o) (if half then 4 else 8)) false) 0 0).1
    (s1.post (s1.regHdr 3 (regRouter o) src tag o 0 true) 0 (BitVec.ofNat 1024 (s.regRead o))).1) (s.regUse off)

/-- The domain of a register that sleeps is woken (R298). -/
def State.regWake (s : State) (off : Nat) : State :=
  match s.regDom off with
  | some d => s.wake d
  | none => s

/-- A register request cannot go on: a write of its block is in flight, or its domain sleeps (R298, R315). -/
def State.regWaits (s : State) (off : Nat) : Bool := s.regOut (blockOfReg off) || (s.regAsleep off && !(s.regReset off))

/-! ### What a fabric cycle brings (R290, R298) -/

/-- A packet that reaches its destination's router: it is delivered, or waits while its domain sleeps (R298). -/
def State.land (s : State) : HPkt → State
  | .mem m => s.toCtrl m
  | .reg r => s.regLand r
  | x => s.toHome x

/-- Packets that have reached their destination in one cycle, in the order their targets take them: by priority, then
the oldest (R330). -/
def State.landAll (s : State) : State :=
  let l := s.fab.air.filter (fun x => s.there x.1)
  (s.heldOrder (l.map (·.2))).foldl State.land (s.setFab { s.fab with air := s.fab.air.filter (fun x => !(s.there x.1)) })

/-- One FCLK cycle of the fabric: every router's outputs, then what has arrived is delivered, and register writes
whose domain has come up are taken. -/
def State.fabCycle (s : State) : State := s.fabTick.landAll.regPoll

/-! ### The host's accesses (R217, R219, R401, R402, R404, R421, R559) -/

/-- The blocks that respond in BAR0 before READY (R421); TWIN too after FATAL (R517). -/
def State.blockOn (s : State) (b : Nat) : Bool :=
  if s.brgState = 1 then true
  else if [0, 2, 10, 14, 17, 19].contains b then true
  else decide (s.brgState = 4) && decide (b = 15)

/-- The partition of a tenant is in reset. -/
def State.tenReset (s : State) (t : Nat) : Bool := (s.partOf t).any (fun p => (s.part p).reset)

/-- An access that partition reset turns away: a read of all ones, a write dropped. -/
def State.prst (s : State) (r : HostReq) : State :=
  let s1 := s.radd R.pciCnt F.pciCnt_PRST 1
  if r.write then s1 else s1.complete r (List.replicate r.len 0xFF)

/-- The register key of a BAR0 request. -/
def HostReq.key (r : HostReq) : Nat := if r.fn = 0 then r.off else 0x4000000 + 0x10000 * (r.fn - 1) + r.off

/-- A request of the host for BAR0 or a VF page waits at the PCIe spur: host writes wait in order (R315). -/
def State.barHeld (s : State) : Bool := s.pci.stalled.any (fun r => decide (r.kind = .bar0) || decide (r.kind = .bell))

/-- DOORBELL; in QUIET, or behind a request that waits, it stalls at its spur like any write of the host (R38, R315):
half 0 is one 64-bit write, 1 and 2 a half. -/
def execDoorbell (tenant ring half value : Nat) (s : State) : Host.Outcome State Fault Refusal :=
  .next (if s.hostStalls || s.barHeld then
      s.stall ⟨.bell, tenant, 8 * ring + (if half = 2 then 4 else 0), true, 0, 0, leBytes (if half = 0 then 8 else 4) value, false, false⟩
    else s.doorbell tenant ring half value)

/-- A write of a VF page: a doorbell, or a register. -/
def State.vfWrite (s : State) (t off : Nat) (data : List Byte) : State :=
  let v := leNat data
  if off < 0x200 then
    if data.length = 8 ∧ off % 8 = 0 then s.doorbell t (off / 8) 0 v
    else if data.length = 4 ∧ off % 4 = 0 then s.doorbell t (off / 8) (1 + off % 8 / 4) v
    else s
  else
    let o := 0x4000000 + 0x10000 * t + off
    s.regNow ⟨blockOfReg o, o, data.length, v, 80, 0⟩

/-- An access of PF0 BAR0. -/
def State.bar0Pf (s : State) (r : HostReq) : State :=
  if 0x4000000 < r.off + (if r.write then r.data.length else r.len) then s.unsupported r
  else if !(s.blockOn (r.off / 0x100000)) then
    let s1 := s.rsetIf s.early R.pciCnt F.pciCnt_EARLY (satAdd (s.rf R.pciCnt F.pciCnt_EARLY) 1 0xFFFF)
    if r.write then s1 else s1.complete r (List.replicate r.len 0)
  else if s.regReset r.off then s.prst r
  else if r.write then s.regNow ⟨blockOfReg r.off, r.off, r.data.length, leNat r.data, 80, r.tag % 1024⟩
  else (s.regReadMsgs 80 (r.tag % 1024) r.off r.len).complete r (s.regBytes r.off r.len)

/-- An access of a VF page. -/
def State.bar0Vf (s : State) (r : HostReq) : State :=
  let t := r.fn - 1
  if 0x10000 < r.off + (if r.write then r.data.length else r.len) then s.unsupported r
  else if s.tdiHeld t && !r.tbit then s.unsupported r
  else if s.tenReset t then s.prst r
  else if r.write then s.vfWrite t r.off r.data
  else (s.regReadMsgs 80 (r.tag % 1024) r.key r.len).complete r (s.regBytes r.key r.len)

/-- A BAR0 request served; it waits while an earlier one does, a register write of its block is in flight, or its
block's domain sleeps (R298, R315). -/
def State.bar0Serve (s : State) (r : HostReq) : State :=
  if !s.hostUp || decide (s.pci.vfs < r.fn) then s
  else if r.write && r.poison then s.aer aerUnc 12
  else if !(s.memSpace r.fn) then s.unsupported r
  else if (if r.write then r.data.length else r.len) = 0 then
    if r.write then s else s.send .cpl [r.fn, r.tag, 4] (List.replicate 4 0)
  else if s.barHeld || s.regWaits r.key then (s.regWake r.key).stall r
  else if r.fn = 0 then s.bar0Pf r
  else s.bar0Vf r

/-- HOST_BAR0_ACCESS: function 0's BAR0 or a VF's; tbit is the IDE T bit. -/
def execHostBar0Access (fn off : Nat) (write : Bool) (data : List Byte) (len tag : Nat) (poison tbit : Bool) (s : State) :
    Host.Outcome State Fault Refusal :=
  let r : HostReq := ⟨.bar0, fn, off, write, len, tag, data, poison, tbit⟩
  .next (if s.hostStalls then s.stall r else s.bar0Serve r)

end Sys2Proof.Machine
end

