-- ==== Sys2Proof/Machine/Ferry.lean ====
section
/-! DEFINITION. The shadow's run of a whole ferry (R537, R538, R540). -/

namespace Sys2Proof.Machine

/-! ### A partition's switch (R534) -/

/-- Registers of a switch put in force: n pairs of a key and a value. -/
def State.switchRegs (s : State) (b : List Byte) : Nat → State
  | 0 => s
  | n + 1 => (s.rput (leAt b 0 8) (leAt b 8 8)).switchRegs (b.drop 16) n

/-- Program images of a switch bound: n times an index, a length and the image. -/
def State.switchProgs (s : State) (b : List Byte) : Nat → State
  | 0 => s
  | n + 1 =>
    let i := leAt b 0 4
    let len := leAt b 4 4
    let t := ((s.progRec i).map (·.tenant)).getD 0
    ({ s with progs := mput s.progs i (s.loadCheck t i (slice b 8 len)).2 } : State).switchProgs (b.drop (8 + len)) n

/-- Rings of a partition that are ON: known to admission, a CMP ring with the head its register shows. -/
def State.switchRings (s : State) (p : Nat) : State :=
  let gs := ((s.tenRecs.filter (fun r => r.part = p)).flatMap (fun r => (List.range 64).map (fun i => r.tenant * 64 + i))).filter
    (fun g => decide (s.ringState g = 1))
  s.setRings { s.rings with
    live := gs.foldl insSorted s.rings.live,
    caught := gs.foldl (fun m g => if s.isCmp g then mput m g (s.rf (rPtr g) F.ringPtr_HEAD) else m) s.rings.caught }

/-- The switch entry of a ferry: the partition is PAIRED from this sailing. -/
def State.switchIn (s : State) (e : FEntry) : State :=
  let n := leAt e.data 0 4
  let s1 := ((s.unpair e.part 0).setTwinPart e.part 2).switchRegs (e.data.drop 4) n
  ((s1.switchProgs (e.data.drop (8 + 16 * n)) (leAt e.data (4 + 16 * n) 4)).switchRings e.part)

/-! ### BEGIN and the rest (R535) -/

/-- BEGIN: slot, variant and lag of each paired partition; a variant that differs is a switch (R62, R63). -/
def State.ferrySlots (s : State) (e : FEntry) : State :=
  ((s.partsIn 2 2).foldl (fun s p =>
    let v := leAt e.data (8 * p + 1) 1
    let s1 := s.setPart p { s.part p with slot := leAt e.data (8 * p) 1 }
    ((s1.rsetIf (decide (s1.variantOf p ≠ v)) R.sailEvent F.sailEvent_VARIANT 1).rset (R.sailLag p) F.sailLag_VARIANT v).rset
      (R.sailLag p) F.sailLag_LAG (leAt e.data (8 * p + 2) 2)) s).showVariant.showSlot

/-- CROSS: the staged manifest of that digest crosses in the sailing that runs the crossing's ferry. -/
def State.ferryCross (s : State) (n : Nat) (e : FEntry) : State :=
  if s.manState = 3 ∧ s.man.staged.any (fun m => decide (m.digest = leNat e.data)) = true then
    (s.manTo 4).setMan { s.man with crossAt := some (s.sail + (e.key - n)) }
  else s

/-- DIGEST: compared with the hub's own of that timetable sailing (R538). -/
def State.ferryDigest (s : State) (e : FEntry) : State :=
  match s.twin.mine.reverse.find? (fun x => decide (x.1 = e.part) && decide (x.2.1 = e.key)) with
  | some x =>
    let s1 := s.setTwin { s.twin with
      mine := s.twin.mine.filter (fun y => !(decide (y.1 = e.part) && decide (y.2.1 ≤ e.key))) }
    if x.2.2 = leNat e.data ∨ s1.twinPart e.part ≠ 2 then s1
    else
      let s2 := s1.diverge e.part false
      s2.setTwin { s2.twin with mism := nins s2.twin.mism e.part }
  | none => s

/-- ISSUED: what is retained for that sailing is discarded. -/
def State.ferryIssued (s : State) (e : FEntry) : State :=
  s.setTwin { s.twin with retained := s.twin.retained.filter (fun x => decide (x.1 ≠ e.key)) }

/-- One entry of the ferry of sailing n; ADMIT waits for I3 and HOSTDATA for its reader. -/
def State.ferryEntry (s : State) (n : Nat) (e : FEntry) : State :=
  if e.typ = 1 then s.ferrySlots e
  else if e.typ = 4 then
    let fn := leAt e.data 0 2
    s.regWrite (if fn = 0 then e.key else 0x4000000 + 0x10000 * (fn - 1) + e.key) 8 (leAt e.data 8 8)
  else if e.typ = 5 then s.invWrite e.key (leNat e.data) false
  else if e.typ = 6 then s.vfFlr (e.key - 1)
  else if e.typ = 7 then s.ferryCross n e
  else if e.typ = 8 then s.ferryDigest e
  else if e.typ = 9 then s.ferryIssued e
  else s

/-- The trim of the clocks toward a backlog of 1, in units of 2 ppm from −75 to 75; how far is a free value. -/
def State.trim (s : State) : State :=
  let x := Config.freeValue s.fresh 5 % 76
  let n := s.twin.backlog.length
  s.tick.rset R.twinStatus F.twinStatus_TRIM (if s.twinRole ≠ 2 ∨ n = 1 then 0 else if 1 < n then x else (256 - x) % 256)

/-- The next whole ferry is the one of this sailing. -/
def State.ferryRun (s : State) : State :=
  match s.twin.backlog with
  | f :: fs =>
    let s1 := (s.setTwin { s.twin with backlog := fs, running := some f }).showBacklog.trim
    let s2 := (f.entries.filter (fun e => decide (e.typ = 0x0B))).foldl (fun s e => s.switchIn e) s1
    let base := (s2.sail + 2 ^ 64 - f.sail) % 2 ^ 64
    let s3 := s2.setTwin { s2.twin with base := (s2.partsIn 2 2).foldl (fun m p => mput m p base) s2.twin.base }
    f.entries.foldl (fun s e => s.ferryEntry f.sail e) s3
  | [] => s

/-- FERRY_RUN: after I1 and before the slots of the sailing are chosen. -/
def execFerryRun (s : State) : Host.Outcome State Fault Refusal :=
  if s.time.stage = .i1 ∧ (s.twinRole = 2 ∨ s.twinRole = 3) ∧ s.twin.running.isNone = true then .next s.ferryRun else .next s

end Sys2Proof.Machine
end

