-- ==== Sys2Proof/Machine/Chip.lean ====
section
/-! DEFINITION. A chiplet's requests served (R362, R364, R365), a PLL that loses lock (R312), and the boundary with what the
host had stalled (R25, R38). -/

namespace Sys2Proof.Machine

/-! ### Requests of chiplets (R364) -/

/-- ERR to the chiplet. -/
def State.slipErrTo (s : State) (v : Nat) (q : SReq) (cause : Nat) : State := s.ospErr v q.qc q.tag q.caddr cause

/-- An absent target: ERR ABSENT, recorded in GLB_DECODE. -/
def State.slipAbsent (s : State) (v : Nat) (q : SReq) (pa : Nat) : State := (s.slipErrTo v q 1).noteDecode 0 pa

/-- The one aligned 64-bit or 32-bit word a byte mask selects: its offset and size. -/
def oneWord (mask : Nat) : Option (Nat × Nat) :=
  match (List.range 16).find? (fun i => mask = 0xFF * 2 ^ (8 * i)) with
  | some i => some (8 * i, 8)
  | none => ((List.range 32).find? (fun i => mask = 0xF * 2 ^ (4 * i))).map (fun i => (4 * i, 4))

/-- Registers that only PF0 may write outside those blocks: TE_SPARE (R107), block FORD (R323). -/
def pfOnly (o : Nat) : Bool := isSpareKey (regKey (o - o % 8)) || decide (o / 0x100000 = 18)

/-- A request to register space: a line of 16 registers read, one register written; the SLIP, MAN, SAL and LCS blocks refuse
(R362), and so does a register that only PF0 may write. One of a TE of a partition in reset is refused with PERM too: OSP carries no
PARTITION_RESET (DESIGN CHOICE, log 185). -/
def State.slipRegs (s : State) (v : Nat) (q : SReq) : State :=
  let o := lineOf q.pa * 128 - 0xFF00000000
  if [2, 8, 16, 17].contains (o / 0x100000) then s.slipErrTo v q 2
  else if s.regReset o then s.slipErrTo v q 2
  else if q.kind = .wrp then
    match oneWord q.mask with
    | some (a, n) =>
      if pfOnly (o + a) then s.slipErrTo v q 2
      else (s.regNow ⟨blockOfReg o, o + a, n, leAt (bytesOfLine q.data) a n, 64 + v, q.tag⟩).ospGnt v q.qc q.tag q.caddr
    | none => s.slipErrTo v q 2
  else (s.regReadMsgs (64 + v) q.tag o 128).ospData v q.qc q.tag q.caddr 0 (lineOfBytes (s.regBytes o 128))

/-- A translated request sent where it belongs: a register request to its block, any other to its line's home, which passes on what belongs
to another node (R209). What names this chiplet's own memory is absent (R220). An address that no inbound window covers has no PA: NODE
and ADDR of GLB_DECODE take the chiplet's own address (DESIGN CHOICE, log 175). -/
def State.slipServe (s : State) (v : Nat) (q : SReq) : State :=
  match q.err with
  | some c => if c = 1 then s.slipAbsent v q q.caddr else s.slipErrTo v q c
  | none =>
    match s.placeOf q.pa with
    | .regs => s.slipRegs v q
    | .absent => s.slipAbsent v q q.pa
    | p =>
      if p = .slip v then s.slipAbsent v q q.pa
      else if q.kind.caches && !(s.mayCache (64 + v)) then s.slipErrTo v q 2
      else s.reqFrom q.kind.caches ⟨q.kind, lineOf q.pa, 64 + v, q.tag, q.mask, q.data, q.alloc, q.credit, q.qc, q.ten, 0, false⟩

/-- A register request that cannot go on yet: it waits in its adapter. -/
def State.slipHolds (s : State) (q : SReq) : Bool :=
  q.err.isNone && decide (s.placeOf q.pa = .regs) && s.regWaits (lineOf q.pa * 128 - 0xFF00000000)

/-- SLIP_REQUEST: the adapter's oldest request goes; none does in QUIET (R38), nor a register request while a write of
its block is in flight or its domain sleeps (R298, R315). -/
def execSlipRequest (slip : Nat) (s : State) : Host.Outcome State Fault Refusal :=
  match (s.sl slip).queue with
  | q :: qs =>
    if 8 ≤ slip ∨ s.slState slip ≠ 2 ∨ s.err.fatal = true ∨ s.stalling = true then .next s
    else if s.slipHolds q then .next (s.regWake (lineOf q.pa * 128 - 0xFF00000000))
    else
      let x := s.sl slip
      .next (((s.setSl slip { x with queue := qs, sent := mput x.sent q.tag q.caddr }).ospFree slip (ospNeed 0 (1 + b2n (decide (q.kind = .wrp)))
        q.kind.writes)).slipServe slip q)
  | [] => .next s

/-! ### A lost lock (R312) -/

/-- LOCK_LOST: of a core domain FATAL; of a port's PLL its link goes down. -/
def execLockLost (dom : Nat) (s : State) : Host.Outcome State Fault Refusal :=
  if 17 ≤ dom ∨ dom = 15 ∨ s.rf (R.fordDom dom) F.fordDom_LOCK = 0 then .next s
  else
    let s1 := if dom < 4 ∨ dom = 12 ∨ dom = 16 then (s.fordCap dom 0 3).fatal 0x12 3 dom
      else if dom < 12 then s.slipDown (dom - 4) 2
      else if dom = 13 then (if s.hostUp then s.pcieDown false else s)
      else if s.twinLink = 0 then s else s.twinDown
    .next (s1.rset (R.fordDom dom) F.fordDom_LOCK 0)

/-! ### The boundary (R25, R29, R38) -/

/-- A request of the host released at C0. -/
def State.release (s : State) (r : HostReq) : State :=
  match r.kind with
  | .cfg => s.cfgServe r
  | .bar0 => s.bar0Serve r
  | .bell => s.vfWrite r.fn r.off r.data
  | .bar2 => s.bar2Serve r
  | .flr => if r.fn < s.pci.vfs then s.vfFlr r.fn else s
  | .pfFlr => s.pf0Down
  | .vfOff => s.vfEnableClear
  | .vfOn => s.vfEnableSet
  | .d3hot => s.toD3

/-- Requests of the host that wait try again, where nothing stalls them any more, in their order. -/
def State.retryHost (s : State) : State :=
  if s.hostStalls then s
  else s.pci.stalled.foldl (fun s r => s.release r) { s with pci := { s.pci with stalled := [] } }

/-- SAILING_BOUNDARY: the boundary, then the host's stalled requests in their order. -/
def execSailingBoundary (lateNs : Nat) (rails tiles : List Nat) (badMeter : Bool) (s : State) : Host.Outcome State Fault Refusal :=
  if s.time.stage = .quiet ∧ s.rf R.sailStatus F.sailStatus_TB_RUN = 1 then
    let s1 := s.boundary lateNs rails tiles badMeter
    .next s1.retryHost
  else .next s

/-! ### No command waits (R22, R38, R294) -/

/-- One TCLK cycle with no command: the phase advances, the routers run their 20 FCLK cycles, the slips send their
flits, the host's waiting requests try again. -/
def State.idle (s : State) : State := ((List.range 20).foldl (fun s _ => s.fabCycle) s.idleTick).ospTick.retryHost

end Sys2Proof.Machine
end

