-- ==== Sys2Proof/Machine/Vec.lean ====
section
/-! DEFINITION. The vector unit (R87 to R93, R123, R124, R151 to R154). -/

namespace Sys2Proof.Machine

/-- Lane l of vector register v of a physical TE. -/
def PhysSt.lane (x : PhysSt) (v l : Nat) : Nat :=
  match mget x.vreg (v * 64 + l) with
  | some b => b.toNat
  | none => if x.epoch = 0 then 0 else (Config.lostWord x.epoch (0x10000 + v * 64 + l)).toNat

/-- Vector register v of the physical TE that serves logical TE k. -/
def State.vreg (s : State) (k v l : Nat) : Nat := (s.ph (s.physOf k)).lane v l

/-- A vector register written, lane by lane. -/
def State.setVreg (s : State) (k v : Nat) (f : Nat → Nat) : State :=
  let x := s.ph (s.physOf k)
  s.setPh (s.physOf k) { x with vreg := (List.range 64).foldl (fun m l => mput m (v * 64 + l) (BitVec.ofNat 32 (f l))) x.vreg }

/-- The form of a VEC word a command stands for. -/
def isVec (func w : Nat) : Bool := decide (vecFunc w = func)

/-- Operand B of lane l: IMM in every lane, or register VB. -/
def State.opB (s : State) (k : Nat) (v : VecI) (l : Nat) : Nat := if v.immb then v.imm else s.vreg k v.vb l

/-- A lane-wise function of A, B and C, by TYPE. -/
def State.vecOp (s : State) (k func : Nat) (f : Bool → Nat → Nat → Nat → Nat) : State :=
  s.issue k 3 (isVec func) (fun _ _ => []) (fun s r w =>
    let v := vecI w
    (s.setVreg k v.vd (fun l => f v.int (s.vreg k v.va l) (s.opB k v l) (s.vreg k v.vc l)), r))

/-- All ones for true, 0 for false. -/
def maskOf (b : Bool) : Nat := if b then 0xFFFFFFFF else 0

/-- ADD (R151, R154). -/
def laneAdd (i : Bool) (a b c : Nat) : Nat :=
  let _ := c; if i then clamp32 (i32 a + i32 b) else vAdd a b

def execVecAdd (te : Nat) (s : State) : Host.Outcome State Fault Refusal := .next (s.vecOp te 0x00 laneAdd)

/-- SUB (R151, R154). -/
def laneSub (i : Bool) (a b c : Nat) : Nat :=
  let _ := c; if i then clamp32 (i32 a - i32 b) else vSub a b

def execVecSub (te : Nat) (s : State) : Host.Outcome State Fault Refusal := .next (s.vecOp te 0x01 laneSub)

/-- MUL (R151, R154). -/
def laneMul (i : Bool) (a b c : Nat) : Nat :=
  let _ := c; if i then clamp32 (i32 a * i32 b) else vMul a b

def execVecMul (te : Nat) (s : State) : Host.Outcome State Fault Refusal := .next (s.vecOp te 0x02 laneMul)

/-- FMA, rounded or clamped once (R151, R154). -/
def laneFma (i : Bool) (a b c : Nat) : Nat :=
  if i then clamp32 (i32 a * i32 b + i32 c) else vFma a b c

def execVecFma (te : Nat) (s : State) : Host.Outcome State Fault Refusal := .next (s.vecOp te 0x03 laneFma)

/-- MIN (R152, R154). -/
def laneMin (i : Bool) (a b c : Nat) : Nat :=
  let _ := c; if i then (if i32 a ≤ i32 b then a else b) else vMin a b

def execVecMin (te : Nat) (s : State) : Host.Outcome State Fault Refusal := .next (s.vecOp te 0x04 laneMin)

/-- MAX (R152, R154). -/
def laneMax (i : Bool) (a b c : Nat) : Nat :=
  let _ := c; if i then (if i32 a ≤ i32 b then b else a) else vMax a b

def execVecMax (te : Nat) (s : State) : Host.Outcome State Fault Refusal := .next (s.vecOp te 0x05 laneMax)

/-- ABS (R89, R154). -/
def laneAbs (i : Bool) (a b c : Nat) : Nat :=
  let _ := (b, c); if i then clamp32 (if i32 a < 0 then -(i32 a) else i32 a) else vAbs a

def execVecAbs (te : Nat) (s : State) : Host.Outcome State Fault Refusal := .next (s.vecOp te 0x06 laneAbs)

/-- NEG (R89, R154). -/
def laneNeg (i : Bool) (a b c : Nat) : Nat :=
  let _ := (b, c); if i then clamp32 (-(i32 a)) else vNeg a

def execVecNeg (te : Nat) (s : State) : Host.Outcome State Fault Refusal := .next (s.vecOp te 0x07 laneNeg)

/-- AND (R154). -/
def laneAnd (i : Bool) (a b c : Nat) : Nat :=
  let _ := (i, c); a &&& b

def execVecAnd (te : Nat) (s : State) : Host.Outcome State Fault Refusal := .next (s.vecOp te 0x08 laneAnd)

/-- OR (R154). -/
def laneOr (i : Bool) (a b c : Nat) : Nat :=
  let _ := (i, c); a ||| b

def execVecOr (te : Nat) (s : State) : Host.Outcome State Fault Refusal := .next (s.vecOp te 0x09 laneOr)

/-- XOR (R154). -/
def laneXor (i : Bool) (a b c : Nat) : Nat :=
  let _ := (i, c); a ^^^ b

def execVecXor (te : Nat) (s : State) : Host.Outcome State Fault Refusal := .next (s.vecOp te 0x0A laneXor)

/-- SHL by B[4:0] (R154). -/
def laneShl (i : Bool) (a b c : Nat) : Nat :=
  let _ := (i, c); a * 2 ^ (b % 32) % 2 ^ 32

def execVecShl (te : Nat) (s : State) : Host.Outcome State Fault Refusal := .next (s.vecOp te 0x0B laneShl)

/-- SHR by B[4:0], logical (R154). -/
def laneShr (i : Bool) (a b c : Nat) : Nat :=
  let _ := (i, c); a / 2 ^ (b % 32)

def execVecShr (te : Nat) (s : State) : Host.Outcome State Fault Refusal := .next (s.vecOp te 0x0C laneShr)

/-- SRA by B[4:0], arithmetic (R154). -/
def laneSra (i : Bool) (a b c : Nat) : Nat :=
  let _ := (i, c); code32 (i32 a / 2 ^ (b % 32))

def execVecSra (te : Nat) (s : State) : Host.Outcome State Fault Refusal := .next (s.vecOp te 0x0D laneSra)

/-- CMPEQ (R152, R154). -/
def laneCmpeq (i : Bool) (a b c : Nat) : Nat :=
  let _ := c; maskOf (if i then decide (i32 a = i32 b) else fEq (fv a) (fv b))

def execVecCmpeq (te : Nat) (s : State) : Host.Outcome State Fault Refusal := .next (s.vecOp te 0x0E laneCmpeq)

/-- CMPLT (R152, R154). -/
def laneCmplt (i : Bool) (a b c : Nat) : Nat :=
  let _ := c; maskOf (if i then decide (i32 a < i32 b) else fLt (fv a) (fv b))

def execVecCmplt (te : Nat) (s : State) : Host.Outcome State Fault Refusal := .next (s.vecOp te 0x0F laneCmplt)

/-- CMPLE (R152, R154). -/
def laneCmple (i : Bool) (a b c : Nat) : Nat :=
  let _ := c; maskOf (if i then decide (i32 a ≤ i32 b) else fLt (fv a) (fv b) || fEq (fv a) (fv b))

def execVecCmple (te : Nat) (s : State) : Host.Outcome State Fault Refusal := .next (s.vecOp te 0x10 laneCmple)

/-- SELECT tests A on its 32 raw bits (R89). -/
def laneSelect (i : Bool) (a b c : Nat) : Nat :=
  let _ := i; if a = 0 then c else b

def execVecSelect (te : Nat) (s : State) : Host.Outcome State Fault Refusal := .next (s.vecOp te 0x11 laneSelect)

/-- EXP, correctly rounded (R153). -/
def laneExp (i : Bool) (a b c : Nat) : Nat :=
  let _ := (i, b, c); vExp a

def execVecExp (te : Nat) (s : State) : Host.Outcome State Fault Refusal := .next (s.vecOp te 0x18 laneExp)

/-- LOG, correctly rounded (R153). -/
def laneLog (i : Bool) (a b c : Nat) : Nat :=
  let _ := (i, b, c); vLog a

def execVecLog (te : Nat) (s : State) : Host.Outcome State Fault Refusal := .next (s.vecOp te 0x19 laneLog)

/-- RCP, correctly rounded (R153). -/
def laneRcp (i : Bool) (a b c : Nat) : Nat :=
  let _ := (i, b, c); vRcp a

def execVecRcp (te : Nat) (s : State) : Host.Outcome State Fault Refusal := .next (s.vecOp te 0x1A laneRcp)

/-- RSQRT, correctly rounded (R153). -/
def laneRsqrt (i : Bool) (a b c : Nat) : Nat :=
  let _ := (i, b, c); vRsqrt a

def execVecRsqrt (te : Nat) (s : State) : Host.Outcome State Fault Refusal := .next (s.vecOp te 0x1B laneRsqrt)

/-- SQRT, correctly rounded (R153). -/
def laneSqrt (i : Bool) (a b c : Nat) : Nat :=
  let _ := (i, b, c); vSqrt a

def execVecSqrt (te : Nat) (s : State) : Host.Outcome State Fault Refusal := .next (s.vecOp te 0x1C laneSqrt)

/-- TANH, correctly rounded (R153). -/
def laneTanh (i : Bool) (a b c : Nat) : Nat :=
  let _ := (i, b, c); vTanh a

def execVecTanh (te : Nat) (s : State) : Host.Outcome State Fault Refusal := .next (s.vecOp te 0x1D laneTanh)

/-- The hold bytes of a LD or ST. -/
def vecSpan (r : LegRun) (w : Nat) : List (Nat × Nat) := [(vecHold (vecI w) r.loops, 256)]

/-- LD: 256 hold bytes into VD (R123). -/
def execVecLd (te : Nat) (s : State) : Host.Outcome State Fault Refusal :=
  .next (s.issue te 3 (isVec 0x20) vecSpan (fun s r w =>
    let v := vecI w
    (s.setVreg te v.vd (fun l => s.holdNat te (vecHold v r.loops + 4 * l) 4), r)))

/-- ST: VA into 256 hold bytes (R123). -/
def execVecSt (te : Nat) (s : State) : Host.Outcome State Fault Refusal :=
  .next (s.issue te 3 (isVec 0x21) vecSpan (fun s r w =>
    let v := vecI w
    (s.holdWrite te (vecHold v r.loops) (bytes32 ((List.range 64).map (s.vreg te v.va))), r)))

/-- The 128-bit Philox counter of a draw (R92). -/
def drawCtr (seed step te sidx draw : Nat) : Nat :=
  seed % 2 ^ 64 * 2 ^ 64 + step % 2 ^ 16 * 2 ^ 48 + te % 256 * 2 ^ 40 + sidx % 256 * 2 ^ 32 + draw % 2 ^ 32

/-- The 64 words of a RAND: 16 consecutive draws, lanes 4d to 4d + 3 the words of draw d (R124). -/
def randWords (key seed step te sidx first : Nat) : List Nat :=
  (List.range 16).flatMap (fun d => philox key (drawCtr seed step te sidx (first + d)))

/-- RAND and RANDU draw from stream SIDX; each of its 16 draws takes the next index of the leg (R92, R124). -/
def State.rand (s : State) (k func : Nat) (f : Nat → Nat) : State :=
  s.issue k 3 (isVec func) (fun _ _ => []) (fun s r w =>
    let v := vecI w
    let first := mgetD r.draws v.sidx 0
    let ws := randWords (s.rf (R.teRng k) F.teRng_SEED) r.seed r.entry.step k v.sidx first
    (s.setVreg k v.vd (fun l => f (ws.getD l 0)), { r with draws := mput r.draws v.sidx (first + 16) }))

def execVecRand (te : Nat) (s : State) : Host.Outcome State Fault Refusal := .next (s.rand te 0x22 (fun w => w))

def execVecRandu (te : Nat) (s : State) : Host.Outcome State Fault Refusal := .next (s.rand te 0x23 uniform)

end Sys2Proof.Machine
end

