-- ==== Sys2Proof/Machine/Ctl.lean ====
section
/-! DEFINITION. SYNC, LOOP and PRED (R128, R129, R138, R139). -/

namespace Sys2Proof.Machine

/-! ### Barriers -/

/-- A barrier with a mask and a number. -/
def State.barOf (s : State) (mask bid : Nat) : Option BarSt := s.bars.find? (fun b => decide (b.mask = mask) && decide (b.bid = bid))

/-- Member k arrives once more: its j-th arrival pairs with the j-th of every other member (R138). -/
def State.arrive (s : State) (k mask bid : Nat) : State :=
  match s.barOf mask bid with
  | some _ => { s with
    bars := s.bars.map (fun b =>
      if b.mask = mask ∧ b.bid = bid then { b with arrivals := mput b.arrivals k (mgetD b.arrivals k 0 + 1) } else b) }
  | none => { s with bars := s.bars ++ [⟨mask, bid, [(k, 1)], 0⟩] }

/-- Every MOV of the TE has completed and every write of it is observable (R136, R138): also those of a leg before this one. -/
def State.movsDone (s : State) (k : Nat) (r : LegRun) : Bool := ((s.tez k).outstanding r).isEmpty

/-- BAR: a member arrives once its earlier MOVs have completed and are observable (R138), and then waits; a TE outside
the mask passes. -/
def execSyncBar (te : Nat) (s : State) : Host.Outcome State Fault Refusal :=
  match s.atIns te with
  | some (r, w) =>
    let y := syncI w
    if insClass w = 6 ∧ y.op = 0 then
      if predicated r.preds w then
        match r.prog.groups[y.group]? with
        | some mask =>
          if bitOf mask te then
            if s.movsDone te r then
              .next ((s.setLeg te { r with waitBar := some (mask, y.bid) }).arrive te mask y.bid)
            else .next s
          else .next (s.setLeg te r.advance)
        | none => .next s
      else .next (s.setLeg te r.advance)
    else .next s
  | none => .next s

/-- A member that waits at this barrier goes on past its BAR. -/
def releaseLeg (mask bid : Nat) (t : TeSt) : TeSt :=
  { t with run := t.run.map (fun r => if r.waitBar = some (mask, bid) then ({ r with waitBar := none } : LegRun).advance else r) }

/-- Every member has made its next arrival that is not yet paired: those that wait are released (R138). -/
def execBarRelease (mask bid : Nat) (s : State) : Host.Outcome State Fault Refusal :=
  match s.barOf mask bid with
  | some b =>
    let members := (List.range 256).filter (bitOf mask)
    if members.all (fun k => decide (b.released < mgetD b.arrivals k 0)) then
      .next { s with
        bars := s.bars.map (fun x => if x = b then { b with released := b.released + 1 } else x)
        te := members.foldl (fun m k => mmod m k (releaseLeg mask bid)) s.te }
    else .next s
  | none => .next s

/-- FENCE: passes when the TE's MOVs have completed and are observable (R136). -/
def execSyncFence (te : Nat) (s : State) : Host.Outcome State Fault Refusal :=
  match s.atIns te with
  | some (r, w) =>
    if insClass w = 6 ∧ insOp w = 1 then
      if predicated r.preds w = false ∨ s.movsDone te r = true then
        .next (s.setLeg te r.advance)
      else .next s
    else .next s
  | none => .next s

/-! ### Loops -/

/-- Past the body of the LOOP at pc. -/
def LegRun.skipBody (r : LegRun) (body : Nat) : LegRun :=
  let n := nextPc r.loops (r.pc + body)
  { r with loops := n.1, pc := n.2 }

/-- The count of a LOOP: MAX, or the lesser of a hold word and MAX (R128, R144). -/
def State.loopCount (s : State) (k : Nat) (l : LoopI) : Nat :=
  if l.src then min (s.holdNat k (l.haddr * 64 + l.word * 4) 4) l.max else l.max

/-- LOOP.REPEAT (R129): a count of 0, or a LOOP predicated off (R116), skips the whole body. -/
def execLoopRepeat (te : Nat) (s : State) : Host.Outcome State Fault Refusal :=
  match s.atIns te with
  | some (r, w) =>
    let l := loopI w
    if insClass w = 7 ∧ l.op = 0 then
      if predicated r.preds w then
        if l.src ∧ (s.tez te).blocked r [(l.haddr * 64, 64)] then .next s
        else
          let n := s.loopCount te l
          if n = 0 then .next (s.setLeg te (r.skipBody l.body))
          else .next (s.setLeg te { r with loops := ⟨l.lvl, 0, n, r.pc + 1, r.pc + l.body⟩ :: r.loops, pc := r.pc + 1 })
      else .next (s.setLeg te (r.skipBody l.body))
    else .next s
  | none => .next s

/-! ### Predicates -/

/-- A comparison by COND; with a NaN only NE holds (R128, R129). -/
def condHolds (cond : Nat) (fp : Bool) (a b : Nat) : Bool :=
  let lt := if fp then fLt (fv a) (fv b) else decide (i32 a < i32 b)
  let eq := if fp then fEq (fv a) (fv b) else decide (i32 a = i32 b)
  let gt := if fp then fLt (fv b) (fv a) else decide (i32 b < i32 a)
  match cond with
  | 0 => eq
  | 1 => !eq
  | 2 => lt
  | 3 => lt || eq
  | 4 => gt
  | 5 => gt || eq
  | _ => false

/-- The form of a PRED word a command stands for. -/
def isPred (op w : Nat) : Bool := decide (insOp w = op)

/-- A PRED that sets PD; p0 is never a destination (R116). -/
def State.predOp (s : State) (k op : Nat) (hold : PredI → List (Nat × Nat)) (f : State → PredI → LegRun → Bool) : State :=
  s.issue k 8 (isPred op) (fun _ w => hold (predI w)) (fun s r w =>
    let p := predI w
    (s, if p.pd = 0 then r else { r with preds := setBit r.preds p.pd (f s p r) }))

def execPredCmp (te : Nat) (s : State) : Host.Outcome State Fault Refusal :=
  .next (s.predOp te 0 (fun p => [(p.haddr * 64, 64)])
    (fun s p _ => condHolds p.cond p.fp (s.holdNat te (p.haddr * 64 + p.word * 4) 4) p.imm))

def execPredVcmp (te : Nat) (s : State) : Host.Outcome State Fault Refusal :=
  .next (s.predOp te 1 (fun _ => []) (fun s p _ => condHolds p.cond p.fp (s.vreg te p.vreg p.lane) p.imm))

def execPredAnd (te : Nat) (s : State) : Host.Outcome State Fault Refusal :=
  .next (s.predOp te 2 (fun _ => []) (fun _ p r => predBit r.preds p.pa && predBit r.preds p.pb))

def execPredOr (te : Nat) (s : State) : Host.Outcome State Fault Refusal :=
  .next (s.predOp te 3 (fun _ => []) (fun _ p r => predBit r.preds p.pa || predBit r.preds p.pb))

def execPredNot (te : Nat) (s : State) : Host.Outcome State Fault Refusal :=
  .next (s.predOp te 4 (fun _ => []) (fun _ p r => !(predBit r.preds p.pa)))

def execPredSet (te : Nat) (s : State) : Host.Outcome State Fault Refusal :=
  .next (s.predOp te 5 (fun _ => []) (fun _ p _ => bitOf p.imm 0))

end Sys2Proof.Machine
end

