-- ==== Sys2Proof/Machine/Red.lean ====
section
/-! DEFINITION. RED (R90, R91, R127). -/

namespace Sys2Proof.Machine

/-- The form of a RED word a command stands for. -/
def isRed (op w : Nat) : Bool := decide (insOp w = op)

/-- The bytes a RED writes at DST. -/
def redOut (d : RedI) : Nat :=
  match d.op with
  | 0 => 4
  | 1 => 4
  | 5 => 8
  | 6 => 256 + 4 * d.k
  | _ => 4 * d.n

/-- The hold operands of a RED. -/
def redHold (_ : LegRun) (w : Nat) : List (Nat × Nat) :=
  let d := redI w
  [(d.src * 64, 4 * d.n), (d.dst * 64, redOut d)] ++
    (if d.op = 3 ∨ d.op = 4 then [(d.eps * 64, 64), (d.wadr * 64, 4 * d.n)] else []) ++
    (if d.op = 4 then [(d.badr * 64, 4 * d.n)] else [])

/-- A RED that writes what f makes of its N FP32 elements at DST; the second list goes to DST + 256. DESIGN CHOICE (log 201): R127
speaks of DST = SRC alone; every source (elements, w, b, ε) is read before a byte of DST is written, however they overlap. -/
def State.red (s : State) (k op : Nat) (f : State → RedI → List Nat → List Nat × List Nat) : State :=
  s.issue k 5 (isRed op) redHold (fun s r w =>
    let d := redI w
    let x := f s d (s.hold32s k (d.src * 64) d.n)
    let s1 := s.holdWrite k (d.dst * 64) (bytes32 x.1)
    (if x.2.isEmpty then s1 else s1.holdWrite k (d.dst * 64 + 256) (bytes32 x.2), r))

def execRedSum (te : Nat) (s : State) : Host.Outcome State Fault Refusal :=
  .next (s.red te 0 (fun _ _ l => ([redSum l], [])))

def execRedMax (te : Nat) (s : State) : Host.Outcome State Fault Refusal :=
  .next (s.red te 1 (fun _ _ l => ([redMax l], [])))

def execRedSoftmax (te : Nat) (s : State) : Host.Outcome State Fault Refusal :=
  .next (s.red te 2 (fun _ _ l => (softmax l, [])))

def execRedRmsnorm (te : Nat) (s : State) : Host.Outcome State Fault Refusal :=
  .next (s.red te 3 (fun s d l =>
    (rmsNorm l (s.hold32s te (d.wadr * 64) d.n) (s.holdNat te (d.eps * 64) 4), [])))

def execRedLayernorm (te : Nat) (s : State) : Host.Outcome State Fault Refusal :=
  .next (s.red te 4 (fun s d l =>
    (layerNorm l (s.hold32s te (d.wadr * 64) d.n) (s.hold32s te (d.badr * 64) d.n) (s.holdNat te (d.eps * 64) 4), [])))

/-- The index at DST and the value at DST + 4 (R127). -/
def execRedArgmax (te : Nat) (s : State) : Host.Outcome State Fault Refusal :=
  .next (s.red te 5 (fun _ _ l => ([(argmax l).1, (argmax l).2], [])))

/-- k values from DST and k indices from DST + 256 (R127). -/
def execRedTopk (te : Nat) (s : State) : Host.Outcome State Fault Refusal :=
  .next (s.red te 6 (fun _ d l => ((topk l d.k).map (·.2), (topk l d.k).map (·.1))))

end Sys2Proof.Machine
end

