-- ==== Sys2Proof/Machine/Tap.lean ====
section
/-! DEFINITION. The TAP (R584, R585, R587, R560): the instructions of the IEEE 1149.1 port, each with the debug state that
makes it available; one that is not available selects BYPASS. -/

namespace Sys2Proof.Machine

/-- BYPASS. -/
def tapBypass : Nat := 0xFF

/-- A bit of the debug scope in force: 0 TAP, 1 1500, 2 TRACE, 3 EXTEST. -/
def State.inScope (s : State) (i : Nat) : Bool := bitOf (s.rf R.lcsDbg F.lcsDbg_SCOPE) i

/-- An instruction selected, or BYPASS where it is not available or the hub is in confidential mode; what it then does. -/
def State.tapSelect (s : State) (code : Nat) (ok : Bool) (f : State → State) : State :=
  let go := ok && !s.conf
  let s1 : State := { s with tap := { s.tap with ir := if go then code else tapBypass } }
  if go then f s1 else s1

/-- The TAP's 32-bit identification: version, part number, manufacturer. -/
def State.idcode (s : State) : Nat :=
  s.rf R.glbId F.glbId_BASE_STEP / 16 * 2 ^ 28 + 0x7030 * 2 ^ 12 + s.fuses.mfr % 2 ^ 11 * 2 + 1

/-- IDCODE, always available. -/
def execIdcode (s : State) : Host.Outcome State Fault Refusal :=
  .next (({ s with tap := { s.tap with ir := 1 } } : State).send .jtag [1] (leBytes 4 s.idcode))

/-- BYPASS, always available. -/
def execBypass (s : State) : Host.Outcome State Fault Refusal := .next { s with tap := { s.tap with ir := tapBypass } }

/-- SAMPLE/PRELOAD. -/
def execSamplePreload (s : State) : Host.Outcome State Fault Refusal := .next (s.tapSelect 2 (s.inScope 0) id)

/-- The pins may be taken over: EXTEST in scope, in bring-up before TRAIN or HELD. -/
def State.pinsFree (s : State) : Bool :=
  s.inScope 3 && ((decide (s.brgState = 0) && decide (s.brgStep < 5)) || decide (s.brgState = 2))

/-- EXTEST. -/
def execExtest (s : State) : Host.Outcome State Fault Refusal := .next (s.tapSelect 3 s.pinsFree id)

/-- CLAMP. -/
def execClamp (s : State) : Host.Outcome State Fault Refusal := .next (s.tapSelect 4 s.pinsFree id)

/-- HIGHZ. -/
def execHighz (s : State) : Host.Outcome State Fault Refusal := .next (s.tapSelect 5 s.pinsFree id)

/-- LCS_CMD written over JTAG (R584). -/
def State.tapLcsCmd (s : State) (data : Nat) : State :=
  let op := data % 256
  let s1 := s.rset R.lcsCmd F.lcsCmd_ARG (bitsOf data 8 8)
  let arg := bitsOf data 8 8
  let fail := Config.freeValue s1.fresh 3
  if op = 1 then s1.tick.doTransition 2 arg fail []
  else if op = 2 then s1.tick.doFuse 2 arg fail []
  else if op = 3 then s1.challenge 2
  else if op = 4 then s1.doAuth 2 []
  else if op = 5 then s1.dbgRevoke 2
  else s1

/-- LCS_ACCESS: a register of the LCS block by its 16-bit offset; a read shifts its 64 bits out. -/
def execLcsAccess (off : Nat) (write : Bool) (data : Nat) (s : State) : Host.Outcome State Fault Refusal :=
  let o := R.lcsStatus + off % 2 ^ 16 / 8 * 8
  .next (s.tapSelect 0x10 true (fun s =>
    if write then (if o = R.lcsCmd then s.tapLcsCmd data else s.regWrite o 8 data)
    else s.send .jtag [0x10] (leBytes 8 (s.regRead o))))

/-- REG_ACCESS: any register-space offset; LCS_CMD is not to be written this way, which is no route of R584. DESIGN CHOICE (log
202): R107 and its likes say that only PF0 may write a block, R587 that REG_ACCESS reaches any offset; the debug unit's write goes
through as PF0's would. -/
def execRegAccess (off : Nat) (write : Bool) (data : Nat) (s : State) : Host.Outcome State Fault Refusal :=
  let o := off / 8 * 8
  .next (s.tapSelect 0x20 (s.inScope 0) (fun s =>
    if 0x4000000 ≤ o then s
    else if write then
      if o = R.lcsCmd then (if 1 ≤ data % 256 ∧ data % 256 ≤ 5 then s.lcsRun none (fun s => (s, lcsRoute)) else s)
      else s.regWrite o 8 data
    else s.send .jtag [0x20] (leBytes 8 (s.regRead o))))

/-- No partition holds a leg in its slot. -/
def State.noLegs (s : State) : Bool :=
  (s.partRecs.map (·.part)).all (fun p => match s.blockOf p with
    | some b => b.legs.isEmpty
    | none => true)

/-- WSP_SELECT. -/
def execWspSelect (s : State) : Host.Outcome State Fault Refusal := .next (s.tapSelect 0x30 (s.inScope 1 && s.noLegs) id)

/-- TRACE_READ: the trace buffers are shifted out. -/
def execTraceRead (s : State) : Host.Outcome State Fault Refusal :=
  .next (s.tapSelect 0x40 (s.inScope 2) (fun s => s.send .jtag [0x40] s.tap.trace))

end Sys2Proof.Machine
end

