-- ==== Sys2Proof/Machine/Dispatch.lean ====
section
/-! DEFINITION. One arm per command: the meaning each one calls. -/

namespace Sys2Proof.Machine

/-- What a command does to everything but the queue of waiting commands. -/
def exec (i : Instr) (s : State) : Host.Outcome State Fault Refusal :=
  match i with
  | .sailingBoundary lateNs rails tiles badMeter => Sys2Proof.Machine.execSailingBoundary lateNs rails tiles badMeter s
  | .commitC1 fit => Sys2Proof.Machine.execCommitC1 fit s
  | .commitC2 fit => Sys2Proof.Machine.execCommitC2 fit s
  | .commitSpill n => Sys2Proof.Machine.execCommitSpill n s
  | .intakeI0 => Sys2Proof.Machine.execIntakeI0 s
  | .intakeI1 unfin => Sys2Proof.Machine.execIntakeI1 unfin s
  | .intakeI2 unfin => Sys2Proof.Machine.execIntakeI2 unfin s
  | .intakeI3 unfin => Sys2Proof.Machine.execIntakeI3 unfin s
  | .intakeI4 unfin => Sys2Proof.Machine.execIntakeI4 unfin s
  | .runStart => Sys2Proof.Machine.execRunStart s
  | .legStart te => Sys2Proof.Machine.execLegStart te s
  | .copyIssue part idx => Sys2Proof.Machine.execCopyIssue part idx s
  | .copyComplete part idx => Sys2Proof.Machine.execCopyComplete part idx s
  | .quietStart => Sys2Proof.Machine.execQuietStart s
  | .surveyStart => Sys2Proof.Machine.execSurveyStart s
  | .surveyItemDone kind unit value low ch => Sys2Proof.Machine.execSurveyItemDone kind unit value low ch s
  | .legWatchdog te lost => Sys2Proof.Machine.execLegWatchdog te lost s
  | .endLeg te cyc lost => Sys2Proof.Machine.execEndLeg te cyc lost s
  | .movLoad te => Sys2Proof.Machine.execMovLoad te s
  | .movStore te => Sys2Proof.Machine.execMovStore te s
  | .movHcopy te => Sys2Proof.Machine.execMovHcopy te s
  | .movZero te => Sys2Proof.Machine.execMovZero te s
  | .movComplete te mov => Sys2Proof.Machine.execMovComplete te mov s
  | .mmaAcc te cyc => Sys2Proof.Machine.execMmaAcc te cyc s
  | .mmaAccDrain te cyc => Sys2Proof.Machine.execMmaAccDrain te cyc s
  | .mmaDrain te cyc => Sys2Proof.Machine.execMmaDrain te cyc s
  | .mmaClear te cyc => Sys2Proof.Machine.execMmaClear te cyc s
  | .mmaComplete te => Sys2Proof.Machine.execMmaComplete te s
  | .wsbBlockArrive te cyc => Sys2Proof.Machine.execWsbBlockArrive te cyc s
  | .vecAdd te => Sys2Proof.Machine.execVecAdd te s
  | .vecSub te => Sys2Proof.Machine.execVecSub te s
  | .vecMul te => Sys2Proof.Machine.execVecMul te s
  | .vecFma te => Sys2Proof.Machine.execVecFma te s
  | .vecMin te => Sys2Proof.Machine.execVecMin te s
  | .vecMax te => Sys2Proof.Machine.execVecMax te s
  | .vecAbs te => Sys2Proof.Machine.execVecAbs te s
  | .vecNeg te => Sys2Proof.Machine.execVecNeg te s
  | .vecAnd te => Sys2Proof.Machine.execVecAnd te s
  | .vecOr te => Sys2Proof.Machine.execVecOr te s
  | .vecXor te => Sys2Proof.Machine.execVecXor te s
  | .vecShl te => Sys2Proof.Machine.execVecShl te s
  | .vecShr te => Sys2Proof.Machine.execVecShr te s
  | .vecSra te => Sys2Proof.Machine.execVecSra te s
  | .vecCmpeq te => Sys2Proof.Machine.execVecCmpeq te s
  | .vecCmplt te => Sys2Proof.Machine.execVecCmplt te s
  | .vecCmple te => Sys2Proof.Machine.execVecCmple te s
  | .vecSelect te => Sys2Proof.Machine.execVecSelect te s
  | .vecExp te => Sys2Proof.Machine.execVecExp te s
  | .vecLog te => Sys2Proof.Machine.execVecLog te s
  | .vecRcp te => Sys2Proof.Machine.execVecRcp te s
  | .vecRsqrt te => Sys2Proof.Machine.execVecRsqrt te s
  | .vecSqrt te => Sys2Proof.Machine.execVecSqrt te s
  | .vecTanh te => Sys2Proof.Machine.execVecTanh te s
  | .vecLd te => Sys2Proof.Machine.execVecLd te s
  | .vecSt te => Sys2Proof.Machine.execVecSt te s
  | .vecRand te => Sys2Proof.Machine.execVecRand te s
  | .vecRandu te => Sys2Proof.Machine.execVecRandu te s
  | .cvtCast te => Sys2Proof.Machine.execCvtCast te s
  | .cvtScale te => Sys2Proof.Machine.execCvtScale te s
  | .cvtQuant te => Sys2Proof.Machine.execCvtQuant te s
  | .cvtQscale te => Sys2Proof.Machine.execCvtQscale te s
  | .redSum te => Sys2Proof.Machine.execRedSum te s
  | .redMax te => Sys2Proof.Machine.execRedMax te s
  | .redSoftmax te => Sys2Proof.Machine.execRedSoftmax te s
  | .redRmsnorm te => Sys2Proof.Machine.execRedRmsnorm te s
  | .redLayernorm te => Sys2Proof.Machine.execRedLayernorm te s
  | .redArgmax te => Sys2Proof.Machine.execRedArgmax te s
  | .redTopk te => Sys2Proof.Machine.execRedTopk te s
  | .syncBar te => Sys2Proof.Machine.execSyncBar te s
  | .barRelease mask bid => Sys2Proof.Machine.execBarRelease mask bid s
  | .syncFence te => Sys2Proof.Machine.execSyncFence te s
  | .loopRepeat te => Sys2Proof.Machine.execLoopRepeat te s
  | .predCmp te => Sys2Proof.Machine.execPredCmp te s
  | .predVcmp te => Sys2Proof.Machine.execPredVcmp te s
  | .predAnd te => Sys2Proof.Machine.execPredAnd te s
  | .predOr te => Sys2Proof.Machine.execPredOr te s
  | .predNot te => Sys2Proof.Machine.execPredNot te s
  | .predSet te => Sys2Proof.Machine.execPredSet te s
  | .teFailing tile phys cause => Sys2Proof.Machine.execTeFailing tile phys cause s
  | .doorbell tenant ring half value => Sys2Proof.Machine.execDoorbell tenant ring half value s
  | .descRun ring didx => Sys2Proof.Machine.execDescRun ring didx s
  | .descXfer ring didx => Sys2Proof.Machine.execDescXfer ring didx s
  | .descLoadProg ring didx => Sys2Proof.Machine.execDescLoadProg ring didx s
  | .descAbort ring didx => Sys2Proof.Machine.execDescAbort ring didx s
  | .chunkFillDone ring buf => Sys2Proof.Machine.execChunkFillDone ring buf s
  | .chunkDrainDone ring buf => Sys2Proof.Machine.execChunkDrainDone ring buf s
  | .dtuInvPage lane seq vpn tenant => Sys2Proof.Machine.execDtuInvPage lane seq vpn tenant s
  | .dtuInvTenant lane seq tenant => Sys2Proof.Machine.execDtuInvTenant lane seq tenant s
  | .dtuInvAll lane seq => Sys2Proof.Machine.execDtuInvAll lane seq s
  | .translationWalk cache tenant va => Sys2Proof.Machine.execTranslationWalk cache tenant va s
  | .pinLoadDone tenant => Sys2Proof.Machine.execPinLoadDone tenant s
  | .tfqPop tenant => Sys2Proof.Machine.execTfqPop tenant s
  | .tinvClr tenant => Sys2Proof.Machine.execTinvClr tenant s
  | .tmeasGo tenant => Sys2Proof.Machine.execTmeasGo tenant s
  | .tmeasDone tenant => Sys2Proof.Machine.execTmeasDone tenant s
  | .atsTranslationCompletion fn page tranId ok rd wr => Sys2Proof.Machine.execAtsTranslationCompletion fn page tranId ok rd wr s
  | .atsInvalidateRequest itag fn page => Sys2Proof.Machine.execAtsInvalidateRequest itag fn page s
  | .atsInvalidationCompletion itag => Sys2Proof.Machine.execAtsInvalidationCompletion itag s
  | .rds req pa tag credit qc ten ue => Sys2Proof.Machine.execRds req pa tag credit qc ten ue s
  | .rdo req pa tag credit qc ten => Sys2Proof.Machine.execRdo req pa tag credit qc ten s
  | .upg req pa tag credit qc ten => Sys2Proof.Machine.execUpg req pa tag credit qc ten s
  | .rdc req pa tag alloc credit qc ten => Sys2Proof.Machine.execRdc req pa tag alloc credit qc ten s
  | .wri req pa tag credit qc ten data => Sys2Proof.Machine.execWri req pa tag credit qc ten data s
  | .wrp req pa tag credit qc ten mask data => Sys2Proof.Machine.execWrp req pa tag credit qc ten mask data s
  | .wb agent pa data => Sys2Proof.Machine.execWb agent pa data s
  | .evct agent pa => Sys2Proof.Machine.execEvct agent pa s
  | .compAck req pa => Sys2Proof.Machine.execCompAck req pa s
  | .snoopAtStop pa stop ue => Sys2Proof.Machine.execSnoopAtStop pa stop ue s
  | .snpRsp slip pa held dirty sends wbseen reqhold => Sys2Proof.Machine.execSnpRsp slip pa held dirty sends wbseen reqhold s
  | .snpData agent pa dirty data => Sys2Proof.Machine.execSnpData agent pa dirty data s
  | .snoopComplete pa => Sys2Proof.Machine.execSnoopComplete pa s
  | .data req pa => Sys2Proof.Machine.execData req pa s
  | .gnt req pa => Sys2Proof.Machine.execGnt req pa s
  | .retry req pa => Sys2Proof.Machine.execRetry req pa s
  | .wbAck agent pa => Sys2Proof.Machine.execWbAck agent pa s
  | .slipSnpTo slip => Sys2Proof.Machine.execSlipSnpTo slip s
  | .slipAgentLoss slip => Sys2Proof.Machine.execSlipAgentLoss slip s
  | .mrd src pa tag rid qc ten ecc => Sys2Proof.Machine.execMrd src pa tag rid qc ten ecc s
  | .mwr src pa tag rid qc mask ten data => Sys2Proof.Machine.execMwr src pa tag rid qc mask ten data s
  | .mdata router tag => Sys2Proof.Machine.execMdata router tag s
  | .mwrAck router tag => Sys2Proof.Machine.execMwrAck router tag s
  | .errResponse router tag => Sys2Proof.Machine.execErrResponse router tag s
  | .regWr off size value src tag => Sys2Proof.Machine.execRegWr off size value src tag s
  | .regAck block => Sys2Proof.Machine.execRegAck block s
  | .errCaptureClear off => Sys2Proof.Machine.execErrCaptureClear off s
  | .errRec block cause unit => Sys2Proof.Machine.execErrRec block cause unit s
  | .recordHandled => Sys2Proof.Machine.execRecordHandled s
  | .fatal block cause unit => Sys2Proof.Machine.execFatal block cause unit s
  | .partitionReset part cls src tag => Sys2Proof.Machine.execPartitionReset part cls src tag s
  | .flitCrcError router port again => Sys2Proof.Machine.execFlitCrcError router port again s
  | .linkRetrainDone router port ok => Sys2Proof.Machine.execLinkRetrainDone router port ok s
  | .hdrUe router => Sys2Proof.Machine.execHdrUe router s
  | .dataUe router ten pa tag => Sys2Proof.Machine.execDataUe router ten pa tag s
  | .wakeRequest d => Sys2Proof.Machine.execWakeRequest d s
  | .domainUp d => Sys2Proof.Machine.execDomainUp d s
  | .wakeFail d => Sys2Proof.Machine.execWakeFail d s
  | .tollRelease p q => Sys2Proof.Machine.execTollRelease p q s
  | .feedbackScaleUpdate vaults lrsQueues => Sys2Proof.Machine.execFeedbackScaleUpdate vaults lrsQueues s
  | .fordOverrun src dst n ptr leaf => Sys2Proof.Machine.execFordOverrun src dst n ptr leaf s
  | .fordReset dom other n m => Sys2Proof.Machine.execFordReset dom other n m s
  | .fordReady dom other => Sys2Proof.Machine.execFordReady dom other s
  | .lockLost dom => Sys2Proof.Machine.execLockLost dom s
  | .trefLost => Sys2Proof.Machine.execTrefLost s
  | .ospFlitReceive slip flit => Sys2Proof.Machine.execOspFlitReceive slip flit s
  | .ospReplay slip fseq => Sys2Proof.Machine.execOspReplay slip fseq s
  | .slipRequest slip => Sys2Proof.Machine.execSlipRequest slip s
  | .creditTo slip => Sys2Proof.Machine.execCreditTo slip s
  | .memTo slip tag => Sys2Proof.Machine.execMemTo slip tag s
  | .slipLinkError slip => Sys2Proof.Machine.execSlipLinkError slip s
  | .slipRetrainDone slip rate mods ok => Sys2Proof.Machine.execSlipRetrainDone slip rate mods ok s
  | .slipDown slip => Sys2Proof.Machine.execSlipDown slip s
  | .slipSidebandLinkDown slip => Sys2Proof.Machine.execSlipSidebandLinkDown slip s
  | .slipRetrain slip => Sys2Proof.Machine.execSlipRetrain slip s
  | .slipDiscoveryDone slip rate mods link desc => Sys2Proof.Machine.execSlipDiscoveryDone slip rate mods link desc s
  | .slipClr slip => Sys2Proof.Machine.execSlipClr slip s
  | .stackTempRead port temp answered => Sys2Proof.Machine.execStackTempRead port temp answered s
  | .channelFailing port ch silent => Sys2Proof.Machine.execChannelFailing port ch silent s
  | .spareCopyDone port bad => Sys2Proof.Machine.execSpareCopyDone port bad s
  | .stackTakenOut port => Sys2Proof.Machine.execStackTakenOut port s
  | .lrsSpareCh port ch => Sys2Proof.Machine.execLrsSpareCh port ch s
  | .lrsRetCh port ch pass => Sys2Proof.Machine.execLrsRetCh port ch pass s
  | .lrsReset port mism => Sys2Proof.Machine.execLrsReset port mism s
  | .lrsClr port => Sys2Proof.Machine.execLrsClr port s
  | .patrolScrub unit ces ues => Sys2Proof.Machine.execPatrolScrub unit ces ues s
  | .vaultRegimeChange vault t => Sys2Proof.Machine.execVaultRegimeChange vault t s
  | .rowRepairDone vault chan bank row found => Sys2Proof.Machine.execRowRepairDone vault chan bank row found s
  | .llcWayFail slice way lines bad => Sys2Proof.Machine.execLlcWayFail slice way lines bad s
  | .teReqLane tile lane => Sys2Proof.Machine.execTeReqLane tile lane s
  | .teClrFailed tile mask => Sys2Proof.Machine.execTeClrFailed tile mask s
  | .teClr te => Sys2Proof.Machine.execTeClr te s
  | .tileClr tile => Sys2Proof.Machine.execTileClr tile s
  | .cohClr => Sys2Proof.Machine.execCohClr s
  | .octClr => Sys2Proof.Machine.execOctClr s
  | .fordClr => Sys2Proof.Machine.execFordClr s
  | .pciClr => Sys2Proof.Machine.execPciClr s
  | .qClr => Sys2Proof.Machine.execQClr s
  | .pwrClr => Sys2Proof.Machine.execPwrClr s
  | .twinClr => Sys2Proof.Machine.execTwinClr s
  | .registerWrite off size value => Sys2Proof.Machine.execRegisterWrite off size value s
  | .stage => Sys2Proof.Machine.execStage s
  | .abandon => Sys2Proof.Machine.execAbandon s
  | .switch => Sys2Proof.Machine.execSwitch s
  | .manifestCheckDone => Sys2Proof.Machine.execManifestCheckDone s
  | .pwrLeanEnd mask => Sys2Proof.Machine.execPwrLeanEnd mask s
  | .kaSupplyUnhealthy mvA mvB => Sys2Proof.Machine.execKaSupplyUnhealthy mvA mvB s
  | .kaSupplyReturn mvA mvB => Sys2Proof.Machine.execKaSupplyReturn mvA mvB s
  | .kaSupplyLoss => Sys2Proof.Machine.execKaSupplyLoss s
  | .vdroop mv => Sys2Proof.Machine.execVdroop mv s
  | .mainRailFault rail => Sys2Proof.Machine.execMainRailFault rail s
  | .logicTempChange t => Sys2Proof.Machine.execLogicTempChange t s
  | .hubRstN => Sys2Proof.Machine.execHubRstN s
  | .keepalivePowerGood => Sys2Proof.Machine.execKeepalivePowerGood s
  | .fuses ms => Sys2Proof.Machine.execFuses ms s
  | .firmware ms => Sys2Proof.Machine.execFirmware ms s
  | .rcvLoad => Sys2Proof.Machine.execRcvLoad s
  | .candidate ms => Sys2Proof.Machine.execCandidate ms s
  | .train ms badRail => Sys2Proof.Machine.execTrain ms badRail s
  | .twinWindowExpiry => Sys2Proof.Machine.execTwinWindowExpiry s
  | .memtest ms rows banks ways tes chans => Sys2Proof.Machine.execMemtest ms rows banks ways tes chans s
  | .discover ms mism peer => Sys2Proof.Machine.execDiscover ms mism peer s
  | .compare ms => Sys2Proof.Machine.execCompare ms s
  | .ready ms => Sys2Proof.Machine.execReady ms s
  | .fullNext => Sys2Proof.Machine.execFullNext s
  | .fwLoad => Sys2Proof.Machine.execFwLoad s
  | .activate => Sys2Proof.Machine.execActivate s
  | .warmHandoff => Sys2Proof.Machine.execWarmHandoff s
  | .handoffTimeout => Sys2Proof.Machine.execHandoffTimeout s
  | .mcWdog => Sys2Proof.Machine.execMcWdog s
  | .heartbeatToggle => Sys2Proof.Machine.execHeartbeatToggle s
  | .heartbeatLost frames => Sys2Proof.Machine.execHeartbeatLost frames s
  | .hello digest role peer serial auth => Sys2Proof.Machine.execHello digest role peer serial auth s
  | .keyx => Sys2Proof.Machine.execKeyx s
  | .ferry typ part key data => Sys2Proof.Machine.execFerry typ part key data s
  | .ferryRun => Sys2Proof.Machine.execFerryRun s
  | .ack last backlog overfl mism => Sys2Proof.Machine.execAck last backlog overfl mism s
  | .copy pa data => Sys2Proof.Machine.execCopy pa data s
  | .mreq write pa len tag data => Sys2Proof.Machine.execMreq write pa len tag data s
  | .mrsp write tag err data => Sys2Proof.Machine.execMrsp write tag err data s
  | .stepdown => Sys2Proof.Machine.execStepdown s
  | .handoff => Sys2Proof.Machine.execHandoff s
  | .takeoverRequest => Sys2Proof.Machine.execTakeoverRequest s
  | .takeover => Sys2Proof.Machine.execTakeover s
  | .twinTakeoverCmd => Sys2Proof.Machine.execTwinTakeoverCmd s
  | .resync part => Sys2Proof.Machine.execResync part s
  | .resyncSwitch part => Sys2Proof.Machine.execResyncSwitch part s
  | .twinLinkDown => Sys2Proof.Machine.execTwinLinkDown s
  | .backlogOverflow replay => Sys2Proof.Machine.execBacklogOverflow replay s
  | .rotate owner => Sys2Proof.Machine.execRotate owner s
  | .retire owner => Sys2Proof.Machine.execRetire owner s
  | .sweepDone owner => Sys2Proof.Machine.execSweepDone owner s
  | .scrubDone owner => Sys2Proof.Machine.execScrubDone owner s
  | .drbgFail => Sys2Proof.Machine.execDrbgFail s
  | .ideIntegrity stream => Sys2Proof.Machine.execIdeIntegrity stream s
  | .tdispGetVersion tenant => Sys2Proof.Machine.execTdispGetVersion tenant s
  | .tdispGetCapabilities tenant => Sys2Proof.Machine.execTdispGetCapabilities tenant s
  | .lockInterface tenant stream => Sys2Proof.Machine.execLockInterface tenant stream s
  | .getDeviceInterfaceReport tenant => Sys2Proof.Machine.execGetDeviceInterfaceReport tenant s
  | .getDeviceInterfaceState tenant => Sys2Proof.Machine.execGetDeviceInterfaceState tenant s
  | .startInterface tenant nonce => Sys2Proof.Machine.execStartInterface tenant nonce s
  | .stopInterface tenant => Sys2Proof.Machine.execStopInterface tenant s
  | .ideKm stream secure => Sys2Proof.Machine.execIdeKm stream secure s
  | .spdmGetCertificate slot off len => Sys2Proof.Machine.execSpdmGetCertificate slot off len s
  | .spdmChallenge slot nonce => Sys2Proof.Machine.execSpdmChallenge slot nonce s
  | .spdmGetMeasurements index nonce => Sys2Proof.Machine.execSpdmGetMeasurements index nonce s
  | .spdmKeyExchange transport exchange => Sys2Proof.Machine.execSpdmKeyExchange transport exchange s
  | .getPqSig => Sys2Proof.Machine.execGetPqSig s
  | .transition route dest fail buf => Sys2Proof.Machine.execTransition route dest fail buf s
  | .fuse route id fail buf => Sys2Proof.Machine.execFuse route id fail buf s
  | .challenge route => Sys2Proof.Machine.execChallenge route s
  | .dbgAuth route buf => Sys2Proof.Machine.execDbgAuth route buf s
  | .dbgRevoke route => Sys2Proof.Machine.execDbgRevoke route s
  | .dbgExpire => Sys2Proof.Machine.execDbgExpire s
  | .idcode => Sys2Proof.Machine.execIdcode s
  | .bypass => Sys2Proof.Machine.execBypass s
  | .samplePreload => Sys2Proof.Machine.execSamplePreload s
  | .extest => Sys2Proof.Machine.execExtest s
  | .clamp => Sys2Proof.Machine.execClamp s
  | .highz => Sys2Proof.Machine.execHighz s
  | .lcsAccess off write data => Sys2Proof.Machine.execLcsAccess off write data s
  | .regAccess off write data => Sys2Proof.Machine.execRegAccess off write data s
  | .wspSelect => Sys2Proof.Machine.execWspSelect s
  | .traceRead => Sys2Proof.Machine.execTraceRead s
  | .perst pin => Sys2Proof.Machine.execPerst pin s
  | .linkTrainingStart => Sys2Proof.Machine.execLinkTrainingStart s
  | .hostConfigRequest fn off write data len tag => Sys2Proof.Machine.execHostConfigRequest fn off write data len tag s
  | .vfFlr t => Sys2Proof.Machine.execVfFlr t s
  | .pf0Flr => Sys2Proof.Machine.execPf0Flr s
  | .vfEnableClear => Sys2Proof.Machine.execVfEnableClear s
  | .vfEnableSet => Sys2Proof.Machine.execVfEnableSet s
  | .d3hot => Sys2Proof.Machine.execD3hot s
  | .ltrSend => Sys2Proof.Machine.execLtrSend s
  | .hostBar0Access fn off write data len tag poison tbit => Sys2Proof.Machine.execHostBar0Access fn off write data len tag poison tbit s
  | .hostBar2Read off len tag dmg => Sys2Proof.Machine.execHostBar2Read off len tag dmg s
  | .hostBar2Write off data poison => Sys2Proof.Machine.execHostBar2Write off data poison s
  | .pcieCompletion fn tag st poison count data => Sys2Proof.Machine.execPcieCompletion fn tag st poison count data s
  | .completionTimeout tag => Sys2Proof.Machine.execCompletionTimeout tag s
  | .tagQuarantineEnd tag => Sys2Proof.Machine.execTagQuarantineEnd tag s
  | .l0pEntry => Sys2Proof.Machine.execL0pEntry s
  | .l1Entry sub => Sys2Proof.Machine.execL1Entry sub s
  | .l1Exit => Sys2Proof.Machine.execL1Exit s
  | .twinLinkUp => Sys2Proof.Machine.execTwinLinkUp s
  | .hbInToggle => Sys2Proof.Machine.execHbInToggle s
  | .twinFrameError => Sys2Proof.Machine.execTwinFrameError s
  | .pcieLinkUp rate width eq flit => Sys2Proof.Machine.execPcieLinkUp rate width eq flit s
  | .pcieReceiverError kind => Sys2Proof.Machine.execPcieReceiverError kind s
  | .l0pExit => Sys2Proof.Machine.execL0pExit s
  | .brgCtlRetry => Sys2Proof.Machine.execBrgCtlRetry s
  | .firmwareResume => Sys2Proof.Machine.execFirmwareResume s
  | .drbgOkReturn => Sys2Proof.Machine.execDrbgOkReturn s
  | .partitionResetEntry part => Sys2Proof.Machine.execPartitionResetEntry part s

end Sys2Proof.Machine
end

