-- ==== Sys2Proof/Safety.lean ====
section
/-! DEFINITION. What the claims rest on: the canonical form of the tables State keeps, what a step may leave alone, what a
hub stopped by FATAL is, which commands may move the time base or change a hold, and the growth of the fuses. -/

namespace Sys2Proof.Safety

open Sys2Proof.Machine

/-- The tables that hold registers, waiting writes, the bytes of the local map and the bytes of the holds are in their
canonical form: numbers strictly rising, no listed byte 0. Equal contents are then equal data. -/
def Canon (s : State) : Prop :=
  mrising s.regs = true ∧ mrising s.shadow = true ∧ Memory.wf s.mem = true ∧ Memory.wf s.holds = true

/-- Of the registers in force, only those listed differ. -/
def onlyRegs (ks : List Nat) (s t : State) : Prop := ∀ k, k ∉ ks → t.rv k = s.rv k

/-- Nothing but registers and the writes that wait for them differs. -/
def sameButRegs (s t : State) : Prop := t = { s with regs := t.regs, shadow := t.shadow }

/-- Nothing but registers, the writes that wait for them and the errors on their way to the sequencer differs. -/
def sameButErrors (s t : State) : Prop := t = { s with regs := t.regs, shadow := t.shadow, err := t.err }

/-- The bytes of the local map, the bytes of the holds, the fuses and the time base are what they were. -/
def sameStores (s t : State) : Prop := t.mem = s.mem ∧ t.holds = s.holds ∧ t.fuses = s.fuses ∧ t.time = s.time

/-- A hub that FATAL has stopped (R517): it is in that state, shows it, and has dropped its legs' plans, its copies and what it
would have told the host. -/
def stopped (t : State) : Prop :=
  t.err.fatal = true ∧ t.brgState = 4 ∧ t.pins.fault = true ∧ t.bars = [] ∧ t.copies = [] ∧ t.rings.due = [] ∧ t.rings.vecDue = []

/-- The fuse bits that a one-time programmable field can only gain (R578): none of a's bits is missing in b. -/
def fuseGrows (a b : Nat) : Prop := a &&& b = a

/-- Every field of the fuses has the bits it had. -/
def fusesGrow (a b : FuseSt) : Prop :=
  fuseGrows a.lc b.lc ∧ fuseGrows a.manEd b.manEd ∧ fuseGrows a.manMl b.manMl ∧ fuseGrows a.dbgEd b.dbgEd ∧
  fuseGrows a.dbgMl b.dbgMl ∧ fuseGrows a.tokInt b.tokInt ∧ fuseGrows a.tokFld b.tokFld ∧ fuseGrows a.tokRet b.tokRet ∧
  fuseGrows a.tokScr b.tokScr ∧ fuseGrows a.subsys b.subsys ∧ fuseGrows a.manSvn b.manSvn ∧ fuseGrows a.fwSvn b.fwSvn ∧
  fuseGrows a.uds b.uds ∧ fuseGrows a.fsec b.fsec ∧ b.serial = a.serial ∧ b.certs = a.certs ∧ b.vmin = a.vmin ∧ b.mfr = a.mfr ∧
  b.factory = a.factory

/-- The commands that move the time base: the boundary and the steps of a sailing, a late leaf of the boundary tree, the start
of the time base, and the resets of the whole hub. -/
def movesTime : Instr → Prop
  | .sailingBoundary .. | .commitC1 .. | .commitC2 .. | .intakeI0 | .intakeI1 .. | .intakeI2 .. | .intakeI3 .. | .intakeI4 .. | .runStart
  | .quietStart | .fordOverrun .. | .train .. | .hubRstN | .kaSupplyLoss => True
  | _ => False

/-- The commands that may write a hold: completing MOVs and MMAs, VEC ST, CVT, RED, the scrub that begins at I2, and the resets
of the whole hub. -/
def writesHold : Instr → Prop
  | .movComplete .. | .mmaComplete .. | .vecSt .. | .cvtCast .. | .cvtScale .. | .cvtQuant .. | .cvtQscale .. | .redSum ..
  | .redMax .. | .redSoftmax .. | .redRmsnorm .. | .redLayernorm .. | .redArgmax .. | .redTopk .. | .intakeI2 .. | .legWatchdog .. | .hubRstN
  | .kaSupplyLoss => True
  | _ => False

/-- A packet has been put on the fabric for a home, a controller or a block: it is the last of those under way, with the
number the next packet had. -/
def flies (s t : State) (x : HPkt) : Prop :=
  t.fab.air = s.fab.air ++ [(s.fab.net.next, x)] ∧ t.fab.net.live = s.fab.net.live ++ [s.fab.net.next]

/-- TE k stands at an instruction word w of a class and selection that issues: its leg is r, it is not predicated off, and
nothing it waits for holds it back. -/
def issues (s : State) (k cls : Nat) (sel : Nat → Bool) (hold : LegRun → Nat → List (Nat × Nat)) (r : LegRun) (w : Nat) : Prop :=
  s.atIns k = some (r, w) ∧ insClass w = cls ∧ sel w = true ∧ predicated r.preds w = true ∧
  (s.tez k).blocked r (hold r w) = false

end Sys2Proof.Safety
end

