-- ==== Sys2Proof/Certificates/Slice0/Obligations.lean ====
section
/-! DEFINITION. What the provers show of this hub: one Prop per statement of OBLIGATIONS.json. -/

open Sys2Proof Sys2Proof.Machine Sys2Proof.Safety

/-- O1: For every state whose queue is a command and a rest, step answers what exec answers for that command on the
state whose queue is the rest; put a command at the front of any state's queue, and step answers exec of it on that
state. (01_hub_overview, 95_what_each_step_holds) -/
def Obligations.StepRunsTheFrontCommand : Prop :=
  ∀ (s : State) (c : Instr),
    (∀ rest, s.pending = c :: rest → step s = exec c { s with pending := rest }) ∧
    step (s.withCommand c) = exec c s

/-- O2: DESIGN CHOICE of the model (log entries 2 and 166): on an empty queue step answers a next state whose queue is
empty and whose holds are what they were. Where the time base runs and the TCLK count is below PERIOD, the counts of
the sailing and in all rise by one; otherwise the time base stays. Where no packet is in the fabric or has arrived, no
register write waits for a domain, no slip is UP and no request of the host waits, nothing else changes; else the
routers run the cycle's 20 FCLK cycles, the slips send their flits and the waiting requests try again: the state is
the model's idle of it. (R23, R24, 02_sailings_and_timetable) -/
def Obligations.EmptyQueueIsOneTclkCycle : Prop :=
  ∀ s : State, s.pending = [] →
    let runs := s.rf R.sailStatus F.sailStatus_TB_RUN = 1 ∧ s.time.tclk < s.rf R.sailPeriod F.sailPeriod_PERIOD
    let next := { s.time with tclk := s.time.tclk + 1, total := s.time.total + 1 }
    ∃ t, step s = .next t ∧ t.pending = [] ∧ t.holds = s.holds ∧ (runs → t.time = next) ∧ (¬ runs → t.time = s.time) ∧
      t = s.idle ∧ (s.fab.net.live = [] → s.fab.air = [] → (∀ x ∈ s.fab.regBusy, x.2 = true) → (∀ v, v < 8 → s.slState v ≠ 2) →
        s.pci.stalled = [] → (runs → t = { s with time := next }) ∧ (¬ runs → t = s))

/-- O3: For every command and every state exec answers a next state, never a fault and never a refusal, and the queue
of that state is the queue it was given. Where a command's own condition does not hold and the spec names no other
effect, that nothing changes is the model's choice (log entry 5). (00_scope, 95_what_each_step_holds) -/
def Obligations.EveryCommandCompletesAndLeavesTheQueueAlone : Prop :=
  ∀ (c : Instr) (s : State), ∃ t, exec c s = .next t ∧ t.pending = s.pending

/-- O4: For every state in canonical form (numbers strictly rising, no listed byte 0 in memory or in a hold), if step
answers a next state, that state is in canonical form. (07_address_map, 03_tensor_engines) -/
def Obligations.EveryStepKeepsTheCanonicalForm : Prop :=
  ∀ s t : State, Canon s → step s = .next t → Canon t

/-- O5: State.reset is in the canonical form that every step keeps; its queue, its memory, its holds, its waiting
register writes and its outputs are empty, and no register is listed, so that each reads its reset value; the time
base does not run and no FATAL is in force. What an unlisted byte of memory or of a hold reads (0) is the model's
choice (log entries 3 and 4). (18_bring_up, 07_address_map) -/
def Obligations.ResetIsCanonicalWithNothingWaiting : Prop :=
  Canon State.reset ∧ State.reset.pending = [] ∧ State.reset.mem = [] ∧ State.reset.holds = [] ∧ State.reset.shadow = [] ∧
    State.reset.regs = [] ∧ State.reset.out = [] ∧ State.reset.err.fatal = false ∧ State.reset.rf R.sailStatus F.sailStatus_TB_RUN = 0

/-- O6: For every command that is not the boundary, a step of COMMIT or INTAKE, RUN_START, QUIET_START, TRAIN,
FORD_OVERRUN (whose leaf may make a boundary late), a hub reset or the loss of the keep-alive supplies, the TCLK
counts, the last step taken and the count of late boundaries are after it what they were before. (R23, R27, R29, R32,
02_sailings_and_timetable) -/
def Obligations.OnlyTheSailingsOwnStepsMoveTheTimeBase : Prop :=
  ∀ (c : Instr) (s t : State), ¬ movesTime c → exec c s = .next t → t.time = s.time

/-- O7: For every command but MOV_COMPLETE, MMA_COMPLETE, VEC ST, the CVT and RED forms, LEG_WATCHDOG, INTAKE_I2,
HUB_RST_N and KA_SUPPLY_LOSS, in every state, the bytes of every physical TE's hold are after it what they were
before. (R82, R131, R565, 03_tensor_engines, 04_leg_programs) -/
def Obligations.HoldsChangeOnlyByTheirOwnOperations : Prop :=
  ∀ (c : Instr) (s t : State), ¬ writesHold c → exec c s = .next t → t.holds = s.holds

/-- O8: For every command in every state, every fuse field of the next state has every bit that it had before: the
life-cycle field, the lot's identity, the keys and digests, and the floors. (R576, R577, R578, R583,
22_life_cycle_and_debug) -/
def Obligations.FuseBitsAreOnlyEverSet : Prop :=
  ∀ (c : Instr) (s t : State), exec c s = .next t → fusesGrow s.fuses t.fuses

/-- O9: COMMIT_C1, COMMIT_C2, INTAKE_I0 to INTAKE_I4, RUN_START and QUIET_START, in a state where the time base runs
and the step before has been the last one taken: each answers a next state in which it is the last step taken, the
sailing is late where it was or where an INTAKE step from I1 on finds the one before it unfinished, and the TCLK count
has reached its offset (4 for COMMIT, 40, 50, 60, 70 and 90 for the INTAKE steps, 100 for RUN, PERIOD less QUIET for
QUIET). In every other state each answers the state it was given. Where a command's own condition does not hold and
the spec names no other effect, that nothing changes is the model's choice (log entry 5). (R27, R29, R32, R35, R37,
02_sailings_and_timetable) -/
def Obligations.SailingStepsComeInOrder : Prop :=
  ∀ (s : State) (n : Nat) (b : Bool),
    let steps : List (Instr × Stage × Stage × Nat × Bool) :=
      [(.commitC1 n, .boundary, .c1, 4, false), (.commitC2 n, .c1, .c2, 4, false), (.intakeI0, .c2, .i0, 40, false),
       (.intakeI1 b, .i0, .i1, 50, b), (.intakeI2 b, .i1, .i2, 60, b), (.intakeI3 b, .i2, .i3, 70, b), (.intakeI4 b, .i3, .i4, 90, b),
       (.runStart, .i4, .run, 100, false),
       (.quietStart, .run, .quiet, s.rf R.sailPeriod F.sailPeriod_PERIOD - s.rf R.sailPeriod F.sailPeriod_QUIET, false)]
    ∀ x ∈ steps,
      (s.time.stage = x.2.1 ∧ s.rf R.sailStatus F.sailStatus_TB_RUN = 1 →
        ∃ t, exec x.1 s = .next t ∧ t.time = { s.time with
          total := s.time.total + (x.2.2.2.1 - s.time.tclk), tclk := max s.time.tclk x.2.2.2.1, stage := x.2.2.1
          late := s.time.late || x.2.2.2.2 }) ∧
      (¬ (s.time.stage = x.2.1 ∧ s.rf R.sailStatus F.sailStatus_TB_RUN = 1) → exec x.1 s = .next s)

/-- O10: In QUIET, while the time base runs, SAILING_BOUNDARY answers a next state: SAIL_NUM is one more (it wraps at
64 bits), the TCLK count is 0 and the boundary is the last step taken; then the host's stalled requests are carried
out, where there are any, and the time base stays what it is. In any other step of a sailing, or while the time base
does not run, it changes nothing. COMMIT_SPILL n outside the boundary and C1, on a hub that issues outputs, in QUIET
only with no record left, answers a next state in which records are taken off the front of those that spilled, at most
n of them and, on a hub not stopped by FATAL, in their order: at least one where the first can be written; one that
waits stays, with those behind it; with no record left, the first n of the messages that spilled are taken instead.
Within the boundary and C1, in QUIET with a record left, or on a hub that issues nothing, it changes nothing. Where a
command's own condition does not hold and the spec names no other effect, that nothing changes is the model's choice
(log entry 5). (R23, R25, R30, 02_sailings_and_timetable) -/
def Obligations.BoundaryBeginsTheNextSailing : Prop :=
  ∀ (s : State) (ns n : Nat) (rails tiles : List Nat) (bad : Bool),
    (s.time.stage = .quiet → s.rf R.sailStatus F.sailStatus_TB_RUN = 1 →
      ∃ u : State, exec (.sailingBoundary ns rails tiles bad) s = .next u.retryHost ∧ u.sail = (s.sail + 1) % 2 ^ 64 ∧ u.time.tclk = 0 ∧
        u.time.stage = .boundary ∧ u.retryHost.time = u.time ∧ (u.pci.stalled = [] → u.retryHost = u)) ∧
    (¬ (s.time.stage = .quiet ∧ s.rf R.sailStatus F.sailStatus_TB_RUN = 1) →
      exec (.sailingBoundary ns rails tiles bad) s = .next s) ∧
    (s.time.stage ≠ .boundary → s.time.stage ≠ .c1 → s.muted = false → (s.time.stage = .quiet → s.rings.spill = []) →
      ∃ t j, exec (.commitSpill n) s = .next t ∧
        (t.err.fatal = false → t.rings.spill = (s.rings.spill.take n).drop j ++ s.rings.spill.drop n) ∧
        (∀ r rs, s.rings.spill = r :: rs → 0 < n →
          ((s.setRings { s.rings with spill := s.rings.spill.drop n, vecDue := [] }).issueRec r).2 ≠ .waits → 1 ≤ j) ∧
        (s.rings.spill = [] → t.rings.vecSpill = s.rings.vecSpill.drop n) ∧ t.time = s.time ∧ t.holds = s.holds ∧ t.fuses = s.fuses) ∧
    (s.time.stage = .boundary ∨ s.time.stage = .c1 ∨ s.muted = true ∨ (s.time.stage = .quiet ∧ s.rings.spill ≠ []) →
      exec (.commitSpill n) s = .next s)

/-- O11: LEG_START in RUN, on a hub without a FATAL error, for an idle TE whose plan begins with a leg that has a
voyage, a bound program and aligned regions: a next state in which that leg runs on the TE, at instruction 0, in no
loop, with every predicate false, no MOV outstanding and nothing in the stream buffer, and the plan is the rest; then
its WSTREAM entries whose translation comes become its stream. Before that no byte of memory changes; no byte of a hold
does, nor the time base. (R35, R129, R192, 02_sailings_and_timetable, 04_leg_programs)
-/
def Obligations.LegsStartAsPlanned : Prop :=
  ∀ (s : State) (te : Nat) (x : LegPlan) (xs : List LegPlan) (v : Nat × Nat) (c : Ctx) (pr : Prog),
    s.time.stage = .run → s.err.fatal = false → (s.tez te).plan = x :: xs → (s.tez te).run = none → x.blocked = false →
    x.voyage = some v → s.ctxOf v.1 v.2 = some c → mget s.progs x.entry.prog = some pr → (s.legRun te x c pr).misaligned = false →
      ∃ (u : State) (r : LegRun), exec (.legStart te) s = .next (u.streamOn te r) ∧ (u.tez te).run = some r ∧ (u.tez te).plan = xs ∧
        (u.tez te).wsb = [] ∧ (u.tez te).stream = [] ∧ (u.tez te).ahead = s.wstreams te x ∧ r.idx = x.idx ∧ r.entry = x.entry ∧ r.prog = pr ∧ r.pc = 0 ∧ r.loops = [] ∧ r.preds = 0 ∧ r.movs = [] ∧ r.mma = none ∧
        r.halted = none ∧ u.mem = s.mem ∧ u.holds = s.holds ∧ u.time = s.time ∧
        (u.streamOn te r).holds = s.holds ∧ (u.streamOn te r).time = s.time

/-- O12: END at its instruction, with no MOV of the leg outstanding (a STORE is until its writes are observable) and
no MMA running: the leg leaves the TE, its end is entered with outcome 0 TE_STATUS.STATE is 1 unless the TE is FAILING
or LOST, and outside confidential mode the cycles lost to bank conflicts are added to TE_PERF_STALL.HOLD, up to its
maximum; memory, holds, accumulators and vector registers keep their contents. While a MOV or an MMA still runs, END
changes nothing. LEG_WATCHDOG on a running leg that has not halted: the leg leaves the TE, its end is entered with
outcome 1, SAIL_EVENT.OVERRUN is 1 and the count of overrun legs rises by one, up to its maximum; memory stays, and
where the leg does not stand at a CVT, part of which may have been made, so do the holds and the TEs. Where a
command's own condition does not hold and the spec names no other effect, that nothing changes is the model's choice
(log entry 5). (R44, R45, R81, R105, R130, R606, 04_leg_programs, 02_sailings_and_timetable) -/
def Obligations.LegEndsAndTheWatchdog : Prop :=
  ∀ (s : State) (te cyc lost : Nat) (r : LegRun) (w : Nat),
    (s.atIns te = some (r, w) → insClass w = 0 → r.movs = [] → r.mma = none →
      ∃ t, exec (.endLeg te cyc lost) s = .next t ∧ (t.tez te).run = none ∧
        t.ended = s.ended ++ [⟨r.part, te, r.idx, r.entry, some (r.ring, r.didx), 0, 0, false, r.nflags, r.outs⟩] ∧
        (s.rf (R.teStatus te) F.teStatus_STATE < 3 → t.rf (R.teStatus te) F.teStatus_STATE = 1) ∧
        (s.conf = false → t.rf (R.tePerfStall te) F.tePerfStall_HOLD =
          satAdd (s.rf (R.tePerfStall te) F.tePerfStall_HOLD) lost (2 ^ F.tePerfStall_HOLD.w - 1)) ∧
        (3 ≤ s.rf (R.teStatus te) F.teStatus_STATE → t.rf (R.teStatus te) F.teStatus_STATE = s.rf (R.teStatus te) F.teStatus_STATE) ∧
        t = { s with te := t.te, ended := t.ended, regs := t.regs, shadow := t.shadow } ∧
        (∀ j, j ≠ te → t.tez j = s.tez j)) ∧
    (s.atIns te = some (r, w) → insClass w = 0 → (r.movs ≠ [] ∨ r.mma.isSome = true) → exec (.endLeg te cyc lost) s = .next s) ∧
    ((s.tez te).run = some r → r.halted = none →
      ∃ t nf, exec (.legWatchdog te lost) s = .next t ∧ (t.tez te).run = none ∧
        t.ended = s.ended ++ [⟨r.part, te, r.idx, r.entry, some (r.ring, r.didx), 1, 0, false, nf, r.outs⟩] ∧
        t.rf R.sailEvent F.sailEvent_OVERRUN = 1 ∧
        t.rf R.sailOvrCnt F.sailOvrCnt_LEG =
          satAdd (s.rf R.sailOvrCnt F.sailOvrCnt_LEG) 1 (2 ^ F.sailOvrCnt_LEG.w - 1) ∧ t.mem = s.mem ∧
        ((∀ w, s.atIns te = some (r, w) → insClass w ≠ 4) → nf = r.nflags ∧ t.holds = s.holds ∧ t.phys = s.phys))

/-- O13: COPY_ISSUE in RUN, on a hub without a FATAL error, for a partition that is neither crossing nor stopped nor
in reset, whose slot has a COPY entry at the index, bound to a voyage of a tenant not being torn down, whose program has
the two regions, aligned, and whose two ranges translate without a wait or a fault: that entry's copy is listed, without
a fault and not done, and asks for the lines it reads. COPY_COMPLETE for a listed copy: while its walks wait and its
partition issues none, nothing changes; once its reads have come and its lines are ready, its bytes move; once they have
moved, with its writes acknowledged, the copy is done where its sailing is still the one it was made for, and leaves the
list where it is not. (R192, R193, R194, R196, 06_memory_hierarchy) -/
def Obligations.CopiesIssueAndComplete : Prop :=
  ∀ (s : State) (p i : Nat),
    (∀ (b : SlotBlk) (f : PfEntry) (c : Ctx) (e : LegEntry) (pr : Prog) (sg dg : Region),
      s.time.stage = .run → s.err.fatal = false → s.man.crossed = false → (s.part p).stopped = false → (s.part p).reset = false →
      s.blockOf p = some b → b.pfs[i]? = some f → f.copy = true → s.copyBind p f = some (c, e) → mget s.progs e.prog = some pr →
      pr.regions[f.sreg]? = some sg → pr.regions[f.dreg]? = some dg → s.torn e.tenant = false →
      (let r := s.legRun f.te ⟨f.leg, p, e, some (c.ring, c.didx), false, 0⟩ c pr
       let a := s.footprintOpen (f.te / 4) (s.partQc p) e.tenant .rd (piecesOf (r.regionBase sg + f.soff) f.len)
       let d := a.1.footprintOpen (f.te / 4) (s.partQc p) e.tenant .wr (piecesOf (r.regionBase dg + f.doff) f.len)
       r.regionBase sg % (if sg.isWeight then 512 else 64) = 0 ∧ r.regionBase dg % (if dg.isWeight then 512 else 64) = 0 ∧
         a.2.wait = false ∧ d.2.wait = false ∧ a.2.fails = [] ∧ d.2.fails = []) →
      ∃ (u : State) (y : CopyX), exec (.copyIssue p i) s = .next (u.openReads y.who (f.te / 4) 1 (e.tenant + 1) y.reads) ∧ y ∈ u.copies ∧
        y.part = p ∧ y.idx = i ∧ y.ring = c.ring ∧ y.didx = c.didx ∧ y.target = s.timetableSail p + f.lead ∧ y.walking = false ∧
        y.done = false ∧ y.fault = none ∧ u.holds = s.holds ∧ u.time = s.time) ∧
    (∀ x : CopyX,
      s.copies.find? (fun y => decide (y.part = p) && decide (y.idx = i) && !y.done && y.fault.isNone) = some x →
      (x.walking = true → s.copiesRun p = false → exec (.copyComplete p i) s = .next s) ∧
      (x.walking = false → x.pieces ≠ [] → s.copyReady x = true → exec (.copyComplete p i) s = .next (s.copyMove x)) ∧
      (x.walking = false → x.pieces = [] → s.writesDone x.who = true →
        ∃ t, exec (.copyComplete p i) s = .next t ∧ t = { s with copies := t.copies } ∧
          (s.timetableSail x.part + x.entry.lead = x.target → ({ x with done := true } : CopyX) ∈ t.copies) ∧
          (s.timetableSail x.part + x.entry.lead ≠ x.target → t.copies = s.copies.erase x)))

/-- O14: SURVEY_START in QUIET, where some partition's slot is marked: the items of the marked partitions' tiles that
fit become the running ones, and no memory, hold or fuse changes; outside QUIET, or with none marked, nothing changes.
SURVEY_ITEM_DONE for a running eye-margin item whose margin is not low: it leaves the running list and PWR_SURVEY.DONE
rises by one, up to its maximum; for an item that is not running nothing changes. Where a command's own condition does
not hold and the spec names no other effect, that nothing changes is the model's choice (log entry 5). (R508, R509,
19_power_energy_ageing) -/
def Obligations.SurveysRunTheirItems : Prop :=
  ∀ (s : State),
    (s.time.stage = .quiet → s.marked ≠ [] →
      ∃ t, exec .surveyStart s = .next t ∧
        (∀ x ∈ t.pwr.running, x.1 = 3 ∨ ∃ m ∈ s.marked, x ∈ (tileItems m.1 m.2 [0, 1, 2]).1) ∧
        (∀ m ∈ s.marked, ∀ x ∈ (tileItems m.1 m.2 [0, 1, 2]).1, x.1 ≠ 2 → x ∈ t.pwr.running) ∧
        t.mem = s.mem ∧ t.holds = s.holds ∧ t.fuses = s.fuses ∧ t.time = s.time) ∧
    (s.time.stage ≠ .quiet ∨ s.marked = [] → exec .surveyStart s = .next s) ∧
    (∀ kind unit value ch : Nat,
      (s.pwr.running.contains (3, unit) = true →
        ∃ t, exec (.surveyItemDone 3 unit value false ch) s = .next t ∧ t.pwr.running = s.pwr.running.erase (3, unit) ∧
          t.rf R.pwrSurvey F.pwrSurvey_DONE = satAdd (s.rf R.pwrSurvey F.pwrSurvey_DONE) 1 (2 ^ F.pwrSurvey_DONE.w - 1) ∧
          t = { s with pwr := t.pwr, regs := t.regs, shadow := t.shadow, flash := t.flash }) ∧
      (s.pwr.running.contains (kind, unit) = false → ∀ low, exec (.surveyItemDone kind unit value low ch) s = .next s))

/-- O15: A VEC function whose instruction issues on a TE writes lane by lane, for every lane 0 to 63, the low 32 bits
of its function of A, B and C by TYPE: integer sums, differences and products clamped to 32 bits, floating ones
rounded; comparisons as all ones or 0; SELECT by the raw bits of A; shifts by B[4:0]; the six special functions on
FP32. Operand B is IMM in every lane where the instruction says so. The other vector registers, the accumulators,
every other TE, every hold, every byte of memory and every register of the hub stay. (R88, R89, R116, R123, R135,
R151, R152, R153, R154, 03_tensor_engines, 05_number_formats) -/
def Obligations.VectorFormsWriteEveryLane : Prop :=
  ∀ (s : State) (k : Nat) (r : LegRun) (w : Nat),
    let forms : List ((Nat → Instr) × Nat × (Bool → Nat → Nat → Nat → Nat)) :=
      [(.vecAdd, 0x00, fun i a b _ => if i then clamp32 (i32 a + i32 b) else vAdd a b),
       (.vecSub, 0x01, fun i a b _ => if i then clamp32 (i32 a - i32 b) else vSub a b),
       (.vecMul, 0x02, fun i a b _ => if i then clamp32 (i32 a * i32 b) else vMul a b),
       (.vecFma, 0x03, fun i a b c => if i then clamp32 (i32 a * i32 b + i32 c) else vFma a b c),
       (.vecMin, 0x04, fun i a b _ => if i then (if i32 a ≤ i32 b then a else b) else vMin a b),
       (.vecMax, 0x05, fun i a b _ => if i then (if i32 a ≤ i32 b then b else a) else vMax a b),
       (.vecAbs, 0x06, fun i a _ _ => if i then clamp32 (if i32 a < 0 then -(i32 a) else i32 a) else vAbs a),
       (.vecNeg, 0x07, fun i a _ _ => if i then clamp32 (-(i32 a)) else vNeg a),
       (.vecAnd, 0x08, fun _ a b _ => a &&& b), (.vecOr, 0x09, fun _ a b _ => a ||| b), (.vecXor, 0x0A, fun _ a b _ => a ^^^ b),
       (.vecShl, 0x0B, fun _ a b _ => a * 2 ^ (b % 32)), (.vecShr, 0x0C, fun _ a b _ => a / 2 ^ (b % 32)),
       (.vecSra, 0x0D, fun _ a b _ => code32 (i32 a / 2 ^ (b % 32))),
       (.vecCmpeq, 0x0E, fun i a b _ => if (if i then decide (i32 a = i32 b) else fEq (fv a) (fv b)) then 0xFFFFFFFF else 0),
       (.vecCmplt, 0x0F, fun i a b _ => if (if i then decide (i32 a < i32 b) else fLt (fv a) (fv b)) then 0xFFFFFFFF else 0),
       (.vecCmple, 0x10, fun i a b _ =>
         if (if i then decide (i32 a ≤ i32 b) else fLt (fv a) (fv b) || fEq (fv a) (fv b)) then 0xFFFFFFFF else 0),
       (.vecSelect, 0x11, fun _ a b c => if a = 0 then c else b),
       (.vecExp, 0x18, fun _ a _ _ => vExp a), (.vecLog, 0x19, fun _ a _ _ => vLog a), (.vecRcp, 0x1A, fun _ a _ _ => vRcp a),
       (.vecRsqrt, 0x1B, fun _ a _ _ => vRsqrt a), (.vecSqrt, 0x1C, fun _ a _ _ => vSqrt a), (.vecTanh, 0x1D, fun _ a _ _ => vTanh a)]
    ∀ x ∈ forms, issues s k 3 (fun w => decide (vecFunc w = x.2.1)) (fun _ _ => []) r w →
      ∃ t, exec (x.1 k) s = .next t ∧
        (∀ l, l < 64 → t.vreg k (vecI w).vd l =
          x.2.2 (vecI w).int (s.vreg k (vecI w).va l) (if (vecI w).immb then (vecI w).imm else s.vreg k (vecI w).vb l)
            (s.vreg k (vecI w).vc l) % 2 ^ 32) ∧
        (∀ v l, v ≠ (vecI w).vd → l < 64 → t.vreg k v l = s.vreg k v l) ∧
        (t.tez k).run = some r.advance ∧ (∀ j, j ≠ k → t.tez j = s.tez j) ∧
        (∀ i, (t.ph (s.physOf k)).accAt i = (s.ph (s.physOf k)).accAt i) ∧ (∀ y, y ≠ s.physOf k → t.ph y = s.ph y) ∧
        t = { s with te := t.te, phys := t.phys }

/-- O16: VEC LD that issues writes to each lane of VD the little-endian word of the hold at its address. VEC ST that
issues writes the 64 lanes of VA to the 256 hold bytes at its address, and nothing else of the machine but the leg's
own place changes. VEC RAND writes the words of the 16 Philox draws of its stream from the stream's next index on,
with the TE's seed, the leg's seed, its step and its TE, RANDU the uniform numbers those words give; both move the
stream's index on by 16 and no other stream's. (R92, R123, R124, 03_tensor_engines, 04_leg_programs) -/
def Obligations.VectorLoadStoreAndRandomForms : Prop :=
  ∀ (s : State) (k : Nat) (r : LegRun) (w : Nat),
    let v := vecI w
    (issues s k 3 (fun w => decide (vecFunc w = 0x20)) (fun r w => [(vecHold (vecI w) r.loops, 256)]) r w →
      ∃ t, exec (.vecLd k) s = .next t ∧
        (∀ l, l < 64 → t.vreg k v.vd l = s.holdNat k (vecHold v r.loops + 4 * l) 4 % 2 ^ 32) ∧
        (∀ v' l, v' ≠ v.vd → l < 64 → t.vreg k v' l = s.vreg k v' l) ∧ (t.tez k).run = some r.advance ∧
        t = { s with te := t.te, phys := t.phys }) ∧
    (issues s k 3 (fun w => decide (vecFunc w = 0x21)) (fun r w => [(vecHold (vecI w) r.loops, 256)]) r w →
      ∃ t, exec (.vecSt k) s = .next t ∧
        t.holds = (s.holdWrite k (vecHold v r.loops) ((List.range 64).flatMap (fun l => leBytes 4 (s.vreg k v.va l)))).holds ∧
        (t.tez k).run = some r.advance ∧ t = { s with te := t.te, holds := t.holds }) ∧
    (∀ x ∈ ([(.vecRand, 0x22, fun n => n), (.vecRandu, 0x23, uniform)] : List ((Nat → Instr) × Nat × (Nat → Nat))),
      issues s k 3 (fun w => decide (vecFunc w = x.2.1)) (fun _ _ => []) r w →
      ∃ t r', exec (x.1 k) s = .next t ∧
        (∀ l, l < 64 → t.vreg k v.vd l =
          x.2.2 ((randWords (s.rf (R.teRng k) F.teRng_SEED) r.seed r.entry.step k v.sidx (mgetD r.draws v.sidx 0)).getD l 0) % 2 ^ 32) ∧
        (t.tez k).run = some r' ∧ mgetD r'.draws v.sidx 0 = mgetD r.draws v.sidx 0 + 16 ∧
        (∀ i, i ≠ v.sidx → mget r'.draws i = mget r.draws i) ∧ r'.pc = r.advance.pc ∧ r'.loops = r.advance.loops ∧
        t = { s with te := t.te, phys := t.phys })

/-- O17: A CVT that issues, between two known formats: its rule (CAST, SCALE, QUANT or QSCALE) applied to the exact
values of its source elements gives codes, events and, for QSCALE, a scale; the hold is the one before with the codes
at the destination and that scale at its place; the leg goes on with the events among its flags; outside confidential
mode TE_FLAGS gains the events' bits and its saturation count rises by them. Memory, vector registers and accumulators
stay. (R125, R126, R158, R163, R164, R165, R166, R167, 05_number_formats, 03_tensor_engines) -/
def Obligations.ConversionsWriteTheirCodesAndCountEvents : Prop :=
  ∀ (s : State) (k : Nat) (r : LegRun) (w : Nat) (f d : CFmt),
    let c := cvtI w
    let a := cvtAt c r.loops
    let forms : List ((Nat → Instr) × Nat × (State → CvtI → CFmt → CFmt → List FVal → List Conv × Evts × Option Nat)) :=
      [(.cvtCast, 0, castRule), (.cvtScale, 1, scaleRule k), (.cvtQuant, 2, quantRule k), (.cvtQscale, 3, qscaleRule)]
    CFmt.ofCode c.sfmt = some f → CFmt.ofCode c.dfmt = some d →
    ∀ x ∈ forms, issues s k 4 (fun w => decide (insOp w = x.2.1)) cvtHold r w →
      let y := x.2.2 s c f d (s.elems k a.1 f c.n)
      ∃ t, exec (x.1 k) s = .next t ∧
        t.holds = ((s.putElems k a.2 d (y.1.map (·.code))).putScale k (c.scl * 64) y.2.2).holds ∧
        (t.tez k).run = some { r.advance with nflags := r.nflags ||| y.2.1.bits } ∧
        (s.conf = false → t.rv (R.teFlags k) = orFlags (s.rv (R.teFlags k)) y.2.1.flagBits) ∧
        (s.conf = false → t.rf (R.teCvtCnt k) F.teCvtCnt_SAT =
          satAdd (s.rf (R.teCvtCnt k) F.teCvtCnt_SAT) y.2.1.sat (2 ^ F.teCvtCnt_SAT.w - 1)) ∧
        (s.conf = true → t.regs = s.regs) ∧
        t = { s with te := t.te, holds := t.holds, regs := t.regs, shadow := t.shadow }

/-- O18: A RED that issues writes at DST (times 64) the little-endian words of its result on the N source elements:
the sum, the maximum, the softmax, the normalised elements with the weights, biases and epsilon it names, the index
and value of the maximum, or the k greatest values, whose indices go to DST plus 256. The leg goes on; nothing else of
the machine but the hold changes. (R90, R91, R127, 03_tensor_engines, 04_leg_programs) -/
def Obligations.ReductionsWriteTheirResults : Prop :=
  ∀ (s : State) (k : Nat) (r : LegRun) (w : Nat),
    let d := redI w
    let src := s.hold32s k (d.src * 64) d.n
    let forms : List ((Nat → Instr) × Nat × List Nat × List Nat) :=
      [(.redSum, 0, [redSum src], []), (.redMax, 1, [redMax src], []), (.redSoftmax, 2, softmax src, []),
       (.redRmsnorm, 3, rmsNorm src (s.hold32s k (d.wadr * 64) d.n) (s.holdNat k (d.eps * 64) 4), []),
       (.redLayernorm, 4, layerNorm src (s.hold32s k (d.wadr * 64) d.n) (s.hold32s k (d.badr * 64) d.n) (s.holdNat k (d.eps * 64) 4), []),
       (.redArgmax, 5, [(argmax src).1, (argmax src).2], []),
       (.redTopk, 6, (topk src d.k).map (·.2), (topk src d.k).map (·.1))]
    ∀ x ∈ forms, issues s k 5 (fun w => decide (insOp w = x.2.1)) redHold r w →
      ∃ t, exec (x.1 k) s = .next t ∧
        t.holds = ((s.holdWrite k (d.dst * 64) (bytes32 x.2.2.1)).holdWrite k (d.dst * 64 + 256) (bytes32 x.2.2.2)).holds ∧
        (t.tez k).run = some r.advance ∧ t = { s with te := t.te, holds := t.holds }

/-- O19: A PRED that issues sets predicate PD to the comparison of a hold word or of a vector lane with IMM under
COND, to AND, OR or NOT of predicates, or to a bit of IMM; where PD is p0 it sets nothing. The leg goes on, its other
predicates and everything else of the machine stay. (R116, R128, R129, 04_leg_programs) -/
def Obligations.PredicateFormsSetTheirPredicate : Prop :=
  ∀ (s : State) (k : Nat) (r : LegRun) (w : Nat),
    let p := predI w
    let forms : List ((Nat → Instr) × Nat × List (Nat × Nat) × Bool) :=
      [(.predCmp, 0, [(p.haddr * 64, 64)], condHolds p.cond p.fp (s.holdNat k (p.haddr * 64 + p.word * 4) 4) p.imm),
       (.predVcmp, 1, [], condHolds p.cond p.fp (s.vreg k p.vreg p.lane) p.imm),
       (.predAnd, 2, [], predBit r.preds p.pa && predBit r.preds p.pb), (.predOr, 3, [], predBit r.preds p.pa || predBit r.preds p.pb),
       (.predNot, 4, [], !(predBit r.preds p.pa)), (.predSet, 5, [], bitOf p.imm 0)]
    ∀ x ∈ forms, issues s k 8 (fun w => decide (insOp w = x.2.1)) (fun _ _ => x.2.2.1) r w →
      ∃ t r', exec (x.1 k) s = .next t ∧ (t.tez k).run = some r' ∧
        r' = { r.advance with preds := if p.pd = 0 then r.preds else setBit r.preds p.pd x.2.2.2 } ∧
        (∀ i, i ≠ p.pd → bitOf r'.preds i = bitOf r.preds i) ∧ (p.pd ≠ 0 → bitOf r'.preds p.pd = x.2.2.2) ∧
        t = { s with te := t.te }

/-- O20: SYNC BAR in its mask, predicated on, with every MOV of the TE completed and every write observable: the leg
waits at the barrier, which counts one more arrival of it; with a MOV still outstanding nothing changes; predicated
off, or of a group that its TE is not in, the leg goes on. BAR_RELEASE where every member has made an arrival that is
not yet paired: each member's leg that waits at this barrier goes on past its BAR and the barrier counts one more
pairing; with an arrival missing nothing changes. SYNC FENCE with every MOV of the TE completed and every write
observable, or predicated off: the leg goes on; predicated on with a MOV outstanding nothing changes. LOOP.REPEAT
predicated off goes on past its body; predicated on, with its count at hand (its hold word, where it has one, not in
use by a MOV or the MMA in progress), a count of 0 goes on past the body and a count above 0 enters it with the
counter 0; with the word in use nothing changes. Where a command's own condition does not hold and the spec names no
other effect, that nothing changes is the model's choice (log entry 5). (R116, R128, R129, R136, R138, R139, R144,
04_leg_programs) -/
def Obligations.BarriersFencesAndLoops : Prop :=
  ∀ (s : State) (k : Nat) (r : LegRun) (w : Nat), s.atIns k = some (r, w) →
    (insClass w = 6 → (syncI w).op = 0 → predicated r.preds w = true → ∀ mask, r.prog.groups[(syncI w).group]? = some mask →
      bitOf mask k = true →
      (s.movsDone k r = true →
        ∃ t b, exec (.syncBar k) s = .next t ∧ (t.tez k).run = some { r with waitBar := some (mask, (syncI w).bid) } ∧
          t.barOf mask (syncI w).bid = some b ∧
          mgetD b.arrivals k 0 = (match s.barOf mask (syncI w).bid with
            | some a => mgetD a.arrivals k 0
            | none => 0) + 1 ∧ t = { s with te := t.te, bars := t.bars }) ∧
      (s.movsDone k r = false → exec (.syncBar k) s = .next s)) ∧
    (insClass w = 6 → (syncI w).op = 0 →
      (predicated r.preds w = false ∨ (∃ mask, r.prog.groups[(syncI w).group]? = some mask ∧ bitOf mask k = false)) →
      exec (.syncBar k) s = .next (s.setLeg k r.advance)) ∧
    (∀ mask bid b, s.barOf mask bid = some b →
      ((∀ j, j < 256 → bitOf mask j = true → b.released < mgetD b.arrivals j 0) →
        ∃ t, exec (.barRelease mask bid) s = .next t ∧ t.barOf mask bid = some { b with released := b.released + 1 } ∧
          (∀ j y, j < 256 → bitOf mask j = true → mget s.te j = some y → t.tez j = releaseLeg mask bid y) ∧
          (∀ j, 256 ≤ j ∨ bitOf mask j = false → t.tez j = s.tez j) ∧ t = { s with te := t.te, bars := t.bars }) ∧
      ((∃ j, j < 256 ∧ bitOf mask j = true ∧ mgetD b.arrivals j 0 ≤ b.released) → exec (.barRelease mask bid) s = .next s)) ∧
    (insClass w = 6 → insOp w = 1 →
      (predicated r.preds w = false ∨ s.movsDone k r = true → exec (.syncFence k) s = .next (s.setLeg k r.advance)) ∧
      (predicated r.preds w = true → s.movsDone k r = false → exec (.syncFence k) s = .next s)) ∧
    (insClass w = 7 → (loopI w).op = 0 →
      (predicated r.preds w = false → exec (.loopRepeat k) s = .next (s.setLeg k (r.skipBody (loopI w).body))) ∧
      (predicated r.preds w = true → ((loopI w).src = true → (s.tez k).blocked r [((loopI w).haddr * 64, 64)] = false) →
        (s.loopCount k (loopI w) = 0 → exec (.loopRepeat k) s = .next (s.setLeg k (r.skipBody (loopI w).body))) ∧
        (s.loopCount k (loopI w) ≠ 0 → exec (.loopRepeat k) s = .next (s.setLeg k
          { r with
            loops := ⟨(loopI w).lvl, 0, s.loopCount k (loopI w), r.pc + 1, r.pc + (loopI w).body⟩ :: r.loops, pc := r.pc + 1 }))) ∧
      (predicated r.preds w = true → (loopI w).src = true → (s.tez k).blocked r [((loopI w).haddr * 64, 64)] = true →
        exec (.loopRepeat k) s = .next s))

/-- O21: For every VEC, CVT, RED and PRED form at its instruction: predicated off, the leg goes on to the next
instruction and nothing else changes; predicated on with a hold operand in use by a MOV or the MMA in progress,
nothing changes at all. Where a command's own condition does not hold and the spec names no other effect, that nothing
changes is the model's choice (log entry 5). (R82, R116, R122, R135, 04_leg_programs) -/
def Obligations.BlockedAndPredicatedOffInstructions : Prop :=
  ∀ (s : State) (k : Nat) (r : LegRun) (w : Nat), s.atIns k = some (r, w) →
    ∀ x ∈ ([(.vecLd k, 3, decide (vecFunc w = 0x20), vecSpan), (.vecSt k, 3, decide (vecFunc w = 0x21), vecSpan),
        (.cvtCast k, 4, decide (insOp w = 0), cvtHold), (.cvtScale k, 4, decide (insOp w = 1), cvtHold),
        (.cvtQuant k, 4, decide (insOp w = 2), cvtHold), (.cvtQscale k, 4, decide (insOp w = 3), cvtHold),
        (.redSum k, 5, decide (insOp w = 0), redHold), (.redMax k, 5, decide (insOp w = 1), redHold),
        (.redSoftmax k, 5, decide (insOp w = 2), redHold), (.redRmsnorm k, 5, decide (insOp w = 3), redHold),
        (.redLayernorm k, 5, decide (insOp w = 4), redHold), (.redArgmax k, 5, decide (insOp w = 5), redHold),
        (.redTopk k, 5, decide (insOp w = 6), redHold),
        (.predCmp k, 8, decide (insOp w = 0), fun _ w => [((predI w).haddr * 64, 64)])] :
        List (Instr × Nat × Bool × (LegRun → Nat → List (Nat × Nat)))),
      insClass w = x.2.1 → x.2.2.1 = true →
        (predicated r.preds w = false → exec x.1 s = .next (s.setLeg k r.advance)) ∧
        (predicated r.preds w = true → (s.tez k).blocked r (x.2.2.2 r w) = true → exec x.1 s = .next s)

/-- O22: MOV LOAD or STORE that issues with fewer than eight MOVs outstanding, the one that was the oldest when it
first found eight being completed, and a footprint that translates whole, without a wait: the leg goes on to the next
instruction with one more MOV outstanding, numbered by the leg's count, of its kind, covering its hold rows. MOV HCOPY
or ZERO likewise, without translation. No byte of a hold changes; HCOPY and ZERO change nothing but the leg. A ninth
of any of the four waits: it only remembers the oldest of the eight it found. Where a command's own condition does not
hold and the spec names no other effect, that nothing changes is the model's choice (log entry 5). (R82, R118, R119,
R131, R174, 04_leg_programs, 06_memory_hierarchy) -/
def Obligations.MovesBecomeOutstanding : Prop :=
  ∀ (s : State) (k : Nat) (r : LegRun) (w : Nat),
    let d := spanOf ((r.movRowsAt w).map (fun x => (x.2.1, x.2.2)))
    (∀ x ∈ ([(.movLoad, 0, Acc.rd), (.movStore, 1, Acc.wr)] : List ((Nat → Instr) × Nat × Acc)), ∀ g,
      issues s k 1 (fun w => decide (insOp w = x.2.1)) movHold r w → r.prog.regions[(movI w).reg]? = some g →
      (s.tez k).movRoom r = true →
      (let f := s.footprint (k / 4) (s.partQc r.part) r.entry.tenant x.2.2
        ((cutRows (r.regionBase g) (r.movRowsAt w)).map (fun p => (p.1, p.2.2)))
       f.2.wait = false ∧ f.2.fails = []) →
      ∃ t r' m, exec (x.1 k) s = .next t ∧ (t.tez k).run = some r' ∧ r'.pc = r.advance.pc ∧ r'.loops = r.advance.loops ∧
        r'.movs = r.movs ++ [m] ∧ r'.nextMov = r.nextMov + 1 ∧ m.id = r.nextMov ∧ m.op = x.2.1 ∧ m.lo = d.1 ∧ m.hi = d.1 + d.2 ∧
        m.tenant = r.entry.tenant ∧ t.holds = s.holds ∧ t.time = s.time) ∧
    (∀ x ∈ ([(.movHcopy, 2), (.movZero, 3)] : List ((Nat → Instr) × Nat)),
      issues s k 1 (fun w => decide (insOp w = x.2)) movHold r w →
      (s.tez k).movRoom r = true →
        ∃ t r' m, exec (x.1 k) s = .next t ∧ (t.tez k).run = some r' ∧ r'.pc = r.advance.pc ∧ r'.movs = r.movs ++ [m] ∧
          m.id = r.nextMov ∧ m.op = x.2 ∧ m.lo = d.1 ∧ m.hi = d.1 + d.2 ∧ t = { s with te := t.te }) ∧
    (∀ x ∈ ([(.movLoad, 0), (.movStore, 1), (.movHcopy, 2), (.movZero, 3)] : List ((Nat → Instr) × Nat)),
      issues s k 1 (fun w => decide (insOp w = x.2)) movHold r w → (s.tez k).movRoom r = false →
        (r.ninth ≠ none → exec (x.1 k) s = .next s) ∧
        (r.ninth = none → exec (x.1 k) s = .next (s.setLeg k { r with ninth := ((s.tez k).outstanding r).head?.map (·.id) })))

/-- O23: MOV_COMPLETE for an outstanding MOV whose reads have come or whose writes can be made: the hold and memory
are those its effect leaves, and the MOV is no longer outstanding. For ZERO and HCOPY the effect is spelled out: row
by row the hold bytes are 0, or those of the source row at that moment; memory, registers and every other TE stay. A
LOAD or STORE that is not ready completes nothing and asks for its lines and its tolls; for a number that is not
outstanding nothing changes. Where a command's own condition does not hold and the spec names no other effect, that
nothing changes is the model's choice (log entry 5). (R82, R118, R131, R174, 04_leg_programs) -/
def Obligations.MovesCompleteAndReleaseTheirRange : Prop :=
  ∀ (s : State) (k n : Nat) (r : LegRun) (m : MovX), (s.tez k).run = some r →
    (((s.tez k).tail ++ r.movs).find? (fun m => m.id = n) = some m →
      (m.op = 2 ∨ m.op = 3 →
        ∃ t, exec (.movComplete k n) s = .next t ∧
          t.holds = (m.pieces.foldl (fun s p =>
            s.holdWrite k p.2.1 (if m.op = 2 then s.holdRead k p.1 p.2.2 else List.replicate p.2.2 0)) s).holds ∧
          t.tez k = (s.tez k).without m ∧ t = { s with te := t.te, holds := t.holds }) ∧
      (m.op = 0 → s.movReady k m = true →
        ∃ t, exec (.movComplete k n) s = .next t ∧ t.holds = (s.movFill k ((s.partOf m.tenant).getD 64) m).holds ∧
          t.tez k = ((s.movFill k ((s.partOf m.tenant).getD 64) m).tez k).without m) ∧
      (m.op = 1 → s.movReady k m = true →
        ∃ t, exec (.movComplete k n) s = .next t ∧ t.mem = (s.movSpill k ((s.partOf m.tenant).getD 64) m).mem ∧
          t.holds = s.holds ∧ t.tez k = ((s.movSpill k ((s.partOf m.tenant).getD 64) m).tez k).without m) ∧
      (m.op = 0 ∨ m.op = 1 → s.movReady k m = false → exec (.movComplete k n) s = .next (s.movOpen k m))) ∧
    (((s.tez k).tail ++ r.movs).find? (fun m => m.id = n) = none → exec (.movComplete k n) s = .next s)

/-- O24: For every state in canonical form, TE, address and bytes that lie within the 2 MiB of a hold: each byte
written reads back, and each other byte of the same TE's hold reads as before, wherever the carry window lies and
whatever the spare mirrors. (R67, R82, R86, R87, 03_tensor_engines) -/
def Obligations.HoldWritesReachTheirBytesAlone : Prop :=
  ∀ (s : State) (k a b : Nat) (bs : List Byte), Canon s → a + bs.length ≤ 0x200000 → b < 0x200000 →
    (a ≤ b → b < a + bs.length → (s.holdWrite k a bs).holdByte k b = bs.getD (b - a) 0) ∧
    (b < a ∨ a + bs.length ≤ b → (s.holdWrite k a bs).holdByte k b = s.holdByte k b)

/-- O25: MMA DRAIN or CLEAR that issues with no MMA running, in a known mode: the leg goes on with an MMA of its kind
running that needs no block, and nothing else changes. ACC or ACC_DRAIN that issues with its weights translated and
resident, whose blocks the stream does not yet hold and no entry of it still waits to be translated: the leg goes on
with an MMA that needs its BCNT blocks, in order, none taken, and the stream fetches exactly those; no memory changes
where the tile's cache holds their pages. Predicated off, DRAIN and CLEAR only go on; with an MMA running, all four
wait, but for a DRAIN or CLEAR that is predicated off. Where a command's own condition does not hold and the spec
names no other effect, that nothing changes is the model's choice (log entry 5). (R70, R120, R121, R122, R135,
03_tensor_engines, 04_leg_programs) -/
def Obligations.MatrixOperationsIssue : Prop :=
  ∀ (s : State) (k cyc : Nat) (r : LegRun) (w : Nat) (mm : MmaMode), mmaMode (mmaI w) = some mm → s.atIns k = some (r, w) →
    insClass w = 2 →
    (∀ x ∈ ([(.mmaDrain, 2), (.mmaClear, 3)] : List ((Nat → Nat → Instr) × Nat)), insOp w = x.2 →
      (predicated r.preds w = true → r.mma = none → (s.tez k).blocked r (mmaHold r w) = false →
        ∃ t r' m, exec (x.1 k cyc) s = .next t ∧ (t.tez k).run = some r' ∧ r'.pc = r.advance.pc ∧ r'.mma = some m ∧ m.op = x.2 ∧
          m.blocks = [] ∧ m.p = (mmaI w).p ∧ t = { s with te := t.te }) ∧
      (predicated r.preds w = false → exec (x.1 k cyc) s = .next (s.setLeg k r.advance))) ∧
    (∀ x ∈ ([(.mmaAcc, 0), (.mmaAccDrain, 1)] : List ((Nat → Nat → Instr) × Nat)), insOp w = x.2 →
      predicated r.preds w = true → r.mma = none → (s.tez k).blocked r (mmaHold r w) = false →
      (s.tez k).ahead = [] → (s.tez k).wsb = [] → (s.tez k).stream = [] → 0 < (mmaI w).bcnt → ∀ g, r.prog.regions[(mmaI w).reg]? = some g →
      let ps := piecesOf (r.regionBase g + (mmaStep (mmaI w) mm.md mm.af.bits (ctrOf r.loops (mmaI w).lvl)).1 * 512)
        ((mmaI w).bcnt * mm.md.size)
      let f := s.footprint (k / 4) (s.partQc r.part) r.entry.tenant (.mma (k / 4)) ps
      f.2.wait = false → f.2.fails = [] →
      ∃ t r' m, exec (x.1 k cyc) s = .next t ∧ (t.tez k).run = some r' ∧ r'.pc = r.advance.pc ∧ r'.mma = some m ∧ m.op = x.2 ∧
        m.next = 0 ∧ m.p = (mmaI w).p ∧
        m.blocks = mmaBlocks (r.regionBase g) (mmaStep (mmaI w) mm.md mm.af.bits (ctrOf r.loops (mmaI w).lvl)).1 mm.md.size (mmaI w).bcnt ∧
        (t.tez k).stream.map StrBlk.key = m.blocks ∧ t.holds = s.holds ∧
        (ps.all (fun p => ((s.tc (k / 4)).find? (fun e => e.covers r.entry.tenant p.1)).isSome) = true → t.mem = s.mem)) ∧
    (∀ c ∈ [Instr.mmaAcc k cyc, .mmaAccDrain k cyc, .mmaDrain k cyc, .mmaClear k cyc],
      (predicated r.preds w = true ∨ insOp w ≤ 1) → r.mma.isSome = true → exec c s = .next s)

/-- O26: MMA_COMPLETE with an MMA whose blocks are all consumed: the leg has none running; for ACC_DRAIN and DRAIN the
hold bytes at its destination are the drained sums in drain order; for ACC_DRAIN, DRAIN and CLEAR every accumulator of
its first P sets reads 0; for ACC the accumulators stay. The vector registers stay. With blocks to come, or none
running, nothing changes. Where a command's own condition does not hold and the spec names no other effect, that
nothing changes is the model's choice (log entry 5). (R73, R74, 03_tensor_engines) -/
def Obligations.MatrixOperationsComplete : Prop :=
  ∀ (s : State) (k : Nat) (r : LegRun) (m : MmaX), (s.tez k).run = some r →
    (r.mma = some m → m.blocks = [] →
      ∃ t, exec (.mmaComplete k) s = .next t ∧ (t.tez k).run = some { r with mma := none } ∧
        (m.op = 1 ∨ m.op = 2 → t.holds = (s.holdWrite k m.dst (drainBytes (s.ph (s.physOf k)) m.p (m.mode.elim 0 (fun mm => mm.md.n)))).holds) ∧
        (m.op ≠ 1 → m.op ≠ 2 → t.holds = s.holds) ∧
        (m.op ≠ 0 → ∀ p c, p < m.p → c < 512 → (t.ph (s.physOf k)).accAt (accKey p c) = 0) ∧
        (m.op = 0 → t.phys = s.phys) ∧ (∀ v l, t.vreg k v l = s.vreg k v l) ∧
        t = { s with te := t.te, holds := t.holds, phys := t.phys }) ∧
    (r.mma = some m → m.blocks ≠ [] → exec (.mmaComplete k) s = .next s) ∧
    (r.mma = none → exec (.mmaComplete k) s = .next s)

/-- O27: WSB_BLOCK_ARRIVE on a TE whose leg has no MMA running, with nothing left to translate ahead of the stream,
room in the buffer and the block's lines, at the translation it was checked with, ready: the block's bytes, as read,
are the last of the buffer, the stream begins with the next block, and no hold byte changes. With lines that are not
ready it asks for them; with no room nothing changes. Where a command's own condition does not hold and the spec names
no other effect, that nothing changes is the model's choice (log entry 5). (R76, R78, R79, 03_tensor_engines) -/
def Obligations.StreamBlocksArrive : Prop :=
  ∀ (s : State) (k cyc : Nat) (r : LegRun) (b : StrBlk) (rest : List StrBlk),
    (s.tez k).run = some r → r.mma = none → (s.tez k).ahead = [] → (s.tez k).stream = b :: rest →
    (let g := s.getPieces [4, k] (k / 4) 1 (r.entry.tenant + 1) b.pas
     (s.tez k).canArrive = true → s.piecesReady [4, k] (k / 4) 1 b.pas = true → g.2.bad = [] →
      ∃ t, exec (.wsbBlockArrive k cyc) s = .next t ∧ (t.tez k).stream = rest ∧
        (t.tez k).wsb = (s.tez k).wsb ++ [⟨b.va, g.2.data, cyc⟩] ∧ (t.tez k).slots = (s.tez k).slots + 1 ∧ t.holds = s.holds ∧
        t.time = s.time) ∧
    ((s.tez k).canArrive = true → s.piecesReady [4, k] (k / 4) 1 b.pas = false →
      exec (.wsbBlockArrive k cyc) s = .next (s.openReads [4, k] (k / 4) 1 (r.entry.tenant + 1) b.pas)) ∧
    ((s.tez k).canArrive = false → exec (.wsbBlockArrive k cyc) s = .next s)

/-- O28: TE_FAILING with cause 1 puts one CORRECTED report for block 3 on its way. With any other cause, for a
physical TE that serves a lane and is neither FAILED nor failing yet, it marks it failing, TE_STATUS.STATE of the
lane's TE becomes 3 and one DEGRADING report is on its way. TE_REQ_LANE puts its lane, TE_CLR_FAILED its TEs with
those asked for before, into TE_SPARE's shadow: the register in force stays until I2, and so does everything else.
(R94, R95, R106, R107, 03_tensor_engines) -/
def Obligations.AFailingEngineIsMarkedUntilTheNextI2 : Prop :=
  ∀ (s : State) (tile phys lane mask : Nat),
    (∃ t r, exec (.teFailing tile phys 1) s = .next t ∧ t.err.inbox = s.err.inbox ++ [r] ∧ r.cls = clsCorrected ∧ r.block = 0x03 ∧
      r.cause = 1 ∧ t.mem = s.mem ∧ t.holds = s.holds ∧ t.te = s.te) ∧
    (∀ cause j, cause ≠ 1 → phys < 5 → s.laneOf tile phys = some j → s.teFailed tile phys = false → (s.ph (5 * tile + phys)).failing = none →
      ∃ t r, exec (.teFailing tile phys cause) s = .next t ∧ t.err.inbox = s.err.inbox ++ [r] ∧ r.cls = clsDegrading ∧ r.block = 0x03 ∧
        r.cause = cause ∧ (t.ph (5 * tile + phys)).failing = some s.sail ∧ t.rf (R.teStatus (4 * tile + j)) F.teStatus_STATE = 3 ∧
        t.mem = s.mem ∧ t.holds = s.holds ∧ t.te = s.te) ∧
    (∃ t, exec (.teReqLane tile lane) s = .next t ∧ (t.spareReq tile).1 = lane % 2 ^ F.teSpare_REQ_LANE.w ∧
      t = { s with shadow := t.shadow } ∧ ∀ j, j ≠ R.teSpare tile → mget t.shadow j = mget s.shadow j) ∧
    (∃ t, exec (.teClrFailed tile mask) s = .next t ∧ (t.spareReq tile).2 = ((s.spareReq tile).2 ||| mask % 32) ∧
      t = { s with shadow := t.shadow } ∧ ∀ j, j ≠ R.teSpare tile → mget t.shadow j = mget s.shadow j)

/-- O29: DOORBELL, not a write of the upper half, to a ring whose state is in force, of a tenant not locked, in a
partition not in reset, on a hub that is no shadow: the ring's TAIL, or HEAD for a CMP ring, is the low 32 bits
written and the doorbell is listed as captured with them; no memory changes, nor any other register. A ring not in
force, or of a locked tenant: Q_CNT.DB_IGNORED rises by one outside confidential mode, and no doorbell is listed. A
write of the upper half does nothing. In QUIET, while the fords to the host are shut, or behind a register access that
waits, the write stalls, the last of the host's waiting requests, and does nothing else. Where a command's own
condition does not hold and the spec names no other effect, that nothing changes is the model's choice (log entry 5).
(R33, R38, R219, R431, 16_rings_and_buffers) -/
def Obligations.DoorbellsMoveTheIndex : Prop :=
  ∀ (s : State) (tenant ring half value : Nat), ring < 64 → tenant < 4096 →
    let g := tenant * 64 + ring
    let f := if s.isCmp g then F.ringPtr_HEAD else F.ringPtr_TAIL
    let open_ := (s.partOf tenant).any (fun p => (s.part p).reset) = false ∧ s.twinRole ≠ 2
    let locked := bitsOf (s.rv (R.salTdi (tenant / 32))).toNat (2 * (tenant % 32)) 2 = 1
    ((s.hostStalls || s.barHeld) = false → half ≠ 2 → open_ → s.ringState g = 1 → ¬ locked →
      ∃ t, exec (.doorbell tenant ring half value) s = .next t ∧ t.rf (rPtr g) f = value % 2 ^ 32 ∧
        mget t.rings.db g = some (value % 2 ^ 32) ∧ (∀ j, j ≠ g → mget t.rings.db j = mget s.rings.db j) ∧
        onlyRegs [rPtr g] s t ∧ t = { s with rings := t.rings, regs := t.regs, shadow := t.shadow }) ∧
    ((s.hostStalls || s.barHeld) = false → half ≠ 2 → open_ → (s.ringState g ≠ 1 ∨ locked) →
      exec (.doorbell tenant ring half value) s = .next (s.raddOpen R.qCnt F.qCnt_DB_IGNORED 1)) ∧
    ((s.hostStalls || s.barHeld) = false → half = 2 → exec (.doorbell tenant ring half value) s = .next s) ∧
    ((s.hostStalls || s.barHeld) = true →
      ∃ t, exec (.doorbell tenant ring half value) s = .next t ∧ t = { s with pci := t.pci } ∧
        t.pci = { s.pci with stalled := s.pci.stalled ++
          [⟨.bell, tenant, 8 * ring + (if half = 2 then 4 else 0), true, 0, 0, leBytes (if half = 0 then 8 else 4) value, false, false⟩] })

/-- O30: A descriptor that is fetched, of the command's operation, neither done nor started, in RUN: RUN without an
argument list, XFER, and LOAD_PROG of a length from 128 to 265,600 bytes, each without a fence or with its fence
clear, begins and takes the chunks its ring has buffers for; where the ring has none granted, the one change is that
its context has begun. LOAD_PROG of another length, once the image's first bytes have been read, fails with REJECTED
and the lowest code that applies: 1 for a wrong MAGIC or VERSION, else 2. Before its fence is clear a descriptor stays
as it is. ABORT with a target: the target ends ABORTED, the ABORT itself OK; without one it ends REJECTED with detail
0x23. In any other phase than RUN nothing changes. Where a command's own condition does not hold and the spec names no
other effect, that nothing changes is the model's choice (log entry 5). (R435, R436, R437, R439, R440, R443,
16_rings_and_buffers) -/
def Obligations.DescriptorsBeginInRun : Prop :=
  ∀ (s : State) (ring didx : Nat) (c : Ctx), s.ctxOf ring didx = some c → c.fetched = true → c.done = none → c.started = false →
    (s.time.stage = .run →
      (∀ x ∈ ([(.descRun, 1), (.descXfer, 2), (.descLoadProg, 3)] : List ((Nat → Nat → Instr) × Nat)), c.op = x.2 →
        (x.2 = 1 → c.argx = 0) → (x.2 = 3 → 128 ≤ c.len ∧ c.len ≤ 265600) →
        (c.fence = false ∨ s.fenceClear c = true →
          exec (x.1 ring didx) s = .next ((s.setCtx c.begin).startChunks ring) ∧
          (mgetD s.rings.grants ring 0 = 0 → exec (x.1 ring didx) s = .next (s.setCtx c.begin))) ∧
        (c.fence = true → s.fenceClear c = false → exec (x.1 ring didx) s = .next s)) ∧
      (c.op = 3 → (c.len < 128 ∨ 265600 < c.len) → (c.fence = false ∨ s.fenceClear c = true) →
        ∀ b, (s.dmaRead [3, ring, didx] (ringTen ring) (if c.len = 0 then [] else [(c.hva, min c.len 8)])).2 = .ok b →
        let h := imgHdr (b ++ List.replicate 128 0)
        ∃ t c', exec (.descLoadProg ring didx) s = .next t ∧ t.ctxOf ring didx = some c' ∧
          c'.done = some (stRejected, if h.magic ≠ jleg ∨ h.version ≠ 1 then 1 else 2)) ∧
      (c.op = 4 → ∀ x, s.abortTarget c = some x → s.ctxOf x.ring x.didx = some x →
        ∃ t c' x', exec (.descAbort ring didx) s = .next t ∧ t.ctxOf ring didx = some c' ∧ c'.done = some (stOk, 0) ∧
          t.ctxOf x.ring x.didx = some x' ∧ x'.done = some (stAborted, 0) ∧ t.mem = s.mem ∧ t.holds = s.holds) ∧
      (c.op = 4 → s.abortTarget c = none →
        ∃ t c', exec (.descAbort ring didx) s = .next t ∧ t.ctxOf ring didx = some c' ∧ c'.done = some (stRejected, 0x23) ∧
          t = { s with rings := t.rings })) ∧
    (s.time.stage ≠ .run → ∀ x ∈ [Instr.descRun ring didx, .descXfer ring didx, .descLoadProg ring didx, .descAbort ring didx],
      exec x s = .next s)

/-- O31: CHUNK_FILL_DONE for a buffer not yet filled, in RUN or with its reads out since then, whose read answers its
bytes: the pool holds them at the buffer's place, and the ring takes the further chunks it has buffers for; a fill
that has not begun before QUIET changes nothing. CHUNK_DRAIN_DONE for a filled buffer with nothing to write, in RUN,
or already sent with its writes acknowledged: no buffer of that number is in use, and no memory or hold changes. One
sent whose writes are not acknowledged, one not sent outside RUN, one that is not filled, and a number not in use,
change nothing on draining. Where a command's own condition does not hold and the spec names no other effect, that
nothing changes is the model's choice (log entry 5). (R37, R437, R438, R442, 16_rings_and_buffers) -/
def Obligations.ChunksFillAndDrain : Prop :=
  ∀ (s : State) (ring buf : Nat),
    (∀ c, s.chunkOf ring buf = some c →
      (c.filled = false → s.fillGoes c = true → ∀ b, (s.dmaRead [3, ring, c.didx] (ringTen ring) c.src).2 = .ok b →
        exec (.chunkFillDone ring buf) s =
          .next ((((s.dmaRead [3, ring, c.didx] (ringTen ring) c.src).1.poolPut c.slot b).setChunk
            { c with len := b.length, filled := true }).startChunks ring)) ∧
      (c.filled = true ∨ s.fillGoes c = false → exec (.chunkFillDone ring buf) s = .next s) ∧
      (c.filled = true → ((c.sent = true ∧ s.writesDone [3, ring, c.didx] = true) ∨ (c.sent = false ∧ s.time.stage = .run ∧ c.dst = [])) →
        ∃ t, exec (.chunkDrainDone ring buf) s = .next t ∧ t.chunkOf ring buf = none ∧ t.mem = s.mem ∧ t.holds = s.holds ∧ t.time = s.time) ∧
      ((c.filled = false ∨ (c.sent = true ∧ s.writesDone [3, ring, c.didx] = false) ∨ (c.sent = false ∧ s.time.stage ≠ .run)) →
        exec (.chunkDrainDone ring buf) s = .next s)) ∧
    (s.chunkOf ring buf = none → exec (.chunkFillDone ring buf) s = .next s ∧ exec (.chunkDrainDone ring buf) s = .next s)

/-- O32: DTU_INV_PAGE, DTU_INV_TENANT and DTU_INV_ALL on a lane below 64 whose queue holds fewer than 32 requests and
has not overflowed: the request is the last of the lane's queue, with its scope (0 page, 1 tenant, 2 all), its page,
tenant and sequence number; the translation caches stay as they are, as do memory, holds and every register but the
counts and events of the twin link. On a full lane the request is remembered as its overflow and DTU_INV_ACK.OVF is
set. On a lane from 64 up nothing happens. Where a command's own condition does not hold and the spec names no other
effect, that nothing changes is the model's choice (log entry 5). (R230, R231, R232, R244, 08_translation) -/
def Obligations.InvalidationsWaitForI1 : Prop :=
  ∀ (s : State) (w seq vpn tenant : Nat),
    ∀ x ∈ ([(.dtuInvPage w seq vpn tenant, ⟨0, vpn, tenant, seq⟩), (.dtuInvTenant w seq tenant, ⟨1, 0, tenant, seq⟩),
        (.dtuInvAll w seq, ⟨2, 0, 0, seq⟩)] : List (Instr × InvReq)),
      (w < 64 → (mgetD s.dtu.lanes w []).length < 32 → mgetD s.dtu.overfl w [] = [] →
        ∃ t, exec x.1 s = .next t ∧ mget t.dtu.lanes w = some (mgetD s.dtu.lanes w [] ++ [x.2]) ∧
          (∀ j, j ≠ w → mget t.dtu.lanes j = mget s.dtu.lanes j) ∧ t.dtu.caches = s.dtu.caches ∧ onlyRegs [R.twinCnt, R.twinEvent] s t ∧ t.mem = s.mem ∧
          t.holds = s.holds) ∧
      (w < 64 → 32 ≤ (mgetD s.dtu.lanes w []).length →
        ∃ t, exec x.1 s = .next t ∧ mget t.dtu.overfl w = some [x.2] ∧ t.rf (R.dtuInvAck w) F.dtuInvAck_OVF = 1 ∧
          t.dtu.lanes = s.dtu.lanes ∧ t.dtu.caches = s.dtu.caches ∧ t.mem = s.mem) ∧
      (64 ≤ w → exec x.1 s = .next s)

/-- O33: TRANSLATION_WALK for a context in state 2, out of QUIET, on one of the caches, in the traffic class of the
tenant's partition (2 for the ring cache): the state the leaf's lookup leaves, in which, in RUN, the cache covers the
page; for a page the cache already holds only its use is noted; a walk that fails ends. A context in another state,
another cache or QUIET changes nothing. PIN_LOAD_DONE for a context in state 1 that is not being dropped: with every
page of its pins walked the tenant is among those whose pins are loaded; with a page that fails, the context's STATE
is 3. Neither changes a byte of a hold, nor the time base. Where a command's own condition does not hold and the spec
names no other effect, that nothing changes is the model's choice (log entry 5). (R224, R225, R227, R228, R235, R236,
08_translation) -/
def Obligations.TranslationWalksAndPinLoads : Prop :=
  ∀ (s : State) (cache tenant va : Nat),
    (let q := if cache = ringCache then 2 else ((s.partOf tenant).map s.partQc).getD 2
     let x := s.leaf cache q tenant va
     s.rf (R.dtuCtxCfg tenant) F.dtuCtxCfg_STATE = 2 → cache ≤ ringCache → s.time.stage ≠ .quiet →
      (∀ e, x.2 = .ok e → exec (.translationWalk cache tenant va) s = .next x.1 ∧
        (s.time.stage = .run → (x.1.tc cache).any (fun e => e.covers tenant va) = true)) ∧
      (∀ e, (s.tc cache).find? (fun e => e.covers tenant va) = some e → ∃ t, exec (.translationWalk cache tenant va) s = .next t ∧
        t = s.tcTouch cache e ∧ t.mem = s.mem) ∧
      (∀ c, x.2 = .fail c → exec (.translationWalk cache tenant va) s = .next (x.1.walksEnd cache q tenant [va])) ∧
      (∃ t, exec (.translationWalk cache tenant va) s = .next t ∧ t.holds = s.holds ∧ t.time = s.time)) ∧
    (¬ (s.rf (R.dtuCtxCfg tenant) F.dtuCtxCfg_STATE = 2 ∧ cache ≤ ringCache ∧ s.time.stage ≠ .quiet) →
      exec (.translationWalk cache tenant va) s = .next s) ∧
    (s.rf (R.dtuCtxCfg tenant) F.dtuCtxCfg_STATE = 1 → s.dtu.pinDone.contains tenant = false → s.dtu.dropCtx.contains tenant = false →
      let p := s.pinWalk tenant (s.pinPages tenant) (mgetD s.dtu.pinGot tenant [])
      (p.2.2 = some none → ∃ t, exec (.pinLoadDone tenant) s = .next t ∧ tenant ∈ t.dtu.pinDone ∧ t.holds = s.holds ∧
        t.time = s.time) ∧
      (∀ a, p.2.2 = some (some a) → ∃ t, exec (.pinLoadDone tenant) s = .next t ∧ t.rf (R.dtuCtxCfg tenant) F.dtuCtxCfg_STATE = 3 ∧
        t.holds = s.holds ∧ t.time = s.time))

/-- O34: TFQ_POP with a record for the tenant: that record is gone and TFQ_STATUS.COUNT is the number left; without
one nothing changes. TINV_CLR: the tenant has no marks, and TINV_STATUS.COUNT and ALL are 0. TMEAS_GO with none in
progress: TMEAS_STATUS.STATE is 1 and, for a length above 0, the measurement of that range into that slot is in
progress; with one in progress nothing changes. TMEAS_DONE with the range translated, its lines ready, its tolls paid
and no read failed: the measurement is no longer in progress and the digest of the bytes read is due for its slot.
Where a command's own condition does not hold and the spec names no other effect, that nothing changes is the model's
choice (log entry 5). (R239, R247, R526, R571, R575, 08_translation, 21_security) -/
def Obligations.FaultQueueMarksAndMeasurements : Prop :=
  ∀ (s : State) (tenant : Nat),
    (∀ r rs, s.fqOf tenant = r :: rs →
      ∃ t, exec (.tfqPop tenant) s = .next t ∧ t.dtu.fq = s.dtu.fq.erase r ∧
        t.rf (R.tfqStatus tenant) F.tfqStatus_COUNT = (t.fqOf tenant).length % 2 ^ F.tfqStatus_COUNT.w ∧
        onlyRegs [R.tfqStatus tenant, R.dtuFqStatus] s t ∧ t = { s with dtu := t.dtu, regs := t.regs, shadow := t.shadow }) ∧
    (s.fqOf tenant = [] → exec (.tfqPop tenant) s = .next s) ∧
    (∃ t, exec (.tinvClr tenant) s = .next t ∧ mget t.err.marks tenant = none ∧
      (∀ j, j ≠ tenant → mget t.err.marks j = mget s.err.marks j) ∧ t.rf (R.tinvStatus tenant) F.tinvStatus_COUNT = 0 ∧
      t.rf (R.tinvStatus tenant) F.tinvStatus_ALL = 0 ∧ onlyRegs [R.tinvStatus tenant] s t ∧
      t = { s with err := t.err, regs := t.regs, shadow := t.shadow }) ∧
    (s.rf (R.tmeasStatus tenant) F.tmeasStatus_STATE ≠ 1 → 0 < s.rf (R.tmeasLen tenant) F.tmeasLen_LEN / 64 * 64 →
      ∃ t, exec (.tmeasGo tenant) s = .next t ∧ t.rf (R.tmeasStatus tenant) F.tmeasStatus_STATE = 1 ∧
        mget t.sec.tmeas tenant = some ⟨s.rf (R.tmeasVa tenant) F.tmeasVa_VA * 64, s.rf (R.tmeasLen tenant) F.tmeasLen_LEN / 64 * 64,
          s.rf (R.tmeasCtl tenant) F.tmeasCtl_SLOT⟩ ∧ onlyRegs [R.tmeasStatus tenant] s t ∧
        t = { s with sec := t.sec, regs := t.regs, shadow := t.shadow }) ∧
    (s.rf (R.tmeasStatus tenant) F.tmeasStatus_STATE = 1 → exec (.tmeasGo tenant) s = .next s) ∧
    (∀ m, mget s.sec.tmeas tenant = some m →
      let f := s.dmaXlate [6, tenant] false tenant [(m.va, m.len)]
      let n := f.1.linesNew ringAgentId f.2.pas
      let g := ((f.1.unkeep [6, tenant] false [(m.va, m.len)]).chargeFor [6, tenant] ringAgentId n).getPieces [6, tenant] ringAgentId 1
        (tenant + 1) f.2.pas
      f.2.wait = false → f.2.fails = [] → (f.1.piecesReady [6, tenant] ringAgentId 1 f.2.pas && f.1.tollOk [6, tenant] ringAgentId n) = true →
      g.2.remFail = [] →
      ∃ t, exec (.tmeasDone tenant) s = .next t ∧ mget t.sec.tmeas tenant = none ∧
        (tenant, m.slot, some (digestNum (Config.sha384 g.2.data))) ∈ t.sec.wgtDue)

/-- O35: ATS_TRANSLATION_COMPLETION for a page that is awaited: it is awaited no more and, where the host allowed it,
its translation with its read and write rights is in the cache; where not, the cache stays. ATS_INVALIDATE_REQUEST
with a tag not in use: it is noted and DTU_ATS_STATUS.INV_OUT rises by one; with a tag in use DUP_ITAG rises by one.
ATS_INVALIDATION_COMPLETION for a tag whose pages have been dropped, with no host read out that used an entry they
held, outside the steps from I1 to I3: the message leaves and INV_OUT falls by one; with such reads out, or in those
steps, nothing changes. Where a command's own condition does not hold and the spec names no other effect, that nothing
changes is the model's choice (log entry 5). The form of outward messages is the model's choice (log entry 6). (R241,
R242, R247, 08_translation, 15_host_endpoint) -/
def Obligations.AddressTranslationServiceMessages : Prop :=
  ∀ (s : State) (fn page trans itag : Nat) (rd wr : Bool),
    (s.dtu.atsReq.contains (fn * 2 ^ 52 + page) = true →
      (∃ t, exec (.atsTranslationCompletion fn page trans true rd wr) s = .next t ∧ (fn * 2 ^ 52 + page) ∉ t.dtu.atsReq ∧
        mget t.dtu.atc (fn * 2 ^ 52 + page) = some (trans * 4 + b2n rd + 2 * b2n wr) ∧ onlyRegs [R.dtuAtsStatus] s t ∧
        t = { s with dtu := t.dtu, fresh := t.fresh, regs := t.regs, shadow := t.shadow }) ∧
      (∃ t, exec (.atsTranslationCompletion fn page trans false rd wr) s = .next t ∧ (fn * 2 ^ 52 + page) ∉ t.dtu.atsReq ∧
        t.dtu.atc = s.dtu.atc ∧ t = { s with dtu := t.dtu })) ∧
    (s.dtu.atsReq.contains (fn * 2 ^ 52 + page) = false → ∀ ok, exec (.atsTranslationCompletion fn page trans ok rd wr) s = .next s) ∧
    ((s.dtu.atsInv ++ s.dtu.atsDone).any (fun x => x.1 = itag) = false →
      ∃ t, exec (.atsInvalidateRequest itag fn page) s = .next t ∧ t.dtu.atsInv = s.dtu.atsInv ++ [(itag, fn, page)] ∧
        t.rf R.dtuAtsStatus F.dtuAtsStatus_INV_OUT = (s.rf R.dtuAtsStatus F.dtuAtsStatus_INV_OUT + 1) % 2 ^ F.dtuAtsStatus_INV_OUT.w ∧
        t.dtu.atc = s.dtu.atc ∧ onlyRegs [R.dtuAtsStatus] s t ∧ t = { s with dtu := t.dtu, regs := t.regs, shadow := t.shadow }) ∧
    ((s.dtu.atsInv ++ s.dtu.atsDone).any (fun x => x.1 = itag) = true →
      exec (.atsInvalidateRequest itag fn page) s = .next (s.radd R.dtuAtsStatus F.dtuAtsStatus_DUP_ITAG 1)) ∧
    (∀ x, s.dtu.atsDone.find? (fun x => x.1 = itag) = some x →
      (s.atsQuiet x.1 = true → [Stage.i1, .i2, .i3].contains s.time.stage = false →
        ∃ t, exec (.atsInvalidationCompletion itag) s = .next t ∧ t.out = s.out ++ [⟨.pcieMsg, [2, x.2.1, x.1], []⟩] ∧
          t.dtu.atsDone = s.dtu.atsDone.erase x ∧ onlyRegs [R.dtuAtsStatus] s t ∧
          t.rf R.dtuAtsStatus F.dtuAtsStatus_INV_OUT = (s.rf R.dtuAtsStatus F.dtuAtsStatus_INV_OUT - 1) % 2 ^ F.dtuAtsStatus_INV_OUT.w) ∧
      (s.atsQuiet x.1 = false ∨ [Stage.i1, .i2, .i3].contains s.time.stage = true →
        exec (.atsInvalidationCompletion itag) s = .next s))

/-- O36: RDS, RDO, UPG, RDC, WRI and WRP, with or without a credit, of a class that their requester uses, from a
requester that may send them and, for a tile, that has neither a request for that line nor 128 coherent ones out: with
tokens and nothing of its pair held back, the request takes its tokens, is counted, and goes to its line's home, the
one at its own router at once, any other as the last packet of the fabric under way, stamped with the TCLK count, with
coherence state, memory, holds and time base as they were. With no tokens, or behind one of its pair, it waits at its
injection point. At its home, for a line homed here: while the home's domain sleeps it is held at the router. Else, on
a slice that trains no tracker on it, for an agent that keeps R272: with nothing waiting for the line and a tracker
entry and way free it is accepted, and where the line has a filter entry, it becomes BUSY with that request, its snoop
open, not granted, the other lines' transactions, the copies and memory staying; for a BUSY line, with room in the
slice's queue or with its credit, it waits in the queue; with no room, or without the credit it holds there, it is
answered RETRY, which in the first case promises a credit. RDS after an uncorrectable error in the tile's own clean
copy, held for tokens: the copy is gone, TILE_ERR of the tile holds a first error, and the request waits as any does.
TOLL_RELEASE injects the first request held for a pair once it has tokens and no mover came before it, and it is held
no more; else nothing changes. FEEDBACK_SCALE_UPDATE shows the highest level of the controllers that feed back, with
scales 0 while they are forced. Where a command's own condition does not hold and the spec names no other effect, that
nothing changes is the model's choice (log entry 5). (R175, R251, R258, R260, R261, R264, R294, R298, R333, R334,
09_coherence, 12_bandwidth_regulation) -/
def Obligations.CoherentRequestsTakeTheirLine : Prop :=
  (∀ (s : State) (pa req tag qc ten mask : Nat) (alloc credit : Bool) (data : Line),
    let l := lineOf pa
    let rec_ := fun (k : ReqK) (m : Nat) (d : Line) (a : Bool) => (⟨k, l, req, tag, m, d, a, credit, qc, ten, 0, false⟩ : CReq)
    let forms : List (Instr × CReq × Bool) :=
      [(.rds req pa tag credit qc ten false, rec_ .rds 0 0 false, true), (.rdo req pa tag credit qc ten, rec_ .rdo 0 0 false, true),
       (.upg req pa tag credit qc ten, rec_ .upg 0 0 false, true), (.rdc req pa tag alloc credit qc ten, rec_ .rdc 0 0 alloc, false),
       (.wri req pa tag credit qc ten data, rec_ .wri fullMask data false, false),
       (.wrp req pa tag credit qc ten mask data, rec_ .wrp mask data false, false)]
    ∀ x ∈ forms, req < 75 → classOk req qc = true → (x.2.2 = true → s.mayCache req = true) → s.askStops x.2.1 = false →
      let behind := s.fab.tolled.any (fun w => decide (w.req = req) && decide (w.qc = qc)) = true ∨
        s.fab.movers.any (fun m => decide (m.2.1 = pairNo req qc) && s.moverLive m.1) = true
      let q := { x.2.1 with ts := s.time.total }
      (¬ behind → s.tokens req qc = true →
        (reqRouter req = s.homeOf (l * 128) →
          exec x.1 s = .next ((((s.takeTokens req qc).charge req qc 128).useAgent req).toHome (.req q))) ∧
        (reqRouter req ≠ s.homeOf (l * 128) → ∃ t, exec x.1 s = .next t ∧ flies s t (.req q) ∧ t.coh = s.coh ∧ sameStores s t)) ∧
      (behind ∨ s.tokens req qc = false → ∃ t, exec x.1 s = .next t ∧ t.fab.tolled = s.fab.tolled ++ [x.2.1] ∧ t.coh = s.coh ∧
        sameStores s t)) ∧
  (∀ (s : State) (q : CReq),
    let h := s.homeOf (q.line * 128)
    let t := s.toHome (.req q)
    let free := q.credited = false ∧ s.coh.credits.contains (h, q.req) = false
    let paid := q.credited = true ∧ s.coh.credits.contains (h, q.req) = true
    (s.domSt (8 * h + 6) ≠ 0 → t.fab.parked = s.fab.parked ++ [(8 * h + 6, .req q)] ∧ t.coh = s.coh ∧ sameStores s t) ∧
    (s.domSt (8 * h + 6) = 0 → s.homed (q.line * 128) = true → s.spfOn h q.req = false → s.askBreach q = false → q.kind ≠ .bi →
      ((∀ w ∈ s.coh.queue, w.line ≠ q.line) → s.canAccept q = true → (mget s.coh.filter q.line).isSome = true → free ∨ paid →
        ∃ y, mget t.coh.txns q.line = some y ∧ y.q = q ∧ y.snp = some (snoopOf q.kind) ∧ y.granted = false ∧ y.pend = 0 ∧
          (∀ j, j ≠ q.line → mget t.coh.txns j = mget s.coh.txns j) ∧ t.coh.msgs = s.coh.msgs ∧ t.coh.agents = s.coh.agents ∧
          t.coh.queue = s.coh.queue ∧ sameStores s t) ∧
      (s.busy q.line = true → paid ∨ (free ∧ (s.queueOf h).length < 64) →
        t.coh.queue = s.coh.queue ++ [q] ∧ t.coh.txns = s.coh.txns ∧ sameStores s t) ∧
      ((q.req < 64 ∨ 72 ≤ q.req) →
        (s.busy q.line = true → free → 64 ≤ (s.queueOf h).length → (h, q.req) ∈ t.coh.credits ∧ t.coh.queue = s.coh.queue ∧
          t.coh.txns = s.coh.txns ∧ ∃ m ∈ t.coh.msgs, m.kind = 2 ∧ m.agent = q.req ∧ m.line = q.line ∧ m.tag = q.tag ∧ m.credit = true) ∧
        (q.credited = false → s.coh.credits.contains (h, q.req) = true → t.coh.queue = s.coh.queue ∧ t.coh.txns = s.coh.txns ∧
          ∃ m ∈ t.coh.msgs, m.kind = 2 ∧ m.agent = q.req ∧ m.line = q.line ∧ m.tag = q.tag ∧ m.credit = false)))) ∧
  (∀ (s : State) (pa req tag qc ten : Nat) (c : CLine), req < 64 → mget s.coh.agents (agentKey req (lineOf pa)) = some c →
    (c.st = .e ∨ c.st = .s ∨ c.st = .f) → s.tokens req qc = false →
    let q : CReq := ⟨.rds, lineOf pa, req, tag, 0, 0, false, false, qc, ten, 0, false⟩
    s.askStops q = false →
      ∃ t, exec (.rds req pa tag false qc ten true) s = .next t ∧ t.fab.tolled = s.fab.tolled ++ [q] ∧
        mget t.coh.agents (agentKey req (lineOf pa)) = none ∧
        t.rf (R.tileErr req) F.tileErr_VALID = 1 ∧ onlyRegs [R.tileErr req, R.octTollCnt req] s t ∧ sameStores s t ∧ t.lmeta = s.lmeta) ∧
  (∀ (s : State) (p q : Nat) (vaults queues : List Nat),
    let first := s.fab.movers.any (fun m => decide (m.2.1 = pairNo p q) && decide (m.2.2.2 = 0) && s.moverLive m.1)
    (∀ w, s.fab.tolled.find? (fun w => decide (w.req = p) && decide (w.qc = q)) = some w →
      (s.tokens p q = true → first = false →
        ∃ t, exec (.tollRelease p q) s = .next t ∧ sameStores s t ∧
          t = ((s.setFab { s.fab with
            tolled := s.fab.tolled.erase w
            movers := s.fab.movers.map (fun m => if m.2.1 = pairNo p q then (m.1, m.2.1, m.2.2.1, m.2.2.2 - 1) else m) }).takeTokens p
              q).inject w ∧
          (reqRouter w.req ≠ s.homeOf (w.line * 128) → flies s t (.req { w with ts := s.time.total }) ∧ t.fab.tolled = s.fab.tolled.erase w ∧
            t.coh = s.coh)) ∧
      (s.tokens p q = false ∨ first = true → exec (.tollRelease p q) s = .next s)) ∧
    (s.fab.tolled.find? (fun w => decide (w.req = p) && decide (w.qc = q)) = none → exec (.tollRelease p q) s = .next s) ∧
    (∃ t, exec (.feedbackScaleUpdate vaults queues) s = .next t ∧ t.rf R.qosStatus F.qosStatus_H = s.highest vaults (queues.map lrsLevel) ∧
      (s.rf R.pwrStatus F.pwrStatus_FORCED = 1 → t.rf R.qosStatus F.qosStatus_S2 = 0 ∧ t.rf R.qosStatus F.qosStatus_S3 = 0) ∧
      (s.time.stage ≠ .run → t.sec = s.sec) ∧ onlyRegs [R.qosStatus] s t ∧
      t = { s with fab := t.fab, sec := t.sec, regs := t.regs, shadow := t.shadow }))

/-- O37: WB from a tile that holds the line modified, or from a chiplet that may cache, and EVCT from a tile that
holds a clean copy, or from such a chiplet: the tile's copy is on its way out, and the packet goes to the line's home,
the one at the agent's own router at once, any other as the last packet of the fabric under way, nothing else
changing; from a tile without such a copy nothing changes. At the home, while its domain sleeps they are held. Else, a
WB whose line is BUSY and not granted and that its entry or its snoop explains gives the transaction its data where
nothing better has come; granted, or not BUSY and of the entry's owner, it is written into the slice; one that nothing
explains leaves the transactions as they are and COH_ERR holds a first error. An EVCT of a BUSY line changes no entry;
of another it drops the entry's owner, and the waiting requests that can be are accepted. Each is acknowledged to its
agent, a chiplet's while its link is not down, with its tag. COMP_ACK from the requester of a granted transaction
whose grant has arrived goes to the home once, where the line is BUSY no longer and the requests that wait and can be
are accepted; from any other requester nothing changes. WB_ACK whose packet has arrived: it is under way no more, and
a tile's copy that was leaving is gone; a chiplet gets it on its slip; a tile whose cache sleeps is woken instead;
without one nothing changes. Where a command's own condition does not hold and the spec names no other effect, that
nothing changes is the model's choice (log entry 5). The form of outward messages is the model's choice (log entry 6).
(R250, R251, R259, R260, R262, R263, R267, R298, 09_coherence) -/
def Obligations.WritebacksEvictionsAndAcks : Prop :=
  (∀ (s : State) (a pa : Nat) (data : Line),
    let l := lineOf pa
    let d := if a < 64 then ((mget s.coh.agents (agentKey a l)).map (·.data)).getD data else data
    let forms : List (Instr × List CSt × CSt × HPkt) :=
      [(.wb a pa data, [.m], .wbp, .wb a 0 pa d false), (.evct a pa, [.e, .s, .f], .evp, .evct a 0 pa)]
    ∀ x ∈ forms,
      (s.mayCache a = true → (a < 64 → s.copySt a l ∈ x.2.1) →
        (reqRouter a = s.homeOf (l * 128) → exec x.1 s = .next ((s.leaving a l x.2.2.1).toHome x.2.2.2)) ∧
        (reqRouter a ≠ s.homeOf (l * 128) → ∃ t, exec x.1 s = .next t ∧ flies s t x.2.2.2 ∧ (a < 64 → t.copySt a l = x.2.2.1) ∧
          (∀ k, k ≠ agentKey a l → mget t.coh.agents k = mget s.coh.agents k) ∧
          t = { s with coh := { s.coh with agents := t.coh.agents }, fab := t.fab })) ∧
      (a < 64 → s.copySt a l ∉ x.2.1 → exec x.1 s = .next s)) ∧
  (∀ (s : State) (a tag pa : Nat) (d : Line),
    let l := lineOf pa
    let h := 8 * s.homeOf pa + 6
    let w := s.toHome (.wb a tag pa d false)
    let e := s.toHome (.evct a tag pa)
    let acked := fun (t : State) => (a < 64 ∨ s.rf (R.slipStatus (a - 64)) F.slipStatus_STATE ≠ 4) →
      ∃ m ∈ t.coh.msgs, m.kind = 3 ∧ m.agent = a ∧ m.line = l ∧ m.tag = tag
    (s.domSt h ≠ 0 → w.fab.parked = s.fab.parked ++ [(h, .wb a tag pa d false)] ∧ e.fab.parked = s.fab.parked ++ [(h, .evct a tag pa)] ∧
      w.coh = s.coh ∧ e.coh = s.coh) ∧
    (s.domSt h = 0 →
      (∀ x, mget s.coh.txns l = some x → s.wbKnown x a = true → x.granted = false →
        mget w.coh.txns l = some (x.absorb a d) ∧ (x.prio < 2 → (x.absorb a d).prio = 2 ∧ (x.absorb a d).data = d) ∧
          (2 ≤ x.prio → (x.absorb a d).prio = x.prio ∧ (x.absorb a d).data = x.data) ∧ acked w ∧ w = { s with coh := w.coh, fab := w.fab }) ∧
      (∀ x, mget s.coh.txns l = some x → s.wbKnown x a = true → x.granted = true →
        w = ((s.useDom h).slicePut l d).wbAck a tag l ∧ acked w) ∧
      (mget s.coh.txns l = none → ownedBy (mget s.coh.filter l) a = true →
        w = ((((s.useDom h).slicePut l d).dropFwd a l).wakeQueue).wbAck a tag l) ∧
      ((∃ x, mget s.coh.txns l = some x ∧ s.wbKnown x a = false) ∨ (mget s.coh.txns l = none ∧ ownedBy (mget s.coh.filter l) a = false) →
        w.coh.txns = s.coh.txns ∧ w.rf R.cohErr F.cohErr_VALID = 1 ∧ acked w ∧ onlyRegs [R.cohErr] s w ∧ sameStores s w) ∧
      (s.busy l = true → acked e ∧ e.coh.filter = s.coh.filter ∧ e = { s with coh := e.coh, fab := e.fab }) ∧
      (s.busy l = false → e = (((s.useDom h).dropFwd a l).wakeQueue).wbAck a tag l))) ∧
  (∀ (s : State) (a pa : Nat),
    let l := lineOf pa
    let came := s.coh.msgs.any (fun m => decide (m.kind < 2) && decide (m.agent = a) && decide (m.line = l)) = false
    (∀ x, mget s.coh.txns l = some x →
      (x.granted = true → x.q.req = a → s.ackSent a l = false → came →
        (reqRouter a = s.homeOf (l * 128) → exec (.compAck a pa) s = .next (s.toHome (.compAck a pa))) ∧
        (reqRouter a ≠ s.homeOf (l * 128) → ∃ t, exec (.compAck a pa) s = .next t ∧ flies s t (.compAck a pa) ∧ t = { s with fab := t.fab })) ∧
      (x.granted = false ∨ x.q.req ≠ a ∨ s.ackSent a l = true ∨ ¬ came → exec (.compAck a pa) s = .next s) ∧
      (x.granted = true → x.q.req = a → s.domSt (8 * s.homeOf pa + 6) = 0 →
        ∃ u : State, s.toHome (.compAck a pa) = u.wakeQueue ∧ mget u.coh.txns l = none ∧ (∀ j, j ≠ l → mget u.coh.txns j = mget s.coh.txns j) ∧
          u.coh.msgs = s.coh.msgs ∧ u = { s with coh := u.coh, fab := u.fab })) ∧
    (mget s.coh.txns l = none → exec (.compAck a pa) s = .next s) ∧
    (∀ m, s.msgFor 3 a l = some m →
      (s.asleepAt a = true → exec (.wbAck a pa) s = .next (s.wake (8 * a + 5))) ∧
      (s.asleepAt a = false → ∃ u : State, u.coh.msgs = s.coh.msgs.erase m ∧
        (s.copySt a l = .wbp ∨ s.copySt a l = .evp → mget u.coh.agents (agentKey a l) = none) ∧
        (s.copySt a l ≠ .wbp → s.copySt a l ≠ .evp → u.coh.agents = s.coh.agents) ∧
        (∀ k, k ≠ agentKey a l → mget u.coh.agents k = mget s.coh.agents k) ∧ u = { s with coh := u.coh, fab := u.fab } ∧
        (a < 64 ∨ 72 ≤ a → exec (.wbAck a pa) s = .next u) ∧
        (64 ≤ a → a < 72 → exec (.wbAck a pa) s = .next (u.ospMsg (a - 64) [7, a - 62, m.tag, l * 128] 2 4 m.qc m.tag (l * 128) 0) ∧
          (s.slState (a - 64) ≠ 4 → (u.ospMsg (a - 64) [7, a - 62, m.tag, l * 128] 2 4 m.qc m.tag (l * 128) 0).out =
            s.out ++ [⟨.osp, [7, a - 62, m.tag, l * 128], []⟩])))) ∧
    (s.msgFor 3 a l = none → exec (.wbAck a pa) s = .next s))

/-- O38: SNOOP_AT_STOP where the snoop is due and its packet has arrived, at the stop of a tile that is not its
requester: the copy takes the state the snoop leaves it in (gone where that is I), a copy that must give data puts it
under way to the home; at its requester's own stop the copies stay and one it holds is told; at a COMPUTE slip's in
service the snoop leaves on it and the chiplet is still to answer; at any other slip's nothing else happens. Then the
snoop goes on to the next stop, or is at the end of the ring at the home's own. Where a clean copy it meets has an
uncorrectable error, the copy is gone, adds nothing to the answer, TILE_ERR of the tile holds a first error, and no
memory changes. SNP_RSP at a home that is awake, of a chiplet that is still to answer: it is so no more, and a held
copy, a write-back seen and data to come are noted; while the home's domain sleeps it is held. SNP_DATA that is
awaited, a tile's once its packet has arrived: it is awaited no more, and dirty data takes precedence, none that the
fabric damaged being kept. SNOOP_COMPLETE with the snoop at the end of the ring and nothing still to come: a line
whose owner failed is lost first; then the transaction is answered and the waiting requests that can be are accepted.
For an RDS of a tile whose data has come clean, that is: the transaction is granted, its entry names the tile, as its
owner where no copy is left, and DATA with that data is under way to it, F beside other copies, else E. Out of turn
none of them changes anything. Where a command's own condition does not hold and the spec names no other effect, that
nothing changes is the model's choice (log entry 5). (R175, R253, R254, R255, R257, R258, R270, R298, R304,
09_coherence) -/
def Obligations.SnoopsGatherTheirAnswers : Prop :=
  ∀ (s : State) (pa stop v a : Nat) (held dirty sends wbseen reqhold : Bool) (data : Line) (x : Txn),
    let l := lineOf pa
    let ag := ringAgent stop
    let h := 8 * s.homeOf pa + 6
    mget s.coh.txns l = some x →
    (∀ k, x.snp = some k → x.granted = false → x.stop = stop → s.there x.spid = true →
      (ag < 64 → ∃ t y, exec (.snoopAtStop pa stop false) s = .next t ∧ mget t.coh.txns l = some y ∧
        y.stop = (if stop = ringPos (s.homeOf (l * 128)) then 72 else (stop + 1) % 72) ∧ t.mem = s.mem ∧ t = { s with coh := t.coh, fab := t.fab } ∧
        (ag = x.q.req → k ≠ .bi → t.coh.agents = s.coh.agents ∧ y.held = (x.held || keeps (s.copySt ag l)) ∧ y.await = x.await) ∧
        (ag ≠ x.q.req ∨ k = .bi → y.held = (x.held || keeps (snoopMove (s.copySt ag l) k).1) ∧
          t.copySt ag l = (if (mget s.coh.agents (agentKey ag l)).isSome then (snoopMove (s.copySt ag l) k).1 else .i) ∧
          (∀ d, (snoopMove (s.copySt ag l) k).2 = some d → y.await = x.await ++ [ag] ∧
            ∃ m ∈ t.coh.msgs, m.kind = 4 ∧ m.agent = ag ∧ m.line = l ∧ m.dirty = d))) ∧
      (64 ≤ ag → ∃ t y, exec (.snoopAtStop pa stop false) s = .next t ∧ mget t.coh.txns l = some y ∧ y.stop = (stop + 1) % 72 ∧
        y.held = x.held ∧ y.await = x.await ∧ t.coh.agents = s.coh.agents ∧ bitOf y.pend (ag - 64) = (s.liveSlip (ag - 64) || bitOf x.pend (ag - 64)) ∧
        (∀ j, j ≠ ag - 64 → bitOf y.pend j = bitOf x.pend j) ∧
        t.out = s.out ++ (if s.liveSlip (ag - 64) = true ∧ s.slState (ag - 64) ≠ 4 then
          [⟨.osp, [3, ag - 62, l * 128, snpOp k, x.q.req, x.q.tag, x.q.qc, x.aux], []⟩] else []) ∧
        t = { s with coh := t.coh, fab := t.fab, slips := t.slips, out := t.out })) ∧
    (∀ k c, x.snp = some k → x.granted = false → x.stop = stop → s.there x.spid = true → ag < 64 → (ag ≠ x.q.req ∨ k = .bi) →
      mget s.coh.agents (agentKey ag l) = some c → (c.st = .e ∨ c.st = .s ∨ c.st = .f) →
      ∃ t y, exec (.snoopAtStop pa stop true) s = .next t ∧ mget t.coh.txns l = some y ∧
        y.stop = (if stop = ringPos (s.homeOf (l * 128)) then 72 else (stop + 1) % 72) ∧ y.held = x.held ∧ y.await = x.await ∧
        mget t.coh.agents (agentKey ag l) = none ∧ t.rf (R.tileErr ag) F.tileErr_VALID = 1 ∧
        onlyRegs [R.tileErr ag] s t ∧ t.mem = s.mem ∧ t.lmeta = s.lmeta ∧ t.coh.msgs = s.coh.msgs) ∧
    (∀ ue, (x.snp = none ∨ x.granted = true ∨ x.stop ≠ stop ∨ s.there x.spid = false) → exec (.snoopAtStop pa stop ue) s = .next s) ∧
    (s.domSt h = 0 →
      (bitOf x.pend v = true →
        ∃ t y, exec (.snpRsp v pa held dirty sends wbseen reqhold) s = .next t ∧ mget t.coh.txns l = some y ∧ bitOf y.pend v = false ∧
          (∀ j, j ≠ v → bitOf y.pend j = bitOf x.pend j) ∧ y.held = (x.held || held) ∧
          y.wbseen = (x.wbseen || wbseen) ∧ y.await = (if sends || dirty then x.await ++ [64 + v] else x.await) ∧
          t = { s with coh := t.coh, fab := t.fab }) ∧
      (bitOf x.pend v = false → exec (.snpRsp v pa held dirty sends wbseen reqhold) s = .next (s.useDom h))) ∧
    (s.domSt h ≠ 0 → exec (.snpRsp v pa held dirty sends wbseen reqhold) s =
      .next (s.park h (.snpRsp v pa held dirty sends wbseen reqhold))) ∧
    (x.await.contains a = true →
      (∀ m, s.msgFor 4 a l = some m →
        ∃ t y, exec (.snpData a pa dirty data) s = .next t ∧ mget t.coh.txns l = some y ∧ y.await = x.await.erase a ∧ x.prio ≤ y.prio ∧
          (m.dmg = true → y.prio = x.prio ∧ y.data = x.data) ∧ (m.dmg = false → m.dirty = true → x.prio < 3 → y.prio = 3 ∧ y.data = m.data) ∧
          t.coh.msgs = s.coh.msgs.erase m ∧ t = { s with coh := t.coh, fab := t.fab }) ∧
      (s.msgFor 4 a l = none → 64 ≤ a → (∀ m ∈ s.coh.msgs, ¬ (m.kind = 4 ∧ m.agent = a ∧ m.line = l)) →
        ∃ t y, exec (.snpData a pa dirty data) s = .next t ∧ mget t.coh.txns l = some y ∧ y.await = x.await.erase a ∧ x.prio ≤ y.prio ∧
          (dirty = true → x.prio < 3 → y.prio = 3 ∧ y.data = data) ∧ t = { s with coh := t.coh, fab := t.fab }) ∧
      (s.msgFor 4 a l = none → (a < 64 ∨ ∃ m ∈ s.coh.msgs, m.kind = 4 ∧ m.agent = a ∧ m.line = l) →
        exec (.snpData a pa dirty data) s = .next s)) ∧
    (x.await.contains a = false → exec (.snpData a pa dirty data) s = .next s) ∧
    (x.snp.isSome = true → x.granted = false → x.fetch = false → x.stop = 72 → x.pend = 0 → x.await = [] → x.owed = [] →
      ∃ u : State, exec (.snoopComplete pa) s = .next u.wakeQueue ∧
        u = (if s.lostOwner x then (s.ownerLost x.q.line).answer x false else s.answer x x.ent.isSome) ∧
        (x.q.kind = .rds → x.q.line = l → x.q.req < 64 → x.prio = 1 → s.lostOwner x = false → x.ent.isSome = true →
          (mget s.coh.filter l).isSome = true →
          ∃ e m, mget u.coh.txns l = some { x with granted := true } ∧
            mget u.coh.filter l = some e ∧ e.fwd = some x.q.req ∧ e.owned = !x.held ∧
            u.coh.msgs = s.coh.msgs ++ [m] ∧ m.kind = 0 ∧ m.agent = x.q.req ∧ m.line = l ∧ m.tag = x.q.tag ∧ m.data = x.data ∧
            m.st = (if x.held then .f else .e) ∧ u = { s with coh := u.coh, fab := u.fab })) ∧
    ((x.snp = none ∨ x.granted = true ∨ x.fetch = true ∨ x.stop ≠ 72 ∨ x.pend ≠ 0 ∨ x.await ≠ [] ∨ x.owed ≠ []) →
      exec (.snoopComplete pa) s = .next s)

/-- O39: DATA, GNT and RETRY that have arrived are under way no more. DATA for a tile with a state of I, or damaged,
or for a requester that is no chiplet, changes no copy; for a chiplet it leaves on its slip, as ERR where it was
damaged. DATA for a tile with a state: the tile's copy holds that state and those bytes, in a way of its set, and the
copy that stood in that way leaves, if any did. GNT for a tile with state M: the tile's copy, where it has one, is M;
for a chiplet it leaves on its slip. RETRY that promises a credit: the credit is held at the line's home for the
requester; a chiplet is told. A tile whose cache sleeps is woken instead; one that is flushed gives the grant back at
once. Without such a message nothing changes. SLIP_SNP_TO for a chiplet that owes an answer, data it announced or an
acknowledgement, in service: a DEGRADING report is on its way and its slip goes down; with nothing owed nothing
changes. SLIP_AGENT_LOSS for a failed chiplet: its entries are cleaned, its slip is marked so, and a RETRAIN that
waited for it starts; for another nothing changes. Where a command's own condition does not hold and the spec names no
other effect, that nothing changes is the model's choice (log entry 5). The form of outward messages is the model's
choice (log entry 6). (R175, R251, R252, R257, R264, R269, R270, R274, R298, R304, 09_coherence) -/
def Obligations.AnswersReachTheirRequesters : Prop :=
  ∀ (s : State) (req pa v : Nat),
    let l := lineOf pa
    let adr := fun (m : CMsg) => s.osAddr req m.tag (l * 128)
    let sends := fun (t : State) (args : List Nat) (b : List Byte) => s.slState (req - 64) ≠ 4 → t.out = s.out ++ [⟨.osp, args, b⟩]
    (∀ x ∈ ([(.data req pa, 0), (.gnt req pa, 1), (.retry req pa, 2)] : List (Instr × Nat)),
      (s.asleepAt req = true → (s.msgFor x.2 req l).isSome = true → exec x.1 s = .next (s.wake (8 * req + 5))) ∧
      (s.msgFor x.2 req l = none → exec x.1 s = .next s)) ∧
    (∀ m, s.msgFor 0 req l = some m → s.asleepAt req = false →
      ((req < 64 ∧ (m.st = .i ∨ m.dmg = true)) ∨ 72 ≤ req →
        ∃ t, exec (.data req pa) s = .next t ∧ t.coh.msgs = s.coh.msgs.erase m ∧ t.coh.agents = s.coh.agents ∧ t = { s with coh := t.coh, fab := t.fab }) ∧
      (64 ≤ req → req < 72 → ∃ t, exec (.data req pa) s = .next t ∧ t.coh.msgs = s.coh.msgs.erase m ∧ t.coh.agents = s.coh.agents ∧
        (m.dmg = true → sends t [8, req - 62, m.tag, adr m, 4] []) ∧
        (m.dmg = false → sends t [4, req - 62, m.tag, adr m, grantCode m.st] (bytesOfLine m.data)) ∧
        t = { s with coh := t.coh, slips := t.slips, out := t.out }) ∧
      (req < 64 → m.st ≠ .i → m.dmg = false → s.tileReset req = true →
        exec (.data req pa) s = .next ((s.agentTake m).grantFlushed req l m.st m.data)) ∧
      (req < 64 → m.st ≠ .i → m.dmg = false → s.tileReset req = false →
        ∃ u : State, exec (.data req pa) s = .next (match (s.tileSet req l).find? (fun p => decide (p.2.way = s.tileWay req l)) with
            | some p => u.tileDrop req (p.1 % 2 ^ 45) p.2.data
            | none => u) ∧
          u.coh.msgs = s.coh.msgs.erase m ∧ mget u.coh.agents (agentKey req l) = some ⟨m.st, s.tileWay req l, m.data⟩ ∧
          (∀ k, k ≠ agentKey req l → mget u.coh.agents k = mget s.coh.agents k) ∧ u = { s with coh := u.coh, fab := u.fab })) ∧
    (∀ m, s.msgFor 1 req l = some m → s.asleepAt req = false →
      (req < 64 → m.st = .m → s.tileReset req = true → exec (.gnt req pa) s = .next (match mget s.coh.agents (agentKey req l) with
        | some c => (s.agentTake m).grantFlushed req l .m c.data
        | none => (s.agentTake m).grantGone req pa)) ∧
      (req < 64 → m.st ≠ .m ∨ s.tileReset req = false → ∃ t, exec (.gnt req pa) s = .next t ∧ t.coh.msgs = s.coh.msgs.erase m ∧
        (m.st = .m → ∀ c, mget s.coh.agents (agentKey req l) = some c → mget t.coh.agents (agentKey req l) = some { c with st := .m }) ∧
        (∀ k, k ≠ agentKey req l → mget t.coh.agents k = mget s.coh.agents k) ∧ t = { s with coh := t.coh, fab := t.fab }) ∧
      (64 ≤ req → req < 72 → ∃ t, exec (.gnt req pa) s = .next t ∧ t.coh.msgs = s.coh.msgs.erase m ∧ sends t [5, req - 62, m.tag, adr m] [] ∧
        t = { s with coh := t.coh, slips := t.slips, out := t.out }) ∧
      (72 ≤ req → exec (.gnt req pa) s = .next (s.cohTake m))) ∧
    (∀ m, s.msgFor 2 req l = some m → s.asleepAt req = false →
      ∃ t, exec (.retry req pa) s = .next t ∧ t.coh.msgs = s.coh.msgs.erase m ∧ t.coh.agents = s.coh.agents ∧
        t.coh.held = (if m.credit then s.coh.held ++ [(s.homeOf pa, req)] else s.coh.held) ∧
        (req < 64 ∨ 72 ≤ req → t.out = s.out) ∧ (64 ≤ req → req < 72 → sends t [6, req - 62, m.tag, adr m, b2n m.credit] []) ∧
        t = { s with coh := t.coh, fab := t.fab, slips := t.slips, out := t.out }) ∧
    (let late : Nat × Txn → Bool := fun p => bitOf p.2.pend v || p.2.await.contains (64 + v) || (p.2.granted && decide (p.2.q.req = 64 + v))
     (∀ p, s.coh.txns.find? late = some p → s.computeSlip v = true → s.slipFailed v = false →
      ∃ t, exec (.slipSnpTo v) s = .next t ∧ t = (s.cohErr (s.homeOf (p.1 * 128)) 3 clsDegrading).slipDown v 2 ∧
        (s.slState v ≠ 0 → s.slState v ≠ 4 → (t.sl v).goneDue = true ∧ (t.sl v).queue = [] ∧ (t.sl v).cleaned = false) ∧
        t.holds = s.holds ∧ t.time = s.time) ∧
     (s.coh.txns.find? late = none → exec (.slipSnpTo v) s = .next s)) ∧
    (v < 8 → s.slipFailed v = true →
      let u := (s.agentLoss v).setSl v { (s.agentLoss v).sl v with cleaned := true }
      ∃ t, exec (.slipAgentLoss v) s = .next t ∧ (t.sl v).cleaned = true ∧
        t = (if (u.sl v).retry = true ∧ u.slState v = 4 then u.slipTrain v else u) ∧ t.holds = s.holds ∧ t.time = s.time) ∧
    (¬ (v < 8 ∧ s.slipFailed v = true) → exec (.slipAgentLoss v) s = .next s)

/-- O40: MRD and MWR go to the controller of their line: at the requester's own router at once, elsewhere as the last
packet of the fabric under way, nothing else changing. At the controller, while the vault's domain sleeps both are
held at the router. Else an MRD of a line in a vault or behind Lararis that reads well, without an error or with a
corrected one, sends its data to the requester, under its tag and in its class, and memory stays; one with an
uncorrectable error sends data marked damaged. An MWR of a line that can be written stores the line under its mask and
sends an acknowledgement; what the fabric damaged is acknowledged and not stored. A read of a slip's or the twin's
memory goes to that node. For an absent address both send ERR with cause 1, for any other place ERR with cause 3, and
no memory changes. MDATA, MWR_ACK and ERR_RESPONSE whose packet has arrived at a router are under way no more: a read
or write of another node that waits under the tag is answered, or fails where the data was damaged or ERR came, and
where nothing waits nothing else changes; a home's ERR for a chiplet leaves on its slip. With nothing arrived they
change nothing. Where a command's own condition does not hold and the spec names no other effect, that nothing changes
is the model's choice (log entry 5). The form of outward messages is the model's choice (log entry 6). (R188, R189,
R220, R282, R283, R293, R298, R304, 06_memory_hierarchy, 07_address_map, 10_octel_fabric) -/
def Obligations.MemoryReadsAndWritesOfTheFabric : Prop :=
  (∀ (s : State) (src pa tag rid qc ten mask ecc : Nat) (data : Line),
    let forms : List (Instr × MemReq) :=
      [(.mrd src pa tag rid qc ten ecc, ⟨src, pa, tag, rid, qc, ten, false, ecc, 0, 0, false, s.time.total⟩),
       (.mwr src pa tag rid qc mask ten data, ⟨src, pa, tag, rid, qc, ten, true, 0, mask, data, false, s.time.total⟩)]
    ∀ x ∈ forms,
      (src = s.ctrlRouter (lineOf pa * 128) → exec x.1 s = .next (s.toCtrl x.2)) ∧
      (src ≠ s.ctrlRouter (lineOf pa * 128) → ∃ t, exec x.1 s = .next t ∧ flies s t (.mem x.2) ∧ t = { s with fab := t.fab })) ∧
  (∀ (s : State) (m : MemReq),
    let l := lineOf m.pa
    let t := s.toCtrl m
    let sent := fun (k cause : Nat) (d : Line) (dmg : Bool) => ∃ x ∈ t.fab.msgs, x.kind = k ∧ x.dst = m.src ∧ x.tag = m.tag ∧ x.line = l ∧
      x.cause = cause ∧ x.data = d ∧ x.dmg = dmg ∧ x.qc = m.qc ∧ x.rid = m.rid
    (∀ d, s.vaultDom m.pa = some d → s.domSt d ≠ 0 → t = s.park d (.mem m)) ∧
    ((∀ d, s.vaultDom m.pa = some d → s.domSt d = 0) →
      (s.placeOf m.pa = .vault ∨ s.placeOf m.pa = .lararis →
        (∀ d, m.write = false → s.lineRead l = .ok d →
          (m.ecc ≠ 2 → sent 0 0 d false ∧ t.mem = s.mem ∧ t.lmeta = s.lmeta ∧ t.holds = s.holds ∧ t.coh = s.coh) ∧ (m.ecc = 2 → sent 0 0 0 true)) ∧
        (∀ d, m.write = true → m.dmg = false → (s.lineWrite l m.data m.mask).2 = .ok d →
          sent 1 0 0 false ∧ t.mem = cellsWrite s.mem (l * 128) (bytesOfLine (mergeLine (s.rawLine l) m.data m.mask)) ∧ t.holds = s.holds ∧ t.coh = s.coh)) ∧
      (m.write = true → m.dmg = true → sent 1 0 0 false ∧ sameStores s t) ∧
      (m.write = false → s.placeOf m.pa = .twin ∨ (∃ v, s.placeOf m.pa = .slip v) → t = (s.remIssue m.who (l * 128) 128 0).relay) ∧
      ((m.write = true → m.dmg = false) → s.placeOf m.pa = .absent → sent 2 1 0 false ∧ sameStores s t ∧ t.coh = s.coh ∧
        (m.src ≠ 82 → t = { s with fab := t.fab })) ∧
      ((m.write = true → m.dmg = false) → s.placeOf m.pa = .reserved ∨ s.placeOf m.pa = .regs ∨ s.placeOf m.pa = .host →
        sent 2 3 0 false ∧ t = { s with fab := t.fab }))) ∧
  (∀ (s : State) (at_ tag : Nat),
    let err := s.coh.msgs.find? (fun m => decide (m.kind = 5) && decide (reqRouter m.agent = at_) && decide (m.tag = tag) && s.there m.pid && s.inOrder m)
    (∀ m, s.fabFor 0 at_ tag = some m →
      exec (.mdata at_ tag) s =
        .next ((s.fabTake m).nodeAnswer (nodeAt at_) tag (if m.dmg then none else some (bytesOfLine m.data))) ∧
      (s.readOf (nodeAt at_) tag = none → ∃ t, exec (.mdata at_ tag) s = .next t ∧ t.fab.msgs = s.fab.msgs.erase m ∧ t = { s with fab := t.fab })) ∧
    (∀ m, s.fabFor 1 at_ tag = some m →
      exec (.mwrAck at_ tag) s = .next ((s.fabTake m).nodeAck (nodeAt at_) tag true) ∧
      (s.writeOf (nodeAt at_) tag = none → ∃ t, exec (.mwrAck at_ tag) s = .next t ∧ t.fab.msgs = s.fab.msgs.erase m ∧ t = { s with fab := t.fab })) ∧
    (s.fabFor 0 at_ tag = none → exec (.mdata at_ tag) s = .next s) ∧ (s.fabFor 1 at_ tag = none → exec (.mwrAck at_ tag) s = .next s) ∧
    (∀ m, err = some m →
      ∃ t, exec (.errResponse at_ tag) s = .next t ∧ t.coh.msgs = s.coh.msgs.erase m ∧ t.coh.agents = s.coh.agents ∧ t.coh.txns = s.coh.txns ∧
        (64 ≤ at_ → at_ < 72 → s.slState (at_ - 64) ≠ 4 →
          t.out = s.out ++ [⟨.osp, [8, at_ - 64 + 2, tag, s.osAddr at_ tag (m.line * 128), m.data.toNat], []⟩]) ∧
        t = { s with coh := t.coh, fab := t.fab, slips := t.slips, out := t.out }) ∧
    (err = none →
      (∀ m, s.fabFor 2 at_ tag = some m →
        exec (.errResponse at_ tag) s = .next (((s.fabTake m).nodeAnswer (nodeAt at_) tag none).nodeAck (nodeAt at_) tag false) ∧
        (s.readOf (nodeAt at_) tag = none → s.writeOf (nodeAt at_) tag = none →
          ∃ t, exec (.errResponse at_ tag) s = .next t ∧ t.fab.msgs = s.fab.msgs.erase m ∧ t = { s with fab := t.fab })) ∧
      (s.fabFor 2 at_ tag = none → exec (.errResponse at_ tag) s = .next s)))

/-- O41: REG_WR goes to its block's router: at the sender's own at once, elsewhere as the last packet of the fabric
under way, nothing else changing. There, one to a register of a partition in reset is answered PARTITION_RESET; one to
a block with a write in flight waits; else it is in flight and its block takes it, or, while the register's domain
sleeps, that is woken. REGISTER_WRITE likewise, but one taken at once is acknowledged as it is taken. REG_ACK of a
block that has taken its write ends it, and the oldest one that waits for the block goes next; of another it changes
nothing. A block that takes a write performs it, where the ford into it is shut only counts it. An aligned 64-bit
write of a register that sets nothing off, is not refused and not ferried is the write of its fields, each by its
class, and nothing more. A write at a reserved offset changes no register. A field's write: RO and WO live ones leave
every register; RW and W1S or W1C live ones change that register alone, by the value's bits in the lanes written; RW
boundary ones change no register in force but put value and lanes into the shadow. Where a command's own condition
does not hold and the spec names no other effect, that nothing changes is the model's choice (log entry 5). (R8, R9,
R10, R11, R216, R282, R298, R300, R315, R321, 00_scope, 10_octel_fabric) -/
def Obligations.RegisterWritesFollowTheirClass : Prop :=
  (∀ (s : State) (off size value src tag block : Nat),
    let r : RegReq := ⟨blockOfReg off, off, size, value, src, tag⟩
    let w : RegReq := ⟨blockOfReg off, off, size, value, 82, 0⟩
    (src = regRouter off → exec (.regWr off size value src tag) s = .next (s.regLand r)) ∧
    (src ≠ regRouter off → ∃ t, exec (.regWr off size value src tag) s = .next t ∧ flies s t (.reg r) ∧ t = { s with fab := t.fab }) ∧
    (s.regReset off = true → ∃ t m, exec (.registerWrite off size value) s = .next t ∧ t.fab.msgs = s.fab.msgs ++ [m] ∧ m.kind = 3 ∧
      m.dst = 82 ∧ t = { s with fab := t.fab }) ∧
    (s.regReset off = false → s.regOut (blockOfReg off) = true →
      exec (.registerWrite off size value) s = .next (s.setFab { s.fab with regHeld := s.fab.regHeld ++ [w] })) ∧
    (s.regReset off = false → s.regOut (blockOfReg off) = false →
      (s.regAsleep off = true → exec (.registerWrite off size value) s = .next (s.regGo w)) ∧
      (s.regAsleep off = false → ∃ u : State, exec (.registerWrite off size value) s = .next (u.regTake w) ∧
        u = { s with fab := { s.fab with net := u.fab.net } })) ∧
    (∀ x, s.fab.regBusy.find? (fun x => decide (x.1.block = block) && x.2) = some x →
      ∃ u : State, u = { s with fab := u.fab } ∧ u.fab.regBusy = s.fab.regBusy.filter (fun y => decide (y.1.block ≠ x.1.block)) ∧
        (∀ q, s.fab.regHeld.find? (fun q => q.block = block) = some q →
          exec (.regAck block) s = .next (u.regGo q) ∧ u.fab.regHeld = s.fab.regHeld.erase q) ∧
        (s.fab.regHeld.find? (fun q => q.block = block) = none → exec (.regAck block) s = .next u ∧ u.fab.regHeld = s.fab.regHeld)) ∧
    (s.fab.regBusy.find? (fun x => decide (x.1.block = block) && x.2) = none → exec (.regAck block) s = .next s)) ∧
  (∀ (s : State) (r : RegReq),
    let t := s.regLand r
    (s.regReset r.off = true → ∃ m, t.fab.msgs = s.fab.msgs ++ [m] ∧ m.kind = 3 ∧ m.dst = r.src ∧ m.tag = r.tag ∧ t = { s with fab := t.fab }) ∧
    (s.regReset r.off = false → s.regOut r.block = true → t = s.setFab { s.fab with regHeld := s.fab.regHeld ++ [r] }) ∧
    (s.regReset r.off = false → s.regOut r.block = false → t = s.regGo r) ∧
    (s.regAsleep r.off = true → (s.regGo r).fab.regBusy = s.fab.regBusy ++ [(r, false)] ∧ (s.regGo r).coh = s.coh ∧ sameStores s (s.regGo r)) ∧
    (s.regAsleep r.off = false → s.regGo r = (s.setFab { s.fab with regBusy := s.fab.regBusy ++ [(r, true)] }).regTake r) ∧
    (s.regReset r.off = false → s.fordShut 1 (regClock r.off) = true →
      s.regTake r = s.radd (R.fordLost (regClock r.off)) F.fordLost_FLUSH 1) ∧
    (s.regReset r.off = false → s.fordShut 1 (regClock r.off) = false →
      (∀ d l, r.size = 8 → r.off % 8 = 0 → regOf (regKey r.off) = some (d, l) → regIgnored d.name l = false → s.lockRefused d.name l = false →
        ferryTen d.name l = none →
        (∀ u : State, u.regEffect d.name l (regKey r.off) (BitVec.ofNat 64 r.value &&& BitVec.allOnes 64).toNat false = u) →
        s.regTake r = d.fields.foldl (fun u f => u.fieldWrite (regKey r.off) (BitVec.allOnes 64) (BitVec.ofNat 64 r.value) f) (s.regUse r.off)) ∧
      (regOf (regKey (r.off - r.off % 8)) = none → s.regTake r = s.regUse r.off ∧ (s.regUse r.off).regs = s.regs))) ∧
  (∀ (s : State) (key : Nat) (mask v : Word) (f : RegField),
    let b := f.bits mask
    let t := s.fieldWrite key mask v f
    (f.acc = .ro → t = s) ∧ (f.acc = .wo → f.cls ≠ .b → t = s) ∧
    (f.acc ≠ .ro → f.acc ≠ .wo → f.cls ≠ .b → onlyRegs [key] s t ∧ t = { s with regs := t.regs }) ∧
    (f.acc = .rw → f.cls ≠ .b → ∀ i, i < 64 → (t.rv key).getLsbD i = if b.getLsbD i then v.getLsbD i else (s.rv key).getLsbD i) ∧
    (f.acc = .w1s → f.cls ≠ .b → ∀ i, i < 64 → (t.rv key).getLsbD i = ((s.rv key).getLsbD i || (b.getLsbD i && v.getLsbD i))) ∧
    (f.acc = .w1c → ∀ i, i < 64 → (t.rv key).getLsbD i = ((s.rv key).getLsbD i && !(b.getLsbD i && v.getLsbD i))) ∧
    (f.acc = .rw → f.cls = .b → t = { s with shadow := t.shadow } ∧
      (∀ i, i < 64 → (t.shadowOf key).getLsbD i = if b.getLsbD i then v.getLsbD i else (s.shadowOf key).getLsbD i)))

/-- O42: ERR_REC of a corrected hardware error: the list of reports is what it was and no stored byte changes; once
firmware runs, with no record in hand or queued, a CORRECTED record of that block, cause and unit is in hand. ERR_REC
otherwise with a report on its way: the list is the rest of it; of one that is not FATAL no stored byte changes, and
with no record in hand or queued, once firmware runs, it is the record in hand, with the next sequence number, and the
newest of ERR_LAST. With no report nothing changes. RECORD_HANDLED with a record in hand, once firmware runs: while
the log ring's line or its toll is not ready it asks for them; else the record enters the ring, or ERR_CNT.LOST rises
by one where the ring is off, and the highest-class record queued is in hand, or none where none is queued; with none
in hand or under the boot ROM, nothing changes. FATAL: the hub is stopped, every leg and plan of every TE is gone, one
FATAL report is on its way and no stored byte changes. Where a command's own condition does not hold and the spec
names no other effect, that nothing changes is the model's choice (log entry 5). (R175, R266, R302, R517, R518, R519,
R521, 20_errors_and_twin) -/
def Obligations.ErrorsAreSequencedOneByOne : Prop :=
  ∀ (s : State) (block cause unit : Nat),
    let idle := s.err.handling = none ∧ s.brg.rom = false ∧ s.err.q0 = [] ∧ s.err.q1 = [] ∧ s.err.q2 = []
    (∀ x rest, corrected.contains (block, cause) = false → s.err.inbox = x :: rest →
      ∃ t, exec (.errRec block cause unit) s = .next t ∧ t.err.inbox = rest ∧ t.holds = s.holds ∧ t.time = s.time ∧
        (x.cls < 3 → sameStores s t ∧ sameButErrors s t) ∧
        (x.cls < 3 → idle →
          ∃ r, t.err.handling = some r ∧ r.rep = x ∧ r.seq = s.err.seq ∧ t.err.seq = s.err.seq + 1 ∧ t.err.last.head? = some r ∧
            t.rf R.errStatus F.errStatus_BUSY = 1)) ∧
    (corrected.contains (block, cause) = true →
      ∃ t, exec (.errRec block cause unit) s = .next t ∧ t.err.inbox = s.err.inbox ∧ sameStores s t ∧ sameButErrors s t ∧
        (idle → ∃ r, t.err.handling = some r ∧
          r.rep.cls = clsCorrected ∧ r.rep.block = block ∧ r.rep.cause = cause ∧ r.rep.unit = unit ∧ r.seq = s.err.seq)) ∧
    (corrected.contains (block, cause) = false → s.err.inbox = [] → exec (.errRec block cause unit) s = .next s) ∧
    (∀ r, s.err.handling = some r → s.brg.rom = false →
      (s.logReady = false → exec .recordHandled s = .next s.logOpen) ∧
      (s.logReady = true → ∃ t, exec .recordHandled s = .next t ∧
        t = (((s.setErr { s.err with handling := none }).logRec r).takeNext).showErr ∧
        (∀ h q, s.err.q2 = h :: q → t.err.handling = some h ∧ t.err.q2 = q) ∧
        (s.err.q0 = [] → s.err.q1 = [] → s.err.q2 = [] → t.err.handling = none) ∧
        (s.rf R.errLogBase F.errLogBase_EN = 0 → sameButErrors s t ∧
          t.rf R.errCnt F.errCnt_LOST = satAdd (s.rf R.errCnt F.errCnt_LOST) 1 (2 ^ F.errCnt_LOST.w - 1)) ∧
        (∀ p, s.logSlot = some p → t.err.unseen = s.err.unseen + 1))) ∧
    ((s.err.handling = none ∨ s.brg.rom = true) → exec .recordHandled s = .next s) ∧
    (∃ t r, exec (.fatal block cause unit) s = .next t ∧ stopped t ∧ t.err.inbox = s.err.inbox ++ [r] ∧ r.cls = clsFatal ∧
      r.block = block ∧ r.cause = cause ∧ r.unit = unit ∧ (∀ k, (t.tez k).run = none ∧ (t.tez k).plan = []) ∧ sameStores s t)

/-- O43: FLIT_CRC_ERROR on an UP link: its replay count rises by one; the sixteenth failure in a row of one flit makes
the link RETRAIN. LINK_RETRAIN_DONE that succeeds before the third of a sailing: the link is UP; else it is FAILED and
a new route is due. HDR_UE: the hub is stopped. DATA_UE: OCT_ERR holds a first error, the messages with that line's
data are marked damaged and no byte changes; on a present line that has metadata the line is invalid and the
requester's partition's sailing is voided for the lower of the two causes and what it had. PARTITION_RESET for a
partition in reset: a request is answered, an answer counted. PARTITION_RESET_ENTRY for a defined partition: it is in
reset, no TE of it has a leg or a plan, no hold changes; for another, or one in reset, nothing does. Where a command's
own condition does not hold and the spec names no other effect, that nothing changes is the model's choice (log entry
5). (R300, R301, R302, R303, R304, R517, R524, 10_octel_fabric) -/
def Obligations.FabricErrorsAndPartitionReset : Prop :=
  ∀ (s : State) (router port ten pa tag part cls src : Nat) (again ok : Bool),
    (router < 83 → s.portSt router port = 0 → (otherEnd router port).isSome = true →
      (let n := if again then mgetD s.fab.crc (8 * router + port) 0 + 1 else 1
       ∃ t, exec (.flitCrcError router port again) s = .next t ∧
        t.rf (R.octLinkCnt router) F.octLinkCnt_REPLAY =
          satAdd (s.rf (R.octLinkCnt router) F.octLinkCnt_REPLAY) 1 (2 ^ F.octLinkCnt_REPLAY.w - 1) ∧
        t.portSt router port = (if 16 ≤ n then 1 else 0) ∧ t = { s with regs := t.regs, shadow := t.shadow, err := t.err, fab := t.fab })) ∧
    (router < 83 → s.portSt router port = 1 → (otherEnd router port).isSome = true →
      (let n := mgetD s.fab.retrains (linkKey router port) 0 + 1
       ∃ t, exec (.linkRetrainDone router port ok) s = .next t ∧
        (ok = true → n < 3 → t.portSt router port = 0) ∧
        ((ok = false ∨ 3 ≤ n) → t.portSt router port = 2 ∧ t.fab.failed.contains (linkKey router port) = true ∧ t.fab.routeDue = true) ∧
        t = { s with regs := t.regs, shadow := t.shadow, err := t.err, fab := t.fab })) ∧
    ((83 ≤ router ∨ s.portSt router port ≠ 0) → exec (.flitCrcError router port again) s = .next s) ∧
    ((83 ≤ router ∨ s.portSt router port ≠ 1) → exec (.linkRetrainDone router port ok) s = .next s) ∧
    (∃ t, exec (.hdrUe router) s = .next t ∧ stopped t ∧ sameStores s t) ∧
    (∃ t, exec (.dataUe router ten pa tag) s = .next t ∧ t.rf R.octErr F.octErr_VALID = 1 ∧ sameStores s t ∧
      (∀ m ∈ t.coh.msgs, (m.kind = 0 ∨ m.kind = 4) → m.tag = tag → m.line = lineOf pa → m.dmg = true)) ∧
    (∀ m p, (s.placeOf pa = .vault ∨ s.placeOf pa = .lararis) → mget s.lmeta (lineOf pa) = some m → ten < 4096 → s.partOf ten = some p →
      ∃ t, exec (.dataUe router ten pa tag) s = .next t ∧ mget t.lmeta (lineOf pa) = some { m with valid := false } ∧
        (t.part p).void = minCause (minCause (s.part p).void 0x49) 0x42 ∧ sameStores s t) ∧
    (part < 64 → bitOf (s.rv R.octPrst).toNat part = true →
      (cls = 0 ∨ cls = 5 → ∃ t m, exec (.partitionReset part cls src tag) s = .next t ∧ t.fab.msgs = s.fab.msgs ++ [m] ∧
        m.kind = 3 ∧ m.dst = src ∧ m.tag = tag ∧ t = { s with fab := t.fab }) ∧
      (cls = 2 ∨ cls = 3 → exec (.partitionReset part cls src tag) s = .next (s.radd R.octStatus F.octStatus_PRST_DROP 1))) ∧
    (bitOf (s.rv R.octPrst).toNat part = false → exec (.partitionReset part cls src tag) s = .next s) ∧
    ((s.partRecs.any (fun r => r.part = part) = false ∨ (s.part part).reset = true) → exec (.partitionResetEntry part) s = .next s) ∧
    (part < 64 → s.partRecs.any (fun r => r.part = part) = true → (s.part part).reset = false →
      ∃ t, exec (.partitionResetEntry part) s = .next t ∧ (t.part part).reset = true ∧ t.rf R.octPrst ⟨part, 1⟩ = 1 ∧
        (∀ k ∈ s.tesOf part, (t.tez k).run = none ∧ (t.tez k).plan = []) ∧ t.holds = s.holds ∧ t.fuses = s.fuses ∧ t.time = s.time)

/-- O44: WAKE_REQUEST for a sleeping tile domain makes it WAKING and holds the packet; one that wakes already only
holds it; DOMAIN_UP of a waking one makes it ON with nothing held, then delivers what was held for it, the highest
priority first; WAKE_FAIL of one stops the hub. FORD_OVERRUN between existing domains voids the sailing of every
defined partition and counts what was lost; a late leaf also makes the sailing late. FORD_RESET leaves the domain
RESET, counts what both discarded and shuts the fords between the two; FORD_READY of such a pair opens them and leaves
each of the two that is in no other shut pair RUN. LOCK_LOST of a core domain's locked PLL, and TREF_LOST, stop the
hub; of a slip's it takes the slip down; of one that is not locked it changes nothing. None of these changes a stored
byte, but for what DOMAIN_UP delivers. Where a command's own condition does not hold and the spec names no other
effect, that nothing changes is the model's choice (log entry 5). (R26, R296, R298, R312, R319, R320, R321, R322,
R323, 10_octel_fabric, 11_clock_domains_and_fords) -/
def Obligations.DomainsWakeAndClocksAreWatched : Prop :=
  ∀ (s : State) (d src dst n m other : Nat) (ptr leaf : Bool),
    (tileDom d = true → s.domSt d = 1 → ∃ t, exec (.wakeRequest d) s = .next t ∧ t.domSt d = 2 ∧
      mget t.fab.held d = some (mgetD s.fab.held d 0 + 1) ∧ t = { s with regs := t.regs, shadow := t.shadow, fab := t.fab }) ∧
    (tileDom d = true → s.domSt d = 2 → ∃ t, exec (.wakeRequest d) s = .next t ∧ mget t.fab.held d = some (mgetD s.fab.held d 0 + 1) ∧
      t = { s with fab := t.fab }) ∧
    (s.domSt d ≠ 1 → s.domSt d ≠ 2 → exec (.wakeRequest d) s = .next s) ∧
    (tileDom d = true → s.domSt d = 2 → ∃ u : State,
      exec (.domainUp d) s = .next ((s.heldOrder ((s.fab.parked.filter (fun x => x.1 = d)).map (·.2))).foldl State.deliver u) ∧
      u.domSt d = 0 ∧ mget u.fab.held d = none ∧ u.fab.parked = s.fab.parked.filter (fun x => x.1 ≠ d) ∧
      onlyRegs [R.octPwr d] s u ∧ u = { s with regs := u.regs, shadow := u.shadow, fab := u.fab }) ∧
    (tileDom d = true → s.domSt d = 2 → ∃ t, exec (.wakeFail d) s = .next t ∧ stopped t ∧ sameStores s t) ∧
    (s.domSt d ≠ 2 → exec (.domainUp d) s = .next s ∧ exec (.wakeFail d) s = .next s) ∧
    (src < 18 → dst < 18 → ∃ t, exec (.fordOverrun src dst n ptr leaf) s = .next t ∧
      (∀ r ∈ s.partRecs, ∃ c, (t.part r.part).void = some c ∧ c ≤ 0x48) ∧
      t.rf (R.fordLost dst) F.fordLost_OVR =
        satAdd (s.rf (R.fordLost dst) F.fordLost_OVR) (if ptr then n else 1) (2 ^ F.fordLost_OVR.w - 1) ∧
      (leaf = true → t.time.late = true) ∧ (leaf = false → t.time = s.time) ∧ t.mem = s.mem ∧ t.holds = s.holds ∧ t.fuses = s.fuses) ∧
    ((18 ≤ src ∨ 18 ≤ dst) → exec (.fordOverrun src dst n ptr leaf) s = .next s) ∧
    (d < 18 → other < 18 → d ≠ other → ∃ t, exec (.fordReset d other n m) s = .next t ∧ t.rf (R.fordDom d) F.fordDom_STATE = 1 ∧
      t.rf (R.fordLost d) F.fordLost_FLUSH = satAdd (s.rf (R.fordLost d) F.fordLost_FLUSH) n (2 ^ F.fordLost_FLUSH.w - 1) ∧
      t.rf (R.fordLost other) F.fordLost_FLUSH = satAdd (s.rf (R.fordLost other) F.fordLost_FLUSH) m (2 ^ F.fordLost_FLUSH.w - 1) ∧
      t.fordShut d other = true ∧ onlyRegs [R.fordDom d, R.fordStatus, R.fordLost d, R.fordLost other] s t ∧
      t = { s with regs := t.regs, shadow := t.shadow, fab := t.fab }) ∧
    (s.fordShut d other = true → ∃ t, exec (.fordReady d other) s = .next t ∧ t.fordShut d other = false ∧
      (∀ x, x = d ∨ x = other → (∀ y ∈ s.fab.fords, y ≠ (d, other) → y ≠ (other, d) → y.1 ≠ x ∧ y.2 ≠ x) →
        t.rf (R.fordDom x) F.fordDom_STATE = 2) ∧
      onlyRegs [R.fordDom d, R.fordDom other, R.fordStatus] s t ∧ t = { s with regs := t.regs, shadow := t.shadow, fab := t.fab }) ∧
    (s.fordShut d other = false → exec (.fordReady d other) s = .next s) ∧
    (d < 4 ∨ d = 12 ∨ d = 16 → s.rf (R.fordDom d) F.fordDom_LOCK ≠ 0 →
      ∃ t, exec (.lockLost d) s = .next t ∧ stopped t ∧ t.rf (R.fordDom d) F.fordDom_LOCK = 0 ∧ sameStores s t) ∧
    (4 ≤ d → d < 12 → s.rf (R.fordDom d) F.fordDom_LOCK ≠ 0 →
      ∃ t, exec (.lockLost d) s = .next t ∧ t.rf (R.fordDom d) F.fordDom_LOCK = 0 ∧ t.holds = s.holds ∧ t.time = s.time ∧
        t = (s.slipDown (d - 4) 2).rset (R.fordDom d) F.fordDom_LOCK 0) ∧
    ((17 ≤ d ∨ d = 15 ∨ s.rf (R.fordDom d) F.fordDom_LOCK = 0) → exec (.lockLost d) s = .next s) ∧
    (∃ t, exec .trefLost s = .next t ∧ stopped t ∧ sameStores s t)

/-- O45: On an UP slip: OSP_REPLAY counts a replay and sends the flits that are kept from the one it names on; a whole
flit whose CRC is wrong, its fords open, asks for a replay; one of kind IDLE tells what the chiplet has received and
returns credits, and one of kind CTRL may ask for a replay too. A whole flit in order is taken: a DATA flit brings the
line of a request whose header waits for it, a HEAD flit with one RDC header for which there are credits puts that
request into the adapter's queue; either way the sequence number goes on. One out of order asks for a replay unless
one is asked for already. SLIP_LINK_ERROR, for the first and second time in a sailing, makes the link RETRAIN; the
third time it goes down. CREDIT_TO outside QUIET while a header waits for credits, MEM_TO under a tag with a read or
write waiting, SLIP_DOWN and SLIP_SIDEBAND_LINK_DOWN of an UP slip take it down: it is due as gone with nothing
queued; where it is no caching agent and nothing of it is out it is DOWN, held in reset, and no stored byte or mark
changes. SLIP_RETRAIN_DONE with a rate and width the manifest and the chiplet allow: UP at them, and the flits kept
are sent again; else DOWN. SLIP_RETRAIN of a DOWN slip whose lines are cleaned: TRAINING, out of reset; before that it
is noted. SLIP_DISCOVERY_DONE of a TRAINING slip that fits its entry: UP at once in bring-up, noted for I2 after
READY; one that does not fit: DOWN. Where a command's own condition does not hold and the spec names no other effect,
that nothing changes is the model's choice (log entry 5). The form of outward messages is the model's choice (log
entry 6). (R321, R350, R351, R352, R355, R356, R357, R359, R367, R368, R369, 13_slips) -/
def Obligations.SlipLinksFailAndRecover : Prop :=
  ∀ (s : State) (v fseq tag rate mods : Nat) (link ok : Bool) (flit desc : List Byte), v < 8 →
    let x := s.sl v
    let again := fun (l : List (Nat × List Byte)) => l.map (fun k => (⟨.osp, [11, v + 2], k.2⟩ : Out))
    (s.slState v = 2 →
      (∃ t, exec (.ospReplay v fseq) s = .next t ∧ t.out = s.out ++ again (x.tx.kept.dropWhile (fun k => decide (k.1 ≠ fseq % 4096))) ∧
        t.rf (R.slipCnt v) F.slipCnt_REPLAY = satAdd (s.rf (R.slipCnt v) F.slipCnt_REPLAY) 1 (2 ^ F.slipCnt_REPLAY.w - 1) ∧
        onlyRegs [R.slipCnt v] s t ∧ sameStores s t) ∧
      (flit.length = 256 → s.err.fatal = false → s.fordShut 1 (4 + v) = false →
        (crc32 (flit.take 252) ≠ leAt flit 252 4 → exec (.ospFlitReceive v flit) s = .next (s.flitBad v)) ∧
        (crc32 (flit.take 252) = leAt flit 252 4 →
          let kind := bitsOf (leAt flit 0 2) 12 2
          let n := leAt flit 0 2 % 4096
          (kind = 0 → ∃ t, exec (.ospFlitReceive v flit) s = .next t ∧ (t.sl v).tx.cred = credAdd x.tx.cred (creditsOf (leAt flit 4 8)) ∧
            (t.sl v).rxSeq = x.rxSeq ∧ (t.sl v).hdrs = x.hdrs ∧ (t.sl v).queue = x.queue ∧ t = { s with slips := t.slips }) ∧
          (kind = 3 → ∃ u : State, u = { s with slips := u.slips } ∧ (u.sl v).rxSeq = x.rxSeq ∧
            exec (.ospFlitReceive v flit) s = .next (if leAt flit 12 1 = 1 then u.slipResend v (leAt flit 13 2) else u)) ∧
          (kind = 1 ∨ kind = 2 → n ≠ x.rxSeq → ∃ u : State, u = { s with slips := u.slips } ∧ (u.sl v).rxSeq = x.rxSeq ∧
            exec (.ospFlitReceive v flit) s = .next (if x.skip = true then u else u.flitBad v)) ∧
          (kind = 1 ∨ kind = 2 → n = x.rxSeq → exec (.ospFlitReceive v flit) s = .next (s.flitGood v flit (decide (kind = 1)))) ∧
          (∀ h k, kind = 2 → n = x.rxSeq → x.hdrs = [h] → x.maskDue = none → h.cls = 0 → h.df = true → reqOf h.op = some k → s.slipMay v h = true →
            ∃ t q, exec (.ospFlitReceive v flit) s = .next t ∧ (t.sl v).queue = x.queue ++ [q] ∧ q.kind = k ∧ q.tag = h.tag ∧ q.caddr = h.addr ∧
              q.data = lineOfBytes ((x.bytes ++ slice flit 12 240).take 128) ∧ (t.sl v).hdrs = [] ∧ (t.sl v).rxSeq = (x.rxSeq + 1) % 4096 ∧
              (t.sl v).fails = 0 ∧ t = { s with slips := t.slips }) ∧
          (let h := hdrOf (leAt flit 12 16)
           kind = 1 → n = x.rxSeq → x.hdrs = [] → x.maskDue = none → h.cls = 0 → h.op = 4 → h.df = false → h.masked = false →
            (∀ i, i < 14 → leAt flit (28 + 16 * i) 16 = 0) → credOk x.tx.adv h.need = true →
            ∃ t q, exec (.ospFlitReceive v flit) s = .next t ∧ (t.sl v).queue = x.queue ++ [q] ∧ q.kind = .rdc ∧ q.tag = h.tag ∧
              q.caddr = h.addr ∧ (t.sl v).hdrs = [] ∧ (t.sl v).rxSeq = (x.rxSeq + 1) % 4096 ∧ t = { s with slips := t.slips }))) ∧
      (∃ t, s.flitBad v = t ∧ (x.fails < 7 → t.out = s.out ++ [⟨.osp, [11, v + 2], s.ospFlit v 3 0 (leBytes 1 1 ++ leBytes 2 x.rxSeq)⟩] ∧
        (t.sl v).fails = x.fails + 1 ∧ (t.sl v).rxSeq = x.rxSeq ∧ (t.sl v).hdrs = x.hdrs ∧ sameStores s t)) ∧
      (x.retrains < 2 → ∃ t, exec (.slipLinkError v) s = .next t ∧ t.slState v = 3 ∧ (t.sl v).retrains = x.retrains + 1 ∧ sameStores s t) ∧
      (2 ≤ x.retrains → ∃ u : State, exec (.slipLinkError v) s = .next (u.slipDown v 2) ∧ u.slState v = 2 ∧ sameStores s u) ∧
      (∀ y ∈ ([(.creditTo v, 4, decide (s.time.stage ≠ .quiet) && s.ospStuck v), (.memTo v tag, 5, (s.readOf (2 + v) tag).isSome || (s.writeOf (2 + v) tag).isSome),
          (.slipDown v, 2, true), (.slipSidebandLinkDown v, 2, true)] : List (Instr × Nat × Bool)),
        (y.2.2 = true → ∃ t, exec y.1 s = .next t ∧ t = s.slipDown v y.2.1 ∧ (t.sl v).goneDue = true ∧ (t.sl v).queue = [] ∧
          t.holds = s.holds ∧ t.time = s.time) ∧
        (y.2.2 = false → exec y.1 s = .next s)) ∧
      (∀ cause, s.computeSlip v = false → s.heap.remReads = [] → s.heap.remWrites = [] →
        (s.slipDown v cause).slState v = 4 ∧ bitOf (s.slipDown v cause).pins.slipRst v = true ∧
        sameStores s (s.slipDown v cause) ∧ (s.slipDown v cause).lmeta = s.lmeta)) ∧
    (s.slState v = 3 → ok = true → s.slipFit v rate mods = true →
      ∃ t, exec (.slipRetrainDone v rate mods ok) s = .next t ∧ t.slState v = 2 ∧ t.rf (R.slipStatus v) F.slipStatus_RATE = rate % 2 ^ F.slipStatus_RATE.w ∧
        t.rf (R.slipStatus v) F.slipStatus_MODS = mods % 2 ^ F.slipStatus_MODS.w ∧ onlyRegs [R.slipStatus v, R.fordDom (4 + v), R.fordStatus] s t ∧
        t.out = s.out ++ again x.tx.kept ∧ t = { s with regs := t.regs, shadow := t.shadow, fab := t.fab, out := t.out }) ∧
    (s.slState v = 3 → (ok = false ∨ s.slipFit v rate mods = false) → exec (.slipRetrainDone v rate mods ok) s = .next (s.slipDown v 2)) ∧
    (s.slState v ≠ 3 → exec (.slipRetrainDone v rate mods ok) s = .next s) ∧
    (s.slState v = 4 → x.cleaned = true →
      ∃ t, exec (.slipRetrain v) s = .next t ∧ t.slState v = 1 ∧ bitOf t.pins.slipRst v = false ∧ sameStores s t) ∧
    (s.slState v = 4 → x.cleaned = false → ∃ t, exec (.slipRetrain v) s = .next t ∧ (t.sl v).retry = true ∧ t = { s with slips := t.slips }) ∧
    (s.slState v = 1 → (s.slipFound v rate mods link desc).2 = true →
      (s.rf R.brgStatus F.brgStatus_STATE = 1 →
        ∃ t, exec (.slipDiscoveryDone v rate mods link desc) s = .next t ∧ (t.sl v).upDue = true ∧ t.slState v = 1 ∧ sameStores s t) ∧
      (s.rf R.brgStatus F.brgStatus_STATE ≠ 1 →
        ∃ t, exec (.slipDiscoveryDone v rate mods link desc) s = .next t ∧ t.slState v = 2 ∧ (t.sl v).tx.adv = ospOffer ∧ sameStores s t)) ∧
    (s.slState v = 1 → (s.slipFound v rate mods link desc).2 = false →
      ∃ t, exec (.slipDiscoveryDone v rate mods link desc) s = .next t ∧ t.slState v = 4 ∧ sameStores s t) ∧
    (s.slState v ≠ 1 → exec (.slipDiscoveryDone v rate mods link desc) s = .next s)

/-- O46: SLIP_REQUEST on an UP slip, on a hub that runs and does not stall, takes the oldest request off the adapter,
unless it is for a register whose block has a write in flight or whose domain sleeps: that waits, and wakes the
domain. One that the translation refused gets its ERR; one whose target is absent, or the slip's own node, ERR ABSENT,
noted in GLB_DECODE; one to the SLIP, MAN, SAL or LCS block, to a register of a partition in reset, or one that writes
no single word, gets ERR PERM; one that reads registers of another block gets their 128 bytes, and one that writes a
word of them writes it and is acknowledged, but for those that only PF0 may write. Any other goes to its line's home
as a request of the chiplet, but for one that asks for a copy in a role that may not cache, which gets ERR PERM. In
QUIET, or without a request, nothing changes. Where a command's own condition does not hold and the spec names no
other effect, that nothing changes is the model's choice (log entry 5). The form of outward messages is the model's
choice (log entry 6). (R38, R107, R220, R298, R300, R315, R323, R361, R362, R364, R365, 13_slips) -/
def Obligations.ChipletRequestsAreServed : Prop :=
  ∀ (s : State) (v : Nat), v < 8 →
    ((s.sl v).queue = [] → exec (.slipRequest v) s = .next s) ∧
    ∀ (q : SReq) (qs : List SReq), (s.sl v).queue = q :: qs →
    let o := lineOf q.pa * 128 - 0xFF00000000
    let err := fun (c : Nat) (ks : List Nat) => ∃ t, exec (.slipRequest v) s = .next t ∧ (t.sl v).queue = qs ∧
      t.out = s.out ++ [⟨.osp, [8, v + 2, q.tag, q.caddr, c], []⟩] ∧ onlyRegs ks s t ∧
      t = { s with regs := t.regs, shadow := t.shadow, slips := t.slips, out := t.out }
    (s.slState v = 2 → s.err.fatal = false → s.stalling = false →
      (s.slipHolds q = true → exec (.slipRequest v) s = .next (s.regWake o)) ∧
      (s.slipHolds q = false →
        (∀ c, q.err = some c → (c ≠ 1 → err c []) ∧ (c = 1 → err 1 [R.glbDecode])) ∧
        (q.err = none → s.placeOf q.pa = .absent ∨ s.placeOf q.pa = .slip v → err 1 [R.glbDecode]) ∧
        (q.err = none → s.placeOf q.pa = .regs →
          ([2, 8, 16, 17].contains (o / 0x100000) = true ∨ s.regReset o = true → err 2 []) ∧
          ([2, 8, 16, 17].contains (o / 0x100000) = false → s.regReset o = false →
            (q.kind ≠ .wrp → ∃ t, exec (.slipRequest v) s = .next t ∧ (t.sl v).queue = qs ∧
              t.out = s.out ++ [⟨.osp, [4, v + 2, q.tag, q.caddr, 0], bytesOfLine (lineOfBytes (s.regBytes o 128))⟩] ∧
              t = { s with fab := t.fab, slips := t.slips, out := t.out }) ∧
            (q.kind = .wrp → oneWord q.mask = none → err 2 []) ∧
            (∀ a n, q.kind = .wrp → oneWord q.mask = some (a, n) →
              (pfOnly (o + a) = false → ∃ u : State, exec (.slipRequest v) s =
                  .next ((u.regNow ⟨blockOfReg o, o + a, n, leAt (bytesOfLine q.data) a n, 64 + v, q.tag⟩).ospGnt v q.qc q.tag q.caddr) ∧
                (u.sl v).queue = qs ∧ u = { s with slips := u.slips }) ∧
              (pfOnly (o + a) = true → err 2 [])))) ∧
        (q.err = none → s.placeOf q.pa ≠ .regs → s.placeOf q.pa ≠ .absent → s.placeOf q.pa ≠ .slip v →
          (q.kind.caches = true → s.mayCache (64 + v) = false → err 2 []) ∧
          ((q.kind.caches = true → s.mayCache (64 + v) = true) →
            ∃ u : State, exec (.slipRequest v) s = .next (u.reqFrom q.kind.caches
                ⟨q.kind, lineOf q.pa, 64 + v, q.tag, q.mask, q.data, q.alloc, q.credit, q.qc, q.ten, 0, false⟩) ∧ (u.sl v).queue = qs ∧
              u = { s with slips := u.slips })))) ∧
    (s.stalling = true → exec (.slipRequest v) s = .next s) ∧
    (s.slState v ≠ 2 → exec (.slipRequest v) s = .next s)

/-- O47: In a stack that trains or is in service: STACK_TEMP_READ below the trip point stores the temperature and
clears the count of unanswered reads, at the trip point, or the third unanswered read, it takes the stack out; an
unanswered read before that counts. In a stack in service: CHANNEL_FAILING of a serving channel makes it FAILING: one
that answers is copied to the lowest spare, waits while a copy runs, or is noted as lost at I2 where no spare is free;
one that does not is remapped to the lowest spare at I2 without a copy, or noted as lost; a free spare that fails is
FAILED. STACK_TAKEN_OUT leaves it LOST in reset. SPARE_COPY_DONE notes the takeover for I2, and the next channel that
waits is copied. LRS_RESET of a LOST stack that passes its checks: in service, out of reset; of one that does not:
still LOST, with the check shown. LRS_SPARE_CH and LRS_RET_CH wait in the shadow. A row repaired waits for I2; one
that is not, or for which its bank has no spare row left, is fenced. A failed way waits for I2 and takes no line until
then; one that holds no line changes nothing else of the caches. A patrol pass changes no byte; a line of a vault that
it finds uncorrectable is invalid, and TILE_ERR holds a first error. Where a command's own condition does not hold and
the spec names no other effect, that nothing changes is the model's choice (log entry 5). (R181, R189, R375, R382,
R384, R385, R386, R388, R389, R391, 14_lararis_ports, 06_memory_hierarchy) -/
def Obligations.StacksChannelsAndRows : Prop :=
  ∀ (s : State) (p ch temp vault chan bank row slice way unit mism : Nat) (pass silent : Bool) (ces ues bad lines : List Nat),
    let st := s.rf (R.lrsStatus p) F.lrsStatus_STATE
    (p < 8 → st = 1 ∨ st = 2 →
      (temp < s.trip p → ∃ t, exec (.stackTempRead p temp true) s = .next t ∧ t.rf (R.lrsStatus p) F.lrsStatus_TEMP = temp % 256 ∧
        (t.lp p).unread = 0 ∧ (t.lp p).regimeDue.isSome = true ∧ t = { s with regs := t.regs, shadow := t.shadow, lrs := t.lrs }) ∧
      (s.trip p ≤ temp → ∃ t, exec (.stackTempRead p temp true) s = .next t ∧ t.rf (R.lrsStatus p) F.lrsStatus_STATE = 3 ∧ sameStores s t) ∧
      (2 ≤ (s.lp p).unread → ∃ t, exec (.stackTempRead p temp false) s = .next t ∧ t.rf (R.lrsStatus p) F.lrsStatus_STATE = 3 ∧ sameStores s t) ∧
      ((s.lp p).unread < 2 → ∃ t, exec (.stackTempRead p temp false) s = .next t ∧ (t.lp p).unread = (s.lp p).unread + 1 ∧
        t = { s with lrs := t.lrs })) ∧
    (p < 8 → st = 2 →
      (ch < 132 → s.chSt p ch = 0 →
        (∃ t, exec (.channelFailing p ch silent) s = .next t ∧ t.chSt p ch = 3 ∧ sameStores s t ∧
          (silent = false → (s.lp p).copy.isSome = true → ch ∈ (t.lp p).queue ∧ (t.lp p).copy = (s.lp p).copy) ∧
          (∀ x, s.freeCh p = some x → (silent = true ∨ (s.lp p).copy = none) → t.chSt p x = 2 ∧
            (silent = false → (t.lp p).copy = some (ch, x)) ∧ (silent = true → (t.lp p).takeDue = (s.lp p).takeDue ++ [(ch, x, false)])) ∧
          (s.freeCh p = none → (silent = true ∨ (s.lp p).copy = none) → ch ∈ (t.lp p).lostDue))) ∧
      (ch < 132 → s.chSt p ch = 1 → ∃ t, exec (.channelFailing p ch silent) s = .next t ∧ t.chSt p ch = 4 ∧ t.lrs = s.lrs ∧ sameStores s t) ∧
      (∃ t, exec (.stackTakenOut p) s = .next t ∧ t.rf (R.lrsStatus p) F.lrsStatus_STATE = 3 ∧ bitOf t.pins.lrsRst p = true ∧
        (t.lp p).goneDue = true ∧ sameStores s t)) ∧
    (st ≠ 1 → st ≠ 2 → ∀ answered, exec (.stackTempRead p temp answered) s = .next s) ∧
    (st ≠ 2 → exec (.channelFailing p ch silent) s = .next s ∧ exec (.stackTakenOut p) s = .next s) ∧
    (∀ c x, (s.lp p).copy = some (c, x) → ∃ u : State, exec (.spareCopyDone p bad) s = .next (u.copyNext p) ∧
      (u.lp p).takeDue = (s.lp p).takeDue ++ [(c, x, true)] ∧ (u.lp p).queue = (s.lp p).queue ∧ sameStores s u ∧
      ((s.lp p).queue = [] → ((u.copyNext p).lp p).copy = none) ∧ (bad = [] → onlyRegs [R.lrsCnt p] s u ∧ u.lmeta = s.lmeta)) ∧
    ((s.lp p).copy = none → exec (.spareCopyDone p bad) s = .next s) ∧
    (p < 8 → st = 3 →
      (s.stackCheck s.mf p mism = 0 → ∃ t, exec (.lrsReset p mism) s = .next t ∧ t.rf (R.lrsStatus p) F.lrsStatus_STATE = 2 ∧
        bitOf t.pins.lrsRst p = false ∧ (t.lp p).backDue = true ∧ sameStores s t) ∧
      (s.stackCheck s.mf p mism ≠ 0 → ∃ t, exec (.lrsReset p mism) s = .next t ∧ t.rf (R.lrsStatus p) F.lrsStatus_STATE = 3 ∧
        t.rf (R.lrsStatus p) F.lrsStatus_MISMATCH = s.stackCheck s.mf p mism % 2 ^ F.lrsStatus_MISMATCH.w ∧ sameButErrors s t)) ∧
    (st ≠ 3 → exec (.lrsReset p mism) s = .next s) ∧
    (p < 8 → ∃ t, exec (.lrsSpareCh p ch) s = .next t ∧ fget (t.shadowOf (R.lrsCtl p)) F.lrsCtl_SPARE_CH = ch % 2 ^ F.lrsCtl_SPARE_CH.w ∧
      t = { s with shadow := t.shadow }) ∧
    (p < 8 → ∃ t, exec (.lrsRetCh p ch pass) s = .next t ∧ fget (t.shadowOf (R.lrsCtl p)) F.lrsCtl_RET_CH = ch % 2 ^ F.lrsCtl_RET_CH.w ∧
      (t.lp p).retPass = some pass ∧ t = { s with shadow := t.shadow, lrs := t.lrs }) ∧
    (let x := (vault, chan, bank, row)
     vault < 64 → chan < 16 → bank < 16 → row < 960 →
      ((s.heap.rowDue.contains x || s.rowSpare vault chan bank) = true →
        ∃ t, exec (.rowRepairDone vault chan bank row true) s = .next t ∧ t.heap.rowDue.contains x = true ∧ t = { s with heap := t.heap }) ∧
      (∀ found, (found = false ∨ (s.heap.rowDue.contains x || s.rowSpare vault chan bank) = false) → s.heap.fenced.contains x = false →
        ∃ t, exec (.rowRepairDone vault chan bank row found) s = .next t ∧
          t.heap.fenced.contains x = true ∧ t.rf (R.tileVrepair vault) F.tileVrepair_FENCED =
            satAdd (s.rf (R.tileVrepair vault) F.tileVrepair_FENCED) 1 (2 ^ F.tileVrepair_FENCED.w - 1) ∧ sameStores s t)) ∧
    (slice < 64 → way < 24 → ∃ t, exec (.llcWayFail slice way lines bad) s = .next t ∧ (slice, way) ∈ t.heap.wayDue ∧
      t.heap.waysOff.contains (slice, way) = true ∧ t.holds = s.holds ∧ t.time = s.time ∧
      (s.linesIn slice way = [] → bad = [] → t.heap.wayDue = s.heap.wayDue ++ [(slice, way)] ∧ t.coh = s.coh ∧ sameStores s t)) ∧
    (64 ≤ slice ∨ 24 ≤ way → exec (.llcWayFail slice way lines bad) s = .next s) ∧
    (∃ t, exec (.patrolScrub unit ces ues) s = .next t ∧ sameStores s t ∧ (ces = [] → ues = [] → t.regs = s.regs ∧ t.lmeta = s.lmeta)) ∧
    (∀ l m, s.placeOf (l * 128) = .vault → (s.vaultOf (l * 128)).1 = vault → vault < 64 → mget s.lmeta l = some m →
      ∃ t, exec (.patrolScrub vault [] [l]) s = .next t ∧ mget t.lmeta l = some { m with valid := false } ∧
        t.rf (R.tileErr vault) F.tileErr_VALID = 1 ∧ sameStores s t)

/-- O48: TE_CLR of a TE, TILE_CLR of a tile, COH_CLR, OCT_CLR, SLIP_CLR of a slip, LRS_CLR of a port, FORD_CLR,
PCI_CLR, Q_CLR, PWR_CLR and TWIN_CLR: each named count reads 0, every register that is not one of those cleared keeps
its value, and nothing but registers differs. ERR_CAPTURE_CLEAR of an error capture register: its VALID, cause and
count (all below bit 32) read 0, the bits from 32 up stay, and no other register changes; at an offset that is no
register nothing changes. Where a command's own condition does not hold and the spec names no other effect, that
nothing changes is the model's choice (log entry 5). (R100, R106, R108, R206, R276, R514, 06_memory_hierarchy,
09_coherence, 10_octel_fabric, 14_lararis_ports, 15_host_endpoint) -/
def Obligations.CountersAndCapturesAreCleared : Prop :=
  ∀ (s : State) (i off : Nat),
    (i < 256 → ∃ t, exec (.teClr i) s = .next t ∧ sameButRegs s t ∧
      (∀ k ∈ [R.teFlags i, R.teCvtCnt i, R.teNumCnt i, R.tePerfBusy i, R.tePerfStall i, R.tePerfWs i], t.rv k = 0) ∧
      onlyRegs [R.teFlags i, R.teCvtCnt i, R.teNumCnt i, R.tePerfBusy i, R.tePerfStall i, R.tePerfWs i] s t) ∧
    (i < 64 → ∃ t, exec (.tileClr i) s = .next t ∧ sameButRegs s t ∧
      (∀ k ∈ [R.tilePfCnt i, R.tileSpfCnt i, R.tilePerfLlc i], t.rv k = 0) ∧ onlyRegs [R.tilePfCnt i, R.tileSpfCnt i, R.tilePerfLlc i] s t) ∧
    (∃ t, exec .cohClr s = .next t ∧ sameButRegs s t ∧
      (∀ h, h < 64 → t.rf (R.cohSlice h) F.cohSlice_TRK_MAX = 0 ∧ t.rf (R.cohSlice h) F.cohSlice_CQ_MAX = 0 ∧ t.rv (R.cohPerf h) = 0) ∧
      onlyRegs ((List.range 64).flatMap (fun h => [R.cohSlice h, R.cohPerf h])) s t) ∧
    (∃ t, exec .octClr s = .next t ∧ sameButRegs s t ∧ (∀ r, r < 83 → t.rv (R.octLinkCnt r) = 0) ∧ (∀ p, p < 75 → t.rv (R.octTollCnt p) = 0) ∧
      (∀ d, d < 529 → ¬ (d < 512 ∧ d % 8 = 7) → t.rf (R.octPwr d) F.octPwr_WAKES = 0 ∧ t.domSt d = s.domSt d) ∧
      onlyRegs ((List.range 83).map R.octLinkCnt ++ (List.range 75).map R.octTollCnt ++ (List.range 529).map R.octPwr) s t) ∧
    (i < 8 → ∃ t, exec (.slipClr i) s = .next t ∧ sameButRegs s t ∧ t.rv (R.slipCnt i) = 0 ∧ onlyRegs [R.slipCnt i] s t) ∧
    (i < 8 → ∃ t, exec (.lrsClr i) s = .next t ∧ sameButRegs s t ∧ t.rv (R.lrsCnt i) = 0 ∧ t.rv (R.lrsPerf i) = 0 ∧
      (∀ c, c < 132 → t.rf (R.lrsCh i c) F.lrsCh_CE = 0 ∧ t.chSt i c = s.chSt i c) ∧
      onlyRegs ([R.lrsCnt i, R.lrsPerf i] ++ (List.range 132).map (R.lrsCh i)) s t) ∧
    (∃ t, exec .fordClr s = .next t ∧ sameButRegs s t ∧ (∀ d, d < 18 → t.rv (R.fordLost d) = 0) ∧ onlyRegs ((List.range 18).map R.fordLost) s t) ∧
    (∃ t, exec .pciClr s = .next t ∧ sameButRegs s t ∧ t.rv R.pciCnt = 0 ∧ t.rv R.pciCnt2 = 0 ∧ onlyRegs [R.pciCnt, R.pciCnt2] s t) ∧
    (∃ t, exec .qClr s = .next t ∧ sameButRegs s t ∧ t.rv R.qCnt = 0 ∧ onlyRegs [R.qCnt] s t) ∧
    (∃ t, exec .pwrClr s = .next t ∧ sameButRegs s t ∧ t.rf R.pwrKa F.pwrKa_SWITCHES = 0 ∧ t.rf R.pwrSurvey F.pwrSurvey_DONE = 0 ∧
      t.rf R.pwrSurvey F.pwrSurvey_DEFER = 0 ∧ onlyRegs [R.pwrKa, R.pwrSurvey] s t) ∧
    (∃ t, exec .twinClr s = .next t ∧ sameButRegs s t ∧ t.rv R.twinCnt = 0 ∧ onlyRegs [R.twinCnt] s t) ∧
    (∀ d l, regOf off = some (d, l) → capCleared d.name = some ⟨0, 32⟩ → ∃ t, exec (.errCaptureClear off) s = .next t ∧ sameButRegs s t ∧
      t.rf off ⟨0, 32⟩ = 0 ∧ t.rf off ⟨32, 32⟩ = s.rf off ⟨32, 32⟩ ∧ onlyRegs [off] s t) ∧
    (regOf off = none → exec (.errCaptureClear off) s = .next s)

/-- O49: STAGE in EMPTY or STAGED with the life cycle open discards what was staged; with a length in range the
manifest's read is on its way in LOADING, or over in CHECKING; with one out of range the state is CHECKING and nothing
is read. ABANDON of a STAGED one: EMPTY with RESULT 0x15. SWITCH of a STAGED one: SWITCHING, with the crossing at AT
or the next sailing, the later. MANIFEST_CHECK_DONE in LOADING or CHECKING: a length out of range gives EMPTY with
RESULT 2, a read that failed, or is gone, EMPTY with RESULT 0x14; while the read is under way it waits; once it is
done the check's outcome is shown: EMPTY, or STAGED with the manifest, which where bring-up waits for one becomes the
candidate and in HELD restarts bring-up at TRAIN; in another state nothing changes. FW_LOAD by running firmware with
no load or handoff under way, and RCV_LOAD while the recovery mailbox is open, start the read of the image; else they
change nothing. ACTIVATE outside confidential mode with an image WRITTEN notes the handoff; WARM_HANDOFF when it is
due at C0: the boot ROM runs. HANDOFF_TIMEOUT and MC_WDOG restart the controller from the ROM. FIRMWARE_RESUME:
firmware runs again. HEARTBEAT_TOGGLE inverts the output where the heartbeat runs. Where a command's own condition
does not hold and the spec names no other effect, that nothing changes is the model's choice (log entry 5). (R461,
R462, R463, R476, R491, R529, R530, R528, 17_manifest, 18_bring_up, 20_errors_and_twin) -/
def Obligations.ManifestsAndFirmwareAreStaged : Prop :=
  ∀ (s : State),
    ((s.manState = 0 ∨ s.manState = 3) → s.lcs ≠ 7 → s.lcs ≠ 4 →
      ∃ t, exec .stage s = .next t ∧ t.man.staged = none ∧ t.man.crossAt = none ∧ t.man.inForce = s.man.inForce ∧ sameStores s t ∧
        (s.manLenOk = true → t.manState = (if t.manRead.any (fun r => r.st ≠ 0) then 2 else 1) ∧
          (s.fed 0 = false → t.manRead.isSome = true)) ∧
        (s.manLenOk = false → t.manState = 2 ∧ t = { s with regs := t.regs, shadow := t.shadow, man := t.man })) ∧
    ((s.manState ≠ 0 ∧ s.manState ≠ 3 ∨ s.lcs = 7 ∨ s.lcs = 4) → exec .stage s = .next s) ∧
    (s.manState = 3 →
      (∃ t, exec .abandon s = .next t ∧ t.manState = 0 ∧ t.man.staged = none ∧ t.rf R.manStatus F.manStatus_RESULT = 0x15 ∧
        t = { s with regs := t.regs, shadow := t.shadow, man := t.man }) ∧
      (∃ t, exec .switch s = .next t ∧ t.manState = 4 ∧ t.man.staged = s.man.staged ∧
        t.man.crossAt = some (max (s.rf R.manSwitch F.manSwitch_AT) (s.sail + 1)) ∧ onlyRegs [R.manStatus] s t ∧
        t = { s with regs := t.regs, shadow := t.shadow, man := t.man })) ∧
    (s.manState ≠ 3 → exec .abandon s = .next s ∧ exec .switch s = .next s) ∧
    ((s.manState = 1 ∨ s.manState = 2) →
      (s.manRead = none → ∃ t, exec .manifestCheckDone s = .next t ∧ t.manState = 0 ∧ t.man.staged = none ∧
        t.rf R.manStatus F.manStatus_RESULT = (if s.manState = 1 then 0x14 else 2) ∧
        t = { s with regs := t.regs, shadow := t.shadow, man := t.man }) ∧
      (∀ r, s.manRead = some r →
        (r.st = 0 → exec .manifestCheckDone s = .next s) ∧
        (r.st = 1 → let c := (s.remSet (s.heap.remReads.erase r)).checkMan r.data
          ∃ t, exec .manifestCheckDone s = .next t ∧ t.man.staged = c.2 ∧
            t.rf R.manStatus F.manStatus_RESULT = (c.1.getD (1, 0, 0)).1 % 2 ^ F.manStatus_RESULT.w ∧
            t.heap = { s.heap with remReads := s.heap.remReads.erase r } ∧
            (c.2 = none → t.manState = 0 ∧ t.brg = s.brg) ∧
            (c.2.isSome = true → s.inStep 4 = true → s.brgWait = 1 → t.manState = 4 ∧ t.brgWait = 0 ∧ t.brgStep = 4) ∧
            (c.2.isSome = true → s.brgState = 2 → t.manState = 4 ∧ t.brgState = 0 ∧ t.brgStep = 5 ∧ t.brg.restarted = true) ∧
            (c.2.isSome = true → s.brgState ≠ 2 → ¬ (s.inStep 4 = true ∧ s.brgWait = 1) → t.manState = 3 ∧ t.brg = s.brg) ∧
            t = { s with regs := t.regs, shadow := t.shadow, man := t.man, heap := t.heap, brg := t.brg }) ∧
        (2 ≤ r.st → ∃ t, exec .manifestCheckDone s = .next t ∧ t.manState = 0 ∧ t.man.staged = none ∧
          t.rf R.manStatus F.manStatus_RESULT = 0x14 ∧ t.heap = { s.heap with remReads := s.heap.remReads.erase r } ∧
          t = { s with regs := t.regs, shadow := t.shadow, man := t.man, heap := t.heap }))) ∧
    (s.manState ≠ 1 → s.manState ≠ 2 → exec .manifestCheckDone s = .next s) ∧
    (let st := s.rf R.glbFwStatus F.glbFwStatus_STATE;
      (s.brg.rom = false → st ≠ 1 → st ≠ 2 → st ≠ 4 →
        exec .fwLoad s = .next (((s.fwState 1).remIssue fwWho (hostPa (s.rf R.glbFwSrc F.glbFwSrc_ADDR * 64))
          (s.rf R.glbFwLen F.glbFwLen_LEN) 0).imagesDone)) ∧
      (s.brg.rom = true ∨ st = 1 ∨ st = 2 ∨ st = 4 → exec .fwLoad s = .next s)) ∧
    (s.brgWait = 2 → s.heap.remReads.any (fun r => r.who = rcvWho) = false →
      exec .rcvLoad s = .next ((s.remIssue rcvWho (hostPa (s.rf R.brgRcvSrc F.brgRcvSrc_ADDR * 64)) (s.rf R.brgRcvLen F.brgRcvLen_LEN)
        0).imagesDone)) ∧
    (s.brgWait ≠ 2 ∨ s.heap.remReads.any (fun r => r.who = rcvWho) = true → exec .rcvLoad s = .next s) ∧
    (s.conf = false → s.rf R.glbFwStatus F.glbFwStatus_STATE = 3 → ∃ t, exec .activate s = .next t ∧
      t.brg.handoff = some (max (s.rf R.glbFwAt F.glbFwAt_AT) (s.sail + 1)) ∧ t = { s with brg := { s.brg with handoff := t.brg.handoff } }) ∧
    (s.conf = false → s.rf R.glbFwStatus F.glbFwStatus_STATE ≠ 3 → exec .activate s = .next s) ∧
    (∀ n, s.time.stage = .boundary → s.brg.rom = false → s.brg.handoff = some n → n ≤ s.sail →
      ∃ t, exec .warmHandoff s = .next t ∧ t.brg.rom = true ∧ t.brg.handing = true ∧ t.brg.handoff = none ∧
        t.rf R.glbFwStatus F.glbFwStatus_STATE = 4 ∧ t.err.handling = none ∧ sameStores s t) ∧
    (s.time.stage ≠ .boundary ∨ s.brg.rom = true ∨ s.brg.handoff = none → exec .warmHandoff s = .next s) ∧
    (s.brg.rom = false → ∃ t, exec .mcWdog s = .next t ∧ t.brg.handing = false ∧
      (s.fwCheck s.flash.fw = 0 → t.brg.rom = true ∧ t.brg.wdog = true ∧ t.brgWait = 0) ∧ sameStores s t) ∧
    (s.brg.handing = true → ∃ t, exec .handoffTimeout s = .next t ∧ t.brg.handing = false ∧ sameStores s t) ∧
    (s.brg.rom = true → exec .mcWdog s = .next s) ∧ (s.brg.handing = false → exec .handoffTimeout s = .next s) ∧
    (s.brg.rom = true → (s.brg.handing || s.brg.wdog) = true → s.brgWait ≠ 2 →
      ∃ t, exec .firmwareResume s = .next t ∧ t.brg.rom = false ∧ t.brg.handing = false ∧ t.brg.wdog = false ∧ sameStores s t) ∧
    (s.brg.rom = false ∨ (s.brg.handing || s.brg.wdog) = false ∨ s.brgWait = 2 → exec .firmwareResume s = .next s) ∧
    (∃ t, exec .heartbeatToggle s = .next t ∧ t.pins.hb = (s.hbOn ^^ s.pins.hb) ∧ t = { s with pins := { s.pins with hb := t.pins.hb } })

/-- O50: In every state in confidential mode ACTIVATE answers a next state that differs from it in
SAL_EVENT.FW_BLOCKED alone, which is 1: no handoff is noted, no other register and no other field of SAL_EVENT
changes. (R563) -/
def Obligations.ActivateIsIgnoredInConfidentialMode : Prop :=
  ∀ s : State, s.conf = true →
    ∃ t, exec .activate s = .next t ∧ t.rf R.salEvent F.salEvent_FW_BLOCKED = 1 ∧ onlyRegs [R.salEvent] s t ∧
      (∀ f : Fld, f.lo + f.w ≤ F.salEvent_FW_BLOCKED.lo ∨ F.salEvent_FW_BLOCKED.lo + F.salEvent_FW_BLOCKED.w ≤ f.lo →
        t.rf R.salEvent f = s.rf R.salEvent f) ∧ sameButRegs s t

/-- O51: In every state in RUN, VDROOP answers a next state in which every partition the manifest in force defines has
its sailing voided, for a cause no greater than VDROOP's; one VOIDING report with that cause, for every partition, is
on its way; PWR_EVENT.VDROOP is 1, and PWR_ERR holds a first error or counts one more. (R506) -/
def Obligations.VdroopVoidsEveryPartition : Prop :=
  ∀ (s : State) (mv : Nat), s.time.stage = .run →
    ∃ t r, exec (.vdroop mv) s = .next t ∧ t.rf R.pwrEvent F.pwrEvent_VDROOP = 1 ∧
      (∀ p ∈ s.partRecs, (t.part p.part).void = minCause (s.part p.part).void 0x4A) ∧
      t.err.inbox = s.err.inbox ++ [r] ∧ r.cls = clsVoiding ∧ r.vcause = 0x4A ∧ r.part = none ∧ r.sail = s.sail ∧
      t.rf R.pwrErr F.pwrErr_VALID = 1 ∧
      (s.rf R.pwrErr F.pwrErr_VALID = 1 → t.rf R.pwrErr F.pwrErr_COUNT =
        satAdd (s.rf R.pwrErr F.pwrErr_COUNT) 1 (2 ^ F.pwrErr_COUNT.w - 1)) ∧
      onlyRegs [R.pwrStatus, R.pwrEvent, R.pwrErr] s t ∧ sameStores s t

/-- O52: PWR_LEAN_END waits in the shadow: its bits join those waiting and no register in force changes.
KA_SUPPLY_UNHEALTHY while A supplies, and KA_SUPPLY_RETURN while B does, change the supply and count it; both show the
voltages. VDROOP outside RUN shows the voltage alone. MAIN_RAIL_FAULT stops the hub. LOGIC_TEMP_CHANGE below 110
degrees shows the temperature and the regime it leads to from the one due, with hysteresis, which falls due at I0;
from 110 up it stops the hub, and trips unless FATAL stands already. VAULT_REGIME_CHANGE below 100 degrees shows the
temperature and notes the regime for I0; from 100 up it stops the hub, and trips likewise. (R190, R496, R503, R506,
R507, R592, R595, 19_power_energy_ageing, 06_memory_hierarchy) -/
def Obligations.PowerAndTemperatureAreFollowed : Prop :=
  ∀ (s : State) (mask a b mv rail v temp : Nat),
    (∃ t, exec (.pwrLeanEnd mask) s = .next t ∧ t = { s with shadow := t.shadow } ∧
      (∀ i, i < 64 → bitOf (t.shadowOf R.pwrLeanEnd).toNat i = (bitOf (s.shadowOf R.pwrLeanEnd).toNat i || bitOf mask i)) ∧
      (∀ k, k ≠ R.pwrLeanEnd → mget t.shadow k = mget s.shadow k)) ∧
    (∀ x ∈ ([(.kaSupplyUnhealthy a b, 0, 1), (.kaSupplyReturn a b, 1, 0)] : List (Instr × Nat × Nat)),
      ∃ t, exec x.1 s = .next t ∧ t.rf R.pwrKa F.pwrKa_KA_A_MV = a % 2 ^ F.pwrKa_KA_A_MV.w ∧ t.rf R.pwrKa F.pwrKa_KA_B_MV = b % 2 ^ F.pwrKa_KA_B_MV.w ∧
        (s.rf R.pwrStatus F.pwrStatus_KA_SRC = x.2.1 → t.rf R.pwrStatus F.pwrStatus_KA_SRC = x.2.2 ∧
          t.rf R.pwrKa F.pwrKa_SWITCHES = satAdd (s.rf R.pwrKa F.pwrKa_SWITCHES) 1 (2 ^ F.pwrKa_SWITCHES.w - 1)) ∧
        (s.rf R.pwrStatus F.pwrStatus_KA_SRC ≠ x.2.1 → onlyRegs [R.pwrKa] s t) ∧ sameButErrors s t) ∧
    (s.time.stage ≠ .run → ∃ t, exec (.vdroop mv) s = .next t ∧ t.rf R.pwrStatus F.pwrStatus_VENG_MV = mv % 2 ^ F.pwrStatus_VENG_MV.w ∧
      onlyRegs [R.pwrStatus] s t ∧ sameButRegs s t) ∧
    (∃ t, exec (.mainRailFault rail) s = .next t ∧ stopped t ∧ sameStores s t) ∧
    (temp < 110 → ∃ t, exec (.logicTempChange temp) s = .next t ∧ t.pwr.thermDue = thermRegime s.pwr.thermDue temp ∧
      t.rf R.pwrStatus F.pwrStatus_LOGIC_T = temp ∧ t.rf R.pwrStatus F.pwrStatus_THERM = s.rf R.pwrStatus F.pwrStatus_THERM ∧
      t = { s with regs := t.regs, shadow := t.shadow, err := t.err, pwr := t.pwr }) ∧
    (110 ≤ temp → ∃ t, exec (.logicTempChange temp) s = .next t ∧ stopped t ∧ t.pins.therm = (s.pins.therm || !s.err.fatal) ∧ sameStores s t) ∧
    (v < 64 → temp < 100 → ∃ t, exec (.vaultRegimeChange v temp) s = .next t ∧ t.rf (R.tileStatus v) F.tileStatus_VTEMP = temp ∧
      (mget t.heap.regimeDue v).isSome = true ∧ (∀ u, u ≠ v → mget t.heap.regimeDue u = mget s.heap.regimeDue u) ∧
      t = { s with regs := t.regs, shadow := t.shadow, err := t.err, heap := t.heap }) ∧
    (v < 64 → 100 ≤ temp → ∃ t, exec (.vaultRegimeChange v temp) s = .next t ∧ stopped t ∧
      t.pins.therm = (s.pins.therm || !s.err.fatal) ∧ sameStores s t)

/-- O53: HUB_RST_N and KA_SUPPLY_LOSS: the reset state, but for the queue, what has been sent, the fuses and flash,
and the life-cycle registers, which show the fuses. KEEPALIVE_POWER_GOOD, once: step 1 with the generator healthy.
FUSES in step 1: step 2 and the decoded state; LOCKED or SCRAPPED stops there. FIRMWARE in step 2 with an image that
passes: step 3 and the firmware runs, but after the watchdog; that fails: the recovery mailbox. CANDIDATE in step 3
under running firmware: step 4, with the saved manifest as candidate where it passes; without one, or after HOLD_NEXT,
waiting for one. TRAIN of a candidate in step 4, or once more after HELD, with good rails: step 5 and the time base
runs; with a bad rail the hub is stopped. MEMTEST in step 5: step 6, the reason for a full start shown, every line
invalid. DISCOVER in step 6: step 7, waiting where the twin must still come up. COMPARE in step 7 waits for it too;
one that finds nothing: step 9; else HELD. READY at I2 of a later sailing: step 10, READY, the manifest in force, or
HELD where it does not fit. TWIN_WINDOW_EXPIRY in bring-up without the link: HELD. FULL_NEXT is recorded.
BRG_CTL_RETRY in HELD with a manifest staged: TRAIN again. Each from another step changes nothing. Where a command's
own condition does not hold and the spec names no other effect, that nothing changes is the model's choice (log entry
5). (R471, R472, R473, R475, R477, R480, R481, R488, R489, R491, R548, R577) -/
def Obligations.BringUpTakesItsStepsInOrder : Prop :=
  ∀ (s : State) (ms peer : Nat) (mism : List Nat),
    (∀ c ∈ [Instr.hubRstN, .kaSupplyLoss], ∃ t, exec c s = .next t ∧ t.fuses = s.fuses ∧
      t = { State.reset with
        pending := s.pending, fresh := s.fresh, out := s.out, fuses := s.fuses, flash := t.flash, regs := t.regs, shadow := t.shadow } ∧
      t.lcs = lcDecode s.fuses.lc % 8 ∧ t.rf R.lcsStatus F.lcsStatus_NEXT = lcDecode s.fuses.lc % 8 ∧
      t.rv (R.lcsField 0) = BitVec.ofNat 64 s.fuses.lc ∧ t.rv (R.lcsField 1) = BitVec.ofNat 64 (s.fuses.lc / 2 ^ 64) ∧
      t.rf R.lcsDbg F.lcsDbg_OPEN = b2n (decide (t.lcs = 0 ∨ t.lcs = 3)) ∧
      onlyRegs [R.lcsStatus, R.lcsField 0, R.lcsField 1, R.lcsDbg] State.reset t ∧
      (s.err.fatal = false → t.flash = s.flash)) ∧
    (s.reached 1 = false → ∃ t, exec .keepalivePowerGood s = .next t ∧ t.brgStep = 1 ∧ t.drbgOk = true ∧ t.reached 1 = true ∧ sameButRegs s t) ∧
    (s.reached 1 = true → exec .keepalivePowerGood s = .next s) ∧
    (s.inStep 1 = true → s.reached 1 = true → ∃ t, exec (.fuses ms) s = .next t ∧ t.brgStep = 2 ∧ t.lcs = lcDecode s.fuses.lc % 8 ∧
      t.brgState = (if lcDecode s.fuses.lc = 4 ∨ lcDecode s.fuses.lc = 7 then 3 else 0) ∧ sameButRegs s t) ∧
    (s.inStep 1 = false ∨ s.reached 1 = false → exec (.fuses ms) s = .next s) ∧
    (s.inStep 2 = true →
      ∃ t, exec (.firmware ms) s = .next t ∧ t.brgStep = 3 ∧ sameStores s t ∧
        (s.fwCheck s.flash.fw = 0 → t.brgWait = 0 ∧ (s.brg.wdog = false → t.brg.rom = false)) ∧
        (s.fwCheck s.flash.fw ≠ 0 → t.brgWait = 2 ∧ sameButRegs s t)) ∧
    (s.inStep 2 = false → exec (.firmware ms) s = .next s) ∧
    (s.inStep 3 = true → s.brg.rom = false →
      ∃ t, exec (.candidate ms) s = .next t ∧ t.brgStep = 4 ∧ sameStores s t ∧
        (s.rf R.lcsCtl F.lcsCtl_HOLD_NEXT = 1 ∨ s.flash.saved.inForce = none →
          t.brgWait = 1 ∧ t.manState = 0 ∧ t.man.staged = none) ∧
        (∀ r, s.rf R.lcsCtl F.lcsCtl_HOLD_NEXT ≠ 1 → s.flash.saved.inForce = some r →
          t.man.staged = ((s.beginStep 4 ms).checkMan r.bytes).2 ∧
          t.manState = (if t.man.staged.isSome then 4 else 0) ∧ t.brgWait = (if t.man.staged.isSome then 0 else 1))) ∧
    ((s.inStep 3 = false ∨ s.brg.rom = true) → exec (.candidate ms) s = .next s) ∧
    (∀ m, s.man.staged = some m → s.manState = 4 → (s.inStep 4 = true ∨ s.inStep 5 = true ∧ s.brg.restarted = true) →
      (∃ t, exec (.train ms none) s = .next t ∧ t.brgStep = 5 ∧ t.rf R.sailStatus F.sailStatus_TB_RUN = 1 ∧
        (s.rf R.sailStatus F.sailStatus_TB_RUN = 0 → t.sail = 0 ∧ t.time.stage = .boundary ∧ t.time.tclk = 0) ∧
        t.brg.window = m.twinDeclared ∧ t.mem = s.mem ∧ t.holds = s.holds ∧ t.fuses = s.fuses) ∧
      (∀ r, ∃ t, exec (.train ms (some r)) s = .next t ∧ stopped t ∧ sameStores s t)) ∧
    (s.man.staged = none ∨ s.manState ≠ 4 ∨ s.inStep 4 = false ∧ (s.inStep 5 = false ∨ s.brg.restarted = false) →
      ∀ r, exec (.train ms r) s = .next s) ∧
    (∀ rows banks ways tes chans, s.inStep 5 = true → s.manState = 4 → s.rf R.sailStatus F.sailStatus_TB_RUN = 1 →
      ∃ t, exec (.memtest ms rows banks ways tes chans) s = .next t ∧ t.brgStep = 6 ∧ t.rf R.brgStart F.brgStart_REASON = s.startReason ∧
        t.lmeta = [] ∧ t.holds = s.holds ∧ t.fuses = s.fuses ∧ t.time = s.time) ∧
    (s.inStep 5 = false ∨ s.manState ≠ 4 ∨ s.rf R.sailStatus F.sailStatus_TB_RUN = 0 →
      ∀ rows banks ways tes chans, exec (.memtest ms rows banks ways tes chans) s = .next s) ∧
    (∀ m, s.inStep 6 = true → s.man.staged = some m →
      ∃ t, exec (.discover ms mism peer) s = .next t ∧ t.brgStep = 7 ∧ t.brg.discovered = true ∧ t.brg.peer = peer ∧
        t.brgWait = (if s.twinAwaited m then 3 else s.brgWait) ∧ sameStores s t ∧
        (s.rf R.twinStatus F.twinStatus_LINK ≠ 2 → t = { s with regs := t.regs, shadow := t.shadow, err := t.err, brg := t.brg })) ∧
    (s.inStep 6 = false ∨ s.man.staged = none → exec (.discover ms mism peer) s = .next s) ∧
    (∀ m, s.inStep 7 = true → s.brg.discovered = true → s.man.staged = some m →
      (s.twinAwaited m = true → ∃ t, exec (.compare ms) s = .next t ∧ t.brgWait = 3 ∧ t.brgStep = 7 ∧ sameButRegs s t) ∧
      (s.twinAwaited m = false → (((s.beginStep 8 ms).waitFor 0).compareAll m).rv R.brgMism = 0 →
        ∃ t, exec (.compare ms) s = .next t ∧ t.brgStep = 9 ∧ t.brg.agreed = some s.sail ∧ sameStores s t) ∧
      (s.twinAwaited m = false → (((s.beginStep 8 ms).waitFor 0).compareAll m).rv R.brgMism ≠ 0 →
        ∃ t, exec (.compare ms) s = .next t ∧ t.brgState = 2 ∧ t.manState = 3 ∧ t.pins.slipRst = 255 ∧ t.pins.lrsRst = 255 ∧ sameStores s t)) ∧
    (s.inStep 7 = false ∨ s.brg.discovered = false ∨ s.man.staged = none → exec (.compare ms) s = .next s) ∧
    (∀ n m, s.brg.agreed = some n → s.man.staged = some m → s.inStep 9 = true → n < s.sail → s.time.stage = .i2 →
      (s.manStep18 m false = none → ∃ t, exec (.ready ms) s = .next t ∧ t.brgStep = 10 ∧ t.brgState = 1 ∧ t.man.inForce = some m ∧
        t.brg.agreed = none) ∧
      (s.manStep18 m false ≠ none → ∃ t, exec (.ready ms) s = .next t ∧ t.brgState = 2 ∧ t.manState = 3 ∧
        t.rf R.brgMism F.brgMism_OVERSUB = 1 ∧ t.brg.agreed = none ∧ sameStores s t)) ∧
    ((s.brg.agreed = none ∨ s.man.staged = none ∨ s.inStep 9 = false ∨ (∃ n, s.brg.agreed = some n ∧ s.sail ≤ n) ∨ s.time.stage ≠ .i2) →
      exec (.ready ms) s = .next s) ∧
    (s.brg.window = true →
      (s.brgState = 0 → s.rf R.twinStatus F.twinStatus_LINK ≠ 2 →
        ∃ t, exec .twinWindowExpiry s = .next t ∧ t.brgState = 2 ∧ t.rf R.brgMism F.brgMism_TWIN = 1 ∧ t.brg.window = false ∧ sameStores s t) ∧
      (s.brgState ≠ 0 ∨ s.rf R.twinStatus F.twinStatus_LINK = 2 →
        exec .twinWindowExpiry s = .next { s with brg := { s.brg with window := false } })) ∧
    (s.brg.window = false → exec .twinWindowExpiry s = .next s) ∧
    (∃ t, exec .fullNext s = .next t ∧ t.rf R.brgStart F.brgStart_FULL_PEND = 1 ∧ sameStores s t) ∧
    (s.brgState = 2 → s.manState = 3 → ∃ t, exec .brgCtlRetry s = .next t ∧ t.brgState = 0 ∧ t.brgStep = 5 ∧ t.manState = 4 ∧
      t.brg.restarted = true ∧ t.brg.agreed = none ∧ sameStores s t) ∧
    ((s.brgState ≠ 2 ∨ s.manState ≠ 3) → exec .brgCtlRetry s = .next s)

/-- O54: TWIN_LINK_UP: the link is UP and the hub's HELLO leaves. HELLO that fits: KEYX leaves; that breaks a
condition: its code is shown. KEYX after HELLO: keys agreed, and the hub of role 1 becomes SHADOW; the other becomes
PRIMARY and brings its partitions into step; one that took over or stepped down keeps its role. FERRY on a shadow: an
entry joins those received; END makes the ferry whole, last of those that wait, and acknowledges it. FERRY_RUN after
I1: the oldest whole ferry runs. ACK of a ferry that exists: nothing unacknowledged, the backlog shown, what diverged
DIVERGED, and nothing paired above a backlog of 16. COPY of a line: it is written at once where its place is ready and
its tokens are there, its partition COPYING; else both are asked for; a hub that stepped down becomes the shadow. MREQ
of lines that are ready, with tokens: the twin error for an absent line or memory of a locked tenant, else its data or
the write; without, its lines and its tokens are asked for. MRSP: the request that waits is answered.
TWIN_FRAME_ERROR: a replay request leaves. HB_IN_TOGGLE: the peer's heartbeat is present. TWIN_LINK_DOWN: the link is
down, without keys, and what waited for the twin fails; then the pair parts, or without the peer's heartbeat a shadow
takes over. BACKLOG_OVERFLOW: no ferry waits. Where a command's own condition does not hold and the spec names no
other effect, that nothing changes is the model's choice (log entry 5). The form of outward messages is the model's
choice (log entry 6). (R531, R532, R533, R535, R537, R538, R539, R545, 20_errors_and_twin) -/
def Obligations.TwinLinkCarriesHelloAndFerries : Prop :=
  ∀ (s : State) (digest role peer serial typ part key last backlog pa len tag : Nat) (auth : Bool) (data : List Byte) (overfl mism : List Nat),
    (s.twinLink ≠ 2 → s.mf.any (·.twinDeclared) = true → s.brgState ≠ 2 → ∀ tw, s.mf.bind (fun m => m.twin) = some tw →
      ∃ t, exec .twinLinkUp s = .next t ∧ t.twinLink = 2 ∧
        t.out = s.out ++ [⟨.twin, [3, tw.role, tw.peer, s.fuses.serial], leBytes 48 s.pairDigest⟩] ∧ sameStores s t) ∧
    (s.twinLink = 2 ∨ s.mf.any (·.twinDeclared) = false ∨ s.brgState = 2 → exec .twinLinkUp s = .next s) ∧
    (∀ tw, s.mf.bind (fun m => m.twin) = some tw → s.twinLink = 2 →
      (s.helloCode tw digest role peer serial auth = 0 → ∃ t, exec (.hello digest role peer serial auth) s = .next t ∧
        t.twin.hello = true ∧ t.rf R.twinStatus F.twinStatus_CODE = 0 ∧ t.out = s.out ++ [⟨.twin, [4], []⟩] ∧ onlyRegs [R.twinStatus] s t ∧
        sameStores s t) ∧
      (s.helloCode tw digest role peer serial auth ≠ 0 → ∃ t, exec (.hello digest role peer serial auth) s = .next t ∧
        t.twin.hello = false ∧ t.rf R.twinStatus F.twinStatus_CODE = s.helloCode tw digest role peer serial auth ∧ t.out = s.out ∧ sameStores s t) ∧
      (s.twin.hello = true → s.drbgOk = true →
        (s.twinRole ≠ 3 → s.twinRole ≠ 4 → tw.role = 1 → ∃ t, exec .keyx s = .next t ∧ t.twin.keyed = true ∧ t.twinRole = 2 ∧
          onlyRegs [R.twinStatus] s t ∧ t = { s with twin := t.twin, regs := t.regs, shadow := t.shadow }) ∧
        (s.twinRole ≠ 3 → s.twinRole ≠ 4 → tw.role = 0 → exec .keyx s = .next ((s.partRecs.map (·.part)).foldl (fun s p => s.resync p)
          ((s.setTwin { s.twin with keyed := true }).rset R.twinStatus F.twinStatus_ROLE 1))) ∧
        (s.twinRole = 3 ∨ s.twinRole = 4 → exec .keyx s = .next { s with twin := { s.twin with keyed := true } }))) ∧
    (s.twin.hello = false ∨ s.drbgOk = false ∨ s.twinLink ≠ 2 → exec .keyx s = .next s) ∧
    (s.twinLink ≠ 2 → exec (.hello digest role peer serial auth) s = .next s) ∧
    (s.twinRole = 2 → s.twinLink = 2 → s.twin.keyed = true →
      (typ ≠ 10 → ∃ t, exec (.ferry typ part key data) s = .next t ∧ t.twin.rx = s.twin.rx ++ [⟨typ, part, key, data⟩] ∧
        t.twin.backlog = s.twin.backlog ∧ t = { s with twin := t.twin }) ∧
      (s.twin.backlog.length < 17 → ∃ t, exec (.ferry 10 part key data) s = .next t ∧ t.twin.rx = [] ∧
        t.twin.backlog = s.twin.backlog ++ [⟨key, s.twin.rx⟩] ∧ t.rf R.twinFerry F.twinFerry_LAST = key % 2 ^ 64 ∧
        (∃ o, t.out = s.out ++ [o] ∧ o.kind = .twin ∧ o.args.take 2 = [6, key]) ∧ onlyRegs [R.twinFerry, R.twinStatus] s t ∧ sameStores s t) ∧
      (17 ≤ s.twin.backlog.length → exec (.ferry 10 part key data) s = .next s)) ∧
    (s.twinRole ≠ 2 ∨ s.twinLink ≠ 2 ∨ s.twin.keyed = false → exec (.ferry typ part key data) s = .next s) ∧
    (s.twinLink = 2 → s.twin.keyed = true → (s.twinRole = 2 ∨ s.twinRole = 4) → data.length = 128 → pa % 128 = 0 →
      let n := s.linesNew 73 [(pa, 128)]
      let ready := s.putReady [12, pa] 73 1 [(pa, 128)] && s.tollOk [12, pa] 73 n
      (ready = false → exec (.copy pa data) s = .next ((s.openWrites [12, pa] 73 1 0 [(pa, 128)]).payFor [12, pa] 73 n)) ∧
      (ready = true → s.twinRole = 2 → (∀ p, s.partOf (s.ownerOf pa) = some p → s.twinPart p = 1) →
        exec (.copy pa data) s = .next ((s.chargeFor [12, pa] 73 n).moverWrite [12, pa] 73 1 pa data).1) ∧
      (ready = true → ∃ u : State, exec (.copy pa data) s =
          .next ((u.chargeFor [12, pa] 73 (u.linesNew 73 [(pa, 128)])).moverWrite [12, pa] 73 1 pa data).1 ∧ u.twinRole = 2 ∧
        (∀ p, p < 64 → s.partOf (s.ownerOf pa) = some p → u.twinPart p = 1) ∧ (s.twinRole = 4 → ∀ p, p < 64 → u.twinPart p ≠ 2) ∧
        u = { s with regs := u.regs, shadow := u.shadow, twin := u.twin, rings := u.rings, copies := u.copies })) ∧
    (s.time.stage = .i1 → (s.twinRole = 2 ∨ s.twinRole = 3) → s.twin.running = none → exec .ferryRun s = .next s.ferryRun ∧
      (s.twin.backlog = [] → exec .ferryRun s = .next s) ∧
      (∀ f fs, s.twin.backlog = f :: fs → f.entries = [] → ∃ t, exec .ferryRun s = .next t ∧ t.twin.running = some f ∧
        t.twin.backlog = fs ∧ onlyRegs [R.twinStatus] s t ∧ sameStores s t)) ∧
    ((s.time.stage ≠ .i1 ∨ s.twinRole ≠ 2 ∧ s.twinRole ≠ 3 ∨ s.twin.running ≠ none) → exec .ferryRun s = .next s) ∧
    (s.serves = true → s.twinLink = 2 → s.twin.keyed = true → last ≤ s.rf R.twinFerry F.twinFerry_LAST →
      ∃ t, exec (.ack last backlog overfl mism) s = .next t ∧ t.twin.unacked = 0 ∧ sameStores s t ∧
        (backlog ≤ 16 → t.rf R.twinStatus F.twinStatus_BACKLOG = backlog ∧ ∀ p ∈ mism, p < 64 → s.twinPart p = 2 → t.twinPart p = 3) ∧
        (16 < backlog → t.twin.backlog = [] ∧ t.partsIn 1 2 = []) ∧
        (backlog ≤ 16 → overfl = [] → mism = [] →
          onlyRegs [R.twinStatus] s t ∧ t = { s with twin := t.twin, regs := t.regs, shadow := t.shadow })) ∧
    (s.serves = false ∨ s.twinLink ≠ 2 ∨ s.twin.keyed = false ∨ s.rf R.twinFerry F.twinFerry_LAST < last →
      exec (.ack last backlog overfl mism) s = .next s) ∧
    (s.twinLink = 2 → s.twin.keyed = true →
      let n := s.linesNew 73 [(pa, len)]
      let gone := (linesOf pa len).any (fun l => decide (s.placeOf (l * 128) ≠ .vault) && decide (s.placeOf (l * 128) ≠ .lararis))
      (s.piecesReady [12, tag] 73 1 [(pa, len)] = true → s.tollOk [12, tag] 73 n = true →
        (gone = false → s.anyHeld pa len = true → exec (.mreq false pa len tag data) s = .next (s.mrsp tag 1 [])) ∧
        (gone = false → s.anyHeld pa len = false → let r := (s.chargeFor [12, tag] 73 n).moverRead [12, tag] 73 1 pa len
          exec (.mreq false pa len tag data) s = .next (if r.2.2.isEmpty then r.1.mrsp tag 0 r.2.1
            else (r.2.2.foldl (fun s x => s.mreqBad x) r.1).mrsp tag 1 [])) ∧
        (gone = true → exec (.mreq false pa len tag data) s = .next ((if (linesOf pa len).any (fun l => decide (s.placeOf (l * 128) = .absent))
          then s.noteDecode 2 pa else s).mrsp tag 1 []))) ∧
      ((s.piecesReady [12, tag] 73 1 [(pa, len)] && s.tollOk [12, tag] 73 n) = false →
        exec (.mreq false pa len tag data) s = .next ((s.openReads [12, tag] 73 1 0 [(pa, len)]).payFor [12, tag] 73 n)) ∧
      (data.length = len → s.putReady [12, tag] 73 1 [(pa, len)] = true → s.tollOk [12, tag] 73 n = true →
        (gone = false → s.anyHeld pa len = true → exec (.mreq true pa len tag data) s = .next (s.mrsp tag 1 [])) ∧
        (gone = false → s.anyHeld pa len = false → let w := (s.chargeFor [12, tag] 73 n).moverWrite [12, tag] 73 1 pa data
          exec (.mreq true pa len tag data) s = .next (w.1.mrsp tag (b2n (w.2.any (fun x => decide (x.2 ≠ .inval)))) [])) ∧
        (gone = true → exec (.mreq true pa len tag data) s = .next ((if (linesOf pa len).any (fun l => decide (s.placeOf (l * 128) = .absent))
          then s.noteDecode 2 pa else s).mrsp tag 1 []))) ∧
      (data.length = len → (s.putReady [12, tag] 73 1 [(pa, len)] && s.tollOk [12, tag] 73 n) = false →
        exec (.mreq true pa len tag data) s = .next ((s.openWrites [12, tag] 73 1 0 [(pa, len)]).payFor [12, tag] 73 n))) ∧
    (s.twinLink ≠ 2 ∨ s.twin.keyed = false → ∀ w, exec (.mreq w pa len tag data) s = .next s ∧ exec (.copy pa data) s = .next s) ∧
    (∀ r, s.readOf 1 tag = some r → exec (.mrsp false tag auth data) s = .next
      ((s.remSet (s.heap.remReads.map (fun x => if x = r then r.answered tag (if auth then none else some data) else x))).relay)) ∧
    (∀ w, s.writeOf 1 tag = some w →
      exec (.mrsp true tag auth data) s = .next ((s.setHeap { s.heap with remWrites := s.heap.remWrites.erase w }).ackOne w (!auth)) ∧
      (w.who.head? ≠ some 9 → w.who.head? ≠ some 14 →
        exec (.mrsp true tag auth data) s = .next { s with heap := { s.heap with remWrites := s.heap.remWrites.erase w } })) ∧
    (s.readOf 1 tag = none → exec (.mrsp false tag auth data) s = .next s) ∧
    (s.writeOf 1 tag = none → exec (.mrsp true tag auth data) s = .next s) ∧
    (s.twinLink = 2 → ∃ t, exec .twinFrameError s = .next t ∧ t.out = s.out ++ [⟨.twin, [10], []⟩] ∧
      t.rf R.twinCnt F.twinCnt_REPLAY = satAdd (s.rf R.twinCnt F.twinCnt_REPLAY) 1 (2 ^ F.twinCnt_REPLAY.w - 1) ∧
      onlyRegs [R.twinCnt, R.twinErr] s t ∧ sameStores s t) ∧
    (s.twinLink ≠ 2 → exec .twinFrameError s = .next s) ∧
    (∃ t, exec .hbInToggle s = .next t ∧ t.rf R.twinStatus F.twinStatus_HB_PEER = 1 ∧ onlyRegs [R.twinStatus] s t ∧ sameButRegs s t) ∧
    (s.twinLink ≠ 0 → ∃ v : State, v.twinLink = 0 ∧ v.twin.keyed = false ∧ v.twin.hello = false ∧ v.rf R.twinStatus F.twinStatus_CODE = 1 ∧
      v.rf R.twinErr F.twinErr_VALID = 1 ∧ v.rf R.twinStatus F.twinStatus_HB_PEER = s.rf R.twinStatus F.twinStatus_HB_PEER ∧
      v.heap = s.heap ∧ sameStores s v ∧
      let u := v.failNode 1 0x0F 2 0
      exec .twinLinkDown s = .next (if u.rf R.twinStatus F.twinStatus_HB_PEER = 1 then u.unpairAll else u.takeover)) ∧
    (s.twinLink = 0 → exec .twinLinkDown s = .next s) ∧
    (16 < s.twin.backlog.length → ∃ t, exec (.backlogOverflow false) s = .next t ∧ t.twin.backlog = [] ∧ t.partsIn 1 2 = [] ∧
      t.rf R.twinEvent F.twinEvent_BACKLOG = 1 ∧ sameStores s t) ∧
    (s.twin.backlog.length ≤ 16 → exec (.backlogOverflow false) s = .next s) ∧
    (s.rf R.twinReplay F.twinReplay_SIZE_32M * 2 ^ 25 < s.twin.retainedBytes → ∃ t, exec (.backlogOverflow true) s = .next t ∧
      t.twin.retained = [] ∧ t.partsIn 1 2 = [] ∧ t.rf R.twinEvent F.twinEvent_REPLAY_FULL = 1 ∧ sameStores s t) ∧
    (s.twin.retainedBytes ≤ s.rf R.twinReplay F.twinReplay_SIZE_32M * 2 ^ 25 → exec (.backlogOverflow true) s = .next s)

/-- O55: TAKEOVER, STEPDOWN on a link that is up, and TWIN_TAKEOVER_CMD, on a SHADOW: it is ACTING,
TWIN_EVENT.TAKEOVER is 1, no part of a ferry without END is kept, and no stored byte changes; the command also tells
the peer. On any other hub they change nothing. TAKEOVER_REQUEST to a hub that serves, the link up: it is
STEPPED_DOWN, TWIN_EVENT.STEPDOWN is 1, and its notice leaves. HANDOFF changes nothing. HEARTBEAT_LOST with the
heartbeat present: it is absent; a shadow without the peer's frames is then ACTING, one with them keeps its role and
sets HB_LOST; once it is absent, a keyed shadow is ACTING as soon as the frames stop too. RESYNC of an unpaired
partition, on a hub that serves a keyed pair, its tenants' TDIs in RUN or unlocked: it waits to be copied, and with
none being copied it is COPYING, drains, and its lines leave. RESYNC_SWITCH at I3 of a drained one: it is paired.
Where a command's own condition does not hold and the spec names no other effect, that nothing changes is the model's
choice (log entry 5). The form of outward messages is the model's choice (log entry 6). (R530, R534, R539, R540, R545,
20_errors_and_twin) -/
def Obligations.TwinRolesChangeHands : Prop :=
  ∀ (s : State) (p : Nat),
    (s.twinRole = 2 →
      (∀ c ∈ [Instr.takeover, .stepdown, .twinTakeoverCmd], (c = .stepdown → s.twinLink = 2) →
        ∃ t, exec c s = .next t ∧ t.twinRole = 3 ∧ t.rf R.twinEvent F.twinEvent_TAKEOVER = 1 ∧ t.twin.rx = [] ∧ t.twin.takeover = true ∧
          onlyRegs [R.twinStatus, R.twinEvent] s t ∧ sameStores s t ∧
          t.out = (if c = .twinTakeoverCmd ∧ s.twinLink = 2 then s.out ++ [⟨.twin, [9, 3], []⟩] else s.out))) ∧
    (s.twinRole ≠ 2 → ∀ c ∈ [Instr.takeover, .stepdown, .twinTakeoverCmd], exec c s = .next s) ∧
    (s.twinLink ≠ 2 → exec .stepdown s = .next s ∧ exec .takeoverRequest s = .next s) ∧
    (s.twinLink = 2 → s.serves = true →
      ∃ t, exec .takeoverRequest s = .next t ∧ t.twinRole = 4 ∧ t.rf R.twinEvent F.twinEvent_STEPDOWN = 1 ∧
        t.out = s.out ++ [⟨.twin, [9, 1], []⟩] ∧ onlyRegs [R.twinStatus, R.twinEvent] s t ∧ sameStores s t) ∧
    (s.serves = false → exec .takeoverRequest s = .next s) ∧
    exec .handoff s = .next s ∧
    (s.rf R.twinStatus F.twinStatus_HB_PEER ≠ 0 →
      (s.twinRole ≠ 2 → ∀ frames, ∃ t, exec (.heartbeatLost frames) s = .next t ∧ t.rf R.twinStatus F.twinStatus_HB_PEER = 0 ∧
        t.twinRole = s.twinRole ∧ sameButErrors s t) ∧
      (s.twinRole = 2 →
        (∃ t, exec (.heartbeatLost true) s = .next t ∧ t.rf R.twinStatus F.twinStatus_HB_PEER = 0 ∧ t.twinRole = 2 ∧
          t.rf R.twinEvent F.twinEvent_HB_LOST = 1 ∧ sameStores s t) ∧
        (∃ t, exec (.heartbeatLost false) s = .next t ∧ t.rf R.twinStatus F.twinStatus_HB_PEER = 0 ∧ t.twinRole = 3 ∧ sameStores s t))) ∧
    (s.rf R.twinStatus F.twinStatus_HB_PEER = 0 →
      (s.twinRole = 2 → s.twin.keyed = true → ∃ t, exec (.heartbeatLost false) s = .next t ∧ t.twinRole = 3 ∧
        t.rf R.twinEvent F.twinEvent_TAKEOVER = 1 ∧ onlyRegs [R.twinStatus, R.twinEvent] s t ∧ sameStores s t) ∧
      (∀ frames, s.twinRole ≠ 2 ∨ frames = true ∨ s.twin.keyed = false → exec (.heartbeatLost frames) s = .next s)) ∧
    (let may := s.serves = true ∧ s.twin.keyed = true ∧ s.twinLink = 2 ∧ s.partRecs.any (fun r => decide (r.part = p)) = true ∧
        (s.twinPart p = 0 ∨ s.twinPart p = 3) ∧ s.tdiBars p = false;
      (may → s.twin.drain ≠ [] → exec (.resync p) s = .next { s with twin := { s.twin with copy := mput s.twin.copy p 0 } }) ∧
      (may → p < 64 → s.twin.drain = [] → s.twin.copy = [] → ∃ u : State, u.twinPart p = 1 ∧ u.twin.drain = [p] ∧ u.twin.copy = [(p, 0)] ∧
        onlyRegs [R.twinPart (p / 32)] s u ∧ u = { s with twin := u.twin, regs := u.regs, shadow := u.shadow } ∧
        exec (.resync p) s = .next ((s.linesOfPart p).foldl (fun s l => s.sendLine l) u)) ∧
      (¬ may → exec (.resync p) s = .next s)) ∧
    (s.time.stage = .i2 → s.twin.drain.contains p = true → s.partDrained p = true → exec (.resyncSwitch p) s = .next (s.pairPart p) ∧
      (p < 64 → mdel s.twin.copy p = [] → (s.pairPart p).twinPart p = 2 ∧ sameStores s (s.pairPart p))) ∧
    ((s.time.stage ≠ .i2 ∨ s.twin.drain.contains p = false ∨ s.partDrained p = false) → exec (.resyncSwitch p) s = .next s)

/-- O56: ROTATE of a defined owner with no other key in use, no sweep and no scrub, the generator healthy: it waits
for I2; else KEY_REFUSED is 1 and nothing else changes. RETIRE without another key in use is refused; while a sweep
runs it is pending; else it waits for I2. SWEEP_DONE and SCRUB_DONE bring the sweeps and scrubs up to this cycle; once
the whole carve-up is done, the sweep, or the scrub, is over; before that, and for an owner without one, they change
nothing else. DRBG_FAIL: DRBG_OK is 0, DRBG_FAIL is 1 and one DEGRADING report is on its way; DRBG_OK_RETURN: DRBG_OK
is 1. IDE_KM: the stream is among the secure ones, or not, as told, and is answered. IDE_INTEGRITY: the stream is
secure no more, IDE_FAIL is 1, and its held interfaces go to ERROR. Where a command's own condition does not hold and
the spec names no other effect, that nothing changes is the model's choice (log entry 5). The form of outward messages
is the model's choice (log entry 6). (R548, R554, R555, R556, R557, R562, R565, R573, 21_security) -/
def Obligations.KeysAreRotatedRetiredAndScrubbed : Prop :=
  ∀ (s : State) (o stream : Nat),
    (s.ownerDefined o = true → s.otherInUse o = false → s.rf (R.salKey o) F.salKey_SWEEP ≠ 1 → s.scrubPending o = false → s.drbgOk = true →
      ∃ t, exec (.rotate o) s = .next t ∧ t.sec.rotate.contains o = true ∧ t = { s with sec := t.sec }) ∧
    ((s.ownerDefined o = false ∨ s.otherInUse o = true ∨ s.rf (R.salKey o) F.salKey_SWEEP = 1 ∨ s.scrubPending o = true ∨ s.drbgOk = false) →
      ∃ t, exec (.rotate o) s = .next t ∧ t.rf R.salEvent F.salEvent_KEY_REFUSED = 1 ∧ onlyRegs [R.salEvent] s t ∧ sameButRegs s t) ∧
    (s.otherInUse o = false →
      ∃ t, exec (.retire o) s = .next t ∧ t.rf R.salEvent F.salEvent_KEY_REFUSED = 1 ∧ onlyRegs [R.salEvent] s t ∧ sameButRegs s t) ∧
    (s.otherInUse o = true →
      (s.rf (R.salKey o) F.salKey_SWEEP = 1 → ∃ t, exec (.retire o) s = .next t ∧ t.rf (R.salKey o) F.salKey_RETIRE_PEND = 1 ∧
        onlyRegs [R.salKey o] s t ∧ sameButRegs s t) ∧
      (s.rf (R.salKey o) F.salKey_SWEEP ≠ 1 → ∃ t, exec (.retire o) s = .next t ∧ t.sec.retire.contains o = true ∧ t = { s with sec := t.sec })) ∧
    (let u := s.cleanNow;
      (s.time.stage ≠ .run → u = s) ∧
      (∀ d, mget u.sec.sweeps o = some d →
        (u.carveBytes o ≤ d → exec (.sweepDone o) s = .next { u with sec := { u.sec with
          sweeps := mdel u.sec.sweeps o, swept := mput u.sec.swept o u.sail } }) ∧ (d < u.carveBytes o → exec (.sweepDone o) s = .next u)) ∧
      (mget u.sec.sweeps o = none → exec (.sweepDone o) s = .next u) ∧
      (∀ d, mget u.sec.scrubs o = some d →
        (u.carveBytes o ≤ d → ∃ t, exec (.scrubDone o) s = .next t ∧ mget t.sec.scrubs o = none ∧ t.sec.scrubbed.contains o = true ∧
          t = { u with sec := t.sec }) ∧ (d < u.carveBytes o → exec (.scrubDone o) s = .next u)) ∧
      (mget u.sec.scrubs o = none → exec (.scrubDone o) s = .next u)) ∧
    (∃ t r, exec .drbgFail s = .next t ∧ t.drbgOk = false ∧ t.rf R.salEvent F.salEvent_DRBG_FAIL = 1 ∧ t.err.inbox = s.err.inbox ++ [r] ∧
      r.cls = clsDegrading ∧ r.block = 0x10 ∧ onlyRegs [R.salStatus, R.salEvent, R.salErr] s t ∧ sameButErrors s t) ∧
    (∃ t, exec .drbgOkReturn s = .next t ∧ t.drbgOk = true ∧ onlyRegs [R.salStatus] s t ∧ sameButRegs s t) ∧
    (∀ secure, ∃ t, exec (.ideKm stream secure) s = .next t ∧ (secure = true → t.sec.ide.contains stream = true) ∧
      (secure = false → t.sec.ide = nrem s.sec.ide stream) ∧ t.out = s.out ++ [⟨.spdm, [0x200, stream, b2n secure], []⟩] ∧
      t = { s with sec := t.sec, out := t.out }) ∧
    (∃ u : State, exec (.ideIntegrity stream) s =
        .next (((u.sec.stream.filter (fun p => decide (p.2 = stream) && u.tdiHeld p.1)).map (·.1)).foldl (fun s t => s.tdiError t) u) ∧
      u.sec.ide = nrem s.sec.ide stream ∧ u.sec.stream = s.sec.stream ∧ u.rf R.salEvent F.salEvent_IDE_FAIL = 1 ∧
      onlyRegs [R.salErr, R.salEvent] s u ∧ u = { s with regs := u.regs, shadow := u.shadow, sec := u.sec })

/-- O57: GET_VERSION, GET_CAPABILITIES and GET_DEVICE_INTERFACE_STATE are answered and change nothing else but that no
signed response stands; GET_DEVICE_INTERFACE_REPORT of a held interface too. LOCK_INTERFACE of an unlocked, lockable
one: CONFIG_LOCKED, its partition leaves the pair, the first such interface turns confidential mode on, and the drawn
nonce is kept and answered; not lockable: LOCK_REFUSED and an error; in another state an error. START_INTERFACE of a
locked one with its nonce: RUN, the nonce spent; otherwise an error. A request that fails in RUN leads to ERROR.
STOP_INTERFACE of one that is not held: CONFIG_UNLOCKED; of a held one also its teardown, and the last one turns
confidential mode off. GET_CERTIFICATE and CHALLENGE of slots 0 and 1 and GET_MEASUREMENTS of a block, or of all, are
answered, the last two signed; KEY_EXCHANGE opens a session below the eighth while the generator is healthy;
GET_PQ_SIG signs the signed response before it, once. Everything else is answered with an error. The form of outward
messages is the model's choice (log entry 6). (R548, R550, R557, R558, R559, R561, R562, R564, R568, R569,
21_security) -/
def Obligations.InterfacesAndSessionsAnswer : Prop :=
  ∀ (s : State) (tn stream nonce slot off len index tr : Nat) (nb ex : List Byte), tn < 4096 →
    (∀ x ∈ ([(.tdispGetVersion tn, [0x101, tn, 0x10]), (.tdispGetCapabilities tn, [0x102, tn]),
        (.getDeviceInterfaceState tn, [0x105, tn, s.tdi tn])] : List (Instr × List Nat)),
      exec x.1 s = .next { s with sec := { s.sec with signed := none }, out := s.out ++ [⟨.spdm, x.2, []⟩] }) ∧
    (s.tdiHeld tn = true → exec (.getDeviceInterfaceReport tn) s = .next { s with
      sec := { s.sec with signed := none }, out := s.out ++ [⟨.spdm, [0x104, tn, s.tdi tn, mgetD s.sec.stream tn 0], []⟩] }) ∧
    (s.tdiHeld tn = false → exec (.getDeviceInterfaceReport tn) s = .next { s with
      sec := { s.sec with signed := none }, out := s.out ++ [⟨.spdm, [0x17F, tn], []⟩] }) ∧
    (s.tdi tn = 0 → s.lockable tn stream = true → ∃ u : State, u.tdi tn = 1 ∧ mget u.sec.stream tn = some stream ∧
      mget u.sec.nonce tn = some (Config.drawn s.sec.draws).toNat ∧ u.sec.draws = s.sec.draws + 1 ∧
      onlyRegs [R.salTdi (tn / 32), R.salStatus] s u ∧ u = { s with regs := u.regs, shadow := u.shadow, sec := u.sec } ∧
      let v := u.tdiUnpair tn;
      exec (.lockInterface tn stream) s = .next ((if s.rf R.salStatus F.salStatus_LOCKED = 0 then v.confOn else v).tdisp 3 tn
        [(Config.drawn s.sec.draws).toNat])) ∧
    (s.tdi tn = 0 → s.lockable tn stream = false → ∃ t, exec (.lockInterface tn stream) s = .next t ∧
      t.rf R.salEvent F.salEvent_LOCK_REFUSED = 1 ∧ t.out = s.out ++ [⟨.spdm, [0x17F, tn], []⟩] ∧ onlyRegs [R.salEvent] s t ∧ sameStores s t) ∧
    (s.tdi tn = 1 → mget s.sec.nonce tn = some nonce → ∃ t, exec (.startInterface tn nonce) s = .next t ∧ t.tdi tn = 2 ∧
      mget t.sec.nonce tn = none ∧ t.out = s.out ++ [⟨.spdm, [0x106, tn], []⟩] ∧ sameStores s t) ∧
    (s.tdi tn = 1 ∨ s.tdi tn = 3 → exec (.lockInterface tn stream) s = .next { s with
      sec := { s.sec with signed := none }, out := s.out ++ [⟨.spdm, [0x17F, tn], []⟩] }) ∧
    (¬ (s.tdi tn = 1 ∧ mget s.sec.nonce tn = some nonce) → s.tdi tn ≠ 2 → exec (.startInterface tn nonce) s = .next { s with
      sec := { s.sec with signed := none }, out := s.out ++ [⟨.spdm, [0x17F, tn], []⟩] }) ∧
    (s.tdi tn = 2 → ∀ c ∈ [Instr.lockInterface tn stream, .startInterface tn nonce], exec c s = .next ((s.tdispErr tn).tdiError tn)) ∧
    (s.tdiHeld tn = false → ∃ t, exec (.stopInterface tn) s = .next t ∧ t.tdi tn = 0 ∧ t.out = s.out ++ [⟨.spdm, [0x107, tn], []⟩] ∧
      sameStores s t) ∧
    (s.tdiHeld tn = true → ∃ u : State, u.tdi tn = 0 ∧ onlyRegs [R.salTdi (tn / 32), R.salStatus] s u ∧ sameButRegs s u ∧
      let v := if s.tdi tn = 2 then u.tdiUnpair tn else u;
      exec (.stopInterface tn) s = .next (((if s.rf R.salStatus F.salStatus_LOCKED = 1 then v.confOff else v).tdisp 7 tn []).teardown tn)) ∧
    (slot ≤ 1 →
      (∃ t o, exec (.spdmGetCertificate slot off len) s = .next t ∧ t.out = s.out ++ [o] ∧ o.args = [0x02, slot, off] ∧
        o.data = slice (Config.certChain slot (BitVec.ofNat 384 s.sec.fwMeas) s.fuses.serial) off len ∧ t.sec.signed = none ∧ t = { s with sec := t.sec, out := t.out }) ∧
      (∃ t o m, exec (.spdmChallenge slot nb) s = .next t ∧ t.out = s.out ++ [o] ∧ o.args = [0x03, slot] ∧ t.sec.signed = some m ∧
        t = { s with sec := t.sec, out := t.out })) ∧
    (1 < slot → ∀ c ∈ [Instr.spdmGetCertificate slot off len, .spdmChallenge slot nb], exec c s = .next (s.spdmErr 1)) ∧
    (∀ b, s.measBlock index = some b → index ≠ 0xFF → ∃ t o m, exec (.spdmGetMeasurements index nb) s = .next t ∧ t.out = s.out ++ [o] ∧
      o.args = [0x60, 1] ∧ o.data.take (b.length + 1) = leBytes 1 index ++ b ∧ t.sec.signed = some m ∧ t = { s with sec := t.sec, out := t.out }) ∧
    (∃ t o m, exec (.spdmGetMeasurements 0xFF nb) s = .next t ∧ t.out = s.out ++ [o] ∧ o.args = [0x60, 72] ∧ t.sec.signed = some m ∧
      t = { s with sec := t.sec, out := t.out }) ∧
    (s.measBlock index = none → index ≠ 0xFF → exec (.spdmGetMeasurements index nb) s = .next (s.spdmErr 1)) ∧
    (s.drbgOk = true → mgetD s.sec.sessions tr 0 < 8 → ∃ t o m, exec (.spdmKeyExchange tr ex) s = .next t ∧
      mget t.sec.sessions tr = some (mgetD s.sec.sessions tr 0 + 1) ∧ t.out = s.out ++ [o] ∧ t.sec.signed = some m ∧
      t = { s with sec := t.sec, out := t.out }) ∧
    ((s.drbgOk = false ∨ 8 ≤ mgetD s.sec.sessions tr 0) → exec (.spdmKeyExchange tr ex) s = .next (s.spdmErr 3)) ∧
    (∀ m, s.sec.signed = some m → ∃ t, exec .getPqSig s = .next t ∧ t.out = s.out ++ [⟨.spdm, [0x7E], Config.mlSign 1 m⟩] ∧
      t.sec.signed = none ∧ t = { s with sec := t.sec, out := t.out }) ∧
    (s.sec.signed = none → exec .getPqSig s = .next (s.spdmErr 4))

/-- O58: With no command running: TRANSITION in SCRAPPED ends BAD_TRANSITION; outside LOCKED it ends with the first of
ROUTE, BAD_TRANSITION, MISSING, HUB_ACTIVE and BAD_TOKEN that applies and leaves every fuse; with the right token and
no failing fuse the codeword's missing bits are programmed, toward a state that requires it after the wipe; what fails
of it ends WIPE_FAIL or FUSE_FAIL. In LOCKED it ends BAD_TRANSITION, ROUTE or BAD_TOKEN, or goes on to the transition
whose token it is. FUSE of a field its state accepts programs it, or ends BAD_SIG, FIELD_SET or FUSE_FAIL and every
fuse stays. CHALLENGE keeps a nonce while the generator is healthy; DBG_AUTH in confidential mode is refused; else it
spends the nonce and ends BAD_FORMAT, BAD_SCOPE, BAD_CHAL or BAD_SIG, or the scope is in force; DBG_REVOKE ends it,
and DBG_EXPIRE. While a command runs none starts. IDCODE shifts the identification out; BYPASS selects BYPASS.
SAMPLE_PRELOAD, EXTEST, CLAMP, HIGHZ, WSP_SELECT and TRACE_READ are selected where available and outside confidential
mode, else BYPASS; LCS_ACCESS and REG_ACCESS read the register's bytes out, or write it; LCS_CMD written by REG_ACCESS
ends ROUTE. Where a command's own condition does not hold and the spec names no other effect, that nothing changes is
the model's choice (log entry 5). The form of outward messages is the model's choice (log entry 6). (R577, R579, R580,
R581, R582, R583, R584, R585, R586, R587, 22_life_cycle_and_debug) -/
def Obligations.LifeCycleAndDebugAreAuthorised : Prop :=
  ∀ (s : State) (route dest id fail off data : Nat) (buf : List Byte),
    let st := fun (t : State) => (t.rf R.lcsStatus F.lcsStatus_RESULT, t.rf R.lcsStatus F.lcsStatus_CMD)
    let ends := fun (c : Instr) (r : Nat) => ∃ t, exec c s = .next t ∧ st t = (r, 3) ∧ t.flash = s.flash ∧ sameStores s t
    let token := s.lcsBytes route buf 32
    let move := fun (to_ : Nat) => ∃ t, exec (.transition route dest fail buf) s = .next t ∧ t.mem = s.mem ∧ t.holds = s.holds ∧ t.lcs = s.lcs ∧
      t.time = s.time ∧ t.rf R.salStatus F.salStatus_DEBUG = 0 ∧
      (fail = 0 → (to_ = 2 → s.drbgOk = true) →
        t.fuses.lc = programBits s.fuses.lc (lcWord to_) 128 128 ∧ st t = (if t.fuses.lc = lcWord to_ then (1, 2) else (6, 3)) ∧
        (to_ = 1 → t.fuses = { s.fuses with lc := t.fuses.lc }) ∧
        (to_ = 3 ∨ to_ = 4 → t.flash.user = [] ∧ fuseGrows (2 ^ 256 - 1) t.fuses.fsec) ∧ (to_ = 4 → fuseGrows (2 ^ 256 - 1) t.fuses.uds)) ∧
      (fail = 1 → to_ = 3 ∨ to_ = 4 → st t = (0x0E, 3) ∧ t.fuses = s.fuses) ∧
      (fail = 2 → to_ = 2 ∨ to_ = 4 → st t = (6, 3) ∧ t.fuses.lc = s.fuses.lc)
    (s.rf R.lcsStatus F.lcsStatus_CMD ≠ 1 →
      (s.lcs = 4 → ends (.transition route dest fail buf) 3) ∧
      (s.lcs ≠ 4 → s.lcs ≠ 7 →
        (route = 2 → s.lcs ≠ 0 → ends (.transition route dest fail buf) 0x0B) ∧
        ((route ≠ 2 ∨ s.lcs = 0) →
          (lcsPairs.contains (s.lcs, dest) = false → ends (.transition route dest fail buf) 3) ∧
          (lcsPairs.contains (s.lcs, dest) = true →
            (s.fuses.fieldsFor dest = false → ends (.transition route dest fail buf) 5) ∧
            (s.fuses.fieldsFor dest = true → s.hubActive = true → ends (.transition route dest fail buf) 4) ∧
            (s.fuses.fieldsFor dest = true → s.hubActive = false → s.fuses.tokenOk dest token = false →
              ends (.transition route dest fail buf) 2) ∧
            (s.fuses.fieldsFor dest = true → s.hubActive = false → s.fuses.tokenOk dest token = true → move dest)))) ∧
      (s.lcs = 7 →
        (lcsPairs.any (fun p => lcBetween s.fuses.lc (lcWord p.1) (lcWord p.2)) = false → ends (.transition route dest fail buf) 3) ∧
        (lcsPairs.any (fun p => lcBetween s.fuses.lc (lcWord p.1) (lcWord p.2)) = true → s.recoverable route = [] →
          ends (.transition route dest fail buf) 0x0B) ∧
        (s.recoverable route ≠ [] → (s.recoverable route).find? (fun p => s.fuses.tokenOk p.2 token) = none →
          ends (.transition route dest fail buf) 2) ∧
        (∀ p, (s.recoverable route).find? (fun p => s.fuses.tokenOk p.2 token) = some p → move p.2)) ∧
      (s.lcs = 4 → ends (.fuse route id fail buf) 3) ∧
      (s.lcs ≠ 4 → route = 2 → s.lcs ≠ 0 → ends (.fuse route id fail buf) 0x0B) ∧
      (s.lcs ≠ 4 → (route ≠ 2 ∨ s.lcs = 0) → (fuseStates id).contains s.lcs = false → ends (.fuse route id fail buf) 3) ∧
      (s.lcs ≠ 4 → (route ≠ 2 ∨ s.lcs = 0) → (fuseStates id).contains s.lcs = true →
        let b := s.lcsBytes route buf 3381
        let x := leNat (slice b 0 (fuseSize id))
        let by_ := fun (ed ml : Nat) => sigPairOk ed ml (floorMsg s.fuses.serial id x) (slice b 8 64) (slice b 72 3309)
        let signed := if id = 8 ∧ s.lcs = 2 then by_ s.fuses.manEd s.fuses.manMl
          else if id = 9 then by_ (digestNum Config.romKeyEd) (digestNum Config.romKeyMl) else true
        let free := if id ≥ 8 then decide (s.fuses.fieldOf id &&& x = s.fuses.fieldOf id) else decide (s.fuses.fieldOf id = 0)
        (signed = false → ends (.fuse route id fail buf) 7) ∧ (signed = true → free = false → ends (.fuse route id fail buf) 0x0A) ∧
        (signed = true → free = true → fail ≠ 0 → ends (.fuse route id fail buf) 6) ∧
        (signed = true → free = true → fail = 0 → ∃ t, exec (.fuse route id fail buf) s = .next t ∧ st t = (1, 2) ∧
          t.fuses = s.fuses.putField id x ∧ t.mem = s.mem ∧ t.holds = s.holds ∧ t.time = s.time)) ∧
      (2 < route → ends (.challenge route) 0x0B ∧ ends (.dbgRevoke route) 0x0B) ∧
      (route ≤ 2 → ∀ r, s.dbgRoute = some r → ends (.challenge route) r ∧ ends (.dbgRevoke route) r ∧ ends (.dbgAuth route buf) r) ∧
      (route ≤ 2 → s.dbgRoute = none →
        (s.drbgOk = true → ∃ t, exec (.challenge route) s = .next t ∧ t.tap.nonce.isSome = true ∧ st t = (1, 2) ∧ sameStores s t) ∧
        (s.drbgOk = false → ∃ t, exec (.challenge route) s = .next t ∧ t.tap.nonce = none ∧ st t = (8, 3) ∧ sameStores s t) ∧
        (s.conf = true → ∃ t, exec (.dbgAuth route buf) s = .next t ∧ st t = (9, 3) ∧ t.tap.nonce = s.tap.nonce ∧
          t.rf R.lcsDbg F.lcsDbg_SCOPE = s.rf R.lcsDbg F.lcsDbg_SCOPE ∧ sameStores s t) ∧
        (s.conf = false →
          let b := s.lcsBytes route buf 3437
          let code := if blobOk (slice b 0 64) = false then 0x0C else if leAt b 6 1 &&& scopeOf s.lcs ≠ leAt b 6 1 then 0x0D
            else if s.tap.nonce ≠ some (slice b 16 32) ∨ leAt b 8 8 ≠ s.fuses.serial then 8
            else if sigPairOk s.fuses.dbgEd s.fuses.dbgMl (digestBytes (Config.sha384 (slice b 0 64))) (slice b 64 64) (slice b 128 3309) = false
              then 7 else 1
          ∃ t, exec (.dbgAuth route buf) s = .next t ∧ sameStores s t ∧ t.tap.nonce = none ∧ st t = (code, if code = 1 then 2 else 3) ∧
            t.rf R.lcsDbg F.lcsDbg_SCOPE = (if code ≠ 1 then s.rf R.lcsDbg F.lcsDbg_SCOPE
              else if s.openByState then 15 else leAt b 6 1 % 2 ^ F.lcsDbg_SCOPE.w)) ∧
        (∃ t, exec (.dbgRevoke route) s = .next t ∧ st t = (1, 2) ∧ t.rf R.salStatus F.salStatus_DEBUG = 0 ∧ sameStores s t))) ∧
    (s.rf R.lcsStatus F.lcsStatus_CMD = 1 → ∀ c ∈ [Instr.transition route dest fail buf, .fuse route id fail buf, .challenge route,
      .dbgAuth route buf, .dbgRevoke route], exec c s = .next s) ∧
    (s.rf R.salStatus F.salStatus_DEBUG = 1 → ∃ t, exec .dbgExpire s = .next t ∧ t.rf R.salStatus F.salStatus_DEBUG = 0 ∧
      onlyRegs [R.lcsDbg, R.salStatus] s t ∧ sameButRegs s t) ∧
    (s.rf R.salStatus F.salStatus_DEBUG ≠ 1 → exec .dbgExpire s = .next s) ∧
    (∃ t, exec .idcode s = .next t ∧ t.tap.ir = 1 ∧ t.out = s.out ++ [⟨.jtag, [1], leBytes 4 s.idcode⟩] ∧ t = { s with tap := t.tap, out := t.out }) ∧
    (∃ t, exec .bypass s = .next t ∧ t.tap.ir = 0xFF ∧ t = { s with tap := t.tap }) ∧
    (∀ x ∈ ([(.samplePreload, 2, s.inScope 0, []), (.extest, 3, s.pinsFree, []), (.clamp, 4, s.pinsFree, []), (.highz, 5, s.pinsFree, []),
        (.wspSelect, 0x30, s.inScope 1 && s.noLegs, []), (.traceRead, 0x40, s.inScope 2, [⟨.jtag, [0x40], s.tap.trace⟩])] :
        List (Instr × Nat × Bool × List Out)),
      ((x.2.2.1 && !s.conf) = true → ∃ t, exec x.1 s = .next t ∧ t.tap.ir = x.2.1 ∧ t.out = s.out ++ x.2.2.2 ∧ t = { s with tap := t.tap, out := t.out }) ∧
      ((x.2.2.1 && !s.conf) = false → ∃ t, exec x.1 s = .next t ∧ t.tap.ir = 0xFF ∧ t = { s with tap := t.tap })) ∧
    (s.conf = true → ∀ write, ∃ t, exec (.lcsAccess off write data) s = .next t ∧ t.tap.ir = 0xFF ∧ t = { s with tap := t.tap }) ∧
    (s.conf = false → ∃ t, exec (.lcsAccess off false data) s = .next t ∧ t.tap.ir = 0x10 ∧
      t.out = s.out ++ [⟨.jtag, [0x10], leBytes 8 (s.regRead (R.lcsStatus + off % 2 ^ 16 / 8 * 8))⟩] ∧ t = { s with tap := t.tap, out := t.out }) ∧
    (s.conf = false → ∃ u : State, u.tap.ir = 0x10 ∧ u = { s with tap := u.tap } ∧
      let o := R.lcsStatus + off % 2 ^ 16 / 8 * 8
      exec (.lcsAccess off true data) s = .next (if o = R.lcsCmd then u.tapLcsCmd data else u.regWrite o 8 data)) ∧
    (s.conf = false → s.inScope 0 = true → off / 8 * 8 < 0x4000000 →
      (∃ t, exec (.regAccess off false data) s = .next t ∧ t.tap.ir = 0x20 ∧ t.out = s.out ++ [⟨.jtag, [0x20], leBytes 8 (s.regRead (off / 8 * 8))⟩] ∧
        t = { s with tap := t.tap, out := t.out }) ∧
      (off / 8 * 8 ≠ R.lcsCmd → ∃ u : State, exec (.regAccess off true data) s = .next (u.regWrite (off / 8 * 8) 8 data) ∧ u.tap.ir = 0x20 ∧
        u = { s with tap := u.tap }) ∧
      (off / 8 * 8 = R.lcsCmd → 1 ≤ data % 256 → data % 256 ≤ 5 → s.rf R.lcsStatus F.lcsStatus_CMD ≠ 1 → ends (.regAccess off true data) 0x0B)) ∧
    (s.conf = false → s.inScope 0 = true → 0x4000000 ≤ off / 8 * 8 → ∀ write, ∃ t, exec (.regAccess off write data) s = .next t ∧
      t.tap.ir = 0x20 ∧ t = { s with tap := t.tap }) ∧
    ((s.conf = true ∨ s.inScope 0 = false) → ∀ write, ∃ t, exec (.regAccess off write data) s = .next t ∧ t.tap.ir = 0xFF ∧ t = { s with tap := t.tap })

/-- O59: PERST: no link, no stalled request, no translation of the host's kept, rate and width 0. LINK_TRAINING_START
without a link: training, out of reset. PCIE_LINK_UP out of reset at a rate from 1 to 7 and a width the standard has:
those are shown, in L0, and what waited for a tag goes out; in reset nothing changes. L0P_ENTRY where enabled, asked
for and nothing waits, above x4: x4 and L0p. L0P_EXIT from L0p, and L1_EXIT from L1: L0 at the trained width. L1_ENTRY
where enabled, asked for and the link idle: L1 or a substate. PCIE_RECEIVER_ERROR: one CORRECTED report. D3HOT: PF0's
power state is D3hot, and nothing else changes; in QUIET, or behind a shut ford, it stalls. LTR_SEND where enabled,
with a link: one message leaves, in L0; where not enabled nothing happens. Where a command's own condition does not
hold and the spec names no other effect, that nothing changes is the model's choice (log entry 5). The form of outward
messages is the model's choice (log entry 6). (R38, R321, R395, R414, R415, R416, R420, R422, R423, 15_host_endpoint)
-/
def Obligations.HostLinkStatesFollowTheirEvents : Prop :=
  ∀ (s : State) (rate width eq kind : Nat) (flit pin sub : Bool),
    (∃ t, exec (.perst pin) s = .next t ∧ t.pci.perst = pin ∧ t.pci.training = !pin ∧ t.pci.stalled = [] ∧ t.pci.width = 0 ∧ t.dtu.atc = [] ∧
      t.rf R.pciStatus F.pciStatus_RATE = 0 ∧ t.rf R.pciStatus F.pciStatus_WIDTH = 0 ∧ t.rf R.pciStatus F.pciStatus_LPM = 0) ∧
    (s.hostUp = false → exec .linkTrainingStart s = .next { s with pci := { s.pci with perst := false, training := true } }) ∧
    (s.hostUp = true → exec .linkTrainingStart s = .next s) ∧
    (s.pci.perst = false → 1 ≤ rate → rate ≤ 7 → [1, 2, 4, 8, 16].contains width = true →
      ∃ u : State, exec (.pcieLinkUp rate width eq flit) s = .next (u.pumpTags u.waiting).showTags ∧ u.rf R.pciStatus F.pciStatus_RATE = rate ∧
        u.rf R.pciStatus F.pciStatus_WIDTH = width ∧ u.rf R.pciStatus F.pciStatus_LPM = 0 ∧ u.pci.width = width ∧ u.pci.training = false ∧
        onlyRegs [R.pciStatus, R.fordDom 13, R.fordStatus] s u ∧
        u = { s with pci := u.pci, regs := u.regs, shadow := u.shadow, fab := { s.fab with fords := u.fab.fords } }) ∧
    ((s.pci.perst = true ∨ rate = 0 ∨ 7 < rate ∨ [1, 2, 4, 8, 16].contains width = false) → exec (.pcieLinkUp rate width eq flit) s = .next s) ∧
    (let may := bitOf (s.cfgRaw 0 0x268 0) 3 = true ∧ s.rf R.pciLpm F.pciLpm_L0P_IDLE ≠ 0 ∧ s.hostUp = true ∧
        s.rf R.pciStatus F.pciStatus_LPM = 0 ∧ s.waiting = 0 ∧ 4 < s.pci.width;
      (may → ∃ t, exec .l0pEntry s = .next t ∧ t.rf R.pciStatus F.pciStatus_WIDTH = 4 ∧ t.rf R.pciStatus F.pciStatus_LPM = 1 ∧
        onlyRegs [R.pciStatus] s t ∧ sameButRegs s t) ∧
      (¬ may → exec .l0pEntry s = .next s)) ∧
    (∀ x ∈ ([(.l0pExit, decide (s.rf R.pciStatus F.pciStatus_LPM = 1)), (.l1Exit, decide (2 ≤ s.rf R.pciStatus F.pciStatus_LPM))] :
        List (Instr × Bool)),
      (x.2 = true → ∃ t, exec x.1 s = .next t ∧ t.rf R.pciStatus F.pciStatus_LPM = 0 ∧
        t.rf R.pciStatus F.pciStatus_WIDTH = s.pci.width % 2 ^ F.pciStatus_WIDTH.w ∧ onlyRegs [R.pciStatus] s t ∧ sameButRegs s t) ∧
      (x.2 = false → exec x.1 s = .next s)) ∧
    (let may := bitOf (s.cfgRaw 0 0x60 0) 1 = true ∧ s.rf R.pciLpm F.pciLpm_L1_IDLE ≠ 0 ∧ s.hostUp = true ∧ s.linkIdle = true;
      (may → ∃ t, exec (.l1Entry sub) s = .next t ∧
        t.rf R.pciStatus F.pciStatus_LPM = (if sub = true ∧ bitsOf (s.cfgRaw 0 0x288 0) 2 2 ≠ 0 then 3 else 2) ∧
        onlyRegs [R.pciStatus] s t ∧ sameButRegs s t) ∧
      (¬ may → exec (.l1Entry sub) s = .next s)) ∧
    (∃ t r, exec (.pcieReceiverError kind) s = .next t ∧ t.err.inbox = s.err.inbox ++ [r] ∧ r.cls = clsCorrected ∧ r.block = 0x0A ∧
      t.regs = s.regs ∧ sameStores s t) ∧
    (s.hostStalls = true → exec .d3hot s = .next { s with pci := { s.pci with
      stalled := s.pci.stalled ++ [⟨.d3hot, 0, 0, true, 0, 0, [], false, false⟩] } }) ∧
    (s.hostStalls = false → ∃ t, exec .d3hot s = .next t ∧ t.cfgRaw 0 0x44 8 % 4 = 3 ∧ (∀ fn o d, fn * 1024 + o / 4 ≠ 0x11 → t.cfgRaw fn o d = s.cfgRaw fn o d) ∧
      t = { s with pci := t.pci }) ∧
    (bitOf (s.cfgRaw 0 0x78 0) 10 = true → s.hostUp = true →
      ∃ t, exec .ltrSend s = .next t ∧ t.out = s.out ++ [⟨.pcieMsg, [3, 0, s.rf R.pciLpm F.pciLpm_LTR_US], []⟩] ∧
        t.rf R.pciStatus F.pciStatus_LPM = 0 ∧ onlyRegs [R.pciStatus] s t ∧ t = { s with out := t.out, regs := t.regs, shadow := t.shadow }) ∧
    (bitOf (s.cfgRaw 0 0x78 0) 10 = false ∨ s.hostUp = false → exec .ltrSend s = .next s)

/-- O60: In QUIET, or behind a shut ford, every configuration, BAR0 and BAR2 request, a function level reset and a
change of VF Enable among them, joins those stalled and changes nothing else. Else, with a link: a configuration read
of an enabled function is answered with its bytes, a write writes and is answered; a BAR0 read of PF0, or of a VF's
page, is answered with the registers' bytes, a write writes them, both by register packets; poison, a disabled space,
a length of 0, a block that does not respond, an earlier request that waits, a write of the block in flight, a
partition in reset and a held TDI have their own answers; a BAR2 access of an absent or unenabled space, or of memory
a held TDI owns, is refused; one whose lines and tokens are there is served, a read training the prefetchers, and one
whose are not waits at its spur. VF_FLR tears the tenant of an enabled VF down; PF0_FLR and VF_ENABLE_CLEAR leave no
VF enabled; VF_ENABLE_SET after VF_READY enables NumVFs, at most 4,096 or without ARI 7. PCIE_COMPLETION for a read
that waits takes its piece in or fails it by its cause; one of a read whose requester is gone frees its tag at its
end, one of a quarantined tag counts as late, as does one nobody asked for; with the link down such a one changes
nothing. COMPLETION_TIMEOUT fails the read and quarantines its tag, also that of a read without requester;
TAG_QUARANTINE_END frees it. Where a command's own condition does not hold and the spec names no other effect, that
nothing changes is the model's choice (log entry 5). The form of outward messages is the model's choice (log entry 6).
(R38, R218, R219, R321, R399, R402, R403, R404, R408, R409, R411, R419) -/
def Obligations.HostRequestsAreServedOrStalled : Prop :=
  ∀ (s : State) (fn off len tag st count tn : Nat) (data : List Byte) (poison tbit dmg write : Bool),
    (s.hostStalls = true → ∀ x ∈ ([(.hostConfigRequest fn off write data len tag, ⟨.cfg, fn, off, write, len, tag, data, false, false⟩),
        (.hostBar0Access fn off write data len tag poison tbit, ⟨.bar0, fn, off, write, len, tag, data, poison, tbit⟩),
        (.hostBar2Read off len tag dmg, ⟨.bar2, 0, off, false, len, tag, [], dmg, false⟩),
        (.hostBar2Write off data poison, ⟨.bar2, 0, off, true, 0, 0, data, poison, false⟩),
        (.vfFlr tn, ⟨.flr, tn, 0, true, 0, 0, [], false, false⟩), (.pf0Flr, ⟨.pfFlr, 0, 0, true, 0, 0, [], false, false⟩),
        (.vfEnableClear, ⟨.vfOff, 0, 0, true, 0, 0, [], false, false⟩),
        (.vfEnableSet, ⟨.vfOn, 0, 0, true, 0, 0, [], false, false⟩)] : List (Instr × HostReq)),
      exec x.1 s = .next { s with pci := { s.pci with stalled := s.pci.stalled ++ [x.2] } }) ∧
    (s.hostStalls = false → s.hostUp = false → ∀ c ∈ [Instr.hostConfigRequest fn off write data len tag,
        .hostBar0Access fn off write data len tag poison tbit, .hostBar2Read off len tag dmg, .hostBar2Write off data poison], exec c s = .next s) ∧
    (s.hostStalls = false → s.hostUp = true → fn ≤ s.pci.vfs → off < 4096 →
      (∃ t, exec (.hostConfigRequest fn off false data len tag) s = .next t ∧
        t.out = s.out ++ [⟨.cpl, [fn, tag], slice (leBytes 4 (s.cfgRead fn (off / 4 * 4))) (off % 4) len⟩] ∧ t = { s with out := t.out }) ∧
      exec (.hostConfigRequest fn off true data len tag) s = .next ((s.cfgWrite fn (off / 4 * 4) (off % 4) data).send .cpl [fn, tag] [])) ∧
    (s.hostStalls = false → s.hostUp = true →
      (∀ b : Byte, ∃ t, exec (.hostConfigRequest 0 0x3C true [b] 1 tag) s = .next t ∧ t.cfgRaw 0 0x3C 0 % 256 = b.toNat ∧
        t.out = s.out ++ [⟨.cpl, [0, tag], []⟩] ∧ onlyRegs [R.pciTag] s t ∧ sameStores s t)) ∧
    (s.hostStalls = false → s.hostUp = true → fn ≤ s.pci.vfs →
      let r : HostReq := ⟨.bar0, fn, off, false, len, tag, data, poison, tbit⟩
      let q : HostReq := ⟨.bar0, fn, off, true, len, tag, data, poison, tbit⟩
      let get := exec (.hostBar0Access fn off false data len tag poison tbit) s
      let put := exec (.hostBar0Access fn off true data len tag poison tbit) s
      (poison = true → put = .next (s.aer aerUnc 12)) ∧
      (s.memSpace fn = false → get = .next (s.unsupported r) ∧ (poison = false → put = .next (s.unsupported q))) ∧
      (s.memSpace fn = true →
        (len = 0 → get = .next (s.send .cpl [fn, tag, 4] (List.replicate 4 0))) ∧ (poison = false → data = [] → put = .next s) ∧
        (s.barHeld = true ∨ s.regWaits r.key = true → (0 < len → get = .next ((s.regWake r.key).stall r)) ∧
          (poison = false → data ≠ [] → put = .next ((s.regWake q.key).stall q))) ∧
        (s.barHeld = false → s.regWaits r.key = false → fn = 0 → 0 < len → off + len ≤ 0x4000000 →
          (s.blockOn (off / 0x100000) = false → ∃ u : State, get = .next (u.complete r (List.replicate len 0)) ∧ onlyRegs [R.pciCnt] s u ∧
            sameButRegs s u) ∧
          (s.blockOn (off / 0x100000) = true → s.regReset off = true → get = .next (s.prst r)) ∧
          (s.blockOn (off / 0x100000) = true → s.regReset off = false →
            get = .next ((s.regReadMsgs 80 (tag % 1024) off len).complete r (s.regBytes off len)))) ∧
        (s.barHeld = false → s.regWaits q.key = false → fn = 0 → poison = false → data ≠ [] → off + data.length ≤ 0x4000000 →
          (s.blockOn (off / 0x100000) = false → ∃ t, put = .next t ∧ onlyRegs [R.pciCnt] s t ∧ sameButRegs s t) ∧
          (s.blockOn (off / 0x100000) = true → s.regReset off = true → put = .next (s.prst q)) ∧
          (s.blockOn (off / 0x100000) = true → s.regReset off = false →
            put = .next (s.regNow ⟨blockOfReg off, off, data.length, leNat data, 80, tag % 1024⟩))) ∧
        (s.barHeld = false → s.regWaits r.key = false → 0 < fn → 0 < len → off + len ≤ 0x10000 →
          (s.tdiHeld (fn - 1) = true → tbit = false → get = .next (s.unsupported r)) ∧
          (s.tdiHeld (fn - 1) = false ∨ tbit = true → s.tenReset (fn - 1) = true → get = .next (s.prst r)) ∧
          (s.tdiHeld (fn - 1) = false ∨ tbit = true → s.tenReset (fn - 1) = false →
            get = .next ((s.regReadMsgs 80 (tag % 1024) r.key len).complete r (s.regBytes r.key len)))) ∧
        (s.barHeld = false → s.regWaits q.key = false → 0 < fn → poison = false → data ≠ [] → off + data.length ≤ 0x10000 →
          (s.tdiHeld (fn - 1) = true → tbit = false → put = .next (s.unsupported q)) ∧
          (s.tdiHeld (fn - 1) = false ∨ tbit = true → s.tenReset (fn - 1) = true → put = .next (s.prst q)) ∧
          (s.tdiHeld (fn - 1) = false ∨ tbit = true → s.tenReset (fn - 1) = false → put = .next (s.vfWrite (fn - 1) off data))))) ∧
    (s.hostStalls = false → s.hostUp = true →
      let r : HostReq := ⟨.bar2, 0, off, false, len, tag, [], dmg, false⟩
      let q : HostReq := ⟨.bar2, 0, off, true, 0, 0, data, poison, false⟩
      let get := exec (.hostBar2Read off len tag dmg) s
      let put := exec (.hostBar2Write off data poison) s
      (poison = true → put = .next (s.aer aerUnc 12)) ∧
      (s.memSpace 0 = false → get = .next (s.unsupported r) ∧ (poison = false → put = .next (s.aer aerUnc 20))) ∧
      (s.memSpace 0 = true → (len = 0 → get = .next (s.send .cpl [0, tag, 4] (List.replicate 4 0))) ∧ (poison = false → data = [] → put = .next s)) ∧
      (s.memSpace 0 = true → s.early = true → let u := s.radd R.pciCnt F.pciCnt_EARLY 1;
        (0 < len → get = .next (u.complete r (List.replicate len 0))) ∧ (poison = false → data ≠ [] → put = .next u)) ∧
      (s.memSpace 0 = true → s.early = false → vaultEnd < off + len → 0 < len → get = .next ((s.noteDecode 1 off).complete r (List.replicate len 0)) ∧
        (poison = false → data.length = len → put = .next (s.noteDecode 1 off))) ∧
      (s.memSpace 0 = true → s.early = false → off + len ≤ vaultEnd → 0 < len →
        let n := s.linesNew 72 [(off, len)]
        (s.bar2Held off len = true → get = .next ((s.unsupported r).noteDecode 1 off) ∧
          (poison = false → data.length = len → put = .next ((s.aer aerUnc 20).noteDecode 1 off))) ∧
        (s.bar2Held off len = false →
          (s.bar2Ready r [(off, len)] = false → get = .next (s.bar2Wait r [(off, len)])) ∧
          (s.bar2Ready r [(off, len)] = true →
            let x := (s.chargeFor r.who 72 n).moverRead r.who 72 1 off len
            let b := (x.1.bar2Train off len).bar2Bads false x.2.2
            get = .next (if dmg || !b.2 then (b.1.aer aerUnc 15).send .cplUr [0, tag, 4] [] else b.1.complete r x.2.1)) ∧
          (poison = false → data.length = len →
            (s.bar2Ready q [(off, len)] = false → put = .next (s.bar2Wait q [(off, len)])) ∧
            (s.bar2Ready q [(off, len)] = true → let w := (s.chargeFor q.who 72 n).moverWrite q.who 72 1 off data;
              put = .next (w.1.bar2Bads true w.2).1))))) ∧
    (s.hostStalls = false →
      (tn < s.pci.vfs → exec (.vfFlr tn) s = .next (s.vfFlr tn)) ∧ (s.pci.vfs ≤ tn → exec (.vfFlr tn) s = .next s) ∧
      (∃ t, exec .pf0Flr s = .next t ∧ t.pci.vfs = 0 ∧ t.pci.cfg = []) ∧
      (∃ t, exec .vfEnableClear s = .next t ∧ t.pci.vfs = 0 ∧ bitOf (t.cfgRaw 0 0x2C8 0) 0 = false)) ∧
    (s.hostStalls = false → s.rf R.pciStatus F.pciStatus_VF_READY ≠ 0 → ∃ t, exec .vfEnableSet s = .next t ∧
      t.pci.vfs = min (s.cfgRaw 0 0x2D0 0 % 2 ^ 16) (if bitOf (s.cfgRaw 0 0x2C8 0) 4 then 4096 else 7) ∧
      bitOf (t.cfgRaw 0 0x2C8 0) 0 = true ∧ onlyRegs [R.pciStatus] s t ∧ t = { s with pci := t.pci, regs := t.regs, shadow := t.shadow }) ∧
    (s.hostStalls = false → s.rf R.pciStatus F.pciStatus_VF_READY = 0 → exec .vfEnableSet s = .next s) ∧
    (∀ r x, s.hostReadOf tag = some r → r.left.find? (fun x => x.1 = tag) = some x →
      (cplCause st poison count x.2.2 data.length = none →
        exec (.pcieCompletion fn tag st poison count data) s = .next (s.pieceIn r x data).afterTag) ∧
      (∀ c, cplCause st poison count x.2.2 data.length = some c →
        exec (.pcieCompletion fn tag st poison count data) s = .next ((s.readFails r tag c).cplAer c).afterTag)) ∧
    (s.hostReadOf tag = none →
      (∀ o, s.pci.orphan.find? (fun o => o.1 = tag) = some o →
        (∃ u : State, (∀ c, cplCause st poison count o.2.1 data.length = some c →
            u.pci.orphan = s.pci.orphan.erase o ∧ exec (.pcieCompletion fn tag st poison count data) s =
              .next (match o.2.2 with | some f => ((u.hostFail f c).cplAer c).afterTag | none => u.afterTag)) ∧
          (cplCause st poison count o.2.1 data.length = none → (o.2.1 ≤ data.length → u.pci.orphan = s.pci.orphan.erase o) ∧
            exec (.pcieCompletion fn tag st poison count data) s = .next u.afterTag) ∧ u = { s with pci := { s.pci with orphan := u.pci.orphan } }) ∧
        (∃ u : State, u.pci.orphan = s.pci.orphan.erase o ∧ u = { s with pci := { s.pci with orphan := u.pci.orphan } } ∧
          ∃ v : State, v = (match o.2.2 with | some f => (u.hostFail f 1).aer aerUnc 14 | none => u) ∧
            exec (.completionTimeout tag) s = .next ({ v with pci := { v.pci with quar := v.pci.quar ++ [(tag, false)] } } : State).afterTag)) ∧
      (s.pci.orphan.find? (fun o => o.1 = tag) = none →
        exec (.completionTimeout tag) s = .next s ∧
        (∀ q, s.pci.quar.find? (fun q => q.1 = tag) = some q → ∃ u : State, exec (.pcieCompletion fn tag st poison count data) s =
          .next (u.lateCpl fn (!q.2)) ∧ u = { s with pci := { s.pci with quar := s.pci.quar.map (fun y => if y = q then (tag, true) else y) } } ∧
          (u.lateCpl fn (!q.2)).rf R.pciCnt F.pciCnt_LATE = satAdd (s.rf R.pciCnt F.pciCnt_LATE) 1 (2 ^ F.pciCnt_LATE.w - 1)) ∧
        (s.pci.quar.find? (fun q => q.1 = tag) = none →
          exec (.pcieCompletion fn tag st poison count data) s = .next (if s.hostUp then s.lateCpl fn true else s)))) ∧
    (∀ r, s.hostReadOf tag = some r → ∃ u : State, exec (.completionTimeout tag) s = .next u.afterTag ∧
      u.pci.quar = s.pci.quar ++ [(tag, false)] ∧ sameStores s u) ∧
    (∃ u : State, exec (.tagQuarantineEnd tag) s = .next u.afterTag ∧ (∀ q ∈ u.pci.quar, q.1 ≠ tag) ∧
      (∀ q ∈ s.pci.quar, q.1 ≠ tag → q ∈ u.pci.quar) ∧ u = { s with pci := u.pci })
end

