-- ==== Sys2Proof/Laws/Maps.lean ====
section
/-! SUPPORT. Laws of the sparse tables, the bit fields and the bytes by address: a read after a write, every other place
left alone, and the canonical forms kept. -/

namespace Sys2Proof.Machine

/-! ### Sparse tables -/

@[simp] theorem mget_mput_same {α : Type} (m : NMap α) (i : Nat) (x : α) : mget (mput m i x) i = some x := by
  induction m with
  | nil => simp [mput, mget]
  | cons p m ih =>
    obtain ⟨k, v⟩ := p
    unfold mput
    split
    · simp [mget]
    · split
      · simp [mget]
      · rename_i h
        simp [mget, h, ih]

theorem mget_mput_ne {α : Type} (m : NMap α) {i j : Nat} (x : α) (h : i ≠ j) : mget (mput m i x) j = mget m j := by
  induction m with
  | nil => simp [mput, mget, h]
  | cons p m ih =>
    obtain ⟨k, v⟩ := p
    unfold mput
    split
    · simp [mget, h]
    · split
      · rename_i hk
        subst hk
        simp [mget, h]
      · simp only [mget, ih]

theorem mget_mput {α : Type} (m : NMap α) (i j : Nat) (x : α) : mget (mput m i x) j = if i = j then some x else mget m j := by
  split
  · rename_i h; subst h; simp
  · rename_i h; exact mget_mput_ne m x h

@[simp] theorem mget_mdel_same {α : Type} (m : NMap α) (i : Nat) : mget (mdel m i) i = none := by
  induction m with
  | nil => simp [mdel, mget]
  | cons p m ih =>
    obtain ⟨k, v⟩ := p
    unfold mdel
    split
    · exact ih
    · rename_i h
      simp [mget, h, ih]

theorem mget_mdel_ne {α : Type} (m : NMap α) {i j : Nat} (h : i ≠ j) : mget (mdel m i) j = mget m j := by
  induction m with
  | nil => simp [mdel]
  | cons p m ih =>
    obtain ⟨k, v⟩ := p
    unfold mdel
    split
    · rename_i hk
      subst hk
      simp [mget, h, ih]
    · simp only [mget, ih]

theorem risingFrom_mono {α : Type} {m : NMap α} {b c : Nat} (hbc : c ≤ b) (h : risingFrom b m = true) :
    risingFrom c m = true := by
  cases m with
  | nil => rfl
  | cons p m =>
    obtain ⟨k, v⟩ := p
    simp only [risingFrom, Bool.and_eq_true, decide_eq_true_eq] at h ⊢
    exact ⟨by omega, h.2⟩

theorem risingFrom_mput {α : Type} (m : NMap α) (b i : Nat) (x : α) (hb : b ≤ i) (h : risingFrom b m = true) :
    risingFrom b (mput m i x) = true := by
  induction m generalizing b with
  | nil => simp [mput, risingFrom, hb]
  | cons p m ih =>
    obtain ⟨k, v⟩ := p
    simp only [risingFrom, Bool.and_eq_true, decide_eq_true_eq] at h
    unfold mput
    split
    · simp only [risingFrom, Bool.and_eq_true, decide_eq_true_eq]
      exact ⟨hb, by omega, h.2⟩
    · split
      · simp only [risingFrom, Bool.and_eq_true, decide_eq_true_eq]
        rename_i hk
        subst hk
        exact ⟨hb, h.2⟩
      · simp only [risingFrom, Bool.and_eq_true, decide_eq_true_eq]
        exact ⟨h.1, ih (k + 1) (by omega) h.2⟩

/-- A filter keeps the canonical form. -/
theorem risingFrom_filter {α : Type} (f : Nat × α → Bool) (m : NMap α) (b : Nat) (h : risingFrom b m = true) :
    risingFrom b (m.filter f) = true := by
  induction m generalizing b with
  | nil => rfl
  | cons p m ih =>
    obtain ⟨k, v⟩ := p
    simp only [risingFrom, Bool.and_eq_true, decide_eq_true_eq] at h
    rw [List.filter_cons]
    split
    · simp only [risingFrom, Bool.and_eq_true, decide_eq_true_eq]
      exact ⟨h.1, ih (k + 1) h.2⟩
    · exact risingFrom_mono (by omega) (ih (k + 1) h.2)

theorem mdel_eq_filter {α : Type} (m : NMap α) (i : Nat) : mdel m i = m.filter (fun p => decide (p.1 ≠ i)) := by
  induction m with
  | nil => rfl
  | cons p m ih =>
    obtain ⟨k, v⟩ := p
    unfold mdel
    rw [List.filter_cons]
    split
    · rename_i hk; simp [hk, ih]
    · rename_i hk; simp [hk, ih]

@[simp] theorem mrising_mput {α : Type} (m : NMap α) (i : Nat) (x : α) (h : mrising m = true) : mrising (mput m i x) = true :=
  risingFrom_mput m 0 i x (Nat.zero_le i) h

@[simp] theorem mrising_filter {α : Type} (f : Nat × α → Bool) (m : NMap α) (h : mrising m = true) :
    mrising (m.filter f) = true := risingFrom_filter f m 0 h

@[simp] theorem mrising_mdel {α : Type} (m : NMap α) (i : Nat) (h : mrising m = true) : mrising (mdel m i) = true := by
  rw [mdel_eq_filter]; exact mrising_filter _ m h

@[simp] theorem mrising_mset {α : Type} (m : NMap α) (i : Nat) (o : Option α) (h : mrising m = true) :
    mrising (mset m i o) = true := by
  cases o
  · exact mrising_mdel m i h
  · exact mrising_mput m i _ h

@[simp] theorem mrising_mmod {α : Type} (m : NMap α) (i : Nat) (f : α → α) (h : mrising m = true) :
    mrising (mmod m i f) = true := by
  unfold mmod
  split
  · exact mrising_mput m i _ h
  · exact h

@[simp] theorem mrising_nil {α : Type} : mrising ([] : NMap α) = true := rfl

@[simp] theorem mrising_dropShadow (m : NMap (Word × Word)) (k : Nat) (f : Fld) (h : mrising m = true) :
    mrising (dropShadow m k f) = true := mrising_mmod m k _ h

/-- A fold whose every step keeps the canonical form keeps it. -/
theorem mrising_foldl {α β : Type} (f : NMap α → β → NMap α) (hf : ∀ m x, mrising m = true → mrising (f m x) = true)
    (l : List β) (m : NMap α) (h : mrising m = true) : mrising (l.foldl f m) = true := by
  induction l generalizing m with
  | nil => exact h
  | cons x l ih => exact ih (f m x) (hf m x h)

/-! ### Bit fields -/

/-- A field set reads as the low bits of what it was set to. -/
theorem fget_fset (v : Word) (f : Fld) (x : Nat) (h : f.lo + f.w ≤ 64) : fget (fset v f x) f = x % 2 ^ f.w := by
  have e : (2 : Nat) ^ 64 = 2 ^ f.lo * (2 ^ f.w * 2 ^ (64 - f.lo - f.w)) := by
    rw [← Nat.pow_add, ← Nat.pow_add]; congr 1; omega
  unfold fget fset
  rw [BitVec.toNat_ofNat, e, Nat.mod_mul_right_div_self, Nat.mod_mul_right_mod]
  have hp : 0 < 2 ^ f.lo := Nat.two_pow_pos _
  have hr : v.toNat % 2 ^ f.lo < 2 ^ f.lo := Nat.mod_lt _ hp
  have hs : v.toNat / 2 ^ (f.lo + f.w) * 2 ^ (f.lo + f.w) + x % 2 ^ f.w * 2 ^ f.lo + v.toNat % 2 ^ f.lo
      = (v.toNat / 2 ^ (f.lo + f.w) * 2 ^ f.w + x % 2 ^ f.w) * 2 ^ f.lo + v.toNat % 2 ^ f.lo := by
    rw [Nat.pow_add 2 f.lo f.w, Nat.add_mul]; ring
  rw [hs, Nat.add_comm, Nat.add_mul_div_right _ _ hp, Nat.div_eq_of_lt hr, Nat.zero_add, Nat.add_comm,
    Nat.add_mul_mod_self_right, Nat.mod_mod]

/-- A field keeps its value when one that does not overlap it is set. -/
theorem fget_fset_ne (v : Word) (f g : Fld) (x : Nat) (hf : f.lo + f.w ≤ 64) (h : g.lo + g.w ≤ f.lo ∨ f.lo + f.w ≤ g.lo) :
    fget (fset v f x) g = fget v g := by
  have hv : v.toNat < 2 ^ 64 := v.isLt
  have hx : x % 2 ^ f.w < 2 ^ f.w := Nat.mod_lt _ (Nat.two_pow_pos _)
  have hr : v.toNat % 2 ^ f.lo < 2 ^ f.lo := Nat.mod_lt _ (Nat.two_pow_pos _)
  have hlt : v.toNat / 2 ^ (f.lo + f.w) * 2 ^ (f.lo + f.w) + x % 2 ^ f.w * 2 ^ f.lo + v.toNat % 2 ^ f.lo < 2 ^ 64 := by
    have e : (2 : Nat) ^ 64 = 2 ^ (64 - (f.lo + f.w)) * 2 ^ (f.lo + f.w) := by rw [← Nat.pow_add]; congr 1; omega
    have h1 : v.toNat / 2 ^ (f.lo + f.w) < 2 ^ (64 - (f.lo + f.w)) := by
      rw [Nat.div_lt_iff_lt_mul (Nat.two_pow_pos _), ← e]; exact hv
    have h2 : x % 2 ^ f.w * 2 ^ f.lo + v.toNat % 2 ^ f.lo < 2 ^ (f.lo + f.w) := by
      rw [Nat.pow_add, Nat.mul_comm (2 ^ f.lo)]
      nlinarith [Nat.two_pow_pos f.lo]
    rw [e]; nlinarith [Nat.two_pow_pos (f.lo + f.w)]
  have key (y : Nat) : ∀ i, ((v.toNat / 2 ^ (f.lo + f.w) * 2 ^ (f.lo + f.w) + y % 2 ^ f.w * 2 ^ f.lo + v.toNat % 2 ^ f.lo).testBit i) =
      if i < f.lo then v.toNat.testBit i else if i < f.lo + f.w then y.testBit (i - f.lo) else v.toNat.testBit i := by
    intro i
    have hs : v.toNat / 2 ^ (f.lo + f.w) * 2 ^ (f.lo + f.w) + y % 2 ^ f.w * 2 ^ f.lo + v.toNat % 2 ^ f.lo
        = 2 ^ f.lo * (2 ^ f.w * (v.toNat / 2 ^ (f.lo + f.w)) + y % 2 ^ f.w) + v.toNat % 2 ^ f.lo := by
      rw [Nat.pow_add 2 f.lo f.w]; ring
    rw [hs, Nat.testBit_two_pow_mul_add _ hr]
    split
    · rename_i h; simp [Nat.testBit_mod_two_pow, h]
    · rename_i h
      rw [Nat.testBit_two_pow_mul_add _ (Nat.mod_lt _ (Nat.two_pow_pos _))]
      split
      · rename_i h2
        have : i < f.lo + f.w := by omega
        simp [Nat.testBit_mod_two_pow, h2, this]
      · rename_i h2
        have : ¬ i < f.lo + f.w := by omega
        simp only [this, if_false, Nat.testBit_div_two_pow]
        congr 1; omega
  unfold fget fset
  rw [BitVec.toNat_ofNat, Nat.mod_eq_of_lt hlt]
  apply Nat.eq_of_testBit_eq
  intro i
  simp only [Nat.testBit_mod_two_pow, Nat.testBit_div_two_pow, key]
  by_cases hi : i < g.w
  · simp only [hi, decide_true, Bool.true_and]
    rcases h with h | h
    · simp [show i + g.lo < f.lo by omega]
    · simp [show ¬ i + g.lo < f.lo by omega, show ¬ i + g.lo < f.lo + f.w by omega]
  · simp [hi]

/-! ### Bytes by address -/

theorem cellsFrom_mono {m : List Host.Cell} {b c : Nat} (hbc : c ≤ b) (h : cellsFrom b m = true) : cellsFrom c m = true := by
  cases m with
  | nil => rfl
  | cons p m =>
    obtain ⟨k, v⟩ := p
    simp only [cellsFrom, Bool.and_eq_true, decide_eq_true_eq] at h ⊢
    exact ⟨⟨by omega, h.1.2⟩, h.2⟩

/-- An address below every listed one reads as 0. -/
theorem cellRead_below {m : List Host.Cell} {b a : Nat} (h : cellsFrom b m = true) (ha : a < b) : cellRead m a = 0 := by
  induction m generalizing b with
  | nil => rfl
  | cons p m ih =>
    obtain ⟨k, v⟩ := p
    simp only [cellsFrom, Bool.and_eq_true, decide_eq_true_eq] at h
    have hk : k ≠ a := by omega
    simp only [cellRead, hk, if_false]
    exact ih h.2 (by omega)

theorem cellsFrom_cellWrite (m : List Host.Cell) (b a : Nat) (x : Byte) (hb : b ≤ a) (h : cellsFrom b m = true) :
    cellsFrom b (cellWrite m a x) = true := by
  induction m generalizing b with
  | nil =>
    unfold cellWrite
    split
    · rfl
    · rename_i hx; simp [cellsFrom, hb]; simpa using hx
  | cons p m ih =>
    obtain ⟨k, v⟩ := p
    have h' := h
    simp only [cellsFrom, Bool.and_eq_true, decide_eq_true_eq] at h'
    unfold cellWrite
    split
    · split
      · exact h
      · rename_i hlt hx
        simp only [cellsFrom, Bool.and_eq_true, decide_eq_true_eq]
        exact ⟨⟨hb, by simpa using hx⟩, ⟨by omega, h'.1.2⟩, h'.2⟩
    · split
      · split
        · exact cellsFrom_mono (by omega) h'.2
        · rename_i hk hx
          subst hk
          simp only [cellsFrom, Bool.and_eq_true, decide_eq_true_eq]
          exact ⟨⟨hb, by simpa using hx⟩, h'.2⟩
      · simp only [cellsFrom, Bool.and_eq_true, decide_eq_true_eq]
        exact ⟨h'.1, ih (k + 1) (by omega) h'.2⟩

@[simp] theorem Memory.wf_cellWrite (m : List Host.Cell) (a : Nat) (x : Byte) (h : Memory.wf m = true) :
    Memory.wf (cellWrite m a x) = true := cellsFrom_cellWrite m 0 a x (Nat.zero_le a) h

@[simp] theorem Memory.wf_cellsWrite (bs : List Byte) (m : List Host.Cell) (a : Nat) (h : Memory.wf m = true) :
    Memory.wf (cellsWrite m a bs) = true := by
  induction bs generalizing m a with
  | nil => exact h
  | cons b bs ih => exact ih _ _ (Memory.wf_cellWrite m a b h)

theorem Memory.wf_foldl {β : Type} (f : List Host.Cell → β → List Host.Cell)
    (hf : ∀ m x, Memory.wf m = true → Memory.wf (f m x) = true) (l : List β) (m : List Host.Cell) (h : Memory.wf m = true) :
    Memory.wf (l.foldl f m) = true := by
  induction l generalizing m with
  | nil => exact h
  | cons x l ih => exact ih (f m x) (hf m x h)

@[simp] theorem Memory.wf_nil : Memory.wf [] = true := rfl

theorem cellRead_write_from (m : List Host.Cell) (b a : Nat) (x : Byte) (h : cellsFrom b m = true) :
    cellRead (cellWrite m a x) a = x := by
  induction m generalizing b with
  | nil =>
    unfold cellWrite
    split
    · rename_i hx; simp [cellRead, hx]
    · simp [cellRead]
  | cons p m ih =>
    obtain ⟨k, v⟩ := p
    have h' := h
    simp only [cellsFrom, Bool.and_eq_true, decide_eq_true_eq] at h'
    unfold cellWrite
    split
    · rename_i hlt
      split
      · rename_i hx
        have hk : k ≠ a := by omega
        simp only [cellRead, hk, if_false]
        rw [cellRead_below h'.2 (by omega), hx]
      · simp [cellRead]
    · split
      · rename_i hk
        split
        · rename_i hx
          rw [cellRead_below h'.2 (by omega), hx]
        · simp [cellRead]
      · rename_i hk
        simp only [cellRead, hk, if_false]
        exact ih (k + 1) h'.2

/-- A byte reads as it was written. -/
theorem cellRead_cellWrite (m : List Host.Cell) (a : Nat) (x : Byte) (h : Memory.wf m = true) :
    cellRead (cellWrite m a x) a = x := cellRead_write_from m 0 a x h

/-- A byte written leaves every other byte alone. -/
theorem cellRead_cellWrite_ne (m : List Host.Cell) {a c : Nat} (x : Byte) (hac : a ≠ c) :
    cellRead (cellWrite m a x) c = cellRead m c := by
  induction m with
  | nil =>
    unfold cellWrite
    split
    · rfl
    · simp [cellRead, hac]
  | cons p m ih =>
    obtain ⟨k, v⟩ := p
    unfold cellWrite
    split
    · split
      · rfl
      · simp [cellRead, hac]
    · split
      · rename_i hk
        subst hk
        split
        · simp [cellRead, hac]
        · simp [cellRead, hac]
      · simp only [cellRead, ih]

/-- Bytes written leave every byte outside them alone. -/
theorem cellRead_cellsWrite_out (bs : List Byte) (m : List Host.Cell) (a c : Nat) (h : c < a ∨ a + bs.length ≤ c) :
    cellRead (cellsWrite m a bs) c = cellRead m c := by
  induction bs generalizing m a with
  | nil => rfl
  | cons b bs ih =>
    simp only [List.length_cons] at h
    unfold cellsWrite
    rw [ih _ _ (by omega), cellRead_cellWrite_ne m b (by omega)]

/-- Bytes read as they were written. -/
theorem cellRead_cellsWrite_in (bs : List Byte) (m : List Host.Cell) (a i : Nat) (h : Memory.wf m = true)
    (hi : i < bs.length) : cellRead (cellsWrite m a bs) (a + i) = bs[i] := by
  induction bs generalizing m a i with
  | nil => simp at hi
  | cons b bs ih =>
    unfold cellsWrite
    cases i with
    | zero =>
      rw [cellRead_cellsWrite_out bs _ _ _ (by omega)]
      simpa using cellRead_cellWrite m a b h
    | succ i =>
      have e : a + (i + 1) = (a + 1) + i := by omega
      rw [e, ih _ _ _ (Memory.wf_cellWrite m a b h) (by simpa using hi)]
      simp

end Sys2Proof.Machine
end

