-- ==== Sys2Proof/Laws/State.lean ====
section
/-! SUPPORT. One lemma per field per named update: what each update of State leaves alone. Each is true by rfl. -/

namespace Sys2Proof.Machine

/-! State.rset -/

@[simp] theorem State.rset_pending (s : State) (key : Nat) (f : Fld) (x : Nat) : (s.rset key f x).pending = s.pending := (rfl)
@[simp] theorem State.rset_fresh (s : State) (key : Nat) (f : Fld) (x : Nat) : (s.rset key f x).fresh = s.fresh := (rfl)
@[simp] theorem State.rset_out (s : State) (key : Nat) (f : Fld) (x : Nat) : (s.rset key f x).out = s.out := (rfl)
@[simp] theorem State.rset_time (s : State) (key : Nat) (f : Fld) (x : Nat) : (s.rset key f x).time = s.time := (rfl)
@[simp] theorem State.rset_intake (s : State) (key : Nat) (f : Fld) (x : Nat) : (s.rset key f x).intake = s.intake := (rfl)
@[simp] theorem State.rset_man (s : State) (key : Nat) (f : Fld) (x : Nat) : (s.rset key f x).man = s.man := (rfl)
@[simp] theorem State.rset_parts (s : State) (key : Nat) (f : Fld) (x : Nat) : (s.rset key f x).parts = s.parts := (rfl)
@[simp] theorem State.rset_te (s : State) (key : Nat) (f : Fld) (x : Nat) : (s.rset key f x).te = s.te := (rfl)
@[simp] theorem State.rset_phys (s : State) (key : Nat) (f : Fld) (x : Nat) : (s.rset key f x).phys = s.phys := (rfl)
@[simp] theorem State.rset_holds (s : State) (key : Nat) (f : Fld) (x : Nat) : (s.rset key f x).holds = s.holds := (rfl)
@[simp] theorem State.rset_mem (s : State) (key : Nat) (f : Fld) (x : Nat) : (s.rset key f x).mem = s.mem := (rfl)
@[simp] theorem State.rset_lmeta (s : State) (key : Nat) (f : Fld) (x : Nat) : (s.rset key f x).lmeta = s.lmeta := (rfl)
@[simp] theorem State.rset_progs (s : State) (key : Nat) (f : Fld) (x : Nat) : (s.rset key f x).progs = s.progs := (rfl)
@[simp] theorem State.rset_loads (s : State) (key : Nat) (f : Fld) (x : Nat) : (s.rset key f x).loads = s.loads := (rfl)
@[simp] theorem State.rset_ended (s : State) (key : Nat) (f : Fld) (x : Nat) : (s.rset key f x).ended = s.ended := (rfl)
@[simp] theorem State.rset_endedPrev (s : State) (key : Nat) (f : Fld) (x : Nat) : (s.rset key f x).endedPrev = s.endedPrev := (rfl)
@[simp] theorem State.rset_bars (s : State) (key : Nat) (f : Fld) (x : Nat) : (s.rset key f x).bars = s.bars := (rfl)
@[simp] theorem State.rset_copies (s : State) (key : Nat) (f : Fld) (x : Nat) : (s.rset key f x).copies = s.copies := (rfl)
@[simp] theorem State.rset_deferred (s : State) (key : Nat) (f : Fld) (x : Nat) : (s.rset key f x).deferred = s.deferred := (rfl)
@[simp] theorem State.rset_rings (s : State) (key : Nat) (f : Fld) (x : Nat) : (s.rset key f x).rings = s.rings := (rfl)
@[simp] theorem State.rset_dtu (s : State) (key : Nat) (f : Fld) (x : Nat) : (s.rset key f x).dtu = s.dtu := (rfl)
@[simp] theorem State.rset_err (s : State) (key : Nat) (f : Fld) (x : Nat) : (s.rset key f x).err = s.err := (rfl)
@[simp] theorem State.rset_coh (s : State) (key : Nat) (f : Fld) (x : Nat) : (s.rset key f x).coh = s.coh := (rfl)
@[simp] theorem State.rset_heap (s : State) (key : Nat) (f : Fld) (x : Nat) : (s.rset key f x).heap = s.heap := (rfl)
@[simp] theorem State.rset_fab (s : State) (key : Nat) (f : Fld) (x : Nat) : (s.rset key f x).fab = s.fab := (rfl)
@[simp] theorem State.rset_slips (s : State) (key : Nat) (f : Fld) (x : Nat) : (s.rset key f x).slips = s.slips := (rfl)
@[simp] theorem State.rset_lrs (s : State) (key : Nat) (f : Fld) (x : Nat) : (s.rset key f x).lrs = s.lrs := (rfl)
@[simp] theorem State.rset_pci (s : State) (key : Nat) (f : Fld) (x : Nat) : (s.rset key f x).pci = s.pci := (rfl)
@[simp] theorem State.rset_pins (s : State) (key : Nat) (f : Fld) (x : Nat) : (s.rset key f x).pins = s.pins := (rfl)
@[simp] theorem State.rset_flash (s : State) (key : Nat) (f : Fld) (x : Nat) : (s.rset key f x).flash = s.flash := (rfl)
@[simp] theorem State.rset_brg (s : State) (key : Nat) (f : Fld) (x : Nat) : (s.rset key f x).brg = s.brg := (rfl)
@[simp] theorem State.rset_pwr (s : State) (key : Nat) (f : Fld) (x : Nat) : (s.rset key f x).pwr = s.pwr := (rfl)
@[simp] theorem State.rset_twin (s : State) (key : Nat) (f : Fld) (x : Nat) : (s.rset key f x).twin = s.twin := (rfl)
@[simp] theorem State.rset_sec (s : State) (key : Nat) (f : Fld) (x : Nat) : (s.rset key f x).sec = s.sec := (rfl)
@[simp] theorem State.rset_fuses (s : State) (key : Nat) (f : Fld) (x : Nat) : (s.rset key f x).fuses = s.fuses := (rfl)
@[simp] theorem State.rset_tap (s : State) (key : Nat) (f : Fld) (x : Nat) : (s.rset key f x).tap = s.tap := (rfl)

/-! State.rput -/

@[simp] theorem State.rput_pending (s : State) (key v : Nat) : (s.rput key v).pending = s.pending := (rfl)
@[simp] theorem State.rput_fresh (s : State) (key v : Nat) : (s.rput key v).fresh = s.fresh := (rfl)
@[simp] theorem State.rput_out (s : State) (key v : Nat) : (s.rput key v).out = s.out := (rfl)
@[simp] theorem State.rput_time (s : State) (key v : Nat) : (s.rput key v).time = s.time := (rfl)
@[simp] theorem State.rput_intake (s : State) (key v : Nat) : (s.rput key v).intake = s.intake := (rfl)
@[simp] theorem State.rput_man (s : State) (key v : Nat) : (s.rput key v).man = s.man := (rfl)
@[simp] theorem State.rput_parts (s : State) (key v : Nat) : (s.rput key v).parts = s.parts := (rfl)
@[simp] theorem State.rput_te (s : State) (key v : Nat) : (s.rput key v).te = s.te := (rfl)
@[simp] theorem State.rput_phys (s : State) (key v : Nat) : (s.rput key v).phys = s.phys := (rfl)
@[simp] theorem State.rput_holds (s : State) (key v : Nat) : (s.rput key v).holds = s.holds := (rfl)
@[simp] theorem State.rput_mem (s : State) (key v : Nat) : (s.rput key v).mem = s.mem := (rfl)
@[simp] theorem State.rput_lmeta (s : State) (key v : Nat) : (s.rput key v).lmeta = s.lmeta := (rfl)
@[simp] theorem State.rput_progs (s : State) (key v : Nat) : (s.rput key v).progs = s.progs := (rfl)
@[simp] theorem State.rput_loads (s : State) (key v : Nat) : (s.rput key v).loads = s.loads := (rfl)
@[simp] theorem State.rput_ended (s : State) (key v : Nat) : (s.rput key v).ended = s.ended := (rfl)
@[simp] theorem State.rput_endedPrev (s : State) (key v : Nat) : (s.rput key v).endedPrev = s.endedPrev := (rfl)
@[simp] theorem State.rput_bars (s : State) (key v : Nat) : (s.rput key v).bars = s.bars := (rfl)
@[simp] theorem State.rput_copies (s : State) (key v : Nat) : (s.rput key v).copies = s.copies := (rfl)
@[simp] theorem State.rput_deferred (s : State) (key v : Nat) : (s.rput key v).deferred = s.deferred := (rfl)
@[simp] theorem State.rput_rings (s : State) (key v : Nat) : (s.rput key v).rings = s.rings := (rfl)
@[simp] theorem State.rput_dtu (s : State) (key v : Nat) : (s.rput key v).dtu = s.dtu := (rfl)
@[simp] theorem State.rput_err (s : State) (key v : Nat) : (s.rput key v).err = s.err := (rfl)
@[simp] theorem State.rput_coh (s : State) (key v : Nat) : (s.rput key v).coh = s.coh := (rfl)
@[simp] theorem State.rput_heap (s : State) (key v : Nat) : (s.rput key v).heap = s.heap := (rfl)
@[simp] theorem State.rput_fab (s : State) (key v : Nat) : (s.rput key v).fab = s.fab := (rfl)
@[simp] theorem State.rput_slips (s : State) (key v : Nat) : (s.rput key v).slips = s.slips := (rfl)
@[simp] theorem State.rput_lrs (s : State) (key v : Nat) : (s.rput key v).lrs = s.lrs := (rfl)
@[simp] theorem State.rput_pci (s : State) (key v : Nat) : (s.rput key v).pci = s.pci := (rfl)
@[simp] theorem State.rput_pins (s : State) (key v : Nat) : (s.rput key v).pins = s.pins := (rfl)
@[simp] theorem State.rput_flash (s : State) (key v : Nat) : (s.rput key v).flash = s.flash := (rfl)
@[simp] theorem State.rput_brg (s : State) (key v : Nat) : (s.rput key v).brg = s.brg := (rfl)
@[simp] theorem State.rput_pwr (s : State) (key v : Nat) : (s.rput key v).pwr = s.pwr := (rfl)
@[simp] theorem State.rput_twin (s : State) (key v : Nat) : (s.rput key v).twin = s.twin := (rfl)
@[simp] theorem State.rput_sec (s : State) (key v : Nat) : (s.rput key v).sec = s.sec := (rfl)
@[simp] theorem State.rput_fuses (s : State) (key v : Nat) : (s.rput key v).fuses = s.fuses := (rfl)
@[simp] theorem State.rput_tap (s : State) (key v : Nat) : (s.rput key v).tap = s.tap := (rfl)

/-! State.radd -/

@[simp] theorem State.radd_pending (s : State) (key : Nat) (f : Fld) (n : Nat) : (s.radd key f n).pending = s.pending := (rfl)
@[simp] theorem State.radd_fresh (s : State) (key : Nat) (f : Fld) (n : Nat) : (s.radd key f n).fresh = s.fresh := (rfl)
@[simp] theorem State.radd_out (s : State) (key : Nat) (f : Fld) (n : Nat) : (s.radd key f n).out = s.out := (rfl)
@[simp] theorem State.radd_time (s : State) (key : Nat) (f : Fld) (n : Nat) : (s.radd key f n).time = s.time := (rfl)
@[simp] theorem State.radd_intake (s : State) (key : Nat) (f : Fld) (n : Nat) : (s.radd key f n).intake = s.intake := (rfl)
@[simp] theorem State.radd_man (s : State) (key : Nat) (f : Fld) (n : Nat) : (s.radd key f n).man = s.man := (rfl)
@[simp] theorem State.radd_parts (s : State) (key : Nat) (f : Fld) (n : Nat) : (s.radd key f n).parts = s.parts := (rfl)
@[simp] theorem State.radd_te (s : State) (key : Nat) (f : Fld) (n : Nat) : (s.radd key f n).te = s.te := (rfl)
@[simp] theorem State.radd_phys (s : State) (key : Nat) (f : Fld) (n : Nat) : (s.radd key f n).phys = s.phys := (rfl)
@[simp] theorem State.radd_holds (s : State) (key : Nat) (f : Fld) (n : Nat) : (s.radd key f n).holds = s.holds := (rfl)
@[simp] theorem State.radd_mem (s : State) (key : Nat) (f : Fld) (n : Nat) : (s.radd key f n).mem = s.mem := (rfl)
@[simp] theorem State.radd_lmeta (s : State) (key : Nat) (f : Fld) (n : Nat) : (s.radd key f n).lmeta = s.lmeta := (rfl)
@[simp] theorem State.radd_progs (s : State) (key : Nat) (f : Fld) (n : Nat) : (s.radd key f n).progs = s.progs := (rfl)
@[simp] theorem State.radd_loads (s : State) (key : Nat) (f : Fld) (n : Nat) : (s.radd key f n).loads = s.loads := (rfl)
@[simp] theorem State.radd_ended (s : State) (key : Nat) (f : Fld) (n : Nat) : (s.radd key f n).ended = s.ended := (rfl)
@[simp] theorem State.radd_endedPrev (s : State) (key : Nat) (f : Fld) (n : Nat) : (s.radd key f n).endedPrev = s.endedPrev := (rfl)
@[simp] theorem State.radd_bars (s : State) (key : Nat) (f : Fld) (n : Nat) : (s.radd key f n).bars = s.bars := (rfl)
@[simp] theorem State.radd_copies (s : State) (key : Nat) (f : Fld) (n : Nat) : (s.radd key f n).copies = s.copies := (rfl)
@[simp] theorem State.radd_deferred (s : State) (key : Nat) (f : Fld) (n : Nat) : (s.radd key f n).deferred = s.deferred := (rfl)
@[simp] theorem State.radd_rings (s : State) (key : Nat) (f : Fld) (n : Nat) : (s.radd key f n).rings = s.rings := (rfl)
@[simp] theorem State.radd_dtu (s : State) (key : Nat) (f : Fld) (n : Nat) : (s.radd key f n).dtu = s.dtu := (rfl)
@[simp] theorem State.radd_err (s : State) (key : Nat) (f : Fld) (n : Nat) : (s.radd key f n).err = s.err := (rfl)
@[simp] theorem State.radd_coh (s : State) (key : Nat) (f : Fld) (n : Nat) : (s.radd key f n).coh = s.coh := (rfl)
@[simp] theorem State.radd_heap (s : State) (key : Nat) (f : Fld) (n : Nat) : (s.radd key f n).heap = s.heap := (rfl)
@[simp] theorem State.radd_fab (s : State) (key : Nat) (f : Fld) (n : Nat) : (s.radd key f n).fab = s.fab := (rfl)
@[simp] theorem State.radd_slips (s : State) (key : Nat) (f : Fld) (n : Nat) : (s.radd key f n).slips = s.slips := (rfl)
@[simp] theorem State.radd_lrs (s : State) (key : Nat) (f : Fld) (n : Nat) : (s.radd key f n).lrs = s.lrs := (rfl)
@[simp] theorem State.radd_pci (s : State) (key : Nat) (f : Fld) (n : Nat) : (s.radd key f n).pci = s.pci := (rfl)
@[simp] theorem State.radd_pins (s : State) (key : Nat) (f : Fld) (n : Nat) : (s.radd key f n).pins = s.pins := (rfl)
@[simp] theorem State.radd_flash (s : State) (key : Nat) (f : Fld) (n : Nat) : (s.radd key f n).flash = s.flash := (rfl)
@[simp] theorem State.radd_brg (s : State) (key : Nat) (f : Fld) (n : Nat) : (s.radd key f n).brg = s.brg := (rfl)
@[simp] theorem State.radd_pwr (s : State) (key : Nat) (f : Fld) (n : Nat) : (s.radd key f n).pwr = s.pwr := (rfl)
@[simp] theorem State.radd_twin (s : State) (key : Nat) (f : Fld) (n : Nat) : (s.radd key f n).twin = s.twin := (rfl)
@[simp] theorem State.radd_sec (s : State) (key : Nat) (f : Fld) (n : Nat) : (s.radd key f n).sec = s.sec := (rfl)
@[simp] theorem State.radd_fuses (s : State) (key : Nat) (f : Fld) (n : Nat) : (s.radd key f n).fuses = s.fuses := (rfl)
@[simp] theorem State.radd_tap (s : State) (key : Nat) (f : Fld) (n : Nat) : (s.radd key f n).tap = s.tap := (rfl)

/-! State.rinc -/

@[simp] theorem State.rinc_pending (s : State) (key : Nat) (f : Fld) (n : Nat) : (s.rinc key f n).pending = s.pending := (rfl)
@[simp] theorem State.rinc_fresh (s : State) (key : Nat) (f : Fld) (n : Nat) : (s.rinc key f n).fresh = s.fresh := (rfl)
@[simp] theorem State.rinc_out (s : State) (key : Nat) (f : Fld) (n : Nat) : (s.rinc key f n).out = s.out := (rfl)
@[simp] theorem State.rinc_time (s : State) (key : Nat) (f : Fld) (n : Nat) : (s.rinc key f n).time = s.time := (rfl)
@[simp] theorem State.rinc_intake (s : State) (key : Nat) (f : Fld) (n : Nat) : (s.rinc key f n).intake = s.intake := (rfl)
@[simp] theorem State.rinc_man (s : State) (key : Nat) (f : Fld) (n : Nat) : (s.rinc key f n).man = s.man := (rfl)
@[simp] theorem State.rinc_parts (s : State) (key : Nat) (f : Fld) (n : Nat) : (s.rinc key f n).parts = s.parts := (rfl)
@[simp] theorem State.rinc_te (s : State) (key : Nat) (f : Fld) (n : Nat) : (s.rinc key f n).te = s.te := (rfl)
@[simp] theorem State.rinc_phys (s : State) (key : Nat) (f : Fld) (n : Nat) : (s.rinc key f n).phys = s.phys := (rfl)
@[simp] theorem State.rinc_holds (s : State) (key : Nat) (f : Fld) (n : Nat) : (s.rinc key f n).holds = s.holds := (rfl)
@[simp] theorem State.rinc_mem (s : State) (key : Nat) (f : Fld) (n : Nat) : (s.rinc key f n).mem = s.mem := (rfl)
@[simp] theorem State.rinc_lmeta (s : State) (key : Nat) (f : Fld) (n : Nat) : (s.rinc key f n).lmeta = s.lmeta := (rfl)
@[simp] theorem State.rinc_progs (s : State) (key : Nat) (f : Fld) (n : Nat) : (s.rinc key f n).progs = s.progs := (rfl)
@[simp] theorem State.rinc_loads (s : State) (key : Nat) (f : Fld) (n : Nat) : (s.rinc key f n).loads = s.loads := (rfl)
@[simp] theorem State.rinc_ended (s : State) (key : Nat) (f : Fld) (n : Nat) : (s.rinc key f n).ended = s.ended := (rfl)
@[simp] theorem State.rinc_endedPrev (s : State) (key : Nat) (f : Fld) (n : Nat) : (s.rinc key f n).endedPrev = s.endedPrev := (rfl)
@[simp] theorem State.rinc_bars (s : State) (key : Nat) (f : Fld) (n : Nat) : (s.rinc key f n).bars = s.bars := (rfl)
@[simp] theorem State.rinc_copies (s : State) (key : Nat) (f : Fld) (n : Nat) : (s.rinc key f n).copies = s.copies := (rfl)
@[simp] theorem State.rinc_deferred (s : State) (key : Nat) (f : Fld) (n : Nat) : (s.rinc key f n).deferred = s.deferred := (rfl)
@[simp] theorem State.rinc_rings (s : State) (key : Nat) (f : Fld) (n : Nat) : (s.rinc key f n).rings = s.rings := (rfl)
@[simp] theorem State.rinc_dtu (s : State) (key : Nat) (f : Fld) (n : Nat) : (s.rinc key f n).dtu = s.dtu := (rfl)
@[simp] theorem State.rinc_err (s : State) (key : Nat) (f : Fld) (n : Nat) : (s.rinc key f n).err = s.err := (rfl)
@[simp] theorem State.rinc_coh (s : State) (key : Nat) (f : Fld) (n : Nat) : (s.rinc key f n).coh = s.coh := (rfl)
@[simp] theorem State.rinc_heap (s : State) (key : Nat) (f : Fld) (n : Nat) : (s.rinc key f n).heap = s.heap := (rfl)
@[simp] theorem State.rinc_fab (s : State) (key : Nat) (f : Fld) (n : Nat) : (s.rinc key f n).fab = s.fab := (rfl)
@[simp] theorem State.rinc_slips (s : State) (key : Nat) (f : Fld) (n : Nat) : (s.rinc key f n).slips = s.slips := (rfl)
@[simp] theorem State.rinc_lrs (s : State) (key : Nat) (f : Fld) (n : Nat) : (s.rinc key f n).lrs = s.lrs := (rfl)
@[simp] theorem State.rinc_pci (s : State) (key : Nat) (f : Fld) (n : Nat) : (s.rinc key f n).pci = s.pci := (rfl)
@[simp] theorem State.rinc_pins (s : State) (key : Nat) (f : Fld) (n : Nat) : (s.rinc key f n).pins = s.pins := (rfl)
@[simp] theorem State.rinc_flash (s : State) (key : Nat) (f : Fld) (n : Nat) : (s.rinc key f n).flash = s.flash := (rfl)
@[simp] theorem State.rinc_brg (s : State) (key : Nat) (f : Fld) (n : Nat) : (s.rinc key f n).brg = s.brg := (rfl)
@[simp] theorem State.rinc_pwr (s : State) (key : Nat) (f : Fld) (n : Nat) : (s.rinc key f n).pwr = s.pwr := (rfl)
@[simp] theorem State.rinc_twin (s : State) (key : Nat) (f : Fld) (n : Nat) : (s.rinc key f n).twin = s.twin := (rfl)
@[simp] theorem State.rinc_sec (s : State) (key : Nat) (f : Fld) (n : Nat) : (s.rinc key f n).sec = s.sec := (rfl)
@[simp] theorem State.rinc_fuses (s : State) (key : Nat) (f : Fld) (n : Nat) : (s.rinc key f n).fuses = s.fuses := (rfl)
@[simp] theorem State.rinc_tap (s : State) (key : Nat) (f : Fld) (n : Nat) : (s.rinc key f n).tap = s.tap := (rfl)

/-! State.send -/

@[simp] theorem State.send_pending (s : State) (k : OutKind) (a : List Nat) (d : List Byte) : (s.send k a d).pending = s.pending := (rfl)
@[simp] theorem State.send_fresh (s : State) (k : OutKind) (a : List Nat) (d : List Byte) : (s.send k a d).fresh = s.fresh := (rfl)
@[simp] theorem State.send_regs (s : State) (k : OutKind) (a : List Nat) (d : List Byte) : (s.send k a d).regs = s.regs := (rfl)
@[simp] theorem State.send_shadow (s : State) (k : OutKind) (a : List Nat) (d : List Byte) : (s.send k a d).shadow = s.shadow := (rfl)
@[simp] theorem State.send_time (s : State) (k : OutKind) (a : List Nat) (d : List Byte) : (s.send k a d).time = s.time := (rfl)
@[simp] theorem State.send_intake (s : State) (k : OutKind) (a : List Nat) (d : List Byte) : (s.send k a d).intake = s.intake := (rfl)
@[simp] theorem State.send_man (s : State) (k : OutKind) (a : List Nat) (d : List Byte) : (s.send k a d).man = s.man := (rfl)
@[simp] theorem State.send_parts (s : State) (k : OutKind) (a : List Nat) (d : List Byte) : (s.send k a d).parts = s.parts := (rfl)
@[simp] theorem State.send_te (s : State) (k : OutKind) (a : List Nat) (d : List Byte) : (s.send k a d).te = s.te := (rfl)
@[simp] theorem State.send_phys (s : State) (k : OutKind) (a : List Nat) (d : List Byte) : (s.send k a d).phys = s.phys := (rfl)
@[simp] theorem State.send_holds (s : State) (k : OutKind) (a : List Nat) (d : List Byte) : (s.send k a d).holds = s.holds := (rfl)
@[simp] theorem State.send_mem (s : State) (k : OutKind) (a : List Nat) (d : List Byte) : (s.send k a d).mem = s.mem := (rfl)
@[simp] theorem State.send_lmeta (s : State) (k : OutKind) (a : List Nat) (d : List Byte) : (s.send k a d).lmeta = s.lmeta := (rfl)
@[simp] theorem State.send_progs (s : State) (k : OutKind) (a : List Nat) (d : List Byte) : (s.send k a d).progs = s.progs := (rfl)
@[simp] theorem State.send_loads (s : State) (k : OutKind) (a : List Nat) (d : List Byte) : (s.send k a d).loads = s.loads := (rfl)
@[simp] theorem State.send_ended (s : State) (k : OutKind) (a : List Nat) (d : List Byte) : (s.send k a d).ended = s.ended := (rfl)
@[simp] theorem State.send_endedPrev (s : State) (k : OutKind) (a : List Nat) (d : List Byte) : (s.send k a d).endedPrev = s.endedPrev := (rfl)
@[simp] theorem State.send_bars (s : State) (k : OutKind) (a : List Nat) (d : List Byte) : (s.send k a d).bars = s.bars := (rfl)
@[simp] theorem State.send_copies (s : State) (k : OutKind) (a : List Nat) (d : List Byte) : (s.send k a d).copies = s.copies := (rfl)
@[simp] theorem State.send_deferred (s : State) (k : OutKind) (a : List Nat) (d : List Byte) : (s.send k a d).deferred = s.deferred := (rfl)
@[simp] theorem State.send_rings (s : State) (k : OutKind) (a : List Nat) (d : List Byte) : (s.send k a d).rings = s.rings := (rfl)
@[simp] theorem State.send_dtu (s : State) (k : OutKind) (a : List Nat) (d : List Byte) : (s.send k a d).dtu = s.dtu := (rfl)
@[simp] theorem State.send_err (s : State) (k : OutKind) (a : List Nat) (d : List Byte) : (s.send k a d).err = s.err := (rfl)
@[simp] theorem State.send_coh (s : State) (k : OutKind) (a : List Nat) (d : List Byte) : (s.send k a d).coh = s.coh := (rfl)
@[simp] theorem State.send_heap (s : State) (k : OutKind) (a : List Nat) (d : List Byte) : (s.send k a d).heap = s.heap := (rfl)
@[simp] theorem State.send_fab (s : State) (k : OutKind) (a : List Nat) (d : List Byte) : (s.send k a d).fab = s.fab := (rfl)
@[simp] theorem State.send_slips (s : State) (k : OutKind) (a : List Nat) (d : List Byte) : (s.send k a d).slips = s.slips := (rfl)
@[simp] theorem State.send_lrs (s : State) (k : OutKind) (a : List Nat) (d : List Byte) : (s.send k a d).lrs = s.lrs := (rfl)
@[simp] theorem State.send_pci (s : State) (k : OutKind) (a : List Nat) (d : List Byte) : (s.send k a d).pci = s.pci := (rfl)
@[simp] theorem State.send_pins (s : State) (k : OutKind) (a : List Nat) (d : List Byte) : (s.send k a d).pins = s.pins := (rfl)
@[simp] theorem State.send_flash (s : State) (k : OutKind) (a : List Nat) (d : List Byte) : (s.send k a d).flash = s.flash := (rfl)
@[simp] theorem State.send_brg (s : State) (k : OutKind) (a : List Nat) (d : List Byte) : (s.send k a d).brg = s.brg := (rfl)
@[simp] theorem State.send_pwr (s : State) (k : OutKind) (a : List Nat) (d : List Byte) : (s.send k a d).pwr = s.pwr := (rfl)
@[simp] theorem State.send_twin (s : State) (k : OutKind) (a : List Nat) (d : List Byte) : (s.send k a d).twin = s.twin := (rfl)
@[simp] theorem State.send_sec (s : State) (k : OutKind) (a : List Nat) (d : List Byte) : (s.send k a d).sec = s.sec := (rfl)
@[simp] theorem State.send_fuses (s : State) (k : OutKind) (a : List Nat) (d : List Byte) : (s.send k a d).fuses = s.fuses := (rfl)
@[simp] theorem State.send_tap (s : State) (k : OutKind) (a : List Nat) (d : List Byte) : (s.send k a d).tap = s.tap := (rfl)

/-! State.tick -/

@[simp] theorem State.tick_pending (s : State)  : (s.tick).pending = s.pending := (rfl)
@[simp] theorem State.tick_out (s : State)  : (s.tick).out = s.out := (rfl)
@[simp] theorem State.tick_regs (s : State)  : (s.tick).regs = s.regs := (rfl)
@[simp] theorem State.tick_shadow (s : State)  : (s.tick).shadow = s.shadow := (rfl)
@[simp] theorem State.tick_time (s : State)  : (s.tick).time = s.time := (rfl)
@[simp] theorem State.tick_intake (s : State)  : (s.tick).intake = s.intake := (rfl)
@[simp] theorem State.tick_man (s : State)  : (s.tick).man = s.man := (rfl)
@[simp] theorem State.tick_parts (s : State)  : (s.tick).parts = s.parts := (rfl)
@[simp] theorem State.tick_te (s : State)  : (s.tick).te = s.te := (rfl)
@[simp] theorem State.tick_phys (s : State)  : (s.tick).phys = s.phys := (rfl)
@[simp] theorem State.tick_holds (s : State)  : (s.tick).holds = s.holds := (rfl)
@[simp] theorem State.tick_mem (s : State)  : (s.tick).mem = s.mem := (rfl)
@[simp] theorem State.tick_lmeta (s : State)  : (s.tick).lmeta = s.lmeta := (rfl)
@[simp] theorem State.tick_progs (s : State)  : (s.tick).progs = s.progs := (rfl)
@[simp] theorem State.tick_loads (s : State)  : (s.tick).loads = s.loads := (rfl)
@[simp] theorem State.tick_ended (s : State)  : (s.tick).ended = s.ended := (rfl)
@[simp] theorem State.tick_endedPrev (s : State)  : (s.tick).endedPrev = s.endedPrev := (rfl)
@[simp] theorem State.tick_bars (s : State)  : (s.tick).bars = s.bars := (rfl)
@[simp] theorem State.tick_copies (s : State)  : (s.tick).copies = s.copies := (rfl)
@[simp] theorem State.tick_deferred (s : State)  : (s.tick).deferred = s.deferred := (rfl)
@[simp] theorem State.tick_rings (s : State)  : (s.tick).rings = s.rings := (rfl)
@[simp] theorem State.tick_dtu (s : State)  : (s.tick).dtu = s.dtu := (rfl)
@[simp] theorem State.tick_err (s : State)  : (s.tick).err = s.err := (rfl)
@[simp] theorem State.tick_coh (s : State)  : (s.tick).coh = s.coh := (rfl)
@[simp] theorem State.tick_heap (s : State)  : (s.tick).heap = s.heap := (rfl)
@[simp] theorem State.tick_fab (s : State)  : (s.tick).fab = s.fab := (rfl)
@[simp] theorem State.tick_slips (s : State)  : (s.tick).slips = s.slips := (rfl)
@[simp] theorem State.tick_lrs (s : State)  : (s.tick).lrs = s.lrs := (rfl)
@[simp] theorem State.tick_pci (s : State)  : (s.tick).pci = s.pci := (rfl)
@[simp] theorem State.tick_pins (s : State)  : (s.tick).pins = s.pins := (rfl)
@[simp] theorem State.tick_flash (s : State)  : (s.tick).flash = s.flash := (rfl)
@[simp] theorem State.tick_brg (s : State)  : (s.tick).brg = s.brg := (rfl)
@[simp] theorem State.tick_pwr (s : State)  : (s.tick).pwr = s.pwr := (rfl)
@[simp] theorem State.tick_twin (s : State)  : (s.tick).twin = s.twin := (rfl)
@[simp] theorem State.tick_sec (s : State)  : (s.tick).sec = s.sec := (rfl)
@[simp] theorem State.tick_fuses (s : State)  : (s.tick).fuses = s.fuses := (rfl)
@[simp] theorem State.tick_tap (s : State)  : (s.tick).tap = s.tap := (rfl)

/-! State.captureAt -/

@[simp] theorem State.captureAt_pending (s : State) (key : Nat) (c : CapFlds) (x : Nat) : (s.captureAt key c x).pending = s.pending := (rfl)
@[simp] theorem State.captureAt_fresh (s : State) (key : Nat) (c : CapFlds) (x : Nat) : (s.captureAt key c x).fresh = s.fresh := (rfl)
@[simp] theorem State.captureAt_out (s : State) (key : Nat) (c : CapFlds) (x : Nat) : (s.captureAt key c x).out = s.out := (rfl)
@[simp] theorem State.captureAt_shadow (s : State) (key : Nat) (c : CapFlds) (x : Nat) : (s.captureAt key c x).shadow = s.shadow := (rfl)
@[simp] theorem State.captureAt_time (s : State) (key : Nat) (c : CapFlds) (x : Nat) : (s.captureAt key c x).time = s.time := (rfl)
@[simp] theorem State.captureAt_intake (s : State) (key : Nat) (c : CapFlds) (x : Nat) : (s.captureAt key c x).intake = s.intake := (rfl)
@[simp] theorem State.captureAt_man (s : State) (key : Nat) (c : CapFlds) (x : Nat) : (s.captureAt key c x).man = s.man := (rfl)
@[simp] theorem State.captureAt_parts (s : State) (key : Nat) (c : CapFlds) (x : Nat) : (s.captureAt key c x).parts = s.parts := (rfl)
@[simp] theorem State.captureAt_te (s : State) (key : Nat) (c : CapFlds) (x : Nat) : (s.captureAt key c x).te = s.te := (rfl)
@[simp] theorem State.captureAt_phys (s : State) (key : Nat) (c : CapFlds) (x : Nat) : (s.captureAt key c x).phys = s.phys := (rfl)
@[simp] theorem State.captureAt_holds (s : State) (key : Nat) (c : CapFlds) (x : Nat) : (s.captureAt key c x).holds = s.holds := (rfl)
@[simp] theorem State.captureAt_mem (s : State) (key : Nat) (c : CapFlds) (x : Nat) : (s.captureAt key c x).mem = s.mem := (rfl)
@[simp] theorem State.captureAt_lmeta (s : State) (key : Nat) (c : CapFlds) (x : Nat) : (s.captureAt key c x).lmeta = s.lmeta := (rfl)
@[simp] theorem State.captureAt_progs (s : State) (key : Nat) (c : CapFlds) (x : Nat) : (s.captureAt key c x).progs = s.progs := (rfl)
@[simp] theorem State.captureAt_loads (s : State) (key : Nat) (c : CapFlds) (x : Nat) : (s.captureAt key c x).loads = s.loads := (rfl)
@[simp] theorem State.captureAt_ended (s : State) (key : Nat) (c : CapFlds) (x : Nat) : (s.captureAt key c x).ended = s.ended := (rfl)
@[simp] theorem State.captureAt_endedPrev (s : State) (key : Nat) (c : CapFlds) (x : Nat) : (s.captureAt key c x).endedPrev = s.endedPrev := (rfl)
@[simp] theorem State.captureAt_bars (s : State) (key : Nat) (c : CapFlds) (x : Nat) : (s.captureAt key c x).bars = s.bars := (rfl)
@[simp] theorem State.captureAt_copies (s : State) (key : Nat) (c : CapFlds) (x : Nat) : (s.captureAt key c x).copies = s.copies := (rfl)
@[simp] theorem State.captureAt_deferred (s : State) (key : Nat) (c : CapFlds) (x : Nat) : (s.captureAt key c x).deferred = s.deferred := (rfl)
@[simp] theorem State.captureAt_rings (s : State) (key : Nat) (c : CapFlds) (x : Nat) : (s.captureAt key c x).rings = s.rings := (rfl)
@[simp] theorem State.captureAt_dtu (s : State) (key : Nat) (c : CapFlds) (x : Nat) : (s.captureAt key c x).dtu = s.dtu := (rfl)
@[simp] theorem State.captureAt_err (s : State) (key : Nat) (c : CapFlds) (x : Nat) : (s.captureAt key c x).err = s.err := (rfl)
@[simp] theorem State.captureAt_coh (s : State) (key : Nat) (c : CapFlds) (x : Nat) : (s.captureAt key c x).coh = s.coh := (rfl)
@[simp] theorem State.captureAt_heap (s : State) (key : Nat) (c : CapFlds) (x : Nat) : (s.captureAt key c x).heap = s.heap := (rfl)
@[simp] theorem State.captureAt_fab (s : State) (key : Nat) (c : CapFlds) (x : Nat) : (s.captureAt key c x).fab = s.fab := (rfl)
@[simp] theorem State.captureAt_slips (s : State) (key : Nat) (c : CapFlds) (x : Nat) : (s.captureAt key c x).slips = s.slips := (rfl)
@[simp] theorem State.captureAt_lrs (s : State) (key : Nat) (c : CapFlds) (x : Nat) : (s.captureAt key c x).lrs = s.lrs := (rfl)
@[simp] theorem State.captureAt_pci (s : State) (key : Nat) (c : CapFlds) (x : Nat) : (s.captureAt key c x).pci = s.pci := (rfl)
@[simp] theorem State.captureAt_pins (s : State) (key : Nat) (c : CapFlds) (x : Nat) : (s.captureAt key c x).pins = s.pins := (rfl)
@[simp] theorem State.captureAt_flash (s : State) (key : Nat) (c : CapFlds) (x : Nat) : (s.captureAt key c x).flash = s.flash := (rfl)
@[simp] theorem State.captureAt_brg (s : State) (key : Nat) (c : CapFlds) (x : Nat) : (s.captureAt key c x).brg = s.brg := (rfl)
@[simp] theorem State.captureAt_pwr (s : State) (key : Nat) (c : CapFlds) (x : Nat) : (s.captureAt key c x).pwr = s.pwr := (rfl)
@[simp] theorem State.captureAt_twin (s : State) (key : Nat) (c : CapFlds) (x : Nat) : (s.captureAt key c x).twin = s.twin := (rfl)
@[simp] theorem State.captureAt_sec (s : State) (key : Nat) (c : CapFlds) (x : Nat) : (s.captureAt key c x).sec = s.sec := (rfl)
@[simp] theorem State.captureAt_fuses (s : State) (key : Nat) (c : CapFlds) (x : Nat) : (s.captureAt key c x).fuses = s.fuses := (rfl)
@[simp] theorem State.captureAt_tap (s : State) (key : Nat) (c : CapFlds) (x : Nat) : (s.captureAt key c x).tap = s.tap := (rfl)

/-! State.report -/

@[simp] theorem State.report_pending (s : State) (r : ErrRep) : (s.report r).pending = s.pending := (rfl)
@[simp] theorem State.report_fresh (s : State) (r : ErrRep) : (s.report r).fresh = s.fresh := (rfl)
@[simp] theorem State.report_out (s : State) (r : ErrRep) : (s.report r).out = s.out := (rfl)
@[simp] theorem State.report_regs (s : State) (r : ErrRep) : (s.report r).regs = s.regs := (rfl)
@[simp] theorem State.report_shadow (s : State) (r : ErrRep) : (s.report r).shadow = s.shadow := (rfl)
@[simp] theorem State.report_time (s : State) (r : ErrRep) : (s.report r).time = s.time := (rfl)
@[simp] theorem State.report_intake (s : State) (r : ErrRep) : (s.report r).intake = s.intake := (rfl)
@[simp] theorem State.report_man (s : State) (r : ErrRep) : (s.report r).man = s.man := (rfl)
@[simp] theorem State.report_parts (s : State) (r : ErrRep) : (s.report r).parts = s.parts := (rfl)
@[simp] theorem State.report_te (s : State) (r : ErrRep) : (s.report r).te = s.te := (rfl)
@[simp] theorem State.report_phys (s : State) (r : ErrRep) : (s.report r).phys = s.phys := (rfl)
@[simp] theorem State.report_holds (s : State) (r : ErrRep) : (s.report r).holds = s.holds := (rfl)
@[simp] theorem State.report_mem (s : State) (r : ErrRep) : (s.report r).mem = s.mem := (rfl)
@[simp] theorem State.report_lmeta (s : State) (r : ErrRep) : (s.report r).lmeta = s.lmeta := (rfl)
@[simp] theorem State.report_progs (s : State) (r : ErrRep) : (s.report r).progs = s.progs := (rfl)
@[simp] theorem State.report_loads (s : State) (r : ErrRep) : (s.report r).loads = s.loads := (rfl)
@[simp] theorem State.report_ended (s : State) (r : ErrRep) : (s.report r).ended = s.ended := (rfl)
@[simp] theorem State.report_endedPrev (s : State) (r : ErrRep) : (s.report r).endedPrev = s.endedPrev := (rfl)
@[simp] theorem State.report_bars (s : State) (r : ErrRep) : (s.report r).bars = s.bars := (rfl)
@[simp] theorem State.report_copies (s : State) (r : ErrRep) : (s.report r).copies = s.copies := (rfl)
@[simp] theorem State.report_deferred (s : State) (r : ErrRep) : (s.report r).deferred = s.deferred := (rfl)
@[simp] theorem State.report_rings (s : State) (r : ErrRep) : (s.report r).rings = s.rings := (rfl)
@[simp] theorem State.report_dtu (s : State) (r : ErrRep) : (s.report r).dtu = s.dtu := (rfl)
@[simp] theorem State.report_coh (s : State) (r : ErrRep) : (s.report r).coh = s.coh := (rfl)
@[simp] theorem State.report_heap (s : State) (r : ErrRep) : (s.report r).heap = s.heap := (rfl)
@[simp] theorem State.report_fab (s : State) (r : ErrRep) : (s.report r).fab = s.fab := (rfl)
@[simp] theorem State.report_slips (s : State) (r : ErrRep) : (s.report r).slips = s.slips := (rfl)
@[simp] theorem State.report_lrs (s : State) (r : ErrRep) : (s.report r).lrs = s.lrs := (rfl)
@[simp] theorem State.report_pci (s : State) (r : ErrRep) : (s.report r).pci = s.pci := (rfl)
@[simp] theorem State.report_pins (s : State) (r : ErrRep) : (s.report r).pins = s.pins := (rfl)
@[simp] theorem State.report_flash (s : State) (r : ErrRep) : (s.report r).flash = s.flash := (rfl)
@[simp] theorem State.report_brg (s : State) (r : ErrRep) : (s.report r).brg = s.brg := (rfl)
@[simp] theorem State.report_pwr (s : State) (r : ErrRep) : (s.report r).pwr = s.pwr := (rfl)
@[simp] theorem State.report_twin (s : State) (r : ErrRep) : (s.report r).twin = s.twin := (rfl)
@[simp] theorem State.report_sec (s : State) (r : ErrRep) : (s.report r).sec = s.sec := (rfl)
@[simp] theorem State.report_fuses (s : State) (r : ErrRep) : (s.report r).fuses = s.fuses := (rfl)
@[simp] theorem State.report_tap (s : State) (r : ErrRep) : (s.report r).tap = s.tap := (rfl)

/-! State.errBare -/

@[simp] theorem State.errBare_pending (s : State) (a b c d : Nat) : (s.errBare a b c d).pending = s.pending := (rfl)
@[simp] theorem State.errBare_fresh (s : State) (a b c d : Nat) : (s.errBare a b c d).fresh = s.fresh := (rfl)
@[simp] theorem State.errBare_out (s : State) (a b c d : Nat) : (s.errBare a b c d).out = s.out := (rfl)
@[simp] theorem State.errBare_regs (s : State) (a b c d : Nat) : (s.errBare a b c d).regs = s.regs := (rfl)
@[simp] theorem State.errBare_shadow (s : State) (a b c d : Nat) : (s.errBare a b c d).shadow = s.shadow := (rfl)
@[simp] theorem State.errBare_time (s : State) (a b c d : Nat) : (s.errBare a b c d).time = s.time := (rfl)
@[simp] theorem State.errBare_intake (s : State) (a b c d : Nat) : (s.errBare a b c d).intake = s.intake := (rfl)
@[simp] theorem State.errBare_man (s : State) (a b c d : Nat) : (s.errBare a b c d).man = s.man := (rfl)
@[simp] theorem State.errBare_parts (s : State) (a b c d : Nat) : (s.errBare a b c d).parts = s.parts := (rfl)
@[simp] theorem State.errBare_te (s : State) (a b c d : Nat) : (s.errBare a b c d).te = s.te := (rfl)
@[simp] theorem State.errBare_phys (s : State) (a b c d : Nat) : (s.errBare a b c d).phys = s.phys := (rfl)
@[simp] theorem State.errBare_holds (s : State) (a b c d : Nat) : (s.errBare a b c d).holds = s.holds := (rfl)
@[simp] theorem State.errBare_mem (s : State) (a b c d : Nat) : (s.errBare a b c d).mem = s.mem := (rfl)
@[simp] theorem State.errBare_lmeta (s : State) (a b c d : Nat) : (s.errBare a b c d).lmeta = s.lmeta := (rfl)
@[simp] theorem State.errBare_progs (s : State) (a b c d : Nat) : (s.errBare a b c d).progs = s.progs := (rfl)
@[simp] theorem State.errBare_loads (s : State) (a b c d : Nat) : (s.errBare a b c d).loads = s.loads := (rfl)
@[simp] theorem State.errBare_ended (s : State) (a b c d : Nat) : (s.errBare a b c d).ended = s.ended := (rfl)
@[simp] theorem State.errBare_endedPrev (s : State) (a b c d : Nat) : (s.errBare a b c d).endedPrev = s.endedPrev := (rfl)
@[simp] theorem State.errBare_bars (s : State) (a b c d : Nat) : (s.errBare a b c d).bars = s.bars := (rfl)
@[simp] theorem State.errBare_copies (s : State) (a b c d : Nat) : (s.errBare a b c d).copies = s.copies := (rfl)
@[simp] theorem State.errBare_deferred (s : State) (a b c d : Nat) : (s.errBare a b c d).deferred = s.deferred := (rfl)
@[simp] theorem State.errBare_rings (s : State) (a b c d : Nat) : (s.errBare a b c d).rings = s.rings := (rfl)
@[simp] theorem State.errBare_dtu (s : State) (a b c d : Nat) : (s.errBare a b c d).dtu = s.dtu := (rfl)
@[simp] theorem State.errBare_coh (s : State) (a b c d : Nat) : (s.errBare a b c d).coh = s.coh := (rfl)
@[simp] theorem State.errBare_heap (s : State) (a b c d : Nat) : (s.errBare a b c d).heap = s.heap := (rfl)
@[simp] theorem State.errBare_fab (s : State) (a b c d : Nat) : (s.errBare a b c d).fab = s.fab := (rfl)
@[simp] theorem State.errBare_slips (s : State) (a b c d : Nat) : (s.errBare a b c d).slips = s.slips := (rfl)
@[simp] theorem State.errBare_lrs (s : State) (a b c d : Nat) : (s.errBare a b c d).lrs = s.lrs := (rfl)
@[simp] theorem State.errBare_pci (s : State) (a b c d : Nat) : (s.errBare a b c d).pci = s.pci := (rfl)
@[simp] theorem State.errBare_pins (s : State) (a b c d : Nat) : (s.errBare a b c d).pins = s.pins := (rfl)
@[simp] theorem State.errBare_flash (s : State) (a b c d : Nat) : (s.errBare a b c d).flash = s.flash := (rfl)
@[simp] theorem State.errBare_brg (s : State) (a b c d : Nat) : (s.errBare a b c d).brg = s.brg := (rfl)
@[simp] theorem State.errBare_pwr (s : State) (a b c d : Nat) : (s.errBare a b c d).pwr = s.pwr := (rfl)
@[simp] theorem State.errBare_twin (s : State) (a b c d : Nat) : (s.errBare a b c d).twin = s.twin := (rfl)
@[simp] theorem State.errBare_sec (s : State) (a b c d : Nat) : (s.errBare a b c d).sec = s.sec := (rfl)
@[simp] theorem State.errBare_fuses (s : State) (a b c d : Nat) : (s.errBare a b c d).fuses = s.fuses := (rfl)
@[simp] theorem State.errBare_tap (s : State) (a b c d : Nat) : (s.errBare a b c d).tap = s.tap := (rfl)

/-! State.setPart -/

@[simp] theorem State.setPart_pending (s : State) (p : Nat) (x : PartSt) : (s.setPart p x).pending = s.pending := (rfl)
@[simp] theorem State.setPart_fresh (s : State) (p : Nat) (x : PartSt) : (s.setPart p x).fresh = s.fresh := (rfl)
@[simp] theorem State.setPart_out (s : State) (p : Nat) (x : PartSt) : (s.setPart p x).out = s.out := (rfl)
@[simp] theorem State.setPart_regs (s : State) (p : Nat) (x : PartSt) : (s.setPart p x).regs = s.regs := (rfl)
@[simp] theorem State.setPart_shadow (s : State) (p : Nat) (x : PartSt) : (s.setPart p x).shadow = s.shadow := (rfl)
@[simp] theorem State.setPart_time (s : State) (p : Nat) (x : PartSt) : (s.setPart p x).time = s.time := (rfl)
@[simp] theorem State.setPart_intake (s : State) (p : Nat) (x : PartSt) : (s.setPart p x).intake = s.intake := (rfl)
@[simp] theorem State.setPart_man (s : State) (p : Nat) (x : PartSt) : (s.setPart p x).man = s.man := (rfl)
@[simp] theorem State.setPart_te (s : State) (p : Nat) (x : PartSt) : (s.setPart p x).te = s.te := (rfl)
@[simp] theorem State.setPart_phys (s : State) (p : Nat) (x : PartSt) : (s.setPart p x).phys = s.phys := (rfl)
@[simp] theorem State.setPart_holds (s : State) (p : Nat) (x : PartSt) : (s.setPart p x).holds = s.holds := (rfl)
@[simp] theorem State.setPart_mem (s : State) (p : Nat) (x : PartSt) : (s.setPart p x).mem = s.mem := (rfl)
@[simp] theorem State.setPart_lmeta (s : State) (p : Nat) (x : PartSt) : (s.setPart p x).lmeta = s.lmeta := (rfl)
@[simp] theorem State.setPart_progs (s : State) (p : Nat) (x : PartSt) : (s.setPart p x).progs = s.progs := (rfl)
@[simp] theorem State.setPart_loads (s : State) (p : Nat) (x : PartSt) : (s.setPart p x).loads = s.loads := (rfl)
@[simp] theorem State.setPart_ended (s : State) (p : Nat) (x : PartSt) : (s.setPart p x).ended = s.ended := (rfl)
@[simp] theorem State.setPart_endedPrev (s : State) (p : Nat) (x : PartSt) : (s.setPart p x).endedPrev = s.endedPrev := (rfl)
@[simp] theorem State.setPart_bars (s : State) (p : Nat) (x : PartSt) : (s.setPart p x).bars = s.bars := (rfl)
@[simp] theorem State.setPart_copies (s : State) (p : Nat) (x : PartSt) : (s.setPart p x).copies = s.copies := (rfl)
@[simp] theorem State.setPart_deferred (s : State) (p : Nat) (x : PartSt) : (s.setPart p x).deferred = s.deferred := (rfl)
@[simp] theorem State.setPart_rings (s : State) (p : Nat) (x : PartSt) : (s.setPart p x).rings = s.rings := (rfl)
@[simp] theorem State.setPart_dtu (s : State) (p : Nat) (x : PartSt) : (s.setPart p x).dtu = s.dtu := (rfl)
@[simp] theorem State.setPart_err (s : State) (p : Nat) (x : PartSt) : (s.setPart p x).err = s.err := (rfl)
@[simp] theorem State.setPart_coh (s : State) (p : Nat) (x : PartSt) : (s.setPart p x).coh = s.coh := (rfl)
@[simp] theorem State.setPart_heap (s : State) (p : Nat) (x : PartSt) : (s.setPart p x).heap = s.heap := (rfl)
@[simp] theorem State.setPart_fab (s : State) (p : Nat) (x : PartSt) : (s.setPart p x).fab = s.fab := (rfl)
@[simp] theorem State.setPart_slips (s : State) (p : Nat) (x : PartSt) : (s.setPart p x).slips = s.slips := (rfl)
@[simp] theorem State.setPart_lrs (s : State) (p : Nat) (x : PartSt) : (s.setPart p x).lrs = s.lrs := (rfl)
@[simp] theorem State.setPart_pci (s : State) (p : Nat) (x : PartSt) : (s.setPart p x).pci = s.pci := (rfl)
@[simp] theorem State.setPart_pins (s : State) (p : Nat) (x : PartSt) : (s.setPart p x).pins = s.pins := (rfl)
@[simp] theorem State.setPart_flash (s : State) (p : Nat) (x : PartSt) : (s.setPart p x).flash = s.flash := (rfl)
@[simp] theorem State.setPart_brg (s : State) (p : Nat) (x : PartSt) : (s.setPart p x).brg = s.brg := (rfl)
@[simp] theorem State.setPart_pwr (s : State) (p : Nat) (x : PartSt) : (s.setPart p x).pwr = s.pwr := (rfl)
@[simp] theorem State.setPart_twin (s : State) (p : Nat) (x : PartSt) : (s.setPart p x).twin = s.twin := (rfl)
@[simp] theorem State.setPart_sec (s : State) (p : Nat) (x : PartSt) : (s.setPart p x).sec = s.sec := (rfl)
@[simp] theorem State.setPart_fuses (s : State) (p : Nat) (x : PartSt) : (s.setPart p x).fuses = s.fuses := (rfl)
@[simp] theorem State.setPart_tap (s : State) (p : Nat) (x : PartSt) : (s.setPart p x).tap = s.tap := (rfl)

/-! State.voidPart -/

@[simp] theorem State.voidPart_pending (s : State) (p a b c d : Nat) (t e : Option Nat) : (s.voidPart p a b c d t e).pending = s.pending := (rfl)
@[simp] theorem State.voidPart_fresh (s : State) (p a b c d : Nat) (t e : Option Nat) : (s.voidPart p a b c d t e).fresh = s.fresh := (rfl)
@[simp] theorem State.voidPart_out (s : State) (p a b c d : Nat) (t e : Option Nat) : (s.voidPart p a b c d t e).out = s.out := (rfl)
@[simp] theorem State.voidPart_regs (s : State) (p a b c d : Nat) (t e : Option Nat) : (s.voidPart p a b c d t e).regs = s.regs := (rfl)
@[simp] theorem State.voidPart_shadow (s : State) (p a b c d : Nat) (t e : Option Nat) : (s.voidPart p a b c d t e).shadow = s.shadow := (rfl)
@[simp] theorem State.voidPart_time (s : State) (p a b c d : Nat) (t e : Option Nat) : (s.voidPart p a b c d t e).time = s.time := (rfl)
@[simp] theorem State.voidPart_intake (s : State) (p a b c d : Nat) (t e : Option Nat) : (s.voidPart p a b c d t e).intake = s.intake := (rfl)
@[simp] theorem State.voidPart_man (s : State) (p a b c d : Nat) (t e : Option Nat) : (s.voidPart p a b c d t e).man = s.man := (rfl)
@[simp] theorem State.voidPart_te (s : State) (p a b c d : Nat) (t e : Option Nat) : (s.voidPart p a b c d t e).te = s.te := (rfl)
@[simp] theorem State.voidPart_phys (s : State) (p a b c d : Nat) (t e : Option Nat) : (s.voidPart p a b c d t e).phys = s.phys := (rfl)
@[simp] theorem State.voidPart_holds (s : State) (p a b c d : Nat) (t e : Option Nat) : (s.voidPart p a b c d t e).holds = s.holds := (rfl)
@[simp] theorem State.voidPart_mem (s : State) (p a b c d : Nat) (t e : Option Nat) : (s.voidPart p a b c d t e).mem = s.mem := (rfl)
@[simp] theorem State.voidPart_lmeta (s : State) (p a b c d : Nat) (t e : Option Nat) : (s.voidPart p a b c d t e).lmeta = s.lmeta := (rfl)
@[simp] theorem State.voidPart_progs (s : State) (p a b c d : Nat) (t e : Option Nat) : (s.voidPart p a b c d t e).progs = s.progs := (rfl)
@[simp] theorem State.voidPart_loads (s : State) (p a b c d : Nat) (t e : Option Nat) : (s.voidPart p a b c d t e).loads = s.loads := (rfl)
@[simp] theorem State.voidPart_ended (s : State) (p a b c d : Nat) (t e : Option Nat) : (s.voidPart p a b c d t e).ended = s.ended := (rfl)
@[simp] theorem State.voidPart_endedPrev (s : State) (p a b c d : Nat) (t e : Option Nat) : (s.voidPart p a b c d t e).endedPrev = s.endedPrev := (rfl)
@[simp] theorem State.voidPart_bars (s : State) (p a b c d : Nat) (t e : Option Nat) : (s.voidPart p a b c d t e).bars = s.bars := (rfl)
@[simp] theorem State.voidPart_copies (s : State) (p a b c d : Nat) (t e : Option Nat) : (s.voidPart p a b c d t e).copies = s.copies := (rfl)
@[simp] theorem State.voidPart_deferred (s : State) (p a b c d : Nat) (t e : Option Nat) : (s.voidPart p a b c d t e).deferred = s.deferred := (rfl)
@[simp] theorem State.voidPart_rings (s : State) (p a b c d : Nat) (t e : Option Nat) : (s.voidPart p a b c d t e).rings = s.rings := (rfl)
@[simp] theorem State.voidPart_dtu (s : State) (p a b c d : Nat) (t e : Option Nat) : (s.voidPart p a b c d t e).dtu = s.dtu := (rfl)
@[simp] theorem State.voidPart_coh (s : State) (p a b c d : Nat) (t e : Option Nat) : (s.voidPart p a b c d t e).coh = s.coh := (rfl)
@[simp] theorem State.voidPart_heap (s : State) (p a b c d : Nat) (t e : Option Nat) : (s.voidPart p a b c d t e).heap = s.heap := (rfl)
@[simp] theorem State.voidPart_fab (s : State) (p a b c d : Nat) (t e : Option Nat) : (s.voidPart p a b c d t e).fab = s.fab := (rfl)
@[simp] theorem State.voidPart_slips (s : State) (p a b c d : Nat) (t e : Option Nat) : (s.voidPart p a b c d t e).slips = s.slips := (rfl)
@[simp] theorem State.voidPart_lrs (s : State) (p a b c d : Nat) (t e : Option Nat) : (s.voidPart p a b c d t e).lrs = s.lrs := (rfl)
@[simp] theorem State.voidPart_pci (s : State) (p a b c d : Nat) (t e : Option Nat) : (s.voidPart p a b c d t e).pci = s.pci := (rfl)
@[simp] theorem State.voidPart_pins (s : State) (p a b c d : Nat) (t e : Option Nat) : (s.voidPart p a b c d t e).pins = s.pins := (rfl)
@[simp] theorem State.voidPart_flash (s : State) (p a b c d : Nat) (t e : Option Nat) : (s.voidPart p a b c d t e).flash = s.flash := (rfl)
@[simp] theorem State.voidPart_brg (s : State) (p a b c d : Nat) (t e : Option Nat) : (s.voidPart p a b c d t e).brg = s.brg := (rfl)
@[simp] theorem State.voidPart_pwr (s : State) (p a b c d : Nat) (t e : Option Nat) : (s.voidPart p a b c d t e).pwr = s.pwr := (rfl)
@[simp] theorem State.voidPart_twin (s : State) (p a b c d : Nat) (t e : Option Nat) : (s.voidPart p a b c d t e).twin = s.twin := (rfl)
@[simp] theorem State.voidPart_sec (s : State) (p a b c d : Nat) (t e : Option Nat) : (s.voidPart p a b c d t e).sec = s.sec := (rfl)
@[simp] theorem State.voidPart_fuses (s : State) (p a b c d : Nat) (t e : Option Nat) : (s.voidPart p a b c d t e).fuses = s.fuses := (rfl)
@[simp] theorem State.voidPart_tap (s : State) (p a b c d : Nat) (t e : Option Nat) : (s.voidPart p a b c d t e).tap = s.tap := (rfl)

/-! State.voidAll -/

@[simp] theorem State.voidAll_pending (s : State) (a b c d : Nat) (e : Option Nat) : (s.voidAll a b c d e).pending = s.pending := (rfl)
@[simp] theorem State.voidAll_fresh (s : State) (a b c d : Nat) (e : Option Nat) : (s.voidAll a b c d e).fresh = s.fresh := (rfl)
@[simp] theorem State.voidAll_out (s : State) (a b c d : Nat) (e : Option Nat) : (s.voidAll a b c d e).out = s.out := (rfl)
@[simp] theorem State.voidAll_regs (s : State) (a b c d : Nat) (e : Option Nat) : (s.voidAll a b c d e).regs = s.regs := (rfl)
@[simp] theorem State.voidAll_shadow (s : State) (a b c d : Nat) (e : Option Nat) : (s.voidAll a b c d e).shadow = s.shadow := (rfl)
@[simp] theorem State.voidAll_time (s : State) (a b c d : Nat) (e : Option Nat) : (s.voidAll a b c d e).time = s.time := (rfl)
@[simp] theorem State.voidAll_intake (s : State) (a b c d : Nat) (e : Option Nat) : (s.voidAll a b c d e).intake = s.intake := (rfl)
@[simp] theorem State.voidAll_man (s : State) (a b c d : Nat) (e : Option Nat) : (s.voidAll a b c d e).man = s.man := (rfl)
@[simp] theorem State.voidAll_te (s : State) (a b c d : Nat) (e : Option Nat) : (s.voidAll a b c d e).te = s.te := (rfl)
@[simp] theorem State.voidAll_phys (s : State) (a b c d : Nat) (e : Option Nat) : (s.voidAll a b c d e).phys = s.phys := (rfl)
@[simp] theorem State.voidAll_holds (s : State) (a b c d : Nat) (e : Option Nat) : (s.voidAll a b c d e).holds = s.holds := (rfl)
@[simp] theorem State.voidAll_mem (s : State) (a b c d : Nat) (e : Option Nat) : (s.voidAll a b c d e).mem = s.mem := (rfl)
@[simp] theorem State.voidAll_lmeta (s : State) (a b c d : Nat) (e : Option Nat) : (s.voidAll a b c d e).lmeta = s.lmeta := (rfl)
@[simp] theorem State.voidAll_progs (s : State) (a b c d : Nat) (e : Option Nat) : (s.voidAll a b c d e).progs = s.progs := (rfl)
@[simp] theorem State.voidAll_loads (s : State) (a b c d : Nat) (e : Option Nat) : (s.voidAll a b c d e).loads = s.loads := (rfl)
@[simp] theorem State.voidAll_ended (s : State) (a b c d : Nat) (e : Option Nat) : (s.voidAll a b c d e).ended = s.ended := (rfl)
@[simp] theorem State.voidAll_endedPrev (s : State) (a b c d : Nat) (e : Option Nat) : (s.voidAll a b c d e).endedPrev = s.endedPrev := (rfl)
@[simp] theorem State.voidAll_bars (s : State) (a b c d : Nat) (e : Option Nat) : (s.voidAll a b c d e).bars = s.bars := (rfl)
@[simp] theorem State.voidAll_copies (s : State) (a b c d : Nat) (e : Option Nat) : (s.voidAll a b c d e).copies = s.copies := (rfl)
@[simp] theorem State.voidAll_deferred (s : State) (a b c d : Nat) (e : Option Nat) : (s.voidAll a b c d e).deferred = s.deferred := (rfl)
@[simp] theorem State.voidAll_rings (s : State) (a b c d : Nat) (e : Option Nat) : (s.voidAll a b c d e).rings = s.rings := (rfl)
@[simp] theorem State.voidAll_dtu (s : State) (a b c d : Nat) (e : Option Nat) : (s.voidAll a b c d e).dtu = s.dtu := (rfl)
@[simp] theorem State.voidAll_coh (s : State) (a b c d : Nat) (e : Option Nat) : (s.voidAll a b c d e).coh = s.coh := (rfl)
@[simp] theorem State.voidAll_heap (s : State) (a b c d : Nat) (e : Option Nat) : (s.voidAll a b c d e).heap = s.heap := (rfl)
@[simp] theorem State.voidAll_fab (s : State) (a b c d : Nat) (e : Option Nat) : (s.voidAll a b c d e).fab = s.fab := (rfl)
@[simp] theorem State.voidAll_slips (s : State) (a b c d : Nat) (e : Option Nat) : (s.voidAll a b c d e).slips = s.slips := (rfl)
@[simp] theorem State.voidAll_lrs (s : State) (a b c d : Nat) (e : Option Nat) : (s.voidAll a b c d e).lrs = s.lrs := (rfl)
@[simp] theorem State.voidAll_pci (s : State) (a b c d : Nat) (e : Option Nat) : (s.voidAll a b c d e).pci = s.pci := (rfl)
@[simp] theorem State.voidAll_pins (s : State) (a b c d : Nat) (e : Option Nat) : (s.voidAll a b c d e).pins = s.pins := (rfl)
@[simp] theorem State.voidAll_flash (s : State) (a b c d : Nat) (e : Option Nat) : (s.voidAll a b c d e).flash = s.flash := (rfl)
@[simp] theorem State.voidAll_brg (s : State) (a b c d : Nat) (e : Option Nat) : (s.voidAll a b c d e).brg = s.brg := (rfl)
@[simp] theorem State.voidAll_pwr (s : State) (a b c d : Nat) (e : Option Nat) : (s.voidAll a b c d e).pwr = s.pwr := (rfl)
@[simp] theorem State.voidAll_twin (s : State) (a b c d : Nat) (e : Option Nat) : (s.voidAll a b c d e).twin = s.twin := (rfl)
@[simp] theorem State.voidAll_sec (s : State) (a b c d : Nat) (e : Option Nat) : (s.voidAll a b c d e).sec = s.sec := (rfl)
@[simp] theorem State.voidAll_fuses (s : State) (a b c d : Nat) (e : Option Nat) : (s.voidAll a b c d e).fuses = s.fuses := (rfl)
@[simp] theorem State.voidAll_tap (s : State) (a b c d : Nat) (e : Option Nat) : (s.voidAll a b c d e).tap = s.tap := (rfl)

/-! State.setPh -/

@[simp] theorem State.setPh_pending (s : State) (x : Nat) (p : PhysSt) : (s.setPh x p).pending = s.pending := (rfl)
@[simp] theorem State.setPh_fresh (s : State) (x : Nat) (p : PhysSt) : (s.setPh x p).fresh = s.fresh := (rfl)
@[simp] theorem State.setPh_out (s : State) (x : Nat) (p : PhysSt) : (s.setPh x p).out = s.out := (rfl)
@[simp] theorem State.setPh_regs (s : State) (x : Nat) (p : PhysSt) : (s.setPh x p).regs = s.regs := (rfl)
@[simp] theorem State.setPh_shadow (s : State) (x : Nat) (p : PhysSt) : (s.setPh x p).shadow = s.shadow := (rfl)
@[simp] theorem State.setPh_time (s : State) (x : Nat) (p : PhysSt) : (s.setPh x p).time = s.time := (rfl)
@[simp] theorem State.setPh_intake (s : State) (x : Nat) (p : PhysSt) : (s.setPh x p).intake = s.intake := (rfl)
@[simp] theorem State.setPh_man (s : State) (x : Nat) (p : PhysSt) : (s.setPh x p).man = s.man := (rfl)
@[simp] theorem State.setPh_parts (s : State) (x : Nat) (p : PhysSt) : (s.setPh x p).parts = s.parts := (rfl)
@[simp] theorem State.setPh_te (s : State) (x : Nat) (p : PhysSt) : (s.setPh x p).te = s.te := (rfl)
@[simp] theorem State.setPh_holds (s : State) (x : Nat) (p : PhysSt) : (s.setPh x p).holds = s.holds := (rfl)
@[simp] theorem State.setPh_mem (s : State) (x : Nat) (p : PhysSt) : (s.setPh x p).mem = s.mem := (rfl)
@[simp] theorem State.setPh_lmeta (s : State) (x : Nat) (p : PhysSt) : (s.setPh x p).lmeta = s.lmeta := (rfl)
@[simp] theorem State.setPh_progs (s : State) (x : Nat) (p : PhysSt) : (s.setPh x p).progs = s.progs := (rfl)
@[simp] theorem State.setPh_loads (s : State) (x : Nat) (p : PhysSt) : (s.setPh x p).loads = s.loads := (rfl)
@[simp] theorem State.setPh_ended (s : State) (x : Nat) (p : PhysSt) : (s.setPh x p).ended = s.ended := (rfl)
@[simp] theorem State.setPh_endedPrev (s : State) (x : Nat) (p : PhysSt) : (s.setPh x p).endedPrev = s.endedPrev := (rfl)
@[simp] theorem State.setPh_bars (s : State) (x : Nat) (p : PhysSt) : (s.setPh x p).bars = s.bars := (rfl)
@[simp] theorem State.setPh_copies (s : State) (x : Nat) (p : PhysSt) : (s.setPh x p).copies = s.copies := (rfl)
@[simp] theorem State.setPh_deferred (s : State) (x : Nat) (p : PhysSt) : (s.setPh x p).deferred = s.deferred := (rfl)
@[simp] theorem State.setPh_rings (s : State) (x : Nat) (p : PhysSt) : (s.setPh x p).rings = s.rings := (rfl)
@[simp] theorem State.setPh_dtu (s : State) (x : Nat) (p : PhysSt) : (s.setPh x p).dtu = s.dtu := (rfl)
@[simp] theorem State.setPh_err (s : State) (x : Nat) (p : PhysSt) : (s.setPh x p).err = s.err := (rfl)
@[simp] theorem State.setPh_coh (s : State) (x : Nat) (p : PhysSt) : (s.setPh x p).coh = s.coh := (rfl)
@[simp] theorem State.setPh_heap (s : State) (x : Nat) (p : PhysSt) : (s.setPh x p).heap = s.heap := (rfl)
@[simp] theorem State.setPh_fab (s : State) (x : Nat) (p : PhysSt) : (s.setPh x p).fab = s.fab := (rfl)
@[simp] theorem State.setPh_slips (s : State) (x : Nat) (p : PhysSt) : (s.setPh x p).slips = s.slips := (rfl)
@[simp] theorem State.setPh_lrs (s : State) (x : Nat) (p : PhysSt) : (s.setPh x p).lrs = s.lrs := (rfl)
@[simp] theorem State.setPh_pci (s : State) (x : Nat) (p : PhysSt) : (s.setPh x p).pci = s.pci := (rfl)
@[simp] theorem State.setPh_pins (s : State) (x : Nat) (p : PhysSt) : (s.setPh x p).pins = s.pins := (rfl)
@[simp] theorem State.setPh_flash (s : State) (x : Nat) (p : PhysSt) : (s.setPh x p).flash = s.flash := (rfl)
@[simp] theorem State.setPh_brg (s : State) (x : Nat) (p : PhysSt) : (s.setPh x p).brg = s.brg := (rfl)
@[simp] theorem State.setPh_pwr (s : State) (x : Nat) (p : PhysSt) : (s.setPh x p).pwr = s.pwr := (rfl)
@[simp] theorem State.setPh_twin (s : State) (x : Nat) (p : PhysSt) : (s.setPh x p).twin = s.twin := (rfl)
@[simp] theorem State.setPh_sec (s : State) (x : Nat) (p : PhysSt) : (s.setPh x p).sec = s.sec := (rfl)
@[simp] theorem State.setPh_fuses (s : State) (x : Nat) (p : PhysSt) : (s.setPh x p).fuses = s.fuses := (rfl)
@[simp] theorem State.setPh_tap (s : State) (x : Nat) (p : PhysSt) : (s.setPh x p).tap = s.tap := (rfl)

/-! State.setTe -/

@[simp] theorem State.setTe_pending (s : State) (k : Nat) (t : TeSt) : (s.setTe k t).pending = s.pending := (rfl)
@[simp] theorem State.setTe_fresh (s : State) (k : Nat) (t : TeSt) : (s.setTe k t).fresh = s.fresh := (rfl)
@[simp] theorem State.setTe_out (s : State) (k : Nat) (t : TeSt) : (s.setTe k t).out = s.out := (rfl)
@[simp] theorem State.setTe_regs (s : State) (k : Nat) (t : TeSt) : (s.setTe k t).regs = s.regs := (rfl)
@[simp] theorem State.setTe_shadow (s : State) (k : Nat) (t : TeSt) : (s.setTe k t).shadow = s.shadow := (rfl)
@[simp] theorem State.setTe_time (s : State) (k : Nat) (t : TeSt) : (s.setTe k t).time = s.time := (rfl)
@[simp] theorem State.setTe_intake (s : State) (k : Nat) (t : TeSt) : (s.setTe k t).intake = s.intake := (rfl)
@[simp] theorem State.setTe_man (s : State) (k : Nat) (t : TeSt) : (s.setTe k t).man = s.man := (rfl)
@[simp] theorem State.setTe_parts (s : State) (k : Nat) (t : TeSt) : (s.setTe k t).parts = s.parts := (rfl)
@[simp] theorem State.setTe_phys (s : State) (k : Nat) (t : TeSt) : (s.setTe k t).phys = s.phys := (rfl)
@[simp] theorem State.setTe_holds (s : State) (k : Nat) (t : TeSt) : (s.setTe k t).holds = s.holds := (rfl)
@[simp] theorem State.setTe_mem (s : State) (k : Nat) (t : TeSt) : (s.setTe k t).mem = s.mem := (rfl)
@[simp] theorem State.setTe_lmeta (s : State) (k : Nat) (t : TeSt) : (s.setTe k t).lmeta = s.lmeta := (rfl)
@[simp] theorem State.setTe_progs (s : State) (k : Nat) (t : TeSt) : (s.setTe k t).progs = s.progs := (rfl)
@[simp] theorem State.setTe_loads (s : State) (k : Nat) (t : TeSt) : (s.setTe k t).loads = s.loads := (rfl)
@[simp] theorem State.setTe_ended (s : State) (k : Nat) (t : TeSt) : (s.setTe k t).ended = s.ended := (rfl)
@[simp] theorem State.setTe_endedPrev (s : State) (k : Nat) (t : TeSt) : (s.setTe k t).endedPrev = s.endedPrev := (rfl)
@[simp] theorem State.setTe_bars (s : State) (k : Nat) (t : TeSt) : (s.setTe k t).bars = s.bars := (rfl)
@[simp] theorem State.setTe_copies (s : State) (k : Nat) (t : TeSt) : (s.setTe k t).copies = s.copies := (rfl)
@[simp] theorem State.setTe_deferred (s : State) (k : Nat) (t : TeSt) : (s.setTe k t).deferred = s.deferred := (rfl)
@[simp] theorem State.setTe_rings (s : State) (k : Nat) (t : TeSt) : (s.setTe k t).rings = s.rings := (rfl)
@[simp] theorem State.setTe_dtu (s : State) (k : Nat) (t : TeSt) : (s.setTe k t).dtu = s.dtu := (rfl)
@[simp] theorem State.setTe_err (s : State) (k : Nat) (t : TeSt) : (s.setTe k t).err = s.err := (rfl)
@[simp] theorem State.setTe_coh (s : State) (k : Nat) (t : TeSt) : (s.setTe k t).coh = s.coh := (rfl)
@[simp] theorem State.setTe_heap (s : State) (k : Nat) (t : TeSt) : (s.setTe k t).heap = s.heap := (rfl)
@[simp] theorem State.setTe_fab (s : State) (k : Nat) (t : TeSt) : (s.setTe k t).fab = s.fab := (rfl)
@[simp] theorem State.setTe_slips (s : State) (k : Nat) (t : TeSt) : (s.setTe k t).slips = s.slips := (rfl)
@[simp] theorem State.setTe_lrs (s : State) (k : Nat) (t : TeSt) : (s.setTe k t).lrs = s.lrs := (rfl)
@[simp] theorem State.setTe_pci (s : State) (k : Nat) (t : TeSt) : (s.setTe k t).pci = s.pci := (rfl)
@[simp] theorem State.setTe_pins (s : State) (k : Nat) (t : TeSt) : (s.setTe k t).pins = s.pins := (rfl)
@[simp] theorem State.setTe_flash (s : State) (k : Nat) (t : TeSt) : (s.setTe k t).flash = s.flash := (rfl)
@[simp] theorem State.setTe_brg (s : State) (k : Nat) (t : TeSt) : (s.setTe k t).brg = s.brg := (rfl)
@[simp] theorem State.setTe_pwr (s : State) (k : Nat) (t : TeSt) : (s.setTe k t).pwr = s.pwr := (rfl)
@[simp] theorem State.setTe_twin (s : State) (k : Nat) (t : TeSt) : (s.setTe k t).twin = s.twin := (rfl)
@[simp] theorem State.setTe_sec (s : State) (k : Nat) (t : TeSt) : (s.setTe k t).sec = s.sec := (rfl)
@[simp] theorem State.setTe_fuses (s : State) (k : Nat) (t : TeSt) : (s.setTe k t).fuses = s.fuses := (rfl)
@[simp] theorem State.setTe_tap (s : State) (k : Nat) (t : TeSt) : (s.setTe k t).tap = s.tap := (rfl)

/-! State.setLeg -/

@[simp] theorem State.setLeg_pending (s : State) (k : Nat) (r : LegRun) : (s.setLeg k r).pending = s.pending := (rfl)
@[simp] theorem State.setLeg_fresh (s : State) (k : Nat) (r : LegRun) : (s.setLeg k r).fresh = s.fresh := (rfl)
@[simp] theorem State.setLeg_out (s : State) (k : Nat) (r : LegRun) : (s.setLeg k r).out = s.out := (rfl)
@[simp] theorem State.setLeg_regs (s : State) (k : Nat) (r : LegRun) : (s.setLeg k r).regs = s.regs := (rfl)
@[simp] theorem State.setLeg_shadow (s : State) (k : Nat) (r : LegRun) : (s.setLeg k r).shadow = s.shadow := (rfl)
@[simp] theorem State.setLeg_time (s : State) (k : Nat) (r : LegRun) : (s.setLeg k r).time = s.time := (rfl)
@[simp] theorem State.setLeg_intake (s : State) (k : Nat) (r : LegRun) : (s.setLeg k r).intake = s.intake := (rfl)
@[simp] theorem State.setLeg_man (s : State) (k : Nat) (r : LegRun) : (s.setLeg k r).man = s.man := (rfl)
@[simp] theorem State.setLeg_parts (s : State) (k : Nat) (r : LegRun) : (s.setLeg k r).parts = s.parts := (rfl)
@[simp] theorem State.setLeg_phys (s : State) (k : Nat) (r : LegRun) : (s.setLeg k r).phys = s.phys := (rfl)
@[simp] theorem State.setLeg_holds (s : State) (k : Nat) (r : LegRun) : (s.setLeg k r).holds = s.holds := (rfl)
@[simp] theorem State.setLeg_mem (s : State) (k : Nat) (r : LegRun) : (s.setLeg k r).mem = s.mem := (rfl)
@[simp] theorem State.setLeg_lmeta (s : State) (k : Nat) (r : LegRun) : (s.setLeg k r).lmeta = s.lmeta := (rfl)
@[simp] theorem State.setLeg_progs (s : State) (k : Nat) (r : LegRun) : (s.setLeg k r).progs = s.progs := (rfl)
@[simp] theorem State.setLeg_loads (s : State) (k : Nat) (r : LegRun) : (s.setLeg k r).loads = s.loads := (rfl)
@[simp] theorem State.setLeg_ended (s : State) (k : Nat) (r : LegRun) : (s.setLeg k r).ended = s.ended := (rfl)
@[simp] theorem State.setLeg_endedPrev (s : State) (k : Nat) (r : LegRun) : (s.setLeg k r).endedPrev = s.endedPrev := (rfl)
@[simp] theorem State.setLeg_bars (s : State) (k : Nat) (r : LegRun) : (s.setLeg k r).bars = s.bars := (rfl)
@[simp] theorem State.setLeg_copies (s : State) (k : Nat) (r : LegRun) : (s.setLeg k r).copies = s.copies := (rfl)
@[simp] theorem State.setLeg_deferred (s : State) (k : Nat) (r : LegRun) : (s.setLeg k r).deferred = s.deferred := (rfl)
@[simp] theorem State.setLeg_rings (s : State) (k : Nat) (r : LegRun) : (s.setLeg k r).rings = s.rings := (rfl)
@[simp] theorem State.setLeg_dtu (s : State) (k : Nat) (r : LegRun) : (s.setLeg k r).dtu = s.dtu := (rfl)
@[simp] theorem State.setLeg_err (s : State) (k : Nat) (r : LegRun) : (s.setLeg k r).err = s.err := (rfl)
@[simp] theorem State.setLeg_coh (s : State) (k : Nat) (r : LegRun) : (s.setLeg k r).coh = s.coh := (rfl)
@[simp] theorem State.setLeg_heap (s : State) (k : Nat) (r : LegRun) : (s.setLeg k r).heap = s.heap := (rfl)
@[simp] theorem State.setLeg_fab (s : State) (k : Nat) (r : LegRun) : (s.setLeg k r).fab = s.fab := (rfl)
@[simp] theorem State.setLeg_slips (s : State) (k : Nat) (r : LegRun) : (s.setLeg k r).slips = s.slips := (rfl)
@[simp] theorem State.setLeg_lrs (s : State) (k : Nat) (r : LegRun) : (s.setLeg k r).lrs = s.lrs := (rfl)
@[simp] theorem State.setLeg_pci (s : State) (k : Nat) (r : LegRun) : (s.setLeg k r).pci = s.pci := (rfl)
@[simp] theorem State.setLeg_pins (s : State) (k : Nat) (r : LegRun) : (s.setLeg k r).pins = s.pins := (rfl)
@[simp] theorem State.setLeg_flash (s : State) (k : Nat) (r : LegRun) : (s.setLeg k r).flash = s.flash := (rfl)
@[simp] theorem State.setLeg_brg (s : State) (k : Nat) (r : LegRun) : (s.setLeg k r).brg = s.brg := (rfl)
@[simp] theorem State.setLeg_pwr (s : State) (k : Nat) (r : LegRun) : (s.setLeg k r).pwr = s.pwr := (rfl)
@[simp] theorem State.setLeg_twin (s : State) (k : Nat) (r : LegRun) : (s.setLeg k r).twin = s.twin := (rfl)
@[simp] theorem State.setLeg_sec (s : State) (k : Nat) (r : LegRun) : (s.setLeg k r).sec = s.sec := (rfl)
@[simp] theorem State.setLeg_fuses (s : State) (k : Nat) (r : LegRun) : (s.setLeg k r).fuses = s.fuses := (rfl)
@[simp] theorem State.setLeg_tap (s : State) (k : Nat) (r : LegRun) : (s.setLeg k r).tap = s.tap := (rfl)

/-! State.setVreg -/

@[simp] theorem State.setVreg_pending (s : State) (k v : Nat) (f : Nat → Nat) : (s.setVreg k v f).pending = s.pending := (rfl)
@[simp] theorem State.setVreg_fresh (s : State) (k v : Nat) (f : Nat → Nat) : (s.setVreg k v f).fresh = s.fresh := (rfl)
@[simp] theorem State.setVreg_out (s : State) (k v : Nat) (f : Nat → Nat) : (s.setVreg k v f).out = s.out := (rfl)
@[simp] theorem State.setVreg_regs (s : State) (k v : Nat) (f : Nat → Nat) : (s.setVreg k v f).regs = s.regs := (rfl)
@[simp] theorem State.setVreg_shadow (s : State) (k v : Nat) (f : Nat → Nat) : (s.setVreg k v f).shadow = s.shadow := (rfl)
@[simp] theorem State.setVreg_time (s : State) (k v : Nat) (f : Nat → Nat) : (s.setVreg k v f).time = s.time := (rfl)
@[simp] theorem State.setVreg_intake (s : State) (k v : Nat) (f : Nat → Nat) : (s.setVreg k v f).intake = s.intake := (rfl)
@[simp] theorem State.setVreg_man (s : State) (k v : Nat) (f : Nat → Nat) : (s.setVreg k v f).man = s.man := (rfl)
@[simp] theorem State.setVreg_parts (s : State) (k v : Nat) (f : Nat → Nat) : (s.setVreg k v f).parts = s.parts := (rfl)
@[simp] theorem State.setVreg_te (s : State) (k v : Nat) (f : Nat → Nat) : (s.setVreg k v f).te = s.te := (rfl)
@[simp] theorem State.setVreg_holds (s : State) (k v : Nat) (f : Nat → Nat) : (s.setVreg k v f).holds = s.holds := (rfl)
@[simp] theorem State.setVreg_mem (s : State) (k v : Nat) (f : Nat → Nat) : (s.setVreg k v f).mem = s.mem := (rfl)
@[simp] theorem State.setVreg_lmeta (s : State) (k v : Nat) (f : Nat → Nat) : (s.setVreg k v f).lmeta = s.lmeta := (rfl)
@[simp] theorem State.setVreg_progs (s : State) (k v : Nat) (f : Nat → Nat) : (s.setVreg k v f).progs = s.progs := (rfl)
@[simp] theorem State.setVreg_loads (s : State) (k v : Nat) (f : Nat → Nat) : (s.setVreg k v f).loads = s.loads := (rfl)
@[simp] theorem State.setVreg_ended (s : State) (k v : Nat) (f : Nat → Nat) : (s.setVreg k v f).ended = s.ended := (rfl)
@[simp] theorem State.setVreg_endedPrev (s : State) (k v : Nat) (f : Nat → Nat) : (s.setVreg k v f).endedPrev = s.endedPrev := (rfl)
@[simp] theorem State.setVreg_bars (s : State) (k v : Nat) (f : Nat → Nat) : (s.setVreg k v f).bars = s.bars := (rfl)
@[simp] theorem State.setVreg_copies (s : State) (k v : Nat) (f : Nat → Nat) : (s.setVreg k v f).copies = s.copies := (rfl)
@[simp] theorem State.setVreg_deferred (s : State) (k v : Nat) (f : Nat → Nat) : (s.setVreg k v f).deferred = s.deferred := (rfl)
@[simp] theorem State.setVreg_rings (s : State) (k v : Nat) (f : Nat → Nat) : (s.setVreg k v f).rings = s.rings := (rfl)
@[simp] theorem State.setVreg_dtu (s : State) (k v : Nat) (f : Nat → Nat) : (s.setVreg k v f).dtu = s.dtu := (rfl)
@[simp] theorem State.setVreg_err (s : State) (k v : Nat) (f : Nat → Nat) : (s.setVreg k v f).err = s.err := (rfl)
@[simp] theorem State.setVreg_coh (s : State) (k v : Nat) (f : Nat → Nat) : (s.setVreg k v f).coh = s.coh := (rfl)
@[simp] theorem State.setVreg_heap (s : State) (k v : Nat) (f : Nat → Nat) : (s.setVreg k v f).heap = s.heap := (rfl)
@[simp] theorem State.setVreg_fab (s : State) (k v : Nat) (f : Nat → Nat) : (s.setVreg k v f).fab = s.fab := (rfl)
@[simp] theorem State.setVreg_slips (s : State) (k v : Nat) (f : Nat → Nat) : (s.setVreg k v f).slips = s.slips := (rfl)
@[simp] theorem State.setVreg_lrs (s : State) (k v : Nat) (f : Nat → Nat) : (s.setVreg k v f).lrs = s.lrs := (rfl)
@[simp] theorem State.setVreg_pci (s : State) (k v : Nat) (f : Nat → Nat) : (s.setVreg k v f).pci = s.pci := (rfl)
@[simp] theorem State.setVreg_pins (s : State) (k v : Nat) (f : Nat → Nat) : (s.setVreg k v f).pins = s.pins := (rfl)
@[simp] theorem State.setVreg_flash (s : State) (k v : Nat) (f : Nat → Nat) : (s.setVreg k v f).flash = s.flash := (rfl)
@[simp] theorem State.setVreg_brg (s : State) (k v : Nat) (f : Nat → Nat) : (s.setVreg k v f).brg = s.brg := (rfl)
@[simp] theorem State.setVreg_pwr (s : State) (k v : Nat) (f : Nat → Nat) : (s.setVreg k v f).pwr = s.pwr := (rfl)
@[simp] theorem State.setVreg_twin (s : State) (k v : Nat) (f : Nat → Nat) : (s.setVreg k v f).twin = s.twin := (rfl)
@[simp] theorem State.setVreg_sec (s : State) (k v : Nat) (f : Nat → Nat) : (s.setVreg k v f).sec = s.sec := (rfl)
@[simp] theorem State.setVreg_fuses (s : State) (k v : Nat) (f : Nat → Nat) : (s.setVreg k v f).fuses = s.fuses := (rfl)
@[simp] theorem State.setVreg_tap (s : State) (k v : Nat) (f : Nat → Nat) : (s.setVreg k v f).tap = s.tap := (rfl)

/-! State.legEnd -/

@[simp] theorem State.legEnd_pending (s : State) (k : Nat) (r : LegRun) (a b : Nat) (c : Bool) : (s.legEnd k r a b c).pending = s.pending := (rfl)
@[simp] theorem State.legEnd_fresh (s : State) (k : Nat) (r : LegRun) (a b : Nat) (c : Bool) : (s.legEnd k r a b c).fresh = s.fresh := (rfl)
@[simp] theorem State.legEnd_out (s : State) (k : Nat) (r : LegRun) (a b : Nat) (c : Bool) : (s.legEnd k r a b c).out = s.out := (rfl)
@[simp] theorem State.legEnd_regs (s : State) (k : Nat) (r : LegRun) (a b : Nat) (c : Bool) : (s.legEnd k r a b c).regs = s.regs := (rfl)
@[simp] theorem State.legEnd_shadow (s : State) (k : Nat) (r : LegRun) (a b : Nat) (c : Bool) : (s.legEnd k r a b c).shadow = s.shadow := (rfl)
@[simp] theorem State.legEnd_time (s : State) (k : Nat) (r : LegRun) (a b : Nat) (c : Bool) : (s.legEnd k r a b c).time = s.time := (rfl)
@[simp] theorem State.legEnd_intake (s : State) (k : Nat) (r : LegRun) (a b : Nat) (c : Bool) : (s.legEnd k r a b c).intake = s.intake := (rfl)
@[simp] theorem State.legEnd_man (s : State) (k : Nat) (r : LegRun) (a b : Nat) (c : Bool) : (s.legEnd k r a b c).man = s.man := (rfl)
@[simp] theorem State.legEnd_parts (s : State) (k : Nat) (r : LegRun) (a b : Nat) (c : Bool) : (s.legEnd k r a b c).parts = s.parts := (rfl)
@[simp] theorem State.legEnd_te (s : State) (k : Nat) (r : LegRun) (a b : Nat) (c : Bool) : (s.legEnd k r a b c).te = s.te := (rfl)
@[simp] theorem State.legEnd_phys (s : State) (k : Nat) (r : LegRun) (a b : Nat) (c : Bool) : (s.legEnd k r a b c).phys = s.phys := (rfl)
@[simp] theorem State.legEnd_holds (s : State) (k : Nat) (r : LegRun) (a b : Nat) (c : Bool) : (s.legEnd k r a b c).holds = s.holds := (rfl)
@[simp] theorem State.legEnd_mem (s : State) (k : Nat) (r : LegRun) (a b : Nat) (c : Bool) : (s.legEnd k r a b c).mem = s.mem := (rfl)
@[simp] theorem State.legEnd_lmeta (s : State) (k : Nat) (r : LegRun) (a b : Nat) (c : Bool) : (s.legEnd k r a b c).lmeta = s.lmeta := (rfl)
@[simp] theorem State.legEnd_progs (s : State) (k : Nat) (r : LegRun) (a b : Nat) (c : Bool) : (s.legEnd k r a b c).progs = s.progs := (rfl)
@[simp] theorem State.legEnd_loads (s : State) (k : Nat) (r : LegRun) (a b : Nat) (c : Bool) : (s.legEnd k r a b c).loads = s.loads := (rfl)
@[simp] theorem State.legEnd_endedPrev (s : State) (k : Nat) (r : LegRun) (a b : Nat) (c : Bool) : (s.legEnd k r a b c).endedPrev = s.endedPrev := (rfl)
@[simp] theorem State.legEnd_bars (s : State) (k : Nat) (r : LegRun) (a b : Nat) (c : Bool) : (s.legEnd k r a b c).bars = s.bars := (rfl)
@[simp] theorem State.legEnd_copies (s : State) (k : Nat) (r : LegRun) (a b : Nat) (c : Bool) : (s.legEnd k r a b c).copies = s.copies := (rfl)
@[simp] theorem State.legEnd_deferred (s : State) (k : Nat) (r : LegRun) (a b : Nat) (c : Bool) : (s.legEnd k r a b c).deferred = s.deferred := (rfl)
@[simp] theorem State.legEnd_rings (s : State) (k : Nat) (r : LegRun) (a b : Nat) (c : Bool) : (s.legEnd k r a b c).rings = s.rings := (rfl)
@[simp] theorem State.legEnd_dtu (s : State) (k : Nat) (r : LegRun) (a b : Nat) (c : Bool) : (s.legEnd k r a b c).dtu = s.dtu := (rfl)
@[simp] theorem State.legEnd_err (s : State) (k : Nat) (r : LegRun) (a b : Nat) (c : Bool) : (s.legEnd k r a b c).err = s.err := (rfl)
@[simp] theorem State.legEnd_coh (s : State) (k : Nat) (r : LegRun) (a b : Nat) (c : Bool) : (s.legEnd k r a b c).coh = s.coh := (rfl)
@[simp] theorem State.legEnd_heap (s : State) (k : Nat) (r : LegRun) (a b : Nat) (c : Bool) : (s.legEnd k r a b c).heap = s.heap := (rfl)
@[simp] theorem State.legEnd_fab (s : State) (k : Nat) (r : LegRun) (a b : Nat) (c : Bool) : (s.legEnd k r a b c).fab = s.fab := (rfl)
@[simp] theorem State.legEnd_slips (s : State) (k : Nat) (r : LegRun) (a b : Nat) (c : Bool) : (s.legEnd k r a b c).slips = s.slips := (rfl)
@[simp] theorem State.legEnd_lrs (s : State) (k : Nat) (r : LegRun) (a b : Nat) (c : Bool) : (s.legEnd k r a b c).lrs = s.lrs := (rfl)
@[simp] theorem State.legEnd_pci (s : State) (k : Nat) (r : LegRun) (a b : Nat) (c : Bool) : (s.legEnd k r a b c).pci = s.pci := (rfl)
@[simp] theorem State.legEnd_pins (s : State) (k : Nat) (r : LegRun) (a b : Nat) (c : Bool) : (s.legEnd k r a b c).pins = s.pins := (rfl)
@[simp] theorem State.legEnd_flash (s : State) (k : Nat) (r : LegRun) (a b : Nat) (c : Bool) : (s.legEnd k r a b c).flash = s.flash := (rfl)
@[simp] theorem State.legEnd_brg (s : State) (k : Nat) (r : LegRun) (a b : Nat) (c : Bool) : (s.legEnd k r a b c).brg = s.brg := (rfl)
@[simp] theorem State.legEnd_pwr (s : State) (k : Nat) (r : LegRun) (a b : Nat) (c : Bool) : (s.legEnd k r a b c).pwr = s.pwr := (rfl)
@[simp] theorem State.legEnd_twin (s : State) (k : Nat) (r : LegRun) (a b : Nat) (c : Bool) : (s.legEnd k r a b c).twin = s.twin := (rfl)
@[simp] theorem State.legEnd_sec (s : State) (k : Nat) (r : LegRun) (a b : Nat) (c : Bool) : (s.legEnd k r a b c).sec = s.sec := (rfl)
@[simp] theorem State.legEnd_fuses (s : State) (k : Nat) (r : LegRun) (a b : Nat) (c : Bool) : (s.legEnd k r a b c).fuses = s.fuses := (rfl)
@[simp] theorem State.legEnd_tap (s : State) (k : Nat) (r : LegRun) (a b : Nat) (c : Bool) : (s.legEnd k r a b c).tap = s.tap := (rfl)

/-! State.setCoh -/

@[simp] theorem State.setCoh_pending (s : State) (x : CohSt) : (s.setCoh x).pending = s.pending := (rfl)
@[simp] theorem State.setCoh_fresh (s : State) (x : CohSt) : (s.setCoh x).fresh = s.fresh := (rfl)
@[simp] theorem State.setCoh_out (s : State) (x : CohSt) : (s.setCoh x).out = s.out := (rfl)
@[simp] theorem State.setCoh_regs (s : State) (x : CohSt) : (s.setCoh x).regs = s.regs := (rfl)
@[simp] theorem State.setCoh_shadow (s : State) (x : CohSt) : (s.setCoh x).shadow = s.shadow := (rfl)
@[simp] theorem State.setCoh_time (s : State) (x : CohSt) : (s.setCoh x).time = s.time := (rfl)
@[simp] theorem State.setCoh_intake (s : State) (x : CohSt) : (s.setCoh x).intake = s.intake := (rfl)
@[simp] theorem State.setCoh_man (s : State) (x : CohSt) : (s.setCoh x).man = s.man := (rfl)
@[simp] theorem State.setCoh_parts (s : State) (x : CohSt) : (s.setCoh x).parts = s.parts := (rfl)
@[simp] theorem State.setCoh_te (s : State) (x : CohSt) : (s.setCoh x).te = s.te := (rfl)
@[simp] theorem State.setCoh_phys (s : State) (x : CohSt) : (s.setCoh x).phys = s.phys := (rfl)
@[simp] theorem State.setCoh_holds (s : State) (x : CohSt) : (s.setCoh x).holds = s.holds := (rfl)
@[simp] theorem State.setCoh_mem (s : State) (x : CohSt) : (s.setCoh x).mem = s.mem := (rfl)
@[simp] theorem State.setCoh_lmeta (s : State) (x : CohSt) : (s.setCoh x).lmeta = s.lmeta := (rfl)
@[simp] theorem State.setCoh_progs (s : State) (x : CohSt) : (s.setCoh x).progs = s.progs := (rfl)
@[simp] theorem State.setCoh_loads (s : State) (x : CohSt) : (s.setCoh x).loads = s.loads := (rfl)
@[simp] theorem State.setCoh_ended (s : State) (x : CohSt) : (s.setCoh x).ended = s.ended := (rfl)
@[simp] theorem State.setCoh_endedPrev (s : State) (x : CohSt) : (s.setCoh x).endedPrev = s.endedPrev := (rfl)
@[simp] theorem State.setCoh_bars (s : State) (x : CohSt) : (s.setCoh x).bars = s.bars := (rfl)
@[simp] theorem State.setCoh_copies (s : State) (x : CohSt) : (s.setCoh x).copies = s.copies := (rfl)
@[simp] theorem State.setCoh_deferred (s : State) (x : CohSt) : (s.setCoh x).deferred = s.deferred := (rfl)
@[simp] theorem State.setCoh_rings (s : State) (x : CohSt) : (s.setCoh x).rings = s.rings := (rfl)
@[simp] theorem State.setCoh_dtu (s : State) (x : CohSt) : (s.setCoh x).dtu = s.dtu := (rfl)
@[simp] theorem State.setCoh_err (s : State) (x : CohSt) : (s.setCoh x).err = s.err := (rfl)
@[simp] theorem State.setCoh_heap (s : State) (x : CohSt) : (s.setCoh x).heap = s.heap := (rfl)
@[simp] theorem State.setCoh_fab (s : State) (x : CohSt) : (s.setCoh x).fab = s.fab := (rfl)
@[simp] theorem State.setCoh_slips (s : State) (x : CohSt) : (s.setCoh x).slips = s.slips := (rfl)
@[simp] theorem State.setCoh_lrs (s : State) (x : CohSt) : (s.setCoh x).lrs = s.lrs := (rfl)
@[simp] theorem State.setCoh_pci (s : State) (x : CohSt) : (s.setCoh x).pci = s.pci := (rfl)
@[simp] theorem State.setCoh_pins (s : State) (x : CohSt) : (s.setCoh x).pins = s.pins := (rfl)
@[simp] theorem State.setCoh_flash (s : State) (x : CohSt) : (s.setCoh x).flash = s.flash := (rfl)
@[simp] theorem State.setCoh_brg (s : State) (x : CohSt) : (s.setCoh x).brg = s.brg := (rfl)
@[simp] theorem State.setCoh_pwr (s : State) (x : CohSt) : (s.setCoh x).pwr = s.pwr := (rfl)
@[simp] theorem State.setCoh_twin (s : State) (x : CohSt) : (s.setCoh x).twin = s.twin := (rfl)
@[simp] theorem State.setCoh_sec (s : State) (x : CohSt) : (s.setCoh x).sec = s.sec := (rfl)
@[simp] theorem State.setCoh_fuses (s : State) (x : CohSt) : (s.setCoh x).fuses = s.fuses := (rfl)
@[simp] theorem State.setCoh_tap (s : State) (x : CohSt) : (s.setCoh x).tap = s.tap := (rfl)

/-! State.setFab -/

@[simp] theorem State.setFab_pending (s : State) (x : FabSt) : (s.setFab x).pending = s.pending := (rfl)
@[simp] theorem State.setFab_fresh (s : State) (x : FabSt) : (s.setFab x).fresh = s.fresh := (rfl)
@[simp] theorem State.setFab_out (s : State) (x : FabSt) : (s.setFab x).out = s.out := (rfl)
@[simp] theorem State.setFab_regs (s : State) (x : FabSt) : (s.setFab x).regs = s.regs := (rfl)
@[simp] theorem State.setFab_shadow (s : State) (x : FabSt) : (s.setFab x).shadow = s.shadow := (rfl)
@[simp] theorem State.setFab_time (s : State) (x : FabSt) : (s.setFab x).time = s.time := (rfl)
@[simp] theorem State.setFab_intake (s : State) (x : FabSt) : (s.setFab x).intake = s.intake := (rfl)
@[simp] theorem State.setFab_man (s : State) (x : FabSt) : (s.setFab x).man = s.man := (rfl)
@[simp] theorem State.setFab_parts (s : State) (x : FabSt) : (s.setFab x).parts = s.parts := (rfl)
@[simp] theorem State.setFab_te (s : State) (x : FabSt) : (s.setFab x).te = s.te := (rfl)
@[simp] theorem State.setFab_phys (s : State) (x : FabSt) : (s.setFab x).phys = s.phys := (rfl)
@[simp] theorem State.setFab_holds (s : State) (x : FabSt) : (s.setFab x).holds = s.holds := (rfl)
@[simp] theorem State.setFab_mem (s : State) (x : FabSt) : (s.setFab x).mem = s.mem := (rfl)
@[simp] theorem State.setFab_lmeta (s : State) (x : FabSt) : (s.setFab x).lmeta = s.lmeta := (rfl)
@[simp] theorem State.setFab_progs (s : State) (x : FabSt) : (s.setFab x).progs = s.progs := (rfl)
@[simp] theorem State.setFab_loads (s : State) (x : FabSt) : (s.setFab x).loads = s.loads := (rfl)
@[simp] theorem State.setFab_ended (s : State) (x : FabSt) : (s.setFab x).ended = s.ended := (rfl)
@[simp] theorem State.setFab_endedPrev (s : State) (x : FabSt) : (s.setFab x).endedPrev = s.endedPrev := (rfl)
@[simp] theorem State.setFab_bars (s : State) (x : FabSt) : (s.setFab x).bars = s.bars := (rfl)
@[simp] theorem State.setFab_copies (s : State) (x : FabSt) : (s.setFab x).copies = s.copies := (rfl)
@[simp] theorem State.setFab_deferred (s : State) (x : FabSt) : (s.setFab x).deferred = s.deferred := (rfl)
@[simp] theorem State.setFab_rings (s : State) (x : FabSt) : (s.setFab x).rings = s.rings := (rfl)
@[simp] theorem State.setFab_dtu (s : State) (x : FabSt) : (s.setFab x).dtu = s.dtu := (rfl)
@[simp] theorem State.setFab_err (s : State) (x : FabSt) : (s.setFab x).err = s.err := (rfl)
@[simp] theorem State.setFab_coh (s : State) (x : FabSt) : (s.setFab x).coh = s.coh := (rfl)
@[simp] theorem State.setFab_heap (s : State) (x : FabSt) : (s.setFab x).heap = s.heap := (rfl)
@[simp] theorem State.setFab_slips (s : State) (x : FabSt) : (s.setFab x).slips = s.slips := (rfl)
@[simp] theorem State.setFab_lrs (s : State) (x : FabSt) : (s.setFab x).lrs = s.lrs := (rfl)
@[simp] theorem State.setFab_pci (s : State) (x : FabSt) : (s.setFab x).pci = s.pci := (rfl)
@[simp] theorem State.setFab_pins (s : State) (x : FabSt) : (s.setFab x).pins = s.pins := (rfl)
@[simp] theorem State.setFab_flash (s : State) (x : FabSt) : (s.setFab x).flash = s.flash := (rfl)
@[simp] theorem State.setFab_brg (s : State) (x : FabSt) : (s.setFab x).brg = s.brg := (rfl)
@[simp] theorem State.setFab_pwr (s : State) (x : FabSt) : (s.setFab x).pwr = s.pwr := (rfl)
@[simp] theorem State.setFab_twin (s : State) (x : FabSt) : (s.setFab x).twin = s.twin := (rfl)
@[simp] theorem State.setFab_sec (s : State) (x : FabSt) : (s.setFab x).sec = s.sec := (rfl)
@[simp] theorem State.setFab_fuses (s : State) (x : FabSt) : (s.setFab x).fuses = s.fuses := (rfl)
@[simp] theorem State.setFab_tap (s : State) (x : FabSt) : (s.setFab x).tap = s.tap := (rfl)

/-! State.setHeap -/

@[simp] theorem State.setHeap_pending (s : State) (x : HeapSt) : (s.setHeap x).pending = s.pending := (rfl)
@[simp] theorem State.setHeap_fresh (s : State) (x : HeapSt) : (s.setHeap x).fresh = s.fresh := (rfl)
@[simp] theorem State.setHeap_out (s : State) (x : HeapSt) : (s.setHeap x).out = s.out := (rfl)
@[simp] theorem State.setHeap_regs (s : State) (x : HeapSt) : (s.setHeap x).regs = s.regs := (rfl)
@[simp] theorem State.setHeap_shadow (s : State) (x : HeapSt) : (s.setHeap x).shadow = s.shadow := (rfl)
@[simp] theorem State.setHeap_time (s : State) (x : HeapSt) : (s.setHeap x).time = s.time := (rfl)
@[simp] theorem State.setHeap_intake (s : State) (x : HeapSt) : (s.setHeap x).intake = s.intake := (rfl)
@[simp] theorem State.setHeap_man (s : State) (x : HeapSt) : (s.setHeap x).man = s.man := (rfl)
@[simp] theorem State.setHeap_parts (s : State) (x : HeapSt) : (s.setHeap x).parts = s.parts := (rfl)
@[simp] theorem State.setHeap_te (s : State) (x : HeapSt) : (s.setHeap x).te = s.te := (rfl)
@[simp] theorem State.setHeap_phys (s : State) (x : HeapSt) : (s.setHeap x).phys = s.phys := (rfl)
@[simp] theorem State.setHeap_holds (s : State) (x : HeapSt) : (s.setHeap x).holds = s.holds := (rfl)
@[simp] theorem State.setHeap_mem (s : State) (x : HeapSt) : (s.setHeap x).mem = s.mem := (rfl)
@[simp] theorem State.setHeap_lmeta (s : State) (x : HeapSt) : (s.setHeap x).lmeta = s.lmeta := (rfl)
@[simp] theorem State.setHeap_progs (s : State) (x : HeapSt) : (s.setHeap x).progs = s.progs := (rfl)
@[simp] theorem State.setHeap_loads (s : State) (x : HeapSt) : (s.setHeap x).loads = s.loads := (rfl)
@[simp] theorem State.setHeap_ended (s : State) (x : HeapSt) : (s.setHeap x).ended = s.ended := (rfl)
@[simp] theorem State.setHeap_endedPrev (s : State) (x : HeapSt) : (s.setHeap x).endedPrev = s.endedPrev := (rfl)
@[simp] theorem State.setHeap_bars (s : State) (x : HeapSt) : (s.setHeap x).bars = s.bars := (rfl)
@[simp] theorem State.setHeap_copies (s : State) (x : HeapSt) : (s.setHeap x).copies = s.copies := (rfl)
@[simp] theorem State.setHeap_deferred (s : State) (x : HeapSt) : (s.setHeap x).deferred = s.deferred := (rfl)
@[simp] theorem State.setHeap_rings (s : State) (x : HeapSt) : (s.setHeap x).rings = s.rings := (rfl)
@[simp] theorem State.setHeap_dtu (s : State) (x : HeapSt) : (s.setHeap x).dtu = s.dtu := (rfl)
@[simp] theorem State.setHeap_err (s : State) (x : HeapSt) : (s.setHeap x).err = s.err := (rfl)
@[simp] theorem State.setHeap_coh (s : State) (x : HeapSt) : (s.setHeap x).coh = s.coh := (rfl)
@[simp] theorem State.setHeap_fab (s : State) (x : HeapSt) : (s.setHeap x).fab = s.fab := (rfl)
@[simp] theorem State.setHeap_slips (s : State) (x : HeapSt) : (s.setHeap x).slips = s.slips := (rfl)
@[simp] theorem State.setHeap_lrs (s : State) (x : HeapSt) : (s.setHeap x).lrs = s.lrs := (rfl)
@[simp] theorem State.setHeap_pci (s : State) (x : HeapSt) : (s.setHeap x).pci = s.pci := (rfl)
@[simp] theorem State.setHeap_pins (s : State) (x : HeapSt) : (s.setHeap x).pins = s.pins := (rfl)
@[simp] theorem State.setHeap_flash (s : State) (x : HeapSt) : (s.setHeap x).flash = s.flash := (rfl)
@[simp] theorem State.setHeap_brg (s : State) (x : HeapSt) : (s.setHeap x).brg = s.brg := (rfl)
@[simp] theorem State.setHeap_pwr (s : State) (x : HeapSt) : (s.setHeap x).pwr = s.pwr := (rfl)
@[simp] theorem State.setHeap_twin (s : State) (x : HeapSt) : (s.setHeap x).twin = s.twin := (rfl)
@[simp] theorem State.setHeap_sec (s : State) (x : HeapSt) : (s.setHeap x).sec = s.sec := (rfl)
@[simp] theorem State.setHeap_fuses (s : State) (x : HeapSt) : (s.setHeap x).fuses = s.fuses := (rfl)
@[simp] theorem State.setHeap_tap (s : State) (x : HeapSt) : (s.setHeap x).tap = s.tap := (rfl)

/-! State.remSet -/

@[simp] theorem State.remSet_pending (s : State) (l : List RRead) : (s.remSet l).pending = s.pending := (rfl)
@[simp] theorem State.remSet_fresh (s : State) (l : List RRead) : (s.remSet l).fresh = s.fresh := (rfl)
@[simp] theorem State.remSet_out (s : State) (l : List RRead) : (s.remSet l).out = s.out := (rfl)
@[simp] theorem State.remSet_regs (s : State) (l : List RRead) : (s.remSet l).regs = s.regs := (rfl)
@[simp] theorem State.remSet_shadow (s : State) (l : List RRead) : (s.remSet l).shadow = s.shadow := (rfl)
@[simp] theorem State.remSet_time (s : State) (l : List RRead) : (s.remSet l).time = s.time := (rfl)
@[simp] theorem State.remSet_intake (s : State) (l : List RRead) : (s.remSet l).intake = s.intake := (rfl)
@[simp] theorem State.remSet_man (s : State) (l : List RRead) : (s.remSet l).man = s.man := (rfl)
@[simp] theorem State.remSet_parts (s : State) (l : List RRead) : (s.remSet l).parts = s.parts := (rfl)
@[simp] theorem State.remSet_te (s : State) (l : List RRead) : (s.remSet l).te = s.te := (rfl)
@[simp] theorem State.remSet_phys (s : State) (l : List RRead) : (s.remSet l).phys = s.phys := (rfl)
@[simp] theorem State.remSet_holds (s : State) (l : List RRead) : (s.remSet l).holds = s.holds := (rfl)
@[simp] theorem State.remSet_mem (s : State) (l : List RRead) : (s.remSet l).mem = s.mem := (rfl)
@[simp] theorem State.remSet_lmeta (s : State) (l : List RRead) : (s.remSet l).lmeta = s.lmeta := (rfl)
@[simp] theorem State.remSet_progs (s : State) (l : List RRead) : (s.remSet l).progs = s.progs := (rfl)
@[simp] theorem State.remSet_loads (s : State) (l : List RRead) : (s.remSet l).loads = s.loads := (rfl)
@[simp] theorem State.remSet_ended (s : State) (l : List RRead) : (s.remSet l).ended = s.ended := (rfl)
@[simp] theorem State.remSet_endedPrev (s : State) (l : List RRead) : (s.remSet l).endedPrev = s.endedPrev := (rfl)
@[simp] theorem State.remSet_bars (s : State) (l : List RRead) : (s.remSet l).bars = s.bars := (rfl)
@[simp] theorem State.remSet_copies (s : State) (l : List RRead) : (s.remSet l).copies = s.copies := (rfl)
@[simp] theorem State.remSet_deferred (s : State) (l : List RRead) : (s.remSet l).deferred = s.deferred := (rfl)
@[simp] theorem State.remSet_rings (s : State) (l : List RRead) : (s.remSet l).rings = s.rings := (rfl)
@[simp] theorem State.remSet_dtu (s : State) (l : List RRead) : (s.remSet l).dtu = s.dtu := (rfl)
@[simp] theorem State.remSet_err (s : State) (l : List RRead) : (s.remSet l).err = s.err := (rfl)
@[simp] theorem State.remSet_coh (s : State) (l : List RRead) : (s.remSet l).coh = s.coh := (rfl)
@[simp] theorem State.remSet_fab (s : State) (l : List RRead) : (s.remSet l).fab = s.fab := (rfl)
@[simp] theorem State.remSet_slips (s : State) (l : List RRead) : (s.remSet l).slips = s.slips := (rfl)
@[simp] theorem State.remSet_lrs (s : State) (l : List RRead) : (s.remSet l).lrs = s.lrs := (rfl)
@[simp] theorem State.remSet_pci (s : State) (l : List RRead) : (s.remSet l).pci = s.pci := (rfl)
@[simp] theorem State.remSet_pins (s : State) (l : List RRead) : (s.remSet l).pins = s.pins := (rfl)
@[simp] theorem State.remSet_flash (s : State) (l : List RRead) : (s.remSet l).flash = s.flash := (rfl)
@[simp] theorem State.remSet_brg (s : State) (l : List RRead) : (s.remSet l).brg = s.brg := (rfl)
@[simp] theorem State.remSet_pwr (s : State) (l : List RRead) : (s.remSet l).pwr = s.pwr := (rfl)
@[simp] theorem State.remSet_twin (s : State) (l : List RRead) : (s.remSet l).twin = s.twin := (rfl)
@[simp] theorem State.remSet_sec (s : State) (l : List RRead) : (s.remSet l).sec = s.sec := (rfl)
@[simp] theorem State.remSet_fuses (s : State) (l : List RRead) : (s.remSet l).fuses = s.fuses := (rfl)
@[simp] theorem State.remSet_tap (s : State) (l : List RRead) : (s.remSet l).tap = s.tap := (rfl)

/-! State.setDtu -/

@[simp] theorem State.setDtu_pending (s : State) (x : DtuSt) : (s.setDtu x).pending = s.pending := (rfl)
@[simp] theorem State.setDtu_fresh (s : State) (x : DtuSt) : (s.setDtu x).fresh = s.fresh := (rfl)
@[simp] theorem State.setDtu_out (s : State) (x : DtuSt) : (s.setDtu x).out = s.out := (rfl)
@[simp] theorem State.setDtu_regs (s : State) (x : DtuSt) : (s.setDtu x).regs = s.regs := (rfl)
@[simp] theorem State.setDtu_shadow (s : State) (x : DtuSt) : (s.setDtu x).shadow = s.shadow := (rfl)
@[simp] theorem State.setDtu_time (s : State) (x : DtuSt) : (s.setDtu x).time = s.time := (rfl)
@[simp] theorem State.setDtu_intake (s : State) (x : DtuSt) : (s.setDtu x).intake = s.intake := (rfl)
@[simp] theorem State.setDtu_man (s : State) (x : DtuSt) : (s.setDtu x).man = s.man := (rfl)
@[simp] theorem State.setDtu_parts (s : State) (x : DtuSt) : (s.setDtu x).parts = s.parts := (rfl)
@[simp] theorem State.setDtu_te (s : State) (x : DtuSt) : (s.setDtu x).te = s.te := (rfl)
@[simp] theorem State.setDtu_phys (s : State) (x : DtuSt) : (s.setDtu x).phys = s.phys := (rfl)
@[simp] theorem State.setDtu_holds (s : State) (x : DtuSt) : (s.setDtu x).holds = s.holds := (rfl)
@[simp] theorem State.setDtu_mem (s : State) (x : DtuSt) : (s.setDtu x).mem = s.mem := (rfl)
@[simp] theorem State.setDtu_lmeta (s : State) (x : DtuSt) : (s.setDtu x).lmeta = s.lmeta := (rfl)
@[simp] theorem State.setDtu_progs (s : State) (x : DtuSt) : (s.setDtu x).progs = s.progs := (rfl)
@[simp] theorem State.setDtu_loads (s : State) (x : DtuSt) : (s.setDtu x).loads = s.loads := (rfl)
@[simp] theorem State.setDtu_ended (s : State) (x : DtuSt) : (s.setDtu x).ended = s.ended := (rfl)
@[simp] theorem State.setDtu_endedPrev (s : State) (x : DtuSt) : (s.setDtu x).endedPrev = s.endedPrev := (rfl)
@[simp] theorem State.setDtu_bars (s : State) (x : DtuSt) : (s.setDtu x).bars = s.bars := (rfl)
@[simp] theorem State.setDtu_copies (s : State) (x : DtuSt) : (s.setDtu x).copies = s.copies := (rfl)
@[simp] theorem State.setDtu_deferred (s : State) (x : DtuSt) : (s.setDtu x).deferred = s.deferred := (rfl)
@[simp] theorem State.setDtu_rings (s : State) (x : DtuSt) : (s.setDtu x).rings = s.rings := (rfl)
@[simp] theorem State.setDtu_err (s : State) (x : DtuSt) : (s.setDtu x).err = s.err := (rfl)
@[simp] theorem State.setDtu_coh (s : State) (x : DtuSt) : (s.setDtu x).coh = s.coh := (rfl)
@[simp] theorem State.setDtu_heap (s : State) (x : DtuSt) : (s.setDtu x).heap = s.heap := (rfl)
@[simp] theorem State.setDtu_fab (s : State) (x : DtuSt) : (s.setDtu x).fab = s.fab := (rfl)
@[simp] theorem State.setDtu_slips (s : State) (x : DtuSt) : (s.setDtu x).slips = s.slips := (rfl)
@[simp] theorem State.setDtu_lrs (s : State) (x : DtuSt) : (s.setDtu x).lrs = s.lrs := (rfl)
@[simp] theorem State.setDtu_pci (s : State) (x : DtuSt) : (s.setDtu x).pci = s.pci := (rfl)
@[simp] theorem State.setDtu_pins (s : State) (x : DtuSt) : (s.setDtu x).pins = s.pins := (rfl)
@[simp] theorem State.setDtu_flash (s : State) (x : DtuSt) : (s.setDtu x).flash = s.flash := (rfl)
@[simp] theorem State.setDtu_brg (s : State) (x : DtuSt) : (s.setDtu x).brg = s.brg := (rfl)
@[simp] theorem State.setDtu_pwr (s : State) (x : DtuSt) : (s.setDtu x).pwr = s.pwr := (rfl)
@[simp] theorem State.setDtu_twin (s : State) (x : DtuSt) : (s.setDtu x).twin = s.twin := (rfl)
@[simp] theorem State.setDtu_sec (s : State) (x : DtuSt) : (s.setDtu x).sec = s.sec := (rfl)
@[simp] theorem State.setDtu_fuses (s : State) (x : DtuSt) : (s.setDtu x).fuses = s.fuses := (rfl)
@[simp] theorem State.setDtu_tap (s : State) (x : DtuSt) : (s.setDtu x).tap = s.tap := (rfl)

/-! State.setRings -/

@[simp] theorem State.setRings_pending (s : State) (x : RingSt) : (s.setRings x).pending = s.pending := (rfl)
@[simp] theorem State.setRings_fresh (s : State) (x : RingSt) : (s.setRings x).fresh = s.fresh := (rfl)
@[simp] theorem State.setRings_out (s : State) (x : RingSt) : (s.setRings x).out = s.out := (rfl)
@[simp] theorem State.setRings_regs (s : State) (x : RingSt) : (s.setRings x).regs = s.regs := (rfl)
@[simp] theorem State.setRings_shadow (s : State) (x : RingSt) : (s.setRings x).shadow = s.shadow := (rfl)
@[simp] theorem State.setRings_time (s : State) (x : RingSt) : (s.setRings x).time = s.time := (rfl)
@[simp] theorem State.setRings_intake (s : State) (x : RingSt) : (s.setRings x).intake = s.intake := (rfl)
@[simp] theorem State.setRings_man (s : State) (x : RingSt) : (s.setRings x).man = s.man := (rfl)
@[simp] theorem State.setRings_parts (s : State) (x : RingSt) : (s.setRings x).parts = s.parts := (rfl)
@[simp] theorem State.setRings_te (s : State) (x : RingSt) : (s.setRings x).te = s.te := (rfl)
@[simp] theorem State.setRings_phys (s : State) (x : RingSt) : (s.setRings x).phys = s.phys := (rfl)
@[simp] theorem State.setRings_holds (s : State) (x : RingSt) : (s.setRings x).holds = s.holds := (rfl)
@[simp] theorem State.setRings_mem (s : State) (x : RingSt) : (s.setRings x).mem = s.mem := (rfl)
@[simp] theorem State.setRings_lmeta (s : State) (x : RingSt) : (s.setRings x).lmeta = s.lmeta := (rfl)
@[simp] theorem State.setRings_progs (s : State) (x : RingSt) : (s.setRings x).progs = s.progs := (rfl)
@[simp] theorem State.setRings_loads (s : State) (x : RingSt) : (s.setRings x).loads = s.loads := (rfl)
@[simp] theorem State.setRings_ended (s : State) (x : RingSt) : (s.setRings x).ended = s.ended := (rfl)
@[simp] theorem State.setRings_endedPrev (s : State) (x : RingSt) : (s.setRings x).endedPrev = s.endedPrev := (rfl)
@[simp] theorem State.setRings_bars (s : State) (x : RingSt) : (s.setRings x).bars = s.bars := (rfl)
@[simp] theorem State.setRings_copies (s : State) (x : RingSt) : (s.setRings x).copies = s.copies := (rfl)
@[simp] theorem State.setRings_deferred (s : State) (x : RingSt) : (s.setRings x).deferred = s.deferred := (rfl)
@[simp] theorem State.setRings_dtu (s : State) (x : RingSt) : (s.setRings x).dtu = s.dtu := (rfl)
@[simp] theorem State.setRings_err (s : State) (x : RingSt) : (s.setRings x).err = s.err := (rfl)
@[simp] theorem State.setRings_coh (s : State) (x : RingSt) : (s.setRings x).coh = s.coh := (rfl)
@[simp] theorem State.setRings_heap (s : State) (x : RingSt) : (s.setRings x).heap = s.heap := (rfl)
@[simp] theorem State.setRings_fab (s : State) (x : RingSt) : (s.setRings x).fab = s.fab := (rfl)
@[simp] theorem State.setRings_slips (s : State) (x : RingSt) : (s.setRings x).slips = s.slips := (rfl)
@[simp] theorem State.setRings_lrs (s : State) (x : RingSt) : (s.setRings x).lrs = s.lrs := (rfl)
@[simp] theorem State.setRings_pci (s : State) (x : RingSt) : (s.setRings x).pci = s.pci := (rfl)
@[simp] theorem State.setRings_pins (s : State) (x : RingSt) : (s.setRings x).pins = s.pins := (rfl)
@[simp] theorem State.setRings_flash (s : State) (x : RingSt) : (s.setRings x).flash = s.flash := (rfl)
@[simp] theorem State.setRings_brg (s : State) (x : RingSt) : (s.setRings x).brg = s.brg := (rfl)
@[simp] theorem State.setRings_pwr (s : State) (x : RingSt) : (s.setRings x).pwr = s.pwr := (rfl)
@[simp] theorem State.setRings_twin (s : State) (x : RingSt) : (s.setRings x).twin = s.twin := (rfl)
@[simp] theorem State.setRings_sec (s : State) (x : RingSt) : (s.setRings x).sec = s.sec := (rfl)
@[simp] theorem State.setRings_fuses (s : State) (x : RingSt) : (s.setRings x).fuses = s.fuses := (rfl)
@[simp] theorem State.setRings_tap (s : State) (x : RingSt) : (s.setRings x).tap = s.tap := (rfl)

/-! State.setCtx -/

@[simp] theorem State.setCtx_pending (s : State) (x : Ctx) : (s.setCtx x).pending = s.pending := (rfl)
@[simp] theorem State.setCtx_fresh (s : State) (x : Ctx) : (s.setCtx x).fresh = s.fresh := (rfl)
@[simp] theorem State.setCtx_out (s : State) (x : Ctx) : (s.setCtx x).out = s.out := (rfl)
@[simp] theorem State.setCtx_regs (s : State) (x : Ctx) : (s.setCtx x).regs = s.regs := (rfl)
@[simp] theorem State.setCtx_shadow (s : State) (x : Ctx) : (s.setCtx x).shadow = s.shadow := (rfl)
@[simp] theorem State.setCtx_time (s : State) (x : Ctx) : (s.setCtx x).time = s.time := (rfl)
@[simp] theorem State.setCtx_intake (s : State) (x : Ctx) : (s.setCtx x).intake = s.intake := (rfl)
@[simp] theorem State.setCtx_man (s : State) (x : Ctx) : (s.setCtx x).man = s.man := (rfl)
@[simp] theorem State.setCtx_parts (s : State) (x : Ctx) : (s.setCtx x).parts = s.parts := (rfl)
@[simp] theorem State.setCtx_te (s : State) (x : Ctx) : (s.setCtx x).te = s.te := (rfl)
@[simp] theorem State.setCtx_phys (s : State) (x : Ctx) : (s.setCtx x).phys = s.phys := (rfl)
@[simp] theorem State.setCtx_holds (s : State) (x : Ctx) : (s.setCtx x).holds = s.holds := (rfl)
@[simp] theorem State.setCtx_mem (s : State) (x : Ctx) : (s.setCtx x).mem = s.mem := (rfl)
@[simp] theorem State.setCtx_lmeta (s : State) (x : Ctx) : (s.setCtx x).lmeta = s.lmeta := (rfl)
@[simp] theorem State.setCtx_progs (s : State) (x : Ctx) : (s.setCtx x).progs = s.progs := (rfl)
@[simp] theorem State.setCtx_loads (s : State) (x : Ctx) : (s.setCtx x).loads = s.loads := (rfl)
@[simp] theorem State.setCtx_ended (s : State) (x : Ctx) : (s.setCtx x).ended = s.ended := (rfl)
@[simp] theorem State.setCtx_endedPrev (s : State) (x : Ctx) : (s.setCtx x).endedPrev = s.endedPrev := (rfl)
@[simp] theorem State.setCtx_bars (s : State) (x : Ctx) : (s.setCtx x).bars = s.bars := (rfl)
@[simp] theorem State.setCtx_copies (s : State) (x : Ctx) : (s.setCtx x).copies = s.copies := (rfl)
@[simp] theorem State.setCtx_deferred (s : State) (x : Ctx) : (s.setCtx x).deferred = s.deferred := (rfl)
@[simp] theorem State.setCtx_dtu (s : State) (x : Ctx) : (s.setCtx x).dtu = s.dtu := (rfl)
@[simp] theorem State.setCtx_err (s : State) (x : Ctx) : (s.setCtx x).err = s.err := (rfl)
@[simp] theorem State.setCtx_coh (s : State) (x : Ctx) : (s.setCtx x).coh = s.coh := (rfl)
@[simp] theorem State.setCtx_heap (s : State) (x : Ctx) : (s.setCtx x).heap = s.heap := (rfl)
@[simp] theorem State.setCtx_fab (s : State) (x : Ctx) : (s.setCtx x).fab = s.fab := (rfl)
@[simp] theorem State.setCtx_slips (s : State) (x : Ctx) : (s.setCtx x).slips = s.slips := (rfl)
@[simp] theorem State.setCtx_lrs (s : State) (x : Ctx) : (s.setCtx x).lrs = s.lrs := (rfl)
@[simp] theorem State.setCtx_pci (s : State) (x : Ctx) : (s.setCtx x).pci = s.pci := (rfl)
@[simp] theorem State.setCtx_pins (s : State) (x : Ctx) : (s.setCtx x).pins = s.pins := (rfl)
@[simp] theorem State.setCtx_flash (s : State) (x : Ctx) : (s.setCtx x).flash = s.flash := (rfl)
@[simp] theorem State.setCtx_brg (s : State) (x : Ctx) : (s.setCtx x).brg = s.brg := (rfl)
@[simp] theorem State.setCtx_pwr (s : State) (x : Ctx) : (s.setCtx x).pwr = s.pwr := (rfl)
@[simp] theorem State.setCtx_twin (s : State) (x : Ctx) : (s.setCtx x).twin = s.twin := (rfl)
@[simp] theorem State.setCtx_sec (s : State) (x : Ctx) : (s.setCtx x).sec = s.sec := (rfl)
@[simp] theorem State.setCtx_fuses (s : State) (x : Ctx) : (s.setCtx x).fuses = s.fuses := (rfl)
@[simp] theorem State.setCtx_tap (s : State) (x : Ctx) : (s.setCtx x).tap = s.tap := (rfl)

/-! State.setChunk -/

@[simp] theorem State.setChunk_pending (s : State) (x : Chunk) : (s.setChunk x).pending = s.pending := (rfl)
@[simp] theorem State.setChunk_fresh (s : State) (x : Chunk) : (s.setChunk x).fresh = s.fresh := (rfl)
@[simp] theorem State.setChunk_out (s : State) (x : Chunk) : (s.setChunk x).out = s.out := (rfl)
@[simp] theorem State.setChunk_regs (s : State) (x : Chunk) : (s.setChunk x).regs = s.regs := (rfl)
@[simp] theorem State.setChunk_shadow (s : State) (x : Chunk) : (s.setChunk x).shadow = s.shadow := (rfl)
@[simp] theorem State.setChunk_time (s : State) (x : Chunk) : (s.setChunk x).time = s.time := (rfl)
@[simp] theorem State.setChunk_intake (s : State) (x : Chunk) : (s.setChunk x).intake = s.intake := (rfl)
@[simp] theorem State.setChunk_man (s : State) (x : Chunk) : (s.setChunk x).man = s.man := (rfl)
@[simp] theorem State.setChunk_parts (s : State) (x : Chunk) : (s.setChunk x).parts = s.parts := (rfl)
@[simp] theorem State.setChunk_te (s : State) (x : Chunk) : (s.setChunk x).te = s.te := (rfl)
@[simp] theorem State.setChunk_phys (s : State) (x : Chunk) : (s.setChunk x).phys = s.phys := (rfl)
@[simp] theorem State.setChunk_holds (s : State) (x : Chunk) : (s.setChunk x).holds = s.holds := (rfl)
@[simp] theorem State.setChunk_mem (s : State) (x : Chunk) : (s.setChunk x).mem = s.mem := (rfl)
@[simp] theorem State.setChunk_lmeta (s : State) (x : Chunk) : (s.setChunk x).lmeta = s.lmeta := (rfl)
@[simp] theorem State.setChunk_progs (s : State) (x : Chunk) : (s.setChunk x).progs = s.progs := (rfl)
@[simp] theorem State.setChunk_loads (s : State) (x : Chunk) : (s.setChunk x).loads = s.loads := (rfl)
@[simp] theorem State.setChunk_ended (s : State) (x : Chunk) : (s.setChunk x).ended = s.ended := (rfl)
@[simp] theorem State.setChunk_endedPrev (s : State) (x : Chunk) : (s.setChunk x).endedPrev = s.endedPrev := (rfl)
@[simp] theorem State.setChunk_bars (s : State) (x : Chunk) : (s.setChunk x).bars = s.bars := (rfl)
@[simp] theorem State.setChunk_copies (s : State) (x : Chunk) : (s.setChunk x).copies = s.copies := (rfl)
@[simp] theorem State.setChunk_deferred (s : State) (x : Chunk) : (s.setChunk x).deferred = s.deferred := (rfl)
@[simp] theorem State.setChunk_dtu (s : State) (x : Chunk) : (s.setChunk x).dtu = s.dtu := (rfl)
@[simp] theorem State.setChunk_err (s : State) (x : Chunk) : (s.setChunk x).err = s.err := (rfl)
@[simp] theorem State.setChunk_coh (s : State) (x : Chunk) : (s.setChunk x).coh = s.coh := (rfl)
@[simp] theorem State.setChunk_heap (s : State) (x : Chunk) : (s.setChunk x).heap = s.heap := (rfl)
@[simp] theorem State.setChunk_fab (s : State) (x : Chunk) : (s.setChunk x).fab = s.fab := (rfl)
@[simp] theorem State.setChunk_slips (s : State) (x : Chunk) : (s.setChunk x).slips = s.slips := (rfl)
@[simp] theorem State.setChunk_lrs (s : State) (x : Chunk) : (s.setChunk x).lrs = s.lrs := (rfl)
@[simp] theorem State.setChunk_pci (s : State) (x : Chunk) : (s.setChunk x).pci = s.pci := (rfl)
@[simp] theorem State.setChunk_pins (s : State) (x : Chunk) : (s.setChunk x).pins = s.pins := (rfl)
@[simp] theorem State.setChunk_flash (s : State) (x : Chunk) : (s.setChunk x).flash = s.flash := (rfl)
@[simp] theorem State.setChunk_brg (s : State) (x : Chunk) : (s.setChunk x).brg = s.brg := (rfl)
@[simp] theorem State.setChunk_pwr (s : State) (x : Chunk) : (s.setChunk x).pwr = s.pwr := (rfl)
@[simp] theorem State.setChunk_twin (s : State) (x : Chunk) : (s.setChunk x).twin = s.twin := (rfl)
@[simp] theorem State.setChunk_sec (s : State) (x : Chunk) : (s.setChunk x).sec = s.sec := (rfl)
@[simp] theorem State.setChunk_fuses (s : State) (x : Chunk) : (s.setChunk x).fuses = s.fuses := (rfl)
@[simp] theorem State.setChunk_tap (s : State) (x : Chunk) : (s.setChunk x).tap = s.tap := (rfl)

/-! State.setRing -/

@[simp] theorem State.setRing_pending (s : State) (g a b : Nat) : (s.setRing g a b).pending = s.pending := (rfl)
@[simp] theorem State.setRing_fresh (s : State) (g a b : Nat) : (s.setRing g a b).fresh = s.fresh := (rfl)
@[simp] theorem State.setRing_out (s : State) (g a b : Nat) : (s.setRing g a b).out = s.out := (rfl)
@[simp] theorem State.setRing_time (s : State) (g a b : Nat) : (s.setRing g a b).time = s.time := (rfl)
@[simp] theorem State.setRing_intake (s : State) (g a b : Nat) : (s.setRing g a b).intake = s.intake := (rfl)
@[simp] theorem State.setRing_man (s : State) (g a b : Nat) : (s.setRing g a b).man = s.man := (rfl)
@[simp] theorem State.setRing_parts (s : State) (g a b : Nat) : (s.setRing g a b).parts = s.parts := (rfl)
@[simp] theorem State.setRing_te (s : State) (g a b : Nat) : (s.setRing g a b).te = s.te := (rfl)
@[simp] theorem State.setRing_phys (s : State) (g a b : Nat) : (s.setRing g a b).phys = s.phys := (rfl)
@[simp] theorem State.setRing_holds (s : State) (g a b : Nat) : (s.setRing g a b).holds = s.holds := (rfl)
@[simp] theorem State.setRing_mem (s : State) (g a b : Nat) : (s.setRing g a b).mem = s.mem := (rfl)
@[simp] theorem State.setRing_lmeta (s : State) (g a b : Nat) : (s.setRing g a b).lmeta = s.lmeta := (rfl)
@[simp] theorem State.setRing_progs (s : State) (g a b : Nat) : (s.setRing g a b).progs = s.progs := (rfl)
@[simp] theorem State.setRing_loads (s : State) (g a b : Nat) : (s.setRing g a b).loads = s.loads := (rfl)
@[simp] theorem State.setRing_ended (s : State) (g a b : Nat) : (s.setRing g a b).ended = s.ended := (rfl)
@[simp] theorem State.setRing_endedPrev (s : State) (g a b : Nat) : (s.setRing g a b).endedPrev = s.endedPrev := (rfl)
@[simp] theorem State.setRing_bars (s : State) (g a b : Nat) : (s.setRing g a b).bars = s.bars := (rfl)
@[simp] theorem State.setRing_copies (s : State) (g a b : Nat) : (s.setRing g a b).copies = s.copies := (rfl)
@[simp] theorem State.setRing_deferred (s : State) (g a b : Nat) : (s.setRing g a b).deferred = s.deferred := (rfl)
@[simp] theorem State.setRing_rings (s : State) (g a b : Nat) : (s.setRing g a b).rings = s.rings := (rfl)
@[simp] theorem State.setRing_dtu (s : State) (g a b : Nat) : (s.setRing g a b).dtu = s.dtu := (rfl)
@[simp] theorem State.setRing_err (s : State) (g a b : Nat) : (s.setRing g a b).err = s.err := (rfl)
@[simp] theorem State.setRing_coh (s : State) (g a b : Nat) : (s.setRing g a b).coh = s.coh := (rfl)
@[simp] theorem State.setRing_heap (s : State) (g a b : Nat) : (s.setRing g a b).heap = s.heap := (rfl)
@[simp] theorem State.setRing_fab (s : State) (g a b : Nat) : (s.setRing g a b).fab = s.fab := (rfl)
@[simp] theorem State.setRing_slips (s : State) (g a b : Nat) : (s.setRing g a b).slips = s.slips := (rfl)
@[simp] theorem State.setRing_lrs (s : State) (g a b : Nat) : (s.setRing g a b).lrs = s.lrs := (rfl)
@[simp] theorem State.setRing_pci (s : State) (g a b : Nat) : (s.setRing g a b).pci = s.pci := (rfl)
@[simp] theorem State.setRing_pins (s : State) (g a b : Nat) : (s.setRing g a b).pins = s.pins := (rfl)
@[simp] theorem State.setRing_flash (s : State) (g a b : Nat) : (s.setRing g a b).flash = s.flash := (rfl)
@[simp] theorem State.setRing_brg (s : State) (g a b : Nat) : (s.setRing g a b).brg = s.brg := (rfl)
@[simp] theorem State.setRing_pwr (s : State) (g a b : Nat) : (s.setRing g a b).pwr = s.pwr := (rfl)
@[simp] theorem State.setRing_twin (s : State) (g a b : Nat) : (s.setRing g a b).twin = s.twin := (rfl)
@[simp] theorem State.setRing_sec (s : State) (g a b : Nat) : (s.setRing g a b).sec = s.sec := (rfl)
@[simp] theorem State.setRing_fuses (s : State) (g a b : Nat) : (s.setRing g a b).fuses = s.fuses := (rfl)
@[simp] theorem State.setRing_tap (s : State) (g a b : Nat) : (s.setRing g a b).tap = s.tap := (rfl)

/-! State.setErr -/

@[simp] theorem State.setErr_pending (s : State) (x : ErrSt) : (s.setErr x).pending = s.pending := (rfl)
@[simp] theorem State.setErr_fresh (s : State) (x : ErrSt) : (s.setErr x).fresh = s.fresh := (rfl)
@[simp] theorem State.setErr_out (s : State) (x : ErrSt) : (s.setErr x).out = s.out := (rfl)
@[simp] theorem State.setErr_regs (s : State) (x : ErrSt) : (s.setErr x).regs = s.regs := (rfl)
@[simp] theorem State.setErr_shadow (s : State) (x : ErrSt) : (s.setErr x).shadow = s.shadow := (rfl)
@[simp] theorem State.setErr_time (s : State) (x : ErrSt) : (s.setErr x).time = s.time := (rfl)
@[simp] theorem State.setErr_intake (s : State) (x : ErrSt) : (s.setErr x).intake = s.intake := (rfl)
@[simp] theorem State.setErr_man (s : State) (x : ErrSt) : (s.setErr x).man = s.man := (rfl)
@[simp] theorem State.setErr_parts (s : State) (x : ErrSt) : (s.setErr x).parts = s.parts := (rfl)
@[simp] theorem State.setErr_te (s : State) (x : ErrSt) : (s.setErr x).te = s.te := (rfl)
@[simp] theorem State.setErr_phys (s : State) (x : ErrSt) : (s.setErr x).phys = s.phys := (rfl)
@[simp] theorem State.setErr_holds (s : State) (x : ErrSt) : (s.setErr x).holds = s.holds := (rfl)
@[simp] theorem State.setErr_mem (s : State) (x : ErrSt) : (s.setErr x).mem = s.mem := (rfl)
@[simp] theorem State.setErr_lmeta (s : State) (x : ErrSt) : (s.setErr x).lmeta = s.lmeta := (rfl)
@[simp] theorem State.setErr_progs (s : State) (x : ErrSt) : (s.setErr x).progs = s.progs := (rfl)
@[simp] theorem State.setErr_loads (s : State) (x : ErrSt) : (s.setErr x).loads = s.loads := (rfl)
@[simp] theorem State.setErr_ended (s : State) (x : ErrSt) : (s.setErr x).ended = s.ended := (rfl)
@[simp] theorem State.setErr_endedPrev (s : State) (x : ErrSt) : (s.setErr x).endedPrev = s.endedPrev := (rfl)
@[simp] theorem State.setErr_bars (s : State) (x : ErrSt) : (s.setErr x).bars = s.bars := (rfl)
@[simp] theorem State.setErr_copies (s : State) (x : ErrSt) : (s.setErr x).copies = s.copies := (rfl)
@[simp] theorem State.setErr_deferred (s : State) (x : ErrSt) : (s.setErr x).deferred = s.deferred := (rfl)
@[simp] theorem State.setErr_rings (s : State) (x : ErrSt) : (s.setErr x).rings = s.rings := (rfl)
@[simp] theorem State.setErr_dtu (s : State) (x : ErrSt) : (s.setErr x).dtu = s.dtu := (rfl)
@[simp] theorem State.setErr_coh (s : State) (x : ErrSt) : (s.setErr x).coh = s.coh := (rfl)
@[simp] theorem State.setErr_heap (s : State) (x : ErrSt) : (s.setErr x).heap = s.heap := (rfl)
@[simp] theorem State.setErr_fab (s : State) (x : ErrSt) : (s.setErr x).fab = s.fab := (rfl)
@[simp] theorem State.setErr_slips (s : State) (x : ErrSt) : (s.setErr x).slips = s.slips := (rfl)
@[simp] theorem State.setErr_lrs (s : State) (x : ErrSt) : (s.setErr x).lrs = s.lrs := (rfl)
@[simp] theorem State.setErr_pci (s : State) (x : ErrSt) : (s.setErr x).pci = s.pci := (rfl)
@[simp] theorem State.setErr_pins (s : State) (x : ErrSt) : (s.setErr x).pins = s.pins := (rfl)
@[simp] theorem State.setErr_flash (s : State) (x : ErrSt) : (s.setErr x).flash = s.flash := (rfl)
@[simp] theorem State.setErr_brg (s : State) (x : ErrSt) : (s.setErr x).brg = s.brg := (rfl)
@[simp] theorem State.setErr_pwr (s : State) (x : ErrSt) : (s.setErr x).pwr = s.pwr := (rfl)
@[simp] theorem State.setErr_twin (s : State) (x : ErrSt) : (s.setErr x).twin = s.twin := (rfl)
@[simp] theorem State.setErr_sec (s : State) (x : ErrSt) : (s.setErr x).sec = s.sec := (rfl)
@[simp] theorem State.setErr_fuses (s : State) (x : ErrSt) : (s.setErr x).fuses = s.fuses := (rfl)
@[simp] theorem State.setErr_tap (s : State) (x : ErrSt) : (s.setErr x).tap = s.tap := (rfl)

/-! State.setMan -/

@[simp] theorem State.setMan_pending (s : State) (x : ManSt) : (s.setMan x).pending = s.pending := (rfl)
@[simp] theorem State.setMan_fresh (s : State) (x : ManSt) : (s.setMan x).fresh = s.fresh := (rfl)
@[simp] theorem State.setMan_out (s : State) (x : ManSt) : (s.setMan x).out = s.out := (rfl)
@[simp] theorem State.setMan_regs (s : State) (x : ManSt) : (s.setMan x).regs = s.regs := (rfl)
@[simp] theorem State.setMan_shadow (s : State) (x : ManSt) : (s.setMan x).shadow = s.shadow := (rfl)
@[simp] theorem State.setMan_time (s : State) (x : ManSt) : (s.setMan x).time = s.time := (rfl)
@[simp] theorem State.setMan_intake (s : State) (x : ManSt) : (s.setMan x).intake = s.intake := (rfl)
@[simp] theorem State.setMan_parts (s : State) (x : ManSt) : (s.setMan x).parts = s.parts := (rfl)
@[simp] theorem State.setMan_te (s : State) (x : ManSt) : (s.setMan x).te = s.te := (rfl)
@[simp] theorem State.setMan_phys (s : State) (x : ManSt) : (s.setMan x).phys = s.phys := (rfl)
@[simp] theorem State.setMan_holds (s : State) (x : ManSt) : (s.setMan x).holds = s.holds := (rfl)
@[simp] theorem State.setMan_mem (s : State) (x : ManSt) : (s.setMan x).mem = s.mem := (rfl)
@[simp] theorem State.setMan_lmeta (s : State) (x : ManSt) : (s.setMan x).lmeta = s.lmeta := (rfl)
@[simp] theorem State.setMan_progs (s : State) (x : ManSt) : (s.setMan x).progs = s.progs := (rfl)
@[simp] theorem State.setMan_loads (s : State) (x : ManSt) : (s.setMan x).loads = s.loads := (rfl)
@[simp] theorem State.setMan_ended (s : State) (x : ManSt) : (s.setMan x).ended = s.ended := (rfl)
@[simp] theorem State.setMan_endedPrev (s : State) (x : ManSt) : (s.setMan x).endedPrev = s.endedPrev := (rfl)
@[simp] theorem State.setMan_bars (s : State) (x : ManSt) : (s.setMan x).bars = s.bars := (rfl)
@[simp] theorem State.setMan_copies (s : State) (x : ManSt) : (s.setMan x).copies = s.copies := (rfl)
@[simp] theorem State.setMan_deferred (s : State) (x : ManSt) : (s.setMan x).deferred = s.deferred := (rfl)
@[simp] theorem State.setMan_rings (s : State) (x : ManSt) : (s.setMan x).rings = s.rings := (rfl)
@[simp] theorem State.setMan_dtu (s : State) (x : ManSt) : (s.setMan x).dtu = s.dtu := (rfl)
@[simp] theorem State.setMan_err (s : State) (x : ManSt) : (s.setMan x).err = s.err := (rfl)
@[simp] theorem State.setMan_coh (s : State) (x : ManSt) : (s.setMan x).coh = s.coh := (rfl)
@[simp] theorem State.setMan_heap (s : State) (x : ManSt) : (s.setMan x).heap = s.heap := (rfl)
@[simp] theorem State.setMan_fab (s : State) (x : ManSt) : (s.setMan x).fab = s.fab := (rfl)
@[simp] theorem State.setMan_slips (s : State) (x : ManSt) : (s.setMan x).slips = s.slips := (rfl)
@[simp] theorem State.setMan_lrs (s : State) (x : ManSt) : (s.setMan x).lrs = s.lrs := (rfl)
@[simp] theorem State.setMan_pci (s : State) (x : ManSt) : (s.setMan x).pci = s.pci := (rfl)
@[simp] theorem State.setMan_pins (s : State) (x : ManSt) : (s.setMan x).pins = s.pins := (rfl)
@[simp] theorem State.setMan_flash (s : State) (x : ManSt) : (s.setMan x).flash = s.flash := (rfl)
@[simp] theorem State.setMan_brg (s : State) (x : ManSt) : (s.setMan x).brg = s.brg := (rfl)
@[simp] theorem State.setMan_pwr (s : State) (x : ManSt) : (s.setMan x).pwr = s.pwr := (rfl)
@[simp] theorem State.setMan_twin (s : State) (x : ManSt) : (s.setMan x).twin = s.twin := (rfl)
@[simp] theorem State.setMan_sec (s : State) (x : ManSt) : (s.setMan x).sec = s.sec := (rfl)
@[simp] theorem State.setMan_fuses (s : State) (x : ManSt) : (s.setMan x).fuses = s.fuses := (rfl)
@[simp] theorem State.setMan_tap (s : State) (x : ManSt) : (s.setMan x).tap = s.tap := (rfl)

/-! State.setSec -/

@[simp] theorem State.setSec_pending (s : State) (x : SecSt) : (s.setSec x).pending = s.pending := (rfl)
@[simp] theorem State.setSec_fresh (s : State) (x : SecSt) : (s.setSec x).fresh = s.fresh := (rfl)
@[simp] theorem State.setSec_out (s : State) (x : SecSt) : (s.setSec x).out = s.out := (rfl)
@[simp] theorem State.setSec_regs (s : State) (x : SecSt) : (s.setSec x).regs = s.regs := (rfl)
@[simp] theorem State.setSec_shadow (s : State) (x : SecSt) : (s.setSec x).shadow = s.shadow := (rfl)
@[simp] theorem State.setSec_time (s : State) (x : SecSt) : (s.setSec x).time = s.time := (rfl)
@[simp] theorem State.setSec_intake (s : State) (x : SecSt) : (s.setSec x).intake = s.intake := (rfl)
@[simp] theorem State.setSec_man (s : State) (x : SecSt) : (s.setSec x).man = s.man := (rfl)
@[simp] theorem State.setSec_parts (s : State) (x : SecSt) : (s.setSec x).parts = s.parts := (rfl)
@[simp] theorem State.setSec_te (s : State) (x : SecSt) : (s.setSec x).te = s.te := (rfl)
@[simp] theorem State.setSec_phys (s : State) (x : SecSt) : (s.setSec x).phys = s.phys := (rfl)
@[simp] theorem State.setSec_holds (s : State) (x : SecSt) : (s.setSec x).holds = s.holds := (rfl)
@[simp] theorem State.setSec_mem (s : State) (x : SecSt) : (s.setSec x).mem = s.mem := (rfl)
@[simp] theorem State.setSec_lmeta (s : State) (x : SecSt) : (s.setSec x).lmeta = s.lmeta := (rfl)
@[simp] theorem State.setSec_progs (s : State) (x : SecSt) : (s.setSec x).progs = s.progs := (rfl)
@[simp] theorem State.setSec_loads (s : State) (x : SecSt) : (s.setSec x).loads = s.loads := (rfl)
@[simp] theorem State.setSec_ended (s : State) (x : SecSt) : (s.setSec x).ended = s.ended := (rfl)
@[simp] theorem State.setSec_endedPrev (s : State) (x : SecSt) : (s.setSec x).endedPrev = s.endedPrev := (rfl)
@[simp] theorem State.setSec_bars (s : State) (x : SecSt) : (s.setSec x).bars = s.bars := (rfl)
@[simp] theorem State.setSec_copies (s : State) (x : SecSt) : (s.setSec x).copies = s.copies := (rfl)
@[simp] theorem State.setSec_deferred (s : State) (x : SecSt) : (s.setSec x).deferred = s.deferred := (rfl)
@[simp] theorem State.setSec_rings (s : State) (x : SecSt) : (s.setSec x).rings = s.rings := (rfl)
@[simp] theorem State.setSec_dtu (s : State) (x : SecSt) : (s.setSec x).dtu = s.dtu := (rfl)
@[simp] theorem State.setSec_err (s : State) (x : SecSt) : (s.setSec x).err = s.err := (rfl)
@[simp] theorem State.setSec_coh (s : State) (x : SecSt) : (s.setSec x).coh = s.coh := (rfl)
@[simp] theorem State.setSec_heap (s : State) (x : SecSt) : (s.setSec x).heap = s.heap := (rfl)
@[simp] theorem State.setSec_fab (s : State) (x : SecSt) : (s.setSec x).fab = s.fab := (rfl)
@[simp] theorem State.setSec_slips (s : State) (x : SecSt) : (s.setSec x).slips = s.slips := (rfl)
@[simp] theorem State.setSec_lrs (s : State) (x : SecSt) : (s.setSec x).lrs = s.lrs := (rfl)
@[simp] theorem State.setSec_pci (s : State) (x : SecSt) : (s.setSec x).pci = s.pci := (rfl)
@[simp] theorem State.setSec_pins (s : State) (x : SecSt) : (s.setSec x).pins = s.pins := (rfl)
@[simp] theorem State.setSec_flash (s : State) (x : SecSt) : (s.setSec x).flash = s.flash := (rfl)
@[simp] theorem State.setSec_brg (s : State) (x : SecSt) : (s.setSec x).brg = s.brg := (rfl)
@[simp] theorem State.setSec_pwr (s : State) (x : SecSt) : (s.setSec x).pwr = s.pwr := (rfl)
@[simp] theorem State.setSec_twin (s : State) (x : SecSt) : (s.setSec x).twin = s.twin := (rfl)
@[simp] theorem State.setSec_fuses (s : State) (x : SecSt) : (s.setSec x).fuses = s.fuses := (rfl)
@[simp] theorem State.setSec_tap (s : State) (x : SecSt) : (s.setSec x).tap = s.tap := (rfl)

/-! State.setFlash -/

@[simp] theorem State.setFlash_pending (s : State) (x : FlashSt) : (s.setFlash x).pending = s.pending := (rfl)
@[simp] theorem State.setFlash_fresh (s : State) (x : FlashSt) : (s.setFlash x).fresh = s.fresh := (rfl)
@[simp] theorem State.setFlash_out (s : State) (x : FlashSt) : (s.setFlash x).out = s.out := (rfl)
@[simp] theorem State.setFlash_regs (s : State) (x : FlashSt) : (s.setFlash x).regs = s.regs := (rfl)
@[simp] theorem State.setFlash_shadow (s : State) (x : FlashSt) : (s.setFlash x).shadow = s.shadow := (rfl)
@[simp] theorem State.setFlash_time (s : State) (x : FlashSt) : (s.setFlash x).time = s.time := (rfl)
@[simp] theorem State.setFlash_intake (s : State) (x : FlashSt) : (s.setFlash x).intake = s.intake := (rfl)
@[simp] theorem State.setFlash_man (s : State) (x : FlashSt) : (s.setFlash x).man = s.man := (rfl)
@[simp] theorem State.setFlash_parts (s : State) (x : FlashSt) : (s.setFlash x).parts = s.parts := (rfl)
@[simp] theorem State.setFlash_te (s : State) (x : FlashSt) : (s.setFlash x).te = s.te := (rfl)
@[simp] theorem State.setFlash_phys (s : State) (x : FlashSt) : (s.setFlash x).phys = s.phys := (rfl)
@[simp] theorem State.setFlash_holds (s : State) (x : FlashSt) : (s.setFlash x).holds = s.holds := (rfl)
@[simp] theorem State.setFlash_mem (s : State) (x : FlashSt) : (s.setFlash x).mem = s.mem := (rfl)
@[simp] theorem State.setFlash_lmeta (s : State) (x : FlashSt) : (s.setFlash x).lmeta = s.lmeta := (rfl)
@[simp] theorem State.setFlash_progs (s : State) (x : FlashSt) : (s.setFlash x).progs = s.progs := (rfl)
@[simp] theorem State.setFlash_loads (s : State) (x : FlashSt) : (s.setFlash x).loads = s.loads := (rfl)
@[simp] theorem State.setFlash_ended (s : State) (x : FlashSt) : (s.setFlash x).ended = s.ended := (rfl)
@[simp] theorem State.setFlash_endedPrev (s : State) (x : FlashSt) : (s.setFlash x).endedPrev = s.endedPrev := (rfl)
@[simp] theorem State.setFlash_bars (s : State) (x : FlashSt) : (s.setFlash x).bars = s.bars := (rfl)
@[simp] theorem State.setFlash_copies (s : State) (x : FlashSt) : (s.setFlash x).copies = s.copies := (rfl)
@[simp] theorem State.setFlash_deferred (s : State) (x : FlashSt) : (s.setFlash x).deferred = s.deferred := (rfl)
@[simp] theorem State.setFlash_rings (s : State) (x : FlashSt) : (s.setFlash x).rings = s.rings := (rfl)
@[simp] theorem State.setFlash_dtu (s : State) (x : FlashSt) : (s.setFlash x).dtu = s.dtu := (rfl)
@[simp] theorem State.setFlash_err (s : State) (x : FlashSt) : (s.setFlash x).err = s.err := (rfl)
@[simp] theorem State.setFlash_coh (s : State) (x : FlashSt) : (s.setFlash x).coh = s.coh := (rfl)
@[simp] theorem State.setFlash_heap (s : State) (x : FlashSt) : (s.setFlash x).heap = s.heap := (rfl)
@[simp] theorem State.setFlash_fab (s : State) (x : FlashSt) : (s.setFlash x).fab = s.fab := (rfl)
@[simp] theorem State.setFlash_slips (s : State) (x : FlashSt) : (s.setFlash x).slips = s.slips := (rfl)
@[simp] theorem State.setFlash_lrs (s : State) (x : FlashSt) : (s.setFlash x).lrs = s.lrs := (rfl)
@[simp] theorem State.setFlash_pci (s : State) (x : FlashSt) : (s.setFlash x).pci = s.pci := (rfl)
@[simp] theorem State.setFlash_pins (s : State) (x : FlashSt) : (s.setFlash x).pins = s.pins := (rfl)
@[simp] theorem State.setFlash_brg (s : State) (x : FlashSt) : (s.setFlash x).brg = s.brg := (rfl)
@[simp] theorem State.setFlash_pwr (s : State) (x : FlashSt) : (s.setFlash x).pwr = s.pwr := (rfl)
@[simp] theorem State.setFlash_twin (s : State) (x : FlashSt) : (s.setFlash x).twin = s.twin := (rfl)
@[simp] theorem State.setFlash_sec (s : State) (x : FlashSt) : (s.setFlash x).sec = s.sec := (rfl)
@[simp] theorem State.setFlash_fuses (s : State) (x : FlashSt) : (s.setFlash x).fuses = s.fuses := (rfl)
@[simp] theorem State.setFlash_tap (s : State) (x : FlashSt) : (s.setFlash x).tap = s.tap := (rfl)

/-! State.setFuses -/

@[simp] theorem State.setFuses_pending (s : State) (x : FuseSt) : (s.setFuses x).pending = s.pending := (rfl)
@[simp] theorem State.setFuses_fresh (s : State) (x : FuseSt) : (s.setFuses x).fresh = s.fresh := (rfl)
@[simp] theorem State.setFuses_out (s : State) (x : FuseSt) : (s.setFuses x).out = s.out := (rfl)
@[simp] theorem State.setFuses_regs (s : State) (x : FuseSt) : (s.setFuses x).regs = s.regs := (rfl)
@[simp] theorem State.setFuses_shadow (s : State) (x : FuseSt) : (s.setFuses x).shadow = s.shadow := (rfl)
@[simp] theorem State.setFuses_time (s : State) (x : FuseSt) : (s.setFuses x).time = s.time := (rfl)
@[simp] theorem State.setFuses_intake (s : State) (x : FuseSt) : (s.setFuses x).intake = s.intake := (rfl)
@[simp] theorem State.setFuses_man (s : State) (x : FuseSt) : (s.setFuses x).man = s.man := (rfl)
@[simp] theorem State.setFuses_parts (s : State) (x : FuseSt) : (s.setFuses x).parts = s.parts := (rfl)
@[simp] theorem State.setFuses_te (s : State) (x : FuseSt) : (s.setFuses x).te = s.te := (rfl)
@[simp] theorem State.setFuses_phys (s : State) (x : FuseSt) : (s.setFuses x).phys = s.phys := (rfl)
@[simp] theorem State.setFuses_holds (s : State) (x : FuseSt) : (s.setFuses x).holds = s.holds := (rfl)
@[simp] theorem State.setFuses_mem (s : State) (x : FuseSt) : (s.setFuses x).mem = s.mem := (rfl)
@[simp] theorem State.setFuses_lmeta (s : State) (x : FuseSt) : (s.setFuses x).lmeta = s.lmeta := (rfl)
@[simp] theorem State.setFuses_progs (s : State) (x : FuseSt) : (s.setFuses x).progs = s.progs := (rfl)
@[simp] theorem State.setFuses_loads (s : State) (x : FuseSt) : (s.setFuses x).loads = s.loads := (rfl)
@[simp] theorem State.setFuses_ended (s : State) (x : FuseSt) : (s.setFuses x).ended = s.ended := (rfl)
@[simp] theorem State.setFuses_endedPrev (s : State) (x : FuseSt) : (s.setFuses x).endedPrev = s.endedPrev := (rfl)
@[simp] theorem State.setFuses_bars (s : State) (x : FuseSt) : (s.setFuses x).bars = s.bars := (rfl)
@[simp] theorem State.setFuses_copies (s : State) (x : FuseSt) : (s.setFuses x).copies = s.copies := (rfl)
@[simp] theorem State.setFuses_deferred (s : State) (x : FuseSt) : (s.setFuses x).deferred = s.deferred := (rfl)
@[simp] theorem State.setFuses_rings (s : State) (x : FuseSt) : (s.setFuses x).rings = s.rings := (rfl)
@[simp] theorem State.setFuses_dtu (s : State) (x : FuseSt) : (s.setFuses x).dtu = s.dtu := (rfl)
@[simp] theorem State.setFuses_err (s : State) (x : FuseSt) : (s.setFuses x).err = s.err := (rfl)
@[simp] theorem State.setFuses_coh (s : State) (x : FuseSt) : (s.setFuses x).coh = s.coh := (rfl)
@[simp] theorem State.setFuses_heap (s : State) (x : FuseSt) : (s.setFuses x).heap = s.heap := (rfl)
@[simp] theorem State.setFuses_fab (s : State) (x : FuseSt) : (s.setFuses x).fab = s.fab := (rfl)
@[simp] theorem State.setFuses_slips (s : State) (x : FuseSt) : (s.setFuses x).slips = s.slips := (rfl)
@[simp] theorem State.setFuses_lrs (s : State) (x : FuseSt) : (s.setFuses x).lrs = s.lrs := (rfl)
@[simp] theorem State.setFuses_pci (s : State) (x : FuseSt) : (s.setFuses x).pci = s.pci := (rfl)
@[simp] theorem State.setFuses_pins (s : State) (x : FuseSt) : (s.setFuses x).pins = s.pins := (rfl)
@[simp] theorem State.setFuses_flash (s : State) (x : FuseSt) : (s.setFuses x).flash = s.flash := (rfl)
@[simp] theorem State.setFuses_brg (s : State) (x : FuseSt) : (s.setFuses x).brg = s.brg := (rfl)
@[simp] theorem State.setFuses_pwr (s : State) (x : FuseSt) : (s.setFuses x).pwr = s.pwr := (rfl)
@[simp] theorem State.setFuses_twin (s : State) (x : FuseSt) : (s.setFuses x).twin = s.twin := (rfl)
@[simp] theorem State.setFuses_sec (s : State) (x : FuseSt) : (s.setFuses x).sec = s.sec := (rfl)
@[simp] theorem State.setFuses_tap (s : State) (x : FuseSt) : (s.setFuses x).tap = s.tap := (rfl)

/-! State.setBrg -/

@[simp] theorem State.setBrg_pending (s : State) (x : BrgSt) : (s.setBrg x).pending = s.pending := (rfl)
@[simp] theorem State.setBrg_fresh (s : State) (x : BrgSt) : (s.setBrg x).fresh = s.fresh := (rfl)
@[simp] theorem State.setBrg_out (s : State) (x : BrgSt) : (s.setBrg x).out = s.out := (rfl)
@[simp] theorem State.setBrg_regs (s : State) (x : BrgSt) : (s.setBrg x).regs = s.regs := (rfl)
@[simp] theorem State.setBrg_shadow (s : State) (x : BrgSt) : (s.setBrg x).shadow = s.shadow := (rfl)
@[simp] theorem State.setBrg_time (s : State) (x : BrgSt) : (s.setBrg x).time = s.time := (rfl)
@[simp] theorem State.setBrg_intake (s : State) (x : BrgSt) : (s.setBrg x).intake = s.intake := (rfl)
@[simp] theorem State.setBrg_man (s : State) (x : BrgSt) : (s.setBrg x).man = s.man := (rfl)
@[simp] theorem State.setBrg_parts (s : State) (x : BrgSt) : (s.setBrg x).parts = s.parts := (rfl)
@[simp] theorem State.setBrg_te (s : State) (x : BrgSt) : (s.setBrg x).te = s.te := (rfl)
@[simp] theorem State.setBrg_phys (s : State) (x : BrgSt) : (s.setBrg x).phys = s.phys := (rfl)
@[simp] theorem State.setBrg_holds (s : State) (x : BrgSt) : (s.setBrg x).holds = s.holds := (rfl)
@[simp] theorem State.setBrg_mem (s : State) (x : BrgSt) : (s.setBrg x).mem = s.mem := (rfl)
@[simp] theorem State.setBrg_lmeta (s : State) (x : BrgSt) : (s.setBrg x).lmeta = s.lmeta := (rfl)
@[simp] theorem State.setBrg_progs (s : State) (x : BrgSt) : (s.setBrg x).progs = s.progs := (rfl)
@[simp] theorem State.setBrg_loads (s : State) (x : BrgSt) : (s.setBrg x).loads = s.loads := (rfl)
@[simp] theorem State.setBrg_ended (s : State) (x : BrgSt) : (s.setBrg x).ended = s.ended := (rfl)
@[simp] theorem State.setBrg_endedPrev (s : State) (x : BrgSt) : (s.setBrg x).endedPrev = s.endedPrev := (rfl)
@[simp] theorem State.setBrg_bars (s : State) (x : BrgSt) : (s.setBrg x).bars = s.bars := (rfl)
@[simp] theorem State.setBrg_copies (s : State) (x : BrgSt) : (s.setBrg x).copies = s.copies := (rfl)
@[simp] theorem State.setBrg_deferred (s : State) (x : BrgSt) : (s.setBrg x).deferred = s.deferred := (rfl)
@[simp] theorem State.setBrg_rings (s : State) (x : BrgSt) : (s.setBrg x).rings = s.rings := (rfl)
@[simp] theorem State.setBrg_dtu (s : State) (x : BrgSt) : (s.setBrg x).dtu = s.dtu := (rfl)
@[simp] theorem State.setBrg_err (s : State) (x : BrgSt) : (s.setBrg x).err = s.err := (rfl)
@[simp] theorem State.setBrg_coh (s : State) (x : BrgSt) : (s.setBrg x).coh = s.coh := (rfl)
@[simp] theorem State.setBrg_heap (s : State) (x : BrgSt) : (s.setBrg x).heap = s.heap := (rfl)
@[simp] theorem State.setBrg_fab (s : State) (x : BrgSt) : (s.setBrg x).fab = s.fab := (rfl)
@[simp] theorem State.setBrg_slips (s : State) (x : BrgSt) : (s.setBrg x).slips = s.slips := (rfl)
@[simp] theorem State.setBrg_lrs (s : State) (x : BrgSt) : (s.setBrg x).lrs = s.lrs := (rfl)
@[simp] theorem State.setBrg_pci (s : State) (x : BrgSt) : (s.setBrg x).pci = s.pci := (rfl)
@[simp] theorem State.setBrg_pins (s : State) (x : BrgSt) : (s.setBrg x).pins = s.pins := (rfl)
@[simp] theorem State.setBrg_flash (s : State) (x : BrgSt) : (s.setBrg x).flash = s.flash := (rfl)
@[simp] theorem State.setBrg_pwr (s : State) (x : BrgSt) : (s.setBrg x).pwr = s.pwr := (rfl)
@[simp] theorem State.setBrg_twin (s : State) (x : BrgSt) : (s.setBrg x).twin = s.twin := (rfl)
@[simp] theorem State.setBrg_sec (s : State) (x : BrgSt) : (s.setBrg x).sec = s.sec := (rfl)
@[simp] theorem State.setBrg_fuses (s : State) (x : BrgSt) : (s.setBrg x).fuses = s.fuses := (rfl)
@[simp] theorem State.setBrg_tap (s : State) (x : BrgSt) : (s.setBrg x).tap = s.tap := (rfl)

/-! State.setPwr -/

@[simp] theorem State.setPwr_pending (s : State) (x : PwrSt) : (s.setPwr x).pending = s.pending := (rfl)
@[simp] theorem State.setPwr_fresh (s : State) (x : PwrSt) : (s.setPwr x).fresh = s.fresh := (rfl)
@[simp] theorem State.setPwr_out (s : State) (x : PwrSt) : (s.setPwr x).out = s.out := (rfl)
@[simp] theorem State.setPwr_regs (s : State) (x : PwrSt) : (s.setPwr x).regs = s.regs := (rfl)
@[simp] theorem State.setPwr_shadow (s : State) (x : PwrSt) : (s.setPwr x).shadow = s.shadow := (rfl)
@[simp] theorem State.setPwr_time (s : State) (x : PwrSt) : (s.setPwr x).time = s.time := (rfl)
@[simp] theorem State.setPwr_intake (s : State) (x : PwrSt) : (s.setPwr x).intake = s.intake := (rfl)
@[simp] theorem State.setPwr_man (s : State) (x : PwrSt) : (s.setPwr x).man = s.man := (rfl)
@[simp] theorem State.setPwr_parts (s : State) (x : PwrSt) : (s.setPwr x).parts = s.parts := (rfl)
@[simp] theorem State.setPwr_te (s : State) (x : PwrSt) : (s.setPwr x).te = s.te := (rfl)
@[simp] theorem State.setPwr_phys (s : State) (x : PwrSt) : (s.setPwr x).phys = s.phys := (rfl)
@[simp] theorem State.setPwr_holds (s : State) (x : PwrSt) : (s.setPwr x).holds = s.holds := (rfl)
@[simp] theorem State.setPwr_mem (s : State) (x : PwrSt) : (s.setPwr x).mem = s.mem := (rfl)
@[simp] theorem State.setPwr_lmeta (s : State) (x : PwrSt) : (s.setPwr x).lmeta = s.lmeta := (rfl)
@[simp] theorem State.setPwr_progs (s : State) (x : PwrSt) : (s.setPwr x).progs = s.progs := (rfl)
@[simp] theorem State.setPwr_loads (s : State) (x : PwrSt) : (s.setPwr x).loads = s.loads := (rfl)
@[simp] theorem State.setPwr_ended (s : State) (x : PwrSt) : (s.setPwr x).ended = s.ended := (rfl)
@[simp] theorem State.setPwr_endedPrev (s : State) (x : PwrSt) : (s.setPwr x).endedPrev = s.endedPrev := (rfl)
@[simp] theorem State.setPwr_bars (s : State) (x : PwrSt) : (s.setPwr x).bars = s.bars := (rfl)
@[simp] theorem State.setPwr_copies (s : State) (x : PwrSt) : (s.setPwr x).copies = s.copies := (rfl)
@[simp] theorem State.setPwr_deferred (s : State) (x : PwrSt) : (s.setPwr x).deferred = s.deferred := (rfl)
@[simp] theorem State.setPwr_rings (s : State) (x : PwrSt) : (s.setPwr x).rings = s.rings := (rfl)
@[simp] theorem State.setPwr_dtu (s : State) (x : PwrSt) : (s.setPwr x).dtu = s.dtu := (rfl)
@[simp] theorem State.setPwr_err (s : State) (x : PwrSt) : (s.setPwr x).err = s.err := (rfl)
@[simp] theorem State.setPwr_coh (s : State) (x : PwrSt) : (s.setPwr x).coh = s.coh := (rfl)
@[simp] theorem State.setPwr_heap (s : State) (x : PwrSt) : (s.setPwr x).heap = s.heap := (rfl)
@[simp] theorem State.setPwr_fab (s : State) (x : PwrSt) : (s.setPwr x).fab = s.fab := (rfl)
@[simp] theorem State.setPwr_slips (s : State) (x : PwrSt) : (s.setPwr x).slips = s.slips := (rfl)
@[simp] theorem State.setPwr_lrs (s : State) (x : PwrSt) : (s.setPwr x).lrs = s.lrs := (rfl)
@[simp] theorem State.setPwr_pci (s : State) (x : PwrSt) : (s.setPwr x).pci = s.pci := (rfl)
@[simp] theorem State.setPwr_pins (s : State) (x : PwrSt) : (s.setPwr x).pins = s.pins := (rfl)
@[simp] theorem State.setPwr_flash (s : State) (x : PwrSt) : (s.setPwr x).flash = s.flash := (rfl)
@[simp] theorem State.setPwr_brg (s : State) (x : PwrSt) : (s.setPwr x).brg = s.brg := (rfl)
@[simp] theorem State.setPwr_twin (s : State) (x : PwrSt) : (s.setPwr x).twin = s.twin := (rfl)
@[simp] theorem State.setPwr_sec (s : State) (x : PwrSt) : (s.setPwr x).sec = s.sec := (rfl)
@[simp] theorem State.setPwr_fuses (s : State) (x : PwrSt) : (s.setPwr x).fuses = s.fuses := (rfl)
@[simp] theorem State.setPwr_tap (s : State) (x : PwrSt) : (s.setPwr x).tap = s.tap := (rfl)

/-! State.setTwin -/

@[simp] theorem State.setTwin_pending (s : State) (x : TwinSt) : (s.setTwin x).pending = s.pending := (rfl)
@[simp] theorem State.setTwin_fresh (s : State) (x : TwinSt) : (s.setTwin x).fresh = s.fresh := (rfl)
@[simp] theorem State.setTwin_out (s : State) (x : TwinSt) : (s.setTwin x).out = s.out := (rfl)
@[simp] theorem State.setTwin_regs (s : State) (x : TwinSt) : (s.setTwin x).regs = s.regs := (rfl)
@[simp] theorem State.setTwin_shadow (s : State) (x : TwinSt) : (s.setTwin x).shadow = s.shadow := (rfl)
@[simp] theorem State.setTwin_time (s : State) (x : TwinSt) : (s.setTwin x).time = s.time := (rfl)
@[simp] theorem State.setTwin_intake (s : State) (x : TwinSt) : (s.setTwin x).intake = s.intake := (rfl)
@[simp] theorem State.setTwin_man (s : State) (x : TwinSt) : (s.setTwin x).man = s.man := (rfl)
@[simp] theorem State.setTwin_parts (s : State) (x : TwinSt) : (s.setTwin x).parts = s.parts := (rfl)
@[simp] theorem State.setTwin_te (s : State) (x : TwinSt) : (s.setTwin x).te = s.te := (rfl)
@[simp] theorem State.setTwin_phys (s : State) (x : TwinSt) : (s.setTwin x).phys = s.phys := (rfl)
@[simp] theorem State.setTwin_holds (s : State) (x : TwinSt) : (s.setTwin x).holds = s.holds := (rfl)
@[simp] theorem State.setTwin_mem (s : State) (x : TwinSt) : (s.setTwin x).mem = s.mem := (rfl)
@[simp] theorem State.setTwin_lmeta (s : State) (x : TwinSt) : (s.setTwin x).lmeta = s.lmeta := (rfl)
@[simp] theorem State.setTwin_progs (s : State) (x : TwinSt) : (s.setTwin x).progs = s.progs := (rfl)
@[simp] theorem State.setTwin_loads (s : State) (x : TwinSt) : (s.setTwin x).loads = s.loads := (rfl)
@[simp] theorem State.setTwin_ended (s : State) (x : TwinSt) : (s.setTwin x).ended = s.ended := (rfl)
@[simp] theorem State.setTwin_endedPrev (s : State) (x : TwinSt) : (s.setTwin x).endedPrev = s.endedPrev := (rfl)
@[simp] theorem State.setTwin_bars (s : State) (x : TwinSt) : (s.setTwin x).bars = s.bars := (rfl)
@[simp] theorem State.setTwin_copies (s : State) (x : TwinSt) : (s.setTwin x).copies = s.copies := (rfl)
@[simp] theorem State.setTwin_deferred (s : State) (x : TwinSt) : (s.setTwin x).deferred = s.deferred := (rfl)
@[simp] theorem State.setTwin_rings (s : State) (x : TwinSt) : (s.setTwin x).rings = s.rings := (rfl)
@[simp] theorem State.setTwin_dtu (s : State) (x : TwinSt) : (s.setTwin x).dtu = s.dtu := (rfl)
@[simp] theorem State.setTwin_err (s : State) (x : TwinSt) : (s.setTwin x).err = s.err := (rfl)
@[simp] theorem State.setTwin_coh (s : State) (x : TwinSt) : (s.setTwin x).coh = s.coh := (rfl)
@[simp] theorem State.setTwin_heap (s : State) (x : TwinSt) : (s.setTwin x).heap = s.heap := (rfl)
@[simp] theorem State.setTwin_fab (s : State) (x : TwinSt) : (s.setTwin x).fab = s.fab := (rfl)
@[simp] theorem State.setTwin_slips (s : State) (x : TwinSt) : (s.setTwin x).slips = s.slips := (rfl)
@[simp] theorem State.setTwin_lrs (s : State) (x : TwinSt) : (s.setTwin x).lrs = s.lrs := (rfl)
@[simp] theorem State.setTwin_pci (s : State) (x : TwinSt) : (s.setTwin x).pci = s.pci := (rfl)
@[simp] theorem State.setTwin_pins (s : State) (x : TwinSt) : (s.setTwin x).pins = s.pins := (rfl)
@[simp] theorem State.setTwin_flash (s : State) (x : TwinSt) : (s.setTwin x).flash = s.flash := (rfl)
@[simp] theorem State.setTwin_brg (s : State) (x : TwinSt) : (s.setTwin x).brg = s.brg := (rfl)
@[simp] theorem State.setTwin_pwr (s : State) (x : TwinSt) : (s.setTwin x).pwr = s.pwr := (rfl)
@[simp] theorem State.setTwin_sec (s : State) (x : TwinSt) : (s.setTwin x).sec = s.sec := (rfl)
@[simp] theorem State.setTwin_fuses (s : State) (x : TwinSt) : (s.setTwin x).fuses = s.fuses := (rfl)
@[simp] theorem State.setTwin_tap (s : State) (x : TwinSt) : (s.setTwin x).tap = s.tap := (rfl)

/-! State.setSl -/

@[simp] theorem State.setSl_pending (s : State) (v : Nat) (x : SlipSt) : (s.setSl v x).pending = s.pending := (rfl)
@[simp] theorem State.setSl_fresh (s : State) (v : Nat) (x : SlipSt) : (s.setSl v x).fresh = s.fresh := (rfl)
@[simp] theorem State.setSl_out (s : State) (v : Nat) (x : SlipSt) : (s.setSl v x).out = s.out := (rfl)
@[simp] theorem State.setSl_regs (s : State) (v : Nat) (x : SlipSt) : (s.setSl v x).regs = s.regs := (rfl)
@[simp] theorem State.setSl_shadow (s : State) (v : Nat) (x : SlipSt) : (s.setSl v x).shadow = s.shadow := (rfl)
@[simp] theorem State.setSl_time (s : State) (v : Nat) (x : SlipSt) : (s.setSl v x).time = s.time := (rfl)
@[simp] theorem State.setSl_intake (s : State) (v : Nat) (x : SlipSt) : (s.setSl v x).intake = s.intake := (rfl)
@[simp] theorem State.setSl_man (s : State) (v : Nat) (x : SlipSt) : (s.setSl v x).man = s.man := (rfl)
@[simp] theorem State.setSl_parts (s : State) (v : Nat) (x : SlipSt) : (s.setSl v x).parts = s.parts := (rfl)
@[simp] theorem State.setSl_te (s : State) (v : Nat) (x : SlipSt) : (s.setSl v x).te = s.te := (rfl)
@[simp] theorem State.setSl_phys (s : State) (v : Nat) (x : SlipSt) : (s.setSl v x).phys = s.phys := (rfl)
@[simp] theorem State.setSl_holds (s : State) (v : Nat) (x : SlipSt) : (s.setSl v x).holds = s.holds := (rfl)
@[simp] theorem State.setSl_mem (s : State) (v : Nat) (x : SlipSt) : (s.setSl v x).mem = s.mem := (rfl)
@[simp] theorem State.setSl_lmeta (s : State) (v : Nat) (x : SlipSt) : (s.setSl v x).lmeta = s.lmeta := (rfl)
@[simp] theorem State.setSl_progs (s : State) (v : Nat) (x : SlipSt) : (s.setSl v x).progs = s.progs := (rfl)
@[simp] theorem State.setSl_loads (s : State) (v : Nat) (x : SlipSt) : (s.setSl v x).loads = s.loads := (rfl)
@[simp] theorem State.setSl_ended (s : State) (v : Nat) (x : SlipSt) : (s.setSl v x).ended = s.ended := (rfl)
@[simp] theorem State.setSl_endedPrev (s : State) (v : Nat) (x : SlipSt) : (s.setSl v x).endedPrev = s.endedPrev := (rfl)
@[simp] theorem State.setSl_bars (s : State) (v : Nat) (x : SlipSt) : (s.setSl v x).bars = s.bars := (rfl)
@[simp] theorem State.setSl_copies (s : State) (v : Nat) (x : SlipSt) : (s.setSl v x).copies = s.copies := (rfl)
@[simp] theorem State.setSl_deferred (s : State) (v : Nat) (x : SlipSt) : (s.setSl v x).deferred = s.deferred := (rfl)
@[simp] theorem State.setSl_rings (s : State) (v : Nat) (x : SlipSt) : (s.setSl v x).rings = s.rings := (rfl)
@[simp] theorem State.setSl_dtu (s : State) (v : Nat) (x : SlipSt) : (s.setSl v x).dtu = s.dtu := (rfl)
@[simp] theorem State.setSl_err (s : State) (v : Nat) (x : SlipSt) : (s.setSl v x).err = s.err := (rfl)
@[simp] theorem State.setSl_coh (s : State) (v : Nat) (x : SlipSt) : (s.setSl v x).coh = s.coh := (rfl)
@[simp] theorem State.setSl_heap (s : State) (v : Nat) (x : SlipSt) : (s.setSl v x).heap = s.heap := (rfl)
@[simp] theorem State.setSl_fab (s : State) (v : Nat) (x : SlipSt) : (s.setSl v x).fab = s.fab := (rfl)
@[simp] theorem State.setSl_lrs (s : State) (v : Nat) (x : SlipSt) : (s.setSl v x).lrs = s.lrs := (rfl)
@[simp] theorem State.setSl_pci (s : State) (v : Nat) (x : SlipSt) : (s.setSl v x).pci = s.pci := (rfl)
@[simp] theorem State.setSl_pins (s : State) (v : Nat) (x : SlipSt) : (s.setSl v x).pins = s.pins := (rfl)
@[simp] theorem State.setSl_flash (s : State) (v : Nat) (x : SlipSt) : (s.setSl v x).flash = s.flash := (rfl)
@[simp] theorem State.setSl_brg (s : State) (v : Nat) (x : SlipSt) : (s.setSl v x).brg = s.brg := (rfl)
@[simp] theorem State.setSl_pwr (s : State) (v : Nat) (x : SlipSt) : (s.setSl v x).pwr = s.pwr := (rfl)
@[simp] theorem State.setSl_twin (s : State) (v : Nat) (x : SlipSt) : (s.setSl v x).twin = s.twin := (rfl)
@[simp] theorem State.setSl_sec (s : State) (v : Nat) (x : SlipSt) : (s.setSl v x).sec = s.sec := (rfl)
@[simp] theorem State.setSl_fuses (s : State) (v : Nat) (x : SlipSt) : (s.setSl v x).fuses = s.fuses := (rfl)
@[simp] theorem State.setSl_tap (s : State) (v : Nat) (x : SlipSt) : (s.setSl v x).tap = s.tap := (rfl)

/-! State.setLp -/

@[simp] theorem State.setLp_pending (s : State) (p : Nat) (x : LrsSt) : (s.setLp p x).pending = s.pending := (rfl)
@[simp] theorem State.setLp_fresh (s : State) (p : Nat) (x : LrsSt) : (s.setLp p x).fresh = s.fresh := (rfl)
@[simp] theorem State.setLp_out (s : State) (p : Nat) (x : LrsSt) : (s.setLp p x).out = s.out := (rfl)
@[simp] theorem State.setLp_regs (s : State) (p : Nat) (x : LrsSt) : (s.setLp p x).regs = s.regs := (rfl)
@[simp] theorem State.setLp_shadow (s : State) (p : Nat) (x : LrsSt) : (s.setLp p x).shadow = s.shadow := (rfl)
@[simp] theorem State.setLp_time (s : State) (p : Nat) (x : LrsSt) : (s.setLp p x).time = s.time := (rfl)
@[simp] theorem State.setLp_intake (s : State) (p : Nat) (x : LrsSt) : (s.setLp p x).intake = s.intake := (rfl)
@[simp] theorem State.setLp_man (s : State) (p : Nat) (x : LrsSt) : (s.setLp p x).man = s.man := (rfl)
@[simp] theorem State.setLp_parts (s : State) (p : Nat) (x : LrsSt) : (s.setLp p x).parts = s.parts := (rfl)
@[simp] theorem State.setLp_te (s : State) (p : Nat) (x : LrsSt) : (s.setLp p x).te = s.te := (rfl)
@[simp] theorem State.setLp_phys (s : State) (p : Nat) (x : LrsSt) : (s.setLp p x).phys = s.phys := (rfl)
@[simp] theorem State.setLp_holds (s : State) (p : Nat) (x : LrsSt) : (s.setLp p x).holds = s.holds := (rfl)
@[simp] theorem State.setLp_mem (s : State) (p : Nat) (x : LrsSt) : (s.setLp p x).mem = s.mem := (rfl)
@[simp] theorem State.setLp_lmeta (s : State) (p : Nat) (x : LrsSt) : (s.setLp p x).lmeta = s.lmeta := (rfl)
@[simp] theorem State.setLp_progs (s : State) (p : Nat) (x : LrsSt) : (s.setLp p x).progs = s.progs := (rfl)
@[simp] theorem State.setLp_loads (s : State) (p : Nat) (x : LrsSt) : (s.setLp p x).loads = s.loads := (rfl)
@[simp] theorem State.setLp_ended (s : State) (p : Nat) (x : LrsSt) : (s.setLp p x).ended = s.ended := (rfl)
@[simp] theorem State.setLp_endedPrev (s : State) (p : Nat) (x : LrsSt) : (s.setLp p x).endedPrev = s.endedPrev := (rfl)
@[simp] theorem State.setLp_bars (s : State) (p : Nat) (x : LrsSt) : (s.setLp p x).bars = s.bars := (rfl)
@[simp] theorem State.setLp_copies (s : State) (p : Nat) (x : LrsSt) : (s.setLp p x).copies = s.copies := (rfl)
@[simp] theorem State.setLp_deferred (s : State) (p : Nat) (x : LrsSt) : (s.setLp p x).deferred = s.deferred := (rfl)
@[simp] theorem State.setLp_rings (s : State) (p : Nat) (x : LrsSt) : (s.setLp p x).rings = s.rings := (rfl)
@[simp] theorem State.setLp_dtu (s : State) (p : Nat) (x : LrsSt) : (s.setLp p x).dtu = s.dtu := (rfl)
@[simp] theorem State.setLp_err (s : State) (p : Nat) (x : LrsSt) : (s.setLp p x).err = s.err := (rfl)
@[simp] theorem State.setLp_coh (s : State) (p : Nat) (x : LrsSt) : (s.setLp p x).coh = s.coh := (rfl)
@[simp] theorem State.setLp_heap (s : State) (p : Nat) (x : LrsSt) : (s.setLp p x).heap = s.heap := (rfl)
@[simp] theorem State.setLp_fab (s : State) (p : Nat) (x : LrsSt) : (s.setLp p x).fab = s.fab := (rfl)
@[simp] theorem State.setLp_slips (s : State) (p : Nat) (x : LrsSt) : (s.setLp p x).slips = s.slips := (rfl)
@[simp] theorem State.setLp_pci (s : State) (p : Nat) (x : LrsSt) : (s.setLp p x).pci = s.pci := (rfl)
@[simp] theorem State.setLp_pins (s : State) (p : Nat) (x : LrsSt) : (s.setLp p x).pins = s.pins := (rfl)
@[simp] theorem State.setLp_flash (s : State) (p : Nat) (x : LrsSt) : (s.setLp p x).flash = s.flash := (rfl)
@[simp] theorem State.setLp_brg (s : State) (p : Nat) (x : LrsSt) : (s.setLp p x).brg = s.brg := (rfl)
@[simp] theorem State.setLp_pwr (s : State) (p : Nat) (x : LrsSt) : (s.setLp p x).pwr = s.pwr := (rfl)
@[simp] theorem State.setLp_twin (s : State) (p : Nat) (x : LrsSt) : (s.setLp p x).twin = s.twin := (rfl)
@[simp] theorem State.setLp_sec (s : State) (p : Nat) (x : LrsSt) : (s.setLp p x).sec = s.sec := (rfl)
@[simp] theorem State.setLp_fuses (s : State) (p : Nat) (x : LrsSt) : (s.setLp p x).fuses = s.fuses := (rfl)
@[simp] theorem State.setLp_tap (s : State) (p : Nat) (x : LrsSt) : (s.setLp p x).tap = s.tap := (rfl)

/-! State.putShadow -/

@[simp] theorem State.putShadow_pending (s : State) (key : Nat) (f : Fld) (x : Nat) : (s.putShadow key f x).pending = s.pending := (rfl)
@[simp] theorem State.putShadow_fresh (s : State) (key : Nat) (f : Fld) (x : Nat) : (s.putShadow key f x).fresh = s.fresh := (rfl)
@[simp] theorem State.putShadow_out (s : State) (key : Nat) (f : Fld) (x : Nat) : (s.putShadow key f x).out = s.out := (rfl)
@[simp] theorem State.putShadow_regs (s : State) (key : Nat) (f : Fld) (x : Nat) : (s.putShadow key f x).regs = s.regs := (rfl)
@[simp] theorem State.putShadow_time (s : State) (key : Nat) (f : Fld) (x : Nat) : (s.putShadow key f x).time = s.time := (rfl)
@[simp] theorem State.putShadow_intake (s : State) (key : Nat) (f : Fld) (x : Nat) : (s.putShadow key f x).intake = s.intake := (rfl)
@[simp] theorem State.putShadow_man (s : State) (key : Nat) (f : Fld) (x : Nat) : (s.putShadow key f x).man = s.man := (rfl)
@[simp] theorem State.putShadow_parts (s : State) (key : Nat) (f : Fld) (x : Nat) : (s.putShadow key f x).parts = s.parts := (rfl)
@[simp] theorem State.putShadow_te (s : State) (key : Nat) (f : Fld) (x : Nat) : (s.putShadow key f x).te = s.te := (rfl)
@[simp] theorem State.putShadow_phys (s : State) (key : Nat) (f : Fld) (x : Nat) : (s.putShadow key f x).phys = s.phys := (rfl)
@[simp] theorem State.putShadow_holds (s : State) (key : Nat) (f : Fld) (x : Nat) : (s.putShadow key f x).holds = s.holds := (rfl)
@[simp] theorem State.putShadow_mem (s : State) (key : Nat) (f : Fld) (x : Nat) : (s.putShadow key f x).mem = s.mem := (rfl)
@[simp] theorem State.putShadow_lmeta (s : State) (key : Nat) (f : Fld) (x : Nat) : (s.putShadow key f x).lmeta = s.lmeta := (rfl)
@[simp] theorem State.putShadow_progs (s : State) (key : Nat) (f : Fld) (x : Nat) : (s.putShadow key f x).progs = s.progs := (rfl)
@[simp] theorem State.putShadow_loads (s : State) (key : Nat) (f : Fld) (x : Nat) : (s.putShadow key f x).loads = s.loads := (rfl)
@[simp] theorem State.putShadow_ended (s : State) (key : Nat) (f : Fld) (x : Nat) : (s.putShadow key f x).ended = s.ended := (rfl)
@[simp] theorem State.putShadow_endedPrev (s : State) (key : Nat) (f : Fld) (x : Nat) : (s.putShadow key f x).endedPrev = s.endedPrev := (rfl)
@[simp] theorem State.putShadow_bars (s : State) (key : Nat) (f : Fld) (x : Nat) : (s.putShadow key f x).bars = s.bars := (rfl)
@[simp] theorem State.putShadow_copies (s : State) (key : Nat) (f : Fld) (x : Nat) : (s.putShadow key f x).copies = s.copies := (rfl)
@[simp] theorem State.putShadow_deferred (s : State) (key : Nat) (f : Fld) (x : Nat) : (s.putShadow key f x).deferred = s.deferred := (rfl)
@[simp] theorem State.putShadow_rings (s : State) (key : Nat) (f : Fld) (x : Nat) : (s.putShadow key f x).rings = s.rings := (rfl)
@[simp] theorem State.putShadow_dtu (s : State) (key : Nat) (f : Fld) (x : Nat) : (s.putShadow key f x).dtu = s.dtu := (rfl)
@[simp] theorem State.putShadow_err (s : State) (key : Nat) (f : Fld) (x : Nat) : (s.putShadow key f x).err = s.err := (rfl)
@[simp] theorem State.putShadow_coh (s : State) (key : Nat) (f : Fld) (x : Nat) : (s.putShadow key f x).coh = s.coh := (rfl)
@[simp] theorem State.putShadow_heap (s : State) (key : Nat) (f : Fld) (x : Nat) : (s.putShadow key f x).heap = s.heap := (rfl)
@[simp] theorem State.putShadow_fab (s : State) (key : Nat) (f : Fld) (x : Nat) : (s.putShadow key f x).fab = s.fab := (rfl)
@[simp] theorem State.putShadow_slips (s : State) (key : Nat) (f : Fld) (x : Nat) : (s.putShadow key f x).slips = s.slips := (rfl)
@[simp] theorem State.putShadow_lrs (s : State) (key : Nat) (f : Fld) (x : Nat) : (s.putShadow key f x).lrs = s.lrs := (rfl)
@[simp] theorem State.putShadow_pci (s : State) (key : Nat) (f : Fld) (x : Nat) : (s.putShadow key f x).pci = s.pci := (rfl)
@[simp] theorem State.putShadow_pins (s : State) (key : Nat) (f : Fld) (x : Nat) : (s.putShadow key f x).pins = s.pins := (rfl)
@[simp] theorem State.putShadow_flash (s : State) (key : Nat) (f : Fld) (x : Nat) : (s.putShadow key f x).flash = s.flash := (rfl)
@[simp] theorem State.putShadow_brg (s : State) (key : Nat) (f : Fld) (x : Nat) : (s.putShadow key f x).brg = s.brg := (rfl)
@[simp] theorem State.putShadow_pwr (s : State) (key : Nat) (f : Fld) (x : Nat) : (s.putShadow key f x).pwr = s.pwr := (rfl)
@[simp] theorem State.putShadow_twin (s : State) (key : Nat) (f : Fld) (x : Nat) : (s.putShadow key f x).twin = s.twin := (rfl)
@[simp] theorem State.putShadow_sec (s : State) (key : Nat) (f : Fld) (x : Nat) : (s.putShadow key f x).sec = s.sec := (rfl)
@[simp] theorem State.putShadow_fuses (s : State) (key : Nat) (f : Fld) (x : Nat) : (s.putShadow key f x).fuses = s.fuses := (rfl)
@[simp] theorem State.putShadow_tap (s : State) (key : Nat) (f : Fld) (x : Nat) : (s.putShadow key f x).tap = s.tap := (rfl)

/-! State.setMovers -/

@[simp] theorem State.setMovers_pending (s : State) (l : List (List Nat × Nat × Nat × Nat)) : (s.setMovers l).pending = s.pending := (rfl)
@[simp] theorem State.setMovers_fresh (s : State) (l : List (List Nat × Nat × Nat × Nat)) : (s.setMovers l).fresh = s.fresh := (rfl)
@[simp] theorem State.setMovers_out (s : State) (l : List (List Nat × Nat × Nat × Nat)) : (s.setMovers l).out = s.out := (rfl)
@[simp] theorem State.setMovers_regs (s : State) (l : List (List Nat × Nat × Nat × Nat)) : (s.setMovers l).regs = s.regs := (rfl)
@[simp] theorem State.setMovers_shadow (s : State) (l : List (List Nat × Nat × Nat × Nat)) : (s.setMovers l).shadow = s.shadow := (rfl)
@[simp] theorem State.setMovers_time (s : State) (l : List (List Nat × Nat × Nat × Nat)) : (s.setMovers l).time = s.time := (rfl)
@[simp] theorem State.setMovers_intake (s : State) (l : List (List Nat × Nat × Nat × Nat)) : (s.setMovers l).intake = s.intake := (rfl)
@[simp] theorem State.setMovers_man (s : State) (l : List (List Nat × Nat × Nat × Nat)) : (s.setMovers l).man = s.man := (rfl)
@[simp] theorem State.setMovers_parts (s : State) (l : List (List Nat × Nat × Nat × Nat)) : (s.setMovers l).parts = s.parts := (rfl)
@[simp] theorem State.setMovers_te (s : State) (l : List (List Nat × Nat × Nat × Nat)) : (s.setMovers l).te = s.te := (rfl)
@[simp] theorem State.setMovers_phys (s : State) (l : List (List Nat × Nat × Nat × Nat)) : (s.setMovers l).phys = s.phys := (rfl)
@[simp] theorem State.setMovers_holds (s : State) (l : List (List Nat × Nat × Nat × Nat)) : (s.setMovers l).holds = s.holds := (rfl)
@[simp] theorem State.setMovers_mem (s : State) (l : List (List Nat × Nat × Nat × Nat)) : (s.setMovers l).mem = s.mem := (rfl)
@[simp] theorem State.setMovers_lmeta (s : State) (l : List (List Nat × Nat × Nat × Nat)) : (s.setMovers l).lmeta = s.lmeta := (rfl)
@[simp] theorem State.setMovers_progs (s : State) (l : List (List Nat × Nat × Nat × Nat)) : (s.setMovers l).progs = s.progs := (rfl)
@[simp] theorem State.setMovers_loads (s : State) (l : List (List Nat × Nat × Nat × Nat)) : (s.setMovers l).loads = s.loads := (rfl)
@[simp] theorem State.setMovers_ended (s : State) (l : List (List Nat × Nat × Nat × Nat)) : (s.setMovers l).ended = s.ended := (rfl)
@[simp] theorem State.setMovers_endedPrev (s : State) (l : List (List Nat × Nat × Nat × Nat)) : (s.setMovers l).endedPrev = s.endedPrev := (rfl)
@[simp] theorem State.setMovers_bars (s : State) (l : List (List Nat × Nat × Nat × Nat)) : (s.setMovers l).bars = s.bars := (rfl)
@[simp] theorem State.setMovers_copies (s : State) (l : List (List Nat × Nat × Nat × Nat)) : (s.setMovers l).copies = s.copies := (rfl)
@[simp] theorem State.setMovers_deferred (s : State) (l : List (List Nat × Nat × Nat × Nat)) : (s.setMovers l).deferred = s.deferred := (rfl)
@[simp] theorem State.setMovers_rings (s : State) (l : List (List Nat × Nat × Nat × Nat)) : (s.setMovers l).rings = s.rings := (rfl)
@[simp] theorem State.setMovers_dtu (s : State) (l : List (List Nat × Nat × Nat × Nat)) : (s.setMovers l).dtu = s.dtu := (rfl)
@[simp] theorem State.setMovers_err (s : State) (l : List (List Nat × Nat × Nat × Nat)) : (s.setMovers l).err = s.err := (rfl)
@[simp] theorem State.setMovers_coh (s : State) (l : List (List Nat × Nat × Nat × Nat)) : (s.setMovers l).coh = s.coh := (rfl)
@[simp] theorem State.setMovers_heap (s : State) (l : List (List Nat × Nat × Nat × Nat)) : (s.setMovers l).heap = s.heap := (rfl)
@[simp] theorem State.setMovers_slips (s : State) (l : List (List Nat × Nat × Nat × Nat)) : (s.setMovers l).slips = s.slips := (rfl)
@[simp] theorem State.setMovers_lrs (s : State) (l : List (List Nat × Nat × Nat × Nat)) : (s.setMovers l).lrs = s.lrs := (rfl)
@[simp] theorem State.setMovers_pci (s : State) (l : List (List Nat × Nat × Nat × Nat)) : (s.setMovers l).pci = s.pci := (rfl)
@[simp] theorem State.setMovers_pins (s : State) (l : List (List Nat × Nat × Nat × Nat)) : (s.setMovers l).pins = s.pins := (rfl)
@[simp] theorem State.setMovers_flash (s : State) (l : List (List Nat × Nat × Nat × Nat)) : (s.setMovers l).flash = s.flash := (rfl)
@[simp] theorem State.setMovers_brg (s : State) (l : List (List Nat × Nat × Nat × Nat)) : (s.setMovers l).brg = s.brg := (rfl)
@[simp] theorem State.setMovers_pwr (s : State) (l : List (List Nat × Nat × Nat × Nat)) : (s.setMovers l).pwr = s.pwr := (rfl)
@[simp] theorem State.setMovers_twin (s : State) (l : List (List Nat × Nat × Nat × Nat)) : (s.setMovers l).twin = s.twin := (rfl)
@[simp] theorem State.setMovers_sec (s : State) (l : List (List Nat × Nat × Nat × Nat)) : (s.setMovers l).sec = s.sec := (rfl)
@[simp] theorem State.setMovers_fuses (s : State) (l : List (List Nat × Nat × Nat × Nat)) : (s.setMovers l).fuses = s.fuses := (rfl)
@[simp] theorem State.setMovers_tap (s : State) (l : List (List Nat × Nat × Nat × Nat)) : (s.setMovers l).tap = s.tap := (rfl)

/-! State.setWalks -/

@[simp] theorem State.setWalks_pending (s : State) (l : List WalkRec) : (s.setWalks l).pending = s.pending := (rfl)
@[simp] theorem State.setWalks_fresh (s : State) (l : List WalkRec) : (s.setWalks l).fresh = s.fresh := (rfl)
@[simp] theorem State.setWalks_out (s : State) (l : List WalkRec) : (s.setWalks l).out = s.out := (rfl)
@[simp] theorem State.setWalks_regs (s : State) (l : List WalkRec) : (s.setWalks l).regs = s.regs := (rfl)
@[simp] theorem State.setWalks_shadow (s : State) (l : List WalkRec) : (s.setWalks l).shadow = s.shadow := (rfl)
@[simp] theorem State.setWalks_time (s : State) (l : List WalkRec) : (s.setWalks l).time = s.time := (rfl)
@[simp] theorem State.setWalks_intake (s : State) (l : List WalkRec) : (s.setWalks l).intake = s.intake := (rfl)
@[simp] theorem State.setWalks_man (s : State) (l : List WalkRec) : (s.setWalks l).man = s.man := (rfl)
@[simp] theorem State.setWalks_parts (s : State) (l : List WalkRec) : (s.setWalks l).parts = s.parts := (rfl)
@[simp] theorem State.setWalks_te (s : State) (l : List WalkRec) : (s.setWalks l).te = s.te := (rfl)
@[simp] theorem State.setWalks_phys (s : State) (l : List WalkRec) : (s.setWalks l).phys = s.phys := (rfl)
@[simp] theorem State.setWalks_holds (s : State) (l : List WalkRec) : (s.setWalks l).holds = s.holds := (rfl)
@[simp] theorem State.setWalks_mem (s : State) (l : List WalkRec) : (s.setWalks l).mem = s.mem := (rfl)
@[simp] theorem State.setWalks_lmeta (s : State) (l : List WalkRec) : (s.setWalks l).lmeta = s.lmeta := (rfl)
@[simp] theorem State.setWalks_progs (s : State) (l : List WalkRec) : (s.setWalks l).progs = s.progs := (rfl)
@[simp] theorem State.setWalks_loads (s : State) (l : List WalkRec) : (s.setWalks l).loads = s.loads := (rfl)
@[simp] theorem State.setWalks_ended (s : State) (l : List WalkRec) : (s.setWalks l).ended = s.ended := (rfl)
@[simp] theorem State.setWalks_endedPrev (s : State) (l : List WalkRec) : (s.setWalks l).endedPrev = s.endedPrev := (rfl)
@[simp] theorem State.setWalks_bars (s : State) (l : List WalkRec) : (s.setWalks l).bars = s.bars := (rfl)
@[simp] theorem State.setWalks_copies (s : State) (l : List WalkRec) : (s.setWalks l).copies = s.copies := (rfl)
@[simp] theorem State.setWalks_deferred (s : State) (l : List WalkRec) : (s.setWalks l).deferred = s.deferred := (rfl)
@[simp] theorem State.setWalks_rings (s : State) (l : List WalkRec) : (s.setWalks l).rings = s.rings := (rfl)
@[simp] theorem State.setWalks_err (s : State) (l : List WalkRec) : (s.setWalks l).err = s.err := (rfl)
@[simp] theorem State.setWalks_coh (s : State) (l : List WalkRec) : (s.setWalks l).coh = s.coh := (rfl)
@[simp] theorem State.setWalks_heap (s : State) (l : List WalkRec) : (s.setWalks l).heap = s.heap := (rfl)
@[simp] theorem State.setWalks_fab (s : State) (l : List WalkRec) : (s.setWalks l).fab = s.fab := (rfl)
@[simp] theorem State.setWalks_slips (s : State) (l : List WalkRec) : (s.setWalks l).slips = s.slips := (rfl)
@[simp] theorem State.setWalks_lrs (s : State) (l : List WalkRec) : (s.setWalks l).lrs = s.lrs := (rfl)
@[simp] theorem State.setWalks_pci (s : State) (l : List WalkRec) : (s.setWalks l).pci = s.pci := (rfl)
@[simp] theorem State.setWalks_pins (s : State) (l : List WalkRec) : (s.setWalks l).pins = s.pins := (rfl)
@[simp] theorem State.setWalks_flash (s : State) (l : List WalkRec) : (s.setWalks l).flash = s.flash := (rfl)
@[simp] theorem State.setWalks_brg (s : State) (l : List WalkRec) : (s.setWalks l).brg = s.brg := (rfl)
@[simp] theorem State.setWalks_pwr (s : State) (l : List WalkRec) : (s.setWalks l).pwr = s.pwr := (rfl)
@[simp] theorem State.setWalks_twin (s : State) (l : List WalkRec) : (s.setWalks l).twin = s.twin := (rfl)
@[simp] theorem State.setWalks_sec (s : State) (l : List WalkRec) : (s.setWalks l).sec = s.sec := (rfl)
@[simp] theorem State.setWalks_fuses (s : State) (l : List WalkRec) : (s.setWalks l).fuses = s.fuses := (rfl)
@[simp] theorem State.setWalks_tap (s : State) (l : List WalkRec) : (s.setWalks l).tap = s.tap := (rfl)

end Sys2Proof.Machine
end

