-- ==== Sys2Proof/Laws/Canon.lean ====
section
/-! SUPPORT. Every operation of the block keeps the canonical form of the tables: one lemma per operation. -/

namespace Sys2Proof.Machine

open Sys2Proof.Safety

@[simp] theorem canon_regs {s : State} (h : Canon s) : mrising s.regs = true := h.1
@[simp] theorem canon_shadow {s : State} (h : Canon s) : mrising s.shadow = true := h.2.1
@[simp] theorem canon_mem {s : State} (h : Canon s) : Memory.wf s.mem = true := h.2.2.1
@[simp] theorem canon_holds {s : State} (h : Canon s) : Memory.wf s.holds = true := h.2.2.2

/-- A state whose four tables are those of a canonical one is canonical. -/
theorem Canon.of_tables {s t : State} (h : Canon s) (h1 : t.regs = s.regs) (h2 : t.shadow = s.shadow) (h3 : t.mem = s.mem)
    (h4 : t.holds = s.holds) : Canon t := by
  unfold Canon; rw [h1, h2, h3, h4]; exact h

@[simp] theorem ite_canon (c : Prop) [Decidable c] (a b : State) :
    Canon (if c then a else b) = if c then Canon a else Canon b := by split <;> rfl

@[simp] theorem foldl_canon {α : Type} (f : State → α → State) (hf : ∀ s x, Canon s → Canon (f s x)) (l : List α)
    {s : State} (h : Canon s) : Canon (l.foldl f s) := by
  induction l generalizing s with
  | nil => exact h
  | cons x l ih => exact ih (hf s x h)

@[simp] theorem foldl_fst_canon {α β : Type} (f : State × β → α → State × β)
    (hf : ∀ p x, Canon p.1 → Canon (f p x).1) (l : List α) {p : State × β} (h : Canon p.1) : Canon (l.foldl f p).1 := by
  induction l generalizing p with
  | nil => exact h
  | cons x l ih => exact ih (hf p x h)

@[simp] theorem mrising_foldl' {α β : Type} (f : NMap α → β → NMap α) (l : List β) {m : NMap α} (h : mrising m = true)
    (hf : ∀ m x, mrising m = true → mrising (f m x) = true) : mrising (l.foldl f m) = true := mrising_foldl f hf l m h

@[simp] theorem wf_foldl' {β : Type} (f : List Host.Cell → β → List Host.Cell) (l : List β) {m : List Host.Cell}
    (h : Memory.wf m = true) (hf : ∀ m x, Memory.wf m = true → Memory.wf (f m x) = true) : Memory.wf (l.foldl f m) = true :=
  Memory.wf_foldl f hf l m h

@[simp] theorem State.rset_canon {s : State} (key : Nat) (f : Fld) (x : Nat) (h : Canon s) : Canon (s.rset key f x) :=
  ⟨mrising_mput _ _ _ h.1, mrising_dropShadow _ _ _ h.2.1, h.2.2⟩

@[simp] theorem State.rput_canon (s : State) (key : Nat) (v : Nat) (hs : Canon s) : Canon (State.rput s key v) := by
  unfold State.rput
  simp +contextual [*]

@[simp] theorem State.radd_canon (s : State) (key : Nat) (f : Fld) (n : Nat) (hs : Canon s) : Canon (State.radd s key f n) := by
  unfold State.radd
  simp +contextual [*]

@[simp] theorem State.rinc_canon (s : State) (key : Nat) (f : Fld) (n : Nat) (hs : Canon s) : Canon (State.rinc s key f n) := by
  unfold State.rinc
  simp +contextual [*]

@[simp] theorem State.setFab_canon (s : State) (x : FabSt) (hs : Canon s) : Canon (State.setFab s x) := by
  exact hs

@[simp] theorem State.rsetIf_canon (s : State) (c : Bool) (key : Nat) (f : Fld) (x : Nat) (hs : Canon s) : Canon
    (State.rsetIf s c key f x) := by
  unfold State.rsetIf
  simp +contextual [*]

/-- A state written out is canonical where its four tables are. -/
@[simp] theorem canon_mk f_pending f_fresh f_out f_regs f_shadow f_time f_intake f_man f_parts f_te f_phys f_holds
    f_mem f_lmeta f_progs f_loads f_ended f_endedPrev f_bars f_copies f_deferred f_rings f_dtu f_err f_coh f_heap
    f_fab f_slips f_lrs f_pci f_pins f_flash f_brg f_pwr f_twin f_sec f_fuses f_tap :
    Canon (State.mk f_pending f_fresh f_out f_regs f_shadow f_time f_intake f_man f_parts f_te f_phys f_holds f_mem
    f_lmeta f_progs f_loads f_ended f_endedPrev f_bars f_copies f_deferred f_rings f_dtu f_err f_coh f_heap f_fab
    f_slips f_lrs f_pci f_pins f_flash f_brg f_pwr f_twin f_sec f_fuses f_tap) ↔
      mrising f_regs = true ∧ mrising f_shadow = true ∧ Memory.wf f_mem = true ∧ Memory.wf f_holds = true := Iff.rfl

theorem cellsFrom_filter (f : Host.Cell → Bool) (m : List Host.Cell) (b : Nat) (h : cellsFrom b m = true) :
    cellsFrom b (m.filter f) = true := by
  induction m generalizing b with
  | nil => rfl
  | cons p m ih =>
    obtain ⟨k, v⟩ := p
    simp only [cellsFrom, Bool.and_eq_true, decide_eq_true_eq] at h
    simp only [List.filter_cons]
    split
    · simp only [cellsFrom, Bool.and_eq_true, decide_eq_true_eq]
      exact ⟨h.1, ih _ h.2⟩
    · exact cellsFrom_mono (by omega) (ih _ h.2)

@[simp] theorem Memory.wf_filter (f : Host.Cell → Bool) (m : List Host.Cell) (h : Memory.wf m = true) :
    Memory.wf (m.filter f) = true := cellsFrom_filter f m 0 h

@[simp] theorem holdPut_wf (m : List Host.Cell) (x c : Nat) (mi : Option Nat) (l a : Nat) (b : Byte)
    (h : Memory.wf m = true) : Memory.wf (holdPut m x c mi l a b) = true := by
  unfold holdPut
  cases mi with
  | none => exact Memory.wf_cellWrite _ _ _ h
  | some y =>
    dsimp only
    split
    · exact Memory.wf_cellWrite _ _ _ (Memory.wf_cellWrite _ _ _ h)
    · exact Memory.wf_cellWrite _ _ _ h

@[simp] theorem holdPuts_wf (bs : List Byte) (m : List Host.Cell) (x c : Nat) (mi : Option Nat) (l a : Nat)
    (h : Memory.wf m = true) : Memory.wf (holdPuts m x c mi l a bs) = true := by
  induction bs generalizing m a with
  | nil => exact h
  | cons b bs ih => exact ih _ _ (holdPut_wf _ _ _ _ _ _ _ h)

theorem risingFrom_mapVals {α : Type} (g : Nat × α → Nat × α) (hg : ∀ p, (g p).1 = p.1) (m : NMap α) (b : Nat)
    (h : risingFrom b m = true) : risingFrom b (m.map g) = true := by
  induction m generalizing b with
  | nil => rfl
  | cons p m ih =>
    obtain ⟨k, v⟩ := p
    simp only [risingFrom, Bool.and_eq_true, decide_eq_true_eq] at h
    have hp := hg (k, v)
    simp only [List.map_cons]
    cases hq : g (k, v) with
    | mk k' v' =>
      rw [hq] at hp
      simp only at hp
      subst hp
      simp only [risingFrom, Bool.and_eq_true, decide_eq_true_eq]
      exact ⟨h.1, ih _ h.2⟩

/-- Values changed, keys kept. -/
theorem mrising_mapVals {α : Type} (g : Nat × α → Nat × α) (hg : ∀ p, (g p).1 = p.1) (m : NMap α)
    (h : mrising m = true) : mrising (m.map g) = true := risingFrom_mapVals g hg m 0 h

@[simp] theorem zeroRanges_wf (m : List Host.Cell) (rs : List (Nat × Nat)) (h : Memory.wf m = true) :
    Memory.wf (zeroRanges m rs) = true := Memory.wf_filter _ _ h

@[simp] theorem State.send_canon (s : State) (k : OutKind) (args : List Nat) (data : List Byte) (hs : Canon s) : Canon
    (State.send s k args data) := by
  unfold State.send
  simp (maxDischargeDepth := 50) +contextual [*]

@[simp] theorem State.tick_canon (s : State) (hs : Canon s) : Canon (State.tick s) := by
  unfold State.tick
  (repeat' split) <;> simp (maxDischargeDepth := 50) +contextual [*]

@[simp] theorem State.raddOpen_canon (s : State) (key : Nat) (f : Fld) (n : Nat) (hs : Canon s) : Canon (State.raddOpen s key
    f n) := by
  unfold State.raddOpen
  simp +contextual [*]

@[simp] theorem State.each_canon (s : State) (l : List Nat) (f : State → Nat → State) (hf : ∀ s x0, Canon s → Canon (f s x0))
    (hs : Canon s) : Canon (State.each s l f) := by
  unfold State.each
  simp +contextual [*]

@[simp] theorem State.captureAt_canon {s : State} (key : Nat) (c : CapFlds) (x : Nat) (h : Canon s) :
    Canon (s.captureAt key c x) := ⟨mrising_mput _ _ _ h.1, h.2⟩

@[simp] theorem State.report_canon (s : State) (r : ErrRep) (hs : Canon s) : Canon (State.report s r) := by
  unfold State.report
  (repeat' split) <;> simp (maxDischargeDepth := 50) +contextual [*]

@[simp] theorem State.errBare_canon (s : State) (cls : Nat) (block : Nat) (cause : Nat) (unit : Nat) (hs : Canon s) :
    Canon (State.errBare s cls block cause unit) := by
  unfold State.errBare
  (repeat' split) <;> simp (maxDischargeDepth := 50) +contextual [*]

@[simp] theorem State.setPart_canon (s : State) (p : Nat) (x : PartSt) (hs : Canon s) : Canon (State.setPart s p x) :=
    by
  unfold State.setPart
  (repeat' split) <;> simp (maxDischargeDepth := 50) +contextual [*]

@[simp] theorem State.voidPart_canon (s : State) (p : Nat) (vcause : Nat) (block : Nat) (cause : Nat) (unit : Nat)
    (tenant : Option Nat) (addr : Option Nat) (hs : Canon s) : Canon (State.voidPart s p vcause block cause unit tenant
    addr) := by
  unfold State.voidPart
  (repeat' split) <;> simp (maxDischargeDepth := 50) +contextual [*]

@[simp] theorem State.voidAll_canon (s : State) (vcause : Nat) (block : Nat) (cause : Nat) (unit : Nat) (addr : Option
    Nat) (hs : Canon s) : Canon (State.voidAll s vcause block cause unit addr) := by
  unfold State.voidAll
  (repeat' split) <;> simp (maxDischargeDepth := 50) +contextual [*]

@[simp] theorem State.voidFor_canon (s : State) (tenant : Option Nat) (vcause : Nat) (block : Nat) (cause : Nat) (unit : Nat)
    (addr : Option Nat) (hs : Canon s) : Canon (State.voidFor s tenant vcause block cause unit addr) := by
  unfold State.voidFor
  (repeat' split) <;> simp +contextual [*]

@[simp] theorem State.setPh_canon (s : State) (x : Nat) (p : PhysSt) (hs : Canon s) : Canon (State.setPh s x p) := by
  unfold State.setPh
  (repeat' split) <;> simp (maxDischargeDepth := 50) +contextual [*]

@[simp] theorem State.holdWrite_canon (s : State) (k : Nat) (a : Nat) (bs : List Byte) (hs : Canon s) : Canon
    (State.holdWrite s k a bs) := by
  unfold State.holdWrite
  simp +contextual [*]

@[simp] theorem State.countEvts_canon (s : State) (k : Nat) (e : Evts) (hs : Canon s) : Canon (State.countEvts s k e) := by
  unfold State.countEvts
  simp (maxDischargeDepth := 50) +contextual [*]

@[simp] theorem State.clearTe_canon (s : State) (k : Nat) (hs : Canon s) : Canon (State.clearTe s k) := by
  unfold State.clearTe
  simp (maxDischargeDepth := 50) +contextual [*]

@[simp] theorem State.countRd_canon (s : State) (l : Nat) (hs : Canon s) : Canon (State.countRd s l) := by
  unfold State.countRd
  (repeat' split) <;> simp +contextual [*]

@[simp] theorem State.unclean_canon (s : State) (o : Nat) (hs : Canon s) : Canon (State.unclean s o) := by
  unfold State.unclean
  simp +contextual [*]
  (repeat' split) <;> simp_all +contextual

@[simp] theorem State.lineWriteAs_canon (s : State) (l : Nat) (data : Line) (mask : Nat) (o : Nat) (hs : Canon s) :
    Canon (State.lineWriteAs s l data mask o).1 := by
  unfold State.lineWriteAs
  dsimp only
  (repeat' split) <;> simp_all (maxDischargeDepth := 50) +contextual

@[simp] theorem State.lineWrite_canon (s : State) (l : Nat) (data : Line) (mask : Nat) (hs : Canon s) : Canon
    (State.lineWrite s l data mask).1 := by
  unfold State.lineWrite
  simp (maxDischargeDepth := 50) +contextual [*]

@[simp] theorem State.lineMark_canon (s : State) (l : Nat) (hs : Canon s) : Canon (State.lineMark s l).1 := by
  unfold State.lineMark
  simp +contextual [*]
  (repeat' split) <;> simp_all +contextual

@[simp] theorem State.signal_canon (s : State) (fn : Nat) (vec : Nat) (hs : Canon s) : Canon (State.signal s fn vec) := by
  unfold State.signal
  simp +contextual [*]

@[simp] theorem State.signalIf_canon (s : State) (c : Bool) (fn : Nat) (vec : Nat) (hs : Canon s) : Canon (State.signalIf s c
    fn vec) := by
  unfold State.signalIf
  simp +contextual [*]

@[simp] theorem State.cfgPut_canon (s : State) (fn : Nat) (off : Nat) (v : Nat) (hs : Canon s) : Canon (State.cfgPut s fn off
    v) := by
  unfold State.cfgPut
  simp +contextual [*]

@[simp] theorem State.aer_canon (s : State) (off : Nat) (bit : Nat) (hs : Canon s) : Canon (State.aer s off bit) := by
  unfold State.aer
  simp +contextual [*]

@[simp] theorem State.twinEvt_canon (s : State) (f : Fld) (hs : Canon s) : Canon (State.twinEvt s f) := by
  unfold State.twinEvt
  simp +contextual [*]

@[simp] theorem State.stepDown_canon (s : State) (hs : Canon s) : Canon (State.stepDown s) := by
  unfold State.stepDown
  simp (maxDischargeDepth := 50) +contextual [*]

@[simp] theorem State.teState_canon (s : State) (k : Nat) (x : Nat) (hs : Canon s) : Canon (State.teState s k x) := by
  unfold State.teState
  simp +contextual [*]

@[simp] theorem State.busyCycles_canon (s : State) (k : Nat) (n : Nat) (hs : Canon s) : Canon (State.busyCycles s k n) := by
  unfold State.busyCycles
  simp +contextual [*]

@[simp] theorem State.holdStall_canon (s : State) (k : Nat) (n : Nat) (hs : Canon s) : Canon (State.holdStall s k n)
    := by
  unfold State.holdStall
  simp +contextual [*]

@[simp] theorem State.wsStall_canon (s : State) (k : Nat) (n : Nat) (hs : Canon s) : Canon (State.wsStall s k n) := by
  unfold State.wsStall
  simp (maxDischargeDepth := 50) +contextual [*]

@[simp] theorem State.cutCycles_canon (s : State) (k : Nat) (r : LegRun) (n : Nat) (hs : Canon s) : Canon
    (State.cutCycles s k r n) := by
  unfold State.cutCycles
  simp (maxDischargeDepth := 50) +contextual [*]

@[simp] theorem State.legCut_canon (s : State) (k : Nat) (r : LegRun) (hs : Canon s) : Canon (State.legCut s k r) := by
  unfold State.legCut
  simp (maxDischargeDepth := 50) +contextual [*]

@[simp] theorem State.legsCut_canon (s : State) (sel : LegRun → Bool) (hs : Canon s) : Canon (State.legsCut s sel) := by
  unfold State.legsCut
  refine foldl_canon _ (fun s p hs => ?_) _ hs
  (repeat' split) <;> simp (maxDischargeDepth := 50) +contextual [hs]

@[simp] theorem State.domTo_canon (s : State) (d : Nat) (st : Nat) (hs : Canon s) : Canon (State.domTo s d st) := by
  unfold State.domTo
  simp (maxDischargeDepth := 50) +contextual [*]

@[simp] theorem State.fatalNow_canon (s : State) (hs : Canon s) : Canon (State.fatalNow s) := by
  unfold State.fatalNow
  simp (maxDischargeDepth := 50) +contextual [*]

@[simp] theorem State.fatal_canon (s : State) (block : Nat) (cause : Nat) (unit : Nat) (hs : Canon s) : Canon (State.fatal s
    block cause unit) := by
  unfold State.fatal
  simp +contextual [*]

@[simp] theorem State.fatalTrip_canon (s : State) (block : Nat) (cause : Nat) (unit : Nat) (hs : Canon s) : Canon
    (State.fatalTrip s block cause unit) := by
  unfold State.fatalTrip
  simp (maxDischargeDepth := 50) +contextual [*]

@[simp] theorem State.memUe_canon (s : State) (l : Nat) (block : Nat) (cause : Nat) (unit : Nat) (tenant : Option Nat) (hs :
    Canon s) : Canon (State.memUe s l block cause unit tenant) := by
  unfold State.memUe
  simp (maxDischargeDepth := 50) +contextual [*]

@[simp] theorem State.setSl_canon (s : State) (v : Nat) (x : SlipSt) (hs : Canon s) : Canon (State.setSl s v x) := by
  unfold State.setSl
  (repeat' split) <;> simp (maxDischargeDepth := 50) +contextual [*]

@[simp] theorem State.setTx_canon (s : State) (v : Nat) (x : OspTx) (hs : Canon s) : Canon (State.setTx s v x) := by
  unfold State.setTx
  simp (maxDischargeDepth := 50) +contextual [*]

@[simp] theorem State.ospStart_canon (s : State) (v : Nat) (hs : Canon s) : Canon (State.ospStart s v) := by
  unfold State.ospStart
  simp (maxDischargeDepth := 50) +contextual [*]

@[simp] theorem State.ospFree_canon (s : State) (v : Nat) (need : List Nat) (hs : Canon s) : Canon (State.ospFree s v
    need) := by
  unfold State.ospFree
  simp (maxDischargeDepth := 50) +contextual [*]

@[simp] theorem State.osp_canon (s : State) (v : Nat) (args : List Nat) (bytes : List Byte) (h : OspHead) (hs : Canon s)
    : Canon (State.osp s v args bytes h) := by
  unfold State.osp
  simp (maxDischargeDepth := 50) +contextual [*]

@[simp] theorem State.ospMsg_canon (s : State) (v : Nat) (args : List Nat) (cls : Nat) (op : Nat) (qc : Nat) (tag : Nat)
    (addr : Nat) (aux : Nat) (hs : Canon s) : Canon (State.ospMsg s v args cls op qc tag addr aux) := by
  unfold State.ospMsg
  simp (maxDischargeDepth := 50) +contextual [*]

@[simp] theorem State.ospErr_canon (s : State) (v : Nat) (qc : Nat) (tag : Nat) (addr : Nat) (cause : Nat) (hs : Canon
    s) : Canon (State.ospErr s v qc tag addr cause) := by
  unfold State.ospErr
  simp (maxDischargeDepth := 50) +contextual [*]

@[simp] theorem State.ospData_canon (s : State) (v : Nat) (qc : Nat) (tag : Nat) (addr : Nat) (grant : Nat) (d : Line)
    (hs : Canon s) : Canon (State.ospData s v qc tag addr grant d) := by
  unfold State.ospData
  simp (maxDischargeDepth := 50) +contextual [*]

@[simp] theorem State.ospGnt_canon (s : State) (v : Nat) (qc : Nat) (tag : Nat) (addr : Nat) (hs : Canon s) : Canon
    (State.ospGnt s v qc tag addr) := by
  unfold State.ospGnt
  simp (maxDischargeDepth := 50) +contextual [*]

@[simp] theorem State.ospSend_canon (s : State) (v : Nat) (kind : Nat) (fseq : Nat) (payload : List Byte) (hs : Canon s)
    : Canon (State.ospSend s v kind fseq payload) := by
  unfold State.ospSend
  simp (maxDischargeDepth := 50) +contextual [*]

@[simp] theorem State.ospKeep_canon (s : State) (v : Nat) (kind : Nat) (payload : List Byte) (hs : Canon s) : Canon
    (State.ospKeep s v kind payload) := by
  unfold State.ospKeep
  simp (maxDischargeDepth := 50) +contextual [*]

@[simp] theorem State.ospStep_canon (s : State) (v : Nat) (hs : Canon s) : Canon (State.ospStep s v) := by
  unfold State.ospStep
  simp (maxDischargeDepth := 50) +contextual [*]

@[simp] theorem State.ospTick_canon (s : State) (hs : Canon s) : Canon (State.ospTick s) := by
  unfold State.ospTick
  simp (maxDischargeDepth := 50) +contextual [*]

@[simp] theorem State.ospHear_canon (s : State) (v : Nat) (flit : List Byte) (fresh : Bool) (hs : Canon s) : Canon
    (State.ospHear s v flit fresh) := by
  unfold State.ospHear
  simp (maxDischargeDepth := 50) +contextual [*]

@[simp] theorem State.ospResend_canon (s : State) (v : Nat) (fseq : Option Nat) (hs : Canon s) : Canon (State.ospResend
    s v fseq) := by
  unfold State.ospResend
  simp (maxDischargeDepth := 50) +contextual [*]

@[simp] theorem State.ospReplay_canon (s : State) (v : Nat) (hs : Canon s) : Canon (State.ospReplay s v) := by
  unfold State.ospReplay
  simp (maxDischargeDepth := 50) +contextual [*]

@[simp] theorem State.toL0_canon (s : State) (hs : Canon s) : Canon (State.toL0 s) := by
  unfold State.toL0
  simp +contextual [*]

@[simp] theorem State.wakeLink_canon (s : State) (hs : Canon s) : Canon (State.wakeLink s) := by
  unfold State.wakeLink
  simp +contextual [*]

@[simp] theorem State.ltrSend_canon (s : State) (hs : Canon s) : Canon (State.ltrSend s) := by
  unfold State.ltrSend
  simp +contextual [*]

@[simp] theorem State.pciCap_canon (s : State) (fn : Nat) (cause : Nat) (hs : Canon s) : Canon (State.pciCap s fn cause) := by
  unfold State.pciCap
  simp (maxDischargeDepth := 50) +contextual [*]

@[simp] theorem State.hostFail_canon (s : State) (fn : Nat) (cause : Nat) (hs : Canon s) : Canon (State.hostFail s fn cause)
    := by
  unfold State.hostFail
  simp +contextual [*]

@[simp] theorem State.setTwinPart_canon (s : State) (p : Nat) (x : Nat) (hs : Canon s) : Canon (State.setTwinPart s p x) := by
  unfold State.setTwinPart
  simp +contextual [*]

@[simp] theorem State.ferry_canon (s : State) (typ : Nat) (part : Nat) (key : Nat) (data : List Byte) (hs : Canon s) : Canon
    (State.ferry s typ part key data) := by
  unfold State.ferry
  simp (maxDischargeDepth := 50) +contextual [*]

@[simp] theorem State.useEntry_canon (s : State) (e : FEntry) (hs : Canon s) : Canon (State.useEntry s e) := by
  unfold State.useEntry
  simp +contextual [*]

@[simp] theorem State.retain_canon (s : State) (o : Out) (hs : Canon s) : Canon (State.retain s o) := by
  unfold State.retain
  simp +contextual [*]

@[simp] theorem State.atsLook_canon (s : State) (fn : Nat) (addr : Nat) (write : Bool) (hs : Canon s) : Canon (State.atsLook
    s fn addr write).1 := by
  unfold State.atsLook
  simp +contextual [*]
  (repeat' split) <;> simp_all +contextual

@[simp] theorem State.atsTag_canon (s : State) (tag : Nat) (key : Nat) (translated : Bool) (hs : Canon s) : Canon
    (State.atsTag s tag key translated) := by
  unfold State.atsTag
  simp (maxDischargeDepth := 50) +contextual [*]

@[simp] theorem State.showTags_canon (s : State) (hs : Canon s) : Canon (State.showTags s) := by
  unfold State.showTags
  simp (maxDischargeDepth := 50) +contextual [*]

@[simp] theorem State.remSet_canon (s : State) (l : List RRead) (hs : Canon s) : Canon (State.remSet s l) := by
  unfold State.remSet
  (repeat' split) <;> simp (maxDischargeDepth := 50) +contextual [*]

@[simp] theorem State.pumpTags_canon (s : State) (z0 : Nat) (hs : Canon s) : Canon (State.pumpTags s z0) := by
  induction z0 generalizing s with
  | zero => exact hs
  | succ f ih =>
    unfold State.pumpTags
    split
    · split
      · (apply ih; simp (maxDischargeDepth := 50) +contextual [hs])
      · exact hs
    · exact hs

@[simp] theorem State.hostRead_canon (s : State) (who : List Nat) (pa : Nat) (len : Nat) (func : Nat) (hs : Canon s) :
    Canon (State.hostRead s who pa len func) := by
  unfold State.hostRead
  (repeat' split) <;> simp (maxDischargeDepth := 50) +contextual [*]

@[simp] theorem State.askNode_canon (s : State) (node : Nat) (args : List Nat) (bytes : List Byte) (h : OspHead) (hs :
    Canon s) : Canon (State.askNode s node args bytes h) := by
  unfold State.askNode
  simp (maxDischargeDepth := 50) +contextual [*]

@[simp] theorem State.nodeRead_canon (s : State) (who : List Nat) (pa : Nat) (len : Nat) (func : Nat) (hs : Canon s) : Canon
    (State.nodeRead s who pa len func) := by
  unfold State.nodeRead
  simp +contextual [*]

@[simp] theorem State.remIssue_canon (s : State) (who : List Nat) (pa : Nat) (len : Nat) (func : Nat) (hs : Canon s) : Canon
    (State.remIssue s who pa len func) := by
  unfold State.remIssue
  simp +contextual [*]

@[simp] theorem State.remGet_canon (s : State) (who : List Nat) (pa : Nat) (len : Nat) (func : Nat) (hs : Canon s) : Canon
    (State.remGet s who pa len func).1 := by
  unfold State.remGet
  (repeat' split) <;> simp +contextual [*]

@[simp] theorem State.remDrop_canon (s : State) (p : RRead → Bool) (hs : Canon s) : Canon (State.remDrop s p) := by
  unfold State.remDrop
  simp +contextual [*]

@[simp] theorem State.manArrived_canon (s : State) (hs : Canon s) : Canon (State.manArrived s) := by
  unfold State.manArrived
  simp (maxDischargeDepth := 50) +contextual [*]

@[simp] theorem State.hostWrite_canon (s : State) (func : Nat) (addr : Nat) (bs : List Byte) (hs : Canon s) : Canon
    (State.hostWrite s func addr bs).1 := by
  unfold State.hostWrite
  simp (maxDischargeDepth := 50) +contextual [*]
  (repeat' split) <;> simp_all (maxDischargeDepth := 50) +contextual

@[simp] theorem State.nodeWrite_canon (s : State) (who : List Nat) (pa : Nat) (mask : Nat) (args : List Nat) (bs : List
    Byte) (line : List Byte) (hs : Canon s) : Canon (State.nodeWrite s who pa mask args bs line) := by
  unfold State.nodeWrite
  simp (maxDischargeDepth := 50) +contextual [*]

@[simp] theorem State.remWrite_canon (s : State) (who : List Nat) (pa : Nat) (func : Nat) (bs : List Byte) (hs : Canon s) :
    Canon (State.remWrite s who pa func bs).1 := by
  unfold State.remWrite
  simp +contextual [*]
  (repeat' split) <;> simp_all +contextual

@[simp] theorem State.remMasked_canon (s : State) (who : List Nat) (pa : Nat) (mask : Nat) (bs : List Byte) (hs : Canon
    s) : Canon (State.remMasked s who pa mask bs).1 := by
  unfold State.remMasked
  (repeat' split) <;> simp (maxDischargeDepth := 50) +contextual [*]

@[simp] theorem State.fabTick_canon (s : State) (hs : Canon s) : Canon (State.fabTick s) := by
  unfold State.fabTick
  split
  · exact hs
  · have h : ∀ l x, Canon x.1 → Canon (List.foldl State.outTurn x l).1 := by
      intro l x hx
      refine foldl_fst_canon _ (fun p o hp => ?_) l hx
      unfold State.outTurn
      (repeat' split) <;> simp_all
    simp (maxDischargeDepth := 50) +contextual [h, hs]

@[simp] theorem State.postAt_canon (s : State) (at_ : Nat) (h : FabHdr) (up : Bool) (mask : Nat) (d : Line) (hs : Canon
    s) : Canon (State.postAt s at_ h up mask d).1 := by
  unfold State.postAt
  (repeat' split) <;> simp (maxDischargeDepth := 50) +contextual [*]

@[simp] theorem State.post_canon (s : State) (h : FabHdr) (mask : Nat) (d : Line) (hs : Canon s) : Canon (State.post s h
    mask d).1 := by
  unfold State.post
  simp (maxDischargeDepth := 50) +contextual [*]

@[simp] theorem State.fly_canon (s : State) (h : FabHdr) (mask : Nat) (d : Line) (x : HPkt) (hs : Canon s) : Canon
    (State.fly s h mask d x) := by
  unfold State.fly
  (repeat' split) <;> simp (maxDischargeDepth := 50) +contextual [*]

@[simp] theorem State.putBucket_canon (s : State) (p : Nat) (q : Nat) (lv : Int) (hs : Canon s) : Canon (State.putBucket s p
    q lv) := by
  unfold State.putBucket
  simp +contextual [*]

@[simp] theorem State.settleAll_canon (s : State) (hs : Canon s) : Canon (State.settleAll s) := by
  unfold State.settleAll
  simp +contextual [*]

@[simp] theorem State.takeTokens_canon (s : State) (p : Nat) (q : Nat) (hs : Canon s) : Canon (State.takeTokens s p q) := by
  unfold State.takeTokens
  simp +contextual [*]

@[simp] theorem State.debitSpf_canon (s : State) (p : Nat) (q : Nat) (hs : Canon s) : Canon (State.debitSpf s p q) := by
  unfold State.debitSpf
  simp +contextual [*]

@[simp] theorem State.charge_canon (s : State) (p : Nat) (q : Nat) (n : Nat) (hs : Canon s) : Canon (State.charge s p q n) := by
  unfold State.charge
  simp +contextual [*]

@[simp] theorem State.setMovers_canon (s : State) (l : List (List Nat × Nat × Nat × Nat)) (hs : Canon s) : Canon
    (State.setMovers s l) := by
  unfold State.setMovers
  simp (maxDischargeDepth := 50) +contextual [*]

@[simp] theorem State.tollPay_canon (s : State) (who : List Nat) (p : Nat) (q : Nat) (n : Nat) (hs : Canon s) : Canon
    (State.tollPay s who p q n) := by
  unfold State.tollPay
  simp (maxDischargeDepth := 50) +contextual [*]

@[simp] theorem State.tollTake_canon (s : State) (who : List Nat) (p : Nat) (q : Nat) (n : Nat) (hs : Canon s) : Canon
    (State.tollTake s who p q n) := by
  unfold State.tollTake
  simp (maxDischargeDepth := 50) +contextual [*]

@[simp] theorem State.holdReq_canon (s : State) (q : CReq) (hs : Canon s) : Canon (State.holdReq s q) := by
  unfold State.holdReq
  simp +contextual [*]

@[simp] theorem State.latSample_canon (s : State) (p : Nat) (q : Nat) (ts : Nat) (hs : Canon s) : Canon (State.latSample s p
    q ts) := by
  unfold State.latSample
  simp +contextual [*]

@[simp] theorem State.latNow_canon (s : State) (p : Nat) (q : Nat) (n : Nat) (hs : Canon s) : Canon (State.latNow s p q
    n) := by
  unfold State.latNow
  simp (maxDischargeDepth := 50) +contextual [*]

@[simp] theorem State.cleanTick_canon (s : State) (hs : Canon s) : Canon (State.cleanTick s) := by
  unfold State.cleanTick
  simp (maxDischargeDepth := 50) +contextual [*]

@[simp] theorem State.useDom_canon (s : State) (d : Nat) (hs : Canon s) : Canon (State.useDom s d) := by
  unfold State.useDom
  simp +contextual [*]

@[simp] theorem State.useAgent_canon (s : State) (a : Nat) (hs : Canon s) : Canon (State.useAgent s a) := by
  unfold State.useAgent
  simp (maxDischargeDepth := 50) +contextual [*]

@[simp] theorem State.useReq_canon (s : State) (req : Nat) (home : Nat) (hs : Canon s) : Canon (State.useReq s req home) := by
  unfold State.useReq
  simp +contextual [*]

@[simp] theorem State.wake_canon (s : State) (d : Nat) (hs : Canon s) : Canon (State.wake s d) := by
  unfold State.wake
  simp (maxDischargeDepth := 50) +contextual [*]

@[simp] theorem State.countLlc_canon (s : State) (h : Nat) (hit : Bool) (hs : Canon s) : Canon (State.countLlc s h hit) := by
  unfold State.countLlc
  simp +contextual [*]

@[simp] theorem State.setCoh_canon (s : State) (c : CohSt) (hs : Canon s) : Canon (State.setCoh s c) := by
  unfold State.setCoh
  (repeat' split) <;> simp (maxDischargeDepth := 50) +contextual [*]

@[simp] theorem State.touchCopy_canon (s : State) (a : Nat) (l : Nat) (hs : Canon s) : Canon (State.touchCopy s a l) :=
    by
  unfold State.touchCopy
  (repeat' split) <;> simp (maxDischargeDepth := 50) +contextual [*]

@[simp] theorem State.cohSend_canon (s : State) (m : CMsg) (hs : Canon s) : Canon (State.cohSend s m) := by
  unfold State.cohSend
  (repeat' split) <;> simp (maxDischargeDepth := 50) +contextual [*]

@[simp] theorem State.fencedCap_canon (s : State) (l : Nat) (hs : Canon s) : Canon (State.fencedCap s l) := by
  unfold State.fencedCap
  simp (maxDischargeDepth := 50) +contextual [*]

@[simp] theorem State.unmark_canon (s : State) (ls : List Nat) (hs : Canon s) : Canon (State.unmark s ls) := by
  unfold State.unmark
  simp (maxDischargeDepth := 50) +contextual [*]

@[simp] theorem State.memWrite_canon (s : State) (l : Nat) (d : Line) (mask : Nat) (o : Nat) (hs : Canon s) : Canon
    (State.memWrite s l d mask o).1 := by
  unfold State.memWrite
  (repeat' split) <;> simp (maxDischargeDepth := 50) +contextual [*]

@[simp] theorem State.writeBack_canon (s : State) (l : Nat) (d : Line) (hs : Canon s) : Canon (State.writeBack s l d) :=
    by
  unfold State.writeBack
  dsimp only
  (repeat' split) <;> simp_all (maxDischargeDepth := 50) +contextual

@[simp] theorem State.llcEvict_canon (s : State) (l : Nat) (hs : Canon s) : Canon (State.llcEvict s l) := by
  unfold State.llcEvict
  dsimp only
  (repeat' split) <;> simp_all (maxDischargeDepth := 50) +contextual

@[simp] theorem State.llcTouch_canon (s : State) (l : Nat) (hs : Canon s) : Canon (State.llcTouch s l) := by
  unfold State.llcTouch
  (repeat' split) <;> simp (maxDischargeDepth := 50) +contextual [*]

@[simp] theorem State.llcIn_canon (s : State) (l : Nat) (w : Nat) (d : Line) (dirty : Bool) (hs : Canon s) : Canon
    (State.llcIn s l w d dirty) := by
  unfold State.llcIn
  simp (maxDischargeDepth := 50) +contextual [*]

@[simp] theorem State.llcPut_canon (s : State) (l : Nat) (d : Line) (dirty : Bool) (hs : Canon s) : Canon (State.llcPut s l d
    dirty) := by
  unfold State.llcPut
  dsimp only
  (repeat' split) <;> simp_all +contextual

@[simp] theorem State.slicePut_canon (s : State) (l : Nat) (d : Line) (hs : Canon s) : Canon (State.slicePut s l d) :=
    by
  unfold State.slicePut
  simp (maxDischargeDepth := 50) +contextual [*]

@[simp] theorem State.homeWrite_canon (s : State) (l : Nat) (d : Line) (mask : Nat) (o : Nat) (alloc : Bool) (got :
    Option Line) (hs : Canon s) : Canon (State.homeWrite s l d mask o alloc got).1 := by
  unfold State.homeWrite
  (repeat' split) <;> simp (maxDischargeDepth := 50) +contextual [*]

@[simp] theorem State.countHome_canon (s : State) (l : Nat) (hs : Canon s) : Canon (State.countHome s l) := by
  unfold State.countHome
  simp +contextual [*]

@[simp] theorem State.snoopOn_canon (s : State) (l : Nat) (at_ : Nat) (hs : Canon s) : Canon (State.snoopOn s l at_) :=
    by
  unfold State.snoopOn
  (repeat' split) <;> simp (maxDischargeDepth := 50) +contextual [*]

@[simp] theorem State.countSnoop_canon (s : State) (h : Nat) (hs : Canon s) : Canon (State.countSnoop s h) := by
  unfold State.countSnoop
  simp +contextual [*]

@[simp] theorem State.filterPut_canon (s : State) (l : Nat) (e : FEnt) (hs : Canon s) : Canon (State.filterPut s l e) := by
  unfold State.filterPut
  simp +contextual [*]

@[simp] theorem State.filterDel_canon (s : State) (l : Nat) (hs : Canon s) : Canon (State.filterDel s l) := by
  unfold State.filterDel
  simp (maxDischargeDepth := 50) +contextual [*]

@[simp] theorem State.marksOf_canon (s : State) (h : Nat) (hs : Canon s) : Canon (State.marksOf s h) := by
  unfold State.marksOf
  simp +contextual [*]

@[simp] theorem State.filterAlloc_canon (s : State) (l : Nat) (owned : Bool) (fwd : Option Nat) (hs : Canon s) : Canon
    (State.filterAlloc s l owned fwd) := by
  unfold State.filterAlloc
  (repeat' split) <;> simp (maxDischargeDepth := 50) +contextual [*]

@[simp] theorem State.filterSetOrNew_canon (s : State) (l : Nat) (owned : Bool) (fwd : Option Nat) (hs : Canon s) :
    Canon (State.filterSetOrNew s l owned fwd) := by
  unfold State.filterSetOrNew
  simp (maxDischargeDepth := 50) +contextual [*]

@[simp] theorem State.grantWait_canon (s : State) (t : Txn) (m : CMsg) (hs : Canon s) : Canon (State.grantWait s t m) := by
  unfold State.grantWait
  simp +contextual [*]

@[simp] theorem State.endTxn_canon (s : State) (l : Nat) (m : CMsg) (hs : Canon s) : Canon (State.endTxn s l m) := by
  unfold State.endTxn
  simp +contextual [*]

@[simp] theorem State.homeErr_canon (s : State) (l : Nat) (req : Nat) (ten : Nat) (r : LineRes) (hs : Canon s) : Canon
    (State.homeErr s l req ten r) := by
  unfold State.homeErr
  (repeat' split) <;> simp +contextual [*]

@[simp] theorem State.txnData_canon (s : State) (t : Txn) (hs : Canon s) : Canon (State.txnData s t).2 := by
  unfold State.txnData
  (repeat' split) <;> simp +contextual [*]

@[simp] theorem State.keepDirty_canon (s : State) (t : Txn) (hs : Canon s) : Canon (State.keepDirty s t) := by
  unfold State.keepDirty
  simp +contextual [*]

@[simp] theorem State.afterSnoop_canon (s : State) (l : Nat) (held : Bool) (keepFwd : Bool) (hs : Canon s) : Canon
    (State.afterSnoop s l held keepFwd) := by
  unfold State.afterSnoop
  (repeat' split) <;> simp (maxDischargeDepth := 50) +contextual [*]

@[simp] theorem State.reqWrite_canon (s : State) (q : CReq) (hs : Canon s) : Canon (State.reqWrite s q).1 := by
  unfold State.reqWrite
  (repeat' split) <;> simp (maxDischargeDepth := 50) +contextual [*]

@[simp] theorem State.serve_canon (s : State) (t : Txn) (hit : Bool) (hs : Canon s) : Canon (State.serve s t hit) := by
  unfold State.serve
  (repeat' split) <;> simp (maxDischargeDepth := 50) +contextual [*]

@[simp] theorem State.answer_canon (s : State) (t : Txn) (hit : Bool) (hs : Canon s) : Canon (State.answer s t hit) := by
  unfold State.answer
  simp (maxDischargeDepth := 50) +contextual [*]
  (repeat' split) <;> simp_all (maxDischargeDepth := 50) +contextual

@[simp] theorem State.countReq_canon (s : State) (q : CReq) (h : Nat) (hs : Canon s) : Canon (State.countReq s q h) :=
    by
  unfold State.countReq
  simp (maxDischargeDepth := 50) +contextual [*]

@[simp] theorem State.accept_canon (s : State) (q : CReq) (hs : Canon s) : Canon (State.accept s q) := by
  unfold State.accept
  simp (maxDischargeDepth := 50) +contextual [*]

@[simp] theorem State.showCredits_canon (s : State) (h : Nat) (hs : Canon s) : Canon (State.showCredits s h) := by
  unfold State.showCredits
  simp +contextual [*]

@[simp] theorem State.cohErr_canon (s : State) (h : Nat) (cause : Nat) (cls : Nat) (hs : Canon s) : Canon (State.cohErr
    s h cause cls) := by
  unfold State.cohErr
  simp (maxDischargeDepth := 50) +contextual [*]

@[simp] theorem State.wakeFor_canon (s : State) (z0 : Nat) (hs : Canon s) : Canon (State.wakeFor s z0) := by
  induction z0 generalizing s <;> (unfold State.wakeFor; (repeat' split) <;> simp_all (maxDischargeDepth := 50) +contextual)

@[simp] theorem State.wakeQueue_canon (s : State) (hs : Canon s) : Canon (State.wakeQueue s) := by
  unfold State.wakeQueue
  (repeat' split) <;> simp +contextual [*]

@[simp] theorem State.homeFill_canon (s : State) (l : Nat) (d : Option Line) (hs : Canon s) : Canon (State.homeFill s l
    d) := by
  unfold State.homeFill
  (repeat' split) <;> simp (maxDischargeDepth := 50) +contextual [*]

@[simp] theorem State.tcUe_canon (s : State) (a : Nat) (l : Nat) (ten : Option Nat) (hs : Canon s) : Canon (State.tcUe
    s a l ten) := by
  unfold State.tcUe
  (repeat' split) <;> simp_all (maxDischargeDepth := 50) +contextual

@[simp] theorem State.spfLine_canon (s : State) (h : Nat) (src : Nat) (qc : Nat) (ten : Nat) (l : Nat) (hs : Canon s) :
    Canon (State.spfLine s h src qc ten l) := by
  unfold State.spfLine
  split
  · simp (maxDischargeDepth := 50) +contextual [hs]
  · dsimp only
    have h1 : Canon (((s.raddOpen (R.tileSpfCnt h) F.tileSpfCnt_ISSUED 1).debitSpf src qc).charge src qc 128) := by simp (maxDischargeDepth := 50) +contextual [hs]
    generalize ((s.raddOpen (R.tileSpfCnt h) F.tileSpfCnt_ISSUED 1).debitSpf src qc).charge src qc 128 = u at h1 ⊢
    cases u.lineRead l <;> simp (maxDischargeDepth := 50) +contextual [h1]

@[simp] theorem State.spfTrain_canon (s : State) (q : CReq) (hs : Canon s) : Canon (State.spfTrain s q) := by
  unfold State.spfTrain
  dsimp only
  (repeat' split) <;> simp_all (maxDischargeDepth := 50) +contextual

@[simp] theorem State.untrain_canon (s : State) (src : Nat) (ten : Nat) (hs : Canon s) : Canon (State.untrain s src ten)
    := by
  unfold State.untrain
  simp (maxDischargeDepth := 50) +contextual [*]

@[simp] theorem State.retry_canon (s : State) (q : CReq) (h : Nat) (give : Bool) (hs : Canon s) : Canon (State.retry s q
    h give) := by
  unfold State.retry
  simp (maxDischargeDepth := 50) +contextual [*]

@[simp] theorem State.request_canon (s : State) (q : CReq) (hs : Canon s) : Canon (State.request s q) := by
  unfold State.request
  dsimp only
  (repeat' split) <;> simp_all (maxDischargeDepth := 50) +contextual

@[simp] theorem State.wbAck_canon (s : State) (a : Nat) (tag : Nat) (l : Nat) (hs : Canon s) : Canon (State.wbAck s a
    tag l) := by
  unfold State.wbAck
  simp (maxDischargeDepth := 50) +contextual [*]

@[simp] theorem State.dropFwd_canon (s : State) (a : Nat) (l : Nat) (hs : Canon s) : Canon (State.dropFwd s a l) := by
  unfold State.dropFwd
  (repeat' split) <;> simp +contextual [*]

@[simp] theorem State.leaving_canon (s : State) (a : Nat) (l : Nat) (st : CSt) (hs : Canon s) : Canon (State.leaving s a l
    st) := by
  unfold State.leaving
  simp +contextual [*]

@[simp] theorem State.wbPut_canon (s : State) (l : Nat) (d : Line) (dmg : Bool) (hs : Canon s) : Canon (State.wbPut s l
    d dmg) := by
  unfold State.wbPut
  simp (maxDischargeDepth := 50) +contextual [*]

@[simp] theorem State.wbHome_canon (s : State) (agent : Nat) (tag : Nat) (l : Nat) (d : Line) (dmg : Bool) (hs : Canon
    s) : Canon (State.wbHome s agent tag l d dmg) := by
  unfold State.wbHome
  (repeat' split) <;> simp (maxDischargeDepth := 50) +contextual [*]

@[simp] theorem State.evctHome_canon (s : State) (agent : Nat) (tag : Nat) (l : Nat) (hs : Canon s) : Canon
    (State.evctHome s agent tag l) := by
  unfold State.evctHome
  (repeat' split) <;> simp (maxDischargeDepth := 50) +contextual [*]

@[simp] theorem State.noteDecode_canon (s : State) (src : Nat) (pa : Nat) (hs : Canon s) : Canon (State.noteDecode s src pa)
    := by
  unfold State.noteDecode
  simp (maxDischargeDepth := 50) +contextual [*]

@[simp] theorem State.passMsg_canon (s : State) (q : CReq) (m : CMsg) (hs : Canon s) : Canon (State.passMsg s q m) := by
  unfold State.passMsg
  simp (maxDischargeDepth := 50) +contextual [*]

@[simp] theorem State.passData_canon (s : State) (q : CReq) (d : Option Line) (hs : Canon s) : Canon (State.passData s q
    d) := by
  unfold State.passData
  simp (maxDischargeDepth := 50) +contextual [*]

@[simp] theorem State.passErr_canon (s : State) (q : CReq) (c : Nat) (hs : Canon s) : Canon (State.passErr s q c) := by
  unfold State.passErr
  simp (maxDischargeDepth := 50) +contextual [*]

@[simp] theorem State.passAck_canon (s : State) (q : CReq) (ok : Bool) (hs : Canon s) : Canon (State.passAck s q ok) :=
    by
  unfold State.passAck
  simp (maxDischargeDepth := 50) +contextual [*]

@[simp] theorem State.passRead_canon (s : State) (q : CReq) (hs : Canon s) : Canon (State.passRead s q) := by
  unfold State.passRead
  dsimp only
  (repeat' split) <;> simp_all (maxDischargeDepth := 50) +contextual

@[simp] theorem State.passWrite_canon (s : State) (q : CReq) (hs : Canon s) : Canon (State.passWrite s q) := by
  unfold State.passWrite
  simp (maxDischargeDepth := 50) +contextual [*]

@[simp] theorem State.passOn_canon (s : State) (q : CReq) (hs : Canon s) : Canon (State.passOn s q) := by
  unfold State.passOn
  dsimp only
  (repeat' split) <;> simp_all (maxDischargeDepth := 50) +contextual

@[simp] theorem State.compAck_canon (s : State) (req : Nat) (pa : Nat) (hs : Canon s) : Canon (State.compAck s req pa)
    := by
  unfold State.compAck
  dsimp only
  (repeat' split) <;> simp_all (maxDischargeDepth := 50) +contextual

@[simp] theorem State.snpRsp_canon (s : State) (slip : Nat) (pa : Nat) (held : Bool) (dirty : Bool) (sends : Bool) (wbseen :
    Bool) (reqhold : Bool) (hs : Canon s) : Canon (State.snpRsp s slip pa held dirty sends wbseen reqhold) := by
  unfold State.snpRsp
  dsimp only
  (repeat' split) <;> simp_all +contextual

@[simp] theorem State.reqHome_canon (s : State) (q : CReq) (hs : Canon s) : Canon (State.reqHome s q) := by
  unfold State.reqHome
  simp (maxDischargeDepth := 50) +contextual [*]

@[simp] theorem State.atHome_canon (s : State) (z0 : HPkt) (hs : Canon s) : Canon (State.atHome s z0) := by
  induction z0 generalizing s <;> (unfold State.atHome; simp_all (maxDischargeDepth := 50) +contextual)

@[simp] theorem State.park_canon (s : State) (d : Nat) (x : HPkt) (hs : Canon s) : Canon (State.park s d x) := by
  unfold State.park
  simp (maxDischargeDepth := 50) +contextual [*]

@[simp] theorem State.toHome_canon (s : State) (x : HPkt) (hs : Canon s) : Canon (State.toHome s x) := by
  unfold State.toHome
  simp (maxDischargeDepth := 50) +contextual [*]

@[simp] theorem State.sendHome_canon (s : State) (h : FabHdr) (mask : Nat) (d : Line) (x : HPkt) (hs : Canon s) : Canon
    (State.sendHome s h mask d x) := by
  unfold State.sendHome
  simp (maxDischargeDepth := 50) +contextual [*]

@[simp] theorem State.inject_canon (s : State) (q : CReq) (hs : Canon s) : Canon (State.inject s q) := by
  unfold State.inject
  simp (maxDischargeDepth := 50) +contextual [*]

@[simp] theorem State.reqFrom_canon (s : State) (caching : Bool) (q : CReq) (hs : Canon s) : Canon (State.reqFrom s caching
    q) := by
  unfold State.reqFrom
  simp +contextual [*]

@[simp] theorem State.wbArrive_canon (s : State) (agent : Nat) (pa : Nat) (tag : Nat) (data : Line) (hs : Canon s) :
    Canon (State.wbArrive s agent pa tag data) := by
  unfold State.wbArrive
  simp (maxDischargeDepth := 50) +contextual [*]

@[simp] theorem State.evctArrive_canon (s : State) (agent : Nat) (pa : Nat) (tag : Nat) (hs : Canon s) : Canon
    (State.evctArrive s agent pa tag) := by
  unfold State.evctArrive
  simp (maxDischargeDepth := 50) +contextual [*]

@[simp] theorem State.cohTake_canon (s : State) (m : CMsg) (hs : Canon s) : Canon (State.cohTake s m) := by
  unfold State.cohTake
  simp (maxDischargeDepth := 50) +contextual [*]

@[simp] theorem State.agentTake_canon (s : State) (m : CMsg) (hs : Canon s) : Canon (State.agentTake s m) := by
  unfold State.agentTake
  simp (maxDischargeDepth := 50) +contextual [*]

@[simp] theorem State.snoopTile_canon (s : State) (l : Nat) (a : Nat) (k : SnpK) (t : Txn) (last : Bool) (hs : Canon s)
    : Canon (State.snoopTile s l a k t last) := by
  unfold State.snoopTile
  dsimp only
  (repeat' split) <;> simp_all (maxDischargeDepth := 50) +contextual

@[simp] theorem State.stopDoes_canon (s : State) (l : Nat) (a : Nat) (k : SnpK) (t : Txn) (hs : Canon s) : Canon
    (State.stopDoes s l a k t) := by
  unfold State.stopDoes
  simp (maxDischargeDepth := 50) +contextual [*]

@[simp] theorem State.snoopAt_canon (s : State) (pa : Nat) (stop : Nat) (hs : Canon s) : Canon (State.snoopAt s pa
    stop) := by
  unfold State.snoopAt
  simp (maxDischargeDepth := 50) +contextual [*]
  (repeat' split) <;> simp_all (maxDischargeDepth := 50) +contextual

@[simp] theorem State.snoopUe_canon (s : State) (pa : Nat) (stop : Nat) (hs : Canon s) : Canon (State.snoopUe s pa
    stop) := by
  unfold State.snoopUe
  simp (maxDischargeDepth := 50) +contextual [*]
  (repeat' split) <;> simp_all (maxDischargeDepth := 50) +contextual

@[simp] theorem State.snpData_canon (s : State) (agent : Nat) (pa : Nat) (dirty : Bool) (data : Line) (hs : Canon s) : Canon
    (State.snpData s agent pa dirty data) := by
  unfold State.snpData
  dsimp only
  (repeat' split) <;> simp_all +contextual

@[simp] theorem State.ownerLost_canon (s : State) (l : Nat) (hs : Canon s) : Canon (State.ownerLost s l) := by
  unfold State.ownerLost
  simp (maxDischargeDepth := 50) +contextual [*]

@[simp] theorem State.snoopEnd_canon (s : State) (t : Txn) (hs : Canon s) : Canon (State.snoopEnd s t) := by
  unfold State.snoopEnd
  simp (maxDischargeDepth := 50) +contextual [*]

@[simp] theorem State.tileDrop_canon (s : State) (a : Nat) (l : Nat) (d : Line) (hs : Canon s) : Canon (State.tileDrop s
    a l d) := by
  unfold State.tileDrop
  (repeat' split) <;> simp (maxDischargeDepth := 50) +contextual [*]

@[simp] theorem State.tileInstall_canon (s : State) (a : Nat) (l : Nat) (st : CSt) (d : Line) (hs : Canon s) : Canon
    (State.tileInstall s a l st d) := by
  unfold State.tileInstall
  dsimp only
  (repeat' split) <;> simp_all (maxDischargeDepth := 50) +contextual

@[simp] theorem State.compAckFrom_canon (s : State) (req : Nat) (pa : Nat) (hs : Canon s) : Canon (State.compAckFrom s
    req pa) := by
  unfold State.compAckFrom
  dsimp only
  (repeat' split) <;> simp_all (maxDischargeDepth := 50) +contextual

@[simp] theorem State.grantFlushed_canon (s : State) (req : Nat) (l : Nat) (st : CSt) (d : Line) (hs : Canon s) : Canon
    (State.grantFlushed s req l st d) := by
  unfold State.grantFlushed
  simp (maxDischargeDepth := 50) +contextual [*]

@[simp] theorem State.grantGone_canon (s : State) (req : Nat) (pa : Nat) (hs : Canon s) : Canon (State.grantGone s req
    pa) := by
  unfold State.grantGone
  simp (maxDischargeDepth := 50) +contextual [*]

@[simp] theorem State.slipGone_canon (s : State) (v : Nat) (hs : Canon s) : Canon (State.slipGone s v) := by
  unfold State.slipGone
  simp (maxDischargeDepth := 50) +contextual [*]

@[simp] theorem State.agentLoss_canon (s : State) (slip : Nat) (hs : Canon s) : Canon (State.agentLoss s slip) := by
  unfold State.agentLoss
  simp (maxDischargeDepth := 50) +contextual [*]

@[simp] theorem State.prepLine_canon (s : State) (a : Nat) (w : Bool) (cache : Nat) (l : Nat) (hs : Canon s) : Canon
    (State.prepLine s a w cache l) := by
  unfold State.prepLine
  simp (maxDischargeDepth := 50) +contextual [*]

@[simp] theorem State.moverMark_canon (s : State) (h : Nat) (hs : Canon s) : Canon (State.moverMark s h) := by
  unfold State.moverMark
  simp (maxDischargeDepth := 50) +contextual [*]

@[simp] theorem State.moverReq_canon (s : State) (a : Nat) (l : Nat) (k : SnpK) (but : Option Nat) (hs : Canon s) :
    Canon (State.moverReq s a l k but) := by
  unfold State.moverReq
  dsimp only
  (repeat' split) <;> simp_all (maxDischargeDepth := 50) +contextual

@[simp] theorem State.cohRead_canon (s : State) (a : Nat) (l : Nat) (cache : Nat) (got : Option Line) (hs : Canon s) :
    Canon (State.cohRead s a l cache got).1 := by
  unfold State.cohRead
  split
  · simp (maxDischargeDepth := 50) +contextual [hs]
  · dsimp only
    have h2 : Canon (s.moverReq a l (moverSnp false a cache) none) := by simp (maxDischargeDepth := 50) +contextual [hs]
    generalize s.cleanData a l (moverSnp false a cache) = cl
    generalize s.moverReq a l (moverSnp false a cache) none = s2 at h2 ⊢
    cases cl with
    | none =>
      dsimp only
      cases s2.homeLine l got <;> dsimp only <;> (repeat' split) <;> simp (maxDischargeDepth := 50) +contextual [h2]
    | some d =>
      dsimp only
      (repeat' split) <;> simp (maxDischargeDepth := 50) +contextual [h2]

@[simp] theorem State.ownWrite_canon (s : State) (a : Nat) (l : Nat) (mask : Nat) (d : Line) (old : LineRes) (hs : Canon
    s) : Canon (State.ownWrite s a l mask d old).1 := by
  unfold State.ownWrite
  (repeat' split) <;> simp (maxDischargeDepth := 50) +contextual [*]

@[simp] theorem State.cohWrite_canon (s : State) (a : Nat) (l : Nat) (cache : Nat) (mask : Nat) (d : Line) (got : Option
    Line) (hs : Canon s) : Canon (State.cohWrite s a l cache mask d got).1 := by
  unfold State.cohWrite
  (repeat' split) <;> simp (maxDischargeDepth := 50) +contextual [*]

@[simp] theorem State.tableVault_canon (s : State) (c : Nat) (q : Nat) (tenant : Nat) (pa : Nat) (hs : Canon s) : Canon
    (State.tableVault s c q tenant pa).1 := by
  unfold State.tableVault
  dsimp only
  (repeat' split) <;> simp_all (maxDischargeDepth := 50) +contextual

@[simp] theorem State.tableRead_canon (s : State) (c : Nat) (q : Nat) (tenant : Nat) (pa : Nat) (hs : Canon s) : Canon
    (State.tableRead s c q tenant pa).1 := by
  unfold State.tableRead
  (repeat' split) <;> simp (maxDischargeDepth := 50) +contextual [*]

@[simp] theorem State.setWalks_canon (s : State) (l : List WalkRec) (hs : Canon s) : Canon (State.setWalks s l) := by
  unfold State.setWalks
  simp (maxDischargeDepth := 50) +contextual [*]

@[simp] theorem State.walkBegin_canon (s : State) (c : Nat) (q : Nat) (t : Nat) (va : Nat) (hs : Canon s) : Canon
    (State.walkBegin s c q t va) := by
  unfold State.walkBegin
  simp (maxDischargeDepth := 50) +contextual [*]

@[simp] theorem State.walkNote_canon (s : State) (c : Nat) (t : Nat) (va : Nat) (e : Nat) (hs : Canon s) : Canon
    (State.walkNote s c t va e) := by
  unfold State.walkNote
  simp (maxDischargeDepth := 50) +contextual [*]

@[simp] theorem State.walkL1_canon (s : State) (c : Nat) (q : Nat) (t : Nat) (va : Nat) (hs : Canon s) : Canon
    (State.walkL1 s c q t va).1 := by
  unfold State.walkL1
  (repeat' (split <;> (try (rename_i h; have h1 := congrArg Prod.fst h; clear h; dsimp only at h1; subst h1)))) <;>
    simp (maxDischargeDepth := 50) +contextual [*]

@[simp] theorem State.walk_canon (s : State) (c : Nat) (q : Nat) (t : Nat) (va : Nat) (hs : Canon s) : Canon (State.walk
    s c q t va).1 := by
  unfold State.walk
  (repeat' (split <;> (try (rename_i h; have h1 := congrArg Prod.fst h; clear h; dsimp only at h1; subst h1)))) <;>
    simp (maxDischargeDepth := 50) +contextual [*]

@[simp] theorem State.tableDrop_canon (s : State) (c : Nat) (q : Nat) (t : Nat) (pa : Nat) (hs : Canon s) : Canon
    (State.tableDrop s c q t pa) := by
  unfold State.tableDrop
  simp (maxDischargeDepth := 50) +contextual [*]

@[simp] theorem State.walkEnd_canon (s : State) (c : Nat) (q : Nat) (t : Nat) (va : Nat) (hs : Canon s) : Canon
    (State.walkEnd s c q t va) := by
  unfold State.walkEnd
  (repeat' split) <;> simp (maxDischargeDepth := 50) +contextual [*]

@[simp] theorem State.walksForget_canon (s : State) (hs : Canon s) : Canon (State.walksForget s) := by
  unfold State.walksForget
  simp +contextual [*]

@[simp] theorem State.walksAgain_canon (s : State) (p : Nat → Bool) (hs : Canon s) : Canon (State.walksAgain s p) := by
  unfold State.walksAgain
  simp (maxDischargeDepth := 50) +contextual [*]

@[simp] theorem State.tcTouch_canon (s : State) (c : Nat) (e : TcEnt) (hs : Canon s) : Canon (State.tcTouch s c e) := by
  unfold State.tcTouch
  simp (maxDischargeDepth := 50) +contextual [*]

@[simp] theorem State.tcPut_canon (s : State) (c : Nat) (e : TcEnt) (hs : Canon s) : Canon (State.tcPut s c e) := by
  unfold State.tcPut
  simp +contextual [*]

@[simp] theorem State.leaf_canon (s : State) (c : Nat) (q : Nat) (t : Nat) (va : Nat) (hs : Canon s) : Canon (State.leaf
    s c q t va).1 := by
  unfold State.leaf
  split
  · simp (maxDischargeDepth := 50) +contextual [hs]
  · rcases h : (s.walkBegin c q t va).walk c ((s.walkBegin c q t va).walkQ c q t va) t va with ⟨s1, r⟩
    have h1 : Canon s1 := by
      simpa [h] using State.walk_canon (s.walkBegin c q t va) c ((s.walkBegin c q t va).walkQ c q t va) t va (State.walkBegin_canon s c q t va hs)
    cases r with
    | wait => exact h1
    | fail x => exact h1
    | ok e => dsimp only; split <;> simp (maxDischargeDepth := 50) +contextual [h1]

@[simp] theorem State.xlate_canon (s : State) (c : Nat) (q : Nat) (t : Nat) (va : Nat) (n : Nat) (a : Acc) (hs : Canon
    s) : Canon (State.xlate s c q t va n a).1 := by
  unfold State.xlate
  (repeat' (split <;> (try (rename_i h; have h1 := congrArg Prod.fst h; clear h; dsimp only at h1; subst h1)))) <;>
    simp (maxDischargeDepth := 50) +contextual [*]

@[simp] theorem State.footprintOpen_canon (s : State) (c : Nat) (q : Nat) (t : Nat) (a : Acc) (z0 : List (Nat × Nat))
    (hs : Canon s) : Canon (State.footprintOpen s c q t a z0).1 := by
  induction z0 generalizing s with
  | nil => exact hs
  | cons p rest ih =>
    obtain ⟨va, n⟩ := p
    unfold State.footprintOpen
    rcases h : s.xlate c q t va n a with ⟨s1, r⟩
    have h1 : Canon s1 := by simpa [h] using State.xlate_canon s c q t va n a hs
    cases r <;> dsimp only <;> (first | exact h1 | exact ih _ h1)

@[simp] theorem State.walksEnd_canon (s : State) (c : Nat) (q : Nat) (t : Nat) (l : List Nat) (hs : Canon s) : Canon
    (State.walksEnd s c q t l) := by
  unfold State.walksEnd
  simp (maxDischargeDepth := 50) +contextual [*]

@[simp] theorem State.footprint_canon (s : State) (c : Nat) (q : Nat) (t : Nat) (a : Acc) (ps : List (Nat × Nat)) (hs :
    Canon s) : Canon (State.footprint s c q t a ps).1 := by
  unfold State.footprint
  dsimp only
  (repeat' split) <;> simp_all (maxDischargeDepth := 50) +contextual

@[simp] theorem State.fqShow_canon (s : State) (t : Nat) (hs : Canon s) : Canon (State.fqShow s t) := by
  unfold State.fqShow
  simp +contextual [*]

@[simp] theorem State.faultRec_canon (s : State) (t : Nat) (page : Nat) (cause : Nat) (req : Option Nat) (write : Bool) (hs :
    Canon s) : Canon (State.faultRec s t page cause req write) := by
  unfold State.faultRec
  simp +contextual [*]

@[simp] theorem State.pageFail_canon (s : State) (t : Nat) (page : Nat) (cause : Nat) (req : Option Nat) (write : Bool) (hs :
    Canon s) : Canon (State.pageFail s t page cause req write) := by
  unfold State.pageFail
  simp +contextual [*]

@[simp] theorem State.pageFails_canon (s : State) (t : Nat) (fails : List (Nat × Nat)) (req : Option Nat) (write : Bool) (hs
    : Canon s) : Canon (State.pageFails s t fails req write) := by
  unfold State.pageFails
  simp +contextual [*]

@[simp] theorem State.markRange_canon (s : State) (t : Nat) (va : Nat) (n : Nat) (hs : Canon s) : Canon (State.markRange s t
    va n) := by
  unfold State.markRange
  simp (maxDischargeDepth := 50) +contextual [*]

@[simp] theorem State.memDrop_canon (s : State) (who : List Nat) (l : Nat) (hs : Canon s) : Canon (State.memDrop s who
    l) := by
  unfold State.memDrop
  (repeat' split) <;> simp (maxDischargeDepth := 50) +contextual [*]

@[simp] theorem State.readPieces_canon (s : State) (who : List Nat) (a : Nat) (cache : Nat) (z0 : List (Nat × Nat)) (hs
    : Canon s) : Canon (State.readPieces s who a cache z0).1 := by
  induction z0 generalizing s with
  | nil => exact hs
  | cons p rest ih =>
    obtain ⟨pa, n⟩ := p
    unfold State.readPieces
    dsimp only
    split <;> (apply ih; simp (maxDischargeDepth := 50) +contextual [hs])

@[simp] theorem State.moverRead_canon (s : State) (who : List Nat) (a : Nat) (cache : Nat) (pa : Nat) (n : Nat) (hs :
    Canon s) : Canon (State.moverRead s who a cache pa n).1 := by
  unfold State.moverRead
  simp (maxDischargeDepth := 50) +contextual [*]

@[simp] theorem State.writePieces_canon (s : State) (who : List Nat) (a : Nat) (cache : Nat) (z0 : List (Nat × Nat)) (z1
    : List Byte) (hs : Canon s) : Canon (State.writePieces s who a cache z0 z1).1 := by
  induction z0 generalizing s z1 with
  | nil => exact hs
  | cons p rest ih =>
    obtain ⟨pa, n⟩ := p
    unfold State.writePieces
    dsimp only
    split <;> (apply ih; simp (maxDischargeDepth := 50) +contextual [hs])

@[simp] theorem State.moverWrite_canon (s : State) (who : List Nat) (a : Nat) (cache : Nat) (pa : Nat) (bs : List Byte)
    (hs : Canon s) : Canon (State.moverWrite s who a cache pa bs).1 := by
  unfold State.moverWrite
  simp (maxDischargeDepth := 50) +contextual [*]

@[simp] theorem State.legBadRead_canon (s : State) (p : Nat) (tenant : Nat) (x : Nat × LineRes) (hs : Canon s) : Canon
    (State.legBadRead s p tenant x) := by
  unfold State.legBadRead
  (repeat' split) <;> simp +contextual [*]

@[simp] theorem State.legBadWrite_canon (s : State) (p : Nat) (tenant : Nat) (x : Nat × LineRes) (hs : Canon s) : Canon
    (State.legBadWrite s p tenant x) := by
  unfold State.legBadWrite
  (repeat' split) <;> simp +contextual [*]

@[simp] theorem State.chargeFor_canon (s : State) (who : List Nat) (a : Nat) (n : Nat) (hs : Canon s) : Canon
    (State.chargeFor s who a n) := by
  unfold State.chargeFor
  simp (maxDischargeDepth := 50) +contextual [*]

@[simp] theorem State.echo_canon (s : State) (pa : Nat) (n : Nat) (hs : Canon s) : Canon (State.echo s pa n) := by
  unfold State.echo
  simp (maxDischargeDepth := 50) +contextual [*]

@[simp] theorem State.moversKeep_canon (s : State) (hs : Canon s) : Canon (State.moversKeep s) := by
  unfold State.moversKeep
  simp (maxDischargeDepth := 50) +contextual [*]

@[simp] theorem State.getPieces_canon (s : State) (who : List Nat) (a : Nat) (cache : Nat) (func : Nat) (z0 : List (Nat
    × Nat)) (hs : Canon s) : Canon (State.getPieces s who a cache func z0).1 := by
  induction z0 generalizing s with
  | nil => exact hs
  | cons p rest ih =>
    obtain ⟨pa, n⟩ := p
    unfold State.getPieces
    dsimp only
    split
    · (apply ih; simp (maxDischargeDepth := 50) +contextual [hs])
    · split <;> (apply ih; simp (maxDischargeDepth := 50) +contextual [hs])

@[simp] theorem State.prepPiece_canon (s : State) (who : List Nat) (a : Nat) (w : Bool) (cache : Nat) (func : Nat) (pa :
    Nat) (n : Nat) (hs : Canon s) : Canon (State.prepPiece s who a w cache func pa n) := by
  unfold State.prepPiece
  simp (maxDischargeDepth := 50) +contextual [*]

@[simp] theorem State.openReads_canon (s : State) (who : List Nat) (a : Nat) (cache : Nat) (func : Nat) (ps : List (Nat
    × Nat)) (hs : Canon s) : Canon (State.openReads s who a cache func ps) := by
  unfold State.openReads
  simp (maxDischargeDepth := 50) +contextual [*]

@[simp] theorem State.openWrites_canon (s : State) (who : List Nat) (a : Nat) (cache : Nat) (func : Nat) (ps : List (Nat
    × Nat)) (hs : Canon s) : Canon (State.openWrites s who a cache func ps) := by
  unfold State.openWrites
  simp (maxDischargeDepth := 50) +contextual [*]

@[simp] theorem State.payFor_canon (s : State) (who : List Nat) (a : Nat) (n : Nat) (hs : Canon s) : Canon (State.payFor
    s who a n) := by
  unfold State.payFor
  simp (maxDischargeDepth := 50) +contextual [*]

@[simp] theorem State.putPieces_canon (s : State) (who : List Nat) (a : Nat) (cache : Nat) (func : Nat) (z0 : List (Nat
    × Nat)) (z1 : List Byte) (hs : Canon s) : Canon (State.putPieces s who a cache func z0 z1).1 := by
  induction z0 generalizing s z1 with
  | nil => exact hs
  | cons p rest ih =>
    obtain ⟨pa, n⟩ := p
    unfold State.putPieces
    dsimp only
    split <;> (apply ih; simp (maxDischargeDepth := 50) +contextual [hs])

@[simp] theorem State.legRemFail_canon (s : State) (p : Nat) (tenant : Nat) (n : Nat) (hs : Canon s) : Canon
    (State.legRemFail s p tenant n) := by
  unfold State.legRemFail
  simp +contextual [*]

@[simp] theorem State.setTe_canon (s : State) (k : Nat) (t : TeSt) (hs : Canon s) : Canon (State.setTe s k t) := by
  unfold State.setTe
  (repeat' split) <;> simp (maxDischargeDepth := 50) +contextual [*]

@[simp] theorem State.setLeg_canon (s : State) (k : Nat) (r : LegRun) (hs : Canon s) : Canon (State.setLeg s k r) := by
  unfold State.setLeg
  (repeat' split) <;> simp (maxDischargeDepth := 50) +contextual [*]

@[simp] theorem State.issue_canon (s : State) (k : Nat) (cls : Nat) (sel : Nat → Bool) (hold : LegRun → Nat → List (Nat ×
    Nat)) (act : State → LegRun → Nat → State × LegRun) (hact : ∀ s x0 x1, Canon s → Canon (act s x0 x1).1) (hs : Canon s) :
    Canon (State.issue s k cls sel hold act) := by
  unfold State.issue
  (repeat' split) <;> simp +contextual [*]

@[simp] theorem State.legEvts_canon (s : State) (k : Nat) (e : Evts) (hs : Canon s) : Canon (State.legEvts s k e) := by
  unfold State.legEvts
  dsimp only
  (repeat' split) <;> simp_all +contextual

@[simp] theorem State.legEnd_canon (s : State) (k : Nat) (r : LegRun) (outcome : Nat) (cause : Nat) (pinned : Bool) (hs
    : Canon s) : Canon (State.legEnd s k r outcome cause pinned) := by
  unfold State.legEnd
  (repeat' split) <;> simp (maxDischargeDepth := 50) +contextual [*]

@[simp] theorem State.halt_canon (s : State) (k : Nat) (r : LegRun) (cause : Nat) (stops : Bool) (hs : Canon s) : Canon
    (State.halt s k r cause stops) := by
  unfold State.halt
  (repeat' split) <;> simp (maxDischargeDepth := 50) +contextual [*]

@[simp] theorem State.dropLeg_canon (s : State) (k : Nat) (hs : Canon s) : Canon (State.dropLeg s k) := by
  unfold State.dropLeg
  dsimp only
  (repeat' split) <;> simp_all +contextual

@[simp] theorem State.markOuts_canon (s : State) (tenant : Nat) (outs : List (Nat × Nat)) (hs : Canon s) : Canon
    (State.markOuts s tenant outs) := by
  unfold State.markOuts
  simp +contextual [*]

@[simp] theorem State.overrun_canon (s : State) (k : Nat) (hs : Canon s) : Canon (State.overrun s k) := by
  unfold State.overrun
  simp (maxDischargeDepth := 50) +contextual [*]
  (repeat' split) <;> simp_all (maxDischargeDepth := 50) +contextual

@[simp] theorem State.setRing_canon (s : State) (g : Nat) (st : Nat) (cause : Nat) (hs : Canon s) : Canon (State.setRing s g
    st cause) := by
  unfold State.setRing
  simp +contextual [*]

@[simp] theorem State.setRings_canon (s : State) (r : RingSt) (hs : Canon s) : Canon (State.setRings s r) := by
  unfold State.setRings
  (repeat' split) <;> simp (maxDischargeDepth := 50) +contextual [*]

@[simp] theorem State.showPool_canon (s : State) (hs : Canon s) : Canon (State.showPool s) := by
  unfold State.showPool
  simp (maxDischargeDepth := 50) +contextual [*]

@[simp] theorem State.qCap_canon (s : State) (g : Nat) (cause : Nat) (hs : Canon s) : Canon (State.qCap s g cause) := by
  unfold State.qCap
  simp (maxDischargeDepth := 50) +contextual [*]

@[simp] theorem State.enableRing_canon (s : State) (g : Nat) (hs : Canon s) : Canon (State.enableRing s g) := by
  unfold State.enableRing
  (repeat' split) <;> simp (maxDischargeDepth := 50) +contextual [*]

@[simp] theorem State.ringOff_canon (s : State) (g : Nat) (hs : Canon s) : Canon (State.ringOff s g) := by
  unfold State.ringOff
  simp +contextual [*]

@[simp] theorem State.disableRing_canon (s : State) (g : Nat) (hs : Canon s) : Canon (State.disableRing s g) := by
  unfold State.disableRing
  (repeat' split) <;> simp +contextual [*]

@[simp] theorem State.applyEn_canon (s : State) (g : Nat) (hs : Canon s) : Canon (State.applyEn s g) := by
  unfold State.applyEn
  (repeat' split) <;> simp +contextual [*]

@[simp] theorem State.ringEnables_canon (s : State) (gs : List Nat) (hs : Canon s) : Canon (State.ringEnables s gs) := by
  unfold State.ringEnables
  simp (maxDischargeDepth := 50) +contextual [*]

@[simp] theorem State.doorbell_canon (s : State) (tenant : Nat) (ring : Nat) (half : Nat) (value : Nat) (hs : Canon s) :
    Canon (State.doorbell s tenant ring half value) := by
  unfold State.doorbell
  simp +contextual [*]

@[simp] theorem State.captureDoorbells_canon (s : State) (hs : Canon s) : Canon (State.captureDoorbells s) := by
  unfold State.captureDoorbells
  simp +contextual [*]

@[simp] theorem State.ringError_canon (s : State) (g : Nat) (hs : Canon s) : Canon (State.ringError s g) := by
  unfold State.ringError
  simp +contextual [*]

@[simp] theorem State.showOut_canon (s : State) (g : Nat) (hs : Canon s) : Canon (State.showOut s g) := by
  unfold State.showOut
  simp +contextual [*]

@[simp] theorem State.admitOne_canon (s : State) (g : Nat) (hs : Canon s) : Canon (State.admitOne s g) := by
  unfold State.admitOne
  simp +contextual [*]

@[simp] theorem State.admitN_canon (s : State) (g : Nat) (z0 : Nat) (hs : Canon s) : Canon (State.admitN s g z0) := by
  induction z0 generalizing s with
  | zero => exact hs
  | succ n ih => unfold State.admitN; (apply ih; simp (maxDischargeDepth := 50) +contextual [hs])

@[simp] theorem State.admitRing_canon (s : State) (g : Nat) (hs : Canon s) : Canon (State.admitRing s g) := by
  unfold State.admitRing
  simp (maxDischargeDepth := 50) +contextual [*]

@[simp] theorem State.admitFerry_canon (s : State) (hs : Canon s) : Canon (State.admitFerry s) := by
  unfold State.admitFerry
  (repeat' split) <;> simp (maxDischargeDepth := 50) +contextual [*]

@[simp] theorem State.admitAll_canon (s : State) (hs : Canon s) : Canon (State.admitAll s) := by
  unfold State.admitAll
  simp (maxDischargeDepth := 50) +contextual [*]

@[simp] theorem State.setCtx_canon (s : State) (c : Ctx) (hs : Canon s) : Canon (State.setCtx s c) := by
  unfold State.setCtx
  (repeat' split) <;> simp (maxDischargeDepth := 50) +contextual [*]

@[simp] theorem State.dropChunks_canon (s : State) (ring : Nat) (didx : Nat) (hs : Canon s) : Canon (State.dropChunks s ring
    didx) := by
  unfold State.dropChunks
  simp +contextual [*]

@[simp] theorem State.ctxEnd_canon (s : State) (c : Ctx) (status : Nat) (detail : Nat) (hs : Canon s) : Canon (State.ctxEnd s
    c status detail) := by
  unfold State.ctxEnd
  simp +contextual [*]

@[simp] theorem State.ctxFail_canon (s : State) (c : Ctx) (status : Nat) (detail : Nat) (hs : Canon s) : Canon (State.ctxFail
    s c status detail) := by
  unfold State.ctxFail
  simp +contextual [*]

@[simp] theorem State.ringBad_canon (s : State) (tenant : Nat) (x : Nat × LineRes) (hs : Canon s) : Canon (State.ringBad s
    tenant x).1 := by
  unfold State.ringBad
  (repeat' split) <;> simp +contextual [*]

@[simp] theorem State.ringBads_canon (s : State) (tenant : Nat) (l : List (Nat × LineRes)) (hs : Canon s) : Canon
    (State.ringBads s tenant l).1 := by
  unfold State.ringBads
  simp +contextual [*]

@[simp] theorem State.unkeep_canon (s : State) (who : List Nat) (wr : Bool) (ranges : List (Nat × Nat)) (hs : Canon s) :
    Canon (State.unkeep s who wr ranges) := by
  unfold State.unkeep
  simp (maxDischargeDepth := 50) +contextual [*]

@[simp] theorem State.dmaXlate_canon (s : State) (who : List Nat) (wr : Bool) (tenant : Nat) (ranges : List (Nat × Nat))
    (hs : Canon s) : Canon (State.dmaXlate s who wr tenant ranges).1 := by
  unfold State.dmaXlate
  dsimp only
  (repeat' split) <;> simp_all (maxDischargeDepth := 50) +contextual

@[simp] theorem State.dmaRead_canon (s : State) (who : List Nat) (tenant : Nat) (ranges : List (Nat × Nat)) (hs : Canon
    s) : Canon (State.dmaRead s who tenant ranges).1 := by
  unfold State.dmaRead
  dsimp only
  (repeat' split) <;> simp_all (maxDischargeDepth := 50) +contextual

@[simp] theorem State.dmaWrite_canon (s : State) (who : List Nat) (tenant : Nat) (ranges : List (Nat × Nat)) (bs : List Byte)
    (hs : Canon s) : Canon (State.dmaWrite s who tenant ranges bs).1 := by
  unfold State.dmaWrite
  simp (maxDischargeDepth := 50) +contextual [*]
  (repeat' split) <;> simp_all (maxDischargeDepth := 50) +contextual

@[simp] theorem State.fetchDesc_canon (s : State) (c : Ctx) (hs : Canon s) : Canon (State.fetchDesc s c) := by
  unfold State.fetchDesc
  extract_lets t n
  rcases h : s.dmaRead [3, c.ring, c.didx] t [(s.entVa c.ring c.didx, n)] with ⟨s1, r⟩
  have h1 : Canon s1 := by
    simpa [h] using State.dmaRead_canon s [3, c.ring, c.didx] t [(s.entVa c.ring c.didx, n)] hs
  cases r <;> dsimp only <;> (repeat' split) <;> simp (maxDischargeDepth := 50) +contextual [h1]

@[simp] theorem State.startRun_canon (s : State) (c : Ctx) (hs : Canon s) : Canon (State.startRun s c) := by
  unfold State.startRun
  split
  · simp (maxDischargeDepth := 50) +contextual [hs]
  · rcases h : s.dmaRead [3, c.ring, c.didx] (ringTen c.ring) [(c.argx, 32)] with ⟨s1, r⟩
    have h1 : Canon s1 := by
      simpa [h] using State.dmaRead_canon s [3, c.ring, c.didx] (ringTen c.ring) [(c.argx, 32)] hs
    cases r <;> dsimp only <;> (repeat' split) <;> simp (maxDischargeDepth := 50) +contextual [h1]

@[simp] theorem State.nextEntry_canon (s : State) (c : Ctx) (hs : Canon s) : Canon (State.nextEntry s c).1 := by
  unfold State.nextEntry
  split
  · exact hs
  · rcases h : s.dmaRead [3, c.ring, c.didx] (ringTen c.ring) [(c.ents, 16)] with ⟨s1, r⟩
    have h1 : Canon s1 := by
      simpa [h] using State.dmaRead_canon s [3, c.ring, c.didx] (ringTen c.ring) [(c.ents, 16)] hs
    cases r <;> dsimp only <;> (repeat' split) <;> simp (maxDischargeDepth := 50) +contextual [h1]

@[simp] theorem State.gather_canon (s : State) (c : Ctx) (room : Nat) (acc : List (Nat × Nat)) (z0 : Nat) (hs : Canon s) :
    Canon (State.gather s c room acc z0).1 := by
  induction z0 generalizing s c room acc with
  | zero => exact hs
  | succ f ih =>
    unfold State.gather
    split
    · exact hs
    · split
      · split
        · split
          · exact hs
          · (apply ih; exact hs)
        · (apply ih; exact hs)
      · split
        · exact hs
        · rcases h : s.nextEntry c with ⟨s1, r⟩
          have h1 : Canon s1 := by simpa [h] using State.nextEntry_canon s c hs
          match r with
          | none => exact h1
          | some (.error e) => exact h1
          | some (.ok c1) => (apply ih; exact h1)

@[simp] theorem State.poolPut_canon (s : State) (slot : Nat) (bs : List Byte) (hs : Canon s) : Canon (State.poolPut s
    slot bs) := by
  unfold State.poolPut
  simp (maxDischargeDepth := 50) +contextual [*]

@[simp] theorem State.startChunk_canon (s : State) (g : Nat) (hs : Canon s) : Canon (State.startChunk s g).1 := by
  unfold State.startChunk
  split
  · exact hs
  · split
    · exact hs
    · rename_i c _
      rcases h : s.gather c s.bufSize [] (s.bufSize / 32 + 4) with ⟨s1, c1, r⟩
      have h1 : Canon s1 := by simpa [h] using State.gather_canon s c s.bufSize [] (s.bufSize / 32 + 4) hs
      match r with
      | none => exact h1
      | some (.error e) => simp (maxDischargeDepth := 50) +contextual [h1]
      | some (.ok ps) => simp (maxDischargeDepth := 50) +contextual [h1]

@[simp] theorem State.startChunksN_canon (s : State) (g : Nat) (z0 : Nat) (hs : Canon s) : Canon (State.startChunksN s g z0)
    := by
  induction z0 generalizing s with
  | zero => exact hs
  | succ f ih =>
    unfold State.startChunksN
    have h1 : Canon (s.startChunk g).1 := State.startChunk_canon s g hs
    dsimp only
    split
    · exact ih _ h1
    · exact h1

@[simp] theorem State.startChunks_canon (s : State) (g : Nat) (hs : Canon s) : Canon (State.startChunks s g) := by
  unfold State.startChunks
  simp +contextual [*]

@[simp] theorem State.grantAll_canon (s : State) (hs : Canon s) : Canon (State.grantAll s) := by
  unfold State.grantAll
  simp +contextual [*]

@[simp] theorem State.descFetch_canon (s : State) (ring : Nat) (didx : Nat) (hs : Canon s) : Canon (State.descFetch s ring
    didx) := by
  unfold State.descFetch
  (repeat' split) <;> simp +contextual [*]

@[simp] theorem State.descDo_canon (s : State) (ring : Nat) (didx : Nat) (op : Nat) (f : State → Ctx → State) (hf : ∀ s x0,
    Canon s → Canon (f s x0)) (hs : Canon s) : Canon (State.descDo s ring didx op f) := by
  unfold State.descDo
  dsimp only
  (repeat' split) <;> simp_all +contextual

@[simp] theorem State.loadSize_canon (s : State) (c : Ctx) (hs : Canon s) : Canon (State.loadSize s c) := by
  unfold State.loadSize
  (repeat' (split <;> (try (rename_i h; have h1 := congrArg Prod.fst h; clear h; dsimp only at h1; subst h1)))) <;>
    simp (maxDischargeDepth := 50) +contextual [*]

@[simp] theorem State.setChunk_canon (s : State) (c : Chunk) (hs : Canon s) : Canon (State.setChunk s c) := by
  unfold State.setChunk
  (repeat' split) <;> simp (maxDischargeDepth := 50) +contextual [*]

@[simp] theorem State.delChunk_canon (s : State) (c : Chunk) (hs : Canon s) : Canon (State.delChunk s c) := by
  unfold State.delChunk
  simp +contextual [*]

@[simp] theorem State.chunkFail_canon (s : State) (c : Chunk) (st : Nat) (d : Nat) (hs : Canon s) : Canon (State.chunkFail s
    c st d) := by
  unfold State.chunkFail
  dsimp only
  (repeat' split) <;> simp_all +contextual

@[simp] theorem State.finishLoad_canon (s : State) (c : Ctx) (hs : Canon s) : Canon (State.finishLoad s c) := by
  unfold State.finishLoad
  simp +contextual [*]
  (repeat' split) <;> simp_all +contextual

@[simp] theorem State.drained_canon (s : State) (c : Chunk) (hs : Canon s) : Canon (State.drained s c) := by
  unfold State.drained
  (repeat' split) <;> simp +contextual [*]

@[simp] theorem State.chunkGone_canon (s : State) (c : Chunk) (hs : Canon s) : Canon (State.chunkGone s c) := by
  unfold State.chunkGone
  simp (maxDischargeDepth := 50) +contextual [*]

@[simp] theorem State.lostRec_canon (s : State) (c : Nat) (hs : Canon s) : Canon (State.lostRec s c) := by
  unfold State.lostRec
  simp +contextual [*]

@[simp] theorem State.issueRec_canon (s : State) (r : CmpRec) (hs : Canon s) : Canon (State.issueRec s r).1 := by
  unfold State.issueRec
  dsimp only
  (repeat' split) <;> simp_all (maxDischargeDepth := 50) +contextual

@[simp] theorem State.releaseCtx_canon (s : State) (c : Ctx) (hs : Canon s) : Canon (State.releaseCtx s c) := by
  unfold State.releaseCtx
  simp (maxDischargeDepth := 50) +contextual [*]

@[simp] theorem State.setDtu_canon (s : State) (d : DtuSt) (hs : Canon s) : Canon (State.setDtu s d) := by
  unfold State.setDtu
  (repeat' split) <;> simp (maxDischargeDepth := 50) +contextual [*]

@[simp] theorem State.invAccept_canon (s : State) (w : Nat) (r : InvReq) (hs : Canon s) : Canon (State.invAccept s w r) := by
  unfold State.invAccept
  simp (maxDischargeDepth := 50) +contextual [*]

@[simp] theorem State.invWrite_canon (s : State) (w : Nat) (word : Nat) (half : Bool) (hs : Canon s) : Canon (State.invWrite
    s w word half) := by
  unfold State.invWrite
  simp +contextual [*]

@[simp] theorem State.tcDrop_canon (s : State) (p : TcEnt → Bool) (hs : Canon s) : Canon (State.tcDrop s p) := by
  unfold State.tcDrop
  simp +contextual [*]

@[simp] theorem State.invOne_canon (s : State) (w : Nat) (last : Option Nat) (r : InvReq) (hs : Canon s) : Canon
    (State.invOne s w last r).1 := by
  unfold State.invOne
  (repeat' split) <;> simp +contextual [*]

@[simp] theorem State.invLane_canon (s : State) (base : List TcEnt) (w : Nat) (hs : Canon s) : Canon (State.invLane s
    base w) := by
  unfold State.invLane
  dsimp only
  (repeat' split) <;> simp_all (maxDischargeDepth := 50) +contextual

@[simp] theorem State.ctxOn_canon (s : State) (t : Nat) (hs : Canon s) : Canon (State.ctxOn s t) := by
  unfold State.ctxOn
  simp +contextual [*]

@[simp] theorem State.atsApply_canon (s : State) (hs : Canon s) : Canon (State.atsApply s) := by
  unfold State.atsApply
  simp +contextual [*]

@[simp] theorem State.applyI1_canon (s : State) (hs : Canon s) : Canon (State.applyI1 s) := by
  unfold State.applyI1
  simp (maxDischargeDepth := 50) +contextual [*]

@[simp] theorem State.ackLane_canon (s : State) (w : Nat) (seq : Nat) (hs : Canon s) : Canon (State.ackLane s w seq) := by
  unfold State.ackLane
  simp (maxDischargeDepth := 50) +contextual [*]

@[simp] theorem State.atsComplete_canon (s : State) (x : Nat × Nat × Nat) (hs : Canon s) : Canon (State.atsComplete s x)
    := by
  unfold State.atsComplete
  simp (maxDischargeDepth := 50) +contextual [*]

@[simp] theorem State.applyI4_canon (s : State) (hs : Canon s) : Canon (State.applyI4 s) := by
  unfold State.applyI4
  simp (maxDischargeDepth := 50) +contextual [*]

@[simp] theorem State.loadPins_canon (s : State) (t : Nat) (hs : Canon s) : Canon (State.loadPins s t) := by
  unfold State.loadPins
  simp +contextual [*]

@[simp] theorem State.dropTables_canon (s : State) (t : Nat) (hs : Canon s) : Canon (State.dropTables s t) := by
  unfold State.dropTables
  simp +contextual [*]

@[simp] theorem State.ctxTransfer_canon (s : State) (t : Nat) (wroteEn : Bool) (moved : Bool) (hs : Canon s) : Canon
    (State.ctxTransfer s t wroteEn moved) := by
  unfold State.ctxTransfer
  simp (maxDischargeDepth := 50) +contextual [*]

@[simp] theorem State.ctxOff_canon (s : State) (t : Nat) (hs : Canon s) : Canon (State.ctxOff s t) := by
  unfold State.ctxOff
  simp (maxDischargeDepth := 50) +contextual [*]

@[simp] theorem State.pinWalk_canon (s : State) (t : Nat) (z0 : List Nat) (z1 : List TcEnt) (hs : Canon s) : Canon
    (State.pinWalk s t z0 z1).1 := by
  induction z0 generalizing s z1 with
  | nil => exact hs
  | cons va rest ih =>
    unfold State.pinWalk
    split
    · split
      · exact hs
      · exact ih _ _ hs
    · rcases h : (s.walkBegin pinCache 2 t va).walk pinCache 2 t va with ⟨s1, r⟩
      have h1 : Canon s1 := by
        simpa [h] using State.walk_canon (s.walkBegin pinCache 2 t va) pinCache 2 t va (State.walkBegin_canon s pinCache 2 t va hs)
      cases r with
      | wait => exact h1
      | fail x => simp (maxDischargeDepth := 50) +contextual [h1]
      | ok e => dsimp only; split <;> (first | (apply ih; simp (maxDischargeDepth := 50) +contextual [h1]) | simp (maxDischargeDepth := 50) +contextual [h1])

@[simp] theorem State.fqEdge_canon (s : State) (hs : Canon s) : Canon (State.fqEdge s) := by
  unfold State.fqEdge
  simp (maxDischargeDepth := 50) +contextual [*]

@[simp] theorem State.fqVisible_canon (s : State) (hs : Canon s) : Canon (State.fqVisible s) := by
  unfold State.fqVisible
  simp +contextual [*]

@[simp] theorem State.tfqPop_canon (s : State) (tenant : Nat) (hs : Canon s) : Canon (State.tfqPop s tenant) := by
  unfold State.tfqPop
  (repeat' split) <;> simp +contextual [*]

@[simp] theorem State.tinvClr_canon (s : State) (tenant : Nat) (hs : Canon s) : Canon (State.tinvClr s tenant) := by
  unfold State.tinvClr
  simp (maxDischargeDepth := 50) +contextual [*]

@[simp] theorem State.setSec_canon (s : State) (x : SecSt) (hs : Canon s) : Canon (State.setSec s x) := by
  unfold State.setSec
  (repeat' split) <;> simp (maxDischargeDepth := 50) +contextual [*]

@[simp] theorem State.showDebug_canon (s : State) (scope : Nat) (remain : Nat) (hs : Canon s) : Canon (State.showDebug s
    scope remain) := by
  unfold State.showDebug
  simp (maxDischargeDepth := 50) +contextual [*]

@[simp] theorem State.revokeDebug_canon (s : State) (hs : Canon s) : Canon (State.revokeDebug s) := by
  unfold State.revokeDebug
  simp +contextual [*]

@[simp] theorem State.confOn_canon (s : State) (hs : Canon s) : Canon (State.confOn s) := by
  unfold State.confOn
  simp (maxDischargeDepth := 50) +contextual [*]

@[simp] theorem State.confOff_canon (s : State) (hs : Canon s) : Canon (State.confOff s) := by
  unfold State.confOff
  simp (maxDischargeDepth := 50) +contextual [*]

@[simp] theorem State.setTwin_canon (s : State) (x : TwinSt) (hs : Canon s) : Canon (State.setTwin s x) := by
  unfold State.setTwin
  simp (maxDischargeDepth := 50) +contextual [*]

@[simp] theorem State.dropPart_canon (s : State) (p : Nat) (hs : Canon s) : Canon (State.dropPart s p) := by
  unfold State.dropPart
  simp +contextual [*]

@[simp] theorem State.unpair_canon (s : State) (p : Nat) (st : Nat) (hs : Canon s) : Canon (State.unpair s p st) := by
  unfold State.unpair
  simp (maxDischargeDepth := 50) +contextual [*]

@[simp] theorem State.sendLine_canon (s : State) (l : Nat) (hs : Canon s) : Canon (State.sendLine s l) := by
  unfold State.sendLine
  simp (maxDischargeDepth := 50) +contextual [*]

@[simp] theorem State.syncNext_canon (s : State) (hs : Canon s) : Canon (State.syncNext s) := by
  unfold State.syncNext
  (repeat' split) <;> simp (maxDischargeDepth := 50) +contextual [*]

@[simp] theorem State.tdiUnpair_canon (s : State) (t : Nat) (hs : Canon s) : Canon (State.tdiUnpair s t) := by
  unfold State.tdiUnpair
  (repeat' split) <;> simp (maxDischargeDepth := 50) +contextual [*]

@[simp] theorem State.setTdi_canon (s : State) (t : Nat) (x : Nat) (hs : Canon s) : Canon (State.setTdi s t x) := by
  unfold State.setTdi
  simp (maxDischargeDepth := 50) +contextual [*]

@[simp] theorem State.vfReset_canon (s : State) (fn : Nat) (hs : Canon s) : Canon (State.vfReset s fn) := by
  unfold State.vfReset
  simp +contextual [*]

@[simp] theorem State.endReads_canon (s : State) (fn : Nat) (hs : Canon s) : Canon (State.endReads s fn) := by
  unfold State.endReads
  simp +contextual [*]

@[simp] theorem State.enOff_canon (s : State) (t : Nat) (hs : Canon s) : Canon (State.enOff s t) := by
  unfold State.enOff
  rw [canon_mk]
  refine ⟨hs.1, mrising_foldl _ (fun m x h => ?_) _ _ hs.2.1, hs.2.2.1, hs.2.2.2⟩
  dsimp only
  split
  · exact mrising_mput _ _ _ h
  · exact h

@[simp] theorem State.teardown_canon (s : State) (t : Nat) (hs : Canon s) : Canon (State.teardown s t) := by
  unfold State.teardown
  simp (maxDischargeDepth := 50) +contextual [*]

@[simp] theorem State.vfFlr_canon (s : State) (t : Nat) (hs : Canon s) : Canon (State.vfFlr s t) := by
  unfold State.vfFlr
  simp +contextual [*]

@[simp] theorem State.tearAll_canon (s : State) (hs : Canon s) : Canon (State.tearAll s) := by
  unfold State.tearAll
  simp +contextual [*]

@[simp] theorem State.ringsOff_canon (s : State) (t : Nat) (hs : Canon s) : Canon (State.ringsOff s t) := by
  unfold State.ringsOff
  simp +contextual [*]

@[simp] theorem State.releaseTenant_canon (s : State) (t : Nat) (hs : Canon s) : Canon (State.releaseTenant s t) := by
  unfold State.releaseTenant
  simp (maxDischargeDepth := 50) +contextual [*]

@[simp] theorem State.setKeys_canon (s : State) (o : Nat) (k : Option Nat × Option Nat) (cur : Nat) (hs : Canon s) : Canon
    (State.setKeys s o k cur) := by
  unfold State.setKeys
  simp (maxDischargeDepth := 50) +contextual [*]

@[simp] theorem State.freshKey_canon (s : State) (o : Nat) (slot : Nat) (cur : Nat) (hs : Canon s) : Canon (State.freshKey s
    o slot cur) := by
  unfold State.freshKey
  simp +contextual [*]

@[simp] theorem State.retireKey_canon (s : State) (o : Nat) (hs : Canon s) : Canon (State.retireKey s o) := by
  unfold State.retireKey
  simp +contextual [*]

@[simp] theorem State.keyRefused_canon (s : State) (hs : Canon s) : Canon (State.keyRefused s) := by
  unfold State.keyRefused
  simp +contextual [*]

@[simp] theorem State.rotateCmd_canon (s : State) (owner : Nat) (hs : Canon s) : Canon (State.rotateCmd s owner) := by
  unfold State.rotateCmd
  simp +contextual [*]

@[simp] theorem State.retireCmd_canon (s : State) (owner : Nat) (hs : Canon s) : Canon (State.retireCmd s owner) := by
  unfold State.retireCmd
  simp +contextual [*]

@[simp] theorem State.sweepStep_canon (s : State) (o : Nat) (n : Nat) (hs : Canon s) : Canon (State.sweepStep s o n) :=
    by
  unfold State.sweepStep
  (repeat' split) <;> simp (maxDischargeDepth := 50) +contextual [*]

@[simp] theorem State.sweepsEnd_canon (s : State) (hs : Canon s) : Canon (State.sweepsEnd s) := by
  unfold State.sweepsEnd
  simp (maxDischargeDepth := 50) +contextual [*]

@[simp] theorem State.discardLines_canon (s : State) (rs : List (Nat × Nat)) (hs : Canon s) : Canon (State.discardLines
    s rs) := by
  unfold State.discardLines
  simp (maxDischargeDepth := 50) +contextual [*]

@[simp] theorem State.scrubStart_canon (s : State) (o : Nat) (hs : Canon s) : Canon (State.scrubStart s o) := by
  unfold State.scrubStart
  extract_lets rs alone s1 s2 s3
  have h1 : Canon s1 := by simp only [s1]; simp (maxDischargeDepth := 50) +contextual [hs]
  have h2 : Canon s2 := by simp only [s2]; simp (maxDischargeDepth := 50) +contextual [h1]
  have h3 : Canon s3 := ⟨h2.1, h2.2.1, zeroRanges_wf _ _ h2.2.2.1, Memory.wf_filter _ _ h2.2.2.2⟩
  simp (maxDischargeDepth := 50) +contextual [h3]

@[simp] theorem State.scrubStep_canon (s : State) (o : Nat) (n : Nat) (hs : Canon s) : Canon (State.scrubStep s o n) := by
  unfold State.scrubStep
  split
  · rename_i d _
    extract_lets rs s1
    have h1 : Canon s1 := ⟨hs.1, hs.2.1, zeroRanges_wf _ _ hs.2.2.1, hs.2.2.2⟩
    simp (maxDischargeDepth := 50) +contextual [h1]
  · exact hs

@[simp] theorem State.cleanMove_canon (s : State) (hs : Canon s) : Canon (State.cleanMove s) := by
  unfold State.cleanMove
  simp (maxDischargeDepth := 50) +contextual [*]

@[simp] theorem State.cleanNow_canon (s : State) (hs : Canon s) : Canon (State.cleanNow s) := by
  unfold State.cleanNow
  simp (maxDischargeDepth := 50) +contextual [*]

@[simp] theorem State.scrubsEnd_canon (s : State) (hs : Canon s) : Canon (State.scrubsEnd s) := by
  unfold State.scrubsEnd
  simp (maxDischargeDepth := 50) +contextual [*]

@[simp] theorem State.rotateKey_canon (s : State) (o : Nat) (hs : Canon s) : Canon (State.rotateKey s o) := by
  unfold State.rotateKey
  simp (maxDischargeDepth := 50) +contextual [*]

@[simp] theorem State.keysI2_canon (s : State) (hs : Canon s) : Canon (State.keysI2 s) := by
  unfold State.keysI2
  simp (maxDischargeDepth := 50) +contextual [*]

@[simp] theorem State.draw_canon (s : State) (hs : Canon s) : Canon (State.draw s).1 := by
  unfold State.draw
  simp +contextual [*]

@[simp] theorem State.unsigned_canon (s : State) (hs : Canon s) : Canon (State.unsigned s) := by
  unfold State.unsigned
  simp (maxDischargeDepth := 50) +contextual [*]

@[simp] theorem State.tdisp_canon (s : State) (code : Nat) (tenant : Nat) (args : List Nat) (hs : Canon s) : Canon
    (State.tdisp s code tenant args) := by
  unfold State.tdisp
  simp +contextual [*]

@[simp] theorem State.tdispErr_canon (s : State) (tenant : Nat) (hs : Canon s) : Canon (State.tdispErr s tenant) := by
  unfold State.tdispErr
  simp +contextual [*]

@[simp] theorem State.tdiError_canon (s : State) (t : Nat) (hs : Canon s) : Canon (State.tdiError s t) := by
  unfold State.tdiError
  simp +contextual [*]

@[simp] theorem State.tdispFail_canon (s : State) (t : Nat) (hs : Canon s) : Canon (State.tdispFail s t) := by
  unfold State.tdispFail
  simp +contextual [*]

@[simp] theorem State.spdm_canon (s : State) (code : Nat) (args : List Nat) (data : List Byte) (signed : Option (List Byte))
    (hs : Canon s) : Canon (State.spdm s code args data signed) := by
  unfold State.spdm
  simp +contextual [*]

@[simp] theorem State.spdmErr_canon (s : State) (code : Nat) (hs : Canon s) : Canon (State.spdmErr s code) := by
  unfold State.spdmErr
  simp +contextual [*]

@[simp] theorem State.spdmSigned_canon (s : State) (code : Nat) (args : List Nat) (data : List Byte) (nonce : List Byte) (hs
    : Canon s) : Canon (State.spdmSigned s code args data nonce) := by
  unfold State.spdmSigned
  simp +contextual [*]

@[simp] theorem State.tmeasGo_canon (s : State) (tenant : Nat) (hs : Canon s) : Canon (State.tmeasGo s tenant) := by
  unfold State.tmeasGo
  simp (maxDischargeDepth := 50) +contextual [*]

@[simp] theorem State.tmeasFail_canon (s : State) (t : Nat) (cause : Nat) (hs : Canon s) : Canon (State.tmeasFail s t
    cause) := by
  unfold State.tmeasFail
  simp (maxDischargeDepth := 50) +contextual [*]

@[simp] theorem State.wgtI0_canon (s : State) (hs : Canon s) : Canon (State.wgtI0 s) := by
  unfold State.wgtI0
  simp (maxDischargeDepth := 50) +contextual [*]

@[simp] theorem State.setFlash_canon (s : State) (x : FlashSt) (hs : Canon s) : Canon (State.setFlash s x) := by
  unfold State.setFlash
  (repeat' split) <;> simp (maxDischargeDepth := 50) +contextual [*]

@[simp] theorem State.putRepair_canon (s : State) (vals : NMap Nat) (hs : Canon s) : Canon (State.putRepair s vals) := by
  unfold State.putRepair
  simp +contextual [*]

@[simp] theorem State.recordRepair_canon (s : State) (i : Nat) (x : Nat) (hs : Canon s) : Canon (State.recordRepair s i x) := by
  unfold State.recordRepair
  (repeat' split) <;> simp +contextual [*]

@[simp] theorem State.saveRepair_canon (s : State) (hs : Canon s) : Canon (State.saveRepair s) := by
  unfold State.saveRepair
  (repeat' split) <;> simp +contextual [*]

@[simp] theorem State.saveTrain_canon (s : State) (key : Nat) (x : Nat) (hs : Canon s) : Canon (State.saveTrain s key x)
    := by
  unfold State.saveTrain
  simp (maxDischargeDepth := 50) +contextual [*]

@[simp] theorem State.showField_canon (s : State) (hs : Canon s) : Canon (State.showField s) := by
  unfold State.showField
  simp (maxDischargeDepth := 50) +contextual [*]

@[simp] theorem State.setFuses_canon (s : State) (x : FuseSt) (hs : Canon s) : Canon (State.setFuses s x) := by
  unfold State.setFuses
  (repeat' split) <;> simp (maxDischargeDepth := 50) +contextual [*]

@[simp] theorem State.zeroBuf_canon (s : State) (hs : Canon s) : Canon (State.zeroBuf s) := by
  unfold State.zeroBuf
  simp +contextual [*]

@[simp] theorem State.lcsEnd_canon (s : State) (r : Nat) (hs : Canon s) : Canon (State.lcsEnd s r) := by
  unfold State.lcsEnd
  simp (maxDischargeDepth := 50) +contextual [*]

@[simp] theorem State.wipe_canon (s : State) (bad : Bool) (hs : Canon s) : Canon (State.wipe s bad) := by
  unfold State.wipe
  simp (maxDischargeDepth := 50) +contextual [*]

@[simp] theorem State.transitTo_canon (s : State) (to_ : Nat) (fail : Nat) (hs : Canon s) : Canon (State.transitTo s to_
    fail).1 := by
  unfold State.transitTo
  simp (maxDischargeDepth := 50) +contextual [*]
  (repeat' split) <;> simp_all (maxDischargeDepth := 50) +contextual

@[simp] theorem State.lcsTransition_canon (s : State) (route : Nat) (to_ : Nat) (fail : Nat) (token : List Byte) (hs : Canon
    s) : Canon (State.lcsTransition s route to_ fail token).1 := by
  unfold State.lcsTransition
  dsimp only
  (repeat' split) <;> simp_all +contextual

@[simp] theorem State.lcsRun_canon (s : State) (arg : Option Nat) (f : State → State × Nat) (hf : ∀ s , Canon s → Canon (f s
    ).1) (hs : Canon s) : Canon (State.lcsRun s arg f) := by
  unfold State.lcsRun
  simp (maxDischargeDepth := 50) +contextual [*]
  (repeat' split) <;> simp_all (maxDischargeDepth := 50) +contextual

@[simp] theorem State.doTransition_canon (s : State) (route : Nat) (to_ : Nat) (fail : Nat) (buf : List Byte) (hs : Canon s)
    : Canon (State.doTransition s route to_ fail buf) := by
  unfold State.doTransition
  simp +contextual [*]

@[simp] theorem State.lcsFuse_canon (s : State) (route : Nat) (id : Nat) (fail : Nat) (buf : List Byte) (hs : Canon s) :
    Canon (State.lcsFuse s route id fail buf).1 := by
  unfold State.lcsFuse
  dsimp only
  (repeat' split) <;> simp_all +contextual

@[simp] theorem State.doFuse_canon (s : State) (route : Nat) (id : Nat) (fail : Nat) (buf : List Byte) (hs : Canon s) : Canon
    (State.doFuse s route id fail buf) := by
  unfold State.doFuse
  simp +contextual [*]

@[simp] theorem State.showNonce_canon (s : State) (n : Option (List Byte)) (hs : Canon s) : Canon (State.showNonce s n) := by
  unfold State.showNonce
  simp +contextual [*]

@[simp] theorem State.lcsChallenge_canon (s : State) (hs : Canon s) : Canon (State.lcsChallenge s).1 := by
  unfold State.lcsChallenge
  dsimp only
  (repeat' split) <;> simp_all (maxDischargeDepth := 50) +contextual

@[simp] theorem State.challenge_canon (s : State) (route : Nat) (hs : Canon s) : Canon (State.challenge s route) := by
  unfold State.challenge
  (repeat' split) <;> simp +contextual [*]

@[simp] theorem State.lcsAuth_canon (s : State) (b : List Byte) (hs : Canon s) : Canon (State.lcsAuth s b).1 := by
  unfold State.lcsAuth
  dsimp only
  (repeat' split) <;> simp_all +contextual

@[simp] theorem State.doAuth_canon (s : State) (route : Nat) (buf : List Byte) (hs : Canon s) : Canon (State.doAuth s route
    buf) := by
  unfold State.doAuth
  simp +contextual [*]

@[simp] theorem State.lcsRevoke_canon (s : State) (hs : Canon s) : Canon (State.lcsRevoke s).1 := by
  unfold State.lcsRevoke
  (repeat' split) <;> simp +contextual [*]

@[simp] theorem State.dbgRevoke_canon (s : State) (route : Nat) (hs : Canon s) : Canon (State.dbgRevoke s route) := by
  unfold State.dbgRevoke
  (repeat' split) <;> simp +contextual [*]

@[simp] theorem State.setErr_canon (s : State) (x : ErrSt) (hs : Canon s) : Canon (State.setErr s x) := by
  unfold State.setErr
  (repeat' split) <;> simp (maxDischargeDepth := 50) +contextual [*]

@[simp] theorem State.makeRec_canon (s : State) (x : ErrRep) (hs : Canon s) : Canon (State.makeRec s x).1 := by
  unfold State.makeRec
  simp +contextual [*]

@[simp] theorem State.logRec_canon (s : State) (r : ErrRec) (hs : Canon s) : Canon (State.logRec s r) := by
  unfold State.logRec
  simp (maxDischargeDepth := 50) +contextual [*]

@[simp] theorem State.logVisible_canon (s : State) (hs : Canon s) : Canon (State.logVisible s) := by
  unfold State.logVisible
  simp +contextual [*]

@[simp] theorem State.showErr_canon (s : State) (hs : Canon s) : Canon (State.showErr s) := by
  unfold State.showErr
  simp (maxDischargeDepth := 50) +contextual [*]

@[simp] theorem State.countOvf_canon (s : State) (block : Nat) (hs : Canon s) : Canon (State.countOvf s block) := by
  unfold State.countOvf
  simp +contextual [*]

@[simp] theorem State.queueFull_canon (s : State) (block : Nat) (hs : Canon s) : Canon (State.queueFull s block) := by
  unfold State.queueFull
  simp +contextual [*]

@[simp] theorem State.putBack_canon (s : State) (hs : Canon s) : Canon (State.putBack s) := by
  unfold State.putBack
  dsimp only
  (repeat' split) <;> simp_all +contextual

@[simp] theorem State.takeNext_canon (s : State) (hs : Canon s) : Canon (State.takeNext s) := by
  unfold State.takeNext
  (repeat' split) <;> simp +contextual [*]

@[simp] theorem State.enqueue_canon (s : State) (x : ErrRep) (hs : Canon s) : Canon (State.enqueue s x) := by
  unfold State.enqueue
  simp +contextual [*]

@[simp] theorem State.fold_canon (s : State) (h : ErrRec) (hs : Canon s) : Canon (State.fold s h) := by
  unfold State.fold
  simp +contextual [*]

@[simp] theorem State.newRec_canon (s : State) (x : ErrRep) (hs : Canon s) : Canon (State.newRec s x) := by
  unfold State.newRec
  simp (maxDischargeDepth := 50) +contextual [*]
  (repeat' split) <;> simp_all (maxDischargeDepth := 50) +contextual

@[simp] theorem State.blockCap_canon (s : State) (block : Nat) (cause : Nat) (unit : Nat) (hs : Canon s) : Canon
    (State.blockCap s block cause unit) := by
  unfold State.blockCap
  simp (maxDischargeDepth := 50) +contextual [*]
  (repeat' split) <;> simp_all (maxDischargeDepth := 50) +contextual

@[simp] theorem State.countCe_canon (s : State) (block : Nat) (unit : Nat) (hs : Canon s) : Canon (State.countCe s
    block unit) := by
  unfold State.countCe
  simp (maxDischargeDepth := 50) +contextual [*]

@[simp] theorem State.logOpen_canon (s : State) (hs : Canon s) : Canon (State.logOpen s) := by
  unfold State.logOpen
  (repeat' split) <;> simp (maxDischargeDepth := 50) +contextual [*]

@[simp] theorem State.clearCapture_canon (s : State) (key : Nat) (hs : Canon s) : Canon (State.clearCapture s key) := by
  unfold State.clearCapture
  (repeat' split) <;> simp +contextual [*]

@[simp] theorem State.showVariant_canon (s : State) (hs : Canon s) : Canon (State.showVariant s) := by
  unfold State.showVariant
  simp +contextual [*]

@[simp] theorem State.switchVar_canon (s : State) (p : Nat) (v : Nat) (hs : Canon s) : Canon (State.switchVar s p v) := by
  unfold State.switchVar
  simp (maxDischargeDepth := 50) +contextual [*]
  (repeat' split) <;> simp_all (maxDischargeDepth := 50) +contextual

@[simp] theorem State.degradePart_canon (s : State) (p : Nat) (hs : Canon s) : Canon (State.degradePart s p) := by
  unfold State.degradePart
  dsimp only
  (repeat' split) <;> simp_all +contextual

@[simp] theorem State.setEff_canon (s : State) (g : GrantRec) (x : Nat) (hs : Canon s) : Canon (State.setEff s g x) := by
  unfold State.setEff
  simp +contextual [*]

@[simp] theorem State.takeFrom_canon (s : State) (z0 : Nat) (z1 : List GrantRec) (hs : Canon s) : Canon (State.takeFrom s z0
    z1) := by
  induction z1 generalizing s z0 with
  | nil => unfold State.takeFrom; exact hs
  | cons g gs ih =>
    unfold State.takeFrom
    dsimp only
    apply ih
    split <;> simp (maxDischargeDepth := 50) +contextual [hs]

@[simp] theorem State.yieldAt_canon (s : State) (m : Manifest) (r : Nat) (hs : Canon s) : Canon (State.yieldAt s m r) :=
    by
  unfold State.yieldAt
  simp (maxDischargeDepth := 50) +contextual [*]

@[simp] theorem State.restore_canon (s : State) (m : Manifest) (g : GrantRec) (hs : Canon s) : Canon (State.restore s m g) := by
  unfold State.restore
  simp +contextual [*]

@[simp] theorem State.restoreAll_canon (s : State) (m : Manifest) (hs : Canon s) : Canon (State.restoreAll s m) := by
  unfold State.restoreAll
  exact foldl_canon _ (fun s x h => by simp (maxDischargeDepth := 50) +contextual [h]) _ hs

@[simp] theorem State.showCap_canon (s : State) (m : Manifest) (cap : Nat → Nat) (r : Nat) (hs : Canon s) : Canon
    (State.showCap s m cap r) := by
  unfold State.showCap
  simp (maxDischargeDepth := 50) +contextual [*]

@[simp] theorem State.noteCaps_canon (s : State) (cap : Nat → Nat) (hs : Canon s) : Canon (State.noteCaps s cap) := by
  unfold State.noteCaps
  simp (maxDischargeDepth := 50) +contextual [*]

@[simp] theorem State.capsClose_canon (s : State) (hs : Canon s) : Canon (State.capsClose s) := by
  unfold State.capsClose
  simp (maxDischargeDepth := 50) +contextual [*]

@[simp] theorem State.capI2_canon (s : State) (hs : Canon s) : Canon (State.capI2 s) := by
  unfold State.capI2
  (repeat' split) <;> simp (maxDischargeDepth := 50) +contextual [*]

@[simp] theorem State.grantsI0_canon (s : State) (m : Manifest) (hs : Canon s) : Canon (State.grantsI0 s m) := by
  unfold State.grantsI0
  simp (maxDischargeDepth := 50) +contextual [*]

@[simp] theorem State.qosSnapshot_canon (s : State) (closed : Nat) (hs : Canon s) : Canon (State.qosSnapshot s closed) := by
  unfold State.qosSnapshot
  simp (maxDischargeDepth := 50) +contextual [*]

@[simp] theorem State.qosWipe_canon (s : State) (hs : Canon s) : Canon (State.qosWipe s) := by
  unfold State.qosWipe
  simp (maxDischargeDepth := 50) +contextual [*]

@[simp] theorem State.escalate_canon (s : State) (p : Nat) (q : Nat) (hs : Canon s) : Canon (State.escalate s p q) := by
  unfold State.escalate
  simp (maxDischargeDepth := 50) +contextual [*]

@[simp] theorem State.escalateAll_canon (s : State) (hs : Canon s) : Canon (State.escalateAll s) := by
  unfold State.escalateAll
  simp +contextual [*]

@[simp] theorem State.showScale_canon (s : State) (hs : Canon s) : Canon (State.showScale s) := by
  unfold State.showScale
  simp +contextual [*]

@[simp] theorem State.setPwr_canon (s : State) (x : PwrSt) (hs : Canon s) : Canon (State.setPwr s x) := by
  unfold State.setPwr
  (repeat' split) <;> simp (maxDischargeDepth := 50) +contextual [*]

@[simp] theorem State.pwrCap_canon (s : State) (cause : Nat) (hs : Canon s) : Canon (State.pwrCap s cause) := by
  unfold State.pwrCap
  simp +contextual [*]

@[simp] theorem State.kaSwitch_canon (s : State) (src : Nat) (hs : Canon s) : Canon (State.kaSwitch s src) := by
  unfold State.kaSwitch
  simp (maxDischargeDepth := 50) +contextual [*]

@[simp] theorem State.kaShow_canon (s : State) (mvA : Nat) (mvB : Nat) (hs : Canon s) : Canon (State.kaShow s mvA mvB) := by
  unfold State.kaShow
  simp +contextual [*]

@[simp] theorem State.overAct_canon (s : State) (p : Nat) (energy : Bool) (hs : Canon s) : Canon (State.overAct s p energy)
    := by
  unfold State.overAct
  simp (maxDischargeDepth := 50) +contextual [*]

@[simp] theorem State.closePart_canon (s : State) (rails : List Nat) (tiles : List Nat) (r : PartRec) (hs : Canon s) : Canon
    (State.closePart s rails tiles r) := by
  unfold State.closePart
  simp (maxDischargeDepth := 50) +contextual [*]

@[simp] theorem State.askSetpoint_canon (s : State) (hs : Canon s) : Canon (State.askSetpoint s) := by
  unfold State.askSetpoint
  simp +contextual [*]

@[simp] theorem State.closeEnergy_canon (s : State) (rails : List Nat) (tiles : List Nat) (badMeter : Bool) (hs : Canon s) :
    Canon (State.closeEnergy s rails tiles badMeter) := by
  unfold State.closeEnergy
  simp (maxDischargeDepth := 50) +contextual [*]

@[simp] theorem State.leanOff_canon (s : State) (p : Nat) (hs : Canon s) : Canon (State.leanOff s p) := by
  unfold State.leanOff
  simp (maxDischargeDepth := 50) +contextual [*]

@[simp] theorem State.leanOn_canon (s : State) (p : Nat) (hs : Canon s) : Canon (State.leanOn s p) := by
  unfold State.leanOn
  simp (maxDischargeDepth := 50) +contextual [*]

@[simp] theorem State.forceI0_canon (s : State) (hs : Canon s) : Canon (State.forceI0 s) := by
  unfold State.forceI0
  simp (maxDischargeDepth := 50) +contextual [*]

@[simp] theorem State.guardI0_canon (s : State) (hs : Canon s) : Canon (State.guardI0 s) := by
  unfold State.guardI0
  simp (maxDischargeDepth := 50) +contextual [*]

@[simp] theorem State.thermI0_canon (s : State) (hs : Canon s) : Canon (State.thermI0 s) := by
  unfold State.thermI0
  simp +contextual [*]

@[simp] theorem State.powerI0_canon (s : State) (asked : Nat) (hs : Canon s) : Canon (State.powerI0 s asked) := by
  unfold State.powerI0
  simp (maxDischargeDepth := 50) +contextual [*]

@[simp] theorem State.leanEnd_canon (s : State) (mask : Nat) (hs : Canon s) : Canon (State.leanEnd s mask) := by
  unfold State.leanEnd
  simp +contextual [*]

@[simp] theorem State.pwrClr_canon (s : State) (hs : Canon s) : Canon (State.pwrClr s) := by
  unfold State.pwrClr
  simp (maxDischargeDepth := 50) +contextual [*]

@[simp] theorem State.teCap_canon (s : State) (tile : Nat) (phys : Nat) (cause : Nat) (hs : Canon s) : Canon (State.teCap s
    tile phys cause) := by
  unfold State.teCap
  (repeat' split) <;> simp +contextual [*]

@[simp] theorem State.laneFails_canon (s : State) (tile : Nat) (j : Nat) (hs : Canon s) : Canon (State.laneFails s tile
    j) := by
  unfold State.laneFails
  (repeat' split) <;> simp (maxDischargeDepth := 50) +contextual [*]

@[simp] theorem State.becomeFailing_canon (s : State) (tile : Nat) (phys : Nat) (cause : Nat) (hs : Canon s) : Canon
    (State.becomeFailing s tile phys cause) := by
  unfold State.becomeFailing
  (repeat' split) <;> simp (maxDischargeDepth := 50) +contextual [*]

@[simp] theorem State.markFailed_canon (s : State) (tile : Nat) (phys : Nat) (hs : Canon s) : Canon (State.markFailed s tile
    phys) := by
  unfold State.markFailed
  simp +contextual [*]

@[simp] theorem State.takeLane_canon (s : State) (tile : Nat) (j : Nat) (hs : Canon s) : Canon (State.takeLane s tile j) := by
  unfold State.takeLane
  simp (maxDischargeDepth := 50) +contextual [*]

@[simp] theorem State.loseLane_canon (s : State) (tile : Nat) (j : Nat) (hs : Canon s) : Canon (State.loseLane s tile j) := by
  unfold State.loseLane
  simp (maxDischargeDepth := 50) +contextual [*]

@[simp] theorem State.remapFailed_canon (s : State) (tile : Nat) (hs : Canon s) : Canon (State.remapFailed s tile) := by
  unfold State.remapFailed
  simp (maxDischargeDepth := 50) +contextual [*]

@[simp] theorem State.spareSpent_canon (s : State) (tile : Nat) (hs : Canon s) : Canon (State.spareSpent s tile) := by
  unfold State.spareSpent
  simp (maxDischargeDepth := 50) +contextual [*]

@[simp] theorem State.takeReq_canon (s : State) (tile : Nat) (j : Nat) (hs : Canon s) : Canon (State.takeReq s tile j) := by
  unfold State.takeReq
  simp +contextual [*]

@[simp] theorem State.returnReq_canon (s : State) (tile : Nat) (mask : Nat) (hs : Canon s) : Canon (State.returnReq s tile
    mask) := by
  unfold State.returnReq
  simp (maxDischargeDepth := 50) +contextual [*]
  (repeat' split) <;> simp_all (maxDischargeDepth := 50) +contextual

@[simp] theorem State.spareTile_canon (s : State) (tile : Nat) (hs : Canon s) : Canon (State.spareTile s tile) := by
  unfold State.spareTile
  simp (maxDischargeDepth := 50) +contextual [*]

@[simp] theorem State.sparing_canon (s : State) (hs : Canon s) : Canon (State.sparing s) := by
  unfold State.sparing
  simp (maxDischargeDepth := 50) +contextual [*]

@[simp] theorem State.spareShadow_canon (s : State) (tile : Nat) (f : Fld) (x : Nat) (hs : Canon s) : Canon
    (State.spareShadow s tile f x) := by
  unfold State.spareShadow
  simp +contextual [*]

@[simp] theorem State.clrFailed_canon (s : State) (tile : Nat) (mask : Nat) (hs : Canon s) : Canon (State.clrFailed s tile
    mask) := by
  unfold State.clrFailed
  simp +contextual [*]

@[simp] theorem State.decidePart_canon (s : State) (p : Nat) (hs : Canon s) : Canon (State.decidePart s p) := by
  unfold State.decidePart
  simp +contextual [*]

@[simp] theorem State.repeatI2_canon (s : State) (p : Nat) (hs : Canon s) : Canon (State.repeatI2 s p) := by
  unfold State.repeatI2
  simp (maxDischargeDepth := 50) +contextual [*]

@[simp] theorem State.setMan_canon (s : State) (x : ManSt) (hs : Canon s) : Canon (State.setMan s x) := by
  unfold State.setMan
  (repeat' split) <;> simp (maxDischargeDepth := 50) +contextual [*]

@[simp] theorem State.manTo_canon (s : State) (x : Nat) (hs : Canon s) : Canon (State.manTo s x) := by
  unfold State.manTo
  simp +contextual [*]

@[simp] theorem State.showDigest_canon (s : State) (key : Nat → Nat) (d : Nat) (hs : Canon s) : Canon (State.showDigest s key
    d) := by
  unfold State.showDigest
  simp +contextual [*]

@[simp] theorem State.manResult_canon (s : State) (v : Verdict) (m : Option Manifest) (hs : Canon s) : Canon (State.manResult
    s v m) := by
  unfold State.manResult
  simp (maxDischargeDepth := 50) +contextual [*]

@[simp] theorem State.manDrop_canon (s : State) (result : Nat) (hs : Canon s) : Canon (State.manDrop s result) := by
  unfold State.manDrop
  simp +contextual [*]

@[simp] theorem State.stage_canon (s : State) (hs : Canon s) : Canon (State.stage s) := by
  unfold State.stage
  simp (maxDischargeDepth := 50) +contextual [*]

@[simp] theorem State.abandon_canon (s : State) (hs : Canon s) : Canon (State.abandon s) := by
  unfold State.abandon
  simp +contextual [*]

@[simp] theorem State.switchCmd_canon (s : State) (hs : Canon s) : Canon (State.switchCmd s) := by
  unfold State.switchCmd
  simp +contextual [*]

@[simp] theorem State.manCheck_canon (s : State) (hs : Canon s) : Canon (State.manCheck s) := by
  unfold State.manCheck
  (repeat' split) <;> simp +contextual [*]

@[simp] theorem State.ctxUndef_canon (s : State) (t : Nat) (hs : Canon s) : Canon (State.ctxUndef s t) := by
  unfold State.ctxUndef
  simp (maxDischargeDepth := 50) +contextual [*]

@[simp] theorem State.ctxReload_canon (s : State) (t : Nat) (hs : Canon s) : Canon (State.ctxReload s t) := by
  unfold State.ctxReload
  simp +contextual [*]

@[simp] theorem State.ctxOne_canon (s : State) (old : Manifest) (new : Manifest) (t : TenRec) (hs : Canon s) : Canon
    (State.ctxOne s old new t) := by
  unfold State.ctxOne
  (repeat' split) <;> simp +contextual [*]

@[simp] theorem State.ctxCross_canon (s : State) (old : Manifest) (new : Manifest) (hs : Canon s) : Canon (State.ctxCross s
    old new) := by
  unfold State.ctxCross
  simp +contextual [*]

@[simp] theorem State.firstKey_canon (s : State) (o : Nat) (hs : Canon s) : Canon (State.firstKey s o) := by
  unfold State.firstKey
  simp +contextual [*]

@[simp] theorem State.keysCross_canon (s : State) (old : Option Manifest) (new : Manifest) (hs : Canon s) : Canon
    (State.keysCross s old new) := by
  unfold State.keysCross
  simp (maxDischargeDepth := 50) +contextual [*]

@[simp] theorem State.fixedCross_canon (s : State) (m : Manifest) (hs : Canon s) : Canon (State.fixedCross s m) := by
  unfold State.fixedCross
  simp (maxDischargeDepth := 50) +contextual [*]

@[simp] theorem State.partsCross_canon (s : State) (m : Manifest) (hs : Canon s) : Canon (State.partsCross s m) := by
  unfold State.partsCross
  simp (maxDischargeDepth := 50) +contextual [*]

@[simp] theorem State.voyagesCross_canon (s : State) (m : Manifest) (hs : Canon s) : Canon (State.voyagesCross s m) := by
  unfold State.voyagesCross
  simp +contextual [*]

@[simp] theorem State.crossNow_canon (s : State) (m : Manifest) (hs : Canon s) : Canon (State.crossNow s m) := by
  unfold State.crossNow
  dsimp only
  (repeat' split) <;> simp_all (maxDischargeDepth := 50) +contextual

@[simp] theorem State.ferryCrossing_canon (s : State) (m : Manifest) (hs : Canon s) : Canon (State.ferryCrossing s m) := by
  unfold State.ferryCrossing
  (repeat' split) <;> simp +contextual [*]

@[simp] theorem State.crossI2_canon (s : State) (due : Bool) (again : Verdict) (hs : Canon s) : Canon (State.crossI2 s due
    again) := by
  unfold State.crossI2
  (repeat' split) <;> simp +contextual [*]

@[simp] theorem State.underput_canon (s : State) (key : Nat) (f : Fld) (x : Nat) (hs : Canon s) : Canon (State.underput
    s key f x) := by
  unfold State.underput
  simp (maxDischargeDepth := 50) +contextual [*]

@[simp] theorem State.loadRegs_canon (s : State) (m : Manifest) (hs : Canon s) : Canon (State.loadRegs s m) := by
  unfold State.loadRegs
  extract_lets keep s0 s1 s2
  have h0 : Canon s0 := by simp only [s0]; simp (maxDischargeDepth := 50) +contextual [hs]
  have h1 : Canon s1 := ⟨mrising_mapVals _ (fun p => by split <;> rfl) _ (mrising_filter _ _ hs.1), h0.2⟩
  have h2 : Canon s2 := by
    refine foldl_canon _ (fun s e h => ?_) _ h1
    split
    · simp (maxDischargeDepth := 50) +contextual [h]
    · exact ⟨mrising_mput _ _ _ h.1, h.2⟩
  exact foldl_canon _ (fun s e h => by simp (maxDischargeDepth := 50) +contextual [h]) _ h2

@[simp] theorem State.enterTable_canon (s : State) (m : Manifest) (p : Nat) (hs : Canon s) : Canon (State.enterTable s m p)
    := by
  unfold State.enterTable
  (repeat' split) <;> simp +contextual [*]

@[simp] theorem State.crossI0_canon (s : State) (hs : Canon s) : Canon (State.crossI0 s) := by
  unfold State.crossI0
  simp (maxDischargeDepth := 50) +contextual [*]
  (repeat' split) <;> simp_all (maxDischargeDepth := 50) +contextual

@[simp] theorem State.crossShadow_canon (s : State) (hs : Canon s) : Canon (State.crossShadow s) := by
  unfold State.crossShadow
  simp +contextual [*]

@[simp] theorem State.setLp_canon (s : State) (p : Nat) (x : LrsSt) (hs : Canon s) : Canon (State.setLp s p x) := by
  unfold State.setLp
  (repeat' split) <;> simp (maxDischargeDepth := 50) +contextual [*]

@[simp] theorem State.setCh_canon (s : State) (p : Nat) (c : Nat) (st : Nat) (serves : Nat) (hs : Canon s) : Canon
    (State.setCh s p c st serves) := by
  unfold State.setCh
  simp +contextual [*]

@[simp] theorem State.showSpares_canon (s : State) (p : Nat) (hs : Canon s) : Canon (State.showSpares s p) := by
  unfold State.showSpares
  simp +contextual [*]

@[simp] theorem State.chInvalid_canon (s : State) (p : Nat) (lc : Nat) (hs : Canon s) : Canon (State.chInvalid s p lc) := by
  unfold State.chInvalid
  simp +contextual [*]

@[simp] theorem State.showChans_canon (s : State) (p : Nat) (hs : Canon s) : Canon (State.showChans s p) := by
  unfold State.showChans
  simp (maxDischargeDepth := 50) +contextual [*]

@[simp] theorem State.copyStart_canon (s : State) (p : Nat) (c : Nat) (hs : Canon s) : Canon (State.copyStart s p c) := by
  unfold State.copyStart
  (repeat' split) <;> simp +contextual [*]

@[simp] theorem State.copyNext_canon (s : State) (p : Nat) (hs : Canon s) : Canon (State.copyNext s p) := by
  unfold State.copyNext
  (repeat' split) <;> simp +contextual [*]

@[simp] theorem State.remapCh_canon (s : State) (p : Nat) (c : Nat) (hs : Canon s) : Canon (State.remapCh s p c) := by
  unfold State.remapCh
  (repeat' split) <;> simp (maxDischargeDepth := 50) +contextual [*]

@[simp] theorem State.copyAsk_canon (s : State) (p : Nat) (c : Nat) (hs : Canon s) : Canon (State.copyAsk s p c) := by
  unfold State.copyAsk
  simp (maxDischargeDepth := 50) +contextual [*]

@[simp] theorem State.chSilent_canon (s : State) (p : Nat) (c : Nat) (hs : Canon s) : Canon (State.chSilent s p c) := by
  unfold State.chSilent
  dsimp only
  (repeat' split) <;> simp_all (maxDischargeDepth := 50) +contextual

@[simp] theorem State.targetFail_canon (s : State) (p : Nat) (c : Nat) (hs : Canon s) : Canon (State.targetFail s p c)
    := by
  unfold State.targetFail
  dsimp only
  (repeat' split) <;> simp_all (maxDischargeDepth := 50) +contextual

@[simp] theorem State.chFail_canon (s : State) (p : Nat) (c : Nat) (cause : Nat) (silent : Bool) (hs : Canon s) : Canon
    (State.chFail s p c cause silent) := by
  unfold State.chFail
  simp (maxDischargeDepth := 50) +contextual [*]

@[simp] theorem State.takeOut_canon (s : State) (p : Nat) (cause : Nat) (hs : Canon s) : Canon (State.takeOut s p cause) := by
  unfold State.takeOut
  simp (maxDischargeDepth := 50) +contextual [*]

@[simp] theorem State.stackShow_canon (s : State) (p : Nat) (y : Nat) (hs : Canon s) : Canon (State.stackShow s p y) :=
    by
  unfold State.stackShow
  simp (maxDischargeDepth := 50) +contextual [*]

@[simp] theorem State.lrsReset_canon (s : State) (p : Nat) (mism : Nat) (hs : Canon s) : Canon (State.lrsReset s p mism) := by
  unfold State.lrsReset
  simp (maxDischargeDepth := 50) +contextual [*]

@[simp] theorem State.lrsClr_canon (s : State) (p : Nat) (hs : Canon s) : Canon (State.lrsClr s p) := by
  unfold State.lrsClr
  simp (maxDischargeDepth := 50) +contextual [*]

@[simp] theorem State.putShadow_canon (s : State) (key : Nat) (f : Fld) (x : Nat) (hs : Canon s) : Canon (State.putShadow s
    key f x) := by
  unfold State.putShadow
  simp +contextual [*]

@[simp] theorem State.lrsI0_canon (s : State) (p : Nat) (hs : Canon s) : Canon (State.lrsI0 s p) := by
  unfold State.lrsI0
  dsimp only
  (repeat' split) <;> simp_all (maxDischargeDepth := 50) +contextual

@[simp] theorem State.takeCh_canon (s : State) (p : Nat) (x : Nat × Nat × Bool) (hs : Canon s) : Canon (State.takeCh s p x)
    := by
  unfold State.takeCh
  simp (maxDischargeDepth := 50) +contextual [*]

@[simp] theorem State.loseCh_canon (s : State) (p : Nat) (c : Nat) (hs : Canon s) : Canon (State.loseCh s p c) := by
  unfold State.loseCh
  simp (maxDischargeDepth := 50) +contextual [*]

@[simp] theorem State.freeI2_canon (s : State) (p : Nat) (c : Nat) (hs : Canon s) : Canon (State.freeI2 s p c) := by
  unfold State.freeI2
  (repeat' split) <;> simp (maxDischargeDepth := 50) +contextual [*]

@[simp] theorem State.lrsI2_canon (s : State) (p : Nat) (hs : Canon s) : Canon (State.lrsI2 s p) := by
  unfold State.lrsI2
  simp (maxDischargeDepth := 50) +contextual [*]

@[simp] theorem State.lineCe_canon (s : State) (l : Nat) (hs : Canon s) : Canon (State.lineCe s l) := by
  unfold State.lineCe
  dsimp only
  (repeat' split) <;> simp_all (maxDischargeDepth := 50) +contextual

@[simp] theorem State.lineUe_canon (s : State) (l : Nat) (tenant : Option Nat) (hs : Canon s) : Canon (State.lineUe s l
    tenant) := by
  unfold State.lineUe
  dsimp only
  (repeat' split) <;> simp_all (maxDischargeDepth := 50) +contextual

@[simp] theorem State.fabMsg_canon (s : State) (m : FMsg) (hs : Canon s) : Canon (State.fabMsg s m) := by
  unfold State.fabMsg
  simp (maxDischargeDepth := 50) +contextual [*]

@[simp] theorem State.reply_canon (s : State) (kind : Nat) (m : MemReq) (cause : Nat) (d : Line) (dmg : Bool) (hs :
    Canon s) : Canon (State.reply s kind m cause d dmg) := by
  unfold State.reply
  simp (maxDischargeDepth := 50) +contextual [*]

@[simp] theorem State.mdata_canon (s : State) (m : MemReq) (d : Line) (hs : Canon s) : Canon (State.mdata s m d) := by
  unfold State.mdata
  simp (maxDischargeDepth := 50) +contextual [*]

@[simp] theorem State.mwrAck_canon (s : State) (m : MemReq) (hs : Canon s) : Canon (State.mwrAck s m) := by
  unfold State.mwrAck
  simp (maxDischargeDepth := 50) +contextual [*]

@[simp] theorem State.fabErr_canon (s : State) (m : MemReq) (cause : Nat) (hs : Canon s) : Canon (State.fabErr s m
    cause) := by
  unfold State.fabErr
  simp (maxDischargeDepth := 50) +contextual [*]

@[simp] theorem State.mlost_canon (s : State) (m : MemReq) (hs : Canon s) : Canon (State.mlost s m) := by
  unfold State.mlost
  simp (maxDischargeDepth := 50) +contextual [*]

@[simp] theorem State.relayOne_canon (s : State) (r : RRead) (hs : Canon s) : Canon (State.relayOne s r) := by
  unfold State.relayOne
  (repeat' split) <;> simp (maxDischargeDepth := 50) +contextual [*]

@[simp] theorem State.relay_canon (s : State) (hs : Canon s) : Canon (State.relay s) := by
  unfold State.relay
  simp +contextual [*]

@[simp] theorem State.nodeAnswer_canon (s : State) (node : Nat) (tag : Nat) (d : Option (List Byte)) (hs : Canon s) : Canon
    (State.nodeAnswer s node tag d) := by
  unfold State.nodeAnswer
  (repeat' split) <;> simp +contextual [*]

@[simp] theorem State.setHeap_canon (s : State) (x : HeapSt) (hs : Canon s) : Canon (State.setHeap s x) := by
  unfold State.setHeap
  (repeat' split) <;> simp (maxDischargeDepth := 50) +contextual [*]

@[simp] theorem State.ackOne_canon (s : State) (w : RWrite) (ok : Bool) (hs : Canon s) : Canon (State.ackOne s w ok) :=
    by
  unfold State.ackOne
  simp (maxDischargeDepth := 50) +contextual [*]

@[simp] theorem State.nodeAck_canon (s : State) (node : Nat) (tag : Nat) (ok : Bool) (hs : Canon s) : Canon (State.nodeAck s
    node tag ok) := by
  unfold State.nodeAck
  (repeat' split) <;> simp +contextual [*]

@[simp] theorem State.noData_canon (s : State) (r : LineRes) (m : MemReq) (hs : Canon s) : Canon (State.noData s r m) :=
    by
  unfold State.noData
  (repeat' split) <;> simp (maxDischargeDepth := 50) +contextual [*]

@[simp] theorem State.memAbsent_canon (s : State) (m : MemReq) (hs : Canon s) : Canon (State.memAbsent s m) := by
  unfold State.memAbsent
  (repeat' split) <;> simp (maxDischargeDepth := 50) +contextual [*]

@[simp] theorem State.mrd_canon (s : State) (m : MemReq) (hs : Canon s) : Canon (State.mrd s m) := by
  unfold State.mrd
  dsimp only
  (repeat' split) <;> simp_all (maxDischargeDepth := 50) +contextual

@[simp] theorem State.wrAnswer_canon (s : State) (r : LineRes) (m : MemReq) (hs : Canon s) : Canon (State.wrAnswer s r
    m) := by
  cases r with
  | ok d => exact State.mwrAck_canon _ _ hs
  | lost => exact State.fabErr_canon _ _ _ (State.homeErr_canon _ _ _ _ _ hs)
  | _ => exact State.mwrAck_canon _ _ (State.homeErr_canon _ _ _ _ _ hs)

@[simp] theorem State.mwr_canon (s : State) (m : MemReq) (hs : Canon s) : Canon (State.mwr s m) := by
  unfold State.mwr
  (repeat' split) <;> simp (maxDischargeDepth := 50) +contextual [*]

@[simp] theorem State.memServe_canon (s : State) (m : MemReq) (hs : Canon s) : Canon (State.memServe s m) := by
  unfold State.memServe
  (repeat' split) <;> simp (maxDischargeDepth := 50) +contextual [*]

@[simp] theorem State.toCtrl_canon (s : State) (m : MemReq) (hs : Canon s) : Canon (State.toCtrl s m) := by
  unfold State.toCtrl
  (repeat' split) <;> simp (maxDischargeDepth := 50) +contextual [*]

@[simp] theorem State.memSend_canon (s : State) (m : MemReq) (hs : Canon s) : Canon (State.memSend s m) := by
  unfold State.memSend
  (repeat' split) <;> simp (maxDischargeDepth := 50) +contextual [*]

@[simp] theorem State.fabTake_canon (s : State) (m : FMsg) (hs : Canon s) : Canon (State.fabTake s m) := by
  unfold State.fabTake
  simp +contextual [*]

@[simp] theorem State.octCap_canon (s : State) (router : Nat) (cause : Nat) (hs : Canon s) : Canon (State.octCap s router
    cause) := by
  unfold State.octCap
  simp +contextual [*]

@[simp] theorem State.setPort_canon (s : State) (r : Nat) (p : Nat) (x : Nat) (hs : Canon s) : Canon (State.setPort s r p x)
    := by
  unfold State.setPort
  simp +contextual [*]

@[simp] theorem State.setLink_canon (s : State) (r : Nat) (p : Nat) (x : Nat) (hs : Canon s) : Canon (State.setLink s r p x)
    := by
  unfold State.setLink
  (repeat' split) <;> simp +contextual [*]

@[simp] theorem State.routeI2_canon (s : State) (hs : Canon s) : Canon (State.routeI2 s) := by
  unfold State.routeI2
  (repeat' split) <;> simp (maxDischargeDepth := 50) +contextual [*]

@[simp] theorem State.damage_canon (s : State) (pa : Nat) (tag : Nat) (hs : Canon s) : Canon (State.damage s pa tag) :=
    by
  unfold State.damage
  simp (maxDischargeDepth := 50) +contextual [*]

@[simp] theorem State.deliver_canon (s : State) (z0 : HPkt) (hs : Canon s) : Canon (State.deliver s z0) := by
  induction z0 generalizing s <;> (unfold State.deliver; simp_all (maxDischargeDepth := 50) +contextual)

@[simp] theorem State.domUp_canon (s : State) (d : Nat) (hs : Canon s) : Canon (State.domUp s d) := by
  unfold State.domUp
  simp (maxDischargeDepth := 50) +contextual [*]

@[simp] theorem State.flushTile_canon (s : State) (t : Nat) (hs : Canon s) : Canon (State.flushTile s t) := by
  unfold State.flushTile
  simp +contextual [*]

@[simp] theorem State.teSleep_canon (s : State) (x : Nat) (hs : Canon s) : Canon (State.teSleep s x) := by
  unfold State.teSleep
  simp +contextual [*]

@[simp] theorem State.sleepOne_canon (s : State) (wake : Nat → Bool) (d : Nat) (hs : Canon s) : Canon (State.sleepOne s
    wake d) := by
  unfold State.sleepOne
  simp (maxDischargeDepth := 50) +contextual [*]

@[simp] theorem State.teRest_canon (s : State) (k : Nat) (hs : Canon s) : Canon (State.teRest s k) := by
  unfold State.teRest
  simp +contextual [*]

@[simp] theorem State.sleepI0_canon (s : State) (hs : Canon s) : Canon (State.sleepI0 s) := by
  unfold State.sleepI0
  simp (maxDischargeDepth := 50) +contextual [*]

@[simp] theorem State.wakeNext_canon (s : State) (hs : Canon s) : Canon (State.wakeNext s) := by
  unfold State.wakeNext
  simp (maxDischargeDepth := 50) +contextual [*]

@[simp] theorem State.showTc_canon (s : State) (p : Nat) (x : Nat) (hs : Canon s) : Canon (State.showTc s p x) := by
  unfold State.showTc
  simp +contextual [*]

@[simp] theorem State.teClr_canon (s : State) (k : Nat) (hs : Canon s) : Canon (State.teClr s k) := by
  unfold State.teClr
  simp (maxDischargeDepth := 50) +contextual [*]

@[simp] theorem State.teFlagsClr_canon (s : State) (k : Nat) (hs : Canon s) : Canon (State.teFlagsClr s k) := by
  unfold State.teFlagsClr
  simp (maxDischargeDepth := 50) +contextual [*]

@[simp] theorem State.resetI2_canon (s : State) (hs : Canon s) : Canon (State.resetI2 s) := by
  unfold State.resetI2
  simp (maxDischargeDepth := 50) +contextual [*]

@[simp] theorem State.prstAnswer_canon (s : State) (part : Nat) (dst : Nat) (tag : Nat) (qc : Nat) (hs : Canon s) :
    Canon (State.prstAnswer s part dst tag qc) := by
  unfold State.prstAnswer
  simp (maxDischargeDepth := 50) +contextual [*]

@[simp] theorem State.octClr_canon (s : State) (hs : Canon s) : Canon (State.octClr s) := by
  unfold State.octClr
  simp (maxDischargeDepth := 50) +contextual [*]

@[simp] theorem State.cohClr_canon (s : State) (hs : Canon s) : Canon (State.cohClr s) := by
  unfold State.cohClr
  simp (maxDischargeDepth := 50) +contextual [*]

@[simp] theorem State.tileClr_canon (s : State) (t : Nat) (hs : Canon s) : Canon (State.tileClr s t) := by
  unfold State.tileClr
  simp (maxDischargeDepth := 50) +contextual [*]

@[simp] theorem State.regimeI0_canon (s : State) (hs : Canon s) : Canon (State.regimeI0 s) := by
  unfold State.regimeI0
  simp (maxDischargeDepth := 50) +contextual [*]

@[simp] theorem State.rowI2_canon (s : State) (hs : Canon s) : Canon (State.rowI2 s) := by
  unfold State.rowI2
  simp (maxDischargeDepth := 50) +contextual [*]

@[simp] theorem State.wayLineLost_canon (s : State) (slice : Nat) (l : Nat) (hs : Canon s) : Canon (State.wayLineLost s
    slice l) := by
  unfold State.wayLineLost
  simp (maxDischargeDepth := 50) +contextual [*]

@[simp] theorem State.shrink_canon (s : State) (h : Nat) (hs : Canon s) : Canon (State.shrink s h) := by
  unfold State.shrink
  simp +contextual [*]

@[simp] theorem State.wayLose_canon (s : State) (slice : Nat) (way : Nat) (hs : Canon s) : Canon (State.wayLose s slice
    way) := by
  unfold State.wayLose
  simp (maxDischargeDepth := 50) +contextual [*]

@[simp] theorem State.wayI2_canon (s : State) (hs : Canon s) : Canon (State.wayI2 s) := by
  unfold State.wayI2
  simp (maxDischargeDepth := 50) +contextual [*]

@[simp] theorem State.fordCap_canon (s : State) (src : Nat) (dst : Nat) (cause : Nat) (hs : Canon s) : Canon (State.fordCap s
    src dst cause) := by
  unfold State.fordCap
  simp (maxDischargeDepth := 50) +contextual [*]

@[simp] theorem State.lateBoundary_canon (s : State) (hs : Canon s) : Canon (State.lateBoundary s) := by
  unfold State.lateBoundary
  simp (maxDischargeDepth := 50) +contextual [*]

@[simp] theorem State.domReady_canon (s : State) (d : Nat) (hs : Canon s) : Canon (State.domReady s d) := by
  unfold State.domReady
  simp (maxDischargeDepth := 50) +contextual [*]

@[simp] theorem State.fordClr_canon (s : State) (hs : Canon s) : Canon (State.fordClr s) := by
  unfold State.fordClr
  simp +contextual [*]

@[simp] theorem State.slipTo_canon (s : State) (v : Nat) (x : Nat) (hs : Canon s) : Canon (State.slipTo s v x) := by
  unfold State.slipTo
  simp +contextual [*]

@[simp] theorem State.readLost_canon (s : State) (r : RRead) (block : Nat) (cause : Nat) (unit : Nat) (hs : Canon s) : Canon
    (State.readLost s r block cause unit) := by
  unfold State.readLost
  simp +contextual [*]

@[simp] theorem State.failNode_canon (s : State) (node : Nat) (block : Nat) (cause : Nat) (unit : Nat) (hs : Canon s) :
    Canon (State.failNode s node block cause unit) := by
  unfold State.failNode
  simp (maxDischargeDepth := 50) +contextual [*]

@[simp] theorem State.slipDown_canon (s : State) (v : Nat) (cause : Nat) (hs : Canon s) : Canon (State.slipDown s v cause) := by
  unfold State.slipDown
  simp (maxDischargeDepth := 50) +contextual [*]

@[simp] theorem State.slipBreach_canon (s : State) (v : Nat) (hs : Canon s) : Canon (State.slipBreach s v) := by
  unfold State.slipBreach
  simp (maxDischargeDepth := 50) +contextual [*]

@[simp] theorem State.slipRetrain_canon (s : State) (v : Nat) (hs : Canon s) : Canon (State.slipRetrain s v) := by
  unfold State.slipRetrain
  simp (maxDischargeDepth := 50) +contextual [*]

@[simp] theorem State.windowsI0_canon (s : State) (hs : Canon s) : Canon (State.windowsI0 s) := by
  unfold State.windowsI0
  simp (maxDischargeDepth := 50) +contextual [*]

@[simp] theorem State.slipMsg_canon (s : State) (v : Nat) (h : OHdr) (kind : Nat) (cause : Nat) (d : Line) (hs : Canon
    s) : Canon (State.slipMsg s v h kind cause d) := by
  unfold State.slipMsg
  simp (maxDischargeDepth := 50) +contextual [*]

@[simp] theorem State.slipDeliver_canon (s : State) (v : Nat) (h : OHdr) (d : Line) (hs : Canon s) : Canon
    (State.slipDeliver s v h d) := by
  unfold State.slipDeliver
  (repeat' split) <;> simp (maxDischargeDepth := 50) +contextual [*]

@[simp] theorem State.slipPump_canon (s : State) (v : Nat) (z0 : Nat) (hs : Canon s) : Canon (State.slipPump s v z0) := by
  induction z0 generalizing s with
  | zero => exact hs
  | succ f ih =>
    unfold State.slipPump
    split
    · (apply ih; simp (maxDischargeDepth := 50) +contextual [hs])
    · exact hs

@[simp] theorem State.slipHdr_canon (s : State) (v : Nat) (h : OHdr) (hs : Canon s) : Canon (State.slipHdr s v h) := by
  unfold State.slipHdr
  simp +contextual [*]

@[simp] theorem State.slipSlot_canon (s : State) (v : Nat) (n : Nat) (hs : Canon s) : Canon (State.slipSlot s v n) := by
  unfold State.slipSlot
  (repeat' split) <;> simp +contextual [*]

@[simp] theorem State.slipReplay_canon (s : State) (v : Nat) (hs : Canon s) : Canon (State.slipReplay s v) := by
  unfold State.slipReplay
  simp +contextual [*]

@[simp] theorem State.flitBad_canon (s : State) (v : Nat) (hs : Canon s) : Canon (State.flitBad s v) := by
  unfold State.flitBad
  simp (maxDischargeDepth := 50) +contextual [*]

@[simp] theorem State.slipResend_canon (s : State) (v : Nat) (fseq : Nat) (hs : Canon s) : Canon (State.slipResend s v fseq)
    := by
  unfold State.slipResend
  simp +contextual [*]

@[simp] theorem State.slipTrim_canon (s : State) (v : Nat) (hs : Canon s) : Canon (State.slipTrim s v) := by
  unfold State.slipTrim
  simp (maxDischargeDepth := 50) +contextual [*]

@[simp] theorem State.flitGood_canon (s : State) (v : Nat) (b : List Byte) (head : Bool) (hs : Canon s) : Canon
    (State.flitGood s v b head) := by
  unfold State.flitGood
  simp (maxDischargeDepth := 50) +contextual [*]

@[simp] theorem State.slipRate_canon (s : State) (v : Nat) (rate : Nat) (mods : Nat) (hs : Canon s) : Canon (State.slipRate s
    v rate mods) := by
  unfold State.slipRate
  simp +contextual [*]

@[simp] theorem State.slipTrain_canon (s : State) (v : Nat) (hs : Canon s) : Canon (State.slipTrain s v) := by
  unfold State.slipTrain
  simp +contextual [*]

@[simp] theorem State.slipRetry_canon (s : State) (v : Nat) (hs : Canon s) : Canon (State.slipRetry s v) := by
  unfold State.slipRetry
  simp +contextual [*]

@[simp] theorem State.showDesc_canon (s : State) (v : Nat) (b : List Byte) (hs : Canon s) : Canon (State.showDesc s v b) := by
  unfold State.showDesc
  simp +contextual [*]

@[simp] theorem State.trainSlip_canon (s : State) (v : Nat) (b : List Byte) (hs : Canon s) : Canon (State.trainSlip s v
    b) := by
  unfold State.trainSlip
  simp (maxDischargeDepth := 50) +contextual [*]

@[simp] theorem State.slipFound_canon (s : State) (v : Nat) (rate : Nat) (mods : Nat) (link : Bool) (b : List Byte) (hs :
    Canon s) : Canon (State.slipFound s v rate mods link b).1 := by
  unfold State.slipFound
  simp (maxDischargeDepth := 50) +contextual [*]

@[simp] theorem State.slipI2_canon (s : State) (v : Nat) (hs : Canon s) : Canon (State.slipI2 s v) := by
  unfold State.slipI2
  simp (maxDischargeDepth := 50) +contextual [*]

@[simp] theorem State.slipClr_canon (s : State) (slip : Nat) (hs : Canon s) : Canon (State.slipClr s slip) := by
  unfold State.slipClr
  simp +contextual [*]

@[simp] theorem State.enter_canon (s : State) (st : Stage) (off : Nat) (phase : Nat) (hs : Canon s) : Canon (State.enter s st
    off phase) := by
  unfold State.enter
  simp +contextual [*]

@[simp] theorem State.voidCtxs_canon (s : State) (hs : Canon s) : Canon (State.voidCtxs s) := by
  unfold State.voidCtxs
  simp (maxDischargeDepth := 50) +contextual [*]

@[simp] theorem State.voidLegs_canon (s : State) (hs : Canon s) : Canon (State.voidLegs s) := by
  unfold State.voidLegs
  simp +contextual [*]

@[simp] theorem State.issueRecs_canon (s : State) (l : List CmpRec) (hs : Canon s) : Canon (State.issueRecs s l).1 := by
  unfold State.issueRecs
  refine foldl_fst_canon _ (fun p o hp => ?_) l hs
  dsimp only
  split
  · split <;> simp (maxDischargeDepth := 50) +contextual [hp]
  · exact hp

@[simp] theorem State.commitRecs_canon (s : State) (fit : Nat) (hs : Canon s) : Canon (State.commitRecs s fit) := by
  unfold State.commitRecs
  (repeat' split) <;> simp (maxDischargeDepth := 50) +contextual [*]

@[simp] theorem State.twinCommit_canon (s : State) (hs : Canon s) : Canon (State.twinCommit s) := by
  unfold State.twinCommit
  simp (maxDischargeDepth := 50) +contextual [*]

@[simp] theorem State.reissue_canon (s : State) (hs : Canon s) : Canon (State.reissue s) := by
  unfold State.reissue
  simp +contextual [*]

@[simp] theorem State.setPend_canon (s : State) (fn : Nat) (v : Nat) (x : Nat) (hs : Canon s) : Canon (State.setPend s fn v
    x) := by
  unfold State.setPend
  simp +contextual [*]

@[simp] theorem State.judge_canon (s : State) (fn : Nat) (v : Nat) (hs : Canon s) : Canon (State.judge s fn v).1 := by
  unfold State.judge
  (repeat' split) <;> simp (maxDischargeDepth := 50) +contextual [*]

@[simp] theorem State.judgeAll_canon (s : State) (l : List (Nat × Nat)) (hs : Canon s) : Canon (State.judgeAll s l).1 :=
    by
  unfold State.judgeAll
  simp (maxDischargeDepth := 50) +contextual [*]

@[simp] theorem State.lateVecs_canon (s : State) (l : List (Nat × Nat)) (hs : Canon s) : Canon (State.lateVecs s l) :=
    by
  unfold State.lateVecs
  simp (maxDischargeDepth := 50) +contextual [*]

@[simp] theorem State.issueSpill_canon (s : State) (n : Nat) (hs : Canon s) : Canon (State.issueSpill s n) := by
  unfold State.issueSpill
  simp (maxDischargeDepth := 50) +contextual [*]

@[simp] theorem State.fire_canon (s : State) (o : Out) (hs : Canon s) : Canon (State.fire s o).1 := by
  unfold State.fire
  dsimp only
  (repeat' split) <;> simp_all (maxDischargeDepth := 50) +contextual

@[simp] theorem State.fireAll_canon (s : State) (l : List Out) (hs : Canon s) : Canon (State.fireAll s l).1 := by
  unfold State.fireAll
  simp (maxDischargeDepth := 50) +contextual [*]

@[simp] theorem State.fireSpill_canon (s : State) (n : Nat) (hs : Canon s) : Canon (State.fireSpill s n) := by
  unfold State.fireSpill
  simp (maxDischargeDepth := 50) +contextual [*]

@[simp] theorem State.commitC1_canon (s : State) (fit : Nat) (hs : Canon s) : Canon (State.commitC1 s fit) := by
  unfold State.commitC1
  simp (maxDischargeDepth := 50) +contextual [*]

@[simp] theorem State.commitC2_canon (s : State) (fit : Nat) (hs : Canon s) : Canon (State.commitC2 s fit) := by
  unfold State.commitC2
  simp (maxDischargeDepth := 50) +contextual [*]

@[simp] theorem State.commitSpill_canon (s : State) (n : Nat) (hs : Canon s) : Canon (State.commitSpill s n) := by
  unfold State.commitSpill
  simp (maxDischargeDepth := 50) +contextual [*]

@[simp] theorem State.storeRemote_canon (s : State) (k : Nat) (id : Nat) (part : Nat) (tenant : Nat) (ps : List (Nat ×
    Nat × Nat)) (hs : Canon s) : Canon (State.storeRemote s k id part tenant ps) := by
  unfold State.storeRemote
  simp (maxDischargeDepth := 50) +contextual [*]

@[simp] theorem State.storeLog_canon (s : State) (key : Nat) (part : Nat) (l : List (Nat × List Byte)) (hs : Canon s) : Canon
    (State.storeLog s key part l) := by
  unfold State.storeLog
  simp +contextual [*]

@[simp] theorem State.movWait_canon (s : State) (k : Nat) (r : LegRun) (hs : Canon s) : Canon (State.movWait s k r) :=
    by
  unfold State.movWait
  (repeat' split) <;> simp (maxDischargeDepth := 50) +contextual [*]

@[simp] theorem State.movMem_canon (s : State) (k : Nat) (r : LegRun) (w : Nat) (hs : Canon s) : Canon (State.movMem s k
    r w) := by
  unfold State.movMem
  dsimp only
  (repeat' split) <;> simp_all (maxDischargeDepth := 50) +contextual

@[simp] theorem State.issueMem_canon (s : State) (k : Nat) (op : Nat) (hs : Canon s) : Canon (State.issueMem s k op) := by
  unfold State.issueMem
  (repeat' split) <;> simp +contextual [*]

@[simp] theorem State.issueLocal_canon (s : State) (k : Nat) (op : Nat) (hs : Canon s) : Canon (State.issueLocal s k op) := by
  unfold State.issueLocal
  (repeat' split) <;> simp +contextual [*]

@[simp] theorem State.scatter_canon (s : State) (k : Nat) (z0 : List (Nat × Nat × Nat)) (z1 : List (List Byte × Bool)) (hs :
    Canon s) : Canon (State.scatter s k z0 z1) := by
  induction z0 generalizing s z1 with
  | nil => unfold State.scatter; exact hs
  | cons p rest ih =>
    obtain ⟨_, h, _⟩ := p
    cases z1 with
    | nil => exact hs
    | cons x xs =>
      unfold State.scatter
      apply ih
      split <;> simp (maxDischargeDepth := 50) +contextual [hs]

@[simp] theorem State.movFill_canon (s : State) (k : Nat) (part : Nat) (m : MovX) (hs : Canon s) : Canon (State.movFill s k
    part m) := by
  unfold State.movFill
  simp (maxDischargeDepth := 50) +contextual [*]

@[simp] theorem State.movSpill_canon (s : State) (k : Nat) (part : Nat) (m : MovX) (hs : Canon s) : Canon (State.movSpill s k
    part m) := by
  unfold State.movSpill
  simp (maxDischargeDepth := 50) +contextual [*]

@[simp] theorem State.movInside_canon (s : State) (k : Nat) (m : MovX) (hs : Canon s) : Canon (State.movInside s k m) := by
  unfold State.movInside
  simp +contextual [*]

@[simp] theorem State.movOpen_canon (s : State) (k : Nat) (m : MovX) (hs : Canon s) : Canon (State.movOpen s k m) := by
  unfold State.movOpen
  simp (maxDischargeDepth := 50) +contextual [*]

@[simp] theorem State.movDo_canon (s : State) (k : Nat) (part : Nat) (m : MovX) (hs : Canon s) : Canon (State.movDo s k part
    m) := by
  unfold State.movDo
  simp +contextual [*]

@[simp] theorem State.putElems_canon (s : State) (k : Nat) (a : Nat) (f : CFmt) (cs : List Nat) (hs : Canon s) : Canon
    (State.putElems s k a f cs) := by
  unfold State.putElems
  (repeat' split) <;> simp +contextual [*]

@[simp] theorem State.putScale_canon (s : State) (k : Nat) (a : Nat) (q : Option Nat) (hs : Canon s) : Canon (State.putScale
    s k a q) := by
  unfold State.putScale
  (repeat' split) <;> simp +contextual [*]

@[simp] theorem State.cvtDo_canon (s : State) (k : Nat) (rule : State → CvtI → CFmt → CFmt → List FVal → List Conv × Evts ×
    Option Nat) (r : LegRun) (w : Nat) (hs : Canon s) : Canon (State.cvtDo s k rule r w).1 := by
  unfold State.cvtDo
  simp (maxDischargeDepth := 50) +contextual [*]
  (repeat' split) <;> simp_all (maxDischargeDepth := 50) +contextual

@[simp] theorem State.cvt_canon (s : State) (k : Nat) (op : Nat) (rule : State → CvtI → CFmt → CFmt → List FVal → List Conv ×
    Evts × Option Nat) (hs : Canon s) : Canon (State.cvt s k op rule) := by
  unfold State.cvt
  simp +contextual [*]

@[simp] theorem State.cutIns_canon (s : State) (k : Nat) (hs : Canon s) : Canon (State.cutIns s k) := by
  unfold State.cutIns
  (repeat' split) <;> simp (maxDischargeDepth := 50) +contextual [*]

@[simp] theorem State.cutLeg_canon (s : State) (k : Nat) (hs : Canon s) : Canon (State.cutLeg s k) := by
  unfold State.cutLeg
  dsimp only
  (repeat' split) <;> simp_all (maxDischargeDepth := 50) +contextual

@[simp] theorem State.takeBlock_canon (s : State) (k : Nat) (hs : Canon s) : Canon (State.takeBlock s k) := by
  unfold State.takeBlock
  simp (maxDischargeDepth := 50) +contextual [*]
  (repeat' split) <;> simp_all (maxDischargeDepth := 50) +contextual

@[simp] theorem State.feed_canon (s : State) (k : Nat) (z0 : Nat) (hs : Canon s) : Canon (State.feed s k z0) := by
  induction z0 generalizing s with
  | zero => exact hs
  | succ f ih => unfold State.feed; (apply ih; simp (maxDischargeDepth := 50) +contextual [hs])

@[simp] theorem State.mmaStart_canon (s : State) (k : Nat) (cyc : Nat) (r : LegRun) (m : MmaI) (mm : MmaMode) (own :
    List StrBlk) (hs : Canon s) : Canon (State.mmaStart s k cyc r m mm own) := by
  unfold State.mmaStart
  simp (maxDischargeDepth := 50) +contextual [*]

@[simp] theorem State.streamOf_canon (s : State) (k : Nat) (r : LegRun) (z0 : List PfEntry) (hs : Canon s) : Canon
    (State.streamOf s k r z0).1 := by
  induction z0 generalizing s with
  | nil => exact hs
  | cons f fs ih =>
    unfold State.streamOf
    dsimp only
    (repeat' split) <;> (first | (apply ih; simp (maxDischargeDepth := 50) +contextual [hs]) | simp (maxDischargeDepth := 50) +contextual [hs])

@[simp] theorem State.streamOn_canon (s : State) (k : Nat) (r : LegRun) (hs : Canon s) : Canon (State.streamOn s k r) := by
  unfold State.streamOn
  simp +contextual [*]

@[simp] theorem State.mmaIssue_canon (s : State) (k : Nat) (cyc : Nat) (r : LegRun) (w : Nat) (hs : Canon s) : Canon
    (State.mmaIssue s k cyc r w) := by
  unfold State.mmaIssue
  dsimp only
  (repeat' split) <;> simp_all (maxDischargeDepth := 50) +contextual

@[simp] theorem State.mmaSkip_canon (s : State) (k : Nat) (r : LegRun) (w : Nat) (hs : Canon s) : Canon (State.mmaSkip s k r
    w) := by
  unfold State.mmaSkip
  dsimp only
  (repeat' split) <;> simp_all +contextual

@[simp] theorem State.mma_canon (s : State) (k : Nat) (cyc : Nat) (op : Nat) (hs : Canon s) : Canon (State.mma s k cyc
    op) := by
  unfold State.mma
  (repeat' split) <;> simp (maxDischargeDepth := 50) +contextual [*]

@[simp] theorem State.transfer_canon (s : State) (hs : Canon s) : Canon (State.transfer s) := by
  unfold State.transfer
  simp +contextual [*]

@[simp] theorem State.intakeTakes_canon (s : State) (hs : Canon s) : Canon (State.intakeTakes s) := by
  unfold State.intakeTakes
  simp (maxDischargeDepth := 50) +contextual [*]

@[simp] theorem State.bindLoads_canon (s : State) (hs : Canon s) : Canon (State.bindLoads s) := by
  unfold State.bindLoads
  simp +contextual [*]

@[simp] theorem State.dropBinds_canon (s : State) (t : Nat) (hs : Canon s) : Canon (State.dropBinds s t) := by
  unfold State.dropBinds
  simp +contextual [*]

@[simp] theorem State.dropWgt_canon (s : State) (t : Nat) (hs : Canon s) : Canon (State.dropWgt s t) := by
  unfold State.dropWgt
  simp (maxDischargeDepth := 50) +contextual [*]

@[simp] theorem State.tearI0_canon (s : State) (hs : Canon s) : Canon (State.tearI0 s) := by
  unfold State.tearI0
  simp (maxDischargeDepth := 50) +contextual [*]

@[simp] theorem State.ltrIf_canon (s : State) (old : Nat) (hs : Canon s) : Canon (State.ltrIf s old) := by
  unfold State.ltrIf
  simp +contextual [*]

@[simp] theorem State.measI0_canon (s : State) (hs : Canon s) : Canon (State.measI0 s) := by
  unfold State.measI0
  (repeat' split) <;> simp +contextual [*]

@[simp] theorem State.vfReady_canon (s : State) (hs : Canon s) : Canon (State.vfReady s) := by
  unfold State.vfReady
  simp +contextual [*]

@[simp] theorem State.showSlot_canon (s : State) (hs : Canon s) : Canon (State.showSlot s) := by
  unfold State.showSlot
  simp +contextual [*]

@[simp] theorem State.intakeI0_canon (s : State) (hs : Canon s) : Canon (State.intakeI0 s) := by
  unfold State.intakeI0
  simp (maxDischargeDepth := 50) +contextual [*]

@[simp] theorem State.edge_canon (s : State) (unfin : Bool) (hs : Canon s) : Canon (State.edge s unfin) := by
  unfold State.edge
  simp (maxDischargeDepth := 50) +contextual [*]

@[simp] theorem State.ferryBegin_canon (s : State) (hs : Canon s) : Canon (State.ferryBegin s) := by
  unfold State.ferryBegin
  (repeat' split) <;> simp +contextual [*]

@[simp] theorem State.intakeI2_canon (s : State) (unfin : Bool) (hs : Canon s) : Canon (State.intakeI2 s unfin) := by
  unfold State.intakeI2
  simp (maxDischargeDepth := 50) +contextual [*]

@[simp] theorem State.countLate_canon (s : State) (hs : Canon s) : Canon (State.countLate s) := by
  unfold State.countLate
  simp +contextual [*]

@[simp] theorem State.planLeg_canon (s : State) (p : Nat) (b : SlotBlk) (x : Nat × Nat × LegEntry) (hs : Canon s) : Canon
    (State.planLeg s p b x) := by
  unfold State.planLeg
  simp +contextual [*]
  (repeat' split) <;> simp_all +contextual

@[simp] theorem State.countDefer_canon (s : State) (p : Nat) (b : SlotBlk) (hs : Canon s) : Canon (State.countDefer s p b) := by
  unfold State.countDefer
  simp +contextual [*]

@[simp] theorem State.carryOne_canon (s : State) (p : Nat) (b : SlotBlk) (e : LegEntry) (hs : Canon s) : Canon
    (State.carryOne s p b e) := by
  unfold State.carryOne
  (repeat' split) <;> simp +contextual [*]

@[simp] theorem State.carryCheck_canon (s : State) (p : Nat) (b : SlotBlk) (hs : Canon s) : Canon (State.carryCheck s p b) := by
  unfold State.carryCheck
  simp +contextual [*]

@[simp] theorem State.planPart_canon (s : State) (p : Nat) (hs : Canon s) : Canon (State.planPart s p) := by
  unfold State.planPart
  (repeat' split) <;> simp (maxDischargeDepth := 50) +contextual [*]

@[simp] theorem State.intakeI3_canon (s : State) (unfin : Bool) (hs : Canon s) : Canon (State.intakeI3 s unfin) := by
  unfold State.intakeI3
  simp (maxDischargeDepth := 50) +contextual [*]

@[simp] theorem State.teWake_canon (s : State) (k : Nat) (hs : Canon s) : Canon (State.teWake s k) := by
  unfold State.teWake
  simp (maxDischargeDepth := 50) +contextual [*]

@[simp] theorem State.startLeg_canon (s : State) (k : Nat) (x : LegPlan) (hs : Canon s) : Canon (State.startLeg s k x) := by
  unfold State.startLeg
  simp (maxDischargeDepth := 50) +contextual [*]
  (repeat' split) <;> simp_all (maxDischargeDepth := 50) +contextual

@[simp] theorem State.clearTE_canon (s : State) (k : Nat) (hs : Canon s) : Canon (State.clearTE s k) := by
  unfold State.clearTE
  (repeat' split) <;> simp +contextual [*]

@[simp] theorem State.nextLeg_canon (s : State) (k : Nat) (hs : Canon s) : Canon (State.nextLeg s k) := by
  unfold State.nextLeg
  (repeat' split) <;> simp (maxDischargeDepth := 50) +contextual [*]

@[simp] theorem State.declare_canon (s : State) (p : Nat) (hs : Canon s) : Canon (State.declare s p) := by
  unfold State.declare
  simp +contextual [*]

@[simp] theorem State.cleanStart_canon (s : State) (hs : Canon s) : Canon (State.cleanStart s) := by
  unfold State.cleanStart
  simp (maxDischargeDepth := 50) +contextual [*]

@[simp] theorem State.runStart_canon (s : State) (hs : Canon s) : Canon (State.runStart s) := by
  unfold State.runStart
  simp (maxDischargeDepth := 50) +contextual [*]

@[simp] theorem State.addCopy_canon (s : State) (x : CopyX) (hs : Canon s) : Canon (State.addCopy s x) := by
  unfold State.addCopy
  simp +contextual [*]

@[simp] theorem State.copyWalk_canon (s : State) (x : CopyX) (hs : Canon s) : Canon (State.copyWalk s x) := by
  unfold State.copyWalk
  dsimp only
  (repeat' split) <;> simp_all (maxDischargeDepth := 50) +contextual

@[simp] theorem State.copyGo_canon (s : State) (x : CopyX) (r : LegRun) (sg : Region) (dg : Region) (hs : Canon s) :
    Canon (State.copyGo s x r sg dg) := by
  unfold State.copyGo
  simp (maxDischargeDepth := 50) +contextual [*]

@[simp] theorem State.copyIssue_canon (s : State) (p : Nat) (i : Nat) (hs : Canon s) : Canon (State.copyIssue s p i) := by
  unfold State.copyIssue
  (repeat' split) <;> simp +contextual [*]

@[simp] theorem State.copyEnd_canon (s : State) (x : CopyX) (hs : Canon s) : Canon (State.copyEnd s x) := by
  unfold State.copyEnd
  simp +contextual [*]

@[simp] theorem State.copyMove_canon (s : State) (x : CopyX) (hs : Canon s) : Canon (State.copyMove s x) := by
  unfold State.copyMove
  simp (maxDischargeDepth := 50) +contextual [*]

@[simp] theorem State.quietTe_canon (s : State) (k : Nat) (hs : Canon s) : Canon (State.quietTe s k) := by
  unfold State.quietTe
  simp (maxDischargeDepth := 50) +contextual [*]

@[simp] theorem State.quietStart_canon (s : State) (hs : Canon s) : Canon (State.quietStart s) := by
  unfold State.quietStart
  simp (maxDischargeDepth := 50) +contextual [*]

@[simp] theorem State.drainCheck_canon (s : State) (p : Nat) (hs : Canon s) : Canon (State.drainCheck s p) := by
  unfold State.drainCheck
  simp (maxDischargeDepth := 50) +contextual [*]

@[simp] theorem State.copiesClose_canon (s : State) (hs : Canon s) : Canon (State.copiesClose s) := by
  unfold State.copiesClose
  simp (maxDischargeDepth := 50) +contextual [*]

@[simp] theorem State.ferryEnd_canon (s : State) (hs : Canon s) : Canon (State.ferryEnd s) := by
  unfold State.ferryEnd
  simp +contextual [*]
  (repeat' split) <;> simp_all +contextual

@[simp] theorem State.closeSail_canon (s : State) (hs : Canon s) : Canon (State.closeSail s) := by
  unfold State.closeSail
  simp (maxDischargeDepth := 50) +contextual [*]

@[simp] theorem State.ferryRan_canon (s : State) (hs : Canon s) : Canon (State.ferryRan s) := by
  unfold State.ferryRan
  simp +contextual [*]

@[simp] theorem State.openSail_canon (s : State) (hs : Canon s) : Canon (State.openSail s) := by
  unfold State.openSail
  simp +contextual [*]

@[simp] theorem State.boundary_canon (s : State) (lateNs : Nat) (rails : List Nat) (tiles : List Nat) (badMeter : Bool) (hs :
    Canon s) : Canon (State.boundary s lateNs rails tiles badMeter) := by
  unfold State.boundary
  simp (maxDischargeDepth := 50) +contextual [*]

@[simp] theorem State.idleTick_canon (s : State) (hs : Canon s) : Canon (State.idleTick s) := by
  unfold State.idleTick
  simp +contextual [*]

@[simp] theorem State.ledgerAdd_canon (s : State) (unit : Nat) (monitor : Nat) (value : Nat) (hs : Canon s) : Canon
    (State.ledgerAdd s unit monitor value) := by
  unfold State.ledgerAdd
  simp +contextual [*]

@[simp] theorem State.defer_canon (s : State) (n : Nat) (hs : Canon s) : Canon (State.defer s n) := by
  unfold State.defer
  simp +contextual [*]

@[simp] theorem State.guardStep_canon (s : State) (up : Bool) (hs : Canon s) : Canon (State.guardStep s up) := by
  unfold State.guardStep
  simp +contextual [*]

@[simp] theorem State.slackDone_canon (s : State) (hs : Canon s) : Canon (State.slackDone s) := by
  unfold State.slackDone
  (repeat' split) <;> simp (maxDischargeDepth := 50) +contextual [*]

@[simp] theorem State.slackSeen_canon (s : State) (v : Nat) (hs : Canon s) : Canon (State.slackSeen s v) := by
  unfold State.slackSeen
  simp +contextual [*]

@[simp] theorem State.oscSeen_canon (s : State) (unit : Nat) (v : Nat) (hs : Canon s) : Canon (State.oscSeen s unit v) := by
  unfold State.oscSeen
  dsimp only
  (repeat' split) <;> simp_all +contextual

@[simp] theorem State.canarySeen_canon (s : State) (unit : Nat) (v : Nat) (hs : Canon s) : Canon (State.canarySeen s unit v)
    := by
  unfold State.canarySeen
  simp +contextual [*]

@[simp] theorem State.eyeLow_canon (s : State) (link : Nat) (ch : Nat) (hs : Canon s) : Canon (State.eyeLow s link ch)
    := by
  unfold State.eyeLow
  (repeat' split) <;> simp (maxDischargeDepth := 50) +contextual [*]

@[simp] theorem State.fwStore_canon (s : State) (b : List Byte) (hs : Canon s) : Canon (State.fwStore s b) := by
  unfold State.fwStore
  simp +contextual [*]

@[simp] theorem State.waitFor_canon (s : State) (x : Nat) (hs : Canon s) : Canon (State.waitFor s x) := by
  unfold State.waitFor
  simp +contextual [*]

@[simp] theorem State.romRuns_canon (s : State) (hs : Canon s) : Canon (State.romRuns s) := by
  unfold State.romRuns
  simp (maxDischargeDepth := 50) +contextual [*]

@[simp] theorem State.fwStart_canon (s : State) (hs : Canon s) : Canon (State.fwStart s) := by
  unfold State.fwStart
  simp (maxDischargeDepth := 50) +contextual [*]

@[simp] theorem State.romVerdict_canon (s : State) (code : Nat) (hs : Canon s) : Canon (State.romVerdict s code) := by
  unfold State.romVerdict
  simp +contextual [*]

@[simp] theorem State.rcvDone_canon (s : State) (r : RRead) (hs : Canon s) : Canon (State.rcvDone s r) := by
  unfold State.rcvDone
  simp (maxDischargeDepth := 50) +contextual [*]

@[simp] theorem State.fwState_canon (s : State) (st : Nat) (hs : Canon s) : Canon (State.fwState s st) := by
  unfold State.fwState
  simp +contextual [*]

@[simp] theorem State.fwFail_canon (s : State) (code : Nat) (hs : Canon s) : Canon (State.fwFail s code) := by
  unfold State.fwFail
  simp +contextual [*]

@[simp] theorem State.fwLoadDone_canon (s : State) (r : RRead) (hs : Canon s) : Canon (State.fwLoadDone s r) := by
  unfold State.fwLoadDone
  simp (maxDischargeDepth := 50) +contextual [*]

@[simp] theorem State.imagesDone_canon (s : State) (hs : Canon s) : Canon (State.imagesDone s) := by
  unfold State.imagesDone
  simp (maxDischargeDepth := 50) +contextual [*]

@[simp] theorem State.rcvLoad_canon (s : State) (hs : Canon s) : Canon (State.rcvLoad s) := by
  unfold State.rcvLoad
  simp +contextual [*]

@[simp] theorem State.fwLoad_canon (s : State) (hs : Canon s) : Canon (State.fwLoad s) := by
  unfold State.fwLoad
  simp (maxDischargeDepth := 50) +contextual [*]

@[simp] theorem State.pciRegsReset_canon (s : State) (lo : Nat) (hi : Nat) (hs : Canon s) : Canon (State.pciRegsReset s lo
    hi) := by
  unfold State.pciRegsReset
  simp +contextual [*]

@[simp] theorem State.vfsOff_canon (s : State) (hs : Canon s) : Canon (State.vfsOff s) := by
  unfold State.vfsOff
  simp +contextual [*]

@[simp] theorem State.vfEnableClear_canon (s : State) (hs : Canon s) : Canon (State.vfEnableClear s) := by
  unfold State.vfEnableClear
  simp (maxDischargeDepth := 50) +contextual [*]

@[simp] theorem State.pf0Down_canon (s : State) (hs : Canon s) : Canon (State.pf0Down s) := by
  unfold State.pf0Down
  simp (maxDischargeDepth := 50) +contextual [*]

@[simp] theorem State.failHostReads_canon (s : State) (hs : Canon s) : Canon (State.failHostReads s) := by
  unfold State.failHostReads
  simp (maxDischargeDepth := 50) +contextual [*]

@[simp] theorem State.pcieDown_canon (s : State) (pin : Bool) (hs : Canon s) : Canon (State.pcieDown s pin) := by
  unfold State.pcieDown
  simp (maxDischargeDepth := 50) +contextual [*]

@[simp] theorem State.vfEnableSet_canon (s : State) (hs : Canon s) : Canon (State.vfEnableSet s) := by
  unfold State.vfEnableSet
  simp (maxDischargeDepth := 50) +contextual [*]

@[simp] theorem State.toD3_canon (s : State) (hs : Canon s) : Canon (State.toD3 s) := by
  unfold State.toD3
  simp (maxDischargeDepth := 50) +contextual [*]

@[simp] theorem State.stall_canon (s : State) (r : HostReq) (hs : Canon s) : Canon (State.stall s r) := by
  unfold State.stall
  simp +contextual [*]

@[simp] theorem State.cfgAsk_canon (s : State) (k : HReqK) (fn : Nat) (f : State → State) (hs : Canon s) (hf : ∀ s ,
    Canon s → Canon (f s )) : Canon (State.cfgAsk s k fn f) := by
  unfold State.cfgAsk
  simp (maxDischargeDepth := 50) +contextual [*]

@[simp] theorem State.cfgEffect_canon (s : State) (fn : Nat) (o : Nat) (old : Nat) (new : Nat) (hs : Canon s) : Canon
    (State.cfgEffect s fn o old new) := by
  unfold State.cfgEffect
  simp +contextual [*]

@[simp] theorem State.cfgWrite_canon (s : State) (fn : Nat) (o : Nat) (b : Nat) (data : List Byte) (hs : Canon s) : Canon
    (State.cfgWrite s fn o b data) := by
  unfold State.cfgWrite
  simp +contextual [*]

@[simp] theorem State.cfgServe_canon (s : State) (r : HostReq) (hs : Canon s) : Canon (State.cfgServe s r) := by
  unfold State.cfgServe
  simp +contextual [*]

@[simp] theorem State.unsupported_canon (s : State) (r : HostReq) (hs : Canon s) : Canon (State.unsupported s r) := by
  unfold State.unsupported
  simp +contextual [*]

@[simp] theorem State.complete_canon (s : State) (r : HostReq) (d : List Byte) (hs : Canon s) : Canon (State.complete s r d)
    := by
  unfold State.complete
  simp +contextual [*]

@[simp] theorem State.bar2Bad_canon (s : State) (write : Bool) (x : Nat × LineRes) (hs : Canon s) : Canon (State.bar2Bad s
    write x).1 := by
  unfold State.bar2Bad
  (repeat' split) <;> simp +contextual [*]

@[simp] theorem State.bar2Bads_canon (s : State) (write : Bool) (l : List (Nat × LineRes)) (hs : Canon s) : Canon
    (State.bar2Bads s write l).1 := by
  unfold State.bar2Bads
  simp +contextual [*]

@[simp] theorem State.bar2Wait_canon (s : State) (r : HostReq) (ps : List (Nat × Nat)) (hs : Canon s) : Canon
    (State.bar2Wait s r ps) := by
  unfold State.bar2Wait
  simp (maxDischargeDepth := 50) +contextual [*]

@[simp] theorem State.bar2Train_canon (s : State) (pa : Nat) (n : Nat) (hs : Canon s) : Canon (State.bar2Train s pa n)
    := by
  unfold State.bar2Train
  simp (maxDischargeDepth := 50) +contextual [*]

@[simp] theorem State.bar2Serve_canon (s : State) (r : HostReq) (hs : Canon s) : Canon (State.bar2Serve s r) := by
  unfold State.bar2Serve
  extract_lets n
  split
  · exact hs
  split
  · first | exact hs | simp (maxDischargeDepth := 50) +contextual +zetaDelta [hs]
  split
  · first | exact hs | simp (maxDischargeDepth := 50) +contextual +zetaDelta [hs]
  split
  · split <;> first | exact hs | simp (maxDischargeDepth := 50) +contextual +zetaDelta [hs]
  split
  · split <;> first | exact hs | simp (maxDischargeDepth := 50) +contextual +zetaDelta [hs]
  split
  · split <;> first | exact hs | simp (maxDischargeDepth := 50) +contextual +zetaDelta [hs]
  split
  · first | exact hs | simp (maxDischargeDepth := 50) +contextual +zetaDelta [hs]
  split
  · first | exact hs | simp (maxDischargeDepth := 50) +contextual +zetaDelta [hs]
  split
  · first | exact hs | simp (maxDischargeDepth := 50) +contextual +zetaDelta [hs]
  · try dsimp only
    try split
    all_goals first | exact hs | simp (maxDischargeDepth := 50) +contextual +zetaDelta [hs]

@[simp] theorem State.putRead_canon (s : State) (old : RRead) (new : RRead) (hs : Canon s) : Canon (State.putRead s old new)
    := by
  unfold State.putRead
  simp +contextual [*]

@[simp] theorem State.afterTag_canon (s : State) (hs : Canon s) : Canon (State.afterTag s) := by
  unfold State.afterTag
  simp (maxDischargeDepth := 50) +contextual [*]

@[simp] theorem State.readFails_canon (s : State) (r : RRead) (tag : Nat) (cause : Nat) (hs : Canon s) : Canon
    (State.readFails s r tag cause) := by
  unfold State.readFails
  simp (maxDischargeDepth := 50) +contextual [*]

@[simp] theorem State.ferryRead_canon (s : State) (r : RRead) (hs : Canon s) : Canon (State.ferryRead s r) := by
  unfold State.ferryRead
  simp +contextual [*]

@[simp] theorem State.pieceIn_canon (s : State) (r : RRead) (x : Nat × Nat × Nat) (d : List Byte) (hs : Canon s) : Canon
    (State.pieceIn s r x d) := by
  unfold State.pieceIn
  simp +contextual [*]

@[simp] theorem State.cplAer_canon (s : State) (cause : Nat) (hs : Canon s) : Canon (State.cplAer s cause) := by
  unfold State.cplAer
  simp +contextual [*]

@[simp] theorem State.lateCpl_canon (s : State) (fn : Nat) (log : Bool) (hs : Canon s) : Canon (State.lateCpl s fn log) := by
  unfold State.lateCpl
  simp (maxDischargeDepth := 50) +contextual [*]

@[simp] theorem State.pciClr_canon (s : State) (hs : Canon s) : Canon (State.pciClr s) := by
  unfold State.pciClr
  simp +contextual [*]

@[simp] theorem State.showFuses_canon (s : State) (hs : Canon s) : Canon (State.showFuses s) := by
  unfold State.showFuses
  simp (maxDischargeDepth := 50) +contextual [*]

@[simp] theorem State.hubReset_canon (s : State) (hs : Canon s) : Canon (State.hubReset s) := by
  unfold State.hubReset
  exact ⟨rfl, rfl, rfl, rfl⟩

@[simp] theorem State.beginStep_canon (s : State) (i : Nat) (ms : Nat) (hs : Canon s) : Canon (State.beginStep s i ms) := by
  unfold State.beginStep
  simp +contextual [*]

@[simp] theorem State.brgTo_canon (s : State) (st : Nat) (hs : Canon s) : Canon (State.brgTo s st) := by
  unfold State.brgTo
  simp +contextual [*]

@[simp] theorem State.setBrg_canon (s : State) (x : BrgSt) (hs : Canon s) : Canon (State.setBrg s x) := by
  unfold State.setBrg
  simp (maxDischargeDepth := 50) +contextual [*]

@[simp] theorem State.candidate_canon (s : State) (hs : Canon s) : Canon (State.candidate s) := by
  unfold State.candidate
  simp +contextual [*]

@[simp] theorem State.noCandidate_canon (s : State) (v : Verdict) (hs : Canon s) : Canon (State.noCandidate s v) := by
  unfold State.noCandidate
  simp +contextual [*]

@[simp] theorem State.findCandidate_canon (s : State) (hs : Canon s) : Canon (State.findCandidate s) := by
  unfold State.findCandidate
  simp (maxDischargeDepth := 50) +contextual [*]
  (repeat' split) <;> simp_all (maxDischargeDepth := 50) +contextual

@[simp] theorem State.holdSlip_canon (s : State) (v : Nat) (hs : Canon s) : Canon (State.holdSlip s v) := by
  unfold State.holdSlip
  simp (maxDischargeDepth := 50) +contextual [*]

@[simp] theorem State.enterHeld_canon (s : State) (hs : Canon s) : Canon (State.enterHeld s) := by
  unfold State.enterHeld
  simp (maxDischargeDepth := 50) +contextual [*]

@[simp] theorem State.restartTrain_canon (s : State) (hs : Canon s) : Canon (State.restartTrain s) := by
  unfold State.restartTrain
  simp (maxDischargeDepth := 50) +contextual [*]

@[simp] theorem State.brgRetry_canon (s : State) (hs : Canon s) : Canon (State.brgRetry s) := by
  unfold State.brgRetry
  simp +contextual [*]

@[simp] theorem State.fullNext_canon (s : State) (hs : Canon s) : Canon (State.fullNext s) := by
  unfold State.fullNext
  simp +contextual [*]

@[simp] theorem State.startTime_canon (s : State) (hs : Canon s) : Canon (State.startTime s) := by
  unfold State.startTime
  simp (maxDischargeDepth := 50) +contextual [*]

@[simp] theorem State.trainFabric_canon (s : State) (hs : Canon s) : Canon (State.trainFabric s) := by
  unfold State.trainFabric
  simp (maxDischargeDepth := 50) +contextual [*]

@[simp] theorem State.trainPorts_canon (s : State) (m : Manifest) (hs : Canon s) : Canon (State.trainPorts s m) := by
  unfold State.trainPorts
  simp (maxDischargeDepth := 50) +contextual [*]

@[simp] theorem State.trainStack_canon (s : State) (p : Nat) (hs : Canon s) : Canon (State.trainStack s p) := by
  unfold State.trainStack
  simp (maxDischargeDepth := 50) +contextual [*]

@[simp] theorem State.restoreReg_canon (s : State) (key : Nat) (v : Nat) (hs : Canon s) : Canon (State.restoreReg s key v) := by
  unfold State.restoreReg
  (repeat' split) <;> simp +contextual [*]

@[simp] theorem State.applyRepair_canon (s : State) (hs : Canon s) : Canon (State.applyRepair s) := by
  unfold State.applyRepair
  simp (maxDischargeDepth := 50) +contextual [*]

@[simp] theorem State.testRow_canon (s : State) (x : Nat × Nat × Nat × Nat) (found : Bool) (hs : Canon s) : Canon
    (State.testRow s x found) := by
  unfold State.testRow
  simp (maxDischargeDepth := 50) +contextual [*]

@[simp] theorem State.testBank_canon (s : State) (v : Nat) (c : Nat) (b : Nat) (hs : Canon s) : Canon (State.testBank s v c
    b) := by
  unfold State.testBank
  simp +contextual [*]

@[simp] theorem State.testTe_canon (s : State) (tile : Nat) (phys : Nat) (hs : Canon s) : Canon (State.testTe s tile phys) := by
  unfold State.testTe
  simp +contextual [*]

@[simp] theorem State.testRepairs_canon (s : State) (rows : List (Nat × Nat × Nat × Nat × Bool)) (banks : List (Nat ×
    Nat × Nat)) (ways : List (Nat × Nat)) (tes : List (Nat × Nat)) (chans : List (Nat × Nat)) (hs : Canon s) : Canon
    (State.testRepairs s rows banks ways tes chans) := by
  unfold State.testRepairs
  simp (maxDischargeDepth := 50) +contextual [*]

@[simp] theorem State.clearLines_canon (s : State) (hs : Canon s) : Canon (State.clearLines s) := by
  unfold State.clearLines
  simp +contextual [*]

@[simp] theorem State.writeRepair_canon (s : State) (reason : Nat) (warm : Nat) (sample : Nat) (hs : Canon s) : Canon
    (State.writeRepair s reason warm sample) := by
  unfold State.writeRepair
  simp +contextual [*]

@[simp] theorem State.findStack_canon (s : State) (m : Manifest) (mism : List Nat) (p : Nat) (hs : Canon s) : Canon
    (State.findStack s m mism p) := by
  unfold State.findStack
  simp +contextual [*]

@[simp] theorem State.trainTwin_canon (s : State) (peer : Nat) (hs : Canon s) : Canon (State.trainTwin s peer) := by
  unfold State.trainTwin
  simp (maxDischargeDepth := 50) +contextual [*]

@[simp] theorem State.compareAll_canon (s : State) (m : Manifest) (hs : Canon s) : Canon (State.compareAll s m) := by
  unfold State.compareAll
  simp (maxDischargeDepth := 50) +contextual [*]
  (repeat' split) <;> simp_all (maxDischargeDepth := 50) +contextual

@[simp] theorem State.fwActivate_canon (s : State) (hs : Canon s) : Canon (State.fwActivate s) := by
  unfold State.fwActivate
  simp +contextual [*]

@[simp] theorem State.handCheck_canon (s : State) (hs : Canon s) : Canon (State.handCheck s) := by
  unfold State.handCheck
  simp +contextual [*]

@[simp] theorem State.warmHandoff_canon (s : State) (hs : Canon s) : Canon (State.warmHandoff s) := by
  unfold State.warmHandoff
  simp (maxDischargeDepth := 50) +contextual [*]

@[simp] theorem State.watchdog_canon (s : State) (hs : Canon s) : Canon (State.watchdog s) := by
  unfold State.watchdog
  simp (maxDischargeDepth := 50) +contextual [*]

@[simp] theorem State.fwResume_canon (s : State) (hs : Canon s) : Canon (State.fwResume s) := by
  unfold State.fwResume
  simp (maxDischargeDepth := 50) +contextual [*]

@[simp] theorem State.twinErr_canon (s : State) (cls : Nat) (cause : Nat) (hs : Canon s) : Canon (State.twinErr s cls cause)
    := by
  unfold State.twinErr
  simp +contextual [*]

@[simp] theorem State.showBacklog_canon (s : State) (hs : Canon s) : Canon (State.showBacklog s) := by
  unfold State.showBacklog
  simp +contextual [*]

@[simp] theorem State.unpairAll_canon (s : State) (hs : Canon s) : Canon (State.unpairAll s) := by
  unfold State.unpairAll
  simp (maxDischargeDepth := 50) +contextual [*]

@[simp] theorem State.sendHello_canon (s : State) (hs : Canon s) : Canon (State.sendHello s) := by
  unfold State.sendHello
  (repeat' split) <;> simp +contextual [*]

@[simp] theorem State.twinCode_canon (s : State) (c : Nat) (hs : Canon s) : Canon (State.twinCode s c) := by
  unfold State.twinCode
  simp +contextual [*]

@[simp] theorem State.resync_canon (s : State) (p : Nat) (hs : Canon s) : Canon (State.resync s p) := by
  unfold State.resync
  simp +contextual [*]

@[simp] theorem State.pairPart_canon (s : State) (p : Nat) (hs : Canon s) : Canon (State.pairPart s p) := by
  unfold State.pairPart
  simp (maxDischargeDepth := 50) +contextual [*]

@[simp] theorem State.takeover_canon (s : State) (hs : Canon s) : Canon (State.takeover s) := by
  unfold State.takeover
  simp (maxDischargeDepth := 50) +contextual [*]

@[simp] theorem State.twinTakeover_canon (s : State) (hs : Canon s) : Canon (State.twinTakeover s) := by
  unfold State.twinTakeover
  simp +contextual [*]

@[simp] theorem State.twinDown_canon (s : State) (hs : Canon s) : Canon (State.twinDown s) := by
  unfold State.twinDown
  simp (maxDischargeDepth := 50) +contextual [*]

@[simp] theorem State.twinClr_canon (s : State) (hs : Canon s) : Canon (State.twinClr s) := by
  unfold State.twinClr
  simp +contextual [*]

@[simp] theorem State.mrsp_canon (s : State) (tag : Nat) (err : Nat) (d : List Byte) (hs : Canon s) : Canon (State.mrsp s tag
    err d) := by
  unfold State.mrsp
  simp +contextual [*]

@[simp] theorem State.mreqBad_canon (s : State) (x : Nat × LineRes) (hs : Canon s) : Canon (State.mreqBad s x) := by
  unfold State.mreqBad
  (repeat' split) <;> simp +contextual [*]

@[simp] theorem State.mreq_canon (s : State) (write : Bool) (pa : Nat) (len : Nat) (tag : Nat) (data : List Byte) (hs : Canon
    s) : Canon (State.mreq s write pa len tag data) := by
  unfold State.mreq
  simp (maxDischargeDepth := 50) +contextual [*]

@[simp] theorem State.diverge_canon (s : State) (p : Nat) (told : Bool) (hs : Canon s) : Canon (State.diverge s p told) := by
  unfold State.diverge
  simp (maxDischargeDepth := 50) +contextual [*]

@[simp] theorem State.sendAck_canon (s : State) (n : Nat) (hs : Canon s) : Canon (State.sendAck s n) := by
  unfold State.sendAck
  simp +contextual [*]

@[simp] theorem State.liveWrite_canon (s : State) (key : Nat) (w : Word) (hs : Canon s) : Canon (State.liveWrite s key w) := by
  unfold State.liveWrite
  simp +contextual [*]

@[simp] theorem State.shadowWrite_canon (s : State) (key : Nat) (v : Word) (m : Word) (hs : Canon s) : Canon
    (State.shadowWrite s key v m) := by
  unfold State.shadowWrite
  simp +contextual [*]

@[simp] theorem State.fieldWrite_canon (s : State) (key : Nat) (mask : Word) (v : Word) (f : RegField) (hs : Canon s) : Canon
    (State.fieldWrite s key mask v f) := by
  unfold State.fieldWrite
  (repeat' split) <;> simp +contextual [*]

@[simp] theorem State.qClr_canon (s : State) (hs : Canon s) : Canon (State.qClr s) := by
  unfold State.qClr
  simp +contextual [*]

@[simp] theorem State.manCmd_canon (s : State) (v : Nat) (hs : Canon s) : Canon (State.manCmd s v) := by
  unfold State.manCmd
  simp +contextual [*]

@[simp] theorem State.lcsCmd_canon (s : State) (op : Nat) (hs : Canon s) : Canon (State.lcsCmd s op) := by
  unfold State.lcsCmd
  simp +contextual [*]

@[simp] theorem State.keyCmd_canon (s : State) (v : Nat) (hs : Canon s) : Canon (State.keyCmd s v) := by
  unfold State.keyCmd
  simp +contextual [*]

@[simp] theorem State.lrsCmd_canon (s : State) (p : Nat) (v : Nat) (hs : Canon s) : Canon (State.lrsCmd s p v) := by
  unfold State.lrsCmd
  simp (maxDischargeDepth := 50) +contextual [*]

@[simp] theorem State.twinCmd_canon (s : State) (v : Nat) (hs : Canon s) : Canon (State.twinCmd s v) := by
  unfold State.twinCmd
  simp (maxDischargeDepth := 50) +contextual [*]

@[simp] theorem State.onBit_canon (s : State) (v : Nat) (i : Nat) (f : State → State) (hf : ∀ s, Canon s → Canon (f s)) (hs :
    Canon s) : Canon (State.onBit s v i f) := by
  unfold State.onBit
  simp +contextual [*]

@[simp] theorem State.regEffect_canon (s : State) (n : RegName) (idx : List Nat) (key : Nat) (v : Nat) (half : Bool) (hs :
    Canon s) : Canon (State.regEffect s n idx key v half) := by
  unfold State.regEffect
  simp (maxDischargeDepth := 50) +contextual [*]
  (repeat' split) <;> simp_all (maxDischargeDepth := 50) +contextual

@[simp] theorem State.ferryReg_canon (s : State) (n : RegName) (idx : List Nat) (key : Nat) (hs : Canon s) : Canon
    (State.ferryReg s n idx key) := by
  unfold State.ferryReg
  (repeat' split) <;> simp +contextual [*]

@[simp] theorem State.regPut_canon (s : State) (o : Nat) (mask : Word) (v : Word) (half : Bool) (hs : Canon s) : Canon
    (State.regPut s o mask v half) := by
  unfold State.regPut
  simp (maxDischargeDepth := 50) +contextual [*]
  (repeat' split) <;> simp_all (maxDischargeDepth := 50) +contextual

@[simp] theorem State.regWrite_canon (s : State) (off : Nat) (size : Nat) (value : Nat) (hs : Canon s) : Canon
    (State.regWrite s off size value) := by
  unfold State.regWrite
  simp +contextual [*]

@[simp] theorem State.regUse_canon (s : State) (off : Nat) (hs : Canon s) : Canon (State.regUse s off) := by
  unfold State.regUse
  (repeat' split) <;> simp (maxDischargeDepth := 50) +contextual [*]

@[simp] theorem State.regRefuse_canon (s : State) (r : RegReq) (hs : Canon s) : Canon (State.regRefuse s r) := by
  unfold State.regRefuse
  (repeat' split) <;> simp (maxDischargeDepth := 50) +contextual [*]

@[simp] theorem State.regTake_canon (s : State) (r : RegReq) (hs : Canon s) : Canon (State.regTake s r) := by
  unfold State.regTake
  simp (maxDischargeDepth := 50) +contextual [*]

@[simp] theorem State.regGo_canon (s : State) (r : RegReq) (hs : Canon s) : Canon (State.regGo s r) := by
  unfold State.regGo
  (repeat' split) <;> simp (maxDischargeDepth := 50) +contextual [*]

@[simp] theorem State.regLand_canon (s : State) (r : RegReq) (hs : Canon s) : Canon (State.regLand s r) := by
  unfold State.regLand
  simp (maxDischargeDepth := 50) +contextual [*]

@[simp] theorem State.regPoll_canon (s : State) (hs : Canon s) : Canon (State.regPoll s) := by
  unfold State.regPoll
  (repeat' split) <;> simp (maxDischargeDepth := 50) +contextual [*]

@[simp] theorem State.regSend_canon (s : State) (r : RegReq) (hs : Canon s) : Canon (State.regSend s r) := by
  unfold State.regSend
  simp (maxDischargeDepth := 50) +contextual [*]

@[simp] theorem State.regNow_canon (s : State) (r : RegReq) (hs : Canon s) : Canon (State.regNow s r) := by
  unfold State.regNow
  (repeat' split) <;> simp (maxDischargeDepth := 50) +contextual [*]

@[simp] theorem State.regDone_canon (s : State) (r : RegReq) (hs : Canon s) : Canon (State.regDone s r) := by
  unfold State.regDone
  (repeat' split) <;> simp (maxDischargeDepth := 50) +contextual [*]

@[simp] theorem State.regReadMsgs_canon (s : State) (src : Nat) (tag : Nat) (off : Nat) (n : Nat) (hs : Canon s) : Canon
    (State.regReadMsgs s src tag off n) := by
  unfold State.regReadMsgs
  (repeat' split) <;> simp (maxDischargeDepth := 50) +contextual [*]

@[simp] theorem State.regWake_canon (s : State) (off : Nat) (hs : Canon s) : Canon (State.regWake s off) := by
  unfold State.regWake
  (repeat' split) <;> simp (maxDischargeDepth := 50) +contextual [*]

@[simp] theorem State.land_canon (s : State) (z0 : HPkt) (hs : Canon s) : Canon (State.land s z0) := by
  induction z0 generalizing s <;> (unfold State.land; (repeat' split) <;> simp_all (maxDischargeDepth := 50) +contextual)

@[simp] theorem State.landAll_canon (s : State) (hs : Canon s) : Canon (State.landAll s) := by
  unfold State.landAll
  simp (maxDischargeDepth := 50) +contextual [*]

@[simp] theorem State.fabCycle_canon (s : State) (hs : Canon s) : Canon (State.fabCycle s) := by
  unfold State.fabCycle
  simp (maxDischargeDepth := 50) +contextual [*]

@[simp] theorem State.prst_canon (s : State) (r : HostReq) (hs : Canon s) : Canon (State.prst s r) := by
  unfold State.prst
  simp +contextual [*]

@[simp] theorem State.vfWrite_canon (s : State) (t : Nat) (off : Nat) (data : List Byte) (hs : Canon s) : Canon
    (State.vfWrite s t off data) := by
  unfold State.vfWrite
  simp +contextual [*]

@[simp] theorem State.bar0Pf_canon (s : State) (r : HostReq) (hs : Canon s) : Canon (State.bar0Pf s r) := by
  unfold State.bar0Pf
  simp +contextual [*]

@[simp] theorem State.bar0Vf_canon (s : State) (r : HostReq) (hs : Canon s) : Canon (State.bar0Vf s r) := by
  unfold State.bar0Vf
  simp +contextual [*]

@[simp] theorem State.bar0Serve_canon (s : State) (r : HostReq) (hs : Canon s) : Canon (State.bar0Serve s r) := by
  unfold State.bar0Serve
  simp +contextual [*]

@[simp] theorem State.switchRegs_canon (s : State) (b : List Byte) (z0 : Nat) (hs : Canon s) : Canon (State.switchRegs s b
    z0) := by
  induction z0 generalizing s b with
  | zero => exact hs
  | succ f ih => unfold State.switchRegs; (apply ih; simp (maxDischargeDepth := 50) +contextual [hs])

@[simp] theorem State.switchProgs_canon (s : State) (b : List Byte) (z0 : Nat) (hs : Canon s) : Canon (State.switchProgs s b
    z0) := by
  induction z0 generalizing s b with
  | zero => exact hs
  | succ f ih => unfold State.switchProgs; (apply ih; simp (maxDischargeDepth := 50) +contextual [hs])

@[simp] theorem State.switchRings_canon (s : State) (p : Nat) (hs : Canon s) : Canon (State.switchRings s p) := by
  unfold State.switchRings
  simp +contextual [*]

@[simp] theorem State.switchIn_canon (s : State) (e : FEntry) (hs : Canon s) : Canon (State.switchIn s e) := by
  unfold State.switchIn
  simp (maxDischargeDepth := 50) +contextual [*]

@[simp] theorem State.ferrySlots_canon (s : State) (e : FEntry) (hs : Canon s) : Canon (State.ferrySlots s e) := by
  unfold State.ferrySlots
  simp (maxDischargeDepth := 50) +contextual [*]

@[simp] theorem State.ferryCross_canon (s : State) (n : Nat) (e : FEntry) (hs : Canon s) : Canon (State.ferryCross s n e) := by
  unfold State.ferryCross
  simp +contextual [*]

@[simp] theorem State.ferryDigest_canon (s : State) (e : FEntry) (hs : Canon s) : Canon (State.ferryDigest s e) := by
  unfold State.ferryDigest
  (repeat' split) <;> simp (maxDischargeDepth := 50) +contextual [*]

@[simp] theorem State.ferryIssued_canon (s : State) (e : FEntry) (hs : Canon s) : Canon (State.ferryIssued s e) := by
  unfold State.ferryIssued
  simp +contextual [*]

@[simp] theorem State.ferryEntry_canon (s : State) (n : Nat) (e : FEntry) (hs : Canon s) : Canon (State.ferryEntry s n e) := by
  unfold State.ferryEntry
  simp +contextual [*]

@[simp] theorem State.trim_canon (s : State) (hs : Canon s) : Canon (State.trim s) := by
  unfold State.trim
  simp +contextual [*]

@[simp] theorem State.ferryRun_canon (s : State) (hs : Canon s) : Canon (State.ferryRun s) := by
  unfold State.ferryRun
  simp (maxDischargeDepth := 50) +contextual [*]
  (repeat' split) <;> simp_all (maxDischargeDepth := 50) +contextual

@[simp] theorem State.slipErrTo_canon (s : State) (v : Nat) (q : SReq) (cause : Nat) (hs : Canon s) : Canon (State.slipErrTo
    s v q cause) := by
  unfold State.slipErrTo
  simp +contextual [*]

@[simp] theorem State.slipAbsent_canon (s : State) (v : Nat) (q : SReq) (pa : Nat) (hs : Canon s) : Canon (State.slipAbsent s
    v q pa) := by
  unfold State.slipAbsent
  simp +contextual [*]

@[simp] theorem State.slipRegs_canon (s : State) (v : Nat) (q : SReq) (hs : Canon s) : Canon (State.slipRegs s v q) := by
  unfold State.slipRegs
  (repeat' split) <;> simp +contextual [*]

@[simp] theorem State.slipServe_canon (s : State) (v : Nat) (q : SReq) (hs : Canon s) : Canon (State.slipServe s v q) := by
  unfold State.slipServe
  (repeat' split) <;> simp +contextual [*]

@[simp] theorem State.release_canon (s : State) (r : HostReq) (hs : Canon s) : Canon (State.release s r) := by
  unfold State.release
  (repeat' split) <;> simp +contextual [*]

@[simp] theorem State.retryHost_canon (s : State) (hs : Canon s) : Canon (State.retryHost s) := by
  unfold State.retryHost
  simp (maxDischargeDepth := 50) +contextual [*]

@[simp] theorem State.idle_canon (s : State) (hs : Canon s) : Canon (State.idle s) := by
  unfold State.idle
  simp (maxDischargeDepth := 50) +contextual [*]

@[simp] theorem State.setVreg_canon (s : State) (k : Nat) (v : Nat) (f : Nat → Nat) (hs : Canon s) : Canon
    (State.setVreg s k v f) := by
  unfold State.setVreg
  simp (maxDischargeDepth := 50) +contextual [*]

@[simp] theorem State.vecOp_canon (s : State) (k : Nat) (func : Nat) (f : Bool → Nat → Nat → Nat → Nat) (hs : Canon s) :
    Canon (State.vecOp s k func f) := by
  unfold State.vecOp
  simp +contextual [*]

@[simp] theorem State.rand_canon (s : State) (k : Nat) (func : Nat) (f : Nat → Nat) (hs : Canon s) : Canon (State.rand s k
    func f) := by
  unfold State.rand
  simp +contextual [*]

@[simp] theorem State.arrive_canon (s : State) (k : Nat) (mask : Nat) (bid : Nat) (hs : Canon s) : Canon (State.arrive s k
    mask bid) := by
  unfold State.arrive
  simp +contextual [*]
  (repeat' split) <;> simp_all +contextual

@[simp] theorem State.predOp_canon (s : State) (k : Nat) (op : Nat) (hold : PredI → List (Nat × Nat)) (f : State → PredI →
    LegRun → Bool) (hs : Canon s) : Canon (State.predOp s k op hold f) := by
  unfold State.predOp
  simp +contextual [*]

@[simp] theorem State.red_canon (s : State) (k : Nat) (op : Nat) (f : State → RedI → List Nat → List Nat × List Nat) (hs :
    Canon s) : Canon (State.red s k op f) := by
  unfold State.red
  simp (maxDischargeDepth := 50) +contextual [*]

@[simp] theorem State.tapSelect_canon (s : State) (code : Nat) (ok : Bool) (f : State → State) (hf : ∀ s, Canon s → Canon (f
    s)) (hs : Canon s) : Canon (State.tapSelect s code ok f) := by
  unfold State.tapSelect
  simp +contextual [*]

@[simp] theorem State.tapLcsCmd_canon (s : State) (data : Nat) (hs : Canon s) : Canon (State.tapLcsCmd s data) := by
  unfold State.tapLcsCmd
  simp (maxDischargeDepth := 50) +contextual [*]

@[simp] theorem State.withCommand_canon (s : State) (c : Instr) (hs : Canon s) : Canon (State.withCommand s c) := by
  exact hs

@[simp] theorem State.withFetchWord_canon (s : State) (nbits : Nat) (w : Nat) (hs : Canon s) : Canon
    (State.withFetchWord s nbits w) := by
  unfold State.withFetchWord
  (repeat' split) <;> simp (maxDischargeDepth := 50) +contextual [*]

end Sys2Proof.Machine
end

