-- ==== Sys2Proof/Laws/Fuses.lean ====
section
/-! SUPPORT. No operation but programming a fuse changes a fuse: one lemma per operation. -/

namespace Sys2Proof.Machine

@[simp] theorem ite_fuses (c : Prop) [Decidable c] (a b : State) :
    (if c then a else b).fuses = if c then a.fuses else b.fuses := by split <;> rfl

@[simp] theorem foldl_fuses {α : Type} (f : State → α → State) (h : ∀ s x, (f s x).fuses = s.fuses) (l : List α)
    (s : State) : (l.foldl f s).fuses = s.fuses := by
  induction l generalizing s with
  | nil => rfl
  | cons x l ih => rw [List.foldl_cons, ih, h]

@[simp] theorem foldl_fst_fuses {α β : Type} (f : State × β → α → State × β)
    (h : ∀ p x, (f p x).1.fuses = p.1.fuses) (l : List α) (p : State × β) :
    (l.foldl f p).1.fuses = p.1.fuses := by
  induction l generalizing p with
  | nil => rfl
  | cons x l ih => rw [List.foldl_cons, ih, h]

@[simp] theorem State.rsetIf_fuses (s : State) (c : Bool) (key : Nat) (f : Fld) (x : Nat) : (State.rsetIf s c key f x).fuses
    = s.fuses := by
  unfold State.rsetIf
  simp

@[simp] theorem State.raddOpen_fuses (s : State) (key : Nat) (f : Fld) (n : Nat) : (State.raddOpen s key f n).fuses = s.fuses
    := by
  unfold State.raddOpen
  simp

@[simp] theorem State.each_fuses (s : State) (l : List Nat) (f : State → Nat → State) (hf : ∀ s x0, (f s x0).fuses = s.fuses)
    : (State.each s l f).fuses = s.fuses := by
  unfold State.each
  simp [*]

@[simp] theorem State.voidFor_fuses (s : State) (tenant : Option Nat) (vcause : Nat) (block : Nat) (cause : Nat) (unit : Nat)
    (addr : Option Nat) : (State.voidFor s tenant vcause block cause unit addr).fuses = s.fuses := by
  unfold State.voidFor
  (repeat' split) <;> simp

@[simp] theorem State.holdWrite_fuses (s : State) (k : Nat) (a : Nat) (bs : List Byte) : (State.holdWrite s k a bs).fuses =
    s.fuses := by
  unfold State.holdWrite
  simp

@[simp] theorem State.countEvts_fuses (s : State) (k : Nat) (e : Evts) : (State.countEvts s k e).fuses = s.fuses := by
  unfold State.countEvts
  simp

@[simp] theorem State.clearTe_fuses (s : State) (k : Nat) : (State.clearTe s k).fuses = s.fuses := by
  unfold State.clearTe
  simp

@[simp] theorem State.countRd_fuses (s : State) (l : Nat) : (State.countRd s l).fuses = s.fuses := by
  unfold State.countRd
  (repeat' split) <;> simp

@[simp] theorem State.unclean_fuses (s : State) (o : Nat) : (State.unclean s o).fuses = s.fuses := by
  unfold State.unclean
  simp

@[simp] theorem State.lineWriteAs_fuses (s : State) (l : Nat) (data : Line) (mask : Nat) (o : Nat) : (State.lineWriteAs
    s l data mask o).1.fuses = s.fuses := by
  unfold State.lineWriteAs
  dsimp only
  (repeat' split) <;> simp_all

@[simp] theorem State.lineWrite_fuses (s : State) (l : Nat) (data : Line) (mask : Nat) : (State.lineWrite s l data
    mask).1.fuses = s.fuses := by
  unfold State.lineWrite
  simp

@[simp] theorem State.lineMark_fuses (s : State) (l : Nat) : (State.lineMark s l).1.fuses = s.fuses := by
  unfold State.lineMark
  (repeat' split) <;> simp

@[simp] theorem State.signal_fuses (s : State) (fn : Nat) (vec : Nat) : (State.signal s fn vec).fuses = s.fuses := by
  unfold State.signal
  simp

@[simp] theorem State.signalIf_fuses (s : State) (c : Bool) (fn : Nat) (vec : Nat) : (State.signalIf s c fn vec).fuses =
    s.fuses := by
  unfold State.signalIf
  simp

@[simp] theorem State.cfgPut_fuses (s : State) (fn : Nat) (off : Nat) (v : Nat) : (State.cfgPut s fn off v).fuses = s.fuses
    := by
  unfold State.cfgPut
  simp

@[simp] theorem State.aer_fuses (s : State) (off : Nat) (bit : Nat) : (State.aer s off bit).fuses = s.fuses := by
  unfold State.aer
  simp

@[simp] theorem State.twinEvt_fuses (s : State) (f : Fld) : (State.twinEvt s f).fuses = s.fuses := by
  unfold State.twinEvt
  simp

@[simp] theorem State.stepDown_fuses (s : State) : (State.stepDown s).fuses = s.fuses := by
  unfold State.stepDown
  simp

@[simp] theorem State.teState_fuses (s : State) (k : Nat) (x : Nat) : (State.teState s k x).fuses = s.fuses := by
  unfold State.teState
  simp

@[simp] theorem State.busyCycles_fuses (s : State) (k : Nat) (n : Nat) : (State.busyCycles s k n).fuses = s.fuses := by
  unfold State.busyCycles
  simp

@[simp] theorem State.holdStall_fuses (s : State) (k : Nat) (n : Nat) : (State.holdStall s k n).fuses = s.fuses := by
  unfold State.holdStall
  simp

@[simp] theorem State.wsStall_fuses (s : State) (k : Nat) (n : Nat) : (State.wsStall s k n).fuses = s.fuses := by
  unfold State.wsStall
  simp

@[simp] theorem State.cutCycles_fuses (s : State) (k : Nat) (r : LegRun) (n : Nat) : (State.cutCycles s k r n).fuses =
    s.fuses := by
  unfold State.cutCycles
  simp

@[simp] theorem State.legCut_fuses (s : State) (k : Nat) (r : LegRun) : (State.legCut s k r).fuses = s.fuses := by
  unfold State.legCut
  simp

@[simp] theorem State.legsCut_fuses (s : State) (sel : LegRun → Bool) : (State.legsCut s sel).fuses = s.fuses := by
  unfold State.legsCut
  refine foldl_fuses _ (fun s p => ?_) _ _
  (repeat' split) <;> simp

@[simp] theorem State.domTo_fuses (s : State) (d : Nat) (st : Nat) : (State.domTo s d st).fuses = s.fuses := by
  unfold State.domTo
  simp

@[simp] theorem State.fatalNow_fuses (s : State) : (State.fatalNow s).fuses = s.fuses := by
  unfold State.fatalNow
  simp

@[simp] theorem State.fatal_fuses (s : State) (block : Nat) (cause : Nat) (unit : Nat) : (State.fatal s block cause
    unit).fuses = s.fuses := by
  unfold State.fatal
  simp

@[simp] theorem State.fatalTrip_fuses (s : State) (block : Nat) (cause : Nat) (unit : Nat) : (State.fatalTrip s block
    cause unit).fuses = s.fuses := by
  unfold State.fatalTrip
  simp

@[simp] theorem State.memUe_fuses (s : State) (l : Nat) (block : Nat) (cause : Nat) (unit : Nat) (tenant : Option Nat) :
    (State.memUe s l block cause unit tenant).fuses = s.fuses := by
  unfold State.memUe
  simp

@[simp] theorem State.setTx_fuses (s : State) (v : Nat) (x : OspTx) : (State.setTx s v x).fuses = s.fuses := by
  unfold State.setTx
  simp

@[simp] theorem State.ospStart_fuses (s : State) (v : Nat) : (State.ospStart s v).fuses = s.fuses := by
  unfold State.ospStart
  simp

@[simp] theorem State.ospFree_fuses (s : State) (v : Nat) (need : List Nat) : (State.ospFree s v need).fuses = s.fuses
    := by
  unfold State.ospFree
  simp

@[simp] theorem State.osp_fuses (s : State) (v : Nat) (args : List Nat) (bytes : List Byte) (h : OspHead) : (State.osp s
    v args bytes h).fuses = s.fuses := by
  unfold State.osp
  simp

@[simp] theorem State.ospMsg_fuses (s : State) (v : Nat) (args : List Nat) (cls : Nat) (op : Nat) (qc : Nat) (tag : Nat)
    (addr : Nat) (aux : Nat) : (State.ospMsg s v args cls op qc tag addr aux).fuses = s.fuses := by
  unfold State.ospMsg
  simp

@[simp] theorem State.ospErr_fuses (s : State) (v : Nat) (qc : Nat) (tag : Nat) (addr : Nat) (cause : Nat) :
    (State.ospErr s v qc tag addr cause).fuses = s.fuses := by
  unfold State.ospErr
  simp

@[simp] theorem State.ospData_fuses (s : State) (v : Nat) (qc : Nat) (tag : Nat) (addr : Nat) (grant : Nat) (d : Line) :
    (State.ospData s v qc tag addr grant d).fuses = s.fuses := by
  unfold State.ospData
  simp

@[simp] theorem State.ospGnt_fuses (s : State) (v : Nat) (qc : Nat) (tag : Nat) (addr : Nat) : (State.ospGnt s v qc tag
    addr).fuses = s.fuses := by
  unfold State.ospGnt
  simp

@[simp] theorem State.ospSend_fuses (s : State) (v : Nat) (kind : Nat) (fseq : Nat) (payload : List Byte) :
    (State.ospSend s v kind fseq payload).fuses = s.fuses := by
  unfold State.ospSend
  simp

@[simp] theorem State.ospKeep_fuses (s : State) (v : Nat) (kind : Nat) (payload : List Byte) : (State.ospKeep s v kind
    payload).fuses = s.fuses := by
  unfold State.ospKeep
  simp

@[simp] theorem State.ospStep_fuses (s : State) (v : Nat) : (State.ospStep s v).fuses = s.fuses := by
  unfold State.ospStep
  simp

@[simp] theorem State.ospTick_fuses (s : State) : (State.ospTick s).fuses = s.fuses := by
  unfold State.ospTick
  simp

@[simp] theorem State.ospHear_fuses (s : State) (v : Nat) (flit : List Byte) (fresh : Bool) : (State.ospHear s v flit
    fresh).fuses = s.fuses := by
  unfold State.ospHear
  simp

@[simp] theorem State.ospResend_fuses (s : State) (v : Nat) (fseq : Option Nat) : (State.ospResend s v fseq).fuses =
    s.fuses := by
  unfold State.ospResend
  simp

@[simp] theorem State.ospReplay_fuses (s : State) (v : Nat) : (State.ospReplay s v).fuses = s.fuses := by
  unfold State.ospReplay
  simp

@[simp] theorem State.toL0_fuses (s : State) : (State.toL0 s).fuses = s.fuses := by
  unfold State.toL0
  simp

@[simp] theorem State.wakeLink_fuses (s : State) : (State.wakeLink s).fuses = s.fuses := by
  unfold State.wakeLink
  simp

@[simp] theorem State.ltrSend_fuses (s : State) : (State.ltrSend s).fuses = s.fuses := by
  unfold State.ltrSend
  simp

@[simp] theorem State.pciCap_fuses (s : State) (fn : Nat) (cause : Nat) : (State.pciCap s fn cause).fuses = s.fuses := by
  unfold State.pciCap
  simp

@[simp] theorem State.hostFail_fuses (s : State) (fn : Nat) (cause : Nat) : (State.hostFail s fn cause).fuses = s.fuses := by
  unfold State.hostFail
  simp

@[simp] theorem State.setTwinPart_fuses (s : State) (p : Nat) (x : Nat) : (State.setTwinPart s p x).fuses = s.fuses := by
  unfold State.setTwinPart
  simp

@[simp] theorem State.ferry_fuses (s : State) (typ : Nat) (part : Nat) (key : Nat) (data : List Byte) : (State.ferry s typ
    part key data).fuses = s.fuses := by
  unfold State.ferry
  simp

@[simp] theorem State.useEntry_fuses (s : State) (e : FEntry) : (State.useEntry s e).fuses = s.fuses := by
  unfold State.useEntry
  simp

@[simp] theorem State.retain_fuses (s : State) (o : Out) : (State.retain s o).fuses = s.fuses := by
  unfold State.retain
  simp

@[simp] theorem State.atsLook_fuses (s : State) (fn : Nat) (addr : Nat) (write : Bool) : (State.atsLook s fn addr
    write).1.fuses = s.fuses := by
  unfold State.atsLook
  (repeat' split) <;> simp

@[simp] theorem State.atsTag_fuses (s : State) (tag : Nat) (key : Nat) (translated : Bool) : (State.atsTag s tag key
    translated).fuses = s.fuses := by
  unfold State.atsTag
  simp

@[simp] theorem State.showTags_fuses (s : State) : (State.showTags s).fuses = s.fuses := by
  unfold State.showTags
  simp

@[simp] theorem State.pumpTags_fuses (s : State) (z0 : Nat) : (State.pumpTags s z0).fuses = s.fuses := by
  induction z0 generalizing s with
  | zero => rfl
  | succ f ih =>
    unfold State.pumpTags
    split
    · split
      · simp [ih]
      · rfl
    · rfl

@[simp] theorem State.hostRead_fuses (s : State) (who : List Nat) (pa : Nat) (len : Nat) (func : Nat) : (State.hostRead s who
    pa len func).fuses = s.fuses := by
  unfold State.hostRead
  (repeat' split) <;> simp

@[simp] theorem State.askNode_fuses (s : State) (node : Nat) (args : List Nat) (bytes : List Byte) (h : OspHead) :
    (State.askNode s node args bytes h).fuses = s.fuses := by
  unfold State.askNode
  simp

@[simp] theorem State.nodeRead_fuses (s : State) (who : List Nat) (pa : Nat) (len : Nat) (func : Nat) : (State.nodeRead s who
    pa len func).fuses = s.fuses := by
  unfold State.nodeRead
  simp

@[simp] theorem State.remIssue_fuses (s : State) (who : List Nat) (pa : Nat) (len : Nat) (func : Nat) : (State.remIssue s who
    pa len func).fuses = s.fuses := by
  unfold State.remIssue
  simp

@[simp] theorem State.remGet_fuses (s : State) (who : List Nat) (pa : Nat) (len : Nat) (func : Nat) : (State.remGet s who pa
    len func).1.fuses = s.fuses := by
  unfold State.remGet
  (repeat' split) <;> simp

@[simp] theorem State.remDrop_fuses (s : State) (p : RRead → Bool) : (State.remDrop s p).fuses = s.fuses := by
  unfold State.remDrop
  simp

@[simp] theorem State.manArrived_fuses (s : State) : (State.manArrived s).fuses = s.fuses := by
  unfold State.manArrived
  simp

@[simp] theorem State.hostWrite_fuses (s : State) (func : Nat) (addr : Nat) (bs : List Byte) : (State.hostWrite s func addr
    bs).1.fuses = s.fuses := by
  unfold State.hostWrite
  (repeat' split) <;> simp

@[simp] theorem State.nodeWrite_fuses (s : State) (who : List Nat) (pa : Nat) (mask : Nat) (args : List Nat) (bs : List
    Byte) (line : List Byte) : (State.nodeWrite s who pa mask args bs line).fuses = s.fuses := by
  unfold State.nodeWrite
  simp

@[simp] theorem State.remWrite_fuses (s : State) (who : List Nat) (pa : Nat) (func : Nat) (bs : List Byte) : (State.remWrite
    s who pa func bs).1.fuses = s.fuses := by
  unfold State.remWrite
  dsimp only
  (repeat' split) <;> simp_all

@[simp] theorem State.remMasked_fuses (s : State) (who : List Nat) (pa : Nat) (mask : Nat) (bs : List Byte) :
    (State.remMasked s who pa mask bs).1.fuses = s.fuses := by
  unfold State.remMasked
  (repeat' split) <;> simp

@[simp] theorem State.fabTick_fuses (s : State) : (State.fabTick s).fuses = s.fuses := by
  unfold State.fabTick
  split
  · rfl
  · have h : ∀ l x, (List.foldl State.outTurn x l).1.fuses = x.1.fuses := by
      intro l x
      refine foldl_fst_fuses _ (fun p o => ?_) l x
      unfold State.outTurn
      (repeat' split) <;> simp
    simp [h]

@[simp] theorem State.postAt_fuses (s : State) (at_ : Nat) (h : FabHdr) (up : Bool) (mask : Nat) (d : Line) :
    (State.postAt s at_ h up mask d).1.fuses = s.fuses := by
  unfold State.postAt
  (repeat' split) <;> simp

@[simp] theorem State.post_fuses (s : State) (h : FabHdr) (mask : Nat) (d : Line) : (State.post s h mask d).1.fuses =
    s.fuses := by
  unfold State.post
  simp

@[simp] theorem State.fly_fuses (s : State) (h : FabHdr) (mask : Nat) (d : Line) (x : HPkt) : (State.fly s h mask d
    x).fuses = s.fuses := by
  unfold State.fly
  (repeat' split) <;> simp

@[simp] theorem State.putBucket_fuses (s : State) (p : Nat) (q : Nat) (lv : Int) : (State.putBucket s p q lv).fuses = s.fuses
    := by
  unfold State.putBucket
  simp

@[simp] theorem State.settleAll_fuses (s : State) : (State.settleAll s).fuses = s.fuses := by
  unfold State.settleAll
  simp

@[simp] theorem State.takeTokens_fuses (s : State) (p : Nat) (q : Nat) : (State.takeTokens s p q).fuses = s.fuses := by
  unfold State.takeTokens
  simp

@[simp] theorem State.debitSpf_fuses (s : State) (p : Nat) (q : Nat) : (State.debitSpf s p q).fuses = s.fuses := by
  unfold State.debitSpf
  simp

@[simp] theorem State.charge_fuses (s : State) (p : Nat) (q : Nat) (n : Nat) : (State.charge s p q n).fuses = s.fuses := by
  unfold State.charge
  simp

@[simp] theorem State.tollPay_fuses (s : State) (who : List Nat) (p : Nat) (q : Nat) (n : Nat) : (State.tollPay s who p
    q n).fuses = s.fuses := by
  unfold State.tollPay
  simp

@[simp] theorem State.tollTake_fuses (s : State) (who : List Nat) (p : Nat) (q : Nat) (n : Nat) : (State.tollTake s who
    p q n).fuses = s.fuses := by
  unfold State.tollTake
  simp

@[simp] theorem State.holdReq_fuses (s : State) (q : CReq) : (State.holdReq s q).fuses = s.fuses := by
  unfold State.holdReq
  simp

@[simp] theorem State.latSample_fuses (s : State) (p : Nat) (q : Nat) (ts : Nat) : (State.latSample s p q ts).fuses = s.fuses
    := by
  unfold State.latSample
  simp

@[simp] theorem State.latNow_fuses (s : State) (p : Nat) (q : Nat) (n : Nat) : (State.latNow s p q n).fuses = s.fuses :=
    by
  unfold State.latNow
  simp

@[simp] theorem State.cleanTick_fuses (s : State) : (State.cleanTick s).fuses = s.fuses := by
  unfold State.cleanTick
  simp

@[simp] theorem State.useDom_fuses (s : State) (d : Nat) : (State.useDom s d).fuses = s.fuses := by
  unfold State.useDom
  simp

@[simp] theorem State.useAgent_fuses (s : State) (a : Nat) : (State.useAgent s a).fuses = s.fuses := by
  unfold State.useAgent
  simp

@[simp] theorem State.useReq_fuses (s : State) (req : Nat) (home : Nat) : (State.useReq s req home).fuses = s.fuses := by
  unfold State.useReq
  simp

@[simp] theorem State.wake_fuses (s : State) (d : Nat) : (State.wake s d).fuses = s.fuses := by
  unfold State.wake
  simp

@[simp] theorem State.countLlc_fuses (s : State) (h : Nat) (hit : Bool) : (State.countLlc s h hit).fuses = s.fuses := by
  unfold State.countLlc
  simp

@[simp] theorem State.touchCopy_fuses (s : State) (a : Nat) (l : Nat) : (State.touchCopy s a l).fuses = s.fuses := by
  unfold State.touchCopy
  (repeat' split) <;> simp

@[simp] theorem State.cohSend_fuses (s : State) (m : CMsg) : (State.cohSend s m).fuses = s.fuses := by
  unfold State.cohSend
  (repeat' split) <;> simp

@[simp] theorem State.fencedCap_fuses (s : State) (l : Nat) : (State.fencedCap s l).fuses = s.fuses := by
  unfold State.fencedCap
  simp

@[simp] theorem State.unmark_fuses (s : State) (ls : List Nat) : (State.unmark s ls).fuses = s.fuses := by
  unfold State.unmark
  simp

@[simp] theorem State.memWrite_fuses (s : State) (l : Nat) (d : Line) (mask : Nat) (o : Nat) : (State.memWrite s l d
    mask o).1.fuses = s.fuses := by
  unfold State.memWrite
  (repeat' split) <;> simp

@[simp] theorem State.writeBack_fuses (s : State) (l : Nat) (d : Line) : (State.writeBack s l d).fuses = s.fuses := by
  unfold State.writeBack
  dsimp only
  (repeat' split) <;> simp_all

@[simp] theorem State.llcEvict_fuses (s : State) (l : Nat) : (State.llcEvict s l).fuses = s.fuses := by
  unfold State.llcEvict
  dsimp only
  (repeat' split) <;> simp_all

@[simp] theorem State.llcTouch_fuses (s : State) (l : Nat) : (State.llcTouch s l).fuses = s.fuses := by
  unfold State.llcTouch
  (repeat' split) <;> simp

@[simp] theorem State.llcIn_fuses (s : State) (l : Nat) (w : Nat) (d : Line) (dirty : Bool) : (State.llcIn s l w d
    dirty).fuses = s.fuses := by
  unfold State.llcIn
  simp

@[simp] theorem State.llcPut_fuses (s : State) (l : Nat) (d : Line) (dirty : Bool) : (State.llcPut s l d dirty).fuses =
    s.fuses := by
  unfold State.llcPut
  dsimp only
  (repeat' split) <;> simp_all

@[simp] theorem State.slicePut_fuses (s : State) (l : Nat) (d : Line) : (State.slicePut s l d).fuses = s.fuses := by
  unfold State.slicePut
  simp

@[simp] theorem State.homeWrite_fuses (s : State) (l : Nat) (d : Line) (mask : Nat) (o : Nat) (alloc : Bool) (got :
    Option Line) : (State.homeWrite s l d mask o alloc got).1.fuses = s.fuses := by
  unfold State.homeWrite
  (repeat' split) <;> simp

@[simp] theorem State.countHome_fuses (s : State) (l : Nat) : (State.countHome s l).fuses = s.fuses := by
  unfold State.countHome
  simp

@[simp] theorem State.snoopOn_fuses (s : State) (l : Nat) (at_ : Nat) : (State.snoopOn s l at_).fuses = s.fuses := by
  unfold State.snoopOn
  (repeat' split) <;> simp

@[simp] theorem State.countSnoop_fuses (s : State) (h : Nat) : (State.countSnoop s h).fuses = s.fuses := by
  unfold State.countSnoop
  simp

@[simp] theorem State.filterPut_fuses (s : State) (l : Nat) (e : FEnt) : (State.filterPut s l e).fuses = s.fuses := by
  unfold State.filterPut
  simp

@[simp] theorem State.filterDel_fuses (s : State) (l : Nat) : (State.filterDel s l).fuses = s.fuses := by
  unfold State.filterDel
  simp

@[simp] theorem State.marksOf_fuses (s : State) (h : Nat) : (State.marksOf s h).fuses = s.fuses := by
  unfold State.marksOf
  simp

@[simp] theorem State.filterAlloc_fuses (s : State) (l : Nat) (owned : Bool) (fwd : Option Nat) : (State.filterAlloc s l
    owned fwd).fuses = s.fuses := by
  unfold State.filterAlloc
  (repeat' split) <;> simp

@[simp] theorem State.filterSetOrNew_fuses (s : State) (l : Nat) (owned : Bool) (fwd : Option Nat) :
    (State.filterSetOrNew s l owned fwd).fuses = s.fuses := by
  unfold State.filterSetOrNew
  simp

@[simp] theorem State.grantWait_fuses (s : State) (t : Txn) (m : CMsg) : (State.grantWait s t m).fuses = s.fuses := by
  unfold State.grantWait
  simp

@[simp] theorem State.endTxn_fuses (s : State) (l : Nat) (m : CMsg) : (State.endTxn s l m).fuses = s.fuses := by
  unfold State.endTxn
  simp

@[simp] theorem State.homeErr_fuses (s : State) (l : Nat) (req : Nat) (ten : Nat) (r : LineRes) : (State.homeErr s l req ten
    r).fuses = s.fuses := by
  unfold State.homeErr
  (repeat' split) <;> simp

@[simp] theorem State.txnData_fuses (s : State) (t : Txn) : (State.txnData s t).2.fuses = s.fuses := by
  unfold State.txnData
  (repeat' split) <;> simp

@[simp] theorem State.keepDirty_fuses (s : State) (t : Txn) : (State.keepDirty s t).fuses = s.fuses := by
  unfold State.keepDirty
  simp

@[simp] theorem State.afterSnoop_fuses (s : State) (l : Nat) (held : Bool) (keepFwd : Bool) : (State.afterSnoop s l held
    keepFwd).fuses = s.fuses := by
  unfold State.afterSnoop
  (repeat' split) <;> simp

@[simp] theorem State.reqWrite_fuses (s : State) (q : CReq) : (State.reqWrite s q).1.fuses = s.fuses := by
  unfold State.reqWrite
  (repeat' split) <;> simp

@[simp] theorem State.serve_fuses (s : State) (t : Txn) (hit : Bool) : (State.serve s t hit).fuses = s.fuses := by
  unfold State.serve
  (repeat' split) <;> simp

@[simp] theorem State.answer_fuses (s : State) (t : Txn) (hit : Bool) : (State.answer s t hit).fuses = s.fuses := by
  unfold State.answer
  (repeat' split) <;> simp

@[simp] theorem State.countReq_fuses (s : State) (q : CReq) (h : Nat) : (State.countReq s q h).fuses = s.fuses := by
  unfold State.countReq
  simp

@[simp] theorem State.accept_fuses (s : State) (q : CReq) : (State.accept s q).fuses = s.fuses := by
  unfold State.accept
  simp

@[simp] theorem State.showCredits_fuses (s : State) (h : Nat) : (State.showCredits s h).fuses = s.fuses := by
  unfold State.showCredits
  simp

@[simp] theorem State.cohErr_fuses (s : State) (h : Nat) (cause : Nat) (cls : Nat) : (State.cohErr s h cause cls).fuses =
    s.fuses := by
  unfold State.cohErr
  simp

@[simp] theorem State.wakeFor_fuses (s : State) (z0 : Nat) : (State.wakeFor s z0).fuses = s.fuses := by
  induction z0 generalizing s <;> (unfold State.wakeFor; (repeat' split) <;> simp_all)

@[simp] theorem State.wakeQueue_fuses (s : State) : (State.wakeQueue s).fuses = s.fuses := by
  unfold State.wakeQueue
  (repeat' split) <;> simp

@[simp] theorem State.homeFill_fuses (s : State) (l : Nat) (d : Option Line) : (State.homeFill s l d).fuses = s.fuses :=
    by
  unfold State.homeFill
  (repeat' split) <;> simp

@[simp] theorem State.tcUe_fuses (s : State) (a : Nat) (l : Nat) (ten : Option Nat) : (State.tcUe s a l ten).fuses =
    s.fuses := by
  unfold State.tcUe
  dsimp only
  (repeat' split) <;> simp

@[simp] theorem State.spfLine_fuses (s : State) (h : Nat) (src : Nat) (qc : Nat) (ten : Nat) (l : Nat) : (State.spfLine
    s h src qc ten l).fuses = s.fuses := by
  unfold State.spfLine
  split
  · simp
  · dsimp only
    have h1 : (((s.raddOpen (R.tileSpfCnt h) F.tileSpfCnt_ISSUED 1).debitSpf src qc).charge src qc 128).fuses = s.fuses := by simp
    generalize ((s.raddOpen (R.tileSpfCnt h) F.tileSpfCnt_ISSUED 1).debitSpf src qc).charge src qc 128 = u at h1 ⊢
    cases u.lineRead l <;> simp [h1]

@[simp] theorem State.spfTrain_fuses (s : State) (q : CReq) : (State.spfTrain s q).fuses = s.fuses := by
  unfold State.spfTrain
  dsimp only
  (repeat' split) <;> simp_all

@[simp] theorem State.untrain_fuses (s : State) (src : Nat) (ten : Nat) : (State.untrain s src ten).fuses = s.fuses :=
    by
  unfold State.untrain
  simp

@[simp] theorem State.retry_fuses (s : State) (q : CReq) (h : Nat) (give : Bool) : (State.retry s q h give).fuses =
    s.fuses := by
  unfold State.retry
  simp

@[simp] theorem State.request_fuses (s : State) (q : CReq) : (State.request s q).fuses = s.fuses := by
  unfold State.request
  simp

@[simp] theorem State.wbAck_fuses (s : State) (a : Nat) (tag : Nat) (l : Nat) : (State.wbAck s a tag l).fuses = s.fuses
    := by
  unfold State.wbAck
  simp

@[simp] theorem State.dropFwd_fuses (s : State) (a : Nat) (l : Nat) : (State.dropFwd s a l).fuses = s.fuses := by
  unfold State.dropFwd
  (repeat' split) <;> simp

@[simp] theorem State.leaving_fuses (s : State) (a : Nat) (l : Nat) (st : CSt) : (State.leaving s a l st).fuses = s.fuses := by
  unfold State.leaving
  simp

@[simp] theorem State.wbPut_fuses (s : State) (l : Nat) (d : Line) (dmg : Bool) : (State.wbPut s l d dmg).fuses =
    s.fuses := by
  unfold State.wbPut
  simp

@[simp] theorem State.wbHome_fuses (s : State) (agent : Nat) (tag : Nat) (l : Nat) (d : Line) (dmg : Bool) :
    (State.wbHome s agent tag l d dmg).fuses = s.fuses := by
  unfold State.wbHome
  (repeat' split) <;> simp

@[simp] theorem State.evctHome_fuses (s : State) (agent : Nat) (tag : Nat) (l : Nat) : (State.evctHome s agent tag
    l).fuses = s.fuses := by
  unfold State.evctHome
  (repeat' split) <;> simp

@[simp] theorem State.noteDecode_fuses (s : State) (src : Nat) (pa : Nat) : (State.noteDecode s src pa).fuses = s.fuses := by
  unfold State.noteDecode
  simp

@[simp] theorem State.passMsg_fuses (s : State) (q : CReq) (m : CMsg) : (State.passMsg s q m).fuses = s.fuses := by
  unfold State.passMsg
  simp

@[simp] theorem State.passData_fuses (s : State) (q : CReq) (d : Option Line) : (State.passData s q d).fuses = s.fuses
    := by
  unfold State.passData
  simp

@[simp] theorem State.passErr_fuses (s : State) (q : CReq) (c : Nat) : (State.passErr s q c).fuses = s.fuses := by
  unfold State.passErr
  simp

@[simp] theorem State.passAck_fuses (s : State) (q : CReq) (ok : Bool) : (State.passAck s q ok).fuses = s.fuses := by
  unfold State.passAck
  simp

@[simp] theorem State.passRead_fuses (s : State) (q : CReq) : (State.passRead s q).fuses = s.fuses := by
  unfold State.passRead
  dsimp only
  (repeat' split) <;> simp_all

@[simp] theorem State.passWrite_fuses (s : State) (q : CReq) : (State.passWrite s q).fuses = s.fuses := by
  unfold State.passWrite
  simp

@[simp] theorem State.passOn_fuses (s : State) (q : CReq) : (State.passOn s q).fuses = s.fuses := by
  unfold State.passOn
  dsimp only
  (repeat' split) <;> simp_all

@[simp] theorem State.compAck_fuses (s : State) (req : Nat) (pa : Nat) : (State.compAck s req pa).fuses = s.fuses := by
  unfold State.compAck
  dsimp only
  (repeat' split) <;> simp_all

@[simp] theorem State.snpRsp_fuses (s : State) (slip : Nat) (pa : Nat) (held : Bool) (dirty : Bool) (sends : Bool) (wbseen :
    Bool) (reqhold : Bool) : (State.snpRsp s slip pa held dirty sends wbseen reqhold).fuses = s.fuses := by
  unfold State.snpRsp
  dsimp only
  (repeat' split) <;> simp_all

@[simp] theorem State.reqHome_fuses (s : State) (q : CReq) : (State.reqHome s q).fuses = s.fuses := by
  unfold State.reqHome
  simp

@[simp] theorem State.atHome_fuses (s : State) (z0 : HPkt) : (State.atHome s z0).fuses = s.fuses := by
  induction z0 generalizing s <;> (unfold State.atHome; simp_all)

@[simp] theorem State.park_fuses (s : State) (d : Nat) (x : HPkt) : (State.park s d x).fuses = s.fuses := by
  unfold State.park
  simp

@[simp] theorem State.toHome_fuses (s : State) (x : HPkt) : (State.toHome s x).fuses = s.fuses := by
  unfold State.toHome
  simp

@[simp] theorem State.sendHome_fuses (s : State) (h : FabHdr) (mask : Nat) (d : Line) (x : HPkt) : (State.sendHome s h
    mask d x).fuses = s.fuses := by
  unfold State.sendHome
  simp

@[simp] theorem State.inject_fuses (s : State) (q : CReq) : (State.inject s q).fuses = s.fuses := by
  unfold State.inject
  simp

@[simp] theorem State.reqFrom_fuses (s : State) (caching : Bool) (q : CReq) : (State.reqFrom s caching q).fuses = s.fuses := by
  unfold State.reqFrom
  simp

@[simp] theorem State.wbArrive_fuses (s : State) (agent : Nat) (pa : Nat) (tag : Nat) (data : Line) : (State.wbArrive s
    agent pa tag data).fuses = s.fuses := by
  unfold State.wbArrive
  simp

@[simp] theorem State.evctArrive_fuses (s : State) (agent : Nat) (pa : Nat) (tag : Nat) : (State.evctArrive s agent pa
    tag).fuses = s.fuses := by
  unfold State.evctArrive
  simp

@[simp] theorem State.cohTake_fuses (s : State) (m : CMsg) : (State.cohTake s m).fuses = s.fuses := by
  unfold State.cohTake
  simp

@[simp] theorem State.agentTake_fuses (s : State) (m : CMsg) : (State.agentTake s m).fuses = s.fuses := by
  unfold State.agentTake
  simp

@[simp] theorem State.snoopTile_fuses (s : State) (l : Nat) (a : Nat) (k : SnpK) (t : Txn) (last : Bool) :
    (State.snoopTile s l a k t last).fuses = s.fuses := by
  unfold State.snoopTile
  dsimp only
  (repeat' split) <;> simp_all

@[simp] theorem State.stopDoes_fuses (s : State) (l : Nat) (a : Nat) (k : SnpK) (t : Txn) : (State.stopDoes s l a k
    t).fuses = s.fuses := by
  unfold State.stopDoes
  simp

@[simp] theorem State.snoopAt_fuses (s : State) (pa : Nat) (stop : Nat) : (State.snoopAt s pa stop).fuses = s.fuses :=
    by
  unfold State.snoopAt
  dsimp only
  (repeat' split) <;> simp

@[simp] theorem State.snoopUe_fuses (s : State) (pa : Nat) (stop : Nat) : (State.snoopUe s pa stop).fuses = s.fuses :=
    by
  unfold State.snoopUe
  dsimp only
  (repeat' split) <;> simp

@[simp] theorem State.snpData_fuses (s : State) (agent : Nat) (pa : Nat) (dirty : Bool) (data : Line) : (State.snpData s
    agent pa dirty data).fuses = s.fuses := by
  unfold State.snpData
  dsimp only
  (repeat' split) <;> simp_all

@[simp] theorem State.ownerLost_fuses (s : State) (l : Nat) : (State.ownerLost s l).fuses = s.fuses := by
  unfold State.ownerLost
  simp

@[simp] theorem State.snoopEnd_fuses (s : State) (t : Txn) : (State.snoopEnd s t).fuses = s.fuses := by
  unfold State.snoopEnd
  simp

@[simp] theorem State.tileDrop_fuses (s : State) (a : Nat) (l : Nat) (d : Line) : (State.tileDrop s a l d).fuses =
    s.fuses := by
  unfold State.tileDrop
  (repeat' split) <;> simp

@[simp] theorem State.tileInstall_fuses (s : State) (a : Nat) (l : Nat) (st : CSt) (d : Line) : (State.tileInstall s a l st
    d).fuses = s.fuses := by
  unfold State.tileInstall
  dsimp only
  (repeat' split) <;> simp_all

@[simp] theorem State.compAckFrom_fuses (s : State) (req : Nat) (pa : Nat) : (State.compAckFrom s req pa).fuses =
    s.fuses := by
  unfold State.compAckFrom
  dsimp only
  (repeat' split) <;> simp_all

@[simp] theorem State.grantFlushed_fuses (s : State) (req : Nat) (l : Nat) (st : CSt) (d : Line) : (State.grantFlushed s
    req l st d).fuses = s.fuses := by
  unfold State.grantFlushed
  simp

@[simp] theorem State.grantGone_fuses (s : State) (req : Nat) (pa : Nat) : (State.grantGone s req pa).fuses = s.fuses :=
    by
  unfold State.grantGone
  simp

@[simp] theorem State.slipGone_fuses (s : State) (v : Nat) : (State.slipGone s v).fuses = s.fuses := by
  unfold State.slipGone
  simp

@[simp] theorem State.agentLoss_fuses (s : State) (slip : Nat) : (State.agentLoss s slip).fuses = s.fuses := by
  unfold State.agentLoss
  simp

@[simp] theorem State.prepLine_fuses (s : State) (a : Nat) (w : Bool) (cache : Nat) (l : Nat) : (State.prepLine s a w
    cache l).fuses = s.fuses := by
  unfold State.prepLine
  simp

@[simp] theorem State.moverMark_fuses (s : State) (h : Nat) : (State.moverMark s h).fuses = s.fuses := by
  unfold State.moverMark
  simp

@[simp] theorem State.moverReq_fuses (s : State) (a : Nat) (l : Nat) (k : SnpK) (but : Option Nat) : (State.moverReq s a
    l k but).fuses = s.fuses := by
  unfold State.moverReq
  dsimp only
  (repeat' split) <;> simp_all

@[simp] theorem State.cohRead_fuses (s : State) (a : Nat) (l : Nat) (cache : Nat) (got : Option Line) : (State.cohRead s
    a l cache got).1.fuses = s.fuses := by
  unfold State.cohRead
  dsimp only
  (repeat' split) <;> simp_all

@[simp] theorem State.ownWrite_fuses (s : State) (a : Nat) (l : Nat) (mask : Nat) (d : Line) (old : LineRes) :
    (State.ownWrite s a l mask d old).1.fuses = s.fuses := by
  unfold State.ownWrite
  (repeat' split) <;> simp

@[simp] theorem State.cohWrite_fuses (s : State) (a : Nat) (l : Nat) (cache : Nat) (mask : Nat) (d : Line) (got : Option
    Line) : (State.cohWrite s a l cache mask d got).1.fuses = s.fuses := by
  unfold State.cohWrite
  (repeat' split) <;> simp

@[simp] theorem State.tableVault_fuses (s : State) (c : Nat) (q : Nat) (tenant : Nat) (pa : Nat) : (State.tableVault s c
    q tenant pa).1.fuses = s.fuses := by
  unfold State.tableVault
  dsimp only
  (repeat' split) <;> simp_all

@[simp] theorem State.tableRead_fuses (s : State) (c : Nat) (q : Nat) (tenant : Nat) (pa : Nat) : (State.tableRead s c q
    tenant pa).1.fuses = s.fuses := by
  unfold State.tableRead
  (repeat' split) <;> simp

@[simp] theorem State.walkBegin_fuses (s : State) (c : Nat) (q : Nat) (t : Nat) (va : Nat) : (State.walkBegin s c q t
    va).fuses = s.fuses := by
  unfold State.walkBegin
  simp

@[simp] theorem State.walkNote_fuses (s : State) (c : Nat) (t : Nat) (va : Nat) (e : Nat) : (State.walkNote s c t va
    e).fuses = s.fuses := by
  unfold State.walkNote
  simp

@[simp] theorem State.walkL1_fuses (s : State) (c : Nat) (q : Nat) (t : Nat) (va : Nat) : (State.walkL1 s c q t
    va).1.fuses = s.fuses := by
  unfold State.walkL1
  (repeat' (split <;> (try (rename_i h; have h1 := congrArg Prod.fst h; clear h; dsimp only at h1; subst h1)))) <;>
    simp

@[simp] theorem State.walk_fuses (s : State) (c : Nat) (q : Nat) (t : Nat) (va : Nat) : (State.walk s c q t va).1.fuses
    = s.fuses := by
  unfold State.walk
  (repeat' (split <;> (try (rename_i h; have h1 := congrArg Prod.fst h; clear h; dsimp only at h1; subst h1)))) <;>
    simp

@[simp] theorem State.tableDrop_fuses (s : State) (c : Nat) (q : Nat) (t : Nat) (pa : Nat) : (State.tableDrop s c q t
    pa).fuses = s.fuses := by
  unfold State.tableDrop
  simp

@[simp] theorem State.walkEnd_fuses (s : State) (c : Nat) (q : Nat) (t : Nat) (va : Nat) : (State.walkEnd s c q t
    va).fuses = s.fuses := by
  unfold State.walkEnd
  (repeat' split) <;> simp

@[simp] theorem State.walksForget_fuses (s : State) : (State.walksForget s).fuses = s.fuses := by
  unfold State.walksForget
  simp

@[simp] theorem State.walksAgain_fuses (s : State) (p : Nat → Bool) : (State.walksAgain s p).fuses = s.fuses := by
  unfold State.walksAgain
  simp

@[simp] theorem State.tcTouch_fuses (s : State) (c : Nat) (e : TcEnt) : (State.tcTouch s c e).fuses = s.fuses := by
  unfold State.tcTouch
  simp

@[simp] theorem State.tcPut_fuses (s : State) (c : Nat) (e : TcEnt) : (State.tcPut s c e).fuses = s.fuses := by
  unfold State.tcPut
  simp

@[simp] theorem State.leaf_fuses (s : State) (c : Nat) (q : Nat) (t : Nat) (va : Nat) : (State.leaf s c q t va).1.fuses
    = s.fuses := by
  unfold State.leaf
  split
  · simp
  · rcases h : (s.walkBegin c q t va).walk c ((s.walkBegin c q t va).walkQ c q t va) t va with ⟨s1, r⟩
    have h1 : s1.fuses = s.fuses := by
      simpa [h] using (s.walkBegin c q t va).walk_fuses c ((s.walkBegin c q t va).walkQ c q t va) t va
    cases r with
    | wait => exact h1
    | fail x => exact h1
    | ok e => dsimp only; split <;> simp [h1]

@[simp] theorem State.xlate_fuses (s : State) (c : Nat) (q : Nat) (t : Nat) (va : Nat) (n : Nat) (a : Acc) :
    (State.xlate s c q t va n a).1.fuses = s.fuses := by
  unfold State.xlate
  (repeat' (split <;> (try (rename_i h; have h1 := congrArg Prod.fst h; clear h; dsimp only at h1; subst h1)))) <;>
    simp

@[simp] theorem State.footprintOpen_fuses (s : State) (c : Nat) (q : Nat) (t : Nat) (a : Acc) (z0 : List (Nat × Nat)) :
    (State.footprintOpen s c q t a z0).1.fuses = s.fuses := by
  induction z0 generalizing s with
  | nil => rfl
  | cons p rest ih =>
    obtain ⟨va, n⟩ := p
    unfold State.footprintOpen
    rcases h : s.xlate c q t va n a with ⟨s1, r⟩
    have h1 : s1.fuses = s.fuses := by simpa [h] using s.xlate_fuses c q t va n a
    cases r <;> dsimp only <;> (first | exact h1 | rw [ih, h1])

@[simp] theorem State.walksEnd_fuses (s : State) (c : Nat) (q : Nat) (t : Nat) (l : List Nat) : (State.walksEnd s c q t
    l).fuses = s.fuses := by
  unfold State.walksEnd
  simp

@[simp] theorem State.footprint_fuses (s : State) (c : Nat) (q : Nat) (t : Nat) (a : Acc) (ps : List (Nat × Nat)) :
    (State.footprint s c q t a ps).1.fuses = s.fuses := by
  unfold State.footprint
  dsimp only
  (repeat' split) <;> simp_all

@[simp] theorem State.fqShow_fuses (s : State) (t : Nat) : (State.fqShow s t).fuses = s.fuses := by
  unfold State.fqShow
  simp

@[simp] theorem State.faultRec_fuses (s : State) (t : Nat) (page : Nat) (cause : Nat) (req : Option Nat) (write : Bool) :
    (State.faultRec s t page cause req write).fuses = s.fuses := by
  unfold State.faultRec
  simp

@[simp] theorem State.pageFail_fuses (s : State) (t : Nat) (page : Nat) (cause : Nat) (req : Option Nat) (write : Bool) :
    (State.pageFail s t page cause req write).fuses = s.fuses := by
  unfold State.pageFail
  simp

@[simp] theorem State.pageFails_fuses (s : State) (t : Nat) (fails : List (Nat × Nat)) (req : Option Nat) (write : Bool) :
    (State.pageFails s t fails req write).fuses = s.fuses := by
  unfold State.pageFails
  simp

@[simp] theorem State.markRange_fuses (s : State) (t : Nat) (va : Nat) (n : Nat) : (State.markRange s t va n).fuses = s.fuses
    := by
  unfold State.markRange
  simp

@[simp] theorem State.memDrop_fuses (s : State) (who : List Nat) (l : Nat) : (State.memDrop s who l).fuses = s.fuses :=
    by
  unfold State.memDrop
  (repeat' split) <;> simp

@[simp] theorem State.readPieces_fuses (s : State) (who : List Nat) (a : Nat) (cache : Nat) (z0 : List (Nat × Nat)) :
    (State.readPieces s who a cache z0).1.fuses = s.fuses := by
  induction z0 generalizing s with
  | nil => rfl
  | cons p rest ih =>
    obtain ⟨pa, n⟩ := p
    unfold State.readPieces
    dsimp only
    split <;> simp [ih]

@[simp] theorem State.moverRead_fuses (s : State) (who : List Nat) (a : Nat) (cache : Nat) (pa : Nat) (n : Nat) :
    (State.moverRead s who a cache pa n).1.fuses = s.fuses := by
  unfold State.moverRead
  simp

@[simp] theorem State.writePieces_fuses (s : State) (who : List Nat) (a : Nat) (cache : Nat) (z0 : List (Nat × Nat)) (z1
    : List Byte) : (State.writePieces s who a cache z0 z1).1.fuses = s.fuses := by
  induction z0 generalizing s z1 with
  | nil => rfl
  | cons p rest ih =>
    obtain ⟨pa, n⟩ := p
    unfold State.writePieces
    dsimp only
    split <;> simp [ih]

@[simp] theorem State.moverWrite_fuses (s : State) (who : List Nat) (a : Nat) (cache : Nat) (pa : Nat) (bs : List Byte)
    : (State.moverWrite s who a cache pa bs).1.fuses = s.fuses := by
  unfold State.moverWrite
  simp

@[simp] theorem State.legBadRead_fuses (s : State) (p : Nat) (tenant : Nat) (x : Nat × LineRes) : (State.legBadRead s p
    tenant x).fuses = s.fuses := by
  unfold State.legBadRead
  (repeat' split) <;> simp

@[simp] theorem State.legBadWrite_fuses (s : State) (p : Nat) (tenant : Nat) (x : Nat × LineRes) : (State.legBadWrite s p
    tenant x).fuses = s.fuses := by
  unfold State.legBadWrite
  (repeat' split) <;> simp

@[simp] theorem State.chargeFor_fuses (s : State) (who : List Nat) (a : Nat) (n : Nat) : (State.chargeFor s who a
    n).fuses = s.fuses := by
  unfold State.chargeFor
  simp

@[simp] theorem State.echo_fuses (s : State) (pa : Nat) (n : Nat) : (State.echo s pa n).fuses = s.fuses := by
  unfold State.echo
  simp

@[simp] theorem State.moversKeep_fuses (s : State) : (State.moversKeep s).fuses = s.fuses := by
  unfold State.moversKeep
  simp

@[simp] theorem State.getPieces_fuses (s : State) (who : List Nat) (a : Nat) (cache : Nat) (func : Nat) (z0 : List (Nat
    × Nat)) : (State.getPieces s who a cache func z0).1.fuses = s.fuses := by
  induction z0 generalizing s <;> (unfold State.getPieces; (repeat' split) <;> simp_all)

@[simp] theorem State.prepPiece_fuses (s : State) (who : List Nat) (a : Nat) (w : Bool) (cache : Nat) (func : Nat) (pa :
    Nat) (n : Nat) : (State.prepPiece s who a w cache func pa n).fuses = s.fuses := by
  unfold State.prepPiece
  simp

@[simp] theorem State.openReads_fuses (s : State) (who : List Nat) (a : Nat) (cache : Nat) (func : Nat) (ps : List (Nat
    × Nat)) : (State.openReads s who a cache func ps).fuses = s.fuses := by
  unfold State.openReads
  simp

@[simp] theorem State.openWrites_fuses (s : State) (who : List Nat) (a : Nat) (cache : Nat) (func : Nat) (ps : List (Nat
    × Nat)) : (State.openWrites s who a cache func ps).fuses = s.fuses := by
  unfold State.openWrites
  simp

@[simp] theorem State.payFor_fuses (s : State) (who : List Nat) (a : Nat) (n : Nat) : (State.payFor s who a n).fuses =
    s.fuses := by
  unfold State.payFor
  simp

@[simp] theorem State.putPieces_fuses (s : State) (who : List Nat) (a : Nat) (cache : Nat) (func : Nat) (z0 : List (Nat
    × Nat)) (z1 : List Byte) : (State.putPieces s who a cache func z0 z1).1.fuses = s.fuses := by
  induction z0 generalizing s z1 <;> (unfold State.putPieces; (repeat' split) <;> simp_all)

@[simp] theorem State.legRemFail_fuses (s : State) (p : Nat) (tenant : Nat) (n : Nat) : (State.legRemFail s p tenant n).fuses
    = s.fuses := by
  unfold State.legRemFail
  simp

@[simp] theorem State.issue_fuses (s : State) (k : Nat) (cls : Nat) (sel : Nat → Bool) (hold : LegRun → Nat → List (Nat ×
    Nat)) (act : State → LegRun → Nat → State × LegRun) (hact : ∀ s x0 x1, (act s x0 x1).1.fuses = s.fuses) : (State.issue s
    k cls sel hold act).fuses = s.fuses := by
  unfold State.issue
  (repeat' split) <;> simp_all

@[simp] theorem State.legEvts_fuses (s : State) (k : Nat) (e : Evts) : (State.legEvts s k e).fuses = s.fuses := by
  unfold State.legEvts
  dsimp only
  (repeat' split) <;> simp_all

@[simp] theorem State.halt_fuses (s : State) (k : Nat) (r : LegRun) (cause : Nat) (stops : Bool) : (State.halt s k r
    cause stops).fuses = s.fuses := by
  unfold State.halt
  simp

@[simp] theorem State.dropLeg_fuses (s : State) (k : Nat) : (State.dropLeg s k).fuses = s.fuses := by
  unfold State.dropLeg
  dsimp only
  (repeat' split) <;> simp_all

@[simp] theorem State.markOuts_fuses (s : State) (tenant : Nat) (outs : List (Nat × Nat)) : (State.markOuts s tenant
    outs).fuses = s.fuses := by
  unfold State.markOuts
  simp

@[simp] theorem State.overrun_fuses (s : State) (k : Nat) : (State.overrun s k).fuses = s.fuses := by
  unfold State.overrun
  (repeat' split) <;> simp

@[simp] theorem State.showPool_fuses (s : State) : (State.showPool s).fuses = s.fuses := by
  unfold State.showPool
  simp

@[simp] theorem State.qCap_fuses (s : State) (g : Nat) (cause : Nat) : (State.qCap s g cause).fuses = s.fuses := by
  unfold State.qCap
  simp

@[simp] theorem State.enableRing_fuses (s : State) (g : Nat) : (State.enableRing s g).fuses = s.fuses := by
  unfold State.enableRing
  (repeat' split) <;> simp

@[simp] theorem State.ringOff_fuses (s : State) (g : Nat) : (State.ringOff s g).fuses = s.fuses := by
  unfold State.ringOff
  simp

@[simp] theorem State.disableRing_fuses (s : State) (g : Nat) : (State.disableRing s g).fuses = s.fuses := by
  unfold State.disableRing
  (repeat' split) <;> simp

@[simp] theorem State.applyEn_fuses (s : State) (g : Nat) : (State.applyEn s g).fuses = s.fuses := by
  unfold State.applyEn
  (repeat' split) <;> simp

@[simp] theorem State.ringEnables_fuses (s : State) (gs : List Nat) : (State.ringEnables s gs).fuses = s.fuses := by
  unfold State.ringEnables
  simp

@[simp] theorem State.doorbell_fuses (s : State) (tenant : Nat) (ring : Nat) (half : Nat) (value : Nat) : (State.doorbell s
    tenant ring half value).fuses = s.fuses := by
  unfold State.doorbell
  simp

@[simp] theorem State.captureDoorbells_fuses (s : State) : (State.captureDoorbells s).fuses = s.fuses := by
  unfold State.captureDoorbells
  simp

@[simp] theorem State.ringError_fuses (s : State) (g : Nat) : (State.ringError s g).fuses = s.fuses := by
  unfold State.ringError
  simp

@[simp] theorem State.showOut_fuses (s : State) (g : Nat) : (State.showOut s g).fuses = s.fuses := by
  unfold State.showOut
  simp

@[simp] theorem State.admitOne_fuses (s : State) (g : Nat) : (State.admitOne s g).fuses = s.fuses := by
  unfold State.admitOne
  simp

@[simp] theorem State.admitN_fuses (s : State) (g : Nat) (z0 : Nat) : (State.admitN s g z0).fuses = s.fuses := by
  induction z0 generalizing s with
  | zero => rfl
  | succ n ih => unfold State.admitN; simp [ih]

@[simp] theorem State.admitRing_fuses (s : State) (g : Nat) : (State.admitRing s g).fuses = s.fuses := by
  unfold State.admitRing
  simp

@[simp] theorem State.admitFerry_fuses (s : State) : (State.admitFerry s).fuses = s.fuses := by
  unfold State.admitFerry
  (repeat' split) <;> simp

@[simp] theorem State.admitAll_fuses (s : State) : (State.admitAll s).fuses = s.fuses := by
  unfold State.admitAll
  simp

@[simp] theorem State.dropChunks_fuses (s : State) (ring : Nat) (didx : Nat) : (State.dropChunks s ring didx).fuses = s.fuses
    := by
  unfold State.dropChunks
  simp

@[simp] theorem State.ctxEnd_fuses (s : State) (c : Ctx) (status : Nat) (detail : Nat) : (State.ctxEnd s c status
    detail).fuses = s.fuses := by
  unfold State.ctxEnd
  simp

@[simp] theorem State.ctxFail_fuses (s : State) (c : Ctx) (status : Nat) (detail : Nat) : (State.ctxFail s c status
    detail).fuses = s.fuses := by
  unfold State.ctxFail
  simp

@[simp] theorem State.ringBad_fuses (s : State) (tenant : Nat) (x : Nat × LineRes) : (State.ringBad s tenant x).1.fuses =
    s.fuses := by
  unfold State.ringBad
  (repeat' split) <;> simp

@[simp] theorem State.ringBads_fuses (s : State) (tenant : Nat) (l : List (Nat × LineRes)) : (State.ringBads s tenant
    l).1.fuses = s.fuses := by
  unfold State.ringBads
  simp

@[simp] theorem State.unkeep_fuses (s : State) (who : List Nat) (wr : Bool) (ranges : List (Nat × Nat)) : (State.unkeep
    s who wr ranges).fuses = s.fuses := by
  unfold State.unkeep
  simp

@[simp] theorem State.dmaXlate_fuses (s : State) (who : List Nat) (wr : Bool) (tenant : Nat) (ranges : List (Nat × Nat))
    : (State.dmaXlate s who wr tenant ranges).1.fuses = s.fuses := by
  unfold State.dmaXlate
  dsimp only
  (repeat' split) <;> simp_all

@[simp] theorem State.dmaRead_fuses (s : State) (who : List Nat) (tenant : Nat) (ranges : List (Nat × Nat)) :
    (State.dmaRead s who tenant ranges).1.fuses = s.fuses := by
  unfold State.dmaRead
  dsimp only
  (repeat' split) <;> simp_all

@[simp] theorem State.dmaWrite_fuses (s : State) (who : List Nat) (tenant : Nat) (ranges : List (Nat × Nat)) (bs : List Byte)
    : (State.dmaWrite s who tenant ranges bs).1.fuses = s.fuses := by
  unfold State.dmaWrite
  dsimp only
  (repeat' split) <;> simp_all

@[simp] theorem State.fetchDesc_fuses (s : State) (c : Ctx) : (State.fetchDesc s c).fuses = s.fuses := by
  unfold State.fetchDesc
  extract_lets t n
  rcases h : s.dmaRead [3, c.ring, c.didx] t [(s.entVa c.ring c.didx, n)] with ⟨s1, r⟩
  have h1 : s1.fuses = s.fuses := by
    simpa [h] using s.dmaRead_fuses [3, c.ring, c.didx] t [(s.entVa c.ring c.didx, n)]
  cases r <;> dsimp only <;> (repeat' split) <;> simp [h1]

@[simp] theorem State.startRun_fuses (s : State) (c : Ctx) : (State.startRun s c).fuses = s.fuses := by
  unfold State.startRun
  (repeat' split) <;> (try rename_i h) <;> (try (have h2 := congrArg (fun z => z.1.fuses) h; simp at h2)) <;>
    simp_all

@[simp] theorem State.nextEntry_fuses (s : State) (c : Ctx) : (State.nextEntry s c).1.fuses = s.fuses := by
  unfold State.nextEntry
  split
  · rfl
  · rcases h : s.dmaRead [3, c.ring, c.didx] (ringTen c.ring) [(c.ents, 16)] with ⟨s1, r⟩
    have h1 : s1.fuses = s.fuses := by
      simpa [h] using s.dmaRead_fuses [3, c.ring, c.didx] (ringTen c.ring) [(c.ents, 16)]
    cases r <;> dsimp only <;> (repeat' split) <;> simp [h1]

@[simp] theorem State.gather_fuses (s : State) (c : Ctx) (room : Nat) (acc : List (Nat × Nat)) (z0 : Nat) : (State.gather s c
    room acc z0).1.fuses = s.fuses := by
  induction z0 generalizing s c room acc with
  | zero => rfl
  | succ f ih =>
    unfold State.gather
    split
    · rfl
    · split
      · split
        · split
          · rfl
          · exact ih ..
        · exact ih ..
      · split
        · rfl
        · rcases h : s.nextEntry c with ⟨s1, r⟩
          have h1 : s1.fuses = s.fuses := by simpa [h] using s.nextEntry_fuses c
          match r with
          | none => exact h1
          | some (.error e) => exact h1
          | some (.ok c1) => exact (ih ..).trans h1

@[simp] theorem State.poolPut_fuses (s : State) (slot : Nat) (bs : List Byte) : (State.poolPut s slot bs).fuses =
    s.fuses := by
  unfold State.poolPut
  simp

@[simp] theorem State.startChunk_fuses (s : State) (g : Nat) : (State.startChunk s g).1.fuses = s.fuses := by
  unfold State.startChunk
  split
  · rfl
  · split
    · rfl
    · rename_i c _
      rcases h : s.gather c s.bufSize [] (s.bufSize / 32 + 4) with ⟨s1, c1, r⟩
      have h1 : s1.fuses = s.fuses := by simpa [h] using s.gather_fuses c s.bufSize [] (s.bufSize / 32 + 4)
      match r with
      | none => exact h1
      | some (.error e) => simp [h1]
      | some (.ok ps) => simp [h1]

@[simp] theorem State.startChunksN_fuses (s : State) (g : Nat) (z0 : Nat) : (State.startChunksN s g z0).fuses = s.fuses := by
  induction z0 generalizing s with
  | zero => rfl
  | succ f ih => unfold State.startChunksN; dsimp only; split <;> simp [ih]

@[simp] theorem State.startChunks_fuses (s : State) (g : Nat) : (State.startChunks s g).fuses = s.fuses := by
  unfold State.startChunks
  simp

@[simp] theorem State.grantAll_fuses (s : State) : (State.grantAll s).fuses = s.fuses := by
  unfold State.grantAll
  simp

@[simp] theorem State.descFetch_fuses (s : State) (ring : Nat) (didx : Nat) : (State.descFetch s ring didx).fuses = s.fuses
    := by
  unfold State.descFetch
  (repeat' split) <;> simp

@[simp] theorem State.descDo_fuses (s : State) (ring : Nat) (didx : Nat) (op : Nat) (f : State → Ctx → State) (hf : ∀ s x0,
    (f s x0).fuses = s.fuses) : (State.descDo s ring didx op f).fuses = s.fuses := by
  unfold State.descDo
  dsimp only
  (repeat' split) <;> simp_all

@[simp] theorem State.loadSize_fuses (s : State) (c : Ctx) : (State.loadSize s c).fuses = s.fuses := by
  unfold State.loadSize
  (repeat' (split <;> (try (rename_i h; have h1 := congrArg Prod.fst h; clear h; dsimp only at h1; subst h1)))) <;>
    simp

@[simp] theorem State.delChunk_fuses (s : State) (c : Chunk) : (State.delChunk s c).fuses = s.fuses := by
  unfold State.delChunk
  simp

@[simp] theorem State.chunkFail_fuses (s : State) (c : Chunk) (st : Nat) (d : Nat) : (State.chunkFail s c st d).fuses =
    s.fuses := by
  unfold State.chunkFail
  dsimp only
  (repeat' split) <;> simp_all

@[simp] theorem State.finishLoad_fuses (s : State) (c : Ctx) : (State.finishLoad s c).fuses = s.fuses := by
  unfold State.finishLoad
  dsimp only
  (repeat' split) <;> simp_all

@[simp] theorem State.drained_fuses (s : State) (c : Chunk) : (State.drained s c).fuses = s.fuses := by
  unfold State.drained
  (repeat' split) <;> simp

@[simp] theorem State.chunkGone_fuses (s : State) (c : Chunk) : (State.chunkGone s c).fuses = s.fuses := by
  unfold State.chunkGone
  simp

@[simp] theorem State.lostRec_fuses (s : State) (c : Nat) : (State.lostRec s c).fuses = s.fuses := by
  unfold State.lostRec
  simp

@[simp] theorem State.issueRec_fuses (s : State) (r : CmpRec) : (State.issueRec s r).1.fuses = s.fuses := by
  unfold State.issueRec
  dsimp only
  (repeat' split) <;> simp_all

@[simp] theorem State.releaseCtx_fuses (s : State) (c : Ctx) : (State.releaseCtx s c).fuses = s.fuses := by
  unfold State.releaseCtx
  simp

@[simp] theorem State.invAccept_fuses (s : State) (w : Nat) (r : InvReq) : (State.invAccept s w r).fuses = s.fuses := by
  unfold State.invAccept
  simp

@[simp] theorem State.invWrite_fuses (s : State) (w : Nat) (word : Nat) (half : Bool) : (State.invWrite s w word half).fuses
    = s.fuses := by
  unfold State.invWrite
  simp

@[simp] theorem State.tcDrop_fuses (s : State) (p : TcEnt → Bool) : (State.tcDrop s p).fuses = s.fuses := by
  unfold State.tcDrop
  simp

@[simp] theorem State.invOne_fuses (s : State) (w : Nat) (last : Option Nat) (r : InvReq) : (State.invOne s w last r).1.fuses
    = s.fuses := by
  unfold State.invOne
  (repeat' split) <;> simp

@[simp] theorem State.invLane_fuses (s : State) (base : List TcEnt) (w : Nat) : (State.invLane s base w).fuses = s.fuses
    := by
  unfold State.invLane
  dsimp only
  (repeat' split) <;> simp_all

@[simp] theorem State.ctxOn_fuses (s : State) (t : Nat) : (State.ctxOn s t).fuses = s.fuses := by
  unfold State.ctxOn
  simp

@[simp] theorem State.atsApply_fuses (s : State) : (State.atsApply s).fuses = s.fuses := by
  unfold State.atsApply
  simp

@[simp] theorem State.applyI1_fuses (s : State) : (State.applyI1 s).fuses = s.fuses := by
  unfold State.applyI1
  simp

@[simp] theorem State.ackLane_fuses (s : State) (w : Nat) (seq : Nat) : (State.ackLane s w seq).fuses = s.fuses := by
  unfold State.ackLane
  simp

@[simp] theorem State.atsComplete_fuses (s : State) (x : Nat × Nat × Nat) : (State.atsComplete s x).fuses = s.fuses := by
  unfold State.atsComplete
  simp

@[simp] theorem State.applyI4_fuses (s : State) : (State.applyI4 s).fuses = s.fuses := by
  unfold State.applyI4
  simp

@[simp] theorem State.loadPins_fuses (s : State) (t : Nat) : (State.loadPins s t).fuses = s.fuses := by
  unfold State.loadPins
  simp

@[simp] theorem State.dropTables_fuses (s : State) (t : Nat) : (State.dropTables s t).fuses = s.fuses := by
  unfold State.dropTables
  simp

@[simp] theorem State.ctxTransfer_fuses (s : State) (t : Nat) (wroteEn : Bool) (moved : Bool) : (State.ctxTransfer s t
    wroteEn moved).fuses = s.fuses := by
  unfold State.ctxTransfer
  simp

@[simp] theorem State.ctxOff_fuses (s : State) (t : Nat) : (State.ctxOff s t).fuses = s.fuses := by
  unfold State.ctxOff
  simp

@[simp] theorem State.pinWalk_fuses (s : State) (t : Nat) (z0 : List Nat) (z1 : List TcEnt) : (State.pinWalk s t z0
    z1).1.fuses = s.fuses := by
  induction z0 generalizing s z1 with
  | nil => rfl
  | cons va rest ih =>
    unfold State.pinWalk
    split
    · split
      · rfl
      · exact ih ..
    · rcases h : (s.walkBegin pinCache 2 t va).walk pinCache 2 t va with ⟨s1, r⟩
      have h1 : s1.fuses = s.fuses := by simpa [h] using (s.walkBegin pinCache 2 t va).walk_fuses pinCache 2 t va
      cases r with
      | wait => exact h1
      | fail x => simp [h1]
      | ok e => dsimp only; split <;> simp [ih, h1]

@[simp] theorem State.fqEdge_fuses (s : State) : (State.fqEdge s).fuses = s.fuses := by
  unfold State.fqEdge
  simp

@[simp] theorem State.fqVisible_fuses (s : State) : (State.fqVisible s).fuses = s.fuses := by
  unfold State.fqVisible
  simp

@[simp] theorem State.tfqPop_fuses (s : State) (tenant : Nat) : (State.tfqPop s tenant).fuses = s.fuses := by
  unfold State.tfqPop
  (repeat' split) <;> simp

@[simp] theorem State.tinvClr_fuses (s : State) (tenant : Nat) : (State.tinvClr s tenant).fuses = s.fuses := by
  unfold State.tinvClr
  simp

@[simp] theorem State.showDebug_fuses (s : State) (scope : Nat) (remain : Nat) : (State.showDebug s scope remain).fuses =
    s.fuses := by
  unfold State.showDebug
  simp

@[simp] theorem State.revokeDebug_fuses (s : State) : (State.revokeDebug s).fuses = s.fuses := by
  unfold State.revokeDebug
  simp

@[simp] theorem State.confOn_fuses (s : State) : (State.confOn s).fuses = s.fuses := by
  unfold State.confOn
  simp

@[simp] theorem State.confOff_fuses (s : State) : (State.confOff s).fuses = s.fuses := by
  unfold State.confOff
  simp

@[simp] theorem State.dropPart_fuses (s : State) (p : Nat) : (State.dropPart s p).fuses = s.fuses := by
  unfold State.dropPart
  simp

@[simp] theorem State.unpair_fuses (s : State) (p : Nat) (st : Nat) : (State.unpair s p st).fuses = s.fuses := by
  unfold State.unpair
  simp

@[simp] theorem State.sendLine_fuses (s : State) (l : Nat) : (State.sendLine s l).fuses = s.fuses := by
  unfold State.sendLine
  simp

@[simp] theorem State.syncNext_fuses (s : State) : (State.syncNext s).fuses = s.fuses := by
  unfold State.syncNext
  (repeat' split) <;> simp

@[simp] theorem State.tdiUnpair_fuses (s : State) (t : Nat) : (State.tdiUnpair s t).fuses = s.fuses := by
  unfold State.tdiUnpair
  (repeat' split) <;> simp

@[simp] theorem State.setTdi_fuses (s : State) (t : Nat) (x : Nat) : (State.setTdi s t x).fuses = s.fuses := by
  unfold State.setTdi
  (repeat' split) <;> simp

@[simp] theorem State.vfReset_fuses (s : State) (fn : Nat) : (State.vfReset s fn).fuses = s.fuses := by
  unfold State.vfReset
  simp

@[simp] theorem State.endReads_fuses (s : State) (fn : Nat) : (State.endReads s fn).fuses = s.fuses := by
  unfold State.endReads
  simp

@[simp] theorem State.enOff_fuses (s : State) (t : Nat) : (State.enOff s t).fuses = s.fuses := by
  unfold State.enOff
  simp

@[simp] theorem State.teardown_fuses (s : State) (t : Nat) : (State.teardown s t).fuses = s.fuses := by
  unfold State.teardown
  simp

@[simp] theorem State.vfFlr_fuses (s : State) (t : Nat) : (State.vfFlr s t).fuses = s.fuses := by
  unfold State.vfFlr
  simp

@[simp] theorem State.tearAll_fuses (s : State) : (State.tearAll s).fuses = s.fuses := by
  unfold State.tearAll
  simp

@[simp] theorem State.ringsOff_fuses (s : State) (t : Nat) : (State.ringsOff s t).fuses = s.fuses := by
  unfold State.ringsOff
  simp

@[simp] theorem State.releaseTenant_fuses (s : State) (t : Nat) : (State.releaseTenant s t).fuses = s.fuses := by
  unfold State.releaseTenant
  simp

@[simp] theorem State.setKeys_fuses (s : State) (o : Nat) (k : Option Nat × Option Nat) (cur : Nat) : (State.setKeys s o k
    cur).fuses = s.fuses := by
  unfold State.setKeys
  simp

@[simp] theorem State.freshKey_fuses (s : State) (o : Nat) (slot : Nat) (cur : Nat) : (State.freshKey s o slot cur).fuses =
    s.fuses := by
  unfold State.freshKey
  simp

@[simp] theorem State.retireKey_fuses (s : State) (o : Nat) : (State.retireKey s o).fuses = s.fuses := by
  unfold State.retireKey
  simp

@[simp] theorem State.keyRefused_fuses (s : State) : (State.keyRefused s).fuses = s.fuses := by
  unfold State.keyRefused
  simp

@[simp] theorem State.rotateCmd_fuses (s : State) (owner : Nat) : (State.rotateCmd s owner).fuses = s.fuses := by
  unfold State.rotateCmd
  simp

@[simp] theorem State.retireCmd_fuses (s : State) (owner : Nat) : (State.retireCmd s owner).fuses = s.fuses := by
  unfold State.retireCmd
  simp

@[simp] theorem State.sweepStep_fuses (s : State) (o : Nat) (n : Nat) : (State.sweepStep s o n).fuses = s.fuses := by
  unfold State.sweepStep
  (repeat' split) <;> simp

@[simp] theorem State.sweepsEnd_fuses (s : State) : (State.sweepsEnd s).fuses = s.fuses := by
  unfold State.sweepsEnd
  simp

@[simp] theorem State.discardLines_fuses (s : State) (rs : List (Nat × Nat)) : (State.discardLines s rs).fuses = s.fuses := by
  unfold State.discardLines
  simp

@[simp] theorem State.scrubStart_fuses (s : State) (o : Nat) : (State.scrubStart s o).fuses = s.fuses := by
  unfold State.scrubStart
  simp

@[simp] theorem State.scrubStep_fuses (s : State) (o : Nat) (n : Nat) : (State.scrubStep s o n).fuses = s.fuses := by
  unfold State.scrubStep
  (repeat' split) <;> simp

@[simp] theorem State.cleanMove_fuses (s : State) : (State.cleanMove s).fuses = s.fuses := by
  unfold State.cleanMove
  simp

@[simp] theorem State.cleanNow_fuses (s : State) : (State.cleanNow s).fuses = s.fuses := by
  unfold State.cleanNow
  simp

@[simp] theorem State.scrubsEnd_fuses (s : State) : (State.scrubsEnd s).fuses = s.fuses := by
  unfold State.scrubsEnd
  simp

@[simp] theorem State.rotateKey_fuses (s : State) (o : Nat) : (State.rotateKey s o).fuses = s.fuses := by
  unfold State.rotateKey
  simp

@[simp] theorem State.keysI2_fuses (s : State) : (State.keysI2 s).fuses = s.fuses := by
  unfold State.keysI2
  simp

@[simp] theorem State.draw_fuses (s : State) : (State.draw s).1.fuses = s.fuses := by
  unfold State.draw
  simp

@[simp] theorem State.unsigned_fuses (s : State) : (State.unsigned s).fuses = s.fuses := by
  unfold State.unsigned
  simp

@[simp] theorem State.tdisp_fuses (s : State) (code : Nat) (tenant : Nat) (args : List Nat) : (State.tdisp s code tenant
    args).fuses = s.fuses := by
  unfold State.tdisp
  simp

@[simp] theorem State.tdispErr_fuses (s : State) (tenant : Nat) : (State.tdispErr s tenant).fuses = s.fuses := by
  unfold State.tdispErr
  simp

@[simp] theorem State.tdiError_fuses (s : State) (t : Nat) : (State.tdiError s t).fuses = s.fuses := by
  unfold State.tdiError
  simp

@[simp] theorem State.tdispFail_fuses (s : State) (t : Nat) : (State.tdispFail s t).fuses = s.fuses := by
  unfold State.tdispFail
  simp

@[simp] theorem State.spdm_fuses (s : State) (code : Nat) (args : List Nat) (data : List Byte) (signed : Option (List Byte))
    : (State.spdm s code args data signed).fuses = s.fuses := by
  unfold State.spdm
  simp

@[simp] theorem State.spdmErr_fuses (s : State) (code : Nat) : (State.spdmErr s code).fuses = s.fuses := by
  unfold State.spdmErr
  simp

@[simp] theorem State.spdmSigned_fuses (s : State) (code : Nat) (args : List Nat) (data : List Byte) (nonce : List Byte) :
    (State.spdmSigned s code args data nonce).fuses = s.fuses := by
  unfold State.spdmSigned
  simp

@[simp] theorem State.tmeasGo_fuses (s : State) (tenant : Nat) : (State.tmeasGo s tenant).fuses = s.fuses := by
  unfold State.tmeasGo
  simp

@[simp] theorem State.tmeasFail_fuses (s : State) (t : Nat) (cause : Nat) : (State.tmeasFail s t cause).fuses = s.fuses := by
  unfold State.tmeasFail
  simp

@[simp] theorem State.wgtI0_fuses (s : State) : (State.wgtI0 s).fuses = s.fuses := by
  unfold State.wgtI0
  simp

@[simp] theorem State.putRepair_fuses (s : State) (vals : NMap Nat) : (State.putRepair s vals).fuses = s.fuses := by
  unfold State.putRepair
  simp

@[simp] theorem State.recordRepair_fuses (s : State) (i : Nat) (x : Nat) : (State.recordRepair s i x).fuses = s.fuses := by
  unfold State.recordRepair
  (repeat' split) <;> simp

@[simp] theorem State.saveRepair_fuses (s : State) : (State.saveRepair s).fuses = s.fuses := by
  unfold State.saveRepair
  (repeat' split) <;> simp

@[simp] theorem State.saveTrain_fuses (s : State) (key : Nat) (x : Nat) : (State.saveTrain s key x).fuses = s.fuses :=
    by
  unfold State.saveTrain
  simp

@[simp] theorem State.showField_fuses (s : State) : (State.showField s).fuses = s.fuses := by
  unfold State.showField
  simp

@[simp] theorem State.zeroBuf_fuses (s : State) : (State.zeroBuf s).fuses = s.fuses := by
  unfold State.zeroBuf
  simp

@[simp] theorem State.lcsEnd_fuses (s : State) (r : Nat) : (State.lcsEnd s r).fuses = s.fuses := by
  unfold State.lcsEnd
  simp

@[simp] theorem State.lcsRun_fuses (s : State) (arg : Option Nat) (f : State → State × Nat) (hf : ∀ s , (f s ).1.fuses =
    s.fuses) : (State.lcsRun s arg f).fuses = s.fuses := by
  unfold State.lcsRun
  (repeat' split) <;> simp_all

@[simp] theorem State.showNonce_fuses (s : State) (n : Option (List Byte)) : (State.showNonce s n).fuses = s.fuses := by
  unfold State.showNonce
  simp

@[simp] theorem State.lcsChallenge_fuses (s : State) : (State.lcsChallenge s).1.fuses = s.fuses := by
  unfold State.lcsChallenge
  dsimp only
  (repeat' split) <;> simp_all

@[simp] theorem State.challenge_fuses (s : State) (route : Nat) : (State.challenge s route).fuses = s.fuses := by
  unfold State.challenge
  (repeat' split) <;> simp

@[simp] theorem State.lcsAuth_fuses (s : State) (b : List Byte) : (State.lcsAuth s b).1.fuses = s.fuses := by
  unfold State.lcsAuth
  dsimp only
  (repeat' split) <;> simp_all

@[simp] theorem State.doAuth_fuses (s : State) (route : Nat) (buf : List Byte) : (State.doAuth s route buf).fuses = s.fuses
    := by
  unfold State.doAuth
  simp

@[simp] theorem State.lcsRevoke_fuses (s : State) : (State.lcsRevoke s).1.fuses = s.fuses := by
  unfold State.lcsRevoke
  (repeat' split) <;> simp

@[simp] theorem State.dbgRevoke_fuses (s : State) (route : Nat) : (State.dbgRevoke s route).fuses = s.fuses := by
  unfold State.dbgRevoke
  (repeat' split) <;> simp

@[simp] theorem State.makeRec_fuses (s : State) (x : ErrRep) : (State.makeRec s x).1.fuses = s.fuses := by
  unfold State.makeRec
  simp

@[simp] theorem State.logRec_fuses (s : State) (r : ErrRec) : (State.logRec s r).fuses = s.fuses := by
  unfold State.logRec
  simp

@[simp] theorem State.logVisible_fuses (s : State) : (State.logVisible s).fuses = s.fuses := by
  unfold State.logVisible
  simp

@[simp] theorem State.showErr_fuses (s : State) : (State.showErr s).fuses = s.fuses := by
  unfold State.showErr
  simp

@[simp] theorem State.countOvf_fuses (s : State) (block : Nat) : (State.countOvf s block).fuses = s.fuses := by
  unfold State.countOvf
  simp

@[simp] theorem State.queueFull_fuses (s : State) (block : Nat) : (State.queueFull s block).fuses = s.fuses := by
  unfold State.queueFull
  simp

@[simp] theorem State.putBack_fuses (s : State) : (State.putBack s).fuses = s.fuses := by
  unfold State.putBack
  dsimp only
  (repeat' split) <;> simp_all

@[simp] theorem State.takeNext_fuses (s : State) : (State.takeNext s).fuses = s.fuses := by
  unfold State.takeNext
  (repeat' split) <;> simp

@[simp] theorem State.enqueue_fuses (s : State) (x : ErrRep) : (State.enqueue s x).fuses = s.fuses := by
  unfold State.enqueue
  simp

@[simp] theorem State.fold_fuses (s : State) (h : ErrRec) : (State.fold s h).fuses = s.fuses := by
  unfold State.fold
  simp

@[simp] theorem State.newRec_fuses (s : State) (x : ErrRep) : (State.newRec s x).fuses = s.fuses := by
  unfold State.newRec
  (repeat' split) <;> simp

@[simp] theorem State.blockCap_fuses (s : State) (block : Nat) (cause : Nat) (unit : Nat) : (State.blockCap s block
    cause unit).fuses = s.fuses := by
  unfold State.blockCap
  dsimp only
  (repeat' split) <;> simp

@[simp] theorem State.countCe_fuses (s : State) (block : Nat) (unit : Nat) : (State.countCe s block unit).fuses =
    s.fuses := by
  unfold State.countCe
  (repeat' split) <;> simp

@[simp] theorem State.logOpen_fuses (s : State) : (State.logOpen s).fuses = s.fuses := by
  unfold State.logOpen
  (repeat' split) <;> simp

@[simp] theorem State.clearCapture_fuses (s : State) (key : Nat) : (State.clearCapture s key).fuses = s.fuses := by
  unfold State.clearCapture
  (repeat' split) <;> simp

@[simp] theorem State.showVariant_fuses (s : State) : (State.showVariant s).fuses = s.fuses := by
  unfold State.showVariant
  simp

@[simp] theorem State.switchVar_fuses (s : State) (p : Nat) (v : Nat) : (State.switchVar s p v).fuses = s.fuses := by
  unfold State.switchVar
  (repeat' split) <;> simp

@[simp] theorem State.degradePart_fuses (s : State) (p : Nat) : (State.degradePart s p).fuses = s.fuses := by
  unfold State.degradePart
  dsimp only
  (repeat' split) <;> simp_all

@[simp] theorem State.setEff_fuses (s : State) (g : GrantRec) (x : Nat) : (State.setEff s g x).fuses = s.fuses := by
  unfold State.setEff
  simp

@[simp] theorem State.takeFrom_fuses (s : State) (z0 : Nat) (z1 : List GrantRec) : (State.takeFrom s z0 z1).fuses = s.fuses
    := by
  induction z1 generalizing s z0 with
  | nil => unfold State.takeFrom; rfl
  | cons g gs ih => unfold State.takeFrom; dsimp only; rw [ih]; split <;> simp

@[simp] theorem State.yieldAt_fuses (s : State) (m : Manifest) (r : Nat) : (State.yieldAt s m r).fuses = s.fuses := by
  unfold State.yieldAt
  simp

@[simp] theorem State.restore_fuses (s : State) (m : Manifest) (g : GrantRec) : (State.restore s m g).fuses = s.fuses := by
  unfold State.restore
  simp

@[simp] theorem State.restoreAll_fuses (s : State) (m : Manifest) : (State.restoreAll s m).fuses = s.fuses := by
  unfold State.restoreAll
  exact foldl_fuses _ (fun s x => by simp) _ _

@[simp] theorem State.showCap_fuses (s : State) (m : Manifest) (cap : Nat → Nat) (r : Nat) : (State.showCap s m cap
    r).fuses = s.fuses := by
  unfold State.showCap
  simp

@[simp] theorem State.noteCaps_fuses (s : State) (cap : Nat → Nat) : (State.noteCaps s cap).fuses = s.fuses := by
  unfold State.noteCaps
  simp

@[simp] theorem State.capsClose_fuses (s : State) : (State.capsClose s).fuses = s.fuses := by
  unfold State.capsClose
  simp

@[simp] theorem State.capI2_fuses (s : State) : (State.capI2 s).fuses = s.fuses := by
  unfold State.capI2
  (repeat' split) <;> simp

@[simp] theorem State.grantsI0_fuses (s : State) (m : Manifest) : (State.grantsI0 s m).fuses = s.fuses := by
  unfold State.grantsI0
  simp

@[simp] theorem State.qosSnapshot_fuses (s : State) (closed : Nat) : (State.qosSnapshot s closed).fuses = s.fuses := by
  unfold State.qosSnapshot
  simp

@[simp] theorem State.qosWipe_fuses (s : State) : (State.qosWipe s).fuses = s.fuses := by
  unfold State.qosWipe
  simp

@[simp] theorem State.escalate_fuses (s : State) (p : Nat) (q : Nat) : (State.escalate s p q).fuses = s.fuses := by
  unfold State.escalate
  simp

@[simp] theorem State.escalateAll_fuses (s : State) : (State.escalateAll s).fuses = s.fuses := by
  unfold State.escalateAll
  simp

@[simp] theorem State.showScale_fuses (s : State) : (State.showScale s).fuses = s.fuses := by
  unfold State.showScale
  simp

@[simp] theorem State.pwrCap_fuses (s : State) (cause : Nat) : (State.pwrCap s cause).fuses = s.fuses := by
  unfold State.pwrCap
  simp

@[simp] theorem State.kaSwitch_fuses (s : State) (src : Nat) : (State.kaSwitch s src).fuses = s.fuses := by
  unfold State.kaSwitch
  simp

@[simp] theorem State.kaShow_fuses (s : State) (mvA : Nat) (mvB : Nat) : (State.kaShow s mvA mvB).fuses = s.fuses := by
  unfold State.kaShow
  simp

@[simp] theorem State.overAct_fuses (s : State) (p : Nat) (energy : Bool) : (State.overAct s p energy).fuses = s.fuses := by
  unfold State.overAct
  simp

@[simp] theorem State.closePart_fuses (s : State) (rails : List Nat) (tiles : List Nat) (r : PartRec) : (State.closePart s
    rails tiles r).fuses = s.fuses := by
  unfold State.closePart
  simp

@[simp] theorem State.askSetpoint_fuses (s : State) : (State.askSetpoint s).fuses = s.fuses := by
  unfold State.askSetpoint
  simp

@[simp] theorem State.closeEnergy_fuses (s : State) (rails : List Nat) (tiles : List Nat) (badMeter : Bool) :
    (State.closeEnergy s rails tiles badMeter).fuses = s.fuses := by
  unfold State.closeEnergy
  simp

@[simp] theorem State.leanOff_fuses (s : State) (p : Nat) : (State.leanOff s p).fuses = s.fuses := by
  unfold State.leanOff
  simp

@[simp] theorem State.leanOn_fuses (s : State) (p : Nat) : (State.leanOn s p).fuses = s.fuses := by
  unfold State.leanOn
  simp

@[simp] theorem State.forceI0_fuses (s : State) : (State.forceI0 s).fuses = s.fuses := by
  unfold State.forceI0
  simp

@[simp] theorem State.guardI0_fuses (s : State) : (State.guardI0 s).fuses = s.fuses := by
  unfold State.guardI0
  simp

@[simp] theorem State.thermI0_fuses (s : State) : (State.thermI0 s).fuses = s.fuses := by
  unfold State.thermI0
  simp

@[simp] theorem State.powerI0_fuses (s : State) (asked : Nat) : (State.powerI0 s asked).fuses = s.fuses := by
  unfold State.powerI0
  simp

@[simp] theorem State.leanEnd_fuses (s : State) (mask : Nat) : (State.leanEnd s mask).fuses = s.fuses := by
  unfold State.leanEnd
  simp

@[simp] theorem State.pwrClr_fuses (s : State) : (State.pwrClr s).fuses = s.fuses := by
  unfold State.pwrClr
  simp

@[simp] theorem State.teCap_fuses (s : State) (tile : Nat) (phys : Nat) (cause : Nat) : (State.teCap s tile phys cause).fuses
    = s.fuses := by
  unfold State.teCap
  (repeat' split) <;> simp

@[simp] theorem State.laneFails_fuses (s : State) (tile : Nat) (j : Nat) : (State.laneFails s tile j).fuses = s.fuses :=
    by
  unfold State.laneFails
  (repeat' split) <;> simp

@[simp] theorem State.becomeFailing_fuses (s : State) (tile : Nat) (phys : Nat) (cause : Nat) : (State.becomeFailing s tile
    phys cause).fuses = s.fuses := by
  unfold State.becomeFailing
  (repeat' split) <;> simp

@[simp] theorem State.markFailed_fuses (s : State) (tile : Nat) (phys : Nat) : (State.markFailed s tile phys).fuses = s.fuses
    := by
  unfold State.markFailed
  simp

@[simp] theorem State.takeLane_fuses (s : State) (tile : Nat) (j : Nat) : (State.takeLane s tile j).fuses = s.fuses := by
  unfold State.takeLane
  simp

@[simp] theorem State.loseLane_fuses (s : State) (tile : Nat) (j : Nat) : (State.loseLane s tile j).fuses = s.fuses := by
  unfold State.loseLane
  simp

@[simp] theorem State.remapFailed_fuses (s : State) (tile : Nat) : (State.remapFailed s tile).fuses = s.fuses := by
  unfold State.remapFailed
  simp

@[simp] theorem State.spareSpent_fuses (s : State) (tile : Nat) : (State.spareSpent s tile).fuses = s.fuses := by
  unfold State.spareSpent
  simp

@[simp] theorem State.takeReq_fuses (s : State) (tile : Nat) (j : Nat) : (State.takeReq s tile j).fuses = s.fuses := by
  unfold State.takeReq
  simp

@[simp] theorem State.returnReq_fuses (s : State) (tile : Nat) (mask : Nat) : (State.returnReq s tile mask).fuses = s.fuses
    := by
  unfold State.returnReq
  (repeat' split) <;> simp

@[simp] theorem State.spareTile_fuses (s : State) (tile : Nat) : (State.spareTile s tile).fuses = s.fuses := by
  unfold State.spareTile
  simp

@[simp] theorem State.sparing_fuses (s : State) : (State.sparing s).fuses = s.fuses := by
  unfold State.sparing
  simp

@[simp] theorem State.spareShadow_fuses (s : State) (tile : Nat) (f : Fld) (x : Nat) : (State.spareShadow s tile f x).fuses =
    s.fuses := by
  unfold State.spareShadow
  simp

@[simp] theorem State.clrFailed_fuses (s : State) (tile : Nat) (mask : Nat) : (State.clrFailed s tile mask).fuses = s.fuses
    := by
  unfold State.clrFailed
  simp

@[simp] theorem State.decidePart_fuses (s : State) (p : Nat) : (State.decidePart s p).fuses = s.fuses := by
  unfold State.decidePart
  simp

@[simp] theorem State.repeatI2_fuses (s : State) (p : Nat) : (State.repeatI2 s p).fuses = s.fuses := by
  unfold State.repeatI2
  simp

@[simp] theorem State.manTo_fuses (s : State) (x : Nat) : (State.manTo s x).fuses = s.fuses := by
  unfold State.manTo
  simp

@[simp] theorem State.showDigest_fuses (s : State) (key : Nat → Nat) (d : Nat) : (State.showDigest s key d).fuses = s.fuses
    := by
  unfold State.showDigest
  simp

@[simp] theorem State.manResult_fuses (s : State) (v : Verdict) (m : Option Manifest) : (State.manResult s v m).fuses =
    s.fuses := by
  unfold State.manResult
  simp

@[simp] theorem State.manDrop_fuses (s : State) (result : Nat) : (State.manDrop s result).fuses = s.fuses := by
  unfold State.manDrop
  simp

@[simp] theorem State.stage_fuses (s : State) : (State.stage s).fuses = s.fuses := by
  unfold State.stage
  simp

@[simp] theorem State.abandon_fuses (s : State) : (State.abandon s).fuses = s.fuses := by
  unfold State.abandon
  simp

@[simp] theorem State.switchCmd_fuses (s : State) : (State.switchCmd s).fuses = s.fuses := by
  unfold State.switchCmd
  simp

@[simp] theorem State.manCheck_fuses (s : State) : (State.manCheck s).fuses = s.fuses := by
  unfold State.manCheck
  (repeat' split) <;> simp

@[simp] theorem State.ctxUndef_fuses (s : State) (t : Nat) : (State.ctxUndef s t).fuses = s.fuses := by
  unfold State.ctxUndef
  simp

@[simp] theorem State.ctxReload_fuses (s : State) (t : Nat) : (State.ctxReload s t).fuses = s.fuses := by
  unfold State.ctxReload
  simp

@[simp] theorem State.ctxOne_fuses (s : State) (old : Manifest) (new : Manifest) (t : TenRec) : (State.ctxOne s old new
    t).fuses = s.fuses := by
  unfold State.ctxOne
  (repeat' split) <;> simp

@[simp] theorem State.ctxCross_fuses (s : State) (old : Manifest) (new : Manifest) : (State.ctxCross s old new).fuses =
    s.fuses := by
  unfold State.ctxCross
  simp

@[simp] theorem State.firstKey_fuses (s : State) (o : Nat) : (State.firstKey s o).fuses = s.fuses := by
  unfold State.firstKey
  simp

@[simp] theorem State.keysCross_fuses (s : State) (old : Option Manifest) (new : Manifest) : (State.keysCross s old
    new).fuses = s.fuses := by
  unfold State.keysCross
  simp

@[simp] theorem State.fixedCross_fuses (s : State) (m : Manifest) : (State.fixedCross s m).fuses = s.fuses := by
  unfold State.fixedCross
  simp

@[simp] theorem State.partsCross_fuses (s : State) (m : Manifest) : (State.partsCross s m).fuses = s.fuses := by
  unfold State.partsCross
  simp

@[simp] theorem State.voyagesCross_fuses (s : State) (m : Manifest) : (State.voyagesCross s m).fuses = s.fuses := by
  unfold State.voyagesCross
  simp

@[simp] theorem State.crossNow_fuses (s : State) (m : Manifest) : (State.crossNow s m).fuses = s.fuses := by
  unfold State.crossNow
  dsimp only
  (repeat' split) <;> simp_all

@[simp] theorem State.ferryCrossing_fuses (s : State) (m : Manifest) : (State.ferryCrossing s m).fuses = s.fuses := by
  unfold State.ferryCrossing
  (repeat' split) <;> simp

@[simp] theorem State.crossI2_fuses (s : State) (due : Bool) (again : Verdict) : (State.crossI2 s due again).fuses = s.fuses
    := by
  unfold State.crossI2
  (repeat' split) <;> simp

@[simp] theorem State.underput_fuses (s : State) (key : Nat) (f : Fld) (x : Nat) : (State.underput s key f x).fuses =
    s.fuses := by
  unfold State.underput
  simp

@[simp] theorem State.loadRegs_fuses (s : State) (m : Manifest) : (State.loadRegs s m).fuses = s.fuses := by
  unfold State.loadRegs
  simp

@[simp] theorem State.enterTable_fuses (s : State) (m : Manifest) (p : Nat) : (State.enterTable s m p).fuses = s.fuses := by
  unfold State.enterTable
  (repeat' split) <;> simp

@[simp] theorem State.crossI0_fuses (s : State) : (State.crossI0 s).fuses = s.fuses := by
  unfold State.crossI0
  (repeat' split) <;> simp

@[simp] theorem State.crossShadow_fuses (s : State) : (State.crossShadow s).fuses = s.fuses := by
  unfold State.crossShadow
  simp

@[simp] theorem State.setCh_fuses (s : State) (p : Nat) (c : Nat) (st : Nat) (serves : Nat) : (State.setCh s p c st
    serves).fuses = s.fuses := by
  unfold State.setCh
  simp

@[simp] theorem State.showSpares_fuses (s : State) (p : Nat) : (State.showSpares s p).fuses = s.fuses := by
  unfold State.showSpares
  simp

@[simp] theorem State.chInvalid_fuses (s : State) (p : Nat) (lc : Nat) : (State.chInvalid s p lc).fuses = s.fuses := by
  unfold State.chInvalid
  simp

@[simp] theorem State.showChans_fuses (s : State) (p : Nat) : (State.showChans s p).fuses = s.fuses := by
  unfold State.showChans
  simp

@[simp] theorem State.copyStart_fuses (s : State) (p : Nat) (c : Nat) : (State.copyStart s p c).fuses = s.fuses := by
  unfold State.copyStart
  (repeat' split) <;> simp

@[simp] theorem State.copyNext_fuses (s : State) (p : Nat) : (State.copyNext s p).fuses = s.fuses := by
  unfold State.copyNext
  (repeat' split) <;> simp

@[simp] theorem State.remapCh_fuses (s : State) (p : Nat) (c : Nat) : (State.remapCh s p c).fuses = s.fuses := by
  unfold State.remapCh
  (repeat' split) <;> simp

@[simp] theorem State.copyAsk_fuses (s : State) (p : Nat) (c : Nat) : (State.copyAsk s p c).fuses = s.fuses := by
  unfold State.copyAsk
  simp

@[simp] theorem State.chSilent_fuses (s : State) (p : Nat) (c : Nat) : (State.chSilent s p c).fuses = s.fuses := by
  unfold State.chSilent
  dsimp only
  (repeat' split) <;> simp_all

@[simp] theorem State.targetFail_fuses (s : State) (p : Nat) (c : Nat) : (State.targetFail s p c).fuses = s.fuses := by
  unfold State.targetFail
  dsimp only
  (repeat' split) <;> simp_all

@[simp] theorem State.chFail_fuses (s : State) (p : Nat) (c : Nat) (cause : Nat) (silent : Bool) : (State.chFail s p c
    cause silent).fuses = s.fuses := by
  unfold State.chFail
  simp

@[simp] theorem State.takeOut_fuses (s : State) (p : Nat) (cause : Nat) : (State.takeOut s p cause).fuses = s.fuses := by
  unfold State.takeOut
  simp

@[simp] theorem State.stackShow_fuses (s : State) (p : Nat) (y : Nat) : (State.stackShow s p y).fuses = s.fuses := by
  unfold State.stackShow
  simp

@[simp] theorem State.lrsReset_fuses (s : State) (p : Nat) (mism : Nat) : (State.lrsReset s p mism).fuses = s.fuses := by
  unfold State.lrsReset
  simp

@[simp] theorem State.lrsClr_fuses (s : State) (p : Nat) : (State.lrsClr s p).fuses = s.fuses := by
  unfold State.lrsClr
  simp

@[simp] theorem State.lrsI0_fuses (s : State) (p : Nat) : (State.lrsI0 s p).fuses = s.fuses := by
  unfold State.lrsI0
  dsimp only
  (repeat' split) <;> simp_all

@[simp] theorem State.takeCh_fuses (s : State) (p : Nat) (x : Nat × Nat × Bool) : (State.takeCh s p x).fuses = s.fuses := by
  unfold State.takeCh
  simp

@[simp] theorem State.loseCh_fuses (s : State) (p : Nat) (c : Nat) : (State.loseCh s p c).fuses = s.fuses := by
  unfold State.loseCh
  simp

@[simp] theorem State.freeI2_fuses (s : State) (p : Nat) (c : Nat) : (State.freeI2 s p c).fuses = s.fuses := by
  unfold State.freeI2
  (repeat' split) <;> simp

@[simp] theorem State.lrsI2_fuses (s : State) (p : Nat) : (State.lrsI2 s p).fuses = s.fuses := by
  unfold State.lrsI2
  simp

@[simp] theorem State.lineCe_fuses (s : State) (l : Nat) : (State.lineCe s l).fuses = s.fuses := by
  unfold State.lineCe
  dsimp only
  (repeat' split) <;> simp_all

@[simp] theorem State.lineUe_fuses (s : State) (l : Nat) (tenant : Option Nat) : (State.lineUe s l tenant).fuses =
    s.fuses := by
  unfold State.lineUe
  dsimp only
  (repeat' split) <;> simp_all

@[simp] theorem State.fabMsg_fuses (s : State) (m : FMsg) : (State.fabMsg s m).fuses = s.fuses := by
  unfold State.fabMsg
  simp

@[simp] theorem State.reply_fuses (s : State) (kind : Nat) (m : MemReq) (cause : Nat) (d : Line) (dmg : Bool) :
    (State.reply s kind m cause d dmg).fuses = s.fuses := by
  unfold State.reply
  simp

@[simp] theorem State.mdata_fuses (s : State) (m : MemReq) (d : Line) : (State.mdata s m d).fuses = s.fuses := by
  unfold State.mdata
  simp

@[simp] theorem State.mwrAck_fuses (s : State) (m : MemReq) : (State.mwrAck s m).fuses = s.fuses := by
  unfold State.mwrAck
  simp

@[simp] theorem State.fabErr_fuses (s : State) (m : MemReq) (cause : Nat) : (State.fabErr s m cause).fuses = s.fuses :=
    by
  unfold State.fabErr
  simp

@[simp] theorem State.mlost_fuses (s : State) (m : MemReq) : (State.mlost s m).fuses = s.fuses := by
  unfold State.mlost
  simp

@[simp] theorem State.relayOne_fuses (s : State) (r : RRead) : (State.relayOne s r).fuses = s.fuses := by
  unfold State.relayOne
  (repeat' split) <;> simp

@[simp] theorem State.relay_fuses (s : State) : (State.relay s).fuses = s.fuses := by
  unfold State.relay
  simp

@[simp] theorem State.nodeAnswer_fuses (s : State) (node : Nat) (tag : Nat) (d : Option (List Byte)) : (State.nodeAnswer s
    node tag d).fuses = s.fuses := by
  unfold State.nodeAnswer
  (repeat' split) <;> simp

@[simp] theorem State.ackOne_fuses (s : State) (w : RWrite) (ok : Bool) : (State.ackOne s w ok).fuses = s.fuses := by
  unfold State.ackOne
  simp

@[simp] theorem State.nodeAck_fuses (s : State) (node : Nat) (tag : Nat) (ok : Bool) : (State.nodeAck s node tag ok).fuses =
    s.fuses := by
  unfold State.nodeAck
  (repeat' split) <;> simp

@[simp] theorem State.noData_fuses (s : State) (r : LineRes) (m : MemReq) : (State.noData s r m).fuses = s.fuses := by
  unfold State.noData
  (repeat' split) <;> simp

@[simp] theorem State.memAbsent_fuses (s : State) (m : MemReq) : (State.memAbsent s m).fuses = s.fuses := by
  unfold State.memAbsent
  (repeat' split) <;> simp

@[simp] theorem State.mrd_fuses (s : State) (m : MemReq) : (State.mrd s m).fuses = s.fuses := by
  unfold State.mrd
  dsimp only
  (repeat' split) <;> simp_all

@[simp] theorem State.wrAnswer_fuses (s : State) (r : LineRes) (m : MemReq) : (State.wrAnswer s r m).fuses = s.fuses :=
    by
  cases r with
  | ok d => exact State.mwrAck_fuses ..
  | lost => exact (State.fabErr_fuses ..).trans (State.homeErr_fuses ..)
  | _ => exact (State.mwrAck_fuses ..).trans (State.homeErr_fuses ..)

@[simp] theorem State.mwr_fuses (s : State) (m : MemReq) : (State.mwr s m).fuses = s.fuses := by
  unfold State.mwr
  (repeat' split) <;> simp

@[simp] theorem State.memServe_fuses (s : State) (m : MemReq) : (State.memServe s m).fuses = s.fuses := by
  unfold State.memServe
  (repeat' split) <;> simp

@[simp] theorem State.toCtrl_fuses (s : State) (m : MemReq) : (State.toCtrl s m).fuses = s.fuses := by
  unfold State.toCtrl
  (repeat' split) <;> simp

@[simp] theorem State.memSend_fuses (s : State) (m : MemReq) : (State.memSend s m).fuses = s.fuses := by
  unfold State.memSend
  (repeat' split) <;> simp

@[simp] theorem State.fabTake_fuses (s : State) (m : FMsg) : (State.fabTake s m).fuses = s.fuses := by
  unfold State.fabTake
  simp

@[simp] theorem State.octCap_fuses (s : State) (router : Nat) (cause : Nat) : (State.octCap s router cause).fuses = s.fuses
    := by
  unfold State.octCap
  simp

@[simp] theorem State.setPort_fuses (s : State) (r : Nat) (p : Nat) (x : Nat) : (State.setPort s r p x).fuses = s.fuses := by
  unfold State.setPort
  simp

@[simp] theorem State.setLink_fuses (s : State) (r : Nat) (p : Nat) (x : Nat) : (State.setLink s r p x).fuses = s.fuses := by
  unfold State.setLink
  (repeat' split) <;> simp

@[simp] theorem State.routeI2_fuses (s : State) : (State.routeI2 s).fuses = s.fuses := by
  unfold State.routeI2
  (repeat' split) <;> simp

@[simp] theorem State.damage_fuses (s : State) (router : Nat) (tag : Nat) : (State.damage s router tag).fuses = s.fuses := by
  unfold State.damage
  simp

@[simp] theorem State.deliver_fuses (s : State) (z0 : HPkt) : (State.deliver s z0).fuses = s.fuses := by
  induction z0 generalizing s <;> (unfold State.deliver; simp_all)

@[simp] theorem State.domUp_fuses (s : State) (d : Nat) : (State.domUp s d).fuses = s.fuses := by
  unfold State.domUp
  simp

@[simp] theorem State.flushTile_fuses (s : State) (t : Nat) : (State.flushTile s t).fuses = s.fuses := by
  unfold State.flushTile
  simp

@[simp] theorem State.teSleep_fuses (s : State) (x : Nat) : (State.teSleep s x).fuses = s.fuses := by
  unfold State.teSleep
  simp

@[simp] theorem State.sleepOne_fuses (s : State) (wake : Nat → Bool) (d : Nat) : (State.sleepOne s wake d).fuses = s.fuses := by
  unfold State.sleepOne
  simp

@[simp] theorem State.teRest_fuses (s : State) (k : Nat) : (State.teRest s k).fuses = s.fuses := by
  unfold State.teRest
  simp

@[simp] theorem State.sleepI0_fuses (s : State) : (State.sleepI0 s).fuses = s.fuses := by
  rw [State.sleepI0]
  simp

@[simp] theorem State.wakeNext_fuses (s : State) : (State.wakeNext s).fuses = s.fuses := by
  unfold State.wakeNext
  simp

@[simp] theorem State.showTc_fuses (s : State) (p : Nat) (x : Nat) : (State.showTc s p x).fuses = s.fuses := by
  unfold State.showTc
  simp

@[simp] theorem State.teClr_fuses (s : State) (k : Nat) : (State.teClr s k).fuses = s.fuses := by
  unfold State.teClr
  simp

@[simp] theorem State.teFlagsClr_fuses (s : State) (k : Nat) : (State.teFlagsClr s k).fuses = s.fuses := by
  unfold State.teFlagsClr
  simp

@[simp] theorem State.resetI2_fuses (s : State) : (State.resetI2 s).fuses = s.fuses := by
  unfold State.resetI2
  simp

@[simp] theorem State.prstAnswer_fuses (s : State) (part : Nat) (dst : Nat) (tag : Nat) (qc : Nat) : (State.prstAnswer s
    part dst tag qc).fuses = s.fuses := by
  unfold State.prstAnswer
  simp

@[simp] theorem State.octClr_fuses (s : State) : (State.octClr s).fuses = s.fuses := by
  unfold State.octClr
  simp

@[simp] theorem State.cohClr_fuses (s : State) : (State.cohClr s).fuses = s.fuses := by
  unfold State.cohClr
  simp

@[simp] theorem State.tileClr_fuses (s : State) (t : Nat) : (State.tileClr s t).fuses = s.fuses := by
  unfold State.tileClr
  simp

@[simp] theorem State.regimeI0_fuses (s : State) : (State.regimeI0 s).fuses = s.fuses := by
  unfold State.regimeI0
  simp

@[simp] theorem State.rowI2_fuses (s : State) : (State.rowI2 s).fuses = s.fuses := by
  unfold State.rowI2
  simp

@[simp] theorem State.wayLineLost_fuses (s : State) (slice : Nat) (l : Nat) : (State.wayLineLost s slice l).fuses =
    s.fuses := by
  unfold State.wayLineLost
  simp

@[simp] theorem State.shrink_fuses (s : State) (h : Nat) : (State.shrink s h).fuses = s.fuses := by
  unfold State.shrink
  simp

@[simp] theorem State.wayLose_fuses (s : State) (slice : Nat) (way : Nat) : (State.wayLose s slice way).fuses = s.fuses
    := by
  unfold State.wayLose
  simp

@[simp] theorem State.wayI2_fuses (s : State) : (State.wayI2 s).fuses = s.fuses := by
  unfold State.wayI2
  simp

@[simp] theorem State.fordCap_fuses (s : State) (src : Nat) (dst : Nat) (cause : Nat) : (State.fordCap s src dst cause).fuses
    = s.fuses := by
  unfold State.fordCap
  simp

@[simp] theorem State.lateBoundary_fuses (s : State) : (State.lateBoundary s).fuses = s.fuses := by
  unfold State.lateBoundary
  simp

@[simp] theorem State.domReady_fuses (s : State) (d : Nat) : (State.domReady s d).fuses = s.fuses := by
  unfold State.domReady
  simp

@[simp] theorem State.fordClr_fuses (s : State) : (State.fordClr s).fuses = s.fuses := by
  unfold State.fordClr
  simp

@[simp] theorem State.slipTo_fuses (s : State) (v : Nat) (x : Nat) : (State.slipTo s v x).fuses = s.fuses := by
  unfold State.slipTo
  simp

@[simp] theorem State.readLost_fuses (s : State) (r : RRead) (block : Nat) (cause : Nat) (unit : Nat) : (State.readLost s r
    block cause unit).fuses = s.fuses := by
  unfold State.readLost
  simp

@[simp] theorem State.failNode_fuses (s : State) (node : Nat) (block : Nat) (cause : Nat) (unit : Nat) : (State.failNode
    s node block cause unit).fuses = s.fuses := by
  unfold State.failNode
  simp

@[simp] theorem State.slipDown_fuses (s : State) (v : Nat) (cause : Nat) : (State.slipDown s v cause).fuses = s.fuses := by
  unfold State.slipDown
  simp

@[simp] theorem State.slipBreach_fuses (s : State) (v : Nat) : (State.slipBreach s v).fuses = s.fuses := by
  unfold State.slipBreach
  simp

@[simp] theorem State.slipRetrain_fuses (s : State) (v : Nat) : (State.slipRetrain s v).fuses = s.fuses := by
  unfold State.slipRetrain
  simp

@[simp] theorem State.windowsI0_fuses (s : State) : (State.windowsI0 s).fuses = s.fuses := by
  unfold State.windowsI0
  simp

@[simp] theorem State.slipMsg_fuses (s : State) (v : Nat) (h : OHdr) (kind : Nat) (cause : Nat) (d : Line) :
    (State.slipMsg s v h kind cause d).fuses = s.fuses := by
  unfold State.slipMsg
  simp

@[simp] theorem State.slipDeliver_fuses (s : State) (v : Nat) (h : OHdr) (d : Line) : (State.slipDeliver s v h d).fuses
    = s.fuses := by
  unfold State.slipDeliver
  (repeat' split) <;> simp

@[simp] theorem State.slipPump_fuses (s : State) (v : Nat) (z0 : Nat) : (State.slipPump s v z0).fuses = s.fuses := by
  induction z0 generalizing s with
  | zero => rfl
  | succ f ih => unfold State.slipPump; split <;> simp [ih]

@[simp] theorem State.slipHdr_fuses (s : State) (v : Nat) (h : OHdr) : (State.slipHdr s v h).fuses = s.fuses := by
  unfold State.slipHdr
  simp

@[simp] theorem State.slipSlot_fuses (s : State) (v : Nat) (n : Nat) : (State.slipSlot s v n).fuses = s.fuses := by
  unfold State.slipSlot
  (repeat' split) <;> simp

@[simp] theorem State.slipReplay_fuses (s : State) (v : Nat) : (State.slipReplay s v).fuses = s.fuses := by
  unfold State.slipReplay
  simp

@[simp] theorem State.flitBad_fuses (s : State) (v : Nat) : (State.flitBad s v).fuses = s.fuses := by
  unfold State.flitBad
  simp

@[simp] theorem State.slipResend_fuses (s : State) (v : Nat) (fseq : Nat) : (State.slipResend s v fseq).fuses = s.fuses := by
  unfold State.slipResend
  simp

@[simp] theorem State.slipTrim_fuses (s : State) (v : Nat) : (State.slipTrim s v).fuses = s.fuses := by
  unfold State.slipTrim
  simp

@[simp] theorem State.flitGood_fuses (s : State) (v : Nat) (b : List Byte) (head : Bool) : (State.flitGood s v b head).fuses
    = s.fuses := by
  unfold State.flitGood
  simp

@[simp] theorem State.slipRate_fuses (s : State) (v : Nat) (rate : Nat) (mods : Nat) : (State.slipRate s v rate mods).fuses =
    s.fuses := by
  unfold State.slipRate
  simp

@[simp] theorem State.slipTrain_fuses (s : State) (v : Nat) : (State.slipTrain s v).fuses = s.fuses := by
  unfold State.slipTrain
  simp

@[simp] theorem State.slipRetry_fuses (s : State) (v : Nat) : (State.slipRetry s v).fuses = s.fuses := by
  unfold State.slipRetry
  simp

@[simp] theorem State.showDesc_fuses (s : State) (v : Nat) (b : List Byte) : (State.showDesc s v b).fuses = s.fuses := by
  unfold State.showDesc
  simp

@[simp] theorem State.trainSlip_fuses (s : State) (v : Nat) (b : List Byte) : (State.trainSlip s v b).fuses = s.fuses :=
    by
  unfold State.trainSlip
  simp

@[simp] theorem State.slipFound_fuses (s : State) (v : Nat) (rate : Nat) (mods : Nat) (link : Bool) (b : List Byte) :
    (State.slipFound s v rate mods link b).1.fuses = s.fuses := by
  unfold State.slipFound
  simp

@[simp] theorem State.slipI2_fuses (s : State) (v : Nat) : (State.slipI2 s v).fuses = s.fuses := by
  unfold State.slipI2
  simp

@[simp] theorem State.slipClr_fuses (s : State) (slip : Nat) : (State.slipClr s slip).fuses = s.fuses := by
  unfold State.slipClr
  simp

@[simp] theorem State.enter_fuses (s : State) (st : Stage) (off : Nat) (phase : Nat) : (State.enter s st off phase).fuses =
    s.fuses := by
  unfold State.enter
  simp

@[simp] theorem State.voidCtxs_fuses (s : State) : (State.voidCtxs s).fuses = s.fuses := by
  unfold State.voidCtxs
  simp

@[simp] theorem State.voidLegs_fuses (s : State) : (State.voidLegs s).fuses = s.fuses := by
  unfold State.voidLegs
  simp

@[simp] theorem State.issueRecs_fuses (s : State) (l : List CmpRec) : (State.issueRecs s l).1.fuses = s.fuses := by
  unfold State.issueRecs
  refine foldl_fst_fuses _ (fun p o => ?_) l (s, 0, [])
  dsimp only
  split
  · split <;> simp
  · rfl

@[simp] theorem State.commitRecs_fuses (s : State) (fit : Nat) : (State.commitRecs s fit).fuses = s.fuses := by
  unfold State.commitRecs
  (repeat' split) <;> simp

@[simp] theorem State.twinCommit_fuses (s : State) : (State.twinCommit s).fuses = s.fuses := by
  unfold State.twinCommit
  simp

@[simp] theorem State.reissue_fuses (s : State) : (State.reissue s).fuses = s.fuses := by
  unfold State.reissue
  simp

@[simp] theorem State.setPend_fuses (s : State) (fn : Nat) (v : Nat) (x : Nat) : (State.setPend s fn v x).fuses = s.fuses := by
  unfold State.setPend
  simp

@[simp] theorem State.judge_fuses (s : State) (fn : Nat) (v : Nat) : (State.judge s fn v).1.fuses = s.fuses := by
  unfold State.judge
  (repeat' split) <;> simp

@[simp] theorem State.judgeAll_fuses (s : State) (l : List (Nat × Nat)) : (State.judgeAll s l).1.fuses = s.fuses := by
  unfold State.judgeAll
  simp

@[simp] theorem State.lateVecs_fuses (s : State) (l : List (Nat × Nat)) : (State.lateVecs s l).fuses = s.fuses := by
  unfold State.lateVecs
  simp

@[simp] theorem State.issueSpill_fuses (s : State) (n : Nat) : (State.issueSpill s n).fuses = s.fuses := by
  unfold State.issueSpill
  simp

@[simp] theorem State.fire_fuses (s : State) (o : Out) : (State.fire s o).1.fuses = s.fuses := by
  unfold State.fire
  dsimp only
  (repeat' split) <;> simp_all

@[simp] theorem State.fireAll_fuses (s : State) (l : List Out) : (State.fireAll s l).1.fuses = s.fuses := by
  unfold State.fireAll
  simp

@[simp] theorem State.fireSpill_fuses (s : State) (n : Nat) : (State.fireSpill s n).fuses = s.fuses := by
  unfold State.fireSpill
  (repeat' split) <;> simp

@[simp] theorem State.commitC1_fuses (s : State) (fit : Nat) : (State.commitC1 s fit).fuses = s.fuses := by
  unfold State.commitC1
  simp

@[simp] theorem State.commitC2_fuses (s : State) (fit : Nat) : (State.commitC2 s fit).fuses = s.fuses := by
  unfold State.commitC2
  simp

@[simp] theorem State.commitSpill_fuses (s : State) (n : Nat) : (State.commitSpill s n).fuses = s.fuses := by
  unfold State.commitSpill
  simp

@[simp] theorem State.storeRemote_fuses (s : State) (k : Nat) (id : Nat) (part : Nat) (tenant : Nat) (ps : List (Nat ×
    Nat × Nat)) : (State.storeRemote s k id part tenant ps).fuses = s.fuses := by
  unfold State.storeRemote
  simp

@[simp] theorem State.storeLog_fuses (s : State) (key : Nat) (part : Nat) (l : List (Nat × List Byte)) : (State.storeLog s
    key part l).fuses = s.fuses := by
  unfold State.storeLog
  simp

@[simp] theorem State.movWait_fuses (s : State) (k : Nat) (r : LegRun) : (State.movWait s k r).fuses = s.fuses := by
  unfold State.movWait
  (repeat' split) <;> simp

@[simp] theorem State.movMem_fuses (s : State) (k : Nat) (r : LegRun) (w : Nat) : (State.movMem s k r w).fuses = s.fuses
    := by
  unfold State.movMem
  dsimp only
  (repeat' split) <;> simp_all

@[simp] theorem State.issueMem_fuses (s : State) (k : Nat) (op : Nat) : (State.issueMem s k op).fuses = s.fuses := by
  unfold State.issueMem
  (repeat' split) <;> simp

@[simp] theorem State.issueLocal_fuses (s : State) (k : Nat) (op : Nat) : (State.issueLocal s k op).fuses = s.fuses := by
  unfold State.issueLocal
  (repeat' split) <;> simp

@[simp] theorem State.scatter_fuses (s : State) (k : Nat) (z0 : List (Nat × Nat × Nat)) (z1 : List (List Byte × Bool)) :
    (State.scatter s k z0 z1).fuses = s.fuses := by
  induction z0 generalizing s z1 with
  | nil => unfold State.scatter; rfl
  | cons p rest ih =>
    obtain ⟨_, h, _⟩ := p
    cases z1 with
    | nil => rfl
    | cons x xs => unfold State.scatter; rw [ih]; split <;> simp

@[simp] theorem State.movFill_fuses (s : State) (k : Nat) (part : Nat) (m : MovX) : (State.movFill s k part m).fuses =
    s.fuses := by
  unfold State.movFill
  simp

@[simp] theorem State.movSpill_fuses (s : State) (k : Nat) (part : Nat) (m : MovX) : (State.movSpill s k part m).fuses =
    s.fuses := by
  unfold State.movSpill
  simp

@[simp] theorem State.movInside_fuses (s : State) (k : Nat) (m : MovX) : (State.movInside s k m).fuses = s.fuses := by
  unfold State.movInside
  simp

@[simp] theorem State.movOpen_fuses (s : State) (k : Nat) (m : MovX) : (State.movOpen s k m).fuses = s.fuses := by
  unfold State.movOpen
  (repeat' split) <;> simp

@[simp] theorem State.movDo_fuses (s : State) (k : Nat) (part : Nat) (m : MovX) : (State.movDo s k part m).fuses = s.fuses := by
  unfold State.movDo
  simp

@[simp] theorem State.putElems_fuses (s : State) (k : Nat) (a : Nat) (f : CFmt) (cs : List Nat) : (State.putElems s k a f
    cs).fuses = s.fuses := by
  unfold State.putElems
  (repeat' split) <;> simp

@[simp] theorem State.putScale_fuses (s : State) (k : Nat) (a : Nat) (q : Option Nat) : (State.putScale s k a q).fuses =
    s.fuses := by
  unfold State.putScale
  (repeat' split) <;> simp

@[simp] theorem State.cvtDo_fuses (s : State) (k : Nat) (rule : State → CvtI → CFmt → CFmt → List FVal → List Conv × Evts ×
    Option Nat) (r : LegRun) (w : Nat) : (State.cvtDo s k rule r w).1.fuses = s.fuses := by
  unfold State.cvtDo
  dsimp only
  (repeat' split) <;> simp_all

@[simp] theorem State.cvt_fuses (s : State) (k : Nat) (op : Nat) (rule : State → CvtI → CFmt → CFmt → List FVal → List Conv ×
    Evts × Option Nat) : (State.cvt s k op rule).fuses = s.fuses := by
  unfold State.cvt
  simp

@[simp] theorem State.cutIns_fuses (s : State) (k : Nat) : (State.cutIns s k).fuses = s.fuses := by
  unfold State.cutIns
  (repeat' split) <;> simp

@[simp] theorem State.cutLeg_fuses (s : State) (k : Nat) : (State.cutLeg s k).fuses = s.fuses := by
  unfold State.cutLeg
  dsimp only
  (repeat' split) <;> simp_all

@[simp] theorem State.takeBlock_fuses (s : State) (k : Nat) : (State.takeBlock s k).fuses = s.fuses := by
  unfold State.takeBlock
  dsimp only
  (repeat' split) <;> simp_all

@[simp] theorem State.feed_fuses (s : State) (k : Nat) (z0 : Nat) : (State.feed s k z0).fuses = s.fuses := by
  induction z0 generalizing s with
  | zero => rfl
  | succ f ih => unfold State.feed; simp [ih]

@[simp] theorem State.mmaStart_fuses (s : State) (k : Nat) (cyc : Nat) (r : LegRun) (m : MmaI) (mm : MmaMode) (own :
    List StrBlk) : (State.mmaStart s k cyc r m mm own).fuses = s.fuses := by
  unfold State.mmaStart
  simp

@[simp] theorem State.streamOf_fuses (s : State) (k : Nat) (r : LegRun) (z0 : List PfEntry) : (State.streamOf s k r
    z0).1.fuses = s.fuses := by
  induction z0 generalizing s with
  | nil => rfl
  | cons f fs ih =>
    unfold State.streamOf
    dsimp only
    (repeat' split) <;> simp [ih]

@[simp] theorem State.streamOn_fuses (s : State) (k : Nat) (r : LegRun) : (State.streamOn s k r).fuses = s.fuses := by
  unfold State.streamOn
  simp

@[simp] theorem State.mmaIssue_fuses (s : State) (k : Nat) (cyc : Nat) (r : LegRun) (w : Nat) : (State.mmaIssue s k cyc
    r w).fuses = s.fuses := by
  unfold State.mmaIssue
  dsimp only
  (repeat' split) <;> simp_all

@[simp] theorem State.mmaSkip_fuses (s : State) (k : Nat) (r : LegRun) (w : Nat) : (State.mmaSkip s k r w).fuses = s.fuses := by
  unfold State.mmaSkip
  dsimp only
  (repeat' split) <;> simp_all

@[simp] theorem State.mma_fuses (s : State) (k : Nat) (cyc : Nat) (op : Nat) : (State.mma s k cyc op).fuses = s.fuses :=
    by
  unfold State.mma
  (repeat' split) <;> simp

@[simp] theorem State.transfer_fuses (s : State) : (State.transfer s).fuses = s.fuses := by
  unfold State.transfer
  simp

@[simp] theorem State.intakeTakes_fuses (s : State) : (State.intakeTakes s).fuses = s.fuses := by
  unfold State.intakeTakes
  simp

@[simp] theorem State.bindLoads_fuses (s : State) : (State.bindLoads s).fuses = s.fuses := by
  unfold State.bindLoads
  simp

@[simp] theorem State.dropBinds_fuses (s : State) (t : Nat) : (State.dropBinds s t).fuses = s.fuses := by
  unfold State.dropBinds
  simp

@[simp] theorem State.dropWgt_fuses (s : State) (t : Nat) : (State.dropWgt s t).fuses = s.fuses := by
  unfold State.dropWgt
  simp

@[simp] theorem State.tearI0_fuses (s : State) : (State.tearI0 s).fuses = s.fuses := by
  unfold State.tearI0
  simp

@[simp] theorem State.ltrIf_fuses (s : State) (old : Nat) : (State.ltrIf s old).fuses = s.fuses := by
  unfold State.ltrIf
  simp

@[simp] theorem State.measI0_fuses (s : State) : (State.measI0 s).fuses = s.fuses := by
  unfold State.measI0
  (repeat' split) <;> simp

@[simp] theorem State.vfReady_fuses (s : State) : (State.vfReady s).fuses = s.fuses := by
  unfold State.vfReady
  simp

@[simp] theorem State.showSlot_fuses (s : State) : (State.showSlot s).fuses = s.fuses := by
  unfold State.showSlot
  simp

@[simp] theorem State.intakeI0_fuses (s : State) : (State.intakeI0 s).fuses = s.fuses := by
  rw [State.intakeI0]
  simp

@[simp] theorem State.edge_fuses (s : State) (unfin : Bool) : (State.edge s unfin).fuses = s.fuses := by
  unfold State.edge
  simp

@[simp] theorem State.ferryBegin_fuses (s : State) : (State.ferryBegin s).fuses = s.fuses := by
  unfold State.ferryBegin
  (repeat' split) <;> simp

@[simp] theorem State.intakeI2_fuses (s : State) (unfin : Bool) : (State.intakeI2 s unfin).fuses = s.fuses := by
  unfold State.intakeI2
  simp

@[simp] theorem State.countLate_fuses (s : State) : (State.countLate s).fuses = s.fuses := by
  unfold State.countLate
  simp

@[simp] theorem State.planLeg_fuses (s : State) (p : Nat) (b : SlotBlk) (x : Nat × Nat × LegEntry) : (State.planLeg s p b
    x).fuses = s.fuses := by
  unfold State.planLeg
  dsimp only
  (repeat' split) <;> simp_all

@[simp] theorem State.countDefer_fuses (s : State) (p : Nat) (b : SlotBlk) : (State.countDefer s p b).fuses = s.fuses := by
  unfold State.countDefer
  simp

@[simp] theorem State.carryOne_fuses (s : State) (p : Nat) (b : SlotBlk) (e : LegEntry) : (State.carryOne s p b e).fuses =
    s.fuses := by
  unfold State.carryOne
  (repeat' split) <;> simp

@[simp] theorem State.carryCheck_fuses (s : State) (p : Nat) (b : SlotBlk) : (State.carryCheck s p b).fuses = s.fuses := by
  unfold State.carryCheck
  simp

@[simp] theorem State.planPart_fuses (s : State) (p : Nat) : (State.planPart s p).fuses = s.fuses := by
  unfold State.planPart
  (repeat' split) <;> simp

@[simp] theorem State.intakeI3_fuses (s : State) (unfin : Bool) : (State.intakeI3 s unfin).fuses = s.fuses := by
  unfold State.intakeI3
  simp

@[simp] theorem State.teWake_fuses (s : State) (k : Nat) : (State.teWake s k).fuses = s.fuses := by
  unfold State.teWake
  simp

@[simp] theorem State.startLeg_fuses (s : State) (k : Nat) (x : LegPlan) : (State.startLeg s k x).fuses = s.fuses := by
  unfold State.startLeg
  (repeat' split) <;> simp

@[simp] theorem State.clearTE_fuses (s : State) (k : Nat) : (State.clearTE s k).fuses = s.fuses := by
  unfold State.clearTE
  (repeat' split) <;> simp

@[simp] theorem State.nextLeg_fuses (s : State) (k : Nat) : (State.nextLeg s k).fuses = s.fuses := by
  unfold State.nextLeg
  (repeat' split) <;> simp

@[simp] theorem State.declare_fuses (s : State) (p : Nat) : (State.declare s p).fuses = s.fuses := by
  unfold State.declare
  simp

@[simp] theorem State.cleanStart_fuses (s : State) : (State.cleanStart s).fuses = s.fuses := by
  unfold State.cleanStart
  simp

@[simp] theorem State.runStart_fuses (s : State) : (State.runStart s).fuses = s.fuses := by
  unfold State.runStart
  simp

@[simp] theorem State.addCopy_fuses (s : State) (x : CopyX) : (State.addCopy s x).fuses = s.fuses := by
  unfold State.addCopy
  simp

@[simp] theorem State.copyWalk_fuses (s : State) (x : CopyX) : (State.copyWalk s x).fuses = s.fuses := by
  unfold State.copyWalk
  dsimp only
  (repeat' split) <;> simp_all

@[simp] theorem State.copyGo_fuses (s : State) (x : CopyX) (r : LegRun) (sg : Region) (dg : Region) : (State.copyGo s x
    r sg dg).fuses = s.fuses := by
  unfold State.copyGo
  simp

@[simp] theorem State.copyIssue_fuses (s : State) (p : Nat) (i : Nat) : (State.copyIssue s p i).fuses = s.fuses := by
  unfold State.copyIssue
  (repeat' split) <;> simp

@[simp] theorem State.copyEnd_fuses (s : State) (x : CopyX) : (State.copyEnd s x).fuses = s.fuses := by
  unfold State.copyEnd
  simp

@[simp] theorem State.copyMove_fuses (s : State) (x : CopyX) : (State.copyMove s x).fuses = s.fuses := by
  unfold State.copyMove
  simp

@[simp] theorem State.quietTe_fuses (s : State) (k : Nat) : (State.quietTe s k).fuses = s.fuses := by
  unfold State.quietTe
  simp

@[simp] theorem State.quietStart_fuses (s : State) : (State.quietStart s).fuses = s.fuses := by
  unfold State.quietStart
  simp

@[simp] theorem State.drainCheck_fuses (s : State) (p : Nat) : (State.drainCheck s p).fuses = s.fuses := by
  unfold State.drainCheck
  simp

@[simp] theorem State.copiesClose_fuses (s : State) : (State.copiesClose s).fuses = s.fuses := by
  unfold State.copiesClose
  simp

@[simp] theorem State.ferryEnd_fuses (s : State) : (State.ferryEnd s).fuses = s.fuses := by
  unfold State.ferryEnd
  (repeat' split) <;> simp

@[simp] theorem State.closeSail_fuses (s : State) : (State.closeSail s).fuses = s.fuses := by
  unfold State.closeSail
  simp

@[simp] theorem State.ferryRan_fuses (s : State) : (State.ferryRan s).fuses = s.fuses := by
  unfold State.ferryRan
  simp

@[simp] theorem State.openSail_fuses (s : State) : (State.openSail s).fuses = s.fuses := by
  unfold State.openSail
  simp

@[simp] theorem State.boundary_fuses (s : State) (lateNs : Nat) (rails : List Nat) (tiles : List Nat) (badMeter : Bool) :
    (State.boundary s lateNs rails tiles badMeter).fuses = s.fuses := by
  unfold State.boundary
  simp

@[simp] theorem State.idleTick_fuses (s : State) : (State.idleTick s).fuses = s.fuses := by
  unfold State.idleTick
  simp

@[simp] theorem State.ledgerAdd_fuses (s : State) (unit : Nat) (monitor : Nat) (value : Nat) : (State.ledgerAdd s unit
    monitor value).fuses = s.fuses := by
  unfold State.ledgerAdd
  simp

@[simp] theorem State.defer_fuses (s : State) (n : Nat) : (State.defer s n).fuses = s.fuses := by
  unfold State.defer
  simp

@[simp] theorem State.guardStep_fuses (s : State) (up : Bool) : (State.guardStep s up).fuses = s.fuses := by
  unfold State.guardStep
  simp

@[simp] theorem State.slackDone_fuses (s : State) : (State.slackDone s).fuses = s.fuses := by
  unfold State.slackDone
  (repeat' split) <;> simp

@[simp] theorem State.slackSeen_fuses (s : State) (v : Nat) : (State.slackSeen s v).fuses = s.fuses := by
  unfold State.slackSeen
  simp

@[simp] theorem State.oscSeen_fuses (s : State) (unit : Nat) (v : Nat) : (State.oscSeen s unit v).fuses = s.fuses := by
  unfold State.oscSeen
  dsimp only
  (repeat' split) <;> simp_all

@[simp] theorem State.canarySeen_fuses (s : State) (unit : Nat) (v : Nat) : (State.canarySeen s unit v).fuses = s.fuses := by
  unfold State.canarySeen
  simp

@[simp] theorem State.eyeLow_fuses (s : State) (link : Nat) (ch : Nat) : (State.eyeLow s link ch).fuses = s.fuses := by
  unfold State.eyeLow
  (repeat' split) <;> simp

@[simp] theorem State.fwStore_fuses (s : State) (b : List Byte) : (State.fwStore s b).fuses = s.fuses := by
  unfold State.fwStore
  simp

@[simp] theorem State.waitFor_fuses (s : State) (x : Nat) : (State.waitFor s x).fuses = s.fuses := by
  unfold State.waitFor
  simp

@[simp] theorem State.romRuns_fuses (s : State) : (State.romRuns s).fuses = s.fuses := by
  unfold State.romRuns
  simp

@[simp] theorem State.fwStart_fuses (s : State) : (State.fwStart s).fuses = s.fuses := by
  unfold State.fwStart
  simp

@[simp] theorem State.romVerdict_fuses (s : State) (code : Nat) : (State.romVerdict s code).fuses = s.fuses := by
  unfold State.romVerdict
  simp

@[simp] theorem State.rcvDone_fuses (s : State) (r : RRead) : (State.rcvDone s r).fuses = s.fuses := by
  unfold State.rcvDone
  simp

@[simp] theorem State.fwState_fuses (s : State) (st : Nat) : (State.fwState s st).fuses = s.fuses := by
  unfold State.fwState
  simp

@[simp] theorem State.fwFail_fuses (s : State) (code : Nat) : (State.fwFail s code).fuses = s.fuses := by
  unfold State.fwFail
  simp

@[simp] theorem State.fwLoadDone_fuses (s : State) (r : RRead) : (State.fwLoadDone s r).fuses = s.fuses := by
  unfold State.fwLoadDone
  simp

@[simp] theorem State.imagesDone_fuses (s : State) : (State.imagesDone s).fuses = s.fuses := by
  unfold State.imagesDone
  simp

@[simp] theorem State.rcvLoad_fuses (s : State) : (State.rcvLoad s).fuses = s.fuses := by
  unfold State.rcvLoad
  simp

@[simp] theorem State.fwLoad_fuses (s : State) : (State.fwLoad s).fuses = s.fuses := by
  unfold State.fwLoad
  simp

@[simp] theorem State.pciRegsReset_fuses (s : State) (lo : Nat) (hi : Nat) : (State.pciRegsReset s lo hi).fuses = s.fuses := by
  unfold State.pciRegsReset
  simp

@[simp] theorem State.vfsOff_fuses (s : State) : (State.vfsOff s).fuses = s.fuses := by
  unfold State.vfsOff
  simp

@[simp] theorem State.vfEnableClear_fuses (s : State) : (State.vfEnableClear s).fuses = s.fuses := by
  unfold State.vfEnableClear
  simp

@[simp] theorem State.pf0Down_fuses (s : State) : (State.pf0Down s).fuses = s.fuses := by
  unfold State.pf0Down
  simp

@[simp] theorem State.failHostReads_fuses (s : State) : (State.failHostReads s).fuses = s.fuses := by
  unfold State.failHostReads
  simp

@[simp] theorem State.pcieDown_fuses (s : State) (pin : Bool) : (State.pcieDown s pin).fuses = s.fuses := by
  unfold State.pcieDown
  simp

@[simp] theorem State.vfEnableSet_fuses (s : State) : (State.vfEnableSet s).fuses = s.fuses := by
  unfold State.vfEnableSet
  simp

@[simp] theorem State.toD3_fuses (s : State) : (State.toD3 s).fuses = s.fuses := by
  unfold State.toD3
  simp

@[simp] theorem State.stall_fuses (s : State) (r : HostReq) : (State.stall s r).fuses = s.fuses := by
  unfold State.stall
  simp

@[simp] theorem State.cfgAsk_fuses (s : State) (k : HReqK) (fn : Nat) (f : State → State) (hf : ∀ s , (f s ).fuses =
    s.fuses) : (State.cfgAsk s k fn f).fuses = s.fuses := by
  unfold State.cfgAsk
  simp
  (repeat' split) <;> simp_all

@[simp] theorem State.cfgEffect_fuses (s : State) (fn : Nat) (o : Nat) (old : Nat) (new : Nat) : (State.cfgEffect s fn o old
    new).fuses = s.fuses := by
  unfold State.cfgEffect
  simp

@[simp] theorem State.cfgWrite_fuses (s : State) (fn : Nat) (o : Nat) (b : Nat) (data : List Byte) : (State.cfgWrite s fn o b
    data).fuses = s.fuses := by
  unfold State.cfgWrite
  simp

@[simp] theorem State.cfgServe_fuses (s : State) (r : HostReq) : (State.cfgServe s r).fuses = s.fuses := by
  unfold State.cfgServe
  simp

@[simp] theorem State.unsupported_fuses (s : State) (r : HostReq) : (State.unsupported s r).fuses = s.fuses := by
  unfold State.unsupported
  simp

@[simp] theorem State.complete_fuses (s : State) (r : HostReq) (d : List Byte) : (State.complete s r d).fuses = s.fuses := by
  unfold State.complete
  simp

@[simp] theorem State.bar2Bad_fuses (s : State) (write : Bool) (x : Nat × LineRes) : (State.bar2Bad s write x).1.fuses =
    s.fuses := by
  unfold State.bar2Bad
  (repeat' split) <;> simp

@[simp] theorem State.bar2Bads_fuses (s : State) (write : Bool) (l : List (Nat × LineRes)) : (State.bar2Bads s write
    l).1.fuses = s.fuses := by
  unfold State.bar2Bads
  simp

@[simp] theorem State.bar2Wait_fuses (s : State) (r : HostReq) (ps : List (Nat × Nat)) : (State.bar2Wait s r ps).fuses =
    s.fuses := by
  unfold State.bar2Wait
  (repeat' split) <;> simp

@[simp] theorem State.bar2Train_fuses (s : State) (pa : Nat) (n : Nat) : (State.bar2Train s pa n).fuses = s.fuses := by
  unfold State.bar2Train
  simp

@[simp] theorem State.bar2Serve_fuses (s : State) (r : HostReq) : (State.bar2Serve s r).fuses = s.fuses := by
  unfold State.bar2Serve
  simp

@[simp] theorem State.putRead_fuses (s : State) (old : RRead) (new : RRead) : (State.putRead s old new).fuses = s.fuses := by
  unfold State.putRead
  simp

@[simp] theorem State.afterTag_fuses (s : State) : (State.afterTag s).fuses = s.fuses := by
  unfold State.afterTag
  simp

@[simp] theorem State.readFails_fuses (s : State) (r : RRead) (tag : Nat) (cause : Nat) : (State.readFails s r tag
    cause).fuses = s.fuses := by
  unfold State.readFails
  simp

@[simp] theorem State.ferryRead_fuses (s : State) (r : RRead) : (State.ferryRead s r).fuses = s.fuses := by
  unfold State.ferryRead
  simp

@[simp] theorem State.pieceIn_fuses (s : State) (r : RRead) (x : Nat × Nat × Nat) (d : List Byte) : (State.pieceIn s r x
    d).fuses = s.fuses := by
  unfold State.pieceIn
  simp

@[simp] theorem State.cplAer_fuses (s : State) (cause : Nat) : (State.cplAer s cause).fuses = s.fuses := by
  unfold State.cplAer
  simp

@[simp] theorem State.lateCpl_fuses (s : State) (fn : Nat) (log : Bool) : (State.lateCpl s fn log).fuses = s.fuses := by
  unfold State.lateCpl
  simp

@[simp] theorem State.pciClr_fuses (s : State) : (State.pciClr s).fuses = s.fuses := by
  unfold State.pciClr
  simp

@[simp] theorem State.showFuses_fuses (s : State) : (State.showFuses s).fuses = s.fuses := by
  unfold State.showFuses
  simp

@[simp] theorem State.hubReset_fuses (s : State) : (State.hubReset s).fuses = s.fuses := by
  unfold State.hubReset
  simp

@[simp] theorem State.beginStep_fuses (s : State) (i : Nat) (ms : Nat) : (State.beginStep s i ms).fuses = s.fuses := by
  unfold State.beginStep
  simp

@[simp] theorem State.brgTo_fuses (s : State) (st : Nat) : (State.brgTo s st).fuses = s.fuses := by
  unfold State.brgTo
  simp

@[simp] theorem State.candidate_fuses (s : State) : (State.candidate s).fuses = s.fuses := by
  unfold State.candidate
  simp

@[simp] theorem State.noCandidate_fuses (s : State) (v : Verdict) : (State.noCandidate s v).fuses = s.fuses := by
  unfold State.noCandidate
  simp

@[simp] theorem State.findCandidate_fuses (s : State) : (State.findCandidate s).fuses = s.fuses := by
  unfold State.findCandidate
  dsimp only
  (repeat' split) <;> simp_all

@[simp] theorem State.holdSlip_fuses (s : State) (v : Nat) : (State.holdSlip s v).fuses = s.fuses := by
  unfold State.holdSlip
  simp

@[simp] theorem State.enterHeld_fuses (s : State) : (State.enterHeld s).fuses = s.fuses := by
  unfold State.enterHeld
  simp

@[simp] theorem State.restartTrain_fuses (s : State) : (State.restartTrain s).fuses = s.fuses := by
  unfold State.restartTrain
  simp

@[simp] theorem State.brgRetry_fuses (s : State) : (State.brgRetry s).fuses = s.fuses := by
  unfold State.brgRetry
  simp

@[simp] theorem State.fullNext_fuses (s : State) : (State.fullNext s).fuses = s.fuses := by
  unfold State.fullNext
  simp

@[simp] theorem State.startTime_fuses (s : State) : (State.startTime s).fuses = s.fuses := by
  unfold State.startTime
  simp

@[simp] theorem State.trainFabric_fuses (s : State) : (State.trainFabric s).fuses = s.fuses := by
  unfold State.trainFabric
  simp

@[simp] theorem State.trainPorts_fuses (s : State) (m : Manifest) : (State.trainPorts s m).fuses = s.fuses := by
  unfold State.trainPorts
  simp

@[simp] theorem State.trainStack_fuses (s : State) (p : Nat) : (State.trainStack s p).fuses = s.fuses := by
  unfold State.trainStack
  simp

@[simp] theorem State.restoreReg_fuses (s : State) (key : Nat) (v : Nat) : (State.restoreReg s key v).fuses = s.fuses := by
  unfold State.restoreReg
  (repeat' split) <;> simp

@[simp] theorem State.applyRepair_fuses (s : State) : (State.applyRepair s).fuses = s.fuses := by
  rw [State.applyRepair]
  simp

@[simp] theorem State.testRow_fuses (s : State) (x : Nat × Nat × Nat × Nat) (found : Bool) : (State.testRow s x found).fuses
    = s.fuses := by
  unfold State.testRow
  simp

@[simp] theorem State.testBank_fuses (s : State) (v : Nat) (c : Nat) (b : Nat) : (State.testBank s v c b).fuses = s.fuses := by
  unfold State.testBank
  simp

@[simp] theorem State.testTe_fuses (s : State) (tile : Nat) (phys : Nat) : (State.testTe s tile phys).fuses = s.fuses := by
  unfold State.testTe
  simp

@[simp] theorem State.testRepairs_fuses (s : State) (rows : List (Nat × Nat × Nat × Nat × Bool)) (banks : List (Nat ×
    Nat × Nat)) (ways : List (Nat × Nat)) (tes : List (Nat × Nat)) (chans : List (Nat × Nat)) : (State.testRepairs s
    rows banks ways tes chans).fuses = s.fuses := by
  unfold State.testRepairs
  simp

@[simp] theorem State.clearLines_fuses (s : State) : (State.clearLines s).fuses = s.fuses := by
  unfold State.clearLines
  simp

@[simp] theorem State.writeRepair_fuses (s : State) (reason : Nat) (warm : Nat) (sample : Nat) : (State.writeRepair s reason
    warm sample).fuses = s.fuses := by
  unfold State.writeRepair
  simp

@[simp] theorem State.findStack_fuses (s : State) (m : Manifest) (mism : List Nat) (p : Nat) : (State.findStack s m mism
    p).fuses = s.fuses := by
  unfold State.findStack
  simp

@[simp] theorem State.trainTwin_fuses (s : State) (peer : Nat) : (State.trainTwin s peer).fuses = s.fuses := by
  unfold State.trainTwin
  simp

@[simp] theorem State.compareAll_fuses (s : State) (m : Manifest) : (State.compareAll s m).fuses = s.fuses := by
  unfold State.compareAll
  dsimp only
  (repeat' split) <;> simp_all

@[simp] theorem State.fwActivate_fuses (s : State) : (State.fwActivate s).fuses = s.fuses := by
  unfold State.fwActivate
  simp

@[simp] theorem State.handCheck_fuses (s : State) : (State.handCheck s).fuses = s.fuses := by
  unfold State.handCheck
  simp

@[simp] theorem State.warmHandoff_fuses (s : State) : (State.warmHandoff s).fuses = s.fuses := by
  unfold State.warmHandoff
  simp

@[simp] theorem State.watchdog_fuses (s : State) : (State.watchdog s).fuses = s.fuses := by
  unfold State.watchdog
  simp

@[simp] theorem State.fwResume_fuses (s : State) : (State.fwResume s).fuses = s.fuses := by
  unfold State.fwResume
  simp

@[simp] theorem State.twinErr_fuses (s : State) (cls : Nat) (cause : Nat) : (State.twinErr s cls cause).fuses = s.fuses := by
  unfold State.twinErr
  simp

@[simp] theorem State.showBacklog_fuses (s : State) : (State.showBacklog s).fuses = s.fuses := by
  unfold State.showBacklog
  simp

@[simp] theorem State.unpairAll_fuses (s : State) : (State.unpairAll s).fuses = s.fuses := by
  unfold State.unpairAll
  simp

@[simp] theorem State.sendHello_fuses (s : State) : (State.sendHello s).fuses = s.fuses := by
  unfold State.sendHello
  (repeat' split) <;> simp

@[simp] theorem State.twinCode_fuses (s : State) (c : Nat) : (State.twinCode s c).fuses = s.fuses := by
  unfold State.twinCode
  simp

@[simp] theorem State.resync_fuses (s : State) (p : Nat) : (State.resync s p).fuses = s.fuses := by
  unfold State.resync
  simp

@[simp] theorem State.pairPart_fuses (s : State) (p : Nat) : (State.pairPart s p).fuses = s.fuses := by
  unfold State.pairPart
  simp

@[simp] theorem State.takeover_fuses (s : State) : (State.takeover s).fuses = s.fuses := by
  unfold State.takeover
  simp

@[simp] theorem State.twinTakeover_fuses (s : State) : (State.twinTakeover s).fuses = s.fuses := by
  unfold State.twinTakeover
  simp

@[simp] theorem State.twinDown_fuses (s : State) : (State.twinDown s).fuses = s.fuses := by
  unfold State.twinDown
  simp

@[simp] theorem State.twinClr_fuses (s : State) : (State.twinClr s).fuses = s.fuses := by
  unfold State.twinClr
  simp

@[simp] theorem State.mrsp_fuses (s : State) (tag : Nat) (err : Nat) (d : List Byte) : (State.mrsp s tag err d).fuses =
    s.fuses := by
  unfold State.mrsp
  simp

@[simp] theorem State.mreqBad_fuses (s : State) (x : Nat × LineRes) : (State.mreqBad s x).fuses = s.fuses := by
  unfold State.mreqBad
  (repeat' split) <;> simp

@[simp] theorem State.mreq_fuses (s : State) (write : Bool) (pa : Nat) (len : Nat) (tag : Nat) (data : List Byte) :
    (State.mreq s write pa len tag data).fuses = s.fuses := by
  unfold State.mreq
  simp

@[simp] theorem State.diverge_fuses (s : State) (p : Nat) (told : Bool) : (State.diverge s p told).fuses = s.fuses := by
  unfold State.diverge
  simp

@[simp] theorem State.sendAck_fuses (s : State) (n : Nat) : (State.sendAck s n).fuses = s.fuses := by
  unfold State.sendAck
  simp

@[simp] theorem State.liveWrite_fuses (s : State) (key : Nat) (w : Word) : (State.liveWrite s key w).fuses = s.fuses := by
  unfold State.liveWrite
  simp

@[simp] theorem State.shadowWrite_fuses (s : State) (key : Nat) (v : Word) (m : Word) : (State.shadowWrite s key v m).fuses =
    s.fuses := by
  unfold State.shadowWrite
  simp

@[simp] theorem State.fieldWrite_fuses (s : State) (key : Nat) (mask : Word) (v : Word) (f : RegField) : (State.fieldWrite s
    key mask v f).fuses = s.fuses := by
  unfold State.fieldWrite
  (repeat' split) <;> simp

@[simp] theorem State.qClr_fuses (s : State) : (State.qClr s).fuses = s.fuses := by
  unfold State.qClr
  simp

@[simp] theorem State.manCmd_fuses (s : State) (v : Nat) : (State.manCmd s v).fuses = s.fuses := by
  unfold State.manCmd
  simp

@[simp] theorem State.keyCmd_fuses (s : State) (v : Nat) : (State.keyCmd s v).fuses = s.fuses := by
  unfold State.keyCmd
  simp

@[simp] theorem State.lrsCmd_fuses (s : State) (p : Nat) (v : Nat) : (State.lrsCmd s p v).fuses = s.fuses := by
  unfold State.lrsCmd
  simp

@[simp] theorem State.twinCmd_fuses (s : State) (v : Nat) : (State.twinCmd s v).fuses = s.fuses := by
  unfold State.twinCmd
  simp

@[simp] theorem State.onBit_fuses (s : State) (v : Nat) (i : Nat) (f : State → State) (hf : ∀ s, (f s).fuses = s.fuses) :
    (State.onBit s v i f).fuses = s.fuses := by
  unfold State.onBit
  simp [*]

@[simp] theorem State.ferryReg_fuses (s : State) (n : RegName) (idx : List Nat) (key : Nat) : (State.ferryReg s n idx
    key).fuses = s.fuses := by
  unfold State.ferryReg
  (repeat' split) <;> simp

@[simp] theorem State.regUse_fuses (s : State) (off : Nat) : (State.regUse s off).fuses = s.fuses := by
  unfold State.regUse
  (repeat' split) <;> simp

@[simp] theorem State.regRefuse_fuses (s : State) (r : RegReq) : (State.regRefuse s r).fuses = s.fuses := by
  unfold State.regRefuse
  (repeat' split) <;> simp

@[simp] theorem State.regDone_fuses (s : State) (r : RegReq) : (State.regDone s r).fuses = s.fuses := by
  unfold State.regDone
  (repeat' split) <;> simp

@[simp] theorem State.regReadMsgs_fuses (s : State) (src : Nat) (tag : Nat) (off : Nat) (n : Nat) : (State.regReadMsgs s
    src tag off n).fuses = s.fuses := by
  unfold State.regReadMsgs
  (repeat' split) <;> simp

@[simp] theorem State.regWake_fuses (s : State) (off : Nat) : (State.regWake s off).fuses = s.fuses := by
  unfold State.regWake
  (repeat' split) <;> simp

@[simp] theorem State.prst_fuses (s : State) (r : HostReq) : (State.prst s r).fuses = s.fuses := by
  unfold State.prst
  simp

@[simp] theorem State.switchRegs_fuses (s : State) (b : List Byte) (z0 : Nat) : (State.switchRegs s b z0).fuses = s.fuses := by
  induction z0 generalizing s b with
  | zero => rfl
  | succ f ih => unfold State.switchRegs; simp [ih]

@[simp] theorem State.switchProgs_fuses (s : State) (b : List Byte) (z0 : Nat) : (State.switchProgs s b z0).fuses = s.fuses
    := by
  induction z0 generalizing s b with
  | zero => rfl
  | succ f ih => unfold State.switchProgs; dsimp only; rw [ih]

@[simp] theorem State.switchRings_fuses (s : State) (p : Nat) : (State.switchRings s p).fuses = s.fuses := by
  unfold State.switchRings
  simp

@[simp] theorem State.switchIn_fuses (s : State) (e : FEntry) : (State.switchIn s e).fuses = s.fuses := by
  unfold State.switchIn
  simp

@[simp] theorem State.ferrySlots_fuses (s : State) (e : FEntry) : (State.ferrySlots s e).fuses = s.fuses := by
  unfold State.ferrySlots
  simp

@[simp] theorem State.ferryCross_fuses (s : State) (n : Nat) (e : FEntry) : (State.ferryCross s n e).fuses = s.fuses := by
  unfold State.ferryCross
  simp

@[simp] theorem State.ferryDigest_fuses (s : State) (e : FEntry) : (State.ferryDigest s e).fuses = s.fuses := by
  unfold State.ferryDigest
  (repeat' split) <;> simp

@[simp] theorem State.ferryIssued_fuses (s : State) (e : FEntry) : (State.ferryIssued s e).fuses = s.fuses := by
  unfold State.ferryIssued
  simp

@[simp] theorem State.trim_fuses (s : State) : (State.trim s).fuses = s.fuses := by
  unfold State.trim
  simp

@[simp] theorem State.slipErrTo_fuses (s : State) (v : Nat) (q : SReq) (cause : Nat) : (State.slipErrTo s v q cause).fuses =
    s.fuses := by
  unfold State.slipErrTo
  simp

@[simp] theorem State.slipAbsent_fuses (s : State) (v : Nat) (q : SReq) (pa : Nat) : (State.slipAbsent s v q pa).fuses =
    s.fuses := by
  unfold State.slipAbsent
  simp

@[simp] theorem State.vecOp_fuses (s : State) (k : Nat) (func : Nat) (f : Bool → Nat → Nat → Nat → Nat) : (State.vecOp s k
    func f).fuses = s.fuses := by
  unfold State.vecOp
  simp

@[simp] theorem State.rand_fuses (s : State) (k : Nat) (func : Nat) (f : Nat → Nat) : (State.rand s k func f).fuses = s.fuses
    := by
  unfold State.rand
  simp

@[simp] theorem State.arrive_fuses (s : State) (k : Nat) (mask : Nat) (bid : Nat) : (State.arrive s k mask bid).fuses =
    s.fuses := by
  unfold State.arrive
  (repeat' split) <;> simp

@[simp] theorem State.predOp_fuses (s : State) (k : Nat) (op : Nat) (hold : PredI → List (Nat × Nat)) (f : State → PredI →
    LegRun → Bool) : (State.predOp s k op hold f).fuses = s.fuses := by
  unfold State.predOp
  simp

@[simp] theorem State.red_fuses (s : State) (k : Nat) (op : Nat) (f : State → RedI → List Nat → List Nat × List Nat) :
    (State.red s k op f).fuses = s.fuses := by
  unfold State.red
  simp

@[simp] theorem State.tapSelect_fuses (s : State) (code : Nat) (ok : Bool) (f : State → State) (hf : ∀ s, (f s).fuses =
    s.fuses) : (State.tapSelect s code ok f).fuses = s.fuses := by
  unfold State.tapSelect
  simp [*]

@[simp] theorem State.withCommand_fuses (s : State) (c : Instr) : (State.withCommand s c).fuses = s.fuses := by
  rfl

@[simp] theorem State.withFetchWord_fuses (s : State) (nbits : Nat) (w : Nat) : (State.withFetchWord s nbits w).fuses =
    s.fuses := by
  unfold State.withFetchWord
  (repeat' split) <;> simp

end Sys2Proof.Machine
end

