-- ==== Sys2Proof/Laws/Holds.lean ====
section
/-! SUPPORT. No operation but those that write a hold changes a byte of one: one lemma per operation. -/

namespace Sys2Proof.Machine

@[simp] theorem ite_holds (c : Prop) [Decidable c] (a b : State) :
    (if c then a else b).holds = if c then a.holds else b.holds := by split <;> rfl

@[simp] theorem foldl_holds {α : Type} (f : State → α → State) (h : ∀ s x, (f s x).holds = s.holds) (l : List α)
    (s : State) : (l.foldl f s).holds = s.holds := by
  induction l generalizing s with
  | nil => rfl
  | cons x l ih => rw [List.foldl_cons, ih, h]

@[simp] theorem foldl_fst_holds {α β : Type} (f : State × β → α → State × β)
    (h : ∀ p x, (f p x).1.holds = p.1.holds) (l : List α) (p : State × β) :
    (l.foldl f p).1.holds = p.1.holds := by
  induction l generalizing p with
  | nil => rfl
  | cons x l ih => rw [List.foldl_cons, ih, h]

@[simp] theorem State.rsetIf_holds (s : State) (c : Bool) (key : Nat) (f : Fld) (x : Nat) : (State.rsetIf s c key f x).holds
    = s.holds := by
  unfold State.rsetIf
  simp

@[simp] theorem State.raddOpen_holds (s : State) (key : Nat) (f : Fld) (n : Nat) : (State.raddOpen s key f n).holds = s.holds
    := by
  unfold State.raddOpen
  simp

@[simp] theorem State.each_holds (s : State) (l : List Nat) (f : State → Nat → State) (hf : ∀ s x0, (f s x0).holds = s.holds)
    : (State.each s l f).holds = s.holds := by
  unfold State.each
  simp [*]

@[simp] theorem State.voidFor_holds (s : State) (tenant : Option Nat) (vcause : Nat) (block : Nat) (cause : Nat) (unit : Nat)
    (addr : Option Nat) : (State.voidFor s tenant vcause block cause unit addr).holds = s.holds := by
  unfold State.voidFor
  (repeat' split) <;> simp

@[simp] theorem State.countEvts_holds (s : State) (k : Nat) (e : Evts) : (State.countEvts s k e).holds = s.holds := by
  unfold State.countEvts
  simp

@[simp] theorem State.clearTe_holds (s : State) (k : Nat) : (State.clearTe s k).holds = s.holds := by
  unfold State.clearTe
  simp

@[simp] theorem State.countRd_holds (s : State) (l : Nat) : (State.countRd s l).holds = s.holds := by
  unfold State.countRd
  (repeat' split) <;> simp

@[simp] theorem State.unclean_holds (s : State) (o : Nat) : (State.unclean s o).holds = s.holds := by
  unfold State.unclean
  simp

@[simp] theorem State.lineWriteAs_holds (s : State) (l : Nat) (data : Line) (mask : Nat) (o : Nat) : (State.lineWriteAs
    s l data mask o).1.holds = s.holds := by
  unfold State.lineWriteAs
  dsimp only
  (repeat' split) <;> simp_all

@[simp] theorem State.lineWrite_holds (s : State) (l : Nat) (data : Line) (mask : Nat) : (State.lineWrite s l data
    mask).1.holds = s.holds := by
  unfold State.lineWrite
  simp

@[simp] theorem State.lineMark_holds (s : State) (l : Nat) : (State.lineMark s l).1.holds = s.holds := by
  unfold State.lineMark
  (repeat' split) <;> simp

@[simp] theorem State.signal_holds (s : State) (fn : Nat) (vec : Nat) : (State.signal s fn vec).holds = s.holds := by
  unfold State.signal
  simp

@[simp] theorem State.signalIf_holds (s : State) (c : Bool) (fn : Nat) (vec : Nat) : (State.signalIf s c fn vec).holds =
    s.holds := by
  unfold State.signalIf
  simp

@[simp] theorem State.cfgPut_holds (s : State) (fn : Nat) (off : Nat) (v : Nat) : (State.cfgPut s fn off v).holds = s.holds
    := by
  unfold State.cfgPut
  simp

@[simp] theorem State.aer_holds (s : State) (off : Nat) (bit : Nat) : (State.aer s off bit).holds = s.holds := by
  unfold State.aer
  simp

@[simp] theorem State.twinEvt_holds (s : State) (f : Fld) : (State.twinEvt s f).holds = s.holds := by
  unfold State.twinEvt
  simp

@[simp] theorem State.stepDown_holds (s : State) : (State.stepDown s).holds = s.holds := by
  unfold State.stepDown
  simp

@[simp] theorem State.teState_holds (s : State) (k : Nat) (x : Nat) : (State.teState s k x).holds = s.holds := by
  unfold State.teState
  simp

@[simp] theorem State.busyCycles_holds (s : State) (k : Nat) (n : Nat) : (State.busyCycles s k n).holds = s.holds := by
  unfold State.busyCycles
  simp

@[simp] theorem State.holdStall_holds (s : State) (k : Nat) (n : Nat) : (State.holdStall s k n).holds = s.holds := by
  unfold State.holdStall
  simp

@[simp] theorem State.wsStall_holds (s : State) (k : Nat) (n : Nat) : (State.wsStall s k n).holds = s.holds := by
  unfold State.wsStall
  simp

@[simp] theorem State.cutCycles_holds (s : State) (k : Nat) (r : LegRun) (n : Nat) : (State.cutCycles s k r n).holds =
    s.holds := by
  unfold State.cutCycles
  simp

@[simp] theorem State.legCut_holds (s : State) (k : Nat) (r : LegRun) : (State.legCut s k r).holds = s.holds := by
  unfold State.legCut
  simp

@[simp] theorem State.legsCut_holds (s : State) (sel : LegRun → Bool) : (State.legsCut s sel).holds = s.holds := by
  unfold State.legsCut
  refine foldl_holds _ (fun s p => ?_) _ _
  (repeat' split) <;> simp

@[simp] theorem State.domTo_holds (s : State) (d : Nat) (st : Nat) : (State.domTo s d st).holds = s.holds := by
  unfold State.domTo
  simp

@[simp] theorem State.fatalNow_holds (s : State) : (State.fatalNow s).holds = s.holds := by
  unfold State.fatalNow
  simp

@[simp] theorem State.fatal_holds (s : State) (block : Nat) (cause : Nat) (unit : Nat) : (State.fatal s block cause
    unit).holds = s.holds := by
  unfold State.fatal
  simp

@[simp] theorem State.fatalTrip_holds (s : State) (block : Nat) (cause : Nat) (unit : Nat) : (State.fatalTrip s block
    cause unit).holds = s.holds := by
  unfold State.fatalTrip
  simp

@[simp] theorem State.memUe_holds (s : State) (l : Nat) (block : Nat) (cause : Nat) (unit : Nat) (tenant : Option Nat) :
    (State.memUe s l block cause unit tenant).holds = s.holds := by
  unfold State.memUe
  simp

@[simp] theorem State.setTx_holds (s : State) (v : Nat) (x : OspTx) : (State.setTx s v x).holds = s.holds := by
  unfold State.setTx
  simp

@[simp] theorem State.ospStart_holds (s : State) (v : Nat) : (State.ospStart s v).holds = s.holds := by
  unfold State.ospStart
  simp

@[simp] theorem State.ospFree_holds (s : State) (v : Nat) (need : List Nat) : (State.ospFree s v need).holds = s.holds
    := by
  unfold State.ospFree
  simp

@[simp] theorem State.osp_holds (s : State) (v : Nat) (args : List Nat) (bytes : List Byte) (h : OspHead) : (State.osp s
    v args bytes h).holds = s.holds := by
  unfold State.osp
  simp

@[simp] theorem State.ospMsg_holds (s : State) (v : Nat) (args : List Nat) (cls : Nat) (op : Nat) (qc : Nat) (tag : Nat)
    (addr : Nat) (aux : Nat) : (State.ospMsg s v args cls op qc tag addr aux).holds = s.holds := by
  unfold State.ospMsg
  simp

@[simp] theorem State.ospErr_holds (s : State) (v : Nat) (qc : Nat) (tag : Nat) (addr : Nat) (cause : Nat) :
    (State.ospErr s v qc tag addr cause).holds = s.holds := by
  unfold State.ospErr
  simp

@[simp] theorem State.ospData_holds (s : State) (v : Nat) (qc : Nat) (tag : Nat) (addr : Nat) (grant : Nat) (d : Line) :
    (State.ospData s v qc tag addr grant d).holds = s.holds := by
  unfold State.ospData
  simp

@[simp] theorem State.ospGnt_holds (s : State) (v : Nat) (qc : Nat) (tag : Nat) (addr : Nat) : (State.ospGnt s v qc tag
    addr).holds = s.holds := by
  unfold State.ospGnt
  simp

@[simp] theorem State.ospSend_holds (s : State) (v : Nat) (kind : Nat) (fseq : Nat) (payload : List Byte) :
    (State.ospSend s v kind fseq payload).holds = s.holds := by
  unfold State.ospSend
  simp

@[simp] theorem State.ospKeep_holds (s : State) (v : Nat) (kind : Nat) (payload : List Byte) : (State.ospKeep s v kind
    payload).holds = s.holds := by
  unfold State.ospKeep
  simp

@[simp] theorem State.ospStep_holds (s : State) (v : Nat) : (State.ospStep s v).holds = s.holds := by
  unfold State.ospStep
  simp

@[simp] theorem State.ospTick_holds (s : State) : (State.ospTick s).holds = s.holds := by
  unfold State.ospTick
  simp

@[simp] theorem State.ospHear_holds (s : State) (v : Nat) (flit : List Byte) (fresh : Bool) : (State.ospHear s v flit
    fresh).holds = s.holds := by
  unfold State.ospHear
  simp

@[simp] theorem State.ospResend_holds (s : State) (v : Nat) (fseq : Option Nat) : (State.ospResend s v fseq).holds =
    s.holds := by
  unfold State.ospResend
  simp

@[simp] theorem State.ospReplay_holds (s : State) (v : Nat) : (State.ospReplay s v).holds = s.holds := by
  unfold State.ospReplay
  simp

@[simp] theorem State.toL0_holds (s : State) : (State.toL0 s).holds = s.holds := by
  unfold State.toL0
  simp

@[simp] theorem State.wakeLink_holds (s : State) : (State.wakeLink s).holds = s.holds := by
  unfold State.wakeLink
  simp

@[simp] theorem State.ltrSend_holds (s : State) : (State.ltrSend s).holds = s.holds := by
  unfold State.ltrSend
  simp

@[simp] theorem State.pciCap_holds (s : State) (fn : Nat) (cause : Nat) : (State.pciCap s fn cause).holds = s.holds := by
  unfold State.pciCap
  simp

@[simp] theorem State.hostFail_holds (s : State) (fn : Nat) (cause : Nat) : (State.hostFail s fn cause).holds = s.holds := by
  unfold State.hostFail
  simp

@[simp] theorem State.setTwinPart_holds (s : State) (p : Nat) (x : Nat) : (State.setTwinPart s p x).holds = s.holds := by
  unfold State.setTwinPart
  simp

@[simp] theorem State.ferry_holds (s : State) (typ : Nat) (part : Nat) (key : Nat) (data : List Byte) : (State.ferry s typ
    part key data).holds = s.holds := by
  unfold State.ferry
  simp

@[simp] theorem State.useEntry_holds (s : State) (e : FEntry) : (State.useEntry s e).holds = s.holds := by
  unfold State.useEntry
  simp

@[simp] theorem State.retain_holds (s : State) (o : Out) : (State.retain s o).holds = s.holds := by
  unfold State.retain
  simp

@[simp] theorem State.atsLook_holds (s : State) (fn : Nat) (addr : Nat) (write : Bool) : (State.atsLook s fn addr
    write).1.holds = s.holds := by
  unfold State.atsLook
  (repeat' split) <;> simp

@[simp] theorem State.atsTag_holds (s : State) (tag : Nat) (key : Nat) (translated : Bool) : (State.atsTag s tag key
    translated).holds = s.holds := by
  unfold State.atsTag
  simp

@[simp] theorem State.showTags_holds (s : State) : (State.showTags s).holds = s.holds := by
  unfold State.showTags
  simp

@[simp] theorem State.pumpTags_holds (s : State) (z0 : Nat) : (State.pumpTags s z0).holds = s.holds := by
  induction z0 generalizing s with
  | zero => rfl
  | succ f ih =>
    unfold State.pumpTags
    split
    · split
      · simp [ih]
      · rfl
    · rfl

@[simp] theorem State.hostRead_holds (s : State) (who : List Nat) (pa : Nat) (len : Nat) (func : Nat) : (State.hostRead s who
    pa len func).holds = s.holds := by
  unfold State.hostRead
  (repeat' split) <;> simp

@[simp] theorem State.askNode_holds (s : State) (node : Nat) (args : List Nat) (bytes : List Byte) (h : OspHead) :
    (State.askNode s node args bytes h).holds = s.holds := by
  unfold State.askNode
  simp

@[simp] theorem State.nodeRead_holds (s : State) (who : List Nat) (pa : Nat) (len : Nat) (func : Nat) : (State.nodeRead s who
    pa len func).holds = s.holds := by
  unfold State.nodeRead
  simp

@[simp] theorem State.remIssue_holds (s : State) (who : List Nat) (pa : Nat) (len : Nat) (func : Nat) : (State.remIssue s who
    pa len func).holds = s.holds := by
  unfold State.remIssue
  simp

@[simp] theorem State.remGet_holds (s : State) (who : List Nat) (pa : Nat) (len : Nat) (func : Nat) : (State.remGet s who pa
    len func).1.holds = s.holds := by
  unfold State.remGet
  (repeat' split) <;> simp

@[simp] theorem State.remDrop_holds (s : State) (p : RRead → Bool) : (State.remDrop s p).holds = s.holds := by
  unfold State.remDrop
  simp

@[simp] theorem State.manArrived_holds (s : State) : (State.manArrived s).holds = s.holds := by
  unfold State.manArrived
  simp

@[simp] theorem State.hostWrite_holds (s : State) (func : Nat) (addr : Nat) (bs : List Byte) : (State.hostWrite s func addr
    bs).1.holds = s.holds := by
  unfold State.hostWrite
  (repeat' split) <;> simp

@[simp] theorem State.nodeWrite_holds (s : State) (who : List Nat) (pa : Nat) (mask : Nat) (args : List Nat) (bs : List
    Byte) (line : List Byte) : (State.nodeWrite s who pa mask args bs line).holds = s.holds := by
  unfold State.nodeWrite
  simp

@[simp] theorem State.remWrite_holds (s : State) (who : List Nat) (pa : Nat) (func : Nat) (bs : List Byte) : (State.remWrite
    s who pa func bs).1.holds = s.holds := by
  unfold State.remWrite
  dsimp only
  (repeat' split) <;> simp_all

@[simp] theorem State.remMasked_holds (s : State) (who : List Nat) (pa : Nat) (mask : Nat) (bs : List Byte) :
    (State.remMasked s who pa mask bs).1.holds = s.holds := by
  unfold State.remMasked
  (repeat' split) <;> simp

@[simp] theorem State.fabTick_holds (s : State) : (State.fabTick s).holds = s.holds := by
  unfold State.fabTick
  split
  · rfl
  · have h : ∀ l x, (List.foldl State.outTurn x l).1.holds = x.1.holds := by
      intro l x
      refine foldl_fst_holds _ (fun p o => ?_) l x
      unfold State.outTurn
      (repeat' split) <;> simp
    simp [h]

@[simp] theorem State.postAt_holds (s : State) (at_ : Nat) (h : FabHdr) (up : Bool) (mask : Nat) (d : Line) :
    (State.postAt s at_ h up mask d).1.holds = s.holds := by
  unfold State.postAt
  (repeat' split) <;> simp

@[simp] theorem State.post_holds (s : State) (h : FabHdr) (mask : Nat) (d : Line) : (State.post s h mask d).1.holds =
    s.holds := by
  unfold State.post
  simp

@[simp] theorem State.fly_holds (s : State) (h : FabHdr) (mask : Nat) (d : Line) (x : HPkt) : (State.fly s h mask d
    x).holds = s.holds := by
  unfold State.fly
  (repeat' split) <;> simp

@[simp] theorem State.putBucket_holds (s : State) (p : Nat) (q : Nat) (lv : Int) : (State.putBucket s p q lv).holds = s.holds
    := by
  unfold State.putBucket
  simp

@[simp] theorem State.settleAll_holds (s : State) : (State.settleAll s).holds = s.holds := by
  unfold State.settleAll
  simp

@[simp] theorem State.takeTokens_holds (s : State) (p : Nat) (q : Nat) : (State.takeTokens s p q).holds = s.holds := by
  unfold State.takeTokens
  simp

@[simp] theorem State.debitSpf_holds (s : State) (p : Nat) (q : Nat) : (State.debitSpf s p q).holds = s.holds := by
  unfold State.debitSpf
  simp

@[simp] theorem State.charge_holds (s : State) (p : Nat) (q : Nat) (n : Nat) : (State.charge s p q n).holds = s.holds := by
  unfold State.charge
  simp

@[simp] theorem State.tollPay_holds (s : State) (who : List Nat) (p : Nat) (q : Nat) (n : Nat) : (State.tollPay s who p
    q n).holds = s.holds := by
  unfold State.tollPay
  simp

@[simp] theorem State.tollTake_holds (s : State) (who : List Nat) (p : Nat) (q : Nat) (n : Nat) : (State.tollTake s who
    p q n).holds = s.holds := by
  unfold State.tollTake
  simp

@[simp] theorem State.holdReq_holds (s : State) (q : CReq) : (State.holdReq s q).holds = s.holds := by
  unfold State.holdReq
  simp

@[simp] theorem State.latSample_holds (s : State) (p : Nat) (q : Nat) (ts : Nat) : (State.latSample s p q ts).holds = s.holds
    := by
  unfold State.latSample
  simp

@[simp] theorem State.latNow_holds (s : State) (p : Nat) (q : Nat) (n : Nat) : (State.latNow s p q n).holds = s.holds :=
    by
  unfold State.latNow
  simp

@[simp] theorem State.cleanTick_holds (s : State) : (State.cleanTick s).holds = s.holds := by
  unfold State.cleanTick
  simp

@[simp] theorem State.useDom_holds (s : State) (d : Nat) : (State.useDom s d).holds = s.holds := by
  unfold State.useDom
  simp

@[simp] theorem State.useAgent_holds (s : State) (a : Nat) : (State.useAgent s a).holds = s.holds := by
  unfold State.useAgent
  simp

@[simp] theorem State.useReq_holds (s : State) (req : Nat) (home : Nat) : (State.useReq s req home).holds = s.holds := by
  unfold State.useReq
  simp

@[simp] theorem State.wake_holds (s : State) (d : Nat) : (State.wake s d).holds = s.holds := by
  unfold State.wake
  simp

@[simp] theorem State.countLlc_holds (s : State) (h : Nat) (hit : Bool) : (State.countLlc s h hit).holds = s.holds := by
  unfold State.countLlc
  simp

@[simp] theorem State.touchCopy_holds (s : State) (a : Nat) (l : Nat) : (State.touchCopy s a l).holds = s.holds := by
  unfold State.touchCopy
  (repeat' split) <;> simp

@[simp] theorem State.cohSend_holds (s : State) (m : CMsg) : (State.cohSend s m).holds = s.holds := by
  unfold State.cohSend
  (repeat' split) <;> simp

@[simp] theorem State.fencedCap_holds (s : State) (l : Nat) : (State.fencedCap s l).holds = s.holds := by
  unfold State.fencedCap
  simp

@[simp] theorem State.unmark_holds (s : State) (ls : List Nat) : (State.unmark s ls).holds = s.holds := by
  unfold State.unmark
  simp

@[simp] theorem State.memWrite_holds (s : State) (l : Nat) (d : Line) (mask : Nat) (o : Nat) : (State.memWrite s l d
    mask o).1.holds = s.holds := by
  unfold State.memWrite
  (repeat' split) <;> simp

@[simp] theorem State.writeBack_holds (s : State) (l : Nat) (d : Line) : (State.writeBack s l d).holds = s.holds := by
  unfold State.writeBack
  dsimp only
  (repeat' split) <;> simp_all

@[simp] theorem State.llcEvict_holds (s : State) (l : Nat) : (State.llcEvict s l).holds = s.holds := by
  unfold State.llcEvict
  dsimp only
  (repeat' split) <;> simp_all

@[simp] theorem State.llcTouch_holds (s : State) (l : Nat) : (State.llcTouch s l).holds = s.holds := by
  unfold State.llcTouch
  (repeat' split) <;> simp

@[simp] theorem State.llcIn_holds (s : State) (l : Nat) (w : Nat) (d : Line) (dirty : Bool) : (State.llcIn s l w d
    dirty).holds = s.holds := by
  unfold State.llcIn
  simp

@[simp] theorem State.llcPut_holds (s : State) (l : Nat) (d : Line) (dirty : Bool) : (State.llcPut s l d dirty).holds =
    s.holds := by
  unfold State.llcPut
  dsimp only
  (repeat' split) <;> simp_all

@[simp] theorem State.slicePut_holds (s : State) (l : Nat) (d : Line) : (State.slicePut s l d).holds = s.holds := by
  unfold State.slicePut
  simp

@[simp] theorem State.homeWrite_holds (s : State) (l : Nat) (d : Line) (mask : Nat) (o : Nat) (alloc : Bool) (got :
    Option Line) : (State.homeWrite s l d mask o alloc got).1.holds = s.holds := by
  unfold State.homeWrite
  (repeat' split) <;> simp

@[simp] theorem State.countHome_holds (s : State) (l : Nat) : (State.countHome s l).holds = s.holds := by
  unfold State.countHome
  simp

@[simp] theorem State.snoopOn_holds (s : State) (l : Nat) (at_ : Nat) : (State.snoopOn s l at_).holds = s.holds := by
  unfold State.snoopOn
  (repeat' split) <;> simp

@[simp] theorem State.countSnoop_holds (s : State) (h : Nat) : (State.countSnoop s h).holds = s.holds := by
  unfold State.countSnoop
  simp

@[simp] theorem State.filterPut_holds (s : State) (l : Nat) (e : FEnt) : (State.filterPut s l e).holds = s.holds := by
  unfold State.filterPut
  simp

@[simp] theorem State.filterDel_holds (s : State) (l : Nat) : (State.filterDel s l).holds = s.holds := by
  unfold State.filterDel
  simp

@[simp] theorem State.marksOf_holds (s : State) (h : Nat) : (State.marksOf s h).holds = s.holds := by
  unfold State.marksOf
  simp

@[simp] theorem State.filterAlloc_holds (s : State) (l : Nat) (owned : Bool) (fwd : Option Nat) : (State.filterAlloc s l
    owned fwd).holds = s.holds := by
  unfold State.filterAlloc
  (repeat' split) <;> simp

@[simp] theorem State.filterSetOrNew_holds (s : State) (l : Nat) (owned : Bool) (fwd : Option Nat) :
    (State.filterSetOrNew s l owned fwd).holds = s.holds := by
  unfold State.filterSetOrNew
  simp

@[simp] theorem State.grantWait_holds (s : State) (t : Txn) (m : CMsg) : (State.grantWait s t m).holds = s.holds := by
  unfold State.grantWait
  simp

@[simp] theorem State.endTxn_holds (s : State) (l : Nat) (m : CMsg) : (State.endTxn s l m).holds = s.holds := by
  unfold State.endTxn
  simp

@[simp] theorem State.homeErr_holds (s : State) (l : Nat) (req : Nat) (ten : Nat) (r : LineRes) : (State.homeErr s l req ten
    r).holds = s.holds := by
  unfold State.homeErr
  (repeat' split) <;> simp

@[simp] theorem State.txnData_holds (s : State) (t : Txn) : (State.txnData s t).2.holds = s.holds := by
  unfold State.txnData
  (repeat' split) <;> simp

@[simp] theorem State.keepDirty_holds (s : State) (t : Txn) : (State.keepDirty s t).holds = s.holds := by
  unfold State.keepDirty
  simp

@[simp] theorem State.afterSnoop_holds (s : State) (l : Nat) (held : Bool) (keepFwd : Bool) : (State.afterSnoop s l held
    keepFwd).holds = s.holds := by
  unfold State.afterSnoop
  (repeat' split) <;> simp

@[simp] theorem State.reqWrite_holds (s : State) (q : CReq) : (State.reqWrite s q).1.holds = s.holds := by
  unfold State.reqWrite
  (repeat' split) <;> simp

@[simp] theorem State.serve_holds (s : State) (t : Txn) (hit : Bool) : (State.serve s t hit).holds = s.holds := by
  unfold State.serve
  (repeat' split) <;> simp

@[simp] theorem State.answer_holds (s : State) (t : Txn) (hit : Bool) : (State.answer s t hit).holds = s.holds := by
  unfold State.answer
  (repeat' split) <;> simp

@[simp] theorem State.countReq_holds (s : State) (q : CReq) (h : Nat) : (State.countReq s q h).holds = s.holds := by
  unfold State.countReq
  simp

@[simp] theorem State.accept_holds (s : State) (q : CReq) : (State.accept s q).holds = s.holds := by
  unfold State.accept
  simp

@[simp] theorem State.showCredits_holds (s : State) (h : Nat) : (State.showCredits s h).holds = s.holds := by
  unfold State.showCredits
  simp

@[simp] theorem State.cohErr_holds (s : State) (h : Nat) (cause : Nat) (cls : Nat) : (State.cohErr s h cause cls).holds =
    s.holds := by
  unfold State.cohErr
  simp

@[simp] theorem State.wakeFor_holds (s : State) (z0 : Nat) : (State.wakeFor s z0).holds = s.holds := by
  induction z0 generalizing s <;> (unfold State.wakeFor; (repeat' split) <;> simp_all)

@[simp] theorem State.wakeQueue_holds (s : State) : (State.wakeQueue s).holds = s.holds := by
  unfold State.wakeQueue
  (repeat' split) <;> simp

@[simp] theorem State.homeFill_holds (s : State) (l : Nat) (d : Option Line) : (State.homeFill s l d).holds = s.holds :=
    by
  unfold State.homeFill
  (repeat' split) <;> simp

@[simp] theorem State.tcUe_holds (s : State) (a : Nat) (l : Nat) (ten : Option Nat) : (State.tcUe s a l ten).holds =
    s.holds := by
  unfold State.tcUe
  dsimp only
  (repeat' split) <;> simp

@[simp] theorem State.spfLine_holds (s : State) (h : Nat) (src : Nat) (qc : Nat) (ten : Nat) (l : Nat) : (State.spfLine
    s h src qc ten l).holds = s.holds := by
  unfold State.spfLine
  split
  · simp
  · dsimp only
    have h1 : (((s.raddOpen (R.tileSpfCnt h) F.tileSpfCnt_ISSUED 1).debitSpf src qc).charge src qc 128).holds = s.holds := by simp
    generalize ((s.raddOpen (R.tileSpfCnt h) F.tileSpfCnt_ISSUED 1).debitSpf src qc).charge src qc 128 = u at h1 ⊢
    cases u.lineRead l <;> simp [h1]

@[simp] theorem State.spfTrain_holds (s : State) (q : CReq) : (State.spfTrain s q).holds = s.holds := by
  unfold State.spfTrain
  dsimp only
  (repeat' split) <;> simp_all

@[simp] theorem State.untrain_holds (s : State) (src : Nat) (ten : Nat) : (State.untrain s src ten).holds = s.holds :=
    by
  unfold State.untrain
  simp

@[simp] theorem State.retry_holds (s : State) (q : CReq) (h : Nat) (give : Bool) : (State.retry s q h give).holds =
    s.holds := by
  unfold State.retry
  simp

@[simp] theorem State.request_holds (s : State) (q : CReq) : (State.request s q).holds = s.holds := by
  unfold State.request
  simp

@[simp] theorem State.wbAck_holds (s : State) (a : Nat) (tag : Nat) (l : Nat) : (State.wbAck s a tag l).holds = s.holds
    := by
  unfold State.wbAck
  simp

@[simp] theorem State.dropFwd_holds (s : State) (a : Nat) (l : Nat) : (State.dropFwd s a l).holds = s.holds := by
  unfold State.dropFwd
  (repeat' split) <;> simp

@[simp] theorem State.leaving_holds (s : State) (a : Nat) (l : Nat) (st : CSt) : (State.leaving s a l st).holds = s.holds := by
  unfold State.leaving
  simp

@[simp] theorem State.wbPut_holds (s : State) (l : Nat) (d : Line) (dmg : Bool) : (State.wbPut s l d dmg).holds =
    s.holds := by
  unfold State.wbPut
  simp

@[simp] theorem State.wbHome_holds (s : State) (agent : Nat) (tag : Nat) (l : Nat) (d : Line) (dmg : Bool) :
    (State.wbHome s agent tag l d dmg).holds = s.holds := by
  unfold State.wbHome
  (repeat' split) <;> simp

@[simp] theorem State.evctHome_holds (s : State) (agent : Nat) (tag : Nat) (l : Nat) : (State.evctHome s agent tag
    l).holds = s.holds := by
  unfold State.evctHome
  (repeat' split) <;> simp

@[simp] theorem State.noteDecode_holds (s : State) (src : Nat) (pa : Nat) : (State.noteDecode s src pa).holds = s.holds := by
  unfold State.noteDecode
  simp

@[simp] theorem State.passMsg_holds (s : State) (q : CReq) (m : CMsg) : (State.passMsg s q m).holds = s.holds := by
  unfold State.passMsg
  simp

@[simp] theorem State.passData_holds (s : State) (q : CReq) (d : Option Line) : (State.passData s q d).holds = s.holds
    := by
  unfold State.passData
  simp

@[simp] theorem State.passErr_holds (s : State) (q : CReq) (c : Nat) : (State.passErr s q c).holds = s.holds := by
  unfold State.passErr
  simp

@[simp] theorem State.passAck_holds (s : State) (q : CReq) (ok : Bool) : (State.passAck s q ok).holds = s.holds := by
  unfold State.passAck
  simp

@[simp] theorem State.passRead_holds (s : State) (q : CReq) : (State.passRead s q).holds = s.holds := by
  unfold State.passRead
  dsimp only
  (repeat' split) <;> simp_all

@[simp] theorem State.passWrite_holds (s : State) (q : CReq) : (State.passWrite s q).holds = s.holds := by
  unfold State.passWrite
  simp

@[simp] theorem State.passOn_holds (s : State) (q : CReq) : (State.passOn s q).holds = s.holds := by
  unfold State.passOn
  dsimp only
  (repeat' split) <;> simp_all

@[simp] theorem State.compAck_holds (s : State) (req : Nat) (pa : Nat) : (State.compAck s req pa).holds = s.holds := by
  unfold State.compAck
  dsimp only
  (repeat' split) <;> simp_all

@[simp] theorem State.snpRsp_holds (s : State) (slip : Nat) (pa : Nat) (held : Bool) (dirty : Bool) (sends : Bool) (wbseen :
    Bool) (reqhold : Bool) : (State.snpRsp s slip pa held dirty sends wbseen reqhold).holds = s.holds := by
  unfold State.snpRsp
  dsimp only
  (repeat' split) <;> simp_all

@[simp] theorem State.reqHome_holds (s : State) (q : CReq) : (State.reqHome s q).holds = s.holds := by
  unfold State.reqHome
  simp

@[simp] theorem State.atHome_holds (s : State) (z0 : HPkt) : (State.atHome s z0).holds = s.holds := by
  induction z0 generalizing s <;> (unfold State.atHome; simp_all)

@[simp] theorem State.park_holds (s : State) (d : Nat) (x : HPkt) : (State.park s d x).holds = s.holds := by
  unfold State.park
  simp

@[simp] theorem State.toHome_holds (s : State) (x : HPkt) : (State.toHome s x).holds = s.holds := by
  unfold State.toHome
  simp

@[simp] theorem State.sendHome_holds (s : State) (h : FabHdr) (mask : Nat) (d : Line) (x : HPkt) : (State.sendHome s h
    mask d x).holds = s.holds := by
  unfold State.sendHome
  simp

@[simp] theorem State.inject_holds (s : State) (q : CReq) : (State.inject s q).holds = s.holds := by
  unfold State.inject
  simp

@[simp] theorem State.reqFrom_holds (s : State) (caching : Bool) (q : CReq) : (State.reqFrom s caching q).holds = s.holds := by
  unfold State.reqFrom
  simp

@[simp] theorem State.wbArrive_holds (s : State) (agent : Nat) (pa : Nat) (tag : Nat) (data : Line) : (State.wbArrive s
    agent pa tag data).holds = s.holds := by
  unfold State.wbArrive
  simp

@[simp] theorem State.evctArrive_holds (s : State) (agent : Nat) (pa : Nat) (tag : Nat) : (State.evctArrive s agent pa
    tag).holds = s.holds := by
  unfold State.evctArrive
  simp

@[simp] theorem State.cohTake_holds (s : State) (m : CMsg) : (State.cohTake s m).holds = s.holds := by
  unfold State.cohTake
  simp

@[simp] theorem State.agentTake_holds (s : State) (m : CMsg) : (State.agentTake s m).holds = s.holds := by
  unfold State.agentTake
  simp

@[simp] theorem State.snoopTile_holds (s : State) (l : Nat) (a : Nat) (k : SnpK) (t : Txn) (last : Bool) :
    (State.snoopTile s l a k t last).holds = s.holds := by
  unfold State.snoopTile
  dsimp only
  (repeat' split) <;> simp_all

@[simp] theorem State.stopDoes_holds (s : State) (l : Nat) (a : Nat) (k : SnpK) (t : Txn) : (State.stopDoes s l a k
    t).holds = s.holds := by
  unfold State.stopDoes
  simp

@[simp] theorem State.snoopAt_holds (s : State) (pa : Nat) (stop : Nat) : (State.snoopAt s pa stop).holds = s.holds :=
    by
  unfold State.snoopAt
  dsimp only
  (repeat' split) <;> simp

@[simp] theorem State.snoopUe_holds (s : State) (pa : Nat) (stop : Nat) : (State.snoopUe s pa stop).holds = s.holds :=
    by
  unfold State.snoopUe
  dsimp only
  (repeat' split) <;> simp

@[simp] theorem State.snpData_holds (s : State) (agent : Nat) (pa : Nat) (dirty : Bool) (data : Line) : (State.snpData s
    agent pa dirty data).holds = s.holds := by
  unfold State.snpData
  dsimp only
  (repeat' split) <;> simp_all

@[simp] theorem State.ownerLost_holds (s : State) (l : Nat) : (State.ownerLost s l).holds = s.holds := by
  unfold State.ownerLost
  simp

@[simp] theorem State.snoopEnd_holds (s : State) (t : Txn) : (State.snoopEnd s t).holds = s.holds := by
  unfold State.snoopEnd
  simp

@[simp] theorem State.tileDrop_holds (s : State) (a : Nat) (l : Nat) (d : Line) : (State.tileDrop s a l d).holds =
    s.holds := by
  unfold State.tileDrop
  (repeat' split) <;> simp

@[simp] theorem State.tileInstall_holds (s : State) (a : Nat) (l : Nat) (st : CSt) (d : Line) : (State.tileInstall s a l st
    d).holds = s.holds := by
  unfold State.tileInstall
  dsimp only
  (repeat' split) <;> simp_all

@[simp] theorem State.compAckFrom_holds (s : State) (req : Nat) (pa : Nat) : (State.compAckFrom s req pa).holds =
    s.holds := by
  unfold State.compAckFrom
  dsimp only
  (repeat' split) <;> simp_all

@[simp] theorem State.grantFlushed_holds (s : State) (req : Nat) (l : Nat) (st : CSt) (d : Line) : (State.grantFlushed s
    req l st d).holds = s.holds := by
  unfold State.grantFlushed
  simp

@[simp] theorem State.grantGone_holds (s : State) (req : Nat) (pa : Nat) : (State.grantGone s req pa).holds = s.holds :=
    by
  unfold State.grantGone
  simp

@[simp] theorem State.slipGone_holds (s : State) (v : Nat) : (State.slipGone s v).holds = s.holds := by
  unfold State.slipGone
  simp

@[simp] theorem State.agentLoss_holds (s : State) (slip : Nat) : (State.agentLoss s slip).holds = s.holds := by
  unfold State.agentLoss
  simp

@[simp] theorem State.prepLine_holds (s : State) (a : Nat) (w : Bool) (cache : Nat) (l : Nat) : (State.prepLine s a w
    cache l).holds = s.holds := by
  unfold State.prepLine
  simp

@[simp] theorem State.moverMark_holds (s : State) (h : Nat) : (State.moverMark s h).holds = s.holds := by
  unfold State.moverMark
  simp

@[simp] theorem State.moverReq_holds (s : State) (a : Nat) (l : Nat) (k : SnpK) (but : Option Nat) : (State.moverReq s a
    l k but).holds = s.holds := by
  unfold State.moverReq
  dsimp only
  (repeat' split) <;> simp_all

@[simp] theorem State.cohRead_holds (s : State) (a : Nat) (l : Nat) (cache : Nat) (got : Option Line) : (State.cohRead s
    a l cache got).1.holds = s.holds := by
  unfold State.cohRead
  dsimp only
  (repeat' split) <;> simp_all

@[simp] theorem State.ownWrite_holds (s : State) (a : Nat) (l : Nat) (mask : Nat) (d : Line) (old : LineRes) :
    (State.ownWrite s a l mask d old).1.holds = s.holds := by
  unfold State.ownWrite
  (repeat' split) <;> simp

@[simp] theorem State.cohWrite_holds (s : State) (a : Nat) (l : Nat) (cache : Nat) (mask : Nat) (d : Line) (got : Option
    Line) : (State.cohWrite s a l cache mask d got).1.holds = s.holds := by
  unfold State.cohWrite
  (repeat' split) <;> simp

@[simp] theorem State.tableVault_holds (s : State) (c : Nat) (q : Nat) (tenant : Nat) (pa : Nat) : (State.tableVault s c
    q tenant pa).1.holds = s.holds := by
  unfold State.tableVault
  dsimp only
  (repeat' split) <;> simp_all

@[simp] theorem State.tableRead_holds (s : State) (c : Nat) (q : Nat) (tenant : Nat) (pa : Nat) : (State.tableRead s c q
    tenant pa).1.holds = s.holds := by
  unfold State.tableRead
  (repeat' split) <;> simp

@[simp] theorem State.walkBegin_holds (s : State) (c : Nat) (q : Nat) (t : Nat) (va : Nat) : (State.walkBegin s c q t
    va).holds = s.holds := by
  unfold State.walkBegin
  simp

@[simp] theorem State.walkNote_holds (s : State) (c : Nat) (t : Nat) (va : Nat) (e : Nat) : (State.walkNote s c t va
    e).holds = s.holds := by
  unfold State.walkNote
  simp

@[simp] theorem State.walkL1_holds (s : State) (c : Nat) (q : Nat) (t : Nat) (va : Nat) : (State.walkL1 s c q t
    va).1.holds = s.holds := by
  unfold State.walkL1
  (repeat' (split <;> (try (rename_i h; have h1 := congrArg Prod.fst h; clear h; dsimp only at h1; subst h1)))) <;>
    simp

@[simp] theorem State.walk_holds (s : State) (c : Nat) (q : Nat) (t : Nat) (va : Nat) : (State.walk s c q t va).1.holds
    = s.holds := by
  unfold State.walk
  (repeat' (split <;> (try (rename_i h; have h1 := congrArg Prod.fst h; clear h; dsimp only at h1; subst h1)))) <;>
    simp

@[simp] theorem State.tableDrop_holds (s : State) (c : Nat) (q : Nat) (t : Nat) (pa : Nat) : (State.tableDrop s c q t
    pa).holds = s.holds := by
  unfold State.tableDrop
  simp

@[simp] theorem State.walkEnd_holds (s : State) (c : Nat) (q : Nat) (t : Nat) (va : Nat) : (State.walkEnd s c q t
    va).holds = s.holds := by
  unfold State.walkEnd
  (repeat' split) <;> simp

@[simp] theorem State.walksForget_holds (s : State) : (State.walksForget s).holds = s.holds := by
  unfold State.walksForget
  simp

@[simp] theorem State.walksAgain_holds (s : State) (p : Nat → Bool) : (State.walksAgain s p).holds = s.holds := by
  unfold State.walksAgain
  simp

@[simp] theorem State.tcTouch_holds (s : State) (c : Nat) (e : TcEnt) : (State.tcTouch s c e).holds = s.holds := by
  unfold State.tcTouch
  simp

@[simp] theorem State.tcPut_holds (s : State) (c : Nat) (e : TcEnt) : (State.tcPut s c e).holds = s.holds := by
  unfold State.tcPut
  simp

@[simp] theorem State.leaf_holds (s : State) (c : Nat) (q : Nat) (t : Nat) (va : Nat) : (State.leaf s c q t va).1.holds
    = s.holds := by
  unfold State.leaf
  split
  · simp
  · rcases h : (s.walkBegin c q t va).walk c ((s.walkBegin c q t va).walkQ c q t va) t va with ⟨s1, r⟩
    have h1 : s1.holds = s.holds := by
      simpa [h] using (s.walkBegin c q t va).walk_holds c ((s.walkBegin c q t va).walkQ c q t va) t va
    cases r with
    | wait => exact h1
    | fail x => exact h1
    | ok e => dsimp only; split <;> simp [h1]

@[simp] theorem State.xlate_holds (s : State) (c : Nat) (q : Nat) (t : Nat) (va : Nat) (n : Nat) (a : Acc) :
    (State.xlate s c q t va n a).1.holds = s.holds := by
  unfold State.xlate
  (repeat' (split <;> (try (rename_i h; have h1 := congrArg Prod.fst h; clear h; dsimp only at h1; subst h1)))) <;>
    simp

@[simp] theorem State.footprintOpen_holds (s : State) (c : Nat) (q : Nat) (t : Nat) (a : Acc) (z0 : List (Nat × Nat)) :
    (State.footprintOpen s c q t a z0).1.holds = s.holds := by
  induction z0 generalizing s with
  | nil => rfl
  | cons p rest ih =>
    obtain ⟨va, n⟩ := p
    unfold State.footprintOpen
    rcases h : s.xlate c q t va n a with ⟨s1, r⟩
    have h1 : s1.holds = s.holds := by simpa [h] using s.xlate_holds c q t va n a
    cases r <;> dsimp only <;> (first | exact h1 | rw [ih, h1])

@[simp] theorem State.walksEnd_holds (s : State) (c : Nat) (q : Nat) (t : Nat) (l : List Nat) : (State.walksEnd s c q t
    l).holds = s.holds := by
  unfold State.walksEnd
  simp

@[simp] theorem State.footprint_holds (s : State) (c : Nat) (q : Nat) (t : Nat) (a : Acc) (ps : List (Nat × Nat)) :
    (State.footprint s c q t a ps).1.holds = s.holds := by
  unfold State.footprint
  dsimp only
  (repeat' split) <;> simp_all

@[simp] theorem State.fqShow_holds (s : State) (t : Nat) : (State.fqShow s t).holds = s.holds := by
  unfold State.fqShow
  simp

@[simp] theorem State.faultRec_holds (s : State) (t : Nat) (page : Nat) (cause : Nat) (req : Option Nat) (write : Bool) :
    (State.faultRec s t page cause req write).holds = s.holds := by
  unfold State.faultRec
  simp

@[simp] theorem State.pageFail_holds (s : State) (t : Nat) (page : Nat) (cause : Nat) (req : Option Nat) (write : Bool) :
    (State.pageFail s t page cause req write).holds = s.holds := by
  unfold State.pageFail
  simp

@[simp] theorem State.pageFails_holds (s : State) (t : Nat) (fails : List (Nat × Nat)) (req : Option Nat) (write : Bool) :
    (State.pageFails s t fails req write).holds = s.holds := by
  unfold State.pageFails
  simp

@[simp] theorem State.markRange_holds (s : State) (t : Nat) (va : Nat) (n : Nat) : (State.markRange s t va n).holds = s.holds
    := by
  unfold State.markRange
  simp

@[simp] theorem State.memDrop_holds (s : State) (who : List Nat) (l : Nat) : (State.memDrop s who l).holds = s.holds :=
    by
  unfold State.memDrop
  (repeat' split) <;> simp

@[simp] theorem State.readPieces_holds (s : State) (who : List Nat) (a : Nat) (cache : Nat) (z0 : List (Nat × Nat)) :
    (State.readPieces s who a cache z0).1.holds = s.holds := by
  induction z0 generalizing s with
  | nil => rfl
  | cons p rest ih =>
    obtain ⟨pa, n⟩ := p
    unfold State.readPieces
    dsimp only
    split <;> simp [ih]

@[simp] theorem State.moverRead_holds (s : State) (who : List Nat) (a : Nat) (cache : Nat) (pa : Nat) (n : Nat) :
    (State.moverRead s who a cache pa n).1.holds = s.holds := by
  unfold State.moverRead
  simp

@[simp] theorem State.writePieces_holds (s : State) (who : List Nat) (a : Nat) (cache : Nat) (z0 : List (Nat × Nat)) (z1
    : List Byte) : (State.writePieces s who a cache z0 z1).1.holds = s.holds := by
  induction z0 generalizing s z1 with
  | nil => rfl
  | cons p rest ih =>
    obtain ⟨pa, n⟩ := p
    unfold State.writePieces
    dsimp only
    split <;> simp [ih]

@[simp] theorem State.moverWrite_holds (s : State) (who : List Nat) (a : Nat) (cache : Nat) (pa : Nat) (bs : List Byte)
    : (State.moverWrite s who a cache pa bs).1.holds = s.holds := by
  unfold State.moverWrite
  simp

@[simp] theorem State.legBadRead_holds (s : State) (p : Nat) (tenant : Nat) (x : Nat × LineRes) : (State.legBadRead s p
    tenant x).holds = s.holds := by
  unfold State.legBadRead
  (repeat' split) <;> simp

@[simp] theorem State.legBadWrite_holds (s : State) (p : Nat) (tenant : Nat) (x : Nat × LineRes) : (State.legBadWrite s p
    tenant x).holds = s.holds := by
  unfold State.legBadWrite
  (repeat' split) <;> simp

@[simp] theorem State.chargeFor_holds (s : State) (who : List Nat) (a : Nat) (n : Nat) : (State.chargeFor s who a
    n).holds = s.holds := by
  unfold State.chargeFor
  simp

@[simp] theorem State.echo_holds (s : State) (pa : Nat) (n : Nat) : (State.echo s pa n).holds = s.holds := by
  unfold State.echo
  simp

@[simp] theorem State.moversKeep_holds (s : State) : (State.moversKeep s).holds = s.holds := by
  unfold State.moversKeep
  simp

@[simp] theorem State.getPieces_holds (s : State) (who : List Nat) (a : Nat) (cache : Nat) (func : Nat) (z0 : List (Nat
    × Nat)) : (State.getPieces s who a cache func z0).1.holds = s.holds := by
  induction z0 generalizing s <;> (unfold State.getPieces; (repeat' split) <;> simp_all)

@[simp] theorem State.prepPiece_holds (s : State) (who : List Nat) (a : Nat) (w : Bool) (cache : Nat) (func : Nat) (pa :
    Nat) (n : Nat) : (State.prepPiece s who a w cache func pa n).holds = s.holds := by
  unfold State.prepPiece
  simp

@[simp] theorem State.openReads_holds (s : State) (who : List Nat) (a : Nat) (cache : Nat) (func : Nat) (ps : List (Nat
    × Nat)) : (State.openReads s who a cache func ps).holds = s.holds := by
  unfold State.openReads
  simp

@[simp] theorem State.openWrites_holds (s : State) (who : List Nat) (a : Nat) (cache : Nat) (func : Nat) (ps : List (Nat
    × Nat)) : (State.openWrites s who a cache func ps).holds = s.holds := by
  unfold State.openWrites
  simp

@[simp] theorem State.payFor_holds (s : State) (who : List Nat) (a : Nat) (n : Nat) : (State.payFor s who a n).holds =
    s.holds := by
  unfold State.payFor
  simp

@[simp] theorem State.putPieces_holds (s : State) (who : List Nat) (a : Nat) (cache : Nat) (func : Nat) (z0 : List (Nat
    × Nat)) (z1 : List Byte) : (State.putPieces s who a cache func z0 z1).1.holds = s.holds := by
  induction z0 generalizing s z1 <;> (unfold State.putPieces; (repeat' split) <;> simp_all)

@[simp] theorem State.legRemFail_holds (s : State) (p : Nat) (tenant : Nat) (n : Nat) : (State.legRemFail s p tenant n).holds
    = s.holds := by
  unfold State.legRemFail
  simp

@[simp] theorem State.issue_holds (s : State) (k : Nat) (cls : Nat) (sel : Nat → Bool) (hold : LegRun → Nat → List (Nat ×
    Nat)) (act : State → LegRun → Nat → State × LegRun) (hact : ∀ s x0 x1, (act s x0 x1).1.holds = s.holds) : (State.issue s
    k cls sel hold act).holds = s.holds := by
  unfold State.issue
  (repeat' split) <;> simp_all

@[simp] theorem State.legEvts_holds (s : State) (k : Nat) (e : Evts) : (State.legEvts s k e).holds = s.holds := by
  unfold State.legEvts
  dsimp only
  (repeat' split) <;> simp_all

@[simp] theorem State.halt_holds (s : State) (k : Nat) (r : LegRun) (cause : Nat) (stops : Bool) : (State.halt s k r
    cause stops).holds = s.holds := by
  unfold State.halt
  simp

@[simp] theorem State.dropLeg_holds (s : State) (k : Nat) : (State.dropLeg s k).holds = s.holds := by
  unfold State.dropLeg
  dsimp only
  (repeat' split) <;> simp_all

@[simp] theorem State.markOuts_holds (s : State) (tenant : Nat) (outs : List (Nat × Nat)) : (State.markOuts s tenant
    outs).holds = s.holds := by
  unfold State.markOuts
  simp

@[simp] theorem State.overrun_holds (s : State) (k : Nat) : (State.overrun s k).holds = s.holds := by
  unfold State.overrun
  (repeat' split) <;> simp

@[simp] theorem State.showPool_holds (s : State) : (State.showPool s).holds = s.holds := by
  unfold State.showPool
  simp

@[simp] theorem State.qCap_holds (s : State) (g : Nat) (cause : Nat) : (State.qCap s g cause).holds = s.holds := by
  unfold State.qCap
  simp

@[simp] theorem State.enableRing_holds (s : State) (g : Nat) : (State.enableRing s g).holds = s.holds := by
  unfold State.enableRing
  (repeat' split) <;> simp

@[simp] theorem State.ringOff_holds (s : State) (g : Nat) : (State.ringOff s g).holds = s.holds := by
  unfold State.ringOff
  simp

@[simp] theorem State.disableRing_holds (s : State) (g : Nat) : (State.disableRing s g).holds = s.holds := by
  unfold State.disableRing
  (repeat' split) <;> simp

@[simp] theorem State.applyEn_holds (s : State) (g : Nat) : (State.applyEn s g).holds = s.holds := by
  unfold State.applyEn
  (repeat' split) <;> simp

@[simp] theorem State.ringEnables_holds (s : State) (gs : List Nat) : (State.ringEnables s gs).holds = s.holds := by
  unfold State.ringEnables
  simp

@[simp] theorem State.doorbell_holds (s : State) (tenant : Nat) (ring : Nat) (half : Nat) (value : Nat) : (State.doorbell s
    tenant ring half value).holds = s.holds := by
  unfold State.doorbell
  simp

@[simp] theorem State.captureDoorbells_holds (s : State) : (State.captureDoorbells s).holds = s.holds := by
  unfold State.captureDoorbells
  simp

@[simp] theorem State.ringError_holds (s : State) (g : Nat) : (State.ringError s g).holds = s.holds := by
  unfold State.ringError
  simp

@[simp] theorem State.showOut_holds (s : State) (g : Nat) : (State.showOut s g).holds = s.holds := by
  unfold State.showOut
  simp

@[simp] theorem State.admitOne_holds (s : State) (g : Nat) : (State.admitOne s g).holds = s.holds := by
  unfold State.admitOne
  simp

@[simp] theorem State.admitN_holds (s : State) (g : Nat) (z0 : Nat) : (State.admitN s g z0).holds = s.holds := by
  induction z0 generalizing s with
  | zero => rfl
  | succ n ih => unfold State.admitN; simp [ih]

@[simp] theorem State.admitRing_holds (s : State) (g : Nat) : (State.admitRing s g).holds = s.holds := by
  unfold State.admitRing
  simp

@[simp] theorem State.admitFerry_holds (s : State) : (State.admitFerry s).holds = s.holds := by
  unfold State.admitFerry
  (repeat' split) <;> simp

@[simp] theorem State.admitAll_holds (s : State) : (State.admitAll s).holds = s.holds := by
  unfold State.admitAll
  simp

@[simp] theorem State.dropChunks_holds (s : State) (ring : Nat) (didx : Nat) : (State.dropChunks s ring didx).holds = s.holds
    := by
  unfold State.dropChunks
  simp

@[simp] theorem State.ctxEnd_holds (s : State) (c : Ctx) (status : Nat) (detail : Nat) : (State.ctxEnd s c status
    detail).holds = s.holds := by
  unfold State.ctxEnd
  simp

@[simp] theorem State.ctxFail_holds (s : State) (c : Ctx) (status : Nat) (detail : Nat) : (State.ctxFail s c status
    detail).holds = s.holds := by
  unfold State.ctxFail
  simp

@[simp] theorem State.ringBad_holds (s : State) (tenant : Nat) (x : Nat × LineRes) : (State.ringBad s tenant x).1.holds =
    s.holds := by
  unfold State.ringBad
  (repeat' split) <;> simp

@[simp] theorem State.ringBads_holds (s : State) (tenant : Nat) (l : List (Nat × LineRes)) : (State.ringBads s tenant
    l).1.holds = s.holds := by
  unfold State.ringBads
  simp

@[simp] theorem State.unkeep_holds (s : State) (who : List Nat) (wr : Bool) (ranges : List (Nat × Nat)) : (State.unkeep
    s who wr ranges).holds = s.holds := by
  unfold State.unkeep
  simp

@[simp] theorem State.dmaXlate_holds (s : State) (who : List Nat) (wr : Bool) (tenant : Nat) (ranges : List (Nat × Nat))
    : (State.dmaXlate s who wr tenant ranges).1.holds = s.holds := by
  unfold State.dmaXlate
  dsimp only
  (repeat' split) <;> simp_all

@[simp] theorem State.dmaRead_holds (s : State) (who : List Nat) (tenant : Nat) (ranges : List (Nat × Nat)) :
    (State.dmaRead s who tenant ranges).1.holds = s.holds := by
  unfold State.dmaRead
  dsimp only
  (repeat' split) <;> simp_all

@[simp] theorem State.dmaWrite_holds (s : State) (who : List Nat) (tenant : Nat) (ranges : List (Nat × Nat)) (bs : List Byte)
    : (State.dmaWrite s who tenant ranges bs).1.holds = s.holds := by
  unfold State.dmaWrite
  dsimp only
  (repeat' split) <;> simp_all

@[simp] theorem State.fetchDesc_holds (s : State) (c : Ctx) : (State.fetchDesc s c).holds = s.holds := by
  unfold State.fetchDesc
  extract_lets t n
  rcases h : s.dmaRead [3, c.ring, c.didx] t [(s.entVa c.ring c.didx, n)] with ⟨s1, r⟩
  have h1 : s1.holds = s.holds := by
    simpa [h] using s.dmaRead_holds [3, c.ring, c.didx] t [(s.entVa c.ring c.didx, n)]
  cases r <;> dsimp only <;> (repeat' split) <;> simp [h1]

@[simp] theorem State.startRun_holds (s : State) (c : Ctx) : (State.startRun s c).holds = s.holds := by
  unfold State.startRun
  (repeat' split) <;> (try rename_i h) <;> (try (have h2 := congrArg (fun z => z.1.holds) h; simp at h2)) <;>
    simp_all

@[simp] theorem State.nextEntry_holds (s : State) (c : Ctx) : (State.nextEntry s c).1.holds = s.holds := by
  unfold State.nextEntry
  split
  · rfl
  · rcases h : s.dmaRead [3, c.ring, c.didx] (ringTen c.ring) [(c.ents, 16)] with ⟨s1, r⟩
    have h1 : s1.holds = s.holds := by
      simpa [h] using s.dmaRead_holds [3, c.ring, c.didx] (ringTen c.ring) [(c.ents, 16)]
    cases r <;> dsimp only <;> (repeat' split) <;> simp [h1]

@[simp] theorem State.gather_holds (s : State) (c : Ctx) (room : Nat) (acc : List (Nat × Nat)) (z0 : Nat) : (State.gather s c
    room acc z0).1.holds = s.holds := by
  induction z0 generalizing s c room acc with
  | zero => rfl
  | succ f ih =>
    unfold State.gather
    split
    · rfl
    · split
      · split
        · split
          · rfl
          · exact ih ..
        · exact ih ..
      · split
        · rfl
        · rcases h : s.nextEntry c with ⟨s1, r⟩
          have h1 : s1.holds = s.holds := by simpa [h] using s.nextEntry_holds c
          match r with
          | none => exact h1
          | some (.error e) => exact h1
          | some (.ok c1) => exact (ih ..).trans h1

@[simp] theorem State.poolPut_holds (s : State) (slot : Nat) (bs : List Byte) : (State.poolPut s slot bs).holds =
    s.holds := by
  unfold State.poolPut
  simp

@[simp] theorem State.startChunk_holds (s : State) (g : Nat) : (State.startChunk s g).1.holds = s.holds := by
  unfold State.startChunk
  split
  · rfl
  · split
    · rfl
    · rename_i c _
      rcases h : s.gather c s.bufSize [] (s.bufSize / 32 + 4) with ⟨s1, c1, r⟩
      have h1 : s1.holds = s.holds := by simpa [h] using s.gather_holds c s.bufSize [] (s.bufSize / 32 + 4)
      match r with
      | none => exact h1
      | some (.error e) => simp [h1]
      | some (.ok ps) => simp [h1]

@[simp] theorem State.startChunksN_holds (s : State) (g : Nat) (z0 : Nat) : (State.startChunksN s g z0).holds = s.holds := by
  induction z0 generalizing s with
  | zero => rfl
  | succ f ih => unfold State.startChunksN; dsimp only; split <;> simp [ih]

@[simp] theorem State.startChunks_holds (s : State) (g : Nat) : (State.startChunks s g).holds = s.holds := by
  unfold State.startChunks
  simp

@[simp] theorem State.grantAll_holds (s : State) : (State.grantAll s).holds = s.holds := by
  unfold State.grantAll
  simp

@[simp] theorem State.descFetch_holds (s : State) (ring : Nat) (didx : Nat) : (State.descFetch s ring didx).holds = s.holds
    := by
  unfold State.descFetch
  (repeat' split) <;> simp

@[simp] theorem State.descDo_holds (s : State) (ring : Nat) (didx : Nat) (op : Nat) (f : State → Ctx → State) (hf : ∀ s x0,
    (f s x0).holds = s.holds) : (State.descDo s ring didx op f).holds = s.holds := by
  unfold State.descDo
  dsimp only
  (repeat' split) <;> simp_all

@[simp] theorem State.loadSize_holds (s : State) (c : Ctx) : (State.loadSize s c).holds = s.holds := by
  unfold State.loadSize
  (repeat' (split <;> (try (rename_i h; have h1 := congrArg Prod.fst h; clear h; dsimp only at h1; subst h1)))) <;>
    simp

@[simp] theorem State.delChunk_holds (s : State) (c : Chunk) : (State.delChunk s c).holds = s.holds := by
  unfold State.delChunk
  simp

@[simp] theorem State.chunkFail_holds (s : State) (c : Chunk) (st : Nat) (d : Nat) : (State.chunkFail s c st d).holds =
    s.holds := by
  unfold State.chunkFail
  dsimp only
  (repeat' split) <;> simp_all

@[simp] theorem State.finishLoad_holds (s : State) (c : Ctx) : (State.finishLoad s c).holds = s.holds := by
  unfold State.finishLoad
  dsimp only
  (repeat' split) <;> simp_all

@[simp] theorem State.drained_holds (s : State) (c : Chunk) : (State.drained s c).holds = s.holds := by
  unfold State.drained
  (repeat' split) <;> simp

@[simp] theorem State.chunkGone_holds (s : State) (c : Chunk) : (State.chunkGone s c).holds = s.holds := by
  unfold State.chunkGone
  simp

@[simp] theorem State.lostRec_holds (s : State) (c : Nat) : (State.lostRec s c).holds = s.holds := by
  unfold State.lostRec
  simp

@[simp] theorem State.issueRec_holds (s : State) (r : CmpRec) : (State.issueRec s r).1.holds = s.holds := by
  unfold State.issueRec
  dsimp only
  (repeat' split) <;> simp_all

@[simp] theorem State.releaseCtx_holds (s : State) (c : Ctx) : (State.releaseCtx s c).holds = s.holds := by
  unfold State.releaseCtx
  simp

@[simp] theorem State.invAccept_holds (s : State) (w : Nat) (r : InvReq) : (State.invAccept s w r).holds = s.holds := by
  unfold State.invAccept
  simp

@[simp] theorem State.invWrite_holds (s : State) (w : Nat) (word : Nat) (half : Bool) : (State.invWrite s w word half).holds
    = s.holds := by
  unfold State.invWrite
  simp

@[simp] theorem State.tcDrop_holds (s : State) (p : TcEnt → Bool) : (State.tcDrop s p).holds = s.holds := by
  unfold State.tcDrop
  simp

@[simp] theorem State.invOne_holds (s : State) (w : Nat) (last : Option Nat) (r : InvReq) : (State.invOne s w last r).1.holds
    = s.holds := by
  unfold State.invOne
  (repeat' split) <;> simp

@[simp] theorem State.invLane_holds (s : State) (base : List TcEnt) (w : Nat) : (State.invLane s base w).holds = s.holds
    := by
  unfold State.invLane
  dsimp only
  (repeat' split) <;> simp_all

@[simp] theorem State.ctxOn_holds (s : State) (t : Nat) : (State.ctxOn s t).holds = s.holds := by
  unfold State.ctxOn
  simp

@[simp] theorem State.atsApply_holds (s : State) : (State.atsApply s).holds = s.holds := by
  unfold State.atsApply
  simp

@[simp] theorem State.applyI1_holds (s : State) : (State.applyI1 s).holds = s.holds := by
  unfold State.applyI1
  simp

@[simp] theorem State.ackLane_holds (s : State) (w : Nat) (seq : Nat) : (State.ackLane s w seq).holds = s.holds := by
  unfold State.ackLane
  simp

@[simp] theorem State.atsComplete_holds (s : State) (x : Nat × Nat × Nat) : (State.atsComplete s x).holds = s.holds := by
  unfold State.atsComplete
  simp

@[simp] theorem State.applyI4_holds (s : State) : (State.applyI4 s).holds = s.holds := by
  unfold State.applyI4
  simp

@[simp] theorem State.loadPins_holds (s : State) (t : Nat) : (State.loadPins s t).holds = s.holds := by
  unfold State.loadPins
  simp

@[simp] theorem State.dropTables_holds (s : State) (t : Nat) : (State.dropTables s t).holds = s.holds := by
  unfold State.dropTables
  simp

@[simp] theorem State.ctxTransfer_holds (s : State) (t : Nat) (wroteEn : Bool) (moved : Bool) : (State.ctxTransfer s t
    wroteEn moved).holds = s.holds := by
  unfold State.ctxTransfer
  simp

@[simp] theorem State.ctxOff_holds (s : State) (t : Nat) : (State.ctxOff s t).holds = s.holds := by
  unfold State.ctxOff
  simp

@[simp] theorem State.pinWalk_holds (s : State) (t : Nat) (z0 : List Nat) (z1 : List TcEnt) : (State.pinWalk s t z0
    z1).1.holds = s.holds := by
  induction z0 generalizing s z1 with
  | nil => rfl
  | cons va rest ih =>
    unfold State.pinWalk
    split
    · split
      · rfl
      · exact ih ..
    · rcases h : (s.walkBegin pinCache 2 t va).walk pinCache 2 t va with ⟨s1, r⟩
      have h1 : s1.holds = s.holds := by simpa [h] using (s.walkBegin pinCache 2 t va).walk_holds pinCache 2 t va
      cases r with
      | wait => exact h1
      | fail x => simp [h1]
      | ok e => dsimp only; split <;> simp [ih, h1]

@[simp] theorem State.fqEdge_holds (s : State) : (State.fqEdge s).holds = s.holds := by
  unfold State.fqEdge
  simp

@[simp] theorem State.fqVisible_holds (s : State) : (State.fqVisible s).holds = s.holds := by
  unfold State.fqVisible
  simp

@[simp] theorem State.tfqPop_holds (s : State) (tenant : Nat) : (State.tfqPop s tenant).holds = s.holds := by
  unfold State.tfqPop
  (repeat' split) <;> simp

@[simp] theorem State.tinvClr_holds (s : State) (tenant : Nat) : (State.tinvClr s tenant).holds = s.holds := by
  unfold State.tinvClr
  simp

@[simp] theorem State.showDebug_holds (s : State) (scope : Nat) (remain : Nat) : (State.showDebug s scope remain).holds =
    s.holds := by
  unfold State.showDebug
  simp

@[simp] theorem State.revokeDebug_holds (s : State) : (State.revokeDebug s).holds = s.holds := by
  unfold State.revokeDebug
  simp

@[simp] theorem State.confOn_holds (s : State) : (State.confOn s).holds = s.holds := by
  unfold State.confOn
  simp

@[simp] theorem State.confOff_holds (s : State) : (State.confOff s).holds = s.holds := by
  unfold State.confOff
  simp

@[simp] theorem State.dropPart_holds (s : State) (p : Nat) : (State.dropPart s p).holds = s.holds := by
  unfold State.dropPart
  simp

@[simp] theorem State.unpair_holds (s : State) (p : Nat) (st : Nat) : (State.unpair s p st).holds = s.holds := by
  unfold State.unpair
  simp

@[simp] theorem State.sendLine_holds (s : State) (l : Nat) : (State.sendLine s l).holds = s.holds := by
  unfold State.sendLine
  simp

@[simp] theorem State.syncNext_holds (s : State) : (State.syncNext s).holds = s.holds := by
  unfold State.syncNext
  (repeat' split) <;> simp

@[simp] theorem State.tdiUnpair_holds (s : State) (t : Nat) : (State.tdiUnpair s t).holds = s.holds := by
  unfold State.tdiUnpair
  (repeat' split) <;> simp

@[simp] theorem State.setTdi_holds (s : State) (t : Nat) (x : Nat) : (State.setTdi s t x).holds = s.holds := by
  unfold State.setTdi
  (repeat' split) <;> simp

@[simp] theorem State.vfReset_holds (s : State) (fn : Nat) : (State.vfReset s fn).holds = s.holds := by
  unfold State.vfReset
  simp

@[simp] theorem State.endReads_holds (s : State) (fn : Nat) : (State.endReads s fn).holds = s.holds := by
  unfold State.endReads
  simp

@[simp] theorem State.enOff_holds (s : State) (t : Nat) : (State.enOff s t).holds = s.holds := by
  unfold State.enOff
  simp

@[simp] theorem State.teardown_holds (s : State) (t : Nat) : (State.teardown s t).holds = s.holds := by
  unfold State.teardown
  simp

@[simp] theorem State.vfFlr_holds (s : State) (t : Nat) : (State.vfFlr s t).holds = s.holds := by
  unfold State.vfFlr
  simp

@[simp] theorem State.tearAll_holds (s : State) : (State.tearAll s).holds = s.holds := by
  unfold State.tearAll
  simp

@[simp] theorem State.ringsOff_holds (s : State) (t : Nat) : (State.ringsOff s t).holds = s.holds := by
  unfold State.ringsOff
  simp

@[simp] theorem State.releaseTenant_holds (s : State) (t : Nat) : (State.releaseTenant s t).holds = s.holds := by
  unfold State.releaseTenant
  simp

@[simp] theorem State.setKeys_holds (s : State) (o : Nat) (k : Option Nat × Option Nat) (cur : Nat) : (State.setKeys s o k
    cur).holds = s.holds := by
  unfold State.setKeys
  simp

@[simp] theorem State.freshKey_holds (s : State) (o : Nat) (slot : Nat) (cur : Nat) : (State.freshKey s o slot cur).holds =
    s.holds := by
  unfold State.freshKey
  simp

@[simp] theorem State.retireKey_holds (s : State) (o : Nat) : (State.retireKey s o).holds = s.holds := by
  unfold State.retireKey
  simp

@[simp] theorem State.keyRefused_holds (s : State) : (State.keyRefused s).holds = s.holds := by
  unfold State.keyRefused
  simp

@[simp] theorem State.rotateCmd_holds (s : State) (owner : Nat) : (State.rotateCmd s owner).holds = s.holds := by
  unfold State.rotateCmd
  simp

@[simp] theorem State.retireCmd_holds (s : State) (owner : Nat) : (State.retireCmd s owner).holds = s.holds := by
  unfold State.retireCmd
  simp

@[simp] theorem State.sweepStep_holds (s : State) (o : Nat) (n : Nat) : (State.sweepStep s o n).holds = s.holds := by
  unfold State.sweepStep
  (repeat' split) <;> simp

@[simp] theorem State.sweepsEnd_holds (s : State) : (State.sweepsEnd s).holds = s.holds := by
  unfold State.sweepsEnd
  simp

@[simp] theorem State.discardLines_holds (s : State) (rs : List (Nat × Nat)) : (State.discardLines s rs).holds = s.holds := by
  unfold State.discardLines
  simp

@[simp] theorem State.scrubStep_holds (s : State) (o : Nat) (n : Nat) : (State.scrubStep s o n).holds = s.holds := by
  unfold State.scrubStep
  (repeat' split) <;> simp

@[simp] theorem State.cleanMove_holds (s : State) : (State.cleanMove s).holds = s.holds := by
  unfold State.cleanMove
  simp

@[simp] theorem State.cleanNow_holds (s : State) : (State.cleanNow s).holds = s.holds := by
  unfold State.cleanNow
  simp

@[simp] theorem State.scrubsEnd_holds (s : State) : (State.scrubsEnd s).holds = s.holds := by
  unfold State.scrubsEnd
  simp

@[simp] theorem State.rotateKey_holds (s : State) (o : Nat) : (State.rotateKey s o).holds = s.holds := by
  unfold State.rotateKey
  simp

@[simp] theorem State.draw_holds (s : State) : (State.draw s).1.holds = s.holds := by
  unfold State.draw
  simp

@[simp] theorem State.unsigned_holds (s : State) : (State.unsigned s).holds = s.holds := by
  unfold State.unsigned
  simp

@[simp] theorem State.tdisp_holds (s : State) (code : Nat) (tenant : Nat) (args : List Nat) : (State.tdisp s code tenant
    args).holds = s.holds := by
  unfold State.tdisp
  simp

@[simp] theorem State.tdispErr_holds (s : State) (tenant : Nat) : (State.tdispErr s tenant).holds = s.holds := by
  unfold State.tdispErr
  simp

@[simp] theorem State.tdiError_holds (s : State) (t : Nat) : (State.tdiError s t).holds = s.holds := by
  unfold State.tdiError
  simp

@[simp] theorem State.tdispFail_holds (s : State) (t : Nat) : (State.tdispFail s t).holds = s.holds := by
  unfold State.tdispFail
  simp

@[simp] theorem State.spdm_holds (s : State) (code : Nat) (args : List Nat) (data : List Byte) (signed : Option (List Byte))
    : (State.spdm s code args data signed).holds = s.holds := by
  unfold State.spdm
  simp

@[simp] theorem State.spdmErr_holds (s : State) (code : Nat) : (State.spdmErr s code).holds = s.holds := by
  unfold State.spdmErr
  simp

@[simp] theorem State.spdmSigned_holds (s : State) (code : Nat) (args : List Nat) (data : List Byte) (nonce : List Byte) :
    (State.spdmSigned s code args data nonce).holds = s.holds := by
  unfold State.spdmSigned
  simp

@[simp] theorem State.tmeasGo_holds (s : State) (tenant : Nat) : (State.tmeasGo s tenant).holds = s.holds := by
  unfold State.tmeasGo
  simp

@[simp] theorem State.tmeasFail_holds (s : State) (t : Nat) (cause : Nat) : (State.tmeasFail s t cause).holds = s.holds := by
  unfold State.tmeasFail
  simp

@[simp] theorem State.wgtI0_holds (s : State) : (State.wgtI0 s).holds = s.holds := by
  unfold State.wgtI0
  simp

@[simp] theorem State.putRepair_holds (s : State) (vals : NMap Nat) : (State.putRepair s vals).holds = s.holds := by
  unfold State.putRepair
  simp

@[simp] theorem State.recordRepair_holds (s : State) (i : Nat) (x : Nat) : (State.recordRepair s i x).holds = s.holds := by
  unfold State.recordRepair
  (repeat' split) <;> simp

@[simp] theorem State.saveRepair_holds (s : State) : (State.saveRepair s).holds = s.holds := by
  unfold State.saveRepair
  (repeat' split) <;> simp

@[simp] theorem State.saveTrain_holds (s : State) (key : Nat) (x : Nat) : (State.saveTrain s key x).holds = s.holds :=
    by
  unfold State.saveTrain
  simp

@[simp] theorem State.showField_holds (s : State) : (State.showField s).holds = s.holds := by
  unfold State.showField
  simp

@[simp] theorem State.zeroBuf_holds (s : State) : (State.zeroBuf s).holds = s.holds := by
  unfold State.zeroBuf
  simp

@[simp] theorem State.lcsEnd_holds (s : State) (r : Nat) : (State.lcsEnd s r).holds = s.holds := by
  unfold State.lcsEnd
  simp

@[simp] theorem State.wipe_holds (s : State) (bad : Bool) : (State.wipe s bad).holds = s.holds := by
  unfold State.wipe
  simp

@[simp] theorem State.transitTo_holds (s : State) (to_ : Nat) (fail : Nat) : (State.transitTo s to_ fail).1.holds = s.holds
    := by
  unfold State.transitTo
  dsimp only
  (repeat' split) <;> simp_all

@[simp] theorem State.lcsTransition_holds (s : State) (route : Nat) (to_ : Nat) (fail : Nat) (token : List Byte) :
    (State.lcsTransition s route to_ fail token).1.holds = s.holds := by
  unfold State.lcsTransition
  dsimp only
  (repeat' split) <;> simp_all

@[simp] theorem State.lcsRun_holds (s : State) (arg : Option Nat) (f : State → State × Nat) (hf : ∀ s , (f s ).1.holds =
    s.holds) : (State.lcsRun s arg f).holds = s.holds := by
  unfold State.lcsRun
  (repeat' split) <;> simp_all

@[simp] theorem State.doTransition_holds (s : State) (route : Nat) (to_ : Nat) (fail : Nat) (buf : List Byte) :
    (State.doTransition s route to_ fail buf).holds = s.holds := by
  unfold State.doTransition
  simp

@[simp] theorem State.lcsFuse_holds (s : State) (route : Nat) (id : Nat) (fail : Nat) (buf : List Byte) : (State.lcsFuse s
    route id fail buf).1.holds = s.holds := by
  unfold State.lcsFuse
  dsimp only
  (repeat' split) <;> simp_all

@[simp] theorem State.doFuse_holds (s : State) (route : Nat) (id : Nat) (fail : Nat) (buf : List Byte) : (State.doFuse s
    route id fail buf).holds = s.holds := by
  unfold State.doFuse
  simp

@[simp] theorem State.showNonce_holds (s : State) (n : Option (List Byte)) : (State.showNonce s n).holds = s.holds := by
  unfold State.showNonce
  simp

@[simp] theorem State.lcsChallenge_holds (s : State) : (State.lcsChallenge s).1.holds = s.holds := by
  unfold State.lcsChallenge
  dsimp only
  (repeat' split) <;> simp_all

@[simp] theorem State.challenge_holds (s : State) (route : Nat) : (State.challenge s route).holds = s.holds := by
  unfold State.challenge
  (repeat' split) <;> simp

@[simp] theorem State.lcsAuth_holds (s : State) (b : List Byte) : (State.lcsAuth s b).1.holds = s.holds := by
  unfold State.lcsAuth
  dsimp only
  (repeat' split) <;> simp_all

@[simp] theorem State.doAuth_holds (s : State) (route : Nat) (buf : List Byte) : (State.doAuth s route buf).holds = s.holds
    := by
  unfold State.doAuth
  simp

@[simp] theorem State.lcsRevoke_holds (s : State) : (State.lcsRevoke s).1.holds = s.holds := by
  unfold State.lcsRevoke
  (repeat' split) <;> simp

@[simp] theorem State.dbgRevoke_holds (s : State) (route : Nat) : (State.dbgRevoke s route).holds = s.holds := by
  unfold State.dbgRevoke
  (repeat' split) <;> simp

@[simp] theorem State.makeRec_holds (s : State) (x : ErrRep) : (State.makeRec s x).1.holds = s.holds := by
  unfold State.makeRec
  simp

@[simp] theorem State.logRec_holds (s : State) (r : ErrRec) : (State.logRec s r).holds = s.holds := by
  unfold State.logRec
  simp

@[simp] theorem State.logVisible_holds (s : State) : (State.logVisible s).holds = s.holds := by
  unfold State.logVisible
  simp

@[simp] theorem State.showErr_holds (s : State) : (State.showErr s).holds = s.holds := by
  unfold State.showErr
  simp

@[simp] theorem State.countOvf_holds (s : State) (block : Nat) : (State.countOvf s block).holds = s.holds := by
  unfold State.countOvf
  simp

@[simp] theorem State.queueFull_holds (s : State) (block : Nat) : (State.queueFull s block).holds = s.holds := by
  unfold State.queueFull
  simp

@[simp] theorem State.putBack_holds (s : State) : (State.putBack s).holds = s.holds := by
  unfold State.putBack
  dsimp only
  (repeat' split) <;> simp_all

@[simp] theorem State.takeNext_holds (s : State) : (State.takeNext s).holds = s.holds := by
  unfold State.takeNext
  (repeat' split) <;> simp

@[simp] theorem State.enqueue_holds (s : State) (x : ErrRep) : (State.enqueue s x).holds = s.holds := by
  unfold State.enqueue
  simp

@[simp] theorem State.fold_holds (s : State) (h : ErrRec) : (State.fold s h).holds = s.holds := by
  unfold State.fold
  simp

@[simp] theorem State.newRec_holds (s : State) (x : ErrRep) : (State.newRec s x).holds = s.holds := by
  unfold State.newRec
  (repeat' split) <;> simp

@[simp] theorem State.blockCap_holds (s : State) (block : Nat) (cause : Nat) (unit : Nat) : (State.blockCap s block
    cause unit).holds = s.holds := by
  unfold State.blockCap
  dsimp only
  (repeat' split) <;> simp

@[simp] theorem State.countCe_holds (s : State) (block : Nat) (unit : Nat) : (State.countCe s block unit).holds =
    s.holds := by
  unfold State.countCe
  (repeat' split) <;> simp

@[simp] theorem State.logOpen_holds (s : State) : (State.logOpen s).holds = s.holds := by
  unfold State.logOpen
  (repeat' split) <;> simp

@[simp] theorem State.clearCapture_holds (s : State) (key : Nat) : (State.clearCapture s key).holds = s.holds := by
  unfold State.clearCapture
  (repeat' split) <;> simp

@[simp] theorem State.showVariant_holds (s : State) : (State.showVariant s).holds = s.holds := by
  unfold State.showVariant
  simp

@[simp] theorem State.switchVar_holds (s : State) (p : Nat) (v : Nat) : (State.switchVar s p v).holds = s.holds := by
  unfold State.switchVar
  (repeat' split) <;> simp

@[simp] theorem State.degradePart_holds (s : State) (p : Nat) : (State.degradePart s p).holds = s.holds := by
  unfold State.degradePart
  dsimp only
  (repeat' split) <;> simp_all

@[simp] theorem State.setEff_holds (s : State) (g : GrantRec) (x : Nat) : (State.setEff s g x).holds = s.holds := by
  unfold State.setEff
  simp

@[simp] theorem State.takeFrom_holds (s : State) (z0 : Nat) (z1 : List GrantRec) : (State.takeFrom s z0 z1).holds = s.holds
    := by
  induction z1 generalizing s z0 with
  | nil => unfold State.takeFrom; rfl
  | cons g gs ih => unfold State.takeFrom; dsimp only; rw [ih]; split <;> simp

@[simp] theorem State.yieldAt_holds (s : State) (m : Manifest) (r : Nat) : (State.yieldAt s m r).holds = s.holds := by
  unfold State.yieldAt
  simp

@[simp] theorem State.restore_holds (s : State) (m : Manifest) (g : GrantRec) : (State.restore s m g).holds = s.holds := by
  unfold State.restore
  simp

@[simp] theorem State.restoreAll_holds (s : State) (m : Manifest) : (State.restoreAll s m).holds = s.holds := by
  unfold State.restoreAll
  exact foldl_holds _ (fun s x => by simp) _ _

@[simp] theorem State.showCap_holds (s : State) (m : Manifest) (cap : Nat → Nat) (r : Nat) : (State.showCap s m cap
    r).holds = s.holds := by
  unfold State.showCap
  simp

@[simp] theorem State.noteCaps_holds (s : State) (cap : Nat → Nat) : (State.noteCaps s cap).holds = s.holds := by
  unfold State.noteCaps
  simp

@[simp] theorem State.capsClose_holds (s : State) : (State.capsClose s).holds = s.holds := by
  unfold State.capsClose
  simp

@[simp] theorem State.capI2_holds (s : State) : (State.capI2 s).holds = s.holds := by
  unfold State.capI2
  (repeat' split) <;> simp

@[simp] theorem State.grantsI0_holds (s : State) (m : Manifest) : (State.grantsI0 s m).holds = s.holds := by
  unfold State.grantsI0
  simp

@[simp] theorem State.qosSnapshot_holds (s : State) (closed : Nat) : (State.qosSnapshot s closed).holds = s.holds := by
  unfold State.qosSnapshot
  simp

@[simp] theorem State.qosWipe_holds (s : State) : (State.qosWipe s).holds = s.holds := by
  unfold State.qosWipe
  simp

@[simp] theorem State.escalate_holds (s : State) (p : Nat) (q : Nat) : (State.escalate s p q).holds = s.holds := by
  unfold State.escalate
  simp

@[simp] theorem State.escalateAll_holds (s : State) : (State.escalateAll s).holds = s.holds := by
  unfold State.escalateAll
  simp

@[simp] theorem State.showScale_holds (s : State) : (State.showScale s).holds = s.holds := by
  unfold State.showScale
  simp

@[simp] theorem State.pwrCap_holds (s : State) (cause : Nat) : (State.pwrCap s cause).holds = s.holds := by
  unfold State.pwrCap
  simp

@[simp] theorem State.kaSwitch_holds (s : State) (src : Nat) : (State.kaSwitch s src).holds = s.holds := by
  unfold State.kaSwitch
  simp

@[simp] theorem State.kaShow_holds (s : State) (mvA : Nat) (mvB : Nat) : (State.kaShow s mvA mvB).holds = s.holds := by
  unfold State.kaShow
  simp

@[simp] theorem State.overAct_holds (s : State) (p : Nat) (energy : Bool) : (State.overAct s p energy).holds = s.holds := by
  unfold State.overAct
  simp

@[simp] theorem State.closePart_holds (s : State) (rails : List Nat) (tiles : List Nat) (r : PartRec) : (State.closePart s
    rails tiles r).holds = s.holds := by
  unfold State.closePart
  simp

@[simp] theorem State.askSetpoint_holds (s : State) : (State.askSetpoint s).holds = s.holds := by
  unfold State.askSetpoint
  simp

@[simp] theorem State.closeEnergy_holds (s : State) (rails : List Nat) (tiles : List Nat) (badMeter : Bool) :
    (State.closeEnergy s rails tiles badMeter).holds = s.holds := by
  unfold State.closeEnergy
  simp

@[simp] theorem State.leanOff_holds (s : State) (p : Nat) : (State.leanOff s p).holds = s.holds := by
  unfold State.leanOff
  simp

@[simp] theorem State.leanOn_holds (s : State) (p : Nat) : (State.leanOn s p).holds = s.holds := by
  unfold State.leanOn
  simp

@[simp] theorem State.forceI0_holds (s : State) : (State.forceI0 s).holds = s.holds := by
  unfold State.forceI0
  simp

@[simp] theorem State.guardI0_holds (s : State) : (State.guardI0 s).holds = s.holds := by
  unfold State.guardI0
  simp

@[simp] theorem State.thermI0_holds (s : State) : (State.thermI0 s).holds = s.holds := by
  unfold State.thermI0
  simp

@[simp] theorem State.powerI0_holds (s : State) (asked : Nat) : (State.powerI0 s asked).holds = s.holds := by
  unfold State.powerI0
  simp

@[simp] theorem State.leanEnd_holds (s : State) (mask : Nat) : (State.leanEnd s mask).holds = s.holds := by
  unfold State.leanEnd
  simp

@[simp] theorem State.pwrClr_holds (s : State) : (State.pwrClr s).holds = s.holds := by
  unfold State.pwrClr
  simp

@[simp] theorem State.teCap_holds (s : State) (tile : Nat) (phys : Nat) (cause : Nat) : (State.teCap s tile phys cause).holds
    = s.holds := by
  unfold State.teCap
  (repeat' split) <;> simp

@[simp] theorem State.laneFails_holds (s : State) (tile : Nat) (j : Nat) : (State.laneFails s tile j).holds = s.holds :=
    by
  unfold State.laneFails
  (repeat' split) <;> simp

@[simp] theorem State.becomeFailing_holds (s : State) (tile : Nat) (phys : Nat) (cause : Nat) : (State.becomeFailing s tile
    phys cause).holds = s.holds := by
  unfold State.becomeFailing
  (repeat' split) <;> simp

@[simp] theorem State.markFailed_holds (s : State) (tile : Nat) (phys : Nat) : (State.markFailed s tile phys).holds = s.holds
    := by
  unfold State.markFailed
  simp

@[simp] theorem State.takeLane_holds (s : State) (tile : Nat) (j : Nat) : (State.takeLane s tile j).holds = s.holds := by
  unfold State.takeLane
  simp

@[simp] theorem State.loseLane_holds (s : State) (tile : Nat) (j : Nat) : (State.loseLane s tile j).holds = s.holds := by
  unfold State.loseLane
  simp

@[simp] theorem State.remapFailed_holds (s : State) (tile : Nat) : (State.remapFailed s tile).holds = s.holds := by
  unfold State.remapFailed
  simp

@[simp] theorem State.spareSpent_holds (s : State) (tile : Nat) : (State.spareSpent s tile).holds = s.holds := by
  unfold State.spareSpent
  simp

@[simp] theorem State.takeReq_holds (s : State) (tile : Nat) (j : Nat) : (State.takeReq s tile j).holds = s.holds := by
  unfold State.takeReq
  simp

@[simp] theorem State.returnReq_holds (s : State) (tile : Nat) (mask : Nat) : (State.returnReq s tile mask).holds = s.holds
    := by
  unfold State.returnReq
  (repeat' split) <;> simp

@[simp] theorem State.spareTile_holds (s : State) (tile : Nat) : (State.spareTile s tile).holds = s.holds := by
  unfold State.spareTile
  simp

@[simp] theorem State.sparing_holds (s : State) : (State.sparing s).holds = s.holds := by
  unfold State.sparing
  simp

@[simp] theorem State.spareShadow_holds (s : State) (tile : Nat) (f : Fld) (x : Nat) : (State.spareShadow s tile f x).holds =
    s.holds := by
  unfold State.spareShadow
  simp

@[simp] theorem State.clrFailed_holds (s : State) (tile : Nat) (mask : Nat) : (State.clrFailed s tile mask).holds = s.holds
    := by
  unfold State.clrFailed
  simp

@[simp] theorem State.decidePart_holds (s : State) (p : Nat) : (State.decidePart s p).holds = s.holds := by
  unfold State.decidePart
  simp

@[simp] theorem State.repeatI2_holds (s : State) (p : Nat) : (State.repeatI2 s p).holds = s.holds := by
  unfold State.repeatI2
  simp

@[simp] theorem State.manTo_holds (s : State) (x : Nat) : (State.manTo s x).holds = s.holds := by
  unfold State.manTo
  simp

@[simp] theorem State.showDigest_holds (s : State) (key : Nat → Nat) (d : Nat) : (State.showDigest s key d).holds = s.holds
    := by
  unfold State.showDigest
  simp

@[simp] theorem State.manResult_holds (s : State) (v : Verdict) (m : Option Manifest) : (State.manResult s v m).holds =
    s.holds := by
  unfold State.manResult
  simp

@[simp] theorem State.manDrop_holds (s : State) (result : Nat) : (State.manDrop s result).holds = s.holds := by
  unfold State.manDrop
  simp

@[simp] theorem State.stage_holds (s : State) : (State.stage s).holds = s.holds := by
  unfold State.stage
  simp

@[simp] theorem State.abandon_holds (s : State) : (State.abandon s).holds = s.holds := by
  unfold State.abandon
  simp

@[simp] theorem State.switchCmd_holds (s : State) : (State.switchCmd s).holds = s.holds := by
  unfold State.switchCmd
  simp

@[simp] theorem State.manCheck_holds (s : State) : (State.manCheck s).holds = s.holds := by
  unfold State.manCheck
  (repeat' split) <;> simp

@[simp] theorem State.ctxUndef_holds (s : State) (t : Nat) : (State.ctxUndef s t).holds = s.holds := by
  unfold State.ctxUndef
  simp

@[simp] theorem State.ctxReload_holds (s : State) (t : Nat) : (State.ctxReload s t).holds = s.holds := by
  unfold State.ctxReload
  simp

@[simp] theorem State.ctxOne_holds (s : State) (old : Manifest) (new : Manifest) (t : TenRec) : (State.ctxOne s old new
    t).holds = s.holds := by
  unfold State.ctxOne
  (repeat' split) <;> simp

@[simp] theorem State.ctxCross_holds (s : State) (old : Manifest) (new : Manifest) : (State.ctxCross s old new).holds =
    s.holds := by
  unfold State.ctxCross
  simp

@[simp] theorem State.firstKey_holds (s : State) (o : Nat) : (State.firstKey s o).holds = s.holds := by
  unfold State.firstKey
  simp

@[simp] theorem State.keysCross_holds (s : State) (old : Option Manifest) (new : Manifest) : (State.keysCross s old
    new).holds = s.holds := by
  unfold State.keysCross
  simp

@[simp] theorem State.fixedCross_holds (s : State) (m : Manifest) : (State.fixedCross s m).holds = s.holds := by
  unfold State.fixedCross
  simp

@[simp] theorem State.partsCross_holds (s : State) (m : Manifest) : (State.partsCross s m).holds = s.holds := by
  unfold State.partsCross
  simp

@[simp] theorem State.voyagesCross_holds (s : State) (m : Manifest) : (State.voyagesCross s m).holds = s.holds := by
  unfold State.voyagesCross
  simp

@[simp] theorem State.crossNow_holds (s : State) (m : Manifest) : (State.crossNow s m).holds = s.holds := by
  unfold State.crossNow
  dsimp only
  (repeat' split) <;> simp_all

@[simp] theorem State.ferryCrossing_holds (s : State) (m : Manifest) : (State.ferryCrossing s m).holds = s.holds := by
  unfold State.ferryCrossing
  (repeat' split) <;> simp

@[simp] theorem State.crossI2_holds (s : State) (due : Bool) (again : Verdict) : (State.crossI2 s due again).holds = s.holds
    := by
  unfold State.crossI2
  (repeat' split) <;> simp

@[simp] theorem State.underput_holds (s : State) (key : Nat) (f : Fld) (x : Nat) : (State.underput s key f x).holds =
    s.holds := by
  unfold State.underput
  simp

@[simp] theorem State.loadRegs_holds (s : State) (m : Manifest) : (State.loadRegs s m).holds = s.holds := by
  unfold State.loadRegs
  simp

@[simp] theorem State.enterTable_holds (s : State) (m : Manifest) (p : Nat) : (State.enterTable s m p).holds = s.holds := by
  unfold State.enterTable
  (repeat' split) <;> simp

@[simp] theorem State.crossI0_holds (s : State) : (State.crossI0 s).holds = s.holds := by
  unfold State.crossI0
  (repeat' split) <;> simp

@[simp] theorem State.crossShadow_holds (s : State) : (State.crossShadow s).holds = s.holds := by
  unfold State.crossShadow
  simp

@[simp] theorem State.setCh_holds (s : State) (p : Nat) (c : Nat) (st : Nat) (serves : Nat) : (State.setCh s p c st
    serves).holds = s.holds := by
  unfold State.setCh
  simp

@[simp] theorem State.showSpares_holds (s : State) (p : Nat) : (State.showSpares s p).holds = s.holds := by
  unfold State.showSpares
  simp

@[simp] theorem State.chInvalid_holds (s : State) (p : Nat) (lc : Nat) : (State.chInvalid s p lc).holds = s.holds := by
  unfold State.chInvalid
  simp

@[simp] theorem State.showChans_holds (s : State) (p : Nat) : (State.showChans s p).holds = s.holds := by
  unfold State.showChans
  simp

@[simp] theorem State.copyStart_holds (s : State) (p : Nat) (c : Nat) : (State.copyStart s p c).holds = s.holds := by
  unfold State.copyStart
  (repeat' split) <;> simp

@[simp] theorem State.copyNext_holds (s : State) (p : Nat) : (State.copyNext s p).holds = s.holds := by
  unfold State.copyNext
  (repeat' split) <;> simp

@[simp] theorem State.remapCh_holds (s : State) (p : Nat) (c : Nat) : (State.remapCh s p c).holds = s.holds := by
  unfold State.remapCh
  (repeat' split) <;> simp

@[simp] theorem State.copyAsk_holds (s : State) (p : Nat) (c : Nat) : (State.copyAsk s p c).holds = s.holds := by
  unfold State.copyAsk
  simp

@[simp] theorem State.chSilent_holds (s : State) (p : Nat) (c : Nat) : (State.chSilent s p c).holds = s.holds := by
  unfold State.chSilent
  dsimp only
  (repeat' split) <;> simp_all

@[simp] theorem State.targetFail_holds (s : State) (p : Nat) (c : Nat) : (State.targetFail s p c).holds = s.holds := by
  unfold State.targetFail
  dsimp only
  (repeat' split) <;> simp_all

@[simp] theorem State.chFail_holds (s : State) (p : Nat) (c : Nat) (cause : Nat) (silent : Bool) : (State.chFail s p c
    cause silent).holds = s.holds := by
  unfold State.chFail
  simp

@[simp] theorem State.takeOut_holds (s : State) (p : Nat) (cause : Nat) : (State.takeOut s p cause).holds = s.holds := by
  unfold State.takeOut
  simp

@[simp] theorem State.stackShow_holds (s : State) (p : Nat) (y : Nat) : (State.stackShow s p y).holds = s.holds := by
  unfold State.stackShow
  simp

@[simp] theorem State.lrsReset_holds (s : State) (p : Nat) (mism : Nat) : (State.lrsReset s p mism).holds = s.holds := by
  unfold State.lrsReset
  simp

@[simp] theorem State.lrsClr_holds (s : State) (p : Nat) : (State.lrsClr s p).holds = s.holds := by
  unfold State.lrsClr
  simp

@[simp] theorem State.lrsI0_holds (s : State) (p : Nat) : (State.lrsI0 s p).holds = s.holds := by
  unfold State.lrsI0
  dsimp only
  (repeat' split) <;> simp_all

@[simp] theorem State.takeCh_holds (s : State) (p : Nat) (x : Nat × Nat × Bool) : (State.takeCh s p x).holds = s.holds := by
  unfold State.takeCh
  simp

@[simp] theorem State.loseCh_holds (s : State) (p : Nat) (c : Nat) : (State.loseCh s p c).holds = s.holds := by
  unfold State.loseCh
  simp

@[simp] theorem State.freeI2_holds (s : State) (p : Nat) (c : Nat) : (State.freeI2 s p c).holds = s.holds := by
  unfold State.freeI2
  (repeat' split) <;> simp

@[simp] theorem State.lrsI2_holds (s : State) (p : Nat) : (State.lrsI2 s p).holds = s.holds := by
  unfold State.lrsI2
  simp

@[simp] theorem State.lineCe_holds (s : State) (l : Nat) : (State.lineCe s l).holds = s.holds := by
  unfold State.lineCe
  dsimp only
  (repeat' split) <;> simp_all

@[simp] theorem State.lineUe_holds (s : State) (l : Nat) (tenant : Option Nat) : (State.lineUe s l tenant).holds =
    s.holds := by
  unfold State.lineUe
  dsimp only
  (repeat' split) <;> simp_all

@[simp] theorem State.fabMsg_holds (s : State) (m : FMsg) : (State.fabMsg s m).holds = s.holds := by
  unfold State.fabMsg
  simp

@[simp] theorem State.reply_holds (s : State) (kind : Nat) (m : MemReq) (cause : Nat) (d : Line) (dmg : Bool) :
    (State.reply s kind m cause d dmg).holds = s.holds := by
  unfold State.reply
  simp

@[simp] theorem State.mdata_holds (s : State) (m : MemReq) (d : Line) : (State.mdata s m d).holds = s.holds := by
  unfold State.mdata
  simp

@[simp] theorem State.mwrAck_holds (s : State) (m : MemReq) : (State.mwrAck s m).holds = s.holds := by
  unfold State.mwrAck
  simp

@[simp] theorem State.fabErr_holds (s : State) (m : MemReq) (cause : Nat) : (State.fabErr s m cause).holds = s.holds :=
    by
  unfold State.fabErr
  simp

@[simp] theorem State.mlost_holds (s : State) (m : MemReq) : (State.mlost s m).holds = s.holds := by
  unfold State.mlost
  simp

@[simp] theorem State.relayOne_holds (s : State) (r : RRead) : (State.relayOne s r).holds = s.holds := by
  unfold State.relayOne
  (repeat' split) <;> simp

@[simp] theorem State.relay_holds (s : State) : (State.relay s).holds = s.holds := by
  unfold State.relay
  simp

@[simp] theorem State.nodeAnswer_holds (s : State) (node : Nat) (tag : Nat) (d : Option (List Byte)) : (State.nodeAnswer s
    node tag d).holds = s.holds := by
  unfold State.nodeAnswer
  (repeat' split) <;> simp

@[simp] theorem State.ackOne_holds (s : State) (w : RWrite) (ok : Bool) : (State.ackOne s w ok).holds = s.holds := by
  unfold State.ackOne
  simp

@[simp] theorem State.nodeAck_holds (s : State) (node : Nat) (tag : Nat) (ok : Bool) : (State.nodeAck s node tag ok).holds =
    s.holds := by
  unfold State.nodeAck
  (repeat' split) <;> simp

@[simp] theorem State.noData_holds (s : State) (r : LineRes) (m : MemReq) : (State.noData s r m).holds = s.holds := by
  unfold State.noData
  (repeat' split) <;> simp

@[simp] theorem State.memAbsent_holds (s : State) (m : MemReq) : (State.memAbsent s m).holds = s.holds := by
  unfold State.memAbsent
  (repeat' split) <;> simp

@[simp] theorem State.mrd_holds (s : State) (m : MemReq) : (State.mrd s m).holds = s.holds := by
  unfold State.mrd
  dsimp only
  (repeat' split) <;> simp_all

@[simp] theorem State.wrAnswer_holds (s : State) (r : LineRes) (m : MemReq) : (State.wrAnswer s r m).holds = s.holds :=
    by
  cases r with
  | ok d => exact State.mwrAck_holds ..
  | lost => exact (State.fabErr_holds ..).trans (State.homeErr_holds ..)
  | _ => exact (State.mwrAck_holds ..).trans (State.homeErr_holds ..)

@[simp] theorem State.mwr_holds (s : State) (m : MemReq) : (State.mwr s m).holds = s.holds := by
  unfold State.mwr
  (repeat' split) <;> simp

@[simp] theorem State.memServe_holds (s : State) (m : MemReq) : (State.memServe s m).holds = s.holds := by
  unfold State.memServe
  (repeat' split) <;> simp

@[simp] theorem State.toCtrl_holds (s : State) (m : MemReq) : (State.toCtrl s m).holds = s.holds := by
  unfold State.toCtrl
  (repeat' split) <;> simp

@[simp] theorem State.memSend_holds (s : State) (m : MemReq) : (State.memSend s m).holds = s.holds := by
  unfold State.memSend
  (repeat' split) <;> simp

@[simp] theorem State.fabTake_holds (s : State) (m : FMsg) : (State.fabTake s m).holds = s.holds := by
  unfold State.fabTake
  simp

@[simp] theorem State.octCap_holds (s : State) (router : Nat) (cause : Nat) : (State.octCap s router cause).holds = s.holds
    := by
  unfold State.octCap
  simp

@[simp] theorem State.setPort_holds (s : State) (r : Nat) (p : Nat) (x : Nat) : (State.setPort s r p x).holds = s.holds := by
  unfold State.setPort
  simp

@[simp] theorem State.setLink_holds (s : State) (r : Nat) (p : Nat) (x : Nat) : (State.setLink s r p x).holds = s.holds := by
  unfold State.setLink
  (repeat' split) <;> simp

@[simp] theorem State.routeI2_holds (s : State) : (State.routeI2 s).holds = s.holds := by
  unfold State.routeI2
  (repeat' split) <;> simp

@[simp] theorem State.damage_holds (s : State) (router : Nat) (tag : Nat) : (State.damage s router tag).holds = s.holds := by
  unfold State.damage
  simp

@[simp] theorem State.deliver_holds (s : State) (z0 : HPkt) : (State.deliver s z0).holds = s.holds := by
  induction z0 generalizing s <;> (unfold State.deliver; simp_all)

@[simp] theorem State.domUp_holds (s : State) (d : Nat) : (State.domUp s d).holds = s.holds := by
  unfold State.domUp
  simp

@[simp] theorem State.flushTile_holds (s : State) (t : Nat) : (State.flushTile s t).holds = s.holds := by
  unfold State.flushTile
  simp

@[simp] theorem State.teSleep_holds (s : State) (x : Nat) : (State.teSleep s x).holds = s.holds := by
  unfold State.teSleep
  simp

@[simp] theorem State.sleepOne_holds (s : State) (wake : Nat → Bool) (d : Nat) : (State.sleepOne s wake d).holds = s.holds := by
  unfold State.sleepOne
  simp

@[simp] theorem State.teRest_holds (s : State) (k : Nat) : (State.teRest s k).holds = s.holds := by
  unfold State.teRest
  simp

@[simp] theorem State.sleepI0_holds (s : State) : (State.sleepI0 s).holds = s.holds := by
  rw [State.sleepI0]
  simp

@[simp] theorem State.wakeNext_holds (s : State) : (State.wakeNext s).holds = s.holds := by
  unfold State.wakeNext
  simp

@[simp] theorem State.showTc_holds (s : State) (p : Nat) (x : Nat) : (State.showTc s p x).holds = s.holds := by
  unfold State.showTc
  simp

@[simp] theorem State.teClr_holds (s : State) (k : Nat) : (State.teClr s k).holds = s.holds := by
  unfold State.teClr
  simp

@[simp] theorem State.teFlagsClr_holds (s : State) (k : Nat) : (State.teFlagsClr s k).holds = s.holds := by
  unfold State.teFlagsClr
  simp

@[simp] theorem State.resetI2_holds (s : State) : (State.resetI2 s).holds = s.holds := by
  unfold State.resetI2
  simp

@[simp] theorem State.prstAnswer_holds (s : State) (part : Nat) (dst : Nat) (tag : Nat) (qc : Nat) : (State.prstAnswer s
    part dst tag qc).holds = s.holds := by
  unfold State.prstAnswer
  simp

@[simp] theorem State.octClr_holds (s : State) : (State.octClr s).holds = s.holds := by
  unfold State.octClr
  simp

@[simp] theorem State.cohClr_holds (s : State) : (State.cohClr s).holds = s.holds := by
  unfold State.cohClr
  simp

@[simp] theorem State.tileClr_holds (s : State) (t : Nat) : (State.tileClr s t).holds = s.holds := by
  unfold State.tileClr
  simp

@[simp] theorem State.regimeI0_holds (s : State) : (State.regimeI0 s).holds = s.holds := by
  unfold State.regimeI0
  simp

@[simp] theorem State.rowI2_holds (s : State) : (State.rowI2 s).holds = s.holds := by
  unfold State.rowI2
  simp

@[simp] theorem State.wayLineLost_holds (s : State) (slice : Nat) (l : Nat) : (State.wayLineLost s slice l).holds =
    s.holds := by
  unfold State.wayLineLost
  simp

@[simp] theorem State.shrink_holds (s : State) (h : Nat) : (State.shrink s h).holds = s.holds := by
  unfold State.shrink
  simp

@[simp] theorem State.wayLose_holds (s : State) (slice : Nat) (way : Nat) : (State.wayLose s slice way).holds = s.holds
    := by
  unfold State.wayLose
  simp

@[simp] theorem State.wayI2_holds (s : State) : (State.wayI2 s).holds = s.holds := by
  unfold State.wayI2
  simp

@[simp] theorem State.fordCap_holds (s : State) (src : Nat) (dst : Nat) (cause : Nat) : (State.fordCap s src dst cause).holds
    = s.holds := by
  unfold State.fordCap
  simp

@[simp] theorem State.lateBoundary_holds (s : State) : (State.lateBoundary s).holds = s.holds := by
  unfold State.lateBoundary
  simp

@[simp] theorem State.domReady_holds (s : State) (d : Nat) : (State.domReady s d).holds = s.holds := by
  unfold State.domReady
  simp

@[simp] theorem State.fordClr_holds (s : State) : (State.fordClr s).holds = s.holds := by
  unfold State.fordClr
  simp

@[simp] theorem State.slipTo_holds (s : State) (v : Nat) (x : Nat) : (State.slipTo s v x).holds = s.holds := by
  unfold State.slipTo
  simp

@[simp] theorem State.readLost_holds (s : State) (r : RRead) (block : Nat) (cause : Nat) (unit : Nat) : (State.readLost s r
    block cause unit).holds = s.holds := by
  unfold State.readLost
  simp

@[simp] theorem State.failNode_holds (s : State) (node : Nat) (block : Nat) (cause : Nat) (unit : Nat) : (State.failNode
    s node block cause unit).holds = s.holds := by
  unfold State.failNode
  simp

@[simp] theorem State.slipDown_holds (s : State) (v : Nat) (cause : Nat) : (State.slipDown s v cause).holds = s.holds := by
  unfold State.slipDown
  simp

@[simp] theorem State.slipBreach_holds (s : State) (v : Nat) : (State.slipBreach s v).holds = s.holds := by
  unfold State.slipBreach
  simp

@[simp] theorem State.slipRetrain_holds (s : State) (v : Nat) : (State.slipRetrain s v).holds = s.holds := by
  unfold State.slipRetrain
  simp

@[simp] theorem State.windowsI0_holds (s : State) : (State.windowsI0 s).holds = s.holds := by
  unfold State.windowsI0
  simp

@[simp] theorem State.slipMsg_holds (s : State) (v : Nat) (h : OHdr) (kind : Nat) (cause : Nat) (d : Line) :
    (State.slipMsg s v h kind cause d).holds = s.holds := by
  unfold State.slipMsg
  simp

@[simp] theorem State.slipDeliver_holds (s : State) (v : Nat) (h : OHdr) (d : Line) : (State.slipDeliver s v h d).holds
    = s.holds := by
  unfold State.slipDeliver
  (repeat' split) <;> simp

@[simp] theorem State.slipPump_holds (s : State) (v : Nat) (z0 : Nat) : (State.slipPump s v z0).holds = s.holds := by
  induction z0 generalizing s with
  | zero => rfl
  | succ f ih => unfold State.slipPump; split <;> simp [ih]

@[simp] theorem State.slipHdr_holds (s : State) (v : Nat) (h : OHdr) : (State.slipHdr s v h).holds = s.holds := by
  unfold State.slipHdr
  simp

@[simp] theorem State.slipSlot_holds (s : State) (v : Nat) (n : Nat) : (State.slipSlot s v n).holds = s.holds := by
  unfold State.slipSlot
  (repeat' split) <;> simp

@[simp] theorem State.slipReplay_holds (s : State) (v : Nat) : (State.slipReplay s v).holds = s.holds := by
  unfold State.slipReplay
  simp

@[simp] theorem State.flitBad_holds (s : State) (v : Nat) : (State.flitBad s v).holds = s.holds := by
  unfold State.flitBad
  simp

@[simp] theorem State.slipResend_holds (s : State) (v : Nat) (fseq : Nat) : (State.slipResend s v fseq).holds = s.holds := by
  unfold State.slipResend
  simp

@[simp] theorem State.slipTrim_holds (s : State) (v : Nat) : (State.slipTrim s v).holds = s.holds := by
  unfold State.slipTrim
  simp

@[simp] theorem State.flitGood_holds (s : State) (v : Nat) (b : List Byte) (head : Bool) : (State.flitGood s v b head).holds
    = s.holds := by
  unfold State.flitGood
  simp

@[simp] theorem State.slipRate_holds (s : State) (v : Nat) (rate : Nat) (mods : Nat) : (State.slipRate s v rate mods).holds =
    s.holds := by
  unfold State.slipRate
  simp

@[simp] theorem State.slipTrain_holds (s : State) (v : Nat) : (State.slipTrain s v).holds = s.holds := by
  unfold State.slipTrain
  simp

@[simp] theorem State.slipRetry_holds (s : State) (v : Nat) : (State.slipRetry s v).holds = s.holds := by
  unfold State.slipRetry
  simp

@[simp] theorem State.showDesc_holds (s : State) (v : Nat) (b : List Byte) : (State.showDesc s v b).holds = s.holds := by
  unfold State.showDesc
  simp

@[simp] theorem State.trainSlip_holds (s : State) (v : Nat) (b : List Byte) : (State.trainSlip s v b).holds = s.holds :=
    by
  unfold State.trainSlip
  simp

@[simp] theorem State.slipFound_holds (s : State) (v : Nat) (rate : Nat) (mods : Nat) (link : Bool) (b : List Byte) :
    (State.slipFound s v rate mods link b).1.holds = s.holds := by
  unfold State.slipFound
  simp

@[simp] theorem State.slipI2_holds (s : State) (v : Nat) : (State.slipI2 s v).holds = s.holds := by
  unfold State.slipI2
  simp

@[simp] theorem State.slipClr_holds (s : State) (slip : Nat) : (State.slipClr s slip).holds = s.holds := by
  unfold State.slipClr
  simp

@[simp] theorem State.enter_holds (s : State) (st : Stage) (off : Nat) (phase : Nat) : (State.enter s st off phase).holds =
    s.holds := by
  unfold State.enter
  simp

@[simp] theorem State.voidCtxs_holds (s : State) : (State.voidCtxs s).holds = s.holds := by
  unfold State.voidCtxs
  simp

@[simp] theorem State.voidLegs_holds (s : State) : (State.voidLegs s).holds = s.holds := by
  unfold State.voidLegs
  simp

@[simp] theorem State.issueRecs_holds (s : State) (l : List CmpRec) : (State.issueRecs s l).1.holds = s.holds := by
  unfold State.issueRecs
  refine foldl_fst_holds _ (fun p o => ?_) l (s, 0, [])
  dsimp only
  split
  · split <;> simp
  · rfl

@[simp] theorem State.commitRecs_holds (s : State) (fit : Nat) : (State.commitRecs s fit).holds = s.holds := by
  unfold State.commitRecs
  (repeat' split) <;> simp

@[simp] theorem State.twinCommit_holds (s : State) : (State.twinCommit s).holds = s.holds := by
  unfold State.twinCommit
  simp

@[simp] theorem State.reissue_holds (s : State) : (State.reissue s).holds = s.holds := by
  unfold State.reissue
  simp

@[simp] theorem State.setPend_holds (s : State) (fn : Nat) (v : Nat) (x : Nat) : (State.setPend s fn v x).holds = s.holds := by
  unfold State.setPend
  simp

@[simp] theorem State.judge_holds (s : State) (fn : Nat) (v : Nat) : (State.judge s fn v).1.holds = s.holds := by
  unfold State.judge
  (repeat' split) <;> simp

@[simp] theorem State.judgeAll_holds (s : State) (l : List (Nat × Nat)) : (State.judgeAll s l).1.holds = s.holds := by
  unfold State.judgeAll
  simp

@[simp] theorem State.lateVecs_holds (s : State) (l : List (Nat × Nat)) : (State.lateVecs s l).holds = s.holds := by
  unfold State.lateVecs
  simp

@[simp] theorem State.issueSpill_holds (s : State) (n : Nat) : (State.issueSpill s n).holds = s.holds := by
  unfold State.issueSpill
  simp

@[simp] theorem State.fire_holds (s : State) (o : Out) : (State.fire s o).1.holds = s.holds := by
  unfold State.fire
  dsimp only
  (repeat' split) <;> simp_all

@[simp] theorem State.fireAll_holds (s : State) (l : List Out) : (State.fireAll s l).1.holds = s.holds := by
  unfold State.fireAll
  simp

@[simp] theorem State.fireSpill_holds (s : State) (n : Nat) : (State.fireSpill s n).holds = s.holds := by
  unfold State.fireSpill
  (repeat' split) <;> simp

@[simp] theorem State.commitC1_holds (s : State) (fit : Nat) : (State.commitC1 s fit).holds = s.holds := by
  unfold State.commitC1
  simp

@[simp] theorem State.commitC2_holds (s : State) (fit : Nat) : (State.commitC2 s fit).holds = s.holds := by
  unfold State.commitC2
  simp

@[simp] theorem State.commitSpill_holds (s : State) (n : Nat) : (State.commitSpill s n).holds = s.holds := by
  unfold State.commitSpill
  simp

@[simp] theorem State.storeRemote_holds (s : State) (k : Nat) (id : Nat) (part : Nat) (tenant : Nat) (ps : List (Nat ×
    Nat × Nat)) : (State.storeRemote s k id part tenant ps).holds = s.holds := by
  unfold State.storeRemote
  simp

@[simp] theorem State.storeLog_holds (s : State) (key : Nat) (part : Nat) (l : List (Nat × List Byte)) : (State.storeLog s
    key part l).holds = s.holds := by
  unfold State.storeLog
  simp

@[simp] theorem State.movWait_holds (s : State) (k : Nat) (r : LegRun) : (State.movWait s k r).holds = s.holds := by
  unfold State.movWait
  (repeat' split) <;> simp

@[simp] theorem State.movMem_holds (s : State) (k : Nat) (r : LegRun) (w : Nat) : (State.movMem s k r w).holds = s.holds
    := by
  unfold State.movMem
  dsimp only
  (repeat' split) <;> simp_all

@[simp] theorem State.issueMem_holds (s : State) (k : Nat) (op : Nat) : (State.issueMem s k op).holds = s.holds := by
  unfold State.issueMem
  (repeat' split) <;> simp

@[simp] theorem State.issueLocal_holds (s : State) (k : Nat) (op : Nat) : (State.issueLocal s k op).holds = s.holds := by
  unfold State.issueLocal
  (repeat' split) <;> simp

@[simp] theorem State.movSpill_holds (s : State) (k : Nat) (part : Nat) (m : MovX) : (State.movSpill s k part m).holds =
    s.holds := by
  unfold State.movSpill
  simp

@[simp] theorem State.movOpen_holds (s : State) (k : Nat) (m : MovX) : (State.movOpen s k m).holds = s.holds := by
  unfold State.movOpen
  (repeat' split) <;> simp

@[simp] theorem State.takeBlock_holds (s : State) (k : Nat) : (State.takeBlock s k).holds = s.holds := by
  unfold State.takeBlock
  dsimp only
  (repeat' split) <;> simp_all

@[simp] theorem State.feed_holds (s : State) (k : Nat) (z0 : Nat) : (State.feed s k z0).holds = s.holds := by
  induction z0 generalizing s with
  | zero => rfl
  | succ f ih => unfold State.feed; simp [ih]

@[simp] theorem State.mmaStart_holds (s : State) (k : Nat) (cyc : Nat) (r : LegRun) (m : MmaI) (mm : MmaMode) (own :
    List StrBlk) : (State.mmaStart s k cyc r m mm own).holds = s.holds := by
  unfold State.mmaStart
  simp

@[simp] theorem State.streamOf_holds (s : State) (k : Nat) (r : LegRun) (z0 : List PfEntry) : (State.streamOf s k r
    z0).1.holds = s.holds := by
  induction z0 generalizing s with
  | nil => rfl
  | cons f fs ih =>
    unfold State.streamOf
    dsimp only
    (repeat' split) <;> simp [ih]

@[simp] theorem State.streamOn_holds (s : State) (k : Nat) (r : LegRun) : (State.streamOn s k r).holds = s.holds := by
  unfold State.streamOn
  simp

@[simp] theorem State.mmaIssue_holds (s : State) (k : Nat) (cyc : Nat) (r : LegRun) (w : Nat) : (State.mmaIssue s k cyc
    r w).holds = s.holds := by
  unfold State.mmaIssue
  dsimp only
  (repeat' split) <;> simp_all

@[simp] theorem State.mmaSkip_holds (s : State) (k : Nat) (r : LegRun) (w : Nat) : (State.mmaSkip s k r w).holds = s.holds := by
  unfold State.mmaSkip
  dsimp only
  (repeat' split) <;> simp_all

@[simp] theorem State.mma_holds (s : State) (k : Nat) (cyc : Nat) (op : Nat) : (State.mma s k cyc op).holds = s.holds :=
    by
  unfold State.mma
  (repeat' split) <;> simp

@[simp] theorem State.transfer_holds (s : State) : (State.transfer s).holds = s.holds := by
  unfold State.transfer
  simp

@[simp] theorem State.intakeTakes_holds (s : State) : (State.intakeTakes s).holds = s.holds := by
  unfold State.intakeTakes
  simp

@[simp] theorem State.bindLoads_holds (s : State) : (State.bindLoads s).holds = s.holds := by
  unfold State.bindLoads
  simp

@[simp] theorem State.dropBinds_holds (s : State) (t : Nat) : (State.dropBinds s t).holds = s.holds := by
  unfold State.dropBinds
  simp

@[simp] theorem State.dropWgt_holds (s : State) (t : Nat) : (State.dropWgt s t).holds = s.holds := by
  unfold State.dropWgt
  simp

@[simp] theorem State.tearI0_holds (s : State) : (State.tearI0 s).holds = s.holds := by
  unfold State.tearI0
  simp

@[simp] theorem State.ltrIf_holds (s : State) (old : Nat) : (State.ltrIf s old).holds = s.holds := by
  unfold State.ltrIf
  simp

@[simp] theorem State.measI0_holds (s : State) : (State.measI0 s).holds = s.holds := by
  unfold State.measI0
  (repeat' split) <;> simp

@[simp] theorem State.vfReady_holds (s : State) : (State.vfReady s).holds = s.holds := by
  unfold State.vfReady
  simp

@[simp] theorem State.showSlot_holds (s : State) : (State.showSlot s).holds = s.holds := by
  unfold State.showSlot
  simp

@[simp] theorem State.intakeI0_holds (s : State) : (State.intakeI0 s).holds = s.holds := by
  rw [State.intakeI0]
  simp

@[simp] theorem State.edge_holds (s : State) (unfin : Bool) : (State.edge s unfin).holds = s.holds := by
  unfold State.edge
  simp

@[simp] theorem State.ferryBegin_holds (s : State) : (State.ferryBegin s).holds = s.holds := by
  unfold State.ferryBegin
  (repeat' split) <;> simp

@[simp] theorem State.countLate_holds (s : State) : (State.countLate s).holds = s.holds := by
  unfold State.countLate
  simp

@[simp] theorem State.planLeg_holds (s : State) (p : Nat) (b : SlotBlk) (x : Nat × Nat × LegEntry) : (State.planLeg s p b
    x).holds = s.holds := by
  unfold State.planLeg
  dsimp only
  (repeat' split) <;> simp_all

@[simp] theorem State.countDefer_holds (s : State) (p : Nat) (b : SlotBlk) : (State.countDefer s p b).holds = s.holds := by
  unfold State.countDefer
  simp

@[simp] theorem State.carryOne_holds (s : State) (p : Nat) (b : SlotBlk) (e : LegEntry) : (State.carryOne s p b e).holds =
    s.holds := by
  unfold State.carryOne
  (repeat' split) <;> simp

@[simp] theorem State.carryCheck_holds (s : State) (p : Nat) (b : SlotBlk) : (State.carryCheck s p b).holds = s.holds := by
  unfold State.carryCheck
  simp

@[simp] theorem State.planPart_holds (s : State) (p : Nat) : (State.planPart s p).holds = s.holds := by
  unfold State.planPart
  (repeat' split) <;> simp

@[simp] theorem State.intakeI3_holds (s : State) (unfin : Bool) : (State.intakeI3 s unfin).holds = s.holds := by
  unfold State.intakeI3
  simp

@[simp] theorem State.teWake_holds (s : State) (k : Nat) : (State.teWake s k).holds = s.holds := by
  unfold State.teWake
  simp

@[simp] theorem State.startLeg_holds (s : State) (k : Nat) (x : LegPlan) : (State.startLeg s k x).holds = s.holds := by
  unfold State.startLeg
  (repeat' split) <;> simp

@[simp] theorem State.declare_holds (s : State) (p : Nat) : (State.declare s p).holds = s.holds := by
  unfold State.declare
  simp

@[simp] theorem State.cleanStart_holds (s : State) : (State.cleanStart s).holds = s.holds := by
  unfold State.cleanStart
  simp

@[simp] theorem State.addCopy_holds (s : State) (x : CopyX) : (State.addCopy s x).holds = s.holds := by
  unfold State.addCopy
  simp

@[simp] theorem State.copyWalk_holds (s : State) (x : CopyX) : (State.copyWalk s x).holds = s.holds := by
  unfold State.copyWalk
  dsimp only
  (repeat' split) <;> simp_all

@[simp] theorem State.copyGo_holds (s : State) (x : CopyX) (r : LegRun) (sg : Region) (dg : Region) : (State.copyGo s x
    r sg dg).holds = s.holds := by
  unfold State.copyGo
  simp

@[simp] theorem State.copyIssue_holds (s : State) (p : Nat) (i : Nat) : (State.copyIssue s p i).holds = s.holds := by
  unfold State.copyIssue
  (repeat' split) <;> simp

@[simp] theorem State.copyEnd_holds (s : State) (x : CopyX) : (State.copyEnd s x).holds = s.holds := by
  unfold State.copyEnd
  simp

@[simp] theorem State.copyMove_holds (s : State) (x : CopyX) : (State.copyMove s x).holds = s.holds := by
  unfold State.copyMove
  simp

@[simp] theorem State.drainCheck_holds (s : State) (p : Nat) : (State.drainCheck s p).holds = s.holds := by
  unfold State.drainCheck
  simp

@[simp] theorem State.copiesClose_holds (s : State) : (State.copiesClose s).holds = s.holds := by
  unfold State.copiesClose
  simp

@[simp] theorem State.ferryEnd_holds (s : State) : (State.ferryEnd s).holds = s.holds := by
  unfold State.ferryEnd
  (repeat' split) <;> simp

@[simp] theorem State.closeSail_holds (s : State) : (State.closeSail s).holds = s.holds := by
  unfold State.closeSail
  simp

@[simp] theorem State.ferryRan_holds (s : State) : (State.ferryRan s).holds = s.holds := by
  unfold State.ferryRan
  simp

@[simp] theorem State.openSail_holds (s : State) : (State.openSail s).holds = s.holds := by
  unfold State.openSail
  simp

@[simp] theorem State.boundary_holds (s : State) (lateNs : Nat) (rails : List Nat) (tiles : List Nat) (badMeter : Bool) :
    (State.boundary s lateNs rails tiles badMeter).holds = s.holds := by
  unfold State.boundary
  simp

@[simp] theorem State.idleTick_holds (s : State) : (State.idleTick s).holds = s.holds := by
  unfold State.idleTick
  simp

@[simp] theorem State.ledgerAdd_holds (s : State) (unit : Nat) (monitor : Nat) (value : Nat) : (State.ledgerAdd s unit
    monitor value).holds = s.holds := by
  unfold State.ledgerAdd
  simp

@[simp] theorem State.defer_holds (s : State) (n : Nat) : (State.defer s n).holds = s.holds := by
  unfold State.defer
  simp

@[simp] theorem State.guardStep_holds (s : State) (up : Bool) : (State.guardStep s up).holds = s.holds := by
  unfold State.guardStep
  simp

@[simp] theorem State.slackDone_holds (s : State) : (State.slackDone s).holds = s.holds := by
  unfold State.slackDone
  (repeat' split) <;> simp

@[simp] theorem State.slackSeen_holds (s : State) (v : Nat) : (State.slackSeen s v).holds = s.holds := by
  unfold State.slackSeen
  simp

@[simp] theorem State.oscSeen_holds (s : State) (unit : Nat) (v : Nat) : (State.oscSeen s unit v).holds = s.holds := by
  unfold State.oscSeen
  dsimp only
  (repeat' split) <;> simp_all

@[simp] theorem State.canarySeen_holds (s : State) (unit : Nat) (v : Nat) : (State.canarySeen s unit v).holds = s.holds := by
  unfold State.canarySeen
  simp

@[simp] theorem State.eyeLow_holds (s : State) (link : Nat) (ch : Nat) : (State.eyeLow s link ch).holds = s.holds := by
  unfold State.eyeLow
  (repeat' split) <;> simp

@[simp] theorem State.fwStore_holds (s : State) (b : List Byte) : (State.fwStore s b).holds = s.holds := by
  unfold State.fwStore
  simp

@[simp] theorem State.waitFor_holds (s : State) (x : Nat) : (State.waitFor s x).holds = s.holds := by
  unfold State.waitFor
  simp

@[simp] theorem State.romRuns_holds (s : State) : (State.romRuns s).holds = s.holds := by
  unfold State.romRuns
  simp

@[simp] theorem State.fwStart_holds (s : State) : (State.fwStart s).holds = s.holds := by
  unfold State.fwStart
  simp

@[simp] theorem State.romVerdict_holds (s : State) (code : Nat) : (State.romVerdict s code).holds = s.holds := by
  unfold State.romVerdict
  simp

@[simp] theorem State.rcvDone_holds (s : State) (r : RRead) : (State.rcvDone s r).holds = s.holds := by
  unfold State.rcvDone
  simp

@[simp] theorem State.fwState_holds (s : State) (st : Nat) : (State.fwState s st).holds = s.holds := by
  unfold State.fwState
  simp

@[simp] theorem State.fwFail_holds (s : State) (code : Nat) : (State.fwFail s code).holds = s.holds := by
  unfold State.fwFail
  simp

@[simp] theorem State.fwLoadDone_holds (s : State) (r : RRead) : (State.fwLoadDone s r).holds = s.holds := by
  unfold State.fwLoadDone
  simp

@[simp] theorem State.imagesDone_holds (s : State) : (State.imagesDone s).holds = s.holds := by
  unfold State.imagesDone
  simp

@[simp] theorem State.rcvLoad_holds (s : State) : (State.rcvLoad s).holds = s.holds := by
  unfold State.rcvLoad
  simp

@[simp] theorem State.fwLoad_holds (s : State) : (State.fwLoad s).holds = s.holds := by
  unfold State.fwLoad
  simp

@[simp] theorem State.pciRegsReset_holds (s : State) (lo : Nat) (hi : Nat) : (State.pciRegsReset s lo hi).holds = s.holds := by
  unfold State.pciRegsReset
  simp

@[simp] theorem State.vfsOff_holds (s : State) : (State.vfsOff s).holds = s.holds := by
  unfold State.vfsOff
  simp

@[simp] theorem State.vfEnableClear_holds (s : State) : (State.vfEnableClear s).holds = s.holds := by
  unfold State.vfEnableClear
  simp

@[simp] theorem State.pf0Down_holds (s : State) : (State.pf0Down s).holds = s.holds := by
  unfold State.pf0Down
  simp

@[simp] theorem State.failHostReads_holds (s : State) : (State.failHostReads s).holds = s.holds := by
  unfold State.failHostReads
  simp

@[simp] theorem State.pcieDown_holds (s : State) (pin : Bool) : (State.pcieDown s pin).holds = s.holds := by
  unfold State.pcieDown
  simp

@[simp] theorem State.vfEnableSet_holds (s : State) : (State.vfEnableSet s).holds = s.holds := by
  unfold State.vfEnableSet
  simp

@[simp] theorem State.toD3_holds (s : State) : (State.toD3 s).holds = s.holds := by
  unfold State.toD3
  simp

@[simp] theorem State.stall_holds (s : State) (r : HostReq) : (State.stall s r).holds = s.holds := by
  unfold State.stall
  simp

@[simp] theorem State.cfgAsk_holds (s : State) (k : HReqK) (fn : Nat) (f : State → State) (hf : ∀ s , (f s ).holds =
    s.holds) : (State.cfgAsk s k fn f).holds = s.holds := by
  unfold State.cfgAsk
  simp
  (repeat' split) <;> simp_all

@[simp] theorem State.cfgEffect_holds (s : State) (fn : Nat) (o : Nat) (old : Nat) (new : Nat) : (State.cfgEffect s fn o old
    new).holds = s.holds := by
  unfold State.cfgEffect
  simp

@[simp] theorem State.cfgWrite_holds (s : State) (fn : Nat) (o : Nat) (b : Nat) (data : List Byte) : (State.cfgWrite s fn o b
    data).holds = s.holds := by
  unfold State.cfgWrite
  simp

@[simp] theorem State.cfgServe_holds (s : State) (r : HostReq) : (State.cfgServe s r).holds = s.holds := by
  unfold State.cfgServe
  simp

@[simp] theorem State.unsupported_holds (s : State) (r : HostReq) : (State.unsupported s r).holds = s.holds := by
  unfold State.unsupported
  simp

@[simp] theorem State.complete_holds (s : State) (r : HostReq) (d : List Byte) : (State.complete s r d).holds = s.holds := by
  unfold State.complete
  simp

@[simp] theorem State.bar2Bad_holds (s : State) (write : Bool) (x : Nat × LineRes) : (State.bar2Bad s write x).1.holds =
    s.holds := by
  unfold State.bar2Bad
  (repeat' split) <;> simp

@[simp] theorem State.bar2Bads_holds (s : State) (write : Bool) (l : List (Nat × LineRes)) : (State.bar2Bads s write
    l).1.holds = s.holds := by
  unfold State.bar2Bads
  simp

@[simp] theorem State.bar2Wait_holds (s : State) (r : HostReq) (ps : List (Nat × Nat)) : (State.bar2Wait s r ps).holds =
    s.holds := by
  unfold State.bar2Wait
  (repeat' split) <;> simp

@[simp] theorem State.bar2Train_holds (s : State) (pa : Nat) (n : Nat) : (State.bar2Train s pa n).holds = s.holds := by
  unfold State.bar2Train
  simp

@[simp] theorem State.bar2Serve_holds (s : State) (r : HostReq) : (State.bar2Serve s r).holds = s.holds := by
  unfold State.bar2Serve
  simp

@[simp] theorem State.putRead_holds (s : State) (old : RRead) (new : RRead) : (State.putRead s old new).holds = s.holds := by
  unfold State.putRead
  simp

@[simp] theorem State.afterTag_holds (s : State) : (State.afterTag s).holds = s.holds := by
  unfold State.afterTag
  simp

@[simp] theorem State.readFails_holds (s : State) (r : RRead) (tag : Nat) (cause : Nat) : (State.readFails s r tag
    cause).holds = s.holds := by
  unfold State.readFails
  simp

@[simp] theorem State.ferryRead_holds (s : State) (r : RRead) : (State.ferryRead s r).holds = s.holds := by
  unfold State.ferryRead
  simp

@[simp] theorem State.pieceIn_holds (s : State) (r : RRead) (x : Nat × Nat × Nat) (d : List Byte) : (State.pieceIn s r x
    d).holds = s.holds := by
  unfold State.pieceIn
  simp

@[simp] theorem State.cplAer_holds (s : State) (cause : Nat) : (State.cplAer s cause).holds = s.holds := by
  unfold State.cplAer
  simp

@[simp] theorem State.lateCpl_holds (s : State) (fn : Nat) (log : Bool) : (State.lateCpl s fn log).holds = s.holds := by
  unfold State.lateCpl
  simp

@[simp] theorem State.pciClr_holds (s : State) : (State.pciClr s).holds = s.holds := by
  unfold State.pciClr
  simp

@[simp] theorem State.showFuses_holds (s : State) : (State.showFuses s).holds = s.holds := by
  unfold State.showFuses
  simp

@[simp] theorem State.beginStep_holds (s : State) (i : Nat) (ms : Nat) : (State.beginStep s i ms).holds = s.holds := by
  unfold State.beginStep
  simp

@[simp] theorem State.brgTo_holds (s : State) (st : Nat) : (State.brgTo s st).holds = s.holds := by
  unfold State.brgTo
  simp

@[simp] theorem State.candidate_holds (s : State) : (State.candidate s).holds = s.holds := by
  unfold State.candidate
  simp

@[simp] theorem State.noCandidate_holds (s : State) (v : Verdict) : (State.noCandidate s v).holds = s.holds := by
  unfold State.noCandidate
  simp

@[simp] theorem State.findCandidate_holds (s : State) : (State.findCandidate s).holds = s.holds := by
  unfold State.findCandidate
  dsimp only
  (repeat' split) <;> simp_all

@[simp] theorem State.holdSlip_holds (s : State) (v : Nat) : (State.holdSlip s v).holds = s.holds := by
  unfold State.holdSlip
  simp

@[simp] theorem State.enterHeld_holds (s : State) : (State.enterHeld s).holds = s.holds := by
  unfold State.enterHeld
  simp

@[simp] theorem State.restartTrain_holds (s : State) : (State.restartTrain s).holds = s.holds := by
  unfold State.restartTrain
  simp

@[simp] theorem State.brgRetry_holds (s : State) : (State.brgRetry s).holds = s.holds := by
  unfold State.brgRetry
  simp

@[simp] theorem State.fullNext_holds (s : State) : (State.fullNext s).holds = s.holds := by
  unfold State.fullNext
  simp

@[simp] theorem State.startTime_holds (s : State) : (State.startTime s).holds = s.holds := by
  unfold State.startTime
  simp

@[simp] theorem State.trainFabric_holds (s : State) : (State.trainFabric s).holds = s.holds := by
  unfold State.trainFabric
  simp

@[simp] theorem State.trainPorts_holds (s : State) (m : Manifest) : (State.trainPorts s m).holds = s.holds := by
  unfold State.trainPorts
  simp

@[simp] theorem State.trainStack_holds (s : State) (p : Nat) : (State.trainStack s p).holds = s.holds := by
  unfold State.trainStack
  simp

@[simp] theorem State.restoreReg_holds (s : State) (key : Nat) (v : Nat) : (State.restoreReg s key v).holds = s.holds := by
  unfold State.restoreReg
  (repeat' split) <;> simp

@[simp] theorem State.applyRepair_holds (s : State) : (State.applyRepair s).holds = s.holds := by
  rw [State.applyRepair]
  simp

@[simp] theorem State.testRow_holds (s : State) (x : Nat × Nat × Nat × Nat) (found : Bool) : (State.testRow s x found).holds
    = s.holds := by
  unfold State.testRow
  simp

@[simp] theorem State.testBank_holds (s : State) (v : Nat) (c : Nat) (b : Nat) : (State.testBank s v c b).holds = s.holds := by
  unfold State.testBank
  simp

@[simp] theorem State.testTe_holds (s : State) (tile : Nat) (phys : Nat) : (State.testTe s tile phys).holds = s.holds := by
  unfold State.testTe
  simp

@[simp] theorem State.testRepairs_holds (s : State) (rows : List (Nat × Nat × Nat × Nat × Bool)) (banks : List (Nat ×
    Nat × Nat)) (ways : List (Nat × Nat)) (tes : List (Nat × Nat)) (chans : List (Nat × Nat)) : (State.testRepairs s
    rows banks ways tes chans).holds = s.holds := by
  unfold State.testRepairs
  simp

@[simp] theorem State.clearLines_holds (s : State) : (State.clearLines s).holds = s.holds := by
  unfold State.clearLines
  simp

@[simp] theorem State.writeRepair_holds (s : State) (reason : Nat) (warm : Nat) (sample : Nat) : (State.writeRepair s reason
    warm sample).holds = s.holds := by
  unfold State.writeRepair
  simp

@[simp] theorem State.findStack_holds (s : State) (m : Manifest) (mism : List Nat) (p : Nat) : (State.findStack s m mism
    p).holds = s.holds := by
  unfold State.findStack
  simp

@[simp] theorem State.trainTwin_holds (s : State) (peer : Nat) : (State.trainTwin s peer).holds = s.holds := by
  unfold State.trainTwin
  simp

@[simp] theorem State.compareAll_holds (s : State) (m : Manifest) : (State.compareAll s m).holds = s.holds := by
  unfold State.compareAll
  dsimp only
  (repeat' split) <;> simp_all

@[simp] theorem State.fwActivate_holds (s : State) : (State.fwActivate s).holds = s.holds := by
  unfold State.fwActivate
  simp

@[simp] theorem State.handCheck_holds (s : State) : (State.handCheck s).holds = s.holds := by
  unfold State.handCheck
  simp

@[simp] theorem State.warmHandoff_holds (s : State) : (State.warmHandoff s).holds = s.holds := by
  unfold State.warmHandoff
  simp

@[simp] theorem State.watchdog_holds (s : State) : (State.watchdog s).holds = s.holds := by
  unfold State.watchdog
  simp

@[simp] theorem State.fwResume_holds (s : State) : (State.fwResume s).holds = s.holds := by
  unfold State.fwResume
  simp

@[simp] theorem State.twinErr_holds (s : State) (cls : Nat) (cause : Nat) : (State.twinErr s cls cause).holds = s.holds := by
  unfold State.twinErr
  simp

@[simp] theorem State.showBacklog_holds (s : State) : (State.showBacklog s).holds = s.holds := by
  unfold State.showBacklog
  simp

@[simp] theorem State.unpairAll_holds (s : State) : (State.unpairAll s).holds = s.holds := by
  unfold State.unpairAll
  simp

@[simp] theorem State.sendHello_holds (s : State) : (State.sendHello s).holds = s.holds := by
  unfold State.sendHello
  (repeat' split) <;> simp

@[simp] theorem State.twinCode_holds (s : State) (c : Nat) : (State.twinCode s c).holds = s.holds := by
  unfold State.twinCode
  simp

@[simp] theorem State.resync_holds (s : State) (p : Nat) : (State.resync s p).holds = s.holds := by
  unfold State.resync
  simp

@[simp] theorem State.pairPart_holds (s : State) (p : Nat) : (State.pairPart s p).holds = s.holds := by
  unfold State.pairPart
  simp

@[simp] theorem State.takeover_holds (s : State) : (State.takeover s).holds = s.holds := by
  unfold State.takeover
  simp

@[simp] theorem State.twinTakeover_holds (s : State) : (State.twinTakeover s).holds = s.holds := by
  unfold State.twinTakeover
  simp

@[simp] theorem State.twinDown_holds (s : State) : (State.twinDown s).holds = s.holds := by
  unfold State.twinDown
  simp

@[simp] theorem State.twinClr_holds (s : State) : (State.twinClr s).holds = s.holds := by
  unfold State.twinClr
  simp

@[simp] theorem State.mrsp_holds (s : State) (tag : Nat) (err : Nat) (d : List Byte) : (State.mrsp s tag err d).holds =
    s.holds := by
  unfold State.mrsp
  simp

@[simp] theorem State.mreqBad_holds (s : State) (x : Nat × LineRes) : (State.mreqBad s x).holds = s.holds := by
  unfold State.mreqBad
  (repeat' split) <;> simp

@[simp] theorem State.mreq_holds (s : State) (write : Bool) (pa : Nat) (len : Nat) (tag : Nat) (data : List Byte) :
    (State.mreq s write pa len tag data).holds = s.holds := by
  unfold State.mreq
  simp

@[simp] theorem State.diverge_holds (s : State) (p : Nat) (told : Bool) : (State.diverge s p told).holds = s.holds := by
  unfold State.diverge
  simp

@[simp] theorem State.sendAck_holds (s : State) (n : Nat) : (State.sendAck s n).holds = s.holds := by
  unfold State.sendAck
  simp

@[simp] theorem State.liveWrite_holds (s : State) (key : Nat) (w : Word) : (State.liveWrite s key w).holds = s.holds := by
  unfold State.liveWrite
  simp

@[simp] theorem State.shadowWrite_holds (s : State) (key : Nat) (v : Word) (m : Word) : (State.shadowWrite s key v m).holds =
    s.holds := by
  unfold State.shadowWrite
  simp

@[simp] theorem State.fieldWrite_holds (s : State) (key : Nat) (mask : Word) (v : Word) (f : RegField) : (State.fieldWrite s
    key mask v f).holds = s.holds := by
  unfold State.fieldWrite
  (repeat' split) <;> simp

@[simp] theorem State.qClr_holds (s : State) : (State.qClr s).holds = s.holds := by
  unfold State.qClr
  simp

@[simp] theorem State.manCmd_holds (s : State) (v : Nat) : (State.manCmd s v).holds = s.holds := by
  unfold State.manCmd
  simp

@[simp] theorem State.lcsCmd_holds (s : State) (op : Nat) : (State.lcsCmd s op).holds = s.holds := by
  unfold State.lcsCmd
  simp

@[simp] theorem State.keyCmd_holds (s : State) (v : Nat) : (State.keyCmd s v).holds = s.holds := by
  unfold State.keyCmd
  simp

@[simp] theorem State.lrsCmd_holds (s : State) (p : Nat) (v : Nat) : (State.lrsCmd s p v).holds = s.holds := by
  unfold State.lrsCmd
  simp

@[simp] theorem State.twinCmd_holds (s : State) (v : Nat) : (State.twinCmd s v).holds = s.holds := by
  unfold State.twinCmd
  simp

@[simp] theorem State.onBit_holds (s : State) (v : Nat) (i : Nat) (f : State → State) (hf : ∀ s, (f s).holds = s.holds) :
    (State.onBit s v i f).holds = s.holds := by
  unfold State.onBit
  simp [*]

@[simp] theorem State.regEffect_holds (s : State) (n : RegName) (idx : List Nat) (key : Nat) (v : Nat) (half : Bool) :
    (State.regEffect s n idx key v half).holds = s.holds := by
  unfold State.regEffect
  (repeat' split) <;> simp

@[simp] theorem State.ferryReg_holds (s : State) (n : RegName) (idx : List Nat) (key : Nat) : (State.ferryReg s n idx
    key).holds = s.holds := by
  unfold State.ferryReg
  (repeat' split) <;> simp

@[simp] theorem State.regPut_holds (s : State) (o : Nat) (mask : Word) (v : Word) (half : Bool) : (State.regPut s o mask v
    half).holds = s.holds := by
  unfold State.regPut
  (repeat' split) <;> simp

@[simp] theorem State.regWrite_holds (s : State) (off : Nat) (size : Nat) (value : Nat) : (State.regWrite s off size
    value).holds = s.holds := by
  unfold State.regWrite
  simp

@[simp] theorem State.regUse_holds (s : State) (off : Nat) : (State.regUse s off).holds = s.holds := by
  unfold State.regUse
  (repeat' split) <;> simp

@[simp] theorem State.regRefuse_holds (s : State) (r : RegReq) : (State.regRefuse s r).holds = s.holds := by
  unfold State.regRefuse
  (repeat' split) <;> simp

@[simp] theorem State.regTake_holds (s : State) (r : RegReq) : (State.regTake s r).holds = s.holds := by
  unfold State.regTake
  simp

@[simp] theorem State.regGo_holds (s : State) (r : RegReq) : (State.regGo s r).holds = s.holds := by
  unfold State.regGo
  (repeat' split) <;> simp

@[simp] theorem State.regLand_holds (s : State) (r : RegReq) : (State.regLand s r).holds = s.holds := by
  unfold State.regLand
  simp

@[simp] theorem State.regPoll_holds (s : State) : (State.regPoll s).holds = s.holds := by
  unfold State.regPoll
  (repeat' split) <;> simp

@[simp] theorem State.regSend_holds (s : State) (r : RegReq) : (State.regSend s r).holds = s.holds := by
  unfold State.regSend
  simp

@[simp] theorem State.regNow_holds (s : State) (r : RegReq) : (State.regNow s r).holds = s.holds := by
  unfold State.regNow
  (repeat' split) <;> simp

@[simp] theorem State.regDone_holds (s : State) (r : RegReq) : (State.regDone s r).holds = s.holds := by
  unfold State.regDone
  (repeat' split) <;> simp

@[simp] theorem State.regReadMsgs_holds (s : State) (src : Nat) (tag : Nat) (off : Nat) (n : Nat) : (State.regReadMsgs s
    src tag off n).holds = s.holds := by
  unfold State.regReadMsgs
  (repeat' split) <;> simp

@[simp] theorem State.regWake_holds (s : State) (off : Nat) : (State.regWake s off).holds = s.holds := by
  unfold State.regWake
  (repeat' split) <;> simp

@[simp] theorem State.land_holds (s : State) (z0 : HPkt) : (State.land s z0).holds = s.holds := by
  induction z0 generalizing s <;> (unfold State.land; (repeat' split) <;> simp_all)

@[simp] theorem State.landAll_holds (s : State) : (State.landAll s).holds = s.holds := by
  unfold State.landAll
  simp

@[simp] theorem State.fabCycle_holds (s : State) : (State.fabCycle s).holds = s.holds := by
  unfold State.fabCycle
  simp

@[simp] theorem State.prst_holds (s : State) (r : HostReq) : (State.prst s r).holds = s.holds := by
  unfold State.prst
  simp

@[simp] theorem State.vfWrite_holds (s : State) (t : Nat) (off : Nat) (data : List Byte) : (State.vfWrite s t off data).holds
    = s.holds := by
  unfold State.vfWrite
  simp

@[simp] theorem State.bar0Pf_holds (s : State) (r : HostReq) : (State.bar0Pf s r).holds = s.holds := by
  unfold State.bar0Pf
  simp

@[simp] theorem State.bar0Vf_holds (s : State) (r : HostReq) : (State.bar0Vf s r).holds = s.holds := by
  unfold State.bar0Vf
  simp

@[simp] theorem State.bar0Serve_holds (s : State) (r : HostReq) : (State.bar0Serve s r).holds = s.holds := by
  unfold State.bar0Serve
  simp

@[simp] theorem State.switchRegs_holds (s : State) (b : List Byte) (z0 : Nat) : (State.switchRegs s b z0).holds = s.holds := by
  induction z0 generalizing s b with
  | zero => rfl
  | succ f ih => unfold State.switchRegs; simp [ih]

@[simp] theorem State.switchProgs_holds (s : State) (b : List Byte) (z0 : Nat) : (State.switchProgs s b z0).holds = s.holds
    := by
  induction z0 generalizing s b with
  | zero => rfl
  | succ f ih => unfold State.switchProgs; dsimp only; rw [ih]

@[simp] theorem State.switchRings_holds (s : State) (p : Nat) : (State.switchRings s p).holds = s.holds := by
  unfold State.switchRings
  simp

@[simp] theorem State.switchIn_holds (s : State) (e : FEntry) : (State.switchIn s e).holds = s.holds := by
  unfold State.switchIn
  simp

@[simp] theorem State.ferrySlots_holds (s : State) (e : FEntry) : (State.ferrySlots s e).holds = s.holds := by
  unfold State.ferrySlots
  simp

@[simp] theorem State.ferryCross_holds (s : State) (n : Nat) (e : FEntry) : (State.ferryCross s n e).holds = s.holds := by
  unfold State.ferryCross
  simp

@[simp] theorem State.ferryDigest_holds (s : State) (e : FEntry) : (State.ferryDigest s e).holds = s.holds := by
  unfold State.ferryDigest
  (repeat' split) <;> simp

@[simp] theorem State.ferryIssued_holds (s : State) (e : FEntry) : (State.ferryIssued s e).holds = s.holds := by
  unfold State.ferryIssued
  simp

@[simp] theorem State.ferryEntry_holds (s : State) (n : Nat) (e : FEntry) : (State.ferryEntry s n e).holds = s.holds := by
  unfold State.ferryEntry
  simp

@[simp] theorem State.trim_holds (s : State) : (State.trim s).holds = s.holds := by
  unfold State.trim
  simp

@[simp] theorem State.ferryRun_holds (s : State) : (State.ferryRun s).holds = s.holds := by
  unfold State.ferryRun
  (repeat' split) <;> simp

@[simp] theorem State.slipErrTo_holds (s : State) (v : Nat) (q : SReq) (cause : Nat) : (State.slipErrTo s v q cause).holds =
    s.holds := by
  unfold State.slipErrTo
  simp

@[simp] theorem State.slipAbsent_holds (s : State) (v : Nat) (q : SReq) (pa : Nat) : (State.slipAbsent s v q pa).holds =
    s.holds := by
  unfold State.slipAbsent
  simp

@[simp] theorem State.slipRegs_holds (s : State) (v : Nat) (q : SReq) : (State.slipRegs s v q).holds = s.holds := by
  unfold State.slipRegs
  simp
  (repeat' split) <;> simp_all

@[simp] theorem State.slipServe_holds (s : State) (v : Nat) (q : SReq) : (State.slipServe s v q).holds = s.holds := by
  unfold State.slipServe
  (repeat' split) <;> simp

@[simp] theorem State.release_holds (s : State) (r : HostReq) : (State.release s r).holds = s.holds := by
  unfold State.release
  (repeat' split) <;> simp

@[simp] theorem State.retryHost_holds (s : State) : (State.retryHost s).holds = s.holds := by
  unfold State.retryHost
  simp

@[simp] theorem State.idle_holds (s : State) : (State.idle s).holds = s.holds := by
  unfold State.idle
  simp

@[simp] theorem State.vecOp_holds (s : State) (k : Nat) (func : Nat) (f : Bool → Nat → Nat → Nat → Nat) : (State.vecOp s k
    func f).holds = s.holds := by
  unfold State.vecOp
  simp

@[simp] theorem State.rand_holds (s : State) (k : Nat) (func : Nat) (f : Nat → Nat) : (State.rand s k func f).holds = s.holds
    := by
  unfold State.rand
  simp

@[simp] theorem State.arrive_holds (s : State) (k : Nat) (mask : Nat) (bid : Nat) : (State.arrive s k mask bid).holds =
    s.holds := by
  unfold State.arrive
  (repeat' split) <;> simp

@[simp] theorem State.predOp_holds (s : State) (k : Nat) (op : Nat) (hold : PredI → List (Nat × Nat)) (f : State → PredI →
    LegRun → Bool) : (State.predOp s k op hold f).holds = s.holds := by
  unfold State.predOp
  simp

@[simp] theorem State.tapSelect_holds (s : State) (code : Nat) (ok : Bool) (f : State → State) (hf : ∀ s, (f s).holds =
    s.holds) : (State.tapSelect s code ok f).holds = s.holds := by
  unfold State.tapSelect
  simp [*]

@[simp] theorem State.tapLcsCmd_holds (s : State) (data : Nat) : (State.tapLcsCmd s data).holds = s.holds := by
  unfold State.tapLcsCmd
  simp

@[simp] theorem State.withCommand_holds (s : State) (c : Instr) : (State.withCommand s c).holds = s.holds := by
  rfl

@[simp] theorem State.withFetchWord_holds (s : State) (nbits : Nat) (w : Nat) : (State.withFetchWord s nbits w).holds =
    s.holds := by
  unfold State.withFetchWord
  (repeat' split) <;> simp

end Sys2Proof.Machine
end

