-- ==== Sys2Proof/Laws/Mem.lean ====
section
/-! SUPPORT. No operation but those that write memory changes a byte of it: one lemma per operation. -/

namespace Sys2Proof.Machine

@[simp] theorem ite_mem (c : Prop) [Decidable c] (a b : State) :
    (if c then a else b).mem = if c then a.mem else b.mem := by split <;> rfl

@[simp] theorem foldl_mem {α : Type} (f : State → α → State) (h : ∀ s x, (f s x).mem = s.mem) (l : List α)
    (s : State) : (l.foldl f s).mem = s.mem := by
  induction l generalizing s with
  | nil => rfl
  | cons x l ih => rw [List.foldl_cons, ih, h]

@[simp] theorem foldl_fst_mem {α β : Type} (f : State × β → α → State × β)
    (h : ∀ p x, (f p x).1.mem = p.1.mem) (l : List α) (p : State × β) :
    (l.foldl f p).1.mem = p.1.mem := by
  induction l generalizing p with
  | nil => rfl
  | cons x l ih => rw [List.foldl_cons, ih, h]

@[simp] theorem State.rsetIf_mem (s : State) (c : Bool) (key : Nat) (f : Fld) (x : Nat) : (State.rsetIf s c key f x).mem =
    s.mem := by
  unfold State.rsetIf
  simp

@[simp] theorem State.raddOpen_mem (s : State) (key : Nat) (f : Fld) (n : Nat) : (State.raddOpen s key f n).mem = s.mem := by
  unfold State.raddOpen
  simp

@[simp] theorem State.each_mem (s : State) (l : List Nat) (f : State → Nat → State) (hf : ∀ s x0, (f s x0).mem = s.mem) :
    (State.each s l f).mem = s.mem := by
  unfold State.each
  simp [*]

@[simp] theorem State.voidFor_mem (s : State) (tenant : Option Nat) (vcause : Nat) (block : Nat) (cause : Nat) (unit : Nat)
    (addr : Option Nat) : (State.voidFor s tenant vcause block cause unit addr).mem = s.mem := by
  unfold State.voidFor
  (repeat' split) <;> simp

@[simp] theorem State.holdWrite_mem (s : State) (k : Nat) (a : Nat) (bs : List Byte) : (State.holdWrite s k a bs).mem = s.mem
    := by
  unfold State.holdWrite
  simp

@[simp] theorem State.countEvts_mem (s : State) (k : Nat) (e : Evts) : (State.countEvts s k e).mem = s.mem := by
  unfold State.countEvts
  simp

@[simp] theorem State.clearTe_mem (s : State) (k : Nat) : (State.clearTe s k).mem = s.mem := by
  unfold State.clearTe
  simp

@[simp] theorem State.countRd_mem (s : State) (l : Nat) : (State.countRd s l).mem = s.mem := by
  unfold State.countRd
  (repeat' split) <;> simp

@[simp] theorem State.unclean_mem (s : State) (o : Nat) : (State.unclean s o).mem = s.mem := by
  unfold State.unclean
  simp

@[simp] theorem State.lineMark_mem (s : State) (l : Nat) : (State.lineMark s l).1.mem = s.mem := by
  unfold State.lineMark
  (repeat' split) <;> simp

@[simp] theorem State.signal_mem (s : State) (fn : Nat) (vec : Nat) : (State.signal s fn vec).mem = s.mem := by
  unfold State.signal
  simp

@[simp] theorem State.signalIf_mem (s : State) (c : Bool) (fn : Nat) (vec : Nat) : (State.signalIf s c fn vec).mem = s.mem := by
  unfold State.signalIf
  simp

@[simp] theorem State.cfgPut_mem (s : State) (fn : Nat) (off : Nat) (v : Nat) : (State.cfgPut s fn off v).mem = s.mem := by
  unfold State.cfgPut
  simp

@[simp] theorem State.aer_mem (s : State) (off : Nat) (bit : Nat) : (State.aer s off bit).mem = s.mem := by
  unfold State.aer
  simp

@[simp] theorem State.twinEvt_mem (s : State) (f : Fld) : (State.twinEvt s f).mem = s.mem := by
  unfold State.twinEvt
  simp

@[simp] theorem State.stepDown_mem (s : State) : (State.stepDown s).mem = s.mem := by
  unfold State.stepDown
  simp

@[simp] theorem State.teState_mem (s : State) (k : Nat) (x : Nat) : (State.teState s k x).mem = s.mem := by
  unfold State.teState
  simp

@[simp] theorem State.busyCycles_mem (s : State) (k : Nat) (n : Nat) : (State.busyCycles s k n).mem = s.mem := by
  unfold State.busyCycles
  simp

@[simp] theorem State.holdStall_mem (s : State) (k : Nat) (n : Nat) : (State.holdStall s k n).mem = s.mem := by
  unfold State.holdStall
  simp

@[simp] theorem State.wsStall_mem (s : State) (k : Nat) (n : Nat) : (State.wsStall s k n).mem = s.mem := by
  unfold State.wsStall
  simp

@[simp] theorem State.cutCycles_mem (s : State) (k : Nat) (r : LegRun) (n : Nat) : (State.cutCycles s k r n).mem = s.mem
    := by
  unfold State.cutCycles
  simp

@[simp] theorem State.legCut_mem (s : State) (k : Nat) (r : LegRun) : (State.legCut s k r).mem = s.mem := by
  unfold State.legCut
  simp

@[simp] theorem State.legsCut_mem (s : State) (sel : LegRun → Bool) : (State.legsCut s sel).mem = s.mem := by
  unfold State.legsCut
  refine foldl_mem _ (fun s p => ?_) _ _
  (repeat' split) <;> simp

@[simp] theorem State.domTo_mem (s : State) (d : Nat) (st : Nat) : (State.domTo s d st).mem = s.mem := by
  unfold State.domTo
  simp

@[simp] theorem State.fatalNow_mem (s : State) : (State.fatalNow s).mem = s.mem := by
  unfold State.fatalNow
  simp

@[simp] theorem State.fatal_mem (s : State) (block : Nat) (cause : Nat) (unit : Nat) : (State.fatal s block cause unit).mem =
    s.mem := by
  unfold State.fatal
  simp

@[simp] theorem State.fatalTrip_mem (s : State) (block : Nat) (cause : Nat) (unit : Nat) : (State.fatalTrip s block
    cause unit).mem = s.mem := by
  unfold State.fatalTrip
  simp

@[simp] theorem State.memUe_mem (s : State) (l : Nat) (block : Nat) (cause : Nat) (unit : Nat) (tenant : Option Nat) :
    (State.memUe s l block cause unit tenant).mem = s.mem := by
  unfold State.memUe
  simp

@[simp] theorem State.setTx_mem (s : State) (v : Nat) (x : OspTx) : (State.setTx s v x).mem = s.mem := by
  unfold State.setTx
  simp

@[simp] theorem State.ospStart_mem (s : State) (v : Nat) : (State.ospStart s v).mem = s.mem := by
  unfold State.ospStart
  simp

@[simp] theorem State.ospFree_mem (s : State) (v : Nat) (need : List Nat) : (State.ospFree s v need).mem = s.mem := by
  unfold State.ospFree
  simp

@[simp] theorem State.osp_mem (s : State) (v : Nat) (args : List Nat) (bytes : List Byte) (h : OspHead) : (State.osp s v
    args bytes h).mem = s.mem := by
  unfold State.osp
  simp

@[simp] theorem State.ospMsg_mem (s : State) (v : Nat) (args : List Nat) (cls : Nat) (op : Nat) (qc : Nat) (tag : Nat)
    (addr : Nat) (aux : Nat) : (State.ospMsg s v args cls op qc tag addr aux).mem = s.mem := by
  unfold State.ospMsg
  simp

@[simp] theorem State.ospErr_mem (s : State) (v : Nat) (qc : Nat) (tag : Nat) (addr : Nat) (cause : Nat) : (State.ospErr
    s v qc tag addr cause).mem = s.mem := by
  unfold State.ospErr
  simp

@[simp] theorem State.ospData_mem (s : State) (v : Nat) (qc : Nat) (tag : Nat) (addr : Nat) (grant : Nat) (d : Line) :
    (State.ospData s v qc tag addr grant d).mem = s.mem := by
  unfold State.ospData
  simp

@[simp] theorem State.ospGnt_mem (s : State) (v : Nat) (qc : Nat) (tag : Nat) (addr : Nat) : (State.ospGnt s v qc tag
    addr).mem = s.mem := by
  unfold State.ospGnt
  simp

@[simp] theorem State.ospSend_mem (s : State) (v : Nat) (kind : Nat) (fseq : Nat) (payload : List Byte) : (State.ospSend
    s v kind fseq payload).mem = s.mem := by
  unfold State.ospSend
  simp

@[simp] theorem State.ospKeep_mem (s : State) (v : Nat) (kind : Nat) (payload : List Byte) : (State.ospKeep s v kind
    payload).mem = s.mem := by
  unfold State.ospKeep
  simp

@[simp] theorem State.ospStep_mem (s : State) (v : Nat) : (State.ospStep s v).mem = s.mem := by
  unfold State.ospStep
  simp

@[simp] theorem State.ospTick_mem (s : State) : (State.ospTick s).mem = s.mem := by
  unfold State.ospTick
  simp

@[simp] theorem State.ospHear_mem (s : State) (v : Nat) (flit : List Byte) (fresh : Bool) : (State.ospHear s v flit
    fresh).mem = s.mem := by
  unfold State.ospHear
  simp

@[simp] theorem State.ospResend_mem (s : State) (v : Nat) (fseq : Option Nat) : (State.ospResend s v fseq).mem = s.mem
    := by
  unfold State.ospResend
  simp

@[simp] theorem State.ospReplay_mem (s : State) (v : Nat) : (State.ospReplay s v).mem = s.mem := by
  unfold State.ospReplay
  simp

@[simp] theorem State.toL0_mem (s : State) : (State.toL0 s).mem = s.mem := by
  unfold State.toL0
  simp

@[simp] theorem State.wakeLink_mem (s : State) : (State.wakeLink s).mem = s.mem := by
  unfold State.wakeLink
  simp

@[simp] theorem State.ltrSend_mem (s : State) : (State.ltrSend s).mem = s.mem := by
  unfold State.ltrSend
  simp

@[simp] theorem State.pciCap_mem (s : State) (fn : Nat) (cause : Nat) : (State.pciCap s fn cause).mem = s.mem := by
  unfold State.pciCap
  simp

@[simp] theorem State.hostFail_mem (s : State) (fn : Nat) (cause : Nat) : (State.hostFail s fn cause).mem = s.mem := by
  unfold State.hostFail
  simp

@[simp] theorem State.setTwinPart_mem (s : State) (p : Nat) (x : Nat) : (State.setTwinPart s p x).mem = s.mem := by
  unfold State.setTwinPart
  simp

@[simp] theorem State.ferry_mem (s : State) (typ : Nat) (part : Nat) (key : Nat) (data : List Byte) : (State.ferry s typ part
    key data).mem = s.mem := by
  unfold State.ferry
  simp

@[simp] theorem State.useEntry_mem (s : State) (e : FEntry) : (State.useEntry s e).mem = s.mem := by
  unfold State.useEntry
  simp

@[simp] theorem State.retain_mem (s : State) (o : Out) : (State.retain s o).mem = s.mem := by
  unfold State.retain
  simp

@[simp] theorem State.atsLook_mem (s : State) (fn : Nat) (addr : Nat) (write : Bool) : (State.atsLook s fn addr write).1.mem
    = s.mem := by
  unfold State.atsLook
  (repeat' split) <;> simp

@[simp] theorem State.atsTag_mem (s : State) (tag : Nat) (key : Nat) (translated : Bool) : (State.atsTag s tag key
    translated).mem = s.mem := by
  unfold State.atsTag
  simp

@[simp] theorem State.showTags_mem (s : State) : (State.showTags s).mem = s.mem := by
  unfold State.showTags
  simp

@[simp] theorem State.pumpTags_mem (s : State) (z0 : Nat) : (State.pumpTags s z0).mem = s.mem := by
  induction z0 generalizing s with
  | zero => rfl
  | succ f ih =>
    unfold State.pumpTags
    split
    · split
      · simp [ih]
      · rfl
    · rfl

@[simp] theorem State.hostRead_mem (s : State) (who : List Nat) (pa : Nat) (len : Nat) (func : Nat) : (State.hostRead s who
    pa len func).mem = s.mem := by
  unfold State.hostRead
  (repeat' split) <;> simp

@[simp] theorem State.askNode_mem (s : State) (node : Nat) (args : List Nat) (bytes : List Byte) (h : OspHead) :
    (State.askNode s node args bytes h).mem = s.mem := by
  unfold State.askNode
  simp

@[simp] theorem State.nodeRead_mem (s : State) (who : List Nat) (pa : Nat) (len : Nat) (func : Nat) : (State.nodeRead s who
    pa len func).mem = s.mem := by
  unfold State.nodeRead
  simp

@[simp] theorem State.remIssue_mem (s : State) (who : List Nat) (pa : Nat) (len : Nat) (func : Nat) : (State.remIssue s who
    pa len func).mem = s.mem := by
  unfold State.remIssue
  simp

@[simp] theorem State.remGet_mem (s : State) (who : List Nat) (pa : Nat) (len : Nat) (func : Nat) : (State.remGet s who pa
    len func).1.mem = s.mem := by
  unfold State.remGet
  (repeat' split) <;> simp

@[simp] theorem State.remDrop_mem (s : State) (p : RRead → Bool) : (State.remDrop s p).mem = s.mem := by
  unfold State.remDrop
  simp

@[simp] theorem State.manArrived_mem (s : State) : (State.manArrived s).mem = s.mem := by
  unfold State.manArrived
  simp

@[simp] theorem State.hostWrite_mem (s : State) (func : Nat) (addr : Nat) (bs : List Byte) : (State.hostWrite s func addr
    bs).1.mem = s.mem := by
  unfold State.hostWrite
  (repeat' split) <;> simp

@[simp] theorem State.nodeWrite_mem (s : State) (who : List Nat) (pa : Nat) (mask : Nat) (args : List Nat) (bs : List
    Byte) (line : List Byte) : (State.nodeWrite s who pa mask args bs line).mem = s.mem := by
  unfold State.nodeWrite
  simp

@[simp] theorem State.remWrite_mem (s : State) (who : List Nat) (pa : Nat) (func : Nat) (bs : List Byte) : (State.remWrite s
    who pa func bs).1.mem = s.mem := by
  unfold State.remWrite
  dsimp only
  (repeat' split) <;> simp_all

@[simp] theorem State.remMasked_mem (s : State) (who : List Nat) (pa : Nat) (mask : Nat) (bs : List Byte) :
    (State.remMasked s who pa mask bs).1.mem = s.mem := by
  unfold State.remMasked
  (repeat' split) <;> simp

@[simp] theorem State.fabTick_mem (s : State) : (State.fabTick s).mem = s.mem := by
  unfold State.fabTick
  split
  · rfl
  · have h : ∀ l x, (List.foldl State.outTurn x l).1.mem = x.1.mem := by
      intro l x
      refine foldl_fst_mem _ (fun p o => ?_) l x
      unfold State.outTurn
      (repeat' split) <;> simp
    simp [h]

@[simp] theorem State.postAt_mem (s : State) (at_ : Nat) (h : FabHdr) (up : Bool) (mask : Nat) (d : Line) :
    (State.postAt s at_ h up mask d).1.mem = s.mem := by
  unfold State.postAt
  (repeat' split) <;> simp

@[simp] theorem State.post_mem (s : State) (h : FabHdr) (mask : Nat) (d : Line) : (State.post s h mask d).1.mem = s.mem
    := by
  unfold State.post
  simp

@[simp] theorem State.fly_mem (s : State) (h : FabHdr) (mask : Nat) (d : Line) (x : HPkt) : (State.fly s h mask d x).mem
    = s.mem := by
  unfold State.fly
  (repeat' split) <;> simp

@[simp] theorem State.putBucket_mem (s : State) (p : Nat) (q : Nat) (lv : Int) : (State.putBucket s p q lv).mem = s.mem := by
  unfold State.putBucket
  simp

@[simp] theorem State.settleAll_mem (s : State) : (State.settleAll s).mem = s.mem := by
  unfold State.settleAll
  simp

@[simp] theorem State.takeTokens_mem (s : State) (p : Nat) (q : Nat) : (State.takeTokens s p q).mem = s.mem := by
  unfold State.takeTokens
  simp

@[simp] theorem State.debitSpf_mem (s : State) (p : Nat) (q : Nat) : (State.debitSpf s p q).mem = s.mem := by
  unfold State.debitSpf
  simp

@[simp] theorem State.charge_mem (s : State) (p : Nat) (q : Nat) (n : Nat) : (State.charge s p q n).mem = s.mem := by
  unfold State.charge
  simp

@[simp] theorem State.tollPay_mem (s : State) (who : List Nat) (p : Nat) (q : Nat) (n : Nat) : (State.tollPay s who p q
    n).mem = s.mem := by
  unfold State.tollPay
  simp

@[simp] theorem State.tollTake_mem (s : State) (who : List Nat) (p : Nat) (q : Nat) (n : Nat) : (State.tollTake s who p
    q n).mem = s.mem := by
  unfold State.tollTake
  simp

@[simp] theorem State.holdReq_mem (s : State) (q : CReq) : (State.holdReq s q).mem = s.mem := by
  unfold State.holdReq
  simp

@[simp] theorem State.latSample_mem (s : State) (p : Nat) (q : Nat) (ts : Nat) : (State.latSample s p q ts).mem = s.mem := by
  unfold State.latSample
  simp

@[simp] theorem State.latNow_mem (s : State) (p : Nat) (q : Nat) (n : Nat) : (State.latNow s p q n).mem = s.mem := by
  unfold State.latNow
  simp

@[simp] theorem State.cleanTick_mem (s : State) : (State.cleanTick s).mem = s.mem := by
  unfold State.cleanTick
  simp

@[simp] theorem State.useDom_mem (s : State) (d : Nat) : (State.useDom s d).mem = s.mem := by
  unfold State.useDom
  simp

@[simp] theorem State.useAgent_mem (s : State) (a : Nat) : (State.useAgent s a).mem = s.mem := by
  unfold State.useAgent
  simp

@[simp] theorem State.useReq_mem (s : State) (req : Nat) (home : Nat) : (State.useReq s req home).mem = s.mem := by
  unfold State.useReq
  simp

@[simp] theorem State.wake_mem (s : State) (d : Nat) : (State.wake s d).mem = s.mem := by
  unfold State.wake
  simp

@[simp] theorem State.countLlc_mem (s : State) (h : Nat) (hit : Bool) : (State.countLlc s h hit).mem = s.mem := by
  unfold State.countLlc
  simp

@[simp] theorem State.touchCopy_mem (s : State) (a : Nat) (l : Nat) : (State.touchCopy s a l).mem = s.mem := by
  unfold State.touchCopy
  (repeat' split) <;> simp

@[simp] theorem State.cohSend_mem (s : State) (m : CMsg) : (State.cohSend s m).mem = s.mem := by
  unfold State.cohSend
  (repeat' split) <;> simp

@[simp] theorem State.fencedCap_mem (s : State) (l : Nat) : (State.fencedCap s l).mem = s.mem := by
  unfold State.fencedCap
  simp

@[simp] theorem State.unmark_mem (s : State) (ls : List Nat) : (State.unmark s ls).mem = s.mem := by
  unfold State.unmark
  simp

@[simp] theorem State.llcTouch_mem (s : State) (l : Nat) : (State.llcTouch s l).mem = s.mem := by
  unfold State.llcTouch
  (repeat' split) <;> simp

@[simp] theorem State.llcIn_mem (s : State) (l : Nat) (w : Nat) (d : Line) (dirty : Bool) : (State.llcIn s l w d
    dirty).mem = s.mem := by
  unfold State.llcIn
  simp

@[simp] theorem State.countHome_mem (s : State) (l : Nat) : (State.countHome s l).mem = s.mem := by
  unfold State.countHome
  simp

@[simp] theorem State.snoopOn_mem (s : State) (l : Nat) (at_ : Nat) : (State.snoopOn s l at_).mem = s.mem := by
  unfold State.snoopOn
  (repeat' split) <;> simp

@[simp] theorem State.countSnoop_mem (s : State) (h : Nat) : (State.countSnoop s h).mem = s.mem := by
  unfold State.countSnoop
  simp

@[simp] theorem State.filterPut_mem (s : State) (l : Nat) (e : FEnt) : (State.filterPut s l e).mem = s.mem := by
  unfold State.filterPut
  simp

@[simp] theorem State.filterDel_mem (s : State) (l : Nat) : (State.filterDel s l).mem = s.mem := by
  unfold State.filterDel
  simp

@[simp] theorem State.marksOf_mem (s : State) (h : Nat) : (State.marksOf s h).mem = s.mem := by
  unfold State.marksOf
  simp

@[simp] theorem State.filterAlloc_mem (s : State) (l : Nat) (owned : Bool) (fwd : Option Nat) : (State.filterAlloc s l owned
    fwd).mem = s.mem := by
  unfold State.filterAlloc
  (repeat' split) <;> simp

@[simp] theorem State.filterSetOrNew_mem (s : State) (l : Nat) (owned : Bool) (fwd : Option Nat) : (State.filterSetOrNew
    s l owned fwd).mem = s.mem := by
  unfold State.filterSetOrNew
  simp

@[simp] theorem State.grantWait_mem (s : State) (t : Txn) (m : CMsg) : (State.grantWait s t m).mem = s.mem := by
  unfold State.grantWait
  simp

@[simp] theorem State.endTxn_mem (s : State) (l : Nat) (m : CMsg) : (State.endTxn s l m).mem = s.mem := by
  unfold State.endTxn
  simp

@[simp] theorem State.homeErr_mem (s : State) (l : Nat) (req : Nat) (ten : Nat) (r : LineRes) : (State.homeErr s l req ten
    r).mem = s.mem := by
  unfold State.homeErr
  (repeat' split) <;> simp

@[simp] theorem State.txnData_mem (s : State) (t : Txn) : (State.txnData s t).2.mem = s.mem := by
  unfold State.txnData
  (repeat' split) <;> simp

@[simp] theorem State.afterSnoop_mem (s : State) (l : Nat) (held : Bool) (keepFwd : Bool) : (State.afterSnoop s l held
    keepFwd).mem = s.mem := by
  unfold State.afterSnoop
  (repeat' split) <;> simp

@[simp] theorem State.countReq_mem (s : State) (q : CReq) (h : Nat) : (State.countReq s q h).mem = s.mem := by
  unfold State.countReq
  simp

@[simp] theorem State.showCredits_mem (s : State) (h : Nat) : (State.showCredits s h).mem = s.mem := by
  unfold State.showCredits
  simp

@[simp] theorem State.cohErr_mem (s : State) (h : Nat) (cause : Nat) (cls : Nat) : (State.cohErr s h cause cls).mem = s.mem
    := by
  unfold State.cohErr
  simp

@[simp] theorem State.tcUe_mem (s : State) (a : Nat) (l : Nat) (ten : Option Nat) : (State.tcUe s a l ten).mem = s.mem
    := by
  unfold State.tcUe
  dsimp only
  (repeat' split) <;> simp

@[simp] theorem State.untrain_mem (s : State) (src : Nat) (ten : Nat) : (State.untrain s src ten).mem = s.mem := by
  unfold State.untrain
  simp

@[simp] theorem State.retry_mem (s : State) (q : CReq) (h : Nat) (give : Bool) : (State.retry s q h give).mem = s.mem :=
    by
  unfold State.retry
  simp

@[simp] theorem State.wbAck_mem (s : State) (a : Nat) (tag : Nat) (l : Nat) : (State.wbAck s a tag l).mem = s.mem := by
  unfold State.wbAck
  simp

@[simp] theorem State.dropFwd_mem (s : State) (a : Nat) (l : Nat) : (State.dropFwd s a l).mem = s.mem := by
  unfold State.dropFwd
  (repeat' split) <;> simp

@[simp] theorem State.leaving_mem (s : State) (a : Nat) (l : Nat) (st : CSt) : (State.leaving s a l st).mem = s.mem := by
  unfold State.leaving
  simp

@[simp] theorem State.noteDecode_mem (s : State) (src : Nat) (pa : Nat) : (State.noteDecode s src pa).mem = s.mem := by
  unfold State.noteDecode
  simp

@[simp] theorem State.passMsg_mem (s : State) (q : CReq) (m : CMsg) : (State.passMsg s q m).mem = s.mem := by
  unfold State.passMsg
  simp

@[simp] theorem State.passData_mem (s : State) (q : CReq) (d : Option Line) : (State.passData s q d).mem = s.mem := by
  unfold State.passData
  simp

@[simp] theorem State.passErr_mem (s : State) (q : CReq) (c : Nat) : (State.passErr s q c).mem = s.mem := by
  unfold State.passErr
  simp

@[simp] theorem State.passAck_mem (s : State) (q : CReq) (ok : Bool) : (State.passAck s q ok).mem = s.mem := by
  unfold State.passAck
  simp

@[simp] theorem State.passRead_mem (s : State) (q : CReq) : (State.passRead s q).mem = s.mem := by
  unfold State.passRead
  dsimp only
  (repeat' split) <;> simp_all

@[simp] theorem State.passWrite_mem (s : State) (q : CReq) : (State.passWrite s q).mem = s.mem := by
  unfold State.passWrite
  simp

@[simp] theorem State.passOn_mem (s : State) (q : CReq) : (State.passOn s q).mem = s.mem := by
  unfold State.passOn
  dsimp only
  (repeat' split) <;> simp_all

@[simp] theorem State.snpRsp_mem (s : State) (slip : Nat) (pa : Nat) (held : Bool) (dirty : Bool) (sends : Bool) (wbseen :
    Bool) (reqhold : Bool) : (State.snpRsp s slip pa held dirty sends wbseen reqhold).mem = s.mem := by
  unfold State.snpRsp
  dsimp only
  (repeat' split) <;> simp_all

@[simp] theorem State.park_mem (s : State) (d : Nat) (x : HPkt) : (State.park s d x).mem = s.mem := by
  unfold State.park
  simp

@[simp] theorem State.cohTake_mem (s : State) (m : CMsg) : (State.cohTake s m).mem = s.mem := by
  unfold State.cohTake
  simp

@[simp] theorem State.agentTake_mem (s : State) (m : CMsg) : (State.agentTake s m).mem = s.mem := by
  unfold State.agentTake
  simp

@[simp] theorem State.snoopTile_mem (s : State) (l : Nat) (a : Nat) (k : SnpK) (t : Txn) (last : Bool) :
    (State.snoopTile s l a k t last).mem = s.mem := by
  unfold State.snoopTile
  dsimp only
  (repeat' split) <;> simp_all

@[simp] theorem State.stopDoes_mem (s : State) (l : Nat) (a : Nat) (k : SnpK) (t : Txn) : (State.stopDoes s l a k t).mem
    = s.mem := by
  unfold State.stopDoes
  simp

@[simp] theorem State.snoopAt_mem (s : State) (pa : Nat) (stop : Nat) : (State.snoopAt s pa stop).mem = s.mem := by
  unfold State.snoopAt
  dsimp only
  (repeat' split) <;> simp

@[simp] theorem State.snoopUe_mem (s : State) (pa : Nat) (stop : Nat) : (State.snoopUe s pa stop).mem = s.mem := by
  unfold State.snoopUe
  dsimp only
  (repeat' split) <;> simp

@[simp] theorem State.snpData_mem (s : State) (agent : Nat) (pa : Nat) (dirty : Bool) (data : Line) : (State.snpData s agent
    pa dirty data).mem = s.mem := by
  unfold State.snpData
  dsimp only
  (repeat' split) <;> simp_all

@[simp] theorem State.ownerLost_mem (s : State) (l : Nat) : (State.ownerLost s l).mem = s.mem := by
  unfold State.ownerLost
  simp

@[simp] theorem State.moverMark_mem (s : State) (h : Nat) : (State.moverMark s h).mem = s.mem := by
  unfold State.moverMark
  simp

@[simp] theorem State.walkBegin_mem (s : State) (c : Nat) (q : Nat) (t : Nat) (va : Nat) : (State.walkBegin s c q t
    va).mem = s.mem := by
  unfold State.walkBegin
  simp

@[simp] theorem State.walkNote_mem (s : State) (c : Nat) (t : Nat) (va : Nat) (e : Nat) : (State.walkNote s c t va
    e).mem = s.mem := by
  unfold State.walkNote
  simp

@[simp] theorem State.tableDrop_mem (s : State) (c : Nat) (q : Nat) (t : Nat) (pa : Nat) : (State.tableDrop s c q t
    pa).mem = s.mem := by
  unfold State.tableDrop
  simp

@[simp] theorem State.walkEnd_mem (s : State) (c : Nat) (q : Nat) (t : Nat) (va : Nat) : (State.walkEnd s c q t va).mem
    = s.mem := by
  unfold State.walkEnd
  (repeat' split) <;> simp

@[simp] theorem State.walksForget_mem (s : State) : (State.walksForget s).mem = s.mem := by
  unfold State.walksForget
  simp

@[simp] theorem State.walksAgain_mem (s : State) (p : Nat → Bool) : (State.walksAgain s p).mem = s.mem := by
  unfold State.walksAgain
  simp

@[simp] theorem State.tcTouch_mem (s : State) (c : Nat) (e : TcEnt) : (State.tcTouch s c e).mem = s.mem := by
  unfold State.tcTouch
  simp

@[simp] theorem State.tcPut_mem (s : State) (c : Nat) (e : TcEnt) : (State.tcPut s c e).mem = s.mem := by
  unfold State.tcPut
  simp

@[simp] theorem State.walksEnd_mem (s : State) (c : Nat) (q : Nat) (t : Nat) (l : List Nat) : (State.walksEnd s c q t
    l).mem = s.mem := by
  unfold State.walksEnd
  simp

@[simp] theorem State.fqShow_mem (s : State) (t : Nat) : (State.fqShow s t).mem = s.mem := by
  unfold State.fqShow
  simp

@[simp] theorem State.faultRec_mem (s : State) (t : Nat) (page : Nat) (cause : Nat) (req : Option Nat) (write : Bool) :
    (State.faultRec s t page cause req write).mem = s.mem := by
  unfold State.faultRec
  simp

@[simp] theorem State.pageFail_mem (s : State) (t : Nat) (page : Nat) (cause : Nat) (req : Option Nat) (write : Bool) :
    (State.pageFail s t page cause req write).mem = s.mem := by
  unfold State.pageFail
  simp

@[simp] theorem State.pageFails_mem (s : State) (t : Nat) (fails : List (Nat × Nat)) (req : Option Nat) (write : Bool) :
    (State.pageFails s t fails req write).mem = s.mem := by
  unfold State.pageFails
  simp

@[simp] theorem State.markRange_mem (s : State) (t : Nat) (va : Nat) (n : Nat) : (State.markRange s t va n).mem = s.mem := by
  unfold State.markRange
  simp

@[simp] theorem State.memDrop_mem (s : State) (who : List Nat) (l : Nat) : (State.memDrop s who l).mem = s.mem := by
  unfold State.memDrop
  (repeat' split) <;> simp

@[simp] theorem State.legBadRead_mem (s : State) (p : Nat) (tenant : Nat) (x : Nat × LineRes) : (State.legBadRead s p tenant
    x).mem = s.mem := by
  unfold State.legBadRead
  (repeat' split) <;> simp

@[simp] theorem State.legBadWrite_mem (s : State) (p : Nat) (tenant : Nat) (x : Nat × LineRes) : (State.legBadWrite s p
    tenant x).mem = s.mem := by
  unfold State.legBadWrite
  (repeat' split) <;> simp

@[simp] theorem State.chargeFor_mem (s : State) (who : List Nat) (a : Nat) (n : Nat) : (State.chargeFor s who a n).mem =
    s.mem := by
  unfold State.chargeFor
  simp

@[simp] theorem State.moversKeep_mem (s : State) : (State.moversKeep s).mem = s.mem := by
  unfold State.moversKeep
  simp

@[simp] theorem State.payFor_mem (s : State) (who : List Nat) (a : Nat) (n : Nat) : (State.payFor s who a n).mem = s.mem
    := by
  unfold State.payFor
  simp

@[simp] theorem State.legRemFail_mem (s : State) (p : Nat) (tenant : Nat) (n : Nat) : (State.legRemFail s p tenant n).mem =
    s.mem := by
  unfold State.legRemFail
  simp

@[simp] theorem State.issue_mem (s : State) (k : Nat) (cls : Nat) (sel : Nat → Bool) (hold : LegRun → Nat → List (Nat × Nat))
    (act : State → LegRun → Nat → State × LegRun) (hact : ∀ s x0 x1, (act s x0 x1).1.mem = s.mem) : (State.issue s k cls sel
    hold act).mem = s.mem := by
  unfold State.issue
  (repeat' split) <;> simp_all

@[simp] theorem State.legEvts_mem (s : State) (k : Nat) (e : Evts) : (State.legEvts s k e).mem = s.mem := by
  unfold State.legEvts
  dsimp only
  (repeat' split) <;> simp_all

@[simp] theorem State.halt_mem (s : State) (k : Nat) (r : LegRun) (cause : Nat) (stops : Bool) : (State.halt s k r cause
    stops).mem = s.mem := by
  unfold State.halt
  simp

@[simp] theorem State.dropLeg_mem (s : State) (k : Nat) : (State.dropLeg s k).mem = s.mem := by
  unfold State.dropLeg
  dsimp only
  (repeat' split) <;> simp_all

@[simp] theorem State.markOuts_mem (s : State) (tenant : Nat) (outs : List (Nat × Nat)) : (State.markOuts s tenant outs).mem
    = s.mem := by
  unfold State.markOuts
  simp

@[simp] theorem State.overrun_mem (s : State) (k : Nat) : (State.overrun s k).mem = s.mem := by
  unfold State.overrun
  (repeat' split) <;> simp

@[simp] theorem State.showPool_mem (s : State) : (State.showPool s).mem = s.mem := by
  unfold State.showPool
  simp

@[simp] theorem State.qCap_mem (s : State) (g : Nat) (cause : Nat) : (State.qCap s g cause).mem = s.mem := by
  unfold State.qCap
  simp

@[simp] theorem State.enableRing_mem (s : State) (g : Nat) : (State.enableRing s g).mem = s.mem := by
  unfold State.enableRing
  (repeat' split) <;> simp

@[simp] theorem State.ringOff_mem (s : State) (g : Nat) : (State.ringOff s g).mem = s.mem := by
  unfold State.ringOff
  simp

@[simp] theorem State.disableRing_mem (s : State) (g : Nat) : (State.disableRing s g).mem = s.mem := by
  unfold State.disableRing
  (repeat' split) <;> simp

@[simp] theorem State.applyEn_mem (s : State) (g : Nat) : (State.applyEn s g).mem = s.mem := by
  unfold State.applyEn
  (repeat' split) <;> simp

@[simp] theorem State.ringEnables_mem (s : State) (gs : List Nat) : (State.ringEnables s gs).mem = s.mem := by
  unfold State.ringEnables
  simp

@[simp] theorem State.doorbell_mem (s : State) (tenant : Nat) (ring : Nat) (half : Nat) (value : Nat) : (State.doorbell s
    tenant ring half value).mem = s.mem := by
  unfold State.doorbell
  simp

@[simp] theorem State.captureDoorbells_mem (s : State) : (State.captureDoorbells s).mem = s.mem := by
  unfold State.captureDoorbells
  simp

@[simp] theorem State.ringError_mem (s : State) (g : Nat) : (State.ringError s g).mem = s.mem := by
  unfold State.ringError
  simp

@[simp] theorem State.showOut_mem (s : State) (g : Nat) : (State.showOut s g).mem = s.mem := by
  unfold State.showOut
  simp

@[simp] theorem State.admitOne_mem (s : State) (g : Nat) : (State.admitOne s g).mem = s.mem := by
  unfold State.admitOne
  simp

@[simp] theorem State.admitN_mem (s : State) (g : Nat) (z0 : Nat) : (State.admitN s g z0).mem = s.mem := by
  induction z0 generalizing s with
  | zero => rfl
  | succ n ih => unfold State.admitN; simp [ih]

@[simp] theorem State.admitRing_mem (s : State) (g : Nat) : (State.admitRing s g).mem = s.mem := by
  unfold State.admitRing
  simp

@[simp] theorem State.admitFerry_mem (s : State) : (State.admitFerry s).mem = s.mem := by
  unfold State.admitFerry
  (repeat' split) <;> simp

@[simp] theorem State.admitAll_mem (s : State) : (State.admitAll s).mem = s.mem := by
  unfold State.admitAll
  simp

@[simp] theorem State.dropChunks_mem (s : State) (ring : Nat) (didx : Nat) : (State.dropChunks s ring didx).mem = s.mem := by
  unfold State.dropChunks
  simp

@[simp] theorem State.ctxEnd_mem (s : State) (c : Ctx) (status : Nat) (detail : Nat) : (State.ctxEnd s c status detail).mem =
    s.mem := by
  unfold State.ctxEnd
  simp

@[simp] theorem State.ctxFail_mem (s : State) (c : Ctx) (status : Nat) (detail : Nat) : (State.ctxFail s c status detail).mem
    = s.mem := by
  unfold State.ctxFail
  simp

@[simp] theorem State.ringBad_mem (s : State) (tenant : Nat) (x : Nat × LineRes) : (State.ringBad s tenant x).1.mem = s.mem
    := by
  unfold State.ringBad
  (repeat' split) <;> simp

@[simp] theorem State.ringBads_mem (s : State) (tenant : Nat) (l : List (Nat × LineRes)) : (State.ringBads s tenant l).1.mem
    = s.mem := by
  unfold State.ringBads
  simp

@[simp] theorem State.unkeep_mem (s : State) (who : List Nat) (wr : Bool) (ranges : List (Nat × Nat)) : (State.unkeep s
    who wr ranges).mem = s.mem := by
  unfold State.unkeep
  simp

@[simp] theorem State.grantAll_mem (s : State) : (State.grantAll s).mem = s.mem := by
  unfold State.grantAll
  simp

@[simp] theorem State.delChunk_mem (s : State) (c : Chunk) : (State.delChunk s c).mem = s.mem := by
  unfold State.delChunk
  simp

@[simp] theorem State.chunkFail_mem (s : State) (c : Chunk) (st : Nat) (d : Nat) : (State.chunkFail s c st d).mem = s.mem := by
  unfold State.chunkFail
  dsimp only
  (repeat' split) <;> simp_all

@[simp] theorem State.finishLoad_mem (s : State) (c : Ctx) : (State.finishLoad s c).mem = s.mem := by
  unfold State.finishLoad
  dsimp only
  (repeat' split) <;> simp_all

@[simp] theorem State.drained_mem (s : State) (c : Chunk) : (State.drained s c).mem = s.mem := by
  unfold State.drained
  (repeat' split) <;> simp

@[simp] theorem State.chunkGone_mem (s : State) (c : Chunk) : (State.chunkGone s c).mem = s.mem := by
  unfold State.chunkGone
  simp

@[simp] theorem State.lostRec_mem (s : State) (c : Nat) : (State.lostRec s c).mem = s.mem := by
  unfold State.lostRec
  simp

@[simp] theorem State.releaseCtx_mem (s : State) (c : Ctx) : (State.releaseCtx s c).mem = s.mem := by
  unfold State.releaseCtx
  simp

@[simp] theorem State.invAccept_mem (s : State) (w : Nat) (r : InvReq) : (State.invAccept s w r).mem = s.mem := by
  unfold State.invAccept
  simp

@[simp] theorem State.invWrite_mem (s : State) (w : Nat) (word : Nat) (half : Bool) : (State.invWrite s w word half).mem =
    s.mem := by
  unfold State.invWrite
  simp

@[simp] theorem State.tcDrop_mem (s : State) (p : TcEnt → Bool) : (State.tcDrop s p).mem = s.mem := by
  unfold State.tcDrop
  simp

@[simp] theorem State.invOne_mem (s : State) (w : Nat) (last : Option Nat) (r : InvReq) : (State.invOne s w last r).1.mem =
    s.mem := by
  unfold State.invOne
  (repeat' split) <;> simp

@[simp] theorem State.invLane_mem (s : State) (base : List TcEnt) (w : Nat) : (State.invLane s base w).mem = s.mem := by
  unfold State.invLane
  dsimp only
  (repeat' split) <;> simp_all

@[simp] theorem State.ctxOn_mem (s : State) (t : Nat) : (State.ctxOn s t).mem = s.mem := by
  unfold State.ctxOn
  simp

@[simp] theorem State.atsApply_mem (s : State) : (State.atsApply s).mem = s.mem := by
  unfold State.atsApply
  simp

@[simp] theorem State.applyI1_mem (s : State) : (State.applyI1 s).mem = s.mem := by
  unfold State.applyI1
  simp

@[simp] theorem State.ackLane_mem (s : State) (w : Nat) (seq : Nat) : (State.ackLane s w seq).mem = s.mem := by
  unfold State.ackLane
  simp

@[simp] theorem State.atsComplete_mem (s : State) (x : Nat × Nat × Nat) : (State.atsComplete s x).mem = s.mem := by
  unfold State.atsComplete
  simp

@[simp] theorem State.applyI4_mem (s : State) : (State.applyI4 s).mem = s.mem := by
  unfold State.applyI4
  simp

@[simp] theorem State.loadPins_mem (s : State) (t : Nat) : (State.loadPins s t).mem = s.mem := by
  unfold State.loadPins
  simp

@[simp] theorem State.dropTables_mem (s : State) (t : Nat) : (State.dropTables s t).mem = s.mem := by
  unfold State.dropTables
  simp

@[simp] theorem State.ctxTransfer_mem (s : State) (t : Nat) (wroteEn : Bool) (moved : Bool) : (State.ctxTransfer s t wroteEn
    moved).mem = s.mem := by
  unfold State.ctxTransfer
  simp

@[simp] theorem State.ctxOff_mem (s : State) (t : Nat) : (State.ctxOff s t).mem = s.mem := by
  unfold State.ctxOff
  simp

@[simp] theorem State.fqEdge_mem (s : State) : (State.fqEdge s).mem = s.mem := by
  unfold State.fqEdge
  simp

@[simp] theorem State.fqVisible_mem (s : State) : (State.fqVisible s).mem = s.mem := by
  unfold State.fqVisible
  simp

@[simp] theorem State.tfqPop_mem (s : State) (tenant : Nat) : (State.tfqPop s tenant).mem = s.mem := by
  unfold State.tfqPop
  (repeat' split) <;> simp

@[simp] theorem State.tinvClr_mem (s : State) (tenant : Nat) : (State.tinvClr s tenant).mem = s.mem := by
  unfold State.tinvClr
  simp

@[simp] theorem State.showDebug_mem (s : State) (scope : Nat) (remain : Nat) : (State.showDebug s scope remain).mem = s.mem
    := by
  unfold State.showDebug
  simp

@[simp] theorem State.revokeDebug_mem (s : State) : (State.revokeDebug s).mem = s.mem := by
  unfold State.revokeDebug
  simp

@[simp] theorem State.confOn_mem (s : State) : (State.confOn s).mem = s.mem := by
  unfold State.confOn
  simp

@[simp] theorem State.confOff_mem (s : State) : (State.confOff s).mem = s.mem := by
  unfold State.confOff
  simp

@[simp] theorem State.dropPart_mem (s : State) (p : Nat) : (State.dropPart s p).mem = s.mem := by
  unfold State.dropPart
  simp

@[simp] theorem State.unpair_mem (s : State) (p : Nat) (st : Nat) : (State.unpair s p st).mem = s.mem := by
  unfold State.unpair
  simp

@[simp] theorem State.vfReset_mem (s : State) (fn : Nat) : (State.vfReset s fn).mem = s.mem := by
  unfold State.vfReset
  simp

@[simp] theorem State.endReads_mem (s : State) (fn : Nat) : (State.endReads s fn).mem = s.mem := by
  unfold State.endReads
  simp

@[simp] theorem State.enOff_mem (s : State) (t : Nat) : (State.enOff s t).mem = s.mem := by
  unfold State.enOff
  simp

@[simp] theorem State.teardown_mem (s : State) (t : Nat) : (State.teardown s t).mem = s.mem := by
  unfold State.teardown
  simp

@[simp] theorem State.ringsOff_mem (s : State) (t : Nat) : (State.ringsOff s t).mem = s.mem := by
  unfold State.ringsOff
  simp

@[simp] theorem State.releaseTenant_mem (s : State) (t : Nat) : (State.releaseTenant s t).mem = s.mem := by
  unfold State.releaseTenant
  simp

@[simp] theorem State.setKeys_mem (s : State) (o : Nat) (k : Option Nat × Option Nat) (cur : Nat) : (State.setKeys s o k
    cur).mem = s.mem := by
  unfold State.setKeys
  simp

@[simp] theorem State.freshKey_mem (s : State) (o : Nat) (slot : Nat) (cur : Nat) : (State.freshKey s o slot cur).mem = s.mem
    := by
  unfold State.freshKey
  simp

@[simp] theorem State.retireKey_mem (s : State) (o : Nat) : (State.retireKey s o).mem = s.mem := by
  unfold State.retireKey
  simp

@[simp] theorem State.keyRefused_mem (s : State) : (State.keyRefused s).mem = s.mem := by
  unfold State.keyRefused
  simp

@[simp] theorem State.rotateCmd_mem (s : State) (owner : Nat) : (State.rotateCmd s owner).mem = s.mem := by
  unfold State.rotateCmd
  simp

@[simp] theorem State.retireCmd_mem (s : State) (owner : Nat) : (State.retireCmd s owner).mem = s.mem := by
  unfold State.retireCmd
  simp

@[simp] theorem State.sweepStep_mem (s : State) (o : Nat) (n : Nat) : (State.sweepStep s o n).mem = s.mem := by
  unfold State.sweepStep
  (repeat' split) <;> simp

@[simp] theorem State.sweepsEnd_mem (s : State) : (State.sweepsEnd s).mem = s.mem := by
  unfold State.sweepsEnd
  simp

@[simp] theorem State.scrubsEnd_mem (s : State) : (State.scrubsEnd s).mem = s.mem := by
  unfold State.scrubsEnd
  simp

@[simp] theorem State.rotateKey_mem (s : State) (o : Nat) : (State.rotateKey s o).mem = s.mem := by
  unfold State.rotateKey
  simp

@[simp] theorem State.draw_mem (s : State) : (State.draw s).1.mem = s.mem := by
  unfold State.draw
  simp

@[simp] theorem State.unsigned_mem (s : State) : (State.unsigned s).mem = s.mem := by
  unfold State.unsigned
  simp

@[simp] theorem State.tdisp_mem (s : State) (code : Nat) (tenant : Nat) (args : List Nat) : (State.tdisp s code tenant
    args).mem = s.mem := by
  unfold State.tdisp
  simp

@[simp] theorem State.tdispErr_mem (s : State) (tenant : Nat) : (State.tdispErr s tenant).mem = s.mem := by
  unfold State.tdispErr
  simp

@[simp] theorem State.spdm_mem (s : State) (code : Nat) (args : List Nat) (data : List Byte) (signed : Option (List Byte)) :
    (State.spdm s code args data signed).mem = s.mem := by
  unfold State.spdm
  simp

@[simp] theorem State.spdmErr_mem (s : State) (code : Nat) : (State.spdmErr s code).mem = s.mem := by
  unfold State.spdmErr
  simp

@[simp] theorem State.spdmSigned_mem (s : State) (code : Nat) (args : List Nat) (data : List Byte) (nonce : List Byte) :
    (State.spdmSigned s code args data nonce).mem = s.mem := by
  unfold State.spdmSigned
  simp

@[simp] theorem State.tmeasGo_mem (s : State) (tenant : Nat) : (State.tmeasGo s tenant).mem = s.mem := by
  unfold State.tmeasGo
  simp

@[simp] theorem State.tmeasFail_mem (s : State) (t : Nat) (cause : Nat) : (State.tmeasFail s t cause).mem = s.mem := by
  unfold State.tmeasFail
  simp

@[simp] theorem State.wgtI0_mem (s : State) : (State.wgtI0 s).mem = s.mem := by
  unfold State.wgtI0
  simp

@[simp] theorem State.putRepair_mem (s : State) (vals : NMap Nat) : (State.putRepair s vals).mem = s.mem := by
  unfold State.putRepair
  simp

@[simp] theorem State.recordRepair_mem (s : State) (i : Nat) (x : Nat) : (State.recordRepair s i x).mem = s.mem := by
  unfold State.recordRepair
  (repeat' split) <;> simp

@[simp] theorem State.saveRepair_mem (s : State) : (State.saveRepair s).mem = s.mem := by
  unfold State.saveRepair
  (repeat' split) <;> simp

@[simp] theorem State.saveTrain_mem (s : State) (key : Nat) (x : Nat) : (State.saveTrain s key x).mem = s.mem := by
  unfold State.saveTrain
  simp

@[simp] theorem State.showField_mem (s : State) : (State.showField s).mem = s.mem := by
  unfold State.showField
  simp

@[simp] theorem State.zeroBuf_mem (s : State) : (State.zeroBuf s).mem = s.mem := by
  unfold State.zeroBuf
  simp

@[simp] theorem State.lcsEnd_mem (s : State) (r : Nat) : (State.lcsEnd s r).mem = s.mem := by
  unfold State.lcsEnd
  simp

@[simp] theorem State.wipe_mem (s : State) (bad : Bool) : (State.wipe s bad).mem = s.mem := by
  unfold State.wipe
  simp

@[simp] theorem State.transitTo_mem (s : State) (to_ : Nat) (fail : Nat) : (State.transitTo s to_ fail).1.mem = s.mem := by
  unfold State.transitTo
  dsimp only
  (repeat' split) <;> simp_all

@[simp] theorem State.lcsTransition_mem (s : State) (route : Nat) (to_ : Nat) (fail : Nat) (token : List Byte) :
    (State.lcsTransition s route to_ fail token).1.mem = s.mem := by
  unfold State.lcsTransition
  dsimp only
  (repeat' split) <;> simp_all

@[simp] theorem State.lcsRun_mem (s : State) (arg : Option Nat) (f : State → State × Nat) (hf : ∀ s , (f s ).1.mem = s.mem) :
    (State.lcsRun s arg f).mem = s.mem := by
  unfold State.lcsRun
  (repeat' split) <;> simp_all

@[simp] theorem State.doTransition_mem (s : State) (route : Nat) (to_ : Nat) (fail : Nat) (buf : List Byte) :
    (State.doTransition s route to_ fail buf).mem = s.mem := by
  unfold State.doTransition
  simp

@[simp] theorem State.lcsFuse_mem (s : State) (route : Nat) (id : Nat) (fail : Nat) (buf : List Byte) : (State.lcsFuse s
    route id fail buf).1.mem = s.mem := by
  unfold State.lcsFuse
  dsimp only
  (repeat' split) <;> simp_all

@[simp] theorem State.doFuse_mem (s : State) (route : Nat) (id : Nat) (fail : Nat) (buf : List Byte) : (State.doFuse s route
    id fail buf).mem = s.mem := by
  unfold State.doFuse
  simp

@[simp] theorem State.showNonce_mem (s : State) (n : Option (List Byte)) : (State.showNonce s n).mem = s.mem := by
  unfold State.showNonce
  simp

@[simp] theorem State.lcsChallenge_mem (s : State) : (State.lcsChallenge s).1.mem = s.mem := by
  unfold State.lcsChallenge
  dsimp only
  (repeat' split) <;> simp_all

@[simp] theorem State.challenge_mem (s : State) (route : Nat) : (State.challenge s route).mem = s.mem := by
  unfold State.challenge
  (repeat' split) <;> simp

@[simp] theorem State.lcsAuth_mem (s : State) (b : List Byte) : (State.lcsAuth s b).1.mem = s.mem := by
  unfold State.lcsAuth
  dsimp only
  (repeat' split) <;> simp_all

@[simp] theorem State.doAuth_mem (s : State) (route : Nat) (buf : List Byte) : (State.doAuth s route buf).mem = s.mem := by
  unfold State.doAuth
  simp

@[simp] theorem State.lcsRevoke_mem (s : State) : (State.lcsRevoke s).1.mem = s.mem := by
  unfold State.lcsRevoke
  (repeat' split) <;> simp

@[simp] theorem State.dbgRevoke_mem (s : State) (route : Nat) : (State.dbgRevoke s route).mem = s.mem := by
  unfold State.dbgRevoke
  (repeat' split) <;> simp

@[simp] theorem State.makeRec_mem (s : State) (x : ErrRep) : (State.makeRec s x).1.mem = s.mem := by
  unfold State.makeRec
  simp

@[simp] theorem State.logVisible_mem (s : State) : (State.logVisible s).mem = s.mem := by
  unfold State.logVisible
  simp

@[simp] theorem State.showErr_mem (s : State) : (State.showErr s).mem = s.mem := by
  unfold State.showErr
  simp

@[simp] theorem State.countOvf_mem (s : State) (block : Nat) : (State.countOvf s block).mem = s.mem := by
  unfold State.countOvf
  simp

@[simp] theorem State.queueFull_mem (s : State) (block : Nat) : (State.queueFull s block).mem = s.mem := by
  unfold State.queueFull
  simp

@[simp] theorem State.putBack_mem (s : State) : (State.putBack s).mem = s.mem := by
  unfold State.putBack
  dsimp only
  (repeat' split) <;> simp_all

@[simp] theorem State.takeNext_mem (s : State) : (State.takeNext s).mem = s.mem := by
  unfold State.takeNext
  (repeat' split) <;> simp

@[simp] theorem State.enqueue_mem (s : State) (x : ErrRep) : (State.enqueue s x).mem = s.mem := by
  unfold State.enqueue
  simp

@[simp] theorem State.fold_mem (s : State) (h : ErrRec) : (State.fold s h).mem = s.mem := by
  unfold State.fold
  simp

@[simp] theorem State.blockCap_mem (s : State) (block : Nat) (cause : Nat) (unit : Nat) : (State.blockCap s block
    cause unit).mem = s.mem := by
  unfold State.blockCap
  dsimp only
  (repeat' split) <;> simp

@[simp] theorem State.countCe_mem (s : State) (block : Nat) (unit : Nat) : (State.countCe s block unit).mem = s.mem :=
    by
  unfold State.countCe
  (repeat' split) <;> simp

@[simp] theorem State.clearCapture_mem (s : State) (key : Nat) : (State.clearCapture s key).mem = s.mem := by
  unfold State.clearCapture
  (repeat' split) <;> simp

@[simp] theorem State.showVariant_mem (s : State) : (State.showVariant s).mem = s.mem := by
  unfold State.showVariant
  simp

@[simp] theorem State.switchVar_mem (s : State) (p : Nat) (v : Nat) : (State.switchVar s p v).mem = s.mem := by
  unfold State.switchVar
  (repeat' split) <;> simp

@[simp] theorem State.degradePart_mem (s : State) (p : Nat) : (State.degradePart s p).mem = s.mem := by
  unfold State.degradePart
  dsimp only
  (repeat' split) <;> simp_all

@[simp] theorem State.setEff_mem (s : State) (g : GrantRec) (x : Nat) : (State.setEff s g x).mem = s.mem := by
  unfold State.setEff
  simp

@[simp] theorem State.takeFrom_mem (s : State) (z0 : Nat) (z1 : List GrantRec) : (State.takeFrom s z0 z1).mem = s.mem := by
  induction z1 generalizing s z0 with
  | nil => unfold State.takeFrom; rfl
  | cons g gs ih => unfold State.takeFrom; dsimp only; rw [ih]; split <;> simp

@[simp] theorem State.yieldAt_mem (s : State) (m : Manifest) (r : Nat) : (State.yieldAt s m r).mem = s.mem := by
  unfold State.yieldAt
  simp

@[simp] theorem State.restore_mem (s : State) (m : Manifest) (g : GrantRec) : (State.restore s m g).mem = s.mem := by
  unfold State.restore
  simp

@[simp] theorem State.restoreAll_mem (s : State) (m : Manifest) : (State.restoreAll s m).mem = s.mem := by
  unfold State.restoreAll
  exact foldl_mem _ (fun s x => by simp) _ _

@[simp] theorem State.showCap_mem (s : State) (m : Manifest) (cap : Nat → Nat) (r : Nat) : (State.showCap s m cap r).mem
    = s.mem := by
  unfold State.showCap
  simp

@[simp] theorem State.noteCaps_mem (s : State) (cap : Nat → Nat) : (State.noteCaps s cap).mem = s.mem := by
  unfold State.noteCaps
  simp

@[simp] theorem State.capsClose_mem (s : State) : (State.capsClose s).mem = s.mem := by
  unfold State.capsClose
  simp

@[simp] theorem State.capI2_mem (s : State) : (State.capI2 s).mem = s.mem := by
  unfold State.capI2
  (repeat' split) <;> simp

@[simp] theorem State.grantsI0_mem (s : State) (m : Manifest) : (State.grantsI0 s m).mem = s.mem := by
  unfold State.grantsI0
  simp

@[simp] theorem State.qosSnapshot_mem (s : State) (closed : Nat) : (State.qosSnapshot s closed).mem = s.mem := by
  unfold State.qosSnapshot
  simp

@[simp] theorem State.qosWipe_mem (s : State) : (State.qosWipe s).mem = s.mem := by
  unfold State.qosWipe
  simp

@[simp] theorem State.escalate_mem (s : State) (p : Nat) (q : Nat) : (State.escalate s p q).mem = s.mem := by
  unfold State.escalate
  simp

@[simp] theorem State.escalateAll_mem (s : State) : (State.escalateAll s).mem = s.mem := by
  unfold State.escalateAll
  simp

@[simp] theorem State.showScale_mem (s : State) : (State.showScale s).mem = s.mem := by
  unfold State.showScale
  simp

@[simp] theorem State.pwrCap_mem (s : State) (cause : Nat) : (State.pwrCap s cause).mem = s.mem := by
  unfold State.pwrCap
  simp

@[simp] theorem State.kaSwitch_mem (s : State) (src : Nat) : (State.kaSwitch s src).mem = s.mem := by
  unfold State.kaSwitch
  simp

@[simp] theorem State.kaShow_mem (s : State) (mvA : Nat) (mvB : Nat) : (State.kaShow s mvA mvB).mem = s.mem := by
  unfold State.kaShow
  simp

@[simp] theorem State.overAct_mem (s : State) (p : Nat) (energy : Bool) : (State.overAct s p energy).mem = s.mem := by
  unfold State.overAct
  simp

@[simp] theorem State.closePart_mem (s : State) (rails : List Nat) (tiles : List Nat) (r : PartRec) : (State.closePart s
    rails tiles r).mem = s.mem := by
  unfold State.closePart
  simp

@[simp] theorem State.askSetpoint_mem (s : State) : (State.askSetpoint s).mem = s.mem := by
  unfold State.askSetpoint
  simp

@[simp] theorem State.closeEnergy_mem (s : State) (rails : List Nat) (tiles : List Nat) (badMeter : Bool) :
    (State.closeEnergy s rails tiles badMeter).mem = s.mem := by
  unfold State.closeEnergy
  simp

@[simp] theorem State.leanOff_mem (s : State) (p : Nat) : (State.leanOff s p).mem = s.mem := by
  unfold State.leanOff
  simp

@[simp] theorem State.leanOn_mem (s : State) (p : Nat) : (State.leanOn s p).mem = s.mem := by
  unfold State.leanOn
  simp

@[simp] theorem State.forceI0_mem (s : State) : (State.forceI0 s).mem = s.mem := by
  unfold State.forceI0
  simp

@[simp] theorem State.guardI0_mem (s : State) : (State.guardI0 s).mem = s.mem := by
  unfold State.guardI0
  simp

@[simp] theorem State.thermI0_mem (s : State) : (State.thermI0 s).mem = s.mem := by
  unfold State.thermI0
  simp

@[simp] theorem State.powerI0_mem (s : State) (asked : Nat) : (State.powerI0 s asked).mem = s.mem := by
  unfold State.powerI0
  simp

@[simp] theorem State.leanEnd_mem (s : State) (mask : Nat) : (State.leanEnd s mask).mem = s.mem := by
  unfold State.leanEnd
  simp

@[simp] theorem State.pwrClr_mem (s : State) : (State.pwrClr s).mem = s.mem := by
  unfold State.pwrClr
  simp

@[simp] theorem State.teCap_mem (s : State) (tile : Nat) (phys : Nat) (cause : Nat) : (State.teCap s tile phys cause).mem =
    s.mem := by
  unfold State.teCap
  (repeat' split) <;> simp

@[simp] theorem State.laneFails_mem (s : State) (tile : Nat) (j : Nat) : (State.laneFails s tile j).mem = s.mem := by
  unfold State.laneFails
  (repeat' split) <;> simp

@[simp] theorem State.becomeFailing_mem (s : State) (tile : Nat) (phys : Nat) (cause : Nat) : (State.becomeFailing s tile
    phys cause).mem = s.mem := by
  unfold State.becomeFailing
  (repeat' split) <;> simp

@[simp] theorem State.markFailed_mem (s : State) (tile : Nat) (phys : Nat) : (State.markFailed s tile phys).mem = s.mem := by
  unfold State.markFailed
  simp

@[simp] theorem State.takeLane_mem (s : State) (tile : Nat) (j : Nat) : (State.takeLane s tile j).mem = s.mem := by
  unfold State.takeLane
  simp

@[simp] theorem State.loseLane_mem (s : State) (tile : Nat) (j : Nat) : (State.loseLane s tile j).mem = s.mem := by
  unfold State.loseLane
  simp

@[simp] theorem State.remapFailed_mem (s : State) (tile : Nat) : (State.remapFailed s tile).mem = s.mem := by
  unfold State.remapFailed
  simp

@[simp] theorem State.spareSpent_mem (s : State) (tile : Nat) : (State.spareSpent s tile).mem = s.mem := by
  unfold State.spareSpent
  simp

@[simp] theorem State.takeReq_mem (s : State) (tile : Nat) (j : Nat) : (State.takeReq s tile j).mem = s.mem := by
  unfold State.takeReq
  simp

@[simp] theorem State.returnReq_mem (s : State) (tile : Nat) (mask : Nat) : (State.returnReq s tile mask).mem = s.mem := by
  unfold State.returnReq
  (repeat' split) <;> simp

@[simp] theorem State.spareTile_mem (s : State) (tile : Nat) : (State.spareTile s tile).mem = s.mem := by
  unfold State.spareTile
  simp

@[simp] theorem State.sparing_mem (s : State) : (State.sparing s).mem = s.mem := by
  unfold State.sparing
  simp

@[simp] theorem State.spareShadow_mem (s : State) (tile : Nat) (f : Fld) (x : Nat) : (State.spareShadow s tile f x).mem =
    s.mem := by
  unfold State.spareShadow
  simp

@[simp] theorem State.clrFailed_mem (s : State) (tile : Nat) (mask : Nat) : (State.clrFailed s tile mask).mem = s.mem := by
  unfold State.clrFailed
  simp

@[simp] theorem State.decidePart_mem (s : State) (p : Nat) : (State.decidePart s p).mem = s.mem := by
  unfold State.decidePart
  simp

@[simp] theorem State.repeatI2_mem (s : State) (p : Nat) : (State.repeatI2 s p).mem = s.mem := by
  unfold State.repeatI2
  simp

@[simp] theorem State.manTo_mem (s : State) (x : Nat) : (State.manTo s x).mem = s.mem := by
  unfold State.manTo
  simp

@[simp] theorem State.showDigest_mem (s : State) (key : Nat → Nat) (d : Nat) : (State.showDigest s key d).mem = s.mem := by
  unfold State.showDigest
  simp

@[simp] theorem State.manResult_mem (s : State) (v : Verdict) (m : Option Manifest) : (State.manResult s v m).mem = s.mem := by
  unfold State.manResult
  simp

@[simp] theorem State.manDrop_mem (s : State) (result : Nat) : (State.manDrop s result).mem = s.mem := by
  unfold State.manDrop
  simp

@[simp] theorem State.stage_mem (s : State) : (State.stage s).mem = s.mem := by
  unfold State.stage
  simp

@[simp] theorem State.abandon_mem (s : State) : (State.abandon s).mem = s.mem := by
  unfold State.abandon
  simp

@[simp] theorem State.switchCmd_mem (s : State) : (State.switchCmd s).mem = s.mem := by
  unfold State.switchCmd
  simp

@[simp] theorem State.manCheck_mem (s : State) : (State.manCheck s).mem = s.mem := by
  unfold State.manCheck
  (repeat' split) <;> simp

@[simp] theorem State.ctxUndef_mem (s : State) (t : Nat) : (State.ctxUndef s t).mem = s.mem := by
  unfold State.ctxUndef
  simp

@[simp] theorem State.ctxReload_mem (s : State) (t : Nat) : (State.ctxReload s t).mem = s.mem := by
  unfold State.ctxReload
  simp

@[simp] theorem State.ctxOne_mem (s : State) (old : Manifest) (new : Manifest) (t : TenRec) : (State.ctxOne s old new t).mem
    = s.mem := by
  unfold State.ctxOne
  (repeat' split) <;> simp

@[simp] theorem State.ctxCross_mem (s : State) (old : Manifest) (new : Manifest) : (State.ctxCross s old new).mem = s.mem := by
  unfold State.ctxCross
  simp

@[simp] theorem State.firstKey_mem (s : State) (o : Nat) : (State.firstKey s o).mem = s.mem := by
  unfold State.firstKey
  simp

@[simp] theorem State.keysCross_mem (s : State) (old : Option Manifest) (new : Manifest) : (State.keysCross s old new).mem =
    s.mem := by
  unfold State.keysCross
  simp

@[simp] theorem State.fixedCross_mem (s : State) (m : Manifest) : (State.fixedCross s m).mem = s.mem := by
  unfold State.fixedCross
  simp

@[simp] theorem State.partsCross_mem (s : State) (m : Manifest) : (State.partsCross s m).mem = s.mem := by
  unfold State.partsCross
  simp

@[simp] theorem State.voyagesCross_mem (s : State) (m : Manifest) : (State.voyagesCross s m).mem = s.mem := by
  unfold State.voyagesCross
  simp

@[simp] theorem State.crossNow_mem (s : State) (m : Manifest) : (State.crossNow s m).mem = s.mem := by
  unfold State.crossNow
  dsimp only
  (repeat' split) <;> simp_all

@[simp] theorem State.ferryCrossing_mem (s : State) (m : Manifest) : (State.ferryCrossing s m).mem = s.mem := by
  unfold State.ferryCrossing
  (repeat' split) <;> simp

@[simp] theorem State.crossI2_mem (s : State) (due : Bool) (again : Verdict) : (State.crossI2 s due again).mem = s.mem := by
  unfold State.crossI2
  (repeat' split) <;> simp

@[simp] theorem State.underput_mem (s : State) (key : Nat) (f : Fld) (x : Nat) : (State.underput s key f x).mem = s.mem
    := by
  unfold State.underput
  simp

@[simp] theorem State.loadRegs_mem (s : State) (m : Manifest) : (State.loadRegs s m).mem = s.mem := by
  unfold State.loadRegs
  simp

@[simp] theorem State.enterTable_mem (s : State) (m : Manifest) (p : Nat) : (State.enterTable s m p).mem = s.mem := by
  unfold State.enterTable
  (repeat' split) <;> simp

@[simp] theorem State.crossI0_mem (s : State) : (State.crossI0 s).mem = s.mem := by
  unfold State.crossI0
  (repeat' split) <;> simp

@[simp] theorem State.crossShadow_mem (s : State) : (State.crossShadow s).mem = s.mem := by
  unfold State.crossShadow
  simp

@[simp] theorem State.setCh_mem (s : State) (p : Nat) (c : Nat) (st : Nat) (serves : Nat) : (State.setCh s p c st serves).mem
    = s.mem := by
  unfold State.setCh
  simp

@[simp] theorem State.showSpares_mem (s : State) (p : Nat) : (State.showSpares s p).mem = s.mem := by
  unfold State.showSpares
  simp

@[simp] theorem State.chInvalid_mem (s : State) (p : Nat) (lc : Nat) : (State.chInvalid s p lc).mem = s.mem := by
  unfold State.chInvalid
  simp

@[simp] theorem State.showChans_mem (s : State) (p : Nat) : (State.showChans s p).mem = s.mem := by
  unfold State.showChans
  simp

@[simp] theorem State.copyStart_mem (s : State) (p : Nat) (c : Nat) : (State.copyStart s p c).mem = s.mem := by
  unfold State.copyStart
  (repeat' split) <;> simp

@[simp] theorem State.copyNext_mem (s : State) (p : Nat) : (State.copyNext s p).mem = s.mem := by
  unfold State.copyNext
  (repeat' split) <;> simp

@[simp] theorem State.remapCh_mem (s : State) (p : Nat) (c : Nat) : (State.remapCh s p c).mem = s.mem := by
  unfold State.remapCh
  (repeat' split) <;> simp

@[simp] theorem State.copyAsk_mem (s : State) (p : Nat) (c : Nat) : (State.copyAsk s p c).mem = s.mem := by
  unfold State.copyAsk
  simp

@[simp] theorem State.chSilent_mem (s : State) (p : Nat) (c : Nat) : (State.chSilent s p c).mem = s.mem := by
  unfold State.chSilent
  dsimp only
  (repeat' split) <;> simp_all

@[simp] theorem State.targetFail_mem (s : State) (p : Nat) (c : Nat) : (State.targetFail s p c).mem = s.mem := by
  unfold State.targetFail
  dsimp only
  (repeat' split) <;> simp_all

@[simp] theorem State.chFail_mem (s : State) (p : Nat) (c : Nat) (cause : Nat) (silent : Bool) : (State.chFail s p c
    cause silent).mem = s.mem := by
  unfold State.chFail
  simp

@[simp] theorem State.takeOut_mem (s : State) (p : Nat) (cause : Nat) : (State.takeOut s p cause).mem = s.mem := by
  unfold State.takeOut
  simp

@[simp] theorem State.stackShow_mem (s : State) (p : Nat) (y : Nat) : (State.stackShow s p y).mem = s.mem := by
  unfold State.stackShow
  simp

@[simp] theorem State.lrsReset_mem (s : State) (p : Nat) (mism : Nat) : (State.lrsReset s p mism).mem = s.mem := by
  unfold State.lrsReset
  simp

@[simp] theorem State.lrsClr_mem (s : State) (p : Nat) : (State.lrsClr s p).mem = s.mem := by
  unfold State.lrsClr
  simp

@[simp] theorem State.lrsI0_mem (s : State) (p : Nat) : (State.lrsI0 s p).mem = s.mem := by
  unfold State.lrsI0
  dsimp only
  (repeat' split) <;> simp_all

@[simp] theorem State.takeCh_mem (s : State) (p : Nat) (x : Nat × Nat × Bool) : (State.takeCh s p x).mem = s.mem := by
  unfold State.takeCh
  simp

@[simp] theorem State.loseCh_mem (s : State) (p : Nat) (c : Nat) : (State.loseCh s p c).mem = s.mem := by
  unfold State.loseCh
  simp

@[simp] theorem State.freeI2_mem (s : State) (p : Nat) (c : Nat) : (State.freeI2 s p c).mem = s.mem := by
  unfold State.freeI2
  (repeat' split) <;> simp

@[simp] theorem State.lrsI2_mem (s : State) (p : Nat) : (State.lrsI2 s p).mem = s.mem := by
  unfold State.lrsI2
  simp

@[simp] theorem State.lineCe_mem (s : State) (l : Nat) : (State.lineCe s l).mem = s.mem := by
  unfold State.lineCe
  dsimp only
  (repeat' split) <;> simp_all

@[simp] theorem State.lineUe_mem (s : State) (l : Nat) (tenant : Option Nat) : (State.lineUe s l tenant).mem = s.mem :=
    by
  unfold State.lineUe
  dsimp only
  (repeat' split) <;> simp_all

@[simp] theorem State.fabMsg_mem (s : State) (m : FMsg) : (State.fabMsg s m).mem = s.mem := by
  unfold State.fabMsg
  simp

@[simp] theorem State.reply_mem (s : State) (kind : Nat) (m : MemReq) (cause : Nat) (d : Line) (dmg : Bool) :
    (State.reply s kind m cause d dmg).mem = s.mem := by
  unfold State.reply
  simp

@[simp] theorem State.mdata_mem (s : State) (m : MemReq) (d : Line) : (State.mdata s m d).mem = s.mem := by
  unfold State.mdata
  simp

@[simp] theorem State.mwrAck_mem (s : State) (m : MemReq) : (State.mwrAck s m).mem = s.mem := by
  unfold State.mwrAck
  simp

@[simp] theorem State.fabErr_mem (s : State) (m : MemReq) (cause : Nat) : (State.fabErr s m cause).mem = s.mem := by
  unfold State.fabErr
  simp

@[simp] theorem State.mlost_mem (s : State) (m : MemReq) : (State.mlost s m).mem = s.mem := by
  unfold State.mlost
  simp

@[simp] theorem State.ackOne_mem (s : State) (w : RWrite) (ok : Bool) : (State.ackOne s w ok).mem = s.mem := by
  unfold State.ackOne
  simp

@[simp] theorem State.nodeAck_mem (s : State) (node : Nat) (tag : Nat) (ok : Bool) : (State.nodeAck s node tag ok).mem =
    s.mem := by
  unfold State.nodeAck
  (repeat' split) <;> simp

@[simp] theorem State.noData_mem (s : State) (r : LineRes) (m : MemReq) : (State.noData s r m).mem = s.mem := by
  unfold State.noData
  (repeat' split) <;> simp

@[simp] theorem State.memAbsent_mem (s : State) (m : MemReq) : (State.memAbsent s m).mem = s.mem := by
  unfold State.memAbsent
  (repeat' split) <;> simp

@[simp] theorem State.wrAnswer_mem (s : State) (r : LineRes) (m : MemReq) : (State.wrAnswer s r m).mem = s.mem := by
  cases r with
  | ok d => exact State.mwrAck_mem ..
  | lost => exact (State.fabErr_mem ..).trans (State.homeErr_mem ..)
  | _ => exact (State.mwrAck_mem ..).trans (State.homeErr_mem ..)

@[simp] theorem State.fabTake_mem (s : State) (m : FMsg) : (State.fabTake s m).mem = s.mem := by
  unfold State.fabTake
  simp

@[simp] theorem State.octCap_mem (s : State) (router : Nat) (cause : Nat) : (State.octCap s router cause).mem = s.mem := by
  unfold State.octCap
  simp

@[simp] theorem State.setPort_mem (s : State) (r : Nat) (p : Nat) (x : Nat) : (State.setPort s r p x).mem = s.mem := by
  unfold State.setPort
  simp

@[simp] theorem State.setLink_mem (s : State) (r : Nat) (p : Nat) (x : Nat) : (State.setLink s r p x).mem = s.mem := by
  unfold State.setLink
  (repeat' split) <;> simp

@[simp] theorem State.routeI2_mem (s : State) : (State.routeI2 s).mem = s.mem := by
  unfold State.routeI2
  (repeat' split) <;> simp

@[simp] theorem State.damage_mem (s : State) (router : Nat) (tag : Nat) : (State.damage s router tag).mem = s.mem := by
  unfold State.damage
  simp

@[simp] theorem State.teSleep_mem (s : State) (x : Nat) : (State.teSleep s x).mem = s.mem := by
  unfold State.teSleep
  simp

@[simp] theorem State.teRest_mem (s : State) (k : Nat) : (State.teRest s k).mem = s.mem := by
  unfold State.teRest
  simp

@[simp] theorem State.showTc_mem (s : State) (p : Nat) (x : Nat) : (State.showTc s p x).mem = s.mem := by
  unfold State.showTc
  simp

@[simp] theorem State.teClr_mem (s : State) (k : Nat) : (State.teClr s k).mem = s.mem := by
  unfold State.teClr
  simp

@[simp] theorem State.teFlagsClr_mem (s : State) (k : Nat) : (State.teFlagsClr s k).mem = s.mem := by
  unfold State.teFlagsClr
  simp

@[simp] theorem State.resetI2_mem (s : State) : (State.resetI2 s).mem = s.mem := by
  unfold State.resetI2
  simp

@[simp] theorem State.prstAnswer_mem (s : State) (part : Nat) (dst : Nat) (tag : Nat) (qc : Nat) : (State.prstAnswer s
    part dst tag qc).mem = s.mem := by
  unfold State.prstAnswer
  simp

@[simp] theorem State.octClr_mem (s : State) : (State.octClr s).mem = s.mem := by
  unfold State.octClr
  simp

@[simp] theorem State.cohClr_mem (s : State) : (State.cohClr s).mem = s.mem := by
  unfold State.cohClr
  simp

@[simp] theorem State.tileClr_mem (s : State) (t : Nat) : (State.tileClr s t).mem = s.mem := by
  unfold State.tileClr
  simp

@[simp] theorem State.regimeI0_mem (s : State) : (State.regimeI0 s).mem = s.mem := by
  unfold State.regimeI0
  simp

@[simp] theorem State.rowI2_mem (s : State) : (State.rowI2 s).mem = s.mem := by
  unfold State.rowI2
  simp

@[simp] theorem State.wayLineLost_mem (s : State) (slice : Nat) (l : Nat) : (State.wayLineLost s slice l).mem = s.mem :=
    by
  unfold State.wayLineLost
  simp

@[simp] theorem State.fordCap_mem (s : State) (src : Nat) (dst : Nat) (cause : Nat) : (State.fordCap s src dst cause).mem =
    s.mem := by
  unfold State.fordCap
  simp

@[simp] theorem State.lateBoundary_mem (s : State) : (State.lateBoundary s).mem = s.mem := by
  unfold State.lateBoundary
  simp

@[simp] theorem State.domReady_mem (s : State) (d : Nat) : (State.domReady s d).mem = s.mem := by
  unfold State.domReady
  simp

@[simp] theorem State.fordClr_mem (s : State) : (State.fordClr s).mem = s.mem := by
  unfold State.fordClr
  simp

@[simp] theorem State.slipTo_mem (s : State) (v : Nat) (x : Nat) : (State.slipTo s v x).mem = s.mem := by
  unfold State.slipTo
  simp

@[simp] theorem State.readLost_mem (s : State) (r : RRead) (block : Nat) (cause : Nat) (unit : Nat) : (State.readLost s r
    block cause unit).mem = s.mem := by
  unfold State.readLost
  simp

@[simp] theorem State.slipBreach_mem (s : State) (v : Nat) : (State.slipBreach s v).mem = s.mem := by
  unfold State.slipBreach
  simp

@[simp] theorem State.windowsI0_mem (s : State) : (State.windowsI0 s).mem = s.mem := by
  unfold State.windowsI0
  simp

@[simp] theorem State.slipMsg_mem (s : State) (v : Nat) (h : OHdr) (kind : Nat) (cause : Nat) (d : Line) :
    (State.slipMsg s v h kind cause d).mem = s.mem := by
  unfold State.slipMsg
  simp

@[simp] theorem State.slipReplay_mem (s : State) (v : Nat) : (State.slipReplay s v).mem = s.mem := by
  unfold State.slipReplay
  simp

@[simp] theorem State.slipResend_mem (s : State) (v : Nat) (fseq : Nat) : (State.slipResend s v fseq).mem = s.mem := by
  unfold State.slipResend
  simp

@[simp] theorem State.slipTrim_mem (s : State) (v : Nat) : (State.slipTrim s v).mem = s.mem := by
  unfold State.slipTrim
  simp

@[simp] theorem State.slipRate_mem (s : State) (v : Nat) (rate : Nat) (mods : Nat) : (State.slipRate s v rate mods).mem =
    s.mem := by
  unfold State.slipRate
  simp

@[simp] theorem State.slipTrain_mem (s : State) (v : Nat) : (State.slipTrain s v).mem = s.mem := by
  unfold State.slipTrain
  simp

@[simp] theorem State.slipRetry_mem (s : State) (v : Nat) : (State.slipRetry s v).mem = s.mem := by
  unfold State.slipRetry
  simp

@[simp] theorem State.showDesc_mem (s : State) (v : Nat) (b : List Byte) : (State.showDesc s v b).mem = s.mem := by
  unfold State.showDesc
  simp

@[simp] theorem State.trainSlip_mem (s : State) (v : Nat) (b : List Byte) : (State.trainSlip s v b).mem = s.mem := by
  unfold State.trainSlip
  simp

@[simp] theorem State.slipFound_mem (s : State) (v : Nat) (rate : Nat) (mods : Nat) (link : Bool) (b : List Byte) :
    (State.slipFound s v rate mods link b).1.mem = s.mem := by
  unfold State.slipFound
  simp

@[simp] theorem State.slipI2_mem (s : State) (v : Nat) : (State.slipI2 s v).mem = s.mem := by
  unfold State.slipI2
  simp

@[simp] theorem State.slipClr_mem (s : State) (slip : Nat) : (State.slipClr s slip).mem = s.mem := by
  unfold State.slipClr
  simp

@[simp] theorem State.enter_mem (s : State) (st : Stage) (off : Nat) (phase : Nat) : (State.enter s st off phase).mem = s.mem
    := by
  unfold State.enter
  simp

@[simp] theorem State.voidCtxs_mem (s : State) : (State.voidCtxs s).mem = s.mem := by
  unfold State.voidCtxs
  simp

@[simp] theorem State.voidLegs_mem (s : State) : (State.voidLegs s).mem = s.mem := by
  unfold State.voidLegs
  simp

@[simp] theorem State.twinCommit_mem (s : State) : (State.twinCommit s).mem = s.mem := by
  unfold State.twinCommit
  simp

@[simp] theorem State.reissue_mem (s : State) : (State.reissue s).mem = s.mem := by
  unfold State.reissue
  simp

@[simp] theorem State.setPend_mem (s : State) (fn : Nat) (v : Nat) (x : Nat) : (State.setPend s fn v x).mem = s.mem := by
  unfold State.setPend
  simp

@[simp] theorem State.judge_mem (s : State) (fn : Nat) (v : Nat) : (State.judge s fn v).1.mem = s.mem := by
  unfold State.judge
  (repeat' split) <;> simp

@[simp] theorem State.judgeAll_mem (s : State) (l : List (Nat × Nat)) : (State.judgeAll s l).1.mem = s.mem := by
  unfold State.judgeAll
  simp

@[simp] theorem State.lateVecs_mem (s : State) (l : List (Nat × Nat)) : (State.lateVecs s l).mem = s.mem := by
  unfold State.lateVecs
  simp

@[simp] theorem State.fire_mem (s : State) (o : Out) : (State.fire s o).1.mem = s.mem := by
  unfold State.fire
  dsimp only
  (repeat' split) <;> simp_all

@[simp] theorem State.fireAll_mem (s : State) (l : List Out) : (State.fireAll s l).1.mem = s.mem := by
  unfold State.fireAll
  simp

@[simp] theorem State.fireSpill_mem (s : State) (n : Nat) : (State.fireSpill s n).mem = s.mem := by
  unfold State.fireSpill
  (repeat' split) <;> simp

@[simp] theorem State.commitC2_mem (s : State) (fit : Nat) : (State.commitC2 s fit).mem = s.mem := by
  unfold State.commitC2
  simp

@[simp] theorem State.storeRemote_mem (s : State) (k : Nat) (id : Nat) (part : Nat) (tenant : Nat) (ps : List (Nat × Nat
    × Nat)) : (State.storeRemote s k id part tenant ps).mem = s.mem := by
  unfold State.storeRemote
  simp

@[simp] theorem State.storeLog_mem (s : State) (key : Nat) (part : Nat) (l : List (Nat × List Byte)) : (State.storeLog s key
    part l).mem = s.mem := by
  unfold State.storeLog
  simp

@[simp] theorem State.movWait_mem (s : State) (k : Nat) (r : LegRun) : (State.movWait s k r).mem = s.mem := by
  unfold State.movWait
  (repeat' split) <;> simp

@[simp] theorem State.issueLocal_mem (s : State) (k : Nat) (op : Nat) : (State.issueLocal s k op).mem = s.mem := by
  unfold State.issueLocal
  (repeat' split) <;> simp

@[simp] theorem State.scatter_mem (s : State) (k : Nat) (z0 : List (Nat × Nat × Nat)) (z1 : List (List Byte × Bool)) :
    (State.scatter s k z0 z1).mem = s.mem := by
  induction z0 generalizing s z1 with
  | nil => unfold State.scatter; rfl
  | cons p rest ih =>
    obtain ⟨_, h, _⟩ := p
    cases z1 with
    | nil => rfl
    | cons x xs => unfold State.scatter; rw [ih]; split <;> simp

@[simp] theorem State.movInside_mem (s : State) (k : Nat) (m : MovX) : (State.movInside s k m).mem = s.mem := by
  unfold State.movInside
  simp

@[simp] theorem State.putElems_mem (s : State) (k : Nat) (a : Nat) (f : CFmt) (cs : List Nat) : (State.putElems s k a f
    cs).mem = s.mem := by
  unfold State.putElems
  (repeat' split) <;> simp

@[simp] theorem State.putScale_mem (s : State) (k : Nat) (a : Nat) (q : Option Nat) : (State.putScale s k a q).mem = s.mem := by
  unfold State.putScale
  (repeat' split) <;> simp

@[simp] theorem State.cvtDo_mem (s : State) (k : Nat) (rule : State → CvtI → CFmt → CFmt → List FVal → List Conv × Evts ×
    Option Nat) (r : LegRun) (w : Nat) : (State.cvtDo s k rule r w).1.mem = s.mem := by
  unfold State.cvtDo
  dsimp only
  (repeat' split) <;> simp_all

@[simp] theorem State.cvt_mem (s : State) (k : Nat) (op : Nat) (rule : State → CvtI → CFmt → CFmt → List FVal → List Conv ×
    Evts × Option Nat) : (State.cvt s k op rule).mem = s.mem := by
  unfold State.cvt
  simp

@[simp] theorem State.cutIns_mem (s : State) (k : Nat) : (State.cutIns s k).mem = s.mem := by
  unfold State.cutIns
  (repeat' split) <;> simp

@[simp] theorem State.cutLeg_mem (s : State) (k : Nat) : (State.cutLeg s k).mem = s.mem := by
  unfold State.cutLeg
  dsimp only
  (repeat' split) <;> simp_all

@[simp] theorem State.takeBlock_mem (s : State) (k : Nat) : (State.takeBlock s k).mem = s.mem := by
  unfold State.takeBlock
  dsimp only
  (repeat' split) <;> simp_all

@[simp] theorem State.feed_mem (s : State) (k : Nat) (z0 : Nat) : (State.feed s k z0).mem = s.mem := by
  induction z0 generalizing s with
  | zero => rfl
  | succ f ih => unfold State.feed; simp [ih]

@[simp] theorem State.mmaStart_mem (s : State) (k : Nat) (cyc : Nat) (r : LegRun) (m : MmaI) (mm : MmaMode) (own : List
    StrBlk) : (State.mmaStart s k cyc r m mm own).mem = s.mem := by
  unfold State.mmaStart
  simp

@[simp] theorem State.mmaSkip_mem (s : State) (k : Nat) (r : LegRun) (w : Nat) : (State.mmaSkip s k r w).mem = s.mem := by
  unfold State.mmaSkip
  dsimp only
  (repeat' split) <;> simp_all

@[simp] theorem State.transfer_mem (s : State) : (State.transfer s).mem = s.mem := by
  unfold State.transfer
  simp

@[simp] theorem State.intakeTakes_mem (s : State) : (State.intakeTakes s).mem = s.mem := by
  unfold State.intakeTakes
  simp

@[simp] theorem State.bindLoads_mem (s : State) : (State.bindLoads s).mem = s.mem := by
  unfold State.bindLoads
  simp

@[simp] theorem State.dropBinds_mem (s : State) (t : Nat) : (State.dropBinds s t).mem = s.mem := by
  unfold State.dropBinds
  simp

@[simp] theorem State.dropWgt_mem (s : State) (t : Nat) : (State.dropWgt s t).mem = s.mem := by
  unfold State.dropWgt
  simp

@[simp] theorem State.tearI0_mem (s : State) : (State.tearI0 s).mem = s.mem := by
  unfold State.tearI0
  simp

@[simp] theorem State.ltrIf_mem (s : State) (old : Nat) : (State.ltrIf s old).mem = s.mem := by
  unfold State.ltrIf
  simp

@[simp] theorem State.measI0_mem (s : State) : (State.measI0 s).mem = s.mem := by
  unfold State.measI0
  (repeat' split) <;> simp

@[simp] theorem State.vfReady_mem (s : State) : (State.vfReady s).mem = s.mem := by
  unfold State.vfReady
  simp

@[simp] theorem State.showSlot_mem (s : State) : (State.showSlot s).mem = s.mem := by
  unfold State.showSlot
  simp

@[simp] theorem State.edge_mem (s : State) (unfin : Bool) : (State.edge s unfin).mem = s.mem := by
  unfold State.edge
  simp

@[simp] theorem State.ferryBegin_mem (s : State) : (State.ferryBegin s).mem = s.mem := by
  unfold State.ferryBegin
  (repeat' split) <;> simp

@[simp] theorem State.countLate_mem (s : State) : (State.countLate s).mem = s.mem := by
  unfold State.countLate
  simp

@[simp] theorem State.planLeg_mem (s : State) (p : Nat) (b : SlotBlk) (x : Nat × Nat × LegEntry) : (State.planLeg s p b
    x).mem = s.mem := by
  unfold State.planLeg
  dsimp only
  (repeat' split) <;> simp_all

@[simp] theorem State.countDefer_mem (s : State) (p : Nat) (b : SlotBlk) : (State.countDefer s p b).mem = s.mem := by
  unfold State.countDefer
  simp

@[simp] theorem State.carryOne_mem (s : State) (p : Nat) (b : SlotBlk) (e : LegEntry) : (State.carryOne s p b e).mem = s.mem
    := by
  unfold State.carryOne
  (repeat' split) <;> simp

@[simp] theorem State.carryCheck_mem (s : State) (p : Nat) (b : SlotBlk) : (State.carryCheck s p b).mem = s.mem := by
  unfold State.carryCheck
  simp

@[simp] theorem State.planPart_mem (s : State) (p : Nat) : (State.planPart s p).mem = s.mem := by
  unfold State.planPart
  (repeat' split) <;> simp

@[simp] theorem State.intakeI3_mem (s : State) (unfin : Bool) : (State.intakeI3 s unfin).mem = s.mem := by
  unfold State.intakeI3
  simp

@[simp] theorem State.teWake_mem (s : State) (k : Nat) : (State.teWake s k).mem = s.mem := by
  unfold State.teWake
  simp

@[simp] theorem State.clearTE_mem (s : State) (k : Nat) : (State.clearTE s k).mem = s.mem := by
  unfold State.clearTE
  (repeat' split) <;> simp

@[simp] theorem State.declare_mem (s : State) (p : Nat) : (State.declare s p).mem = s.mem := by
  unfold State.declare
  simp

@[simp] theorem State.cleanStart_mem (s : State) : (State.cleanStart s).mem = s.mem := by
  unfold State.cleanStart
  simp

@[simp] theorem State.addCopy_mem (s : State) (x : CopyX) : (State.addCopy s x).mem = s.mem := by
  unfold State.addCopy
  simp

@[simp] theorem State.copyEnd_mem (s : State) (x : CopyX) : (State.copyEnd s x).mem = s.mem := by
  unfold State.copyEnd
  simp

@[simp] theorem State.drainCheck_mem (s : State) (p : Nat) : (State.drainCheck s p).mem = s.mem := by
  unfold State.drainCheck
  simp

@[simp] theorem State.copiesClose_mem (s : State) : (State.copiesClose s).mem = s.mem := by
  unfold State.copiesClose
  simp

@[simp] theorem State.ferryEnd_mem (s : State) : (State.ferryEnd s).mem = s.mem := by
  unfold State.ferryEnd
  (repeat' split) <;> simp

@[simp] theorem State.closeSail_mem (s : State) : (State.closeSail s).mem = s.mem := by
  unfold State.closeSail
  simp

@[simp] theorem State.ferryRan_mem (s : State) : (State.ferryRan s).mem = s.mem := by
  unfold State.ferryRan
  simp

@[simp] theorem State.openSail_mem (s : State) : (State.openSail s).mem = s.mem := by
  unfold State.openSail
  simp

@[simp] theorem State.boundary_mem (s : State) (lateNs : Nat) (rails : List Nat) (tiles : List Nat) (badMeter : Bool) :
    (State.boundary s lateNs rails tiles badMeter).mem = s.mem := by
  unfold State.boundary
  simp

@[simp] theorem State.idleTick_mem (s : State) : (State.idleTick s).mem = s.mem := by
  unfold State.idleTick
  simp

@[simp] theorem State.ledgerAdd_mem (s : State) (unit : Nat) (monitor : Nat) (value : Nat) : (State.ledgerAdd s unit monitor
    value).mem = s.mem := by
  unfold State.ledgerAdd
  simp

@[simp] theorem State.defer_mem (s : State) (n : Nat) : (State.defer s n).mem = s.mem := by
  unfold State.defer
  simp

@[simp] theorem State.guardStep_mem (s : State) (up : Bool) : (State.guardStep s up).mem = s.mem := by
  unfold State.guardStep
  simp

@[simp] theorem State.slackDone_mem (s : State) : (State.slackDone s).mem = s.mem := by
  unfold State.slackDone
  (repeat' split) <;> simp

@[simp] theorem State.slackSeen_mem (s : State) (v : Nat) : (State.slackSeen s v).mem = s.mem := by
  unfold State.slackSeen
  simp

@[simp] theorem State.oscSeen_mem (s : State) (unit : Nat) (v : Nat) : (State.oscSeen s unit v).mem = s.mem := by
  unfold State.oscSeen
  dsimp only
  (repeat' split) <;> simp_all

@[simp] theorem State.canarySeen_mem (s : State) (unit : Nat) (v : Nat) : (State.canarySeen s unit v).mem = s.mem := by
  unfold State.canarySeen
  simp

@[simp] theorem State.fwStore_mem (s : State) (b : List Byte) : (State.fwStore s b).mem = s.mem := by
  unfold State.fwStore
  simp

@[simp] theorem State.waitFor_mem (s : State) (x : Nat) : (State.waitFor s x).mem = s.mem := by
  unfold State.waitFor
  simp

@[simp] theorem State.romRuns_mem (s : State) : (State.romRuns s).mem = s.mem := by
  unfold State.romRuns
  simp

@[simp] theorem State.fwStart_mem (s : State) : (State.fwStart s).mem = s.mem := by
  unfold State.fwStart
  simp

@[simp] theorem State.romVerdict_mem (s : State) (code : Nat) : (State.romVerdict s code).mem = s.mem := by
  unfold State.romVerdict
  simp

@[simp] theorem State.rcvDone_mem (s : State) (r : RRead) : (State.rcvDone s r).mem = s.mem := by
  unfold State.rcvDone
  simp

@[simp] theorem State.fwState_mem (s : State) (st : Nat) : (State.fwState s st).mem = s.mem := by
  unfold State.fwState
  simp

@[simp] theorem State.fwFail_mem (s : State) (code : Nat) : (State.fwFail s code).mem = s.mem := by
  unfold State.fwFail
  simp

@[simp] theorem State.pciRegsReset_mem (s : State) (lo : Nat) (hi : Nat) : (State.pciRegsReset s lo hi).mem = s.mem := by
  unfold State.pciRegsReset
  simp

@[simp] theorem State.vfsOff_mem (s : State) : (State.vfsOff s).mem = s.mem := by
  unfold State.vfsOff
  simp

@[simp] theorem State.vfEnableSet_mem (s : State) : (State.vfEnableSet s).mem = s.mem := by
  unfold State.vfEnableSet
  simp

@[simp] theorem State.toD3_mem (s : State) : (State.toD3 s).mem = s.mem := by
  unfold State.toD3
  simp

@[simp] theorem State.stall_mem (s : State) (r : HostReq) : (State.stall s r).mem = s.mem := by
  unfold State.stall
  simp

@[simp] theorem State.cfgAsk_mem (s : State) (k : HReqK) (fn : Nat) (f : State → State) (hf : ∀ s , (f s ).mem = s.mem)
    : (State.cfgAsk s k fn f).mem = s.mem := by
  unfold State.cfgAsk
  simp
  (repeat' split) <;> simp_all

@[simp] theorem State.unsupported_mem (s : State) (r : HostReq) : (State.unsupported s r).mem = s.mem := by
  unfold State.unsupported
  simp

@[simp] theorem State.complete_mem (s : State) (r : HostReq) (d : List Byte) : (State.complete s r d).mem = s.mem := by
  unfold State.complete
  simp

@[simp] theorem State.bar2Bad_mem (s : State) (write : Bool) (x : Nat × LineRes) : (State.bar2Bad s write x).1.mem = s.mem := by
  unfold State.bar2Bad
  (repeat' split) <;> simp

@[simp] theorem State.bar2Bads_mem (s : State) (write : Bool) (l : List (Nat × LineRes)) : (State.bar2Bads s write l).1.mem =
    s.mem := by
  unfold State.bar2Bads
  simp

@[simp] theorem State.putRead_mem (s : State) (old : RRead) (new : RRead) : (State.putRead s old new).mem = s.mem := by
  unfold State.putRead
  simp

@[simp] theorem State.readFails_mem (s : State) (r : RRead) (tag : Nat) (cause : Nat) : (State.readFails s r tag cause).mem =
    s.mem := by
  unfold State.readFails
  simp

@[simp] theorem State.ferryRead_mem (s : State) (r : RRead) : (State.ferryRead s r).mem = s.mem := by
  unfold State.ferryRead
  simp

@[simp] theorem State.pieceIn_mem (s : State) (r : RRead) (x : Nat × Nat × Nat) (d : List Byte) : (State.pieceIn s r x d).mem
    = s.mem := by
  unfold State.pieceIn
  simp

@[simp] theorem State.cplAer_mem (s : State) (cause : Nat) : (State.cplAer s cause).mem = s.mem := by
  unfold State.cplAer
  simp

@[simp] theorem State.lateCpl_mem (s : State) (fn : Nat) (log : Bool) : (State.lateCpl s fn log).mem = s.mem := by
  unfold State.lateCpl
  simp

@[simp] theorem State.pciClr_mem (s : State) : (State.pciClr s).mem = s.mem := by
  unfold State.pciClr
  simp

@[simp] theorem State.showFuses_mem (s : State) : (State.showFuses s).mem = s.mem := by
  unfold State.showFuses
  simp

@[simp] theorem State.beginStep_mem (s : State) (i : Nat) (ms : Nat) : (State.beginStep s i ms).mem = s.mem := by
  unfold State.beginStep
  simp

@[simp] theorem State.brgTo_mem (s : State) (st : Nat) : (State.brgTo s st).mem = s.mem := by
  unfold State.brgTo
  simp

@[simp] theorem State.candidate_mem (s : State) : (State.candidate s).mem = s.mem := by
  unfold State.candidate
  simp

@[simp] theorem State.noCandidate_mem (s : State) (v : Verdict) : (State.noCandidate s v).mem = s.mem := by
  unfold State.noCandidate
  simp

@[simp] theorem State.findCandidate_mem (s : State) : (State.findCandidate s).mem = s.mem := by
  unfold State.findCandidate
  dsimp only
  (repeat' split) <;> simp_all

@[simp] theorem State.holdSlip_mem (s : State) (v : Nat) : (State.holdSlip s v).mem = s.mem := by
  unfold State.holdSlip
  simp

@[simp] theorem State.enterHeld_mem (s : State) : (State.enterHeld s).mem = s.mem := by
  unfold State.enterHeld
  simp

@[simp] theorem State.restartTrain_mem (s : State) : (State.restartTrain s).mem = s.mem := by
  unfold State.restartTrain
  simp

@[simp] theorem State.brgRetry_mem (s : State) : (State.brgRetry s).mem = s.mem := by
  unfold State.brgRetry
  simp

@[simp] theorem State.fullNext_mem (s : State) : (State.fullNext s).mem = s.mem := by
  unfold State.fullNext
  simp

@[simp] theorem State.startTime_mem (s : State) : (State.startTime s).mem = s.mem := by
  unfold State.startTime
  simp

@[simp] theorem State.trainFabric_mem (s : State) : (State.trainFabric s).mem = s.mem := by
  unfold State.trainFabric
  simp

@[simp] theorem State.trainPorts_mem (s : State) (m : Manifest) : (State.trainPorts s m).mem = s.mem := by
  unfold State.trainPorts
  simp

@[simp] theorem State.trainStack_mem (s : State) (p : Nat) : (State.trainStack s p).mem = s.mem := by
  unfold State.trainStack
  simp

@[simp] theorem State.restoreReg_mem (s : State) (key : Nat) (v : Nat) : (State.restoreReg s key v).mem = s.mem := by
  unfold State.restoreReg
  (repeat' split) <;> simp

@[simp] theorem State.applyRepair_mem (s : State) : (State.applyRepair s).mem = s.mem := by
  rw [State.applyRepair]
  simp

@[simp] theorem State.testRow_mem (s : State) (x : Nat × Nat × Nat × Nat) (found : Bool) : (State.testRow s x found).mem =
    s.mem := by
  unfold State.testRow
  simp

@[simp] theorem State.testBank_mem (s : State) (v : Nat) (c : Nat) (b : Nat) : (State.testBank s v c b).mem = s.mem := by
  unfold State.testBank
  simp

@[simp] theorem State.testTe_mem (s : State) (tile : Nat) (phys : Nat) : (State.testTe s tile phys).mem = s.mem := by
  unfold State.testTe
  simp

@[simp] theorem State.writeRepair_mem (s : State) (reason : Nat) (warm : Nat) (sample : Nat) : (State.writeRepair s reason
    warm sample).mem = s.mem := by
  unfold State.writeRepair
  simp

@[simp] theorem State.findStack_mem (s : State) (m : Manifest) (mism : List Nat) (p : Nat) : (State.findStack s m mism p).mem
    = s.mem := by
  unfold State.findStack
  simp

@[simp] theorem State.trainTwin_mem (s : State) (peer : Nat) : (State.trainTwin s peer).mem = s.mem := by
  unfold State.trainTwin
  simp

@[simp] theorem State.compareAll_mem (s : State) (m : Manifest) : (State.compareAll s m).mem = s.mem := by
  unfold State.compareAll
  dsimp only
  (repeat' split) <;> simp_all

@[simp] theorem State.fwActivate_mem (s : State) : (State.fwActivate s).mem = s.mem := by
  unfold State.fwActivate
  simp

@[simp] theorem State.handCheck_mem (s : State) : (State.handCheck s).mem = s.mem := by
  unfold State.handCheck
  simp

@[simp] theorem State.warmHandoff_mem (s : State) : (State.warmHandoff s).mem = s.mem := by
  unfold State.warmHandoff
  simp

@[simp] theorem State.watchdog_mem (s : State) : (State.watchdog s).mem = s.mem := by
  unfold State.watchdog
  simp

@[simp] theorem State.fwResume_mem (s : State) : (State.fwResume s).mem = s.mem := by
  unfold State.fwResume
  simp

@[simp] theorem State.twinErr_mem (s : State) (cls : Nat) (cause : Nat) : (State.twinErr s cls cause).mem = s.mem := by
  unfold State.twinErr
  simp

@[simp] theorem State.showBacklog_mem (s : State) : (State.showBacklog s).mem = s.mem := by
  unfold State.showBacklog
  simp

@[simp] theorem State.unpairAll_mem (s : State) : (State.unpairAll s).mem = s.mem := by
  unfold State.unpairAll
  simp

@[simp] theorem State.sendHello_mem (s : State) : (State.sendHello s).mem = s.mem := by
  unfold State.sendHello
  (repeat' split) <;> simp

@[simp] theorem State.twinCode_mem (s : State) (c : Nat) : (State.twinCode s c).mem = s.mem := by
  unfold State.twinCode
  simp

@[simp] theorem State.takeover_mem (s : State) : (State.takeover s).mem = s.mem := by
  unfold State.takeover
  simp

@[simp] theorem State.twinTakeover_mem (s : State) : (State.twinTakeover s).mem = s.mem := by
  unfold State.twinTakeover
  simp

@[simp] theorem State.twinClr_mem (s : State) : (State.twinClr s).mem = s.mem := by
  unfold State.twinClr
  simp

@[simp] theorem State.mrsp_mem (s : State) (tag : Nat) (err : Nat) (d : List Byte) : (State.mrsp s tag err d).mem = s.mem := by
  unfold State.mrsp
  simp

@[simp] theorem State.mreqBad_mem (s : State) (x : Nat × LineRes) : (State.mreqBad s x).mem = s.mem := by
  unfold State.mreqBad
  (repeat' split) <;> simp

@[simp] theorem State.diverge_mem (s : State) (p : Nat) (told : Bool) : (State.diverge s p told).mem = s.mem := by
  unfold State.diverge
  simp

@[simp] theorem State.sendAck_mem (s : State) (n : Nat) : (State.sendAck s n).mem = s.mem := by
  unfold State.sendAck
  simp

@[simp] theorem State.liveWrite_mem (s : State) (key : Nat) (w : Word) : (State.liveWrite s key w).mem = s.mem := by
  unfold State.liveWrite
  simp

@[simp] theorem State.shadowWrite_mem (s : State) (key : Nat) (v : Word) (m : Word) : (State.shadowWrite s key v m).mem =
    s.mem := by
  unfold State.shadowWrite
  simp

@[simp] theorem State.fieldWrite_mem (s : State) (key : Nat) (mask : Word) (v : Word) (f : RegField) : (State.fieldWrite s
    key mask v f).mem = s.mem := by
  unfold State.fieldWrite
  (repeat' split) <;> simp

@[simp] theorem State.qClr_mem (s : State) : (State.qClr s).mem = s.mem := by
  unfold State.qClr
  simp

@[simp] theorem State.manCmd_mem (s : State) (v : Nat) : (State.manCmd s v).mem = s.mem := by
  unfold State.manCmd
  simp

@[simp] theorem State.lcsCmd_mem (s : State) (op : Nat) : (State.lcsCmd s op).mem = s.mem := by
  unfold State.lcsCmd
  simp

@[simp] theorem State.keyCmd_mem (s : State) (v : Nat) : (State.keyCmd s v).mem = s.mem := by
  unfold State.keyCmd
  simp

@[simp] theorem State.lrsCmd_mem (s : State) (p : Nat) (v : Nat) : (State.lrsCmd s p v).mem = s.mem := by
  unfold State.lrsCmd
  simp

@[simp] theorem State.onBit_mem (s : State) (v : Nat) (i : Nat) (f : State → State) (hf : ∀ s, (f s).mem = s.mem) :
    (State.onBit s v i f).mem = s.mem := by
  unfold State.onBit
  simp [*]

@[simp] theorem State.ferryReg_mem (s : State) (n : RegName) (idx : List Nat) (key : Nat) : (State.ferryReg s n idx key).mem
    = s.mem := by
  unfold State.ferryReg
  (repeat' split) <;> simp

@[simp] theorem State.regUse_mem (s : State) (off : Nat) : (State.regUse s off).mem = s.mem := by
  unfold State.regUse
  (repeat' split) <;> simp

@[simp] theorem State.regRefuse_mem (s : State) (r : RegReq) : (State.regRefuse s r).mem = s.mem := by
  unfold State.regRefuse
  (repeat' split) <;> simp

@[simp] theorem State.regDone_mem (s : State) (r : RegReq) : (State.regDone s r).mem = s.mem := by
  unfold State.regDone
  (repeat' split) <;> simp

@[simp] theorem State.regReadMsgs_mem (s : State) (src : Nat) (tag : Nat) (off : Nat) (n : Nat) : (State.regReadMsgs s
    src tag off n).mem = s.mem := by
  unfold State.regReadMsgs
  (repeat' split) <;> simp

@[simp] theorem State.regWake_mem (s : State) (off : Nat) : (State.regWake s off).mem = s.mem := by
  unfold State.regWake
  (repeat' split) <;> simp

@[simp] theorem State.prst_mem (s : State) (r : HostReq) : (State.prst s r).mem = s.mem := by
  unfold State.prst
  simp

@[simp] theorem State.switchRegs_mem (s : State) (b : List Byte) (z0 : Nat) : (State.switchRegs s b z0).mem = s.mem := by
  induction z0 generalizing s b with
  | zero => rfl
  | succ f ih => unfold State.switchRegs; simp [ih]

@[simp] theorem State.switchProgs_mem (s : State) (b : List Byte) (z0 : Nat) : (State.switchProgs s b z0).mem = s.mem := by
  induction z0 generalizing s b with
  | zero => rfl
  | succ f ih => unfold State.switchProgs; dsimp only; rw [ih]

@[simp] theorem State.switchRings_mem (s : State) (p : Nat) : (State.switchRings s p).mem = s.mem := by
  unfold State.switchRings
  simp

@[simp] theorem State.switchIn_mem (s : State) (e : FEntry) : (State.switchIn s e).mem = s.mem := by
  unfold State.switchIn
  simp

@[simp] theorem State.ferrySlots_mem (s : State) (e : FEntry) : (State.ferrySlots s e).mem = s.mem := by
  unfold State.ferrySlots
  simp

@[simp] theorem State.ferryCross_mem (s : State) (n : Nat) (e : FEntry) : (State.ferryCross s n e).mem = s.mem := by
  unfold State.ferryCross
  simp

@[simp] theorem State.ferryDigest_mem (s : State) (e : FEntry) : (State.ferryDigest s e).mem = s.mem := by
  unfold State.ferryDigest
  (repeat' split) <;> simp

@[simp] theorem State.ferryIssued_mem (s : State) (e : FEntry) : (State.ferryIssued s e).mem = s.mem := by
  unfold State.ferryIssued
  simp

@[simp] theorem State.trim_mem (s : State) : (State.trim s).mem = s.mem := by
  unfold State.trim
  simp

@[simp] theorem State.slipErrTo_mem (s : State) (v : Nat) (q : SReq) (cause : Nat) : (State.slipErrTo s v q cause).mem =
    s.mem := by
  unfold State.slipErrTo
  simp

@[simp] theorem State.slipAbsent_mem (s : State) (v : Nat) (q : SReq) (pa : Nat) : (State.slipAbsent s v q pa).mem = s.mem := by
  unfold State.slipAbsent
  simp

@[simp] theorem State.vecOp_mem (s : State) (k : Nat) (func : Nat) (f : Bool → Nat → Nat → Nat → Nat) : (State.vecOp s k func
    f).mem = s.mem := by
  unfold State.vecOp
  simp

@[simp] theorem State.rand_mem (s : State) (k : Nat) (func : Nat) (f : Nat → Nat) : (State.rand s k func f).mem = s.mem := by
  unfold State.rand
  simp

@[simp] theorem State.arrive_mem (s : State) (k : Nat) (mask : Nat) (bid : Nat) : (State.arrive s k mask bid).mem = s.mem := by
  unfold State.arrive
  (repeat' split) <;> simp

@[simp] theorem State.predOp_mem (s : State) (k : Nat) (op : Nat) (hold : PredI → List (Nat × Nat)) (f : State → PredI →
    LegRun → Bool) : (State.predOp s k op hold f).mem = s.mem := by
  unfold State.predOp
  simp

@[simp] theorem State.red_mem (s : State) (k : Nat) (op : Nat) (f : State → RedI → List Nat → List Nat × List Nat) :
    (State.red s k op f).mem = s.mem := by
  unfold State.red
  simp

@[simp] theorem State.tapSelect_mem (s : State) (code : Nat) (ok : Bool) (f : State → State) (hf : ∀ s, (f s).mem = s.mem) :
    (State.tapSelect s code ok f).mem = s.mem := by
  unfold State.tapSelect
  simp [*]

@[simp] theorem State.tapLcsCmd_mem (s : State) (data : Nat) : (State.tapLcsCmd s data).mem = s.mem := by
  unfold State.tapLcsCmd
  simp

@[simp] theorem State.withCommand_mem (s : State) (c : Instr) : (State.withCommand s c).mem = s.mem := by
  rfl

@[simp] theorem State.withFetchWord_mem (s : State) (nbits : Nat) (w : Nat) : (State.withFetchWord s nbits w).mem =
    s.mem := by
  unfold State.withFetchWord
  (repeat' split) <;> simp

end Sys2Proof.Machine
end

