-- ==== Sys2Proof/WellFormed.lean ====
section
/-! DEFINITION. Well-formed commands: the ranges the spec gives their operands. -/

namespace Sys2Proof

/-- What a check of an operand is about. -/
inductive Check where
  /-- A logical TE: 0 to 255. -/
  | te
  /-- A partition: 0 to 63. -/
  | part
  /-- A barrier: 0 to 15. -/
  | barrier
  /-- A tile: 0 to 63. -/
  | tile
  /-- A physical TE of a tile: 0 to 4. -/
  | phys
  /-- A tenant: 0 to 4,095. -/
  | tenant
  /-- A ring of a tenant: 0 to 63. -/
  | ring
  /-- A doorbell access: 0 whole, 1 lower half, 2 upper half. -/
  | half
  /-- A value of 64 bits. -/
  | wide
  /-- A global ring: 64 times the tenant plus the ring. -/
  | globalRing
  /-- A descriptor index: 32 bits. -/
  | didx
  /-- An invalidation lane: 0 to 63. -/
  | invLane
  /-- An invalidation SEQ: 16 bits. -/
  | seq
  /-- A page number VA[55:25]: 31 bits. -/
  | vpn
  /-- A translation cache: 0 to 64. -/
  | cache
  /-- A virtual address: 56 bits. -/
  | va
  /-- A PCIe function: 0 for PF0, to 4,096. -/
  | function
  /-- A host page number: 52 bits. -/
  | page
  /-- An ITag: 0 to 31. -/
  | itag
  /-- A requester or injection point: 0 to 74. -/
  | requester
  /-- A physical address: 52 bits. -/
  | pa
  /-- A QoS class: 0 to 3, and 0 of a tile's requester alone (R326). -/
  | qc
  /-- A key owner or a TENANT field: 0 to 0x1000. -/
  | owner
  /-- A caching agent: 0 to 71. -/
  | agent
  /-- A slip: 0 to 7. -/
  | slip
  /-- A router: 0 to 82. -/
  | router
  /-- What a code finds: 0 nothing, 1 corrected, 2 uncorrectable. -/
  | ecc
  /-- A register access: 8 or 4 bytes, naturally aligned (R6). -/
  | size
  /-- A register block: 0 to 0x13. -/
  | block
  /-- A port: 0 to 7. -/
  | port
  /-- A power domain: 0 to 528. -/
  | powerDomain
  /-- A clock domain: 0 to 17. -/
  | clockDomain
  /-- A flit: 256 bytes. -/
  | flit
  /-- An FSEQ: 12 bits. -/
  | fseq
  /-- A chiplet descriptor: 256 bytes. -/
  | descriptor
  /-- A Lararis channel: 0 to 131. -/
  | lrsChannel
  /-- A channel field: 8 bits. -/
  | lrsChannelOrNone
  /-- A vault or LLC slice: 0 to 63. -/
  | vault
  /-- A vault channel: 0 to 15. -/
  | channel
  /-- A bank: 0 to 31. -/
  | bank
  /-- An LLC way: 0 to 23. -/
  | way
  /-- A lane request: 3 bits. -/
  | teLane
  /-- A TWIN role: 0 or 1. -/
  | role
  /-- A serial number: 64 bits. -/
  | serial
  /-- A ferry entry type: 8 bits. -/
  | entry
  /-- A line: 128 bytes. -/
  | lineBytes
  /-- An IDE stream: 8 bits. -/
  | stream
  /-- A nonce: 256 bits. -/
  | nonce
  /-- A certificate slot: 0 or 1. -/
  | slot
  /-- A command route: 0 PF0, 1 MCTP, 2 JTAG. -/
  | route
  /-- A completion status: 3 bits. -/
  | status
  deriving DecidableEq, Repr

/-- The checks of a command's operands, and whether each is met. -/
def Instr.checks (i : Instr) : List (Check × Bool) :=
  match i with
  | .legStart te => [(.te, decide (te < 256))]
  | .copyIssue part _ => [(.part, decide (part < 64))]
  | .copyComplete part _ => [(.part, decide (part < 64))]
  | .legWatchdog te _ => [(.te, decide (te < 256))]
  | .endLeg te _ _ => [(.te, decide (te < 256))]
  | .movLoad te => [(.te, decide (te < 256))]
  | .movStore te => [(.te, decide (te < 256))]
  | .movHcopy te => [(.te, decide (te < 256))]
  | .movZero te => [(.te, decide (te < 256))]
  | .movComplete te _ => [(.te, decide (te < 256))]
  | .mmaAcc te _ => [(.te, decide (te < 256))]
  | .mmaAccDrain te _ => [(.te, decide (te < 256))]
  | .mmaDrain te _ => [(.te, decide (te < 256))]
  | .mmaClear te _ => [(.te, decide (te < 256))]
  | .mmaComplete te => [(.te, decide (te < 256))]
  | .wsbBlockArrive te _ => [(.te, decide (te < 256))]
  | .vecAdd te => [(.te, decide (te < 256))]
  | .vecSub te => [(.te, decide (te < 256))]
  | .vecMul te => [(.te, decide (te < 256))]
  | .vecFma te => [(.te, decide (te < 256))]
  | .vecMin te => [(.te, decide (te < 256))]
  | .vecMax te => [(.te, decide (te < 256))]
  | .vecAbs te => [(.te, decide (te < 256))]
  | .vecNeg te => [(.te, decide (te < 256))]
  | .vecAnd te => [(.te, decide (te < 256))]
  | .vecOr te => [(.te, decide (te < 256))]
  | .vecXor te => [(.te, decide (te < 256))]
  | .vecShl te => [(.te, decide (te < 256))]
  | .vecShr te => [(.te, decide (te < 256))]
  | .vecSra te => [(.te, decide (te < 256))]
  | .vecCmpeq te => [(.te, decide (te < 256))]
  | .vecCmplt te => [(.te, decide (te < 256))]
  | .vecCmple te => [(.te, decide (te < 256))]
  | .vecSelect te => [(.te, decide (te < 256))]
  | .vecExp te => [(.te, decide (te < 256))]
  | .vecLog te => [(.te, decide (te < 256))]
  | .vecRcp te => [(.te, decide (te < 256))]
  | .vecRsqrt te => [(.te, decide (te < 256))]
  | .vecSqrt te => [(.te, decide (te < 256))]
  | .vecTanh te => [(.te, decide (te < 256))]
  | .vecLd te => [(.te, decide (te < 256))]
  | .vecSt te => [(.te, decide (te < 256))]
  | .vecRand te => [(.te, decide (te < 256))]
  | .vecRandu te => [(.te, decide (te < 256))]
  | .cvtCast te => [(.te, decide (te < 256))]
  | .cvtScale te => [(.te, decide (te < 256))]
  | .cvtQuant te => [(.te, decide (te < 256))]
  | .cvtQscale te => [(.te, decide (te < 256))]
  | .redSum te => [(.te, decide (te < 256))]
  | .redMax te => [(.te, decide (te < 256))]
  | .redSoftmax te => [(.te, decide (te < 256))]
  | .redRmsnorm te => [(.te, decide (te < 256))]
  | .redLayernorm te => [(.te, decide (te < 256))]
  | .redArgmax te => [(.te, decide (te < 256))]
  | .redTopk te => [(.te, decide (te < 256))]
  | .syncBar te => [(.te, decide (te < 256))]
  | .barRelease _ bid => [(.barrier, decide (bid < 16))]
  | .syncFence te => [(.te, decide (te < 256))]
  | .loopRepeat te => [(.te, decide (te < 256))]
  | .predCmp te => [(.te, decide (te < 256))]
  | .predVcmp te => [(.te, decide (te < 256))]
  | .predAnd te => [(.te, decide (te < 256))]
  | .predOr te => [(.te, decide (te < 256))]
  | .predNot te => [(.te, decide (te < 256))]
  | .predSet te => [(.te, decide (te < 256))]
  | .teFailing tile phys _ => [(.tile, decide (tile < 64)), (.phys, decide (phys < 5))]
  | .doorbell tenant ring half value => [(.tenant, decide (tenant < 4096)), (.ring, decide (ring < 64)), (.half, decide (half < 3)), (.wide, decide (value < 2 ^ 64))]
  | .descRun ring didx => [(.globalRing, decide (ring < 262144)), (.didx, decide (didx < 2 ^ 32))]
  | .descXfer ring didx => [(.globalRing, decide (ring < 262144)), (.didx, decide (didx < 2 ^ 32))]
  | .descLoadProg ring didx => [(.globalRing, decide (ring < 262144)), (.didx, decide (didx < 2 ^ 32))]
  | .descAbort ring didx => [(.globalRing, decide (ring < 262144)), (.didx, decide (didx < 2 ^ 32))]
  | .chunkFillDone ring _ => [(.globalRing, decide (ring < 262144))]
  | .chunkDrainDone ring _ => [(.globalRing, decide (ring < 262144))]
  | .dtuInvPage lane seq vpn tenant => [(.invLane, decide (lane < 64)), (.seq, decide (seq < 65536)), (.vpn, decide (vpn < 2 ^ 31)), (.tenant, decide (tenant < 4096))]
  | .dtuInvTenant lane seq tenant => [(.invLane, decide (lane < 64)), (.seq, decide (seq < 65536)), (.tenant, decide (tenant < 4096))]
  | .dtuInvAll lane seq => [(.invLane, decide (lane < 64)), (.seq, decide (seq < 65536))]
  | .translationWalk cache tenant va => [(.cache, decide (cache < 65)), (.tenant, decide (tenant < 4096)), (.va, decide (va < 2 ^ 56))]
  | .pinLoadDone tenant => [(.tenant, decide (tenant < 4096))]
  | .tfqPop tenant => [(.tenant, decide (tenant < 4096))]
  | .tinvClr tenant => [(.tenant, decide (tenant < 4096))]
  | .tmeasGo tenant => [(.tenant, decide (tenant < 4096))]
  | .tmeasDone tenant => [(.tenant, decide (tenant < 4096))]
  | .atsTranslationCompletion fn page _ _ _ _ => [(.function, decide (fn < 4097)), (.page, decide (page < 2 ^ 52))]
  | .atsInvalidateRequest itag fn page => [(.itag, decide (itag < 32)), (.function, decide (fn < 4097)), (.page, decide (page < 2 ^ 52))]
  | .atsInvalidationCompletion itag => [(.itag, decide (itag < 32))]
  | .rds req pa _ _ qc ten _ => [(.requester, decide (req < 75)), (.pa, decide (pa < 2 ^ 52)), (.qc, decide (qc < 4 ∧ (qc = 0 → req < 64))), (.owner, decide (ten < 4097))]
  | .rdo req pa _ _ qc ten => [(.requester, decide (req < 75)), (.pa, decide (pa < 2 ^ 52)), (.qc, decide (qc < 4 ∧ (qc = 0 → req < 64))), (.owner, decide (ten < 4097))]
  | .upg req pa _ _ qc ten => [(.requester, decide (req < 75)), (.pa, decide (pa < 2 ^ 52)), (.qc, decide (qc < 4 ∧ (qc = 0 → req < 64))), (.owner, decide (ten < 4097))]
  | .rdc req pa _ _ _ qc ten => [(.requester, decide (req < 75)), (.pa, decide (pa < 2 ^ 52)), (.qc, decide (qc < 4 ∧ (qc = 0 → req < 64))), (.owner, decide (ten < 4097))]
  | .wri req pa _ _ qc ten _ => [(.requester, decide (req < 75)), (.pa, decide (pa < 2 ^ 52)), (.qc, decide (qc < 4 ∧ (qc = 0 → req < 64))), (.owner, decide (ten < 4097))]
  | .wrp req pa _ _ qc ten _ _ => [(.requester, decide (req < 75)), (.pa, decide (pa < 2 ^ 52)), (.qc, decide (qc < 4 ∧ (qc = 0 → req < 64))), (.owner, decide (ten < 4097))]
  | .wb agent pa _ => [(.agent, decide (agent < 72)), (.pa, decide (pa < 2 ^ 52))]
  | .evct agent pa => [(.agent, decide (agent < 72)), (.pa, decide (pa < 2 ^ 52))]
  | .compAck req pa => [(.requester, decide (req < 75)), (.pa, decide (pa < 2 ^ 52))]
  | .snoopAtStop pa stop _ => [(.pa, decide (pa < 2 ^ 52)), (.agent, decide (stop < 72))]
  | .snpRsp slip pa _ _ _ _ _ => [(.slip, decide (slip < 8)), (.pa, decide (pa < 2 ^ 52))]
  | .snpData agent pa _ _ => [(.agent, decide (agent < 72)), (.pa, decide (pa < 2 ^ 52))]
  | .snoopComplete pa => [(.pa, decide (pa < 2 ^ 52))]
  | .data req pa => [(.requester, decide (req < 75)), (.pa, decide (pa < 2 ^ 52))]
  | .gnt req pa => [(.requester, decide (req < 75)), (.pa, decide (pa < 2 ^ 52))]
  | .retry req pa => [(.requester, decide (req < 75)), (.pa, decide (pa < 2 ^ 52))]
  | .wbAck agent pa => [(.agent, decide (agent < 72)), (.pa, decide (pa < 2 ^ 52))]
  | .slipSnpTo slip => [(.slip, decide (slip < 8))]
  | .slipAgentLoss slip => [(.slip, decide (slip < 8))]
  | .mrd src pa _ rid qc ten ecc => [(.router, decide (src < 83)), (.requester, decide (rid < 75)), (.qc, decide (qc < 4)), (.pa, decide (pa < 2 ^ 52)), (.owner, decide (ten < 4097)), (.ecc, decide (ecc < 3))]
  | .mwr src pa _ rid qc _ ten _ => [(.router, decide (src < 83)), (.requester, decide (rid < 75)), (.qc, decide (qc < 4)), (.pa, decide (pa < 2 ^ 52)), (.owner, decide (ten < 4097))]
  | .mdata router _ => [(.router, decide (router < 83))]
  | .mwrAck router _ => [(.router, decide (router < 83))]
  | .errResponse router _ => [(.router, decide (router < 83))]
  | .regWr off size value src _ =>
    [(.size, decide ((size = 8 ∧ off % 8 = 0) ∨ (size = 4 ∧ off % 4 = 0))), (.wide, decide (value < 2 ^ 64)), (.router, decide (src < 83))]
  | .regAck block => [(.block, decide (block < 20))]
  | .errRec block _ _ => [(.block, decide (block < 20))]
  | .fatal block _ _ => [(.block, decide (block < 20))]
  | .partitionReset part _ src _ => [(.part, decide (part < 64)), (.router, decide (src < 83))]
  | .flitCrcError router port _ => [(.router, decide (router < 83)), (.port, decide (port < 8))]
  | .linkRetrainDone router port _ => [(.router, decide (router < 83)), (.port, decide (port < 8))]
  | .hdrUe router => [(.router, decide (router < 83))]
  | .dataUe router ten pa _ => [(.router, decide (router < 83)), (.owner, decide (ten < 4097)), (.pa, decide (pa < 2 ^ 52))]
  | .wakeRequest d => [(.powerDomain, decide (d < 529))]
  | .domainUp d => [(.powerDomain, decide (d < 529))]
  | .wakeFail d => [(.powerDomain, decide (d < 529))]
  | .tollRelease p q => [(.requester, decide (p < 75)), (.qc, decide (q < 4))]
  | .fordOverrun src dst _ _ _ => [(.clockDomain, decide (src < 18)), (.clockDomain, decide (dst < 18))]
  | .fordReset dom other _ _ => [(.clockDomain, decide (dom < 18)), (.clockDomain, decide (other < 18))]
  | .fordReady dom other => [(.clockDomain, decide (dom < 18 ∧ other < 18))]
  | .lockLost dom => [(.clockDomain, decide (dom < 18))]
  | .ospFlitReceive slip flit => [(.slip, decide (slip < 8)), (.flit, decide (flit.length = 256))]
  | .ospReplay slip fseq => [(.slip, decide (slip < 8)), (.fseq, decide (fseq < 4096))]
  | .slipRequest slip => [(.slip, decide (slip < 8))]
  | .creditTo slip => [(.slip, decide (slip < 8))]
  | .memTo slip _ => [(.slip, decide (slip < 8))]
  | .slipLinkError slip => [(.slip, decide (slip < 8))]
  | .slipRetrainDone slip _ _ _ => [(.slip, decide (slip < 8))]
  | .slipDown slip => [(.slip, decide (slip < 8))]
  | .slipSidebandLinkDown slip => [(.slip, decide (slip < 8))]
  | .slipRetrain slip => [(.slip, decide (slip < 8))]
  | .slipDiscoveryDone slip _ _ _ desc => [(.slip, decide (slip < 8)), (.descriptor, decide (desc.length = 256))]
  | .slipClr slip => [(.slip, decide (slip < 8))]
  | .stackTempRead port _ _ => [(.port, decide (port < 8))]
  | .channelFailing port ch _ => [(.port, decide (port < 8)), (.lrsChannel, decide (ch < 132))]
  | .spareCopyDone port _ => [(.port, decide (port < 8))]
  | .stackTakenOut port => [(.port, decide (port < 8))]
  | .lrsSpareCh port ch => [(.port, decide (port < 8)), (.lrsChannelOrNone, decide (ch < 256))]
  | .lrsRetCh port ch _ => [(.port, decide (port < 8)), (.lrsChannelOrNone, decide (ch < 256))]
  | .lrsReset port _ => [(.port, decide (port < 8))]
  | .lrsClr port => [(.port, decide (port < 8))]
  | .vaultRegimeChange vault _ => [(.vault, decide (vault < 64))]
  | .rowRepairDone vault chan bank _ _ => [(.vault, decide (vault < 64)), (.channel, decide (chan < 16)), (.bank, decide (bank < 32))]
  | .llcWayFail slice way _ _ => [(.vault, decide (slice < 64)), (.way, decide (way < 24))]
  | .teReqLane tile lane => [(.tile, decide (tile < 64)), (.teLane, decide (lane < 8))]
  | .teClrFailed tile _ => [(.tile, decide (tile < 64))]
  | .teClr te => [(.te, decide (te < 256))]
  | .tileClr tile => [(.tile, decide (tile < 64))]
  | .registerWrite off size value => [(.size, decide ((size = 8 ∧ off % 8 = 0) ∨ (size = 4 ∧ off % 4 = 0))), (.wide, decide (value < 2 ^ 64))]
  | .hello _ role _ serial _ => [(.role, decide (role < 2)), (.serial, decide (serial < 2 ^ 64))]
  | .ferry typ part _ _ => [(.entry, decide (typ < 256)), (.part, decide (part < 64))]
  | .copy pa bytes => [(.pa, decide (pa < 2 ^ 52)), (.lineBytes, decide (bytes.length = 128))]
  | .mreq _ pa _ _ _ => [(.pa, decide (pa < 2 ^ 52))]
  | .resync part => [(.part, decide (part < 64))]
  | .resyncSwitch part => [(.part, decide (part < 64))]
  | .rotate owner => [(.owner, decide (owner < 4097))]
  | .retire owner => [(.owner, decide (owner < 4097))]
  | .sweepDone owner => [(.owner, decide (owner < 4097))]
  | .scrubDone owner => [(.owner, decide (owner < 4097))]
  | .ideIntegrity stream => [(.stream, decide (stream < 256))]
  | .tdispGetVersion tenant => [(.tenant, decide (tenant < 4096))]
  | .tdispGetCapabilities tenant => [(.tenant, decide (tenant < 4096))]
  | .lockInterface tenant stream => [(.tenant, decide (tenant < 4096)), (.stream, decide (stream < 256))]
  | .getDeviceInterfaceReport tenant => [(.tenant, decide (tenant < 4096))]
  | .getDeviceInterfaceState tenant => [(.tenant, decide (tenant < 4096))]
  | .startInterface tenant nonce => [(.tenant, decide (tenant < 4096)), (.nonce, decide (nonce < 2 ^ 256))]
  | .stopInterface tenant => [(.tenant, decide (tenant < 4096))]
  | .ideKm stream _ => [(.stream, decide (stream < 256))]
  | .spdmGetCertificate slot _ _ => [(.slot, decide (slot < 2))]
  | .spdmChallenge slot _ => [(.slot, decide (slot < 2))]
  | .transition route _ _ _ => [(.route, decide (route < 3))]
  | .fuse route _ _ _ => [(.route, decide (route < 3))]
  | .challenge route => [(.route, decide (route < 3))]
  | .dbgAuth route _ => [(.route, decide (route < 3))]
  | .dbgRevoke route => [(.route, decide (route < 3))]
  | .hostConfigRequest fn _ _ _ _ _ => [(.function, decide (fn < 4097))]
  | .vfFlr t => [(.tenant, decide (t < 4096))]
  | .hostBar0Access fn _ _ _ _ _ _ _ => [(.function, decide (fn < 4097))]
  | .pcieCompletion fn _ st _ _ _ => [(.function, decide (fn < 4097)), (.status, decide (st < 8))]
  | .partitionResetEntry part => [(.part, decide (part < 64))]
  | .sailingBoundary _ _ _ _ => []
  | .commitC1 _ => []
  | .commitC2 _ => []
  | .commitSpill _ => []
  | .intakeI0 => []
  | .intakeI1 _ => []
  | .intakeI2 _ => []
  | .intakeI3 _ => []
  | .intakeI4 _ => []
  | .runStart => []
  | .quietStart => []
  | .surveyStart => []
  | .surveyItemDone _ _ _ _ _ => []
  | .errCaptureClear _ => []
  | .recordHandled => []
  | .feedbackScaleUpdate _ _ => []
  | .trefLost => []
  | .patrolScrub _ _ _ => []
  | .cohClr => []
  | .octClr => []
  | .fordClr => []
  | .pciClr => []
  | .qClr => []
  | .pwrClr => []
  | .twinClr => []
  | .stage => []
  | .abandon => []
  | .switch => []
  | .manifestCheckDone => []
  | .pwrLeanEnd _ => []
  | .kaSupplyUnhealthy _ _ => []
  | .kaSupplyReturn _ _ => []
  | .kaSupplyLoss => []
  | .vdroop _ => []
  | .mainRailFault _ => []
  | .logicTempChange _ => []
  | .hubRstN => []
  | .keepalivePowerGood => []
  | .fuses _ => []
  | .firmware _ => []
  | .rcvLoad => []
  | .candidate _ => []
  | .train _ _ => []
  | .twinWindowExpiry => []
  | .memtest _ _ _ _ _ _ => []
  | .discover _ _ _ => []
  | .compare _ => []
  | .ready _ => []
  | .fullNext => []
  | .fwLoad => []
  | .activate => []
  | .warmHandoff => []
  | .handoffTimeout => []
  | .mcWdog => []
  | .heartbeatToggle => []
  | .heartbeatLost _ => []
  | .keyx => []
  | .ferryRun => []
  | .ack _ _ _ _ => []
  | .mrsp _ _ _ _ => []
  | .stepdown => []
  | .handoff => []
  | .takeoverRequest => []
  | .takeover => []
  | .twinTakeoverCmd => []
  | .twinLinkDown => []
  | .backlogOverflow _ => []
  | .drbgFail => []
  | .spdmGetMeasurements _ _ => []
  | .spdmKeyExchange _ _ => []
  | .getPqSig => []
  | .dbgExpire => []
  | .idcode => []
  | .bypass => []
  | .samplePreload => []
  | .extest => []
  | .clamp => []
  | .highz => []
  | .lcsAccess _ _ _ => []
  | .regAccess _ _ _ => []
  | .wspSelect => []
  | .traceRead => []
  | .perst _ => []
  | .linkTrainingStart => []
  | .pf0Flr => []
  | .vfEnableClear => []
  | .vfEnableSet => []
  | .d3hot => []
  | .ltrSend => []
  | .hostBar2Read _ _ _ _ => []
  | .hostBar2Write _ _ _ => []
  | .completionTimeout _ => []
  | .tagQuarantineEnd _ => []
  | .l0pEntry => []
  | .l1Entry _ => []
  | .l1Exit => []
  | .twinLinkUp => []
  | .hbInToggle => []
  | .twinFrameError => []
  | .pcieLinkUp _ _ _ _ => []
  | .pcieReceiverError _ => []
  | .l0pExit => []
  | .brgCtlRetry => []
  | .firmwareResume => []
  | .drbgOkReturn => []

/-- The checks a command fails. -/
def Instr.fails (i : Instr) : List Check := (i.checks.filter (fun x => !x.2)).map (·.1)

/-- A command whose operands are all in range. -/
def Instr.wf (i : Instr) : Bool := i.checks.all (·.2)

end Sys2Proof
end

