-- ==== Sys2Proof/Laws/PerInstr.lean ====
section
/-! SUPPORT. Per-command families. Checks: a command is ill-formed exactly when a check it lists fails, and then the
check is one of those the command has. -/

namespace Sys2Proof.Laws.Checks
open Sys2Proof

/-- A command fails the check only where its list of checks says so, and it is well-formed where it fails none. -/
def Statement (i : Instr) : Prop :=
  (i.wf = true ↔ ∀ c, c ∉ i.fails) ∧ ∀ c, c ∈ i.fails ↔ (c, false) ∈ i.checks

theorem statement_of (i : Instr) : Statement i := by
  have h : ∀ c, c ∈ i.fails ↔ (c, false) ∈ i.checks := by
    intro c
    simp only [Instr.fails, List.mem_map, List.mem_filter, Bool.not_eq_true']
    constructor
    · rintro ⟨⟨a, b⟩, ⟨hm, hb⟩, rfl⟩
      cases hb
      exact hm
    · intro hm
      exact ⟨(c, false), ⟨hm, rfl⟩, rfl⟩
  refine ⟨?_, h⟩
  simp only [h, Instr.wf, List.all_eq_true]
  constructor
  · intro hw c hc
    exact absurd (hw _ hc) (by simp)
  · rintro hc ⟨a, b⟩ hm
    cases b with
    | true => rfl
    | false => exact absurd hm (hc a)

theorem sailingBoundary (lateNs : Nat) (rails : List Nat) (tiles : List Nat) (badMeter : Bool) : Statement (.sailingBoundary lateNs rails tiles badMeter) := statement_of _
theorem commitC1 (fit : Nat) : Statement (.commitC1 fit) := statement_of _
theorem commitC2 (fit : Nat) : Statement (.commitC2 fit) := statement_of _
theorem commitSpill (n : Nat) : Statement (.commitSpill n) := statement_of _
theorem intakeI0 : Statement (.intakeI0) := statement_of _
theorem intakeI1 (unfin : Bool) : Statement (.intakeI1 unfin) := statement_of _
theorem intakeI2 (unfin : Bool) : Statement (.intakeI2 unfin) := statement_of _
theorem intakeI3 (unfin : Bool) : Statement (.intakeI3 unfin) := statement_of _
theorem intakeI4 (unfin : Bool) : Statement (.intakeI4 unfin) := statement_of _
theorem runStart : Statement (.runStart) := statement_of _
theorem legStart (te : Nat) : Statement (.legStart te) := statement_of _
theorem copyIssue (part : Nat) (idx : Nat) : Statement (.copyIssue part idx) := statement_of _
theorem copyComplete (part : Nat) (idx : Nat) : Statement (.copyComplete part idx) := statement_of _
theorem quietStart : Statement (.quietStart) := statement_of _
theorem surveyStart : Statement (.surveyStart) := statement_of _
theorem surveyItemDone (kind : Nat) (unit : Nat) (value : Nat) (low : Bool) (ch : Nat) : Statement (.surveyItemDone kind unit value low ch) := statement_of _
theorem legWatchdog (te : Nat) (lost : Nat) : Statement (.legWatchdog te lost) := statement_of _
theorem endLeg (te : Nat) (cyc : Nat) (lost : Nat) : Statement (.endLeg te cyc lost) := statement_of _
theorem movLoad (te : Nat) : Statement (.movLoad te) := statement_of _
theorem movStore (te : Nat) : Statement (.movStore te) := statement_of _
theorem movHcopy (te : Nat) : Statement (.movHcopy te) := statement_of _
theorem movZero (te : Nat) : Statement (.movZero te) := statement_of _
theorem movComplete (te : Nat) (mov : Nat) : Statement (.movComplete te mov) := statement_of _
theorem mmaAcc (te : Nat) (cyc : Nat) : Statement (.mmaAcc te cyc) := statement_of _
theorem mmaAccDrain (te : Nat) (cyc : Nat) : Statement (.mmaAccDrain te cyc) := statement_of _
theorem mmaDrain (te : Nat) (cyc : Nat) : Statement (.mmaDrain te cyc) := statement_of _
theorem mmaClear (te : Nat) (cyc : Nat) : Statement (.mmaClear te cyc) := statement_of _
theorem mmaComplete (te : Nat) : Statement (.mmaComplete te) := statement_of _
theorem wsbBlockArrive (te : Nat) (cyc : Nat) : Statement (.wsbBlockArrive te cyc) := statement_of _
theorem vecAdd (te : Nat) : Statement (.vecAdd te) := statement_of _
theorem vecSub (te : Nat) : Statement (.vecSub te) := statement_of _
theorem vecMul (te : Nat) : Statement (.vecMul te) := statement_of _
theorem vecFma (te : Nat) : Statement (.vecFma te) := statement_of _
theorem vecMin (te : Nat) : Statement (.vecMin te) := statement_of _
theorem vecMax (te : Nat) : Statement (.vecMax te) := statement_of _
theorem vecAbs (te : Nat) : Statement (.vecAbs te) := statement_of _
theorem vecNeg (te : Nat) : Statement (.vecNeg te) := statement_of _
theorem vecAnd (te : Nat) : Statement (.vecAnd te) := statement_of _
theorem vecOr (te : Nat) : Statement (.vecOr te) := statement_of _
theorem vecXor (te : Nat) : Statement (.vecXor te) := statement_of _
theorem vecShl (te : Nat) : Statement (.vecShl te) := statement_of _
theorem vecShr (te : Nat) : Statement (.vecShr te) := statement_of _
theorem vecSra (te : Nat) : Statement (.vecSra te) := statement_of _
theorem vecCmpeq (te : Nat) : Statement (.vecCmpeq te) := statement_of _
theorem vecCmplt (te : Nat) : Statement (.vecCmplt te) := statement_of _
theorem vecCmple (te : Nat) : Statement (.vecCmple te) := statement_of _
theorem vecSelect (te : Nat) : Statement (.vecSelect te) := statement_of _
theorem vecExp (te : Nat) : Statement (.vecExp te) := statement_of _
theorem vecLog (te : Nat) : Statement (.vecLog te) := statement_of _
theorem vecRcp (te : Nat) : Statement (.vecRcp te) := statement_of _
theorem vecRsqrt (te : Nat) : Statement (.vecRsqrt te) := statement_of _
theorem vecSqrt (te : Nat) : Statement (.vecSqrt te) := statement_of _
theorem vecTanh (te : Nat) : Statement (.vecTanh te) := statement_of _
theorem vecLd (te : Nat) : Statement (.vecLd te) := statement_of _
theorem vecSt (te : Nat) : Statement (.vecSt te) := statement_of _
theorem vecRand (te : Nat) : Statement (.vecRand te) := statement_of _
theorem vecRandu (te : Nat) : Statement (.vecRandu te) := statement_of _
theorem cvtCast (te : Nat) : Statement (.cvtCast te) := statement_of _
theorem cvtScale (te : Nat) : Statement (.cvtScale te) := statement_of _
theorem cvtQuant (te : Nat) : Statement (.cvtQuant te) := statement_of _
theorem cvtQscale (te : Nat) : Statement (.cvtQscale te) := statement_of _
theorem redSum (te : Nat) : Statement (.redSum te) := statement_of _
theorem redMax (te : Nat) : Statement (.redMax te) := statement_of _
theorem redSoftmax (te : Nat) : Statement (.redSoftmax te) := statement_of _
theorem redRmsnorm (te : Nat) : Statement (.redRmsnorm te) := statement_of _
theorem redLayernorm (te : Nat) : Statement (.redLayernorm te) := statement_of _
theorem redArgmax (te : Nat) : Statement (.redArgmax te) := statement_of _
theorem redTopk (te : Nat) : Statement (.redTopk te) := statement_of _
theorem syncBar (te : Nat) : Statement (.syncBar te) := statement_of _
theorem barRelease (mask : Nat) (bid : Nat) : Statement (.barRelease mask bid) := statement_of _
theorem syncFence (te : Nat) : Statement (.syncFence te) := statement_of _
theorem loopRepeat (te : Nat) : Statement (.loopRepeat te) := statement_of _
theorem predCmp (te : Nat) : Statement (.predCmp te) := statement_of _
theorem predVcmp (te : Nat) : Statement (.predVcmp te) := statement_of _
theorem predAnd (te : Nat) : Statement (.predAnd te) := statement_of _
theorem predOr (te : Nat) : Statement (.predOr te) := statement_of _
theorem predNot (te : Nat) : Statement (.predNot te) := statement_of _
theorem predSet (te : Nat) : Statement (.predSet te) := statement_of _
theorem teFailing (tile : Nat) (phys : Nat) (cause : Nat) : Statement (.teFailing tile phys cause) := statement_of _
theorem doorbell (tenant : Nat) (ring : Nat) (half : Nat) (value : Nat) : Statement (.doorbell tenant ring half value) := statement_of _
theorem descRun (ring : Nat) (didx : Nat) : Statement (.descRun ring didx) := statement_of _
theorem descXfer (ring : Nat) (didx : Nat) : Statement (.descXfer ring didx) := statement_of _
theorem descLoadProg (ring : Nat) (didx : Nat) : Statement (.descLoadProg ring didx) := statement_of _
theorem descAbort (ring : Nat) (didx : Nat) : Statement (.descAbort ring didx) := statement_of _
theorem chunkFillDone (ring : Nat) (buf : Nat) : Statement (.chunkFillDone ring buf) := statement_of _
theorem chunkDrainDone (ring : Nat) (buf : Nat) : Statement (.chunkDrainDone ring buf) := statement_of _
theorem dtuInvPage (lane : Nat) (seq : Nat) (vpn : Nat) (tenant : Nat) : Statement (.dtuInvPage lane seq vpn tenant) := statement_of _
theorem dtuInvTenant (lane : Nat) (seq : Nat) (tenant : Nat) : Statement (.dtuInvTenant lane seq tenant) := statement_of _
theorem dtuInvAll (lane : Nat) (seq : Nat) : Statement (.dtuInvAll lane seq) := statement_of _
theorem translationWalk (cache : Nat) (tenant : Nat) (va : Nat) : Statement (.translationWalk cache tenant va) := statement_of _
theorem pinLoadDone (tenant : Nat) : Statement (.pinLoadDone tenant) := statement_of _
theorem tfqPop (tenant : Nat) : Statement (.tfqPop tenant) := statement_of _
theorem tinvClr (tenant : Nat) : Statement (.tinvClr tenant) := statement_of _
theorem tmeasGo (tenant : Nat) : Statement (.tmeasGo tenant) := statement_of _
theorem tmeasDone (tenant : Nat) : Statement (.tmeasDone tenant) := statement_of _
theorem atsTranslationCompletion (fn : Nat) (page : Nat) (trans : Nat) (ok : Bool) (rd : Bool) (wr : Bool) : Statement (.atsTranslationCompletion fn page trans ok rd wr) := statement_of _
theorem atsInvalidateRequest (itag : Nat) (fn : Nat) (page : Nat) : Statement (.atsInvalidateRequest itag fn page) := statement_of _
theorem atsInvalidationCompletion (itag : Nat) : Statement (.atsInvalidationCompletion itag) := statement_of _
theorem rds (req : Nat) (pa : Nat) (tag : Nat) (credit : Bool) (qc : Nat) (ten : Nat) (ue : Bool) : Statement (.rds req pa tag credit qc ten ue) := statement_of _
theorem rdo (req : Nat) (pa : Nat) (tag : Nat) (credit : Bool) (qc : Nat) (ten : Nat) : Statement (.rdo req pa tag credit qc ten) := statement_of _
theorem upg (req : Nat) (pa : Nat) (tag : Nat) (credit : Bool) (qc : Nat) (ten : Nat) : Statement (.upg req pa tag credit qc ten) := statement_of _
theorem rdc (req : Nat) (pa : Nat) (tag : Nat) (alloc : Bool) (credit : Bool) (qc : Nat) (ten : Nat) : Statement (.rdc req pa tag alloc credit qc ten) := statement_of _
theorem wri (req : Nat) (pa : Nat) (tag : Nat) (credit : Bool) (qc : Nat) (ten : Nat) (data : Line) : Statement (.wri req pa tag credit qc ten data) := statement_of _
theorem wrp (req : Nat) (pa : Nat) (tag : Nat) (credit : Bool) (qc : Nat) (ten : Nat) (mask : Nat) (data : Line) : Statement (.wrp req pa tag credit qc ten mask data) := statement_of _
theorem wb (agent : Nat) (pa : Nat) (data : Line) : Statement (.wb agent pa data) := statement_of _
theorem evct (agent : Nat) (pa : Nat) : Statement (.evct agent pa) := statement_of _
theorem compAck (req : Nat) (pa : Nat) : Statement (.compAck req pa) := statement_of _
theorem snoopAtStop (pa : Nat) (stop : Nat) (ue : Bool) : Statement (.snoopAtStop pa stop ue) := statement_of _
theorem snpRsp (slip : Nat) (pa : Nat) (held : Bool) (dirty : Bool) (sends : Bool) (wbseen : Bool) (reqhold : Bool) : Statement (.snpRsp slip pa held dirty sends wbseen reqhold) := statement_of _
theorem snpData (agent : Nat) (pa : Nat) (dirty : Bool) (data : Line) : Statement (.snpData agent pa dirty data) := statement_of _
theorem snoopComplete (pa : Nat) : Statement (.snoopComplete pa) := statement_of _
theorem data (req : Nat) (pa : Nat) : Statement (.data req pa) := statement_of _
theorem gnt (req : Nat) (pa : Nat) : Statement (.gnt req pa) := statement_of _
theorem retry (req : Nat) (pa : Nat) : Statement (.retry req pa) := statement_of _
theorem wbAck (agent : Nat) (pa : Nat) : Statement (.wbAck agent pa) := statement_of _
theorem slipSnpTo (slip : Nat) : Statement (.slipSnpTo slip) := statement_of _
theorem slipAgentLoss (slip : Nat) : Statement (.slipAgentLoss slip) := statement_of _
theorem mrd (src : Nat) (pa : Nat) (tag : Nat) (rid : Nat) (qc : Nat) (ten : Nat) (ecc : Nat) :
    Statement (.mrd src pa tag rid qc ten ecc) := statement_of _
theorem mwr (src : Nat) (pa : Nat) (tag : Nat) (rid : Nat) (qc : Nat) (mask : Nat) (ten : Nat) (data : Line) :
    Statement (.mwr src pa tag rid qc mask ten data) := statement_of _
theorem mdata (router : Nat) (tag : Nat) : Statement (.mdata router tag) := statement_of _
theorem mwrAck (router : Nat) (tag : Nat) : Statement (.mwrAck router tag) := statement_of _
theorem errResponse (router : Nat) (tag : Nat) : Statement (.errResponse router tag) := statement_of _
theorem regWr (off : Nat) (size : Nat) (value : Nat) (src : Nat) (tag : Nat) : Statement (.regWr off size value src tag) := statement_of _
theorem regAck (block : Nat) : Statement (.regAck block) := statement_of _
theorem errCaptureClear (off : Nat) : Statement (.errCaptureClear off) := statement_of _
theorem errRec (block : Nat) (cause : Nat) (unit : Nat) : Statement (.errRec block cause unit) := statement_of _
theorem recordHandled : Statement (.recordHandled) := statement_of _
theorem fatal (block : Nat) (cause : Nat) (unit : Nat) : Statement (.fatal block cause unit) := statement_of _
theorem partitionReset (part : Nat) (cls : Nat) (src : Nat) (tag : Nat) : Statement (.partitionReset part cls src tag) := statement_of _
theorem flitCrcError (router : Nat) (port : Nat) (again : Bool) : Statement (.flitCrcError router port again) := statement_of _
theorem linkRetrainDone (router : Nat) (port : Nat) (ok : Bool) : Statement (.linkRetrainDone router port ok) := statement_of _
theorem hdrUe (router : Nat) : Statement (.hdrUe router) := statement_of _
theorem dataUe (router : Nat) (ten : Nat) (pa : Nat) (tag : Nat) : Statement (.dataUe router ten pa tag) := statement_of _
theorem wakeRequest (d : Nat) : Statement (.wakeRequest d) := statement_of _
theorem domainUp (d : Nat) : Statement (.domainUp d) := statement_of _
theorem wakeFail (d : Nat) : Statement (.wakeFail d) := statement_of _
theorem tollRelease (p : Nat) (q : Nat) : Statement (.tollRelease p q) := statement_of _
theorem feedbackScaleUpdate (vaults : List Nat) (lrsQueues : List Nat) : Statement (.feedbackScaleUpdate vaults lrsQueues) := statement_of _
theorem fordOverrun (src : Nat) (dst : Nat) (n : Nat) (ptr : Bool) (leaf : Bool) : Statement (.fordOverrun src dst n ptr leaf) := statement_of _
theorem fordReset (dom : Nat) (other : Nat) (n : Nat) (m : Nat) : Statement (.fordReset dom other n m) := statement_of _
theorem fordReady (dom other : Nat) : Statement (.fordReady dom other) := statement_of _
theorem lockLost (dom : Nat) : Statement (.lockLost dom) := statement_of _
theorem trefLost : Statement (.trefLost) := statement_of _
theorem ospFlitReceive (slip : Nat) (flit : List Byte) : Statement (.ospFlitReceive slip flit) := statement_of _
theorem ospReplay (slip : Nat) (fseq : Nat) : Statement (.ospReplay slip fseq) := statement_of _
theorem slipRequest (slip : Nat) : Statement (.slipRequest slip) := statement_of _
theorem creditTo (slip : Nat) : Statement (.creditTo slip) := statement_of _
theorem memTo (slip : Nat) (tag : Nat) : Statement (.memTo slip tag) := statement_of _
theorem slipLinkError (slip : Nat) : Statement (.slipLinkError slip) := statement_of _
theorem slipRetrainDone (slip : Nat) (rate : Nat) (mods : Nat) (ok : Bool) : Statement (.slipRetrainDone slip rate mods ok) := statement_of _
theorem slipDown (slip : Nat) : Statement (.slipDown slip) := statement_of _
theorem slipSidebandLinkDown (slip : Nat) : Statement (.slipSidebandLinkDown slip) := statement_of _
theorem slipRetrain (slip : Nat) : Statement (.slipRetrain slip) := statement_of _
theorem slipDiscoveryDone (slip : Nat) (rate : Nat) (mods : Nat) (link : Bool) (desc : List Byte) : Statement (.slipDiscoveryDone slip rate mods link desc) := statement_of _
theorem slipClr (slip : Nat) : Statement (.slipClr slip) := statement_of _
theorem stackTempRead (port : Nat) (temp : Nat) (answered : Bool) : Statement (.stackTempRead port temp answered) := statement_of _
theorem channelFailing (port : Nat) (ch : Nat) (silent : Bool) : Statement (.channelFailing port ch silent) := statement_of _
theorem spareCopyDone (port : Nat) (bad : List Nat) : Statement (.spareCopyDone port bad) := statement_of _
theorem stackTakenOut (port : Nat) : Statement (.stackTakenOut port) := statement_of _
theorem lrsSpareCh (port : Nat) (ch : Nat) : Statement (.lrsSpareCh port ch) := statement_of _
theorem lrsRetCh (port : Nat) (ch : Nat) (pass : Bool) : Statement (.lrsRetCh port ch pass) := statement_of _
theorem lrsReset (port : Nat) (mism : Nat) : Statement (.lrsReset port mism) := statement_of _
theorem lrsClr (port : Nat) : Statement (.lrsClr port) := statement_of _
theorem patrolScrub (unit : Nat) (ces : List Nat) (ues : List Nat) : Statement (.patrolScrub unit ces ues) := statement_of _
theorem vaultRegimeChange (vault : Nat) (t : Nat) : Statement (.vaultRegimeChange vault t) := statement_of _
theorem rowRepairDone (vault : Nat) (chan : Nat) (bank : Nat) (row : Nat) (found : Bool) : Statement (.rowRepairDone vault chan bank row found) := statement_of _
theorem llcWayFail (slice : Nat) (way : Nat) (lines : List Nat) (bad : List Nat) : Statement (.llcWayFail slice way lines bad) := statement_of _
theorem teReqLane (tile : Nat) (lane : Nat) : Statement (.teReqLane tile lane) := statement_of _
theorem teClrFailed (tile : Nat) (mask : Nat) : Statement (.teClrFailed tile mask) := statement_of _
theorem teClr (te : Nat) : Statement (.teClr te) := statement_of _
theorem tileClr (tile : Nat) : Statement (.tileClr tile) := statement_of _
theorem cohClr : Statement (.cohClr) := statement_of _
theorem octClr : Statement (.octClr) := statement_of _
theorem fordClr : Statement (.fordClr) := statement_of _
theorem pciClr : Statement (.pciClr) := statement_of _
theorem qClr : Statement (.qClr) := statement_of _
theorem pwrClr : Statement (.pwrClr) := statement_of _
theorem twinClr : Statement (.twinClr) := statement_of _
theorem registerWrite (off : Nat) (size : Nat) (value : Nat) : Statement (.registerWrite off size value) := statement_of _
theorem stage : Statement (.stage) := statement_of _
theorem abandon : Statement (.abandon) := statement_of _
theorem switch : Statement (.switch) := statement_of _
theorem manifestCheckDone : Statement (.manifestCheckDone) := statement_of _
theorem pwrLeanEnd (mask : Nat) : Statement (.pwrLeanEnd mask) := statement_of _
theorem kaSupplyUnhealthy (mvA : Nat) (mvB : Nat) : Statement (.kaSupplyUnhealthy mvA mvB) := statement_of _
theorem kaSupplyReturn (mvA : Nat) (mvB : Nat) : Statement (.kaSupplyReturn mvA mvB) := statement_of _
theorem kaSupplyLoss : Statement (.kaSupplyLoss) := statement_of _
theorem vdroop (mv : Nat) : Statement (.vdroop mv) := statement_of _
theorem mainRailFault (rail : Nat) : Statement (.mainRailFault rail) := statement_of _
theorem logicTempChange (t : Nat) : Statement (.logicTempChange t) := statement_of _
theorem hubRstN : Statement (.hubRstN) := statement_of _
theorem keepalivePowerGood : Statement (.keepalivePowerGood) := statement_of _
theorem fuses (ms : Nat) : Statement (.fuses ms) := statement_of _
theorem firmware (ms : Nat) : Statement (.firmware ms) := statement_of _
theorem rcvLoad : Statement (.rcvLoad) := statement_of _
theorem candidate (ms : Nat) : Statement (.candidate ms) := statement_of _
theorem train (ms : Nat) (badRail : Option Nat) : Statement (.train ms badRail) := statement_of _
theorem twinWindowExpiry : Statement (.twinWindowExpiry) := statement_of _
theorem memtest (ms : Nat) (rows : List (Nat × Nat × Nat × Nat × Bool)) (banks : List (Nat × Nat × Nat)) (ways : List (Nat × Nat)) (tes : List (Nat × Nat)) (chans : List (Nat × Nat)) : Statement (.memtest ms rows banks ways tes chans) := statement_of _
theorem discover (ms : Nat) (mism : List Nat) (peer : Nat) : Statement (.discover ms mism peer) := statement_of _
theorem compare (ms : Nat) : Statement (.compare ms) := statement_of _
theorem ready (ms : Nat) : Statement (.ready ms) := statement_of _
theorem fullNext : Statement (.fullNext) := statement_of _
theorem fwLoad : Statement (.fwLoad) := statement_of _
theorem activate : Statement (.activate) := statement_of _
theorem warmHandoff : Statement (.warmHandoff) := statement_of _
theorem handoffTimeout : Statement (.handoffTimeout) := statement_of _
theorem mcWdog : Statement (.mcWdog) := statement_of _
theorem heartbeatToggle : Statement (.heartbeatToggle) := statement_of _
theorem heartbeatLost (frames : Bool) : Statement (.heartbeatLost frames) := statement_of _
theorem hello (digest : Nat) (role : Nat) (peer : Nat) (serial : Nat) (auth : Bool) : Statement (.hello digest role peer serial auth) := statement_of _
theorem keyx : Statement (.keyx) := statement_of _
theorem ferry (typ : Nat) (part : Nat) (key : Nat) (data : List Byte) : Statement (.ferry typ part key data) := statement_of _
theorem ferryRun : Statement (.ferryRun) := statement_of _
theorem ack (last : Nat) (backlog : Nat) (overfl : List Nat) (mism : List Nat) : Statement (.ack last backlog overfl mism) := statement_of _
theorem copy (pa : Nat) (data : List Byte) : Statement (.copy pa data) := statement_of _
theorem mreq (write : Bool) (pa : Nat) (len : Nat) (tag : Nat) (data : List Byte) : Statement (.mreq write pa len tag data) := statement_of _
theorem mrsp (write : Bool) (tag : Nat) (err : Bool) (data : List Byte) : Statement (.mrsp write tag err data) := statement_of _
theorem stepdown : Statement (.stepdown) := statement_of _
theorem handoff : Statement (.handoff) := statement_of _
theorem takeoverRequest : Statement (.takeoverRequest) := statement_of _
theorem takeover : Statement (.takeover) := statement_of _
theorem twinTakeoverCmd : Statement (.twinTakeoverCmd) := statement_of _
theorem resync (part : Nat) : Statement (.resync part) := statement_of _
theorem resyncSwitch (part : Nat) : Statement (.resyncSwitch part) := statement_of _
theorem twinLinkDown : Statement (.twinLinkDown) := statement_of _
theorem backlogOverflow (replay : Bool) : Statement (.backlogOverflow replay) := statement_of _
theorem rotate (owner : Nat) : Statement (.rotate owner) := statement_of _
theorem retire (owner : Nat) : Statement (.retire owner) := statement_of _
theorem sweepDone (owner : Nat) : Statement (.sweepDone owner) := statement_of _
theorem scrubDone (owner : Nat) : Statement (.scrubDone owner) := statement_of _
theorem drbgFail : Statement (.drbgFail) := statement_of _
theorem ideIntegrity (stream : Nat) : Statement (.ideIntegrity stream) := statement_of _
theorem tdispGetVersion (tenant : Nat) : Statement (.tdispGetVersion tenant) := statement_of _
theorem tdispGetCapabilities (tenant : Nat) : Statement (.tdispGetCapabilities tenant) := statement_of _
theorem lockInterface (tenant : Nat) (stream : Nat) : Statement (.lockInterface tenant stream) := statement_of _
theorem getDeviceInterfaceReport (tenant : Nat) : Statement (.getDeviceInterfaceReport tenant) := statement_of _
theorem getDeviceInterfaceState (tenant : Nat) : Statement (.getDeviceInterfaceState tenant) := statement_of _
theorem startInterface (tenant : Nat) (nonce : Nat) : Statement (.startInterface tenant nonce) := statement_of _
theorem stopInterface (tenant : Nat) : Statement (.stopInterface tenant) := statement_of _
theorem ideKm (stream : Nat) (secure : Bool) : Statement (.ideKm stream secure) := statement_of _
theorem spdmGetCertificate (slot : Nat) (off : Nat) (len : Nat) : Statement (.spdmGetCertificate slot off len) := statement_of _
theorem spdmChallenge (slot : Nat) (nonce : List Byte) : Statement (.spdmChallenge slot nonce) := statement_of _
theorem spdmGetMeasurements (index : Nat) (nonce : List Byte) : Statement (.spdmGetMeasurements index nonce) := statement_of _
theorem spdmKeyExchange (transport : Nat) (exchange : List Byte) : Statement (.spdmKeyExchange transport exchange) := statement_of _
theorem getPqSig : Statement (.getPqSig) := statement_of _
theorem transition (route : Nat) (dest : Nat) (fail : Nat) (buf : List Byte) : Statement (.transition route dest fail buf) := statement_of _
theorem fuse (route : Nat) (id : Nat) (fail : Nat) (buf : List Byte) : Statement (.fuse route id fail buf) := statement_of _
theorem challenge (route : Nat) : Statement (.challenge route) := statement_of _
theorem dbgAuth (route : Nat) (buf : List Byte) : Statement (.dbgAuth route buf) := statement_of _
theorem dbgRevoke (route : Nat) : Statement (.dbgRevoke route) := statement_of _
theorem dbgExpire : Statement (.dbgExpire) := statement_of _
theorem idcode : Statement (.idcode) := statement_of _
theorem bypass : Statement (.bypass) := statement_of _
theorem samplePreload : Statement (.samplePreload) := statement_of _
theorem extest : Statement (.extest) := statement_of _
theorem clamp : Statement (.clamp) := statement_of _
theorem highz : Statement (.highz) := statement_of _
theorem lcsAccess (off : Nat) (write : Bool) (data : Nat) : Statement (.lcsAccess off write data) := statement_of _
theorem regAccess (off : Nat) (write : Bool) (data : Nat) : Statement (.regAccess off write data) := statement_of _
theorem wspSelect : Statement (.wspSelect) := statement_of _
theorem traceRead : Statement (.traceRead) := statement_of _
theorem perst (pin : Bool) : Statement (.perst pin) := statement_of _
theorem linkTrainingStart : Statement (.linkTrainingStart) := statement_of _
theorem hostConfigRequest (fn : Nat) (off : Nat) (write : Bool) (data : List Byte) (len : Nat) (tag : Nat) : Statement (.hostConfigRequest fn off write data len tag) := statement_of _
theorem vfFlr (t : Nat) : Statement (.vfFlr t) := statement_of _
theorem pf0Flr : Statement (.pf0Flr) := statement_of _
theorem vfEnableClear : Statement (.vfEnableClear) := statement_of _
theorem vfEnableSet : Statement (.vfEnableSet) := statement_of _
theorem d3hot : Statement (.d3hot) := statement_of _
theorem ltrSend : Statement (.ltrSend) := statement_of _
theorem hostBar0Access (fn : Nat) (off : Nat) (write : Bool) (data : List Byte) (len : Nat) (tag : Nat) (poison : Bool) (tbit : Bool) : Statement (.hostBar0Access fn off write data len tag poison tbit) := statement_of _
theorem hostBar2Read (off : Nat) (len : Nat) (tag : Nat) (dmg : Bool) : Statement (.hostBar2Read off len tag dmg) := statement_of _
theorem hostBar2Write (off : Nat) (data : List Byte) (poison : Bool) : Statement (.hostBar2Write off data poison) := statement_of _
theorem pcieCompletion (fn : Nat) (tag : Nat) (st : Nat) (poison : Bool) (count : Nat) (data : List Byte) : Statement (.pcieCompletion fn tag st poison count data) := statement_of _
theorem completionTimeout (tag : Nat) : Statement (.completionTimeout tag) := statement_of _
theorem tagQuarantineEnd (tag : Nat) : Statement (.tagQuarantineEnd tag) := statement_of _
theorem l0pEntry : Statement (.l0pEntry) := statement_of _
theorem l1Entry (sub : Bool) : Statement (.l1Entry sub) := statement_of _
theorem l1Exit : Statement (.l1Exit) := statement_of _
theorem twinLinkUp : Statement (.twinLinkUp) := statement_of _
theorem hbInToggle : Statement (.hbInToggle) := statement_of _
theorem twinFrameError : Statement (.twinFrameError) := statement_of _
theorem pcieLinkUp (rate : Nat) (width : Nat) (eq : Nat) (flit : Bool) : Statement (.pcieLinkUp rate width eq flit) := statement_of _
theorem pcieReceiverError (kind : Nat) : Statement (.pcieReceiverError kind) := statement_of _
theorem l0pExit : Statement (.l0pExit) := statement_of _
theorem brgCtlRetry : Statement (.brgCtlRetry) := statement_of _
theorem firmwareResume : Statement (.firmwareResume) := statement_of _
theorem drbgOkReturn : Statement (.drbgOkReturn) := statement_of _
theorem partitionResetEntry (part : Nat) : Statement (.partitionResetEntry part) := statement_of _

end Sys2Proof.Laws.Checks
end

