-- ==== Sys2Proof/Laws/Queue.lean ====
section
/-! SUPPORT. No operation of the block touches the queue of waiting commands: one lemma per operation. -/

namespace Sys2Proof.Machine

@[simp] theorem ite_pending (c : Prop) [Decidable c] (a b : State) :
    (if c then a else b).pending = if c then a.pending else b.pending := by split <;> rfl

@[simp] theorem foldl_pending {α : Type} (f : State → α → State) (h : ∀ s x, (f s x).pending = s.pending) (l : List α)
    (s : State) : (l.foldl f s).pending = s.pending := by
  induction l generalizing s with
  | nil => rfl
  | cons x l ih => rw [List.foldl_cons, ih, h]

@[simp] theorem foldl_fst_pending {α β : Type} (f : State × β → α → State × β)
    (h : ∀ p x, (f p x).1.pending = p.1.pending) (l : List α) (p : State × β) :
    (l.foldl f p).1.pending = p.1.pending := by
  induction l generalizing p with
  | nil => rfl
  | cons x l ih => rw [List.foldl_cons, ih, h]

@[simp] theorem State.rsetIf_pending (s : State) (c : Bool) (key : Nat) (f : Fld) (x : Nat) : (State.rsetIf s c key f
    x).pending = s.pending := by
  unfold State.rsetIf
  simp

@[simp] theorem State.raddOpen_pending (s : State) (key : Nat) (f : Fld) (n : Nat) : (State.raddOpen s key f n).pending =
    s.pending := by
  unfold State.raddOpen
  simp

@[simp] theorem State.each_pending (s : State) (l : List Nat) (f : State → Nat → State) (hf : ∀ s x0, (f s x0).pending =
    s.pending) : (State.each s l f).pending = s.pending := by
  unfold State.each
  simp [*]

@[simp] theorem State.voidFor_pending (s : State) (tenant : Option Nat) (vcause : Nat) (block : Nat) (cause : Nat) (unit :
    Nat) (addr : Option Nat) : (State.voidFor s tenant vcause block cause unit addr).pending = s.pending := by
  unfold State.voidFor
  (repeat' split) <;> simp

@[simp] theorem State.holdWrite_pending (s : State) (k : Nat) (a : Nat) (bs : List Byte) : (State.holdWrite s k a bs).pending
    = s.pending := by
  unfold State.holdWrite
  simp

@[simp] theorem State.countEvts_pending (s : State) (k : Nat) (e : Evts) : (State.countEvts s k e).pending = s.pending := by
  unfold State.countEvts
  simp

@[simp] theorem State.clearTe_pending (s : State) (k : Nat) : (State.clearTe s k).pending = s.pending := by
  unfold State.clearTe
  simp

@[simp] theorem State.countRd_pending (s : State) (l : Nat) : (State.countRd s l).pending = s.pending := by
  unfold State.countRd
  (repeat' split) <;> simp

@[simp] theorem State.unclean_pending (s : State) (o : Nat) : (State.unclean s o).pending = s.pending := by
  unfold State.unclean
  simp

@[simp] theorem State.lineWriteAs_pending (s : State) (l : Nat) (data : Line) (mask : Nat) (o : Nat) :
    (State.lineWriteAs s l data mask o).1.pending = s.pending := by
  unfold State.lineWriteAs
  dsimp only
  (repeat' split) <;> simp_all

@[simp] theorem State.lineWrite_pending (s : State) (l : Nat) (data : Line) (mask : Nat) : (State.lineWrite s l data
    mask).1.pending = s.pending := by
  unfold State.lineWrite
  simp

@[simp] theorem State.lineMark_pending (s : State) (l : Nat) : (State.lineMark s l).1.pending = s.pending := by
  unfold State.lineMark
  (repeat' split) <;> simp

@[simp] theorem State.signal_pending (s : State) (fn : Nat) (vec : Nat) : (State.signal s fn vec).pending = s.pending := by
  unfold State.signal
  simp

@[simp] theorem State.signalIf_pending (s : State) (c : Bool) (fn : Nat) (vec : Nat) : (State.signalIf s c fn vec).pending =
    s.pending := by
  unfold State.signalIf
  simp

@[simp] theorem State.cfgPut_pending (s : State) (fn : Nat) (off : Nat) (v : Nat) : (State.cfgPut s fn off v).pending =
    s.pending := by
  unfold State.cfgPut
  simp

@[simp] theorem State.aer_pending (s : State) (off : Nat) (bit : Nat) : (State.aer s off bit).pending = s.pending := by
  unfold State.aer
  simp

@[simp] theorem State.twinEvt_pending (s : State) (f : Fld) : (State.twinEvt s f).pending = s.pending := by
  unfold State.twinEvt
  simp

@[simp] theorem State.stepDown_pending (s : State) : (State.stepDown s).pending = s.pending := by
  unfold State.stepDown
  simp

@[simp] theorem State.teState_pending (s : State) (k : Nat) (x : Nat) : (State.teState s k x).pending = s.pending := by
  unfold State.teState
  simp

@[simp] theorem State.busyCycles_pending (s : State) (k : Nat) (n : Nat) : (State.busyCycles s k n).pending = s.pending := by
  unfold State.busyCycles
  simp

@[simp] theorem State.holdStall_pending (s : State) (k : Nat) (n : Nat) : (State.holdStall s k n).pending = s.pending
    := by
  unfold State.holdStall
  simp

@[simp] theorem State.wsStall_pending (s : State) (k : Nat) (n : Nat) : (State.wsStall s k n).pending = s.pending := by
  unfold State.wsStall
  simp

@[simp] theorem State.cutCycles_pending (s : State) (k : Nat) (r : LegRun) (n : Nat) : (State.cutCycles s k r n).pending
    = s.pending := by
  unfold State.cutCycles
  simp

@[simp] theorem State.legCut_pending (s : State) (k : Nat) (r : LegRun) : (State.legCut s k r).pending = s.pending := by
  unfold State.legCut
  simp

@[simp] theorem State.legsCut_pending (s : State) (sel : LegRun → Bool) : (State.legsCut s sel).pending = s.pending :=
    by
  unfold State.legsCut
  refine foldl_pending _ (fun s p => ?_) _ _
  (repeat' split) <;> simp

@[simp] theorem State.domTo_pending (s : State) (d : Nat) (st : Nat) : (State.domTo s d st).pending = s.pending := by
  unfold State.domTo
  simp

@[simp] theorem State.fatalNow_pending (s : State) : (State.fatalNow s).pending = s.pending := by
  unfold State.fatalNow
  simp

@[simp] theorem State.fatal_pending (s : State) (block : Nat) (cause : Nat) (unit : Nat) : (State.fatal s block cause
    unit).pending = s.pending := by
  unfold State.fatal
  simp

@[simp] theorem State.fatalTrip_pending (s : State) (block : Nat) (cause : Nat) (unit : Nat) : (State.fatalTrip s block
    cause unit).pending = s.pending := by
  unfold State.fatalTrip
  simp

@[simp] theorem State.memUe_pending (s : State) (l : Nat) (block : Nat) (cause : Nat) (unit : Nat) (tenant : Option Nat) :
    (State.memUe s l block cause unit tenant).pending = s.pending := by
  unfold State.memUe
  simp

@[simp] theorem State.setTx_pending (s : State) (v : Nat) (x : OspTx) : (State.setTx s v x).pending = s.pending := by
  unfold State.setTx
  simp

@[simp] theorem State.ospStart_pending (s : State) (v : Nat) : (State.ospStart s v).pending = s.pending := by
  unfold State.ospStart
  simp

@[simp] theorem State.ospFree_pending (s : State) (v : Nat) (need : List Nat) : (State.ospFree s v need).pending =
    s.pending := by
  unfold State.ospFree
  simp

@[simp] theorem State.osp_pending (s : State) (v : Nat) (args : List Nat) (bytes : List Byte) (h : OspHead) : (State.osp
    s v args bytes h).pending = s.pending := by
  unfold State.osp
  simp

@[simp] theorem State.ospMsg_pending (s : State) (v : Nat) (args : List Nat) (cls : Nat) (op : Nat) (qc : Nat) (tag :
    Nat) (addr : Nat) (aux : Nat) : (State.ospMsg s v args cls op qc tag addr aux).pending = s.pending := by
  unfold State.ospMsg
  simp

@[simp] theorem State.ospErr_pending (s : State) (v : Nat) (qc : Nat) (tag : Nat) (addr : Nat) (cause : Nat) :
    (State.ospErr s v qc tag addr cause).pending = s.pending := by
  unfold State.ospErr
  simp

@[simp] theorem State.ospData_pending (s : State) (v : Nat) (qc : Nat) (tag : Nat) (addr : Nat) (grant : Nat) (d : Line)
    : (State.ospData s v qc tag addr grant d).pending = s.pending := by
  unfold State.ospData
  simp

@[simp] theorem State.ospGnt_pending (s : State) (v : Nat) (qc : Nat) (tag : Nat) (addr : Nat) : (State.ospGnt s v qc
    tag addr).pending = s.pending := by
  unfold State.ospGnt
  simp

@[simp] theorem State.ospSend_pending (s : State) (v : Nat) (kind : Nat) (fseq : Nat) (payload : List Byte) :
    (State.ospSend s v kind fseq payload).pending = s.pending := by
  unfold State.ospSend
  simp

@[simp] theorem State.ospKeep_pending (s : State) (v : Nat) (kind : Nat) (payload : List Byte) : (State.ospKeep s v kind
    payload).pending = s.pending := by
  unfold State.ospKeep
  simp

@[simp] theorem State.ospStep_pending (s : State) (v : Nat) : (State.ospStep s v).pending = s.pending := by
  unfold State.ospStep
  simp

@[simp] theorem State.ospTick_pending (s : State) : (State.ospTick s).pending = s.pending := by
  unfold State.ospTick
  simp

@[simp] theorem State.ospHear_pending (s : State) (v : Nat) (flit : List Byte) (fresh : Bool) : (State.ospHear s v flit
    fresh).pending = s.pending := by
  unfold State.ospHear
  simp

@[simp] theorem State.ospResend_pending (s : State) (v : Nat) (fseq : Option Nat) : (State.ospResend s v fseq).pending =
    s.pending := by
  unfold State.ospResend
  simp

@[simp] theorem State.ospReplay_pending (s : State) (v : Nat) : (State.ospReplay s v).pending = s.pending := by
  unfold State.ospReplay
  simp

@[simp] theorem State.toL0_pending (s : State) : (State.toL0 s).pending = s.pending := by
  unfold State.toL0
  simp

@[simp] theorem State.wakeLink_pending (s : State) : (State.wakeLink s).pending = s.pending := by
  unfold State.wakeLink
  simp

@[simp] theorem State.ltrSend_pending (s : State) : (State.ltrSend s).pending = s.pending := by
  unfold State.ltrSend
  simp

@[simp] theorem State.pciCap_pending (s : State) (fn : Nat) (cause : Nat) : (State.pciCap s fn cause).pending = s.pending := by
  unfold State.pciCap
  simp

@[simp] theorem State.hostFail_pending (s : State) (fn : Nat) (cause : Nat) : (State.hostFail s fn cause).pending = s.pending
    := by
  unfold State.hostFail
  simp

@[simp] theorem State.setTwinPart_pending (s : State) (p : Nat) (x : Nat) : (State.setTwinPart s p x).pending = s.pending := by
  unfold State.setTwinPart
  simp

@[simp] theorem State.ferry_pending (s : State) (typ : Nat) (part : Nat) (key : Nat) (data : List Byte) : (State.ferry s typ
    part key data).pending = s.pending := by
  unfold State.ferry
  simp

@[simp] theorem State.useEntry_pending (s : State) (e : FEntry) : (State.useEntry s e).pending = s.pending := by
  unfold State.useEntry
  simp

@[simp] theorem State.retain_pending (s : State) (o : Out) : (State.retain s o).pending = s.pending := by
  unfold State.retain
  simp

@[simp] theorem State.atsLook_pending (s : State) (fn : Nat) (addr : Nat) (write : Bool) : (State.atsLook s fn addr
    write).1.pending = s.pending := by
  unfold State.atsLook
  (repeat' split) <;> simp

@[simp] theorem State.atsTag_pending (s : State) (tag : Nat) (key : Nat) (translated : Bool) : (State.atsTag s tag key
    translated).pending = s.pending := by
  unfold State.atsTag
  simp

@[simp] theorem State.showTags_pending (s : State) : (State.showTags s).pending = s.pending := by
  unfold State.showTags
  simp

@[simp] theorem State.pumpTags_pending (s : State) (z0 : Nat) : (State.pumpTags s z0).pending = s.pending := by
  induction z0 generalizing s with
  | zero => rfl
  | succ f ih =>
    unfold State.pumpTags
    split
    · split
      · simp [ih]
      · rfl
    · rfl

@[simp] theorem State.hostRead_pending (s : State) (who : List Nat) (pa : Nat) (len : Nat) (func : Nat) : (State.hostRead s
    who pa len func).pending = s.pending := by
  unfold State.hostRead
  (repeat' split) <;> simp

@[simp] theorem State.askNode_pending (s : State) (node : Nat) (args : List Nat) (bytes : List Byte) (h : OspHead) :
    (State.askNode s node args bytes h).pending = s.pending := by
  unfold State.askNode
  simp

@[simp] theorem State.nodeRead_pending (s : State) (who : List Nat) (pa : Nat) (len : Nat) (func : Nat) : (State.nodeRead s
    who pa len func).pending = s.pending := by
  unfold State.nodeRead
  simp

@[simp] theorem State.remIssue_pending (s : State) (who : List Nat) (pa : Nat) (len : Nat) (func : Nat) : (State.remIssue s
    who pa len func).pending = s.pending := by
  unfold State.remIssue
  simp

@[simp] theorem State.remGet_pending (s : State) (who : List Nat) (pa : Nat) (len : Nat) (func : Nat) : (State.remGet s who
    pa len func).1.pending = s.pending := by
  unfold State.remGet
  (repeat' split) <;> simp

@[simp] theorem State.remDrop_pending (s : State) (p : RRead → Bool) : (State.remDrop s p).pending = s.pending := by
  unfold State.remDrop
  simp

@[simp] theorem State.manArrived_pending (s : State) : (State.manArrived s).pending = s.pending := by
  unfold State.manArrived
  simp

@[simp] theorem State.hostWrite_pending (s : State) (func : Nat) (addr : Nat) (bs : List Byte) : (State.hostWrite s func addr
    bs).1.pending = s.pending := by
  unfold State.hostWrite
  (repeat' split) <;> simp

@[simp] theorem State.nodeWrite_pending (s : State) (who : List Nat) (pa : Nat) (mask : Nat) (args : List Nat) (bs :
    List Byte) (line : List Byte) : (State.nodeWrite s who pa mask args bs line).pending = s.pending := by
  unfold State.nodeWrite
  simp

@[simp] theorem State.remWrite_pending (s : State) (who : List Nat) (pa : Nat) (func : Nat) (bs : List Byte) :
    (State.remWrite s who pa func bs).1.pending = s.pending := by
  unfold State.remWrite
  dsimp only
  (repeat' split) <;> simp_all

@[simp] theorem State.remMasked_pending (s : State) (who : List Nat) (pa : Nat) (mask : Nat) (bs : List Byte) :
    (State.remMasked s who pa mask bs).1.pending = s.pending := by
  unfold State.remMasked
  (repeat' split) <;> simp

@[simp] theorem State.fabTick_pending (s : State) : (State.fabTick s).pending = s.pending := by
  unfold State.fabTick
  split
  · rfl
  · have h : ∀ l x, (List.foldl State.outTurn x l).1.pending = x.1.pending := by
      intro l x
      refine foldl_fst_pending _ (fun p o => ?_) l x
      unfold State.outTurn
      (repeat' split) <;> simp
    simp [h]

@[simp] theorem State.postAt_pending (s : State) (at_ : Nat) (h : FabHdr) (up : Bool) (mask : Nat) (d : Line) :
    (State.postAt s at_ h up mask d).1.pending = s.pending := by
  unfold State.postAt
  (repeat' split) <;> simp

@[simp] theorem State.post_pending (s : State) (h : FabHdr) (mask : Nat) (d : Line) : (State.post s h mask d).1.pending
    = s.pending := by
  unfold State.post
  simp

@[simp] theorem State.fly_pending (s : State) (h : FabHdr) (mask : Nat) (d : Line) (x : HPkt) : (State.fly s h mask d
    x).pending = s.pending := by
  unfold State.fly
  (repeat' split) <;> simp

@[simp] theorem State.putBucket_pending (s : State) (p : Nat) (q : Nat) (lv : Int) : (State.putBucket s p q lv).pending =
    s.pending := by
  unfold State.putBucket
  simp

@[simp] theorem State.settleAll_pending (s : State) : (State.settleAll s).pending = s.pending := by
  unfold State.settleAll
  simp

@[simp] theorem State.takeTokens_pending (s : State) (p : Nat) (q : Nat) : (State.takeTokens s p q).pending = s.pending := by
  unfold State.takeTokens
  simp

@[simp] theorem State.debitSpf_pending (s : State) (p : Nat) (q : Nat) : (State.debitSpf s p q).pending = s.pending := by
  unfold State.debitSpf
  simp

@[simp] theorem State.charge_pending (s : State) (p : Nat) (q : Nat) (n : Nat) : (State.charge s p q n).pending = s.pending
    := by
  unfold State.charge
  simp

@[simp] theorem State.tollPay_pending (s : State) (who : List Nat) (p : Nat) (q : Nat) (n : Nat) : (State.tollPay s who
    p q n).pending = s.pending := by
  unfold State.tollPay
  simp

@[simp] theorem State.tollTake_pending (s : State) (who : List Nat) (p : Nat) (q : Nat) (n : Nat) : (State.tollTake s
    who p q n).pending = s.pending := by
  unfold State.tollTake
  simp

@[simp] theorem State.holdReq_pending (s : State) (q : CReq) : (State.holdReq s q).pending = s.pending := by
  unfold State.holdReq
  simp

@[simp] theorem State.latSample_pending (s : State) (p : Nat) (q : Nat) (ts : Nat) : (State.latSample s p q ts).pending =
    s.pending := by
  unfold State.latSample
  simp

@[simp] theorem State.latNow_pending (s : State) (p : Nat) (q : Nat) (n : Nat) : (State.latNow s p q n).pending =
    s.pending := by
  unfold State.latNow
  simp

@[simp] theorem State.cleanTick_pending (s : State) : (State.cleanTick s).pending = s.pending := by
  unfold State.cleanTick
  simp

@[simp] theorem State.useDom_pending (s : State) (d : Nat) : (State.useDom s d).pending = s.pending := by
  unfold State.useDom
  simp

@[simp] theorem State.useAgent_pending (s : State) (a : Nat) : (State.useAgent s a).pending = s.pending := by
  unfold State.useAgent
  simp

@[simp] theorem State.useReq_pending (s : State) (req : Nat) (home : Nat) : (State.useReq s req home).pending = s.pending := by
  unfold State.useReq
  simp

@[simp] theorem State.wake_pending (s : State) (d : Nat) : (State.wake s d).pending = s.pending := by
  unfold State.wake
  simp

@[simp] theorem State.countLlc_pending (s : State) (h : Nat) (hit : Bool) : (State.countLlc s h hit).pending = s.pending := by
  unfold State.countLlc
  simp

@[simp] theorem State.touchCopy_pending (s : State) (a : Nat) (l : Nat) : (State.touchCopy s a l).pending = s.pending :=
    by
  unfold State.touchCopy
  (repeat' split) <;> simp

@[simp] theorem State.cohSend_pending (s : State) (m : CMsg) : (State.cohSend s m).pending = s.pending := by
  unfold State.cohSend
  (repeat' split) <;> simp

@[simp] theorem State.fencedCap_pending (s : State) (l : Nat) : (State.fencedCap s l).pending = s.pending := by
  unfold State.fencedCap
  simp

@[simp] theorem State.unmark_pending (s : State) (ls : List Nat) : (State.unmark s ls).pending = s.pending := by
  unfold State.unmark
  simp

@[simp] theorem State.memWrite_pending (s : State) (l : Nat) (d : Line) (mask : Nat) (o : Nat) : (State.memWrite s l d
    mask o).1.pending = s.pending := by
  unfold State.memWrite
  (repeat' split) <;> simp

@[simp] theorem State.writeBack_pending (s : State) (l : Nat) (d : Line) : (State.writeBack s l d).pending = s.pending
    := by
  unfold State.writeBack
  dsimp only
  (repeat' split) <;> simp_all

@[simp] theorem State.llcEvict_pending (s : State) (l : Nat) : (State.llcEvict s l).pending = s.pending := by
  unfold State.llcEvict
  dsimp only
  (repeat' split) <;> simp_all

@[simp] theorem State.llcTouch_pending (s : State) (l : Nat) : (State.llcTouch s l).pending = s.pending := by
  unfold State.llcTouch
  (repeat' split) <;> simp

@[simp] theorem State.llcIn_pending (s : State) (l : Nat) (w : Nat) (d : Line) (dirty : Bool) : (State.llcIn s l w d
    dirty).pending = s.pending := by
  unfold State.llcIn
  simp

@[simp] theorem State.llcPut_pending (s : State) (l : Nat) (d : Line) (dirty : Bool) : (State.llcPut s l d dirty).pending =
    s.pending := by
  unfold State.llcPut
  dsimp only
  (repeat' split) <;> simp_all

@[simp] theorem State.slicePut_pending (s : State) (l : Nat) (d : Line) : (State.slicePut s l d).pending = s.pending :=
    by
  unfold State.slicePut
  simp

@[simp] theorem State.homeWrite_pending (s : State) (l : Nat) (d : Line) (mask : Nat) (o : Nat) (alloc : Bool) (got :
    Option Line) : (State.homeWrite s l d mask o alloc got).1.pending = s.pending := by
  unfold State.homeWrite
  (repeat' split) <;> simp

@[simp] theorem State.countHome_pending (s : State) (l : Nat) : (State.countHome s l).pending = s.pending := by
  unfold State.countHome
  simp

@[simp] theorem State.snoopOn_pending (s : State) (l : Nat) (at_ : Nat) : (State.snoopOn s l at_).pending = s.pending :=
    by
  unfold State.snoopOn
  (repeat' split) <;> simp

@[simp] theorem State.countSnoop_pending (s : State) (h : Nat) : (State.countSnoop s h).pending = s.pending := by
  unfold State.countSnoop
  simp

@[simp] theorem State.filterPut_pending (s : State) (l : Nat) (e : FEnt) : (State.filterPut s l e).pending = s.pending := by
  unfold State.filterPut
  simp

@[simp] theorem State.filterDel_pending (s : State) (l : Nat) : (State.filterDel s l).pending = s.pending := by
  unfold State.filterDel
  simp

@[simp] theorem State.marksOf_pending (s : State) (h : Nat) : (State.marksOf s h).pending = s.pending := by
  unfold State.marksOf
  simp

@[simp] theorem State.filterAlloc_pending (s : State) (l : Nat) (owned : Bool) (fwd : Option Nat) : (State.filterAlloc s l
    owned fwd).pending = s.pending := by
  unfold State.filterAlloc
  (repeat' split) <;> simp

@[simp] theorem State.filterSetOrNew_pending (s : State) (l : Nat) (owned : Bool) (fwd : Option Nat) :
    (State.filterSetOrNew s l owned fwd).pending = s.pending := by
  unfold State.filterSetOrNew
  simp

@[simp] theorem State.grantWait_pending (s : State) (t : Txn) (m : CMsg) : (State.grantWait s t m).pending = s.pending := by
  unfold State.grantWait
  simp

@[simp] theorem State.endTxn_pending (s : State) (l : Nat) (m : CMsg) : (State.endTxn s l m).pending = s.pending := by
  unfold State.endTxn
  simp

@[simp] theorem State.homeErr_pending (s : State) (l : Nat) (req : Nat) (ten : Nat) (r : LineRes) : (State.homeErr s l req
    ten r).pending = s.pending := by
  unfold State.homeErr
  (repeat' split) <;> simp

@[simp] theorem State.txnData_pending (s : State) (t : Txn) : (State.txnData s t).2.pending = s.pending := by
  unfold State.txnData
  (repeat' split) <;> simp

@[simp] theorem State.keepDirty_pending (s : State) (t : Txn) : (State.keepDirty s t).pending = s.pending := by
  unfold State.keepDirty
  simp

@[simp] theorem State.afterSnoop_pending (s : State) (l : Nat) (held : Bool) (keepFwd : Bool) : (State.afterSnoop s l
    held keepFwd).pending = s.pending := by
  unfold State.afterSnoop
  (repeat' split) <;> simp

@[simp] theorem State.reqWrite_pending (s : State) (q : CReq) : (State.reqWrite s q).1.pending = s.pending := by
  unfold State.reqWrite
  (repeat' split) <;> simp

@[simp] theorem State.serve_pending (s : State) (t : Txn) (hit : Bool) : (State.serve s t hit).pending = s.pending := by
  unfold State.serve
  (repeat' split) <;> simp

@[simp] theorem State.answer_pending (s : State) (t : Txn) (hit : Bool) : (State.answer s t hit).pending = s.pending := by
  unfold State.answer
  (repeat' split) <;> simp

@[simp] theorem State.countReq_pending (s : State) (q : CReq) (h : Nat) : (State.countReq s q h).pending = s.pending :=
    by
  unfold State.countReq
  simp

@[simp] theorem State.accept_pending (s : State) (q : CReq) : (State.accept s q).pending = s.pending := by
  unfold State.accept
  simp

@[simp] theorem State.showCredits_pending (s : State) (h : Nat) : (State.showCredits s h).pending = s.pending := by
  unfold State.showCredits
  simp

@[simp] theorem State.cohErr_pending (s : State) (h : Nat) (cause : Nat) (cls : Nat) : (State.cohErr s h cause cls).pending =
    s.pending := by
  unfold State.cohErr
  simp

@[simp] theorem State.wakeFor_pending (s : State) (z0 : Nat) : (State.wakeFor s z0).pending = s.pending := by
  induction z0 generalizing s <;> (unfold State.wakeFor; (repeat' split) <;> simp_all)

@[simp] theorem State.wakeQueue_pending (s : State) : (State.wakeQueue s).pending = s.pending := by
  unfold State.wakeQueue
  (repeat' split) <;> simp

@[simp] theorem State.homeFill_pending (s : State) (l : Nat) (d : Option Line) : (State.homeFill s l d).pending =
    s.pending := by
  unfold State.homeFill
  (repeat' split) <;> simp

@[simp] theorem State.tcUe_pending (s : State) (a : Nat) (l : Nat) (ten : Option Nat) : (State.tcUe s a l ten).pending
    = s.pending := by
  unfold State.tcUe
  dsimp only
  (repeat' split) <;> simp

@[simp] theorem State.spfLine_pending (s : State) (h : Nat) (src : Nat) (qc : Nat) (ten : Nat) (l : Nat) :
    (State.spfLine s h src qc ten l).pending = s.pending := by
  unfold State.spfLine
  split
  · simp
  · dsimp only
    have h1 : (((s.raddOpen (R.tileSpfCnt h) F.tileSpfCnt_ISSUED 1).debitSpf src qc).charge src qc 128).pending = s.pending := by simp
    generalize ((s.raddOpen (R.tileSpfCnt h) F.tileSpfCnt_ISSUED 1).debitSpf src qc).charge src qc 128 = u at h1 ⊢
    cases u.lineRead l <;> simp [h1]

@[simp] theorem State.spfTrain_pending (s : State) (q : CReq) : (State.spfTrain s q).pending = s.pending := by
  unfold State.spfTrain
  dsimp only
  (repeat' split) <;> simp_all

@[simp] theorem State.untrain_pending (s : State) (src : Nat) (ten : Nat) : (State.untrain s src ten).pending =
    s.pending := by
  unfold State.untrain
  simp

@[simp] theorem State.retry_pending (s : State) (q : CReq) (h : Nat) (give : Bool) : (State.retry s q h give).pending =
    s.pending := by
  unfold State.retry
  simp

@[simp] theorem State.request_pending (s : State) (q : CReq) : (State.request s q).pending = s.pending := by
  unfold State.request
  simp

@[simp] theorem State.wbAck_pending (s : State) (a : Nat) (tag : Nat) (l : Nat) : (State.wbAck s a tag l).pending =
    s.pending := by
  unfold State.wbAck
  simp

@[simp] theorem State.dropFwd_pending (s : State) (a : Nat) (l : Nat) : (State.dropFwd s a l).pending = s.pending := by
  unfold State.dropFwd
  (repeat' split) <;> simp

@[simp] theorem State.leaving_pending (s : State) (a : Nat) (l : Nat) (st : CSt) : (State.leaving s a l st).pending =
    s.pending := by
  unfold State.leaving
  simp

@[simp] theorem State.wbPut_pending (s : State) (l : Nat) (d : Line) (dmg : Bool) : (State.wbPut s l d dmg).pending =
    s.pending := by
  unfold State.wbPut
  simp

@[simp] theorem State.wbHome_pending (s : State) (agent : Nat) (tag : Nat) (l : Nat) (d : Line) (dmg : Bool) :
    (State.wbHome s agent tag l d dmg).pending = s.pending := by
  unfold State.wbHome
  (repeat' split) <;> simp

@[simp] theorem State.evctHome_pending (s : State) (agent : Nat) (tag : Nat) (l : Nat) : (State.evctHome s agent tag
    l).pending = s.pending := by
  unfold State.evctHome
  (repeat' split) <;> simp

@[simp] theorem State.noteDecode_pending (s : State) (src : Nat) (pa : Nat) : (State.noteDecode s src pa).pending = s.pending
    := by
  unfold State.noteDecode
  simp

@[simp] theorem State.passMsg_pending (s : State) (q : CReq) (m : CMsg) : (State.passMsg s q m).pending = s.pending :=
    by
  unfold State.passMsg
  simp

@[simp] theorem State.passData_pending (s : State) (q : CReq) (d : Option Line) : (State.passData s q d).pending =
    s.pending := by
  unfold State.passData
  simp

@[simp] theorem State.passErr_pending (s : State) (q : CReq) (c : Nat) : (State.passErr s q c).pending = s.pending := by
  unfold State.passErr
  simp

@[simp] theorem State.passAck_pending (s : State) (q : CReq) (ok : Bool) : (State.passAck s q ok).pending = s.pending :=
    by
  unfold State.passAck
  simp

@[simp] theorem State.passRead_pending (s : State) (q : CReq) : (State.passRead s q).pending = s.pending := by
  unfold State.passRead
  dsimp only
  (repeat' split) <;> simp_all

@[simp] theorem State.passWrite_pending (s : State) (q : CReq) : (State.passWrite s q).pending = s.pending := by
  unfold State.passWrite
  simp

@[simp] theorem State.passOn_pending (s : State) (q : CReq) : (State.passOn s q).pending = s.pending := by
  unfold State.passOn
  dsimp only
  (repeat' split) <;> simp_all

@[simp] theorem State.compAck_pending (s : State) (req : Nat) (pa : Nat) : (State.compAck s req pa).pending = s.pending := by
  unfold State.compAck
  dsimp only
  (repeat' split) <;> simp_all

@[simp] theorem State.snpRsp_pending (s : State) (slip : Nat) (pa : Nat) (held : Bool) (dirty : Bool) (sends : Bool) (wbseen
    : Bool) (reqhold : Bool) : (State.snpRsp s slip pa held dirty sends wbseen reqhold).pending = s.pending := by
  unfold State.snpRsp
  dsimp only
  (repeat' split) <;> simp_all

@[simp] theorem State.reqHome_pending (s : State) (q : CReq) : (State.reqHome s q).pending = s.pending := by
  unfold State.reqHome
  simp

@[simp] theorem State.atHome_pending (s : State) (z0 : HPkt) : (State.atHome s z0).pending = s.pending := by
  induction z0 generalizing s <;> (unfold State.atHome; simp_all)

@[simp] theorem State.park_pending (s : State) (d : Nat) (x : HPkt) : (State.park s d x).pending = s.pending := by
  unfold State.park
  simp

@[simp] theorem State.toHome_pending (s : State) (x : HPkt) : (State.toHome s x).pending = s.pending := by
  unfold State.toHome
  simp

@[simp] theorem State.sendHome_pending (s : State) (h : FabHdr) (mask : Nat) (d : Line) (x : HPkt) : (State.sendHome s h
    mask d x).pending = s.pending := by
  unfold State.sendHome
  simp

@[simp] theorem State.inject_pending (s : State) (q : CReq) : (State.inject s q).pending = s.pending := by
  unfold State.inject
  simp

@[simp] theorem State.reqFrom_pending (s : State) (caching : Bool) (q : CReq) : (State.reqFrom s caching q).pending =
    s.pending := by
  unfold State.reqFrom
  simp

@[simp] theorem State.wbArrive_pending (s : State) (agent : Nat) (pa : Nat) (tag : Nat) (data : Line) : (State.wbArrive
    s agent pa tag data).pending = s.pending := by
  unfold State.wbArrive
  simp

@[simp] theorem State.evctArrive_pending (s : State) (agent : Nat) (pa : Nat) (tag : Nat) : (State.evctArrive s agent pa
    tag).pending = s.pending := by
  unfold State.evctArrive
  simp

@[simp] theorem State.cohTake_pending (s : State) (m : CMsg) : (State.cohTake s m).pending = s.pending := by
  unfold State.cohTake
  simp

@[simp] theorem State.agentTake_pending (s : State) (m : CMsg) : (State.agentTake s m).pending = s.pending := by
  unfold State.agentTake
  simp

@[simp] theorem State.snoopTile_pending (s : State) (l : Nat) (a : Nat) (k : SnpK) (t : Txn) (last : Bool) :
    (State.snoopTile s l a k t last).pending = s.pending := by
  unfold State.snoopTile
  dsimp only
  (repeat' split) <;> simp_all

@[simp] theorem State.stopDoes_pending (s : State) (l : Nat) (a : Nat) (k : SnpK) (t : Txn) : (State.stopDoes s l a k
    t).pending = s.pending := by
  unfold State.stopDoes
  simp

@[simp] theorem State.snoopAt_pending (s : State) (pa : Nat) (stop : Nat) : (State.snoopAt s pa stop).pending =
    s.pending := by
  unfold State.snoopAt
  dsimp only
  (repeat' split) <;> simp

@[simp] theorem State.snoopUe_pending (s : State) (pa : Nat) (stop : Nat) : (State.snoopUe s pa stop).pending =
    s.pending := by
  unfold State.snoopUe
  dsimp only
  (repeat' split) <;> simp

@[simp] theorem State.snpData_pending (s : State) (agent : Nat) (pa : Nat) (dirty : Bool) (data : Line) : (State.snpData s
    agent pa dirty data).pending = s.pending := by
  unfold State.snpData
  dsimp only
  (repeat' split) <;> simp_all

@[simp] theorem State.ownerLost_pending (s : State) (l : Nat) : (State.ownerLost s l).pending = s.pending := by
  unfold State.ownerLost
  simp

@[simp] theorem State.snoopEnd_pending (s : State) (t : Txn) : (State.snoopEnd s t).pending = s.pending := by
  unfold State.snoopEnd
  simp

@[simp] theorem State.tileDrop_pending (s : State) (a : Nat) (l : Nat) (d : Line) : (State.tileDrop s a l d).pending =
    s.pending := by
  unfold State.tileDrop
  (repeat' split) <;> simp

@[simp] theorem State.tileInstall_pending (s : State) (a : Nat) (l : Nat) (st : CSt) (d : Line) : (State.tileInstall s a l st
    d).pending = s.pending := by
  unfold State.tileInstall
  dsimp only
  (repeat' split) <;> simp_all

@[simp] theorem State.compAckFrom_pending (s : State) (req : Nat) (pa : Nat) : (State.compAckFrom s req pa).pending =
    s.pending := by
  unfold State.compAckFrom
  dsimp only
  (repeat' split) <;> simp_all

@[simp] theorem State.grantFlushed_pending (s : State) (req : Nat) (l : Nat) (st : CSt) (d : Line) : (State.grantFlushed
    s req l st d).pending = s.pending := by
  unfold State.grantFlushed
  simp

@[simp] theorem State.grantGone_pending (s : State) (req : Nat) (pa : Nat) : (State.grantGone s req pa).pending =
    s.pending := by
  unfold State.grantGone
  simp

@[simp] theorem State.slipGone_pending (s : State) (v : Nat) : (State.slipGone s v).pending = s.pending := by
  unfold State.slipGone
  simp

@[simp] theorem State.agentLoss_pending (s : State) (slip : Nat) : (State.agentLoss s slip).pending = s.pending := by
  unfold State.agentLoss
  simp

@[simp] theorem State.prepLine_pending (s : State) (a : Nat) (w : Bool) (cache : Nat) (l : Nat) : (State.prepLine s a w
    cache l).pending = s.pending := by
  unfold State.prepLine
  simp

@[simp] theorem State.moverMark_pending (s : State) (h : Nat) : (State.moverMark s h).pending = s.pending := by
  unfold State.moverMark
  simp

@[simp] theorem State.moverReq_pending (s : State) (a : Nat) (l : Nat) (k : SnpK) (but : Option Nat) : (State.moverReq s
    a l k but).pending = s.pending := by
  unfold State.moverReq
  dsimp only
  (repeat' split) <;> simp_all

@[simp] theorem State.cohRead_pending (s : State) (a : Nat) (l : Nat) (cache : Nat) (got : Option Line) : (State.cohRead
    s a l cache got).1.pending = s.pending := by
  unfold State.cohRead
  dsimp only
  (repeat' split) <;> simp_all

@[simp] theorem State.ownWrite_pending (s : State) (a : Nat) (l : Nat) (mask : Nat) (d : Line) (old : LineRes) :
    (State.ownWrite s a l mask d old).1.pending = s.pending := by
  unfold State.ownWrite
  (repeat' split) <;> simp

@[simp] theorem State.cohWrite_pending (s : State) (a : Nat) (l : Nat) (cache : Nat) (mask : Nat) (d : Line) (got :
    Option Line) : (State.cohWrite s a l cache mask d got).1.pending = s.pending := by
  unfold State.cohWrite
  (repeat' split) <;> simp

@[simp] theorem State.tableVault_pending (s : State) (c : Nat) (q : Nat) (tenant : Nat) (pa : Nat) : (State.tableVault s
    c q tenant pa).1.pending = s.pending := by
  unfold State.tableVault
  dsimp only
  (repeat' split) <;> simp_all

@[simp] theorem State.tableRead_pending (s : State) (c : Nat) (q : Nat) (tenant : Nat) (pa : Nat) : (State.tableRead s c
    q tenant pa).1.pending = s.pending := by
  unfold State.tableRead
  (repeat' split) <;> simp

@[simp] theorem State.walkBegin_pending (s : State) (c : Nat) (q : Nat) (t : Nat) (va : Nat) : (State.walkBegin s c q t
    va).pending = s.pending := by
  unfold State.walkBegin
  simp

@[simp] theorem State.walkNote_pending (s : State) (c : Nat) (t : Nat) (va : Nat) (e : Nat) : (State.walkNote s c t va
    e).pending = s.pending := by
  unfold State.walkNote
  simp

@[simp] theorem State.walkL1_pending (s : State) (c : Nat) (q : Nat) (t : Nat) (va : Nat) : (State.walkL1 s c q t
    va).1.pending = s.pending := by
  unfold State.walkL1
  (repeat' (split <;> (try (rename_i h; have h1 := congrArg Prod.fst h; clear h; dsimp only at h1; subst h1)))) <;>
    simp

@[simp] theorem State.walk_pending (s : State) (c : Nat) (q : Nat) (t : Nat) (va : Nat) : (State.walk s c q t
    va).1.pending = s.pending := by
  unfold State.walk
  (repeat' (split <;> (try (rename_i h; have h1 := congrArg Prod.fst h; clear h; dsimp only at h1; subst h1)))) <;>
    simp

@[simp] theorem State.tableDrop_pending (s : State) (c : Nat) (q : Nat) (t : Nat) (pa : Nat) : (State.tableDrop s c q t
    pa).pending = s.pending := by
  unfold State.tableDrop
  simp

@[simp] theorem State.walkEnd_pending (s : State) (c : Nat) (q : Nat) (t : Nat) (va : Nat) : (State.walkEnd s c q t
    va).pending = s.pending := by
  unfold State.walkEnd
  (repeat' split) <;> simp

@[simp] theorem State.walksForget_pending (s : State) : (State.walksForget s).pending = s.pending := by
  unfold State.walksForget
  simp

@[simp] theorem State.walksAgain_pending (s : State) (p : Nat → Bool) : (State.walksAgain s p).pending = s.pending := by
  unfold State.walksAgain
  simp

@[simp] theorem State.tcTouch_pending (s : State) (c : Nat) (e : TcEnt) : (State.tcTouch s c e).pending = s.pending :=
    by
  unfold State.tcTouch
  simp

@[simp] theorem State.tcPut_pending (s : State) (c : Nat) (e : TcEnt) : (State.tcPut s c e).pending = s.pending := by
  unfold State.tcPut
  simp

@[simp] theorem State.leaf_pending (s : State) (c : Nat) (q : Nat) (t : Nat) (va : Nat) : (State.leaf s c q t
    va).1.pending = s.pending := by
  unfold State.leaf
  split
  · simp
  · rcases h : (s.walkBegin c q t va).walk c ((s.walkBegin c q t va).walkQ c q t va) t va with ⟨s1, r⟩
    have h1 : s1.pending = s.pending := by
      simpa [h] using (s.walkBegin c q t va).walk_pending c ((s.walkBegin c q t va).walkQ c q t va) t va
    cases r with
    | wait => exact h1
    | fail x => exact h1
    | ok e => dsimp only; split <;> simp [h1]

@[simp] theorem State.xlate_pending (s : State) (c : Nat) (q : Nat) (t : Nat) (va : Nat) (n : Nat) (a : Acc) :
    (State.xlate s c q t va n a).1.pending = s.pending := by
  unfold State.xlate
  (repeat' (split <;> (try (rename_i h; have h1 := congrArg Prod.fst h; clear h; dsimp only at h1; subst h1)))) <;>
    simp

@[simp] theorem State.footprintOpen_pending (s : State) (c : Nat) (q : Nat) (t : Nat) (a : Acc) (z0 : List (Nat × Nat))
    : (State.footprintOpen s c q t a z0).1.pending = s.pending := by
  induction z0 generalizing s with
  | nil => rfl
  | cons p rest ih =>
    obtain ⟨va, n⟩ := p
    unfold State.footprintOpen
    rcases h : s.xlate c q t va n a with ⟨s1, r⟩
    have h1 : s1.pending = s.pending := by simpa [h] using s.xlate_pending c q t va n a
    cases r <;> dsimp only <;> (first | exact h1 | rw [ih, h1])

@[simp] theorem State.walksEnd_pending (s : State) (c : Nat) (q : Nat) (t : Nat) (l : List Nat) : (State.walksEnd s c q
    t l).pending = s.pending := by
  unfold State.walksEnd
  simp

@[simp] theorem State.footprint_pending (s : State) (c : Nat) (q : Nat) (t : Nat) (a : Acc) (ps : List (Nat × Nat)) :
    (State.footprint s c q t a ps).1.pending = s.pending := by
  unfold State.footprint
  dsimp only
  (repeat' split) <;> simp_all

@[simp] theorem State.fqShow_pending (s : State) (t : Nat) : (State.fqShow s t).pending = s.pending := by
  unfold State.fqShow
  simp

@[simp] theorem State.faultRec_pending (s : State) (t : Nat) (page : Nat) (cause : Nat) (req : Option Nat) (write : Bool) :
    (State.faultRec s t page cause req write).pending = s.pending := by
  unfold State.faultRec
  simp

@[simp] theorem State.pageFail_pending (s : State) (t : Nat) (page : Nat) (cause : Nat) (req : Option Nat) (write : Bool) :
    (State.pageFail s t page cause req write).pending = s.pending := by
  unfold State.pageFail
  simp

@[simp] theorem State.pageFails_pending (s : State) (t : Nat) (fails : List (Nat × Nat)) (req : Option Nat) (write : Bool) :
    (State.pageFails s t fails req write).pending = s.pending := by
  unfold State.pageFails
  simp

@[simp] theorem State.markRange_pending (s : State) (t : Nat) (va : Nat) (n : Nat) : (State.markRange s t va n).pending =
    s.pending := by
  unfold State.markRange
  simp

@[simp] theorem State.memDrop_pending (s : State) (who : List Nat) (l : Nat) : (State.memDrop s who l).pending =
    s.pending := by
  unfold State.memDrop
  (repeat' split) <;> simp

@[simp] theorem State.readPieces_pending (s : State) (who : List Nat) (a : Nat) (cache : Nat) (z0 : List (Nat × Nat)) :
    (State.readPieces s who a cache z0).1.pending = s.pending := by
  induction z0 generalizing s with
  | nil => rfl
  | cons p rest ih =>
    obtain ⟨pa, n⟩ := p
    unfold State.readPieces
    dsimp only
    split <;> simp [ih]

@[simp] theorem State.moverRead_pending (s : State) (who : List Nat) (a : Nat) (cache : Nat) (pa : Nat) (n : Nat) :
    (State.moverRead s who a cache pa n).1.pending = s.pending := by
  unfold State.moverRead
  simp

@[simp] theorem State.writePieces_pending (s : State) (who : List Nat) (a : Nat) (cache : Nat) (z0 : List (Nat × Nat))
    (z1 : List Byte) : (State.writePieces s who a cache z0 z1).1.pending = s.pending := by
  induction z0 generalizing s z1 with
  | nil => rfl
  | cons p rest ih =>
    obtain ⟨pa, n⟩ := p
    unfold State.writePieces
    dsimp only
    split <;> simp [ih]

@[simp] theorem State.moverWrite_pending (s : State) (who : List Nat) (a : Nat) (cache : Nat) (pa : Nat) (bs : List
    Byte) : (State.moverWrite s who a cache pa bs).1.pending = s.pending := by
  unfold State.moverWrite
  simp

@[simp] theorem State.legBadRead_pending (s : State) (p : Nat) (tenant : Nat) (x : Nat × LineRes) : (State.legBadRead s p
    tenant x).pending = s.pending := by
  unfold State.legBadRead
  (repeat' split) <;> simp

@[simp] theorem State.legBadWrite_pending (s : State) (p : Nat) (tenant : Nat) (x : Nat × LineRes) : (State.legBadWrite s p
    tenant x).pending = s.pending := by
  unfold State.legBadWrite
  (repeat' split) <;> simp

@[simp] theorem State.chargeFor_pending (s : State) (who : List Nat) (a : Nat) (n : Nat) : (State.chargeFor s who a
    n).pending = s.pending := by
  unfold State.chargeFor
  simp

@[simp] theorem State.echo_pending (s : State) (pa : Nat) (n : Nat) : (State.echo s pa n).pending = s.pending := by
  unfold State.echo
  simp

@[simp] theorem State.moversKeep_pending (s : State) : (State.moversKeep s).pending = s.pending := by
  unfold State.moversKeep
  simp

@[simp] theorem State.getPieces_pending (s : State) (who : List Nat) (a : Nat) (cache : Nat) (func : Nat) (z0 : List
    (Nat × Nat)) : (State.getPieces s who a cache func z0).1.pending = s.pending := by
  induction z0 generalizing s <;> (unfold State.getPieces; (repeat' split) <;> simp_all)

@[simp] theorem State.prepPiece_pending (s : State) (who : List Nat) (a : Nat) (w : Bool) (cache : Nat) (func : Nat) (pa
    : Nat) (n : Nat) : (State.prepPiece s who a w cache func pa n).pending = s.pending := by
  unfold State.prepPiece
  simp

@[simp] theorem State.openReads_pending (s : State) (who : List Nat) (a : Nat) (cache : Nat) (func : Nat) (ps : List
    (Nat × Nat)) : (State.openReads s who a cache func ps).pending = s.pending := by
  unfold State.openReads
  simp

@[simp] theorem State.openWrites_pending (s : State) (who : List Nat) (a : Nat) (cache : Nat) (func : Nat) (ps : List
    (Nat × Nat)) : (State.openWrites s who a cache func ps).pending = s.pending := by
  unfold State.openWrites
  simp

@[simp] theorem State.payFor_pending (s : State) (who : List Nat) (a : Nat) (n : Nat) : (State.payFor s who a n).pending
    = s.pending := by
  unfold State.payFor
  simp

@[simp] theorem State.putPieces_pending (s : State) (who : List Nat) (a : Nat) (cache : Nat) (func : Nat) (z0 : List
    (Nat × Nat)) (z1 : List Byte) : (State.putPieces s who a cache func z0 z1).1.pending = s.pending := by
  induction z0 generalizing s z1 <;> (unfold State.putPieces; (repeat' split) <;> simp_all)

@[simp] theorem State.legRemFail_pending (s : State) (p : Nat) (tenant : Nat) (n : Nat) : (State.legRemFail s p tenant
    n).pending = s.pending := by
  unfold State.legRemFail
  simp

@[simp] theorem State.issue_pending (s : State) (k : Nat) (cls : Nat) (sel : Nat → Bool) (hold : LegRun → Nat → List (Nat ×
    Nat)) (act : State → LegRun → Nat → State × LegRun) (hact : ∀ s x0 x1, (act s x0 x1).1.pending = s.pending) :
    (State.issue s k cls sel hold act).pending = s.pending := by
  unfold State.issue
  (repeat' split) <;> simp_all

@[simp] theorem State.legEvts_pending (s : State) (k : Nat) (e : Evts) : (State.legEvts s k e).pending = s.pending := by
  unfold State.legEvts
  dsimp only
  (repeat' split) <;> simp_all

@[simp] theorem State.halt_pending (s : State) (k : Nat) (r : LegRun) (cause : Nat) (stops : Bool) : (State.halt s k r
    cause stops).pending = s.pending := by
  unfold State.halt
  simp

@[simp] theorem State.dropLeg_pending (s : State) (k : Nat) : (State.dropLeg s k).pending = s.pending := by
  unfold State.dropLeg
  dsimp only
  (repeat' split) <;> simp_all

@[simp] theorem State.markOuts_pending (s : State) (tenant : Nat) (outs : List (Nat × Nat)) : (State.markOuts s tenant
    outs).pending = s.pending := by
  unfold State.markOuts
  simp

@[simp] theorem State.overrun_pending (s : State) (k : Nat) : (State.overrun s k).pending = s.pending := by
  unfold State.overrun
  (repeat' split) <;> simp

@[simp] theorem State.showPool_pending (s : State) : (State.showPool s).pending = s.pending := by
  unfold State.showPool
  simp

@[simp] theorem State.qCap_pending (s : State) (g : Nat) (cause : Nat) : (State.qCap s g cause).pending = s.pending := by
  unfold State.qCap
  simp

@[simp] theorem State.enableRing_pending (s : State) (g : Nat) : (State.enableRing s g).pending = s.pending := by
  unfold State.enableRing
  (repeat' split) <;> simp

@[simp] theorem State.ringOff_pending (s : State) (g : Nat) : (State.ringOff s g).pending = s.pending := by
  unfold State.ringOff
  simp

@[simp] theorem State.disableRing_pending (s : State) (g : Nat) : (State.disableRing s g).pending = s.pending := by
  unfold State.disableRing
  (repeat' split) <;> simp

@[simp] theorem State.applyEn_pending (s : State) (g : Nat) : (State.applyEn s g).pending = s.pending := by
  unfold State.applyEn
  (repeat' split) <;> simp

@[simp] theorem State.ringEnables_pending (s : State) (gs : List Nat) : (State.ringEnables s gs).pending = s.pending := by
  unfold State.ringEnables
  simp

@[simp] theorem State.doorbell_pending (s : State) (tenant : Nat) (ring : Nat) (half : Nat) (value : Nat) : (State.doorbell s
    tenant ring half value).pending = s.pending := by
  unfold State.doorbell
  simp

@[simp] theorem State.captureDoorbells_pending (s : State) : (State.captureDoorbells s).pending = s.pending := by
  unfold State.captureDoorbells
  simp

@[simp] theorem State.ringError_pending (s : State) (g : Nat) : (State.ringError s g).pending = s.pending := by
  unfold State.ringError
  simp

@[simp] theorem State.showOut_pending (s : State) (g : Nat) : (State.showOut s g).pending = s.pending := by
  unfold State.showOut
  simp

@[simp] theorem State.admitOne_pending (s : State) (g : Nat) : (State.admitOne s g).pending = s.pending := by
  unfold State.admitOne
  simp

@[simp] theorem State.admitN_pending (s : State) (g : Nat) (z0 : Nat) : (State.admitN s g z0).pending = s.pending := by
  induction z0 generalizing s with
  | zero => rfl
  | succ n ih => unfold State.admitN; simp [ih]

@[simp] theorem State.admitRing_pending (s : State) (g : Nat) : (State.admitRing s g).pending = s.pending := by
  unfold State.admitRing
  simp

@[simp] theorem State.admitFerry_pending (s : State) : (State.admitFerry s).pending = s.pending := by
  unfold State.admitFerry
  (repeat' split) <;> simp

@[simp] theorem State.admitAll_pending (s : State) : (State.admitAll s).pending = s.pending := by
  unfold State.admitAll
  simp

@[simp] theorem State.dropChunks_pending (s : State) (ring : Nat) (didx : Nat) : (State.dropChunks s ring didx).pending =
    s.pending := by
  unfold State.dropChunks
  simp

@[simp] theorem State.ctxEnd_pending (s : State) (c : Ctx) (status : Nat) (detail : Nat) : (State.ctxEnd s c status
    detail).pending = s.pending := by
  unfold State.ctxEnd
  simp

@[simp] theorem State.ctxFail_pending (s : State) (c : Ctx) (status : Nat) (detail : Nat) : (State.ctxFail s c status
    detail).pending = s.pending := by
  unfold State.ctxFail
  simp

@[simp] theorem State.ringBad_pending (s : State) (tenant : Nat) (x : Nat × LineRes) : (State.ringBad s tenant x).1.pending =
    s.pending := by
  unfold State.ringBad
  (repeat' split) <;> simp

@[simp] theorem State.ringBads_pending (s : State) (tenant : Nat) (l : List (Nat × LineRes)) : (State.ringBads s tenant
    l).1.pending = s.pending := by
  unfold State.ringBads
  simp

@[simp] theorem State.unkeep_pending (s : State) (who : List Nat) (wr : Bool) (ranges : List (Nat × Nat)) :
    (State.unkeep s who wr ranges).pending = s.pending := by
  unfold State.unkeep
  simp

@[simp] theorem State.dmaXlate_pending (s : State) (who : List Nat) (wr : Bool) (tenant : Nat) (ranges : List (Nat ×
    Nat)) : (State.dmaXlate s who wr tenant ranges).1.pending = s.pending := by
  unfold State.dmaXlate
  dsimp only
  (repeat' split) <;> simp_all

@[simp] theorem State.dmaRead_pending (s : State) (who : List Nat) (tenant : Nat) (ranges : List (Nat × Nat)) :
    (State.dmaRead s who tenant ranges).1.pending = s.pending := by
  unfold State.dmaRead
  dsimp only
  (repeat' split) <;> simp_all

@[simp] theorem State.dmaWrite_pending (s : State) (who : List Nat) (tenant : Nat) (ranges : List (Nat × Nat)) (bs : List
    Byte) : (State.dmaWrite s who tenant ranges bs).1.pending = s.pending := by
  unfold State.dmaWrite
  dsimp only
  (repeat' split) <;> simp_all

@[simp] theorem State.fetchDesc_pending (s : State) (c : Ctx) : (State.fetchDesc s c).pending = s.pending := by
  unfold State.fetchDesc
  extract_lets t n
  rcases h : s.dmaRead [3, c.ring, c.didx] t [(s.entVa c.ring c.didx, n)] with ⟨s1, r⟩
  have h1 : s1.pending = s.pending := by
    simpa [h] using s.dmaRead_pending [3, c.ring, c.didx] t [(s.entVa c.ring c.didx, n)]
  cases r <;> dsimp only <;> (repeat' split) <;> simp [h1]

@[simp] theorem State.startRun_pending (s : State) (c : Ctx) : (State.startRun s c).pending = s.pending := by
  unfold State.startRun
  (repeat' split) <;> (try rename_i h) <;> (try (have h2 := congrArg (fun z => z.1.pending) h; simp at h2)) <;>
    simp_all

@[simp] theorem State.nextEntry_pending (s : State) (c : Ctx) : (State.nextEntry s c).1.pending = s.pending := by
  unfold State.nextEntry
  split
  · rfl
  · rcases h : s.dmaRead [3, c.ring, c.didx] (ringTen c.ring) [(c.ents, 16)] with ⟨s1, r⟩
    have h1 : s1.pending = s.pending := by
      simpa [h] using s.dmaRead_pending [3, c.ring, c.didx] (ringTen c.ring) [(c.ents, 16)]
    cases r <;> dsimp only <;> (repeat' split) <;> simp [h1]

@[simp] theorem State.gather_pending (s : State) (c : Ctx) (room : Nat) (acc : List (Nat × Nat)) (z0 : Nat) : (State.gather s
    c room acc z0).1.pending = s.pending := by
  induction z0 generalizing s c room acc with
  | zero => rfl
  | succ f ih =>
    unfold State.gather
    split
    · rfl
    · split
      · split
        · split
          · rfl
          · exact ih ..
        · exact ih ..
      · split
        · rfl
        · rcases h : s.nextEntry c with ⟨s1, r⟩
          have h1 : s1.pending = s.pending := by simpa [h] using s.nextEntry_pending c
          match r with
          | none => exact h1
          | some (.error e) => exact h1
          | some (.ok c1) => exact (ih ..).trans h1

@[simp] theorem State.poolPut_pending (s : State) (slot : Nat) (bs : List Byte) : (State.poolPut s slot bs).pending =
    s.pending := by
  unfold State.poolPut
  simp

@[simp] theorem State.startChunk_pending (s : State) (g : Nat) : (State.startChunk s g).1.pending = s.pending := by
  unfold State.startChunk
  split
  · rfl
  · split
    · rfl
    · rename_i c _
      rcases h : s.gather c s.bufSize [] (s.bufSize / 32 + 4) with ⟨s1, c1, r⟩
      have h1 : s1.pending = s.pending := by simpa [h] using s.gather_pending c s.bufSize [] (s.bufSize / 32 + 4)
      match r with
      | none => exact h1
      | some (.error e) => simp [h1]
      | some (.ok ps) => simp [h1]

@[simp] theorem State.startChunksN_pending (s : State) (g : Nat) (z0 : Nat) : (State.startChunksN s g z0).pending = s.pending
    := by
  induction z0 generalizing s with
  | zero => rfl
  | succ f ih => unfold State.startChunksN; dsimp only; split <;> simp [ih]

@[simp] theorem State.startChunks_pending (s : State) (g : Nat) : (State.startChunks s g).pending = s.pending := by
  unfold State.startChunks
  simp

@[simp] theorem State.grantAll_pending (s : State) : (State.grantAll s).pending = s.pending := by
  unfold State.grantAll
  simp

@[simp] theorem State.descFetch_pending (s : State) (ring : Nat) (didx : Nat) : (State.descFetch s ring didx).pending =
    s.pending := by
  unfold State.descFetch
  (repeat' split) <;> simp

@[simp] theorem State.descDo_pending (s : State) (ring : Nat) (didx : Nat) (op : Nat) (f : State → Ctx → State) (hf : ∀ s x0,
    (f s x0).pending = s.pending) : (State.descDo s ring didx op f).pending = s.pending := by
  unfold State.descDo
  dsimp only
  (repeat' split) <;> simp_all

@[simp] theorem State.loadSize_pending (s : State) (c : Ctx) : (State.loadSize s c).pending = s.pending := by
  unfold State.loadSize
  (repeat' (split <;> (try (rename_i h; have h1 := congrArg Prod.fst h; clear h; dsimp only at h1; subst h1)))) <;>
    simp

@[simp] theorem State.delChunk_pending (s : State) (c : Chunk) : (State.delChunk s c).pending = s.pending := by
  unfold State.delChunk
  simp

@[simp] theorem State.chunkFail_pending (s : State) (c : Chunk) (st : Nat) (d : Nat) : (State.chunkFail s c st d).pending =
    s.pending := by
  unfold State.chunkFail
  dsimp only
  (repeat' split) <;> simp_all

@[simp] theorem State.finishLoad_pending (s : State) (c : Ctx) : (State.finishLoad s c).pending = s.pending := by
  unfold State.finishLoad
  dsimp only
  (repeat' split) <;> simp_all

@[simp] theorem State.drained_pending (s : State) (c : Chunk) : (State.drained s c).pending = s.pending := by
  unfold State.drained
  (repeat' split) <;> simp

@[simp] theorem State.chunkGone_pending (s : State) (c : Chunk) : (State.chunkGone s c).pending = s.pending := by
  unfold State.chunkGone
  simp

@[simp] theorem State.lostRec_pending (s : State) (c : Nat) : (State.lostRec s c).pending = s.pending := by
  unfold State.lostRec
  simp

@[simp] theorem State.issueRec_pending (s : State) (r : CmpRec) : (State.issueRec s r).1.pending = s.pending := by
  unfold State.issueRec
  dsimp only
  (repeat' split) <;> simp_all

@[simp] theorem State.releaseCtx_pending (s : State) (c : Ctx) : (State.releaseCtx s c).pending = s.pending := by
  unfold State.releaseCtx
  simp

@[simp] theorem State.invAccept_pending (s : State) (w : Nat) (r : InvReq) : (State.invAccept s w r).pending = s.pending := by
  unfold State.invAccept
  simp

@[simp] theorem State.invWrite_pending (s : State) (w : Nat) (word : Nat) (half : Bool) : (State.invWrite s w word
    half).pending = s.pending := by
  unfold State.invWrite
  simp

@[simp] theorem State.tcDrop_pending (s : State) (p : TcEnt → Bool) : (State.tcDrop s p).pending = s.pending := by
  unfold State.tcDrop
  simp

@[simp] theorem State.invOne_pending (s : State) (w : Nat) (last : Option Nat) (r : InvReq) : (State.invOne s w last
    r).1.pending = s.pending := by
  unfold State.invOne
  (repeat' split) <;> simp

@[simp] theorem State.invLane_pending (s : State) (base : List TcEnt) (w : Nat) : (State.invLane s base w).pending =
    s.pending := by
  unfold State.invLane
  dsimp only
  (repeat' split) <;> simp_all

@[simp] theorem State.ctxOn_pending (s : State) (t : Nat) : (State.ctxOn s t).pending = s.pending := by
  unfold State.ctxOn
  simp

@[simp] theorem State.atsApply_pending (s : State) : (State.atsApply s).pending = s.pending := by
  unfold State.atsApply
  simp

@[simp] theorem State.applyI1_pending (s : State) : (State.applyI1 s).pending = s.pending := by
  unfold State.applyI1
  simp

@[simp] theorem State.ackLane_pending (s : State) (w : Nat) (seq : Nat) : (State.ackLane s w seq).pending = s.pending := by
  unfold State.ackLane
  simp

@[simp] theorem State.atsComplete_pending (s : State) (x : Nat × Nat × Nat) : (State.atsComplete s x).pending = s.pending := by
  unfold State.atsComplete
  simp

@[simp] theorem State.applyI4_pending (s : State) : (State.applyI4 s).pending = s.pending := by
  unfold State.applyI4
  simp

@[simp] theorem State.loadPins_pending (s : State) (t : Nat) : (State.loadPins s t).pending = s.pending := by
  unfold State.loadPins
  simp

@[simp] theorem State.dropTables_pending (s : State) (t : Nat) : (State.dropTables s t).pending = s.pending := by
  unfold State.dropTables
  simp

@[simp] theorem State.ctxTransfer_pending (s : State) (t : Nat) (wroteEn : Bool) (moved : Bool) : (State.ctxTransfer s t
    wroteEn moved).pending = s.pending := by
  unfold State.ctxTransfer
  simp

@[simp] theorem State.ctxOff_pending (s : State) (t : Nat) : (State.ctxOff s t).pending = s.pending := by
  unfold State.ctxOff
  simp

@[simp] theorem State.pinWalk_pending (s : State) (t : Nat) (z0 : List Nat) (z1 : List TcEnt) : (State.pinWalk s t z0
    z1).1.pending = s.pending := by
  induction z0 generalizing s z1 with
  | nil => rfl
  | cons va rest ih =>
    unfold State.pinWalk
    split
    · split
      · rfl
      · exact ih ..
    · rcases h : (s.walkBegin pinCache 2 t va).walk pinCache 2 t va with ⟨s1, r⟩
      have h1 : s1.pending = s.pending := by simpa [h] using (s.walkBegin pinCache 2 t va).walk_pending pinCache 2 t va
      cases r with
      | wait => exact h1
      | fail x => simp [h1]
      | ok e => dsimp only; split <;> simp [ih, h1]

@[simp] theorem State.fqEdge_pending (s : State) : (State.fqEdge s).pending = s.pending := by
  unfold State.fqEdge
  simp

@[simp] theorem State.fqVisible_pending (s : State) : (State.fqVisible s).pending = s.pending := by
  unfold State.fqVisible
  simp

@[simp] theorem State.tfqPop_pending (s : State) (tenant : Nat) : (State.tfqPop s tenant).pending = s.pending := by
  unfold State.tfqPop
  (repeat' split) <;> simp

@[simp] theorem State.tinvClr_pending (s : State) (tenant : Nat) : (State.tinvClr s tenant).pending = s.pending := by
  unfold State.tinvClr
  simp

@[simp] theorem State.showDebug_pending (s : State) (scope : Nat) (remain : Nat) : (State.showDebug s scope remain).pending =
    s.pending := by
  unfold State.showDebug
  simp

@[simp] theorem State.revokeDebug_pending (s : State) : (State.revokeDebug s).pending = s.pending := by
  unfold State.revokeDebug
  simp

@[simp] theorem State.confOn_pending (s : State) : (State.confOn s).pending = s.pending := by
  unfold State.confOn
  simp

@[simp] theorem State.confOff_pending (s : State) : (State.confOff s).pending = s.pending := by
  unfold State.confOff
  simp

@[simp] theorem State.dropPart_pending (s : State) (p : Nat) : (State.dropPart s p).pending = s.pending := by
  unfold State.dropPart
  simp

@[simp] theorem State.unpair_pending (s : State) (p : Nat) (st : Nat) : (State.unpair s p st).pending = s.pending := by
  unfold State.unpair
  simp

@[simp] theorem State.sendLine_pending (s : State) (l : Nat) : (State.sendLine s l).pending = s.pending := by
  unfold State.sendLine
  simp

@[simp] theorem State.syncNext_pending (s : State) : (State.syncNext s).pending = s.pending := by
  unfold State.syncNext
  (repeat' split) <;> simp

@[simp] theorem State.tdiUnpair_pending (s : State) (t : Nat) : (State.tdiUnpair s t).pending = s.pending := by
  unfold State.tdiUnpair
  (repeat' split) <;> simp

@[simp] theorem State.setTdi_pending (s : State) (t : Nat) (x : Nat) : (State.setTdi s t x).pending = s.pending := by
  unfold State.setTdi
  (repeat' split) <;> simp

@[simp] theorem State.vfReset_pending (s : State) (fn : Nat) : (State.vfReset s fn).pending = s.pending := by
  unfold State.vfReset
  simp

@[simp] theorem State.endReads_pending (s : State) (fn : Nat) : (State.endReads s fn).pending = s.pending := by
  unfold State.endReads
  simp

@[simp] theorem State.enOff_pending (s : State) (t : Nat) : (State.enOff s t).pending = s.pending := by
  unfold State.enOff
  simp

@[simp] theorem State.teardown_pending (s : State) (t : Nat) : (State.teardown s t).pending = s.pending := by
  unfold State.teardown
  simp

@[simp] theorem State.vfFlr_pending (s : State) (t : Nat) : (State.vfFlr s t).pending = s.pending := by
  unfold State.vfFlr
  simp

@[simp] theorem State.tearAll_pending (s : State) : (State.tearAll s).pending = s.pending := by
  unfold State.tearAll
  simp

@[simp] theorem State.ringsOff_pending (s : State) (t : Nat) : (State.ringsOff s t).pending = s.pending := by
  unfold State.ringsOff
  simp

@[simp] theorem State.releaseTenant_pending (s : State) (t : Nat) : (State.releaseTenant s t).pending = s.pending := by
  unfold State.releaseTenant
  simp

@[simp] theorem State.setKeys_pending (s : State) (o : Nat) (k : Option Nat × Option Nat) (cur : Nat) : (State.setKeys s o k
    cur).pending = s.pending := by
  unfold State.setKeys
  simp

@[simp] theorem State.freshKey_pending (s : State) (o : Nat) (slot : Nat) (cur : Nat) : (State.freshKey s o slot cur).pending
    = s.pending := by
  unfold State.freshKey
  simp

@[simp] theorem State.retireKey_pending (s : State) (o : Nat) : (State.retireKey s o).pending = s.pending := by
  unfold State.retireKey
  simp

@[simp] theorem State.keyRefused_pending (s : State) : (State.keyRefused s).pending = s.pending := by
  unfold State.keyRefused
  simp

@[simp] theorem State.rotateCmd_pending (s : State) (owner : Nat) : (State.rotateCmd s owner).pending = s.pending := by
  unfold State.rotateCmd
  simp

@[simp] theorem State.retireCmd_pending (s : State) (owner : Nat) : (State.retireCmd s owner).pending = s.pending := by
  unfold State.retireCmd
  simp

@[simp] theorem State.sweepStep_pending (s : State) (o : Nat) (n : Nat) : (State.sweepStep s o n).pending = s.pending := by
  unfold State.sweepStep
  (repeat' split) <;> simp

@[simp] theorem State.sweepsEnd_pending (s : State) : (State.sweepsEnd s).pending = s.pending := by
  unfold State.sweepsEnd
  simp

@[simp] theorem State.discardLines_pending (s : State) (rs : List (Nat × Nat)) : (State.discardLines s rs).pending =
    s.pending := by
  unfold State.discardLines
  simp

@[simp] theorem State.scrubStart_pending (s : State) (o : Nat) : (State.scrubStart s o).pending = s.pending := by
  unfold State.scrubStart
  simp

@[simp] theorem State.scrubStep_pending (s : State) (o : Nat) (n : Nat) : (State.scrubStep s o n).pending = s.pending := by
  unfold State.scrubStep
  (repeat' split) <;> simp

@[simp] theorem State.cleanMove_pending (s : State) : (State.cleanMove s).pending = s.pending := by
  unfold State.cleanMove
  simp

@[simp] theorem State.cleanNow_pending (s : State) : (State.cleanNow s).pending = s.pending := by
  unfold State.cleanNow
  simp

@[simp] theorem State.scrubsEnd_pending (s : State) : (State.scrubsEnd s).pending = s.pending := by
  unfold State.scrubsEnd
  simp

@[simp] theorem State.rotateKey_pending (s : State) (o : Nat) : (State.rotateKey s o).pending = s.pending := by
  unfold State.rotateKey
  simp

@[simp] theorem State.keysI2_pending (s : State) : (State.keysI2 s).pending = s.pending := by
  unfold State.keysI2
  simp

@[simp] theorem State.draw_pending (s : State) : (State.draw s).1.pending = s.pending := by
  unfold State.draw
  simp

@[simp] theorem State.unsigned_pending (s : State) : (State.unsigned s).pending = s.pending := by
  unfold State.unsigned
  simp

@[simp] theorem State.tdisp_pending (s : State) (code : Nat) (tenant : Nat) (args : List Nat) : (State.tdisp s code tenant
    args).pending = s.pending := by
  unfold State.tdisp
  simp

@[simp] theorem State.tdispErr_pending (s : State) (tenant : Nat) : (State.tdispErr s tenant).pending = s.pending := by
  unfold State.tdispErr
  simp

@[simp] theorem State.tdiError_pending (s : State) (t : Nat) : (State.tdiError s t).pending = s.pending := by
  unfold State.tdiError
  simp

@[simp] theorem State.tdispFail_pending (s : State) (t : Nat) : (State.tdispFail s t).pending = s.pending := by
  unfold State.tdispFail
  simp

@[simp] theorem State.spdm_pending (s : State) (code : Nat) (args : List Nat) (data : List Byte) (signed : Option (List
    Byte)) : (State.spdm s code args data signed).pending = s.pending := by
  unfold State.spdm
  simp

@[simp] theorem State.spdmErr_pending (s : State) (code : Nat) : (State.spdmErr s code).pending = s.pending := by
  unfold State.spdmErr
  simp

@[simp] theorem State.spdmSigned_pending (s : State) (code : Nat) (args : List Nat) (data : List Byte) (nonce : List Byte) :
    (State.spdmSigned s code args data nonce).pending = s.pending := by
  unfold State.spdmSigned
  simp

@[simp] theorem State.tmeasGo_pending (s : State) (tenant : Nat) : (State.tmeasGo s tenant).pending = s.pending := by
  unfold State.tmeasGo
  simp

@[simp] theorem State.tmeasFail_pending (s : State) (t : Nat) (cause : Nat) : (State.tmeasFail s t cause).pending = s.pending
    := by
  unfold State.tmeasFail
  simp

@[simp] theorem State.wgtI0_pending (s : State) : (State.wgtI0 s).pending = s.pending := by
  unfold State.wgtI0
  simp

@[simp] theorem State.putRepair_pending (s : State) (vals : NMap Nat) : (State.putRepair s vals).pending = s.pending := by
  unfold State.putRepair
  simp

@[simp] theorem State.recordRepair_pending (s : State) (i : Nat) (x : Nat) : (State.recordRepair s i x).pending = s.pending
    := by
  unfold State.recordRepair
  (repeat' split) <;> simp

@[simp] theorem State.saveRepair_pending (s : State) : (State.saveRepair s).pending = s.pending := by
  unfold State.saveRepair
  (repeat' split) <;> simp

@[simp] theorem State.saveTrain_pending (s : State) (key : Nat) (x : Nat) : (State.saveTrain s key x).pending =
    s.pending := by
  unfold State.saveTrain
  simp

@[simp] theorem State.showField_pending (s : State) : (State.showField s).pending = s.pending := by
  unfold State.showField
  simp

@[simp] theorem State.zeroBuf_pending (s : State) : (State.zeroBuf s).pending = s.pending := by
  unfold State.zeroBuf
  simp

@[simp] theorem State.lcsEnd_pending (s : State) (r : Nat) : (State.lcsEnd s r).pending = s.pending := by
  unfold State.lcsEnd
  simp

@[simp] theorem State.wipe_pending (s : State) (bad : Bool) : (State.wipe s bad).pending = s.pending := by
  unfold State.wipe
  simp

@[simp] theorem State.transitTo_pending (s : State) (to_ : Nat) (fail : Nat) : (State.transitTo s to_ fail).1.pending =
    s.pending := by
  unfold State.transitTo
  dsimp only
  (repeat' split) <;> simp_all

@[simp] theorem State.lcsTransition_pending (s : State) (route : Nat) (to_ : Nat) (fail : Nat) (token : List Byte) :
    (State.lcsTransition s route to_ fail token).1.pending = s.pending := by
  unfold State.lcsTransition
  dsimp only
  (repeat' split) <;> simp_all

@[simp] theorem State.lcsRun_pending (s : State) (arg : Option Nat) (f : State → State × Nat) (hf : ∀ s , (f s ).1.pending =
    s.pending) : (State.lcsRun s arg f).pending = s.pending := by
  unfold State.lcsRun
  (repeat' split) <;> simp_all

@[simp] theorem State.doTransition_pending (s : State) (route : Nat) (to_ : Nat) (fail : Nat) (buf : List Byte) :
    (State.doTransition s route to_ fail buf).pending = s.pending := by
  unfold State.doTransition
  simp

@[simp] theorem State.lcsFuse_pending (s : State) (route : Nat) (id : Nat) (fail : Nat) (buf : List Byte) : (State.lcsFuse s
    route id fail buf).1.pending = s.pending := by
  unfold State.lcsFuse
  dsimp only
  (repeat' split) <;> simp_all

@[simp] theorem State.doFuse_pending (s : State) (route : Nat) (id : Nat) (fail : Nat) (buf : List Byte) : (State.doFuse s
    route id fail buf).pending = s.pending := by
  unfold State.doFuse
  simp

@[simp] theorem State.showNonce_pending (s : State) (n : Option (List Byte)) : (State.showNonce s n).pending = s.pending := by
  unfold State.showNonce
  simp

@[simp] theorem State.lcsChallenge_pending (s : State) : (State.lcsChallenge s).1.pending = s.pending := by
  unfold State.lcsChallenge
  dsimp only
  (repeat' split) <;> simp_all

@[simp] theorem State.challenge_pending (s : State) (route : Nat) : (State.challenge s route).pending = s.pending := by
  unfold State.challenge
  (repeat' split) <;> simp

@[simp] theorem State.lcsAuth_pending (s : State) (b : List Byte) : (State.lcsAuth s b).1.pending = s.pending := by
  unfold State.lcsAuth
  dsimp only
  (repeat' split) <;> simp_all

@[simp] theorem State.doAuth_pending (s : State) (route : Nat) (buf : List Byte) : (State.doAuth s route buf).pending =
    s.pending := by
  unfold State.doAuth
  simp

@[simp] theorem State.lcsRevoke_pending (s : State) : (State.lcsRevoke s).1.pending = s.pending := by
  unfold State.lcsRevoke
  (repeat' split) <;> simp

@[simp] theorem State.dbgRevoke_pending (s : State) (route : Nat) : (State.dbgRevoke s route).pending = s.pending := by
  unfold State.dbgRevoke
  (repeat' split) <;> simp

@[simp] theorem State.makeRec_pending (s : State) (x : ErrRep) : (State.makeRec s x).1.pending = s.pending := by
  unfold State.makeRec
  simp

@[simp] theorem State.logRec_pending (s : State) (r : ErrRec) : (State.logRec s r).pending = s.pending := by
  unfold State.logRec
  simp

@[simp] theorem State.logVisible_pending (s : State) : (State.logVisible s).pending = s.pending := by
  unfold State.logVisible
  simp

@[simp] theorem State.showErr_pending (s : State) : (State.showErr s).pending = s.pending := by
  unfold State.showErr
  simp

@[simp] theorem State.countOvf_pending (s : State) (block : Nat) : (State.countOvf s block).pending = s.pending := by
  unfold State.countOvf
  simp

@[simp] theorem State.queueFull_pending (s : State) (block : Nat) : (State.queueFull s block).pending = s.pending := by
  unfold State.queueFull
  simp

@[simp] theorem State.putBack_pending (s : State) : (State.putBack s).pending = s.pending := by
  unfold State.putBack
  dsimp only
  (repeat' split) <;> simp_all

@[simp] theorem State.takeNext_pending (s : State) : (State.takeNext s).pending = s.pending := by
  unfold State.takeNext
  (repeat' split) <;> simp

@[simp] theorem State.enqueue_pending (s : State) (x : ErrRep) : (State.enqueue s x).pending = s.pending := by
  unfold State.enqueue
  simp

@[simp] theorem State.fold_pending (s : State) (h : ErrRec) : (State.fold s h).pending = s.pending := by
  unfold State.fold
  simp

@[simp] theorem State.newRec_pending (s : State) (x : ErrRep) : (State.newRec s x).pending = s.pending := by
  unfold State.newRec
  (repeat' split) <;> simp

@[simp] theorem State.blockCap_pending (s : State) (block : Nat) (cause : Nat) (unit : Nat) : (State.blockCap s block
    cause unit).pending = s.pending := by
  unfold State.blockCap
  dsimp only
  (repeat' split) <;> simp

@[simp] theorem State.countCe_pending (s : State) (block : Nat) (unit : Nat) : (State.countCe s block unit).pending =
    s.pending := by
  unfold State.countCe
  (repeat' split) <;> simp

@[simp] theorem State.logOpen_pending (s : State) : (State.logOpen s).pending = s.pending := by
  unfold State.logOpen
  (repeat' split) <;> simp

@[simp] theorem State.clearCapture_pending (s : State) (key : Nat) : (State.clearCapture s key).pending = s.pending := by
  unfold State.clearCapture
  (repeat' split) <;> simp

@[simp] theorem State.showVariant_pending (s : State) : (State.showVariant s).pending = s.pending := by
  unfold State.showVariant
  simp

@[simp] theorem State.switchVar_pending (s : State) (p : Nat) (v : Nat) : (State.switchVar s p v).pending = s.pending := by
  unfold State.switchVar
  (repeat' split) <;> simp

@[simp] theorem State.degradePart_pending (s : State) (p : Nat) : (State.degradePart s p).pending = s.pending := by
  unfold State.degradePart
  dsimp only
  (repeat' split) <;> simp_all

@[simp] theorem State.setEff_pending (s : State) (g : GrantRec) (x : Nat) : (State.setEff s g x).pending = s.pending := by
  unfold State.setEff
  simp

@[simp] theorem State.takeFrom_pending (s : State) (z0 : Nat) (z1 : List GrantRec) : (State.takeFrom s z0 z1).pending =
    s.pending := by
  induction z1 generalizing s z0 with
  | nil => unfold State.takeFrom; rfl
  | cons g gs ih => unfold State.takeFrom; dsimp only; rw [ih]; split <;> simp

@[simp] theorem State.yieldAt_pending (s : State) (m : Manifest) (r : Nat) : (State.yieldAt s m r).pending = s.pending := by
  unfold State.yieldAt
  simp

@[simp] theorem State.restore_pending (s : State) (m : Manifest) (g : GrantRec) : (State.restore s m g).pending = s.pending
    := by
  unfold State.restore
  simp

@[simp] theorem State.restoreAll_pending (s : State) (m : Manifest) : (State.restoreAll s m).pending = s.pending := by
  unfold State.restoreAll
  exact foldl_pending _ (fun s x => by simp) _ _

@[simp] theorem State.showCap_pending (s : State) (m : Manifest) (cap : Nat → Nat) (r : Nat) : (State.showCap s m cap
    r).pending = s.pending := by
  unfold State.showCap
  simp

@[simp] theorem State.noteCaps_pending (s : State) (cap : Nat → Nat) : (State.noteCaps s cap).pending = s.pending := by
  unfold State.noteCaps
  simp

@[simp] theorem State.capsClose_pending (s : State) : (State.capsClose s).pending = s.pending := by
  unfold State.capsClose
  simp

@[simp] theorem State.capI2_pending (s : State) : (State.capI2 s).pending = s.pending := by
  unfold State.capI2
  (repeat' split) <;> simp

@[simp] theorem State.grantsI0_pending (s : State) (m : Manifest) : (State.grantsI0 s m).pending = s.pending := by
  unfold State.grantsI0
  simp

@[simp] theorem State.qosSnapshot_pending (s : State) (closed : Nat) : (State.qosSnapshot s closed).pending = s.pending := by
  unfold State.qosSnapshot
  simp

@[simp] theorem State.qosWipe_pending (s : State) : (State.qosWipe s).pending = s.pending := by
  unfold State.qosWipe
  simp

@[simp] theorem State.escalate_pending (s : State) (p : Nat) (q : Nat) : (State.escalate s p q).pending = s.pending := by
  unfold State.escalate
  simp

@[simp] theorem State.escalateAll_pending (s : State) : (State.escalateAll s).pending = s.pending := by
  unfold State.escalateAll
  simp

@[simp] theorem State.showScale_pending (s : State) : (State.showScale s).pending = s.pending := by
  unfold State.showScale
  simp

@[simp] theorem State.pwrCap_pending (s : State) (cause : Nat) : (State.pwrCap s cause).pending = s.pending := by
  unfold State.pwrCap
  simp

@[simp] theorem State.kaSwitch_pending (s : State) (src : Nat) : (State.kaSwitch s src).pending = s.pending := by
  unfold State.kaSwitch
  simp

@[simp] theorem State.kaShow_pending (s : State) (mvA : Nat) (mvB : Nat) : (State.kaShow s mvA mvB).pending = s.pending := by
  unfold State.kaShow
  simp

@[simp] theorem State.overAct_pending (s : State) (p : Nat) (energy : Bool) : (State.overAct s p energy).pending = s.pending
    := by
  unfold State.overAct
  simp

@[simp] theorem State.closePart_pending (s : State) (rails : List Nat) (tiles : List Nat) (r : PartRec) : (State.closePart s
    rails tiles r).pending = s.pending := by
  unfold State.closePart
  simp

@[simp] theorem State.askSetpoint_pending (s : State) : (State.askSetpoint s).pending = s.pending := by
  unfold State.askSetpoint
  simp

@[simp] theorem State.closeEnergy_pending (s : State) (rails : List Nat) (tiles : List Nat) (badMeter : Bool) :
    (State.closeEnergy s rails tiles badMeter).pending = s.pending := by
  unfold State.closeEnergy
  simp

@[simp] theorem State.leanOff_pending (s : State) (p : Nat) : (State.leanOff s p).pending = s.pending := by
  unfold State.leanOff
  simp

@[simp] theorem State.leanOn_pending (s : State) (p : Nat) : (State.leanOn s p).pending = s.pending := by
  unfold State.leanOn
  simp

@[simp] theorem State.forceI0_pending (s : State) : (State.forceI0 s).pending = s.pending := by
  unfold State.forceI0
  simp

@[simp] theorem State.guardI0_pending (s : State) : (State.guardI0 s).pending = s.pending := by
  unfold State.guardI0
  simp

@[simp] theorem State.thermI0_pending (s : State) : (State.thermI0 s).pending = s.pending := by
  unfold State.thermI0
  simp

@[simp] theorem State.powerI0_pending (s : State) (asked : Nat) : (State.powerI0 s asked).pending = s.pending := by
  unfold State.powerI0
  simp

@[simp] theorem State.leanEnd_pending (s : State) (mask : Nat) : (State.leanEnd s mask).pending = s.pending := by
  unfold State.leanEnd
  simp

@[simp] theorem State.pwrClr_pending (s : State) : (State.pwrClr s).pending = s.pending := by
  unfold State.pwrClr
  simp

@[simp] theorem State.teCap_pending (s : State) (tile : Nat) (phys : Nat) (cause : Nat) : (State.teCap s tile phys
    cause).pending = s.pending := by
  unfold State.teCap
  (repeat' split) <;> simp

@[simp] theorem State.laneFails_pending (s : State) (tile : Nat) (j : Nat) : (State.laneFails s tile j).pending =
    s.pending := by
  unfold State.laneFails
  (repeat' split) <;> simp

@[simp] theorem State.becomeFailing_pending (s : State) (tile : Nat) (phys : Nat) (cause : Nat) : (State.becomeFailing s tile
    phys cause).pending = s.pending := by
  unfold State.becomeFailing
  (repeat' split) <;> simp

@[simp] theorem State.markFailed_pending (s : State) (tile : Nat) (phys : Nat) : (State.markFailed s tile phys).pending =
    s.pending := by
  unfold State.markFailed
  simp

@[simp] theorem State.takeLane_pending (s : State) (tile : Nat) (j : Nat) : (State.takeLane s tile j).pending = s.pending := by
  unfold State.takeLane
  simp

@[simp] theorem State.loseLane_pending (s : State) (tile : Nat) (j : Nat) : (State.loseLane s tile j).pending = s.pending := by
  unfold State.loseLane
  simp

@[simp] theorem State.remapFailed_pending (s : State) (tile : Nat) : (State.remapFailed s tile).pending = s.pending := by
  unfold State.remapFailed
  simp

@[simp] theorem State.spareSpent_pending (s : State) (tile : Nat) : (State.spareSpent s tile).pending = s.pending := by
  unfold State.spareSpent
  simp

@[simp] theorem State.takeReq_pending (s : State) (tile : Nat) (j : Nat) : (State.takeReq s tile j).pending = s.pending := by
  unfold State.takeReq
  simp

@[simp] theorem State.returnReq_pending (s : State) (tile : Nat) (mask : Nat) : (State.returnReq s tile mask).pending =
    s.pending := by
  unfold State.returnReq
  (repeat' split) <;> simp

@[simp] theorem State.spareTile_pending (s : State) (tile : Nat) : (State.spareTile s tile).pending = s.pending := by
  unfold State.spareTile
  simp

@[simp] theorem State.sparing_pending (s : State) : (State.sparing s).pending = s.pending := by
  unfold State.sparing
  simp

@[simp] theorem State.spareShadow_pending (s : State) (tile : Nat) (f : Fld) (x : Nat) : (State.spareShadow s tile f
    x).pending = s.pending := by
  unfold State.spareShadow
  simp

@[simp] theorem State.clrFailed_pending (s : State) (tile : Nat) (mask : Nat) : (State.clrFailed s tile mask).pending =
    s.pending := by
  unfold State.clrFailed
  simp

@[simp] theorem State.decidePart_pending (s : State) (p : Nat) : (State.decidePart s p).pending = s.pending := by
  unfold State.decidePart
  simp

@[simp] theorem State.repeatI2_pending (s : State) (p : Nat) : (State.repeatI2 s p).pending = s.pending := by
  unfold State.repeatI2
  simp

@[simp] theorem State.manTo_pending (s : State) (x : Nat) : (State.manTo s x).pending = s.pending := by
  unfold State.manTo
  simp

@[simp] theorem State.showDigest_pending (s : State) (key : Nat → Nat) (d : Nat) : (State.showDigest s key d).pending =
    s.pending := by
  unfold State.showDigest
  simp

@[simp] theorem State.manResult_pending (s : State) (v : Verdict) (m : Option Manifest) : (State.manResult s v m).pending =
    s.pending := by
  unfold State.manResult
  simp

@[simp] theorem State.manDrop_pending (s : State) (result : Nat) : (State.manDrop s result).pending = s.pending := by
  unfold State.manDrop
  simp

@[simp] theorem State.stage_pending (s : State) : (State.stage s).pending = s.pending := by
  unfold State.stage
  simp

@[simp] theorem State.abandon_pending (s : State) : (State.abandon s).pending = s.pending := by
  unfold State.abandon
  simp

@[simp] theorem State.switchCmd_pending (s : State) : (State.switchCmd s).pending = s.pending := by
  unfold State.switchCmd
  simp

@[simp] theorem State.manCheck_pending (s : State) : (State.manCheck s).pending = s.pending := by
  unfold State.manCheck
  (repeat' split) <;> simp

@[simp] theorem State.ctxUndef_pending (s : State) (t : Nat) : (State.ctxUndef s t).pending = s.pending := by
  unfold State.ctxUndef
  simp

@[simp] theorem State.ctxReload_pending (s : State) (t : Nat) : (State.ctxReload s t).pending = s.pending := by
  unfold State.ctxReload
  simp

@[simp] theorem State.ctxOne_pending (s : State) (old : Manifest) (new : Manifest) (t : TenRec) : (State.ctxOne s old new
    t).pending = s.pending := by
  unfold State.ctxOne
  (repeat' split) <;> simp

@[simp] theorem State.ctxCross_pending (s : State) (old : Manifest) (new : Manifest) : (State.ctxCross s old new).pending =
    s.pending := by
  unfold State.ctxCross
  simp

@[simp] theorem State.firstKey_pending (s : State) (o : Nat) : (State.firstKey s o).pending = s.pending := by
  unfold State.firstKey
  simp

@[simp] theorem State.keysCross_pending (s : State) (old : Option Manifest) (new : Manifest) : (State.keysCross s old
    new).pending = s.pending := by
  unfold State.keysCross
  simp

@[simp] theorem State.fixedCross_pending (s : State) (m : Manifest) : (State.fixedCross s m).pending = s.pending := by
  unfold State.fixedCross
  simp

@[simp] theorem State.partsCross_pending (s : State) (m : Manifest) : (State.partsCross s m).pending = s.pending := by
  unfold State.partsCross
  simp

@[simp] theorem State.voyagesCross_pending (s : State) (m : Manifest) : (State.voyagesCross s m).pending = s.pending := by
  unfold State.voyagesCross
  simp

@[simp] theorem State.crossNow_pending (s : State) (m : Manifest) : (State.crossNow s m).pending = s.pending := by
  unfold State.crossNow
  dsimp only
  (repeat' split) <;> simp_all

@[simp] theorem State.ferryCrossing_pending (s : State) (m : Manifest) : (State.ferryCrossing s m).pending = s.pending := by
  unfold State.ferryCrossing
  (repeat' split) <;> simp

@[simp] theorem State.crossI2_pending (s : State) (due : Bool) (again : Verdict) : (State.crossI2 s due again).pending =
    s.pending := by
  unfold State.crossI2
  (repeat' split) <;> simp

@[simp] theorem State.underput_pending (s : State) (key : Nat) (f : Fld) (x : Nat) : (State.underput s key f x).pending
    = s.pending := by
  unfold State.underput
  simp

@[simp] theorem State.loadRegs_pending (s : State) (m : Manifest) : (State.loadRegs s m).pending = s.pending := by
  unfold State.loadRegs
  simp

@[simp] theorem State.enterTable_pending (s : State) (m : Manifest) (p : Nat) : (State.enterTable s m p).pending = s.pending
    := by
  unfold State.enterTable
  (repeat' split) <;> simp

@[simp] theorem State.crossI0_pending (s : State) : (State.crossI0 s).pending = s.pending := by
  unfold State.crossI0
  (repeat' split) <;> simp

@[simp] theorem State.crossShadow_pending (s : State) : (State.crossShadow s).pending = s.pending := by
  unfold State.crossShadow
  simp

@[simp] theorem State.setCh_pending (s : State) (p : Nat) (c : Nat) (st : Nat) (serves : Nat) : (State.setCh s p c st
    serves).pending = s.pending := by
  unfold State.setCh
  simp

@[simp] theorem State.showSpares_pending (s : State) (p : Nat) : (State.showSpares s p).pending = s.pending := by
  unfold State.showSpares
  simp

@[simp] theorem State.chInvalid_pending (s : State) (p : Nat) (lc : Nat) : (State.chInvalid s p lc).pending = s.pending := by
  unfold State.chInvalid
  simp

@[simp] theorem State.showChans_pending (s : State) (p : Nat) : (State.showChans s p).pending = s.pending := by
  unfold State.showChans
  simp

@[simp] theorem State.copyStart_pending (s : State) (p : Nat) (c : Nat) : (State.copyStart s p c).pending = s.pending := by
  unfold State.copyStart
  (repeat' split) <;> simp

@[simp] theorem State.copyNext_pending (s : State) (p : Nat) : (State.copyNext s p).pending = s.pending := by
  unfold State.copyNext
  (repeat' split) <;> simp

@[simp] theorem State.remapCh_pending (s : State) (p : Nat) (c : Nat) : (State.remapCh s p c).pending = s.pending := by
  unfold State.remapCh
  (repeat' split) <;> simp

@[simp] theorem State.copyAsk_pending (s : State) (p : Nat) (c : Nat) : (State.copyAsk s p c).pending = s.pending := by
  unfold State.copyAsk
  simp

@[simp] theorem State.chSilent_pending (s : State) (p : Nat) (c : Nat) : (State.chSilent s p c).pending = s.pending :=
    by
  unfold State.chSilent
  dsimp only
  (repeat' split) <;> simp_all

@[simp] theorem State.targetFail_pending (s : State) (p : Nat) (c : Nat) : (State.targetFail s p c).pending = s.pending
    := by
  unfold State.targetFail
  dsimp only
  (repeat' split) <;> simp_all

@[simp] theorem State.chFail_pending (s : State) (p : Nat) (c : Nat) (cause : Nat) (silent : Bool) : (State.chFail s p c
    cause silent).pending = s.pending := by
  unfold State.chFail
  simp

@[simp] theorem State.takeOut_pending (s : State) (p : Nat) (cause : Nat) : (State.takeOut s p cause).pending = s.pending := by
  unfold State.takeOut
  simp

@[simp] theorem State.stackShow_pending (s : State) (p : Nat) (y : Nat) : (State.stackShow s p y).pending = s.pending :=
    by
  unfold State.stackShow
  simp

@[simp] theorem State.lrsReset_pending (s : State) (p : Nat) (mism : Nat) : (State.lrsReset s p mism).pending = s.pending := by
  unfold State.lrsReset
  simp

@[simp] theorem State.lrsClr_pending (s : State) (p : Nat) : (State.lrsClr s p).pending = s.pending := by
  unfold State.lrsClr
  simp

@[simp] theorem State.lrsI0_pending (s : State) (p : Nat) : (State.lrsI0 s p).pending = s.pending := by
  unfold State.lrsI0
  dsimp only
  (repeat' split) <;> simp_all

@[simp] theorem State.takeCh_pending (s : State) (p : Nat) (x : Nat × Nat × Bool) : (State.takeCh s p x).pending = s.pending
    := by
  unfold State.takeCh
  simp

@[simp] theorem State.loseCh_pending (s : State) (p : Nat) (c : Nat) : (State.loseCh s p c).pending = s.pending := by
  unfold State.loseCh
  simp

@[simp] theorem State.freeI2_pending (s : State) (p : Nat) (c : Nat) : (State.freeI2 s p c).pending = s.pending := by
  unfold State.freeI2
  (repeat' split) <;> simp

@[simp] theorem State.lrsI2_pending (s : State) (p : Nat) : (State.lrsI2 s p).pending = s.pending := by
  unfold State.lrsI2
  simp

@[simp] theorem State.lineCe_pending (s : State) (l : Nat) : (State.lineCe s l).pending = s.pending := by
  unfold State.lineCe
  dsimp only
  (repeat' split) <;> simp_all

@[simp] theorem State.lineUe_pending (s : State) (l : Nat) (tenant : Option Nat) : (State.lineUe s l tenant).pending =
    s.pending := by
  unfold State.lineUe
  dsimp only
  (repeat' split) <;> simp_all

@[simp] theorem State.fabMsg_pending (s : State) (m : FMsg) : (State.fabMsg s m).pending = s.pending := by
  unfold State.fabMsg
  simp

@[simp] theorem State.reply_pending (s : State) (kind : Nat) (m : MemReq) (cause : Nat) (d : Line) (dmg : Bool) :
    (State.reply s kind m cause d dmg).pending = s.pending := by
  unfold State.reply
  simp

@[simp] theorem State.mdata_pending (s : State) (m : MemReq) (d : Line) : (State.mdata s m d).pending = s.pending := by
  unfold State.mdata
  simp

@[simp] theorem State.mwrAck_pending (s : State) (m : MemReq) : (State.mwrAck s m).pending = s.pending := by
  unfold State.mwrAck
  simp

@[simp] theorem State.fabErr_pending (s : State) (m : MemReq) (cause : Nat) : (State.fabErr s m cause).pending =
    s.pending := by
  unfold State.fabErr
  simp

@[simp] theorem State.mlost_pending (s : State) (m : MemReq) : (State.mlost s m).pending = s.pending := by
  unfold State.mlost
  simp

@[simp] theorem State.relayOne_pending (s : State) (r : RRead) : (State.relayOne s r).pending = s.pending := by
  unfold State.relayOne
  (repeat' split) <;> simp

@[simp] theorem State.relay_pending (s : State) : (State.relay s).pending = s.pending := by
  unfold State.relay
  simp

@[simp] theorem State.nodeAnswer_pending (s : State) (node : Nat) (tag : Nat) (d : Option (List Byte)) : (State.nodeAnswer s
    node tag d).pending = s.pending := by
  unfold State.nodeAnswer
  (repeat' split) <;> simp

@[simp] theorem State.ackOne_pending (s : State) (w : RWrite) (ok : Bool) : (State.ackOne s w ok).pending = s.pending :=
    by
  unfold State.ackOne
  simp

@[simp] theorem State.nodeAck_pending (s : State) (node : Nat) (tag : Nat) (ok : Bool) : (State.nodeAck s node tag
    ok).pending = s.pending := by
  unfold State.nodeAck
  (repeat' split) <;> simp

@[simp] theorem State.noData_pending (s : State) (r : LineRes) (m : MemReq) : (State.noData s r m).pending = s.pending
    := by
  unfold State.noData
  (repeat' split) <;> simp

@[simp] theorem State.memAbsent_pending (s : State) (m : MemReq) : (State.memAbsent s m).pending = s.pending := by
  unfold State.memAbsent
  (repeat' split) <;> simp

@[simp] theorem State.mrd_pending (s : State) (m : MemReq) : (State.mrd s m).pending = s.pending := by
  unfold State.mrd
  dsimp only
  (repeat' split) <;> simp_all

@[simp] theorem State.wrAnswer_pending (s : State) (r : LineRes) (m : MemReq) : (State.wrAnswer s r m).pending =
    s.pending := by
  cases r with
  | ok d => exact State.mwrAck_pending ..
  | lost => exact (State.fabErr_pending ..).trans (State.homeErr_pending ..)
  | _ => exact (State.mwrAck_pending ..).trans (State.homeErr_pending ..)

@[simp] theorem State.mwr_pending (s : State) (m : MemReq) : (State.mwr s m).pending = s.pending := by
  unfold State.mwr
  (repeat' split) <;> simp

@[simp] theorem State.memServe_pending (s : State) (m : MemReq) : (State.memServe s m).pending = s.pending := by
  unfold State.memServe
  (repeat' split) <;> simp

@[simp] theorem State.toCtrl_pending (s : State) (m : MemReq) : (State.toCtrl s m).pending = s.pending := by
  unfold State.toCtrl
  (repeat' split) <;> simp

@[simp] theorem State.memSend_pending (s : State) (m : MemReq) : (State.memSend s m).pending = s.pending := by
  unfold State.memSend
  (repeat' split) <;> simp

@[simp] theorem State.fabTake_pending (s : State) (m : FMsg) : (State.fabTake s m).pending = s.pending := by
  unfold State.fabTake
  simp

@[simp] theorem State.octCap_pending (s : State) (router : Nat) (cause : Nat) : (State.octCap s router cause).pending =
    s.pending := by
  unfold State.octCap
  simp

@[simp] theorem State.setPort_pending (s : State) (r : Nat) (p : Nat) (x : Nat) : (State.setPort s r p x).pending = s.pending
    := by
  unfold State.setPort
  simp

@[simp] theorem State.setLink_pending (s : State) (r : Nat) (p : Nat) (x : Nat) : (State.setLink s r p x).pending = s.pending
    := by
  unfold State.setLink
  (repeat' split) <;> simp

@[simp] theorem State.routeI2_pending (s : State) : (State.routeI2 s).pending = s.pending := by
  unfold State.routeI2
  (repeat' split) <;> simp

@[simp] theorem State.damage_pending (s : State) (router : Nat) (tag : Nat) : (State.damage s router tag).pending = s.pending
    := by
  unfold State.damage
  simp

@[simp] theorem State.deliver_pending (s : State) (z0 : HPkt) : (State.deliver s z0).pending = s.pending := by
  induction z0 generalizing s <;> (unfold State.deliver; simp_all)

@[simp] theorem State.domUp_pending (s : State) (d : Nat) : (State.domUp s d).pending = s.pending := by
  unfold State.domUp
  simp

@[simp] theorem State.flushTile_pending (s : State) (t : Nat) : (State.flushTile s t).pending = s.pending := by
  unfold State.flushTile
  simp

@[simp] theorem State.teSleep_pending (s : State) (x : Nat) : (State.teSleep s x).pending = s.pending := by
  unfold State.teSleep
  simp

@[simp] theorem State.sleepOne_pending (s : State) (wake : Nat → Bool) (d : Nat) : (State.sleepOne s wake d).pending =
    s.pending := by
  unfold State.sleepOne
  simp

@[simp] theorem State.teRest_pending (s : State) (k : Nat) : (State.teRest s k).pending = s.pending := by
  unfold State.teRest
  simp

@[simp] theorem State.sleepI0_pending (s : State) : (State.sleepI0 s).pending = s.pending := by
  rw [State.sleepI0]
  simp

@[simp] theorem State.wakeNext_pending (s : State) : (State.wakeNext s).pending = s.pending := by
  unfold State.wakeNext
  simp

@[simp] theorem State.showTc_pending (s : State) (p : Nat) (x : Nat) : (State.showTc s p x).pending = s.pending := by
  unfold State.showTc
  simp

@[simp] theorem State.teClr_pending (s : State) (k : Nat) : (State.teClr s k).pending = s.pending := by
  unfold State.teClr
  simp

@[simp] theorem State.teFlagsClr_pending (s : State) (k : Nat) : (State.teFlagsClr s k).pending = s.pending := by
  unfold State.teFlagsClr
  simp

@[simp] theorem State.resetI2_pending (s : State) : (State.resetI2 s).pending = s.pending := by
  unfold State.resetI2
  simp

@[simp] theorem State.prstAnswer_pending (s : State) (part : Nat) (dst : Nat) (tag : Nat) (qc : Nat) : (State.prstAnswer
    s part dst tag qc).pending = s.pending := by
  unfold State.prstAnswer
  simp

@[simp] theorem State.octClr_pending (s : State) : (State.octClr s).pending = s.pending := by
  unfold State.octClr
  simp

@[simp] theorem State.cohClr_pending (s : State) : (State.cohClr s).pending = s.pending := by
  unfold State.cohClr
  simp

@[simp] theorem State.tileClr_pending (s : State) (t : Nat) : (State.tileClr s t).pending = s.pending := by
  unfold State.tileClr
  simp

@[simp] theorem State.regimeI0_pending (s : State) : (State.regimeI0 s).pending = s.pending := by
  unfold State.regimeI0
  simp

@[simp] theorem State.rowI2_pending (s : State) : (State.rowI2 s).pending = s.pending := by
  unfold State.rowI2
  simp

@[simp] theorem State.wayLineLost_pending (s : State) (slice : Nat) (l : Nat) : (State.wayLineLost s slice l).pending =
    s.pending := by
  unfold State.wayLineLost
  simp

@[simp] theorem State.shrink_pending (s : State) (h : Nat) : (State.shrink s h).pending = s.pending := by
  unfold State.shrink
  simp

@[simp] theorem State.wayLose_pending (s : State) (slice : Nat) (way : Nat) : (State.wayLose s slice way).pending =
    s.pending := by
  unfold State.wayLose
  simp

@[simp] theorem State.wayI2_pending (s : State) : (State.wayI2 s).pending = s.pending := by
  unfold State.wayI2
  simp

@[simp] theorem State.fordCap_pending (s : State) (src : Nat) (dst : Nat) (cause : Nat) : (State.fordCap s src dst
    cause).pending = s.pending := by
  unfold State.fordCap
  simp

@[simp] theorem State.lateBoundary_pending (s : State) : (State.lateBoundary s).pending = s.pending := by
  unfold State.lateBoundary
  simp

@[simp] theorem State.domReady_pending (s : State) (d : Nat) : (State.domReady s d).pending = s.pending := by
  unfold State.domReady
  simp

@[simp] theorem State.fordClr_pending (s : State) : (State.fordClr s).pending = s.pending := by
  unfold State.fordClr
  simp

@[simp] theorem State.slipTo_pending (s : State) (v : Nat) (x : Nat) : (State.slipTo s v x).pending = s.pending := by
  unfold State.slipTo
  simp

@[simp] theorem State.readLost_pending (s : State) (r : RRead) (block : Nat) (cause : Nat) (unit : Nat) : (State.readLost s r
    block cause unit).pending = s.pending := by
  unfold State.readLost
  simp

@[simp] theorem State.failNode_pending (s : State) (node : Nat) (block : Nat) (cause : Nat) (unit : Nat) :
    (State.failNode s node block cause unit).pending = s.pending := by
  unfold State.failNode
  simp

@[simp] theorem State.slipDown_pending (s : State) (v : Nat) (cause : Nat) : (State.slipDown s v cause).pending = s.pending
    := by
  unfold State.slipDown
  simp

@[simp] theorem State.slipBreach_pending (s : State) (v : Nat) : (State.slipBreach s v).pending = s.pending := by
  unfold State.slipBreach
  simp

@[simp] theorem State.slipRetrain_pending (s : State) (v : Nat) : (State.slipRetrain s v).pending = s.pending := by
  unfold State.slipRetrain
  simp

@[simp] theorem State.windowsI0_pending (s : State) : (State.windowsI0 s).pending = s.pending := by
  unfold State.windowsI0
  simp

@[simp] theorem State.slipMsg_pending (s : State) (v : Nat) (h : OHdr) (kind : Nat) (cause : Nat) (d : Line) :
    (State.slipMsg s v h kind cause d).pending = s.pending := by
  unfold State.slipMsg
  simp

@[simp] theorem State.slipDeliver_pending (s : State) (v : Nat) (h : OHdr) (d : Line) : (State.slipDeliver s v h
    d).pending = s.pending := by
  unfold State.slipDeliver
  (repeat' split) <;> simp

@[simp] theorem State.slipPump_pending (s : State) (v : Nat) (z0 : Nat) : (State.slipPump s v z0).pending = s.pending := by
  induction z0 generalizing s with
  | zero => rfl
  | succ f ih => unfold State.slipPump; split <;> simp [ih]

@[simp] theorem State.slipHdr_pending (s : State) (v : Nat) (h : OHdr) : (State.slipHdr s v h).pending = s.pending := by
  unfold State.slipHdr
  simp

@[simp] theorem State.slipSlot_pending (s : State) (v : Nat) (n : Nat) : (State.slipSlot s v n).pending = s.pending := by
  unfold State.slipSlot
  (repeat' split) <;> simp

@[simp] theorem State.slipReplay_pending (s : State) (v : Nat) : (State.slipReplay s v).pending = s.pending := by
  unfold State.slipReplay
  simp

@[simp] theorem State.flitBad_pending (s : State) (v : Nat) : (State.flitBad s v).pending = s.pending := by
  unfold State.flitBad
  simp

@[simp] theorem State.slipResend_pending (s : State) (v : Nat) (fseq : Nat) : (State.slipResend s v fseq).pending = s.pending
    := by
  unfold State.slipResend
  simp

@[simp] theorem State.slipTrim_pending (s : State) (v : Nat) : (State.slipTrim s v).pending = s.pending := by
  unfold State.slipTrim
  simp

@[simp] theorem State.flitGood_pending (s : State) (v : Nat) (b : List Byte) (head : Bool) : (State.flitGood s v b
    head).pending = s.pending := by
  unfold State.flitGood
  simp

@[simp] theorem State.slipRate_pending (s : State) (v : Nat) (rate : Nat) (mods : Nat) : (State.slipRate s v rate
    mods).pending = s.pending := by
  unfold State.slipRate
  simp

@[simp] theorem State.slipTrain_pending (s : State) (v : Nat) : (State.slipTrain s v).pending = s.pending := by
  unfold State.slipTrain
  simp

@[simp] theorem State.slipRetry_pending (s : State) (v : Nat) : (State.slipRetry s v).pending = s.pending := by
  unfold State.slipRetry
  simp

@[simp] theorem State.showDesc_pending (s : State) (v : Nat) (b : List Byte) : (State.showDesc s v b).pending = s.pending := by
  unfold State.showDesc
  simp

@[simp] theorem State.trainSlip_pending (s : State) (v : Nat) (b : List Byte) : (State.trainSlip s v b).pending =
    s.pending := by
  unfold State.trainSlip
  simp

@[simp] theorem State.slipFound_pending (s : State) (v : Nat) (rate : Nat) (mods : Nat) (link : Bool) (b : List Byte) :
    (State.slipFound s v rate mods link b).1.pending = s.pending := by
  unfold State.slipFound
  simp

@[simp] theorem State.slipI2_pending (s : State) (v : Nat) : (State.slipI2 s v).pending = s.pending := by
  unfold State.slipI2
  simp

@[simp] theorem State.slipClr_pending (s : State) (slip : Nat) : (State.slipClr s slip).pending = s.pending := by
  unfold State.slipClr
  simp

@[simp] theorem State.enter_pending (s : State) (st : Stage) (off : Nat) (phase : Nat) : (State.enter s st off phase).pending
    = s.pending := by
  unfold State.enter
  simp

@[simp] theorem State.voidCtxs_pending (s : State) : (State.voidCtxs s).pending = s.pending := by
  unfold State.voidCtxs
  simp

@[simp] theorem State.voidLegs_pending (s : State) : (State.voidLegs s).pending = s.pending := by
  unfold State.voidLegs
  simp

@[simp] theorem State.issueRecs_pending (s : State) (l : List CmpRec) : (State.issueRecs s l).1.pending = s.pending :=
    by
  unfold State.issueRecs
  refine foldl_fst_pending _ (fun p o => ?_) l (s, 0, [])
  dsimp only
  split
  · split <;> simp
  · rfl

@[simp] theorem State.commitRecs_pending (s : State) (fit : Nat) : (State.commitRecs s fit).pending = s.pending := by
  unfold State.commitRecs
  (repeat' split) <;> simp

@[simp] theorem State.twinCommit_pending (s : State) : (State.twinCommit s).pending = s.pending := by
  unfold State.twinCommit
  simp

@[simp] theorem State.reissue_pending (s : State) : (State.reissue s).pending = s.pending := by
  unfold State.reissue
  simp

@[simp] theorem State.setPend_pending (s : State) (fn : Nat) (v : Nat) (x : Nat) : (State.setPend s fn v x).pending =
    s.pending := by
  unfold State.setPend
  simp

@[simp] theorem State.judge_pending (s : State) (fn : Nat) (v : Nat) : (State.judge s fn v).1.pending = s.pending := by
  unfold State.judge
  (repeat' split) <;> simp

@[simp] theorem State.judgeAll_pending (s : State) (l : List (Nat × Nat)) : (State.judgeAll s l).1.pending = s.pending
    := by
  unfold State.judgeAll
  simp

@[simp] theorem State.lateVecs_pending (s : State) (l : List (Nat × Nat)) : (State.lateVecs s l).pending = s.pending :=
    by
  unfold State.lateVecs
  simp

@[simp] theorem State.issueSpill_pending (s : State) (n : Nat) : (State.issueSpill s n).pending = s.pending := by
  unfold State.issueSpill
  simp

@[simp] theorem State.fire_pending (s : State) (o : Out) : (State.fire s o).1.pending = s.pending := by
  unfold State.fire
  dsimp only
  (repeat' split) <;> simp_all

@[simp] theorem State.fireAll_pending (s : State) (l : List Out) : (State.fireAll s l).1.pending = s.pending := by
  unfold State.fireAll
  simp

@[simp] theorem State.fireSpill_pending (s : State) (n : Nat) : (State.fireSpill s n).pending = s.pending := by
  unfold State.fireSpill
  (repeat' split) <;> simp

@[simp] theorem State.commitC1_pending (s : State) (fit : Nat) : (State.commitC1 s fit).pending = s.pending := by
  unfold State.commitC1
  simp

@[simp] theorem State.commitC2_pending (s : State) (fit : Nat) : (State.commitC2 s fit).pending = s.pending := by
  unfold State.commitC2
  simp

@[simp] theorem State.commitSpill_pending (s : State) (n : Nat) : (State.commitSpill s n).pending = s.pending := by
  unfold State.commitSpill
  simp

@[simp] theorem State.storeRemote_pending (s : State) (k : Nat) (id : Nat) (part : Nat) (tenant : Nat) (ps : List (Nat ×
    Nat × Nat)) : (State.storeRemote s k id part tenant ps).pending = s.pending := by
  unfold State.storeRemote
  simp

@[simp] theorem State.storeLog_pending (s : State) (key : Nat) (part : Nat) (l : List (Nat × List Byte)) : (State.storeLog s
    key part l).pending = s.pending := by
  unfold State.storeLog
  simp

@[simp] theorem State.movWait_pending (s : State) (k : Nat) (r : LegRun) : (State.movWait s k r).pending = s.pending :=
    by
  unfold State.movWait
  (repeat' split) <;> simp

@[simp] theorem State.movMem_pending (s : State) (k : Nat) (r : LegRun) (w : Nat) : (State.movMem s k r w).pending =
    s.pending := by
  unfold State.movMem
  dsimp only
  (repeat' split) <;> simp_all

@[simp] theorem State.issueMem_pending (s : State) (k : Nat) (op : Nat) : (State.issueMem s k op).pending = s.pending := by
  unfold State.issueMem
  (repeat' split) <;> simp

@[simp] theorem State.issueLocal_pending (s : State) (k : Nat) (op : Nat) : (State.issueLocal s k op).pending = s.pending := by
  unfold State.issueLocal
  (repeat' split) <;> simp

@[simp] theorem State.scatter_pending (s : State) (k : Nat) (z0 : List (Nat × Nat × Nat)) (z1 : List (List Byte × Bool)) :
    (State.scatter s k z0 z1).pending = s.pending := by
  induction z0 generalizing s z1 with
  | nil => unfold State.scatter; rfl
  | cons p rest ih =>
    obtain ⟨_, h, _⟩ := p
    cases z1 with
    | nil => rfl
    | cons x xs => unfold State.scatter; rw [ih]; split <;> simp

@[simp] theorem State.movFill_pending (s : State) (k : Nat) (part : Nat) (m : MovX) : (State.movFill s k part m).pending =
    s.pending := by
  unfold State.movFill
  simp

@[simp] theorem State.movSpill_pending (s : State) (k : Nat) (part : Nat) (m : MovX) : (State.movSpill s k part m).pending =
    s.pending := by
  unfold State.movSpill
  simp

@[simp] theorem State.movInside_pending (s : State) (k : Nat) (m : MovX) : (State.movInside s k m).pending = s.pending := by
  unfold State.movInside
  simp

@[simp] theorem State.movOpen_pending (s : State) (k : Nat) (m : MovX) : (State.movOpen s k m).pending = s.pending := by
  unfold State.movOpen
  (repeat' split) <;> simp

@[simp] theorem State.movDo_pending (s : State) (k : Nat) (part : Nat) (m : MovX) : (State.movDo s k part m).pending =
    s.pending := by
  unfold State.movDo
  simp

@[simp] theorem State.putElems_pending (s : State) (k : Nat) (a : Nat) (f : CFmt) (cs : List Nat) : (State.putElems s k a f
    cs).pending = s.pending := by
  unfold State.putElems
  (repeat' split) <;> simp

@[simp] theorem State.putScale_pending (s : State) (k : Nat) (a : Nat) (q : Option Nat) : (State.putScale s k a q).pending =
    s.pending := by
  unfold State.putScale
  (repeat' split) <;> simp

@[simp] theorem State.cvtDo_pending (s : State) (k : Nat) (rule : State → CvtI → CFmt → CFmt → List FVal → List Conv × Evts ×
    Option Nat) (r : LegRun) (w : Nat) : (State.cvtDo s k rule r w).1.pending = s.pending := by
  unfold State.cvtDo
  dsimp only
  (repeat' split) <;> simp_all

@[simp] theorem State.cvt_pending (s : State) (k : Nat) (op : Nat) (rule : State → CvtI → CFmt → CFmt → List FVal → List Conv
    × Evts × Option Nat) : (State.cvt s k op rule).pending = s.pending := by
  unfold State.cvt
  simp

@[simp] theorem State.cutIns_pending (s : State) (k : Nat) : (State.cutIns s k).pending = s.pending := by
  unfold State.cutIns
  (repeat' split) <;> simp

@[simp] theorem State.cutLeg_pending (s : State) (k : Nat) : (State.cutLeg s k).pending = s.pending := by
  unfold State.cutLeg
  dsimp only
  (repeat' split) <;> simp_all

@[simp] theorem State.takeBlock_pending (s : State) (k : Nat) : (State.takeBlock s k).pending = s.pending := by
  unfold State.takeBlock
  dsimp only
  (repeat' split) <;> simp_all

@[simp] theorem State.feed_pending (s : State) (k : Nat) (z0 : Nat) : (State.feed s k z0).pending = s.pending := by
  induction z0 generalizing s with
  | zero => rfl
  | succ f ih => unfold State.feed; simp [ih]

@[simp] theorem State.mmaStart_pending (s : State) (k : Nat) (cyc : Nat) (r : LegRun) (m : MmaI) (mm : MmaMode) (own :
    List StrBlk) : (State.mmaStart s k cyc r m mm own).pending = s.pending := by
  unfold State.mmaStart
  simp

@[simp] theorem State.streamOf_pending (s : State) (k : Nat) (r : LegRun) (z0 : List PfEntry) : (State.streamOf s k r
    z0).1.pending = s.pending := by
  induction z0 generalizing s with
  | nil => rfl
  | cons f fs ih =>
    unfold State.streamOf
    dsimp only
    (repeat' split) <;> simp [ih]

@[simp] theorem State.streamOn_pending (s : State) (k : Nat) (r : LegRun) : (State.streamOn s k r).pending = s.pending := by
  unfold State.streamOn
  simp

@[simp] theorem State.mmaIssue_pending (s : State) (k : Nat) (cyc : Nat) (r : LegRun) (w : Nat) : (State.mmaIssue s k
    cyc r w).pending = s.pending := by
  unfold State.mmaIssue
  dsimp only
  (repeat' split) <;> simp_all

@[simp] theorem State.mmaSkip_pending (s : State) (k : Nat) (r : LegRun) (w : Nat) : (State.mmaSkip s k r w).pending =
    s.pending := by
  unfold State.mmaSkip
  dsimp only
  (repeat' split) <;> simp_all

@[simp] theorem State.mma_pending (s : State) (k : Nat) (cyc : Nat) (op : Nat) : (State.mma s k cyc op).pending =
    s.pending := by
  unfold State.mma
  (repeat' split) <;> simp

@[simp] theorem State.transfer_pending (s : State) : (State.transfer s).pending = s.pending := by
  unfold State.transfer
  simp

@[simp] theorem State.intakeTakes_pending (s : State) : (State.intakeTakes s).pending = s.pending := by
  unfold State.intakeTakes
  simp

@[simp] theorem State.bindLoads_pending (s : State) : (State.bindLoads s).pending = s.pending := by
  unfold State.bindLoads
  simp

@[simp] theorem State.dropBinds_pending (s : State) (t : Nat) : (State.dropBinds s t).pending = s.pending := by
  unfold State.dropBinds
  simp

@[simp] theorem State.dropWgt_pending (s : State) (t : Nat) : (State.dropWgt s t).pending = s.pending := by
  unfold State.dropWgt
  simp

@[simp] theorem State.tearI0_pending (s : State) : (State.tearI0 s).pending = s.pending := by
  unfold State.tearI0
  simp

@[simp] theorem State.ltrIf_pending (s : State) (old : Nat) : (State.ltrIf s old).pending = s.pending := by
  unfold State.ltrIf
  simp

@[simp] theorem State.measI0_pending (s : State) : (State.measI0 s).pending = s.pending := by
  unfold State.measI0
  (repeat' split) <;> simp

@[simp] theorem State.vfReady_pending (s : State) : (State.vfReady s).pending = s.pending := by
  unfold State.vfReady
  simp

@[simp] theorem State.showSlot_pending (s : State) : (State.showSlot s).pending = s.pending := by
  unfold State.showSlot
  simp

@[simp] theorem State.intakeI0_pending (s : State) : (State.intakeI0 s).pending = s.pending := by
  rw [State.intakeI0]
  simp

@[simp] theorem State.edge_pending (s : State) (unfin : Bool) : (State.edge s unfin).pending = s.pending := by
  unfold State.edge
  simp

@[simp] theorem State.ferryBegin_pending (s : State) : (State.ferryBegin s).pending = s.pending := by
  unfold State.ferryBegin
  (repeat' split) <;> simp

@[simp] theorem State.intakeI2_pending (s : State) (unfin : Bool) : (State.intakeI2 s unfin).pending = s.pending := by
  unfold State.intakeI2
  simp

@[simp] theorem State.countLate_pending (s : State) : (State.countLate s).pending = s.pending := by
  unfold State.countLate
  simp

@[simp] theorem State.planLeg_pending (s : State) (p : Nat) (b : SlotBlk) (x : Nat × Nat × LegEntry) : (State.planLeg s p b
    x).pending = s.pending := by
  unfold State.planLeg
  dsimp only
  (repeat' split) <;> simp_all

@[simp] theorem State.countDefer_pending (s : State) (p : Nat) (b : SlotBlk) : (State.countDefer s p b).pending = s.pending
    := by
  unfold State.countDefer
  simp

@[simp] theorem State.carryOne_pending (s : State) (p : Nat) (b : SlotBlk) (e : LegEntry) : (State.carryOne s p b e).pending
    = s.pending := by
  unfold State.carryOne
  (repeat' split) <;> simp

@[simp] theorem State.carryCheck_pending (s : State) (p : Nat) (b : SlotBlk) : (State.carryCheck s p b).pending = s.pending
    := by
  unfold State.carryCheck
  simp

@[simp] theorem State.planPart_pending (s : State) (p : Nat) : (State.planPart s p).pending = s.pending := by
  unfold State.planPart
  (repeat' split) <;> simp

@[simp] theorem State.intakeI3_pending (s : State) (unfin : Bool) : (State.intakeI3 s unfin).pending = s.pending := by
  unfold State.intakeI3
  simp

@[simp] theorem State.teWake_pending (s : State) (k : Nat) : (State.teWake s k).pending = s.pending := by
  unfold State.teWake
  simp

@[simp] theorem State.startLeg_pending (s : State) (k : Nat) (x : LegPlan) : (State.startLeg s k x).pending = s.pending := by
  unfold State.startLeg
  (repeat' split) <;> simp

@[simp] theorem State.clearTE_pending (s : State) (k : Nat) : (State.clearTE s k).pending = s.pending := by
  unfold State.clearTE
  (repeat' split) <;> simp

@[simp] theorem State.nextLeg_pending (s : State) (k : Nat) : (State.nextLeg s k).pending = s.pending := by
  unfold State.nextLeg
  (repeat' split) <;> simp

@[simp] theorem State.declare_pending (s : State) (p : Nat) : (State.declare s p).pending = s.pending := by
  unfold State.declare
  simp

@[simp] theorem State.cleanStart_pending (s : State) : (State.cleanStart s).pending = s.pending := by
  unfold State.cleanStart
  simp

@[simp] theorem State.runStart_pending (s : State) : (State.runStart s).pending = s.pending := by
  unfold State.runStart
  simp

@[simp] theorem State.addCopy_pending (s : State) (x : CopyX) : (State.addCopy s x).pending = s.pending := by
  unfold State.addCopy
  simp

@[simp] theorem State.copyWalk_pending (s : State) (x : CopyX) : (State.copyWalk s x).pending = s.pending := by
  unfold State.copyWalk
  dsimp only
  (repeat' split) <;> simp_all

@[simp] theorem State.copyGo_pending (s : State) (x : CopyX) (r : LegRun) (sg : Region) (dg : Region) : (State.copyGo s
    x r sg dg).pending = s.pending := by
  unfold State.copyGo
  simp

@[simp] theorem State.copyIssue_pending (s : State) (p : Nat) (i : Nat) : (State.copyIssue s p i).pending = s.pending := by
  unfold State.copyIssue
  (repeat' split) <;> simp

@[simp] theorem State.copyEnd_pending (s : State) (x : CopyX) : (State.copyEnd s x).pending = s.pending := by
  unfold State.copyEnd
  simp

@[simp] theorem State.copyMove_pending (s : State) (x : CopyX) : (State.copyMove s x).pending = s.pending := by
  unfold State.copyMove
  simp

@[simp] theorem State.quietTe_pending (s : State) (k : Nat) : (State.quietTe s k).pending = s.pending := by
  unfold State.quietTe
  simp

@[simp] theorem State.quietStart_pending (s : State) : (State.quietStart s).pending = s.pending := by
  unfold State.quietStart
  simp

@[simp] theorem State.drainCheck_pending (s : State) (p : Nat) : (State.drainCheck s p).pending = s.pending := by
  unfold State.drainCheck
  simp

@[simp] theorem State.copiesClose_pending (s : State) : (State.copiesClose s).pending = s.pending := by
  unfold State.copiesClose
  simp

@[simp] theorem State.ferryEnd_pending (s : State) : (State.ferryEnd s).pending = s.pending := by
  unfold State.ferryEnd
  (repeat' split) <;> simp

@[simp] theorem State.closeSail_pending (s : State) : (State.closeSail s).pending = s.pending := by
  unfold State.closeSail
  simp

@[simp] theorem State.ferryRan_pending (s : State) : (State.ferryRan s).pending = s.pending := by
  unfold State.ferryRan
  simp

@[simp] theorem State.openSail_pending (s : State) : (State.openSail s).pending = s.pending := by
  unfold State.openSail
  simp

@[simp] theorem State.boundary_pending (s : State) (lateNs : Nat) (rails : List Nat) (tiles : List Nat) (badMeter : Bool) :
    (State.boundary s lateNs rails tiles badMeter).pending = s.pending := by
  unfold State.boundary
  simp

@[simp] theorem State.idleTick_pending (s : State) : (State.idleTick s).pending = s.pending := by
  unfold State.idleTick
  simp

@[simp] theorem State.ledgerAdd_pending (s : State) (unit : Nat) (monitor : Nat) (value : Nat) : (State.ledgerAdd s unit
    monitor value).pending = s.pending := by
  unfold State.ledgerAdd
  simp

@[simp] theorem State.defer_pending (s : State) (n : Nat) : (State.defer s n).pending = s.pending := by
  unfold State.defer
  simp

@[simp] theorem State.guardStep_pending (s : State) (up : Bool) : (State.guardStep s up).pending = s.pending := by
  unfold State.guardStep
  simp

@[simp] theorem State.slackDone_pending (s : State) : (State.slackDone s).pending = s.pending := by
  unfold State.slackDone
  (repeat' split) <;> simp

@[simp] theorem State.slackSeen_pending (s : State) (v : Nat) : (State.slackSeen s v).pending = s.pending := by
  unfold State.slackSeen
  simp

@[simp] theorem State.oscSeen_pending (s : State) (unit : Nat) (v : Nat) : (State.oscSeen s unit v).pending = s.pending := by
  unfold State.oscSeen
  dsimp only
  (repeat' split) <;> simp_all

@[simp] theorem State.canarySeen_pending (s : State) (unit : Nat) (v : Nat) : (State.canarySeen s unit v).pending = s.pending
    := by
  unfold State.canarySeen
  simp

@[simp] theorem State.eyeLow_pending (s : State) (link : Nat) (ch : Nat) : (State.eyeLow s link ch).pending = s.pending
    := by
  unfold State.eyeLow
  (repeat' split) <;> simp

@[simp] theorem State.fwStore_pending (s : State) (b : List Byte) : (State.fwStore s b).pending = s.pending := by
  unfold State.fwStore
  simp

@[simp] theorem State.waitFor_pending (s : State) (x : Nat) : (State.waitFor s x).pending = s.pending := by
  unfold State.waitFor
  simp

@[simp] theorem State.romRuns_pending (s : State) : (State.romRuns s).pending = s.pending := by
  unfold State.romRuns
  simp

@[simp] theorem State.fwStart_pending (s : State) : (State.fwStart s).pending = s.pending := by
  unfold State.fwStart
  simp

@[simp] theorem State.romVerdict_pending (s : State) (code : Nat) : (State.romVerdict s code).pending = s.pending := by
  unfold State.romVerdict
  simp

@[simp] theorem State.rcvDone_pending (s : State) (r : RRead) : (State.rcvDone s r).pending = s.pending := by
  unfold State.rcvDone
  simp

@[simp] theorem State.fwState_pending (s : State) (st : Nat) : (State.fwState s st).pending = s.pending := by
  unfold State.fwState
  simp

@[simp] theorem State.fwFail_pending (s : State) (code : Nat) : (State.fwFail s code).pending = s.pending := by
  unfold State.fwFail
  simp

@[simp] theorem State.fwLoadDone_pending (s : State) (r : RRead) : (State.fwLoadDone s r).pending = s.pending := by
  unfold State.fwLoadDone
  simp

@[simp] theorem State.imagesDone_pending (s : State) : (State.imagesDone s).pending = s.pending := by
  unfold State.imagesDone
  simp

@[simp] theorem State.rcvLoad_pending (s : State) : (State.rcvLoad s).pending = s.pending := by
  unfold State.rcvLoad
  simp

@[simp] theorem State.fwLoad_pending (s : State) : (State.fwLoad s).pending = s.pending := by
  unfold State.fwLoad
  simp

@[simp] theorem State.pciRegsReset_pending (s : State) (lo : Nat) (hi : Nat) : (State.pciRegsReset s lo hi).pending =
    s.pending := by
  unfold State.pciRegsReset
  simp

@[simp] theorem State.vfsOff_pending (s : State) : (State.vfsOff s).pending = s.pending := by
  unfold State.vfsOff
  simp

@[simp] theorem State.vfEnableClear_pending (s : State) : (State.vfEnableClear s).pending = s.pending := by
  unfold State.vfEnableClear
  simp

@[simp] theorem State.pf0Down_pending (s : State) : (State.pf0Down s).pending = s.pending := by
  unfold State.pf0Down
  simp

@[simp] theorem State.failHostReads_pending (s : State) : (State.failHostReads s).pending = s.pending := by
  unfold State.failHostReads
  simp

@[simp] theorem State.pcieDown_pending (s : State) (pin : Bool) : (State.pcieDown s pin).pending = s.pending := by
  unfold State.pcieDown
  simp

@[simp] theorem State.vfEnableSet_pending (s : State) : (State.vfEnableSet s).pending = s.pending := by
  unfold State.vfEnableSet
  simp

@[simp] theorem State.toD3_pending (s : State) : (State.toD3 s).pending = s.pending := by
  unfold State.toD3
  simp

@[simp] theorem State.stall_pending (s : State) (r : HostReq) : (State.stall s r).pending = s.pending := by
  unfold State.stall
  simp

@[simp] theorem State.cfgAsk_pending (s : State) (k : HReqK) (fn : Nat) (f : State → State) (hf : ∀ s , (f s ).pending =
    s.pending) : (State.cfgAsk s k fn f).pending = s.pending := by
  unfold State.cfgAsk
  simp
  (repeat' split) <;> simp_all

@[simp] theorem State.cfgEffect_pending (s : State) (fn : Nat) (o : Nat) (old : Nat) (new : Nat) : (State.cfgEffect s fn o
    old new).pending = s.pending := by
  unfold State.cfgEffect
  simp

@[simp] theorem State.cfgWrite_pending (s : State) (fn : Nat) (o : Nat) (b : Nat) (data : List Byte) : (State.cfgWrite s fn o
    b data).pending = s.pending := by
  unfold State.cfgWrite
  simp

@[simp] theorem State.cfgServe_pending (s : State) (r : HostReq) : (State.cfgServe s r).pending = s.pending := by
  unfold State.cfgServe
  simp

@[simp] theorem State.unsupported_pending (s : State) (r : HostReq) : (State.unsupported s r).pending = s.pending := by
  unfold State.unsupported
  simp

@[simp] theorem State.complete_pending (s : State) (r : HostReq) (d : List Byte) : (State.complete s r d).pending = s.pending
    := by
  unfold State.complete
  simp

@[simp] theorem State.bar2Bad_pending (s : State) (write : Bool) (x : Nat × LineRes) : (State.bar2Bad s write x).1.pending =
    s.pending := by
  unfold State.bar2Bad
  (repeat' split) <;> simp

@[simp] theorem State.bar2Bads_pending (s : State) (write : Bool) (l : List (Nat × LineRes)) : (State.bar2Bads s write
    l).1.pending = s.pending := by
  unfold State.bar2Bads
  simp

@[simp] theorem State.bar2Wait_pending (s : State) (r : HostReq) (ps : List (Nat × Nat)) : (State.bar2Wait s r
    ps).pending = s.pending := by
  unfold State.bar2Wait
  (repeat' split) <;> simp

@[simp] theorem State.bar2Train_pending (s : State) (pa : Nat) (n : Nat) : (State.bar2Train s pa n).pending = s.pending
    := by
  unfold State.bar2Train
  simp

@[simp] theorem State.bar2Serve_pending (s : State) (r : HostReq) : (State.bar2Serve s r).pending = s.pending := by
  unfold State.bar2Serve
  simp

@[simp] theorem State.putRead_pending (s : State) (old : RRead) (new : RRead) : (State.putRead s old new).pending = s.pending
    := by
  unfold State.putRead
  simp

@[simp] theorem State.afterTag_pending (s : State) : (State.afterTag s).pending = s.pending := by
  unfold State.afterTag
  simp

@[simp] theorem State.readFails_pending (s : State) (r : RRead) (tag : Nat) (cause : Nat) : (State.readFails s r tag
    cause).pending = s.pending := by
  unfold State.readFails
  simp

@[simp] theorem State.ferryRead_pending (s : State) (r : RRead) : (State.ferryRead s r).pending = s.pending := by
  unfold State.ferryRead
  simp

@[simp] theorem State.pieceIn_pending (s : State) (r : RRead) (x : Nat × Nat × Nat) (d : List Byte) : (State.pieceIn s r x
    d).pending = s.pending := by
  unfold State.pieceIn
  simp

@[simp] theorem State.cplAer_pending (s : State) (cause : Nat) : (State.cplAer s cause).pending = s.pending := by
  unfold State.cplAer
  simp

@[simp] theorem State.lateCpl_pending (s : State) (fn : Nat) (log : Bool) : (State.lateCpl s fn log).pending = s.pending := by
  unfold State.lateCpl
  simp

@[simp] theorem State.pciClr_pending (s : State) : (State.pciClr s).pending = s.pending := by
  unfold State.pciClr
  simp

@[simp] theorem State.showFuses_pending (s : State) : (State.showFuses s).pending = s.pending := by
  unfold State.showFuses
  simp

@[simp] theorem State.hubReset_pending (s : State) : (State.hubReset s).pending = s.pending := by
  unfold State.hubReset
  simp

@[simp] theorem State.beginStep_pending (s : State) (i : Nat) (ms : Nat) : (State.beginStep s i ms).pending = s.pending := by
  unfold State.beginStep
  simp

@[simp] theorem State.brgTo_pending (s : State) (st : Nat) : (State.brgTo s st).pending = s.pending := by
  unfold State.brgTo
  simp

@[simp] theorem State.candidate_pending (s : State) : (State.candidate s).pending = s.pending := by
  unfold State.candidate
  simp

@[simp] theorem State.noCandidate_pending (s : State) (v : Verdict) : (State.noCandidate s v).pending = s.pending := by
  unfold State.noCandidate
  simp

@[simp] theorem State.findCandidate_pending (s : State) : (State.findCandidate s).pending = s.pending := by
  unfold State.findCandidate
  dsimp only
  (repeat' split) <;> simp_all

@[simp] theorem State.holdSlip_pending (s : State) (v : Nat) : (State.holdSlip s v).pending = s.pending := by
  unfold State.holdSlip
  simp

@[simp] theorem State.enterHeld_pending (s : State) : (State.enterHeld s).pending = s.pending := by
  unfold State.enterHeld
  simp

@[simp] theorem State.restartTrain_pending (s : State) : (State.restartTrain s).pending = s.pending := by
  unfold State.restartTrain
  simp

@[simp] theorem State.brgRetry_pending (s : State) : (State.brgRetry s).pending = s.pending := by
  unfold State.brgRetry
  simp

@[simp] theorem State.fullNext_pending (s : State) : (State.fullNext s).pending = s.pending := by
  unfold State.fullNext
  simp

@[simp] theorem State.startTime_pending (s : State) : (State.startTime s).pending = s.pending := by
  unfold State.startTime
  simp

@[simp] theorem State.trainFabric_pending (s : State) : (State.trainFabric s).pending = s.pending := by
  unfold State.trainFabric
  simp

@[simp] theorem State.trainPorts_pending (s : State) (m : Manifest) : (State.trainPorts s m).pending = s.pending := by
  unfold State.trainPorts
  simp

@[simp] theorem State.trainStack_pending (s : State) (p : Nat) : (State.trainStack s p).pending = s.pending := by
  unfold State.trainStack
  simp

@[simp] theorem State.restoreReg_pending (s : State) (key : Nat) (v : Nat) : (State.restoreReg s key v).pending = s.pending
    := by
  unfold State.restoreReg
  (repeat' split) <;> simp

@[simp] theorem State.applyRepair_pending (s : State) : (State.applyRepair s).pending = s.pending := by
  rw [State.applyRepair]
  simp

@[simp] theorem State.testRow_pending (s : State) (x : Nat × Nat × Nat × Nat) (found : Bool) : (State.testRow s x
    found).pending = s.pending := by
  unfold State.testRow
  simp

@[simp] theorem State.testBank_pending (s : State) (v : Nat) (c : Nat) (b : Nat) : (State.testBank s v c b).pending =
    s.pending := by
  unfold State.testBank
  simp

@[simp] theorem State.testTe_pending (s : State) (tile : Nat) (phys : Nat) : (State.testTe s tile phys).pending = s.pending
    := by
  unfold State.testTe
  simp

@[simp] theorem State.testRepairs_pending (s : State) (rows : List (Nat × Nat × Nat × Nat × Bool)) (banks : List (Nat ×
    Nat × Nat)) (ways : List (Nat × Nat)) (tes : List (Nat × Nat)) (chans : List (Nat × Nat)) : (State.testRepairs s
    rows banks ways tes chans).pending = s.pending := by
  unfold State.testRepairs
  simp

@[simp] theorem State.clearLines_pending (s : State) : (State.clearLines s).pending = s.pending := by
  unfold State.clearLines
  simp

@[simp] theorem State.writeRepair_pending (s : State) (reason : Nat) (warm : Nat) (sample : Nat) : (State.writeRepair s
    reason warm sample).pending = s.pending := by
  unfold State.writeRepair
  simp

@[simp] theorem State.findStack_pending (s : State) (m : Manifest) (mism : List Nat) (p : Nat) : (State.findStack s m mism
    p).pending = s.pending := by
  unfold State.findStack
  simp

@[simp] theorem State.trainTwin_pending (s : State) (peer : Nat) : (State.trainTwin s peer).pending = s.pending := by
  unfold State.trainTwin
  simp

@[simp] theorem State.compareAll_pending (s : State) (m : Manifest) : (State.compareAll s m).pending = s.pending := by
  unfold State.compareAll
  dsimp only
  (repeat' split) <;> simp_all

@[simp] theorem State.fwActivate_pending (s : State) : (State.fwActivate s).pending = s.pending := by
  unfold State.fwActivate
  simp

@[simp] theorem State.handCheck_pending (s : State) : (State.handCheck s).pending = s.pending := by
  unfold State.handCheck
  simp

@[simp] theorem State.warmHandoff_pending (s : State) : (State.warmHandoff s).pending = s.pending := by
  unfold State.warmHandoff
  simp

@[simp] theorem State.watchdog_pending (s : State) : (State.watchdog s).pending = s.pending := by
  unfold State.watchdog
  simp

@[simp] theorem State.fwResume_pending (s : State) : (State.fwResume s).pending = s.pending := by
  unfold State.fwResume
  simp

@[simp] theorem State.twinErr_pending (s : State) (cls : Nat) (cause : Nat) : (State.twinErr s cls cause).pending = s.pending
    := by
  unfold State.twinErr
  simp

@[simp] theorem State.showBacklog_pending (s : State) : (State.showBacklog s).pending = s.pending := by
  unfold State.showBacklog
  simp

@[simp] theorem State.unpairAll_pending (s : State) : (State.unpairAll s).pending = s.pending := by
  unfold State.unpairAll
  simp

@[simp] theorem State.sendHello_pending (s : State) : (State.sendHello s).pending = s.pending := by
  unfold State.sendHello
  (repeat' split) <;> simp

@[simp] theorem State.twinCode_pending (s : State) (c : Nat) : (State.twinCode s c).pending = s.pending := by
  unfold State.twinCode
  simp

@[simp] theorem State.resync_pending (s : State) (p : Nat) : (State.resync s p).pending = s.pending := by
  unfold State.resync
  simp

@[simp] theorem State.pairPart_pending (s : State) (p : Nat) : (State.pairPart s p).pending = s.pending := by
  unfold State.pairPart
  simp

@[simp] theorem State.takeover_pending (s : State) : (State.takeover s).pending = s.pending := by
  unfold State.takeover
  simp

@[simp] theorem State.twinTakeover_pending (s : State) : (State.twinTakeover s).pending = s.pending := by
  unfold State.twinTakeover
  simp

@[simp] theorem State.twinDown_pending (s : State) : (State.twinDown s).pending = s.pending := by
  unfold State.twinDown
  simp

@[simp] theorem State.twinClr_pending (s : State) : (State.twinClr s).pending = s.pending := by
  unfold State.twinClr
  simp

@[simp] theorem State.mrsp_pending (s : State) (tag : Nat) (err : Nat) (d : List Byte) : (State.mrsp s tag err d).pending =
    s.pending := by
  unfold State.mrsp
  simp

@[simp] theorem State.mreqBad_pending (s : State) (x : Nat × LineRes) : (State.mreqBad s x).pending = s.pending := by
  unfold State.mreqBad
  (repeat' split) <;> simp

@[simp] theorem State.mreq_pending (s : State) (write : Bool) (pa : Nat) (len : Nat) (tag : Nat) (data : List Byte) :
    (State.mreq s write pa len tag data).pending = s.pending := by
  unfold State.mreq
  simp

@[simp] theorem State.diverge_pending (s : State) (p : Nat) (told : Bool) : (State.diverge s p told).pending = s.pending := by
  unfold State.diverge
  simp

@[simp] theorem State.sendAck_pending (s : State) (n : Nat) : (State.sendAck s n).pending = s.pending := by
  unfold State.sendAck
  simp

@[simp] theorem State.liveWrite_pending (s : State) (key : Nat) (w : Word) : (State.liveWrite s key w).pending = s.pending := by
  unfold State.liveWrite
  simp

@[simp] theorem State.shadowWrite_pending (s : State) (key : Nat) (v : Word) (m : Word) : (State.shadowWrite s key v
    m).pending = s.pending := by
  unfold State.shadowWrite
  simp

@[simp] theorem State.fieldWrite_pending (s : State) (key : Nat) (mask : Word) (v : Word) (f : RegField) : (State.fieldWrite
    s key mask v f).pending = s.pending := by
  unfold State.fieldWrite
  (repeat' split) <;> simp

@[simp] theorem State.qClr_pending (s : State) : (State.qClr s).pending = s.pending := by
  unfold State.qClr
  simp

@[simp] theorem State.manCmd_pending (s : State) (v : Nat) : (State.manCmd s v).pending = s.pending := by
  unfold State.manCmd
  simp

@[simp] theorem State.lcsCmd_pending (s : State) (op : Nat) : (State.lcsCmd s op).pending = s.pending := by
  unfold State.lcsCmd
  simp

@[simp] theorem State.keyCmd_pending (s : State) (v : Nat) : (State.keyCmd s v).pending = s.pending := by
  unfold State.keyCmd
  simp

@[simp] theorem State.lrsCmd_pending (s : State) (p : Nat) (v : Nat) : (State.lrsCmd s p v).pending = s.pending := by
  unfold State.lrsCmd
  simp

@[simp] theorem State.twinCmd_pending (s : State) (v : Nat) : (State.twinCmd s v).pending = s.pending := by
  unfold State.twinCmd
  simp

@[simp] theorem State.onBit_pending (s : State) (v : Nat) (i : Nat) (f : State → State) (hf : ∀ s, (f s).pending = s.pending)
    : (State.onBit s v i f).pending = s.pending := by
  unfold State.onBit
  simp [*]

@[simp] theorem State.regEffect_pending (s : State) (n : RegName) (idx : List Nat) (key : Nat) (v : Nat) (half : Bool) :
    (State.regEffect s n idx key v half).pending = s.pending := by
  unfold State.regEffect
  (repeat' split) <;> simp

@[simp] theorem State.ferryReg_pending (s : State) (n : RegName) (idx : List Nat) (key : Nat) : (State.ferryReg s n idx
    key).pending = s.pending := by
  unfold State.ferryReg
  (repeat' split) <;> simp

@[simp] theorem State.regPut_pending (s : State) (o : Nat) (mask : Word) (v : Word) (half : Bool) : (State.regPut s o mask v
    half).pending = s.pending := by
  unfold State.regPut
  (repeat' split) <;> simp

@[simp] theorem State.regWrite_pending (s : State) (off : Nat) (size : Nat) (value : Nat) : (State.regWrite s off size
    value).pending = s.pending := by
  unfold State.regWrite
  simp

@[simp] theorem State.regUse_pending (s : State) (off : Nat) : (State.regUse s off).pending = s.pending := by
  unfold State.regUse
  (repeat' split) <;> simp

@[simp] theorem State.regRefuse_pending (s : State) (r : RegReq) : (State.regRefuse s r).pending = s.pending := by
  unfold State.regRefuse
  (repeat' split) <;> simp

@[simp] theorem State.regTake_pending (s : State) (r : RegReq) : (State.regTake s r).pending = s.pending := by
  unfold State.regTake
  simp

@[simp] theorem State.regGo_pending (s : State) (r : RegReq) : (State.regGo s r).pending = s.pending := by
  unfold State.regGo
  (repeat' split) <;> simp

@[simp] theorem State.regLand_pending (s : State) (r : RegReq) : (State.regLand s r).pending = s.pending := by
  unfold State.regLand
  simp

@[simp] theorem State.regPoll_pending (s : State) : (State.regPoll s).pending = s.pending := by
  unfold State.regPoll
  (repeat' split) <;> simp

@[simp] theorem State.regSend_pending (s : State) (r : RegReq) : (State.regSend s r).pending = s.pending := by
  unfold State.regSend
  simp

@[simp] theorem State.regNow_pending (s : State) (r : RegReq) : (State.regNow s r).pending = s.pending := by
  unfold State.regNow
  (repeat' split) <;> simp

@[simp] theorem State.regDone_pending (s : State) (r : RegReq) : (State.regDone s r).pending = s.pending := by
  unfold State.regDone
  (repeat' split) <;> simp

@[simp] theorem State.regReadMsgs_pending (s : State) (src : Nat) (tag : Nat) (off : Nat) (n : Nat) : (State.regReadMsgs
    s src tag off n).pending = s.pending := by
  unfold State.regReadMsgs
  (repeat' split) <;> simp

@[simp] theorem State.regWake_pending (s : State) (off : Nat) : (State.regWake s off).pending = s.pending := by
  unfold State.regWake
  (repeat' split) <;> simp

@[simp] theorem State.land_pending (s : State) (z0 : HPkt) : (State.land s z0).pending = s.pending := by
  induction z0 generalizing s <;> (unfold State.land; (repeat' split) <;> simp_all)

@[simp] theorem State.landAll_pending (s : State) : (State.landAll s).pending = s.pending := by
  unfold State.landAll
  simp

@[simp] theorem State.fabCycle_pending (s : State) : (State.fabCycle s).pending = s.pending := by
  unfold State.fabCycle
  simp

@[simp] theorem State.prst_pending (s : State) (r : HostReq) : (State.prst s r).pending = s.pending := by
  unfold State.prst
  simp

@[simp] theorem State.vfWrite_pending (s : State) (t : Nat) (off : Nat) (data : List Byte) : (State.vfWrite s t off
    data).pending = s.pending := by
  unfold State.vfWrite
  simp

@[simp] theorem State.bar0Pf_pending (s : State) (r : HostReq) : (State.bar0Pf s r).pending = s.pending := by
  unfold State.bar0Pf
  simp

@[simp] theorem State.bar0Vf_pending (s : State) (r : HostReq) : (State.bar0Vf s r).pending = s.pending := by
  unfold State.bar0Vf
  simp

@[simp] theorem State.bar0Serve_pending (s : State) (r : HostReq) : (State.bar0Serve s r).pending = s.pending := by
  unfold State.bar0Serve
  simp

@[simp] theorem State.switchRegs_pending (s : State) (b : List Byte) (z0 : Nat) : (State.switchRegs s b z0).pending =
    s.pending := by
  induction z0 generalizing s b with
  | zero => rfl
  | succ f ih => unfold State.switchRegs; simp [ih]

@[simp] theorem State.switchProgs_pending (s : State) (b : List Byte) (z0 : Nat) : (State.switchProgs s b z0).pending =
    s.pending := by
  induction z0 generalizing s b with
  | zero => rfl
  | succ f ih => unfold State.switchProgs; dsimp only; rw [ih]

@[simp] theorem State.switchRings_pending (s : State) (p : Nat) : (State.switchRings s p).pending = s.pending := by
  unfold State.switchRings
  simp

@[simp] theorem State.switchIn_pending (s : State) (e : FEntry) : (State.switchIn s e).pending = s.pending := by
  unfold State.switchIn
  simp

@[simp] theorem State.ferrySlots_pending (s : State) (e : FEntry) : (State.ferrySlots s e).pending = s.pending := by
  unfold State.ferrySlots
  simp

@[simp] theorem State.ferryCross_pending (s : State) (n : Nat) (e : FEntry) : (State.ferryCross s n e).pending = s.pending := by
  unfold State.ferryCross
  simp

@[simp] theorem State.ferryDigest_pending (s : State) (e : FEntry) : (State.ferryDigest s e).pending = s.pending := by
  unfold State.ferryDigest
  (repeat' split) <;> simp

@[simp] theorem State.ferryIssued_pending (s : State) (e : FEntry) : (State.ferryIssued s e).pending = s.pending := by
  unfold State.ferryIssued
  simp

@[simp] theorem State.ferryEntry_pending (s : State) (n : Nat) (e : FEntry) : (State.ferryEntry s n e).pending = s.pending := by
  unfold State.ferryEntry
  simp

@[simp] theorem State.trim_pending (s : State) : (State.trim s).pending = s.pending := by
  unfold State.trim
  simp

@[simp] theorem State.ferryRun_pending (s : State) : (State.ferryRun s).pending = s.pending := by
  unfold State.ferryRun
  (repeat' split) <;> simp

@[simp] theorem State.slipErrTo_pending (s : State) (v : Nat) (q : SReq) (cause : Nat) : (State.slipErrTo s v q
    cause).pending = s.pending := by
  unfold State.slipErrTo
  simp

@[simp] theorem State.slipAbsent_pending (s : State) (v : Nat) (q : SReq) (pa : Nat) : (State.slipAbsent s v q pa).pending =
    s.pending := by
  unfold State.slipAbsent
  simp

@[simp] theorem State.slipRegs_pending (s : State) (v : Nat) (q : SReq) : (State.slipRegs s v q).pending = s.pending :=
    by
  unfold State.slipRegs
  simp
  (repeat' split) <;> simp_all

@[simp] theorem State.slipServe_pending (s : State) (v : Nat) (q : SReq) : (State.slipServe s v q).pending = s.pending := by
  unfold State.slipServe
  (repeat' split) <;> simp

@[simp] theorem State.release_pending (s : State) (r : HostReq) : (State.release s r).pending = s.pending := by
  unfold State.release
  (repeat' split) <;> simp

@[simp] theorem State.retryHost_pending (s : State) : (State.retryHost s).pending = s.pending := by
  unfold State.retryHost
  simp

@[simp] theorem State.idle_pending (s : State) : (State.idle s).pending = s.pending := by
  unfold State.idle
  simp

@[simp] theorem State.vecOp_pending (s : State) (k : Nat) (func : Nat) (f : Bool → Nat → Nat → Nat → Nat) : (State.vecOp s k
    func f).pending = s.pending := by
  unfold State.vecOp
  simp

@[simp] theorem State.rand_pending (s : State) (k : Nat) (func : Nat) (f : Nat → Nat) : (State.rand s k func f).pending =
    s.pending := by
  unfold State.rand
  simp

@[simp] theorem State.arrive_pending (s : State) (k : Nat) (mask : Nat) (bid : Nat) : (State.arrive s k mask bid).pending =
    s.pending := by
  unfold State.arrive
  (repeat' split) <;> simp

@[simp] theorem State.predOp_pending (s : State) (k : Nat) (op : Nat) (hold : PredI → List (Nat × Nat)) (f : State → PredI →
    LegRun → Bool) : (State.predOp s k op hold f).pending = s.pending := by
  unfold State.predOp
  simp

@[simp] theorem State.red_pending (s : State) (k : Nat) (op : Nat) (f : State → RedI → List Nat → List Nat × List Nat) :
    (State.red s k op f).pending = s.pending := by
  unfold State.red
  simp

@[simp] theorem State.tapSelect_pending (s : State) (code : Nat) (ok : Bool) (f : State → State) (hf : ∀ s, (f s).pending =
    s.pending) : (State.tapSelect s code ok f).pending = s.pending := by
  unfold State.tapSelect
  simp [*]

@[simp] theorem State.tapLcsCmd_pending (s : State) (data : Nat) : (State.tapLcsCmd s data).pending = s.pending := by
  unfold State.tapLcsCmd
  simp

end Sys2Proof.Machine
end

