-- ==== Sys2Proof/Laws/Regs.lean ====
section
/-! SUPPORT. What a register reads after the hub has set one: the field set, the other fields of the register, the other
registers. -/

namespace Sys2Proof.Machine

/-- Registers depend on their table alone. -/
theorem State.rv_of_regs {s t : State} (h : t.regs = s.regs) (k : Nat) : t.rv k = s.rv k := by
  unfold State.rv; rw [h]

theorem State.rf_of_regs {s t : State} (h : t.regs = s.regs) (k : Nat) (f : Fld) : t.rf k f = s.rf k f := by
  unfold State.rf; rw [State.rv_of_regs h]

@[simp] theorem State.rv_rset_same (s : State) (k : Nat) (f : Fld) (x : Nat) :
    (s.rset k f x).rv k = fset (s.rv k) f x := by
  unfold State.rset State.rv; simp

theorem State.rv_rset_ne (s : State) {k j : Nat} (f : Fld) (x : Nat) (h : k ≠ j) : (s.rset k f x).rv j = s.rv j := by
  unfold State.rset State.rv; simp [mget_mput_ne _ _ h]

theorem State.rf_rset_same (s : State) (k : Nat) (f : Fld) (x : Nat) (h : f.lo + f.w ≤ 64) :
    (s.rset k f x).rf k f = x % 2 ^ f.w := by
  unfold State.rf; rw [State.rv_rset_same, fget_fset _ _ _ h]

theorem State.rf_rset_fld (s : State) (k : Nat) (f g : Fld) (x : Nat) (hf : f.lo + f.w ≤ 64)
    (h : g.lo + g.w ≤ f.lo ∨ f.lo + f.w ≤ g.lo) : (s.rset k f x).rf k g = s.rf k g := by
  unfold State.rf; rw [State.rv_rset_same, fget_fset_ne _ _ _ _ hf h]

theorem State.rf_rset_ne (s : State) {k j : Nat} (f g : Fld) (x : Nat) (h : k ≠ j) :
    (s.rset k f x).rf j g = s.rf j g := by
  unfold State.rf; rw [State.rv_rset_ne _ _ _ h]

theorem State.rf_radd_same (s : State) (k : Nat) (f : Fld) (n : Nat) (h : f.lo + f.w ≤ 64) :
    (s.radd k f n).rf k f = satAdd (s.rf k f) n (2 ^ f.w - 1) % 2 ^ f.w := s.rf_rset_same k f _ h

theorem State.rv_radd_ne (s : State) {k j : Nat} (f : Fld) (n : Nat) (h : k ≠ j) : (s.radd k f n).rv j = s.rv j :=
  s.rv_rset_ne f _ h

end Sys2Proof.Machine
end

