-- ==== Sys2Proof/Laws/Sail.lean ====
section
/-! SUPPORT. SAIL_NUM stays through everything a boundary does but the count itself: one lemma per operation that a boundary calls. -/

namespace Sys2Proof.Machine

@[simp] theorem ite_sail (c : Prop) [Decidable c] (a b : State) :
    (if c then a else b).sail = if c then a.sail else b.sail := by split <;> rfl

@[simp] theorem foldl_sail {α : Type} (f : State → α → State) (h : ∀ s x, (f s x).sail = s.sail) (l : List α)
    (s : State) : (l.foldl f s).sail = s.sail := by
  induction l generalizing s with
  | nil => rfl
  | cons x l ih => rw [List.foldl_cons, ih, h]

@[simp] theorem foldl_fst_sail {α β : Type} (f : State × β → α → State × β)
    (h : ∀ p x, (f p x).1.sail = p.1.sail) (l : List α) (p : State × β) :
    (l.foldl f p).1.sail = p.1.sail := by
  induction l generalizing p with
  | nil => rfl
  | cons x l ih => rw [List.foldl_cons, ih, h]

@[simp] theorem R.glbId_ne  : R.glbId  ≠ R.sailNum := by unfold R.glbId R.sailNum; omega
@[simp] theorem R.sailPeriod_ne  : R.sailPeriod  ≠ R.sailNum := by unfold R.sailPeriod R.sailNum; omega
@[simp] theorem R.sailStatus_ne  : R.sailStatus  ≠ R.sailNum := by unfold R.sailStatus R.sailNum; omega
@[simp] theorem R.sailEvent_ne  : R.sailEvent  ≠ R.sailNum := by unfold R.sailEvent R.sailNum; omega
@[simp] theorem R.sailOvrCnt_ne  : R.sailOvrCnt  ≠ R.sailNum := by unfold R.sailOvrCnt R.sailNum; omega
@[simp] theorem R.sailSpillCnt_ne  : R.sailSpillCnt  ≠ R.sailNum := by unfold R.sailSpillCnt R.sailNum; omega
@[simp] theorem R.sailLag_ne  (i : Nat) : R.sailLag i ≠ R.sailNum := by unfold R.sailLag R.sailNum; omega
@[simp] theorem R.teStatus_ne  (i : Nat) : R.teStatus i ≠ R.sailNum := by unfold R.teStatus R.sailNum; omega
@[simp] theorem R.teFlags_ne  (i : Nat) : R.teFlags i ≠ R.sailNum := by unfold R.teFlags R.sailNum; omega
@[simp] theorem R.teCvtCnt_ne  (i : Nat) : R.teCvtCnt i ≠ R.sailNum := by unfold R.teCvtCnt R.sailNum; omega
@[simp] theorem R.teNumCnt_ne  (i : Nat) : R.teNumCnt i ≠ R.sailNum := by unfold R.teNumCnt R.sailNum; omega
@[simp] theorem R.tePerfBusy_ne  (i : Nat) : R.tePerfBusy i ≠ R.sailNum := by unfold R.tePerfBusy R.sailNum; omega
@[simp] theorem R.tePerfStall_ne  (i : Nat) : R.tePerfStall i ≠ R.sailNum := by unfold R.tePerfStall R.sailNum; omega
@[simp] theorem R.tePerfWs_ne  (i : Nat) : R.tePerfWs i ≠ R.sailNum := by unfold R.tePerfWs R.sailNum; omega
@[simp] theorem R.teErr_ne  (i : Nat) : R.teErr i ≠ R.sailNum := by unfold R.teErr R.sailNum; omega
@[simp] theorem R.teSpare_ne  (i : Nat) : R.teSpare i ≠ R.sailNum := by unfold R.teSpare R.sailNum; omega
@[simp] theorem R.teCtl_ne  (i : Nat) : R.teCtl i ≠ R.sailNum := by unfold R.teCtl R.sailNum; omega
@[simp] theorem R.teRng_ne  (i : Nat) : R.teRng i ≠ R.sailNum := by unfold R.teRng R.sailNum; omega
@[simp] theorem R.tileStatus_ne  (i : Nat) : R.tileStatus i ≠ R.sailNum := by unfold R.tileStatus R.sailNum; omega
@[simp] theorem R.tileVmap_ne  (i : Nat) : R.tileVmap i ≠ R.sailNum := by unfold R.tileVmap R.sailNum; omega
@[simp] theorem R.tileVrepair_ne  (i : Nat) : R.tileVrepair i ≠ R.sailNum := by unfold R.tileVrepair R.sailNum; omega
@[simp] theorem R.tileLlcSpare_ne  (i : Nat) : R.tileLlcSpare i ≠ R.sailNum := by unfold R.tileLlcSpare R.sailNum; omega
@[simp] theorem R.tileSpfCtl_ne  (i : Nat) : R.tileSpfCtl i ≠ R.sailNum := by unfold R.tileSpfCtl R.sailNum; omega
@[simp] theorem R.tilePfCnt_ne  (i : Nat) : R.tilePfCnt i ≠ R.sailNum := by unfold R.tilePfCnt R.sailNum; omega
@[simp] theorem R.tileSpfCnt_ne  (i : Nat) : R.tileSpfCnt i ≠ R.sailNum := by unfold R.tileSpfCnt R.sailNum; omega
@[simp] theorem R.tilePerfLlc_ne  (i : Nat) : R.tilePerfLlc i ≠ R.sailNum := by unfold R.tilePerfLlc R.sailNum; omega
@[simp] theorem R.tileErr_ne  (i : Nat) : R.tileErr i ≠ R.sailNum := by unfold R.tileErr R.sailNum; omega
@[simp] theorem R.tileCtl_ne  (i : Nat) : R.tileCtl i ≠ R.sailNum := by unfold R.tileCtl R.sailNum; omega
@[simp] theorem R.glbDecode_ne  : R.glbDecode  ≠ R.sailNum := by unfold R.glbDecode R.sailNum; omega
@[simp] theorem R.dtuInvAck_ne  (i : Nat) : R.dtuInvAck i ≠ R.sailNum := by unfold R.dtuInvAck R.sailNum; omega
@[simp] theorem R.dtuAckAddr_ne  (i : Nat) : R.dtuAckAddr i ≠ R.sailNum := by unfold R.dtuAckAddr R.sailNum; omega
@[simp] theorem R.dtuCtxRoot_ne  (i : Nat) : R.dtuCtxRoot i ≠ R.sailNum := by unfold R.dtuCtxRoot R.sailNum; omega
@[simp] theorem R.dtuCtxCfg_ne  (i : Nat) : R.dtuCtxCfg i ≠ R.sailNum := by unfold R.dtuCtxCfg R.sailNum; omega
@[simp] theorem R.dtuFqStatus_ne  : R.dtuFqStatus  ≠ R.sailNum := by unfold R.dtuFqStatus R.sailNum; omega
@[simp] theorem R.dtuAtsStatus_ne  : R.dtuAtsStatus  ≠ R.sailNum := by unfold R.dtuAtsStatus R.sailNum; omega
@[simp] theorem R.dtuPerf_ne  : R.dtuPerf  ≠ R.sailNum := by unfold R.dtuPerf R.sailNum; omega
@[simp] theorem R.tfqStatus_ne  (i : Nat) : R.tfqStatus i ≠ R.sailNum := by unfold R.tfqStatus R.sailNum; omega
@[simp] theorem R.tfqCtl_ne  (i : Nat) : R.tfqCtl i ≠ R.sailNum := by unfold R.tfqCtl R.sailNum; omega
@[simp] theorem R.tfqPop_ne  (i : Nat) : R.tfqPop i ≠ R.sailNum := by unfold R.tfqPop R.sailNum; omega
@[simp] theorem R.cohHash_ne  (i : Nat) : R.cohHash i ≠ R.sailNum := by unfold R.cohHash R.sailNum; omega
@[simp] theorem R.cohCfg_ne  : R.cohCfg  ≠ R.sailNum := by unfold R.cohCfg R.sailNum; omega
@[simp] theorem R.cohStatus_ne  : R.cohStatus  ≠ R.sailNum := by unfold R.cohStatus R.sailNum; omega
@[simp] theorem R.cohErr_ne  : R.cohErr  ≠ R.sailNum := by unfold R.cohErr R.sailNum; omega
@[simp] theorem R.cohCtl_ne  : R.cohCtl  ≠ R.sailNum := by unfold R.cohCtl R.sailNum; omega
@[simp] theorem R.cohSlice_ne  (i : Nat) : R.cohSlice i ≠ R.sailNum := by unfold R.cohSlice R.sailNum; omega
@[simp] theorem R.cohPerf_ne  (i : Nat) : R.cohPerf i ≠ R.sailNum := by unfold R.cohPerf R.sailNum; omega
@[simp] theorem R.octCfg_ne  : R.octCfg  ≠ R.sailNum := by unfold R.octCfg R.sailNum; omega
@[simp] theorem R.octStatus_ne  : R.octStatus  ≠ R.sailNum := by unfold R.octStatus R.sailNum; omega
@[simp] theorem R.octPrst_ne  : R.octPrst  ≠ R.sailNum := by unfold R.octPrst R.sailNum; omega
@[simp] theorem R.octErr_ne  : R.octErr  ≠ R.sailNum := by unfold R.octErr R.sailNum; omega
@[simp] theorem R.octCtl_ne  : R.octCtl  ≠ R.sailNum := by unfold R.octCtl R.sailNum; omega
@[simp] theorem R.octLink_ne  (i : Nat) : R.octLink i ≠ R.sailNum := by unfold R.octLink R.sailNum; omega
@[simp] theorem R.octLinkCnt_ne  (i : Nat) : R.octLinkCnt i ≠ R.sailNum := by unfold R.octLinkCnt R.sailNum; omega
@[simp] theorem R.octToll_ne  (i j : Nat) : R.octToll i j ≠ R.sailNum := by unfold R.octToll R.sailNum; omega
@[simp] theorem R.octTollCnt_ne  (i : Nat) : R.octTollCnt i ≠ R.sailNum := by unfold R.octTollCnt R.sailNum; omega
@[simp] theorem R.octPwr_ne  (i : Nat) : R.octPwr i ≠ R.sailNum := by unfold R.octPwr R.sailNum; omega
@[simp] theorem R.fordStatus_ne  : R.fordStatus  ≠ R.sailNum := by unfold R.fordStatus R.sailNum; omega
@[simp] theorem R.fordCtl_ne  : R.fordCtl  ≠ R.sailNum := by unfold R.fordCtl R.sailNum; omega
@[simp] theorem R.fordErr_ne  : R.fordErr  ≠ R.sailNum := by unfold R.fordErr R.sailNum; omega
@[simp] theorem R.fordDom_ne  (i : Nat) : R.fordDom i ≠ R.sailNum := by unfold R.fordDom R.sailNum; omega
@[simp] theorem R.fordLost_ne  (i : Nat) : R.fordLost i ≠ R.sailNum := by unfold R.fordLost R.sailNum; omega
@[simp] theorem R.qosCfg_ne  : R.qosCfg  ≠ R.sailNum := by unfold R.qosCfg R.sailNum; omega
@[simp] theorem R.qosFb_ne  : R.qosFb  ≠ R.sailNum := by unfold R.qosFb R.sailNum; omega
@[simp] theorem R.qosStatus_ne  : R.qosStatus  ≠ R.sailNum := by unfold R.qosStatus R.sailNum; omega
@[simp] theorem R.qosEvent_ne  : R.qosEvent  ≠ R.sailNum := by unfold R.qosEvent R.sailNum; omega
@[simp] theorem R.qosSnapSail_ne  : R.qosSnapSail  ≠ R.sailNum := by unfold R.qosSnapSail R.sailNum; omega
@[simp] theorem R.qosTgt_ne  (i j : Nat) : R.qosTgt i j ≠ R.sailNum := by unfold R.qosTgt R.sailNum; omega
@[simp] theorem R.qosLat_ne  (i j : Nat) : R.qosLat i j ≠ R.sailNum := by unfold R.qosLat R.sailNum; omega
@[simp] theorem R.qosStep_ne  (i : Nat) : R.qosStep i ≠ R.sailNum := by unfold R.qosStep R.sailNum; omega
@[simp] theorem R.qosBytes_ne  (i j : Nat) : R.qosBytes i j ≠ R.sailNum := by unfold R.qosBytes R.sailNum; omega
@[simp] theorem R.qosSnap_ne  (i j : Nat) : R.qosSnap i j ≠ R.sailNum := by unfold R.qosSnap R.sailNum; omega
@[simp] theorem R.qosGrant_ne  (i : Nat) : R.qosGrant i ≠ R.sailNum := by unfold R.qosGrant R.sailNum; omega
@[simp] theorem R.qosGrantEff_ne  (i : Nat) : R.qosGrantEff i ≠ R.sailNum := by unfold R.qosGrantEff R.sailNum; omega
@[simp] theorem R.qosCap_ne  (i : Nat) : R.qosCap i ≠ R.sailNum := by unfold R.qosCap R.sailNum; omega
@[simp] theorem R.slipStatus_ne  (i : Nat) : R.slipStatus i ≠ R.sailNum := by unfold R.slipStatus R.sailNum; omega
@[simp] theorem R.slipCfg_ne  (i : Nat) : R.slipCfg i ≠ R.sailNum := by unfold R.slipCfg R.sailNum; omega
@[simp] theorem R.slipCtl_ne  (i : Nat) : R.slipCtl i ≠ R.sailNum := by unfold R.slipCtl R.sailNum; omega
@[simp] theorem R.slipErr_ne  (i : Nat) : R.slipErr i ≠ R.sailNum := by unfold R.slipErr R.sailNum; omega
@[simp] theorem R.slipCnt_ne  (i : Nat) : R.slipCnt i ≠ R.sailNum := by unfold R.slipCnt R.sailNum; omega
@[simp] theorem R.slipWinIn_ne  (i j : Nat) : R.slipWinIn i j ≠ R.sailNum := by unfold R.slipWinIn R.sailNum; omega
@[simp] theorem R.slipWinInTgt_ne  (i j : Nat) : R.slipWinInTgt i j ≠ R.sailNum := by unfold R.slipWinInTgt R.sailNum; omega
@[simp] theorem R.slipWinOut_ne  (i j : Nat) : R.slipWinOut i j ≠ R.sailNum := by unfold R.slipWinOut R.sailNum; omega
@[simp] theorem R.slipWinOutTgt_ne  (i j : Nat) : R.slipWinOutTgt i j ≠ R.sailNum := by unfold R.slipWinOutTgt R.sailNum; omega
@[simp] theorem R.lrsStatus_ne  (i : Nat) : R.lrsStatus i ≠ R.sailNum := by unfold R.lrsStatus R.sailNum; omega
@[simp] theorem R.lrsCfg_ne  (i : Nat) : R.lrsCfg i ≠ R.sailNum := by unfold R.lrsCfg R.sailNum; omega
@[simp] theorem R.lrsCtl_ne  (i : Nat) : R.lrsCtl i ≠ R.sailNum := by unfold R.lrsCtl R.sailNum; omega
@[simp] theorem R.lrsErr_ne  (i : Nat) : R.lrsErr i ≠ R.sailNum := by unfold R.lrsErr R.sailNum; omega
@[simp] theorem R.lrsCnt_ne  (i : Nat) : R.lrsCnt i ≠ R.sailNum := by unfold R.lrsCnt R.sailNum; omega
@[simp] theorem R.lrsPerf_ne  (i : Nat) : R.lrsPerf i ≠ R.sailNum := by unfold R.lrsPerf R.sailNum; omega
@[simp] theorem R.lrsCh_ne  (i j : Nat) : R.lrsCh i j ≠ R.sailNum := by unfold R.lrsCh R.sailNum; omega
@[simp] theorem R.pciStatus_ne  : R.pciStatus  ≠ R.sailNum := by unfold R.pciStatus R.sailNum; omega
@[simp] theorem R.pciLpm_ne  : R.pciLpm  ≠ R.sailNum := by unfold R.pciLpm R.sailNum; omega
@[simp] theorem R.pciTag_ne  : R.pciTag  ≠ R.sailNum := by unfold R.pciTag R.sailNum; omega
@[simp] theorem R.pciErr_ne  : R.pciErr  ≠ R.sailNum := by unfold R.pciErr R.sailNum; omega
@[simp] theorem R.pciCnt_ne  : R.pciCnt  ≠ R.sailNum := by unfold R.pciCnt R.sailNum; omega
@[simp] theorem R.pciCnt2_ne  : R.pciCnt2  ≠ R.sailNum := by unfold R.pciCnt2 R.sailNum; omega
@[simp] theorem R.pciCtl_ne  : R.pciCtl  ≠ R.sailNum := by unfold R.pciCtl R.sailNum; omega
@[simp] theorem R.pciFlr_ne  (i : Nat) : R.pciFlr i ≠ R.sailNum := by unfold R.pciFlr R.sailNum; omega
@[simp] theorem R.ringBase_ne  (i j : Nat) : R.ringBase i j ≠ R.sailNum := by unfold R.ringBase R.sailNum; omega
@[simp] theorem R.ringCfg_ne  (i j : Nat) : R.ringCfg i j ≠ R.sailNum := by unfold R.ringCfg R.sailNum; omega
@[simp] theorem R.ringPtr_ne  (i j : Nat) : R.ringPtr i j ≠ R.sailNum := by unfold R.ringPtr R.sailNum; omega
@[simp] theorem R.ringStatus_ne  (i j : Nat) : R.ringStatus i j ≠ R.sailNum := by unfold R.ringStatus R.sailNum; omega
@[simp] theorem R.qPool_ne  : R.qPool  ≠ R.sailNum := by unfold R.qPool R.sailNum; omega
@[simp] theorem R.qPoolUse_ne  : R.qPoolUse  ≠ R.sailNum := by unfold R.qPoolUse R.sailNum; omega
@[simp] theorem R.qVctx_ne  : R.qVctx  ≠ R.sailNum := by unfold R.qVctx R.sailNum; omega
@[simp] theorem R.qErr_ne  : R.qErr  ≠ R.sailNum := by unfold R.qErr R.sailNum; omega
@[simp] theorem R.qCnt_ne  : R.qCnt  ≠ R.sailNum := by unfold R.qCnt R.sailNum; omega
@[simp] theorem R.qCtl_ne  : R.qCtl  ≠ R.sailNum := by unfold R.qCtl R.sailNum; omega
@[simp] theorem R.manStatus_ne  : R.manStatus  ≠ R.sailNum := by unfold R.manStatus R.sailNum; omega
@[simp] theorem R.manFail_ne  : R.manFail  ≠ R.sailNum := by unfold R.manFail R.sailNum; omega
@[simp] theorem R.manSrc_ne  : R.manSrc  ≠ R.sailNum := by unfold R.manSrc R.sailNum; omega
@[simp] theorem R.manLen_ne  : R.manLen  ≠ R.sailNum := by unfold R.manLen R.sailNum; omega
@[simp] theorem R.manCtl_ne  : R.manCtl  ≠ R.sailNum := by unfold R.manCtl R.sailNum; omega
@[simp] theorem R.manSwitch_ne  : R.manSwitch  ≠ R.sailNum := by unfold R.manSwitch R.sailNum; omega
@[simp] theorem R.manCrossing_ne  : R.manCrossing  ≠ R.sailNum := by unfold R.manCrossing R.sailNum; omega
@[simp] theorem R.manSvn_ne  : R.manSvn  ≠ R.sailNum := by unfold R.manSvn R.sailNum; omega
@[simp] theorem R.manSerial_ne  : R.manSerial  ≠ R.sailNum := by unfold R.manSerial R.sailNum; omega
@[simp] theorem R.manDigest_ne  (i : Nat) : R.manDigest i ≠ R.sailNum := by unfold R.manDigest R.sailNum; omega
@[simp] theorem R.manStgDigest_ne  (i : Nat) : R.manStgDigest i ≠ R.sailNum := by unfold R.manStgDigest R.sailNum; omega
@[simp] theorem R.brgStatus_ne  : R.brgStatus  ≠ R.sailNum := by unfold R.brgStatus R.sailNum; omega
@[simp] theorem R.brgMism_ne  : R.brgMism  ≠ R.sailNum := by unfold R.brgMism R.sailNum; omega
@[simp] theorem R.brgStart_ne  : R.brgStart  ≠ R.sailNum := by unfold R.brgStart R.sailNum; omega
@[simp] theorem R.brgCtl_ne  : R.brgCtl  ≠ R.sailNum := by unfold R.brgCtl R.sailNum; omega
@[simp] theorem R.brgRcvSrc_ne  : R.brgRcvSrc  ≠ R.sailNum := by unfold R.brgRcvSrc R.sailNum; omega
@[simp] theorem R.brgRcvLen_ne  : R.brgRcvLen  ≠ R.sailNum := by unfold R.brgRcvLen R.sailNum; omega
@[simp] theorem R.brgTime_ne  (i : Nat) : R.brgTime i ≠ R.sailNum := by unfold R.brgTime R.sailNum; omega
@[simp] theorem R.pwrStatus_ne  : R.pwrStatus  ≠ R.sailNum := by unfold R.pwrStatus R.sailNum; omega
@[simp] theorem R.pwrBudget_ne  : R.pwrBudget  ≠ R.sailNum := by unfold R.pwrBudget R.sailNum; omega
@[simp] theorem R.pwrEnergySail_ne  : R.pwrEnergySail  ≠ R.sailNum := by unfold R.pwrEnergySail R.sailNum; omega
@[simp] theorem R.pwrLean_ne  : R.pwrLean  ≠ R.sailNum := by unfold R.pwrLean R.sailNum; omega
@[simp] theorem R.pwrLeanEnd_ne  : R.pwrLeanEnd  ≠ R.sailNum := by unfold R.pwrLeanEnd R.sailNum; omega
@[simp] theorem R.pwrEvent_ne  : R.pwrEvent  ≠ R.sailNum := by unfold R.pwrEvent R.sailNum; omega
@[simp] theorem R.pwrKa_ne  : R.pwrKa  ≠ R.sailNum := by unfold R.pwrKa R.sailNum; omega
@[simp] theorem R.pwrSurvey_ne  : R.pwrSurvey  ≠ R.sailNum := by unfold R.pwrSurvey R.sailNum; omega
@[simp] theorem R.pwrErr_ne  : R.pwrErr  ≠ R.sailNum := by unfold R.pwrErr R.sailNum; omega
@[simp] theorem R.pwrCtl_ne  : R.pwrCtl  ≠ R.sailNum := by unfold R.pwrCtl R.sailNum; omega
@[simp] theorem R.pwrRail_ne  (i : Nat) : R.pwrRail i ≠ R.sailNum := by unfold R.pwrRail R.sailNum; omega
@[simp] theorem R.pwrPart_ne  (i : Nat) : R.pwrPart i ≠ R.sailNum := by unfold R.pwrPart R.sailNum; omega
@[simp] theorem R.errStatus_ne  : R.errStatus  ≠ R.sailNum := by unfold R.errStatus R.sailNum; omega
@[simp] theorem R.errLogBase_ne  : R.errLogBase  ≠ R.sailNum := by unfold R.errLogBase R.sailNum; omega
@[simp] theorem R.errLogPtr_ne  : R.errLogPtr  ≠ R.sailNum := by unfold R.errLogPtr R.sailNum; omega
@[simp] theorem R.errCtl_ne  : R.errCtl  ≠ R.sailNum := by unfold R.errCtl R.sailNum; omega
@[simp] theorem R.errCnt_ne  : R.errCnt  ≠ R.sailNum := by unfold R.errCnt R.sailNum; omega
@[simp] theorem R.errOvf_ne  (i : Nat) : R.errOvf i ≠ R.sailNum := by unfold R.errOvf R.sailNum; omega
@[simp] theorem R.errLast_ne  (i j : Nat) : R.errLast i j ≠ R.sailNum := by unfold R.errLast R.sailNum; omega
@[simp] theorem R.tinvStatus_ne  (i : Nat) : R.tinvStatus i ≠ R.sailNum := by unfold R.tinvStatus R.sailNum; omega
@[simp] theorem R.tinvClr_ne  (i : Nat) : R.tinvClr i ≠ R.sailNum := by unfold R.tinvClr R.sailNum; omega
@[simp] theorem R.glbFwSrc_ne  : R.glbFwSrc  ≠ R.sailNum := by unfold R.glbFwSrc R.sailNum; omega
@[simp] theorem R.glbFwLen_ne  : R.glbFwLen  ≠ R.sailNum := by unfold R.glbFwLen R.sailNum; omega
@[simp] theorem R.glbFwBuf_ne  : R.glbFwBuf  ≠ R.sailNum := by unfold R.glbFwBuf R.sailNum; omega
@[simp] theorem R.glbFwCtl_ne  : R.glbFwCtl  ≠ R.sailNum := by unfold R.glbFwCtl R.sailNum; omega
@[simp] theorem R.glbFwAt_ne  : R.glbFwAt  ≠ R.sailNum := by unfold R.glbFwAt R.sailNum; omega
@[simp] theorem R.glbFwStatus_ne  : R.glbFwStatus  ≠ R.sailNum := by unfold R.glbFwStatus R.sailNum; omega
@[simp] theorem R.twinStatus_ne  : R.twinStatus  ≠ R.sailNum := by unfold R.twinStatus R.sailNum; omega
@[simp] theorem R.twinPart_ne  (i : Nat) : R.twinPart i ≠ R.sailNum := by unfold R.twinPart R.sailNum; omega
@[simp] theorem R.twinFerry_ne  : R.twinFerry  ≠ R.sailNum := by unfold R.twinFerry R.sailNum; omega
@[simp] theorem R.twinEvent_ne  : R.twinEvent  ≠ R.sailNum := by unfold R.twinEvent R.sailNum; omega
@[simp] theorem R.twinCtl_ne  : R.twinCtl  ≠ R.sailNum := by unfold R.twinCtl R.sailNum; omega
@[simp] theorem R.twinReplay_ne  : R.twinReplay  ≠ R.sailNum := by unfold R.twinReplay R.sailNum; omega
@[simp] theorem R.twinErr_ne  : R.twinErr  ≠ R.sailNum := by unfold R.twinErr R.sailNum; omega
@[simp] theorem R.twinCnt_ne  : R.twinCnt  ≠ R.sailNum := by unfold R.twinCnt R.sailNum; omega
@[simp] theorem R.salStatus_ne  : R.salStatus  ≠ R.sailNum := by unfold R.salStatus R.sailNum; omega
@[simp] theorem R.salEvent_ne  : R.salEvent  ≠ R.sailNum := by unfold R.salEvent R.sailNum; omega
@[simp] theorem R.salKeyCmd_ne  : R.salKeyCmd  ≠ R.sailNum := by unfold R.salKeyCmd R.sailNum; omega
@[simp] theorem R.salCfg_ne  : R.salCfg  ≠ R.sailNum := by unfold R.salCfg R.sailNum; omega
@[simp] theorem R.salErr_ne  : R.salErr  ≠ R.sailNum := by unfold R.salErr R.sailNum; omega
@[simp] theorem R.salKey_ne  (i : Nat) : R.salKey i ≠ R.sailNum := by unfold R.salKey R.sailNum; omega
@[simp] theorem R.salScrub_ne  (i : Nat) : R.salScrub i ≠ R.sailNum := by unfold R.salScrub R.sailNum; omega
@[simp] theorem R.salTdi_ne  (i : Nat) : R.salTdi i ≠ R.sailNum := by unfold R.salTdi R.sailNum; omega
@[simp] theorem R.tmeasVa_ne  (i : Nat) : R.tmeasVa i ≠ R.sailNum := by unfold R.tmeasVa R.sailNum; omega
@[simp] theorem R.tmeasLen_ne  (i : Nat) : R.tmeasLen i ≠ R.sailNum := by unfold R.tmeasLen R.sailNum; omega
@[simp] theorem R.tmeasCtl_ne  (i : Nat) : R.tmeasCtl i ≠ R.sailNum := by unfold R.tmeasCtl R.sailNum; omega
@[simp] theorem R.tmeasStatus_ne  (i : Nat) : R.tmeasStatus i ≠ R.sailNum := by unfold R.tmeasStatus R.sailNum; omega
@[simp] theorem R.lcsStatus_ne  : R.lcsStatus  ≠ R.sailNum := by unfold R.lcsStatus R.sailNum; omega
@[simp] theorem R.lcsCmd_ne  : R.lcsCmd  ≠ R.sailNum := by unfold R.lcsCmd R.sailNum; omega
@[simp] theorem R.lcsCtl_ne  : R.lcsCtl  ≠ R.sailNum := by unfold R.lcsCtl R.sailNum; omega
@[simp] theorem R.lcsDbg_ne  : R.lcsDbg  ≠ R.sailNum := by unfold R.lcsDbg R.sailNum; omega
@[simp] theorem R.lcsChal_ne  (i : Nat) : R.lcsChal i ≠ R.sailNum := by unfold R.lcsChal R.sailNum; omega
@[simp] theorem R.lcsField_ne  (i : Nat) : R.lcsField i ≠ R.sailNum := by unfold R.lcsField R.sailNum; omega
@[simp] theorem R.lcsBuf_ne  (i : Nat) : R.lcsBuf i ≠ R.sailNum := by unfold R.lcsBuf R.sailNum; omega
@[simp] theorem R.lrsLost_ne  (i j : Nat) : R.lrsLost i j ≠ R.sailNum := by unfold R.lrsLost R.sailNum; omega
@[simp] theorem R.slipDesc_ne  (i j : Nat) : R.slipDesc i j ≠ R.sailNum := by unfold R.slipDesc R.sailNum; omega
@[simp] theorem R.dtuInv_ne  (i : Nat) : R.dtuInv i ≠ R.sailNum := by unfold R.dtuInv R.sailNum; omega
@[simp] theorem R.msixAddr_ne  (i : Nat) : R.msixAddr i ≠ R.sailNum := by unfold R.msixAddr R.sailNum; omega
@[simp] theorem R.msixCtl_ne  (i : Nat) : R.msixCtl i ≠ R.sailNum := by unfold R.msixCtl R.sailNum; omega
@[simp] theorem R.msixPba_ne  (i : Nat) : R.msixPba i ≠ R.sailNum := by unfold R.msixPba R.sailNum; omega
@[simp] theorem R.vfMsixAddr_ne  (i j : Nat) : R.vfMsixAddr i j ≠ R.sailNum := by unfold R.vfMsixAddr R.sailNum; omega
@[simp] theorem R.vfMsixCtl_ne  (i j : Nat) : R.vfMsixCtl i j ≠ R.sailNum := by unfold R.vfMsixCtl R.sailNum; omega
@[simp] theorem R.vfMsixPba_ne  (i : Nat) : R.vfMsixPba i ≠ R.sailNum := by unfold R.vfMsixPba R.sailNum; omega

theorem sail_eq {s t : State} (h : mget t.regs R.sailNum = mget s.regs R.sailNum) : t.sail = s.sail := by
  unfold State.sail State.rf State.rv; rw [h]

@[simp] theorem sail_mk (s : State) f_pending f_fresh f_out f_shadow f_time f_intake f_man f_parts f_te f_phys f_holds f_mem f_lmeta
    f_progs f_loads f_ended f_endedPrev f_bars f_copies f_deferred f_rings f_dtu f_err f_coh f_heap f_fab f_slips f_lrs f_pci
    f_pins f_flash f_brg f_pwr f_twin f_sec f_fuses f_tap : (State.mk f_pending f_fresh f_out s.regs f_shadow f_time f_intake f_man
    f_parts f_te f_phys f_holds f_mem f_lmeta f_progs f_loads f_ended f_endedPrev f_bars f_copies f_deferred f_rings f_dtu
    f_err f_coh f_heap f_fab f_slips f_lrs f_pci f_pins f_flash f_brg f_pwr f_twin f_sec f_fuses f_tap).sail = s.sail :=
    sail_eq rfl

@[simp] theorem sail_mk_mput (s : State) (k : Nat) (v : Word) f_pending f_fresh f_out f_shadow f_time f_intake f_man f_parts f_te
    f_phys f_holds f_mem f_lmeta f_progs f_loads f_ended f_endedPrev f_bars f_copies f_deferred f_rings f_dtu f_err f_coh
    f_heap f_fab f_slips f_lrs f_pci f_pins f_flash f_brg f_pwr f_twin f_sec f_fuses f_tap (h : k ≠ R.sailNum) : (State.mk
    f_pending f_fresh f_out (mput s.regs k v) f_shadow f_time f_intake f_man f_parts f_te f_phys f_holds f_mem f_lmeta f_progs f_loads
    f_ended f_endedPrev f_bars f_copies f_deferred f_rings f_dtu f_err f_coh f_heap f_fab f_slips f_lrs f_pci f_pins f_flash
    f_brg f_pwr f_twin f_sec f_fuses f_tap).sail = s.sail :=
  sail_eq (mget_mput_ne _ _ h)

@[simp] theorem State.rset_sail (s : State) (key : Nat) (f : Fld) (x : Nat) (h : key ≠ R.sailNum) :
    (s.rset key f x).sail = s.sail := sail_eq (mget_mput_ne _ _ h)

@[simp] theorem State.rput_sail (s : State) (key : Nat) (x : Nat) (h : key ≠ R.sailNum) :
    (s.rput key x).sail = s.sail := s.rset_sail _ _ _ h

@[simp] theorem State.radd_sail (s : State) (key : Nat) (f : Fld) (x : Nat) (h : key ≠ R.sailNum) :
    (s.radd key f x).sail = s.sail := s.rset_sail _ _ _ h

@[simp] theorem State.rinc_sail (s : State) (key : Nat) (f : Fld) (x : Nat) (h : key ≠ R.sailNum) :
    (s.rinc key f x).sail = s.sail := s.rset_sail _ _ _ h

@[simp] theorem State.setFab_sail (s : State) (x : FabSt) : (State.setFab s x).sail = s.sail := by
  unfold State.setFab
  simp

@[simp] theorem State.rsetIf_sail (s : State) (c : Bool) (key : Nat) (f : Fld) (x : Nat) (h : key ≠ R.sailNum) :
    (s.rsetIf c key f x).sail = s.sail := by
  unfold State.rsetIf; split
  · exact s.rset_sail _ _ _ h
  · rfl

@[simp] theorem State.send_sail (s : State) (k : OutKind) (args : List Nat) (data : List Byte) : (State.send s k args
    data).sail = s.sail := by
  unfold State.send
  simp

@[simp] theorem State.raddOpen_sail (s : State) (key : Nat) (f : Fld) (x : Nat) (h : key ≠ R.sailNum) :
    (s.raddOpen key f x).sail = s.sail := by
  unfold State.raddOpen; split
  · rfl
  · exact s.radd_sail _ _ _ h

@[simp] theorem State.each_sail (s : State) (l : List Nat) (f : State → Nat → State) (hf : ∀ s x0, (f s x0).sail = s.sail) :
    (State.each s l f).sail = s.sail := by
  unfold State.each
  simp [*]

@[simp] theorem State.captureAt_sail (s : State) (key : Nat) (c : CapFlds) (x : Nat) (h : key ≠ R.sailNum) :
    (s.captureAt key c x).sail = s.sail := sail_eq (mget_mput_ne _ _ h)

@[simp] theorem State.report_sail (s : State) (r : ErrRep) : (State.report s r).sail = s.sail := by
  unfold State.report
  simp

@[simp] theorem State.errBare_sail (s : State) (cls : Nat) (block : Nat) (cause : Nat) (unit : Nat) : (State.errBare s cls
    block cause unit).sail = s.sail := by
  unfold State.errBare
  simp

@[simp] theorem State.setPart_sail (s : State) (p : Nat) (x : PartSt) : (State.setPart s p x).sail = s.sail := by
  unfold State.setPart
  simp

@[simp] theorem State.voidPart_sail (s : State) (p : Nat) (vcause : Nat) (block : Nat) (cause : Nat) (unit : Nat) (tenant :
    Option Nat) (addr : Option Nat) : (State.voidPart s p vcause block cause unit tenant addr).sail = s.sail := by
  unfold State.voidPart
  simp

@[simp] theorem State.voidAll_sail (s : State) (vcause : Nat) (block : Nat) (cause : Nat) (unit : Nat) (addr : Option Nat) :
    (State.voidAll s vcause block cause unit addr).sail = s.sail := by
  unfold State.voidAll
  simp

@[simp] theorem State.signal_sail (s : State) (fn : Nat) (vec : Nat) : (State.signal s fn vec).sail = s.sail := by
  unfold State.signal
  simp

@[simp] theorem State.signalIf_sail (s : State) (c : Bool) (fn : Nat) (vec : Nat) : (State.signalIf s c fn vec).sail = s.sail
    := by
  unfold State.signalIf
  simp

@[simp] theorem State.cfgPut_sail (s : State) (fn : Nat) (off : Nat) (v : Nat) : (State.cfgPut s fn off v).sail = s.sail := by
  unfold State.cfgPut
  simp

@[simp] theorem State.aer_sail (s : State) (off : Nat) (bit : Nat) : (State.aer s off bit).sail = s.sail := by
  unfold State.aer
  simp

@[simp] theorem State.twinEvt_sail (s : State) (f : Fld) : (State.twinEvt s f).sail = s.sail := by
  unfold State.twinEvt
  simp

@[simp] theorem State.stepDown_sail (s : State) : (State.stepDown s).sail = s.sail := by
  unfold State.stepDown
  simp

@[simp] theorem State.domTo_sail (s : State) (d : Nat) (st : Nat) : (State.domTo s d st).sail = s.sail := by
  unfold State.domTo
  simp

@[simp] theorem State.busyCycles_sail (s : State) (k n : Nat) : (State.busyCycles s k n).sail = s.sail := by
  unfold State.busyCycles
  simp

@[simp] theorem State.holdStall_sail (s : State) (k n : Nat) : (State.holdStall s k n).sail = s.sail := by
  unfold State.holdStall
  simp

@[simp] theorem State.wsStall_sail (s : State) (k n : Nat) : (State.wsStall s k n).sail = s.sail := by
  unfold State.wsStall
  simp

@[simp] theorem State.tick_sail (s : State) : (State.tick s).sail = s.sail := by
  exact sail_eq rfl

@[simp] theorem State.cutCycles_sail (s : State) (k : Nat) (r : LegRun) (n : Nat) : (State.cutCycles s k r n).sail = s.sail := by
  unfold State.cutCycles
  rw [State.tick_sail]
  simp

@[simp] theorem State.teState_sail (s : State) (k x : Nat) : (State.teState s k x).sail = s.sail := by
  unfold State.teState
  simp

@[simp] theorem State.legCut_sail (s : State) (k : Nat) (r : LegRun) : (State.legCut s k r).sail = s.sail := by
  unfold State.legCut
  simp

@[simp] theorem State.legsCut_sail (s : State) (sel : LegRun → Bool) : (State.legsCut s sel).sail = s.sail := by
  unfold State.legsCut
  refine foldl_sail _ (fun s p => ?_) _ _
  (repeat' split) <;> simp

@[simp] theorem State.fatalNow_sail (s : State) : (State.fatalNow s).sail = s.sail := by
  unfold State.fatalNow
  simp

@[simp] theorem State.fatal_sail (s : State) (block : Nat) (cause : Nat) (unit : Nat) : (State.fatal s block cause unit).sail
    = s.sail := by
  unfold State.fatal
  simp

@[simp] theorem State.toL0_sail (s : State) : (State.toL0 s).sail = s.sail := by
  unfold State.toL0
  simp

@[simp] theorem State.wakeLink_sail (s : State) : (State.wakeLink s).sail = s.sail := by
  unfold State.wakeLink
  simp

@[simp] theorem State.pciCap_sail (s : State) (fn : Nat) (cause : Nat) : (State.pciCap s fn cause).sail = s.sail := by
  unfold State.pciCap
  simp

@[simp] theorem State.hostFail_sail (s : State) (fn : Nat) (cause : Nat) : (State.hostFail s fn cause).sail = s.sail := by
  unfold State.hostFail
  simp

@[simp] theorem State.ferry_sail (s : State) (typ : Nat) (part : Nat) (key : Nat) (data : List Byte) : (State.ferry s typ
    part key data).sail = s.sail := by
  unfold State.ferry
  simp

@[simp] theorem State.useEntry_sail (s : State) (e : FEntry) : (State.useEntry s e).sail = s.sail := by
  unfold State.useEntry
  simp

@[simp] theorem State.atsLook_sail (s : State) (fn : Nat) (addr : Nat) (write : Bool) : (State.atsLook s fn addr
    write).1.sail = s.sail := by
  unfold State.atsLook
  (repeat' split) <;> simp

@[simp] theorem State.showTags_sail (s : State) : (State.showTags s).sail = s.sail := by
  unfold State.showTags
  simp

@[simp] theorem State.remSet_sail (s : State) (l : List RRead) : (State.remSet s l).sail = s.sail := by
  unfold State.remSet
  simp

@[simp] theorem State.atsTag_sail (s : State) (tag key : Nat) (translated : Bool) : (State.atsTag s tag key translated).sail = s.sail := by
  exact sail_eq rfl

@[simp] theorem State.pumpTags_sail (s : State) (z0 : Nat) : (State.pumpTags s z0).sail = s.sail := by
  induction z0 generalizing s with
  | zero => rfl
  | succ f ih =>
    unfold State.pumpTags
    split
    · split
      · simp [ih]
      · rfl
    · rfl

@[simp] theorem State.hostRead_sail (s : State) (who : List Nat) (pa : Nat) (len : Nat) (func : Nat) : (State.hostRead s who
    pa len func).sail = s.sail := by
  unfold State.hostRead
  (repeat' split) <;> simp

@[simp] theorem State.setSl_sail (s : State) (v : Nat) (x : SlipSt) : (State.setSl s v x).sail = s.sail := by
  exact sail_eq rfl

@[simp] theorem State.setTx_sail (s : State) (v : Nat) (x : OspTx) : (State.setTx s v x).sail = s.sail := by
  unfold State.setTx
  simp

@[simp] theorem State.osp_sail (s : State) (v : Nat) (args : List Nat) (bytes : List Byte) (h : OspHead) : (State.osp s v args bytes h).sail = s.sail := by
  unfold State.osp
  split
  · rfl
  · simp

@[simp] theorem State.askNode_sail (s : State) (node : Nat) (args : List Nat) (bytes : List Byte) (h : OspHead) : (State.askNode s node args bytes h).sail = s.sail := by
  unfold State.askNode
  simp

@[simp] theorem State.nodeRead_sail (s : State) (who : List Nat) (pa : Nat) (len : Nat) (func : Nat) : (State.nodeRead s
    who pa len func).sail = s.sail := by
  unfold State.nodeRead
  dsimp only
  split
  · rw [foldl_sail _ (fun s p => by simp)]
    exact sail_eq rfl
  · simp

@[simp] theorem State.remIssue_sail (s : State) (who : List Nat) (pa : Nat) (len : Nat) (func : Nat) : (State.remIssue s who
    pa len func).sail = s.sail := by
  unfold State.remIssue
  simp

@[simp] theorem State.setMovers_sail (s : State) (l : List (List Nat × Nat × Nat × Nat)) : (State.setMovers s l).sail =
    s.sail := by
  unfold State.setMovers
  simp

@[simp] theorem State.markRange_sail (s : State) (t : Nat) (va : Nat) (n : Nat) : (State.markRange s t va n).sail = s.sail := by
  unfold State.markRange
  simp

@[simp] theorem State.markOuts_sail (s : State) (tenant : Nat) (outs : List (Nat × Nat)) : (State.markOuts s tenant
    outs).sail = s.sail := by
  unfold State.markOuts
  simp

@[simp] theorem State.setRings_sail (s : State) (r : RingSt) : (State.setRings s r).sail = s.sail := by
  unfold State.setRings
  simp

@[simp] theorem State.captureDoorbells_sail (s : State) : (State.captureDoorbells s).sail = s.sail := by
  unfold State.captureDoorbells
  simp

@[simp] theorem State.fqEdge_sail (s : State) : (State.fqEdge s).sail = s.sail := by
  exact sail_eq rfl

@[simp] theorem State.setSec_sail (s : State) (x : SecSt) : (State.setSec s x).sail = s.sail := by
  unfold State.setSec
  simp

@[simp] theorem State.setKeys_sail (s : State) (o : Nat) (k : Option Nat × Option Nat) (cur : Nat) : (State.setKeys s o k
    cur).sail = s.sail := by
  unfold State.setKeys
  simp

@[simp] theorem State.sweepsEnd_sail (s : State) : (State.sweepsEnd s).sail = s.sail := by
  unfold State.sweepsEnd
  simp

@[simp] theorem State.setFlash_sail (s : State) (x : FlashSt) : (State.setFlash s x).sail = s.sail := by
  unfold State.setFlash
  simp

@[simp] theorem State.setFuses_sail (s : State) (x : FuseSt) : (State.setFuses s x).sail = s.sail := by
  unfold State.setFuses
  simp

@[simp] theorem State.wipe_sail (s : State) (bad : Bool) : (State.wipe s bad).sail = s.sail := by
  unfold State.wipe
  simp

@[simp] theorem State.qosSnapshot_sail (s : State) (closed : Nat) : (State.qosSnapshot s closed).sail = s.sail := by
  unfold State.qosSnapshot
  simp

@[simp] theorem State.qosWipe_sail (s : State) : (State.qosWipe s).sail = s.sail := by
  unfold State.qosWipe
  simp

@[simp] theorem State.setPwr_sail (s : State) (x : PwrSt) : (State.setPwr s x).sail = s.sail := by
  unfold State.setPwr
  simp

@[simp] theorem State.pwrCap_sail (s : State) (cause : Nat) : (State.pwrCap s cause).sail = s.sail := by
  unfold State.pwrCap
  simp

@[simp] theorem State.overAct_sail (s : State) (p : Nat) (energy : Bool) : (State.overAct s p energy).sail = s.sail := by
  unfold State.overAct
  simp

@[simp] theorem State.closePart_sail (s : State) (rails : List Nat) (tiles : List Nat) (r : PartRec) : (State.closePart s
    rails tiles r).sail = s.sail := by
  unfold State.closePart
  simp

@[simp] theorem State.askSetpoint_sail (s : State) : (State.askSetpoint s).sail = s.sail := by
  unfold State.askSetpoint
  simp

@[simp] theorem State.closeEnergy_sail (s : State) (rails : List Nat) (tiles : List Nat) (badMeter : Bool) :
    (State.closeEnergy s rails tiles badMeter).sail = s.sail := by
  unfold State.closeEnergy
  simp

@[simp] theorem State.decidePart_sail (s : State) (p : Nat) : (State.decidePart s p).sail = s.sail := by
  unfold State.decidePart
  simp

@[simp] theorem State.setMan_sail (s : State) (x : ManSt) : (State.setMan s x).sail = s.sail := by
  unfold State.setMan
  simp

@[simp] theorem State.manTo_sail (s : State) (x : Nat) : (State.manTo s x).sail = s.sail := by
  unfold State.manTo
  simp

@[simp] theorem State.lateBoundary_sail (s : State) : (State.lateBoundary s).sail = s.sail := by
  unfold State.lateBoundary
  simp

@[simp] theorem State.voidLegs_sail (s : State) : (State.voidLegs s).sail = s.sail := by
  unfold State.voidLegs
  simp

@[simp] theorem State.showSlot_sail (s : State) : (State.showSlot s).sail = s.sail := by
  unfold State.showSlot
  simp

@[simp] theorem State.drainCheck_sail (s : State) (p : Nat) : (State.drainCheck s p).sail = s.sail := by
  unfold State.drainCheck
  simp

@[simp] theorem State.copiesClose_sail (s : State) : (State.copiesClose s).sail = s.sail := by
  unfold State.copiesClose
  simp

@[simp] theorem State.ferryEnd_sail (s : State) : (State.ferryEnd s).sail = s.sail := by
  unfold State.ferryEnd
  (repeat' split) <;> simp

@[simp] theorem State.moversKeep_sail (s : State) : (State.moversKeep s).sail = s.sail := by
  unfold State.moversKeep
  simp

@[simp] theorem State.capsClose_sail (s : State) : (State.capsClose s).sail = s.sail := by
  exact sail_eq rfl

@[simp] theorem State.closeSail_sail (s : State) : (State.closeSail s).sail = s.sail := by
  unfold State.closeSail
  simp

@[simp] theorem State.ferryRan_sail (s : State) : (State.ferryRan s).sail = s.sail := by
  unfold State.ferryRan
  simp

end Sys2Proof.Machine
end

