-- ==== Sys2Proof/Laws/Time.lean ====
section
/-! SUPPORT. No operation but the steps of a sailing, the start of the time base and the resets moves the time base: one lemma per operation. -/

namespace Sys2Proof.Machine

@[simp] theorem ite_time (c : Prop) [Decidable c] (a b : State) :
    (if c then a else b).time = if c then a.time else b.time := by split <;> rfl

@[simp] theorem foldl_time {α : Type} (f : State → α → State) (h : ∀ s x, (f s x).time = s.time) (l : List α)
    (s : State) : (l.foldl f s).time = s.time := by
  induction l generalizing s with
  | nil => rfl
  | cons x l ih => rw [List.foldl_cons, ih, h]

@[simp] theorem foldl_fst_time {α β : Type} (f : State × β → α → State × β)
    (h : ∀ p x, (f p x).1.time = p.1.time) (l : List α) (p : State × β) :
    (l.foldl f p).1.time = p.1.time := by
  induction l generalizing p with
  | nil => rfl
  | cons x l ih => rw [List.foldl_cons, ih, h]

@[simp] theorem State.rsetIf_time (s : State) (c : Bool) (key : Nat) (f : Fld) (x : Nat) : (State.rsetIf s c key f x).time =
    s.time := by
  unfold State.rsetIf
  simp

@[simp] theorem State.raddOpen_time (s : State) (key : Nat) (f : Fld) (n : Nat) : (State.raddOpen s key f n).time = s.time := by
  unfold State.raddOpen
  simp

@[simp] theorem State.each_time (s : State) (l : List Nat) (f : State → Nat → State) (hf : ∀ s x0, (f s x0).time = s.time) :
    (State.each s l f).time = s.time := by
  unfold State.each
  simp [*]

@[simp] theorem State.voidFor_time (s : State) (tenant : Option Nat) (vcause : Nat) (block : Nat) (cause : Nat) (unit : Nat)
    (addr : Option Nat) : (State.voidFor s tenant vcause block cause unit addr).time = s.time := by
  unfold State.voidFor
  (repeat' split) <;> simp

@[simp] theorem State.holdWrite_time (s : State) (k : Nat) (a : Nat) (bs : List Byte) : (State.holdWrite s k a bs).time =
    s.time := by
  unfold State.holdWrite
  simp

@[simp] theorem State.countEvts_time (s : State) (k : Nat) (e : Evts) : (State.countEvts s k e).time = s.time := by
  unfold State.countEvts
  simp

@[simp] theorem State.clearTe_time (s : State) (k : Nat) : (State.clearTe s k).time = s.time := by
  unfold State.clearTe
  simp

@[simp] theorem State.countRd_time (s : State) (l : Nat) : (State.countRd s l).time = s.time := by
  unfold State.countRd
  (repeat' split) <;> simp

@[simp] theorem State.unclean_time (s : State) (o : Nat) : (State.unclean s o).time = s.time := by
  unfold State.unclean
  simp

@[simp] theorem State.lineWriteAs_time (s : State) (l : Nat) (data : Line) (mask : Nat) (o : Nat) : (State.lineWriteAs s
    l data mask o).1.time = s.time := by
  unfold State.lineWriteAs
  dsimp only
  (repeat' split) <;> simp_all

@[simp] theorem State.lineWrite_time (s : State) (l : Nat) (data : Line) (mask : Nat) : (State.lineWrite s l data
    mask).1.time = s.time := by
  unfold State.lineWrite
  simp

@[simp] theorem State.lineMark_time (s : State) (l : Nat) : (State.lineMark s l).1.time = s.time := by
  unfold State.lineMark
  (repeat' split) <;> simp

@[simp] theorem State.signal_time (s : State) (fn : Nat) (vec : Nat) : (State.signal s fn vec).time = s.time := by
  unfold State.signal
  simp

@[simp] theorem State.signalIf_time (s : State) (c : Bool) (fn : Nat) (vec : Nat) : (State.signalIf s c fn vec).time = s.time
    := by
  unfold State.signalIf
  simp

@[simp] theorem State.cfgPut_time (s : State) (fn : Nat) (off : Nat) (v : Nat) : (State.cfgPut s fn off v).time = s.time := by
  unfold State.cfgPut
  simp

@[simp] theorem State.aer_time (s : State) (off : Nat) (bit : Nat) : (State.aer s off bit).time = s.time := by
  unfold State.aer
  simp

@[simp] theorem State.twinEvt_time (s : State) (f : Fld) : (State.twinEvt s f).time = s.time := by
  unfold State.twinEvt
  simp

@[simp] theorem State.stepDown_time (s : State) : (State.stepDown s).time = s.time := by
  unfold State.stepDown
  simp

@[simp] theorem State.teState_time (s : State) (k : Nat) (x : Nat) : (State.teState s k x).time = s.time := by
  unfold State.teState
  simp

@[simp] theorem State.busyCycles_time (s : State) (k : Nat) (n : Nat) : (State.busyCycles s k n).time = s.time := by
  unfold State.busyCycles
  simp

@[simp] theorem State.holdStall_time (s : State) (k : Nat) (n : Nat) : (State.holdStall s k n).time = s.time := by
  unfold State.holdStall
  simp

@[simp] theorem State.wsStall_time (s : State) (k : Nat) (n : Nat) : (State.wsStall s k n).time = s.time := by
  unfold State.wsStall
  simp

@[simp] theorem State.cutCycles_time (s : State) (k : Nat) (r : LegRun) (n : Nat) : (State.cutCycles s k r n).time =
    s.time := by
  unfold State.cutCycles
  simp

@[simp] theorem State.legCut_time (s : State) (k : Nat) (r : LegRun) : (State.legCut s k r).time = s.time := by
  unfold State.legCut
  simp

@[simp] theorem State.legsCut_time (s : State) (sel : LegRun → Bool) : (State.legsCut s sel).time = s.time := by
  unfold State.legsCut
  refine foldl_time _ (fun s p => ?_) _ _
  (repeat' split) <;> simp

@[simp] theorem State.domTo_time (s : State) (d : Nat) (st : Nat) : (State.domTo s d st).time = s.time := by
  unfold State.domTo
  simp

@[simp] theorem State.fatalNow_time (s : State) : (State.fatalNow s).time = s.time := by
  unfold State.fatalNow
  simp

@[simp] theorem State.fatal_time (s : State) (block : Nat) (cause : Nat) (unit : Nat) : (State.fatal s block cause unit).time
    = s.time := by
  unfold State.fatal
  simp

@[simp] theorem State.fatalTrip_time (s : State) (block : Nat) (cause : Nat) (unit : Nat) : (State.fatalTrip s block
    cause unit).time = s.time := by
  unfold State.fatalTrip
  simp

@[simp] theorem State.memUe_time (s : State) (l : Nat) (block : Nat) (cause : Nat) (unit : Nat) (tenant : Option Nat) :
    (State.memUe s l block cause unit tenant).time = s.time := by
  unfold State.memUe
  simp

@[simp] theorem State.setTx_time (s : State) (v : Nat) (x : OspTx) : (State.setTx s v x).time = s.time := by
  unfold State.setTx
  simp

@[simp] theorem State.ospStart_time (s : State) (v : Nat) : (State.ospStart s v).time = s.time := by
  unfold State.ospStart
  simp

@[simp] theorem State.ospFree_time (s : State) (v : Nat) (need : List Nat) : (State.ospFree s v need).time = s.time :=
    by
  unfold State.ospFree
  simp

@[simp] theorem State.osp_time (s : State) (v : Nat) (args : List Nat) (bytes : List Byte) (h : OspHead) : (State.osp s
    v args bytes h).time = s.time := by
  unfold State.osp
  simp

@[simp] theorem State.ospMsg_time (s : State) (v : Nat) (args : List Nat) (cls : Nat) (op : Nat) (qc : Nat) (tag : Nat)
    (addr : Nat) (aux : Nat) : (State.ospMsg s v args cls op qc tag addr aux).time = s.time := by
  unfold State.ospMsg
  simp

@[simp] theorem State.ospErr_time (s : State) (v : Nat) (qc : Nat) (tag : Nat) (addr : Nat) (cause : Nat) :
    (State.ospErr s v qc tag addr cause).time = s.time := by
  unfold State.ospErr
  simp

@[simp] theorem State.ospData_time (s : State) (v : Nat) (qc : Nat) (tag : Nat) (addr : Nat) (grant : Nat) (d : Line) :
    (State.ospData s v qc tag addr grant d).time = s.time := by
  unfold State.ospData
  simp

@[simp] theorem State.ospGnt_time (s : State) (v : Nat) (qc : Nat) (tag : Nat) (addr : Nat) : (State.ospGnt s v qc tag
    addr).time = s.time := by
  unfold State.ospGnt
  simp

@[simp] theorem State.ospSend_time (s : State) (v : Nat) (kind : Nat) (fseq : Nat) (payload : List Byte) :
    (State.ospSend s v kind fseq payload).time = s.time := by
  unfold State.ospSend
  simp

@[simp] theorem State.ospKeep_time (s : State) (v : Nat) (kind : Nat) (payload : List Byte) : (State.ospKeep s v kind
    payload).time = s.time := by
  unfold State.ospKeep
  simp

@[simp] theorem State.ospStep_time (s : State) (v : Nat) : (State.ospStep s v).time = s.time := by
  unfold State.ospStep
  simp

@[simp] theorem State.ospTick_time (s : State) : (State.ospTick s).time = s.time := by
  unfold State.ospTick
  simp

@[simp] theorem State.ospHear_time (s : State) (v : Nat) (flit : List Byte) (fresh : Bool) : (State.ospHear s v flit
    fresh).time = s.time := by
  unfold State.ospHear
  simp

@[simp] theorem State.ospResend_time (s : State) (v : Nat) (fseq : Option Nat) : (State.ospResend s v fseq).time =
    s.time := by
  unfold State.ospResend
  simp

@[simp] theorem State.ospReplay_time (s : State) (v : Nat) : (State.ospReplay s v).time = s.time := by
  unfold State.ospReplay
  simp

@[simp] theorem State.toL0_time (s : State) : (State.toL0 s).time = s.time := by
  unfold State.toL0
  simp

@[simp] theorem State.wakeLink_time (s : State) : (State.wakeLink s).time = s.time := by
  unfold State.wakeLink
  simp

@[simp] theorem State.ltrSend_time (s : State) : (State.ltrSend s).time = s.time := by
  unfold State.ltrSend
  simp

@[simp] theorem State.pciCap_time (s : State) (fn : Nat) (cause : Nat) : (State.pciCap s fn cause).time = s.time := by
  unfold State.pciCap
  simp

@[simp] theorem State.hostFail_time (s : State) (fn : Nat) (cause : Nat) : (State.hostFail s fn cause).time = s.time := by
  unfold State.hostFail
  simp

@[simp] theorem State.setTwinPart_time (s : State) (p : Nat) (x : Nat) : (State.setTwinPart s p x).time = s.time := by
  unfold State.setTwinPart
  simp

@[simp] theorem State.ferry_time (s : State) (typ : Nat) (part : Nat) (key : Nat) (data : List Byte) : (State.ferry s typ
    part key data).time = s.time := by
  unfold State.ferry
  simp

@[simp] theorem State.useEntry_time (s : State) (e : FEntry) : (State.useEntry s e).time = s.time := by
  unfold State.useEntry
  simp

@[simp] theorem State.retain_time (s : State) (o : Out) : (State.retain s o).time = s.time := by
  unfold State.retain
  simp

@[simp] theorem State.atsLook_time (s : State) (fn : Nat) (addr : Nat) (write : Bool) : (State.atsLook s fn addr
    write).1.time = s.time := by
  unfold State.atsLook
  (repeat' split) <;> simp

@[simp] theorem State.atsTag_time (s : State) (tag : Nat) (key : Nat) (translated : Bool) : (State.atsTag s tag key
    translated).time = s.time := by
  unfold State.atsTag
  simp

@[simp] theorem State.showTags_time (s : State) : (State.showTags s).time = s.time := by
  unfold State.showTags
  simp

@[simp] theorem State.pumpTags_time (s : State) (z0 : Nat) : (State.pumpTags s z0).time = s.time := by
  induction z0 generalizing s with
  | zero => rfl
  | succ f ih =>
    unfold State.pumpTags
    split
    · split
      · simp [ih]
      · rfl
    · rfl

@[simp] theorem State.hostRead_time (s : State) (who : List Nat) (pa : Nat) (len : Nat) (func : Nat) : (State.hostRead s who
    pa len func).time = s.time := by
  unfold State.hostRead
  (repeat' split) <;> simp

@[simp] theorem State.askNode_time (s : State) (node : Nat) (args : List Nat) (bytes : List Byte) (h : OspHead) :
    (State.askNode s node args bytes h).time = s.time := by
  unfold State.askNode
  simp

@[simp] theorem State.nodeRead_time (s : State) (who : List Nat) (pa : Nat) (len : Nat) (func : Nat) : (State.nodeRead s who
    pa len func).time = s.time := by
  unfold State.nodeRead
  simp

@[simp] theorem State.remIssue_time (s : State) (who : List Nat) (pa : Nat) (len : Nat) (func : Nat) : (State.remIssue s who
    pa len func).time = s.time := by
  unfold State.remIssue
  simp

@[simp] theorem State.remGet_time (s : State) (who : List Nat) (pa : Nat) (len : Nat) (func : Nat) : (State.remGet s who pa
    len func).1.time = s.time := by
  unfold State.remGet
  (repeat' split) <;> simp

@[simp] theorem State.remDrop_time (s : State) (p : RRead → Bool) : (State.remDrop s p).time = s.time := by
  unfold State.remDrop
  simp

@[simp] theorem State.manArrived_time (s : State) : (State.manArrived s).time = s.time := by
  unfold State.manArrived
  simp

@[simp] theorem State.hostWrite_time (s : State) (func : Nat) (addr : Nat) (bs : List Byte) : (State.hostWrite s func addr
    bs).1.time = s.time := by
  unfold State.hostWrite
  (repeat' split) <;> simp

@[simp] theorem State.nodeWrite_time (s : State) (who : List Nat) (pa : Nat) (mask : Nat) (args : List Nat) (bs : List
    Byte) (line : List Byte) : (State.nodeWrite s who pa mask args bs line).time = s.time := by
  unfold State.nodeWrite
  simp

@[simp] theorem State.remWrite_time (s : State) (who : List Nat) (pa : Nat) (func : Nat) (bs : List Byte) : (State.remWrite s
    who pa func bs).1.time = s.time := by
  unfold State.remWrite
  dsimp only
  (repeat' split) <;> simp_all

@[simp] theorem State.remMasked_time (s : State) (who : List Nat) (pa : Nat) (mask : Nat) (bs : List Byte) :
    (State.remMasked s who pa mask bs).1.time = s.time := by
  unfold State.remMasked
  (repeat' split) <;> simp

@[simp] theorem State.fabTick_time (s : State) : (State.fabTick s).time = s.time := by
  unfold State.fabTick
  split
  · rfl
  · have h : ∀ l x, (List.foldl State.outTurn x l).1.time = x.1.time := by
      intro l x
      refine foldl_fst_time _ (fun p o => ?_) l x
      unfold State.outTurn
      (repeat' split) <;> simp
    simp [h]

@[simp] theorem State.postAt_time (s : State) (at_ : Nat) (h : FabHdr) (up : Bool) (mask : Nat) (d : Line) :
    (State.postAt s at_ h up mask d).1.time = s.time := by
  unfold State.postAt
  (repeat' split) <;> simp

@[simp] theorem State.post_time (s : State) (h : FabHdr) (mask : Nat) (d : Line) : (State.post s h mask d).1.time =
    s.time := by
  unfold State.post
  simp

@[simp] theorem State.fly_time (s : State) (h : FabHdr) (mask : Nat) (d : Line) (x : HPkt) : (State.fly s h mask d
    x).time = s.time := by
  unfold State.fly
  (repeat' split) <;> simp

@[simp] theorem State.putBucket_time (s : State) (p : Nat) (q : Nat) (lv : Int) : (State.putBucket s p q lv).time = s.time := by
  unfold State.putBucket
  simp

@[simp] theorem State.settleAll_time (s : State) : (State.settleAll s).time = s.time := by
  unfold State.settleAll
  simp

@[simp] theorem State.takeTokens_time (s : State) (p : Nat) (q : Nat) : (State.takeTokens s p q).time = s.time := by
  unfold State.takeTokens
  simp

@[simp] theorem State.debitSpf_time (s : State) (p : Nat) (q : Nat) : (State.debitSpf s p q).time = s.time := by
  unfold State.debitSpf
  simp

@[simp] theorem State.charge_time (s : State) (p : Nat) (q : Nat) (n : Nat) : (State.charge s p q n).time = s.time := by
  unfold State.charge
  simp

@[simp] theorem State.tollPay_time (s : State) (who : List Nat) (p : Nat) (q : Nat) (n : Nat) : (State.tollPay s who p q
    n).time = s.time := by
  unfold State.tollPay
  simp

@[simp] theorem State.tollTake_time (s : State) (who : List Nat) (p : Nat) (q : Nat) (n : Nat) : (State.tollTake s who p
    q n).time = s.time := by
  unfold State.tollTake
  simp

@[simp] theorem State.holdReq_time (s : State) (q : CReq) : (State.holdReq s q).time = s.time := by
  unfold State.holdReq
  simp

@[simp] theorem State.latSample_time (s : State) (p : Nat) (q : Nat) (ts : Nat) : (State.latSample s p q ts).time = s.time := by
  unfold State.latSample
  simp

@[simp] theorem State.latNow_time (s : State) (p : Nat) (q : Nat) (n : Nat) : (State.latNow s p q n).time = s.time := by
  unfold State.latNow
  simp

@[simp] theorem State.cleanTick_time (s : State) : (State.cleanTick s).time = s.time := by
  unfold State.cleanTick
  simp

@[simp] theorem State.useDom_time (s : State) (d : Nat) : (State.useDom s d).time = s.time := by
  unfold State.useDom
  simp

@[simp] theorem State.useAgent_time (s : State) (a : Nat) : (State.useAgent s a).time = s.time := by
  unfold State.useAgent
  simp

@[simp] theorem State.useReq_time (s : State) (req : Nat) (home : Nat) : (State.useReq s req home).time = s.time := by
  unfold State.useReq
  simp

@[simp] theorem State.wake_time (s : State) (d : Nat) : (State.wake s d).time = s.time := by
  unfold State.wake
  simp

@[simp] theorem State.countLlc_time (s : State) (h : Nat) (hit : Bool) : (State.countLlc s h hit).time = s.time := by
  unfold State.countLlc
  simp

@[simp] theorem State.touchCopy_time (s : State) (a : Nat) (l : Nat) : (State.touchCopy s a l).time = s.time := by
  unfold State.touchCopy
  (repeat' split) <;> simp

@[simp] theorem State.cohSend_time (s : State) (m : CMsg) : (State.cohSend s m).time = s.time := by
  unfold State.cohSend
  (repeat' split) <;> simp

@[simp] theorem State.fencedCap_time (s : State) (l : Nat) : (State.fencedCap s l).time = s.time := by
  unfold State.fencedCap
  simp

@[simp] theorem State.unmark_time (s : State) (ls : List Nat) : (State.unmark s ls).time = s.time := by
  unfold State.unmark
  simp

@[simp] theorem State.memWrite_time (s : State) (l : Nat) (d : Line) (mask : Nat) (o : Nat) : (State.memWrite s l d mask
    o).1.time = s.time := by
  unfold State.memWrite
  (repeat' split) <;> simp

@[simp] theorem State.writeBack_time (s : State) (l : Nat) (d : Line) : (State.writeBack s l d).time = s.time := by
  unfold State.writeBack
  dsimp only
  (repeat' split) <;> simp_all

@[simp] theorem State.llcEvict_time (s : State) (l : Nat) : (State.llcEvict s l).time = s.time := by
  unfold State.llcEvict
  dsimp only
  (repeat' split) <;> simp_all

@[simp] theorem State.llcTouch_time (s : State) (l : Nat) : (State.llcTouch s l).time = s.time := by
  unfold State.llcTouch
  (repeat' split) <;> simp

@[simp] theorem State.llcIn_time (s : State) (l : Nat) (w : Nat) (d : Line) (dirty : Bool) : (State.llcIn s l w d
    dirty).time = s.time := by
  unfold State.llcIn
  simp

@[simp] theorem State.llcPut_time (s : State) (l : Nat) (d : Line) (dirty : Bool) : (State.llcPut s l d dirty).time = s.time
    := by
  unfold State.llcPut
  dsimp only
  (repeat' split) <;> simp_all

@[simp] theorem State.slicePut_time (s : State) (l : Nat) (d : Line) : (State.slicePut s l d).time = s.time := by
  unfold State.slicePut
  simp

@[simp] theorem State.homeWrite_time (s : State) (l : Nat) (d : Line) (mask : Nat) (o : Nat) (alloc : Bool) (got :
    Option Line) : (State.homeWrite s l d mask o alloc got).1.time = s.time := by
  unfold State.homeWrite
  (repeat' split) <;> simp

@[simp] theorem State.countHome_time (s : State) (l : Nat) : (State.countHome s l).time = s.time := by
  unfold State.countHome
  simp

@[simp] theorem State.snoopOn_time (s : State) (l : Nat) (at_ : Nat) : (State.snoopOn s l at_).time = s.time := by
  unfold State.snoopOn
  (repeat' split) <;> simp

@[simp] theorem State.countSnoop_time (s : State) (h : Nat) : (State.countSnoop s h).time = s.time := by
  unfold State.countSnoop
  simp

@[simp] theorem State.filterPut_time (s : State) (l : Nat) (e : FEnt) : (State.filterPut s l e).time = s.time := by
  unfold State.filterPut
  simp

@[simp] theorem State.filterDel_time (s : State) (l : Nat) : (State.filterDel s l).time = s.time := by
  unfold State.filterDel
  simp

@[simp] theorem State.marksOf_time (s : State) (h : Nat) : (State.marksOf s h).time = s.time := by
  unfold State.marksOf
  simp

@[simp] theorem State.filterAlloc_time (s : State) (l : Nat) (owned : Bool) (fwd : Option Nat) : (State.filterAlloc s l owned
    fwd).time = s.time := by
  unfold State.filterAlloc
  (repeat' split) <;> simp

@[simp] theorem State.filterSetOrNew_time (s : State) (l : Nat) (owned : Bool) (fwd : Option Nat) :
    (State.filterSetOrNew s l owned fwd).time = s.time := by
  unfold State.filterSetOrNew
  simp

@[simp] theorem State.grantWait_time (s : State) (t : Txn) (m : CMsg) : (State.grantWait s t m).time = s.time := by
  unfold State.grantWait
  simp

@[simp] theorem State.endTxn_time (s : State) (l : Nat) (m : CMsg) : (State.endTxn s l m).time = s.time := by
  unfold State.endTxn
  simp

@[simp] theorem State.homeErr_time (s : State) (l : Nat) (req : Nat) (ten : Nat) (r : LineRes) : (State.homeErr s l req ten
    r).time = s.time := by
  unfold State.homeErr
  (repeat' split) <;> simp

@[simp] theorem State.txnData_time (s : State) (t : Txn) : (State.txnData s t).2.time = s.time := by
  unfold State.txnData
  (repeat' split) <;> simp

@[simp] theorem State.keepDirty_time (s : State) (t : Txn) : (State.keepDirty s t).time = s.time := by
  unfold State.keepDirty
  simp

@[simp] theorem State.afterSnoop_time (s : State) (l : Nat) (held : Bool) (keepFwd : Bool) : (State.afterSnoop s l held
    keepFwd).time = s.time := by
  unfold State.afterSnoop
  (repeat' split) <;> simp

@[simp] theorem State.reqWrite_time (s : State) (q : CReq) : (State.reqWrite s q).1.time = s.time := by
  unfold State.reqWrite
  (repeat' split) <;> simp

@[simp] theorem State.serve_time (s : State) (t : Txn) (hit : Bool) : (State.serve s t hit).time = s.time := by
  unfold State.serve
  (repeat' split) <;> simp

@[simp] theorem State.answer_time (s : State) (t : Txn) (hit : Bool) : (State.answer s t hit).time = s.time := by
  unfold State.answer
  (repeat' split) <;> simp

@[simp] theorem State.countReq_time (s : State) (q : CReq) (h : Nat) : (State.countReq s q h).time = s.time := by
  unfold State.countReq
  simp

@[simp] theorem State.accept_time (s : State) (q : CReq) : (State.accept s q).time = s.time := by
  unfold State.accept
  simp

@[simp] theorem State.showCredits_time (s : State) (h : Nat) : (State.showCredits s h).time = s.time := by
  unfold State.showCredits
  simp

@[simp] theorem State.cohErr_time (s : State) (h : Nat) (cause : Nat) (cls : Nat) : (State.cohErr s h cause cls).time =
    s.time := by
  unfold State.cohErr
  simp

@[simp] theorem State.wakeFor_time (s : State) (z0 : Nat) : (State.wakeFor s z0).time = s.time := by
  induction z0 generalizing s <;> (unfold State.wakeFor; (repeat' split) <;> simp_all)

@[simp] theorem State.wakeQueue_time (s : State) : (State.wakeQueue s).time = s.time := by
  unfold State.wakeQueue
  (repeat' split) <;> simp

@[simp] theorem State.homeFill_time (s : State) (l : Nat) (d : Option Line) : (State.homeFill s l d).time = s.time := by
  unfold State.homeFill
  (repeat' split) <;> simp

@[simp] theorem State.tcUe_time (s : State) (a : Nat) (l : Nat) (ten : Option Nat) : (State.tcUe s a l ten).time =
    s.time := by
  unfold State.tcUe
  dsimp only
  (repeat' split) <;> simp

@[simp] theorem State.spfLine_time (s : State) (h : Nat) (src : Nat) (qc : Nat) (ten : Nat) (l : Nat) : (State.spfLine s
    h src qc ten l).time = s.time := by
  unfold State.spfLine
  split
  · simp
  · dsimp only
    have h1 : (((s.raddOpen (R.tileSpfCnt h) F.tileSpfCnt_ISSUED 1).debitSpf src qc).charge src qc 128).time = s.time := by simp
    generalize ((s.raddOpen (R.tileSpfCnt h) F.tileSpfCnt_ISSUED 1).debitSpf src qc).charge src qc 128 = u at h1 ⊢
    cases u.lineRead l <;> simp [h1]

@[simp] theorem State.spfTrain_time (s : State) (q : CReq) : (State.spfTrain s q).time = s.time := by
  unfold State.spfTrain
  dsimp only
  (repeat' split) <;> simp_all

@[simp] theorem State.untrain_time (s : State) (src : Nat) (ten : Nat) : (State.untrain s src ten).time = s.time := by
  unfold State.untrain
  simp

@[simp] theorem State.retry_time (s : State) (q : CReq) (h : Nat) (give : Bool) : (State.retry s q h give).time = s.time
    := by
  unfold State.retry
  simp

@[simp] theorem State.request_time (s : State) (q : CReq) : (State.request s q).time = s.time := by
  unfold State.request
  simp

@[simp] theorem State.wbAck_time (s : State) (a : Nat) (tag : Nat) (l : Nat) : (State.wbAck s a tag l).time = s.time :=
    by
  unfold State.wbAck
  simp

@[simp] theorem State.dropFwd_time (s : State) (a : Nat) (l : Nat) : (State.dropFwd s a l).time = s.time := by
  unfold State.dropFwd
  (repeat' split) <;> simp

@[simp] theorem State.leaving_time (s : State) (a : Nat) (l : Nat) (st : CSt) : (State.leaving s a l st).time = s.time := by
  unfold State.leaving
  simp

@[simp] theorem State.wbPut_time (s : State) (l : Nat) (d : Line) (dmg : Bool) : (State.wbPut s l d dmg).time = s.time
    := by
  unfold State.wbPut
  simp

@[simp] theorem State.wbHome_time (s : State) (agent : Nat) (tag : Nat) (l : Nat) (d : Line) (dmg : Bool) :
    (State.wbHome s agent tag l d dmg).time = s.time := by
  unfold State.wbHome
  (repeat' split) <;> simp

@[simp] theorem State.evctHome_time (s : State) (agent : Nat) (tag : Nat) (l : Nat) : (State.evctHome s agent tag
    l).time = s.time := by
  unfold State.evctHome
  (repeat' split) <;> simp

@[simp] theorem State.noteDecode_time (s : State) (src : Nat) (pa : Nat) : (State.noteDecode s src pa).time = s.time := by
  unfold State.noteDecode
  simp

@[simp] theorem State.passMsg_time (s : State) (q : CReq) (m : CMsg) : (State.passMsg s q m).time = s.time := by
  unfold State.passMsg
  simp

@[simp] theorem State.passData_time (s : State) (q : CReq) (d : Option Line) : (State.passData s q d).time = s.time :=
    by
  unfold State.passData
  simp

@[simp] theorem State.passErr_time (s : State) (q : CReq) (c : Nat) : (State.passErr s q c).time = s.time := by
  unfold State.passErr
  simp

@[simp] theorem State.passAck_time (s : State) (q : CReq) (ok : Bool) : (State.passAck s q ok).time = s.time := by
  unfold State.passAck
  simp

@[simp] theorem State.passRead_time (s : State) (q : CReq) : (State.passRead s q).time = s.time := by
  unfold State.passRead
  dsimp only
  (repeat' split) <;> simp_all

@[simp] theorem State.passWrite_time (s : State) (q : CReq) : (State.passWrite s q).time = s.time := by
  unfold State.passWrite
  simp

@[simp] theorem State.passOn_time (s : State) (q : CReq) : (State.passOn s q).time = s.time := by
  unfold State.passOn
  dsimp only
  (repeat' split) <;> simp_all

@[simp] theorem State.compAck_time (s : State) (req : Nat) (pa : Nat) : (State.compAck s req pa).time = s.time := by
  unfold State.compAck
  dsimp only
  (repeat' split) <;> simp_all

@[simp] theorem State.snpRsp_time (s : State) (slip : Nat) (pa : Nat) (held : Bool) (dirty : Bool) (sends : Bool) (wbseen :
    Bool) (reqhold : Bool) : (State.snpRsp s slip pa held dirty sends wbseen reqhold).time = s.time := by
  unfold State.snpRsp
  dsimp only
  (repeat' split) <;> simp_all

@[simp] theorem State.reqHome_time (s : State) (q : CReq) : (State.reqHome s q).time = s.time := by
  unfold State.reqHome
  simp

@[simp] theorem State.atHome_time (s : State) (z0 : HPkt) : (State.atHome s z0).time = s.time := by
  induction z0 generalizing s <;> (unfold State.atHome; simp_all)

@[simp] theorem State.park_time (s : State) (d : Nat) (x : HPkt) : (State.park s d x).time = s.time := by
  unfold State.park
  simp

@[simp] theorem State.toHome_time (s : State) (x : HPkt) : (State.toHome s x).time = s.time := by
  unfold State.toHome
  simp

@[simp] theorem State.sendHome_time (s : State) (h : FabHdr) (mask : Nat) (d : Line) (x : HPkt) : (State.sendHome s h
    mask d x).time = s.time := by
  unfold State.sendHome
  simp

@[simp] theorem State.inject_time (s : State) (q : CReq) : (State.inject s q).time = s.time := by
  unfold State.inject
  simp

@[simp] theorem State.reqFrom_time (s : State) (caching : Bool) (q : CReq) : (State.reqFrom s caching q).time = s.time := by
  unfold State.reqFrom
  simp

@[simp] theorem State.wbArrive_time (s : State) (agent : Nat) (pa : Nat) (tag : Nat) (data : Line) : (State.wbArrive s
    agent pa tag data).time = s.time := by
  unfold State.wbArrive
  simp

@[simp] theorem State.evctArrive_time (s : State) (agent : Nat) (pa : Nat) (tag : Nat) : (State.evctArrive s agent pa
    tag).time = s.time := by
  unfold State.evctArrive
  simp

@[simp] theorem State.cohTake_time (s : State) (m : CMsg) : (State.cohTake s m).time = s.time := by
  unfold State.cohTake
  simp

@[simp] theorem State.agentTake_time (s : State) (m : CMsg) : (State.agentTake s m).time = s.time := by
  unfold State.agentTake
  simp

@[simp] theorem State.snoopTile_time (s : State) (l : Nat) (a : Nat) (k : SnpK) (t : Txn) (last : Bool) :
    (State.snoopTile s l a k t last).time = s.time := by
  unfold State.snoopTile
  dsimp only
  (repeat' split) <;> simp_all

@[simp] theorem State.stopDoes_time (s : State) (l : Nat) (a : Nat) (k : SnpK) (t : Txn) : (State.stopDoes s l a k
    t).time = s.time := by
  unfold State.stopDoes
  simp

@[simp] theorem State.snoopAt_time (s : State) (pa : Nat) (stop : Nat) : (State.snoopAt s pa stop).time = s.time := by
  unfold State.snoopAt
  dsimp only
  (repeat' split) <;> simp

@[simp] theorem State.snoopUe_time (s : State) (pa : Nat) (stop : Nat) : (State.snoopUe s pa stop).time = s.time := by
  unfold State.snoopUe
  dsimp only
  (repeat' split) <;> simp

@[simp] theorem State.snpData_time (s : State) (agent : Nat) (pa : Nat) (dirty : Bool) (data : Line) : (State.snpData s agent
    pa dirty data).time = s.time := by
  unfold State.snpData
  dsimp only
  (repeat' split) <;> simp_all

@[simp] theorem State.ownerLost_time (s : State) (l : Nat) : (State.ownerLost s l).time = s.time := by
  unfold State.ownerLost
  simp

@[simp] theorem State.snoopEnd_time (s : State) (t : Txn) : (State.snoopEnd s t).time = s.time := by
  unfold State.snoopEnd
  simp

@[simp] theorem State.tileDrop_time (s : State) (a : Nat) (l : Nat) (d : Line) : (State.tileDrop s a l d).time = s.time
    := by
  unfold State.tileDrop
  (repeat' split) <;> simp

@[simp] theorem State.tileInstall_time (s : State) (a : Nat) (l : Nat) (st : CSt) (d : Line) : (State.tileInstall s a l st
    d).time = s.time := by
  unfold State.tileInstall
  dsimp only
  (repeat' split) <;> simp_all

@[simp] theorem State.compAckFrom_time (s : State) (req : Nat) (pa : Nat) : (State.compAckFrom s req pa).time = s.time
    := by
  unfold State.compAckFrom
  dsimp only
  (repeat' split) <;> simp_all

@[simp] theorem State.grantFlushed_time (s : State) (req : Nat) (l : Nat) (st : CSt) (d : Line) : (State.grantFlushed s
    req l st d).time = s.time := by
  unfold State.grantFlushed
  simp

@[simp] theorem State.grantGone_time (s : State) (req : Nat) (pa : Nat) : (State.grantGone s req pa).time = s.time := by
  unfold State.grantGone
  simp

@[simp] theorem State.slipGone_time (s : State) (v : Nat) : (State.slipGone s v).time = s.time := by
  unfold State.slipGone
  simp

@[simp] theorem State.agentLoss_time (s : State) (slip : Nat) : (State.agentLoss s slip).time = s.time := by
  unfold State.agentLoss
  simp

@[simp] theorem State.prepLine_time (s : State) (a : Nat) (w : Bool) (cache : Nat) (l : Nat) : (State.prepLine s a w
    cache l).time = s.time := by
  unfold State.prepLine
  simp

@[simp] theorem State.moverMark_time (s : State) (h : Nat) : (State.moverMark s h).time = s.time := by
  unfold State.moverMark
  simp

@[simp] theorem State.moverReq_time (s : State) (a : Nat) (l : Nat) (k : SnpK) (but : Option Nat) : (State.moverReq s a
    l k but).time = s.time := by
  unfold State.moverReq
  dsimp only
  (repeat' split) <;> simp_all

@[simp] theorem State.cohRead_time (s : State) (a : Nat) (l : Nat) (cache : Nat) (got : Option Line) : (State.cohRead s
    a l cache got).1.time = s.time := by
  unfold State.cohRead
  dsimp only
  (repeat' split) <;> simp_all

@[simp] theorem State.ownWrite_time (s : State) (a : Nat) (l : Nat) (mask : Nat) (d : Line) (old : LineRes) :
    (State.ownWrite s a l mask d old).1.time = s.time := by
  unfold State.ownWrite
  (repeat' split) <;> simp

@[simp] theorem State.cohWrite_time (s : State) (a : Nat) (l : Nat) (cache : Nat) (mask : Nat) (d : Line) (got : Option
    Line) : (State.cohWrite s a l cache mask d got).1.time = s.time := by
  unfold State.cohWrite
  (repeat' split) <;> simp

@[simp] theorem State.tableVault_time (s : State) (c : Nat) (q : Nat) (tenant : Nat) (pa : Nat) : (State.tableVault s c
    q tenant pa).1.time = s.time := by
  unfold State.tableVault
  dsimp only
  (repeat' split) <;> simp_all

@[simp] theorem State.tableRead_time (s : State) (c : Nat) (q : Nat) (tenant : Nat) (pa : Nat) : (State.tableRead s c q
    tenant pa).1.time = s.time := by
  unfold State.tableRead
  (repeat' split) <;> simp

@[simp] theorem State.walkBegin_time (s : State) (c : Nat) (q : Nat) (t : Nat) (va : Nat) : (State.walkBegin s c q t
    va).time = s.time := by
  unfold State.walkBegin
  simp

@[simp] theorem State.walkNote_time (s : State) (c : Nat) (t : Nat) (va : Nat) (e : Nat) : (State.walkNote s c t va
    e).time = s.time := by
  unfold State.walkNote
  simp

@[simp] theorem State.walkL1_time (s : State) (c : Nat) (q : Nat) (t : Nat) (va : Nat) : (State.walkL1 s c q t
    va).1.time = s.time := by
  unfold State.walkL1
  (repeat' (split <;> (try (rename_i h; have h1 := congrArg Prod.fst h; clear h; dsimp only at h1; subst h1)))) <;>
    simp

@[simp] theorem State.walk_time (s : State) (c : Nat) (q : Nat) (t : Nat) (va : Nat) : (State.walk s c q t va).1.time =
    s.time := by
  unfold State.walk
  (repeat' (split <;> (try (rename_i h; have h1 := congrArg Prod.fst h; clear h; dsimp only at h1; subst h1)))) <;>
    simp

@[simp] theorem State.tableDrop_time (s : State) (c : Nat) (q : Nat) (t : Nat) (pa : Nat) : (State.tableDrop s c q t
    pa).time = s.time := by
  unfold State.tableDrop
  simp

@[simp] theorem State.walkEnd_time (s : State) (c : Nat) (q : Nat) (t : Nat) (va : Nat) : (State.walkEnd s c q t
    va).time = s.time := by
  unfold State.walkEnd
  (repeat' split) <;> simp

@[simp] theorem State.walksForget_time (s : State) : (State.walksForget s).time = s.time := by
  unfold State.walksForget
  simp

@[simp] theorem State.walksAgain_time (s : State) (p : Nat → Bool) : (State.walksAgain s p).time = s.time := by
  unfold State.walksAgain
  simp

@[simp] theorem State.tcTouch_time (s : State) (c : Nat) (e : TcEnt) : (State.tcTouch s c e).time = s.time := by
  unfold State.tcTouch
  simp

@[simp] theorem State.tcPut_time (s : State) (c : Nat) (e : TcEnt) : (State.tcPut s c e).time = s.time := by
  unfold State.tcPut
  simp

@[simp] theorem State.leaf_time (s : State) (c : Nat) (q : Nat) (t : Nat) (va : Nat) : (State.leaf s c q t va).1.time =
    s.time := by
  unfold State.leaf
  split
  · simp
  · rcases h : (s.walkBegin c q t va).walk c ((s.walkBegin c q t va).walkQ c q t va) t va with ⟨s1, r⟩
    have h1 : s1.time = s.time := by
      simpa [h] using (s.walkBegin c q t va).walk_time c ((s.walkBegin c q t va).walkQ c q t va) t va
    cases r with
    | wait => exact h1
    | fail x => exact h1
    | ok e => dsimp only; split <;> simp [h1]

@[simp] theorem State.xlate_time (s : State) (c : Nat) (q : Nat) (t : Nat) (va : Nat) (n : Nat) (a : Acc) : (State.xlate
    s c q t va n a).1.time = s.time := by
  unfold State.xlate
  (repeat' (split <;> (try (rename_i h; have h1 := congrArg Prod.fst h; clear h; dsimp only at h1; subst h1)))) <;>
    simp

@[simp] theorem State.footprintOpen_time (s : State) (c : Nat) (q : Nat) (t : Nat) (a : Acc) (z0 : List (Nat × Nat)) :
    (State.footprintOpen s c q t a z0).1.time = s.time := by
  induction z0 generalizing s with
  | nil => rfl
  | cons p rest ih =>
    obtain ⟨va, n⟩ := p
    unfold State.footprintOpen
    rcases h : s.xlate c q t va n a with ⟨s1, r⟩
    have h1 : s1.time = s.time := by simpa [h] using s.xlate_time c q t va n a
    cases r <;> dsimp only <;> (first | exact h1 | rw [ih, h1])

@[simp] theorem State.walksEnd_time (s : State) (c : Nat) (q : Nat) (t : Nat) (l : List Nat) : (State.walksEnd s c q t
    l).time = s.time := by
  unfold State.walksEnd
  simp

@[simp] theorem State.footprint_time (s : State) (c : Nat) (q : Nat) (t : Nat) (a : Acc) (ps : List (Nat × Nat)) :
    (State.footprint s c q t a ps).1.time = s.time := by
  unfold State.footprint
  dsimp only
  (repeat' split) <;> simp_all

@[simp] theorem State.fqShow_time (s : State) (t : Nat) : (State.fqShow s t).time = s.time := by
  unfold State.fqShow
  simp

@[simp] theorem State.faultRec_time (s : State) (t : Nat) (page : Nat) (cause : Nat) (req : Option Nat) (write : Bool) :
    (State.faultRec s t page cause req write).time = s.time := by
  unfold State.faultRec
  simp

@[simp] theorem State.pageFail_time (s : State) (t : Nat) (page : Nat) (cause : Nat) (req : Option Nat) (write : Bool) :
    (State.pageFail s t page cause req write).time = s.time := by
  unfold State.pageFail
  simp

@[simp] theorem State.pageFails_time (s : State) (t : Nat) (fails : List (Nat × Nat)) (req : Option Nat) (write : Bool) :
    (State.pageFails s t fails req write).time = s.time := by
  unfold State.pageFails
  simp

@[simp] theorem State.markRange_time (s : State) (t : Nat) (va : Nat) (n : Nat) : (State.markRange s t va n).time = s.time := by
  unfold State.markRange
  simp

@[simp] theorem State.memDrop_time (s : State) (who : List Nat) (l : Nat) : (State.memDrop s who l).time = s.time := by
  unfold State.memDrop
  (repeat' split) <;> simp

@[simp] theorem State.readPieces_time (s : State) (who : List Nat) (a : Nat) (cache : Nat) (z0 : List (Nat × Nat)) :
    (State.readPieces s who a cache z0).1.time = s.time := by
  induction z0 generalizing s with
  | nil => rfl
  | cons p rest ih =>
    obtain ⟨pa, n⟩ := p
    unfold State.readPieces
    dsimp only
    split <;> simp [ih]

@[simp] theorem State.moverRead_time (s : State) (who : List Nat) (a : Nat) (cache : Nat) (pa : Nat) (n : Nat) :
    (State.moverRead s who a cache pa n).1.time = s.time := by
  unfold State.moverRead
  simp

@[simp] theorem State.writePieces_time (s : State) (who : List Nat) (a : Nat) (cache : Nat) (z0 : List (Nat × Nat)) (z1
    : List Byte) : (State.writePieces s who a cache z0 z1).1.time = s.time := by
  induction z0 generalizing s z1 with
  | nil => rfl
  | cons p rest ih =>
    obtain ⟨pa, n⟩ := p
    unfold State.writePieces
    dsimp only
    split <;> simp [ih]

@[simp] theorem State.moverWrite_time (s : State) (who : List Nat) (a : Nat) (cache : Nat) (pa : Nat) (bs : List Byte) :
    (State.moverWrite s who a cache pa bs).1.time = s.time := by
  unfold State.moverWrite
  simp

@[simp] theorem State.legBadRead_time (s : State) (p : Nat) (tenant : Nat) (x : Nat × LineRes) : (State.legBadRead s p tenant
    x).time = s.time := by
  unfold State.legBadRead
  (repeat' split) <;> simp

@[simp] theorem State.legBadWrite_time (s : State) (p : Nat) (tenant : Nat) (x : Nat × LineRes) : (State.legBadWrite s p
    tenant x).time = s.time := by
  unfold State.legBadWrite
  (repeat' split) <;> simp

@[simp] theorem State.chargeFor_time (s : State) (who : List Nat) (a : Nat) (n : Nat) : (State.chargeFor s who a n).time
    = s.time := by
  unfold State.chargeFor
  simp

@[simp] theorem State.echo_time (s : State) (pa : Nat) (n : Nat) : (State.echo s pa n).time = s.time := by
  unfold State.echo
  simp

@[simp] theorem State.moversKeep_time (s : State) : (State.moversKeep s).time = s.time := by
  unfold State.moversKeep
  simp

@[simp] theorem State.getPieces_time (s : State) (who : List Nat) (a : Nat) (cache : Nat) (func : Nat) (z0 : List (Nat ×
    Nat)) : (State.getPieces s who a cache func z0).1.time = s.time := by
  induction z0 generalizing s <;> (unfold State.getPieces; (repeat' split) <;> simp_all)

@[simp] theorem State.prepPiece_time (s : State) (who : List Nat) (a : Nat) (w : Bool) (cache : Nat) (func : Nat) (pa :
    Nat) (n : Nat) : (State.prepPiece s who a w cache func pa n).time = s.time := by
  unfold State.prepPiece
  simp

@[simp] theorem State.openReads_time (s : State) (who : List Nat) (a : Nat) (cache : Nat) (func : Nat) (ps : List (Nat ×
    Nat)) : (State.openReads s who a cache func ps).time = s.time := by
  unfold State.openReads
  simp

@[simp] theorem State.openWrites_time (s : State) (who : List Nat) (a : Nat) (cache : Nat) (func : Nat) (ps : List (Nat
    × Nat)) : (State.openWrites s who a cache func ps).time = s.time := by
  unfold State.openWrites
  simp

@[simp] theorem State.payFor_time (s : State) (who : List Nat) (a : Nat) (n : Nat) : (State.payFor s who a n).time =
    s.time := by
  unfold State.payFor
  simp

@[simp] theorem State.putPieces_time (s : State) (who : List Nat) (a : Nat) (cache : Nat) (func : Nat) (z0 : List (Nat ×
    Nat)) (z1 : List Byte) : (State.putPieces s who a cache func z0 z1).1.time = s.time := by
  induction z0 generalizing s z1 <;> (unfold State.putPieces; (repeat' split) <;> simp_all)

@[simp] theorem State.legRemFail_time (s : State) (p : Nat) (tenant : Nat) (n : Nat) : (State.legRemFail s p tenant n).time =
    s.time := by
  unfold State.legRemFail
  simp

@[simp] theorem State.issue_time (s : State) (k : Nat) (cls : Nat) (sel : Nat → Bool) (hold : LegRun → Nat → List (Nat ×
    Nat)) (act : State → LegRun → Nat → State × LegRun) (hact : ∀ s x0 x1, (act s x0 x1).1.time = s.time) : (State.issue s k
    cls sel hold act).time = s.time := by
  unfold State.issue
  (repeat' split) <;> simp_all

@[simp] theorem State.legEvts_time (s : State) (k : Nat) (e : Evts) : (State.legEvts s k e).time = s.time := by
  unfold State.legEvts
  dsimp only
  (repeat' split) <;> simp_all

@[simp] theorem State.halt_time (s : State) (k : Nat) (r : LegRun) (cause : Nat) (stops : Bool) : (State.halt s k r
    cause stops).time = s.time := by
  unfold State.halt
  simp

@[simp] theorem State.dropLeg_time (s : State) (k : Nat) : (State.dropLeg s k).time = s.time := by
  unfold State.dropLeg
  dsimp only
  (repeat' split) <;> simp_all

@[simp] theorem State.markOuts_time (s : State) (tenant : Nat) (outs : List (Nat × Nat)) : (State.markOuts s tenant
    outs).time = s.time := by
  unfold State.markOuts
  simp

@[simp] theorem State.overrun_time (s : State) (k : Nat) : (State.overrun s k).time = s.time := by
  unfold State.overrun
  (repeat' split) <;> simp

@[simp] theorem State.showPool_time (s : State) : (State.showPool s).time = s.time := by
  unfold State.showPool
  simp

@[simp] theorem State.qCap_time (s : State) (g : Nat) (cause : Nat) : (State.qCap s g cause).time = s.time := by
  unfold State.qCap
  simp

@[simp] theorem State.enableRing_time (s : State) (g : Nat) : (State.enableRing s g).time = s.time := by
  unfold State.enableRing
  (repeat' split) <;> simp

@[simp] theorem State.ringOff_time (s : State) (g : Nat) : (State.ringOff s g).time = s.time := by
  unfold State.ringOff
  simp

@[simp] theorem State.disableRing_time (s : State) (g : Nat) : (State.disableRing s g).time = s.time := by
  unfold State.disableRing
  (repeat' split) <;> simp

@[simp] theorem State.applyEn_time (s : State) (g : Nat) : (State.applyEn s g).time = s.time := by
  unfold State.applyEn
  (repeat' split) <;> simp

@[simp] theorem State.ringEnables_time (s : State) (gs : List Nat) : (State.ringEnables s gs).time = s.time := by
  unfold State.ringEnables
  simp

@[simp] theorem State.doorbell_time (s : State) (tenant : Nat) (ring : Nat) (half : Nat) (value : Nat) : (State.doorbell s
    tenant ring half value).time = s.time := by
  unfold State.doorbell
  simp

@[simp] theorem State.captureDoorbells_time (s : State) : (State.captureDoorbells s).time = s.time := by
  unfold State.captureDoorbells
  simp

@[simp] theorem State.ringError_time (s : State) (g : Nat) : (State.ringError s g).time = s.time := by
  unfold State.ringError
  simp

@[simp] theorem State.showOut_time (s : State) (g : Nat) : (State.showOut s g).time = s.time := by
  unfold State.showOut
  simp

@[simp] theorem State.admitOne_time (s : State) (g : Nat) : (State.admitOne s g).time = s.time := by
  unfold State.admitOne
  simp

@[simp] theorem State.admitN_time (s : State) (g : Nat) (z0 : Nat) : (State.admitN s g z0).time = s.time := by
  induction z0 generalizing s with
  | zero => rfl
  | succ n ih => unfold State.admitN; simp [ih]

@[simp] theorem State.admitRing_time (s : State) (g : Nat) : (State.admitRing s g).time = s.time := by
  unfold State.admitRing
  simp

@[simp] theorem State.admitFerry_time (s : State) : (State.admitFerry s).time = s.time := by
  unfold State.admitFerry
  (repeat' split) <;> simp

@[simp] theorem State.admitAll_time (s : State) : (State.admitAll s).time = s.time := by
  unfold State.admitAll
  simp

@[simp] theorem State.dropChunks_time (s : State) (ring : Nat) (didx : Nat) : (State.dropChunks s ring didx).time = s.time := by
  unfold State.dropChunks
  simp

@[simp] theorem State.ctxEnd_time (s : State) (c : Ctx) (status : Nat) (detail : Nat) : (State.ctxEnd s c status detail).time
    = s.time := by
  unfold State.ctxEnd
  simp

@[simp] theorem State.ctxFail_time (s : State) (c : Ctx) (status : Nat) (detail : Nat) : (State.ctxFail s c status
    detail).time = s.time := by
  unfold State.ctxFail
  simp

@[simp] theorem State.ringBad_time (s : State) (tenant : Nat) (x : Nat × LineRes) : (State.ringBad s tenant x).1.time =
    s.time := by
  unfold State.ringBad
  (repeat' split) <;> simp

@[simp] theorem State.ringBads_time (s : State) (tenant : Nat) (l : List (Nat × LineRes)) : (State.ringBads s tenant
    l).1.time = s.time := by
  unfold State.ringBads
  simp

@[simp] theorem State.unkeep_time (s : State) (who : List Nat) (wr : Bool) (ranges : List (Nat × Nat)) : (State.unkeep s
    who wr ranges).time = s.time := by
  unfold State.unkeep
  simp

@[simp] theorem State.dmaXlate_time (s : State) (who : List Nat) (wr : Bool) (tenant : Nat) (ranges : List (Nat × Nat))
    : (State.dmaXlate s who wr tenant ranges).1.time = s.time := by
  unfold State.dmaXlate
  dsimp only
  (repeat' split) <;> simp_all

@[simp] theorem State.dmaRead_time (s : State) (who : List Nat) (tenant : Nat) (ranges : List (Nat × Nat)) :
    (State.dmaRead s who tenant ranges).1.time = s.time := by
  unfold State.dmaRead
  dsimp only
  (repeat' split) <;> simp_all

@[simp] theorem State.dmaWrite_time (s : State) (who : List Nat) (tenant : Nat) (ranges : List (Nat × Nat)) (bs : List Byte)
    : (State.dmaWrite s who tenant ranges bs).1.time = s.time := by
  unfold State.dmaWrite
  dsimp only
  (repeat' split) <;> simp_all

@[simp] theorem State.fetchDesc_time (s : State) (c : Ctx) : (State.fetchDesc s c).time = s.time := by
  unfold State.fetchDesc
  extract_lets t n
  rcases h : s.dmaRead [3, c.ring, c.didx] t [(s.entVa c.ring c.didx, n)] with ⟨s1, r⟩
  have h1 : s1.time = s.time := by
    simpa [h] using s.dmaRead_time [3, c.ring, c.didx] t [(s.entVa c.ring c.didx, n)]
  cases r <;> dsimp only <;> (repeat' split) <;> simp [h1]

@[simp] theorem State.startRun_time (s : State) (c : Ctx) : (State.startRun s c).time = s.time := by
  unfold State.startRun
  (repeat' split) <;> (try rename_i h) <;> (try (have h2 := congrArg (fun z => z.1.time) h; simp at h2)) <;>
    simp_all

@[simp] theorem State.nextEntry_time (s : State) (c : Ctx) : (State.nextEntry s c).1.time = s.time := by
  unfold State.nextEntry
  split
  · rfl
  · rcases h : s.dmaRead [3, c.ring, c.didx] (ringTen c.ring) [(c.ents, 16)] with ⟨s1, r⟩
    have h1 : s1.time = s.time := by
      simpa [h] using s.dmaRead_time [3, c.ring, c.didx] (ringTen c.ring) [(c.ents, 16)]
    cases r <;> dsimp only <;> (repeat' split) <;> simp [h1]

@[simp] theorem State.gather_time (s : State) (c : Ctx) (room : Nat) (acc : List (Nat × Nat)) (z0 : Nat) : (State.gather s c
    room acc z0).1.time = s.time := by
  induction z0 generalizing s c room acc with
  | zero => rfl
  | succ f ih =>
    unfold State.gather
    split
    · rfl
    · split
      · split
        · split
          · rfl
          · exact ih ..
        · exact ih ..
      · split
        · rfl
        · rcases h : s.nextEntry c with ⟨s1, r⟩
          have h1 : s1.time = s.time := by simpa [h] using s.nextEntry_time c
          match r with
          | none => exact h1
          | some (.error e) => exact h1
          | some (.ok c1) => exact (ih ..).trans h1

@[simp] theorem State.poolPut_time (s : State) (slot : Nat) (bs : List Byte) : (State.poolPut s slot bs).time = s.time
    := by
  unfold State.poolPut
  simp

@[simp] theorem State.startChunk_time (s : State) (g : Nat) : (State.startChunk s g).1.time = s.time := by
  unfold State.startChunk
  split
  · rfl
  · split
    · rfl
    · rename_i c _
      rcases h : s.gather c s.bufSize [] (s.bufSize / 32 + 4) with ⟨s1, c1, r⟩
      have h1 : s1.time = s.time := by simpa [h] using s.gather_time c s.bufSize [] (s.bufSize / 32 + 4)
      match r with
      | none => exact h1
      | some (.error e) => simp [h1]
      | some (.ok ps) => simp [h1]

@[simp] theorem State.startChunksN_time (s : State) (g : Nat) (z0 : Nat) : (State.startChunksN s g z0).time = s.time := by
  induction z0 generalizing s with
  | zero => rfl
  | succ f ih => unfold State.startChunksN; dsimp only; split <;> simp [ih]

@[simp] theorem State.startChunks_time (s : State) (g : Nat) : (State.startChunks s g).time = s.time := by
  unfold State.startChunks
  simp

@[simp] theorem State.grantAll_time (s : State) : (State.grantAll s).time = s.time := by
  unfold State.grantAll
  simp

@[simp] theorem State.descFetch_time (s : State) (ring : Nat) (didx : Nat) : (State.descFetch s ring didx).time = s.time := by
  unfold State.descFetch
  (repeat' split) <;> simp

@[simp] theorem State.descDo_time (s : State) (ring : Nat) (didx : Nat) (op : Nat) (f : State → Ctx → State) (hf : ∀ s x0, (f
    s x0).time = s.time) : (State.descDo s ring didx op f).time = s.time := by
  unfold State.descDo
  dsimp only
  (repeat' split) <;> simp_all

@[simp] theorem State.loadSize_time (s : State) (c : Ctx) : (State.loadSize s c).time = s.time := by
  unfold State.loadSize
  (repeat' (split <;> (try (rename_i h; have h1 := congrArg Prod.fst h; clear h; dsimp only at h1; subst h1)))) <;>
    simp

@[simp] theorem State.delChunk_time (s : State) (c : Chunk) : (State.delChunk s c).time = s.time := by
  unfold State.delChunk
  simp

@[simp] theorem State.chunkFail_time (s : State) (c : Chunk) (st : Nat) (d : Nat) : (State.chunkFail s c st d).time = s.time
    := by
  unfold State.chunkFail
  dsimp only
  (repeat' split) <;> simp_all

@[simp] theorem State.finishLoad_time (s : State) (c : Ctx) : (State.finishLoad s c).time = s.time := by
  unfold State.finishLoad
  dsimp only
  (repeat' split) <;> simp_all

@[simp] theorem State.drained_time (s : State) (c : Chunk) : (State.drained s c).time = s.time := by
  unfold State.drained
  (repeat' split) <;> simp

@[simp] theorem State.chunkGone_time (s : State) (c : Chunk) : (State.chunkGone s c).time = s.time := by
  unfold State.chunkGone
  simp

@[simp] theorem State.lostRec_time (s : State) (c : Nat) : (State.lostRec s c).time = s.time := by
  unfold State.lostRec
  simp

@[simp] theorem State.issueRec_time (s : State) (r : CmpRec) : (State.issueRec s r).1.time = s.time := by
  unfold State.issueRec
  dsimp only
  (repeat' split) <;> simp_all

@[simp] theorem State.releaseCtx_time (s : State) (c : Ctx) : (State.releaseCtx s c).time = s.time := by
  unfold State.releaseCtx
  simp

@[simp] theorem State.invAccept_time (s : State) (w : Nat) (r : InvReq) : (State.invAccept s w r).time = s.time := by
  unfold State.invAccept
  simp

@[simp] theorem State.invWrite_time (s : State) (w : Nat) (word : Nat) (half : Bool) : (State.invWrite s w word half).time =
    s.time := by
  unfold State.invWrite
  simp

@[simp] theorem State.tcDrop_time (s : State) (p : TcEnt → Bool) : (State.tcDrop s p).time = s.time := by
  unfold State.tcDrop
  simp

@[simp] theorem State.invOne_time (s : State) (w : Nat) (last : Option Nat) (r : InvReq) : (State.invOne s w last r).1.time =
    s.time := by
  unfold State.invOne
  (repeat' split) <;> simp

@[simp] theorem State.invLane_time (s : State) (base : List TcEnt) (w : Nat) : (State.invLane s base w).time = s.time :=
    by
  unfold State.invLane
  dsimp only
  (repeat' split) <;> simp_all

@[simp] theorem State.ctxOn_time (s : State) (t : Nat) : (State.ctxOn s t).time = s.time := by
  unfold State.ctxOn
  simp

@[simp] theorem State.atsApply_time (s : State) : (State.atsApply s).time = s.time := by
  unfold State.atsApply
  simp

@[simp] theorem State.applyI1_time (s : State) : (State.applyI1 s).time = s.time := by
  unfold State.applyI1
  simp

@[simp] theorem State.ackLane_time (s : State) (w : Nat) (seq : Nat) : (State.ackLane s w seq).time = s.time := by
  unfold State.ackLane
  simp

@[simp] theorem State.atsComplete_time (s : State) (x : Nat × Nat × Nat) : (State.atsComplete s x).time = s.time := by
  unfold State.atsComplete
  simp

@[simp] theorem State.applyI4_time (s : State) : (State.applyI4 s).time = s.time := by
  unfold State.applyI4
  simp

@[simp] theorem State.loadPins_time (s : State) (t : Nat) : (State.loadPins s t).time = s.time := by
  unfold State.loadPins
  simp

@[simp] theorem State.dropTables_time (s : State) (t : Nat) : (State.dropTables s t).time = s.time := by
  unfold State.dropTables
  simp

@[simp] theorem State.ctxTransfer_time (s : State) (t : Nat) (wroteEn : Bool) (moved : Bool) : (State.ctxTransfer s t wroteEn
    moved).time = s.time := by
  unfold State.ctxTransfer
  simp

@[simp] theorem State.ctxOff_time (s : State) (t : Nat) : (State.ctxOff s t).time = s.time := by
  unfold State.ctxOff
  simp

@[simp] theorem State.pinWalk_time (s : State) (t : Nat) (z0 : List Nat) (z1 : List TcEnt) : (State.pinWalk s t z0
    z1).1.time = s.time := by
  induction z0 generalizing s z1 with
  | nil => rfl
  | cons va rest ih =>
    unfold State.pinWalk
    split
    · split
      · rfl
      · exact ih ..
    · rcases h : (s.walkBegin pinCache 2 t va).walk pinCache 2 t va with ⟨s1, r⟩
      have h1 : s1.time = s.time := by simpa [h] using (s.walkBegin pinCache 2 t va).walk_time pinCache 2 t va
      cases r with
      | wait => exact h1
      | fail x => simp [h1]
      | ok e => dsimp only; split <;> simp [ih, h1]

@[simp] theorem State.fqEdge_time (s : State) : (State.fqEdge s).time = s.time := by
  unfold State.fqEdge
  simp

@[simp] theorem State.fqVisible_time (s : State) : (State.fqVisible s).time = s.time := by
  unfold State.fqVisible
  simp

@[simp] theorem State.tfqPop_time (s : State) (tenant : Nat) : (State.tfqPop s tenant).time = s.time := by
  unfold State.tfqPop
  (repeat' split) <;> simp

@[simp] theorem State.tinvClr_time (s : State) (tenant : Nat) : (State.tinvClr s tenant).time = s.time := by
  unfold State.tinvClr
  simp

@[simp] theorem State.showDebug_time (s : State) (scope : Nat) (remain : Nat) : (State.showDebug s scope remain).time =
    s.time := by
  unfold State.showDebug
  simp

@[simp] theorem State.revokeDebug_time (s : State) : (State.revokeDebug s).time = s.time := by
  unfold State.revokeDebug
  simp

@[simp] theorem State.confOn_time (s : State) : (State.confOn s).time = s.time := by
  unfold State.confOn
  simp

@[simp] theorem State.confOff_time (s : State) : (State.confOff s).time = s.time := by
  unfold State.confOff
  simp

@[simp] theorem State.dropPart_time (s : State) (p : Nat) : (State.dropPart s p).time = s.time := by
  unfold State.dropPart
  simp

@[simp] theorem State.unpair_time (s : State) (p : Nat) (st : Nat) : (State.unpair s p st).time = s.time := by
  unfold State.unpair
  simp

@[simp] theorem State.sendLine_time (s : State) (l : Nat) : (State.sendLine s l).time = s.time := by
  unfold State.sendLine
  simp

@[simp] theorem State.syncNext_time (s : State) : (State.syncNext s).time = s.time := by
  unfold State.syncNext
  (repeat' split) <;> simp

@[simp] theorem State.tdiUnpair_time (s : State) (t : Nat) : (State.tdiUnpair s t).time = s.time := by
  unfold State.tdiUnpair
  (repeat' split) <;> simp

@[simp] theorem State.setTdi_time (s : State) (t : Nat) (x : Nat) : (State.setTdi s t x).time = s.time := by
  unfold State.setTdi
  (repeat' split) <;> simp

@[simp] theorem State.vfReset_time (s : State) (fn : Nat) : (State.vfReset s fn).time = s.time := by
  unfold State.vfReset
  simp

@[simp] theorem State.endReads_time (s : State) (fn : Nat) : (State.endReads s fn).time = s.time := by
  unfold State.endReads
  simp

@[simp] theorem State.enOff_time (s : State) (t : Nat) : (State.enOff s t).time = s.time := by
  unfold State.enOff
  simp

@[simp] theorem State.teardown_time (s : State) (t : Nat) : (State.teardown s t).time = s.time := by
  unfold State.teardown
  simp

@[simp] theorem State.vfFlr_time (s : State) (t : Nat) : (State.vfFlr s t).time = s.time := by
  unfold State.vfFlr
  simp

@[simp] theorem State.tearAll_time (s : State) : (State.tearAll s).time = s.time := by
  unfold State.tearAll
  simp

@[simp] theorem State.ringsOff_time (s : State) (t : Nat) : (State.ringsOff s t).time = s.time := by
  unfold State.ringsOff
  simp

@[simp] theorem State.releaseTenant_time (s : State) (t : Nat) : (State.releaseTenant s t).time = s.time := by
  unfold State.releaseTenant
  simp

@[simp] theorem State.setKeys_time (s : State) (o : Nat) (k : Option Nat × Option Nat) (cur : Nat) : (State.setKeys s o k
    cur).time = s.time := by
  unfold State.setKeys
  simp

@[simp] theorem State.freshKey_time (s : State) (o : Nat) (slot : Nat) (cur : Nat) : (State.freshKey s o slot cur).time =
    s.time := by
  unfold State.freshKey
  simp

@[simp] theorem State.retireKey_time (s : State) (o : Nat) : (State.retireKey s o).time = s.time := by
  unfold State.retireKey
  simp

@[simp] theorem State.keyRefused_time (s : State) : (State.keyRefused s).time = s.time := by
  unfold State.keyRefused
  simp

@[simp] theorem State.rotateCmd_time (s : State) (owner : Nat) : (State.rotateCmd s owner).time = s.time := by
  unfold State.rotateCmd
  simp

@[simp] theorem State.retireCmd_time (s : State) (owner : Nat) : (State.retireCmd s owner).time = s.time := by
  unfold State.retireCmd
  simp

@[simp] theorem State.sweepStep_time (s : State) (o : Nat) (n : Nat) : (State.sweepStep s o n).time = s.time := by
  unfold State.sweepStep
  (repeat' split) <;> simp

@[simp] theorem State.sweepsEnd_time (s : State) : (State.sweepsEnd s).time = s.time := by
  unfold State.sweepsEnd
  simp

@[simp] theorem State.discardLines_time (s : State) (rs : List (Nat × Nat)) : (State.discardLines s rs).time = s.time := by
  unfold State.discardLines
  simp

@[simp] theorem State.scrubStart_time (s : State) (o : Nat) : (State.scrubStart s o).time = s.time := by
  unfold State.scrubStart
  simp

@[simp] theorem State.scrubStep_time (s : State) (o : Nat) (n : Nat) : (State.scrubStep s o n).time = s.time := by
  unfold State.scrubStep
  (repeat' split) <;> simp

@[simp] theorem State.cleanMove_time (s : State) : (State.cleanMove s).time = s.time := by
  unfold State.cleanMove
  simp

@[simp] theorem State.cleanNow_time (s : State) : (State.cleanNow s).time = s.time := by
  unfold State.cleanNow
  simp

@[simp] theorem State.scrubsEnd_time (s : State) : (State.scrubsEnd s).time = s.time := by
  unfold State.scrubsEnd
  simp

@[simp] theorem State.rotateKey_time (s : State) (o : Nat) : (State.rotateKey s o).time = s.time := by
  unfold State.rotateKey
  simp

@[simp] theorem State.keysI2_time (s : State) : (State.keysI2 s).time = s.time := by
  unfold State.keysI2
  simp

@[simp] theorem State.draw_time (s : State) : (State.draw s).1.time = s.time := by
  unfold State.draw
  simp

@[simp] theorem State.unsigned_time (s : State) : (State.unsigned s).time = s.time := by
  unfold State.unsigned
  simp

@[simp] theorem State.tdisp_time (s : State) (code : Nat) (tenant : Nat) (args : List Nat) : (State.tdisp s code tenant
    args).time = s.time := by
  unfold State.tdisp
  simp

@[simp] theorem State.tdispErr_time (s : State) (tenant : Nat) : (State.tdispErr s tenant).time = s.time := by
  unfold State.tdispErr
  simp

@[simp] theorem State.tdiError_time (s : State) (t : Nat) : (State.tdiError s t).time = s.time := by
  unfold State.tdiError
  simp

@[simp] theorem State.tdispFail_time (s : State) (t : Nat) : (State.tdispFail s t).time = s.time := by
  unfold State.tdispFail
  simp

@[simp] theorem State.spdm_time (s : State) (code : Nat) (args : List Nat) (data : List Byte) (signed : Option (List Byte)) :
    (State.spdm s code args data signed).time = s.time := by
  unfold State.spdm
  simp

@[simp] theorem State.spdmErr_time (s : State) (code : Nat) : (State.spdmErr s code).time = s.time := by
  unfold State.spdmErr
  simp

@[simp] theorem State.spdmSigned_time (s : State) (code : Nat) (args : List Nat) (data : List Byte) (nonce : List Byte) :
    (State.spdmSigned s code args data nonce).time = s.time := by
  unfold State.spdmSigned
  simp

@[simp] theorem State.tmeasGo_time (s : State) (tenant : Nat) : (State.tmeasGo s tenant).time = s.time := by
  unfold State.tmeasGo
  simp

@[simp] theorem State.tmeasFail_time (s : State) (t : Nat) (cause : Nat) : (State.tmeasFail s t cause).time = s.time := by
  unfold State.tmeasFail
  simp

@[simp] theorem State.wgtI0_time (s : State) : (State.wgtI0 s).time = s.time := by
  unfold State.wgtI0
  simp

@[simp] theorem State.putRepair_time (s : State) (vals : NMap Nat) : (State.putRepair s vals).time = s.time := by
  unfold State.putRepair
  simp

@[simp] theorem State.recordRepair_time (s : State) (i : Nat) (x : Nat) : (State.recordRepair s i x).time = s.time := by
  unfold State.recordRepair
  (repeat' split) <;> simp

@[simp] theorem State.saveRepair_time (s : State) : (State.saveRepair s).time = s.time := by
  unfold State.saveRepair
  (repeat' split) <;> simp

@[simp] theorem State.saveTrain_time (s : State) (key : Nat) (x : Nat) : (State.saveTrain s key x).time = s.time := by
  unfold State.saveTrain
  simp

@[simp] theorem State.showField_time (s : State) : (State.showField s).time = s.time := by
  unfold State.showField
  simp

@[simp] theorem State.zeroBuf_time (s : State) : (State.zeroBuf s).time = s.time := by
  unfold State.zeroBuf
  simp

@[simp] theorem State.lcsEnd_time (s : State) (r : Nat) : (State.lcsEnd s r).time = s.time := by
  unfold State.lcsEnd
  simp

@[simp] theorem State.wipe_time (s : State) (bad : Bool) : (State.wipe s bad).time = s.time := by
  unfold State.wipe
  simp

@[simp] theorem State.transitTo_time (s : State) (to_ : Nat) (fail : Nat) : (State.transitTo s to_ fail).1.time = s.time := by
  unfold State.transitTo
  dsimp only
  (repeat' split) <;> simp_all

@[simp] theorem State.lcsTransition_time (s : State) (route : Nat) (to_ : Nat) (fail : Nat) (token : List Byte) :
    (State.lcsTransition s route to_ fail token).1.time = s.time := by
  unfold State.lcsTransition
  dsimp only
  (repeat' split) <;> simp_all

@[simp] theorem State.lcsRun_time (s : State) (arg : Option Nat) (f : State → State × Nat) (hf : ∀ s , (f s ).1.time =
    s.time) : (State.lcsRun s arg f).time = s.time := by
  unfold State.lcsRun
  (repeat' split) <;> simp_all

@[simp] theorem State.doTransition_time (s : State) (route : Nat) (to_ : Nat) (fail : Nat) (buf : List Byte) :
    (State.doTransition s route to_ fail buf).time = s.time := by
  unfold State.doTransition
  simp

@[simp] theorem State.lcsFuse_time (s : State) (route : Nat) (id : Nat) (fail : Nat) (buf : List Byte) : (State.lcsFuse s
    route id fail buf).1.time = s.time := by
  unfold State.lcsFuse
  dsimp only
  (repeat' split) <;> simp_all

@[simp] theorem State.doFuse_time (s : State) (route : Nat) (id : Nat) (fail : Nat) (buf : List Byte) : (State.doFuse s route
    id fail buf).time = s.time := by
  unfold State.doFuse
  simp

@[simp] theorem State.showNonce_time (s : State) (n : Option (List Byte)) : (State.showNonce s n).time = s.time := by
  unfold State.showNonce
  simp

@[simp] theorem State.lcsChallenge_time (s : State) : (State.lcsChallenge s).1.time = s.time := by
  unfold State.lcsChallenge
  dsimp only
  (repeat' split) <;> simp_all

@[simp] theorem State.challenge_time (s : State) (route : Nat) : (State.challenge s route).time = s.time := by
  unfold State.challenge
  (repeat' split) <;> simp

@[simp] theorem State.lcsAuth_time (s : State) (b : List Byte) : (State.lcsAuth s b).1.time = s.time := by
  unfold State.lcsAuth
  dsimp only
  (repeat' split) <;> simp_all

@[simp] theorem State.doAuth_time (s : State) (route : Nat) (buf : List Byte) : (State.doAuth s route buf).time = s.time := by
  unfold State.doAuth
  simp

@[simp] theorem State.lcsRevoke_time (s : State) : (State.lcsRevoke s).1.time = s.time := by
  unfold State.lcsRevoke
  (repeat' split) <;> simp

@[simp] theorem State.dbgRevoke_time (s : State) (route : Nat) : (State.dbgRevoke s route).time = s.time := by
  unfold State.dbgRevoke
  (repeat' split) <;> simp

@[simp] theorem State.makeRec_time (s : State) (x : ErrRep) : (State.makeRec s x).1.time = s.time := by
  unfold State.makeRec
  simp

@[simp] theorem State.logRec_time (s : State) (r : ErrRec) : (State.logRec s r).time = s.time := by
  unfold State.logRec
  simp

@[simp] theorem State.logVisible_time (s : State) : (State.logVisible s).time = s.time := by
  unfold State.logVisible
  simp

@[simp] theorem State.showErr_time (s : State) : (State.showErr s).time = s.time := by
  unfold State.showErr
  simp

@[simp] theorem State.countOvf_time (s : State) (block : Nat) : (State.countOvf s block).time = s.time := by
  unfold State.countOvf
  simp

@[simp] theorem State.queueFull_time (s : State) (block : Nat) : (State.queueFull s block).time = s.time := by
  unfold State.queueFull
  simp

@[simp] theorem State.putBack_time (s : State) : (State.putBack s).time = s.time := by
  unfold State.putBack
  dsimp only
  (repeat' split) <;> simp_all

@[simp] theorem State.takeNext_time (s : State) : (State.takeNext s).time = s.time := by
  unfold State.takeNext
  (repeat' split) <;> simp

@[simp] theorem State.enqueue_time (s : State) (x : ErrRep) : (State.enqueue s x).time = s.time := by
  unfold State.enqueue
  simp

@[simp] theorem State.fold_time (s : State) (h : ErrRec) : (State.fold s h).time = s.time := by
  unfold State.fold
  simp

@[simp] theorem State.newRec_time (s : State) (x : ErrRep) : (State.newRec s x).time = s.time := by
  unfold State.newRec
  (repeat' split) <;> simp

@[simp] theorem State.blockCap_time (s : State) (block : Nat) (cause : Nat) (unit : Nat) : (State.blockCap s block
    cause unit).time = s.time := by
  unfold State.blockCap
  dsimp only
  (repeat' split) <;> simp

@[simp] theorem State.countCe_time (s : State) (block : Nat) (unit : Nat) : (State.countCe s block unit).time = s.time
    := by
  unfold State.countCe
  (repeat' split) <;> simp

@[simp] theorem State.logOpen_time (s : State) : (State.logOpen s).time = s.time := by
  unfold State.logOpen
  (repeat' split) <;> simp

@[simp] theorem State.clearCapture_time (s : State) (key : Nat) : (State.clearCapture s key).time = s.time := by
  unfold State.clearCapture
  (repeat' split) <;> simp

@[simp] theorem State.showVariant_time (s : State) : (State.showVariant s).time = s.time := by
  unfold State.showVariant
  simp

@[simp] theorem State.switchVar_time (s : State) (p : Nat) (v : Nat) : (State.switchVar s p v).time = s.time := by
  unfold State.switchVar
  (repeat' split) <;> simp

@[simp] theorem State.degradePart_time (s : State) (p : Nat) : (State.degradePart s p).time = s.time := by
  unfold State.degradePart
  dsimp only
  (repeat' split) <;> simp_all

@[simp] theorem State.setEff_time (s : State) (g : GrantRec) (x : Nat) : (State.setEff s g x).time = s.time := by
  unfold State.setEff
  simp

@[simp] theorem State.takeFrom_time (s : State) (z0 : Nat) (z1 : List GrantRec) : (State.takeFrom s z0 z1).time = s.time := by
  induction z1 generalizing s z0 with
  | nil => unfold State.takeFrom; rfl
  | cons g gs ih => unfold State.takeFrom; dsimp only; rw [ih]; split <;> simp

@[simp] theorem State.yieldAt_time (s : State) (m : Manifest) (r : Nat) : (State.yieldAt s m r).time = s.time := by
  unfold State.yieldAt
  simp

@[simp] theorem State.restore_time (s : State) (m : Manifest) (g : GrantRec) : (State.restore s m g).time = s.time := by
  unfold State.restore
  simp

@[simp] theorem State.restoreAll_time (s : State) (m : Manifest) : (State.restoreAll s m).time = s.time := by
  unfold State.restoreAll
  exact foldl_time _ (fun s x => by simp) _ _

@[simp] theorem State.showCap_time (s : State) (m : Manifest) (cap : Nat → Nat) (r : Nat) : (State.showCap s m cap
    r).time = s.time := by
  unfold State.showCap
  simp

@[simp] theorem State.noteCaps_time (s : State) (cap : Nat → Nat) : (State.noteCaps s cap).time = s.time := by
  unfold State.noteCaps
  simp

@[simp] theorem State.capsClose_time (s : State) : (State.capsClose s).time = s.time := by
  unfold State.capsClose
  simp

@[simp] theorem State.capI2_time (s : State) : (State.capI2 s).time = s.time := by
  unfold State.capI2
  (repeat' split) <;> simp

@[simp] theorem State.grantsI0_time (s : State) (m : Manifest) : (State.grantsI0 s m).time = s.time := by
  unfold State.grantsI0
  simp

@[simp] theorem State.qosSnapshot_time (s : State) (closed : Nat) : (State.qosSnapshot s closed).time = s.time := by
  unfold State.qosSnapshot
  simp

@[simp] theorem State.qosWipe_time (s : State) : (State.qosWipe s).time = s.time := by
  unfold State.qosWipe
  simp

@[simp] theorem State.escalate_time (s : State) (p : Nat) (q : Nat) : (State.escalate s p q).time = s.time := by
  unfold State.escalate
  simp

@[simp] theorem State.escalateAll_time (s : State) : (State.escalateAll s).time = s.time := by
  unfold State.escalateAll
  simp

@[simp] theorem State.showScale_time (s : State) : (State.showScale s).time = s.time := by
  unfold State.showScale
  simp

@[simp] theorem State.pwrCap_time (s : State) (cause : Nat) : (State.pwrCap s cause).time = s.time := by
  unfold State.pwrCap
  simp

@[simp] theorem State.kaSwitch_time (s : State) (src : Nat) : (State.kaSwitch s src).time = s.time := by
  unfold State.kaSwitch
  simp

@[simp] theorem State.kaShow_time (s : State) (mvA : Nat) (mvB : Nat) : (State.kaShow s mvA mvB).time = s.time := by
  unfold State.kaShow
  simp

@[simp] theorem State.overAct_time (s : State) (p : Nat) (energy : Bool) : (State.overAct s p energy).time = s.time := by
  unfold State.overAct
  simp

@[simp] theorem State.closePart_time (s : State) (rails : List Nat) (tiles : List Nat) (r : PartRec) : (State.closePart s
    rails tiles r).time = s.time := by
  unfold State.closePart
  simp

@[simp] theorem State.askSetpoint_time (s : State) : (State.askSetpoint s).time = s.time := by
  unfold State.askSetpoint
  simp

@[simp] theorem State.closeEnergy_time (s : State) (rails : List Nat) (tiles : List Nat) (badMeter : Bool) :
    (State.closeEnergy s rails tiles badMeter).time = s.time := by
  unfold State.closeEnergy
  simp

@[simp] theorem State.leanOff_time (s : State) (p : Nat) : (State.leanOff s p).time = s.time := by
  unfold State.leanOff
  simp

@[simp] theorem State.leanOn_time (s : State) (p : Nat) : (State.leanOn s p).time = s.time := by
  unfold State.leanOn
  simp

@[simp] theorem State.forceI0_time (s : State) : (State.forceI0 s).time = s.time := by
  unfold State.forceI0
  simp

@[simp] theorem State.guardI0_time (s : State) : (State.guardI0 s).time = s.time := by
  unfold State.guardI0
  simp

@[simp] theorem State.thermI0_time (s : State) : (State.thermI0 s).time = s.time := by
  unfold State.thermI0
  simp

@[simp] theorem State.powerI0_time (s : State) (asked : Nat) : (State.powerI0 s asked).time = s.time := by
  unfold State.powerI0
  simp

@[simp] theorem State.leanEnd_time (s : State) (mask : Nat) : (State.leanEnd s mask).time = s.time := by
  unfold State.leanEnd
  simp

@[simp] theorem State.pwrClr_time (s : State) : (State.pwrClr s).time = s.time := by
  unfold State.pwrClr
  simp

@[simp] theorem State.teCap_time (s : State) (tile : Nat) (phys : Nat) (cause : Nat) : (State.teCap s tile phys cause).time =
    s.time := by
  unfold State.teCap
  (repeat' split) <;> simp

@[simp] theorem State.laneFails_time (s : State) (tile : Nat) (j : Nat) : (State.laneFails s tile j).time = s.time := by
  unfold State.laneFails
  (repeat' split) <;> simp

@[simp] theorem State.becomeFailing_time (s : State) (tile : Nat) (phys : Nat) (cause : Nat) : (State.becomeFailing s tile
    phys cause).time = s.time := by
  unfold State.becomeFailing
  (repeat' split) <;> simp

@[simp] theorem State.markFailed_time (s : State) (tile : Nat) (phys : Nat) : (State.markFailed s tile phys).time = s.time := by
  unfold State.markFailed
  simp

@[simp] theorem State.takeLane_time (s : State) (tile : Nat) (j : Nat) : (State.takeLane s tile j).time = s.time := by
  unfold State.takeLane
  simp

@[simp] theorem State.loseLane_time (s : State) (tile : Nat) (j : Nat) : (State.loseLane s tile j).time = s.time := by
  unfold State.loseLane
  simp

@[simp] theorem State.remapFailed_time (s : State) (tile : Nat) : (State.remapFailed s tile).time = s.time := by
  unfold State.remapFailed
  simp

@[simp] theorem State.spareSpent_time (s : State) (tile : Nat) : (State.spareSpent s tile).time = s.time := by
  unfold State.spareSpent
  simp

@[simp] theorem State.takeReq_time (s : State) (tile : Nat) (j : Nat) : (State.takeReq s tile j).time = s.time := by
  unfold State.takeReq
  simp

@[simp] theorem State.returnReq_time (s : State) (tile : Nat) (mask : Nat) : (State.returnReq s tile mask).time = s.time := by
  unfold State.returnReq
  (repeat' split) <;> simp

@[simp] theorem State.spareTile_time (s : State) (tile : Nat) : (State.spareTile s tile).time = s.time := by
  unfold State.spareTile
  simp

@[simp] theorem State.sparing_time (s : State) : (State.sparing s).time = s.time := by
  unfold State.sparing
  simp

@[simp] theorem State.spareShadow_time (s : State) (tile : Nat) (f : Fld) (x : Nat) : (State.spareShadow s tile f x).time =
    s.time := by
  unfold State.spareShadow
  simp

@[simp] theorem State.clrFailed_time (s : State) (tile : Nat) (mask : Nat) : (State.clrFailed s tile mask).time = s.time := by
  unfold State.clrFailed
  simp

@[simp] theorem State.decidePart_time (s : State) (p : Nat) : (State.decidePart s p).time = s.time := by
  unfold State.decidePart
  simp

@[simp] theorem State.repeatI2_time (s : State) (p : Nat) : (State.repeatI2 s p).time = s.time := by
  unfold State.repeatI2
  simp

@[simp] theorem State.manTo_time (s : State) (x : Nat) : (State.manTo s x).time = s.time := by
  unfold State.manTo
  simp

@[simp] theorem State.showDigest_time (s : State) (key : Nat → Nat) (d : Nat) : (State.showDigest s key d).time = s.time := by
  unfold State.showDigest
  simp

@[simp] theorem State.manResult_time (s : State) (v : Verdict) (m : Option Manifest) : (State.manResult s v m).time = s.time
    := by
  unfold State.manResult
  simp

@[simp] theorem State.manDrop_time (s : State) (result : Nat) : (State.manDrop s result).time = s.time := by
  unfold State.manDrop
  simp

@[simp] theorem State.stage_time (s : State) : (State.stage s).time = s.time := by
  unfold State.stage
  simp

@[simp] theorem State.abandon_time (s : State) : (State.abandon s).time = s.time := by
  unfold State.abandon
  simp

@[simp] theorem State.switchCmd_time (s : State) : (State.switchCmd s).time = s.time := by
  unfold State.switchCmd
  simp

@[simp] theorem State.manCheck_time (s : State) : (State.manCheck s).time = s.time := by
  unfold State.manCheck
  (repeat' split) <;> simp

@[simp] theorem State.ctxUndef_time (s : State) (t : Nat) : (State.ctxUndef s t).time = s.time := by
  unfold State.ctxUndef
  simp

@[simp] theorem State.ctxReload_time (s : State) (t : Nat) : (State.ctxReload s t).time = s.time := by
  unfold State.ctxReload
  simp

@[simp] theorem State.ctxOne_time (s : State) (old : Manifest) (new : Manifest) (t : TenRec) : (State.ctxOne s old new
    t).time = s.time := by
  unfold State.ctxOne
  (repeat' split) <;> simp

@[simp] theorem State.ctxCross_time (s : State) (old : Manifest) (new : Manifest) : (State.ctxCross s old new).time = s.time
    := by
  unfold State.ctxCross
  simp

@[simp] theorem State.firstKey_time (s : State) (o : Nat) : (State.firstKey s o).time = s.time := by
  unfold State.firstKey
  simp

@[simp] theorem State.keysCross_time (s : State) (old : Option Manifest) (new : Manifest) : (State.keysCross s old new).time
    = s.time := by
  unfold State.keysCross
  simp

@[simp] theorem State.fixedCross_time (s : State) (m : Manifest) : (State.fixedCross s m).time = s.time := by
  unfold State.fixedCross
  simp

@[simp] theorem State.partsCross_time (s : State) (m : Manifest) : (State.partsCross s m).time = s.time := by
  unfold State.partsCross
  simp

@[simp] theorem State.voyagesCross_time (s : State) (m : Manifest) : (State.voyagesCross s m).time = s.time := by
  unfold State.voyagesCross
  simp

@[simp] theorem State.crossNow_time (s : State) (m : Manifest) : (State.crossNow s m).time = s.time := by
  unfold State.crossNow
  dsimp only
  (repeat' split) <;> simp_all

@[simp] theorem State.ferryCrossing_time (s : State) (m : Manifest) : (State.ferryCrossing s m).time = s.time := by
  unfold State.ferryCrossing
  (repeat' split) <;> simp

@[simp] theorem State.crossI2_time (s : State) (due : Bool) (again : Verdict) : (State.crossI2 s due again).time = s.time := by
  unfold State.crossI2
  (repeat' split) <;> simp

@[simp] theorem State.underput_time (s : State) (key : Nat) (f : Fld) (x : Nat) : (State.underput s key f x).time =
    s.time := by
  unfold State.underput
  simp

@[simp] theorem State.loadRegs_time (s : State) (m : Manifest) : (State.loadRegs s m).time = s.time := by
  unfold State.loadRegs
  simp

@[simp] theorem State.enterTable_time (s : State) (m : Manifest) (p : Nat) : (State.enterTable s m p).time = s.time := by
  unfold State.enterTable
  (repeat' split) <;> simp

@[simp] theorem State.crossI0_time (s : State) : (State.crossI0 s).time = s.time := by
  unfold State.crossI0
  (repeat' split) <;> simp

@[simp] theorem State.crossShadow_time (s : State) : (State.crossShadow s).time = s.time := by
  unfold State.crossShadow
  simp

@[simp] theorem State.setCh_time (s : State) (p : Nat) (c : Nat) (st : Nat) (serves : Nat) : (State.setCh s p c st
    serves).time = s.time := by
  unfold State.setCh
  simp

@[simp] theorem State.showSpares_time (s : State) (p : Nat) : (State.showSpares s p).time = s.time := by
  unfold State.showSpares
  simp

@[simp] theorem State.chInvalid_time (s : State) (p : Nat) (lc : Nat) : (State.chInvalid s p lc).time = s.time := by
  unfold State.chInvalid
  simp

@[simp] theorem State.showChans_time (s : State) (p : Nat) : (State.showChans s p).time = s.time := by
  unfold State.showChans
  simp

@[simp] theorem State.copyStart_time (s : State) (p : Nat) (c : Nat) : (State.copyStart s p c).time = s.time := by
  unfold State.copyStart
  (repeat' split) <;> simp

@[simp] theorem State.copyNext_time (s : State) (p : Nat) : (State.copyNext s p).time = s.time := by
  unfold State.copyNext
  (repeat' split) <;> simp

@[simp] theorem State.remapCh_time (s : State) (p : Nat) (c : Nat) : (State.remapCh s p c).time = s.time := by
  unfold State.remapCh
  (repeat' split) <;> simp

@[simp] theorem State.copyAsk_time (s : State) (p : Nat) (c : Nat) : (State.copyAsk s p c).time = s.time := by
  unfold State.copyAsk
  simp

@[simp] theorem State.chSilent_time (s : State) (p : Nat) (c : Nat) : (State.chSilent s p c).time = s.time := by
  unfold State.chSilent
  dsimp only
  (repeat' split) <;> simp_all

@[simp] theorem State.targetFail_time (s : State) (p : Nat) (c : Nat) : (State.targetFail s p c).time = s.time := by
  unfold State.targetFail
  dsimp only
  (repeat' split) <;> simp_all

@[simp] theorem State.chFail_time (s : State) (p : Nat) (c : Nat) (cause : Nat) (silent : Bool) : (State.chFail s p c
    cause silent).time = s.time := by
  unfold State.chFail
  simp

@[simp] theorem State.takeOut_time (s : State) (p : Nat) (cause : Nat) : (State.takeOut s p cause).time = s.time := by
  unfold State.takeOut
  simp

@[simp] theorem State.stackShow_time (s : State) (p : Nat) (y : Nat) : (State.stackShow s p y).time = s.time := by
  unfold State.stackShow
  simp

@[simp] theorem State.lrsReset_time (s : State) (p : Nat) (mism : Nat) : (State.lrsReset s p mism).time = s.time := by
  unfold State.lrsReset
  simp

@[simp] theorem State.lrsClr_time (s : State) (p : Nat) : (State.lrsClr s p).time = s.time := by
  unfold State.lrsClr
  simp

@[simp] theorem State.lrsI0_time (s : State) (p : Nat) : (State.lrsI0 s p).time = s.time := by
  unfold State.lrsI0
  dsimp only
  (repeat' split) <;> simp_all

@[simp] theorem State.takeCh_time (s : State) (p : Nat) (x : Nat × Nat × Bool) : (State.takeCh s p x).time = s.time := by
  unfold State.takeCh
  simp

@[simp] theorem State.loseCh_time (s : State) (p : Nat) (c : Nat) : (State.loseCh s p c).time = s.time := by
  unfold State.loseCh
  simp

@[simp] theorem State.freeI2_time (s : State) (p : Nat) (c : Nat) : (State.freeI2 s p c).time = s.time := by
  unfold State.freeI2
  (repeat' split) <;> simp

@[simp] theorem State.lrsI2_time (s : State) (p : Nat) : (State.lrsI2 s p).time = s.time := by
  unfold State.lrsI2
  simp

@[simp] theorem State.lineCe_time (s : State) (l : Nat) : (State.lineCe s l).time = s.time := by
  unfold State.lineCe
  dsimp only
  (repeat' split) <;> simp_all

@[simp] theorem State.lineUe_time (s : State) (l : Nat) (tenant : Option Nat) : (State.lineUe s l tenant).time = s.time
    := by
  unfold State.lineUe
  dsimp only
  (repeat' split) <;> simp_all

@[simp] theorem State.fabMsg_time (s : State) (m : FMsg) : (State.fabMsg s m).time = s.time := by
  unfold State.fabMsg
  simp

@[simp] theorem State.reply_time (s : State) (kind : Nat) (m : MemReq) (cause : Nat) (d : Line) (dmg : Bool) :
    (State.reply s kind m cause d dmg).time = s.time := by
  unfold State.reply
  simp

@[simp] theorem State.mdata_time (s : State) (m : MemReq) (d : Line) : (State.mdata s m d).time = s.time := by
  unfold State.mdata
  simp

@[simp] theorem State.mwrAck_time (s : State) (m : MemReq) : (State.mwrAck s m).time = s.time := by
  unfold State.mwrAck
  simp

@[simp] theorem State.fabErr_time (s : State) (m : MemReq) (cause : Nat) : (State.fabErr s m cause).time = s.time := by
  unfold State.fabErr
  simp

@[simp] theorem State.mlost_time (s : State) (m : MemReq) : (State.mlost s m).time = s.time := by
  unfold State.mlost
  simp

@[simp] theorem State.relayOne_time (s : State) (r : RRead) : (State.relayOne s r).time = s.time := by
  unfold State.relayOne
  (repeat' split) <;> simp

@[simp] theorem State.relay_time (s : State) : (State.relay s).time = s.time := by
  unfold State.relay
  simp

@[simp] theorem State.nodeAnswer_time (s : State) (node : Nat) (tag : Nat) (d : Option (List Byte)) : (State.nodeAnswer s
    node tag d).time = s.time := by
  unfold State.nodeAnswer
  (repeat' split) <;> simp

@[simp] theorem State.ackOne_time (s : State) (w : RWrite) (ok : Bool) : (State.ackOne s w ok).time = s.time := by
  unfold State.ackOne
  simp

@[simp] theorem State.nodeAck_time (s : State) (node : Nat) (tag : Nat) (ok : Bool) : (State.nodeAck s node tag ok).time =
    s.time := by
  unfold State.nodeAck
  (repeat' split) <;> simp

@[simp] theorem State.noData_time (s : State) (r : LineRes) (m : MemReq) : (State.noData s r m).time = s.time := by
  unfold State.noData
  (repeat' split) <;> simp

@[simp] theorem State.memAbsent_time (s : State) (m : MemReq) : (State.memAbsent s m).time = s.time := by
  unfold State.memAbsent
  (repeat' split) <;> simp

@[simp] theorem State.mrd_time (s : State) (m : MemReq) : (State.mrd s m).time = s.time := by
  unfold State.mrd
  dsimp only
  (repeat' split) <;> simp_all

@[simp] theorem State.wrAnswer_time (s : State) (r : LineRes) (m : MemReq) : (State.wrAnswer s r m).time = s.time := by
  cases r with
  | ok d => exact State.mwrAck_time ..
  | lost => exact (State.fabErr_time ..).trans (State.homeErr_time ..)
  | _ => exact (State.mwrAck_time ..).trans (State.homeErr_time ..)

@[simp] theorem State.mwr_time (s : State) (m : MemReq) : (State.mwr s m).time = s.time := by
  unfold State.mwr
  (repeat' split) <;> simp

@[simp] theorem State.memServe_time (s : State) (m : MemReq) : (State.memServe s m).time = s.time := by
  unfold State.memServe
  (repeat' split) <;> simp

@[simp] theorem State.toCtrl_time (s : State) (m : MemReq) : (State.toCtrl s m).time = s.time := by
  unfold State.toCtrl
  (repeat' split) <;> simp

@[simp] theorem State.memSend_time (s : State) (m : MemReq) : (State.memSend s m).time = s.time := by
  unfold State.memSend
  (repeat' split) <;> simp

@[simp] theorem State.fabTake_time (s : State) (m : FMsg) : (State.fabTake s m).time = s.time := by
  unfold State.fabTake
  simp

@[simp] theorem State.octCap_time (s : State) (router : Nat) (cause : Nat) : (State.octCap s router cause).time = s.time := by
  unfold State.octCap
  simp

@[simp] theorem State.setPort_time (s : State) (r : Nat) (p : Nat) (x : Nat) : (State.setPort s r p x).time = s.time := by
  unfold State.setPort
  simp

@[simp] theorem State.setLink_time (s : State) (r : Nat) (p : Nat) (x : Nat) : (State.setLink s r p x).time = s.time := by
  unfold State.setLink
  (repeat' split) <;> simp

@[simp] theorem State.routeI2_time (s : State) : (State.routeI2 s).time = s.time := by
  unfold State.routeI2
  (repeat' split) <;> simp

@[simp] theorem State.damage_time (s : State) (router : Nat) (tag : Nat) : (State.damage s router tag).time = s.time := by
  unfold State.damage
  simp

@[simp] theorem State.deliver_time (s : State) (z0 : HPkt) : (State.deliver s z0).time = s.time := by
  induction z0 generalizing s <;> (unfold State.deliver; simp_all)

@[simp] theorem State.domUp_time (s : State) (d : Nat) : (State.domUp s d).time = s.time := by
  unfold State.domUp
  simp

@[simp] theorem State.flushTile_time (s : State) (t : Nat) : (State.flushTile s t).time = s.time := by
  unfold State.flushTile
  simp

@[simp] theorem State.teSleep_time (s : State) (x : Nat) : (State.teSleep s x).time = s.time := by
  unfold State.teSleep
  simp

@[simp] theorem State.sleepOne_time (s : State) (wake : Nat → Bool) (d : Nat) : (State.sleepOne s wake d).time = s.time := by
  unfold State.sleepOne
  simp

@[simp] theorem State.teRest_time (s : State) (k : Nat) : (State.teRest s k).time = s.time := by
  unfold State.teRest
  simp

@[simp] theorem State.sleepI0_time (s : State) : (State.sleepI0 s).time = s.time := by
  rw [State.sleepI0]
  simp

@[simp] theorem State.wakeNext_time (s : State) : (State.wakeNext s).time = s.time := by
  unfold State.wakeNext
  simp

@[simp] theorem State.showTc_time (s : State) (p : Nat) (x : Nat) : (State.showTc s p x).time = s.time := by
  unfold State.showTc
  simp

@[simp] theorem State.teClr_time (s : State) (k : Nat) : (State.teClr s k).time = s.time := by
  unfold State.teClr
  simp

@[simp] theorem State.teFlagsClr_time (s : State) (k : Nat) : (State.teFlagsClr s k).time = s.time := by
  unfold State.teFlagsClr
  simp

@[simp] theorem State.resetI2_time (s : State) : (State.resetI2 s).time = s.time := by
  unfold State.resetI2
  simp

@[simp] theorem State.prstAnswer_time (s : State) (part : Nat) (dst : Nat) (tag : Nat) (qc : Nat) : (State.prstAnswer s
    part dst tag qc).time = s.time := by
  unfold State.prstAnswer
  simp

@[simp] theorem State.octClr_time (s : State) : (State.octClr s).time = s.time := by
  unfold State.octClr
  simp

@[simp] theorem State.cohClr_time (s : State) : (State.cohClr s).time = s.time := by
  unfold State.cohClr
  simp

@[simp] theorem State.tileClr_time (s : State) (t : Nat) : (State.tileClr s t).time = s.time := by
  unfold State.tileClr
  simp

@[simp] theorem State.regimeI0_time (s : State) : (State.regimeI0 s).time = s.time := by
  unfold State.regimeI0
  simp

@[simp] theorem State.rowI2_time (s : State) : (State.rowI2 s).time = s.time := by
  unfold State.rowI2
  simp

@[simp] theorem State.wayLineLost_time (s : State) (slice : Nat) (l : Nat) : (State.wayLineLost s slice l).time = s.time
    := by
  unfold State.wayLineLost
  simp

@[simp] theorem State.shrink_time (s : State) (h : Nat) : (State.shrink s h).time = s.time := by
  unfold State.shrink
  simp

@[simp] theorem State.wayLose_time (s : State) (slice : Nat) (way : Nat) : (State.wayLose s slice way).time = s.time :=
    by
  unfold State.wayLose
  simp

@[simp] theorem State.wayI2_time (s : State) : (State.wayI2 s).time = s.time := by
  unfold State.wayI2
  simp

@[simp] theorem State.fordCap_time (s : State) (src : Nat) (dst : Nat) (cause : Nat) : (State.fordCap s src dst cause).time =
    s.time := by
  unfold State.fordCap
  simp

@[simp] theorem State.domReady_time (s : State) (d : Nat) : (State.domReady s d).time = s.time := by
  unfold State.domReady
  simp

@[simp] theorem State.fordClr_time (s : State) : (State.fordClr s).time = s.time := by
  unfold State.fordClr
  simp

@[simp] theorem State.slipTo_time (s : State) (v : Nat) (x : Nat) : (State.slipTo s v x).time = s.time := by
  unfold State.slipTo
  simp

@[simp] theorem State.readLost_time (s : State) (r : RRead) (block : Nat) (cause : Nat) (unit : Nat) : (State.readLost s r
    block cause unit).time = s.time := by
  unfold State.readLost
  simp

@[simp] theorem State.failNode_time (s : State) (node : Nat) (block : Nat) (cause : Nat) (unit : Nat) : (State.failNode
    s node block cause unit).time = s.time := by
  unfold State.failNode
  simp

@[simp] theorem State.slipDown_time (s : State) (v : Nat) (cause : Nat) : (State.slipDown s v cause).time = s.time := by
  unfold State.slipDown
  simp

@[simp] theorem State.slipBreach_time (s : State) (v : Nat) : (State.slipBreach s v).time = s.time := by
  unfold State.slipBreach
  simp

@[simp] theorem State.slipRetrain_time (s : State) (v : Nat) : (State.slipRetrain s v).time = s.time := by
  unfold State.slipRetrain
  simp

@[simp] theorem State.windowsI0_time (s : State) : (State.windowsI0 s).time = s.time := by
  unfold State.windowsI0
  simp

@[simp] theorem State.slipMsg_time (s : State) (v : Nat) (h : OHdr) (kind : Nat) (cause : Nat) (d : Line) :
    (State.slipMsg s v h kind cause d).time = s.time := by
  unfold State.slipMsg
  simp

@[simp] theorem State.slipDeliver_time (s : State) (v : Nat) (h : OHdr) (d : Line) : (State.slipDeliver s v h d).time =
    s.time := by
  unfold State.slipDeliver
  (repeat' split) <;> simp

@[simp] theorem State.slipPump_time (s : State) (v : Nat) (z0 : Nat) : (State.slipPump s v z0).time = s.time := by
  induction z0 generalizing s with
  | zero => rfl
  | succ f ih => unfold State.slipPump; split <;> simp [ih]

@[simp] theorem State.slipHdr_time (s : State) (v : Nat) (h : OHdr) : (State.slipHdr s v h).time = s.time := by
  unfold State.slipHdr
  simp

@[simp] theorem State.slipSlot_time (s : State) (v : Nat) (n : Nat) : (State.slipSlot s v n).time = s.time := by
  unfold State.slipSlot
  (repeat' split) <;> simp

@[simp] theorem State.slipReplay_time (s : State) (v : Nat) : (State.slipReplay s v).time = s.time := by
  unfold State.slipReplay
  simp

@[simp] theorem State.flitBad_time (s : State) (v : Nat) : (State.flitBad s v).time = s.time := by
  unfold State.flitBad
  simp

@[simp] theorem State.slipResend_time (s : State) (v : Nat) (fseq : Nat) : (State.slipResend s v fseq).time = s.time := by
  unfold State.slipResend
  simp

@[simp] theorem State.slipTrim_time (s : State) (v : Nat) : (State.slipTrim s v).time = s.time := by
  unfold State.slipTrim
  simp

@[simp] theorem State.flitGood_time (s : State) (v : Nat) (b : List Byte) (head : Bool) : (State.flitGood s v b head).time =
    s.time := by
  unfold State.flitGood
  simp

@[simp] theorem State.slipRate_time (s : State) (v : Nat) (rate : Nat) (mods : Nat) : (State.slipRate s v rate mods).time =
    s.time := by
  unfold State.slipRate
  simp

@[simp] theorem State.slipTrain_time (s : State) (v : Nat) : (State.slipTrain s v).time = s.time := by
  unfold State.slipTrain
  simp

@[simp] theorem State.slipRetry_time (s : State) (v : Nat) : (State.slipRetry s v).time = s.time := by
  unfold State.slipRetry
  simp

@[simp] theorem State.showDesc_time (s : State) (v : Nat) (b : List Byte) : (State.showDesc s v b).time = s.time := by
  unfold State.showDesc
  simp

@[simp] theorem State.trainSlip_time (s : State) (v : Nat) (b : List Byte) : (State.trainSlip s v b).time = s.time := by
  unfold State.trainSlip
  simp

@[simp] theorem State.slipFound_time (s : State) (v : Nat) (rate : Nat) (mods : Nat) (link : Bool) (b : List Byte) :
    (State.slipFound s v rate mods link b).1.time = s.time := by
  unfold State.slipFound
  simp

@[simp] theorem State.slipI2_time (s : State) (v : Nat) : (State.slipI2 s v).time = s.time := by
  unfold State.slipI2
  simp

@[simp] theorem State.slipClr_time (s : State) (slip : Nat) : (State.slipClr s slip).time = s.time := by
  unfold State.slipClr
  simp

@[simp] theorem State.voidCtxs_time (s : State) : (State.voidCtxs s).time = s.time := by
  unfold State.voidCtxs
  simp

@[simp] theorem State.voidLegs_time (s : State) : (State.voidLegs s).time = s.time := by
  unfold State.voidLegs
  simp

@[simp] theorem State.issueRecs_time (s : State) (l : List CmpRec) : (State.issueRecs s l).1.time = s.time := by
  unfold State.issueRecs
  refine foldl_fst_time _ (fun p o => ?_) l (s, 0, [])
  dsimp only
  split
  · split <;> simp
  · rfl

@[simp] theorem State.commitRecs_time (s : State) (fit : Nat) : (State.commitRecs s fit).time = s.time := by
  unfold State.commitRecs
  (repeat' split) <;> simp

@[simp] theorem State.twinCommit_time (s : State) : (State.twinCommit s).time = s.time := by
  unfold State.twinCommit
  simp

@[simp] theorem State.reissue_time (s : State) : (State.reissue s).time = s.time := by
  unfold State.reissue
  simp

@[simp] theorem State.setPend_time (s : State) (fn : Nat) (v : Nat) (x : Nat) : (State.setPend s fn v x).time = s.time := by
  unfold State.setPend
  simp

@[simp] theorem State.judge_time (s : State) (fn : Nat) (v : Nat) : (State.judge s fn v).1.time = s.time := by
  unfold State.judge
  (repeat' split) <;> simp

@[simp] theorem State.judgeAll_time (s : State) (l : List (Nat × Nat)) : (State.judgeAll s l).1.time = s.time := by
  unfold State.judgeAll
  simp

@[simp] theorem State.lateVecs_time (s : State) (l : List (Nat × Nat)) : (State.lateVecs s l).time = s.time := by
  unfold State.lateVecs
  simp

@[simp] theorem State.issueSpill_time (s : State) (n : Nat) : (State.issueSpill s n).time = s.time := by
  unfold State.issueSpill
  simp

@[simp] theorem State.fire_time (s : State) (o : Out) : (State.fire s o).1.time = s.time := by
  unfold State.fire
  dsimp only
  (repeat' split) <;> simp_all

@[simp] theorem State.fireAll_time (s : State) (l : List Out) : (State.fireAll s l).1.time = s.time := by
  unfold State.fireAll
  simp

@[simp] theorem State.fireSpill_time (s : State) (n : Nat) : (State.fireSpill s n).time = s.time := by
  unfold State.fireSpill
  (repeat' split) <;> simp

@[simp] theorem State.commitSpill_time (s : State) (n : Nat) : (State.commitSpill s n).time = s.time := by
  unfold State.commitSpill
  simp

@[simp] theorem State.storeRemote_time (s : State) (k : Nat) (id : Nat) (part : Nat) (tenant : Nat) (ps : List (Nat ×
    Nat × Nat)) : (State.storeRemote s k id part tenant ps).time = s.time := by
  unfold State.storeRemote
  simp

@[simp] theorem State.storeLog_time (s : State) (key : Nat) (part : Nat) (l : List (Nat × List Byte)) : (State.storeLog s key
    part l).time = s.time := by
  unfold State.storeLog
  simp

@[simp] theorem State.movWait_time (s : State) (k : Nat) (r : LegRun) : (State.movWait s k r).time = s.time := by
  unfold State.movWait
  (repeat' split) <;> simp

@[simp] theorem State.movMem_time (s : State) (k : Nat) (r : LegRun) (w : Nat) : (State.movMem s k r w).time = s.time :=
    by
  unfold State.movMem
  dsimp only
  (repeat' split) <;> simp_all

@[simp] theorem State.issueMem_time (s : State) (k : Nat) (op : Nat) : (State.issueMem s k op).time = s.time := by
  unfold State.issueMem
  (repeat' split) <;> simp

@[simp] theorem State.issueLocal_time (s : State) (k : Nat) (op : Nat) : (State.issueLocal s k op).time = s.time := by
  unfold State.issueLocal
  (repeat' split) <;> simp

@[simp] theorem State.scatter_time (s : State) (k : Nat) (z0 : List (Nat × Nat × Nat)) (z1 : List (List Byte × Bool)) :
    (State.scatter s k z0 z1).time = s.time := by
  induction z0 generalizing s z1 with
  | nil => unfold State.scatter; rfl
  | cons p rest ih =>
    obtain ⟨_, h, _⟩ := p
    cases z1 with
    | nil => rfl
    | cons x xs => unfold State.scatter; rw [ih]; split <;> simp

@[simp] theorem State.movFill_time (s : State) (k : Nat) (part : Nat) (m : MovX) : (State.movFill s k part m).time = s.time
    := by
  unfold State.movFill
  simp

@[simp] theorem State.movSpill_time (s : State) (k : Nat) (part : Nat) (m : MovX) : (State.movSpill s k part m).time = s.time
    := by
  unfold State.movSpill
  simp

@[simp] theorem State.movInside_time (s : State) (k : Nat) (m : MovX) : (State.movInside s k m).time = s.time := by
  unfold State.movInside
  simp

@[simp] theorem State.movOpen_time (s : State) (k : Nat) (m : MovX) : (State.movOpen s k m).time = s.time := by
  unfold State.movOpen
  (repeat' split) <;> simp

@[simp] theorem State.movDo_time (s : State) (k : Nat) (part : Nat) (m : MovX) : (State.movDo s k part m).time = s.time := by
  unfold State.movDo
  simp

@[simp] theorem State.putElems_time (s : State) (k : Nat) (a : Nat) (f : CFmt) (cs : List Nat) : (State.putElems s k a f
    cs).time = s.time := by
  unfold State.putElems
  (repeat' split) <;> simp

@[simp] theorem State.putScale_time (s : State) (k : Nat) (a : Nat) (q : Option Nat) : (State.putScale s k a q).time = s.time
    := by
  unfold State.putScale
  (repeat' split) <;> simp

@[simp] theorem State.cvtDo_time (s : State) (k : Nat) (rule : State → CvtI → CFmt → CFmt → List FVal → List Conv × Evts ×
    Option Nat) (r : LegRun) (w : Nat) : (State.cvtDo s k rule r w).1.time = s.time := by
  unfold State.cvtDo
  dsimp only
  (repeat' split) <;> simp_all

@[simp] theorem State.cvt_time (s : State) (k : Nat) (op : Nat) (rule : State → CvtI → CFmt → CFmt → List FVal → List Conv ×
    Evts × Option Nat) : (State.cvt s k op rule).time = s.time := by
  unfold State.cvt
  simp

@[simp] theorem State.cutIns_time (s : State) (k : Nat) : (State.cutIns s k).time = s.time := by
  unfold State.cutIns
  (repeat' split) <;> simp

@[simp] theorem State.cutLeg_time (s : State) (k : Nat) : (State.cutLeg s k).time = s.time := by
  unfold State.cutLeg
  dsimp only
  (repeat' split) <;> simp_all

@[simp] theorem State.takeBlock_time (s : State) (k : Nat) : (State.takeBlock s k).time = s.time := by
  unfold State.takeBlock
  dsimp only
  (repeat' split) <;> simp_all

@[simp] theorem State.feed_time (s : State) (k : Nat) (z0 : Nat) : (State.feed s k z0).time = s.time := by
  induction z0 generalizing s with
  | zero => rfl
  | succ f ih => unfold State.feed; simp [ih]

@[simp] theorem State.mmaStart_time (s : State) (k : Nat) (cyc : Nat) (r : LegRun) (m : MmaI) (mm : MmaMode) (own : List
    StrBlk) : (State.mmaStart s k cyc r m mm own).time = s.time := by
  unfold State.mmaStart
  simp

@[simp] theorem State.streamOf_time (s : State) (k : Nat) (r : LegRun) (z0 : List PfEntry) : (State.streamOf s k r
    z0).1.time = s.time := by
  induction z0 generalizing s with
  | nil => rfl
  | cons f fs ih =>
    unfold State.streamOf
    dsimp only
    (repeat' split) <;> simp [ih]

@[simp] theorem State.streamOn_time (s : State) (k : Nat) (r : LegRun) : (State.streamOn s k r).time = s.time := by
  unfold State.streamOn
  simp

@[simp] theorem State.mmaIssue_time (s : State) (k : Nat) (cyc : Nat) (r : LegRun) (w : Nat) : (State.mmaIssue s k cyc r
    w).time = s.time := by
  unfold State.mmaIssue
  dsimp only
  (repeat' split) <;> simp_all

@[simp] theorem State.mmaSkip_time (s : State) (k : Nat) (r : LegRun) (w : Nat) : (State.mmaSkip s k r w).time = s.time := by
  unfold State.mmaSkip
  dsimp only
  (repeat' split) <;> simp_all

@[simp] theorem State.mma_time (s : State) (k : Nat) (cyc : Nat) (op : Nat) : (State.mma s k cyc op).time = s.time := by
  unfold State.mma
  (repeat' split) <;> simp

@[simp] theorem State.transfer_time (s : State) : (State.transfer s).time = s.time := by
  unfold State.transfer
  simp

@[simp] theorem State.intakeTakes_time (s : State) : (State.intakeTakes s).time = s.time := by
  unfold State.intakeTakes
  simp

@[simp] theorem State.bindLoads_time (s : State) : (State.bindLoads s).time = s.time := by
  unfold State.bindLoads
  simp

@[simp] theorem State.dropBinds_time (s : State) (t : Nat) : (State.dropBinds s t).time = s.time := by
  unfold State.dropBinds
  simp

@[simp] theorem State.dropWgt_time (s : State) (t : Nat) : (State.dropWgt s t).time = s.time := by
  unfold State.dropWgt
  simp

@[simp] theorem State.tearI0_time (s : State) : (State.tearI0 s).time = s.time := by
  unfold State.tearI0
  simp

@[simp] theorem State.ltrIf_time (s : State) (old : Nat) : (State.ltrIf s old).time = s.time := by
  unfold State.ltrIf
  simp

@[simp] theorem State.measI0_time (s : State) : (State.measI0 s).time = s.time := by
  unfold State.measI0
  (repeat' split) <;> simp

@[simp] theorem State.vfReady_time (s : State) : (State.vfReady s).time = s.time := by
  unfold State.vfReady
  simp

@[simp] theorem State.showSlot_time (s : State) : (State.showSlot s).time = s.time := by
  unfold State.showSlot
  simp

@[simp] theorem State.ferryBegin_time (s : State) : (State.ferryBegin s).time = s.time := by
  unfold State.ferryBegin
  (repeat' split) <;> simp

@[simp] theorem State.countLate_time (s : State) : (State.countLate s).time = s.time := by
  unfold State.countLate
  simp

@[simp] theorem State.planLeg_time (s : State) (p : Nat) (b : SlotBlk) (x : Nat × Nat × LegEntry) : (State.planLeg s p b
    x).time = s.time := by
  unfold State.planLeg
  dsimp only
  (repeat' split) <;> simp_all

@[simp] theorem State.countDefer_time (s : State) (p : Nat) (b : SlotBlk) : (State.countDefer s p b).time = s.time := by
  unfold State.countDefer
  simp

@[simp] theorem State.carryOne_time (s : State) (p : Nat) (b : SlotBlk) (e : LegEntry) : (State.carryOne s p b e).time =
    s.time := by
  unfold State.carryOne
  (repeat' split) <;> simp

@[simp] theorem State.carryCheck_time (s : State) (p : Nat) (b : SlotBlk) : (State.carryCheck s p b).time = s.time := by
  unfold State.carryCheck
  simp

@[simp] theorem State.planPart_time (s : State) (p : Nat) : (State.planPart s p).time = s.time := by
  unfold State.planPart
  (repeat' split) <;> simp

@[simp] theorem State.teWake_time (s : State) (k : Nat) : (State.teWake s k).time = s.time := by
  unfold State.teWake
  simp

@[simp] theorem State.startLeg_time (s : State) (k : Nat) (x : LegPlan) : (State.startLeg s k x).time = s.time := by
  unfold State.startLeg
  (repeat' split) <;> simp

@[simp] theorem State.clearTE_time (s : State) (k : Nat) : (State.clearTE s k).time = s.time := by
  unfold State.clearTE
  (repeat' split) <;> simp

@[simp] theorem State.nextLeg_time (s : State) (k : Nat) : (State.nextLeg s k).time = s.time := by
  unfold State.nextLeg
  (repeat' split) <;> simp

@[simp] theorem State.declare_time (s : State) (p : Nat) : (State.declare s p).time = s.time := by
  unfold State.declare
  simp

@[simp] theorem State.cleanStart_time (s : State) : (State.cleanStart s).time = s.time := by
  unfold State.cleanStart
  simp

@[simp] theorem State.addCopy_time (s : State) (x : CopyX) : (State.addCopy s x).time = s.time := by
  unfold State.addCopy
  simp

@[simp] theorem State.copyWalk_time (s : State) (x : CopyX) : (State.copyWalk s x).time = s.time := by
  unfold State.copyWalk
  dsimp only
  (repeat' split) <;> simp_all

@[simp] theorem State.copyGo_time (s : State) (x : CopyX) (r : LegRun) (sg : Region) (dg : Region) : (State.copyGo s x r
    sg dg).time = s.time := by
  unfold State.copyGo
  simp

@[simp] theorem State.copyIssue_time (s : State) (p : Nat) (i : Nat) : (State.copyIssue s p i).time = s.time := by
  unfold State.copyIssue
  (repeat' split) <;> simp

@[simp] theorem State.copyEnd_time (s : State) (x : CopyX) : (State.copyEnd s x).time = s.time := by
  unfold State.copyEnd
  simp

@[simp] theorem State.copyMove_time (s : State) (x : CopyX) : (State.copyMove s x).time = s.time := by
  unfold State.copyMove
  simp

@[simp] theorem State.quietTe_time (s : State) (k : Nat) : (State.quietTe s k).time = s.time := by
  unfold State.quietTe
  simp

@[simp] theorem State.drainCheck_time (s : State) (p : Nat) : (State.drainCheck s p).time = s.time := by
  unfold State.drainCheck
  simp

@[simp] theorem State.copiesClose_time (s : State) : (State.copiesClose s).time = s.time := by
  unfold State.copiesClose
  simp

@[simp] theorem State.ferryEnd_time (s : State) : (State.ferryEnd s).time = s.time := by
  unfold State.ferryEnd
  (repeat' split) <;> simp

@[simp] theorem State.closeSail_time (s : State) : (State.closeSail s).time = s.time := by
  unfold State.closeSail
  simp

@[simp] theorem State.ferryRan_time (s : State) : (State.ferryRan s).time = s.time := by
  unfold State.ferryRan
  simp

@[simp] theorem State.ledgerAdd_time (s : State) (unit : Nat) (monitor : Nat) (value : Nat) : (State.ledgerAdd s unit monitor
    value).time = s.time := by
  unfold State.ledgerAdd
  simp

@[simp] theorem State.defer_time (s : State) (n : Nat) : (State.defer s n).time = s.time := by
  unfold State.defer
  simp

@[simp] theorem State.guardStep_time (s : State) (up : Bool) : (State.guardStep s up).time = s.time := by
  unfold State.guardStep
  simp

@[simp] theorem State.slackDone_time (s : State) : (State.slackDone s).time = s.time := by
  unfold State.slackDone
  (repeat' split) <;> simp

@[simp] theorem State.slackSeen_time (s : State) (v : Nat) : (State.slackSeen s v).time = s.time := by
  unfold State.slackSeen
  simp

@[simp] theorem State.oscSeen_time (s : State) (unit : Nat) (v : Nat) : (State.oscSeen s unit v).time = s.time := by
  unfold State.oscSeen
  dsimp only
  (repeat' split) <;> simp_all

@[simp] theorem State.canarySeen_time (s : State) (unit : Nat) (v : Nat) : (State.canarySeen s unit v).time = s.time := by
  unfold State.canarySeen
  simp

@[simp] theorem State.eyeLow_time (s : State) (link : Nat) (ch : Nat) : (State.eyeLow s link ch).time = s.time := by
  unfold State.eyeLow
  (repeat' split) <;> simp

@[simp] theorem State.fwStore_time (s : State) (b : List Byte) : (State.fwStore s b).time = s.time := by
  unfold State.fwStore
  simp

@[simp] theorem State.waitFor_time (s : State) (x : Nat) : (State.waitFor s x).time = s.time := by
  unfold State.waitFor
  simp

@[simp] theorem State.romRuns_time (s : State) : (State.romRuns s).time = s.time := by
  unfold State.romRuns
  simp

@[simp] theorem State.fwStart_time (s : State) : (State.fwStart s).time = s.time := by
  unfold State.fwStart
  simp

@[simp] theorem State.romVerdict_time (s : State) (code : Nat) : (State.romVerdict s code).time = s.time := by
  unfold State.romVerdict
  simp

@[simp] theorem State.rcvDone_time (s : State) (r : RRead) : (State.rcvDone s r).time = s.time := by
  unfold State.rcvDone
  simp

@[simp] theorem State.fwState_time (s : State) (st : Nat) : (State.fwState s st).time = s.time := by
  unfold State.fwState
  simp

@[simp] theorem State.fwFail_time (s : State) (code : Nat) : (State.fwFail s code).time = s.time := by
  unfold State.fwFail
  simp

@[simp] theorem State.fwLoadDone_time (s : State) (r : RRead) : (State.fwLoadDone s r).time = s.time := by
  unfold State.fwLoadDone
  simp

@[simp] theorem State.imagesDone_time (s : State) : (State.imagesDone s).time = s.time := by
  unfold State.imagesDone
  simp

@[simp] theorem State.rcvLoad_time (s : State) : (State.rcvLoad s).time = s.time := by
  unfold State.rcvLoad
  simp

@[simp] theorem State.fwLoad_time (s : State) : (State.fwLoad s).time = s.time := by
  unfold State.fwLoad
  simp

@[simp] theorem State.pciRegsReset_time (s : State) (lo : Nat) (hi : Nat) : (State.pciRegsReset s lo hi).time = s.time := by
  unfold State.pciRegsReset
  simp

@[simp] theorem State.vfsOff_time (s : State) : (State.vfsOff s).time = s.time := by
  unfold State.vfsOff
  simp

@[simp] theorem State.vfEnableClear_time (s : State) : (State.vfEnableClear s).time = s.time := by
  unfold State.vfEnableClear
  simp

@[simp] theorem State.pf0Down_time (s : State) : (State.pf0Down s).time = s.time := by
  unfold State.pf0Down
  simp

@[simp] theorem State.failHostReads_time (s : State) : (State.failHostReads s).time = s.time := by
  unfold State.failHostReads
  simp

@[simp] theorem State.pcieDown_time (s : State) (pin : Bool) : (State.pcieDown s pin).time = s.time := by
  unfold State.pcieDown
  simp

@[simp] theorem State.vfEnableSet_time (s : State) : (State.vfEnableSet s).time = s.time := by
  unfold State.vfEnableSet
  simp

@[simp] theorem State.toD3_time (s : State) : (State.toD3 s).time = s.time := by
  unfold State.toD3
  simp

@[simp] theorem State.stall_time (s : State) (r : HostReq) : (State.stall s r).time = s.time := by
  unfold State.stall
  simp

@[simp] theorem State.cfgAsk_time (s : State) (k : HReqK) (fn : Nat) (f : State → State) (hf : ∀ s , (f s ).time =
    s.time) : (State.cfgAsk s k fn f).time = s.time := by
  unfold State.cfgAsk
  simp
  (repeat' split) <;> simp_all

@[simp] theorem State.cfgEffect_time (s : State) (fn : Nat) (o : Nat) (old : Nat) (new : Nat) : (State.cfgEffect s fn o old
    new).time = s.time := by
  unfold State.cfgEffect
  simp

@[simp] theorem State.cfgWrite_time (s : State) (fn : Nat) (o : Nat) (b : Nat) (data : List Byte) : (State.cfgWrite s fn o b
    data).time = s.time := by
  unfold State.cfgWrite
  simp

@[simp] theorem State.cfgServe_time (s : State) (r : HostReq) : (State.cfgServe s r).time = s.time := by
  unfold State.cfgServe
  simp

@[simp] theorem State.unsupported_time (s : State) (r : HostReq) : (State.unsupported s r).time = s.time := by
  unfold State.unsupported
  simp

@[simp] theorem State.complete_time (s : State) (r : HostReq) (d : List Byte) : (State.complete s r d).time = s.time := by
  unfold State.complete
  simp

@[simp] theorem State.bar2Bad_time (s : State) (write : Bool) (x : Nat × LineRes) : (State.bar2Bad s write x).1.time = s.time
    := by
  unfold State.bar2Bad
  (repeat' split) <;> simp

@[simp] theorem State.bar2Bads_time (s : State) (write : Bool) (l : List (Nat × LineRes)) : (State.bar2Bads s write l).1.time
    = s.time := by
  unfold State.bar2Bads
  simp

@[simp] theorem State.bar2Wait_time (s : State) (r : HostReq) (ps : List (Nat × Nat)) : (State.bar2Wait s r ps).time =
    s.time := by
  unfold State.bar2Wait
  (repeat' split) <;> simp

@[simp] theorem State.bar2Train_time (s : State) (pa : Nat) (n : Nat) : (State.bar2Train s pa n).time = s.time := by
  unfold State.bar2Train
  simp

@[simp] theorem State.bar2Serve_time (s : State) (r : HostReq) : (State.bar2Serve s r).time = s.time := by
  unfold State.bar2Serve
  simp

@[simp] theorem State.putRead_time (s : State) (old : RRead) (new : RRead) : (State.putRead s old new).time = s.time := by
  unfold State.putRead
  simp

@[simp] theorem State.afterTag_time (s : State) : (State.afterTag s).time = s.time := by
  unfold State.afterTag
  simp

@[simp] theorem State.readFails_time (s : State) (r : RRead) (tag : Nat) (cause : Nat) : (State.readFails s r tag cause).time
    = s.time := by
  unfold State.readFails
  simp

@[simp] theorem State.ferryRead_time (s : State) (r : RRead) : (State.ferryRead s r).time = s.time := by
  unfold State.ferryRead
  simp

@[simp] theorem State.pieceIn_time (s : State) (r : RRead) (x : Nat × Nat × Nat) (d : List Byte) : (State.pieceIn s r x
    d).time = s.time := by
  unfold State.pieceIn
  simp

@[simp] theorem State.cplAer_time (s : State) (cause : Nat) : (State.cplAer s cause).time = s.time := by
  unfold State.cplAer
  simp

@[simp] theorem State.lateCpl_time (s : State) (fn : Nat) (log : Bool) : (State.lateCpl s fn log).time = s.time := by
  unfold State.lateCpl
  simp

@[simp] theorem State.pciClr_time (s : State) : (State.pciClr s).time = s.time := by
  unfold State.pciClr
  simp

@[simp] theorem State.showFuses_time (s : State) : (State.showFuses s).time = s.time := by
  unfold State.showFuses
  simp

@[simp] theorem State.beginStep_time (s : State) (i : Nat) (ms : Nat) : (State.beginStep s i ms).time = s.time := by
  unfold State.beginStep
  simp

@[simp] theorem State.brgTo_time (s : State) (st : Nat) : (State.brgTo s st).time = s.time := by
  unfold State.brgTo
  simp

@[simp] theorem State.candidate_time (s : State) : (State.candidate s).time = s.time := by
  unfold State.candidate
  simp

@[simp] theorem State.noCandidate_time (s : State) (v : Verdict) : (State.noCandidate s v).time = s.time := by
  unfold State.noCandidate
  simp

@[simp] theorem State.findCandidate_time (s : State) : (State.findCandidate s).time = s.time := by
  unfold State.findCandidate
  dsimp only
  (repeat' split) <;> simp_all

@[simp] theorem State.holdSlip_time (s : State) (v : Nat) : (State.holdSlip s v).time = s.time := by
  unfold State.holdSlip
  simp

@[simp] theorem State.enterHeld_time (s : State) : (State.enterHeld s).time = s.time := by
  unfold State.enterHeld
  simp

@[simp] theorem State.restartTrain_time (s : State) : (State.restartTrain s).time = s.time := by
  unfold State.restartTrain
  simp

@[simp] theorem State.brgRetry_time (s : State) : (State.brgRetry s).time = s.time := by
  unfold State.brgRetry
  simp

@[simp] theorem State.fullNext_time (s : State) : (State.fullNext s).time = s.time := by
  unfold State.fullNext
  simp

@[simp] theorem State.trainFabric_time (s : State) : (State.trainFabric s).time = s.time := by
  unfold State.trainFabric
  simp

@[simp] theorem State.trainPorts_time (s : State) (m : Manifest) : (State.trainPorts s m).time = s.time := by
  unfold State.trainPorts
  simp

@[simp] theorem State.trainStack_time (s : State) (p : Nat) : (State.trainStack s p).time = s.time := by
  unfold State.trainStack
  simp

@[simp] theorem State.restoreReg_time (s : State) (key : Nat) (v : Nat) : (State.restoreReg s key v).time = s.time := by
  unfold State.restoreReg
  (repeat' split) <;> simp

@[simp] theorem State.applyRepair_time (s : State) : (State.applyRepair s).time = s.time := by
  rw [State.applyRepair]
  simp

@[simp] theorem State.testRow_time (s : State) (x : Nat × Nat × Nat × Nat) (found : Bool) : (State.testRow s x found).time =
    s.time := by
  unfold State.testRow
  simp

@[simp] theorem State.testBank_time (s : State) (v : Nat) (c : Nat) (b : Nat) : (State.testBank s v c b).time = s.time := by
  unfold State.testBank
  simp

@[simp] theorem State.testTe_time (s : State) (tile : Nat) (phys : Nat) : (State.testTe s tile phys).time = s.time := by
  unfold State.testTe
  simp

@[simp] theorem State.testRepairs_time (s : State) (rows : List (Nat × Nat × Nat × Nat × Bool)) (banks : List (Nat × Nat
    × Nat)) (ways : List (Nat × Nat)) (tes : List (Nat × Nat)) (chans : List (Nat × Nat)) : (State.testRepairs s rows
    banks ways tes chans).time = s.time := by
  unfold State.testRepairs
  simp

@[simp] theorem State.clearLines_time (s : State) : (State.clearLines s).time = s.time := by
  unfold State.clearLines
  simp

@[simp] theorem State.writeRepair_time (s : State) (reason : Nat) (warm : Nat) (sample : Nat) : (State.writeRepair s reason
    warm sample).time = s.time := by
  unfold State.writeRepair
  simp

@[simp] theorem State.findStack_time (s : State) (m : Manifest) (mism : List Nat) (p : Nat) : (State.findStack s m mism
    p).time = s.time := by
  unfold State.findStack
  simp

@[simp] theorem State.trainTwin_time (s : State) (peer : Nat) : (State.trainTwin s peer).time = s.time := by
  unfold State.trainTwin
  simp

@[simp] theorem State.compareAll_time (s : State) (m : Manifest) : (State.compareAll s m).time = s.time := by
  unfold State.compareAll
  dsimp only
  (repeat' split) <;> simp_all

@[simp] theorem State.fwActivate_time (s : State) : (State.fwActivate s).time = s.time := by
  unfold State.fwActivate
  simp

@[simp] theorem State.handCheck_time (s : State) : (State.handCheck s).time = s.time := by
  unfold State.handCheck
  simp

@[simp] theorem State.warmHandoff_time (s : State) : (State.warmHandoff s).time = s.time := by
  unfold State.warmHandoff
  simp

@[simp] theorem State.watchdog_time (s : State) : (State.watchdog s).time = s.time := by
  unfold State.watchdog
  simp

@[simp] theorem State.fwResume_time (s : State) : (State.fwResume s).time = s.time := by
  unfold State.fwResume
  simp

@[simp] theorem State.twinErr_time (s : State) (cls : Nat) (cause : Nat) : (State.twinErr s cls cause).time = s.time := by
  unfold State.twinErr
  simp

@[simp] theorem State.showBacklog_time (s : State) : (State.showBacklog s).time = s.time := by
  unfold State.showBacklog
  simp

@[simp] theorem State.unpairAll_time (s : State) : (State.unpairAll s).time = s.time := by
  unfold State.unpairAll
  simp

@[simp] theorem State.sendHello_time (s : State) : (State.sendHello s).time = s.time := by
  unfold State.sendHello
  (repeat' split) <;> simp

@[simp] theorem State.twinCode_time (s : State) (c : Nat) : (State.twinCode s c).time = s.time := by
  unfold State.twinCode
  simp

@[simp] theorem State.resync_time (s : State) (p : Nat) : (State.resync s p).time = s.time := by
  unfold State.resync
  simp

@[simp] theorem State.pairPart_time (s : State) (p : Nat) : (State.pairPart s p).time = s.time := by
  unfold State.pairPart
  simp

@[simp] theorem State.takeover_time (s : State) : (State.takeover s).time = s.time := by
  unfold State.takeover
  simp

@[simp] theorem State.twinTakeover_time (s : State) : (State.twinTakeover s).time = s.time := by
  unfold State.twinTakeover
  simp

@[simp] theorem State.twinDown_time (s : State) : (State.twinDown s).time = s.time := by
  unfold State.twinDown
  simp

@[simp] theorem State.twinClr_time (s : State) : (State.twinClr s).time = s.time := by
  unfold State.twinClr
  simp

@[simp] theorem State.mrsp_time (s : State) (tag : Nat) (err : Nat) (d : List Byte) : (State.mrsp s tag err d).time = s.time
    := by
  unfold State.mrsp
  simp

@[simp] theorem State.mreqBad_time (s : State) (x : Nat × LineRes) : (State.mreqBad s x).time = s.time := by
  unfold State.mreqBad
  (repeat' split) <;> simp

@[simp] theorem State.mreq_time (s : State) (write : Bool) (pa : Nat) (len : Nat) (tag : Nat) (data : List Byte) :
    (State.mreq s write pa len tag data).time = s.time := by
  unfold State.mreq
  simp

@[simp] theorem State.diverge_time (s : State) (p : Nat) (told : Bool) : (State.diverge s p told).time = s.time := by
  unfold State.diverge
  simp

@[simp] theorem State.sendAck_time (s : State) (n : Nat) : (State.sendAck s n).time = s.time := by
  unfold State.sendAck
  simp

@[simp] theorem State.liveWrite_time (s : State) (key : Nat) (w : Word) : (State.liveWrite s key w).time = s.time := by
  unfold State.liveWrite
  simp

@[simp] theorem State.shadowWrite_time (s : State) (key : Nat) (v : Word) (m : Word) : (State.shadowWrite s key v m).time =
    s.time := by
  unfold State.shadowWrite
  simp

@[simp] theorem State.fieldWrite_time (s : State) (key : Nat) (mask : Word) (v : Word) (f : RegField) : (State.fieldWrite s
    key mask v f).time = s.time := by
  unfold State.fieldWrite
  (repeat' split) <;> simp

@[simp] theorem State.qClr_time (s : State) : (State.qClr s).time = s.time := by
  unfold State.qClr
  simp

@[simp] theorem State.manCmd_time (s : State) (v : Nat) : (State.manCmd s v).time = s.time := by
  unfold State.manCmd
  simp

@[simp] theorem State.lcsCmd_time (s : State) (op : Nat) : (State.lcsCmd s op).time = s.time := by
  unfold State.lcsCmd
  simp

@[simp] theorem State.keyCmd_time (s : State) (v : Nat) : (State.keyCmd s v).time = s.time := by
  unfold State.keyCmd
  simp

@[simp] theorem State.lrsCmd_time (s : State) (p : Nat) (v : Nat) : (State.lrsCmd s p v).time = s.time := by
  unfold State.lrsCmd
  simp

@[simp] theorem State.twinCmd_time (s : State) (v : Nat) : (State.twinCmd s v).time = s.time := by
  unfold State.twinCmd
  simp

@[simp] theorem State.onBit_time (s : State) (v : Nat) (i : Nat) (f : State → State) (hf : ∀ s, (f s).time = s.time) :
    (State.onBit s v i f).time = s.time := by
  unfold State.onBit
  simp [*]

@[simp] theorem State.regEffect_time (s : State) (n : RegName) (idx : List Nat) (key : Nat) (v : Nat) (half : Bool) :
    (State.regEffect s n idx key v half).time = s.time := by
  unfold State.regEffect
  (repeat' split) <;> simp

@[simp] theorem State.ferryReg_time (s : State) (n : RegName) (idx : List Nat) (key : Nat) : (State.ferryReg s n idx
    key).time = s.time := by
  unfold State.ferryReg
  (repeat' split) <;> simp

@[simp] theorem State.regPut_time (s : State) (o : Nat) (mask : Word) (v : Word) (half : Bool) : (State.regPut s o mask v
    half).time = s.time := by
  unfold State.regPut
  (repeat' split) <;> simp

@[simp] theorem State.regWrite_time (s : State) (off : Nat) (size : Nat) (value : Nat) : (State.regWrite s off size
    value).time = s.time := by
  unfold State.regWrite
  simp

@[simp] theorem State.regUse_time (s : State) (off : Nat) : (State.regUse s off).time = s.time := by
  unfold State.regUse
  (repeat' split) <;> simp

@[simp] theorem State.regRefuse_time (s : State) (r : RegReq) : (State.regRefuse s r).time = s.time := by
  unfold State.regRefuse
  (repeat' split) <;> simp

@[simp] theorem State.regTake_time (s : State) (r : RegReq) : (State.regTake s r).time = s.time := by
  unfold State.regTake
  simp

@[simp] theorem State.regGo_time (s : State) (r : RegReq) : (State.regGo s r).time = s.time := by
  unfold State.regGo
  (repeat' split) <;> simp

@[simp] theorem State.regLand_time (s : State) (r : RegReq) : (State.regLand s r).time = s.time := by
  unfold State.regLand
  simp

@[simp] theorem State.regPoll_time (s : State) : (State.regPoll s).time = s.time := by
  unfold State.regPoll
  (repeat' split) <;> simp

@[simp] theorem State.regSend_time (s : State) (r : RegReq) : (State.regSend s r).time = s.time := by
  unfold State.regSend
  simp

@[simp] theorem State.regNow_time (s : State) (r : RegReq) : (State.regNow s r).time = s.time := by
  unfold State.regNow
  (repeat' split) <;> simp

@[simp] theorem State.regDone_time (s : State) (r : RegReq) : (State.regDone s r).time = s.time := by
  unfold State.regDone
  (repeat' split) <;> simp

@[simp] theorem State.regReadMsgs_time (s : State) (src : Nat) (tag : Nat) (off : Nat) (n : Nat) : (State.regReadMsgs s
    src tag off n).time = s.time := by
  unfold State.regReadMsgs
  (repeat' split) <;> simp

@[simp] theorem State.regWake_time (s : State) (off : Nat) : (State.regWake s off).time = s.time := by
  unfold State.regWake
  (repeat' split) <;> simp

@[simp] theorem State.land_time (s : State) (z0 : HPkt) : (State.land s z0).time = s.time := by
  induction z0 generalizing s <;> (unfold State.land; (repeat' split) <;> simp_all)

@[simp] theorem State.landAll_time (s : State) : (State.landAll s).time = s.time := by
  unfold State.landAll
  simp

@[simp] theorem State.fabCycle_time (s : State) : (State.fabCycle s).time = s.time := by
  unfold State.fabCycle
  simp

@[simp] theorem State.prst_time (s : State) (r : HostReq) : (State.prst s r).time = s.time := by
  unfold State.prst
  simp

@[simp] theorem State.vfWrite_time (s : State) (t : Nat) (off : Nat) (data : List Byte) : (State.vfWrite s t off data).time =
    s.time := by
  unfold State.vfWrite
  simp

@[simp] theorem State.bar0Pf_time (s : State) (r : HostReq) : (State.bar0Pf s r).time = s.time := by
  unfold State.bar0Pf
  simp

@[simp] theorem State.bar0Vf_time (s : State) (r : HostReq) : (State.bar0Vf s r).time = s.time := by
  unfold State.bar0Vf
  simp

@[simp] theorem State.bar0Serve_time (s : State) (r : HostReq) : (State.bar0Serve s r).time = s.time := by
  unfold State.bar0Serve
  simp

@[simp] theorem State.switchRegs_time (s : State) (b : List Byte) (z0 : Nat) : (State.switchRegs s b z0).time = s.time := by
  induction z0 generalizing s b with
  | zero => rfl
  | succ f ih => unfold State.switchRegs; simp [ih]

@[simp] theorem State.switchProgs_time (s : State) (b : List Byte) (z0 : Nat) : (State.switchProgs s b z0).time = s.time := by
  induction z0 generalizing s b with
  | zero => rfl
  | succ f ih => unfold State.switchProgs; dsimp only; rw [ih]

@[simp] theorem State.switchRings_time (s : State) (p : Nat) : (State.switchRings s p).time = s.time := by
  unfold State.switchRings
  simp

@[simp] theorem State.switchIn_time (s : State) (e : FEntry) : (State.switchIn s e).time = s.time := by
  unfold State.switchIn
  simp

@[simp] theorem State.ferrySlots_time (s : State) (e : FEntry) : (State.ferrySlots s e).time = s.time := by
  unfold State.ferrySlots
  simp

@[simp] theorem State.ferryCross_time (s : State) (n : Nat) (e : FEntry) : (State.ferryCross s n e).time = s.time := by
  unfold State.ferryCross
  simp

@[simp] theorem State.ferryDigest_time (s : State) (e : FEntry) : (State.ferryDigest s e).time = s.time := by
  unfold State.ferryDigest
  (repeat' split) <;> simp

@[simp] theorem State.ferryIssued_time (s : State) (e : FEntry) : (State.ferryIssued s e).time = s.time := by
  unfold State.ferryIssued
  simp

@[simp] theorem State.ferryEntry_time (s : State) (n : Nat) (e : FEntry) : (State.ferryEntry s n e).time = s.time := by
  unfold State.ferryEntry
  simp

@[simp] theorem State.trim_time (s : State) : (State.trim s).time = s.time := by
  unfold State.trim
  simp

@[simp] theorem State.ferryRun_time (s : State) : (State.ferryRun s).time = s.time := by
  unfold State.ferryRun
  (repeat' split) <;> simp

@[simp] theorem State.slipErrTo_time (s : State) (v : Nat) (q : SReq) (cause : Nat) : (State.slipErrTo s v q cause).time =
    s.time := by
  unfold State.slipErrTo
  simp

@[simp] theorem State.slipAbsent_time (s : State) (v : Nat) (q : SReq) (pa : Nat) : (State.slipAbsent s v q pa).time = s.time
    := by
  unfold State.slipAbsent
  simp

@[simp] theorem State.slipRegs_time (s : State) (v : Nat) (q : SReq) : (State.slipRegs s v q).time = s.time := by
  unfold State.slipRegs
  simp
  (repeat' split) <;> simp_all

@[simp] theorem State.slipServe_time (s : State) (v : Nat) (q : SReq) : (State.slipServe s v q).time = s.time := by
  unfold State.slipServe
  (repeat' split) <;> simp

@[simp] theorem State.release_time (s : State) (r : HostReq) : (State.release s r).time = s.time := by
  unfold State.release
  (repeat' split) <;> simp

@[simp] theorem State.retryHost_time (s : State) : (State.retryHost s).time = s.time := by
  unfold State.retryHost
  simp

@[simp] theorem State.vecOp_time (s : State) (k : Nat) (func : Nat) (f : Bool → Nat → Nat → Nat → Nat) : (State.vecOp s k
    func f).time = s.time := by
  unfold State.vecOp
  simp

@[simp] theorem State.rand_time (s : State) (k : Nat) (func : Nat) (f : Nat → Nat) : (State.rand s k func f).time = s.time := by
  unfold State.rand
  simp

@[simp] theorem State.arrive_time (s : State) (k : Nat) (mask : Nat) (bid : Nat) : (State.arrive s k mask bid).time = s.time
    := by
  unfold State.arrive
  (repeat' split) <;> simp

@[simp] theorem State.predOp_time (s : State) (k : Nat) (op : Nat) (hold : PredI → List (Nat × Nat)) (f : State → PredI →
    LegRun → Bool) : (State.predOp s k op hold f).time = s.time := by
  unfold State.predOp
  simp

@[simp] theorem State.red_time (s : State) (k : Nat) (op : Nat) (f : State → RedI → List Nat → List Nat × List Nat) :
    (State.red s k op f).time = s.time := by
  unfold State.red
  simp

@[simp] theorem State.tapSelect_time (s : State) (code : Nat) (ok : Bool) (f : State → State) (hf : ∀ s, (f s).time = s.time)
    : (State.tapSelect s code ok f).time = s.time := by
  unfold State.tapSelect
  simp [*]

@[simp] theorem State.tapLcsCmd_time (s : State) (data : Nat) : (State.tapLcsCmd s data).time = s.time := by
  unfold State.tapLcsCmd
  simp

@[simp] theorem State.withCommand_time (s : State) (c : Instr) : (State.withCommand s c).time = s.time := by
  rfl

@[simp] theorem State.withFetchWord_time (s : State) (nbits : Nat) (w : Nat) : (State.withFetchWord s nbits w).time =
    s.time := by
  unfold State.withFetchWord
  (repeat' split) <;> simp

end Sys2Proof.Machine
end

