-- ==== Sys2Proof/Tests/Slice0.lean ====
section
/-! SUPPORT. Tests of the model: ill-formed commands that the check refuses, a witness for every statement of the
slice that has hypotheses (a concrete state and operands that meet them), and steps with results worked out by hand. -/

namespace Sys2Proof.Tests
open Sys2Proof Sys2Proof.Machine Sys2Proof.Safety

set_option maxRecDepth 20000
set_option exponentiation.threshold 2048

/-! ### Ill-formed commands: each is refused by the check it breaks -/

/-- Commands with one operand out of its range: te, part, barrier, tile, phys, tenant, ring, half, wide. -/
theorem test_illFormed_1 :
    [(Check.te, (.legStart (256) : Instr)),
      (Check.part, (.copyIssue (64) 0 : Instr)),
      (Check.barrier, (.barRelease 0 (16) : Instr)),
      (Check.tile, (.teFailing (64) 0 0 : Instr)),
      (Check.phys, (.teFailing 0 (5) 0 : Instr)),
      (Check.tenant, (.doorbell (4096) 0 0 0 : Instr)),
      (Check.ring, (.doorbell 0 (64) 0 0 : Instr)),
      (Check.half, (.doorbell 0 0 (3) 0 : Instr)),
      (Check.wide, (.doorbell 0 0 0 (2 ^ 64) : Instr))].all (fun x => decide (x.1 ∈ Instr.fails x.2) && !Instr.wf x.2) = true := by decide

/-- Commands with one operand out of its range: globalRing, didx, invLane, seq, vpn, cache, va, function, page. -/
theorem test_illFormed_2 :
    [(Check.globalRing, (.descRun (262144) 0 : Instr)),
      (Check.didx, (.descRun 0 (2 ^ 32) : Instr)),
      (Check.invLane, (.dtuInvPage (64) 0 0 0 : Instr)),
      (Check.seq, (.dtuInvPage 0 (65536) 0 0 : Instr)),
      (Check.vpn, (.dtuInvPage 0 0 (2 ^ 31) 0 : Instr)),
      (Check.cache, (.translationWalk (65) 0 0 : Instr)),
      (Check.va, (.translationWalk 0 0 (2 ^ 56) : Instr)),
      (Check.function, (.atsTranslationCompletion (4097) 0 0 false false false : Instr)),
      (Check.page, (.atsTranslationCompletion 0 (2 ^ 52) 0 false false false : Instr))].all (fun x => decide (x.1 ∈ Instr.fails x.2) && !Instr.wf x.2) = true := by decide

/-- Commands with one operand out of its range: itag, requester, pa, qc, owner, agent, slip, router, ecc. -/
theorem test_illFormed_3 :
    [(Check.itag, (.atsInvalidateRequest (32) 0 0 : Instr)),
      (Check.requester, (.rds (75) 0 0 false 0 0 false : Instr)),
      (Check.pa, (.rds 0 (2 ^ 52) 0 false 0 0 false : Instr)),
      (Check.qc, (.rds 0 0 0 false (4) 0 false : Instr)),
      (Check.owner, (.rds 0 0 0 false 0 (4097) false : Instr)),
      (Check.agent, (.wb (72) 0 0 : Instr)),
      (Check.slip, (.snpRsp (8) 0 false false false false false : Instr)),
      (Check.router, (.mrd (83) 0 0 0 0 0 0 : Instr)),
      (Check.ecc, (.mrd 0 0 0 0 0 0 (3) : Instr))].all (fun x => decide (x.1 ∈ Instr.fails x.2) && !Instr.wf x.2) = true := by decide

/-- Commands with one operand out of its range: size, block, port, powerDomain, clockDomain, flit, fseq, descriptor, lrsChannel. -/
theorem test_illFormed_4 :
    [(Check.size, (.regWr 4 8 0 0 0 : Instr)),
      (Check.block, (.regAck (20) : Instr)),
      (Check.port, (.flitCrcError 0 (8) false : Instr)),
      (Check.powerDomain, (.wakeRequest (529) : Instr)),
      (Check.clockDomain, (.fordOverrun (18) 0 0 false false : Instr)),
      (Check.flit, (.ospFlitReceive 0 [] : Instr)),
      (Check.fseq, (.ospReplay 0 (4096) : Instr)),
      (Check.descriptor, (.slipDiscoveryDone 0 0 0 false [] : Instr)),
      (Check.lrsChannel, (.channelFailing 0 (132) false : Instr))].all (fun x => decide (x.1 ∈ Instr.fails x.2) && !Instr.wf x.2) = true := by decide

/-- Commands with one operand out of its range: lrsChannelOrNone, vault, channel, bank, way, teLane, role, serial, entry. -/
theorem test_illFormed_5 :
    [(Check.lrsChannelOrNone, (.lrsSpareCh 0 (256) : Instr)),
      (Check.vault, (.vaultRegimeChange (64) 0 : Instr)),
      (Check.channel, (.rowRepairDone 0 (16) 0 0 false : Instr)),
      (Check.bank, (.rowRepairDone 0 0 (32) 0 false : Instr)),
      (Check.way, (.llcWayFail 0 (24) [] [] : Instr)),
      (Check.teLane, (.teReqLane 0 (8) : Instr)),
      (Check.role, (.hello 0 (2) 0 0 false : Instr)),
      (Check.serial, (.hello 0 0 0 (2 ^ 64) false : Instr)),
      (Check.entry, (.ferry (256) 0 0 [] : Instr))].all (fun x => decide (x.1 ∈ Instr.fails x.2) && !Instr.wf x.2) = true := by decide

/-- Commands with one operand out of its range: lineBytes, stream, nonce, slot, route, status. -/
theorem test_illFormed_6 :
    [(Check.lineBytes, (.copy 0 [] : Instr)),
      (Check.stream, (.ideIntegrity (256) : Instr)),
      (Check.nonce, (.startInterface 0 (2 ^ 256) : Instr)),
      (Check.slot, (.spdmGetCertificate (2) 0 0 : Instr)),
      (Check.route, (.transition (3) 0 0 [] : Instr)),
      (Check.status, (.pcieCompletion 0 0 (8) false 0 [] : Instr))].all (fun x => decide (x.1 ∈ Instr.fails x.2) && !Instr.wf x.2) = true := by decide

/-! ### Small states the tests start from -/

/-- The reset state with register fields set. -/
def withFields (s : State) (l : List (Nat × Fld × Nat)) : State := l.foldl (fun s x => s.rset x.1 x.2.1 x.2.2) s

def block1 : SlotBlk := ⟨0, 1, false, 0, 0, [⟨0, 9, 5, 2, 3, 400⟩], [], [], 0⟩

def manifest1 : Manifest :=
  { digest := 1, svn := 0, serial := 0, prev := 0, sects := [], slips := [], stackMask := 3, stackCap := 0, twinDeclared := false,
    limits := [], period := 1000, quiet := 100, mm := ⟨0, 0, 4, 12, [1, 2, 4, 8, 16, 32], [], [⟨0, 16, 5⟩]⟩, parts := [⟨0, 3, 7⟩],
    tenants := [⟨5, 0, []⟩], tabs := [], grants := [], progs := [], variants := [⟨0, 1, 0, [[block1]], []⟩], budgetW := 0, regs := [],
    tdiMap := 0, scrubRate := 0, rotRate := 0, twin := none, bytes := [] }

/-- A hub that runs: the time base is on, its sailing at a step, with the manifest above in force and the first
32 MiB of tenant 5 translated in the caches of tile 0 and of the ring engines, whose memory key is 5. -/
def running (g : Stage) : State :=
  withFields
    { State.reset with
      man := { State.reset.man with inForce := some manifest1 }
      time := ⟨20, 10, g, 0, false⟩
      heap := { State.reset.heap with keys := [(5, (some 5, none))] }
      dtu := { State.reset.dtu with
        caches := [(0, [⟨5, 0, false, 0, true, true, false, 0⟩]), (64, [⟨5, 0, false, 0, true, true, false, 0⟩])] } }
    [(R.dtuCtxCfg 5, F.dtuCtxCfg_STATE, 2), (R.sailStatus, F.sailStatus_TB_RUN, 1), (R.sailNum, F.sailNum_NUM, 10),
      (R.sailPeriod, F.sailPeriod_PERIOD, 1000), (R.sailPeriod, F.sailPeriod_QUIET, 100)]

def entry1 : LegEntry := ⟨0, 9, 5, 2, 3, 400⟩

def prog1 (w : Nat) : Prog := ⟨9, 1024, 100, 1, [⟨0x10000, 0, 0x8000, 0, 0⟩, ⟨0x18000, 0, 0x8000, 0, 1⟩], [⟨2, 0xFF, 64, 64, 0, 64, 0⟩], [3], [w, 0, 0], false, []⟩

/-- A leg of tenant 5 on TE 0 that stands at the instruction word w. -/
def leg1 (w : Nat) : LegRun :=
  ⟨0, 0, entry1, 5 * 64, 0, prog1 w, 0, [], 11, 0, [], 0, [], [], 0, none, none, [], none, none, 0, 0⟩

def atWord (w : Nat) : State := { running .run with te := [(0, { TeSt.idle with run := some (leg1 w) })] }

def ctx1 : Ctx :=
  { ring := 5 * 64, didx := 0, admitSail := 0, noVctx := false, fetched := true, op := 1, fence := false, notify := false, utag := 0,
    started := true, from_ := 0, done := none, doneSail := 0, vclass := 2, seed := 11, stg := 0, args := [], argx := 0, step := 3, steps := 9,
    nflags := 0, tes := [], exposed := false, suspended := false, staged := none, late := false, dir := 0, hva := 0, sgl := 0, ents := 0,
    cur := none, listEnd := false, total := 0, moved := 0, drained := 0, index := 0, img := 0, len := 1024, image := [], lastMove := 0,
    lastDst := [] }

/-! ### A witness for each clause of the statements, in their order -/

theorem witness_StepRunsTheFrontCommand :
    ({ State.reset with pending := [.bypass, .idcode] } : State).pending = .bypass :: [.idcode] := by decide

theorem witness_EmptyQueueIsOneTclkCycle :
    (running .run).pending = [] ∧ (running .run).rf R.sailStatus F.sailStatus_TB_RUN = 1 ∧
      (running .run).time.tclk < (running .run).rf R.sailPeriod F.sailPeriod_PERIOD ∧
      ¬ (State.reset.rf R.sailStatus F.sailStatus_TB_RUN = 1 ∧ State.reset.time.tclk < State.reset.rf R.sailPeriod F.sailPeriod_PERIOD) ∧
      (running .run).fab.net.live = [] ∧ (running .run).fab.air = [] ∧ (∀ x ∈ (running .run).fab.regBusy, x.2 = true) ∧
      (∀ v, v < 8 → (running .run).slState v ≠ 2) ∧ (running .run).pci.stalled = [] := by decide

theorem witness_EveryStepKeepsTheCanonicalForm :
    mrising (running .run).regs = true ∧ mrising (running .run).shadow = true ∧ Memory.wf (running .run).mem = true ∧
      Memory.wf (running .run).holds = true := by decide

theorem witness_EveryStepKeepsTheCanonicalForm_next :
    ∃ t, step State.reset = .next t := ⟨_, rfl⟩

theorem witness_OnlyTheSailingsOwnStepsMoveTheTimeBase : ¬ movesTime .bypass ∧ ∃ t, exec .bypass State.reset = .next t :=
  ⟨id, _, rfl⟩

theorem witness_HoldsChangeOnlyByTheirOwnOperations : ¬ writesHold .bypass ∧ ∃ t, exec .bypass State.reset = .next t :=
  ⟨id, _, rfl⟩

theorem witness_FuseBitsAreOnlyEverSet : ∃ t, exec .bypass State.reset = .next t := ⟨_, rfl⟩

theorem witness_SailingStepsComeInOrder :
    (∀ g ∈ [Stage.boundary, .c1, .c2, .i0, .i1, .i2, .i3, .i4, .run],
      (running g).time.stage = g ∧ (running g).rf R.sailStatus F.sailStatus_TB_RUN = 1) ∧
      ¬ (State.reset.time.stage = .boundary ∧ State.reset.rf R.sailStatus F.sailStatus_TB_RUN = 1) := by decide

theorem witness_BoundaryBeginsTheNextSailing :
    (running .quiet).time.stage = .quiet ∧ (running .quiet).rf R.sailStatus F.sailStatus_TB_RUN = 1 ∧ (running .quiet).pci.stalled = [] ∧
      ¬ ((running .run).time.stage = .quiet ∧ (running .run).rf R.sailStatus F.sailStatus_TB_RUN = 1) ∧
      (running .run).time.stage ≠ .boundary ∧ (running .run).time.stage ≠ .c1 ∧ (running .run).muted = false ∧
      (running .c1).time.stage = .c1 := by decide

/-- A completion record that spilled, for a ring that is in force no more: it leaves at once. -/
def spilled : State := { running .run with rings := { State.reset.rings with spill := [⟨320, 0, 1, 0, true, 7, 0, 0⟩] } }

theorem witness_BoundaryBeginsTheNextSailing_spill :
    spilled.rings.spill = ⟨320, 0, 1, 0, true, 7, 0, 0⟩ :: [] ∧ 0 < 1 ∧ spilled.muted = false ∧ spilled.time.stage ≠ .boundary ∧
      spilled.time.stage ≠ .c1 ∧
      ((spilled.setRings { spilled.rings with spill := spilled.rings.spill.drop 1, vecDue := [] }).issueRec ⟨320, 0, 1, 0, true, 7, 0, 0⟩).2 ≠
        .waits ∧ spilled.err.fatal = false ∧
      (running .quiet).time.stage = .quiet ∧ (running .quiet).rings.spill = [] ∧
      ({ spilled with time := ⟨20, 10, .quiet, 0, false⟩ } : State).time.stage = .quiet ∧
      ({ spilled with time := ⟨20, 10, .quiet, 0, false⟩ } : State).rings.spill ≠ [] := by
  decide

def planned : State :=
  { running .run with
    te := [(0, { TeSt.idle with plan := [⟨0, 0, entry1, some (320, 0), false, 0⟩] })], progs := [(9, prog1 0)]
    rings := { State.reset.rings with ctxs := [ctx1] } }

theorem witness_LegsStartAsPlanned :
    planned.time.stage = .run ∧ planned.err.fatal = false ∧ (planned.tez 0).plan = ⟨0, 0, entry1, some (320, 0), false, 0⟩ :: [] ∧
      (planned.tez 0).run = none ∧ planned.ctxOf 320 0 = some ctx1 ∧ mget planned.progs entry1.prog = some (prog1 0) ∧
      (planned.legRun 0 ⟨0, 0, entry1, some (320, 0), false, 0⟩ ctx1 (prog1 0)).misaligned = false ∧
      (⟨0, 0, entry1, some (320, 0), false, 0⟩ : LegPlan).blocked = false := by decide

theorem witness_LegEndsAndTheWatchdog :
    (atWord 0).atIns 0 = some (leg1 0, 0) ∧ insClass 0 = 0 ∧ (leg1 0).movs = [] ∧ (leg1 0).mma = none ∧
    (atWord 0).writesDone [2, 0] = true ∧ (atWord 0).rf (R.teStatus 0) F.teStatus_STATE < 3 ∧
    3 ≤ (withFields (atWord 0) [(R.teStatus 0, F.teStatus_STATE, 3)]).rf (R.teStatus 0) F.teStatus_STATE ∧
    ((atWord 0).tez 0).run = some (leg1 0) ∧ (leg1 0).halted = none := by decide

def mov1 : MovX := ⟨0, 3, 0, 64, 0, 0, [(0, 0, 64)], 0, 5, 10⟩

/-- The same leg with a MOV outstanding. -/
def moving (w : Nat) (m : MovX) : State :=
  { running .run with te := [(0, { TeSt.idle with run := some { leg1 w with movs := [m], nextMov := 1 } })] }

theorem witness_LegEndsAndTheWatchdog_waits :
    (moving 0 mov1).atIns 0 = some ({ leg1 0 with movs := [mov1], nextMov := 1 }, 0) := by decide

/-- A COPY entry of the block, from region 0 to region 1 of leg 0's program. -/
def copyEntry : PfEntry := ⟨true, 1, 0, 0, 0, 1, 0, 0, 0, 64, 0⟩

def entry2 : LegEntry := ⟨0, 9, 5, 2, 4, 400⟩

def copying : State :=
  { planned with
    man := { State.reset.man with
      inForce := some { manifest1 with
        variants := [⟨0, 2, 0, [[{ block1 with pfs := [copyEntry] }], [{ block1 with legs := [entry2] }]], []⟩] } } }

def copyDone : CopyX := ⟨0, 0, copyEntry, 320, 0, 2, 4, 5, 11, [], false, none, 0, false, 0x10000, 0x18000⟩

def copied : State := { copying with copies := [copyDone] }

/-- The same copy with its 64 bytes still to move, both its lines valid. -/
def copyBusy : CopyX := { copyDone with pieces := [(0x10000, 0x18000, 64)] }

def copyMoving : State :=
  { copying with copies := [copyBusy], lmeta := [(0x200, ⟨true, 0, 5⟩), (0x300, ⟨true, 0, 5⟩)], mem := [(0x10000, 0x5A)] }

theorem witness_CopiesIssueAndComplete :
    copying.time.stage = .run ∧ copying.err.fatal = false ∧ copying.man.crossed = false ∧ (copying.part 0).stopped = false ∧
      (copying.part 0).reset = false ∧ copying.blockOf 0 = some { block1 with pfs := [copyEntry] } ∧
      copying.copyBind 0 copyEntry = some (ctx1, entry2) ∧ mget copying.progs entry2.prog = some (prog1 0) ∧
      copying.torn entry2.tenant = false := by decide

theorem witness_CopiesIssueAndComplete_ranges :
    let r := copying.legRun 0 ⟨0, 0, entry2, some (320, 0), false, 0⟩ ctx1 (prog1 0)
    let a := copying.footprintOpen 0 (copying.partQc 0) 5 .rd (piecesOf 0x10000 64)
    let d := a.1.footprintOpen 0 (copying.partQc 0) 5 .wr (piecesOf 0x18000 64)
    r.regionBase ⟨0x10000, 0, 0x8000, 0, 0⟩ = 0x10000 ∧ r.regionBase ⟨0x18000, 0, 0x8000, 0, 1⟩ = 0x18000 ∧
      a.2.wait = false ∧ d.2.wait = false ∧ a.2.fails = [] ∧ d.2.fails = [] := by decide

theorem witness_CopiesIssueAndComplete_complete :
    (let find := fun (s : State) => s.copies.find? (fun y => decide (y.part = 0) && decide (y.idx = 0) && !y.done && y.fault.isNone)
     find copied = some copyDone ∧ copyDone.walking = false ∧ copyDone.pieces = [] ∧ copied.writesDone copyDone.who = true ∧
       copied.timetableSail 0 + 1 = 11 ∧
       find { copied with copies := [{ copyDone with target := 12 }] } = some { copyDone with target := 12 } ∧
       find copyMoving = some copyBusy ∧ copyBusy.walking = false ∧ copyBusy.pieces ≠ [] ∧ copyMoving.copyReady copyBusy = true ∧
       find { copyMoving with time := ⟨20, 10, .quiet, 0, false⟩, copies := [{ copyDone with walking := true }] } =
         some { copyDone with walking := true } ∧
       ({ copyMoving with time := ⟨20, 10, .quiet, 0, false⟩, copies := [{ copyDone with walking := true }] } : State).copiesRun 0 = false) := by
  decide

/-- The block of partition 0 marked for a survey, in QUIET. -/
def surveying : State :=
  { running .quiet with
    man := { State.reset.man with inForce := some { manifest1 with variants := [⟨0, 1, 0, [[{ block1 with survey := true }]], []⟩] } }
    pwr := { State.reset.pwr with running := [(3, 2)] } }

theorem witness_SurveysRunTheirItems :
    surveying.time.stage = .quiet ∧ surveying.marked ≠ [] ∧ (running .quiet).marked = [] ∧
      surveying.pwr.running.contains (3, 2) = true ∧ surveying.pwr.running.contains (0, 2) = false := by decide

/-! ### Instructions of a leg -/

/-- An instruction word of a class with an operation and the fields below bit 116. -/
def word (cls op low : Nat) : Nat := cls * 2 ^ 124 + op * 2 ^ 116 + low

/-- A VEC word: function, integer type, VD, VA, VB, VC. -/
def vword (func int vd va vb vc : Nat) : Nat :=
  3 * 2 ^ 124 + func * 2 ^ 114 + int * 2 ^ 113 + vd * 2 ^ 107 + va * 2 ^ 101 + vb * 2 ^ 95 + vc * 2 ^ 89

/-- The leg at a word with a few vector lanes and hold bytes set. -/
def vecAt (w : Nat) : State :=
  { atWord w with
    phys := [(0, { PhysSt.fresh with vreg := [(64, 0x3F800000), (65, 5), (128, 0x40000000), (129, 0xFFFFFFFF)] })]
    holds := [(0, 3), (1, 0x80), (64, 7), (128, 9), (700, 1)] }

theorem witness_VectorFormsWriteEveryLane :
    ∀ f ∈ [0x00, 0x01, 0x02, 0x03, 0x04, 0x05, 0x06, 0x07, 0x08, 0x09, 0x0A, 0x0B, 0x0C, 0x0D, 0x0E, 0x0F, 0x10, 0x11, 0x18, 0x19, 0x1A,
        0x1B, 0x1C, 0x1D],
      let w := vword f 0 3 1 2 0
      (vecAt w).atIns 0 = some (leg1 w, w) ∧ insClass w = 3 ∧ vecFunc w = f ∧ predicated (leg1 w).preds w = true ∧
        ((vecAt w).tez 0).blocked (leg1 w) [] = false := by decide

theorem witness_VectorLoadStoreAndRandomForms :
    (∀ f ∈ [0x20, 0x21],
      let w := vword f 0 3 1 2 0
      (vecAt w).atIns 0 = some (leg1 w, w) ∧ insClass w = 3 ∧ vecFunc w = f ∧ predicated (leg1 w).preds w = true ∧
        ((vecAt w).tez 0).blocked (leg1 w) [(vecHold (vecI w) (leg1 w).loops, 256)] = false) ∧
    (∀ f ∈ [0x22, 0x23],
      let w := vword f 0 3 1 2 0
      (vecAt w).atIns 0 = some (leg1 w, w) ∧ insClass w = 3 ∧ vecFunc w = f ∧ predicated (leg1 w).preds w = true ∧
        ((vecAt w).tez 0).blocked (leg1 w) [] = false) := by decide

/-- A CVT word from FP32 to INT8 of 8 elements at hold 0, to hold 256, with its scale at hold 512. -/
def cword (op : Nat) : Nat := word 4 op (0 * 2 ^ 112 + 5 * 2 ^ 108 + 4 * 2 ^ 78 + 8 * 2 ^ 63 + 8 * 2 ^ 43)

theorem witness_ConversionsWriteTheirCodesAndCountEvents :
    (∀ op ∈ [0, 1, 2, 3],
      let w := cword op
      CFmt.ofCode (cvtI w).sfmt = some .fp32 ∧ CFmt.ofCode (cvtI w).dfmt = some .int8 ∧ (vecAt w).atIns 0 = some (leg1 w, w) ∧
        insClass w = 4 ∧ insOp w = op ∧ predicated (leg1 w).preds w = true ∧ ((vecAt w).tez 0).blocked (leg1 w) (cvtHold (leg1 w) w) = false) ∧
    (vecAt (cword 0)).conf = false ∧ (withFields (vecAt (cword 0)) [(R.salStatus, F.salStatus_CONF, 1)]).conf = true := by decide

/-- A RED word of 8 elements at hold 0 to hold 1024, K 2, with its weights, biases and epsilon behind them. -/
def rword (op : Nat) : Nat :=
  word 5 op (0 * 2 ^ 101 + 16 * 2 ^ 86 + 8 * 2 ^ 66 + 1 * 2 ^ 60 + 40 * 2 ^ 45 + 41 * 2 ^ 30 + 42 * 2 ^ 15)

theorem witness_ReductionsWriteTheirResults :
    ∀ op ∈ [0, 1, 2, 3, 4, 5, 6],
      let w := rword op
      (vecAt w).atIns 0 = some (leg1 w, w) ∧ insClass w = 5 ∧ insOp w = op ∧ predicated (leg1 w).preds w = true ∧
        ((vecAt w).tez 0).blocked (leg1 w) (redHold (leg1 w) w) = false := by decide

/-- A PRED word: PD 2, PA 1, PB 3. -/
def pword (op : Nat) : Nat := word 8 op (2 * 2 ^ 113 + 1 * 2 ^ 110 + 3 * 2 ^ 107)

theorem witness_PredicateFormsSetTheirPredicate :
    (∀ op ∈ [0, 1, 2, 3, 4, 5],
      let w := pword op
      (vecAt w).atIns 0 = some (leg1 w, w) ∧ insClass w = 8 ∧ insOp w = op ∧ predicated (leg1 w).preds w = true ∧
        ((vecAt w).tez 0).blocked (leg1 w) [((predI w).haddr * 64, 64)] = false ∧ (predI w).pd = 2) ∧
    (predI (word 8 5 0)).pd = 0 ∧ (vecAt (word 8 5 0)).atIns 0 = some (leg1 (word 8 5 0), word 8 5 0) := by decide

/-- The word predicated off: PSEL 1, and no predicate set. -/
def off (w : Nat) : Nat := w + 2 ^ 121

/-- TEs 0 and 1 wait at barrier 4 of the group of TEs 0 and 1; in the second state TE 1 is still to arrive. -/
def barrier (arrived : List Nat) : State :=
  { running .run with
    te := [(0, { TeSt.idle with run := some { leg1 0 with waitBar := some (3, 4) } }),
      (1, { TeSt.idle with run := some { leg1 0 with waitBar := some (3, 4) } })]
    bars := [⟨3, 4, arrived.map (fun k => (k, 1)), 0⟩] }

theorem witness_BarriersFencesAndLoops :
    (let w := word 6 0 (4 * 2 ^ 105)
     (atWord w).atIns 0 = some (leg1 w, w) ∧ insClass w = 6 ∧ (syncI w).op = 0 ∧ predicated (leg1 w).preds w = true ∧
       (leg1 w).prog.groups[(syncI w).group]? = some 3 ∧ bitOf 3 0 = true ∧ (atWord w).movsDone 0 (leg1 w) = true ∧
       (moving w mov1).movsDone 0 { leg1 w with movs := [mov1], nextMov := 1 } = false ∧
       (moving w mov1).atIns 0 = some ({ leg1 w with movs := [mov1], nextMov := 1 }, w)) ∧
    ((barrier [0, 1]).barOf 3 4 = some ⟨3, 4, [(0, 1), (1, 1)], 0⟩ ∧ ∀ j, j < 256 → bitOf 3 j = true → 0 < mgetD [(0, 1), (1, 1)] j 0) ∧
    ((barrier [0]).barOf 3 4 = some ⟨3, 4, [(0, 1)], 0⟩ ∧ bitOf 3 1 = true ∧ mgetD [(0, 1)] 1 0 ≤ 0) ∧
    (let w := word 6 1 0
     (atWord w).atIns 0 = some (leg1 w, w) ∧ insClass w = 6 ∧ insOp w = 1 ∧ predicated (leg1 w).preds w = true ∧
       (atWord w).movsDone 0 (leg1 w) = true ∧
       (moving w mov1).movsDone 0 { leg1 w with movs := [mov1], nextMov := 1 } = false ∧
       predicated (leg1 (off w)).preds (off w) = false) := by
  decide

theorem witness_BarriersFencesAndLoops_loop :
    (let w := word 7 0 (1 * 2 ^ 100 + 5 * 2 ^ 80)
     (atWord w).atIns 0 = some (leg1 w, w) ∧ insClass w = 7 ∧ (loopI w).op = 0 ∧ predicated (leg1 w).preds w = true ∧ (loopI w).src = false ∧
       (atWord w).loopCount 0 (loopI w) ≠ 0) ∧
    (let w := word 7 0 (1 * 2 ^ 100)
     insClass w = 7 ∧ (loopI w).op = 0 ∧ (atWord w).loopCount 0 (loopI w) = 0) ∧
    (let w := word 7 0 (1 * 2 ^ 100 + 1 * 2 ^ 121)
     insClass w = 7 ∧ (loopI w).op = 0 ∧ predicated (leg1 w).preds w = false) := by decide

/-- A loop whose count is a word of the hold: free, and in use by the MOV of the hold's first 64 bytes. -/
theorem witness_BarriersFencesAndLoops_heldCount :
    let w := word 7 0 (1 * 2 ^ 100 + 2 ^ 79)
    let r := { leg1 w with movs := [mov1], nextMov := 1 }
    insClass w = 7 ∧ (loopI w).op = 0 ∧ (loopI w).src = true ∧ predicated (leg1 w).preds w = true ∧ (atWord w).atIns 0 = some (leg1 w, w) ∧
      ((atWord w).tez 0).blocked (leg1 w) [((loopI w).haddr * 64, 64)] = false ∧ (moving w mov1).atIns 0 = some (r, w) ∧
      ((moving w mov1).tez 0).blocked r [((loopI w).haddr * 64, 64)] = true := by decide

theorem witness_BlockedAndPredicatedOffInstructions :
    (∀ x ∈ ([(3, vword 0x20 0 3 1 2 0, vecSpan), (3, vword 0x21 0 3 1 2 0, vecSpan), (4, cword 0, cvtHold), (4, cword 3, cvtHold),
        (5, rword 0, redHold), (5, rword 6, redHold), (8, pword 0, fun _ w => [((predI w).haddr * 64, 64)])] :
        List (Nat × Nat × (LegRun → Nat → List (Nat × Nat)))),
      insClass x.2.1 = x.1 ∧ (moving x.2.1 mov1).atIns 0 = some ({ leg1 x.2.1 with movs := [mov1], nextMov := 1 }, x.2.1) ∧
        predicated (leg1 x.2.1).preds x.2.1 = true ∧
        ((moving x.2.1 mov1).tez 0).blocked { leg1 x.2.1 with movs := [mov1], nextMov := 1 } (x.2.2 (leg1 x.2.1) x.2.1) = true ∧
        insClass (off x.2.1) = x.1 ∧ predicated (leg1 (off x.2.1)).preds (off x.2.1) = false) := by decide

/-- A MOV word with region REG, geometry 0. -/
def mword (op reg : Nat) : Nat := word 1 op (reg * 2 ^ 111 + 0 * 2 ^ 105 + 2 * 2 ^ 90)

theorem witness_MovesBecomeOutstanding :
    (∀ x ∈ ([(0, Acc.rd), (1, Acc.wr)] : List (Nat × Acc)),
      let w := mword x.1 0
      let r := leg1 w
      (atWord w).atIns 0 = some (r, w) ∧ insClass w = 1 ∧ insOp w = x.1 ∧ predicated r.preds w = true ∧
        ((atWord w).tez 0).blocked r (movHold r w) = false ∧ r.prog.regions[(movI w).reg]? = some ⟨0x10000, 0, 0x8000, 0, 0⟩ ∧
        ((atWord w).tez 0).movRoom r = true ∧
        (let f := (atWord w).footprint 0 ((atWord w).partQc 0) 5 x.2 ((cutRows 0x10000 (r.movRowsAt w)).map (fun p => (p.1, p.2.2)))
         f.2.wait = false ∧ f.2.fails = [])) ∧
    (∀ op ∈ [2, 3],
      let w := mword op 0
      (atWord w).atIns 0 = some (leg1 w, w) ∧ insClass w = 1 ∧ insOp w = op ∧ ((atWord w).tez 0).blocked (leg1 w) (movHold (leg1 w) w) = false ∧
        ((atWord w).tez 0).movRoom (leg1 w) = true) ∧
    (let m : MovX := { mov1 with lo := 0x1000, hi := 0x1040 }
     let w := mword 3 0
     let r := { leg1 w with movs := List.replicate 8 m }
     let s : State := { running .run with te := [(0, { TeSt.idle with run := some r })] }
     s.atIns 0 = some (r, w) ∧ (s.tez 0).movRoom r = false ∧ r.ninth = none ∧ (s.tez 0).blocked r (movHold r w) = false ∧
       (s.tez 0).movRoom { r with ninth := some 0 } = false ∧ ({ r with ninth := some 0 } : LegRun).ninth ≠ none) := by decide

def zeroX : MovX := ⟨0, 3, 64, 128, 0, 0, [(0, 64, 64)], 0, 5, 10⟩
def copyX : MovX := ⟨0, 2, 64, 128, 0, 64, [(0, 64, 64)], 0, 5, 10⟩
def loadX : MovX := ⟨0, 0, 64, 128, 0, 0, [(0x10000, 64, 64)], 0, 5, 10⟩
def storeX : MovX := ⟨0, 1, 64, 128, 0, 0, [(0x10000, 64, 64)], 0, 5, 10⟩

/-- A leg with one MOV outstanding, on a hub where line 0x200 of the vault range is valid. -/
def movs1 (m : MovX) : State :=
  { moving 0 m with
    lmeta := [(0x200, ⟨true, 0, 5⟩)], mem := [(0x10000, 0x5A)], holds := [(3, 0x11), (64, 0x22)] }

theorem witness_MovesCompleteAndReleaseTheirRange :
    (∀ m ∈ [zeroX, copyX, loadX, storeX],
      ((movs1 m).tez 0).run = some { leg1 0 with movs := [m], nextMov := 1 } ∧
        (((movs1 m).tez 0).tail ++ [m]).find? (fun m => m.id = 0) = some m ∧ (movs1 m).movReady 0 m = true) ∧
    (((movs1 zeroX).tez 0).tail ++ [zeroX]).find? (fun m => m.id = 1) = none := by decide

/-- Line 0x200 is busy with a request of another agent, so that a MOV of it is not ready. -/
def movBusy (m : MovX) : State :=
  { movs1 m with
    coh := { State.reset.coh with
      txns := [(0x200, ⟨⟨.rds, 0x200, 1, 0, 0, 0, false, false, 0, 0x1000, 0, false⟩, none, 0, false, false, false, false, 0, [], 0, 0, false, [], [], none, false, 0⟩)] } }

theorem witness_MovesCompleteAndReleaseTheirRange_waits :
    (movBusy loadX).movReady 0 loadX = false ∧ (movBusy storeX).movReady 0 storeX = false := by decide

theorem witness_HoldWritesReachTheirBytesAlone :
    mrising (movs1 zeroX).regs = true ∧ mrising (movs1 zeroX).shadow = true ∧ Memory.wf (movs1 zeroX).mem = true ∧
      Memory.wf (movs1 zeroX).holds = true ∧ 0x1FFFFE + [(1 : Byte), 2].length ≤ 0x200000 ∧ 0x1FFFFF < 0x200000 ∧ 0x1FFFFE ≤ 0x1FFFFF ∧
      0x1FFFFF < 0x1FFFFE + [(1 : Byte), 2].length ∧ 0x1FFFFD < 0x1FFFFE := by decide

/-- An MMA word: W8 weights (4), A8 activations (1), region 1, BCNT 2, P 2, ACT 64, DST 256. -/
def aword (op : Nat) : Nat :=
  word 2 op (4 * 2 ^ 112 + 1 * 2 ^ 110 + 1 * 2 ^ 105 + 2 * 2 ^ 57 + 1 * 2 ^ 53 + 64 * 2 ^ 38 + 4 * 2 ^ 23 + 256 * 2 ^ 8)

/-- The leg at an MMA, its weights resident on tile 0 (home-local placement). -/
def mmaAt (w : Nat) : State :=
  { atWord w with man := { State.reset.man with inForce := some { manifest1 with mm := { manifest1.mm with local32 := 1 } } } }

theorem witness_MatrixOperationsIssue :
    (∀ op ∈ [0, 1, 2, 3],
      let w := aword op
      mmaMode (mmaI w) = some ⟨.w8, .a8, ⟨16, 128, 2048⟩⟩ ∧ (mmaAt w).atIns 0 = some (leg1 w, w) ∧ insClass w = 2 ∧ insOp w = op ∧
        predicated (leg1 w).preds w = true ∧ (leg1 w).mma = none ∧ ((mmaAt w).tez 0).blocked (leg1 w) (mmaHold (leg1 w) w) = false ∧
        ((mmaAt w).tez 0).ahead = [] ∧ ((mmaAt w).tez 0).wsb = [] ∧ ((mmaAt w).tez 0).stream = [] ∧ 0 < (mmaI w).bcnt ∧
        (leg1 w).prog.regions[(mmaI w).reg]? = some ⟨0x18000, 0, 0x8000, 0, 1⟩) ∧
    (∀ op ∈ [0, 1],
      let w := aword op
      let off := (mmaStep (mmaI w) ⟨16, 128, 2048⟩ AFmt.a8.bits (ctrOf (leg1 w).loops (mmaI w).lvl)).1
      let ps := piecesOf (0x18000 + off * 512) ((mmaI w).bcnt * 2048)
      let f := (mmaAt w).footprint 0 ((mmaAt w).partQc 0) 5 (.mma 0) ps
      f.2.wait = false ∧ f.2.fails = [] ∧ ps.all (fun p => (((mmaAt w).tc 0).find? (fun e => e.covers 5 p.1)).isSome) = true) ∧
    (∀ op ∈ [2, 3], predicated (leg1 (off (aword op))).preds (off (aword op)) = false) := by decide

def mma1 (op : Nat) (blocks : List (Nat × Nat)) : MmaX := ⟨op, 4, 1, 2, blocks, 0, 4096, 4, 16384, 4096, 4352, 16384, 16512, 0⟩

/-- The leg with an MMA in progress. -/
def mmaOn (w op : Nat) (blocks : List (Nat × Nat)) : State :=
  { mmaAt w with
    te := [(0, { TeSt.idle with run := some { leg1 w with mma := some (mma1 op blocks) } })]
    phys := [(0, { PhysSt.fresh with acc := [(accKey 0 3, 77), (accKey 1 5, 9), (accKey 4 5, 9)] })] }

theorem witness_MatrixOperationsIssue_running :
    (mmaOn (aword 0) 0 []).atIns 0 = some ({ leg1 (aword 0) with mma := some (mma1 0 []) }, aword 0) ∧
      predicated (leg1 (aword 0)).preds (aword 0) = true := by decide

theorem witness_MatrixOperationsComplete :
    (∀ op ∈ [0, 1, 2, 3], ((mmaOn 0 op []).tez 0).run = some { leg1 0 with mma := some (mma1 op []) } ∧ (mma1 op []).blocks = []) ∧
      ((mmaOn 0 0 [(5, 2048)]).tez 0).run = some { leg1 0 with mma := some (mma1 0 [(5, 2048)]) } ∧ (mma1 0 [(5, 2048)]).blocks ≠ [] ∧
      ((atWord 0).tez 0).run = some (leg1 0) ∧ (leg1 0).mma = none := by decide

/-- A request for line 0x200. -/
def creq (k : ReqK) (req tag : Nat) : CReq := ⟨k, 0x200, req, tag, 0, 0xAB, false, false, 0, 0x1000, 20, false⟩

/-- A transaction of line 0x200: its request, its snoop and where that stands. -/
def txn (q : CReq) (snp : Option SnpK) (stop pend : Nat) (await : List Nat) (granted : Bool) : Txn :=
  ⟨q, snp, stop, false, false, false, false, pend, await, 0, 0, granted, [], [], none, false, 0⟩

/-- A block of 256 bytes at its translation. -/
def strBlk1 : StrBlk := ⟨0x18000, 256, [(0x18000, 256)]⟩

/-- A leg whose stream waits for one block of 256 bytes, whose two lines are valid. -/
def streaming (n : Nat) : State :=
  { mmaAt 0 with
    te := [(0, { TeSt.idle with run := some (leg1 0), stream := [strBlk1], wsb := List.replicate n ⟨0, [], 0⟩ })]
    lmeta := [(0x300, ⟨true, 0, 5⟩), (0x301, ⟨true, 0, 5⟩)], mem := [(0x18001, 7)] }

theorem witness_StreamBlocksArrive :
    ((streaming 0).tez 0).run = some (leg1 0) ∧ (leg1 0).mma = none ∧ ((streaming 0).tez 0).ahead = [] ∧
      ((streaming 0).tez 0).stream = strBlk1 :: [] ∧ ((streaming 0).tez 0).canArrive = true ∧
      (streaming 0).piecesReady [4, 0] 0 1 strBlk1.pas = true ∧
      ((streaming 128).tez 0).canArrive = false ∧ ((streaming 128).tez 0).stream = strBlk1 :: [] ∧
      (let s : State := { streaming 0 with coh := { State.reset.coh with txns := [(0x300, txn (creq .rds 1 0) none 0 0 [] false)] } }
       s.piecesReady [4, 0] 0 1 strBlk1.pas = false ∧ (s.tez 0).canArrive = true) := by decide

theorem witness_StreamBlocksArrive_read : ((streaming 0).getPieces [4, 0] 0 1 6 strBlk1.pas).2.bad = [] := by decide

theorem witness_AFailingEngineIsMarkedUntilTheNextI2 :
    (2 : Nat) ≠ 1 ∧ 0 < 5 ∧ (running .run).laneOf 0 0 = some 0 ∧ (running .run).teFailed 0 0 = false ∧
      ((running .run).ph (5 * 0 + 0)).failing = none := by decide

/-! ### Rings, descriptors and translation -/

theorem witness_DoorbellsMoveTheIndex :
    let s := withFields (running .run) [(rStat 320, F.ringStatus_STATE, 1)]
    (0 : Nat) < 64 ∧ 5 < 4096 ∧ s.isCmp 320 = false ∧ (s.partOf 5).any (fun p => (s.part p).reset) = false ∧ s.twinRole ≠ 2 ∧
      s.ringState 320 = 1 ∧ (s.hostStalls || s.barHeld) = false ∧
      ¬ bitsOf (s.rv (R.salTdi (5 / 32))).toNat (2 * (5 % 32)) 2 = 1 ∧ (running .run).ringState 320 ≠ 1 ∧
      (let u := withFields (running .quiet) [(rStat 320, F.ringStatus_STATE, 1)]
       (u.hostStalls || u.barHeld) = true) ∧
      (let u : State := { s with pci := { s.pci with stalled := [⟨.bar0, 0, 8, false, 8, 4, [], false, false⟩] } }
       u.hostStalls = false ∧ u.barHeld = true) ∧
      (let u : State := { s with fab := { s.fab with fords := [(1, 13)] } }
       u.hostStalls = true ∧ u.stalling = false) := by decide

/-- A hub in RUN with one descriptor context. -/
def desc1 (c : Ctx) (grants : NMap Nat) : State :=
  { running .run with rings := { State.reset.rings with ctxs := [c], grants := grants } }

def fresh1 (op : Nat) : Ctx := { ctx1 with op := op, started := false }

theorem witness_DescriptorsBeginInRun :
    (∀ op ∈ [1, 2, 3, 4],
      (desc1 (fresh1 op) []).ctxOf 320 0 = some (fresh1 op) ∧ (fresh1 op).fetched = true ∧ (fresh1 op).done = none ∧
        (fresh1 op).started = false ∧ (desc1 (fresh1 op) []).time.stage = .run ∧ (fresh1 op).op = op ∧ (fresh1 op).argx = 0 ∧
        (fresh1 op).fence = false ∧ mgetD (desc1 (fresh1 op) []).rings.grants 320 0 = 0) ∧
    128 ≤ (fresh1 3).len ∧ (fresh1 3).len ≤ 265600 ∧
    ({ fresh1 3 with len := 127 } : Ctx).len < 128 ∧
    (desc1 { fresh1 3 with len := 127 } []).ctxOf 320 0 = some { fresh1 3 with len := 127 } ∧
    ({ running .quiet with rings := { State.reset.rings with ctxs := [fresh1 1] } } : State).time.stage ≠ .run ∧
    (let c : Ctx := { fresh1 3 with len := 127, hva := 0x10000 }
     let s : State := { desc1 c [] with lmeta := [(0x200, ⟨true, 0, 5⟩)], mem := [(0x10001, 7)] }
     s.ctxOf 320 0 = some c ∧ (s.dmaRead [3, 320, 0] (ringTen 320) [(c.hva, 8)]).2 = .ok [0, 7, 0, 0, 0, 0, 0, 0]) := by decide

/-- A fence behind an earlier descriptor, and an ABORT (of UTAG 7 on ring 0 of its tenant) with and without its target. -/
theorem witness_DescriptorsBeginInRun_fenceAndAbort :
    (let c := { fresh1 1 with didx := 1, fence := true }
     let s : State := { running .run with rings := { State.reset.rings with ctxs := [ctx1, c] } }
     s.ctxOf 320 1 = some c ∧ c.fence = true ∧ s.fenceClear c = false) ∧
    (let c := { fresh1 4 with didx := 1, index := 7, vclass := 0 }
     let x := { ctx1 with utag := 7 }
     let s : State := { running .run with rings := { State.reset.rings with ctxs := [x, c] } }
     s.ctxOf 320 1 = some c ∧ c.op = 4 ∧ s.abortTarget c = some x ∧ s.ctxOf x.ring x.didx = some x ∧
       ({ running .run with rings := { State.reset.rings with ctxs := [c] } } : State).abortTarget c = none) := by decide

def chunk1 : Chunk := ⟨320, 0, 0, [(0x10000, 64)], [], 0, false, false, 0, 0⟩

/-- A buffer in use for the descriptor at index 0; lines 0x200 and 0x201 of the vault range are valid. -/
def filling (c : Chunk) : State :=
  { desc1 { ctx1 with op := 3, total := 64 } [] with
    rings := { State.reset.rings with ctxs := [{ ctx1 with op := 3, total := 64 }], chunks := [c] }
    lmeta := [(0x200, ⟨true, 0, 5⟩), (0x201, ⟨true, 0, 5⟩)], mem := [(0x10001, 7)] }

theorem witness_ChunksFillAndDrain :
    (filling chunk1).chunkOf 320 0 = some chunk1 ∧ chunk1.filled = false ∧
      ((filling chunk1).dmaRead [3, 320, 0] (ringTen 320) chunk1.src).2 = .ok (0 :: 7 :: List.replicate 62 0) ∧
      (filling { chunk1 with filled := true }).chunkOf 320 0 = some { chunk1 with filled := true } ∧
      ({ chunk1 with filled := true } : Chunk).dst = [] ∧ (filling chunk1).chunkOf 320 1 = none ∧
      (filling { chunk1 with filled := true, sent := true, dst := [(0x10000, 64)] }).writesDone [3, 320, 0] = true ∧
      (filling chunk1).fillGoes chunk1 = true ∧ (filling chunk1).time.stage = .run ∧
      ({ filling chunk1 with time := ⟨20, 10, .quiet, 0, false⟩ } : State).fillGoes chunk1 = false := by decide

def fullLane : State := { running .run with dtu := { State.reset.dtu with lanes := [(3, List.replicate 32 ⟨0, 1, 5, 9⟩)] } }

theorem witness_InvalidationsWaitForI1 :
    (3 : Nat) < 64 ∧ (mgetD (running .run).dtu.lanes 3 []).length < 32 ∧ mgetD (running .run).dtu.overfl 3 [] = [] ∧
      32 ≤ (mgetD fullLane.dtu.lanes 3 []).length ∧ 64 ≤ 64 := by decide

/-- Tenant 5's tables: a level-1 block in a vault line of PF0, and one pinned page. -/
def tables (state : Nat) (pins : List (Nat × Nat)) : State :=
  { withFields (running .run) [(R.dtuCtxCfg 5, F.dtuCtxCfg_STATE, state), (R.dtuCtxCfg 5, F.dtuCtxCfg_L1_LOG, 4),
      (R.dtuCtxRoot 5, F.dtuCtxRoot_ROOT, 0x20000)] with
    man := { State.reset.man with inForce := some { manifest1 with tenants := [⟨5, 0, pins⟩] } }
    heap := { State.reset.heap with keys := [(5, (some 5, none)), (0x1000, (some 1, none))] }
    lmeta := [(0x400000, ⟨true, 0, 1⟩)], mem := [(0x20000000, 0x0D)] }

theorem witness_TranslationWalksAndPinLoads :
    (tables 2 []).rf (R.dtuCtxCfg 5) F.dtuCtxCfg_STATE = 2 ∧ 7 ≤ ringCache ∧ (tables 2 []).time.stage ≠ .quiet ∧
      (tables 2 []).time.stage = .run ∧ ((tables 2 []).leaf 7 1 5 0x2000000).2 = .ok ⟨5, 0, true, 0, true, true, false, 0⟩ ∧
      ((tables 2 []).partOf 5).map (tables 2 []).partQc = some 1 ∧
      ((tables 2 []).tc 0).find? (fun e => e.covers 5 0) = some ⟨5, 0, false, 0, true, true, false, 0⟩ ∧
      ((tables 2 []).leaf 7 1 5 0x40000000).2 = .fail cXlate ∧
      ¬ ((tables 1 []).rf (R.dtuCtxCfg 5) F.dtuCtxCfg_STATE = 2 ∧ 7 ≤ ringCache ∧ (tables 1 []).time.stage ≠ .quiet) := by decide

theorem witness_TranslationWalksAndPinLoads_pins :
    (tables 1 [(0x2000000, 1)]).rf (R.dtuCtxCfg 5) F.dtuCtxCfg_STATE = 1 ∧ (tables 1 [(0x2000000, 1)]).dtu.pinDone.contains 5 = false ∧
      (tables 1 [(0x2000000, 1)]).dtu.dropCtx.contains 5 = false ∧
      ((tables 1 [(0x2000000, 1)]).pinWalk 5 ((tables 1 [(0x2000000, 1)]).pinPages 5) []).2.2 = some none ∧
      ((tables 1 [(0x40000000, 1)]).pinWalk 5 ((tables 1 [(0x40000000, 1)]).pinPages 5) []).2.2 = some (some 0x40000000) := by decide

def fault1 : FqRec := ⟨5, 1, 0, 1, 0x2000000, 9, 9, 1, true, [], []⟩

def faulted : State := { running .run with dtu := { (running .run).dtu with fq := [fault1] } }

def measuring : State :=
  { withFields (running .run) [(R.tmeasStatus 5, F.tmeasStatus_STATE, 1)] with
    sec := { State.reset.sec with tmeas := [(5, ⟨0x10000, 128, 2⟩)] }, lmeta := [(0x200, ⟨true, 0, 5⟩)], mem := [(0x10001, 7)] }

theorem witness_FaultQueueMarksAndMeasurements :
    faulted.fqOf 5 = fault1 :: [] ∧ (running .run).fqOf 5 = [] ∧ (running .run).rf (R.tmeasStatus 5) F.tmeasStatus_STATE ≠ 1 ∧
      0 < (withFields (running .run) [(R.tmeasLen 5, F.tmeasLen_LEN, 130)]).rf (R.tmeasLen 5) F.tmeasLen_LEN / 64 * 64 ∧
      measuring.rf (R.tmeasStatus 5) F.tmeasStatus_STATE = 1 ∧ mget measuring.sec.tmeas 5 = some ⟨0x10000, 128, 2⟩ := by decide

theorem witness_FaultQueueMarksAndMeasurements_done :
    let f := measuring.dmaXlate [6, 5] false 5 [(0x10000, 128)]
    let n := f.1.linesNew ringAgentId f.2.pas
    let g := ((f.1.unkeep [6, 5] false [(0x10000, 128)]).chargeFor [6, 5] ringAgentId n).getPieces [6, 5] ringAgentId 1 6 f.2.pas
    f.2.wait = false ∧ f.2.fails = [] ∧ (f.1.piecesReady [6, 5] ringAgentId 1 f.2.pas && f.1.tollOk [6, 5] ringAgentId n) = true ∧
      g.2.remFail = [] := by decide

def atsHub : State :=
  { running .run with
    dtu := { (running .run).dtu with atsReq := [6 * 2 ^ 52 + 9], atsInv := [(1, 6, 9)], atsDone := [(2, 6, 9)] } }

theorem witness_AddressTranslationServiceMessages :
    atsHub.dtu.atsReq.contains (6 * 2 ^ 52 + 9) = true ∧ atsHub.dtu.atsReq.contains (6 * 2 ^ 52 + 8) = false ∧
      (atsHub.dtu.atsInv ++ atsHub.dtu.atsDone).any (fun x => x.1 = 3) = false ∧
      (atsHub.dtu.atsInv ++ atsHub.dtu.atsDone).any (fun x => x.1 = 1) = true ∧
      atsHub.dtu.atsDone.find? (fun x => x.1 = 2) = some (2, 6, 9) ∧ atsHub.atsQuiet 2 = true ∧
      [Stage.i1, .i2, .i3].contains atsHub.time.stage = false ∧
      [Stage.i1, .i2, .i3].contains ({ atsHub with time := ⟨20, 10, .i2, 0, false⟩ } : State).time.stage = true ∧
      ({ atsHub with
        dtu := { atsHub.dtu with atsHold := [(2, 1)] }
        heap := { State.reset.heap with remReads := [⟨[9], hostPa 64, 8, 6, [], [(1, 0, 8)], [], 0⟩] } } : State).atsQuiet 2 = false := by decide

/-! ### Coherence, the fabric and register writes -/

/-- A hub with line 0x200 valid and known to the filter, and a transaction of it or none. -/
def coherent (x : Option Txn) : State :=
  { running .run with
    lmeta := [(0x200, ⟨true, 0, 5⟩)], mem := [(0x10001, 7)]
    coh := { State.reset.coh with
      filter := [(0x200, ⟨false, none, 0⟩)]
      txns := match x with
        | some y => [(0x200, y)]
        | none => [] } }

def busyLine : State := coherent (some (txn (creq .rds 1 0) none 0 0 [] false))

/-- A hub on which no request of node 1 in class 0 has a token. -/
def tolling : State :=
  { withFields (coherent none) [(R.octToll 1 0, F.octToll_RATE, 1), (R.octToll 1 0, F.octToll_BURST, 1)] with
    fab := { State.reset.fab with buckets := [(pairNo 1 0, (0, 20))] } }

theorem witness_CoherentRequestsTakeTheirLine :
    let h := (coherent none).homeOf 0x10000
    (∀ r ∈ [1, h], r < 75 ∧ classOk r 0 = true ∧ (coherent none).mayCache r = true ∧ (coherent none).tokens r 0 = true ∧
      (∀ k ∈ [ReqK.rds, .rdo, .upg, .rdc, .wri, .wrp], (coherent none).askStops (creq k r 0) = false) ∧
      (coherent none).fab.tolled.any (fun w => decide (w.req = r) && decide (w.qc = 0)) = false ∧
      (coherent none).fab.movers.any (fun m => decide (m.2.1 = pairNo r 0) && (coherent none).moverLive m.1) = false) ∧
      reqRouter 1 ≠ h ∧ reqRouter h = h ∧ tolling.tokens 1 0 = false ∧ tolling.askStops (creq .rds 1 0) = false ∧
      (let s : State := { coherent none with fab := { State.reset.fab with tolled := [creq .rds 1 4] } }
       s.fab.tolled.any (fun w => decide (w.req = 1) && decide (w.qc = 0)) = true ∧
         s.askStops { creq .rdc 1 5 with line := 0x300 } = false) ∧
      (let s : State := { coherent none with
          rings := { State.reset.rings with ctxs := [ctx1] }, fab := { State.reset.fab with movers := [([3, 320, 0], pairNo 1 0, 0, 0)] } }
       s.fab.movers.any (fun m => decide (m.2.1 = pairNo 1 0) && s.moverLive m.1) = true) := by decide

/-- At its home: asleep; awake with a free line, with and without a credit; a BUSY line, with room in the queue and without; a credit
held that the request does not use. -/
theorem witness_CoherentRequestsTakeTheirLine_home :
    let q := creq .rds 1 0
    let h := (coherent none).homeOf (0x200 * 128)
    let lent := fun (s : State) => ({ s with coh := { s.coh with credits := [(h, 1)] } } : State)
    (withFields (coherent none) [(R.octPwr (8 * h + 6), F.octPwr_STATE, 1)]).domSt (8 * h + 6) ≠ 0 ∧
      (∀ s ∈ [coherent none, busyLine], s.domSt (8 * h + 6) = 0 ∧ s.homed (0x200 * 128) = true ∧ s.spfOn h 1 = false ∧ s.askBreach q = false ∧
        (q.credited = false ∧ s.coh.credits.contains (h, 1) = false) ∧ (lent s).coh.credits.contains (h, 1) = true) ∧
      q.kind ≠ .bi ∧ q.req < 64 ∧ (∀ w ∈ (coherent none).coh.queue, w.line ≠ 0x200) ∧ (coherent none).canAccept q = true ∧
      (lent (coherent none)).canAccept { q with credited := true } = true ∧ (mget (coherent none).coh.filter 0x200).isSome = true ∧
      busyLine.busy 0x200 = true ∧ (busyLine.queueOf h).length < 64 := by decide

theorem witness_CoherentRequestsTakeTheirLine_full :
    64 ≤ (({ busyLine with coh := { busyLine.coh with queue := List.replicate 64 (creq .rds 2 0) } } : State).queueOf
      (busyLine.homeOf 0x10000)).length := by decide

/-- The same hubs with a request held at node 1. -/
def held1 (s : State) : State := { s with fab := { s.fab with tolled := [creq .rds 1 4] } }

/-- A hub whose tolls have no tokens, with a clean copy of line 0x200 in tile 1. -/
def tolledCopy (st : CSt) : State := { tolling with coh := { tolling.coh with agents := [(agentKey 1 0x200, ⟨st, 0, 0xCD⟩)] } }

theorem witness_CoherentRequestsTakeTheirLine_ue :
    (∀ st ∈ [CSt.e, .s, .f], mget (tolledCopy st).coh.agents (agentKey 1 (lineOf 0x10000)) = some ⟨st, 0, 0xCD⟩) ∧ (1 : Nat) < 64 ∧
      (tolledCopy .e).tokens 1 0 = false ∧
      (tolledCopy .e).askStops ⟨.rds, lineOf 0x10000, 1, 0, 0, 0, false, false, 0, 0x1000, 0, false⟩ = false := by decide

theorem witness_CoherentRequestsTakeTheirLine_toll :
    let w := creq .rds 1 4
    let held := fun (s : State) => s.fab.tolled.find? (fun w => decide (w.req = 1) && decide (w.qc = 0))
    let first := fun (s : State) => s.fab.movers.any (fun m => decide (m.2.1 = pairNo 1 0) && decide (m.2.2.2 = 0) && s.moverLive m.1)
    held (held1 tolling) = some w ∧ (held1 tolling).tokens 1 0 = false ∧ held (held1 (coherent none)) = some w ∧
      (held1 (coherent none)).tokens 1 0 = true ∧ first (held1 (coherent none)) = false ∧
      first { held1 (coherent none) with fab := { (held1 (coherent none)).fab with movers := [([9], pairNo 1 0, 0, 0)] } } = true ∧
      held (coherent none) = none ∧ reqRouter w.req ≠ (coherent none).homeOf (w.line * 128) ∧ (running .quiet).time.stage ≠ .run ∧
      (withFields State.reset [(R.pwrStatus, F.pwrStatus_FORCED, 1)]).rf R.pwrStatus F.pwrStatus_FORCED = 1 := by decide

/-- Tile 2 holds line 0x200 in a state. -/
def holder (st : CSt) (x : Option Txn) : State :=
  { coherent x with coh := { (coherent x).coh with agents := [(agentKey 2 0x200, ⟨st, 0, 0xCD⟩)] } }

/-- A hub with one coherence message under way. -/
def carrying (m : CMsg) : State := { coherent none with coh := { (coherent none).coh with msgs := [m] } }

theorem witness_WritebacksEvictionsAndAcks :
    let h := (coherent none).homeOf 0x10000
    reqRouter 2 ≠ h ∧ reqRouter 8 = h ∧ (coherent none).mayCache 2 = true ∧ (coherent none).mayCache 8 = true ∧
    (holder .m none).copySt 2 (lineOf 0x10000) = .m ∧ (∀ st ∈ [CSt.e, .s, .f], (holder st none).copySt 2 (lineOf 0x10000) = st) ∧
    (coherent none).copySt 2 (lineOf 0x10000) = .i ∧
    (withFields (coherent none) [(R.cohStatus, F.cohStatus_SLIP_AGENT, 2)]).mayCache 65 = true ∧
    (let m : CMsg := ⟨3, 2, 0x200, 0, .i, false, false, 0, 0, 0x1000, 0, false⟩
     let s := fun st => ({ holder st none with coh := { (holder st none).coh with msgs := [m] } } : State)
     (s .m).msgFor 3 2 (lineOf 0x10000) = some m ∧ (s .m).asleepAt 2 = false ∧ (s .m).copySt 2 (lineOf 0x10000) ≠ .wbp ∧
       (s .m).copySt 2 (lineOf 0x10000) ≠ .evp ∧ (withFields (s .m) [(R.octPwr (8 * 2 + 5), F.octPwr_STATE, 1)]).asleepAt 2 = true ∧
       (withFields (s .m) [(R.octPwr (8 * 2 + 5), F.octPwr_STATE, 1)]).msgFor 3 2 (lineOf 0x10000) = some m ∧
       (∀ st ∈ [CSt.wbp, .evp], (s st).msgFor 3 2 (lineOf 0x10000) = some m ∧ (s st).copySt 2 (lineOf 0x10000) = st)) ∧
    (let m : CMsg := ⟨3, 66, 0x200, 0, .i, false, false, 0, 0, 0x1000, 0, false⟩
     (carrying m).msgFor 3 66 (lineOf 0x10000) = some m ∧ (carrying m).asleepAt 66 = false ∧ (carrying m).slState 2 ≠ 4) ∧
    (coherent none).msgFor 3 2 (lineOf 0x10000) = none := by decide

/-- COMP_ACK: a granted transaction whose grant has come, one whose acknowledgement is under way, one whose grant is. -/
theorem witness_WritebacksEvictionsAndAcks_ack :
    let came := fun (s : State) (a : Nat) =>
      s.coh.msgs.any (fun m => decide (m.kind < 2) && decide (m.agent = a) && decide (m.line = lineOf 0x10000)) = false
    (∀ a ∈ [2, 8],
      let x := txn (creq .rds a 0) none 0 0 [] true
      mget (coherent (some x)).coh.txns (lineOf 0x10000) = some x ∧ x.granted = true ∧ x.q.req = a ∧
        (coherent (some x)).ackSent a (lineOf 0x10000) = false ∧ came (coherent (some x)) a) ∧
    (let s : State := { coherent (some (txn (creq .rds 2 0) none 0 0 [] true)) with fab := { State.reset.fab with air := [(7, .compAck 2 0x10000)] } }
     s.ackSent 2 (lineOf 0x10000) = true) ∧
    (let s := coherent (some (txn (creq .rds 2 0) none 0 0 [] true))
     let u : State := { s with coh := { s.coh with msgs := [⟨0, 2, 0x200, 0, .s, false, false, 0, 0, 0x1000, 7, false⟩] } }
     ¬ came u 2) ∧
    busyLine.busy (lineOf 0x10000) = true ∧ mget (coherent none).coh.txns (lineOf 0x10000) = none ∧
    (coherent none).domSt (8 * (coherent none).homeOf 0x10000 + 6) = 0 := by decide

/-- A WB that the line's entry or its snoop explains, and one that nothing explains, at lines without and with data in hand. -/
theorem witness_WritebacksEvictionsAndAcks_known :
    let t := fun (seen : List Nat) (p : Nat) => { txn (creq .rds 1 0) none 0 0 [] false with seen := seen, prio := p }
    let s := fun (seen : List Nat) (p : Nat) => holder .m (some (t seen p))
    (∀ p ∈ [0, 3], mget (s [2] p).coh.txns (lineOf 0x10000) = some (t [2] p) ∧ (s [2] p).wbKnown (t [2] p) 2 = true ∧
      (t [2] p).granted = false) ∧ (t [2] 0).prio < 2 ∧ 2 ≤ (t [2] 3).prio ∧
      (s [] 0).wbKnown (t [] 0) 2 = false ∧ mget (s [] 0).coh.txns (lineOf 0x10000) = some (t [] 0) ∧
      (let g := { t [] 0 with granted := true }
       let u : State := { holder .m (some g) with coh := { (holder .m (some g)).coh with filter := [(0x200, ⟨true, some 2, 0⟩)] } }
       mget u.coh.txns (lineOf 0x10000) = some g ∧ u.wbKnown g 2 = true ∧ g.granted = true) ∧
      (let u : State := { coherent none with coh := { (coherent none).coh with filter := [(0x200, ⟨true, some 2, 0⟩)] } }
       mget u.coh.txns (lineOf 0x10000) = none ∧ ownedBy (mget u.coh.filter (lineOf 0x10000)) 2 = true) ∧
      ownedBy (mget (coherent none).coh.filter (lineOf 0x10000)) 2 = false := by
  decide

/-- A snoop of tile 2's copy is due at its stop, position 2 of the ring. -/
def snooping (stop pend : Nat) (await : List Nat) : State := holder .m (some (txn (creq .rds 1 0) (some .s) stop pend await false))

theorem witness_SnoopsGatherTheirAnswers :
    let l := lineOf 0x10000
    mget (snooping 2 0 []).coh.txns l = some (txn (creq .rds 1 0) (some .s) 2 0 [] false) ∧ ringAgent 2 < 64 ∧ ringAgent 2 ≠ 1 ∧
      mget busyLine.coh.txns l = some (txn (creq .rds 1 0) none 0 0 [] false) ∧
      mget (snooping 72 6 [66]).coh.txns l = some (txn (creq .rds 1 0) (some .s) 72 6 [66] false) ∧ bitOf 6 2 = true ∧ bitOf 6 0 = false ∧
      [66].contains 66 = true ∧ [66].contains 65 = false ∧
      (∀ st ∈ [CSt.e, .s, .f], mget (holder st (some (txn (creq .rds 1 0) (some .s) 2 0 [] false))).coh.agents (agentKey (ringAgent 2) l) = some ⟨st, 0, 0xCD⟩) ∧
      mget (snooping 72 0 []).coh.txns l = some (txn (creq .rds 1 0) (some .s) 72 0 [] false) ∧
      (let m : CMsg := ⟨4, 3, 0x200, 0, .i, false, true, 9, 0, 0x1000, 0, false⟩
       let s : State := { snooping 72 0 [3] with coh := { (snooping 72 0 [3]).coh with msgs := [m] } }
       (s.msgFor 4 3 l).isSome = true ∧ (snooping 72 0 [3]).msgFor 4 3 l = none ∧ [3].contains 3 = true) := by decide

/-- An RDS whose snoop is over and whose clean data has come, its entry known: no owner of it has failed. -/
theorem witness_SnoopsGatherTheirAnswers_done :
    let x : Txn := { txn (creq .rds 1 0) (some .s) 72 0 [] false with prio := 1, ent := some ⟨false, none, 0⟩ }
    mget (coherent (some x)).coh.txns (lineOf 0x10000) = some x ∧ x.snp.isSome = true ∧ x.granted = false ∧ x.fetch = false ∧ x.stop = 72 ∧
      x.pend = 0 ∧ x.await = [] ∧ x.owed = [] ∧ x.q.kind = .rds ∧ x.q.line = lineOf 0x10000 ∧ x.q.req < 64 ∧ x.prio = 1 ∧
      (coherent (some x)).lostOwner x = false ∧ x.ent.isSome = true ∧ (coherent (some x)).coh.queue = [] ∧
      (let y : Txn := { x with prio := 0, ent := some ⟨true, some 66, 0⟩ }
       (withFields (coherent (some y)) [(R.cohStatus, F.cohStatus_SLIP_FAILED, 4)]).lostOwner y = true) := by decide

/-- The stop of slip 0, in service and not; a snoop whose packet is on its way; a home that sleeps; what comes for the home. -/
theorem witness_SnoopsGatherTheirAnswers_more :
    let l := lineOf 0x10000
    let x := txn (creq .rds 1 0) (some .s) 2 6 [66, 3] false
    let up := withFields (snooping 8 0 [])
      [(R.cohStatus, F.cohStatus_SLIP_AGENT, 1), (R.slipStatus 0, F.slipStatus_STATE, 2)]
    ringAgent 8 = 64 ∧ (snooping 8 0 []).there 0 = true ∧ up.liveSlip 0 = true ∧ up.slState 0 ≠ 4 ∧ (snooping 8 0 []).liveSlip 0 = false ∧
      mget (snooping 1 0 []).coh.txns l = some (txn (creq .rds 1 0) (some .s) 1 0 [] false) ∧ ringAgent 1 = 1 ∧
      (let s : State := { coherent (some { x with spid := 7 }) with fab := { State.reset.fab with net := { State.reset.fab.net with live := [7] } } }
       mget s.coh.txns l = some { x with spid := 7 } ∧ s.there 7 = false) ∧
      (let s := withFields (coherent (some x)) [(R.octPwr (8 * (coherent none).homeOf 0x10000 + 6), F.octPwr_STATE, 1)]
       mget s.coh.txns l = some x ∧ s.domSt (8 * (coherent none).homeOf 0x10000 + 6) ≠ 0) ∧
      (∀ d, ∀ g ∈ [true, false],
        let m : CMsg := ⟨4, 3, 0x200, 0, .i, false, d, 9, 0, 0x1000, 0, g⟩
        let s : State := { coherent (some x) with coh := { (coherent (some x)).coh with msgs := [m] } }
        mget s.coh.txns l = some x ∧ s.msgFor 4 3 l = some m ∧ x.await.contains 3 = true ∧ x.prio < 3) ∧
      (coherent (some x)).msgFor 4 66 l = none ∧ (coherent (some x)).coh.msgs = [] ∧ x.await.contains 66 = true ∧
      (coherent (some x)).msgFor 4 3 l = none ∧ x.await.contains 5 = false ∧
      (mget (coherent none).coh.filter l).isSome = true := by decide

/-- Chiplet 1 caches and owes an answer; in the second state it has failed. -/
def owing (failed : Nat) : State :=
  { withFields (coherent (some (txn (creq .rds 1 0) (some .s) 72 2 [] false)))
      [(R.cohStatus, F.cohStatus_SLIP_AGENT, 2), (R.cohStatus, F.cohStatus_SLIP_FAILED, failed), (R.slipStatus 1, F.slipStatus_STATE, 2)] with
    pins := State.reset.pins }

theorem witness_AnswersReachTheirRequesters :
    (∀ m ∈ ([⟨0, 3, 0x200, 0, .i, false, false, 5, 0, 5, 0, false⟩,
        ⟨0, 66, 0x200, 0, .e, false, false, 5, 0, 5, 0, false⟩, ⟨0, 66, 0x200, 0, .e, false, false, 5, 0, 5, 0, true⟩,
        ⟨0, 3, 0x200, 0, .s, false, false, 5, 0, 5, 0, false⟩] : List CMsg),
      (carrying m).msgFor 0 m.agent (lineOf 0x10000) = some m ∧ (carrying m).coh.agents = [] ∧ (carrying m).asleepAt m.agent = false ∧
        (carrying m).tileReset m.agent = false) ∧
    (let m : CMsg := ⟨1, 2, 0x200, 0, .m, false, false, 0, 0, 5, 0, false⟩
     let s : State := { holder .s none with coh := { (holder .s none).coh with msgs := [m] } }
     s.msgFor 1 2 (lineOf 0x10000) = some m ∧ s.asleepAt 2 = false ∧ s.tileReset 2 = false ∧
       (withFields s [(R.octPwr (8 * 2 + 5), F.octPwr_STATE, 1)]).asleepAt 2 = true ∧
       (withFields s [(R.octPwr (8 * 2 + 5), F.octPwr_STATE, 1)]).msgFor 1 2 (lineOf 0x10000) = some m ∧ mget s.coh.agents (agentKey 2 (lineOf 0x10000)) = some ⟨.s, 0, 0xCD⟩) ∧
    (∀ b, (carrying ⟨2, 3, 0x200, 0, .i, b, false, 0, 0, 5, 0, false⟩).msgFor 2 3 (lineOf 0x10000) = some ⟨2, 3, 0x200, 0, .i, b, false, 0, 0, 5, 0, false⟩) ∧
    (∀ k, k < 3 → (coherent none).msgFor k 3 (lineOf 0x10000) = none) := by decide

/-- A grant for a tile whose partition is in reset. -/
theorem witness_AnswersReachTheirRequesters_reset :
    let m : CMsg := ⟨0, 0, 0x200, 0, .s, false, false, 5, 0, 5, 0, false⟩
    let s : State := { carrying m with parts := [(0, { (carrying m).part 0 with reset := true })] }
    s.msgFor 0 0 (lineOf 0x10000) = some m ∧ s.asleepAt 0 = false ∧ m.st ≠ .i ∧ s.tileReset 0 = true := by decide

/-- A grant of M for a tile in reset, with its copy and without; DATA for a chiplet, damaged and not, and for the host. -/
theorem witness_AnswersReachTheirRequesters_more :
    let m : CMsg := ⟨1, 0, 0x200, 0, .m, false, false, 5, 0, 5, 0, false⟩
    let s : State := { carrying m with parts := [(0, { (carrying m).part 0 with reset := true })] }
    let u : State := { s with coh := { s.coh with agents := [(agentKey 0 0x200, ⟨.s, 0, 0xCD⟩)] } }
    (∀ w ∈ [s, u], w.msgFor 1 0 (lineOf 0x10000) = some m ∧ w.asleepAt 0 = false ∧ w.tileReset 0 = true) ∧
      mget s.coh.agents (agentKey 0 (lineOf 0x10000)) = none ∧ (mget u.coh.agents (agentKey 0 (lineOf 0x10000))).isSome = true ∧
      (∀ k ∈ [0, 1, 2], ∀ a ∈ [66, 72], ∀ g, let m : CMsg := ⟨k, a, 0x200, 4, .e, false, false, 5, 0, 5, 0, g⟩
        (carrying m).msgFor k a (lineOf 0x10000) = some m ∧ (carrying m).asleepAt a = false ∧ (carrying m).slState 2 ≠ 4) ∧
      (let m : CMsg := ⟨0, 3, 0x200, 0, .e, false, false, 5, 0, 5, 0, true⟩
       (carrying m).msgFor 0 3 (lineOf 0x10000) = some m) := by decide

theorem witness_AnswersReachTheirRequesters_slips :
    (owing 0).coh.txns.find? (fun p => bitOf p.2.pend 1 || p.2.await.contains (64 + 1) || (p.2.granted && decide (p.2.q.req = 64 + 1))) =
        some (0x200, txn (creq .rds 1 0) (some .s) 72 2 [] false) ∧
      (owing 0).computeSlip 1 = true ∧ (owing 0).slipFailed 1 = false ∧ (owing 0).slState 1 ≠ 0 ∧ (owing 0).slState 1 ≠ 4 ∧ (owing 2).slipFailed 1 = true ∧
      ((owing 2).agentLoss 1 |>.sl 1).retry = false ∧
      (coherent none).coh.txns.find? (fun p => bitOf p.2.pend 1 || p.2.await.contains (64 + 1) || (p.2.granted && decide (p.2.q.req = 64 + 1))) = none ∧
      ¬ (1 < 8 ∧ (owing 0).slipFailed 1 = true) := by decide

/-- A hub with one fabric message under way to a router. -/
def carried (m : FMsg) : State := { coherent none with fab := { State.reset.fab with msgs := [m] } }

theorem witness_MemoryReadsAndWritesOfTheFabric :
    let l := lineOf 0x10000
    (coherent none).ctrlRouter (l * 128) = 0 ∧ (coherent none).placeOf 0x10000 = .vault ∧ (coherent none).lineRead l = .ok 0x700 ∧ (0 : Nat) ≠ 2 ∧
      ((coherent none).lineWrite l 9 1).2 = .ok 0x709 ∧ (coherent none).vaultDom 0x10000 = some 6 ∧ (coherent none).domSt 6 = 0 ∧
      (withFields (coherent none) [(R.octPwr 6, F.octPwr_STATE, 1)]).vaultDom 0x10000 = some 6 ∧
      (withFields (coherent none) [(R.octPwr 6, F.octPwr_STATE, 1)]).domSt 6 ≠ 0 ∧
      (∀ x ∈ [(0x7000000000000, Place.absent), (0xFF00000000, .regs), (14 * 2 ^ 48, .host)],
        (coherent none).placeOf x.1 = x.2 ∧ (coherent none).vaultDom x.1 = none) ∧
      (let s := withFields { coherent none with man := { State.reset.man with inForce := some { manifest1 with twinDeclared := true } } }
        [(R.slipStatus 1, F.slipStatus_ROLE, 2), (R.slipWinOut 1 0, F.slipWinOut_EN, 1), (R.slipWinOut 1 0, F.slipWinOut_SIZE_LOG, 20)]
       s.placeOf (3 * 2 ^ 48) = .slip 1 ∧ s.vaultDom (3 * 2 ^ 48) = none ∧ s.placeOf (2 ^ 48) = .twin ∧ s.vaultDom (2 ^ 48) = none) := by decide

theorem witness_MemoryReadsAndWritesOfTheFabric_answers :
    (∀ k, k < 3 → ∀ g, let m : FMsg := ⟨k, 3, 4, 0x200, 0, 5, 0, 0, 5, 0, g, 3⟩
      (carried m).fabFor k 3 4 = some m ∧ (carried m).readOf (nodeAt 3) 4 = none ∧ (carried m).writeOf (nodeAt 3) 4 = none ∧
        (coherent none).fabFor k 3 4 = none) ∧
      (let err := fun (s : State) (r t : Nat) =>
        s.coh.msgs.find? (fun m => decide (m.kind = 5) && decide (reqRouter m.agent = r) && decide (m.tag = t) && s.there m.pid && s.inOrder m)
       let m : CMsg := ⟨5, 66, 0x200, 4, .i, false, false, 0, 0, 5, 0, false⟩
       err (carrying m) (reqRouter 66) 4 = some m ∧ 64 ≤ reqRouter 66 ∧ reqRouter 66 < 72 ∧ (carrying m).slState 2 ≠ 4 ∧
         err (coherent none) 3 4 = none) := by decide

/-- A write of 8 bytes of a register by router 3. -/
def regReq (off : Nat) : RegReq := ⟨blockOfReg off, off, 8, 1, 3, 7⟩

/-- Block 5 waits for the acknowledgement of a register write; a second one waits behind it. -/
def regWaiting (held : List RegReq) : State :=
  { running .run with fab := { State.reset.fab with regBusy := [(regReq 0x500008, true)], regHeld := held } }

theorem witness_RegisterWritesFollowTheirClass :
    let off := 0x500008
    regRouter off = 82 ∧ (running .run).regReset off = false ∧ (running .run).regOut (blockOfReg off) = false ∧ (running .run).regAsleep off = false ∧
      (regWaiting []).regOut (blockOfReg off) = true ∧
      (let s : State := { running .run with parts := [(0, { (running .run).part 0 with reset := true })] }
       s.regReset 0x300000 = true) ∧
      (let s := withFields (running .run) [(R.octPwr 0, F.octPwr_STATE, 1)]
       s.regAsleep 0x300000 = true ∧ s.regReset 0x300000 = false ∧ s.regOut (blockOfReg 0x300000) = false) ∧
      (regWaiting []).fab.regBusy.find? (fun x => decide (x.1.block = 5) && x.2) = some (regReq off, true) ∧
      (running .run).fab.regBusy.find? (fun x => decide (x.1.block = 5) && x.2) = none ∧
      (regWaiting [regReq 0x500010]).fab.regHeld.find? (fun r => r.block = 5) = some (regReq 0x500010) ∧
      (regWaiting []).fab.regHeld.find? (fun r => r.block = 5) = none ∧ (running .run).fordShut 1 (regClock off) = false ∧
      (let s : State := { running .run with fab := { State.reset.fab with fords := [(2, 1)] } }
       s.fordShut 1 (regClock off) = true ∧ s.regReset off = false) ∧
      regOf (regKey (0x3F00007 - 0x3F00007 % 8)) = none := by decide

/-- One field of each access and class that the statement names. -/
theorem witness_RegisterWritesFollowTheirClass_fields :
    (⟨0, 8, .ro, .l⟩ : RegField).acc = .ro ∧ (⟨0, 8, .wo, .l⟩ : RegField).cls ≠ .b ∧ (⟨0, 8, .rw, .l⟩ : RegField).acc ≠ .ro ∧
      (⟨0, 8, .rw, .l⟩ : RegField).acc ≠ .wo ∧ (⟨0, 8, .w1s, .l⟩ : RegField).cls ≠ .b ∧ (⟨0, 8, .w1c, .l⟩ : RegField).acc = .w1c ∧
      (⟨0, 8, .rw, .b⟩ : RegField).cls = .b := by decide

/-- A register whose write sets nothing off: the address a manifest is read from. -/
def plainReg : Nat := R.manSrc

/-- Its conditions. -/
theorem witness_RegisterWritesFollowTheirClass_plain :
    let o := plainReg
    o % 8 = 0 ∧ (running .run).regReset o = false ∧ (running .run).fordShut 1 (regClock o) = false ∧ ((regOf (regKey o)).any (fun x =>
      !(regIgnored x.1.name x.2) && !((running .run).lockRefused x.1.name x.2) && (ferryTen x.1.name x.2).isNone)) = true := by decide

theorem witness_RegisterWritesFollowTheirClass_effect :
    ∀ d l, regOf (regKey plainReg) = some (d, l) → ∀ u : State, u.regEffect d.name l (regKey plainReg) (BitVec.ofNat 64 5 &&& BitVec.allOnes 64).toNat false = u := by
  intro d l h u
  cases h
  rfl

/-! ### Errors, domains, slips, stacks, counters and manifests -/

def report1 : ErrRep := ⟨1, 3, 1, 0, none, 0, none, none, 10, false⟩

def record1 : ErrRec := ⟨4, report1, false, 0, 0⟩

/-- A hub whose firmware runs, with errors in a given stage of the sequencer. -/
def erring (e : ErrSt) : State := { running .run with err := e, brg := { State.reset.brg with rom := false } }

theorem witness_ErrorsAreSequencedOneByOne :
    (erring { State.reset.err with inbox := [report1] }).err.inbox = report1 :: [] ∧ report1.cls < 3 ∧ corrected.contains (1, 2) = false ∧ corrected.contains (4, 1) = true ∧
      (erring { State.reset.err with inbox := [report1] }).err.handling = none ∧
      (erring { State.reset.err with inbox := [report1] }).brg.rom = false ∧ (running .run).err.inbox = [] ∧
      (erring { State.reset.err with handling := some record1, q2 := [record1] }).err.handling = some record1 ∧
      (erring State.reset.err).rf R.errLogBase F.errLogBase_EN = 0 ∧ (erring State.reset.err).err.handling = none := by decide

/-- A record in hand whose place in the log ring is an empty line of PF0, or one that a transaction holds. -/
def logging (x : Option Txn) : State :=
  withFields
    { erring { State.reset.err with handling := some record1 } with
      lmeta := [(0x400000, ⟨true, 0, 1⟩)]
      coh := { State.reset.coh with
        txns := match x with
          | some y => [(0x400000, y)]
          | none => [] } }
    [(R.errLogBase, F.errLogBase_EN, 1), (R.errLogBase, F.errLogBase_BASE, 0x800)]

theorem witness_ErrorsAreSequencedOneByOne_log :
    (logging none).err.handling = some record1 ∧ (logging none).brg.rom = false ∧ (logging none).logReady = true ∧
      (logging none).logSlot = some (0x20000000, 64) ∧ (logging (some (txn { creq .rds 1 0 with line := 0x400000 } none 0 0 [] false))).logReady = false ∧
      (erring { State.reset.err with handling := some record1 }).logReady = true := by decide

theorem witness_FabricErrorsAndPartitionReset :
    (0 : Nat) < 83 ∧ (withFields (running .run) [(R.octLink 0, ⟨2, 2⟩, 0)]).portSt 0 1 = 0 ∧ (otherEnd 0 1).isSome = true ∧
      (withFields (running .run) [(R.octLink 0, ⟨2, 2⟩, 1)]).portSt 0 1 = 1 ∧
      (coherent none).placeOf 0x10000 = .vault ∧ mget (coherent none).lmeta (lineOf 0x10000) = some ⟨true, 0, 5⟩ ∧ 5 < 4096 ∧
      (coherent none).partOf 5 = some 0 ∧
      bitOf ((withFields (running .run) [(R.octPrst, ⟨0, 1⟩, 1)]).rv R.octPrst).toNat 0 = true ∧
      bitOf ((running .run).rv R.octPrst).toNat 0 = false ∧ (running .run).partRecs.any (fun r => r.part = 0) = true ∧
      ((running .run).part 0).reset = false := by decide

/-- Domain 9 in a power state, domain 4 of the fords with its PLL locked or not. -/
def powered (st lock : Nat) : State :=
  withFields (running .run) [(R.octPwr 9, F.octPwr_STATE, st), (R.fordDom 2, F.fordDom_LOCK, lock)]

theorem witness_DomainsWakeAndClocksAreWatched :
    tileDom 9 = true ∧ (powered 1 1).domSt 9 = 1 ∧ (powered 2 1).domSt 9 = 2 ∧ (powered 0 1).domSt 9 ≠ 1 ∧ (powered 0 1).domSt 9 ≠ 2 ∧
      (2 < 18) ∧ (18 ≤ 18) ∧ (2 < 4 ∨ 2 = 12 ∨ 2 = 16) ∧ (powered 0 1).rf (R.fordDom 2) F.fordDom_LOCK ≠ 0 ∧
      (powered 0 0).rf (R.fordDom 2) F.fordDom_LOCK = 0 ∧
      (∀ d ∈ [5, 12, 16], (withFields (running .run) [(R.fordDom d, F.fordDom_LOCK, 1)]).rf (R.fordDom d) F.fordDom_LOCK ≠ 0) ∧
      (let s : State := { running .run with fab := { State.reset.fab with fords := [(2, 5), (6, 2)] } }
       s.fordShut 2 5 = true ∧ s.fordShut 5 2 = true ∧ (∀ y ∈ s.fab.fords, y ≠ (2, 5) → y ≠ (5, 2) → y.1 ≠ 5 ∧ y.2 ≠ 5)) ∧
      (running .run).fordShut 2 5 = false := by decide

def slipTop1 : SlipTop := ⟨2, 3, 6, 1, 0, 0, 0x1234, 0x5678, List.replicate 48 0⟩

/-- A hub whose slip 1 is declared and in a state. -/
def slipIn (st : Nat) (x : SlipSt) : State :=
  { withFields (running .run) [(R.slipStatus 1, F.slipStatus_STATE, st), (R.slipStatus 1, F.slipStatus_ROLE, 2)] with
    man := { State.reset.man with inForce := some { manifest1 with slips := [slipTop1, slipTop1] } }
    slips := [(1, x)] }

/-- A chiplet's descriptor before its check sum. -/
def descBody : List Byte :=
  leBytes 4 0x4450534F ++ leBytes 2 1 ++ [2, 0x1F] ++ leBytes 4 0x1234 ++ leBytes 4 0x5678 ++ leBytes 2 0 ++ leBytes 2 0 ++ leBytes 2 64 ++
    [8, 0] ++ leBytes 2 16 ++ leBytes 2 16 ++ List.replicate 224 0

def desc : List Byte := descBody ++ leBytes 4 (crc32 descBody)

/-- A flit of kind IDLE, and one whose check sum is wrong. -/
def idleFlit : List Byte := List.replicate 252 0 ++ leBytes 4 (crc32 (List.replicate 252 0))

def badFlit : List Byte := List.replicate 256 1

theorem witness_SlipLinksFailAndRecover :
    (1 : Nat) < 8 ∧ (slipIn 2 SlipSt.idle).slState 1 = 2 ∧ (slipIn 2 SlipSt.idle).err.fatal = false ∧ (slipIn 2 SlipSt.idle).fordShut 1 (4 + 1) = false ∧
      ((slipIn 2 SlipSt.idle).sl 1).fails < 7 ∧ ((slipIn 2 SlipSt.idle).sl 1).retrains < 2 ∧
      2 ≤ ((slipIn 2 { SlipSt.idle with retrains := 2 }).sl 1).retrains ∧ (slipIn 2 SlipSt.idle).time.stage ≠ .quiet ∧
      (slipIn 2 SlipSt.idle).ospStuck 1 = false ∧
      (slipIn 2 { SlipSt.idle with tx := { OspTx.idle with heads := [⟨4 * 2 ^ 2, 0, none⟩], cred := [0, 0, 0, 0, 0, 0, 0] } }).ospStuck 1 = true ∧
      (({ slipIn 2 SlipSt.idle with
          heap := { State.reset.heap with remReads := [⟨[2, 0, 0], 3 * 2 ^ 48, 64, 0, [], [(5, 0, 64)], [], 0⟩] } } : State).readOf (2 + 1) 5).isSome =
        true ∧ (slipIn 2 SlipSt.idle).computeSlip 1 = false ∧ (slipIn 2 SlipSt.idle).heap.remReads = [] ∧
      (slipIn 2 SlipSt.idle).heap.remWrites = [] ∧ (slipIn 4 SlipSt.idle).slState 1 = 4 ∧ ((slipIn 4 SlipSt.idle).sl 1).cleaned = true ∧
      ((slipIn 4 { SlipSt.idle with cleaned := false }).sl 1).cleaned = false ∧ (slipIn 1 SlipSt.idle).slState 1 = 1 ∧
      (let s := withFields (slipIn 3 SlipSt.idle) [(R.slipDesc 1 0, ⟨56, 8⟩, 0x1F)]
       s.slState 1 = 3 ∧ s.slipFit 1 4 15 = true ∧ s.slipFit 1 7 15 = false) := by decide

theorem witness_SlipLinksFailAndRecover_flits :
    idleFlit.length = 256 ∧ crc32 (idleFlit.take 252) = leAt idleFlit 252 4 ∧ bitsOf (leAt idleFlit 0 2) 12 2 = 0 ∧ badFlit.length = 256 ∧
      crc32 (badFlit.take 252) ≠ leAt badFlit 252 4 := by decide +kernel

/-- A whole flit of a kind, with a slot and a body, and its check sum. -/
def flitOf (kind n : Nat) (rest : List Byte) : List Byte :=
  let b := leBytes 2 (kind * 4096) ++ List.replicate 10 0 ++ leBytes 16 n ++ rest
  b ++ leBytes 4 (crc32 b)

/-- A header of an RDC with tag 4, a DATA flit and a CTRL flit that asks for a replay. -/
def headFlit : List Byte := flitOf 1 (4 * 2 ^ 120 + 4 * 2 ^ 2) (List.replicate 224 0)
def dataFlit : List Byte := flitOf 2 7 (List.replicate 224 0)
def ctrlFlit : List Byte := flitOf 3 1 (List.replicate 224 0)

theorem witness_SlipLinksFailAndRecover_kinds :
    let x : SlipSt := { SlipSt.idle with tx := { OspTx.idle with adv := ospOffer } }
    (∀ f ∈ [(headFlit, 1), (dataFlit, 2), (ctrlFlit, 3)], f.1.length = 256 ∧ crc32 (f.1.take 252) = leAt f.1 252 4 ∧
      bitsOf (leAt f.1 0 2) 12 2 = f.2 ∧ leAt f.1 0 2 % 4096 = ((slipIn 2 x).sl 1).rxSeq) ∧ leAt ctrlFlit 12 1 = 1 ∧
      leAt headFlit 0 2 % 4096 ≠ ((slipIn 2 { x with rxSeq := 5 }).sl 1).rxSeq ∧ ((slipIn 2 { x with rxSeq := 5, skip := true }).sl 1).skip = true ∧
      x.hdrs = [] ∧ x.maskDue = none ∧
      (let h := hdrOf (leAt headFlit 12 16)
       h.cls = 0 ∧ h.op = 4 ∧ h.df = false ∧ h.masked = false ∧ credOk ((slipIn 2 x).sl 1).tx.adv h.need = true) ∧
      (∀ i, i < 14 → leAt headFlit (28 + 16 * i) 16 = 0) := by decide +kernel

/-- A write of a line whose header waits for its DATA flit. -/
theorem witness_SlipLinksFailAndRecover_line :
    let h : OHdr := { hdrOf 0 with cls := 0, op := 5, df := true }
    ((slipIn 2 { SlipSt.idle with hdrs := [h] }).sl 1).hdrs = [h] ∧ ((slipIn 2 { SlipSt.idle with hdrs := [h] }).sl 1).maskDue = none ∧
      reqOf h.op = some .wri ∧ (slipIn 2 { SlipSt.idle with hdrs := [h] }).slipMay 1 h = true := by decide

theorem witness_SlipLinksFailAndRecover_discovery :
    ((slipIn 1 SlipSt.idle).slipFound 1 4 15 true desc).2 = true ∧ ((slipIn 1 SlipSt.idle).slipFound 1 4 15 false desc).2 = false ∧
      (withFields (slipIn 1 SlipSt.idle) [(R.brgStatus, F.brgStatus_STATE, 1)]).rf R.brgStatus F.brgStatus_STATE = 1 ∧
      ((withFields (slipIn 1 SlipSt.idle) [(R.brgStatus, F.brgStatus_STATE, 1)]).slipFound 1 4 15 true desc).2 = true ∧
      (slipIn 1 SlipSt.idle).rf R.brgStatus F.brgStatus_STATE ≠ 1 := by decide +kernel

/-- A chiplet's request to an address, refused by the translation or not. -/
def sreq (k : ReqK) (err : Option Nat) (pa : Nat) : SReq := ⟨k, 0x100, 4, 0, 0, false, false, err, pa, 0, 0x1000⟩

def asking (st : Nat) (q : SReq) : State := slipIn st { SlipSt.idle with queue := [q] }

theorem witness_ChipletRequestsAreServed :
    (∀ q ∈ [sreq .rds (some 2) 0, sreq .rds (some 1) 0, sreq .rds none 0xFF00200000, sreq .rds none 0xFF00100000, sreq .rds none 0x7000000000000,
        sreq .rdc none 0x10000],
      ((asking 2 q).sl 1).queue = q :: [] ∧ (asking 2 q).slState 1 = 2 ∧ (asking 2 q).err.fatal = false ∧ (asking 2 q).stalling = false ∧
        (asking 2 q).slipHolds q = false) ∧
    (asking 2 (sreq .rds none 0x7000000000000)).placeOf 0x7000000000000 = .absent ∧
    (asking 2 (sreq .rds none 0xFF00200000)).placeOf 0xFF00200000 = .regs ∧
    [2, 8, 16, 17].contains ((lineOf 0xFF00200000 * 128 - 0xFF00000000) / 0x100000) = true ∧
    (asking 2 (sreq .rds none 0xFF00100000)).placeOf 0xFF00100000 = .regs ∧
    [2, 8, 16, 17].contains ((lineOf 0xFF00100000 * 128 - 0xFF00000000) / 0x100000) = false ∧
    (asking 2 (sreq .rds none 0xFF00100000)).regReset (lineOf 0xFF00100000 * 128 - 0xFF00000000) = false ∧
    (let s := withFields (asking 2 (sreq .rds none (3 * 2 ^ 48))) [(R.slipWinOut 1 0, F.slipWinOut_EN, 1), (R.slipWinOut 1 0, F.slipWinOut_SIZE_LOG, 20)]
     s.placeOf (3 * 2 ^ 48) = .slip 1 ∧ s.slipHolds (sreq .rds none (3 * 2 ^ 48)) = false) ∧
    ({ asking 2 (sreq .rds none 0) with time := ⟨0, 0, .quiet, 0, false⟩ } : State).stalling = true ∧ (asking 2 (sreq .rds none 0)).sl 0 = SlipSt.idle ∧
    (asking 4 (sreq .rds none 0)).slState 1 ≠ 2 := by decide

/-- A write of one word of a register, of TE_SPARE and of another; a request to memory of this node, of one that may cache or need not;
a TE of a partition in reset. -/
theorem witness_ChipletRequestsAreServed_targets :
    (let q : SReq := { sreq .wrp none 0xFF00100000 with mask := 0xFF00 }
     q.kind = .wrp ∧ oneWord q.mask = some (8, 8) ∧ oneWord 0xFF = some (0, 8) ∧ oneWord 5 = none ∧ pfOnly (0x100000 + 8) = false ∧
       pfOnly (R.teSpare 0) = true) ∧
    (let s := asking 2 (sreq .rdc none 0x10000)
     s.placeOf 0x10000 = .vault ∧ ReqK.rdc.caches = false) ∧
    (let s := asking 2 (sreq .rds none 0x10000)
     ReqK.rds.caches = true ∧ s.mayCache (64 + 1) = false ∧ (withFields s [(R.cohStatus, F.cohStatus_SLIP_AGENT, 2)]).mayCache (64 + 1) = true) ∧
    (let s : State := { asking 2 (sreq .rds none 0xFF00300000) with parts := [(0, { (running .run).part 0 with reset := true })] }
     s.placeOf 0xFF00300000 = .regs ∧ s.regReset 0x300000 = true ∧ s.slipHolds (sreq .rds none 0xFF00300000) = false) ∧
    (let s := withFields (asking 2 (sreq .rds none 0xFF00300000)) [(R.octPwr 0, F.octPwr_STATE, 1)]
     s.slipHolds (sreq .rds none 0xFF00300000) = true ∧ (s.sl 1).queue = sreq .rds none 0xFF00300000 :: []) := by decide

/-- Stack 1 in a state with channels 5 serving and 130 spare; what its port keeps. -/
def stack (st : Nat) (x : LrsSt) : State :=
  { withFields (running .run) [(R.lrsStatus 1, F.lrsStatus_STATE, st), (R.lrsCh 1 130, F.lrsCh_STATE, 1), (R.lrsCh 1 5, F.lrsCh_STATE, 0)] with
    lrs := [(1, x)] }

theorem witness_StacksChannelsAndRows :
    (1 : Nat) < 8 ∧ (∀ st ∈ [1, 2], (stack st LrsSt.idle).rf (R.lrsStatus 1) F.lrsStatus_STATE = st ∧ 40 < (stack st LrsSt.idle).trip 1 ∧
        (stack st LrsSt.idle).trip 1 ≤ 105 ∧ ((stack st LrsSt.idle).lp 1).unread < 2 ∧ 2 ≤ ((stack st { LrsSt.idle with unread := 2 }).lp 1).unread) ∧
      5 < 132 ∧ (stack 2 LrsSt.idle).chSt 1 5 = 0 ∧ (stack 2 LrsSt.idle).chSt 1 130 = 1 ∧ ((stack 2 LrsSt.idle).lp 1).copy = none ∧
      ((stack 2 LrsSt.idle).freeCh 1).isSome = true ∧
      ((stack 2 { LrsSt.idle with copy := some (5, 130) }).lp 1).copy = some (5, 130) ∧
      ((stack 2 { LrsSt.idle with copy := some (5, 130) }).lp 1).queue = [] ∧
      (stack 3 LrsSt.idle).rf (R.lrsStatus 1) F.lrsStatus_STATE = 3 ∧ (stack 3 LrsSt.idle).stackCheck (stack 3 LrsSt.idle).mf 1 0 = 0 ∧
      (stack 3 LrsSt.idle).stackCheck (stack 3 LrsSt.idle).mf 1 2 ≠ 0 ∧ (63 : Nat) < 64 ∧ (15 : Nat) < 16 ∧ 959 < 960 ∧
      (running .run).heap.fenced.contains (63, 15, 15, 959) = false ∧
      ((running .run).heap.rowDue.contains (63, 15, 15, 959) || (running .run).rowSpare 63 15 15) = true ∧
      (let s := withFields (running .run) [(R.tileVrepair 63, ⟨F.tileVrepair_BANK_SPARED.lo + 15, 1⟩, 1)]
       (s.heap.rowDue.contains (63, 15, 15, 959) || s.rowSpare 63 15 15) = false) ∧
      (running .run).linesIn 63 23 = [] ∧ 23 < 24 ∧
      (running .run).placeOf (0x200 * 128) = .vault ∧ ((running .run).vaultOf (0x200 * 128)).1 < 64 ∧
      mget (coherent none).lmeta 0x200 = some ⟨true, 0, 5⟩ := by decide

/-- A stack none of whose spare channels is free. -/
theorem witness_StacksChannelsAndRows_noSpare :
    let s := withFields (stack 2 LrsSt.idle) ([128, 129, 130, 131].map (fun c => (R.lrsCh 1 c, F.lrsCh_STATE, 4)))
    s.rf (R.lrsStatus 1) F.lrsStatus_STATE = 2 ∧ s.freeCh 1 = none ∧ s.chSt 1 5 = 0 := by decide

theorem witness_CountersAndCapturesAreCleared :
    (255 : Nat) < 256 ∧ (63 : Nat) < 64 ∧ (7 : Nat) < 8 ∧ (regOf R.pwrErr).any (fun x => capCleared x.1.name == some ⟨0, 32⟩) = true ∧
      regOf (R.pwrErr + 1) = none := by decide

/-- A hub whose manifest store is in a state, with the length of the next one in range. -/
def manIn (st len : Nat) : State :=
  withFields { running .run with man := { State.reset.man with staged := some manifest1 }, brg := { State.reset.brg with rom := false } }
    [(R.manStatus, F.manStatus_STATE, st), (R.manLen, ⟨0, 27⟩, len)]

theorem witness_ManifestsAndFirmwareAreStaged :
    (manIn 0 4096).manState = 0 ∧ (manIn 3 4096).manState = 3 ∧ (manIn 3 4096).lcs ≠ 7 ∧ (manIn 3 4096).lcs ≠ 4 ∧ (manIn 0 4096).fed 0 = false ∧
      (manIn 3 4096).manLenOk = true ∧ (manIn 0 255).manLenOk = false ∧ (manIn 1 4096).manState ≠ 0 ∧ (manIn 1 4096).manState ≠ 3 ∧
      (∀ st ∈ [1, 2], (manIn st 255).manState = st ∧ (manIn st 255).manRead = none) ∧ (manIn 0 4096).manState ≠ 1 ∧ (manIn 0 4096).manState ≠ 2 ∧
      (∀ st ∈ [0, 3], (withFields (manIn 0 0) [(R.glbFwStatus, F.glbFwStatus_STATE, st)]).rf R.glbFwStatus F.glbFwStatus_STATE = st) ∧
      (manIn 0 0).brg.rom = false ∧ (running .run).brg.rom = true ∧
      (withFields (running .run) [(R.brgStatus, F.brgStatus_WAIT, 2)]).brgWait = 2 ∧
      (withFields (running .run) [(R.brgStatus, F.brgStatus_WAIT, 2)]).heap.remReads.any (fun r => r.who = rcvWho) = false ∧
      ({ running .run with heap := { State.reset.heap with remReads := [⟨rcvWho, hostPa 0, 8, 0, [], [], [], 0⟩] } } : State).heap.remReads.any
        (fun r => r.who = rcvWho) = true ∧
      (running .run).brgWait ≠ 2 ∧ (manIn 0 0).conf = false ∧ (manIn 0 0).rf R.glbFwStatus F.glbFwStatus_STATE ≠ 3 := by decide

/-- A manifest's read under way, done, and failed; in the wait of bring-up for one. -/
def manReading (st : Nat) (brg step : Nat) (ms : Nat := 1) : State :=
  withFields { manIn ms 4096 with heap := { State.reset.heap with remReads := [⟨manWho, hostPa 0, 4096, 0, [1, 2, 3], [], [], st⟩] } }
    [(R.brgStatus, F.brgStatus_STATE, brg), (R.brgStatus, F.brgStatus_STEP, step), (R.brgStatus, F.brgStatus_WAIT, 1)]

theorem witness_ManifestsAndFirmwareAreStaged_checked :
    (∀ ms ∈ [1, 2], ∀ st ∈ [0, 1, 2], (manReading st 1 0 ms).manState = ms ∧
      (manReading st 1 0 ms).manRead.map (·.st) = some st ∧ (manReading st 1 0 ms).brgState = 1) ∧
      (manReading 1 2 0).brgState = 2 ∧ (manReading 1 0 4).inStep 4 = true ∧ (manReading 1 0 4).brgWait = 1 := by decide

/-- The check's outcome is what the statement names, whatever it is: of three bytes, a failure of the container. -/
theorem witness_ManifestsAndFirmwareAreStaged_outcome :
    ((manReading 1 1 0).checkMan [1, 2, 3]).1 = some (2, 0, 0) ∧ ((manReading 1 1 0).checkMan [1, 2, 3]).2 = none := by decide +kernel

def handing (g : Stage) (b : BrgSt) : State := { running g with brg := b }

theorem witness_ManifestsAndFirmwareAreStaged_handoff :
    (handing .boundary { State.reset.brg with rom := false, handoff := some 9 }).time.stage = .boundary ∧
      (handing .boundary { State.reset.brg with rom := false, handoff := some 9 }).brg.handoff = some 9 ∧
      9 ≤ (handing .boundary { State.reset.brg with rom := false, handoff := some 9 }).sail ∧
      (handing .run { State.reset.brg with handing := true }).brg.handing = true ∧ (handing .run State.reset.brg).brg.handing = false ∧
      ((handing .run { State.reset.brg with wdog := true }).brg.handing || (handing .run { State.reset.brg with wdog := true }).brg.wdog) = true ∧
      (handing .run { State.reset.brg with rom := false }).brg.rom = false ∧ ((handing .run State.reset.brg).brg.handing || State.reset.brg.wdog) = false ∧
      (handing .run { State.reset.brg with handing := true }).brg.rom = true ∧
      (withFields (handing .run { State.reset.brg with handing := true }) [(R.brgStatus, F.brgStatus_WAIT, 2)]).brgWait = 2 ∧
      (handing .run { State.reset.brg with handing := true }).brgWait ≠ 2 := by decide

/-! ### Security, power, bring-up, the twin link, debug and the host link -/

theorem witness_ActivateIsIgnoredInConfidentialMode : (withFields State.reset [(R.salStatus, F.salStatus_CONF, 1)]).conf = true := by decide

theorem witness_VdroopVoidsEveryPartition :
    (running .run).time.stage = .run ∧ 0 < (running .run).partRecs.length ∧
      (withFields (running .run) [(R.pwrErr, F.pwrErr_VALID, 1)]).rf R.pwrErr F.pwrErr_VALID = 1 := by decide

theorem witness_PowerAndTemperatureAreFollowed :
    (running .run).rf R.pwrStatus F.pwrStatus_KA_SRC = 0 ∧
      (withFields (running .run) [(R.pwrStatus, F.pwrStatus_KA_SRC, 1)]).rf R.pwrStatus F.pwrStatus_KA_SRC = 1 ∧
      (running .quiet).time.stage ≠ .run ∧ 109 < 110 ∧ 110 ≤ 110 ∧ 63 < 64 ∧ 99 < 100 ∧ 100 ≤ 100 := by decide

/-- A hub in a step of bring-up, with a manifest staged for it. -/
def bringUp (step : Nat) (g : Stage) (b : BrgSt) (tb : Nat) : State :=
  withFields
    { State.reset with
      man := { State.reset.man with staged := some manifest1 }, time := ⟨20, 10, g, 0, false⟩, brg := b }
    [(R.brgStatus, F.brgStatus_STEP, step), (R.manStatus, F.manStatus_STATE, 4), (R.sailStatus, F.sailStatus_TB_RUN, tb),
      (R.sailNum, F.sailNum_NUM, 10), (R.brgTime 0, F.brgTime_MS, 5)]

theorem witness_BringUpTakesItsStepsInOrder :
    State.reset.err.fatal = false ∧ State.reset.reached 1 = false ∧ (bringUp 1 .quiet State.reset.brg 0).reached 1 = true ∧
      (∀ i ∈ [1, 2, 3, 4, 5, 6, 7, 9], (bringUp i .quiet State.reset.brg 0).inStep i = true ∧ (bringUp 8 .quiet State.reset.brg 0).inStep i = false) ∧
      State.reset.brg.wdog = false ∧ (bringUp 3 .quiet { State.reset.brg with rom := false } 0).brg.rom = false ∧
      State.reset.flash.saved.inForce = none ∧
      (withFields State.reset [(R.lcsCtl, F.lcsCtl_HOLD_NEXT, 1)]).rf R.lcsCtl F.lcsCtl_HOLD_NEXT = 1 ∧
      (let s : State := { bringUp 3 .quiet { State.reset.brg with rom := false } 0 with flash := { State.reset.flash with saved := ⟨some ⟨1, 0, [], [1]⟩, none⟩ } }
       s.rf R.lcsCtl F.lcsCtl_HOLD_NEXT ≠ 1 ∧ s.flash.saved.inForce = some ⟨1, 0, [], [1]⟩) ∧
      (bringUp 4 .quiet State.reset.brg 0).man.staged = some manifest1 ∧ (bringUp 4 .quiet State.reset.brg 0).manState = 4 ∧
      (bringUp 4 .quiet State.reset.brg 0).rf R.sailStatus F.sailStatus_TB_RUN = 0 ∧ State.reset.man.staged = none ∧
      (let s := bringUp 5 .quiet { State.reset.brg with restarted := true } 1
       s.inStep 5 = true ∧ s.brg.restarted = true ∧ s.manState = 4 ∧ s.man.staged = some manifest1) ∧
      (bringUp 5 .run State.reset.brg 1).rf R.sailStatus F.sailStatus_TB_RUN = 1 ∧ (bringUp 5 .run State.reset.brg 1).manState = 4 ∧
      State.reset.brg.restarted = false ∧ (bringUp 6 .run State.reset.brg 1).rf R.twinStatus F.twinStatus_LINK ≠ 2 := by decide

/-- READY is due for a manifest without partitions. -/
def readyDue : State :=
  { bringUp 9 .i2 { State.reset.brg with agreed := some 9 } 1 with
    man := { State.reset.man with staged := some { manifest1 with parts := [], tenants := [], variants := [] } } }

theorem witness_BringUpTakesItsStepsInOrder_end :
    (let s := bringUp 7 .run { State.reset.brg with discovered := true } 1
     s.inStep 7 = true ∧ s.brg.discovered = true ∧ s.twinAwaited manifest1 = false) ∧
    (let m := { manifest1 with twinDeclared := true }
     let s : State := { bringUp 7 .run { State.reset.brg with discovered := true, window := true } 1 with man := { State.reset.man with staged := some m } }
     s.inStep 7 = true ∧ s.man.staged = some m ∧ s.twinAwaited m = true) ∧
    (readyDue.brg.agreed = some 9 ∧ readyDue.inStep 9 = true ∧ 9 < readyDue.sail ∧ readyDue.time.stage = .i2 ∧
      readyDue.man.staged = some { manifest1 with parts := [], tenants := [], variants := [] }) ∧
    (bringUp 9 .i2 State.reset.brg 1).brg.agreed = none ∧
    (let s := bringUp 7 .run { State.reset.brg with window := true } 1
     s.brg.window = true ∧ s.brgState = 0 ∧ s.rf R.twinStatus F.twinStatus_LINK ≠ 2 ∧
       (withFields s [(R.twinStatus, F.twinStatus_LINK, 2)]).rf R.twinStatus F.twinStatus_LINK = 2 ∧
       (withFields s [(R.brgStatus, F.brgStatus_STATE, 2)]).brgState ≠ 0) ∧ State.reset.brg.window = false ∧
    (let s := withFields (bringUp 9 .run State.reset.brg 1) [(R.brgStatus, F.brgStatus_STATE, 2), (R.manStatus, F.manStatus_STATE, 3)]
     s.brgState = 2 ∧ s.manState = 3) ∧ (bringUp 9 .run State.reset.brg 1).brgState ≠ 2 := by decide

theorem witness_BringUpTakesItsStepsInOrder_checks :
    readyDue.manStep18 { manifest1 with parts := [], tenants := [], variants := [] } false = none ∧
    readyDue.manStep18 { manifest1 with parts := [], tenants := [], variants := [], grants := [⟨0, 0, 60000⟩] } false ≠ none ∧
    (let s := bringUp 7 .run { State.reset.brg with discovered := true } 1
     (((s.beginStep 8 5).waitFor 0).compareAll manifest1).rv R.brgMism = 0 ∧
       (((s.beginStep 8 5).waitFor 0).compareAll { manifest1 with slips := [slipTop1] }).rv R.brgMism ≠ 0) := by decide +kernel

def twin1 (role : Nat) : TwinTop := ⟨role, 10, 77⟩

/-- A hub whose manifest declares the twin, with a role, a link state and what the pair keeps. -/
def paired (top role link : Nat) (g : Stage) (w : TwinSt) : State :=
  withFields
    { running g with
      man := { State.reset.man with inForce := some { manifest1 with twinDeclared := true, twin := some (twin1 top) } }, twin := w }
    [(R.twinStatus, F.twinStatus_ROLE, role), (R.twinStatus, F.twinStatus_LINK, link), (R.salStatus, F.salStatus_DRBG_OK, 1)]

def keyed : TwinSt := { State.reset.twin with keyed := true, hello := true }

theorem witness_TwinLinkCarriesHelloAndFerries :
    (paired 0 0 1 .run State.reset.twin).twinLink ≠ 2 ∧ (paired 0 0 1 .run State.reset.twin).mf.any (·.twinDeclared) = true ∧
      (paired 0 0 1 .run State.reset.twin).brgState ≠ 2 ∧
      (paired 0 0 1 .run State.reset.twin).mf.bind (fun m => m.twin) = some (twin1 0) ∧ (paired 0 0 2 .run keyed).twinLink = 2 ∧
      (paired 0 0 2 .run keyed).helloCode (twin1 0) 5 1 0 77 false ≠ 0 ∧ (paired 0 0 2 .run keyed).twin.hello = true ∧
      (paired 0 0 2 .run keyed).drbgOk = true ∧ (paired 0 0 2 .run keyed).twinRole ≠ 3 ∧ (paired 0 0 2 .run keyed).twinRole ≠ 4 ∧
      (paired 0 3 2 .run keyed).twinRole = 3 ∧ (paired 0 4 2 .run keyed).twinRole = 4 ∧
      (twin1 1).role = 1 ∧ (twin1 0).role = 0 ∧ (paired 0 0 2 .run State.reset.twin).twin.hello = false ∧
      (paired 1 2 2 .run keyed).twinRole = 2 ∧ (paired 1 2 2 .run keyed).twin.keyed = true ∧
      (paired 1 2 2 .run keyed).twin.backlog.length < 17 ∧ 17 ≤ (paired 1 2 2 .run { keyed with backlog := List.replicate 17 ⟨4, []⟩ }).twin.backlog.length ∧
      (List.replicate 128 (0 : Byte)).length = 128 ∧ 0x10000 % 128 = 0 ∧
      (paired 1 2 2 .i1 keyed).time.stage = .i1 ∧ (paired 1 2 2 .i1 keyed).twin.running = none ∧ (paired 1 2 2 .i1 keyed).twin.backlog = [] ∧
      (paired 1 2 2 .i1 { keyed with backlog := [⟨4, []⟩] }).twin.backlog = ⟨4, []⟩ :: [] := by decide

/-- A HELLO fits whose digest is the hub's own pair digest, whatever that is. -/
theorem witness_TwinLinkCarriesHelloAndFerries_hello :
    (paired 0 0 2 .run keyed).helloCode (twin1 0) (paired 0 0 2 .run keyed).pairDigest 1 0 77 true = 0 := by
  have h : (paired 0 0 2 .run keyed).fuses.serial = 0 := by decide
  simp [State.helloCode, twin1, h]

/-- The first partition of a pair is COPYING. -/
def copyingPair : State :=
  { withFields (paired 1 2 2 .run keyed) [(R.twinPart 0, ⟨0, 2⟩, 1)] with lmeta := [(0x200, ⟨true, 0, 5⟩)] }

/-- The same hubs with line 0x200 held by a transaction. -/
def lineBusy (s : State) : State := { s with coh := { State.reset.coh with txns := [(0x200, txn (creq .rds 1 0) none 0 0 [] false)] } }

/-- A serving hub that has sent ferries, with line 0x200 valid. -/
def serving : State :=
  { withFields (paired 0 1 2 .run keyed) [(R.twinFerry, F.twinFerry_LAST, 8)] with
    lmeta := [(0x200, ⟨true, 0, 5⟩)], mem := [(0x10001, 7)] }

theorem witness_TwinLinkCarriesHelloAndFerries_traffic :
    (∀ p, copyingPair.partOf (copyingPair.ownerOf 0x10000) = some p → copyingPair.twinPart p = 1) ∧ serving.serves = true ∧
      serving.twinLink = 2 ∧ serving.twin.keyed = true ∧ 8 ≤ serving.rf R.twinFerry F.twinFerry_LAST ∧ 16 ≤ 16 ∧
      serving.rf R.twinFerry F.twinFerry_LAST < 9 ∧
      (linesOf 0x10000 64).any (fun l => decide (serving.placeOf (l * 128) ≠ .vault) && decide (serving.placeOf (l * 128) ≠ .lararis)) = false ∧
      (linesOf 0x7000000000000 64).any (fun l => decide (serving.placeOf (l * 128) ≠ .vault) && decide (serving.placeOf (l * 128) ≠ .lararis)) = true ∧
      serving.anyHeld 0x10000 64 = false ∧ (withFields serving [(R.salTdi 0, ⟨10, 2⟩, 1)]).anyHeld 0x10000 64 = true ∧
      serving.readOf 1 5 = none ∧ serving.writeOf 1 5 = none ∧ (running .run).twinLink ≠ 2 ∧ serving.twinLink ≠ 0 ∧ (running .run).twinLink = 0 ∧
      16 < (paired 1 2 2 .run { keyed with backlog := List.replicate 17 ⟨4, []⟩ }).twin.backlog.length ∧
      serving.twin.backlog.length ≤ 16 ∧
      (let s := paired 1 2 2 .run { keyed with retained := [(9, ⟨.cpl, [0], [1]⟩)] }
       s.rf R.twinReplay F.twinReplay_SIZE_32M * 2 ^ 25 < s.twin.retainedBytes) ∧
      serving.twin.retainedBytes ≤ serving.rf R.twinReplay F.twinReplay_SIZE_32M * 2 ^ 25 := by
  refine ⟨?_, by decide⟩
  intro p h
  have e : copyingPair.partOf (copyingPair.ownerOf 0x10000) = some 0 := by decide
  rw [e] at h
  cases h
  decide

theorem witness_TwinLinkCarriesHelloAndFerries_transfers :
    (let n := serving.linesNew 73 [(0x10000, 64)]
     serving.piecesReady [12, 5] 73 1 [(0x10000, 64)] = true ∧ serving.tollOk [12, 5] 73 n = true ∧ serving.putReady [12, 5] 73 1 [(0x10000, 64)] = true) ∧
    (List.replicate 64 (3 : Byte)).length = 64 ∧
    (let s := lineBusy serving
     let n := s.linesNew 73 [(0x10000, 64)]
     (s.piecesReady [12, 5] 73 1 [(0x10000, 64)] && s.tollOk [12, 5] 73 n) = false ∧
       (s.putReady [12, 5] 73 1 [(0x10000, 64)] && s.tollOk [12, 5] 73 n) = false ∧ s.twinLink = 2 ∧ s.twin.keyed = true) ∧
    (let ready := fun (s : State) => s.putReady [12, 0x10000] 73 1 [(0x10000, 128)] && s.tollOk [12, 0x10000] 73 (s.linesNew 73 [(0x10000, 128)])
     ready copyingPair = true ∧ ready (lineBusy copyingPair) = false ∧ copyingPair.twinRole = 2 ∧
       (let s : State := { paired 0 4 2 .run keyed with lmeta := [(0x200, ⟨true, 0, 5⟩)] }
        ready s = true ∧ s.twinRole = 4 ∧ s.twin.keyed = true)) := by decide

/-- A read and a write of the twin's memory that wait for its answer. -/
theorem witness_TwinLinkCarriesHelloAndFerries_answers :
    (let r : RRead := ⟨manWho, 2 ^ 48, 64, 0, List.replicate 64 0, [(5, 0, 64)], [], 0⟩
     let s : State := { serving with heap := { serving.heap with remReads := [r] } }
     s.readOf 1 5 = some r ∧ r.who = manWho ∧ s.heap.remReads = [r]) ∧
    (let w : RWrite := ⟨[2, 0, 0], 5, 2 ^ 48, 10⟩
     let s : State := { serving with heap := { serving.heap with remWrites := [w] } }
     s.writeOf 1 5 = some w ∧ w.who.head? ≠ some 9 ∧ w.who.head? ≠ some 14) := by decide

theorem witness_TwinRolesChangeHands :
    (paired 1 2 2 .run keyed).twinRole = 2 ∧ serving.twinRole ≠ 2 ∧ (running .run).twinLink ≠ 2 ∧ serving.twinLink = 2 ∧
      serving.serves = true ∧ (running .run).serves = false ∧
      (withFields serving [(R.twinStatus, F.twinStatus_HB_PEER, 1)]).rf R.twinStatus F.twinStatus_HB_PEER ≠ 0 ∧
      (withFields serving [(R.twinStatus, F.twinStatus_HB_PEER, 1)]).twinRole ≠ 2 ∧
      (withFields (paired 1 2 2 .run keyed) [(R.twinStatus, F.twinStatus_HB_PEER, 1)]).twinRole = 2 ∧
      serving.rf R.twinStatus F.twinStatus_HB_PEER = 0 ∧ (paired 1 2 2 .run keyed).rf R.twinStatus F.twinStatus_HB_PEER = 0 ∧
      (paired 1 2 2 .run keyed).twin.keyed = true ∧ (paired 1 2 2 .run State.reset.twin).twin.keyed = false := by decide

/-- A partition that may come into step, while none drains or another does, and one whose turn to switch has come. -/
theorem witness_TwinRolesChangeHands_resync :
    let may := fun (s : State) => s.serves = true ∧ s.twin.keyed = true ∧ s.twinLink = 2 ∧ s.partRecs.any (fun r => decide (r.part = 0)) = true ∧
      (s.twinPart 0 = 0 ∨ s.twinPart 0 = 3) ∧ s.tdiBars 0 = false
    0 < 64 ∧ may serving ∧ serving.twin.copy = [] ∧ serving.twin.drain = [] ∧ may (paired 0 1 2 .run { keyed with drain := [3] }) ∧
      (paired 0 1 2 .run { keyed with drain := [3] }).twin.drain ≠ [] ∧ ¬ may (running .run) ∧
      (let s := paired 0 1 2 .i2 { keyed with drain := [0] }
       s.time.stage = .i2 ∧ s.twin.drain.contains 0 = true ∧ s.partDrained 0 = true ∧ mdel s.twin.copy 0 = []) ∧
      serving.twin.drain.contains 0 = false := by decide

/-- A hub with the generator healthy; the sweep or scrub of owner 5 so far. -/
def secure (x : SecSt) (l : List (Nat × Fld × Nat)) : State :=
  withFields { running .run with sec := x } ((R.salStatus, F.salStatus_DRBG_OK, 1) :: l)

theorem witness_KeysAreRotatedRetiredAndScrubbed :
    (secure State.reset.sec []).ownerDefined 5 = true ∧ (secure State.reset.sec []).otherInUse 5 = false ∧
      (secure State.reset.sec []).rf (R.salKey 5) F.salKey_SWEEP ≠ 1 ∧ (secure State.reset.sec []).scrubPending 5 = false ∧
      (secure State.reset.sec []).drbgOk = true ∧ (secure State.reset.sec []).ownerDefined 6 = false ∧
      ({ secure State.reset.sec [] with heap := { State.reset.heap with keys := [(5, (some 5, some 6))] } } : State).otherInUse 5 = true ∧
      (secure State.reset.sec [(R.salKey 5, F.salKey_SWEEP, 1)]).rf (R.salKey 5) F.salKey_SWEEP = 1 := by decide

/-- Sweeps and scrubs over, still to go on, and none, in QUIET, where they stand still. -/
theorem witness_KeysAreRotatedRetiredAndScrubbed_done :
    let u := fun (x : SecSt) => ({ secure x [] with time := ⟨20, 10, .quiet, 0, false⟩ } : State).cleanNow
    (∀ d ∈ [0x1FFFFFFF, 0x20000000], mget (u { State.reset.sec with sweeps := [(5, d)] }).sec.sweeps 5 = some d ∧
      mget (u { State.reset.sec with scrubs := [(5, d)] }).sec.scrubs 5 = some d) ∧
      (u { State.reset.sec with sweeps := [(5, 0)] }).carveBytes 5 = 0x20000000 ∧ (u { State.reset.sec with scrubs := [(5, 0)] }).carveBytes 5 = 0x20000000 ∧
      mget (u State.reset.sec).sec.sweeps 5 = none ∧ mget (u State.reset.sec).sec.scrubs 5 = none ∧ (running .quiet).time.stage ≠ .run := by decide

/-- A tenant whose interface is in a state; tenant 5 can be locked: it is alone in its partition, its tables lie in host memory
and its stream is secure. -/
def interface (st : Nat) (x : SecSt) : State :=
  withFields
    { secure x [(R.salTdi 0, ⟨10, 2⟩, st), (R.brgStatus, F.brgStatus_STATE, 1), (R.lcsStatus, F.lcsStatus_STATE, 1),
        (R.dtuCtxRoot 5, F.dtuCtxRoot_ROOT, 14 * 2 ^ 36)] with
      man := { State.reset.man with inForce := some { manifest1 with tdiMap := 32 } } } []

theorem witness_InterfacesAndSessionsAnswer :
    5 < 4096 ∧ (interface 1 State.reset.sec).tdiHeld 5 = true ∧ (interface 0 State.reset.sec).tdiHeld 5 = false ∧
      (interface 0 State.reset.sec).tdi 5 = 0 ∧ (interface 0 State.reset.sec).lockable 5 3 = false ∧
      (interface 1 { State.reset.sec with nonce := [(5, 9)] }).tdi 5 = 1 ∧
      mget (interface 1 { State.reset.sec with nonce := [(5, 9)] }).sec.nonce 5 = some 9 ∧
      (∀ st ∈ [1, 3, 2], (interface st State.reset.sec).tdi 5 = st) ∧ (interface 2 State.reset.sec).tdiHeld 5 = true ∧
      1 ≤ 1 ∧ 1 < 2 ∧ (interface 0 State.reset.sec).measBlock 5 = some (leBytes 1 1) ∧ (interface 0 State.reset.sec).measBlock 200 = none ∧
      (interface 0 State.reset.sec).drbgOk = true ∧ mgetD (interface 0 State.reset.sec).sec.sessions 4 0 < 8 ∧
      8 ≤ mgetD (interface 0 { State.reset.sec with sessions := [(4, 8)] }).sec.sessions 4 0 ∧
      (interface 0 { State.reset.sec with signed := some [1] }).sec.signed = some [1] ∧ State.reset.sec.signed = none := by decide

theorem witness_InterfacesAndSessionsAnswer_lock : (interface 0 { State.reset.sec with ide := [3] }).lockable 5 3 = true := by decide +kernel

/-- A hub in a life-cycle state, no command running. -/
def lifeCycle (st : Nat) (f : FuseSt) (l : List (Nat × Fld × Nat)) : State :=
  withFields { State.reset with fuses := f } ((R.lcsStatus, F.lcsStatus_STATE, st) :: l)

def provisioned : FuseSt := { State.reset.fuses with uds := 1, serial := 4, certs := true }

theorem witness_LifeCycleAndDebugAreAuthorised :
    (lifeCycle 4 provisioned []).rf R.lcsStatus F.lcsStatus_CMD ≠ 1 ∧ (∀ st ∈ [0, 1, 2, 4, 7], (lifeCycle st provisioned []).lcs = st) ∧
      lcsPairs.contains (0, 1) = true ∧ lcsPairs.contains (0, 3) = false ∧
      State.reset.fuses.fieldsFor 1 = false ∧ provisioned.fieldsFor 1 = true ∧ (lifeCycle 0 provisioned []).hubActive = false ∧
      (lifeCycle 0 provisioned [(R.brgStatus, F.brgStatus_STATE, 1)]).hubActive = true ∧ 2 ≤ 2 ∧ 2 < 3 ∧
      provisioned.tokenOk 1 ((lifeCycle 0 provisioned []).lcsBytes 1 [] 32) = false ∧
      (fuseStates 1).contains 1 = true ∧ (fuseStates 1).contains 2 = false ∧ (fuseStates 8).contains 2 = true ∧ (fuseStates 9).contains 0 = true ∧
      provisioned.fieldOf 1 = 0 ∧ ({ provisioned with manEd := 3 } : FuseSt).fieldOf 1 ≠ 0 ∧ sigPairOk provisioned.manEd provisioned.manMl [] [] [] = false ∧
      (lifeCycle 1 provisioned []).dbgRoute = none ∧ (lifeCycle 7 provisioned []).dbgRoute = some 0x0B ∧
      (lifeCycle 1 provisioned []).drbgOk = false ∧ (lifeCycle 1 provisioned [(R.salStatus, F.salStatus_DRBG_OK, 1)]).drbgOk = true ∧
      (lifeCycle 1 provisioned [(R.salStatus, F.salStatus_CONF, 1)]).conf = true ∧ (lifeCycle 1 provisioned []).conf = false ∧
      (lifeCycle 1 provisioned [(R.lcsStatus, F.lcsStatus_CMD, 1)]).rf R.lcsStatus F.lcsStatus_CMD = 1 ∧
      (lifeCycle 1 provisioned [(R.salStatus, F.salStatus_DEBUG, 1)]).rf R.salStatus F.salStatus_DEBUG = 1 ∧
      (lifeCycle 1 provisioned []).rf R.salStatus F.salStatus_DEBUG ≠ 1 := by decide

/-- The fuses hold the digest of a token, whatever that is: a transition out of MAKER with that token, and out of LOCKED. -/
theorem witness_LifeCycleAndDebugAreAuthorised_token :
    ∀ tok : List Byte, tok.length = 32 → digestOpen (digestNum (Config.sha384 tok)) = true →
      let f : FuseSt := { provisioned with tokInt := digestNum (Config.sha384 tok) }
      (lifeCycle 0 f []).lcsBytes 1 tok 32 = tok ∧ f.tokenOk 1 tok = true ∧ f.fieldsFor 1 = true := by
  intro tok h d
  refine ⟨?_, by simp [FuseSt.tokenOk, FuseSt.tokenOf, d], rfl⟩
  show (tok ++ List.replicate 32 0).take 32 = tok
  simp [← h]

/-- LOCKED fields: between MAKER and INTEGRATOR, beyond them, and of more bits than there are. -/
theorem witness_LifeCycleAndDebugAreAuthorised_locked :
    let f := fun (n : Nat) => ({ provisioned with lc := n } : FuseSt)
    let fits := fun (s : State) => lcsPairs.any (fun p => lcBetween s.fuses.lc (lcWord p.1) (lcWord p.2))
    (lifeCycle 7 (f 1) []).lcs = 7 ∧ (lifeCycle 7 (f 1) []).recoverable 1 ≠ [] ∧
      ((lifeCycle 7 (f 1) []).recoverable 1).find? (fun p => (f 1).tokenOk p.2 []) = none ∧
      fits (lifeCycle 7 (f (2 ^ 40)) []) = true ∧ (lifeCycle 7 (f (2 ^ 40)) []).recoverable 2 = [] ∧ fits (lifeCycle 7 (f (2 ^ 128)) []) = false := by
  decide +kernel

theorem witness_LifeCycleAndDebugAreAuthorised_tap :
    let o := lifeCycle 1 provisioned [(R.lcsDbg, F.lcsDbg_SCOPE, 15)]
    let z := lifeCycle 1 provisioned [(R.lcsDbg, F.lcsDbg_SCOPE, 0)]
    (∀ x ∈ [o.inScope 0, o.pinsFree, o.inScope 1 && o.noLegs, o.inScope 2], (x && !o.conf) = true) ∧
      (∀ x ∈ [z.inScope 0, z.pinsFree, z.inScope 1 && z.noLegs, z.inScope 2], (x && !z.conf) = false) ∧
      0x100018 / 8 * 8 < 0x4000000 ∧ 0x100018 / 8 * 8 ≠ R.lcsCmd ∧ R.lcsCmd / 8 * 8 = R.lcsCmd ∧ 0x4000000 ≤ 0x4000008 / 8 * 8 := by decide

/-- A host link that is up at a rate and in a power state, with words of PF0's configuration space. -/
def linked (rate lpm : Nat) (cfg : NMap Nat) (l : List (Nat × Fld × Nat)) : State :=
  withFields
    { running .run with
      pci := { State.reset.pci with perst := false, width := 16, cfg := cfg } }
    ([(R.pciStatus, F.pciStatus_RATE, rate), (R.pciStatus, F.pciStatus_WIDTH, 16), (R.pciStatus, F.pciStatus_LPM, lpm)] ++ l)

theorem witness_HostLinkStatesFollowTheirEvents :
    (running .run).hostUp = false ∧ (linked 5 0 [] []).hostUp = true ∧ (linked 5 0 [] []).pci.perst = false ∧ 1 ≤ 7 ∧
      [1, 2, 4, 8, 16].contains 16 = true ∧ [1, 2, 4, 8, 16].contains 3 = false ∧ (linked 5 0 [] []).waiting = 0 ∧
      (running .run).pci.perst = true ∧ (linked 5 0 [] []).hostStalls = false ∧ (running .quiet).hostStalls = true ∧
      (let s := linked 5 0 [(0x268 / 4, 8)] [(R.pciLpm, F.pciLpm_L0P_IDLE, 7)]
       bitOf (s.cfgRaw 0 0x268 0) 3 = true ∧ s.rf R.pciLpm F.pciLpm_L0P_IDLE ≠ 0 ∧ s.hostUp = true ∧ s.rf R.pciStatus F.pciStatus_LPM = 0 ∧ s.waiting = 0 ∧
         4 < s.pci.width) ∧
      bitOf ((linked 5 0 [] []).cfgRaw 0 0x268 0) 3 = false ∧ bitOf ((linked 5 0 [] []).cfgRaw 0 0x60 0) 1 = false ∧ (linked 5 1 [] []).rf R.pciStatus F.pciStatus_LPM = 1 ∧
      2 ≤ (linked 5 2 [] []).rf R.pciStatus F.pciStatus_LPM ∧
      (let s := linked 5 0 [(0x60 / 4, 2)] [(R.pciLpm, F.pciLpm_L1_IDLE, 7)]
       bitOf (s.cfgRaw 0 0x60 0) 1 = true ∧ s.rf R.pciLpm F.pciLpm_L1_IDLE ≠ 0 ∧ s.hostUp = true ∧ s.linkIdle = true) ∧
      ({ linked 5 0 [] [] with rings := { State.reset.rings with vecDue := [(5, 0)] } } : State).linkIdle = false ∧
      bitOf ((linked 5 0 [(0x78 / 4, 0x400)] []).cfgRaw 0 0x78 0) 10 = true ∧ bitOf ((linked 5 0 [] []).cfgRaw 0 0x78 0) 10 = false := by decide

/-- A host link in QUIET, and one with PF0's memory space on and a line of PF0's valid. -/
def stalled : State :=
  { linked 5 0 [] [] with
    time := ⟨20, 10, .quiet, 0, false⟩ }

def hosted : State :=
  let s := linked 5 0 [(1, 0x00100002), (6 * 1024 + 1, 0x00100002)] [(R.brgStatus, F.brgStatus_STATE, 1), (R.pciStatus, F.pciStatus_VF_READY, 1)]
  { s with lmeta := [(0x200, ⟨true, 0, 5⟩)], mem := [(0x10001, 7)], pci := { s.pci with vfs := 6 } }

/-- Partition 0, tenant 5's, in reset; tenant 5's interface locked. -/
def hostedReset : State := { hosted with parts := [(0, { hosted.part 0 with reset := true })] }
def hostedLocked : State := withFields hosted [(R.salTdi 0, ⟨10, 2⟩, 1)]

def hostRead : RRead := ⟨[9], hostPa 64, 8, 6, List.replicate 8 0, [(4, 0, 8)], [], 0⟩

def reading : State := { hosted with heap := { State.reset.heap with remReads := [hostRead] } }

theorem witness_HostRequestsAreServedOrStalled :
    stalled.hostStalls = true ∧ hosted.hostStalls = false ∧ hosted.hostUp = true ∧ (running .run).hostStalls = false ∧ (running .run).hostUp = false ∧
      6 ≤ hosted.pci.vfs ∧ 4095 < 4096 ∧ hosted.memSpace 0 = true ∧ (linked 5 0 [] []).memSpace 0 = false ∧ hosted.early = false ∧
      (linked 5 0 [(1, 0x00100002)] []).memSpace 0 = true ∧ (linked 5 0 [(1, 0x00100002)] []).early = true ∧
      0x10000 + 64 ≤ vaultEnd ∧ vaultEnd < vaultEnd + 64 ∧ hosted.bar2Held 0x10000 64 = false ∧ hostedLocked.bar2Held 0x10000 64 = true ∧
      5 < hosted.pci.vfs ∧ hosted.pci.vfs ≤ 6 ∧ hosted.rf R.pciStatus F.pciStatus_VF_READY ≠ 0 ∧
      (linked 5 0 [] []).rf R.pciStatus F.pciStatus_VF_READY = 0 := by decide

/-- BAR0: a register of PF0, of a block that does not respond, of a TE in reset, one behind a request or a write that waits; a VF's
page, of a locked interface, of a partition in reset. -/
theorem witness_HostRequestsAreServedOrStalled_bar0 :
    let key := fun (fn off : Nat) => (⟨.bar0, fn, off, false, 8, 4, [], false, false⟩ : HostReq).key
    let early := linked 5 0 [(1, 0x00100002)] []
    0 < 8 ∧ 0x100018 + 8 ≤ 0x4000000 ∧ 0x18 + 8 ≤ 0x10000 ∧ hosted.barHeld = false ∧ hosted.regWaits (key 0 0x100018) = false ∧
      hosted.blockOn (0x100018 / 0x100000) = true ∧ hosted.regReset 0x100018 = false ∧ early.memSpace 0 = true ∧
      early.blockOn (0x100018 / 0x100000) = false ∧ early.barHeld = false ∧ early.regWaits (key 0 0x100018) = false ∧
      hostedReset.regReset 0x300000 = true ∧ hostedReset.regWaits (key 0 0x300000) = false ∧ hostedReset.blockOn (0x300000 / 0x100000) = true ∧
      (let s : State := { hosted with pci := { hosted.pci with stalled := [⟨.bar0, 0, 8, false, 8, 4, [], false, false⟩] } }
       s.barHeld = true ∧ s.hostStalls = false) ∧
      (let s : State := { hosted with fab := { State.reset.fab with regBusy := [(regReq 0x100018, true)] } }
       s.regWaits (key 0 0x100018) = true) ∧
      0 < 6 ∧ hosted.memSpace 6 = true ∧ hosted.regWaits (key 6 0x18) = false ∧ hosted.tdiHeld (6 - 1) = false ∧ hosted.tenReset (6 - 1) = false ∧
      hostedLocked.tdiHeld (6 - 1) = true ∧ hostedLocked.regWaits (key 6 0x18) = false ∧ hostedReset.tdiHeld (6 - 1) = false ∧
      hostedReset.tenReset (6 - 1) = true ∧ hostedReset.regWaits (key 6 0x18) = false := by decide

/-- Completions and timeouts of a read that waits, of one without requester, of a quarantined tag and of one nobody asked for. -/
theorem witness_HostRequestsAreServedOrStalled_tags :
    let quar : State := { hosted with pci := { hosted.pci with quar := [(4, false)] } }
    reading.hostReadOf 4 = some hostRead ∧ hostRead.left.find? (fun x => x.1 = 4) = some (4, 0, 8) ∧ cplCause 0 false 8 8 8 = none ∧
      cplCause 1 false 8 8 8 = some 3 ∧
      (∀ f ∈ [none, some 6], let s : State := { hosted with pci := { hosted.pci with orphan := [(4, 8, f)] } }
        s.hostReadOf 4 = none ∧ s.pci.orphan.find? (fun o => o.1 = 4) = some (4, 8, f)) ∧
      quar.hostReadOf 4 = none ∧ quar.pci.orphan.find? (fun o => o.1 = 4) = none ∧ quar.pci.quar.find? (fun q => q.1 = 4) = some (4, false) ∧
      (running .run).hostReadOf 4 = none ∧ (running .run).pci.orphan.find? (fun o => o.1 = 4) = none ∧
      (running .run).pci.quar.find? (fun q => q.1 = 4) = none := by decide

theorem witness_HostRequestsAreServedOrStalled_bar2 :
    let r : HostReq := ⟨.bar2, 0, 0x10000, false, 64, 4, [], false, false⟩
    let q : HostReq := ⟨.bar2, 0, 0x10000, true, 0, 0, List.replicate 64 3, false, false⟩
    let busy : State := { hosted with coh := { State.reset.coh with txns := [(0x200, txn (creq .rds 1 0) none 0 0 [] false)] } }
    hosted.bar2Ready r [(0x10000, 64)] = true ∧ hosted.bar2Ready q [(0x10000, 64)] = true ∧ (List.replicate 64 (3 : Byte)).length = 64 ∧
      busy.bar2Ready r [(0x10000, 64)] = false ∧ busy.bar2Ready q [(0x10000, 64)] = false := by decide

/-! ### Steps with results worked out by hand from the rules -/

/-- What a test reads from the state after a command. -/
def after (c : Instr) (s : State) (f : State → Bool) : Bool :=
  match exec c s with
  | .next t => f t
  | _ => false

/-- 1.0 + 2.0 = 3.0 in lane 0 (R124, R151). -/
theorem test_vecAdd : after (.vecAdd 0) (vecAt (vword 0x00 0 3 1 2 0)) (fun t => t.vreg 0 3 0 == 0x40400000) = true := by decide +kernel

/-- The greatest integer plus one stays the greatest (R124). -/
theorem test_vecAdd_clamps :
    after (.vecAdd 0) { atWord (vword 0x00 1 3 1 2 0) with phys := [(0, { PhysSt.fresh with vreg := [(64, 0x7FFFFFFF), (128, 1)] })] }
      (fun t => t.vreg 0 3 0 == 0x7FFFFFFF) = true := by decide +kernel

/-- A source that is also the destination is read before it is written: 1.0 * 1.0 into its own register (R124). -/
theorem test_vecMul_inPlace : after (.vecMul 0) (vecAt (vword 0x02 0 1 1 1 0)) (fun t => t.vreg 0 1 0 == 0x3F800000) = true := by decide +kernel

/-- An arithmetic shift keeps the sign (R124). -/
theorem test_vecSra :
    after (.vecSra 0) { atWord (vword 0x0D 1 3 1 2 0) with phys := [(0, { PhysSt.fresh with vreg := [(64, 0x80000000), (128, 33)] })] }
      (fun t => t.vreg 0 3 0 == 0xC0000000) = true := by decide +kernel

/-- The greatest of the FP32 elements 1.0, 0 and 2.0 is the third: its index 2, then its value (R127). -/
theorem test_redArgmax :
    after (.redArgmax 0) { atWord (rword 5) with holds := [(2, 0x80), (3, 0x3F), (11, 0x40)] }
      (fun t => t.holdNat 0 1024 4 == 2 && t.holdNat 0 1028 4 == 0x40000000) = true := by decide +kernel

/-- 300.0 as INT8 saturates at 127 and counts one event (R126, R158). -/
theorem test_cvtCast_saturates :
    after (.cvtCast 0) { atWord (cword 0) with holds := [(1, 0), (2, 0x96), (3, 0x43)] }
      (fun t => t.holdNat 0 256 1 == 127 && t.rf (R.teCvtCnt 0) F.teCvtCnt_SAT == 1) = true := by decide +kernel

/-- A PRED that names p0 as destination sets nothing (R128). -/
theorem test_predSet_p0 :
    after (.predSet 0) (atWord (word 8 5 (2 ^ 40))) (fun t => (t.tez 0).run.any (fun r => r.preds == 0 && r.pc == 1)) = true := by decide

/-- A loop's body is entered with the counter 0, and left after COUNT times (R129). -/
theorem test_loopRepeat :
    after (.loopRepeat 0) (atWord (word 7 0 (1 * 2 ^ 100 + 5 * 2 ^ 80)))
      (fun t => (t.tez 0).run.any (fun r => r.pc == 1 && r.loops.length == 1)) = true := by decide

/-- ZERO clears its row of the hold and no other byte (R118). -/
theorem test_movZero_complete :
    after (.movComplete 0 0) (movs1 zeroX) (fun t => t.holdByte 0 64 == 0 && t.holdByte 0 3 == 0x11 && (t.tez 0).run.any (·.movs.isEmpty)) =
      true := by decide

/-- LOAD brings the byte of the line into the hold (R118). -/
theorem test_movLoad_complete : after (.movComplete 0 0) (movs1 loadX) (fun t => t.holdByte 0 64 == 0x5A) = true := by decide

/-- The sailing's number wraps at 64 bits (R23). -/
theorem test_sailingBoundary_wraps :
    after (.sailingBoundary 0 [] [] false) (withFields (running .quiet) [(R.sailNum, F.sailNum_NUM, 2 ^ 64 - 1)]) (fun t => t.sail == 0) = true := by
  decide +kernel

/-- A doorbell of 64 bits moves TAIL to its low 32 bits (R431). -/
theorem test_doorbell :
    after (.doorbell 5 0 0 (2 ^ 40 + 6)) (withFields (running .run) [(rStat 320, F.ringStatus_STATE, 1)])
      (fun t => t.rf (rPtr 320) F.ringPtr_TAIL == 6) = true := by decide

/-- A 33rd invalidation on a lane is its overflow (R231). -/
theorem test_dtuInvPage_overflow :
    after (.dtuInvPage 3 9 8 5) fullLane (fun t => t.rf (R.dtuInvAck 3) F.dtuInvAck_OVF == 1 && (mgetD t.dtu.lanes 3 []).length == 32) = true := by
  decide

/-- The second level of no table is reached: a level-1 entry whose valid bit is 0 is XLATE (R225, R226). -/
theorem test_l1_invalid : l1Of 0 = .fail cXlate ∧ l1Of 0x0D = .block 0 true true ∧ l1Of 0x03 = .ptr 0 ∧ l1Of 0x09 = .fail cBadEntry := by decide

/-- A masked write changes the bytes its mask names (R282). -/
theorem test_mwr_mask : after (.mwr 0 0x10000 4 0 2 2 5 0x4433) (coherent none) (fun t => t.mem == [(0x10001, 0x44)]) = true := by decide

/-- A write-1-to-clear field clears the bits written (R8). -/
theorem test_w1c :
    ((withFields (running .run) [(R.sailEvent, ⟨0, 4⟩, 0xF)]).fieldWrite R.sailEvent 0xFF 5 ⟨0, 4, .w1c, .l⟩).rf R.sailEvent ⟨0, 4⟩ = 0xA := by
  decide

/-- The check value of CRC-32 as IEEE 802.3 defines it: of the digits 1 to 9. -/
theorem test_crc32 : crc32 [0x31, 0x32, 0x33, 0x34, 0x35, 0x36, 0x37, 0x38, 0x39] = 0xCBF43926 := by decide +kernel

/-- The codewords of the life cycle decode to their states (R576). -/
theorem test_lifeCycleWords : ∀ n, n < 5 → lcDecode (lcWord n) = n := by decide +kernel

/-- A second programming of a field cannot take a bit back (R583). -/
theorem test_programBits : programBits 5 2 8 8 &&& 5 = 5 := by decide

/-- TDISP: an interface that is not locked cannot start (R557, R562). -/
theorem test_startInterface_unlocked :
    after (.startInterface 5 9) (interface 0 State.reset.sec) (fun t => t.tdi 5 == 0 && t.out == [⟨.spdm, [0x17F, 5], []⟩]) = true := by decide

/-- A host write of the interrupt line register, outside QUIET, is answered (R403). -/
theorem test_hostConfigRequest :
    after (.hostConfigRequest 0 0x3C true [0xA5] 1 9) hosted (fun t => t.cfgRaw 0 0x3C 0 == 0xA5) = true := by decide

/-- The reset values of the spec's register tables: CYCLE is 1, every link is ABSENT, the time base does not run (R61, R62). -/
theorem test_resetValues :
    State.reset.rf R.sailStatus F.sailStatus_CYCLE = 1 ∧ State.reset.portSt 0 0 = 3 ∧ State.reset.rf R.sailStatus F.sailStatus_TB_RUN = 0 := by decide

/-- One tick of TCLK on an empty queue (log entry 2). -/
theorem test_step_tick :
    (match step (running .run) with
      | .next t => t.time.tclk
      | _ => 0) = 11 := by decide

/-- The queue is first in, first out. -/
theorem test_step_order :
    (match step { State.reset with pending := [.bypass, .idcode] } with
      | .next t => t.tap.ir == 0xFF && t.pending == [.idcode]
      | _ => false) = true := by decide

end Sys2Proof.Tests
end

section
/-! PROOFS. Register writes (00_scope, R8 to R11; 10_octel_fabric, R282, R298, R300, R315, R321): their packets, their way into their
block one at a time, the write of a register by its fields, the write of a field by its access code and class. O41 is put together from
these. -/

namespace Sys2Proof.Machine

open Sys2Proof.Safety

/-! ### Packets injected at a router -/

/-- Injecting a packet touches the network alone. -/
theorem State.post_eq_setFab (s : State) (h : FabHdr) (mask : Nat) (d : Line) :
    (s.post h mask d).1 = s.setFab { s.fab with net := (s.post h mask d).1.fab.net } := by
  unfold State.post State.postAt
  split <;> rfl

theorem State.post_net_of_ne (s : State) {h : FabHdr} (mask : Nat) (d : Line) (hne : h.src ≠ h.dst) :
    (s.post h mask d).2 = s.fab.net.next ∧ (s.post h mask d).1.fab.net.live = s.fab.net.live ++ [s.fab.net.next] := by
  unfold State.post State.postAt
  rw [if_neg hne]
  exact ⟨rfl, rfl⟩

theorem State.fly_flies (s : State) {h : FabHdr} (mask : Nat) (d : Line) (x : HPkt) (hne : h.src ≠ h.dst) :
    flies s (s.fly h mask d x) x := by
  obtain ⟨hpid, hlive⟩ := s.post_net_of_ne mask d hne
  refine ⟨?_, hlive⟩
  show (s.post h mask d).1.fab.air ++ [((s.post h mask d).2, x)] = _
  rw [hpid, s.post_eq_setFab h mask d]
  rfl

theorem State.fly_frame (s : State) (h : FabHdr) (mask : Nat) (d : Line) (x : HPkt) :
    s.fly h mask d x = { s with fab := (s.fly h mask d x).fab } := by
  unfold State.fly
  dsimp only
  rw [s.post_eq_setFab h mask d]
  rfl

/-- A message put on the fabric is the last one there, under its packet's number; nothing else changes. -/
theorem State.fabMsg_appends (s : State) (m : FMsg) :
    ∃ p, (s.fabMsg m).fab.msgs = s.fab.msgs ++ [{ m with pid := p }] ∧ s.fabMsg m = { s with fab := (s.fabMsg m).fab } := by
  unfold State.fabMsg
  dsimp only
  rw [State.post_eq_setFab]
  exact ⟨_, rfl, rfl⟩

/-- A refused register write is answered PARTITION_RESET at its sender's router, under its tag (R300). -/
theorem State.regRefuse_answers (s : State) (r : RegReq) :
    ∃ m, (s.regRefuse r).fab.msgs = s.fab.msgs ++ [m] ∧ m.kind = 3 ∧ m.dst = r.src ∧ m.tag = r.tag ∧
      s.regRefuse r = { s with fab := (s.regRefuse r).fab } := by
  obtain ⟨p, hmsgs, hframe⟩ := s.fabMsg_appends ⟨3, r.src, r.tag, 0, 0, 0,
    ((List.range 64).find? (bitOf (s.tilesOf ((s.regPart r.off).getD 0)))).getD 0, 2, 4096, 0, false, ridOf r.src⟩
  exact ⟨_, hmsgs, rfl, rfl, rfl, hframe⟩

/-! ### A register write at its block's router -/

theorem State.regLand_of_reset (s : State) {r : RegReq} (h : s.regReset r.off = true) : s.regLand r = s.regRefuse r := by
  unfold State.regLand
  rw [if_pos h]

theorem State.regLand_of_out (s : State) {r : RegReq} (h : s.regReset r.off = false) (ho : s.regOut r.block = true) :
    s.regLand r = s.setFab { s.fab with regHeld := s.fab.regHeld ++ [r] } := by
  simp [State.regLand, h, ho]

theorem State.regLand_of_free (s : State) {r : RegReq} (h : s.regReset r.off = false) (ho : s.regOut r.block = false) :
    s.regLand r = s.regGo r := by
  simp [State.regLand, h, ho]

theorem State.regAsleep_iff (s : State) (off : Nat) : s.regAsleep off = true ↔ ∃ d, s.regDom off = some d ∧ s.domSt d ≠ 0 := by
  unfold State.regAsleep
  cases s.regDom off <;> simp

/-- A write whose register's domain sleeps is in flight, not taken, and wakes the domain (R298). -/
theorem State.regGo_of_asleep (s : State) {r : RegReq} (h : s.regAsleep r.off = true) :
    ∃ d, s.regGo r = (s.setFab { s.fab with regBusy := s.fab.regBusy ++ [(r, false)] }).wake d := by
  obtain ⟨d, hd, hst⟩ := (s.regAsleep_iff r.off).1 h
  refine ⟨d, ?_⟩
  simp only [State.regGo, hd]
  rw [if_neg hst]

/-- A write whose register's domain is up, or that has none, is in flight and taken at once. -/
theorem State.regGo_of_awake (s : State) {r : RegReq} (h : s.regAsleep r.off = false) :
    s.regGo r = (s.setFab { s.fab with regBusy := s.fab.regBusy ++ [(r, true)] }).regTake r := by
  unfold State.regGo
  split
  · rename_i d hd
    have hst : s.domSt d = 0 := by
      by_contra hne
      exact absurd ((s.regAsleep_iff r.off).2 ⟨d, hd, hne⟩) (by simp [h])
    rw [if_pos hst]
  · rfl

/-- Waking a domain changes registers alone. -/
theorem State.wake_sameButRegs (s : State) (d : Nat) : sameButRegs s (s.wake d) := by
  unfold sameButRegs State.wake State.raddOpen
  repeat' split
  all_goals rfl

theorem State.regGo_asleep_frame (s : State) {r : RegReq} (h : s.regAsleep r.off = true) :
    (s.regGo r).fab.regBusy = s.fab.regBusy ++ [(r, false)] ∧ (s.regGo r).coh = s.coh ∧ sameStores s (s.regGo r) := by
  obtain ⟨d, hgo⟩ := s.regGo_of_asleep h
  rw [hgo, (s.setFab { s.fab with regBusy := s.fab.regBusy ++ [(r, false)] }).wake_sameButRegs d]
  exact ⟨rfl, rfl, rfl, rfl, rfl, rfl⟩

/-! ### A register write taken by its block -/

/-- Performed only where its partition is not in reset and the ford into its block is open (R300, R321). -/
theorem State.regTake_of_open (s : State) {r : RegReq} (h : s.regReset r.off = false) (hf : s.fordShut 1 (regClock r.off) = false) :
    s.regTake r = (s.regUse r.off).regWrite r.off r.size r.value := by
  simp [State.regTake, h, hf]

theorem State.regTake_of_shut (s : State) {r : RegReq} (h : s.regReset r.off = false) (hf : s.fordShut 1 (regClock r.off) = true) :
    s.regTake r = s.radd (R.fordLost (regClock r.off)) F.fordLost_FLUSH 1 := by
  simp [State.regTake, h, hf]

@[simp] theorem State.regUse_regs (s : State) (off : Nat) : (s.regUse off).regs = s.regs := by
  unfold State.regUse
  split <;> rfl

/-- Whether a write is refused for a locked tenant depends on the registers in force alone (R559). -/
theorem State.lockRefused_of_regs {s t : State} (h : t.regs = s.regs) (n : RegName) (idx : List Nat) :
    t.lockRefused n idx = s.lockRefused n idx := by
  have htdi : t.tdi = s.tdi := funext fun i => by simp only [State.tdi, State.rv_of_regs h]
  simp only [State.lockRefused, State.tdiHeld, htdi]

theorem State.regWrite_of_eight (s : State) {off : Nat} (value : Nat) (h : off % 8 = 0) :
    s.regWrite off 8 value = s.regPut off (BitVec.allOnes 64) (BitVec.ofNat 64 value) false := by
  unfold State.regWrite
  rw [if_pos ⟨rfl, h⟩]

/-- A register that sets nothing off, is not refused and not ferried: its write is the write of its fields. -/
theorem State.regPut_plain (s : State) {o : Nat} {mask v : Word} {half : Bool} {d : RegDesc} {idx : List Nat}
    (hreg : regOf (regKey o) = some (d, idx)) (hign : regIgnored d.name idx = false) (hlock : s.lockRefused d.name idx = false)
    (hferry : ferryTen d.name idx = none) (heff : ∀ u : State, u.regEffect d.name idx (regKey o) (v &&& mask).toNat half = u) :
    s.regPut o mask v half = d.fields.foldl (fun u f => u.fieldWrite (regKey o) mask v f) s := by
  simp only [State.regPut, hreg, hign, hlock, heff, State.ferryReg, hferry, Bool.false_eq_true, if_false]

theorem State.regPut_of_reserved (s : State) {o : Nat} (mask v : Word) (half : Bool) (h : regOf (regKey o) = none) :
    s.regPut o mask v half = s := by
  simp only [State.regPut, h]

/-- A write of either size at a reserved offset is ignored (R216). -/
theorem State.regWrite_of_reserved (s : State) {off : Nat} (size value : Nat) (h : regOf (regKey (off - off % 8)) = none) :
    s.regWrite off size value = s := by
  unfold State.regWrite
  split
  · rename_i h8
    rw [h8.2, Nat.sub_zero] at h
    exact s.regPut_of_reserved _ _ _ h
  · split
    · exact s.regPut_of_reserved _ _ _ h
    · rfl

/-- A taken write of 64 bits that sets nothing off is the write of its register's fields (R8, R282). -/
theorem State.regTake_plain (s : State) {r : RegReq} {d : RegDesc} {idx : List Nat} (hreset : s.regReset r.off = false)
    (hford : s.fordShut 1 (regClock r.off) = false) (hsize : r.size = 8) (halign : r.off % 8 = 0)
    (hreg : regOf (regKey r.off) = some (d, idx)) (hign : regIgnored d.name idx = false) (hlock : s.lockRefused d.name idx = false)
    (hferry : ferryTen d.name idx = none)
    (heff : ∀ u : State, u.regEffect d.name idx (regKey r.off) (BitVec.ofNat 64 r.value &&& BitVec.allOnes 64).toNat false = u) :
    s.regTake r =
      d.fields.foldl (fun u f => u.fieldWrite (regKey r.off) (BitVec.allOnes 64) (BitVec.ofNat 64 r.value) f) (s.regUse r.off) := by
  rw [s.regTake_of_open hreset hford, hsize, State.regWrite_of_eight _ _ halign]
  exact State.regPut_plain _ hreg hign ((State.lockRefused_of_regs (s.regUse_regs r.off) _ _).trans hlock) hferry heff

/-! ### REG_WR, REGISTER_WRITE and REG_ACK -/

theorem exec_regWr (off size value src tag : Nat) (s : State) :
    exec (.regWr off size value src tag) s = .next (s.regSend ⟨blockOfReg off, off, size, value, src, tag⟩) := rfl

theorem State.regSend_of_own (s : State) {r : RegReq} (h : r.src = regRouter r.off) : s.regSend r = s.regLand r := by
  unfold State.regSend
  rw [if_pos h]

theorem State.regSend_of_elsewhere (s : State) {r : RegReq} (h : r.src ≠ regRouter r.off) :
    flies s (s.regSend r) (.reg r) ∧ s.regSend r = { s with fab := (s.regSend r).fab } := by
  unfold State.regSend
  rw [if_neg h]
  exact ⟨s.fly_flies _ _ _ h, s.fly_frame _ _ _ _⟩

/-- A write taken with its acknowledgement: both packets go onto the fabric, then its block takes it. -/
theorem State.regNow_takes (s : State) (r : RegReq) :
    ∃ u : State, s.regNow r = u.regTake r ∧ u = { s with fab := { s.fab with net := u.fab.net } } := by
  refine ⟨_, rfl, ?_⟩
  rw [State.post_eq_setFab, State.post_eq_setFab]
  rfl

/-- The write firmware sends, from the management spur. -/
def firmwareWrite (off size value : Nat) : RegReq := ⟨blockOfReg off, off, size, value, 82, 0⟩

/-- What REGISTER_WRITE does, by its conditions in turn. -/
theorem exec_registerWrite (off size value : Nat) (s : State) :
    exec (.registerWrite off size value) s = .next (if s.regReset off then s.regRefuse (firmwareWrite off size value)
      else if s.regOut (blockOfReg off) then s.setFab { s.fab with regHeld := s.fab.regHeld ++ [firmwareWrite off size value] }
      else if s.regAsleep off then s.regGo (firmwareWrite off size value)
      else s.regNow (firmwareWrite off size value)) := rfl

theorem exec_registerWrite_of_reset (s : State) {off : Nat} (size value : Nat) (h : s.regReset off = true) :
    exec (.registerWrite off size value) s = .next (s.regRefuse (firmwareWrite off size value)) := by
  rw [exec_registerWrite, if_pos h]

theorem exec_registerWrite_of_out (s : State) {off : Nat} (size value : Nat) (h : s.regReset off = false)
    (ho : s.regOut (blockOfReg off) = true) :
    exec (.registerWrite off size value) s =
      .next (s.setFab { s.fab with regHeld := s.fab.regHeld ++ [firmwareWrite off size value] }) := by
  simp [exec_registerWrite, h, ho]

theorem exec_registerWrite_of_asleep (s : State) {off : Nat} (size value : Nat) (h : s.regReset off = false)
    (ho : s.regOut (blockOfReg off) = false) (ha : s.regAsleep off = true) :
    exec (.registerWrite off size value) s = .next (s.regGo (firmwareWrite off size value)) := by
  simp [exec_registerWrite, h, ho, ha]

theorem exec_registerWrite_of_awake (s : State) {off : Nat} (size value : Nat) (h : s.regReset off = false)
    (ho : s.regOut (blockOfReg off) = false) (ha : s.regAsleep off = false) :
    exec (.registerWrite off size value) s = .next (s.regNow (firmwareWrite off size value)) := by
  simp [exec_registerWrite, h, ho, ha]

/-- REG_ACK ends the write in flight, and touches nothing but the network and the writes in flight. -/
theorem State.regDone_ends (s : State) (r : RegReq) :
    s.regDone r = { s with fab := (s.regDone r).fab } ∧
      (s.regDone r).fab.regBusy = s.fab.regBusy.filter (fun y => decide (y.1.block ≠ r.block)) ∧
      (s.regDone r).fab.regHeld = s.fab.regHeld := by
  unfold State.regDone
  dsimp only
  rw [State.post_eq_setFab]
  exact ⟨rfl, rfl, rfl⟩

theorem exec_regAck_of_none (s : State) {block : Nat}
    (h : s.fab.regBusy.find? (fun x => decide (x.1.block = block) && x.2) = none) : exec (.regAck block) s = .next s := by
  show execRegAck block s = _
  simp only [execRegAck, h]

theorem exec_regAck_of_alone (s : State) {block : Nat} {x : RegReq × Bool}
    (h : s.fab.regBusy.find? (fun x => decide (x.1.block = block) && x.2) = some x)
    (hq : s.fab.regHeld.find? (fun q => q.block = block) = none) : exec (.regAck block) s = .next (s.regDone x.1) := by
  show execRegAck block s = _
  simp only [execRegAck, h, hq]

/-- A hub whose block has acknowledged a write, the oldest write held for it no longer held. -/
def State.regRelease (s : State) (r q : RegReq) : State :=
  (s.regDone r).setFab { (s.regDone r).fab with regHeld := (s.regDone r).fab.regHeld.erase q }

theorem State.regRelease_ends (s : State) (r q : RegReq) :
    s.regRelease r q = { s with fab := (s.regRelease r q).fab } ∧
      (s.regRelease r q).fab.regBusy = s.fab.regBusy.filter (fun y => decide (y.1.block ≠ r.block)) ∧
      (s.regRelease r q).fab.regHeld = s.fab.regHeld.erase q := by
  obtain ⟨hframe, hbusy, hheld⟩ := s.regDone_ends r
  exact ⟨by unfold State.regRelease; rw [hframe]; rfl, hbusy, congrArg (·.erase q) hheld⟩

theorem exec_regAck_of_held (s : State) {block : Nat} {x : RegReq × Bool} {q : RegReq}
    (h : s.fab.regBusy.find? (fun x => decide (x.1.block = block) && x.2) = some x)
    (hq : s.fab.regHeld.find? (fun q => q.block = block) = some q) :
    exec (.regAck block) s = .next ((s.regRelease x.1 q).regGo q) := by
  show execRegAck block s = _
  simp only [execRegAck, h, hq, State.regRelease]

/-- REG_ACK of a block that has taken its write: the write is no longer in flight, and the oldest one held goes next (R315). -/
theorem exec_regAck_of_taken (s : State) {block : Nat} {x : RegReq × Bool}
    (h : s.fab.regBusy.find? (fun x => decide (x.1.block = block) && x.2) = some x) :
    ∃ u : State, u = { s with fab := u.fab } ∧ u.fab.regBusy = s.fab.regBusy.filter (fun y => decide (y.1.block ≠ x.1.block)) ∧
      (∀ q, s.fab.regHeld.find? (fun q => q.block = block) = some q →
        exec (.regAck block) s = .next (u.regGo q) ∧ u.fab.regHeld = s.fab.regHeld.erase q) ∧
      (s.fab.regHeld.find? (fun q => q.block = block) = none →
        exec (.regAck block) s = .next u ∧ u.fab.regHeld = s.fab.regHeld) := by
  cases hq : s.fab.regHeld.find? (fun q => q.block = block) with
  | none =>
    obtain ⟨hframe, hbusy, hheld⟩ := s.regDone_ends x.1
    exact ⟨_, hframe, hbusy, fun _ hs => absurd hs (by simp), fun _ => ⟨exec_regAck_of_alone s h hq, hheld⟩⟩
  | some q =>
    obtain ⟨hframe, hbusy, hheld⟩ := s.regRelease_ends x.1 q
    refine ⟨_, hframe, hbusy, fun q' hs => ?_, fun hn => absurd hn (by simp)⟩
    obtain rfl := Option.some.inj hs
    exact ⟨exec_regAck_of_held s h hq, hheld⟩

/-! ### The write of a field by its access code and class (R8, R10, R11) -/

theorem getLsbD_mergeBits (old v m : Word) {i : Nat} (hi : i < 64) :
    (mergeBits old v m).getLsbD i = if m.getLsbD i then v.getLsbD i else old.getLsbD i := by
  simp only [mergeBits, BitVec.getLsbD_or, BitVec.getLsbD_and, BitVec.getLsbD_not, hi, decide_true, Bool.true_and]
  cases m.getLsbD i <;> simp

/-- The word a register holds after a write of the bits b of a field that takes effect at once. -/
def liveValue (acc : Access) (old v b : Word) : Word :=
  match acc with
  | .rw => mergeBits old v b
  | .w1s => old ||| (v &&& b)
  | .w1c => old &&& ~~~(v &&& b)
  | .wo | .ro => old

/-- The fields a write changes in force: those the host may write whose class is not the boundary's, and every W1C field. -/
def RegField.isLive (f : RegField) : Prop := f.acc ≠ .ro ∧ f.acc ≠ .wo ∧ (f.cls ≠ .b ∨ f.acc = .w1c)

theorem State.fieldWrite_of_untouched (s : State) (key : Nat) {mask : Word} (v : Word) {f : RegField} (h : f.bits mask = 0) :
    s.fieldWrite key mask v f = s := by
  unfold State.fieldWrite
  rw [if_pos h]

theorem State.fieldWrite_of_ro (s : State) (key : Nat) (mask v : Word) {f : RegField} (h : f.acc = .ro) :
    s.fieldWrite key mask v f = s := by
  simp [State.fieldWrite, h]

theorem State.fieldWrite_of_wo (s : State) (key : Nat) (mask v : Word) {f : RegField} (h : f.acc = .wo) (hc : f.cls ≠ .b) :
    s.fieldWrite key mask v f = s := by
  cases hcls : f.cls <;> simp_all [State.fieldWrite]

theorem State.fieldWrite_of_live (s : State) (key : Nat) {mask : Word} (v : Word) {f : RegField} (hf : f.isLive)
    (hb : f.bits mask ≠ 0) : s.fieldWrite key mask v f = s.liveWrite key (liveValue f.acc (s.rv key) v (f.bits mask)) := by
  obtain ⟨hro, hwo, hc⟩ := hf
  unfold State.fieldWrite
  rw [if_neg hb]
  cases hacc : f.acc with
  | w1c => rfl
  | ro => exact absurd hacc hro
  | wo => exact absurd hacc hwo
  | rw => cases hcls : f.cls <;> simp_all [liveValue]
  | w1s => cases hcls : f.cls <;> simp_all [liveValue]

@[simp] theorem liveValue_zero (acc : Access) (old v : Word) : liveValue acc old v 0 = old := by
  cases acc <;> simp only [liveValue, mergeBits, BitVec.ofNat_eq_ofNat, BitVec.and_zero, BitVec.or_zero, BitVec.not_zero,
    BitVec.and_allOnes]

@[simp] theorem State.rv_liveWrite_same (s : State) (key : Nat) (w : Word) : (s.liveWrite key w).rv key = w := by
  simp [State.liveWrite, State.rv]

theorem State.rv_liveWrite_ne (s : State) {key k : Nat} (w : Word) (h : key ≠ k) : (s.liveWrite key w).rv k = s.rv k := by
  simp [State.liveWrite, State.rv, mget_mput_ne _ _ h]

theorem State.rv_fieldWrite_live (s : State) (key : Nat) (mask v : Word) {f : RegField} (hf : f.isLive) :
    (s.fieldWrite key mask v f).rv key = liveValue f.acc (s.rv key) v (f.bits mask) := by
  by_cases hb : f.bits mask = 0
  · rw [s.fieldWrite_of_untouched key v hb, hb, liveValue_zero]
  · rw [s.fieldWrite_of_live key v hf hb, State.rv_liveWrite_same]

theorem getLsbD_fieldWrite_rw (s : State) (key : Nat) (mask v : Word) {f : RegField} (ha : f.acc = .rw) (hc : f.cls ≠ .b) {i : Nat}
    (hi : i < 64) : ((s.fieldWrite key mask v f).rv key).getLsbD i =
      if (f.bits mask).getLsbD i then v.getLsbD i else (s.rv key).getLsbD i := by
  rw [s.rv_fieldWrite_live key mask v (f := f) (by simp [RegField.isLive, ha, hc]), ha]
  exact getLsbD_mergeBits _ _ _ hi

theorem getLsbD_fieldWrite_w1s (s : State) (key : Nat) (mask v : Word) {f : RegField} (ha : f.acc = .w1s) (hc : f.cls ≠ .b) (i : Nat) :
    ((s.fieldWrite key mask v f).rv key).getLsbD i = ((s.rv key).getLsbD i || ((f.bits mask).getLsbD i && v.getLsbD i)) := by
  rw [s.rv_fieldWrite_live key mask v (f := f) (by simp [RegField.isLive, ha, hc]), ha]
  simp only [liveValue, BitVec.getLsbD_or, BitVec.getLsbD_and, Bool.and_comm]

theorem getLsbD_fieldWrite_w1c (s : State) (key : Nat) (mask v : Word) {f : RegField} (ha : f.acc = .w1c) {i : Nat} (hi : i < 64) :
    ((s.fieldWrite key mask v f).rv key).getLsbD i = ((s.rv key).getLsbD i && !((f.bits mask).getLsbD i && v.getLsbD i)) := by
  rw [s.rv_fieldWrite_live key mask v (f := f) (by simp [RegField.isLive, ha]), ha]
  simp only [liveValue, BitVec.getLsbD_and, BitVec.getLsbD_not, hi, decide_true, Bool.true_and, Bool.and_comm]

/-- A live field's write changes its register alone. -/
theorem State.fieldWrite_live_frame (s : State) (key : Nat) (mask v : Word) {f : RegField} (hf : f.isLive) :
    onlyRegs [key] s (s.fieldWrite key mask v f) ∧
      s.fieldWrite key mask v f = { s with regs := (s.fieldWrite key mask v f).regs } := by
  by_cases hb : f.bits mask = 0
  · rw [s.fieldWrite_of_untouched key v hb]
    exact ⟨fun _ _ => rfl, rfl⟩
  · rw [s.fieldWrite_of_live key v hf hb]
    refine ⟨fun k hk => s.rv_liveWrite_ne _ ?_, rfl⟩
    rintro rfl
    exact hk (List.mem_singleton.2 rfl)

theorem State.fieldWrite_of_boundary (s : State) (key : Nat) {mask : Word} (v : Word) {f : RegField} (ha : f.acc = .rw) (hc : f.cls = .b)
    (hb : f.bits mask ≠ 0) :
    s.fieldWrite key mask v f = s.shadowWrite key (mergeBits (mgetD s.shadow key (0, 0)).1 v (f.bits mask))
      ((mgetD s.shadow key (0, 0)).2 ||| f.bits mask) := by
  unfold State.fieldWrite
  rw [if_neg hb, ha, hc]

/-! ### A register's shadow after a boundary field's write -/

/-- The registers a new manifest loads depend on the registers in force, and not on what waits in the shadows. -/
theorem State.loadRegs_regs_congr {s t : State} (h : t.regs = s.regs) (m : Manifest) : (t.loadRegs m).regs = (s.loadRegs m).regs := by
  have hunder : ∀ (a b : State) (k : Nat) (f : Fld) (x : Nat), b.regs = a.regs → (b.underput k f x).regs = (a.underput k f x).regs := by
    intro a b k f x hab
    simp only [State.underput, hab, State.rv_of_regs hab]
  unfold State.loadRegs
  refine List.foldl_rel (r := fun a b : State => a.regs = b.regs) ?_ ?_
  · refine List.foldl_rel (r := fun a b : State => a.regs = b.regs) ?_ ?_
    · simp only [h]
    · intro e _ a b hab
      split
      · exact hunder _ _ _ _ _ hab
      · simp only [hab]
  · intro x _ a b hab
    exact hunder _ _ _ _ _ (hunder _ _ _ _ _ (hunder _ _ _ _ _ hab))

/-- A write put into a shadow leaves what the shadow shows where none waits. -/
theorem State.shadowBase_shadowWrite (s : State) (key k : Nat) (v m : Word) :
    (s.shadowWrite key v m).shadowBase k = s.shadowBase k := by
  unfold State.shadowBase
  simp only [State.rv_of_regs (State.loadRegs_regs_congr (s := s) (t := s.shadowWrite key v m) rfl _)]
  rfl

theorem State.shadowOf_shadowWrite (s : State) (key : Nat) (v m : Word) :
    (s.shadowWrite key v m).shadowOf key = mergeBits (s.shadowBase key) v m := by
  simp only [State.shadowOf, State.shadowBase_shadowWrite]
  simp [State.shadowWrite, mgetD]

/-- A boundary field's write shows in the shadow by the value's bits in the lanes written; no register in force changes (R11). -/
theorem State.fieldWrite_boundary_waits (s : State) (key : Nat) (mask v : Word) {f : RegField} (ha : f.acc = .rw) (hc : f.cls = .b) :
    s.fieldWrite key mask v f = { s with shadow := (s.fieldWrite key mask v f).shadow } ∧
      (∀ i, i < 64 → ((s.fieldWrite key mask v f).shadowOf key).getLsbD i =
        if (f.bits mask).getLsbD i then v.getLsbD i else (s.shadowOf key).getLsbD i) := by
  by_cases hb : f.bits mask = 0
  · rw [s.fieldWrite_of_untouched key v hb, hb]
    exact ⟨rfl, fun i _ => by simp⟩
  · rw [s.fieldWrite_of_boundary key v ha hc hb]
    refine ⟨rfl, fun i hi => ?_⟩
    rw [State.shadowOf_shadowWrite, State.shadowOf, getLsbD_mergeBits _ _ _ hi, getLsbD_mergeBits _ _ _ hi,
      getLsbD_mergeBits _ _ _ hi, BitVec.getLsbD_or]
    cases (f.bits mask).getLsbD i <;> simp

/-! ### The obligation -/

/-- Settles O41: a write's way to its block, what its block does with it, and the write of a field. -/
theorem registerWritesFollowTheirClass : Obligations.RegisterWritesFollowTheirClass := by
  unfold Obligations.RegisterWritesFollowTheirClass
  refine ⟨fun s off size value src tag block => ?_, fun s r => ?_, fun s key mask v f => ?_⟩
  · refine ⟨fun hown => ?_, fun hne => ?_, fun hreset => ?_, exec_registerWrite_of_out s size value, fun hreset hout =>
      ⟨exec_registerWrite_of_asleep s size value hreset hout, fun hawake => ?_⟩, fun _ => exec_regAck_of_taken s,
      exec_regAck_of_none s⟩
    · rw [exec_regWr, s.regSend_of_own hown]
    · obtain ⟨hfly, hframe⟩ := s.regSend_of_elsewhere (r := ⟨blockOfReg off, off, size, value, src, tag⟩) hne
      exact ⟨_, exec_regWr off size value src tag s, hfly, hframe⟩
    · obtain ⟨m, hmsgs, hkind, hdst, -, hframe⟩ := s.regRefuse_answers (firmwareWrite off size value)
      exact ⟨_, m, exec_registerWrite_of_reset s size value hreset, hmsgs, hkind, hdst, hframe⟩
    · obtain ⟨u, hnow, hframe⟩ := s.regNow_takes (firmwareWrite off size value)
      exact ⟨u, (exec_registerWrite_of_awake s size value hreset hout hawake).trans (congrArg _ hnow), hframe⟩
  · refine ⟨fun hreset => ?_, s.regLand_of_out, s.regLand_of_free, s.regGo_asleep_frame, s.regGo_of_awake, s.regTake_of_shut,
      fun hreset hford => ⟨fun _ _ => s.regTake_plain hreset hford, fun hnone => ⟨?_, s.regUse_regs r.off⟩⟩⟩
    · rw [s.regLand_of_reset hreset]
      exact s.regRefuse_answers r
    · rw [s.regTake_of_open hreset hford, State.regWrite_of_reserved _ _ _ hnone]
  · exact ⟨s.fieldWrite_of_ro key mask v, s.fieldWrite_of_wo key mask v,
      fun hro hwo hc => s.fieldWrite_live_frame key mask v ⟨hro, hwo, .inl hc⟩,
      fun ha hc _ => getLsbD_fieldWrite_rw s key mask v ha hc,
      fun ha hc i _ => getLsbD_fieldWrite_w1s s key mask v ha hc i,
      fun ha _ => getLsbD_fieldWrite_w1c s key mask v ha,
      s.fieldWrite_boundary_waits key mask v⟩

end Sys2Proof.Machine
end

section
/-! PROOFS. The steps of a sailing, its time base and what starts and ends with it (02_sailings_and_timetable). -/

namespace Sys2Proof.Machine

open Sys2Proof.Safety
set_option smartUnfolding false

/-! ### No other command moves the time base -/

/-- Where an outcome is a next state, its time base is that of s. -/
def KeepsTime (s : State) (o : Host.Outcome State Fault Refusal) : Prop := ∀ t, o = .next t → t.time = s.time

theorem KeepsTime.next {s t : State} (h : t.time = s.time) : KeepsTime s (.next t) := fun _ hu => Host.Outcome.next.inj hu ▸ h

section
variable {s : State} {a b : Host.Outcome State Fault Refusal}

theorem KeepsTime.ite {c : Prop} [Decidable c] (ha : KeepsTime s a) (hb : KeepsTime s b) : KeepsTime s (if c then a else b) :=
  iteInduction (fun _ => ha) (fun _ => hb)

theorem KeepsTime.opt {α : Type} {o : Option α} {f : α → Host.Outcome State Fault Refusal} (hf : ∀ x, KeepsTime s (f x))
    (hb : KeepsTime s b) : KeepsTime s (Option.casesOn (motive := fun _ => Host.Outcome State Fault Refusal) o b f) := by
  cases o with
  | none => exact hb
  | some x => exact hf x

theorem KeepsTime.list {α : Type} {l : List α} {f : α → List α → Host.Outcome State Fault Refusal} (hb : KeepsTime s b)
    (hf : ∀ x xs, KeepsTime s (f x xs)) : KeepsTime s (List.casesOn (motive := fun _ => Host.Outcome State Fault Refusal) l b f) := by
  cases l with
  | nil => exact hb
  | cons x xs => exact hf x xs

theorem KeepsTime.both {α β : Type} {o : Option α} {p : Option β} {f : α → β → Host.Outcome State Fault Refusal}
    (hf : ∀ x y, KeepsTime s (f x y)) (hb : KeepsTime s b) : KeepsTime s (match o, p with | some x, some y => f x y | _, _ => b) := by
  obtain _ | x := o
  · exact hb
  · obtain _ | y := p
    · exact hb
    · exact hf x y

theorem KeepsTime.bothCons {α β : Type} {o : Option α} {l : List β} {f : α → β → List β → Host.Outcome State Fault Refusal}
    (hf : ∀ x y ys, KeepsTime s (f x y ys)) (hb : KeepsTime s b) :
    KeepsTime s (match o, l with | some x, y :: ys => f x y ys | _, _ => b) := by
  obtain _ | x := o
  · exact hb
  · obtain _ | ⟨y, ys⟩ := l
    · exact hb
    · exact hf x y ys

theorem KeepsTime.trueSome {α : Type} {c : Bool} {o : Option α} {f : α → Host.Outcome State Fault Refusal}
    (hf : ∀ x, KeepsTime s (f x)) (hb : KeepsTime s b) : KeepsTime s (match c, o with | true, some x => f x | _, _ => b) := by
  obtain _ | _ := c
  · exact hb
  · obtain _ | x := o
    · exact hb
    · exact hf x

end

theorem time_ite {s a b : State} {c : Prop} [Decidable c] (ha : a.time = s.time) (hb : b.time = s.time) :
    (if c then a else b).time = s.time := iteInduction (motive := fun t : State => t.time = s.time) (fun _ => ha) (fun _ => hb)

theorem time_opt {α : Type} {s b : State} {o : Option α} {f : α → State} (hf : ∀ x, (f x).time = s.time) (hb : b.time = s.time) :
    State.time (Option.casesOn (motive := fun _ => State) o b f) = s.time := by
  cases o with
  | none => exact hb
  | some x => exact hf x

theorem time_bool {s a b : State} {c : Bool} (ha : a.time = s.time) (hb : b.time = s.time) :
    State.time (Bool.casesOn (motive := fun _ => State) c a b) = s.time := by
  cases c with
  | false => exact ha
  | true => exact hb

theorem execCommitSpill_keepsTime (n : Nat) (s : State) : KeepsTime s (execCommitSpill n s) := by
  unfold execCommitSpill
  split
  · exact .next rfl
  · exact .next rfl
  · exact .next (time_ite rfl (State.commitSpill_time _ _))

theorem execLegStart_keepsTime (te : Nat) (s : State) : KeepsTime s (execLegStart te s) :=
  .ite
  (.next (State.nextLeg_time _ _))
  (.next rfl)

theorem execCopyIssue_keepsTime (part idx : Nat) (s : State) : KeepsTime s (execCopyIssue part idx s) :=
  .ite
  (.next (State.copyIssue_time _ _ _))
  (.next rfl)

theorem execCopyComplete_keepsTime (part idx : Nat) (s : State) : KeepsTime s (execCopyComplete part idx s) :=
  .opt
  (fun _ => .ite
    (.next (time_ite (State.copyWalk_time _ _) rfl))
    (.ite
      (.next (State.copyEnd_time _ _))
      (.ite
        (.next (State.copyMove_time _ _))
        (.next ((State.payFor_time _ _ _ _).trans ((State.openWrites_time _ _ _ _ _ _).trans (State.openReads_time _ _ _ _ _ _)))))))
  (.next rfl)

theorem execSurveyStart_keepsTime (s : State) : KeepsTime s (execSurveyStart s) :=
  .ite
  (.next rfl)
  (.next ((State.setPwr_time _ _).trans ((State.rsetIf_time _ _ _ _ _).trans ((foldl_time _ (fun _ _ => (State.ledgerAdd_time _ _ _ _)) _
      _).trans (State.defer_time _ _)))))

theorem execSurveyItemDone_keepsTime (kind unit value : Nat) (low : Bool) (ch : Nat) (s : State) :
    KeepsTime s (execSurveyItemDone kind unit value low ch s) :=
  .ite
  (.next (time_ite ((State.slackSeen_time _ _).trans ((State.ledgerAdd_time _ _ _ _).trans ((State.radd_time _ _ _ _).trans
      (State.setPwr_time _ _)))) (time_ite ((State.oscSeen_time _ _ _).trans ((State.ledgerAdd_time _ _ _ _).trans ((State.radd_time _ _
      _ _).trans (State.setPwr_time _ _)))) (time_ite ((State.canarySeen_time _ _ _).trans ((State.ledgerAdd_time _ _ _ _).trans
      ((State.radd_time _ _ _ _).trans (State.setPwr_time _ _)))) (time_ite ((State.eyeLow_time _ _ _).trans ((State.ledgerAdd_time _ _ _
      _).trans ((State.radd_time _ _ _ _).trans (State.setPwr_time _ _)))) ((State.ledgerAdd_time _ _ _ _).trans ((State.radd_time _ _ _
      _).trans (State.setPwr_time _ _))))))))
  (.next rfl)

theorem execLegWatchdog_keepsTime (te lost : Nat) (s : State) : KeepsTime s (execLegWatchdog te lost s) :=
  .opt
  (fun _ => .ite
    (.next rfl)
    (.next ((State.teState_time _ _ _).trans ((State.wsStall_time _ _ _).trans ((State.holdStall_time _ _ _).trans
        ((State.busyCycles_time _ _ _).trans ((State.overrun_time _ _).trans (State.cutIns_time _ _))))))))
  (.next rfl)

theorem execEndLeg_keepsTime (te cyc lost : Nat) (s : State) : KeepsTime s (execEndLeg te cyc lost s) :=
  .opt
  (fun _ => .ite
    (.next ((State.teState_time _ _ _).trans ((State.dropLeg_time _ _).trans ((State.holdStall_time _ _ _).trans ((State.busyCycles_time
        _ _ _).trans (State.legEnd_time _ _ _ _ _ _))))))
    (.next rfl))
  (.next rfl)

theorem execMovComplete_keepsTime (te mov : Nat) (s : State) : KeepsTime s (execMovComplete te mov s) :=
  .opt
  (fun _ => .ite
    (.next ((State.setTe_time _ _ _).trans (State.movDo_time _ _ _ _)))
    (.next (State.movOpen_time _ _ _)))
  (.next rfl)

theorem execMmaComplete_keepsTime (te : Nat) (s : State) : KeepsTime s (execMmaComplete te s) :=
  .opt
  (fun _ => .opt
    (fun _ => .ite
      (.next ((State.setLeg_time _ _ _).trans (time_ite (time_ite (State.holdWrite_time _ _ _ _) rfl) ((State.setPh_time _ _ _).trans
          (time_ite (State.holdWrite_time _ _ _ _) rfl)))))
      (.next rfl))
    (.next rfl))
  (.next rfl)

theorem execWsbBlockArrive_keepsTime (te cyc : Nat) (s : State) : KeepsTime s (execWsbBlockArrive te cyc s) :=
  .bothCons
  (fun _ _ _ => .ite
    (.ite
      (.next ((State.feed_time _ _ _).trans ((State.setTe_time _ _ _).trans ((foldl_time _ (fun _ _ => State.legBadRead_time _ _ _ _) _
          _).trans
        ((State.getPieces_time _ _ _ _ _ _).trans (time_opt (fun _ => State.streamOn_time _ _ _) rfl))))))
      (.next ((State.openReads_time _ _ _ _ _ _).trans (time_opt (fun _ => State.streamOn_time _ _ _) rfl))))
    (.next (time_opt (fun _ => State.streamOn_time _ _ _) rfl)))
  (.next (time_opt (fun _ => State.streamOn_time _ _ _) rfl))

theorem execSyncBar_keepsTime (te : Nat) (s : State) : KeepsTime s (execSyncBar te s) :=
  .opt
  (fun _ => .ite
    (.ite
      (.opt
        (fun _ => .ite
          (.ite
            (.next ((State.arrive_time _ _ _ _).trans (State.setLeg_time _ _ _)))
            (.next rfl))
          (.next (State.setLeg_time _ _ _)))
        (.next rfl))
      (.next (State.setLeg_time _ _ _)))
    (.next rfl))
  (.next rfl)

theorem execBarRelease_keepsTime (mask bid : Nat) (s : State) : KeepsTime s (execBarRelease mask bid s) :=
  .opt
  (fun _ => .ite
    (.next rfl)
    (.next rfl))
  (.next rfl)

theorem execSyncFence_keepsTime (te : Nat) (s : State) : KeepsTime s (execSyncFence te s) :=
  .opt
  (fun _ => .ite
    (.ite
      (.next (State.setLeg_time _ _ _))
      (.next rfl))
    (.next rfl))
  (.next rfl)

theorem execLoopRepeat_keepsTime (te : Nat) (s : State) : KeepsTime s (execLoopRepeat te s) :=
  .opt
  (fun _ => .ite
    (.ite
      (.ite
        (.next rfl)
        (.ite
          (.next (State.setLeg_time _ _ _))
          (.next (State.setLeg_time _ _ _))))
      (.next (State.setLeg_time _ _ _)))
    (.next rfl))
  (.next rfl)

theorem execTeFailing_keepsTime (tile phys cause : Nat) (s : State) : KeepsTime s (execTeFailing tile phys cause s) :=
  .ite
  (.next ((State.errBare_time _ _ _ _ _).trans (State.teCap_time _ _ _ _)))
  (.next (State.becomeFailing_time _ _ _ _))

theorem execDescAbort_keepsTime (ring didx : Nat) (s : State) : KeepsTime s (execDescAbort ring didx s) :=
  .next (State.descDo_time _ _ _ _ _ fun _ _ => time_opt
    (fun _ => (State.setCtx_time _ _).trans ((State.legsCut_time _ _).trans (State.ctxEnd_time _ _ _ _)))
    (State.setCtx_time _ _))

theorem execChunkFillDone_keepsTime (ring buf : Nat) (s : State) : KeepsTime s (execChunkFillDone ring buf s) := by
  refine .opt (fun c => .ite (.next rfl) ?_) (.next rfl)
  have hread := s.dmaRead_time [3, ring, c.didx] (ringTen ring) c.src
  generalize s.dmaRead [3, ring, c.didx] (ringTen ring) c.src = x at hread ⊢
  obtain ⟨s1, x⟩ := x
  cases x with
  | wait => exact .next hread
  | fail st d => exact .next ((State.chunkFail_time _ _ _ _).trans hread)
  | ok b => exact .next ((State.startChunks_time _ _).trans ((State.setChunk_time _ _).trans ((State.poolPut_time _ _ _).trans hread)))

theorem execChunkDrainDone_keepsTime (ring buf : Nat) (s : State) : KeepsTime s (execChunkDrainDone ring buf s) := by
  refine .opt (fun c => .ite (.next rfl) (.ite (.ite (.next (State.chunkGone_time _ _)) (.next rfl)) (.ite (.next rfl)
    (.ite (.next (State.chunkGone_time _ _)) ?_)))) (.next rfl)
  have hwrite := s.dmaWrite_time [3, ring, c.didx] (ringTen ring) c.dst (s.poolGet c)
  generalize s.dmaWrite [3, ring, c.didx] (ringTen ring) c.dst (s.poolGet c) = x at hwrite ⊢
  obtain ⟨s1, x⟩ := x
  cases x with
  | wait => exact .next hwrite
  | fail st d => exact .next ((State.chunkFail_time _ _ _ _).trans hwrite)
  | ok b => exact .ite (.next ((State.chunkGone_time _ _).trans hwrite)) (.next ((State.setChunk_time _ _).trans hwrite))

theorem execTranslationWalk_keepsTime (cache tenant va : Nat) (s : State) : KeepsTime s (execTranslationWalk cache tenant va s) := by
  refine .ite (.next rfl) ?_
  generalize (if cache = ringCache then 2 else ((s.partOf tenant).map s.partQc).getD 2) = q
  dsimp only
  have hleaf := s.leaf_time cache q tenant va
  generalize s.leaf cache q tenant va = x at hleaf ⊢
  obtain ⟨s1, x⟩ := x
  cases x with
  | fail => exact .next ((State.walksEnd_time _ _ _ _ _).trans hleaf)
  | ok => exact .next hleaf
  | wait => exact .next hleaf

theorem execPinLoadDone_keepsTime (tenant : Nat) (s : State) : KeepsTime s (execPinLoadDone tenant s) := by
  refine .ite (.next rfl) ?_
  have hwalk := s.pinWalk_time tenant (s.pinPages tenant) (mgetD s.dtu.pinGot tenant [])
  generalize s.pinWalk tenant (s.pinPages tenant) (mgetD s.dtu.pinGot tenant []) = x at hwalk ⊢
  obtain ⟨s1, es, _ | _ | va⟩ := x
  · exact .next ((State.setDtu_time _ _).trans hwalk)
  · exact .next ((State.setDtu_time _ _).trans ((foldl_time _ (fun _ _ => foldl_time _ (fun _ _ => State.tcPut_time _ _ _) _ _) _
        _).trans hwalk))
  · exact .next ((State.rset_time _ _ _ _).trans ((State.rset_time _ _ _ _).trans hwalk))

theorem execTmeasDone_keepsTime (tenant : Nat) (s : State) : KeepsTime s (execTmeasDone tenant s) :=
  .opt
  (fun _ => .ite
    (.next (State.dmaXlate_time _ _ _ _ _))
    (.list
      (.ite
        (.ite
          (.next ((State.tmeasFail_time _ _ _).trans ((State.ringBads_time _ _ _).trans ((State.getPieces_time _ _ _ _ _ _).trans
            ((State.chargeFor_time _ _ _ _).trans ((State.unkeep_time _ _ _ _).trans (State.dmaXlate_time _ _ _ _ _)))))))
          (.next ((State.setSec_time _ _).trans ((State.ringBads_time _ _ _).trans ((State.getPieces_time _ _ _ _ _ _).trans
            ((State.chargeFor_time _ _ _ _).trans ((State.unkeep_time _ _ _ _).trans (State.dmaXlate_time _ _ _ _ _))))))))
        (.next ((State.payFor_time _ _ _ _).trans ((State.openReads_time _ _ _ _ _ _).trans (State.dmaXlate_time _ _ _ _ _)))))
      (fun _ _ => .next ((State.tmeasFail_time _ _ _).trans ((State.pageFails_time _ _ _ _ _).trans (State.dmaXlate_time _ _ _ _ _))))))
  (.next rfl)

theorem execAtsTranslationCompletion_keepsTime (fn page trans : Nat) (ok rd wr : Bool) (s : State) :
    KeepsTime s (execAtsTranslationCompletion fn page trans ok rd wr s) :=
  .ite
  (.ite
    (.next ((State.rset_time _ _ _ _).trans ((State.setDtu_time _ _).trans ((State.tick_time _).trans (State.setDtu_time _ _)))))
    (.next (State.setDtu_time _ _)))
  (.next rfl)

theorem execAtsInvalidateRequest_keepsTime (itag fn page : Nat) (s : State) : KeepsTime s (execAtsInvalidateRequest itag fn page s) :=
  .ite
  (.next (State.radd_time _ _ _ _))
  (.next ((State.rset_time _ _ _ _).trans (State.setDtu_time _ _)))

theorem execAtsInvalidationCompletion_keepsTime (itag : Nat) (s : State) : KeepsTime s (execAtsInvalidationCompletion itag s) :=
  .opt
  (fun _ => .next (time_ite (State.atsComplete_time _ _) rfl))
  (.next rfl)

theorem execSnoopComplete_keepsTime (pa : Nat) (s : State) : KeepsTime s (execSnoopComplete pa s) :=
  .opt
  (fun _ => .next (time_ite (State.snoopEnd_time _ _) rfl))
  (.next rfl)

theorem execData_keepsTime (req pa : Nat) (s : State) : KeepsTime s (execData req pa s) :=
  .opt
  (fun _ => .ite
    (.next (State.wake_time _ _))
    (.ite
      (.next (time_ite (State.agentTake_time _ _) (time_ite ((State.grantFlushed_time _ _ _ _ _).trans (State.agentTake_time _ _))
          ((State.tileInstall_time _ _ _ _ _).trans (State.agentTake_time _ _)))))
      (.ite
        (.next (time_ite ((State.ospErr_time _ _ _ _ _ _).trans (State.agentTake_time _ _)) ((State.ospData_time _ _ _ _ _ _ _).trans
            (State.agentTake_time _ _))))
        (.next (State.agentTake_time _ _)))))
  (.next rfl)

theorem execGnt_keepsTime (req pa : Nat) (s : State) : KeepsTime s (execGnt req pa s) :=
  .opt
  (fun _ => .ite
    (.next (State.wake_time _ _))
    (.ite
      (.next (time_ite ((time_bool
        ((State.touchCopy_time _ _ _).trans (State.setCoh_time _ _))
        (time_opt (fun _ => State.grantFlushed_time _ _ _ _ _) (State.grantGone_time _ _ _))).trans (State.agentTake_time _ _))
        (State.agentTake_time _ _)))
      (.ite
        (.next ((State.ospGnt_time _ _ _ _ _).trans (State.agentTake_time _ _)))
        (.next (State.agentTake_time _ _)))))
  (.next rfl)

theorem execRetry_keepsTime (req pa : Nat) (s : State) : KeepsTime s (execRetry req pa s) :=
  .opt
  (fun _ => .ite
    (.next (State.wake_time _ _))
    (.ite
      (.next ((State.ospMsg_time _ _ _ _ _ _ _ _ _).trans ((State.setCoh_time _ _).trans (State.agentTake_time _ _))))
      (.next ((State.setCoh_time _ _).trans (State.agentTake_time _ _)))))
  (.next rfl)

theorem execWbAck_keepsTime (agent pa : Nat) (s : State) : KeepsTime s (execWbAck agent pa s) :=
  .opt
  (fun _ => .ite
    (.next (State.wake_time _ _))
    (.next (time_ite ((State.ospMsg_time _ _ _ _ _ _ _ _ _).trans (time_ite ((State.setCoh_time _ _).trans (State.agentTake_time _ _))
        (State.agentTake_time _ _))) (time_ite ((State.setCoh_time _ _).trans (State.agentTake_time _ _)) (State.agentTake_time _ _)))))
  (.next rfl)

theorem execSlipSnpTo_keepsTime (slip : Nat) (s : State) : KeepsTime s (execSlipSnpTo slip s) :=
  .opt
  (fun _ => .ite
    (.next ((State.slipDown_time _ _ _).trans (State.cohErr_time _ _ _ _)))
    (.next rfl))
  (.next rfl)

theorem execSlipAgentLoss_keepsTime (slip : Nat) (s : State) : KeepsTime s (execSlipAgentLoss slip s) :=
  .ite
  (.next (time_ite ((State.slipTrain_time _ _).trans ((State.setSl_time _ _ _).trans (State.agentLoss_time _ _))) ((State.setSl_time _ _
      _).trans (State.agentLoss_time _ _))))
  (.next rfl)

theorem execMdata_keepsTime (router tag : Nat) (s : State) : KeepsTime s (execMdata router tag s) :=
  .opt
  (fun _ => .next ((State.nodeAnswer_time _ _ _ _).trans (State.fabTake_time _ _)))
  (.next rfl)

theorem execMwrAck_keepsTime (router tag : Nat) (s : State) : KeepsTime s (execMwrAck router tag s) :=
  .opt
  (fun _ => .next ((State.nodeAck_time _ _ _ _).trans (State.fabTake_time _ _)))
  (.next rfl)

theorem execErrResponse_keepsTime (router tag : Nat) (s : State) : KeepsTime s (execErrResponse router tag s) :=
  .opt
  (fun _ => .next (time_ite ((State.ospErr_time _ _ _ _ _ _).trans (State.agentTake_time _ _)) (State.agentTake_time _ _)))
  (.opt
    (fun _ => .next ((State.nodeAck_time _ _ _ _).trans ((State.nodeAnswer_time _ _ _ _).trans (State.fabTake_time _ _))))
    (.next rfl))

theorem execRegAck_keepsTime (block : Nat) (s : State) : KeepsTime s (execRegAck block s) :=
  .opt
  (fun _ => .opt
    (fun _ => .next ((State.regGo_time _ _).trans ((State.setFab_time _ _).trans (State.regDone_time _ _))))
    (.next (State.regDone_time _ _)))
  (.next rfl)

theorem execErrRec_keepsTime (block cause unit : Nat) (s : State) : KeepsTime s (execErrRec block cause unit s) :=
  .ite
  (.next ((State.showErr_time _).trans ((State.newRec_time _ _).trans ((State.countCe_time _ _ _).trans (State.blockCap_time _ _ _ _)))))
  (.list
    (.next rfl)
    (fun _ _ => .next ((State.showErr_time _).trans ((State.newRec_time _ _).trans (State.setErr_time _ _)))))

theorem execRecordHandled_keepsTime (s : State) : KeepsTime s (execRecordHandled s) :=
  .opt
  (fun _ => .ite
    (.next rfl)
    (.ite
      (.next (State.logOpen_time _))
      (.next ((State.showErr_time _).trans ((State.takeNext_time _).trans ((State.logRec_time _ _).trans (State.setErr_time _ _)))))))
  (.next rfl)

theorem execPartitionReset_keepsTime (part cls src tag : Nat) (s : State) : KeepsTime s (execPartitionReset part cls src tag s) :=
  .ite
  (.ite
    (.next (State.prstAnswer_time _ _ _ _ _))
    (.ite
      (.next (State.radd_time _ _ _ _))
      (.next rfl)))
  (.next rfl)

theorem execFlitCrcError_keepsTime (router port : Nat) (again : Bool) (s : State) :
    KeepsTime s (execFlitCrcError router port again s) :=
  .ite
  (.next rfl)
  (.next (time_ite ((State.setLink_time _ _ _ _).trans ((State.setFab_time _ _).trans ((State.errBare_time _ _ _ _ _).trans
      ((State.radd_time _ _ _ _).trans (State.octCap_time _ _ _))))) ((State.setFab_time _ _).trans ((State.errBare_time _ _ _ _ _).trans
      ((State.radd_time _ _ _ _).trans (State.octCap_time _ _ _))))))

theorem execLinkRetrainDone_keepsTime (router port : Nat) (ok : Bool) (s : State) :
    KeepsTime s (execLinkRetrainDone router port ok s) :=
  .ite
  (.next rfl)
  (.ite
    (.next ((State.setLink_time _ _ _ _).trans (State.setFab_time _ _)))
    (.next ((State.setFab_time _ _).trans ((State.errBare_time _ _ _ _ _).trans ((State.octCap_time _ _ _).trans ((State.radd_time _ _ _
        _).trans ((State.setLink_time _ _ _ _).trans (State.setFab_time _ _))))))))

theorem execWakeRequest_keepsTime (d : Nat) (s : State) : KeepsTime s (execWakeRequest d s) :=
  .ite
  (.next (time_ite ((State.raddOpen_time _ _ _ _).trans ((State.rset_time _ _ _ _).trans (State.setFab_time _ _))) (State.setFab_time _
      _)))
  (.next rfl)

theorem execDomainUp_keepsTime (d : Nat) (s : State) : KeepsTime s (execDomainUp d s) :=
  .ite
  (.next (State.domUp_time _ _))
  (.next rfl)

theorem execWakeFail_keepsTime (d : Nat) (s : State) : KeepsTime s (execWakeFail d s) :=
  .ite
  (.next ((State.fatal_time _ _ _ _).trans (State.octCap_time _ _ _)))
  (.next rfl)

theorem execTollRelease_keepsTime (p q : Nat) (s : State) : KeepsTime s (execTollRelease p q s) :=
  .opt
  (fun _ => .ite
    (.next ((State.inject_time _ _).trans ((State.takeTokens_time _ _ _).trans (State.setFab_time _ _))))
    (.next rfl))
  (.next rfl)

theorem execFordReset_keepsTime (dom other n m : Nat) (s : State) : KeepsTime s (execFordReset dom other n m s) :=
  .ite
  (.next rfl)
  (.next ((State.rset_time _ _ _ _).trans ((State.setFab_time _ _).trans ((State.radd_time _ _ _ _).trans ((State.radd_time _ _ _
      _).trans (State.domTo_time _ _ _))))))

theorem execFordReady_keepsTime (dom other : Nat) (s : State) : KeepsTime s (execFordReady dom other s) :=
  .ite
  (.next ((State.domReady_time _ _).trans ((State.domReady_time _ _).trans (State.setFab_time _ _))))
  (.next rfl)

theorem execLockLost_keepsTime (dom : Nat) (s : State) : KeepsTime s (execLockLost dom s) :=
  .ite
  (.next rfl)
  (.next ((State.rset_time _ _ _ _).trans (time_ite ((State.fatal_time _ _ _ _).trans (State.fordCap_time _ _ _ _)) (time_ite
      (State.slipDown_time _ _ _) (time_ite (time_ite (State.pcieDown_time _ _) rfl) (time_ite rfl (State.twinDown_time _)))))))

theorem execOspFlitReceive_keepsTime (slip : Nat) (flit : List Byte) (s : State) : KeepsTime s (execOspFlitReceive slip flit s) :=
  .ite
  (.next rfl)
  (.ite
    (.next (State.flitBad_time _ _))
    (.ite
      (.next ((State.setTx_time _ _ _).trans (State.ospHear_time _ _ _ _)))
      (.ite
        (.next (time_ite ((State.slipResend_time _ _ _).trans (State.ospHear_time _ _ _ _)) (State.ospHear_time _ _ _ _)))
        (.ite
          (.next (State.flitGood_time _ _ _ _))
          (.ite
            (.next (State.ospHear_time _ _ _ _))
            (.next ((State.flitBad_time _ _).trans (State.ospHear_time _ _ _ _))))))))

theorem execSlipRequest_keepsTime (slip : Nat) (s : State) : KeepsTime s (execSlipRequest slip s) :=
  .list
  (.next rfl)
  (fun _ _ => .ite
    (.next rfl)
    (.ite
      (.next (State.regWake_time _ _))
      (.next ((State.slipServe_time _ _ _).trans ((State.ospFree_time _ _ _).trans (State.setSl_time _ _ _))))))

theorem execSlipRetrainDone_keepsTime (slip rate mods : Nat) (ok : Bool) (s : State) :
    KeepsTime s (execSlipRetrainDone slip rate mods ok s) :=
  .ite
  (.next rfl)
  (.ite
    (.next ((State.ospResend_time _ _ _).trans ((State.domTo_time _ _ _).trans ((State.slipTo_time _ _ _).trans (State.slipRate_time _ _
        _ _)))))
    (.next (State.slipDown_time _ _ _)))

theorem execSlipDiscoveryDone_keepsTime (slip rate mods : Nat) (link : Bool) (desc : List Byte) (s : State) :
    KeepsTime s (execSlipDiscoveryDone slip rate mods link desc s) :=
  .ite
  (.next rfl)
  (.ite
    (.ite
      (.next ((State.setSl_time _ _ _).trans (State.slipFound_time _ _ _ _ _ _)))
      (.next ((State.ospStart_time _ _).trans ((State.domTo_time _ _ _).trans ((State.slipTo_time _ _ _).trans (State.slipFound_time _ _
          _ _ _ _))))))
    (.next ((State.slipTo_time ((s.slipFound slip rate mods link desc).1.captureAt (R.slipErr slip) capStd 7) slip 4).trans
      (State.slipFound_time _ _ _ _ _ _))))

theorem execStackTempRead_keepsTime (port temp : Nat) (answered : Bool) (s : State) :
    KeepsTime s (execStackTempRead port temp answered s) :=
  .ite
  (.next rfl)
  (.ite
    (.ite
      (.next ((State.takeOut_time _ _ _).trans ((State.setLp_time _ _ _).trans (State.rset_time _ _ _ _))))
      (.next ((State.setLp_time _ _ _).trans ((State.setLp_time _ _ _).trans (State.rset_time _ _ _ _)))))
    (.next (time_ite ((State.takeOut_time _ _ _).trans (State.setLp_time _ _ _)) (State.setLp_time _ _ _))))

theorem execChannelFailing_keepsTime (port ch : Nat) (silent : Bool) (s : State) : KeepsTime s (execChannelFailing port ch silent s) :=
  .ite
  (.next (State.chFail_time _ _ _ _ _))
  (.next rfl)

theorem execSpareCopyDone_keepsTime (port : Nat) (bad : List Nat) (s : State) : KeepsTime s (execSpareCopyDone port bad s) :=
  .opt
  (fun _ => .next ((State.copyNext_time _ _).trans ((State.setLp_time _ _ _).trans ((State.radd_time _ _ _ _).trans (foldl_time _ (fun _
      _ => (State.lineMark_time _ _)) _ _)))))
  (.next rfl)

theorem execStackTakenOut_keepsTime (port : Nat) (s : State) : KeepsTime s (execStackTakenOut port s) :=
  .ite
  (.next (State.takeOut_time _ _ _))
  (.next rfl)

theorem execLrsRetCh_keepsTime (port ch : Nat) (pass : Bool) (s : State) : KeepsTime s (execLrsRetCh port ch pass s) :=
  .ite
  (.next ((State.setLp_time _ _ _).trans (State.putShadow_time _ _ _ _)))
  (.next rfl)

theorem execVaultRegimeChange_keepsTime (vault t : Nat) (s : State) : KeepsTime s (execVaultRegimeChange vault t s) :=
  .ite
  (.next rfl)
  (.ite
    (.next ((State.fatalTrip_time _ _ _ _).trans ((State.captureAt_time _ _ _ _).trans (State.rset_time _ _ _ _))))
    (.next (time_ite ((State.errBare_time _ _ _ _ _).trans ((State.captureAt_time _ _ _ _).trans ((State.setHeap_time _ _).trans
        (State.rset_time _ _ _ _)))) ((State.setHeap_time _ _).trans (State.rset_time _ _ _ _)))))

theorem execRowRepairDone_keepsTime (vault chan bank row : Nat) (found : Bool) (s : State) :
    KeepsTime s (execRowRepairDone vault chan bank row found s) :=
  .ite
  (.next rfl)
  (.ite
    (.next (State.setHeap_time _ _))
    (.ite
      (.next rfl)
      (.next ((State.saveRepair_time _).trans ((State.errBare_time _ _ _ _ _).trans ((State.captureAt_time _ _ _ _).trans
          ((State.radd_time _ _ _ _).trans (State.setHeap_time _ _))))))))

theorem execLlcWayFail_keepsTime (slice way : Nat) (_lines bad : List Nat) (s : State) :
    KeepsTime s (execLlcWayFail slice way _lines bad s) :=
  .ite
  (.next rfl)
  (.next ((State.errBare_time _ _ _ _ _).trans ((State.setHeap_time _ _).trans ((State.captureAt_time _ _ _ _).trans ((foldl_time _ (fun
      _ _ => (State.llcEvict_time _ _)) _ _).trans (foldl_time _ (fun _ _ => (State.wayLineLost_time _ _ _)) _ _))))))

theorem execManifestCheckDone_keepsTime (s : State) : KeepsTime s (execManifestCheckDone s) :=
  .ite
  (.next (time_ite ((State.candidate_time _).trans (State.manCheck_time _)) (time_ite ((State.restartTrain_time _).trans
      (State.manCheck_time _)) (State.manCheck_time _))))
  (.next (State.manCheck_time _))

theorem execVdroop_keepsTime (mv : Nat) (s : State) : KeepsTime s (execVdroop mv s) :=
  .ite
  (.next ((State.voidAll_time _ _ _ _ _ _).trans ((State.pwrCap_time _ _).trans ((State.rset_time _ _ _ _).trans (State.rset_time _ _ _
      _)))))
  (.next (State.rset_time _ _ _ _))

theorem execLogicTempChange_keepsTime (t : Nat) (s : State) : KeepsTime s (execLogicTempChange t s) :=
  .ite
  (.next ((State.fatalTrip_time _ _ _ _).trans ((State.pwrCap_time _ _).trans (State.rset_time _ _ _ _))))
  (.next ((State.setPwr_time _ _).trans (time_ite ((State.errBare_time _ _ _ _ _).trans ((State.pwrCap_time _ _).trans
      ((State.rsetIf_time _ _ _ _ _).trans (State.rset_time _ _ _ _)))) ((State.rsetIf_time _ _ _ _ _).trans (State.rset_time _ _ _ _)))))

theorem execFuses_keepsTime (ms : Nat) (s : State) : KeepsTime s (execFuses ms s) :=
  .ite
  (.next (time_ite ((State.brgTo_time _ _).trans ((State.showFuses_time _).trans (State.beginStep_time _ _ _))) ((State.showFuses_time
      _).trans (State.beginStep_time _ _ _))))
  (.next rfl)

theorem execTwinWindowExpiry_keepsTime (s : State) : KeepsTime s (execTwinWindowExpiry s) :=
  .ite
  (.next (time_ite ((State.enterHeld_time _).trans ((State.rset_time _ _ _ _).trans (State.setBrg_time _ _))) (State.setBrg_time _ _)))
  (.next rfl)

theorem execMemtest_keepsTime (ms : Nat) (rows : List (Nat × Nat × Nat × Nat × Bool)) (banks : List (Nat × Nat × Nat)) (ways tes chans :
    List (Nat × Nat)) (s : State) :
    KeepsTime s (execMemtest ms rows banks ways tes chans s) :=
  .ite
  (.next ((State.writeRepair_time _ _ _ _).trans ((State.each_time _ _ _ fun _ _ => (State.rset_time _ _ _ _).trans
    (State.rset_time _ _ _ _)).trans ((State.clearLines_time _).trans ((State.testRepairs_time _ _ _ _ _ _).trans
    ((State.applyRepair_time _).trans ((State.rset_time _ _ _ _).trans ((State.rset_time _ _ _ _).trans ((State.rset_time _ _ _ _).trans
    ((State.rset_time _ _ _ _).trans (State.beginStep_time _ _ _)))))))))))
  (.next rfl)

theorem execDiscover_keepsTime (ms : Nat) (mism : List Nat) (peer : Nat) (s : State) : KeepsTime s (execDiscover ms mism peer s) :=
  .trueSome
  (fun _ => .next (time_ite
    ((State.waitFor_time _ _).trans ((State.setBrg_time _ _).trans ((State.trainTwin_time _ _).trans ((State.each_time _ _ _
      fun _ _ => State.findStack_time _ _ _ _).trans (State.beginStep_time _ _ _)))))
    ((State.setBrg_time _ _).trans ((State.trainTwin_time _ _).trans ((State.each_time _ _ _
      fun _ _ => State.findStack_time _ _ _ _).trans (State.beginStep_time _ _ _))))))
  (.next rfl)

theorem execCompare_keepsTime (ms : Nat) (s : State) : KeepsTime s (execCompare ms s) :=
  .trueSome
  (fun _ => .ite
    (.next (State.waitFor_time _ _))
    (.ite
      (.next ((State.setBrg_time _ _).trans ((State.beginStep_time _ _ _).trans ((State.compareAll_time _ _).trans
        ((State.waitFor_time _ _).trans (State.beginStep_time _ _ _))))))
      (.next ((State.enterHeld_time _).trans ((State.compareAll_time _ _).trans ((State.waitFor_time _ _).trans (State.beginStep_time _ _
          _)))))))
  (.next rfl)

theorem execReady_keepsTime (ms : Nat) (s : State) : KeepsTime s (execReady ms s) :=
  .both
  (fun _ _ => .ite
    (.opt
      (fun _ => .next ((State.enterHeld_time _).trans (State.rset_time _ _ _ _)))
      (.next ((State.setBrg_time _ _).trans ((State.brgTo_time _ _).trans ((State.beginStep_time _ _ _).trans
        ((State.crossShadow_time _).trans (State.crossNow_time _ _)))))))
    (.next rfl))
  (.next rfl)

theorem execWarmHandoff_keepsTime (s : State) : KeepsTime s (execWarmHandoff s) :=
  .ite
  (.next (State.warmHandoff_time _))
  (.next rfl)

theorem execHandoffTimeout_keepsTime (s : State) : KeepsTime s (execHandoffTimeout s) :=
  .ite
  (.next (State.watchdog_time _))
  (.next rfl)

theorem execMcWdog_keepsTime (s : State) : KeepsTime s (execMcWdog s) :=
  .ite
  (.next rfl)
  (.next (State.watchdog_time _))

theorem execHeartbeatLost_keepsTime (frames : Bool) (s : State) : KeepsTime s (execHeartbeatLost frames s) :=
  .ite
  (.next (time_ite rfl (State.takeover_time _)))
  (.next (time_ite ((State.twinErr_time _ _ _).trans (State.rset_time _ _ _ _)) (time_ite ((State.twinEvt_time _ _).trans
      ((State.twinErr_time _ _ _).trans (State.rset_time _ _ _ _))) ((State.takeover_time _).trans ((State.twinErr_time _ _ _).trans
      (State.rset_time _ _ _ _))))))

theorem execHello_keepsTime (digest role peer serial : Nat) (auth : Bool) (s : State) :
    KeepsTime s (execHello digest role peer serial auth s) :=
  .opt
  (fun _ => .ite
    (.next rfl)
    (.next (time_ite ((State.send_time _ _ _ _).trans ((State.twinCode_time _ _).trans (State.setTwin_time _ _))) ((State.unpairAll_time
        _).trans (time_ite ((State.twinErr_time _ _ _).trans ((State.twinCode_time _ _).trans (State.setTwin_time _ _)))
        ((State.twinCode_time _ _).trans (State.setTwin_time _ _)))))))
  (.next rfl)

theorem execKeyx_keepsTime (s : State) : KeepsTime s (execKeyx s) :=
  .opt
  (fun _ => .ite
    (.next rfl)
    (.next (time_ite ((foldl_time _ (fun _ _ => (State.resync_time _ _)) _ _).trans (time_ite (State.setTwin_time _ _) ((State.rset_time
        _ _ _ _).trans (State.setTwin_time _ _)))) (time_ite (State.setTwin_time _ _) ((State.rset_time _ _ _ _).trans
        (State.setTwin_time _ _))))))
  (.next rfl)

theorem execFerry_keepsTime (typ part key : Nat) (data : List Byte) (s : State) : KeepsTime s (execFerry typ part key data s) :=
  .ite
  (.next rfl)
  (.ite
    (.next (State.setTwin_time _ _))
    (.ite
      (.next rfl)
      (.next ((State.sendAck_time _ _).trans ((State.showBacklog_time _).trans ((State.rset_time _ _ _ _).trans (State.setTwin_time _
          _)))))))

theorem execFerryRun_keepsTime (s : State) : KeepsTime s (execFerryRun s) :=
  .ite
  (.next (State.ferryRun_time _))
  (.next rfl)

theorem execAck_keepsTime (last backlog : Nat) (overfl mism : List Nat) (s : State) :
    KeepsTime s (execAck last backlog overfl mism s) :=
  .ite
  (.next rfl)
  (.next (time_ite ((State.unpairAll_time _).trans ((foldl_time _ (fun _ _ => (State.diverge_time _ _ _)) _ _).trans ((foldl_time _ (fun
      _ _ => (State.overAct_time _ _ _)) _ _).trans ((State.rset_time _ _ _ _).trans (State.setTwin_time _ _))))) ((foldl_time _ (fun _ _
      => (State.diverge_time _ _ _)) _ _).trans ((foldl_time _ (fun _ _ => (State.overAct_time _ _ _)) _ _).trans ((State.rset_time _ _ _
      _).trans (State.setTwin_time _ _))))))

theorem execCopy_keepsTime (pa : Nat) (data : List Byte) (s : State) : KeepsTime s (execCopy pa data s) :=
  .ite
  (.next rfl)
  (.ite
    (.next ((State.payFor_time _ _ _ _).trans (State.openWrites_time _ _ _ _ _ _)))
    (.next ((State.moverWrite_time _ _ _ _ _ _).trans ((State.chargeFor_time _ _ _ _).trans ((time_opt
      (fun _ => time_ite rfl ((State.setTwinPart_time _ _ _).trans (State.unpair_time _ _ _))) rfl).trans
      (time_ite ((foldl_time _ (fun _ _ => State.unpair_time _ _ _) _ _).trans (State.rset_time _ _ _ _)) rfl))))))

theorem execMreq_keepsTime (write : Bool) (pa len tag : Nat) (data : List Byte) (s : State) :
    KeepsTime s (execMreq write pa len tag data s) :=
  .ite
  (.next rfl)
  (.ite
    (.next (State.mreq_time _ _ _ _ _ _))
    (.next ((State.payFor_time _ _ _ _).trans (time_ite (State.openWrites_time _ _ _ _ _ _) (State.openReads_time _ _ _ _ _ _)))))

theorem execStepdown_keepsTime (s : State) : KeepsTime s (execStepdown s) :=
  .ite
  (.next (State.takeover_time _))
  (.next rfl)

theorem execTakeoverRequest_keepsTime (s : State) : KeepsTime s (execTakeoverRequest s) :=
  .ite
  (.next (State.stepDown_time _))
  (.next rfl)

theorem execResyncSwitch_keepsTime (part : Nat) (s : State) : KeepsTime s (execResyncSwitch part s) :=
  .ite
  (.next (State.pairPart_time _ _))
  (.next rfl)

theorem execTwinLinkDown_keepsTime (s : State) : KeepsTime s (execTwinLinkDown s) :=
  .ite
  (.next rfl)
  (.next (State.twinDown_time _))

theorem execBacklogOverflow_keepsTime (replay : Bool) (s : State) : KeepsTime s (execBacklogOverflow replay s) :=
  .ite
  (.next ((State.twinEvt_time _ _).trans ((State.twinErr_time _ _ _).trans (State.unpairAll_time _))))
  (.next rfl)

theorem execSweepDone_keepsTime (owner : Nat) (s : State) : KeepsTime s (execSweepDone owner s) :=
  .opt
  (fun _ => .ite
    (.next (State.cleanNow_time _))
    (.next ((State.setSec_time _ _).trans (State.cleanNow_time _))))
  (.next (State.cleanNow_time _))

theorem execScrubDone_keepsTime (owner : Nat) (s : State) : KeepsTime s (execScrubDone owner s) :=
  .opt
  (fun _ => .ite
    (.next (State.cleanNow_time _))
    (.next ((State.setSec_time _ _).trans (State.cleanNow_time _))))
  (.next (State.cleanNow_time _))

theorem execLockInterface_keepsTime (tenant stream : Nat) (s : State) : KeepsTime s (execLockInterface tenant stream s) :=
  .ite
  (.next (State.tdispFail_time _ _))
  (.ite
    (.next ((State.tdisp_time _ _ _ _).trans ((State.setTdi_time _ _ _).trans ((State.setSec_time _ _).trans (State.draw_time _)))))
    (.next ((State.tdispErr_time _ _).trans (State.rset_time _ _ _ _))))

theorem execGetDeviceInterfaceReport_keepsTime (tenant : Nat) (s : State) : KeepsTime s (execGetDeviceInterfaceReport tenant s) :=
  .ite
  (.next (State.tdisp_time _ _ _ _))
  (.next (State.tdispFail_time _ _))

theorem execStartInterface_keepsTime (tenant nonce : Nat) (s : State) : KeepsTime s (execStartInterface tenant nonce s) :=
  .ite
  (.next ((State.tdisp_time _ _ _ _).trans ((State.setTdi_time _ _ _).trans (State.setSec_time _ _))))
  (.next (State.tdispFail_time _ _))

theorem execSpdmGetCertificate_keepsTime (slot off len : Nat) (s : State) : KeepsTime s (execSpdmGetCertificate slot off len s) :=
  .ite
  (.next (State.spdm_time _ _ _ _ _))
  (.next (State.spdmErr_time _ _))

theorem execSpdmChallenge_keepsTime (slot : Nat) (nonce : List Byte) (s : State) : KeepsTime s (execSpdmChallenge slot nonce s) :=
  .ite
  (.next (State.spdmSigned_time _ _ _ _ _))
  (.next (State.spdmErr_time _ _))

theorem execSpdmGetMeasurements_keepsTime (index : Nat) (nonce : List Byte) (s : State) :
    KeepsTime s (execSpdmGetMeasurements index nonce s) :=
  .ite
  (.next (State.spdmSigned_time _ _ _ _ _))
  (.opt
    (fun _ => .next (State.spdmSigned_time _ _ _ _ _))
    (.next (State.spdmErr_time _ _)))

theorem execSpdmKeyExchange_keepsTime (transport : Nat) (exchange : List Byte) (s : State) :
    KeepsTime s (execSpdmKeyExchange transport exchange s) :=
  .ite
  (.next (State.spdmErr_time _ _))
  (.next ((State.spdmSigned_time _ _ _ _ _).trans (State.setSec_time _ _)))

theorem execGetPqSig_keepsTime (s : State) : KeepsTime s (execGetPqSig s) :=
  .opt
  (fun _ => .next (State.spdm_time _ _ _ _ _))
  (.next (State.spdmErr_time _ _))

theorem execDbgExpire_keepsTime (s : State) : KeepsTime s (execDbgExpire s) :=
  .ite
  (.next (State.revokeDebug_time _))
  (.next rfl)

theorem execPcieCompletion_keepsTime (fn tag st : Nat) (poison : Bool) (count : Nat) (data : List Byte) (s : State) :
    KeepsTime s (execPcieCompletion fn tag st poison count data s) :=
  .opt
  (fun _ => .opt
    (fun _ => .opt
      (fun _ => .next ((State.afterTag_time _).trans ((State.cplAer_time _ _).trans (State.readFails_time _ _ _ _))))
      (.next ((State.afterTag_time _).trans (State.pieceIn_time _ _ _ _))))
    (.next rfl))
  (.opt
    (fun _ => .both
      (fun _ _ => .next ((State.afterTag_time _).trans ((State.cplAer_time _ _).trans (State.hostFail_time _ _ _))))
      (.next (State.afterTag_time _)))
    (.opt
      (fun _ => .next (State.lateCpl_time _ _ _))
      (.next (time_ite (State.lateCpl_time _ _ _) rfl))))

theorem execCompletionTimeout_keepsTime (tag : Nat) (s : State) : KeepsTime s (execCompletionTimeout tag s) :=
  .opt
  (fun _ => .next ((State.afterTag_time _).trans ((State.aer_time _ _ _).trans (State.readFails_time _ _ _ _))))
  (.opt
    (fun _ => .opt
      (fun _ => .next ((State.afterTag_time _).trans ((State.aer_time _ _ _).trans (State.hostFail_time _ _ _))))
      (.next (State.afterTag_time _)))
    (.next rfl))

theorem execL0pEntry_keepsTime (s : State) : KeepsTime s (execL0pEntry s) :=
  .ite
  (.next ((State.rset_time _ _ _ _).trans (State.rset_time _ _ _ _)))
  (.next rfl)

theorem execL1Entry_keepsTime (sub : Bool) (s : State) : KeepsTime s (execL1Entry sub s) :=
  .ite
  (.next (State.rset_time _ _ _ _))
  (.next rfl)

theorem execTwinLinkUp_keepsTime (s : State) : KeepsTime s (execTwinLinkUp s) :=
  .ite
  (.next rfl)
  (.next ((State.sendHello_time _).trans (time_ite ((State.waitFor_time _ _).trans ((State.domTo_time _ _ _).trans (State.rset_time _ _ _
      _))) ((State.domTo_time _ _ _).trans (State.rset_time _ _ _ _)))))

theorem execTwinFrameError_keepsTime (s : State) : KeepsTime s (execTwinFrameError s) :=
  .ite
  (.next rfl)
  (.next ((State.twinErr_time _ _ _).trans ((State.send_time _ _ _ _).trans (State.radd_time _ _ _ _))))

theorem execPcieLinkUp_keepsTime (rate width eq : Nat) (flit : Bool) (s : State) : KeepsTime s (execPcieLinkUp rate width eq flit s) :=
  .ite
  (.next rfl)
  (.next ((State.showTags_time _).trans ((State.pumpTags_time _ _).trans ((State.domTo_time _ _ _).trans ((State.rset_time _ _ _ _).trans
      ((State.rset_time _ _ _ _).trans ((State.rset_time _ _ _ _).trans (State.rset_time _ _ _ _))))))))

theorem execFirmwareResume_keepsTime (s : State) : KeepsTime s (execFirmwareResume s) :=
  .ite
  (.next (State.fwResume_time _))
  (.next rfl)

theorem execPartitionResetEntry_keepsTime (part : Nat) (s : State) : KeepsTime s (execPartitionResetEntry part s) :=
  .ite
  (.next rfl)
  (.next ((State.rset_time _ _ _ _).trans ((State.setPart_time _ _ _).trans ((State.setRings_time _ _).trans ((foldl_time _ (fun _ _ =>
      ((State.teState_time _ _ _).trans ((State.setTe_time _ _ _).trans (State.teFlagsClr_time _ _)))) _ _).trans ((State.showTc_time _ _
      _).trans (foldl_time _ (fun _ _ => (State.flushTile_time _ _)) _ _)))))))

/-- Every command but those that R23 to R37 give the time base to leaves it alone. -/
theorem exec_keepsTime (c : Instr) (s : State) (h : ¬ movesTime c) : KeepsTime s (exec c s) := by
  cases c with
  | sailingBoundary => exact absurd trivial h
  | commitC1 => exact absurd trivial h
  | commitC2 => exact absurd trivial h
  | commitSpill n => exact execCommitSpill_keepsTime n s
  | intakeI0 => exact absurd trivial h
  | intakeI1 => exact absurd trivial h
  | intakeI2 => exact absurd trivial h
  | intakeI3 => exact absurd trivial h
  | intakeI4 => exact absurd trivial h
  | runStart => exact absurd trivial h
  | legStart te => exact execLegStart_keepsTime te s
  | copyIssue part idx => exact execCopyIssue_keepsTime part idx s
  | copyComplete part idx => exact execCopyComplete_keepsTime part idx s
  | quietStart => exact absurd trivial h
  | surveyStart => exact execSurveyStart_keepsTime s
  | surveyItemDone kind unit value low ch => exact execSurveyItemDone_keepsTime kind unit value low ch s
  | legWatchdog te lost => exact execLegWatchdog_keepsTime te lost s
  | endLeg te cyc lost => exact execEndLeg_keepsTime te cyc lost s
  | movComplete te mov => exact execMovComplete_keepsTime te mov s
  | mmaComplete te => exact execMmaComplete_keepsTime te s
  | wsbBlockArrive te cyc => exact execWsbBlockArrive_keepsTime te cyc s
  | syncBar te => exact execSyncBar_keepsTime te s
  | barRelease mask bid => exact execBarRelease_keepsTime mask bid s
  | syncFence te => exact execSyncFence_keepsTime te s
  | loopRepeat te => exact execLoopRepeat_keepsTime te s
  | teFailing tile phys cause => exact execTeFailing_keepsTime tile phys cause s
  | descAbort ring didx => exact execDescAbort_keepsTime ring didx s
  | chunkFillDone ring buf => exact execChunkFillDone_keepsTime ring buf s
  | chunkDrainDone ring buf => exact execChunkDrainDone_keepsTime ring buf s
  | translationWalk cache tenant va => exact execTranslationWalk_keepsTime cache tenant va s
  | pinLoadDone tenant => exact execPinLoadDone_keepsTime tenant s
  | tmeasDone tenant => exact execTmeasDone_keepsTime tenant s
  | atsTranslationCompletion fn page tranId ok rd wr => exact execAtsTranslationCompletion_keepsTime fn page tranId ok rd wr s
  | atsInvalidateRequest itag fn page => exact execAtsInvalidateRequest_keepsTime itag fn page s
  | atsInvalidationCompletion itag => exact execAtsInvalidationCompletion_keepsTime itag s
  | snoopComplete pa => exact execSnoopComplete_keepsTime pa s
  | data req pa => exact execData_keepsTime req pa s
  | gnt req pa => exact execGnt_keepsTime req pa s
  | retry req pa => exact execRetry_keepsTime req pa s
  | wbAck agent pa => exact execWbAck_keepsTime agent pa s
  | slipSnpTo slip => exact execSlipSnpTo_keepsTime slip s
  | slipAgentLoss slip => exact execSlipAgentLoss_keepsTime slip s
  | mdata router tag => exact execMdata_keepsTime router tag s
  | mwrAck router tag => exact execMwrAck_keepsTime router tag s
  | errResponse router tag => exact execErrResponse_keepsTime router tag s
  | regAck block => exact execRegAck_keepsTime block s
  | errRec block cause unit => exact execErrRec_keepsTime block cause unit s
  | recordHandled => exact execRecordHandled_keepsTime s
  | partitionReset part cls src tag => exact execPartitionReset_keepsTime part cls src tag s
  | flitCrcError router port again => exact execFlitCrcError_keepsTime router port again s
  | linkRetrainDone router port ok => exact execLinkRetrainDone_keepsTime router port ok s
  | wakeRequest d => exact execWakeRequest_keepsTime d s
  | domainUp d => exact execDomainUp_keepsTime d s
  | wakeFail d => exact execWakeFail_keepsTime d s
  | tollRelease p q => exact execTollRelease_keepsTime p q s
  | fordOverrun => exact absurd trivial h
  | fordReset dom other n m => exact execFordReset_keepsTime dom other n m s
  | fordReady dom other => exact execFordReady_keepsTime dom other s
  | lockLost dom => exact execLockLost_keepsTime dom s
  | ospFlitReceive slip flit => exact execOspFlitReceive_keepsTime slip flit s
  | slipRequest slip => exact execSlipRequest_keepsTime slip s
  | slipRetrainDone slip rate mods ok => exact execSlipRetrainDone_keepsTime slip rate mods ok s
  | slipDiscoveryDone slip rate mods link desc => exact execSlipDiscoveryDone_keepsTime slip rate mods link desc s
  | stackTempRead port temp answered => exact execStackTempRead_keepsTime port temp answered s
  | channelFailing port ch silent => exact execChannelFailing_keepsTime port ch silent s
  | spareCopyDone port bad => exact execSpareCopyDone_keepsTime port bad s
  | stackTakenOut port => exact execStackTakenOut_keepsTime port s
  | lrsRetCh port ch pass => exact execLrsRetCh_keepsTime port ch pass s
  | vaultRegimeChange vault t => exact execVaultRegimeChange_keepsTime vault t s
  | rowRepairDone vault chan bank row found => exact execRowRepairDone_keepsTime vault chan bank row found s
  | llcWayFail slice way lines bad => exact execLlcWayFail_keepsTime slice way lines bad s
  | manifestCheckDone => exact execManifestCheckDone_keepsTime s
  | kaSupplyLoss => exact absurd trivial h
  | vdroop mv => exact execVdroop_keepsTime mv s
  | logicTempChange t => exact execLogicTempChange_keepsTime t s
  | hubRstN => exact absurd trivial h
  | fuses ms => exact execFuses_keepsTime ms s
  | train => exact absurd trivial h
  | twinWindowExpiry => exact execTwinWindowExpiry_keepsTime s
  | memtest ms rows banks ways tes chans => exact execMemtest_keepsTime ms rows banks ways tes chans s
  | discover ms mism peer => exact execDiscover_keepsTime ms mism peer s
  | compare ms => exact execCompare_keepsTime ms s
  | ready ms => exact execReady_keepsTime ms s
  | warmHandoff => exact execWarmHandoff_keepsTime s
  | handoffTimeout => exact execHandoffTimeout_keepsTime s
  | mcWdog => exact execMcWdog_keepsTime s
  | heartbeatLost frames => exact execHeartbeatLost_keepsTime frames s
  | hello digest role peer serial auth => exact execHello_keepsTime digest role peer serial auth s
  | keyx => exact execKeyx_keepsTime s
  | ferry typ part key data => exact execFerry_keepsTime typ part key data s
  | ferryRun => exact execFerryRun_keepsTime s
  | ack last backlog overfl mism => exact execAck_keepsTime last backlog overfl mism s
  | copy pa data => exact execCopy_keepsTime pa data s
  | mreq write pa len tag data => exact execMreq_keepsTime write pa len tag data s
  | stepdown => exact execStepdown_keepsTime s
  | takeoverRequest => exact execTakeoverRequest_keepsTime s
  | resyncSwitch part => exact execResyncSwitch_keepsTime part s
  | twinLinkDown => exact execTwinLinkDown_keepsTime s
  | backlogOverflow replay => exact execBacklogOverflow_keepsTime replay s
  | sweepDone owner => exact execSweepDone_keepsTime owner s
  | scrubDone owner => exact execScrubDone_keepsTime owner s
  | lockInterface tenant stream => exact execLockInterface_keepsTime tenant stream s
  | getDeviceInterfaceReport tenant => exact execGetDeviceInterfaceReport_keepsTime tenant s
  | startInterface tenant nonce => exact execStartInterface_keepsTime tenant nonce s
  | spdmGetCertificate slot off len => exact execSpdmGetCertificate_keepsTime slot off len s
  | spdmChallenge slot nonce => exact execSpdmChallenge_keepsTime slot nonce s
  | spdmGetMeasurements index nonce => exact execSpdmGetMeasurements_keepsTime index nonce s
  | spdmKeyExchange transport exchange => exact execSpdmKeyExchange_keepsTime transport exchange s
  | getPqSig => exact execGetPqSig_keepsTime s
  | dbgExpire => exact execDbgExpire_keepsTime s
  | pcieCompletion fn tag st poison count data => exact execPcieCompletion_keepsTime fn tag st poison count data s
  | completionTimeout tag => exact execCompletionTimeout_keepsTime tag s
  | l0pEntry => exact execL0pEntry_keepsTime s
  | l1Entry sub => exact execL1Entry_keepsTime sub s
  | twinLinkUp => exact execTwinLinkUp_keepsTime s
  | twinFrameError => exact execTwinFrameError_keepsTime s
  | pcieLinkUp rate width eq flit => exact execPcieLinkUp_keepsTime rate width eq flit s
  | firmwareResume => exact execFirmwareResume_keepsTime s
  | partitionResetEntry part => exact execPartitionResetEntry_keepsTime part s
  | movLoad _ => exact .next (State.issueMem_time _ _ _)
  | movStore _ => exact .next (State.issueMem_time _ _ _)
  | movHcopy _ => exact .next (State.issueLocal_time _ _ _)
  | movZero _ => exact .next (State.issueLocal_time _ _ _)
  | mmaAcc _ _ => exact .next (State.mma_time _ _ _ _)
  | mmaAccDrain _ _ => exact .next (State.mma_time _ _ _ _)
  | mmaDrain _ _ => exact .next (State.mma_time _ _ _ _)
  | mmaClear _ _ => exact .next (State.mma_time _ _ _ _)
  | vecAdd _ => exact .next (State.vecOp_time _ _ _ _)
  | vecSub _ => exact .next (State.vecOp_time _ _ _ _)
  | vecMul _ => exact .next (State.vecOp_time _ _ _ _)
  | vecFma _ => exact .next (State.vecOp_time _ _ _ _)
  | vecMin _ => exact .next (State.vecOp_time _ _ _ _)
  | vecMax _ => exact .next (State.vecOp_time _ _ _ _)
  | vecAbs _ => exact .next (State.vecOp_time _ _ _ _)
  | vecNeg _ => exact .next (State.vecOp_time _ _ _ _)
  | vecAnd _ => exact .next (State.vecOp_time _ _ _ _)
  | vecOr _ => exact .next (State.vecOp_time _ _ _ _)
  | vecXor _ => exact .next (State.vecOp_time _ _ _ _)
  | vecShl _ => exact .next (State.vecOp_time _ _ _ _)
  | vecShr _ => exact .next (State.vecOp_time _ _ _ _)
  | vecSra _ => exact .next (State.vecOp_time _ _ _ _)
  | vecCmpeq _ => exact .next (State.vecOp_time _ _ _ _)
  | vecCmplt _ => exact .next (State.vecOp_time _ _ _ _)
  | vecCmple _ => exact .next (State.vecOp_time _ _ _ _)
  | vecSelect _ => exact .next (State.vecOp_time _ _ _ _)
  | vecExp _ => exact .next (State.vecOp_time _ _ _ _)
  | vecLog _ => exact .next (State.vecOp_time _ _ _ _)
  | vecRcp _ => exact .next (State.vecOp_time _ _ _ _)
  | vecRsqrt _ => exact .next (State.vecOp_time _ _ _ _)
  | vecSqrt _ => exact .next (State.vecOp_time _ _ _ _)
  | vecTanh _ => exact .next (State.vecOp_time _ _ _ _)
  | vecLd _ => exact .next (State.issue_time _ _ _ _ _ _ (by simp))
  | vecSt _ => exact .next (State.issue_time _ _ _ _ _ _ (by simp))
  | vecRand _ => exact .next (State.rand_time _ _ _ _)
  | vecRandu _ => exact .next (State.rand_time _ _ _ _)
  | cvtCast _ => exact .next (State.cvt_time _ _ _ _)
  | cvtScale _ => exact .next (State.cvt_time _ _ _ _)
  | cvtQuant _ => exact .next (State.cvt_time _ _ _ _)
  | cvtQscale _ => exact .next (State.cvt_time _ _ _ _)
  | redSum _ => exact .next (State.red_time _ _ _ _)
  | redMax _ => exact .next (State.red_time _ _ _ _)
  | redSoftmax _ => exact .next (State.red_time _ _ _ _)
  | redRmsnorm _ => exact .next (State.red_time _ _ _ _)
  | redLayernorm _ => exact .next (State.red_time _ _ _ _)
  | redArgmax _ => exact .next (State.red_time _ _ _ _)
  | redTopk _ => exact .next (State.red_time _ _ _ _)
  | predCmp _ => exact .next (State.predOp_time _ _ _ _ _)
  | predVcmp _ => exact .next (State.predOp_time _ _ _ _ _)
  | predAnd _ => exact .next (State.predOp_time _ _ _ _ _)
  | predOr _ => exact .next (State.predOp_time _ _ _ _ _)
  | predNot _ => exact .next (State.predOp_time _ _ _ _ _)
  | predSet _ => exact .next (State.predOp_time _ _ _ _ _)
  | doorbell _ _ _ _ => exact .next (time_ite (State.stall_time _ _) (State.doorbell_time _ _ _ _ _))
  | descRun _ _ => exact .next (State.descDo_time _ _ _ _ _ (by simp))
  | descXfer _ _ => exact .next (State.descDo_time _ _ _ _ _ (by simp))
  | descLoadProg _ _ => exact .next (State.descDo_time _ _ _ _ _ (by simp))
  | dtuInvPage _ _ _ _ => exact .next (time_ite (State.invAccept_time _ _ _) rfl)
  | dtuInvTenant _ _ _ => exact .next (time_ite (State.invAccept_time _ _ _) rfl)
  | dtuInvAll _ _ => exact .next (time_ite (State.invAccept_time _ _ _) rfl)
  | tfqPop _ => exact .next (State.tfqPop_time _ _)
  | tinvClr _ => exact .next (State.tinvClr_time _ _)
  | tmeasGo _ => exact .next (State.tmeasGo_time _ _)
  | rds _ _ _ _ _ _ _ => exact .next ((State.reqFrom_time _ _ _).trans (time_ite (State.tcUe_time _ _ _ _) rfl))
  | rdo _ _ _ _ _ _ => exact .next (State.reqFrom_time _ _ _)
  | upg _ _ _ _ _ _ => exact .next (State.reqFrom_time _ _ _)
  | rdc _ _ _ _ _ _ _ => exact .next (State.reqFrom_time _ _ _)
  | wri _ _ _ _ _ _ _ => exact .next (State.reqFrom_time _ _ _)
  | wrp _ _ _ _ _ _ _ _ => exact .next (State.reqFrom_time _ _ _)
  | wb _ _ _ => exact .next (State.wbArrive_time _ _ _ _ _)
  | evct _ _ => exact .next (State.evctArrive_time _ _ _ _)
  | compAck _ _ => exact .next (State.compAckFrom_time _ _ _)
  | snoopAtStop _ _ _ => exact .next ((State.snoopAt_time _ _ _).trans (time_ite (State.snoopUe_time _ _ _) rfl))
  | snpRsp _ _ _ _ _ _ _ => exact .next (State.toHome_time _ _)
  | snpData _ _ _ _ => exact .next (State.snpData_time _ _ _ _ _)
  | mrd _ _ _ _ _ _ _ => exact .next (State.memSend_time _ _)
  | mwr _ _ _ _ _ _ _ _ => exact .next (State.memSend_time _ _)
  | regWr _ _ _ _ _ => exact .next (State.regSend_time _ _)
  | errCaptureClear _ => exact .next (State.clearCapture_time _ _)
  | fatal _ _ _ => exact .next ((State.fatal_time _ _ _ _).trans (State.blockCap_time _ _ _ _))
  | hdrUe _ => exact .next ((State.fatal_time _ _ _ _).trans (State.octCap_time _ _ _))
  | dataUe _ _ _ _ =>
    exact .next ((State.damage_time _ _ _).trans ((State.memUe_time _ _ _ _ _ _).trans ((State.voidFor_time _ _ _ _ _ _ _).trans
        (State.octCap_time _ _ _))))
  | feedbackScaleUpdate _ _ =>
    exact .next ((State.showScale_time _).trans ((State.rset_time _ _ _ _).trans ((State.setFab_time _ _).trans (time_ite
        ((State.cleanTick_time _).trans (State.settleAll_time _)) (State.settleAll_time _)))))
  | trefLost => exact .next ((State.fatal_time _ _ _ _).trans (State.fordCap_time _ _ _ _))
  | ospReplay _ _ => exact .next (time_ite (State.slipResend_time _ _ _) rfl)
  | creditTo _ => exact .next (time_ite (State.slipDown_time _ _ _) rfl)
  | memTo _ _ => exact .next (time_ite (State.slipDown_time _ _ _) rfl)
  | slipLinkError _ => exact .next (time_ite (State.slipRetrain_time _ _) rfl)
  | slipDown _ => exact .next (time_ite (State.slipDown_time _ _ _) rfl)
  | slipSidebandLinkDown _ => exact .next (time_ite (State.slipDown_time _ _ _) rfl)
  | slipRetrain _ => exact .next (State.slipRetry_time _ _)
  | slipClr _ => exact .next (State.slipClr_time _ _)
  | lrsSpareCh _ _ => exact .next (time_ite (State.putShadow_time _ _ _ _) rfl)
  | lrsReset _ _ => exact .next (State.lrsReset_time _ _ _)
  | lrsClr _ => exact .next (time_ite (State.lrsClr_time _ _) rfl)
  | patrolScrub _ _ _ =>
    exact .next (time_ite ((State.setLp_time _ _ _).trans ((foldl_time _ (fun _ _ => (State.lineUe_time _ _ _)) _ _).trans (foldl_time _
        (fun _ _ => (State.lineCe_time _ _)) _ _))) ((foldl_time _ (fun _ _ => (State.lineUe_time _ _ _)) _ _).trans (foldl_time _ (fun _
        _ => (State.lineCe_time _ _)) _ _)))
  | teReqLane _ _ => exact .next (State.spareShadow_time _ _ _ _)
  | teClrFailed _ _ => exact .next (State.clrFailed_time _ _ _)
  | teClr _ => exact .next (time_ite (State.teClr_time _ _) rfl)
  | tileClr _ => exact .next (time_ite (State.tileClr_time _ _) rfl)
  | cohClr => exact .next (State.cohClr_time _)
  | octClr => exact .next (State.octClr_time _)
  | fordClr => exact .next (State.fordClr_time _)
  | pciClr => exact .next (State.pciClr_time _)
  | qClr => exact .next (State.qClr_time _)
  | pwrClr => exact .next (State.pwrClr_time _)
  | twinClr => exact .next (State.twinClr_time _)
  | registerWrite _ _ _ =>
    exact .next (time_ite (State.regRefuse_time _ _) (time_ite (State.setFab_time _ _) (time_ite (State.regGo_time _ _)
        (State.regNow_time _ _))))
  | stage => exact .next (State.stage_time _)
  | abandon => exact .next (State.abandon_time _)
  | switch => exact .next (State.switchCmd_time _)
  | pwrLeanEnd _ => exact .next (State.leanEnd_time _ _)
  | kaSupplyUnhealthy _ _ => exact .next (time_ite ((State.kaSwitch_time _ _).trans (State.kaShow_time _ _ _)) (State.kaShow_time _ _ _))
  | kaSupplyReturn _ _ => exact .next (time_ite ((State.kaSwitch_time _ _).trans (State.kaShow_time _ _ _)) (State.kaShow_time _ _ _))
  | mainRailFault _ => exact .next ((State.fatal_time _ _ _ _).trans (State.pwrCap_time _ _))
  | keepalivePowerGood =>
    exact .next (time_ite rfl ((State.rset_time _ _ _ _).trans ((State.domTo_time _ _ _).trans (State.beginStep_time _ _ _))))
  | firmware _ => exact .next (time_ite ((State.romVerdict_time _ _).trans (State.beginStep_time _ _ _)) rfl)
  | rcvLoad => exact .next (State.rcvLoad_time _)
  | candidate _ => exact .next (time_ite ((State.findCandidate_time _).trans (State.beginStep_time _ _ _)) rfl)
  | fullNext => exact .next (State.fullNext_time _)
  | fwLoad => exact .next (State.fwLoad_time _)
  | activate => exact .next (State.fwActivate_time _)
  | heartbeatToggle => exact .next rfl
  | mrsp _ _ _ _ => exact .next (time_ite (State.nodeAck_time _ _ _ _) (State.nodeAnswer_time _ _ _ _))
  | handoff => exact .next rfl
  | takeover => exact .next (State.takeover_time _)
  | twinTakeoverCmd => exact .next (State.twinTakeover_time _)
  | resync _ => exact .next (State.resync_time _ _)
  | rotate _ => exact .next (State.rotateCmd_time _ _)
  | retire _ => exact .next (State.retireCmd_time _ _)
  | drbgFail =>
    exact .next ((State.errBare_time _ _ _ _ _).trans ((State.captureAt_time _ _ _ _).trans ((State.rset_time _ _ _ _).trans
        (State.rset_time _ _ _ _))))
  | ideIntegrity _ =>
    exact .next ((foldl_time _ (fun _ _ => (State.tdiError_time _ _)) _ _).trans ((State.setSec_time _ _).trans ((State.rset_time _ _ _
        _).trans (State.captureAt_time _ _ _ _))))
  | tdispGetVersion _ => exact .next (State.tdisp_time _ _ _ _)
  | tdispGetCapabilities _ => exact .next (State.tdisp_time _ _ _ _)
  | getDeviceInterfaceState _ => exact .next (State.tdisp_time _ _ _ _)
  | stopInterface _ =>
    exact .next (time_ite ((State.teardown_time _ _).trans ((State.tdisp_time _ _ _ _).trans (State.setTdi_time _ _ _)))
        ((State.tdisp_time _ _ _ _).trans (State.setTdi_time _ _ _)))
  | ideKm _ _ => exact .next ((State.send_time _ _ _ _).trans ((State.unsigned_time _).trans (State.setSec_time _ _)))
  | transition _ _ _ _ => exact .next (State.doTransition_time _ _ _ _ _)
  | fuse _ _ _ _ => exact .next (State.doFuse_time _ _ _ _ _)
  | challenge _ => exact .next (State.challenge_time _ _)
  | dbgAuth _ _ => exact .next (State.doAuth_time _ _ _)
  | dbgRevoke _ => exact .next (State.dbgRevoke_time _ _)
  | idcode => exact .next (State.send_time _ _ _ _)
  | bypass => exact .next rfl
  | samplePreload => exact .next (State.tapSelect_time _ _ _ _ (by simp))
  | extest => exact .next (State.tapSelect_time _ _ _ _ (by simp))
  | clamp => exact .next (State.tapSelect_time _ _ _ _ (by simp))
  | highz => exact .next (State.tapSelect_time _ _ _ _ (by simp))
  | lcsAccess _ _ _ => exact .next (State.tapSelect_time _ _ _ _ (by simp))
  | regAccess _ _ _ => exact .next (State.tapSelect_time _ _ _ _ (by simp))
  | wspSelect => exact .next (State.tapSelect_time _ _ _ _ (by simp))
  | traceRead => exact .next (State.tapSelect_time _ _ _ _ (by simp))
  | perst _ => exact .next (State.pcieDown_time _ _)
  | linkTrainingStart => exact .next (time_ite rfl rfl)
  | hostConfigRequest _ _ _ _ _ _ => exact .next (time_ite (State.stall_time _ _) (State.cfgServe_time _ _))
  | vfFlr _ => exact .next (State.cfgAsk_time _ _ _ _ (by simp))
  | pf0Flr => exact .next (State.cfgAsk_time _ _ _ _ (by simp))
  | vfEnableClear => exact .next (State.cfgAsk_time _ _ _ _ (by simp))
  | vfEnableSet => exact .next (State.cfgAsk_time _ _ _ _ (by simp))
  | d3hot => exact .next (State.cfgAsk_time _ _ _ _ (by simp))
  | ltrSend => exact .next (State.ltrSend_time _)
  | hostBar0Access _ _ _ _ _ _ _ _ => exact .next (time_ite (State.stall_time _ _) (State.bar0Serve_time _ _))
  | hostBar2Read _ _ _ _ => exact .next (time_ite (State.stall_time _ _) (State.bar2Serve_time _ _))
  | hostBar2Write _ _ _ => exact .next (time_ite (State.stall_time _ _) (State.bar2Serve_time _ _))
  | tagQuarantineEnd _ => exact .next (State.afterTag_time _)
  | l1Exit => exact .next (time_ite (State.toL0_time _) rfl)
  | hbInToggle => exact .next (State.rset_time _ _ _ _)
  | pcieReceiverError _ => exact .next ((State.errBare_time _ _ _ _ _).trans (State.aer_time _ _ _))
  | l0pExit => exact .next (time_ite (State.toL0_time _) rfl)
  | brgCtlRetry => exact .next (State.brgRetry_time _)
  | drbgOkReturn => exact .next (State.rset_time _ _ _ _)

/-- Settles O6: every command that is none of the sailing's own leaves the time base as it is. -/
theorem onlyTheSailingsOwnStepsMoveTheTimeBase : Obligations.OnlyTheSailingsOwnStepsMoveTheTimeBase := by
  unfold Obligations.OnlyTheSailingsOwnStepsMoveTheTimeBase
  exact fun c s t h ht => exec_keepsTime c s h t ht

end Sys2Proof.Machine
end

section
/-! PROOFS. The steps of a sailing in their order: O9 (02_sailings_and_timetable, R27 to R37). -/

namespace Sys2Proof.Machine

open Sys2Proof.Safety

/-! ### What a step of a sailing does to the time base -/

@[simp] theorem State.enter_time (s : State) (st : Stage) (off phase : Nat) : (s.enter st off phase).time = s.time.toStage st off := by
  unfold State.enter
  rw [State.rset_time]

/-- A late boundary marks the sailing late and changes nothing else of the time base. -/
theorem State.lateBoundary_time (s : State) : s.lateBoundary.time = { s.time with late := true } := by
  unfold State.lateBoundary
  split
  · next h => rw [← h]
  · dsimp only
    split <;> simp

@[simp] theorem State.edge_time (s : State) (unfin : Bool) :
    (s.edge unfin).time = { s.time with late := s.time.late || unfin } := by
  cases unfin <;> simp [State.edge, State.lateBoundary_time]

theorem State.commitC1_time (s : State) (fit : Nat) : (s.commitC1 fit).time = s.time.toStage .c1 4 := by
  unfold State.commitC1
  simp

theorem State.commitC2_time (s : State) (fit : Nat) : (s.commitC2 fit).time = s.time.toStage .c2 4 := by
  unfold State.commitC2
  simp

theorem State.intakeI0_time (s : State) : s.intakeI0.time = s.time.toStage .i0 40 := by
  unfold State.intakeI0
  simp

theorem State.intakeI2_time (s : State) (unfin : Bool) :
    (s.intakeI2 unfin).time = { s.time.toStage .i2 60 with late := s.time.late || unfin } := by
  unfold State.intakeI2
  simp [TimeSt.toStage]

theorem State.intakeI3_time (s : State) (unfin : Bool) :
    (s.intakeI3 unfin).time = { s.time.toStage .i3 70 with late := s.time.late || unfin } := by
  unfold State.intakeI3
  simp [TimeSt.toStage]

theorem State.runStart_time (s : State) : s.runStart.time = s.time.toStage .run 100 := by
  unfold State.runStart
  simp

theorem State.quietStart_time (s : State) :
    s.quietStart.time = s.time.toStage .quiet (s.rf R.sailPeriod F.sailPeriod_PERIOD - s.rf R.sailPeriod F.sailPeriod_QUIET) := by
  unfold State.quietStart
  simp [TimeSt.toStage]

theorem State.after_of_due (s : State) {before : Stage} (f : State → State)
    (h : s.time.stage = before ∧ s.rf R.sailStatus F.sailStatus_TB_RUN = 1) : s.after before f = .next (f s) := by
  unfold State.after
  rw [if_pos h]

theorem State.after_of_not_due (s : State) {before : Stage} (f : State → State)
    (h : ¬ (s.time.stage = before ∧ s.rf R.sailStatus F.sailStatus_TB_RUN = 1)) : s.after before f = .next s := by
  unfold State.after
  rw [if_neg h]

/-- A step that comes after another: taken in its turn it leaves the time base given, out of turn it changes nothing. -/
theorem State.after_in_order (s : State) (before : Stage) (f : State → State) {u : TimeSt} (hf : (f s).time = u) :
    (s.time.stage = before ∧ s.rf R.sailStatus F.sailStatus_TB_RUN = 1 → ∃ t, s.after before f = .next t ∧ t.time = u) ∧
      (¬ (s.time.stage = before ∧ s.rf R.sailStatus F.sailStatus_TB_RUN = 1) → s.after before f = .next s) :=
  ⟨fun h => ⟨f s, s.after_of_due f h, hf⟩, s.after_of_not_due f⟩

/-- Settles O9: each step's meaning is State.after of the step before it, and each enters its own offset. -/
theorem sailingStepsComeInOrder : Obligations.SailingStepsComeInOrder := by
  unfold Obligations.SailingStepsComeInOrder
  intro s n b steps x hx
  simp only [steps, List.mem_cons, List.not_mem_nil, or_false] at hx
  obtain rfl | rfl | rfl | rfl | rfl | rfl | rfl | rfl | rfl := hx
  · exact s.after_in_order .boundary (fun s => s.commitC1 n) (by simp [State.commitC1_time, TimeSt.toStage])
  · exact s.after_in_order .c1 (fun s => s.commitC2 n) (by simp [State.commitC2_time, TimeSt.toStage])
  · exact s.after_in_order .c2 State.intakeI0 (by simp [State.intakeI0_time, TimeSt.toStage])
  · exact s.after_in_order .i0 (fun s => ((s.enter .i1 50 1).edge b).applyI1) (by simp [TimeSt.toStage])
  · exact s.after_in_order .i1 (fun s => s.intakeI2 b) (by simp [State.intakeI2_time, TimeSt.toStage])
  · exact s.after_in_order .i2 (fun s => s.intakeI3 b) (by simp [State.intakeI3_time, TimeSt.toStage])
  · exact s.after_in_order .i3 (fun s => ((s.enter .i4 90 1).edge b).applyI4) (by simp [TimeSt.toStage])
  · exact s.after_in_order .i4 State.runStart (by simp [State.runStart_time, TimeSt.toStage])
  · exact s.after_in_order .run State.quietStart (by simp [State.quietStart_time, TimeSt.toStage])

end Sys2Proof.Machine
end

section
/-! PROOFS. A step on an empty queue: O2 (02_sailings_and_timetable, R23, R24). -/

namespace Sys2Proof.Machine

open Sys2Proof.Safety

/-! ### Cycles in which nothing happens -/

theorem State.fabTick_of_empty (s : State) (h : s.fab.net.live = []) : s.fabTick = s := by
  unfold State.fabTick
  rw [h]
  rfl

theorem State.landAll_of_empty (s : State) (h : s.fab.air = []) : s.landAll = s := by
  have hsame : ({ s.fab with air := [] } : FabSt) = s.fab := by rw [← h]
  unfold State.landAll
  simp only [h, List.filter_nil, List.map_nil]
  rw [hsame]
  rfl

theorem State.regPoll_of_taken (s : State) (h : ∀ x ∈ s.fab.regBusy, x.2 = true) : s.regPoll = s := by
  have hnone : s.fab.regBusy.filter (fun x => !x.2 && !(s.regAsleep x.1.off)) = [] :=
    List.filter_eq_nil_iff.2 fun x hx => by simp [h x hx]
  unfold State.regPoll
  rw [hnone]
  rfl

/-- The fabric stands still where it holds no packet and no register write waits for its domain. -/
theorem State.fabCycle_of_still (s : State) (hlive : s.fab.net.live = []) (hair : s.fab.air = [])
    (hreg : ∀ x ∈ s.fab.regBusy, x.2 = true) : s.fabCycle = s := by
  unfold State.fabCycle
  rw [s.fabTick_of_empty hlive, s.landAll_of_empty hair, s.regPoll_of_taken hreg]

theorem State.ospTick_of_down (s : State) (h : ∀ v, v < 8 → s.slState v ≠ 2) : s.ospTick = s := by
  unfold State.ospTick
  refine List.foldlRecOn (motive := fun t => t = s) _ _ rfl ?_
  rintro t rfl v hv
  exact if_neg (h v (List.mem_range.1 hv))

theorem State.retryHost_of_none (s : State) (h : s.pci.stalled = []) : s.retryHost = s := by
  have hsame : ({ s.pci with stalled := [] } : PciSt) = s.pci := by rw [← h]
  unfold State.retryHost
  split
  · rfl
  · rw [hsame, h]
    rfl

/-! ### The cycle -/

theorem State.idle_time (s : State) : s.idle.time = s.idleTick.time := by
  unfold State.idle
  simp

theorem State.idle_of_still (s : State) (hlive : s.fab.net.live = []) (hair : s.fab.air = [])
    (hreg : ∀ x ∈ s.fab.regBusy, x.2 = true) (hslip : ∀ v, v < 8 → s.slState v ≠ 2) (hhost : s.pci.stalled = []) :
    s.idle = s.idleTick := by
  have hfab : s.idleTick.fab = s.fab ∧ s.idleTick.pci = s.pci ∧ s.idleTick.regs = s.regs := by
    unfold State.idleTick
    split <;> exact ⟨rfl, rfl, rfl⟩
  obtain ⟨hf, hp, hr⟩ := hfab
  have hrun : ∀ n, (List.range n).foldl (fun s _ => s.fabCycle) s.idleTick = s.idleTick := fun n =>
    List.foldlRecOn (motive := fun t => t = s.idleTick) _ _ rfl fun t ht _ _ => by
      rw [ht]
      exact s.idleTick.fabCycle_of_still (by rw [hf, hlive]) (by rw [hf, hair]) (by rwa [hf])
  unfold State.idle
  rw [hrun, State.ospTick_of_down _ (fun v hv => ?_), State.retryHost_of_none _ (by rw [hp, hhost])]
  unfold State.slState
  rw [State.rf_of_regs hr]
  exact hslip v hv

/-- Settles O2: an empty queue's step is State.idle, whose time base is that of State.idleTick. -/
theorem emptyQueueIsOneTclkCycle : Obligations.EmptyQueueIsOneTclkCycle := by
  unfold Obligations.EmptyQueueIsOneTclkCycle
  intro s hq runs next
  have hruns : runs → s.idleTick = { s with time := next } := fun h => if_pos h
  have hstays : ¬ runs → s.idleTick = s := fun h => if_neg h
  refine ⟨s.idle, ?_, by rw [s.idle_pending, hq], s.idle_holds, fun h => ?_, fun h => ?_, rfl, fun hlive hair hreg hslip hhost => ?_⟩
  · unfold step
    rw [hq]
  · rw [s.idle_time, hruns h]
  · rw [s.idle_time, hstays h]
  · rw [s.idle_of_still hlive hair hreg hslip hhost]
    exact ⟨hruns, hstays⟩

end Sys2Proof.Machine
end

section
/-! PROOFS. The boundary and the records that spilled: O10 (R23, R25, R30). -/

namespace Sys2Proof.Machine

open Sys2Proof.Safety

/-! ### The list of records that spilled, through everything that issuing a record does (R30, R445) -/

section

/-- A hub not stopped by FATAL has the list L of records that spilled. -/
def SpillIs (L : List CmpRec) (s : State) : Prop := s.err.fatal = false → s.rings.spill = L

variable {L : List CmpRec}

theorem SpillIs.of_eq {s t : State} (h : SpillIs L s) (herr : t.err.fatal = s.err.fatal) (hspill : t.rings.spill = s.rings.spill) :
    SpillIs L t := fun hf => hspill.trans (h (herr.symm.trans hf))

section
variable {α β : Type} {c : Prop} [Decidable c] {a b : State} {p q : State × β}

theorem SpillIs.ite (ha : SpillIs L a) (hb : SpillIs L b) : SpillIs L (if c then a else b) := iteInduction (fun _ => ha) fun _ => hb

theorem SpillIs.ite1 (hp : SpillIs L p.1) (hq : SpillIs L q.1) : SpillIs L (if c then p else q).1 :=
  iteInduction (motive := fun x : State × β => SpillIs L x.1) (fun _ => hp) fun _ => hq

theorem SpillIs.opt {o : Option α} {f : α → State} (hb : SpillIs L b) (hf : ∀ x, SpillIs L (f x)) :
    SpillIs L (Option.casesOn (motive := fun _ => State) o b f) := by
  cases o with
  | none => exact hb
  | some x => exact hf x

theorem SpillIs.opt1 {o : Option α} {f : α → State × β} (hq : SpillIs L q.1) (hf : ∀ x, SpillIs L (f x).1) :
    SpillIs L (Prod.fst (Option.casesOn (motive := fun _ => State × β) o q f)) := by
  cases o with
  | none => exact hq
  | some x => exact hf x

theorem foldl_spillIs {f : State → α → State} {l : List α} {s : State} (hf : ∀ s x, SpillIs L s → SpillIs L (f s x)) (h : SpillIs L s) :
    SpillIs L (l.foldl f s) := List.foldlRecOn l f h fun s hs x _ => hf s x hs

theorem foldl_fst_spillIs {f : State × β → α → State × β} {l : List α} {p : State × β} (hf : ∀ p x, SpillIs L p.1 → SpillIs L (f p x).1)
    (h : SpillIs L p.1) : SpillIs L (l.foldl f p).1 :=
  List.foldlRecOn (motive := fun p : State × β => SpillIs L p.1) l f h fun p hp x _ => hf p x hp

end

theorem State.rset_spillIs {s : State} (key : Nat) (f : Fld) (x : Nat) (hs : SpillIs L s) : SpillIs L (s.rset key f x) := hs.of_eq rfl rfl

theorem State.radd_spillIs (s : State) (key : Nat) (f : Fld) (n : Nat) (hs : SpillIs L s) : SpillIs L (State.radd s key f n) :=
    State.rset_spillIs _ _ _ hs

theorem State.rinc_spillIs (s : State) (key : Nat) (f : Fld) (n : Nat) (hs : SpillIs L s) : SpillIs L (State.rinc s key f n) :=
    State.rset_spillIs _ _ _ hs

theorem State.setFab_spillIs (s : State) (x : FabSt) (hs : SpillIs L s) : SpillIs L (State.setFab s x) := hs.of_eq rfl rfl

theorem State.rsetIf_spillIs (s : State) (c : Bool) (key : Nat) (f : Fld) (x : Nat) (hs : SpillIs L s) : SpillIs L (State.rsetIf s c key
    f x) := .ite (State.rset_spillIs _ _ _ hs) hs

theorem State.send_spillIs (s : State) (k : OutKind) (args : List Nat) (data : List Byte) (hs : SpillIs L s) : SpillIs L (State.send s k
    args data) := hs.of_eq rfl rfl

theorem State.tick_spillIs (s : State) (hs : SpillIs L s) : SpillIs L (State.tick s) := hs.of_eq rfl rfl

theorem State.raddOpen_spillIs (s : State) (key : Nat) (f : Fld) (n : Nat) (hs : SpillIs L s) : SpillIs L (State.raddOpen s key f n) :=
    .ite hs (State.radd_spillIs _ _ _ _ hs)

theorem State.captureAt_spillIs {s : State} (key : Nat) (c : CapFlds) (x : Nat) (hs : SpillIs L s) : SpillIs L (s.captureAt key c x) :=
    hs.of_eq rfl rfl

theorem State.report_spillIs (s : State) (r : ErrRep) (hs : SpillIs L s) : SpillIs L (State.report s r) := hs.of_eq rfl rfl

theorem State.errBare_spillIs (s : State) (cls : Nat) (block : Nat) (cause : Nat) (unit : Nat) (hs : SpillIs L s) : SpillIs L
    (State.errBare s cls block cause unit) := State.report_spillIs _ _ hs

theorem State.setPart_spillIs (s : State) (p : Nat) (x : PartSt) (hs : SpillIs L s) : SpillIs L (State.setPart s p x) := hs.of_eq rfl rfl

theorem State.voidPart_spillIs (s : State) (p : Nat) (vcause : Nat) (block : Nat) (cause : Nat) (unit : Nat) (tenant : Option Nat) (addr
    : Option Nat) (hs : SpillIs L s) : SpillIs L (State.voidPart s p vcause block cause unit tenant addr) := State.report_spillIs _ _
    (State.setPart_spillIs _ _ _ hs)

theorem State.voidAll_spillIs (s : State) (vcause : Nat) (block : Nat) (cause : Nat) (unit : Nat) (addr : Option Nat) (hs : SpillIs L s)
    : SpillIs L (State.voidAll s vcause block cause unit addr) := State.report_spillIs _ _ (hs.of_eq rfl rfl)

set_option smartUnfolding false in
theorem State.voidFor_spillIs (s : State) (tenant : Option Nat) (vcause : Nat) (block : Nat) (cause : Nat) (unit : Nat) (addr : Option
    Nat) (hs : SpillIs L s) : SpillIs L (State.voidFor s tenant vcause block cause unit addr) := .opt (State.voidAll_spillIs _ _ _ _ _ _
    hs) (fun _ => (.opt (State.voidAll_spillIs _ _ _ _ _ _ hs) (fun _ => (State.voidPart_spillIs _ _ _ _ _ _ _ _ hs))))

theorem State.countRd_spillIs (s : State) (l : Nat) (hs : SpillIs L s) : SpillIs L (State.countRd s l) := by
  unfold State.countRd
  split
  · exact State.raddOpen_spillIs _ _ _ _ hs
  · exact hs

theorem State.unclean_spillIs (s : State) (o : Nat) (hs : SpillIs L s) : SpillIs L (State.unclean s o) := hs.of_eq rfl rfl

set_option smartUnfolding false in
theorem State.lineWriteAs_spillIs (s : State) (l : Nat) (data : Line) (mask : Nat) (o : Nat) (hs : SpillIs L s) : SpillIs L
    (State.lineWriteAs s l data mask o).1 := by
  have hcap : SpillIs L (s.captureAt R.salErr capStd 3) := hs.of_eq rfl rfl
  unfold State.lineWriteAs
  dsimp only
  cases s.placeOf (l * 128) with
  | reserved => exact hs.of_eq rfl rfl
  | vault => exact .ite1 hs (.opt1 hcap fun _ => State.unclean_spillIs _ _ (hs.of_eq rfl rfl))
  | lararis =>
    exact .ite1 hs (.ite1 hs (.opt1 hcap fun _ => State.raddOpen_spillIs _ _ _ _ (State.unclean_spillIs _ _ (hs.of_eq rfl rfl))))
  | _ => exact hs

theorem State.lineWrite_spillIs (s : State) (l : Nat) (data : Line) (mask : Nat) (hs : SpillIs L s) : SpillIs L (State.lineWrite s l data
    mask).1 := State.lineWriteAs_spillIs _ _ _ _ _ hs

set_option smartUnfolding false in
theorem State.lineMark_spillIs (s : State) (l : Nat) (hs : SpillIs L s) : SpillIs L (State.lineMark s l).1 := by
  unfold State.lineMark
  cases s.placeOf (l * 128) with
  | reserved => exact .ite1 hs (.ite1 (hs.of_eq rfl rfl) hs)
  | slip => exact .ite1 hs (.ite1 (hs.of_eq rfl rfl) hs)
  | vault => exact .opt1 hs fun _ => hs.of_eq rfl rfl
  | lararis => exact .opt1 hs fun _ => hs.of_eq rfl rfl
  | _ => exact hs

theorem State.signal_spillIs (s : State) (fn : Nat) (vec : Nat) (hs : SpillIs L s) : SpillIs L (State.signal s fn vec) := hs.of_eq rfl rfl

theorem State.signalIf_spillIs (s : State) (c : Bool) (fn : Nat) (vec : Nat) (hs : SpillIs L s) : SpillIs L (State.signalIf s c fn vec)
    := .ite (State.signal_spillIs _ _ _ hs) hs

theorem State.cfgPut_spillIs (s : State) (fn : Nat) (off : Nat) (v : Nat) (hs : SpillIs L s) : SpillIs L (State.cfgPut s fn off v) :=
    hs.of_eq rfl rfl

theorem State.aer_spillIs (s : State) (off : Nat) (bit : Nat) (hs : SpillIs L s) : SpillIs L (State.aer s off bit) := .ite
    (State.send_spillIs _ _ _ _ (State.cfgPut_spillIs _ _ _ _ hs)) (State.cfgPut_spillIs _ _ _ _ hs)

theorem State.twinEvt_spillIs (s : State) (f : Fld) (hs : SpillIs L s) : SpillIs L (State.twinEvt s f) := State.signalIf_spillIs _ _ _ _
    (State.rset_spillIs _ _ _ hs)

theorem State.stepDown_spillIs (s : State) (hs : SpillIs L s) : SpillIs L (State.stepDown s) := .ite hs (.ite (State.send_spillIs _ _ _ _
    (State.twinEvt_spillIs _ _ (State.rset_spillIs _ _ _ hs))) (State.twinEvt_spillIs _ _ (State.rset_spillIs _ _ _ hs)))

theorem State.teState_spillIs (s : State) (k : Nat) (x : Nat) (hs : SpillIs L s) : SpillIs L (State.teState s k x) := .ite hs
    (State.rset_spillIs _ _ _ hs)

theorem State.busyCycles_spillIs (s : State) (k : Nat) (n : Nat) (hs : SpillIs L s) : SpillIs L (State.busyCycles s k n) :=
    State.raddOpen_spillIs _ _ _ _ hs

theorem State.holdStall_spillIs (s : State) (k : Nat) (n : Nat) (hs : SpillIs L s) : SpillIs L (State.holdStall s k n) :=
    State.raddOpen_spillIs _ _ _ _ hs

theorem State.wsStall_spillIs (s : State) (k : Nat) (n : Nat) (hs : SpillIs L s) : SpillIs L (State.wsStall s k n) :=
    State.raddOpen_spillIs _ _ _ _ hs

theorem State.cutCycles_spillIs (s : State) (k : Nat) (r : LegRun) (n : Nat) (hs : SpillIs L s) : SpillIs L (State.cutCycles s k r n) :=
    State.tick_spillIs _ (State.wsStall_spillIs _ _ _ (State.holdStall_spillIs _ _ _ (State.busyCycles_spillIs _ _ _ hs)))

theorem State.legCut_spillIs (s : State) (k : Nat) (r : LegRun) (hs : SpillIs L s) : SpillIs L (State.legCut s k r) := .ite hs
    (State.teState_spillIs _ _ _ (State.cutCycles_spillIs _ _ _ _ hs))

set_option smartUnfolding false in
theorem State.legsCut_spillIs (s : State) (sel : LegRun → Bool) (hs : SpillIs L s) : SpillIs L (State.legsCut s sel) := foldl_spillIs
    (fun _ _ h1 => (.opt h1 (fun _ => (.ite (State.legCut_spillIs _ _ _ h1) h1)))) hs

theorem State.domTo_spillIs (s : State) (d : Nat) (st : Nat) (hs : SpillIs L s) : SpillIs L (State.domTo s d st) := State.rsetIf_spillIs
    _ _ _ _ _ (State.setFab_spillIs _ _ (State.rset_spillIs _ _ _ (State.rset_spillIs _ _ _ (State.rset_spillIs _ _ _ hs))))

theorem State.fatalNow_spillIs (s : State) (hs : SpillIs L s) : SpillIs L (State.fatalNow s) := State.stepDown_spillIs _
    (State.aer_spillIs _ _ _ (State.rset_spillIs _ _ _ (foldl_spillIs (fun _ _ h1 => (State.domTo_spillIs _ _ _ h1)) (fun h =>
    Bool.noConfusion h))))

theorem State.fatal_spillIs (s : State) (block : Nat) (cause : Nat) (unit : Nat) (hs : SpillIs L s) : SpillIs L (State.fatal s block
    cause unit) := State.errBare_spillIs _ _ _ _ _ (State.fatalNow_spillIs _ hs)

theorem State.memUe_spillIs (s : State) (l : Nat) (block : Nat) (cause : Nat) (unit : Nat) (tenant : Option Nat) (hs : SpillIs L s) :
    SpillIs L (State.memUe s l block cause unit tenant) := .ite (State.fatal_spillIs _ _ _ _ (State.voidFor_spillIs _ _ _ _ _ _ _
    (State.lineMark_spillIs _ _ hs))) (State.voidFor_spillIs _ _ _ _ _ _ _ (State.lineMark_spillIs _ _ hs))

theorem State.setSl_spillIs (s : State) (v : Nat) (x : SlipSt) (hs : SpillIs L s) : SpillIs L (State.setSl s v x) := hs.of_eq rfl rfl

theorem State.setTx_spillIs (s : State) (v : Nat) (x : OspTx) (hs : SpillIs L s) : SpillIs L (State.setTx s v x) := State.setSl_spillIs _
    _ _ hs

theorem State.osp_spillIs (s : State) (v : Nat) (args : List Nat) (bytes : List Byte) (h : OspHead) (hs : SpillIs L s) : SpillIs L
    (State.osp s v args bytes h) := .ite hs (State.setTx_spillIs _ _ _ (State.send_spillIs _ _ _ _ hs))

theorem State.toL0_spillIs (s : State) (hs : SpillIs L s) : SpillIs L (State.toL0 s) := State.rset_spillIs _ _ _ (State.rset_spillIs _ _
    _ hs)

theorem State.wakeLink_spillIs (s : State) (hs : SpillIs L s) : SpillIs L (State.wakeLink s) := .ite hs (State.toL0_spillIs _ hs)

theorem State.pciCap_spillIs (s : State) (fn : Nat) (cause : Nat) (hs : SpillIs L s) : SpillIs L (State.pciCap s fn cause) :=
  iteInduction (motive := fun t => SpillIs L t) (fun _ => hs.of_eq rfl rfl) fun _ => hs.of_eq rfl rfl

theorem State.hostFail_spillIs (s : State) (fn : Nat) (cause : Nat) (hs : SpillIs L s) : SpillIs L (State.hostFail s fn cause) :=
    State.pciCap_spillIs _ _ _ (State.radd_spillIs _ _ _ _ hs)

theorem State.useEntry_spillIs (s : State) (e : FEntry) (hs : SpillIs L s) : SpillIs L (State.useEntry s e) := hs.of_eq rfl rfl

theorem State.retain_spillIs (s : State) (o : Out) (hs : SpillIs L s) : SpillIs L (State.retain s o) := hs.of_eq rfl rfl

set_option smartUnfolding false in
theorem State.atsLook_spillIs (s : State) (fn : Nat) (addr : Nat) (write : Bool) (hs : SpillIs L s) : SpillIs L (State.atsLook s fn addr
    write).1 := .ite1 (.opt1 (.ite1 hs (State.send_spillIs _ _ _ _ (hs.of_eq rfl rfl))) (fun _ => (.ite1 hs hs))) hs

theorem State.atsTag_spillIs (s : State) (tag : Nat) (key : Nat) (translated : Bool) (hs : SpillIs L s) : SpillIs L (State.atsTag s tag
    key translated) := hs.of_eq rfl rfl

theorem State.showTags_spillIs (s : State) (hs : SpillIs L s) : SpillIs L (State.showTags s) := State.rset_spillIs _ _ _
    (State.rset_spillIs _ _ _ (State.rset_spillIs _ _ _ hs))

theorem State.remSet_spillIs (s : State) (l : List RRead) (hs : SpillIs L s) : SpillIs L (State.remSet s l) := hs.of_eq rfl rfl

set_option smartUnfolding false in
theorem State.pumpTags_spillIs (s : State) (z0 : Nat) (hs : SpillIs L s) : SpillIs L (State.pumpTags s z0) := by
  induction z0 generalizing s with
  | zero => exact hs
  | succ f ih =>
    exact .opt hs fun _ => .opt hs fun _ => ih _ (State.wakeLink_spillIs _ (State.send_spillIs _ _ _ _ (State.remSet_spillIs _ _
      (State.atsTag_spillIs _ _ _ _ (State.atsLook_spillIs _ _ _ _ hs)))))

set_option smartUnfolding false in
theorem State.hostRead_spillIs (s : State) (who : List Nat) (pa : Nat) (len : Nat) (func : Nat) (hs : SpillIs L s) : SpillIs L
    (State.hostRead s who pa len func) := .ite (.opt hs (fun _ => (State.remSet_spillIs _ _ (State.useEntry_spillIs _ _ hs)))) (.ite
    (State.remSet_spillIs _ _ hs) (.ite (State.remSet_spillIs _ _ hs) (.ite (State.remSet_spillIs _ _ (State.hostFail_spillIs _ _ _ hs))
    (State.showTags_spillIs _ (State.pumpTags_spillIs _ _ (State.remSet_spillIs _ _ hs))))))

theorem State.askNode_spillIs (s : State) (node : Nat) (args : List Nat) (bytes : List Byte) (h : OspHead) (hs : SpillIs L s) : SpillIs L
    (State.askNode s node args bytes h) := .ite (State.send_spillIs _ _ _ _ hs) (State.osp_spillIs _ _ _ _ _ hs)

theorem State.nodeRead_spillIs (s : State) (who : List Nat) (pa : Nat) (len : Nat) (func : Nat) (hs : SpillIs L s) : SpillIs L
    (State.nodeRead s who pa len func) := .ite (foldl_spillIs (fun _ _ h1 => (State.askNode_spillIs _ _ _ _ _ h1)) (hs.of_eq rfl rfl))
    (State.remSet_spillIs _ _ hs)

theorem State.remIssue_spillIs (s : State) (who : List Nat) (pa : Nat) (len : Nat) (func : Nat) (hs : SpillIs L s) : SpillIs L
    (State.remIssue s who pa len func) := .ite (State.hostRead_spillIs _ _ _ _ _ hs) (State.nodeRead_spillIs _ _ _ _ _ hs)

theorem State.hostWrite_spillIs (s : State) (func : Nat) (addr : Nat) (bs : List Byte) (hs : SpillIs L s) : SpillIs L (State.hostWrite s
    func addr bs).1 := .ite1 hs (.ite1 (State.retain_spillIs _ _ hs) (.ite1 hs (.ite1 (State.hostFail_spillIs _ _ _ hs)
    (State.wakeLink_spillIs _ (foldl_spillIs (fun _ _ h1 => (State.send_spillIs _ _ _ _ (State.atsLook_spillIs _ _ _ _ h1))) hs)))))

theorem State.nodeWrite_spillIs (s : State) (who : List Nat) (pa : Nat) (mask : Nat) (args : List Nat) (bs : List Byte) (line : List
    Byte) (hs : SpillIs L s) : SpillIs L (State.nodeWrite s who pa mask args bs line) := State.askNode_spillIs _ _ _ _ _ (hs.of_eq rfl
    rfl)

theorem State.remWrite_spillIs (s : State) (who : List Nat) (pa : Nat) (func : Nat) (bs : List Byte) (hs : SpillIs L s) : SpillIs L
    (State.remWrite s who pa func bs).1 := .ite1 (State.hostWrite_spillIs _ _ _ _ hs) (.ite1 (foldl_spillIs (fun _ _ h1 =>
    (State.nodeWrite_spillIs _ _ _ _ _ _ _ h1)) hs) hs)

theorem State.remMasked_spillIs (s : State) (who : List Nat) (pa : Nat) (mask : Nat) (bs : List Byte) (hs : SpillIs L s) : SpillIs L
    (State.remMasked s who pa mask bs).1 := .ite1 (State.nodeWrite_spillIs _ _ _ _ _ _ _ hs) hs

theorem State.postAt_spillIs (s : State) (at_ : Nat) (h : FabHdr) (up : Bool) (mask : Nat) (d : Line) (hs : SpillIs L s) : SpillIs L
    (State.postAt s at_ h up mask d).1 := .ite1 hs (State.setFab_spillIs _ _ hs)

theorem State.post_spillIs (s : State) (h : FabHdr) (mask : Nat) (d : Line) (hs : SpillIs L s) : SpillIs L (State.post s h mask d).1 :=
    State.postAt_spillIs _ _ _ _ _ _ hs

theorem State.fly_spillIs (s : State) (h : FabHdr) (mask : Nat) (d : Line) (x : HPkt) (hs : SpillIs L s) : SpillIs L (State.fly s h mask
    d x) := State.setFab_spillIs _ _ (State.post_spillIs _ _ _ _ hs)

theorem State.putBucket_spillIs (s : State) (p : Nat) (q : Nat) (lv : Int) (hs : SpillIs L s) : SpillIs L (State.putBucket s p q lv) :=
    State.setFab_spillIs _ _ hs

theorem State.debitSpf_spillIs (s : State) (p : Nat) (q : Nat) (hs : SpillIs L s) : SpillIs L (State.debitSpf s p q) := .ite hs
    (State.putBucket_spillIs _ _ _ _ hs)

theorem State.charge_spillIs (s : State) (p : Nat) (q : Nat) (n : Nat) (hs : SpillIs L s) : SpillIs L (State.charge s p q n) :=
    State.rinc_spillIs _ _ _ _ hs

theorem State.setMovers_spillIs (s : State) (l : List (List Nat × Nat × Nat × Nat)) (hs : SpillIs L s) : SpillIs L (State.setMovers s l)
    := State.setFab_spillIs _ _ hs

theorem State.tollPay_spillIs (s : State) (who : List Nat) (p : Nat) (q : Nat) (n : Nat) (hs : SpillIs L s) : SpillIs L (State.tollPay s
    who p q n) := .ite hs (.ite (.ite hs (State.raddOpen_spillIs _ _ _ _ (State.setMovers_spillIs _ _ (State.putBucket_spillIs _ _ _ _
    hs)))) (.ite hs (State.raddOpen_spillIs _ _ _ _ (State.setMovers_spillIs _ _ hs))))

theorem State.tollTake_spillIs (s : State) (who : List Nat) (p : Nat) (q : Nat) (n : Nat) (hs : SpillIs L s) : SpillIs L (State.tollTake
    s who p q n) := .ite hs (State.setMovers_spillIs _ _ (.ite (State.putBucket_spillIs _ _ _ _ hs) hs))

theorem State.latSample_spillIs (s : State) (p : Nat) (q : Nat) (ts : Nat) (hs : SpillIs L s) : SpillIs L (State.latSample s p q ts) :=
    State.setFab_spillIs _ _ hs

theorem State.latNow_spillIs (s : State) (p : Nat) (q : Nat) (n : Nat) (hs : SpillIs L s) : SpillIs L (State.latNow s p q n) :=
    State.setFab_spillIs _ _ hs

theorem State.useDom_spillIs (s : State) (d : Nat) (hs : SpillIs L s) : SpillIs L (State.useDom s d) := State.setFab_spillIs _ _ hs

theorem State.useAgent_spillIs (s : State) (a : Nat) (hs : SpillIs L s) : SpillIs L (State.useAgent s a) := .ite (State.useDom_spillIs _
    _ hs) hs

theorem State.useReq_spillIs (s : State) (req : Nat) (home : Nat) (hs : SpillIs L s) : SpillIs L (State.useReq s req home) :=
    State.useAgent_spillIs _ _ (State.useDom_spillIs _ _ hs)

theorem State.wake_spillIs (s : State) (d : Nat) (hs : SpillIs L s) : SpillIs L (State.wake s d) := .ite (State.raddOpen_spillIs _ _ _ _
    (State.rset_spillIs _ _ _ hs)) hs

theorem State.countLlc_spillIs (s : State) (h : Nat) (hit : Bool) (hs : SpillIs L s) : SpillIs L (State.countLlc s h hit) :=
    State.raddOpen_spillIs _ _ _ _ hs

theorem State.setCoh_spillIs (s : State) (c : CohSt) (hs : SpillIs L s) : SpillIs L (State.setCoh s c) := hs.of_eq rfl rfl

set_option smartUnfolding false in
theorem State.touchCopy_spillIs (s : State) (a : Nat) (l : Nat) (hs : SpillIs L s) : SpillIs L (State.touchCopy s a l) := .opt hs (fun _
    => (State.setCoh_spillIs _ _ hs))

theorem State.cohSend_spillIs (s : State) (m : CMsg) (hs : SpillIs L s) : SpillIs L (State.cohSend s m) := .ite hs (State.setCoh_spillIs
    _ _ (.ite1 (State.post_spillIs _ _ _ _ hs) (State.post_spillIs _ _ _ _ hs)))

theorem State.fencedCap_spillIs (s : State) (l : Nat) (hs : SpillIs L s) : SpillIs L (State.fencedCap s l) := State.captureAt_spillIs _ _
    _ hs

theorem State.unmark_spillIs (s : State) (ls : List Nat) (hs : SpillIs L s) : SpillIs L (State.unmark s ls) := hs.of_eq rfl rfl

theorem State.memWrite_spillIs (s : State) (l : Nat) (d : Line) (mask : Nat) (o : Nat) (hs : SpillIs L s) : SpillIs L (State.memWrite s l
    d mask o).1 := by
  unfold State.memWrite
  cases s.placeOf (l * 128) with
  | slip => exact .ite (State.unmark_spillIs _ _ (State.remMasked_spillIs _ _ _ _ _ hs)) (State.remMasked_spillIs _ _ _ _ _ hs)
  | _ => exact State.lineWriteAs_spillIs _ _ _ _ _ hs

theorem State.writeBack_spillIs (s : State) (l : Nat) (d : Line) (hs : SpillIs L s) : SpillIs L (State.writeBack s l d) := by
  have hw := s.memWrite_spillIs l d fullMask (s.ownerOf (l * 128)) hs
  unfold State.writeBack
  generalize s.memWrite l d fullMask (s.ownerOf (l * 128)) = w at hw ⊢
  obtain ⟨s1, r⟩ := w
  cases r with
  | fenced => exact State.voidFor_spillIs _ _ _ _ _ _ _ (State.fencedCap_spillIs _ _ hw)
  | _ => exact hw

set_option smartUnfolding false in
theorem State.llcEvict_spillIs (s : State) (l : Nat) (hs : SpillIs L s) : SpillIs L (State.llcEvict s l) := .opt hs (fun _ => (.ite
    (State.setCoh_spillIs _ _ hs) (State.writeBack_spillIs _ _ _ (State.setCoh_spillIs _ _ hs))))

set_option smartUnfolding false in
theorem State.llcTouch_spillIs (s : State) (l : Nat) (hs : SpillIs L s) : SpillIs L (State.llcTouch s l) := .opt hs (fun _ =>
    (State.setCoh_spillIs _ _ hs))

theorem State.llcIn_spillIs (s : State) (l : Nat) (w : Nat) (d : Line) (dirty : Bool) (hs : SpillIs L s) : SpillIs L (State.llcIn s l w d
    dirty) := State.setCoh_spillIs _ _ hs

set_option smartUnfolding false in
theorem State.llcPut_spillIs (s : State) (l : Nat) (d : Line) (dirty : Bool) (hs : SpillIs L s) : SpillIs L (State.llcPut s l d dirty) :=
    .opt (.opt (.opt (.ite (State.writeBack_spillIs _ _ _ hs) hs) (fun _ => (State.llcIn_spillIs _ _ _ _ _ (State.llcEvict_spillIs _ _
    hs)))) (fun _ => (State.llcIn_spillIs _ _ _ _ _ hs))) (fun _ => (State.llcIn_spillIs _ _ _ _ _ hs))

theorem State.slicePut_spillIs (s : State) (l : Nat) (d : Line) (hs : SpillIs L s) : SpillIs L (State.slicePut s l d) := .ite
    (State.lineWrite_spillIs _ _ _ _ hs) (State.llcPut_spillIs _ _ _ _ hs)

set_option smartUnfolding false in
theorem State.homeWrite_spillIs (s : State) (l : Nat) (d : Line) (mask : Nat) (o : Nat) (alloc : Bool) (got : Option Line) (hs : SpillIs
    L s) : SpillIs L (State.homeWrite s l d mask o alloc got).1 := .opt1 (.ite1 (State.memWrite_spillIs _ _ _ _ _ hs) (.ite1
    (State.llcPut_spillIs _ _ _ _ hs) (by split; exacts [(State.llcPut_spillIs _ _ _ _ (State.countRd_spillIs _ _ hs)),
    (State.memWrite_spillIs _ _ _ _ _ hs)]))) (fun _ => (State.llcPut_spillIs _ _ _ _ hs))

theorem State.countHome_spillIs (s : State) (l : Nat) (hs : SpillIs L s) : SpillIs L (State.countHome s l) := .ite
    (State.llcTouch_spillIs _ _ hs) (State.countRd_spillIs _ _ hs)

set_option smartUnfolding false in
theorem State.snoopOn_spillIs (s : State) (l : Nat) (at_ : Nat) (hs : SpillIs L s) : SpillIs L (State.snoopOn s l at_) := .opt hs (fun _
    => (.ite hs (State.setCoh_spillIs _ _ (State.postAt_spillIs _ _ _ _ _ _ hs))))

theorem State.countSnoop_spillIs (s : State) (h : Nat) (hs : SpillIs L s) : SpillIs L (State.countSnoop s h) := State.raddOpen_spillIs _
    _ _ _ hs

theorem State.filterPut_spillIs (s : State) (l : Nat) (e : FEnt) (hs : SpillIs L s) : SpillIs L (State.filterPut s l e) :=
    State.setCoh_spillIs _ _ hs

theorem State.filterDel_spillIs (s : State) (l : Nat) (hs : SpillIs L s) : SpillIs L (State.filterDel s l) := State.setCoh_spillIs _ _ hs

theorem State.marksOf_spillIs (s : State) (h : Nat) (hs : SpillIs L s) : SpillIs L (State.marksOf s h) := .ite hs (State.rset_spillIs _ _
    _ (State.rset_spillIs _ _ _ hs))

set_option smartUnfolding false in
theorem State.filterAlloc_spillIs (s : State) (l : Nat) (owned : Bool) (fwd : Option Nat) (hs : SpillIs L s) : SpillIs L
    (State.filterAlloc s l owned fwd) := .ite (State.filterPut_spillIs _ _ _ hs) (.opt hs (fun _ => (State.marksOf_spillIs _ _
    (State.countSnoop_spillIs _ _ (State.filterPut_spillIs _ _ _ (State.snoopOn_spillIs _ _ _ (State.setCoh_spillIs _ _ hs)))))))

theorem State.filterSetOrNew_spillIs (s : State) (l : Nat) (owned : Bool) (fwd : Option Nat) (hs : SpillIs L s) : SpillIs L
    (State.filterSetOrNew s l owned fwd) := .ite (State.filterPut_spillIs _ _ _ hs) (State.filterAlloc_spillIs _ _ _ _ hs)

theorem State.grantWait_spillIs (s : State) (t : Txn) (m : CMsg) (hs : SpillIs L s) : SpillIs L (State.grantWait s t m) :=
    State.cohSend_spillIs _ _ (State.setCoh_spillIs _ _ hs)

theorem State.endTxn_spillIs (s : State) (l : Nat) (m : CMsg) (hs : SpillIs L s) : SpillIs L (State.endTxn s l m) :=
    State.cohSend_spillIs _ _ (State.setCoh_spillIs _ _ hs)

theorem State.homeErr_spillIs (s : State) (l : Nat) (req : Nat) (ten : Nat) (r : LineRes) (hs : SpillIs L s) : SpillIs L (State.homeErr s
    l req ten r) := by
  cases r with
  | ue b c => exact State.memUe_spillIs _ _ _ _ _ _ hs
  | fenced => exact State.voidFor_spillIs _ _ _ _ _ _ _ (State.fencedCap_spillIs _ _ hs)
  | lost => exact .ite (State.voidFor_spillIs _ _ _ _ _ _ _ hs) hs
  | _ => exact hs

theorem State.txnData_spillIs (s : State) (t : Txn) (hs : SpillIs L s) : SpillIs L (State.txnData s t).2 :=
  iteInduction (motive := fun x : Line × State => SpillIs L x.2) (fun _ => hs) fun _ =>
    State.homeErr_spillIs _ _ _ _ _ (State.countHome_spillIs _ _ hs)

theorem State.keepDirty_spillIs (s : State) (t : Txn) (hs : SpillIs L s) : SpillIs L (State.keepDirty s t) := .ite
    (State.slicePut_spillIs _ _ _ hs) hs

set_option smartUnfolding false in
theorem State.afterSnoop_spillIs (s : State) (l : Nat) (held : Bool) (keepFwd : Bool) (hs : SpillIs L s) : SpillIs L (State.afterSnoop s
    l held keepFwd) := .opt hs (fun _ => (.ite (State.filterPut_spillIs _ _ _ hs) (State.filterDel_spillIs _ _ hs)))

theorem State.reqWrite_spillIs (s : State) (q : CReq) (hs : SpillIs L s) : SpillIs L (State.reqWrite s q).1 := .ite1 hs
    (State.homeWrite_spillIs _ _ _ _ _ _ _ hs)

theorem State.serve_spillIs (s : State) (t : Txn) (hit : Bool) (hs : SpillIs L s) : SpillIs L (State.serve s t hit) := by
  have hkeep := s.keepDirty_spillIs t hs
  have hdata := State.txnData_spillIs _ t hkeep
  have hput := State.filterSetOrNew_spillIs _ t.q.line true (some t.q.req) (s.txnData_spillIs t hs)
  unfold State.serve
  dsimp only
  cases t.q.kind with
  | rds => exact State.grantWait_spillIs _ _ _ (State.filterSetOrNew_spillIs _ _ _ _ hdata)
  | rdo => exact State.grantWait_spillIs _ _ _ hput
  | upg => exact .ite (State.grantWait_spillIs _ _ _ (State.filterSetOrNew_spillIs _ _ _ _ hs)) (State.grantWait_spillIs _ _ _ hput)
  | rdc => exact State.endTxn_spillIs _ _ _ (State.afterSnoop_spillIs _ _ _ _ (.ite (State.llcPut_spillIs _ _ _ _ hdata) hdata))
  | wri => exact State.endTxn_spillIs _ _ _ (State.filterDel_spillIs _ _ (State.homeErr_spillIs _ _ _ _ _ (State.reqWrite_spillIs _ _
        hkeep)))
  | wrp => exact State.endTxn_spillIs _ _ _ (State.filterDel_spillIs _ _ (State.homeErr_spillIs _ _ _ _ _ (State.reqWrite_spillIs _ _
        hkeep)))
  | bi => exact State.setCoh_spillIs _ _ (State.filterDel_spillIs _ _ (.ite hs hkeep))
  | prep => exact State.setCoh_spillIs _ _ (State.afterSnoop_spillIs _ _ _ _ hkeep)

set_option smartUnfolding false in
theorem State.answer_spillIs (s : State) (t : Txn) (hit : Bool) (hs : SpillIs L s) : SpillIs L (State.answer s t hit) := by
  have hserve := s.serve_spillIs t hit hs
  have hend := State.keepDirty_spillIs _ t (s.txnData_spillIs t hs)
  unfold State.answer
  refine .ite (State.remIssue_spillIs _ _ _ _ _ (.ite (State.filterAlloc_spillIs _ _ _ _ (State.setCoh_spillIs _ _ hs))
    (State.setCoh_spillIs _ _ hs))) (.ite (State.endTxn_spillIs _ _ _ (State.afterSnoop_spillIs _ _ _ _ (State.keepDirty_spillIs _ _
        hs))) ?_)
  cases t.q.kind with
  | bi => exact .opt hserve fun _ => State.endTxn_spillIs _ _ _ hend
  | prep => exact .opt hserve fun _ => State.endTxn_spillIs _ _ _ hend
  | _ => exact State.latSample_spillIs _ _ _ _ (.opt hserve fun _ => State.endTxn_spillIs _ _ _ hend)

theorem State.countReq_spillIs (s : State) (q : CReq) (h : Nat) (hs : SpillIs L s) : SpillIs L (State.countReq s q h) := .ite hs
    (State.countLlc_spillIs _ _ _ hs)

theorem State.accept_spillIs (s : State) (q : CReq) (hs : SpillIs L s) : SpillIs L (State.accept s q) := .ite (State.snoopOn_spillIs _ _
    _ (State.countSnoop_spillIs _ _ (State.marksOf_spillIs _ _ (State.countReq_spillIs _ _ _ (State.setCoh_spillIs _ _ hs)))))
    (State.answer_spillIs _ _ _ (State.marksOf_spillIs _ _ (State.countReq_spillIs _ _ _ (State.setCoh_spillIs _ _ hs))))

theorem State.showCredits_spillIs (s : State) (h : Nat) (hs : SpillIs L s) : SpillIs L (State.showCredits s h) := State.rset_spillIs _ _
    _ hs

theorem State.cohErr_spillIs (s : State) (h : Nat) (cause : Nat) (cls : Nat) (hs : SpillIs L s) : SpillIs L (State.cohErr s h cause cls)
    := State.errBare_spillIs _ _ _ _ _ (.ite (State.rset_spillIs _ _ _ (State.captureAt_spillIs _ _ _ hs)) (State.captureAt_spillIs _ _ _
    hs))

set_option smartUnfolding false in
theorem State.wakeFor_spillIs (s : State) (z0 : Nat) (hs : SpillIs L s) : SpillIs L (State.wakeFor s z0) := by
  induction z0 generalizing s with
  | zero => exact hs
  | succ f ih => exact .opt hs fun _ => ih _ (State.accept_spillIs _ _ (State.setCoh_spillIs _ _ hs))

theorem State.wakeQueue_spillIs (s : State) (hs : SpillIs L s) : SpillIs L (State.wakeQueue s) := State.wakeFor_spillIs _ _ hs

theorem State.spfLine_spillIs (s : State) (h : Nat) (src : Nat) (qc : Nat) (ten : Nat) (l : Nat) (hs : SpillIs L s) : SpillIs L
    (State.spfLine s h src qc ten l) := by
  have hpay := State.charge_spillIs _ src qc 128 (State.debitSpf_spillIs _ src qc
    (s.raddOpen_spillIs (R.tileSpfCnt h) F.tileSpfCnt_ISSUED 1 hs))
  unfold State.spfLine
  refine .ite (State.raddOpen_spillIs _ _ _ _ hs) ?_
  generalize State.charge _ src qc 128 = s1 at hpay ⊢
  dsimp only
  cases s1.lineRead l with
  | ok d => exact State.llcPut_spillIs _ _ _ _ (State.countRd_spillIs _ _ hpay)
  | fenced => exact State.voidFor_spillIs _ _ _ _ _ _ _ (State.fencedCap_spillIs _ _ hpay)
  | inval => exact hpay
  | ue => exact hpay
  | lost => exact hpay
  | absent => exact hpay

set_option smartUnfolding false in
theorem State.spfTrain_spillIs (s : State) (q : CReq) (hs : SpillIs L s) : SpillIs L (State.spfTrain s q) := .ite hs (.opt
    (State.setCoh_spillIs _ _ hs) (fun _ => (.ite (foldl_spillIs (fun _ _ h1 => (State.spfLine_spillIs _ _ _ _ _ _ h1))
    (State.setCoh_spillIs _ _ hs)) (State.setCoh_spillIs _ _ hs))))

theorem State.retry_spillIs (s : State) (q : CReq) (h : Nat) (give : Bool) (hs : SpillIs L s) : SpillIs L (State.retry s q h give) :=
    State.raddOpen_spillIs _ _ _ _ (State.showCredits_spillIs _ _ (State.cohSend_spillIs _ _ (State.setCoh_spillIs _ _ hs)))

theorem State.request_spillIs (s : State) (q : CReq) (hs : SpillIs L s) : SpillIs L (State.request s q) := .ite (State.retry_spillIs _ _
    _ _ (.ite (State.cohErr_spillIs _ _ _ _ hs) hs)) (.ite (State.accept_spillIs _ _ (.ite (State.showCredits_spillIs _ _
    (State.setCoh_spillIs _ _ (.ite (State.cohErr_spillIs _ _ _ _ hs) hs))) (.ite (State.cohErr_spillIs _ _ _ _ hs) hs))) (.ite
    (State.marksOf_spillIs _ _ (State.setCoh_spillIs _ _ (.ite (State.showCredits_spillIs _ _ (State.setCoh_spillIs _ _ (.ite
    (State.cohErr_spillIs _ _ _ _ hs) hs))) (.ite (State.cohErr_spillIs _ _ _ _ hs) hs)))) (State.retry_spillIs _ _ _ _ (.ite
    (State.showCredits_spillIs _ _ (State.setCoh_spillIs _ _ (.ite (State.cohErr_spillIs _ _ _ _ hs) hs))) (.ite (State.cohErr_spillIs _
    _ _ _ hs) hs)))))

theorem State.wbAck_spillIs (s : State) (a : Nat) (tag : Nat) (l : Nat) (hs : SpillIs L s) : SpillIs L (State.wbAck s a tag l) :=
    State.cohSend_spillIs _ _ hs

set_option smartUnfolding false in
theorem State.dropFwd_spillIs (s : State) (a : Nat) (l : Nat) (hs : SpillIs L s) : SpillIs L (State.dropFwd s a l) := .opt hs (fun _ =>
    (.ite (.ite (State.filterDel_spillIs _ _ hs) (State.setCoh_spillIs _ _ hs)) hs))

theorem State.leaving_spillIs (s : State) (a : Nat) (l : Nat) (st : CSt) (hs : SpillIs L s) : SpillIs L (State.leaving s a l st) := .ite
    (State.setCoh_spillIs _ _ hs) hs

theorem State.wbPut_spillIs (s : State) (l : Nat) (d : Line) (dmg : Bool) (hs : SpillIs L s) : SpillIs L (State.wbPut s l d dmg) := .ite
    hs (State.slicePut_spillIs _ _ _ hs)

set_option smartUnfolding false in
theorem State.wbHome_spillIs (s : State) (agent : Nat) (tag : Nat) (l : Nat) (d : Line) (dmg : Bool) (hs : SpillIs L s) : SpillIs L
    (State.wbHome s agent tag l d dmg) := .opt (.ite (State.wbAck_spillIs _ _ _ _ (State.wakeQueue_spillIs _ (State.dropFwd_spillIs _ _ _
    (State.wbPut_spillIs _ _ _ _ hs)))) (State.wbAck_spillIs _ _ _ _ (State.cohErr_spillIs _ _ _ _ hs))) (fun _ => (.ite
    (State.wbAck_spillIs _ _ _ _ (State.cohErr_spillIs _ _ _ _ hs)) (.ite (State.wbAck_spillIs _ _ _ _ (State.wbPut_spillIs _ _ _ _ hs))
    (State.wbAck_spillIs _ _ _ _ (State.setCoh_spillIs _ _ hs)))))

theorem State.evctHome_spillIs (s : State) (agent : Nat) (tag : Nat) (l : Nat) (hs : SpillIs L s) : SpillIs L (State.evctHome s agent tag
    l) := .ite (State.wbAck_spillIs _ _ _ _ hs) (State.wbAck_spillIs _ _ _ _ (State.wakeQueue_spillIs _ (State.dropFwd_spillIs _ _ _ hs)))

theorem State.noteDecode_spillIs (s : State) (src : Nat) (pa : Nat) (hs : SpillIs L s) : SpillIs L (State.noteDecode s src pa) := .ite
    (State.radd_spillIs _ _ _ _ hs) (State.rset_spillIs _ _ _ (State.rset_spillIs _ _ _ (State.rset_spillIs _ _ _ (State.rset_spillIs _ _
    _ hs))))

theorem State.passMsg_spillIs (s : State) (q : CReq) (m : CMsg) (hs : SpillIs L s) : SpillIs L (State.passMsg s q m) :=
    State.latSample_spillIs _ _ _ _ (State.cohSend_spillIs _ _ hs)

theorem State.passData_spillIs (s : State) (q : CReq) (d : Option Line) (hs : SpillIs L s) : SpillIs L (State.passData s q d) :=
    State.passMsg_spillIs _ _ _ hs

theorem State.passErr_spillIs (s : State) (q : CReq) (c : Nat) (hs : SpillIs L s) : SpillIs L (State.passErr s q c) :=
    State.passMsg_spillIs _ _ _ hs

theorem State.passAck_spillIs (s : State) (q : CReq) (ok : Bool) (hs : SpillIs L s) : SpillIs L (State.passAck s q ok) := .ite
    (State.passMsg_spillIs _ _ _ hs) (State.passErr_spillIs _ _ _ hs)

set_option smartUnfolding false in
theorem State.passRead_spillIs (s : State) (q : CReq) (hs : SpillIs L s) : SpillIs L (State.passRead s q) := .opt (State.remIssue_spillIs
    _ _ _ _ _ hs) (fun _ => (.ite (State.remIssue_spillIs _ _ _ _ _ hs) (State.passData_spillIs _ _ _ (State.remSet_spillIs _ _
    (State.remIssue_spillIs _ _ _ _ _ hs)))))

theorem State.passWrite_spillIs (s : State) (q : CReq) (hs : SpillIs L s) : SpillIs L (State.passWrite s q) := .ite
    (State.passAck_spillIs _ _ _ hs) (.ite (State.passAck_spillIs _ _ _ (foldl_fst_spillIs (fun _ _ h1 => (State.remWrite_spillIs _ _ _ _
    _ h1)) hs)) (.ite (.ite (State.unmark_spillIs _ _ (State.remMasked_spillIs _ _ _ _ _ hs)) (State.remMasked_spillIs _ _ _ _ _ hs))
    (State.passAck_spillIs _ _ _ (State.remMasked_spillIs _ _ _ _ _ hs))))

theorem State.passOn_spillIs (s : State) (q : CReq) (hs : SpillIs L s) : SpillIs L (State.passOn s q) := by
  unfold State.passOn
  dsimp only
  split
  · have hnote : SpillIs L (match decodeSrc q.req with | some c => s.noteDecode c (q.line * 128) | none => s) := by
      cases decodeSrc q.req with
      | none => exact hs
      | some c => exact State.noteDecode_spillIs _ _ _ hs
    exact .ite (.ite (State.passAck_spillIs _ _ _ hnote) (State.passData_spillIs _ _ _ hnote)) (State.passErr_spillIs _ _ _ hnote)
  · exact State.passErr_spillIs _ _ _ hs
  · exact .ite (State.passWrite_spillIs _ _ hs) (State.passRead_spillIs _ _ hs)

set_option smartUnfolding false in
theorem State.compAck_spillIs (s : State) (req : Nat) (pa : Nat) (hs : SpillIs L s) : SpillIs L (State.compAck s req pa) := .opt hs (fun
    _ => (.ite (State.wakeQueue_spillIs _ (State.setCoh_spillIs _ _ hs)) hs))

set_option smartUnfolding false in
theorem State.snpRsp_spillIs (s : State) (slip : Nat) (pa : Nat) (held : Bool) (dirty : Bool) (sends : Bool) (wbseen : Bool) (reqhold :
    Bool) (hs : SpillIs L s) : SpillIs L (State.snpRsp s slip pa held dirty sends wbseen reqhold) := .opt hs (fun _ => (.ite
    (State.setCoh_spillIs _ _ hs) hs))

theorem State.reqHome_spillIs (s : State) (q : CReq) (hs : SpillIs L s) : SpillIs L (State.reqHome s q) := .ite (.ite
    (State.spfTrain_spillIs _ _ (State.request_spillIs _ _ hs)) (State.request_spillIs _ _ hs)) (State.passOn_spillIs _ _ hs)

theorem State.atHome_spillIs (s : State) (z0 : HPkt) (hs : SpillIs L s) : SpillIs L (State.atHome s z0) := by
  cases z0 with
  | req q => exact State.reqHome_spillIs _ _ hs
  | wb => exact State.wbHome_spillIs _ _ _ _ _ _ hs
  | evct => exact State.evctHome_spillIs _ _ _ _ hs
  | compAck => exact State.compAck_spillIs _ _ _ hs
  | snpRsp => exact State.snpRsp_spillIs _ _ _ _ _ _ _ _ hs
  | mem => exact hs
  | reg => exact hs

theorem State.park_spillIs (s : State) (d : Nat) (x : HPkt) (hs : SpillIs L s) : SpillIs L (State.park s d x) := State.setFab_spillIs _ _
    (State.wake_spillIs _ _ hs)

theorem State.toHome_spillIs (s : State) (x : HPkt) (hs : SpillIs L s) : SpillIs L (State.toHome s x) := .ite (State.atHome_spillIs _ _
    (State.useDom_spillIs _ _ hs)) (State.park_spillIs _ _ _ hs)

theorem State.sendHome_spillIs (s : State) (h : FabHdr) (mask : Nat) (d : Line) (x : HPkt) (hs : SpillIs L s) : SpillIs L (State.sendHome
    s h mask d x) := .ite (State.toHome_spillIs _ _ hs) (State.fly_spillIs _ _ _ _ _ hs)

theorem State.wbArrive_spillIs (s : State) (agent : Nat) (pa : Nat) (tag : Nat) (data : Line) (hs : SpillIs L s) : SpillIs L
    (State.wbArrive s agent pa tag data) := .ite hs (State.sendHome_spillIs _ _ _ _ _ (State.leaving_spillIs _ _ _ _ hs))

theorem State.evctArrive_spillIs (s : State) (agent : Nat) (pa : Nat) (tag : Nat) (hs : SpillIs L s) : SpillIs L (State.evctArrive s
    agent pa tag) := .ite hs (State.sendHome_spillIs _ _ _ _ _ (State.leaving_spillIs _ _ _ _ hs))

theorem State.tileDrop_spillIs (s : State) (a : Nat) (l : Nat) (d : Line) (hs : SpillIs L s) : SpillIs L (State.tileDrop s a l d) := .ite
    (State.wbArrive_spillIs _ _ _ _ _ hs) (State.evctArrive_spillIs _ _ _ _ hs)

set_option smartUnfolding false in
theorem State.tileInstall_spillIs (s : State) (a : Nat) (l : Nat) (st : CSt) (d : Line) (hs : SpillIs L s) : SpillIs L (State.tileInstall
    s a l st d) := .opt (State.touchCopy_spillIs _ _ _ (State.setCoh_spillIs _ _ hs)) (fun _ => (State.tileDrop_spillIs _ _ _ _
    (State.touchCopy_spillIs _ _ _ (State.setCoh_spillIs _ _ hs))))

theorem State.prepLine_spillIs (s : State) (a : Nat) (w : Bool) (cache : Nat) (l : Nat) (hs : SpillIs L s) : SpillIs L (State.prepLine s
    a w cache l) := .ite hs (.ite (State.wake_spillIs _ _ hs) (.ite (State.accept_spillIs _ _ hs) (.ite (State.filterAlloc_spillIs _ _ _
    _ hs) hs)))

theorem State.moverMark_spillIs (s : State) (h : Nat) (hs : SpillIs L s) : SpillIs L (State.moverMark s h) := .ite hs (State.rset_spillIs
    _ _ _ hs)

set_option smartUnfolding false in
theorem State.moverReq_spillIs (s : State) (a : Nat) (l : Nat) (k : SnpK) (but : Option Nat) (hs : SpillIs L s) : SpillIs L
    (State.moverReq s a l k but) := State.setCoh_spillIs _ _ (.opt (.ite (State.countSnoop_spillIs _ _ (State.moverMark_spillIs _ _
    (State.useReq_spillIs _ _ _ (State.countLlc_spillIs _ _ _ hs)))) (State.moverMark_spillIs _ _ (State.useReq_spillIs _ _ _
    (State.countLlc_spillIs _ _ _ hs)))) (fun _ => (.ite (.ite (State.countSnoop_spillIs _ _ (State.moverMark_spillIs _ _
    (State.useReq_spillIs _ _ _ (State.countLlc_spillIs _ _ _ hs)))) (State.moverMark_spillIs _ _ (State.useReq_spillIs _ _ _
    (State.countLlc_spillIs _ _ _ hs)))) (State.slicePut_spillIs _ _ _ (.ite (State.countSnoop_spillIs _ _ (State.moverMark_spillIs _ _
    (State.useReq_spillIs _ _ _ (State.countLlc_spillIs _ _ _ hs)))) (State.moverMark_spillIs _ _ (State.useReq_spillIs _ _ _
    (State.countLlc_spillIs _ _ _ hs))))))))

theorem State.cohRead_spillIs (s : State) (a : Nat) (l : Nat) (cache : Nat) (got : Option Line) (hs : SpillIs L s) : SpillIs L
    (State.cohRead s a l cache got).1 := by
  unfold State.cohRead
  split
  · exact State.touchCopy_spillIs _ _ _ hs
  · have hm := s.moverReq_spillIs a l (moverSnp false a cache) none hs
    dsimp only
    generalize s.moverReq a l (moverSnp false a cache) none = s2 at hm ⊢
    have hcount : SpillIs L (if (s.cleanData a l (moverSnp false a cache)).isSome then s2 else s2.countHome l) :=
      .ite hm (State.countHome_spillIs _ _ hm)
    generalize (if (s.cleanData a l (moverSnp false a cache)).isSome then s2 else s2.countHome l) = s3 at hcount ⊢
    split
    · have hput (p : Prop) [Decidable p] (x : State) (d : Line) (hx : SpillIs L x) : SpillIs L (if p then x.llcPut l d false else x) :=
        .ite (State.llcPut_spillIs _ _ _ _ hx) hx
      exact .ite1 (State.tileInstall_spillIs _ _ _ _ _ (State.filterSetOrNew_spillIs _ _ _ _ (hput _ _ _ hcount)))
        (State.afterSnoop_spillIs _ _ _ _ (hput _ _ _ hcount))
    · exact hcount

theorem State.ownWrite_spillIs (s : State) (a : Nat) (l : Nat) (mask : Nat) (d : Line) (old : LineRes) (hs : SpillIs L s) : SpillIs L
    (State.ownWrite s a l mask d old).1 := by
  unfold State.ownWrite
  split
  · exact State.tileInstall_spillIs _ _ _ _ _ (State.filterSetOrNew_spillIs _ _ _ _ hs)
  · exact hs

theorem State.cohWrite_spillIs (s : State) (a : Nat) (l : Nat) (cache : Nat) (mask : Nat) (d : Line) (got : Option Line) (hs : SpillIs L
    s) : SpillIs L (State.cohWrite s a l cache mask d got).1 := .ite1 (by split; exacts [(State.ownWrite_spillIs _ _ _ _ _ _ (.ite hs
    (State.moverReq_spillIs _ _ _ _ _ hs))), (State.ownWrite_spillIs _ _ _ _ _ _ (.ite (State.moverReq_spillIs _ _ _ _ _ hs)
    (State.countHome_spillIs _ _ (State.moverReq_spillIs _ _ _ _ _ hs))))]) (State.homeWrite_spillIs _ _ _ _ _ _ _
    (State.filterDel_spillIs _ _ (State.moverReq_spillIs _ _ _ _ _ hs)))

theorem State.tableVault_spillIs (s : State) (c : Nat) (q : Nat) (tenant : Nat) (pa : Nat) (hs : SpillIs L s) : SpillIs L
    (State.tableVault s c q tenant pa).1 := by
  have hpaid := State.latNow_spillIs _ (tcAgent c) q 1 (State.charge_spillIs _ (tcAgent c) q 128
    (s.tollTake_spillIs [1, tenant, c, q] (tcAgent c) q 1 hs))
  unfold State.tableVault
  refine .ite1 (State.tollPay_spillIs _ _ _ _ _ hs) (.ite1 (State.prepLine_spillIs _ _ _ _ _ hs) ?_)
  dsimp only
  generalize State.latNow _ (tcAgent c) q 1 = s1 at hpaid ⊢
  have hr : SpillIs L (if s.ownerOf (lineOf pa * 128) = 0x1000 then s1.cohRead (tcAgent c) (lineOf pa) 1 none
      else (s1, s1.lineReadAs (lineOf pa) 0x1000)).1 := .ite1 (State.cohRead_spillIs _ _ _ _ _ hpaid) hpaid
  generalize (if s.ownerOf (lineOf pa * 128) = 0x1000 then s1.cohRead (tcAgent c) (lineOf pa) 1 none
      else (s1, s1.lineReadAs (lineOf pa) 0x1000)) = x at hr ⊢
  obtain ⟨s2, x⟩ := x
  cases x with
  | ok d => exact hr
  | _ => exact State.homeErr_spillIs _ _ _ _ _ hr

set_option smartUnfolding false in
theorem State.tableRead_spillIs (s : State) (c : Nat) (q : Nat) (tenant : Nat) (pa : Nat) (hs : SpillIs L s) : SpillIs L (State.tableRead
    s c q tenant pa).1 := .ite1 (.opt1 (State.remIssue_spillIs _ _ _ _ _ hs) (fun _ => hs)) (.ite1 (State.tableVault_spillIs _ _ _ _ _
    hs) hs)

theorem State.setWalks_spillIs (s : State) (l : List WalkRec) (hs : SpillIs L s) : SpillIs L (State.setWalks s l) := hs.of_eq rfl rfl

theorem State.walkBegin_spillIs (s : State) (c : Nat) (q : Nat) (t : Nat) (va : Nat) (hs : SpillIs L s) : SpillIs L (State.walkBegin s c
    q t va) := .ite hs (State.setWalks_spillIs _ _ (.ite (State.raddOpen_spillIs _ _ _ _ hs) (State.raddOpen_spillIs _ _ _ _
    (State.raddOpen_spillIs _ _ _ _ hs))))

theorem State.walkNote_spillIs (s : State) (c : Nat) (t : Nat) (va : Nat) (e : Nat) (hs : SpillIs L s) : SpillIs L (State.walkNote s c t
    va e) := State.setWalks_spillIs _ _ hs

theorem State.walkL1_spillIs (s : State) (c : Nat) (q : Nat) (t : Nat) (va : Nat) (hs : SpillIs L s) : SpillIs L (State.walkL1 s c q t
    va).1 := by
  have hread := s.tableRead_spillIs c q t (s.l1At t va) hs
  unfold State.walkL1
  split
  · exact hs
  · generalize s.tableRead c q t (s.l1At t va) = x at hread ⊢
    obtain ⟨s1, x⟩ := x
    cases x with
    | ok e => exact State.walkNote_spillIs _ _ _ _ _ hread
    | wait => exact hread
    | fail => exact hread

theorem State.walk_spillIs (s : State) (c : Nat) (q : Nat) (t : Nat) (va : Nat) (hs : SpillIs L s) : SpillIs L (State.walk s c q t va).1
    := by
  have hl1 := s.walkL1_spillIs c q t va hs
  unfold State.walk
  refine .ite1 hs ?_
  generalize s.walkL1 c q t va = x at hl1 ⊢
  obtain ⟨s1, x⟩ := x
  cases x with
  | wait => exact hl1
  | fail => exact hl1
  | ok e =>
    dsimp only
    split
    · exact hl1
    · exact hl1
    · next p _ =>
      have hread := s1.tableRead_spillIs c q t (l2At p va) hl1
      generalize s1.tableRead c q t (l2At p va) = y at hread ⊢
      obtain ⟨s2, y⟩ := y
      cases y with
      | wait => exact hread
      | fail => exact hread
      | ok e2 => exact hread

theorem State.tableDrop_spillIs (s : State) (c : Nat) (q : Nat) (t : Nat) (pa : Nat) (hs : SpillIs L s) : SpillIs L (State.tableDrop s c
    q t pa) := State.remSet_spillIs _ _ hs

theorem State.walkEnd_spillIs (s : State) (c : Nat) (q : Nat) (t : Nat) (va : Nat) (hs : SpillIs L s) : SpillIs L (State.walkEnd s c q t
    va) := by
  have hdrop := s.tableDrop_spillIs c (s.walkQ c q t va) t (s.l1At t va) hs
  unfold State.walkEnd
  refine State.setWalks_spillIs _ _ ?_
  split
  · exact State.tableDrop_spillIs _ _ _ _ _ hdrop
  · exact hdrop

theorem State.tcTouch_spillIs (s : State) (c : Nat) (e : TcEnt) (hs : SpillIs L s) : SpillIs L (State.tcTouch s c e) := .ite hs (hs.of_eq
    rfl rfl)

theorem State.tcPut_spillIs (s : State) (c : Nat) (e : TcEnt) (hs : SpillIs L s) : SpillIs L (State.tcPut s c e) := .ite (hs.of_eq rfl
    rfl) (State.tcTouch_spillIs _ _ _ (hs.of_eq rfl rfl))

theorem State.leaf_spillIs (s : State) (c : Nat) (q : Nat) (t : Nat) (va : Nat) (hs : SpillIs L s) : SpillIs L (State.leaf s c q t va).1
    := by
  have hwalk := State.walk_spillIs _ c ((s.walkBegin c q t va).walkQ c q t va) t va (s.walkBegin_spillIs c q t va hs)
  unfold State.leaf
  split
  · exact State.tcTouch_spillIs _ _ _ hs
  · generalize (s.walkBegin c q t va).walk c ((s.walkBegin c q t va).walkQ c q t va) t va = x at hwalk ⊢
    obtain ⟨s1, x⟩ := x
    cases x with
    | wait => exact hwalk
    | fail => exact hwalk
    | ok e => exact .ite (State.tcPut_spillIs _ _ _ (State.walkEnd_spillIs _ _ _ _ _ hwalk)) (State.walkEnd_spillIs _ _ _ _ _ hwalk)

theorem State.xlate_spillIs (s : State) (c : Nat) (q : Nat) (t : Nat) (va : Nat) (n : Nat) (a : Acc) (hs : SpillIs L s) : SpillIs L
    (State.xlate s c q t va n a).1 := by
  have hleaf := s.leaf_spillIs c q t va hs
  unfold State.xlate
  refine .ite1 hs ?_
  generalize s.leaf c q t va = x at hleaf ⊢
  obtain ⟨s1, x⟩ := x
  cases x with
  | wait => exact hleaf
  | fail => exact hleaf
  | ok e =>
    dsimp only
    split
    · exact hleaf
    · exact hleaf

theorem State.footprintOpen_spillIs (s : State) (c : Nat) (q : Nat) (t : Nat) (a : Acc) (z0 : List (Nat × Nat)) (hs : SpillIs L s) :
    SpillIs L (State.footprintOpen s c q t a z0).1 := by
  induction z0 generalizing s with
  | nil => exact hs
  | cons p rest ih =>
    have hx := s.xlate_spillIs c q t p.1 p.2 a hs
    unfold State.footprintOpen
    generalize s.xlate c q t p.1 p.2 a = x at hx ⊢
    obtain ⟨s1, x⟩ := x
    cases x with
    | wait => exact hx
    | fail => exact ih _ hx
    | ok pa => exact ih _ hx

theorem State.walksEnd_spillIs (s : State) (c : Nat) (q : Nat) (t : Nat) (l : List Nat) (hs : SpillIs L s) : SpillIs L (State.walksEnd s
    c q t l) := foldl_spillIs (fun _ _ h1 => (State.walkEnd_spillIs _ _ _ _ _ h1)) hs

theorem State.footprint_spillIs (s : State) (c : Nat) (q : Nat) (t : Nat) (a : Acc) (ps : List (Nat × Nat)) (hs : SpillIs L s) : SpillIs
    L (State.footprint s c q t a ps).1 := .ite1 (State.footprintOpen_spillIs _ _ _ _ _ _ hs) (State.walksEnd_spillIs _ _ _ _ _
    (State.footprintOpen_spillIs _ _ _ _ _ _ hs))

theorem State.fqShow_spillIs (s : State) (t : Nat) (hs : SpillIs L s) : SpillIs L (State.fqShow s t) := State.rset_spillIs _ _ _
    (State.rset_spillIs _ _ _ hs)

theorem State.faultRec_spillIs (s : State) (t : Nat) (page : Nat) (cause : Nat) (req : Option Nat) (write : Bool) (hs : SpillIs L s) :
    SpillIs L (State.faultRec s t page cause req write) := .ite (hs.of_eq rfl rfl) (.ite (State.fqShow_spillIs _ _ (hs.of_eq rfl rfl))
    (State.radd_spillIs _ _ _ _ (State.radd_spillIs _ _ _ _ hs)))

theorem State.pageFail_spillIs (s : State) (t : Nat) (page : Nat) (cause : Nat) (req : Option Nat) (write : Bool) (hs : SpillIs L s) :
    SpillIs L (State.pageFail s t page cause req write) := .ite hs (.ite (State.report_spillIs _ _ hs) (State.faultRec_spillIs _ _ _ _ _
    _ hs))

theorem State.pageFails_spillIs (s : State) (t : Nat) (fails : List (Nat × Nat)) (req : Option Nat) (write : Bool) (hs : SpillIs L s) :
    SpillIs L (State.pageFails s t fails req write) := foldl_spillIs (fun _ _ h1 => (State.pageFail_spillIs _ _ _ _ _ _ h1)) hs

set_option smartUnfolding false in
theorem State.memDrop_spillIs (s : State) (who : List Nat) (l : Nat) (hs : SpillIs L s) : SpillIs L (State.memDrop s who l) := .opt hs
    (fun _ => (.ite hs (State.remSet_spillIs _ _ hs)))

theorem State.readPieces_spillIs (s : State) (who : List Nat) (a : Nat) (cache : Nat) (z0 : List (Nat × Nat)) (hs : SpillIs L s) :
    SpillIs L (State.readPieces s who a cache z0).1 := by
  induction z0 generalizing s with
  | nil => exact hs
  | cons p rest ih =>
    have hread := s.cohRead_spillIs a (lineOf p.1) cache (s.memGot who (lineOf p.1)) hs
    unfold State.readPieces
    generalize s.cohRead a (lineOf p.1) cache (s.memGot who (lineOf p.1)) = x at hread ⊢
    obtain ⟨s1, x⟩ := x
    cases x with
    | ok => exact ih _ (State.memDrop_spillIs _ _ _ hread)
    | _ => exact ih _ (State.memDrop_spillIs _ _ _ hread)

theorem State.writePieces_spillIs (s : State) (who : List Nat) (a : Nat) (cache : Nat) (z0 : List (Nat × Nat)) (z1 : List Byte) (hs :
    SpillIs L s) : SpillIs L (State.writePieces s who a cache z0 z1).1 := by
  induction z0 generalizing s z1 with
  | nil => exact hs
  | cons p rest ih =>
    have hwrite (mask : Nat) (d : Line) := s.cohWrite_spillIs a (lineOf p.1) cache mask d (s.memGot who (lineOf p.1)) hs
    unfold State.writePieces
    dsimp only
    generalize placed (p.1 % 128) (z1.take p.2) = dm
    replace hwrite := hwrite dm.2 dm.1
    generalize s.cohWrite a (lineOf p.1) cache dm.2 dm.1 (s.memGot who (lineOf p.1)) = x at hwrite ⊢
    obtain ⟨s1, x⟩ := x
    cases x with
    | ok => exact ih _ _ (State.memDrop_spillIs _ _ _ hwrite)
    | _ => exact ih _ _ (State.memDrop_spillIs _ _ _ hwrite)

theorem State.moverWrite_spillIs (s : State) (who : List Nat) (a : Nat) (cache : Nat) (pa : Nat) (bs : List Byte) (hs : SpillIs L s) :
    SpillIs L (State.moverWrite s who a cache pa bs).1 := State.writePieces_spillIs _ _ _ _ _ _ hs

theorem State.chargeFor_spillIs (s : State) (who : List Nat) (a : Nat) (n : Nat) (hs : SpillIs L s) : SpillIs L (State.chargeFor s who a
    n) := .ite hs (State.latNow_spillIs _ _ _ _ (State.charge_spillIs _ _ _ _ (State.tollTake_spillIs _ _ _ _ _ hs)))

theorem State.echo_spillIs (s : State) (pa : Nat) (n : Nat) (hs : SpillIs L s) : SpillIs L (State.echo s pa n) := .ite hs (foldl_spillIs
    (fun _ _ h1 => (.ite (State.send_spillIs _ _ _ _ (State.readPieces_spillIs _ _ _ _ _ (State.chargeFor_spillIs _ _ _ _ h1))) h1)) hs)

theorem State.prepPiece_spillIs (s : State) (who : List Nat) (a : Nat) (w : Bool) (cache : Nat) (func : Nat) (pa : Nat) (n : Nat) (hs :
    SpillIs L s) : SpillIs L (State.prepPiece s who a w cache func pa n) := foldl_spillIs (fun _ _ h1 => (.ite (State.remIssue_spillIs _
    _ _ _ _ (.ite h1 (State.prepLine_spillIs _ _ _ _ _ h1))) (.ite h1 (State.prepLine_spillIs _ _ _ _ _ h1)))) hs

theorem State.openWrites_spillIs (s : State) (who : List Nat) (a : Nat) (cache : Nat) (func : Nat) (ps : List (Nat × Nat)) (hs : SpillIs
    L s) : SpillIs L (State.openWrites s who a cache func ps) := foldl_spillIs (fun _ _ h1 => (.ite h1 (State.prepPiece_spillIs _ _ _ _ _
    _ _ _ h1))) hs

theorem State.payFor_spillIs (s : State) (who : List Nat) (a : Nat) (n : Nat) (hs : SpillIs L s) : SpillIs L (State.payFor s who a n) :=
    .ite hs (State.tollPay_spillIs _ _ _ _ _ hs)

theorem State.putPieces_spillIs (s : State) (who : List Nat) (a : Nat) (cache : Nat) (func : Nat) (z0 : List (Nat × Nat)) (z1 : List
    Byte) (hs : SpillIs L s) : SpillIs L (State.putPieces s who a cache func z0 z1).1 := by
  induction z0 generalizing s z1 with
  | nil => exact hs
  | cons p rest ih =>
    exact .ite1 (ih _ _ (State.remWrite_spillIs _ _ _ _ _ (State.unmark_spillIs _ _ hs)))
      (ih _ _ (State.echo_spillIs _ _ _ (State.moverWrite_spillIs _ _ _ _ _ _ hs)))

theorem State.legRemFail_spillIs (s : State) (p : Nat) (tenant : Nat) (n : Nat) (hs : SpillIs L s) : SpillIs L (State.legRemFail s p
    tenant n) := .ite (State.voidPart_spillIs _ _ _ _ _ _ _ _ hs) (.ite (State.voidPart_spillIs _ _ _ _ _ _ _ _ hs)
    (State.voidPart_spillIs _ _ _ _ _ _ _ _ hs))

theorem State.setRings_spillIs (s : State) (r : RingSt) (hs : SpillIs L s) (hr : r.spill = s.rings.spill) : SpillIs L (s.setRings r) :=
    hs.of_eq rfl hr

theorem State.ringBad_spillIs (s : State) (tenant : Nat) (x : Nat × LineRes) (hs : SpillIs L s) : SpillIs L (State.ringBad s tenant x).1
    := by
  obtain ⟨l, r⟩ := x
  cases r with
  | ue b c => exact State.memUe_spillIs _ _ _ _ _ _ hs
  | fenced => exact State.voidFor_spillIs _ _ _ _ _ _ _ (State.fencedCap_spillIs _ _ hs)
  | _ => exact hs

theorem State.ringBads_spillIs (s : State) (tenant : Nat) (l : List (Nat × LineRes)) (hs : SpillIs L s) : SpillIs L (State.ringBads s
    tenant l).1 := foldl_fst_spillIs (fun _ _ h1 => (State.ringBad_spillIs _ _ _ h1)) hs

theorem State.unkeep_spillIs (s : State) (who : List Nat) (wr : Bool) (ranges : List (Nat × Nat)) (hs : SpillIs L s) : SpillIs L
    (State.unkeep s who wr ranges) := hs.of_eq rfl rfl

set_option smartUnfolding false in
theorem State.dmaXlate_spillIs (s : State) (who : List Nat) (wr : Bool) (tenant : Nat) (ranges : List (Nat × Nat)) (hs : SpillIs L s) :
    SpillIs L (State.dmaXlate s who wr tenant ranges).1 := .opt1 (.ite1 (State.footprint_spillIs _ _ _ _ _ _ hs) (State.setRings_spillIs
    _ _ (State.footprint_spillIs _ _ _ _ _ _ hs) rfl)) (fun _ => hs)

set_option smartUnfolding false in
theorem State.dmaWrite_spillIs (s : State) (who : List Nat) (tenant : Nat) (ranges : List (Nat × Nat)) (bs : List Byte) (hs : SpillIs L
    s) : SpillIs L (State.dmaWrite s who tenant ranges bs).1 := .ite1 (State.dmaXlate_spillIs _ _ _ _ _ hs) (.ite1
    (State.pageFails_spillIs _ _ _ _ _ (State.dmaXlate_spillIs _ _ _ _ _ hs)) (.ite1 (.opt1 (by split; exacts [(State.ringBads_spillIs _
    _ _ (State.putPieces_spillIs _ _ _ _ _ _ _ (State.chargeFor_spillIs _ _ _ _ (State.unkeep_spillIs _ _ _ _ (State.dmaXlate_spillIs _ _
    _ _ _ hs))))), (.ite1 (State.ringBads_spillIs _ _ _ (State.putPieces_spillIs _ _ _ _ _ _ _ (State.chargeFor_spillIs _ _ _ _
    (State.unkeep_spillIs _ _ _ _ (State.dmaXlate_spillIs _ _ _ _ _ hs))))) (State.legRemFail_spillIs _ _ _ _ (State.ringBads_spillIs _ _
    _ (State.putPieces_spillIs _ _ _ _ _ _ _ (State.chargeFor_spillIs _ _ _ _ (State.unkeep_spillIs _ _ _ _ (State.dmaXlate_spillIs _ _ _
    _ _ hs)))))))]) (fun _ => (State.ringBads_spillIs _ _ _ (State.putPieces_spillIs _ _ _ _ _ _ _ (State.chargeFor_spillIs _ _ _ _
    (State.unkeep_spillIs _ _ _ _ (State.dmaXlate_spillIs _ _ _ _ _ hs))))))) (State.payFor_spillIs _ _ _ _ (State.openWrites_spillIs _ _
    _ _ _ _ (State.dmaXlate_spillIs _ _ _ _ _ hs)))))

theorem State.lostRec_spillIs (s : State) (c : Nat) (hs : SpillIs L s) : SpillIs L (State.lostRec s c) := State.raddOpen_spillIs _ _ _ _
    (State.radd_spillIs _ _ _ _ hs)

theorem State.issueRec_spillIs (s : State) (r : CmpRec) (hs : SpillIs L s) : SpillIs L (State.issueRec s r).1 := by
  have hkept (t : State) (f : NMap Nat) (h : SpillIs L t) : SpillIs L (t.setRings { t.rings with promised := f }) := h.of_eq rfl rfl
  unfold State.issueRec
  refine .ite1 (hkept _ _ hs) (.ite1 (State.lostRec_spillIs _ _ (hkept _ _ hs)) ?_)
  dsimp only
  have hw := s.dmaWrite_spillIs [5, s.cmpOf r.ring] (ringTen r.ring) [(s.entVa (s.cmpOf r.ring)
    (s.rf (rPtr (s.cmpOf r.ring)) F.ringPtr_TAIL), 32)] (recBytes r (s.rf (rPtr (s.cmpOf r.ring)) F.ringPtr_TAIL)
    (s.ringLen (s.cmpOf r.ring)) (s.recSail (ringTen r.ring))) hs
  generalize s.dmaWrite _ _ _ _ = w at hw ⊢
  obtain ⟨s1, x⟩ := w
  cases x with
  | wait => exact hw
  | ok b => exact State.signalIf_spillIs _ _ _ _ (State.rset_spillIs _ _ _ (hkept _ _ hw))
  | fail => exact State.signalIf_spillIs _ _ _ _ (State.rset_spillIs _ _ _ (State.radd_spillIs _ _ _ _ (hkept _ _ hw)))

end

/-! ### The boundary begins the next sailing (R23, R25) -/

theorem State.openSail_sail (s : State) : s.openSail.sail = (s.sail + 1) % 2 ^ 64 := by
  unfold State.openSail
  exact (State.rf_rset_same _ _ _ _ (by decide)).trans (Nat.mod_mod _ _)

theorem State.boundary_sail (s : State) (lateNs : Nat) (rails tiles : List Nat) (badMeter : Bool) :
    (s.boundary lateNs rails tiles badMeter).sail = (s.sail + 1) % 2 ^ 64 := by
  unfold State.boundary
  simp [State.openSail_sail]

theorem State.boundary_begins (s : State) (lateNs : Nat) (rails tiles : List Nat) (badMeter : Bool) :
    (s.boundary lateNs rails tiles badMeter).time.tclk = 0 ∧ (s.boundary lateNs rails tiles badMeter).time.stage = .boundary := by
  have hopen : s.closeSail.fqEdge.ferryEnd.ferryRan.openSail.time.tclk = 0 ∧
      s.closeSail.fqEdge.ferryEnd.ferryRan.openSail.time.stage = .boundary := ⟨rfl, rfl⟩
  unfold State.boundary
  dsimp only
  split <;> simpa [State.lateBoundary_time] using hopen

/-! ### Messages leave without touching the records (R30, R31) -/

@[simp] theorem State.wakeLink_rings (s : State) : s.wakeLink.rings = s.rings := by
  unfold State.wakeLink
  split <;> rfl

@[simp] theorem State.wakeLink_err (s : State) : s.wakeLink.err = s.err := by
  unfold State.wakeLink
  split <;> rfl

theorem State.judge_keeps (s : State) (fn v : Nat) : (s.judge fn v).1.rings = s.rings ∧ (s.judge fn v).1.err = s.err := by
  unfold State.judge
  (repeat' split) <;> exact ⟨rfl, rfl⟩

theorem State.judgeAll_keeps (s : State) (l : List (Nat × Nat)) : (s.judgeAll l).1.rings = s.rings ∧ (s.judgeAll l).1.err = s.err := by
  unfold State.judgeAll
  refine List.foldlRecOn (motive := fun a : State × List Out => a.1.rings = s.rings ∧ a.1.err = s.err) _ _ ⟨rfl, rfl⟩ ?_
  rintro a ⟨hr, he⟩ x -
  obtain ⟨hr', he'⟩ := a.1.judge_keeps x.1 x.2
  exact ⟨hr'.trans hr, he'.trans he⟩

theorem State.fire_keeps (s : State) (o : Out) : (s.fire o).1.rings = s.rings ∧ (s.fire o).1.err = s.err := by
  unfold State.fire
  dsimp only
  split
  · exact ⟨rfl, rfl⟩
  · split
    · exact ⟨rfl, rfl⟩
    · split
      · exact ⟨rfl, rfl⟩
      · exact ⟨State.wakeLink_rings _, State.wakeLink_err _⟩

theorem State.fireAll_keeps (s : State) (l : List Out) : (s.fireAll l).1.rings = s.rings ∧ (s.fireAll l).1.err = s.err := by
  unfold State.fireAll
  refine List.foldlRecOn (motive := fun a : State × Nat => a.1.rings = s.rings ∧ a.1.err = s.err) _ _ ⟨rfl, rfl⟩ ?_
  rintro a ⟨hr, he⟩ o -
  obtain ⟨hr', he'⟩ := a.1.fire_keeps o
  exact ⟨hr'.trans hr, he'.trans he⟩

@[simp] theorem State.rsetIf_rings (s : State) (c : Bool) (key : Nat) (f : Fld) (x : Nat) : (s.rsetIf c key f x).rings = s.rings := by
  unfold State.rsetIf
  split <;> rfl

@[simp] theorem State.rsetIf_err (s : State) (c : Bool) (key : Nat) (f : Fld) (x : Nat) : (s.rsetIf c key f x).err = s.err := by
  unfold State.rsetIf
  split <;> rfl

theorem State.fireSpill_of_records (s : State) (n : Nat) (h : s.rings.spill ≠ []) : s.fireSpill n = s := by
  unfold State.fireSpill
  simp [h]

/-- With no record left, the first n messages go: the rest of them is what waits. -/
theorem State.fireSpill_of_none (s : State) (n : Nat) (h : s.rings.spill = []) :
    (s.fireSpill n).rings = { s.rings with vecSpill := s.rings.vecSpill.drop n } ∧ (s.fireSpill n).err = s.err := by
  have hfire : s.fireSpill n = _ := if_neg (by rw [h]; exact Bool.false_ne_true)
  obtain ⟨hr, he⟩ := (s.setRings { s.rings with vecSpill := s.rings.vecSpill.drop n }).fireAll_keeps (s.rings.vecSpill.take n)
  rw [hfire]
  exact ⟨(State.rsetIf_rings _ _ _ _ _).trans hr, (State.rsetIf_err _ _ _ _ _).trans he⟩

theorem State.fireSpill_keeps (s : State) (n : Nat) :
    (s.fireSpill n).rings.spill = s.rings.spill ∧ (s.fireSpill n).err = s.err := by
  by_cases h : s.rings.spill = []
  · obtain ⟨hr, he⟩ := s.fireSpill_of_none n h
    exact ⟨by rw [hr], he⟩
  · rw [s.fireSpill_of_records n h]
    exact ⟨rfl, rfl⟩

/-! ### Records go in their order (R30) -/

/-- One record of a list issued, where none before it waits: State.issueRecs is a fold of this. -/
def State.issueStep (a : State × Nat × List CmpRec) (r : CmpRec) : State × Nat × List CmpRec :=
  if a.2.2.isEmpty then
    let x := a.1.issueRec r
    match x.2 with
    | .left => (x.1, a.2.1 + 1, [])
    | .gone => (x.1, a.2.1, [])
    | .waits => (x.1, a.2.1, [r])
  else (a.1, a.2.1, a.2.2 ++ [r])

theorem State.issueRecs_eq (s : State) (l : List CmpRec) : s.issueRecs l = l.foldl State.issueStep (s, 0, []) := rfl

/-- Behind a record that waits every other waits. -/
theorem State.foldl_issueStep_of_waiting (l : List CmpRec) (s : State) (k : Nat) {w : List CmpRec} (hw : w ≠ []) :
    (l.foldl State.issueStep (s, k, w)).2.2 = w ++ l := by
  induction l generalizing w with
  | nil => simp
  | cons r l ih =>
    have hstep : State.issueStep (s, k, w) r = (s, k, w ++ [r]) := by simp [State.issueStep, hw]
    rw [List.foldl_cons, hstep, ih (by simp), List.append_assoc, List.singleton_append]

/-- What is left of a list of records issued in order is the list without some of its first. -/
theorem State.foldl_issueStep_left (l : List CmpRec) (s : State) (k : Nat) :
    ∃ j, (l.foldl State.issueStep (s, k, [])).2.2 = l.drop j ∧
      ∀ r rs, l = r :: rs → (s.issueRec r).2 ≠ .waits → 1 ≤ j := by
  induction l generalizing s k with
  | nil => exact ⟨0, rfl, fun _ _ h => by cases h⟩
  | cons r l ih =>
    have hgoes : ∀ m, ∃ j, (l.foldl State.issueStep ((s.issueRec r).1, m, [])).2.2 = (r :: l).drop j ∧ 1 ≤ j := fun m => by
      obtain ⟨j, hj, -⟩ := ih (s.issueRec r).1 m
      exact ⟨j + 1, hj, Nat.le_add_left 1 j⟩
    cases hsent : (s.issueRec r).2 with
    | left =>
      obtain ⟨j, hj, hpos⟩ := hgoes (k + 1)
      exact ⟨j, by simpa [State.issueStep, hsent] using hj, fun _ _ _ _ => hpos⟩
    | gone =>
      obtain ⟨j, hj, hpos⟩ := hgoes k
      exact ⟨j, by simpa [State.issueStep, hsent] using hj, fun _ _ _ _ => hpos⟩
    | waits =>
      refine ⟨0, ?_, fun r' rs h hne => absurd ?_ hne⟩
      · have hstep : State.issueStep (s, k, []) r = ((s.issueRec r).1, k, [r]) := by simp [State.issueStep, hsent]
        rw [List.foldl_cons, hstep, State.foldl_issueStep_of_waiting l _ _ (by simp)]
        rfl
      · obtain ⟨rfl, -⟩ := List.cons.inj h
        exact hsent

theorem State.issueRecs_spillIs {L : List CmpRec} (s : State) (l : List CmpRec) (hs : SpillIs L s) : SpillIs L (s.issueRecs l).1 := by
  rw [State.issueRecs_eq]
  refine foldl_fst_spillIs (fun a r ha => ?_) hs
  have hissue := a.1.issueRec_spillIs r ha
  unfold State.issueStep
  dsimp only
  split
  · split <;> exact hissue
  · exact ha

/-- The state after the first n records of those that spilled have been tried, and the records that wait. -/
def State.spillTried (s : State) (n : Nat) : State × Nat × List CmpRec :=
  (s.setRings { s.rings with spill := s.rings.spill.drop n, vecDue := [] }).issueRecs (s.rings.spill.take n)

theorem State.issueSpill_keeps (s : State) (n : Nat) :
    (s.issueSpill n).rings.spill = (s.spillTried n).2.2 ++ (s.spillTried n).1.rings.spill ∧ (s.issueSpill n).err = (s.spillTried n).1.err
        := by
  obtain ⟨hr, he⟩ := ((s.spillTried n).1.setRings { (s.spillTried n).1.rings with
    spill := (s.spillTried n).2.2 ++ (s.spillTried n).1.rings.spill, vecDue := s.rings.vecDue }).judgeAll_keeps
      (vecOrder (s.spillTried n).1.rings.vecDue)
  exact ⟨(congrArg RingSt.spill (State.rsetIf_rings _ _ _ _ _)).trans (congrArg RingSt.spill hr), (State.rsetIf_err _ _ _ _ _).trans he⟩

theorem State.spillTried_of_none (s : State) (n : Nat) (h : s.rings.spill = []) :
    s.spillTried n = (s.setRings { s.rings with spill := s.rings.spill.drop n, vecDue := [] }, 0, []) := by
  unfold State.spillTried
  rw [h, List.take_nil]
  rfl

theorem State.issueSpill_of_none (s : State) (n : Nat) (h : s.rings.spill = []) :
    (s.issueSpill n).rings.spill = [] ∧ (s.issueSpill n).rings.vecSpill = s.rings.vecSpill := by
  constructor
  · rw [(s.issueSpill_keeps n).1, s.spillTried_of_none n h]
    show s.rings.spill.drop n = []
    rw [h, List.drop_nil]
  · refine (congrArg RingSt.vecSpill (State.rsetIf_rings _ _ _ _ _)).trans ?_
    show ((((s.spillTried n).1.setRings { (s.spillTried n).1.rings with
      spill := (s.spillTried n).2.2 ++ (s.spillTried n).1.rings.spill, vecDue := s.rings.vecDue }).lateVecs
        (s.spillTried n).1.rings.vecDue).rings).vecSpill = _
    rw [s.spillTried_of_none n h]
    rfl

theorem State.commitSpill_of_due (s : State) (n : Nat) (h : s.time.stage = .quiet → s.rings.spill = []) :
    s.commitSpill n = (s.issueSpill n).fireSpill (n - s.rings.spill.length) := by
  unfold State.commitSpill
  exact if_neg fun hq => hq.2 (h hq.1)

theorem State.commitSpill_spill (s : State) (n : Nat) (h : s.time.stage = .quiet → s.rings.spill = []) :
    ∃ j, ((s.commitSpill n).err.fatal = false →
        (s.commitSpill n).rings.spill = (s.rings.spill.take n).drop j ++ s.rings.spill.drop n) ∧
      ∀ r rs, s.rings.spill = r :: rs → 0 < n →
        ((s.setRings { s.rings with spill := s.rings.spill.drop n, vecDue := [] }).issueRec r).2 ≠ .waits → 1 ≤ j := by
  rw [s.commitSpill_of_due n h]
  obtain ⟨hspill, herr⟩ := (s.issueSpill n).fireSpill_keeps (n - s.rings.spill.length)
  obtain ⟨htried, hterr⟩ := s.issueSpill_keeps n
  obtain ⟨j, hj, hpos⟩ := State.foldl_issueStep_left (s.rings.spill.take n)
    (s.setRings { s.rings with spill := s.rings.spill.drop n, vecDue := [] }) 0
  have hrest : SpillIs (s.rings.spill.drop n) (s.spillTried n).1 := State.issueRecs_spillIs _ _ fun _ => rfl
  refine ⟨j, fun hf => ?_, fun r rs hrs hn hgo => hpos r (rs.take (n - 1)) ?_ hgo⟩
  · rw [herr, hterr] at hf
    rw [hspill, htried, hrest hf]
    exact congrArg (· ++ _) hj
  · obtain ⟨m, rfl⟩ := Nat.exists_eq_add_of_lt hn
    simp [hrs]

theorem State.commitSpill_vecSpill (s : State) (n : Nat) (h : s.rings.spill = []) :
    (s.commitSpill n).rings.vecSpill = s.rings.vecSpill.drop n := by
  obtain ⟨hnone, hvec⟩ := s.issueSpill_of_none n h
  rw [s.commitSpill_of_due n fun _ => h, ((s.issueSpill n).fireSpill_of_none _ hnone).1, h, hvec]
  rfl

theorem State.commitSpill_stores (s : State) (n : Nat) :
    (s.commitSpill n).time = s.time ∧ (s.commitSpill n).holds = s.holds ∧ (s.commitSpill n).fuses = s.fuses := by
  unfold State.commitSpill
  split <;> simp

theorem exec_commitSpill_of_due (s : State) (n : Nat) (hb : s.time.stage ≠ .boundary) (hc : s.time.stage ≠ .c1) (hm : s.muted = false) :
    exec (.commitSpill n) s = .next (s.commitSpill n) := by
  show execCommitSpill n s = _
  unfold execCommitSpill
  split
  · next h => exact absurd h hb
  · next h => exact absurd h hc
  · rw [hm]
    rfl

theorem exec_commitSpill_of_not_due (s : State) (n : Nat)
    (h : s.time.stage = .boundary ∨ s.time.stage = .c1 ∨ s.muted = true ∨ (s.time.stage = .quiet ∧ s.rings.spill ≠ [])) :
    exec (.commitSpill n) s = .next s := by
  show execCommitSpill n s = _
  unfold execCommitSpill
  split
  · rfl
  · rfl
  · next hb hc =>
    obtain h | h | h | h := h
    · exact absurd h hb
    · exact absurd h hc
    · rw [h]
      rfl
    · have hstays : s.commitSpill n = s := if_pos h
      rw [hstays, ite_self]

/-- Settles O10: the boundary is State.boundary, COMMIT_SPILL is State.commitSpill. -/
theorem boundaryBeginsTheNextSailing : Obligations.BoundaryBeginsTheNextSailing := by
  unfold Obligations.BoundaryBeginsTheNextSailing
  intro s ns n rails tiles bad
  refine ⟨fun hq hrun => ?_, fun h => if_neg h, fun hb hc hm hq => ?_, exec_commitSpill_of_not_due s n⟩
  · obtain ⟨htclk, hstage⟩ := s.boundary_begins ns rails tiles bad
    exact ⟨s.boundary ns rails tiles bad, if_pos ⟨hq, hrun⟩, s.boundary_sail ns rails tiles bad, htclk, hstage,
      State.retryHost_time _, State.retryHost_of_none _⟩
  · obtain ⟨j, hspill, hpos⟩ := s.commitSpill_spill n hq
    exact ⟨s.commitSpill n, j, exec_commitSpill_of_due s n hb hc hm, hspill, hpos, s.commitSpill_vecSpill n, s.commitSpill_stores n⟩

end Sys2Proof.Machine
end

section
/-! PROOFS. LEG_START: O11 fails where a partition's number is none of the hub's (02_sailings_and_timetable, R35, R129). -/

namespace Sys2Proof.Machine

/-- The number for which the register SAIL_LAG of the partition is TE_STATUS of TE 0. -/
def lagAlias : Nat := 262112

/-- A leg of tenant 5 that runs program 9. -/
def aliasEntry : LegEntry := ⟨0, 9, 5, 2, 3, 400⟩

def aliasPlan : LegPlan := ⟨0, lagAlias, aliasEntry, some (320, 0), false, 0⟩

/-- Program 9: one region, of weights. -/
def aliasProg : Prog := ⟨9, 1024, 100, 1, [⟨0x10000, 0, 0x8000, 0, 0⟩], [], [], [0], false, []⟩

/-- The voyage of the plan. -/
def aliasCtx : Ctx := Ctx.admitted 320 0 0 false

/-- The slots of the timetable: slot 0 streams a block of region 0 to the leg, slot 1 streams none. -/
def aliasVariant : Variant :=
  ⟨0, 2, 0, [[⟨lagAlias, 1, false, 0, 0, [aliasEntry], [⟨false, 0, 0, 0, 0, 0, 2, 0, 0, 512, 0⟩], [], 0⟩],
    [⟨lagAlias, 1, false, 0, 0, [aliasEntry], [], [], 0⟩]], []⟩

def aliasManifest : Manifest :=
  { digest := 1, svn := 0, serial := 0, prev := 0, sects := [], slips := [], stackMask := 3, stackCap := 0, twinDeclared := false,
    limits := [], period := 1000, quiet := 100, mm := ⟨0, 0, 4, 12, [1, 2, 4, 8, 16, 32], [], [⟨0, 16, 5⟩]⟩, parts := [⟨lagAlias, 3, 7⟩],
    tenants := [⟨5, 0, []⟩], tabs := [], grants := [], progs := [], variants := [aliasVariant], budgetW := 0, regs := [],
    tdiMap := 0, scrubRate := 0, rotRate := 0, twin := none, bytes := [] }

/-- TE 0 idle in RUN of sailing 10, its STATE 1, with a leg of that partition planned, its program's first page translated. -/
def aliasState : State :=
  ((({ State.reset with
      man := { State.reset.man with inForce := some aliasManifest }
      time := ⟨20, 10, .run, 0, false⟩
      heap := { State.reset.heap with keys := [(5, (some 5, none))] }
      dtu := { State.reset.dtu with caches := [(0, [⟨5, 0, false, 0, true, true, false, 0⟩])] }
      te := [(0, { TeSt.idle with plan := [aliasPlan] })], progs := [(9, aliasProg)]
      rings := { State.reset.rings with ctxs := [aliasCtx] } } : State).rset (R.dtuCtxCfg 5) F.dtuCtxCfg_STATE 2).rset
        R.sailNum F.sailNum_NUM 10).rset (R.teStatus 0) F.teStatus_STATE 1

/-- Before the leg starts its slot, taken at LAG 1, streams nothing; TE_STATUS.STATE 2 reads as LAG 2, and its slot streams a block. -/
theorem aliasState_starts_with_stream :
    aliasState.wstreams 0 aliasPlan = [] ∧ ((aliasState.nextLeg 0).tez 0).stream ≠ [] := by decide

theorem aliasState_plan_runs :
    aliasState.time.stage = .run ∧ aliasState.err.fatal = false ∧ (aliasState.tez 0).plan = [aliasPlan] ∧ (aliasState.tez 0).run = none ∧
      aliasState.ctxOf 320 0 = some aliasCtx ∧ mget aliasState.progs aliasPlan.entry.prog = some aliasProg ∧
      (aliasState.legRun 0 aliasPlan aliasCtx aliasProg).misaligned = false := by decide

theorem exec_legStart_of_run (s : State) (te : Nat) (hrun : s.time.stage = .run) (hfatal : s.err.fatal = false) :
    exec (.legStart te) s = .next (s.nextLeg te) := if_pos ⟨hrun, hfatal⟩

theorem State.streamOn_of_none_ahead (s : State) (k : Nat) (r : LegRun) (h : (s.tez k).ahead = []) : s.streamOn k r = s := if_pos h

/-- Refutes O11: STATE 2 written into the TE's status changes the lag, and with it the slot and its WSTREAM entries, of a partition
whose number lies beyond the hub's, so the stream is not the one that stood in the slot before. -/
theorem not_legsStartAsPlanned : ¬ Obligations.LegsStartAsPlanned := by
  unfold Obligations.LegsStartAsPlanned
  intro h
  obtain ⟨hrun, hfatal, hplan, hidle, hctx, hprog, haligned⟩ := aliasState_plan_runs
  obtain ⟨hbefore, hafter⟩ := aliasState_starts_with_stream
  obtain ⟨u, r, hnext, -, -, -, hstream, hahead, -⟩ :=
    h aliasState 0 aliasPlan [] (320, 0) aliasCtx aliasProg hrun hfatal hplan hidle rfl rfl hctx hprog haligned
  rw [exec_legStart_of_run _ _ hrun hfatal, u.streamOn_of_none_ahead 0 r (hahead.trans hbefore)] at hnext
  injection hnext with hu
  exact hafter (hu ▸ hstream)

end Sys2Proof.Machine
end

section
/-! PROOFS. The end of a leg: O12 (R44, R81, R105, R130). -/

namespace Sys2Proof.Machine

/-! ### What the operations on a TE change -/

/-- Nothing but TEs, the legs that ended and registers differs. -/
def LegFrame (s t : State) : Prop := t = { s with te := t.te, ended := t.ended, regs := t.regs, shadow := t.shadow }

theorem LegFrame.trans {s t u : State} (hst : LegFrame s t) (htu : LegFrame t u) : LegFrame s u :=
  Eq.trans htu (congrArg (fun x : State => { x with te := u.te, ended := u.ended, regs := u.regs, shadow := u.shadow }) hst)

theorem State.raddOpen_legFrame (s : State) (key : Nat) (f : Fld) (n : Nat) : LegFrame s (s.raddOpen key f n) := by
  unfold State.raddOpen
  split <;> rfl

theorem State.teState_legFrame (s : State) (k x : Nat) : LegFrame s (s.teState k x) := by
  unfold State.teState
  split <;> rfl

theorem State.dropLeg_legFrame (s : State) (k : Nat) : LegFrame s (s.dropLeg k) := by
  unfold State.dropLeg
  dsimp only
  split <;> rfl

@[simp] theorem State.raddOpen_te (s : State) (key : Nat) (f : Fld) (n : Nat) : (s.raddOpen key f n).te = s.te := by
  unfold State.raddOpen
  split <;> rfl

@[simp] theorem State.raddOpen_ended (s : State) (key : Nat) (f : Fld) (n : Nat) : (s.raddOpen key f n).ended = s.ended := by
  unfold State.raddOpen
  split <;> rfl

@[simp] theorem State.teState_te (s : State) (k x : Nat) : (s.teState k x).te = s.te := by
  unfold State.teState
  split <;> rfl

@[simp] theorem State.teState_ended (s : State) (k x : Nat) : (s.teState k x).ended = s.ended := by
  unfold State.teState
  split <;> rfl

@[simp] theorem State.dropLeg_regs (s : State) (k : Nat) : (s.dropLeg k).regs = s.regs := by
  unfold State.dropLeg
  dsimp only
  split <;> rfl

@[simp] theorem State.dropLeg_ended (s : State) (k : Nat) : (s.dropLeg k).ended = s.ended := by
  unfold State.dropLeg
  dsimp only
  split <;> rfl

theorem State.tez_of_te {s t : State} (h : t.te = s.te) (k : Nat) : t.tez k = s.tez k := by
  unfold State.tez
  rw [h]

theorem State.tez_setTe_same (s : State) (k : Nat) (t : TeSt) : (s.setTe k t).tez k = t := by
  simp [State.tez, State.setTe, mgetD]

theorem State.tez_setTe_ne (s : State) {k j : Nat} (t : TeSt) (h : k ≠ j) : (s.setTe k t).tez j = s.tez j := by
  simp [State.tez, State.setTe, mgetD, mget_mput_ne _ _ h]

theorem State.dropLeg_run (s : State) (k : Nat) : ((s.dropLeg k).tez k).run = none := by
  unfold State.dropLeg
  dsimp only
  split
  · rw [State.tez_setTe_same]
  · next h => exact h

theorem State.dropLeg_others (s : State) {k j : Nat} (h : j ≠ k) : (s.dropLeg k).tez j = s.tez j := by
  unfold State.dropLeg
  dsimp only
  split
  · exact s.tez_setTe_ne _ h.symm
  · rfl

/-! ### Registers of a TE -/

theorem State.rv_raddOpen_ne (s : State) {k j : Nat} (f : Fld) (n : Nat) (h : k ≠ j) : (s.raddOpen k f n).rv j = s.rv j := by
  unfold State.raddOpen
  split
  · rfl
  · exact s.rv_radd_ne f n h

theorem State.rf_raddOpen_ne (s : State) {k j : Nat} (f g : Fld) (n : Nat) (h : k ≠ j) : (s.raddOpen k f n).rf j g = s.rf j g :=
  congrArg (fget · g) (s.rv_raddOpen_ne f n h)

theorem satAdd_mod (n d w : Nat) : satAdd n d (2 ^ w - 1) % 2 ^ w = satAdd n d (2 ^ w - 1) := by
  have hpos := Nat.two_pow_pos w
  refine Nat.mod_eq_of_lt ?_
  unfold satAdd
  omega

theorem State.rf_radd_satAdd (s : State) (k : Nat) (f : Fld) (n : Nat) (h : f.lo + f.w ≤ 64) :
    (s.radd k f n).rf k f = satAdd (s.rf k f) n (2 ^ f.w - 1) := (s.rf_radd_same k f n h).trans (satAdd_mod _ _ _)

theorem State.rv_teState_ne (s : State) {k j : Nat} (x : Nat) (h : R.teStatus k ≠ j) : (s.teState k x).rv j = s.rv j := by
  unfold State.teState
  split
  · rfl
  · exact s.rv_rset_ne _ _ h

theorem State.rf_teState (s : State) (k x : Nat) :
    (s.teState k x).rf (R.teStatus k) F.teStatus_STATE =
      if 3 ≤ s.rf (R.teStatus k) F.teStatus_STATE then s.rf (R.teStatus k) F.teStatus_STATE else x % 2 ^ F.teStatus_STATE.w := by
  unfold State.teState
  split
  · rfl
  · exact s.rf_rset_same _ _ _ (by decide)

/-- The counts BUSY and HOLD of TE k, as END enters them, and the leg off it. -/
def State.endCounts (s : State) (k cyc lost : Nat) : State := ((s.busyCycles k cyc).holdStall k lost).dropLeg k

theorem State.endCounts_status (s : State) (k cyc lost : Nat) : (s.endCounts k cyc lost).rv (R.teStatus k) = s.rv (R.teStatus k) := by
  have hbusy : R.tePerfBusy k ≠ R.teStatus k := by unfold R.tePerfBusy R.teStatus; omega
  have hstall : R.tePerfStall k ≠ R.teStatus k := by unfold R.tePerfStall R.teStatus; omega
  calc (s.endCounts k cyc lost).rv (R.teStatus k)
      = ((s.busyCycles k cyc).holdStall k lost).rv (R.teStatus k) := State.rv_of_regs (State.dropLeg_regs _ _) _
    _ = (s.busyCycles k cyc).rv (R.teStatus k) := State.rv_raddOpen_ne _ _ _ hstall
    _ = s.rv (R.teStatus k) := State.rv_raddOpen_ne _ _ _ hbusy

/-- BUSY is no bit of SAL_STATUS, so the hub's mode is that before the leg's end. -/
theorem State.endCounts_hold (s : State) (k cyc lost : Nat) (hconf : s.conf = false) :
    (s.endCounts k cyc lost).rf (R.tePerfStall k) F.tePerfStall_HOLD =
      satAdd (s.rf (R.tePerfStall k) F.tePerfStall_HOLD) lost (2 ^ F.tePerfStall_HOLD.w - 1) := by
  have hmode : R.tePerfBusy k ≠ R.salStatus := by unfold R.tePerfBusy R.salStatus; omega
  have hstall : R.tePerfBusy k ≠ R.tePerfStall k := by unfold R.tePerfBusy R.tePerfStall; omega
  have hconf' : (s.busyCycles k cyc).conf = false := by
    rw [← hconf]
    unfold State.conf
    exact congrArg (fun v => decide (v = 1)) (s.rf_raddOpen_ne _ _ _ hmode)
  have hopen : (s.busyCycles k cyc).holdStall k lost = (s.busyCycles k cyc).radd (R.tePerfStall k) F.tePerfStall_HOLD lost :=
    if_neg (by simp [hconf'])
  calc (s.endCounts k cyc lost).rf (R.tePerfStall k) F.tePerfStall_HOLD
      = ((s.busyCycles k cyc).holdStall k lost).rf (R.tePerfStall k) F.tePerfStall_HOLD := State.rf_of_regs (State.dropLeg_regs _ _) _ _
    _ = satAdd ((s.busyCycles k cyc).rf (R.tePerfStall k) F.tePerfStall_HOLD) lost (2 ^ F.tePerfStall_HOLD.w - 1) := by
      rw [hopen, State.rf_radd_satAdd _ _ _ _ (by decide)]
    _ = _ := by rw [State.busyCycles, s.rf_raddOpen_ne _ _ _ hstall]

theorem State.endCounts_legFrame (s : State) (k cyc lost : Nat) : LegFrame s (s.endCounts k cyc lost) :=
  ((s.raddOpen_legFrame _ _ _).trans (State.raddOpen_legFrame _ _ _ _)).trans (State.dropLeg_legFrame _ _)

theorem State.endCounts_ended (s : State) (k cyc lost : Nat) : (s.endCounts k cyc lost).ended = s.ended := by
  simp [State.endCounts, State.busyCycles, State.holdStall]

theorem State.endCounts_others (s : State) (k cyc lost : Nat) {j : Nat} (h : j ≠ k) : (s.endCounts k cyc lost).tez j = s.tez j :=
  (State.dropLeg_others _ h).trans (State.tez_of_te (by simp [State.busyCycles, State.holdStall]) j)

/-! ### END -/

section
variable {s : State} {te : Nat} {r : LegRun} {w : Nat} (cyc lost : Nat)

theorem exec_endLeg_of_complete (hat : s.atIns te = some (r, w)) (hend : insClass w = 0) (hmovs : r.movs = []) (hmma : r.mma = none) :
    exec (.endLeg te cyc lost) s = .next (((s.legEnd te r 0 0 false).endCounts te (cyc - r.start) lost).teState te 1) := by
  show execEndLeg te cyc lost s = _
  unfold execEndLeg
  rw [hat]
  exact if_pos ⟨hend, by simp [hmovs], by simp [hmma]⟩

theorem exec_endLeg_of_running (hat : s.atIns te = some (r, w)) (hwait : r.movs ≠ [] ∨ r.mma.isSome = true) :
    exec (.endLeg te cyc lost) s = .next s := by
  show execEndLeg te cyc lost s = _
  unfold execEndLeg
  rw [hat]
  refine if_neg fun ⟨_, hmovs, hmma⟩ => ?_
  obtain h | h := hwait
  · exact h (List.isEmpty_iff.mp hmovs)
  · simp_all

end

/-! ### The watchdog -/

/-- No register below those of the TEs differs. -/
def SameLowRegs (s t : State) : Prop := ∀ j, j < 0x300000 → t.rv j = s.rv j

theorem SameLowRegs.trans {s t u : State} (hst : SameLowRegs s t) (htu : SameLowRegs t u) : SameLowRegs s u :=
  fun j hj => (htu j hj).trans (hst j hj)

theorem SameLowRegs.of_regs {s t : State} (h : t.regs = s.regs) : SameLowRegs s t := fun j _ => State.rv_of_regs h j

theorem SameLowRegs.rf {s t : State} (h : SameLowRegs s t) {j : Nat} (hj : j < 0x300000) (f : Fld) : t.rf j f = s.rf j f :=
  congrArg (fget · f) (h j hj)

theorem State.rset_sameLowRegs (s : State) {k : Nat} (f : Fld) (x : Nat) (hk : 0x300000 ≤ k) : SameLowRegs s (s.rset k f x) :=
  fun j hj => s.rv_rset_ne f x (by omega)

theorem State.raddOpen_sameLowRegs (s : State) {k : Nat} (f : Fld) (n : Nat) (hk : 0x300000 ≤ k) : SameLowRegs s (s.raddOpen k f n) :=
  fun j hj => s.rv_raddOpen_ne f n (by omega)

theorem State.teState_sameLowRegs (s : State) (k x : Nat) : SameLowRegs s (s.teState k x) :=
  fun j hj => s.rv_teState_ne x (by unfold R.teStatus; omega)

theorem State.markRange_sameLowRegs (s : State) (t va n : Nat) : SameLowRegs s (s.markRange t va n) := by
  have hkey : 0x300000 ≤ R.tinvStatus t := by unfold R.tinvStatus; omega
  exact (SameLowRegs.of_regs rfl).trans ((State.rset_sameLowRegs _ _ _ hkey).trans (State.rset_sameLowRegs _ _ _ hkey))

theorem State.countEvts_sameLowRegs (s : State) (k : Nat) (e : Evts) : SameLowRegs s (s.countEvts k e) := by
  have hkeys : 0x300000 ≤ R.teFlags k ∧ 0x300000 ≤ R.teCvtCnt k ∧ 0x300000 ≤ R.teNumCnt k ∧ 0x300000 ≤ R.tePerfWs k := by
    unfold R.teFlags R.teCvtCnt R.teNumCnt R.tePerfWs
    omega
  obtain ⟨hflags, hcvt, hnum, hws⟩ := hkeys
  have hflagged : SameLowRegs s { s with regs := mput s.regs (R.teFlags k) (orFlags (s.rv (R.teFlags k)) e.flagBits) } := fun j hj => by
    simp [State.rv, mget_mput_ne _ _ (show R.teFlags k ≠ j by omega)]
  unfold State.countEvts
  split
  · exact .of_regs rfl
  · exact hflagged.trans ((State.rset_sameLowRegs _ _ _ hcvt).trans ((State.rset_sameLowRegs _ _ _ hcvt).trans
      ((State.rset_sameLowRegs _ _ _ hnum).trans ((State.rset_sameLowRegs _ _ _ hnum).trans (State.rset_sameLowRegs _ _ _ hws)))))

/-- The output regions of a leg marked: what is kept of the state. -/
theorem State.markOuts_keeps (s : State) (tenant : Nat) (outs : List (Nat × Nat)) :
    SameLowRegs s (s.markOuts tenant outs) ∧ (s.markOuts tenant outs).te = s.te ∧ (s.markOuts tenant outs).ended = s.ended ∧
      (s.markOuts tenant outs).phys = s.phys := by
  unfold State.markOuts
  refine List.foldlRecOn (motive := fun t : State => SameLowRegs s t ∧ t.te = s.te ∧ t.ended = s.ended ∧ t.phys = s.phys) _ _
    ⟨.of_regs rfl, rfl, rfl, rfl⟩ ?_
  rintro t ⟨hregs, hte, hended, hphys⟩ o -
  exact ⟨hregs.trans (t.markRange_sameLowRegs _ _ _), hte, hended, hphys⟩

theorem State.putElems_keeps (s : State) (k a : Nat) (f : CFmt) (cs : List Nat) :
    (s.putElems k a f cs).regs = s.regs ∧ (s.putElems k a f cs).ended = s.ended := by
  unfold State.putElems
  split <;> exact ⟨rfl, rfl⟩

theorem State.putScale_keeps (s : State) (k a : Nat) (q : Option Nat) :
    (s.putScale k a q).regs = s.regs ∧ (s.putScale k a q).ended = s.ended := by
  unfold State.putScale
  split <;> exact ⟨rfl, rfl⟩

theorem State.countEvts_ended (s : State) (k : Nat) (e : Evts) : (s.countEvts k e).ended = s.ended := by
  unfold State.countEvts
  split <;> rfl

/-- A conversion changes of its leg the flags alone, and no register below those of the TEs. -/
theorem State.cvtDo_keeps (s : State) (k : Nat) (rule : State → CvtI → CFmt → CFmt → List FVal → List Conv × Evts × Option Nat)
    (r : LegRun) (w : Nat) :
    SameLowRegs s (s.cvtDo k rule r w).1 ∧ (s.cvtDo k rule r w).1.ended = s.ended ∧ ∃ nf, (s.cvtDo k rule r w).2 = { r with nflags := nf
        } := by
  unfold State.cvtDo
  dsimp only
  split
  · next f d _ _ =>
    generalize rule s (cvtI w) f d (s.elems k (cvtAt (cvtI w) r.loops).1 f (cvtI w).n) = x
    obtain ⟨hregs, hended⟩ := s.putElems_keeps k (cvtAt (cvtI w) r.loops).2 d (x.1.map (·.code))
    obtain ⟨hregs', hended'⟩ := (s.putElems k (cvtAt (cvtI w) r.loops).2 d (x.1.map (·.code))).putScale_keeps k ((cvtI w).scl * 64) x.2.2
    exact ⟨(SameLowRegs.of_regs (hregs'.trans hregs)).trans (State.countEvts_sameLowRegs _ _ _),
      (State.countEvts_ended _ _ _).trans (hended'.trans hended), _, rfl⟩
  · exact ⟨.of_regs rfl, rfl, r.nflags, rfl⟩

theorem State.run_of_atIns {s : State} {k : Nat} {r : LegRun} {w : Nat} (h : s.atIns k = some (r, w)) : (s.tez k).run = some r := by
  unfold State.atIns at h
  split at h
  · next r' hrun =>
    split at h
    · cases h
    · obtain ⟨_, _, heq⟩ := Option.map_eq_some_iff.mp h
      rw [hrun, (Prod.mk.inj heq).1]
  · cases h

/-- A leg cut off at its instruction goes on with other flags at most; away from a CVT it is as it was. -/
theorem State.cutIns_keeps {s : State} {k : Nat} {r : LegRun} (hrun : (s.tez k).run = some r) :
    SameLowRegs s (s.cutIns k) ∧ (s.cutIns k).ended = s.ended ∧
      ∃ nf, ((s.cutIns k).tez k).run = some { r with nflags := nf } ∧
        ((∀ w, s.atIns k = some (r, w) → insClass w ≠ 4) → nf = r.nflags ∧ (s.cutIns k).holds = s.holds ∧ (s.cutIns k).phys = s.phys) :=
            by
  unfold State.cutIns
  split
  · next r' w hat =>
    obtain rfl : r' = r := Option.some.inj ((State.run_of_atIns hat).symm.trans hrun)
    dsimp only
    split
    · next hcvt =>
      obtain ⟨hregs, hended, nf, hleg⟩ := s.cvtDo_keeps k (cvtPart k (insOp w) (Config.freeValue s.fresh 9 % ((cvtI w).n + 1))) r' w
      refine ⟨hregs.trans (.of_regs rfl), hended, nf, ?_, fun hno => absurd hcvt.1 (hno w hat)⟩
      rw [hleg]
      exact congrArg TeSt.run (State.tez_setTe_same _ _ _)
    · exact ⟨.of_regs rfl, rfl, r'.nflags, hrun, fun _ => ⟨rfl, rfl, rfl⟩⟩
  · exact ⟨.of_regs rfl, rfl, r.nflags, hrun, fun _ => ⟨rfl, rfl, rfl⟩⟩

/-- The counts a watchdog enters for a leg that is off its TE. -/
def State.overrunCounts (s : State) (k bound lost wait : Nat) : State :=
  (((s.busyCycles k bound).holdStall k lost).wsStall k wait).teState k 1

theorem State.overrunCounts_sameLowRegs (s : State) (k bound lost wait : Nat) : SameLowRegs s (s.overrunCounts k bound lost wait) := by
  have hkeys : 0x300000 ≤ R.tePerfBusy k ∧ 0x300000 ≤ R.tePerfStall k := by
    unfold R.tePerfBusy R.tePerfStall
    omega
  obtain ⟨hbusy, hstall⟩ := hkeys
  exact (s.raddOpen_sameLowRegs _ _ hbusy).trans ((State.raddOpen_sameLowRegs _ _ _ hstall).trans
    ((State.raddOpen_sameLowRegs _ _ _ hstall).trans (State.teState_sameLowRegs _ _ _)))

theorem State.raddOpen_phys (s : State) (key : Nat) (f : Fld) (n : Nat) : (s.raddOpen key f n).phys = s.phys := by
  unfold State.raddOpen
  split <;> rfl

theorem State.overrunCounts_keeps (s : State) (k bound lost wait : Nat) :
    (s.overrunCounts k bound lost wait).te = s.te ∧ (s.overrunCounts k bound lost wait).ended = s.ended ∧
      (s.overrunCounts k bound lost wait).mem = s.mem ∧ (s.overrunCounts k bound lost wait).holds = s.holds := by
  unfold State.overrunCounts
  rw [State.teState_te, State.teState_ended, State.teState_mem, State.teState_holds]
  simp [State.busyCycles, State.holdStall, State.wsStall]

theorem State.overrunCounts_phys (s : State) (k bound lost wait : Nat) : (s.overrunCounts k bound lost wait).phys = s.phys := by
  have hstate (t : State) : (t.teState k 1).phys = t.phys := by
    unfold State.teState
    split <;> rfl
  exact (hstate _).trans ((State.raddOpen_phys _ _ _ _).trans ((State.raddOpen_phys _ _ _ _).trans (s.raddOpen_phys _ _ _)))

/-- A running leg abandoned: its end, the event, the count, and what is kept. -/
theorem State.overrun_effect {s : State} {k : Nat} {r : LegRun} (hrun : (s.tez k).run = some r) (hhalt : r.halted = none) :
    ((s.overrun k).tez k).run = none ∧
      (s.overrun k).ended = s.ended ++ [⟨r.part, k, r.idx, r.entry, some (r.ring, r.didx), 1, 0, false, r.nflags, r.outs⟩] ∧
      (s.overrun k).rf R.sailEvent F.sailEvent_OVERRUN = 1 ∧
      (s.overrun k).rf R.sailOvrCnt F.sailOvrCnt_LEG = satAdd (s.rf R.sailOvrCnt F.sailOvrCnt_LEG) 1 (2 ^ F.sailOvrCnt_LEG.w - 1) ∧
      (s.overrun k).phys = s.phys := by
  have hover : s.overrun k = (((((s.legEnd k r 1 0 false).markOuts r.entry.tenant r.outs).rset R.sailEvent F.sailEvent_OVERRUN 1).radd
      R.sailOvrCnt F.sailOvrCnt_LEG 1).dropLeg k) := by
    unfold State.overrun
    rw [hrun]
    exact if_neg (by simp [hhalt])
  obtain ⟨hregs, -, hended, hphys⟩ := (s.legEnd k r 1 0 false).markOuts_keeps r.entry.tenant r.outs
  generalize (s.legEnd k r 1 0 false).markOuts r.entry.tenant r.outs = m at hover hregs hended hphys
  rw [hover]
  refine ⟨State.dropLeg_run _ _, (State.dropLeg_ended _ _).trans hended, ?_, ?_, ?_⟩
  · rw [State.rf_of_regs (State.dropLeg_regs _ _)]
    exact (State.rf_rset_ne _ _ _ _ (by decide)).trans (State.rf_rset_same _ _ _ _ (by decide))
  · rw [State.rf_of_regs (State.dropLeg_regs _ _), State.rf_radd_satAdd _ _ _ _ (by decide), State.rf_rset_ne _ _ _ _ (by decide),
      hregs.rf (by decide)]
    rfl
  · exact (congrArg State.phys (State.dropLeg_legFrame _ _)).trans hphys

theorem exec_legWatchdog_of_running {s : State} {te : Nat} {r : LegRun} (lost : Nat) (hrun : (s.tez te).run = some r)
    (hhalt : r.halted = none) :
    exec (.legWatchdog te lost) s =
      .next (((s.cutIns te).overrun te).overrunCounts te r.entry.bound lost (r.arrayWait r.entry.bound)) := by
  show execLegWatchdog te lost s = _
  unfold execLegWatchdog
  rw [hrun]
  exact if_neg (by simp [hhalt])

/-- Settles O12: END is State.endCounts, the watchdog a leg cut, abandoned and counted. -/
theorem legEndsAndTheWatchdog : Obligations.LegEndsAndTheWatchdog := by
  unfold Obligations.LegEndsAndTheWatchdog
  intro s te cyc lost r w
  refine ⟨fun hat hend hmovs hmma => ?_, fun hat _ hwait => exec_endLeg_of_running cyc lost hat hwait, fun hrun hhalt => ?_⟩
  · have hstatus : ((s.legEnd te r 0 0 false).endCounts te (cyc - r.start) lost).rf (R.teStatus te) F.teStatus_STATE =
        s.rf (R.teStatus te) F.teStatus_STATE := congrArg (fget · _) (State.endCounts_status _ _ _ _)
    have hkey : R.teStatus te ≠ R.tePerfStall te := by unfold R.teStatus R.tePerfStall; omega
    refine ⟨_, exec_endLeg_of_complete cyc lost hat hend hmovs hmma, ?_, ?_, fun hlow => ?_, fun hconf => ?_, fun hhigh => ?_, ?_, fun j
        hj => ?_⟩
    · rw [State.tez_of_te (State.teState_te _ _ _)]
      exact State.dropLeg_run _ _
    · exact (State.teState_ended _ _ _).trans (State.endCounts_ended _ _ _ _)
    · rw [State.rf_teState, hstatus, if_neg (by omega)]
      rfl
    · exact (congrArg (fget · _) (State.rv_teState_ne _ _ hkey)).trans (State.endCounts_hold _ _ _ _ hconf)
    · rw [State.rf_teState, hstatus, if_pos hhigh]
    · exact LegFrame.trans (t := s.legEnd te r 0 0 false) rfl
        ((State.endCounts_legFrame _ _ _ _).trans (State.teState_legFrame _ _ _))
    · rw [State.tez_of_te (State.teState_te _ _ _)]
      exact State.endCounts_others _ _ _ _ hj
  · obtain ⟨hregs, hended, nf, hleg, hstays⟩ := State.cutIns_keeps hrun
    obtain ⟨hgone, hlist, hevent, hcount, hphys⟩ := State.overrun_effect hleg hhalt
    obtain ⟨hte, hended', hmem, hholds⟩ :=
      ((s.cutIns te).overrun te).overrunCounts_keeps te r.entry.bound lost (r.arrayWait r.entry.bound)
    have hlow := ((s.cutIns te).overrun te).overrunCounts_sameLowRegs te r.entry.bound lost (r.arrayWait r.entry.bound)
    refine ⟨_, nf, exec_legWatchdog_of_running lost hrun hhalt, ?_, ?_, ?_, ?_, ?_, fun hno => ?_⟩
    · rw [State.tez_of_te hte]
      exact hgone
    · exact hended'.trans (hlist.trans (congrArg (· ++ _) hended))
    · exact (hlow.rf (by decide) _).trans hevent
    · rw [hlow.rf (by decide), hcount, hregs.rf (by decide)]
    · rw [hmem, State.overrun_mem, State.cutIns_mem]
    · obtain ⟨hnf, hh, hp⟩ := hstays hno
      exact ⟨hnf, by rw [hholds, State.overrun_holds, hh], by rw [State.overrunCounts_phys, hphys, hp]⟩

end Sys2Proof.Machine
end

section
/-! PROOFS. A doorbell: O29 (16_rings_and_buffers, R33, R38, R219, R431). -/

namespace Sys2Proof.Machine

open Sys2Proof.Safety

theorem exec_doorbell_of_stalled (s : State) (tenant ring half value : Nat) (h : (s.hostStalls || s.barHeld) = true) :
    exec (.doorbell tenant ring half value) s = .next (s.stall
      ⟨.bell, tenant, 8 * ring + (if half = 2 then 4 else 0), true, 0, 0, leBytes (if half = 0 then 8 else 4) value, false, false⟩) :=
  congrArg Host.Outcome.next (if_pos h)

theorem exec_doorbell_of_free (s : State) (tenant ring half value : Nat) (h : (s.hostStalls || s.barHeld) = false) :
    exec (.doorbell tenant ring half value) s = .next (s.doorbell tenant ring half value) :=
  congrArg Host.Outcome.next (if_neg (by simp [h]))

/-- A doorbell of the upper half of a register does nothing (R431). -/
theorem State.doorbell_upper (s : State) (tenant ring value : Nat) : s.doorbell tenant ring 2 value = s := by
  unfold State.doorbell
  exact if_pos (Or.inl rfl)

section
variable (s : State) {tenant ring half : Nat} (value : Nat) (hring : ring < 64) (htenant : tenant < 4096) (hhalf : half ≠ 2)
  (hreset : (s.partOf tenant).any (fun p => (s.part p).reset) = false) (htwin : s.twinRole ≠ 2)
include hring htenant hhalf hreset htwin

theorem State.doorbell_ignored
    (h : s.ringState (tenant * 64 + ring) ≠ 1 ∨ bitsOf (s.rv (R.salTdi (tenant / 32))).toNat (2 * (tenant % 32)) 2 = 1) :
    s.doorbell tenant ring half value = s.raddOpen R.qCnt F.qCnt_DB_IGNORED 1 := by
  have hserved : ¬ (half = 2 ∨ ring ≥ 64 ∨ tenant ≥ 4096) := by omega
  unfold State.doorbell
  simp only [if_neg hserved, hreset, Bool.false_eq_true, if_false, if_neg htwin, if_pos h]

theorem State.doorbell_rings
    (h : ¬ (s.ringState (tenant * 64 + ring) ≠ 1 ∨ bitsOf (s.rv (R.salTdi (tenant / 32))).toNat (2 * (tenant % 32)) 2 = 1)) :
    s.doorbell tenant ring half value =
      (s.rset (rPtr (tenant * 64 + ring)) (if s.isCmp (tenant * 64 + ring) then F.ringPtr_HEAD else F.ringPtr_TAIL)
        (value % 2 ^ 32)).setRings { s.rings with db := mput s.rings.db (tenant * 64 + ring) (value % 2 ^ 32) } := by
  have hserved : ¬ (half = 2 ∨ ring ≥ 64 ∨ tenant ≥ 4096) := by omega
  unfold State.doorbell
  simp only [if_neg hserved, hreset, Bool.false_eq_true, if_false, if_neg htwin, if_neg h]

end

/-- An index of a ring set to 32 bits, and the doorbell listed as captured with them. -/
theorem State.rungRing_frame (s : State) (g v : Nat) :
    let f := if s.isCmp g then F.ringPtr_HEAD else F.ringPtr_TAIL
    let t := (s.rset (rPtr g) f (v % 2 ^ 32)).setRings { s.rings with db := mput s.rings.db g (v % 2 ^ 32) }
    t.rf (rPtr g) f = v % 2 ^ 32 ∧ mget t.rings.db g = some (v % 2 ^ 32) ∧ (∀ j, j ≠ g → mget t.rings.db j = mget s.rings.db j) ∧
      onlyRegs [rPtr g] s t := by
  dsimp only
  refine ⟨?_, mget_mput_same _ _ _, fun j hj => mget_mput_ne _ _ hj.symm, fun k hk => s.rv_rset_ne _ _ fun h => hk (by simp [h])⟩
  split
  · exact (s.rf_rset_same _ _ _ (by decide)).trans (Nat.mod_mod _ _)
  · exact (s.rf_rset_same _ _ _ (by decide)).trans (Nat.mod_mod _ _)

/-- Settles O29: a doorbell that does not stall is State.doorbell, whose three outcomes have a lemma each. -/
theorem doorbellsMoveTheIndex : Obligations.DoorbellsMoveTheIndex := by
  unfold Obligations.DoorbellsMoveTheIndex
  intro s tenant ring half value hring htenant g f open_ locked
  refine ⟨fun hfree hhalf hopen hon hlocked => ?_, fun hfree hhalf hopen hoff => ?_, fun hfree hhalf => ?_, fun hstall => ?_⟩
  · obtain ⟨hptr, hdb, hothers, hregs⟩ := s.rungRing_frame g value
    rw [exec_doorbell_of_free s _ _ _ _ hfree,
      s.doorbell_rings value hring htenant hhalf hopen.1 hopen.2 (by tauto)]
    exact ⟨_, rfl, hptr, hdb, hothers, hregs, rfl⟩
  · rw [exec_doorbell_of_free s _ _ _ _ hfree, s.doorbell_ignored value hring htenant hhalf hopen.1 hopen.2 hoff]
  · rw [exec_doorbell_of_free s _ _ _ _ hfree, hhalf, s.doorbell_upper]
  · exact ⟨_, exec_doorbell_of_stalled s _ _ _ _ hstall, rfl, rfl⟩

end Sys2Proof.Machine
end

section
/-! PROOFS. Chunks of ring DMA: O31 (16_rings_and_buffers, R37, R437, R438, R442). -/

namespace Sys2Proof.Machine

/-! ### A chunk that has drained leaves its buffer -/

theorem State.ctxEnd_chunks (s : State) (c : Ctx) (status detail : Nat) : (s.ctxEnd c status detail).rings.chunks ⊆ s.rings.chunks :=
  fun _ hx => (List.mem_filter.mp hx).1

theorem State.finishLoad_chunks (s : State) (c : Ctx) : (s.finishLoad c).rings.chunks ⊆ s.rings.chunks := by
  unfold State.finishLoad
  dsimp only
  split <;> exact State.ctxEnd_chunks _ _ _ _

theorem ite_chunks {c : Prop} [Decidable c] {s a b : State} (ha : a.rings.chunks ⊆ s.rings.chunks) (hb : b.rings.chunks ⊆ s.rings.chunks)
    :
    (if c then a else b).rings.chunks ⊆ s.rings.chunks := by
  split
  · exact ha
  · exact hb

/-- What a drained chunk means for its descriptor frees buffers at most. -/
theorem State.drained_chunks (s : State) (c : Chunk) : (s.drained c).rings.chunks ⊆ s.rings.chunks := by
  have hkeep : s.rings.chunks ⊆ s.rings.chunks := List.Subset.refl _
  unfold State.drained
  split
  · exact hkeep
  · exact ite_chunks hkeep (ite_chunks hkeep (ite_chunks hkeep (ite_chunks (State.ctxEnd_chunks _ _ _ _) (State.finishLoad_chunks _ _))))

theorem State.chunkOf_some {s : State} {ring buf : Nat} {c : Chunk} (h : s.chunkOf ring buf = some c) : c.ring = ring ∧ c.buf = buf := by
  simpa using List.find?_some h

theorem State.chunkOf_chunkGone {s : State} {ring buf : Nat} {c : Chunk} (h : s.chunkOf ring buf = some c) :
    (s.chunkGone c).chunkOf ring buf = none := by
  obtain ⟨rfl, rfl⟩ := State.chunkOf_some h
  refine List.find?_eq_none.mpr fun x hx => ?_
  have hleft : x ∈ (s.delChunk c).rings.chunks := State.drained_chunks _ _ hx
  simpa [imp_iff_not_or] using (List.mem_filter.mp hleft).2

theorem State.chunkGone_keeps (s : State) (c : Chunk) :
    (s.chunkGone c).mem = s.mem ∧ (s.chunkGone c).holds = s.holds ∧ (s.chunkGone c).time = s.time :=
  ⟨s.chunkGone_mem c, s.chunkGone_holds c, s.chunkGone_time c⟩

/-! ### The two commands, case by case -/

section
variable {s : State} {ring buf : Nat} {c : Chunk} (hc : s.chunkOf ring buf = some c)
include hc

theorem exec_chunkFillDone_of_read (hfill : c.filled = false) (hgo : s.fillGoes c = true) {b : List Byte}
    (hread : (s.dmaRead [3, ring, c.didx] (ringTen ring) c.src).2 = .ok b) :
    exec (.chunkFillDone ring buf) s = .next ((((s.dmaRead [3, ring, c.didx] (ringTen ring) c.src).1.poolPut c.slot b).setChunk
      { c with len := b.length, filled := true }).startChunks ring) := by
  show execChunkFillDone ring buf s = _
  unfold execChunkFillDone
  rw [hc]
  refine (if_neg (by simp [hfill, hgo])).trans ?_
  generalize s.dmaRead [3, ring, c.didx] (ringTen ring) c.src = x at hread ⊢
  obtain ⟨s1, res⟩ := x
  subst hread
  rfl

theorem exec_chunkFillDone_of_waiting (h : c.filled = true ∨ s.fillGoes c = false) : exec (.chunkFillDone ring buf) s = .next s := by
  show execChunkFillDone ring buf s = _
  unfold execChunkFillDone
  rw [hc]
  exact if_pos (by simpa using h)

theorem exec_chunkDrainDone_of_drained (hfill : c.filled = true)
    (h : (c.sent = true ∧ s.writesDone [3, ring, c.didx] = true) ∨ (c.sent = false ∧ s.time.stage = .run ∧ c.dst = [])) :
    exec (.chunkDrainDone ring buf) s = .next (s.chunkGone c) := by
  show execChunkDrainDone ring buf s = _
  unfold execChunkDrainDone
  rw [hc]
  obtain ⟨hsent, hdone⟩ | ⟨hsent, hrun, hdst⟩ := h
  · exact (if_neg (by simp [hfill])).trans ((if_pos hsent).trans (if_pos hdone))
  · exact (if_neg (by simp [hfill])).trans ((if_neg (by simp [hsent])).trans ((if_neg (by simp [hrun])).trans (if_pos (by simp [hdst]))))

theorem exec_chunkDrainDone_of_waiting
    (h : c.filled = false ∨ (c.sent = true ∧ s.writesDone [3, ring, c.didx] = false) ∨ (c.sent = false ∧ s.time.stage ≠ .run)) :
    exec (.chunkDrainDone ring buf) s = .next s := by
  show execChunkDrainDone ring buf s = _
  unfold execChunkDrainDone
  rw [hc]
  obtain hfill | ⟨hsent, hdone⟩ | ⟨hsent, hrun⟩ := h
  · exact if_pos (by simp [hfill])
  · refine ite_eq_left_iff.mpr fun _ => (if_pos hsent).trans (if_neg (by simp [hdone]))
  · refine ite_eq_left_iff.mpr fun _ => (if_neg (by simp [hsent])).trans (if_pos hrun)

end

theorem exec_chunk_of_none {s : State} {ring buf : Nat} (h : s.chunkOf ring buf = none) :
    exec (.chunkFillDone ring buf) s = .next s ∧ exec (.chunkDrainDone ring buf) s = .next s := by
  show execChunkFillDone ring buf s = _ ∧ execChunkDrainDone ring buf s = _
  unfold execChunkFillDone execChunkDrainDone
  rw [h]
  exact ⟨rfl, rfl⟩

/-- Settles O31: each clause is one case of the two commands. -/
theorem chunksFillAndDrain : Obligations.ChunksFillAndDrain := by
  unfold Obligations.ChunksFillAndDrain
  intro s ring buf
  refine ⟨fun c hc => ⟨fun hfill hgo b hread => exec_chunkFillDone_of_read hc hfill hgo hread, exec_chunkFillDone_of_waiting hc,
    fun hfill hdone => ?_, exec_chunkDrainDone_of_waiting hc⟩, exec_chunk_of_none⟩
  exact ⟨s.chunkGone c, exec_chunkDrainDone_of_drained hc hfill hdone, State.chunkOf_chunkGone hc, s.chunkGone_keeps c⟩

end Sys2Proof.Machine
end

section
/-! PROOFS. Clocks that are lost: O44 fails on a hub of a twin pair (11_clock_domains_and_fords, R312, R517, R539, R545). -/

namespace Sys2Proof.Machine

open Sys2Proof.Safety

/-- A primary whose TWIN_CTL has the vector of its twin events enabled. -/
def pairedPrimary : State :=
  (State.reset.rset R.twinStatus F.twinStatus_ROLE 1).rset R.twinCtl F.twinCtl_VEC_EN 1

/-- FATAL clears the vectors that wait, and then steps down, which notes one. -/
theorem pairedPrimary_vecDue_of_fatal :
    (((pairedPrimary.fordCap 0 0 4).fatal 0x12 4 0).rings.vecDue) = [(0, 0)] := by decide

theorem exec_trefLost (s : State) : exec .trefLost s = .next ((s.fordCap 0 0 4).fatal 0x12 4 0) := rfl

/-- Refutes O44: a primary that TREF_LOST stops leaves with STEPDOWN's vector to send, so it is not stopped as the statement says. -/
theorem not_domainsWakeAndClocksAreWatched : ¬ Obligations.DomainsWakeAndClocksAreWatched := by
  unfold Obligations.DomainsWakeAndClocksAreWatched
  intro h
  obtain ⟨-, -, -, -, -, -, -, -, -, -, -, -, -, -, t, hnext, ⟨-, -, -, -, -, -, hnone⟩, -⟩ := h pairedPrimary 0 0 0 0 0 0 false false
  rw [exec_trefLost] at hnext
  injection hnext with ht
  rw [← ht, pairedPrimary_vecDue_of_fatal] at hnone
  cases hnone

end Sys2Proof.Machine
end

section
/-! PROOFS. The host link: O59 (15_host_endpoint, R395, R414, R415, R416, R420, R422). -/

namespace Sys2Proof.Machine

open Sys2Proof.Safety

/-! ### What PCI_STATUS shows of the link -/

/-- PCI_STATUS with a rate, a width, FLIT mode and a power state. -/
def State.linkShown (s : State) (rate width flit lpm : Nat) : State :=
  (((s.rset R.pciStatus F.pciStatus_RATE rate).rset R.pciStatus F.pciStatus_WIDTH width).rset R.pciStatus F.pciStatus_FLIT flit).rset
    R.pciStatus F.pciStatus_LPM lpm

/-- PCI_STATUS with a width and a power state. -/
def State.lanesShown (s : State) (width lpm : Nat) : State :=
  (s.rset R.pciStatus F.pciStatus_WIDTH width).rset R.pciStatus F.pciStatus_LPM lpm

theorem State.onlyRegs_rset (s : State) (k : Nat) (f : Fld) (x : Nat) : onlyRegs [k] s (s.rset k f x) :=
  fun _ hj => s.rv_rset_ne f x fun h => hj (List.mem_singleton.mpr h.symm)

theorem onlyRegs_trans {ks : List Nat} {s t u : State} (hst : onlyRegs ks s t) (htu : onlyRegs ks t u) : onlyRegs ks s u :=
  fun k hk => (htu k hk).trans (hst k hk)

theorem State.rf_lanesShown (s : State) (width lpm : Nat) :
    (s.lanesShown width lpm).rf R.pciStatus F.pciStatus_WIDTH = width % 2 ^ F.pciStatus_WIDTH.w ∧
      (s.lanesShown width lpm).rf R.pciStatus F.pciStatus_LPM = lpm % 2 ^ F.pciStatus_LPM.w :=
  ⟨(State.rf_rset_fld _ _ _ _ _ (by decide) (by decide)).trans (State.rf_rset_same _ _ _ _ (by decide)),
    State.rf_rset_same _ _ _ _ (by decide)⟩

theorem State.lanesShown_onlyRegs (s : State) (width lpm : Nat) : onlyRegs [R.pciStatus] s (s.lanesShown width lpm) :=
  onlyRegs_trans (s.onlyRegs_rset _ _ _) (State.onlyRegs_rset _ _ _ _)

theorem State.rf_linkShown (s : State) (rate width flit lpm : Nat) :
    (s.linkShown rate width flit lpm).rf R.pciStatus F.pciStatus_RATE = rate % 2 ^ F.pciStatus_RATE.w ∧
      (s.linkShown rate width flit lpm).rf R.pciStatus F.pciStatus_WIDTH = width % 2 ^ F.pciStatus_WIDTH.w ∧
      (s.linkShown rate width flit lpm).rf R.pciStatus F.pciStatus_LPM = lpm % 2 ^ F.pciStatus_LPM.w := by
  have hfld (t : State) (f g : Fld) (x : Nat) (hf : f.lo + f.w ≤ 64) (h : g.lo + g.w ≤ f.lo ∨ f.lo + f.w ≤ g.lo) :
      (t.rset R.pciStatus f x).rf R.pciStatus g = t.rf R.pciStatus g := t.rf_rset_fld _ _ _ _ hf h
  refine ⟨?_, ?_, State.rf_rset_same _ _ _ _ (by decide)⟩
  · exact (hfld _ _ _ _ (by decide) (by decide)).trans ((hfld _ _ _ _ (by decide) (by decide)).trans
      ((hfld _ _ _ _ (by decide) (by decide)).trans (State.rf_rset_same _ _ _ _ (by decide))))
  · exact (hfld _ _ _ _ (by decide) (by decide)).trans ((hfld _ _ _ _ (by decide) (by decide)).trans
      (State.rf_rset_same _ _ _ _ (by decide)))

theorem State.linkShown_onlyRegs (s : State) (rate width flit lpm : Nat) :
    onlyRegs [R.pciStatus] s (s.linkShown rate width flit lpm) :=
  onlyRegs_trans (s.onlyRegs_rset _ _ _) (onlyRegs_trans (State.onlyRegs_rset _ _ _ _) (onlyRegs_trans (State.onlyRegs_rset _ _ _ _)
    (State.onlyRegs_rset _ _ _ _)))

/-! ### A domain's state -/

theorem State.domTo_rv_ne (s : State) (d st : Nat) {k : Nat} (hd : k ≠ R.fordDom d) (hs : k ≠ R.fordStatus) : (s.domTo d st).rv k = s.rv
    k := by
  have hif (t : State) (c : Bool) (f : Fld) (x : Nat) : (t.rsetIf c (R.fordDom d) f x).rv k = t.rv k := by
    unfold State.rsetIf
    split
    · exact t.rv_rset_ne _ _ hd.symm
    · rfl
  refine (hif _ _ _ _).trans ((State.rv_rset_ne _ _ _ hs.symm).trans ?_)
  exact (State.rv_rset_ne _ _ _ hd.symm).trans (State.rv_rset_ne _ _ _ hd.symm)

theorem State.domTo_frame (s : State) (d st : Nat) :
    ∃ rg sh fs, s.domTo d st = { s with regs := rg, shadow := sh, fab := { s.fab with fords := fs } } := by
  unfold State.domTo State.rsetIf
  dsimp only
  split <;> exact ⟨_, _, _, rfl⟩

/-! ### The link goes down and comes up -/

/-- PERST ends with no link: a state with nothing stalled and no translation of the host's, shown. -/
theorem State.pcieDown_eq (s : State) (pin : Bool) :
    ∃ w : State, s.pcieDown pin = (w.linkShown 0 0 0 0).domTo 13 1 ∧ w.pci.perst = pin ∧ w.pci.training = !pin ∧ w.pci.stalled = [] ∧
      w.pci.width = 0 ∧ w.dtu.atc = [] := ⟨_, rfl, rfl, rfl, rfl, rfl, rfl⟩

theorem State.rf_pciStatus_domTo (s : State) (st : Nat) (f : Fld) : (s.domTo 13 st).rf R.pciStatus f = s.rf R.pciStatus f :=
  congrArg (fget · f) (s.domTo_rv_ne 13 st (by decide) (by decide))

/-- The link up at a rate and a width. -/
def State.linkUp (s : State) (rate width eq : Nat) (flit : Bool) : State :=
  (({ s with pci := { s.pci with training := false, width := width, eq128 := if rate = 7 then eq else 0 } } : State).linkShown rate width
    (b2n (flit || decide (6 ≤ rate))) 0).domTo 13 2

theorem State.linkUp_onlyRegs (s : State) (rate width eq : Nat) (flit : Bool) :
    onlyRegs [R.pciStatus, R.fordDom 13, R.fordStatus] s (s.linkUp rate width eq flit) := by
  intro k hk
  simp only [List.mem_cons, List.not_mem_nil, or_false, not_or] at hk
  obtain ⟨hp, hd, hs⟩ := hk
  exact (State.domTo_rv_ne _ _ _ hd hs).trans (State.linkShown_onlyRegs _ _ _ _ _ k (by simpa using hp))

theorem State.linkUp_pci (s : State) (rate width eq : Nat) (flit : Bool) :
    (s.linkUp rate width eq flit).pci = { s.pci with training := false, width := width, eq128 := if rate = 7 then eq else 0 } := by
  obtain ⟨rg, sh, fs, h⟩ := State.domTo_frame (({ s with
    pci := { s.pci with training := false, width := width, eq128 := if rate = 7 then eq else 0 } } : State).linkShown rate width
      (b2n (flit || decide (6 ≤ rate))) 0) 13 2
  unfold State.linkUp
  rw [h]
  rfl

theorem State.linkUp_frame (s : State) (rate width eq : Nat) (flit : Bool) : ∃ pc rg sh fs, s.linkUp rate width eq flit =
    { s with pci := pc, regs := rg, shadow := sh, fab := { s.fab with fords := fs } } := by
  obtain ⟨rg, sh, fs, h⟩ := State.domTo_frame (({ s with
    pci := { s.pci with training := false, width := width, eq128 := if rate = 7 then eq else 0 } } : State).linkShown rate width
      (b2n (flit || decide (6 ≤ rate))) 0) 13 2
  exact ⟨_, rg, sh, fs, h⟩

theorem State.linkUp_shown (s : State) (rate width eq : Nat) (flit : Bool) :
    (s.linkUp rate width eq flit).rf R.pciStatus F.pciStatus_RATE = rate % 2 ^ F.pciStatus_RATE.w ∧
      (s.linkUp rate width eq flit).rf R.pciStatus F.pciStatus_WIDTH = width % 2 ^ F.pciStatus_WIDTH.w ∧
      (s.linkUp rate width eq flit).rf R.pciStatus F.pciStatus_LPM = 0 := by
  obtain ⟨hr, hw, hl⟩ := State.rf_linkShown ({ s with
    pci := { s.pci with training := false, width := width, eq128 := if rate = 7 then eq else 0 } } : State) rate width
      (b2n (flit || decide (6 ≤ rate))) 0
  unfold State.linkUp
  rw [State.rf_pciStatus_domTo, State.rf_pciStatus_domTo, State.rf_pciStatus_domTo]
  exact ⟨hr, hw, hl⟩

theorem exec_pcieLinkUp_of_valid {s : State} {rate width : Nat} (eq : Nat) (flit : Bool) (hp : s.pci.perst = false) (h1 : 1 ≤ rate)
    (h7 : rate ≤ 7) (hw : [1, 2, 4, 8, 16].contains width = true) :
    exec (.pcieLinkUp rate width eq flit) s =
      .next (((s.linkUp rate width eq flit).pumpTags (s.linkUp rate width eq flit).waiting).showTags) := by
  refine if_neg ?_
  rw [hp, hw]
  simp
  omega

theorem exec_pcieLinkUp_of_not {s : State} {rate width : Nat} (eq : Nat) (flit : Bool)
    (h : s.pci.perst = true ∨ rate = 0 ∨ 7 < rate ∨ [1, 2, 4, 8, 16].contains width = false) :
    exec (.pcieLinkUp rate width eq flit) s = .next s := by
  refine if_pos ?_
  obtain h | h | h | h := h
  · rw [h]
    rfl
  · simp [h]
  · simp [h]
  · rw [h]
    simp

/-! ### Power states and messages of the link -/

theorem State.toL0_lanes (s : State) : s.toL0 = s.lanesShown s.pci.width 0 := rfl

theorem State.toL0_shown (s : State) :
    s.toL0.rf R.pciStatus F.pciStatus_LPM = 0 ∧ s.toL0.rf R.pciStatus F.pciStatus_WIDTH = s.pci.width % 2 ^ F.pciStatus_WIDTH.w ∧
      onlyRegs [R.pciStatus] s s.toL0 ∧ sameButRegs s s.toL0 := by
  obtain ⟨hw, hl⟩ := s.rf_lanesShown s.pci.width 0
  exact ⟨hl, hw, s.lanesShown_onlyRegs _ _, rfl⟩

theorem State.wakeLink_shown (s : State) :
    s.wakeLink.rf R.pciStatus F.pciStatus_LPM = 0 ∧ onlyRegs [R.pciStatus] s s.wakeLink ∧
      ∃ rg sh, s.wakeLink = { s with regs := rg, shadow := sh } := by
  unfold State.wakeLink
  split
  · next h => exact ⟨h, fun _ _ => rfl, _, _, rfl⟩
  · exact ⟨s.toL0_shown.1, s.lanesShown_onlyRegs _ _, _, _, rfl⟩

/-- A correctable error told to the host by AER changes no register and no report. -/
theorem State.aer_frame (s : State) (off bit : Nat) : ∃ pc o, s.aer off bit = { s with pci := pc, out := o } := by
  have hsent (c : Prop) [Decidable c] (t u : State) (ht : ∃ pc o, t = { s with pci := pc, out := o })
      (hu : ∃ pc o, u = { s with pci := pc, out := o }) : ∃ pc o, (if c then t else u) = { s with pci := pc, out := o } := by
    split
    · exact ht
    · exact hu
  exact hsent _ _ _ ⟨_, _, rfl⟩ ⟨_, _, rfl⟩

theorem State.receiverError_reports (s : State) (kind : Nat) :
    ∃ t r, exec (.pcieReceiverError kind) s = .next t ∧ t.err.inbox = s.err.inbox ++ [r] ∧ r.cls = clsCorrected ∧ r.block = 0x0A ∧
      t.regs = s.regs ∧ sameStores s t := by
  obtain ⟨pc, o, h⟩ := s.aer_frame aerCor ([0, 6, 7, 12, 8].getD kind 0)
  refine ⟨({ s with pci := pc, out := o } : State).errBare clsCorrected 0x0A 0 0, _, ?_, rfl, rfl, rfl, rfl, rfl, rfl, rfl, rfl⟩
  exact congrArg (fun t : State => Host.Outcome.next (t.errBare clsCorrected 0x0A 0 0)) h

theorem State.cfgRaw_cfgPut_same (s : State) (fn off v d : Nat) : (s.cfgPut fn off v).cfgRaw fn off d = v % 2 ^ 32 := by
  simp [State.cfgPut, State.cfgRaw, mgetD]

theorem State.cfgRaw_cfgPut_ne (s : State) {fn off fn' off' : Nat} (v d : Nat) (h : fn * 1024 + off / 4 ≠ fn' * 1024 + off' / 4) :
    (s.cfgPut fn off v).cfgRaw fn' off' d = s.cfgRaw fn' off' d := by
  simp [State.cfgPut, State.cfgRaw, mgetD, mget_mput_ne _ _ h]

theorem State.toD3_power (s : State) : s.toD3.cfgRaw 0 0x44 8 % 4 = 3 := by
  unfold State.toD3
  rw [State.cfgRaw_cfgPut_same]
  omega

theorem exec_d3hot_of_free {s : State} (h : s.hostStalls = false) : exec .d3hot s = .next s.toD3 :=
  congrArg Host.Outcome.next (if_neg (Bool.eq_false_iff.mp h))

theorem exec_d3hot_of_stalled {s : State} (h : s.hostStalls = true) :
    exec .d3hot s = .next (s.stall ⟨.d3hot, 0, 0, true, 0, 0, [], false, false⟩) :=
  congrArg Host.Outcome.next (if_pos h)

theorem exec_ltrSend_of_enabled {s : State} (hltr : bitOf (s.cfgRaw 0 0x78 0) 10 = true) (hup : s.hostUp = true) :
    exec .ltrSend s = .next (s.send .pcieMsg [3, 0, s.rf R.pciLpm F.pciLpm_LTR_US] []).wakeLink :=
  congrArg Host.Outcome.next (if_pos (by rw [hltr, hup]; rfl))

theorem exec_ltrSend_of_not {s : State} (h : bitOf (s.cfgRaw 0 0x78 0) 10 = false ∨ s.hostUp = false) : exec .ltrSend s = .next s :=
  congrArg Host.Outcome.next (if_neg (by simpa [Bool.and_eq_true, imp_iff_not_or] using h))

theorem State.exit_to_L0 {s : State} {c : Instr} {p : Prop} [Decidable p] (hexec : exec c s = .next (if p then s.toL0 else s)) :
    (decide p = true → ∃ t, exec c s = .next t ∧ t.rf R.pciStatus F.pciStatus_LPM = 0 ∧
        t.rf R.pciStatus F.pciStatus_WIDTH = s.pci.width % 2 ^ F.pciStatus_WIDTH.w ∧ onlyRegs [R.pciStatus] s t ∧ sameButRegs s t) ∧
      (decide p = false → exec c s = .next s) := by
  refine ⟨fun h => ⟨s.toL0, ?_, s.toL0_shown⟩, fun h => ?_⟩
  · rw [hexec, if_pos (of_decide_eq_true h)]
  · rw [hexec, if_neg (of_decide_eq_false h)]

/-- Settles O59: each event of the link is one of the states above. -/
theorem hostLinkStatesFollowTheirEvents : Obligations.HostLinkStatesFollowTheirEvents := by
  unfold Obligations.HostLinkStatesFollowTheirEvents
  intro s rate width eq kind flit pin sub
  refine ⟨?_, fun h => congrArg Host.Outcome.next (if_neg (Bool.eq_false_iff.mp h)), fun h => congrArg Host.Outcome.next (if_pos h),
    fun hp h1 h7 hw => ?_, exec_pcieLinkUp_of_not eq flit, ⟨fun hmay => ?_, fun hno => if_neg hno⟩, fun x hx => ?_,
    ⟨fun hmay => ?_, fun hno => if_neg hno⟩, s.receiverError_reports kind, exec_d3hot_of_stalled, fun hfree => ?_, fun hltr hup => ?_,
    exec_ltrSend_of_not⟩
  · obtain ⟨w, hdown, hperst, htrain, hstall, hwidth, hatc⟩ := s.pcieDown_eq pin
    obtain ⟨rg, sh, fs, hdom⟩ := (w.linkShown 0 0 0 0).domTo_frame 13 1
    obtain ⟨hr, hwd, hl⟩ := w.rf_linkShown 0 0 0 0
    have hrf (f : Fld) : (s.pcieDown pin).rf R.pciStatus f = (w.linkShown 0 0 0 0).rf R.pciStatus f := by
      rw [hdown, State.rf_pciStatus_domTo]
    have hpci : (s.pcieDown pin).pci = w.pci ∧ (s.pcieDown pin).dtu = w.dtu := by
      rw [hdown, hdom]
      exact ⟨rfl, rfl⟩
    obtain ⟨hpci, hdtu⟩ := hpci
    exact ⟨s.pcieDown pin, rfl, by rw [hpci, hperst], by rw [hpci, htrain], by rw [hpci, hstall], by rw [hpci, hwidth], by rw [hdtu,
        hatc],
      (hrf _).trans hr, (hrf _).trans hwd, (hrf _).trans hl⟩
  · obtain ⟨hr, hwd, hl⟩ := s.linkUp_shown rate width eq flit
    obtain ⟨pc, rg, sh, fs, hframe⟩ := s.linkUp_frame rate width eq flit
    have hlanes : width < 2 ^ F.pciStatus_WIDTH.w := by
      simp only [List.contains_iff_mem, List.mem_cons, List.not_mem_nil, or_false] at hw
      obtain rfl | rfl | rfl | rfl | rfl := hw <;> decide
    have hrate : rate < 2 ^ F.pciStatus_RATE.w := lt_of_le_of_lt h7 (by decide)
    refine ⟨s.linkUp rate width eq flit, exec_pcieLinkUp_of_valid eq flit hp h1 h7 hw, hr.trans (Nat.mod_eq_of_lt hrate),
      hwd.trans (Nat.mod_eq_of_lt hlanes), hl, ?_, ?_, s.linkUp_onlyRegs rate width eq flit, ?_⟩
    · rw [State.linkUp_pci]
    · rw [State.linkUp_pci]
    · rw [hframe]
  · obtain ⟨hw, hl⟩ := s.rf_lanesShown 4 1
    exact ⟨s.lanesShown 4 1, if_pos hmay, hw, hl, s.lanesShown_onlyRegs 4 1, rfl⟩
  · simp only [List.mem_cons, List.not_mem_nil, or_false] at hx
    obtain rfl | rfl := hx
    · exact State.exit_to_L0 rfl
    · exact State.exit_to_L0 rfl
  · refine ⟨s.rset R.pciStatus F.pciStatus_LPM (if sub = true ∧ bitsOf (s.cfgRaw 0 0x288 0) 2 2 ≠ 0 then 3 else 2), if_pos hmay, ?_,
      s.onlyRegs_rset _ _ _, rfl⟩
    rw [State.rf_rset_same _ _ _ _ (by decide)]
    split <;> rfl
  · exact ⟨s.toD3, exec_d3hot_of_free hfree, s.toD3_power, fun fn o d h => s.cfgRaw_cfgPut_ne _ _ h.symm, rfl⟩
  · obtain ⟨hlpm, hregs, rg, sh, hsame⟩ := (s.send .pcieMsg [3, 0, s.rf R.pciLpm F.pciLpm_LTR_US] []).wakeLink_shown
    refine ⟨_, exec_ltrSend_of_enabled hltr hup, ?_, hlpm, hregs, ?_⟩
    · rw [hsame]
      rfl
    · rw [hsame]
      rfl

end Sys2Proof.Machine
end

section
/-! PROOFS. A chiplet's oldest request: O46 (13_slips, R300, R315, R362, R364, R365). -/

namespace Sys2Proof.Machine

open Sys2Proof.Safety

/-! ### The request leaves its adapter -/

/-- Slip v without its oldest request q: the rest waits, q's address is kept under its tag, its credits go back. -/
def State.slipTaken (s : State) (v : Nat) (q : SReq) (qs : List SReq) : State :=
  (s.setSl v { s.sl v with queue := qs, sent := mput (s.sl v).sent q.tag q.caddr }).ospFree v
    (ospNeed 0 (1 + b2n (decide (q.kind = .wrp))) q.kind.writes)

theorem State.sl_setSl_same (s : State) (v : Nat) (x : SlipSt) : (s.setSl v x).sl v = x := by
  simp [State.sl, State.setSl, mgetD]

section
variable (s : State) (v : Nat) (q : SReq) (qs : List SReq)

theorem State.slipTaken_eq : s.slipTaken v q qs = { s with slips := (s.slipTaken v q qs).slips } := rfl

theorem State.slipTaken_sl :
    (s.slipTaken v q qs).sl v = { s.sl v with
      queue := qs, sent := mput (s.sl v).sent q.tag q.caddr
      tx := { (s.sl v).tx with
        give := credAdd (s.sl v).tx.give (ospNeed 0 (1 + b2n (decide (q.kind = .wrp))) q.kind.writes) } } := by
  unfold State.slipTaken State.ospFree State.setTx
  rw [State.sl_setSl_same, State.sl_setSl_same]

theorem State.slipTaken_queue : ((s.slipTaken v q qs).sl v).queue = qs := by rw [State.slipTaken_sl]

/-- A slip is gone after its request has left where it was gone before. -/
theorem State.slipTaken_gone {r : SReq} {rs : List SReq} (hq : (s.sl v).queue = r :: rs) (w : Nat) :
    (mget (s.slipTaken v q qs).slips w).any (·.gone) = (mget s.slips w).any (·.gone) := by
  obtain rfl | hne := eq_or_ne w v
  · have hafter := s.slipTaken_sl w q qs
    cases hs : mget s.slips w with
    | none => simp [State.sl, mgetD, hs, SlipSt.idle] at hq
    | some x =>
      have hx : s.sl w = x := by simp [State.sl, mgetD, hs]
      cases ht : mget (s.slipTaken w q qs).slips w with
      | none => simp [State.slipTaken, State.ospFree, State.setTx, State.setSl] at ht
      | some y =>
        have hy : (s.slipTaken w q qs).sl w = y := by simp [State.sl, mgetD, ht]
        rw [← hy, hafter, ← hx]
        rfl
  · simp [State.slipTaken, State.ospFree, State.setTx, State.setSl, mget_mput_ne _ _ hne.symm]

theorem State.slipTaken_placeOf {r : SReq} {rs : List SReq} (hq : (s.sl v).queue = r :: rs) (pa : Nat) :
    (s.slipTaken v q qs).placeOf pa = s.placeOf pa := by
  unfold State.placeOf
  simp only [s.slipTaken_gone v q qs hq]
  rfl

end

/-! ### Refusals -/

/-- Request q has left slip v with ERR of cause c; of the registers those listed may differ. -/
def SlipRefused (s : State) (v : Nat) (q : SReq) (qs : List SReq) (c : Nat) (ks : List Nat) (t : State) : Prop :=
  (t.sl v).queue = qs ∧ t.out = s.out ++ [⟨.osp, [8, v + 2, q.tag, q.caddr, c], []⟩] ∧ onlyRegs ks s t ∧
    t = { s with regs := t.regs, shadow := t.shadow, slips := t.slips, out := t.out }

theorem State.osp_of_up {s : State} {v : Nat} (h : s.slState v = 2) (args : List Nat) (bytes : List Byte) (hd : OspHead) :
    s.osp v args bytes hd = (s.send .osp args bytes).setTx v { (s.sl v).tx with heads := (s.sl v).tx.heads ++ [hd] } :=
  if_neg (by omega)

theorem State.noteDecode_frame (s : State) (src pa : Nat) :
    ∃ rg sh, s.noteDecode src pa = { s with regs := rg, shadow := sh } ∧ onlyRegs [R.glbDecode] s { s with regs := rg, shadow := sh } :=
        by
  have hother : ∀ (t : State) (f : Fld) (x k : Nat), k ∉ [R.glbDecode] → (t.rset R.glbDecode f x).rv k = t.rv k :=
    fun t f x k hk => t.rv_rset_ne f x fun h => hk (by simp [h])
  unfold State.noteDecode
  split
  · exact ⟨_, _, rfl, fun k hk => hother _ _ _ k hk⟩
  · exact ⟨_, _, rfl, fun k hk => (hother _ _ _ k hk).trans ((hother _ _ _ k hk).trans ((hother _ _ _ k hk).trans (hother _ _ _ k hk)))⟩

section
variable {s : State} {v : Nat} (q : SReq) (qs : List SReq) (hup : s.slState v = 2)
include hup

theorem State.slipErrTo_refuses (c : Nat) : SlipRefused s v q qs c [] ((s.slipTaken v q qs).slipErrTo v q c) := by
  have hup' : (s.slipTaken v q qs).slState v = 2 := hup
  unfold State.slipErrTo State.ospErr State.ospMsg
  rw [State.osp_of_up hup']
  refine ⟨?_, rfl, fun _ _ => rfl, rfl⟩
  unfold State.setTx
  rw [State.sl_setSl_same]
  exact s.slipTaken_queue v q qs

theorem State.slipAbsent_refuses (pa : Nat) : SlipRefused s v q qs 1 [R.glbDecode] ((s.slipTaken v q qs).slipAbsent v q pa) := by
  obtain ⟨hqueue, hout, hregs, hframe⟩ := State.slipErrTo_refuses q qs hup 1
  obtain ⟨rg, sh, hsame, hnote⟩ := ((s.slipTaken v q qs).slipErrTo v q 1).noteDecode_frame 0 pa
  unfold State.slipAbsent
  rw [hsame]
  exact ⟨hqueue, hout, fun k hk => (hnote k hk).trans (hregs k List.not_mem_nil),
    congrArg (fun x : State => { x with regs := rg, shadow := sh }) hframe⟩

end

/-! ### Where a request goes -/

section
variable (u : State) (v : Nat) (q : SReq)

theorem State.slipServe_of_err {c : Nat} (h : q.err = some c) :
    u.slipServe v q = if c = 1 then u.slipAbsent v q q.caddr else u.slipErrTo v q c := by
  unfold State.slipServe
  rw [h]

theorem State.slipServe_of_absent (h : q.err = none) (hp : u.placeOf q.pa = .absent ∨ u.placeOf q.pa = .slip v) :
    u.slipServe v q = u.slipAbsent v q q.pa := by
  unfold State.slipServe
  rw [h]
  obtain hp | hp := hp
  · simp only [hp]
  · simp only [hp, if_true]

theorem State.slipServe_of_regs (h : q.err = none) (hp : u.placeOf q.pa = .regs) : u.slipServe v q = u.slipRegs v q := by
  unfold State.slipServe
  rw [h]
  simp only [hp]

theorem State.slipServe_of_home (h : q.err = none) (hr : u.placeOf q.pa ≠ .regs) (ha : u.placeOf q.pa ≠ .absent)
    (hs : u.placeOf q.pa ≠ .slip v) :
    u.slipServe v q = if q.kind.caches && !(u.mayCache (64 + v)) then u.slipErrTo v q 2
      else u.reqFrom q.kind.caches ⟨q.kind, lineOf q.pa, 64 + v, q.tag, q.mask, q.data, q.alloc, q.credit, q.qc, q.ten, 0, false⟩ := by
  unfold State.slipServe
  rw [h]
  dsimp only
  split
  · next hp => exact absurd hp hr
  · next hp => exact absurd hp ha
  · exact if_neg hs

/-- The register space's offset of a request's line. -/
def SReq.regOff (q : SReq) : Nat := lineOf q.pa * 128 - 0xFF00000000

theorem State.slipRegs_of_refused (h : [2, 8, 16, 17].contains (q.regOff / 0x100000) = true ∨ u.regReset q.regOff = true) :
    u.slipRegs v q = u.slipErrTo v q 2 := by
  unfold State.slipRegs
  obtain h | h := h
  · exact if_pos h
  · exact ite_eq_left_iff.mpr fun _ => if_pos h

section
variable (hb : [2, 8, 16, 17].contains (q.regOff / 0x100000) = false) (hr : u.regReset q.regOff = false)
include hb hr

theorem State.slipRegs_of_open :
    u.slipRegs v q = if q.kind = .wrp then
        match oneWord q.mask with
        | some (a, n) =>
          if pfOnly (q.regOff + a) then u.slipErrTo v q 2
          else (u.regNow ⟨blockOfReg q.regOff, q.regOff + a, n, leAt (bytesOfLine q.data) a n, 64 + v, q.tag⟩).ospGnt v q.qc q.tag q.caddr
        | none => u.slipErrTo v q 2
      else (u.regReadMsgs (64 + v) q.tag q.regOff 128).ospData v q.qc q.tag q.caddr 0 (lineOfBytes (u.regBytes q.regOff 128)) :=
  (if_neg (Bool.eq_false_iff.mp hb)).trans (if_neg (Bool.eq_false_iff.mp hr))

theorem State.slipRegs_of_read (hk : q.kind ≠ .wrp) :
    u.slipRegs v q = (u.regReadMsgs (64 + v) q.tag q.regOff 128).ospData v q.qc q.tag q.caddr 0 (lineOfBytes (u.regBytes q.regOff 128)) :=
  (u.slipRegs_of_open v q hb hr).trans (if_neg hk)

theorem State.slipRegs_of_noWord (hk : q.kind = .wrp) (hw : oneWord q.mask = none) : u.slipRegs v q = u.slipErrTo v q 2 := by
  rw [u.slipRegs_of_open v q hb hr, if_pos hk, hw]

theorem State.slipRegs_of_write (hk : q.kind = .wrp) {a n : Nat} (hw : oneWord q.mask = some (a, n)) :
    u.slipRegs v q = if pfOnly (q.regOff + a) then u.slipErrTo v q 2
      else (u.regNow ⟨blockOfReg q.regOff, q.regOff + a, n, leAt (bytesOfLine q.data) a n, 64 + v, q.tag⟩).ospGnt v q.qc q.tag q.caddr :=
          by
  rw [u.slipRegs_of_open v q hb hr, if_pos hk, hw]

end

end

/-! ### A read of registers -/

theorem State.regUse_eq (s : State) (off : Nat) : s.regUse off = { s with fab := (s.regUse off).fab } := by
  unfold State.regUse
  split <;> rfl

/-- The packets of a register read leave all but the fabric as it was. -/
theorem State.regReadMsgs_eq (s : State) (src tag off n : Nat) :
    s.regReadMsgs src tag off n = { s with fab := (s.regReadMsgs src tag off n).fab } := by
  have hpost (t : State) (h : FabHdr) (mask : Nat) (d : Line) (ht : t = { s with fab := t.fab }) :
      (t.post h mask d).1 = { s with fab := (t.post h mask d).1.fab } := by
    rw [State.post_eq_setFab, ht]
    rfl
  unfold State.regReadMsgs
  refine List.foldlRecOn (motive := fun t : State => t = { s with fab := t.fab }) _ _ (s.regUse_eq off) ?_
  intro t ht i _
  exact hpost _ _ _ _ (hpost _ _ _ _ ht)

/-- What a register reads does not depend on the slips' queues. -/
theorem State.regRead_of_slips (s : State) (x : NMap SlipSt) (o : Nat) : ({ s with slips := x } : State).regRead o = s.regRead o := by
  have hhead (n : Nat) : ({ s with slips := x } : State).fqHead n = s.fqHead n := rfl
  have hword (i j : Nat) : ({ s with slips := x } : State).fqWord i j = s.fqWord i j := rfl
  have hload (m : Manifest) (k : Nat) : (({ s with slips := x } : State).loadRegs m).rv k = (s.loadRegs m).rv k :=
    State.rv_of_regs (State.loadRegs_regs_congr (s := s) (t := { s with slips := x }) rfl m) k
  have hshadow (k : Nat) : ({ s with slips := x } : State).shadowOf k = s.shadowOf k := by
    unfold State.shadowOf State.shadowBase
    simp only [hload]
    rfl
  unfold State.regRead
  simp only [hhead, hword, hshadow]
  rfl

theorem State.slipTaken_regBytes (s : State) (v : Nat) (q : SReq) (qs : List SReq) (off n : Nat) :
    (s.slipTaken v q qs).regBytes off n = s.regBytes off n := by
  rw [State.slipTaken_eq]
  unfold State.regBytes
  simp only [State.regRead_of_slips]

/-- Data sent to the chiplet after the packets of a register read. -/
theorem State.slipTaken_answers {s : State} {v : Nat} (q : SReq) (qs : List SReq) (hup : s.slState v = 2) (off : Nat) (d : Line) (t :
    State)
    (ht : t = ((s.slipTaken v q qs).regReadMsgs (64 + v) q.tag off 128).ospData v q.qc q.tag q.caddr 0 d) :
    (t.sl v).queue = qs ∧ t.out = s.out ++ [⟨.osp, [4, v + 2, q.tag, q.caddr, 0], bytesOfLine d⟩] ∧
      t = { s with fab := t.fab, slips := t.slips, out := t.out } := by
  have hmsgs := (s.slipTaken v q qs).regReadMsgs_eq (64 + v) q.tag off 128
  generalize ((s.slipTaken v q qs).regReadMsgs (64 + v) q.tag off 128).fab = f at hmsgs
  have hup' : ({ s.slipTaken v q qs with fab := f } : State).slState v = 2 := hup
  rw [hmsgs, State.ospData, State.osp_of_up hup'] at ht
  subst ht
  refine ⟨?_, rfl, rfl⟩
  unfold State.setTx
  rw [State.sl_setSl_same]
  exact s.slipTaken_queue v q qs

/-! ### SLIP_REQUEST -/

section
variable (s : State) {v : Nat} {q : SReq} {qs : List SReq}

theorem exec_slipRequest_of_none (hq : (s.sl v).queue = []) : exec (.slipRequest v) s = .next s := by
  show execSlipRequest v s = _
  unfold execSlipRequest
  rw [hq]

theorem exec_slipRequest_of_shut (h : s.slState v ≠ 2 ∨ s.err.fatal = true ∨ s.stalling = true) : exec (.slipRequest v) s = .next s := by
  show execSlipRequest v s = _
  unfold execSlipRequest
  split
  · exact if_pos (.inr h)
  · rfl

variable (hv : v < 8) (hq : (s.sl v).queue = q :: qs) (hup : s.slState v = 2) (hf : s.err.fatal = false) (hs : s.stalling = false)
include hv hq hup hf hs

theorem exec_slipRequest_of_held (h : s.slipHolds q = true) : exec (.slipRequest v) s = .next (s.regWake q.regOff) := by
  show execSlipRequest v s = _
  unfold execSlipRequest
  rw [hq]
  exact (if_neg (by simp [hup, hf, hs, hv])).trans (if_pos h)

theorem exec_slipRequest_of_served (h : s.slipHolds q = false) :
    exec (.slipRequest v) s = .next ((s.slipTaken v q qs).slipServe v q) := by
  show execSlipRequest v s = _
  unfold execSlipRequest
  rw [hq]
  exact (if_neg (by simp [hup, hf, hs, hv])).trans (if_neg (by simp [h]))

end

theorem State.slipTaken_regReset (s : State) (v : Nat) (q : SReq) (qs : List SReq) (off : Nat) :
    (s.slipTaken v q qs).regReset off = s.regReset off := rfl

theorem State.slipTaken_mayCache (s : State) (v : Nat) (q : SReq) (qs : List SReq) (x : Nat) :
    (s.slipTaken v q qs).mayCache x = s.mayCache x := rfl

/-- Settles O46: the request is taken off its slip, and State.slipServe is followed case by case. -/
theorem chipletRequestsAreServed : Obligations.ChipletRequestsAreServed := by
  unfold Obligations.ChipletRequestsAreServed
  intro s v hv
  refine ⟨exec_slipRequest_of_none s, fun q qs hq => ⟨fun hup hf hs => ⟨exec_slipRequest_of_held s hv hq hup hf hs, fun hheld => ?_⟩,
    fun h => exec_slipRequest_of_shut s (.inr (.inr h)), fun h => exec_slipRequest_of_shut s (.inl h)⟩⟩
  have hexec := exec_slipRequest_of_served s hv hq hup hf hs hheld
  have hplace := s.slipTaken_placeOf v q qs hq q.pa
  have hrefuse (c : Nat) : SlipRefused s v q qs c [] ((s.slipTaken v q qs).slipErrTo v q c) := State.slipErrTo_refuses q qs hup c
  have hgone (pa : Nat) : SlipRefused s v q qs 1 [R.glbDecode] ((s.slipTaken v q qs).slipAbsent v q pa) := State.slipAbsent_refuses q qs
      hup pa
  refine ⟨fun c herr => ⟨fun hc => ?_, fun hc => ?_⟩, fun hnone hp => ?_, fun hnone hp => ⟨fun hr => ?_, fun hb hr => ⟨fun hk => ?_, fun
      hk hw => ?_,
    fun a n hk hw => ⟨fun (hopen : pfOnly (q.regOff + a) = false) => ?_, fun (hpf : pfOnly (q.regOff + a) = true) => ?_⟩⟩⟩, fun hnone hr
        ha hsl => ⟨fun hk hm => ?_, fun hk => ?_⟩⟩
  · rw [State.slipServe_of_err _ v q herr, if_neg hc] at hexec
    exact ⟨_, hexec, hrefuse c⟩
  · rw [State.slipServe_of_err _ v q herr, if_pos hc] at hexec
    exact ⟨_, hexec, hgone q.caddr⟩
  · rw [State.slipServe_of_absent _ v q hnone (by rwa [hplace])] at hexec
    exact ⟨_, hexec, hgone q.pa⟩
  · rw [State.slipServe_of_regs _ v q hnone (hplace.trans hp), State.slipRegs_of_refused (s.slipTaken v q qs) v q hr] at hexec
    exact ⟨_, hexec, hrefuse 2⟩
  · rw [State.slipServe_of_regs _ v q hnone (hplace.trans hp), State.slipRegs_of_read (s.slipTaken v q qs) v q hb hr hk,
        State.slipTaken_regBytes] at hexec
    exact ⟨_, hexec, State.slipTaken_answers q qs hup _ _ _ rfl⟩
  · rw [State.slipServe_of_regs _ v q hnone (hplace.trans hp), State.slipRegs_of_noWord (s.slipTaken v q qs) v q hb hr hk hw] at hexec
    exact ⟨_, hexec, hrefuse 2⟩
  · rw [State.slipServe_of_regs _ v q hnone (hplace.trans hp), State.slipRegs_of_write (s.slipTaken v q qs) v q hb hr hk hw,
      if_neg (Bool.eq_false_iff.mp hopen)] at hexec
    exact ⟨s.slipTaken v q qs, hexec, s.slipTaken_queue v q qs, rfl⟩
  · rw [State.slipServe_of_regs _ v q hnone (hplace.trans hp), State.slipRegs_of_write (s.slipTaken v q qs) v q hb hr hk hw, if_pos hpf]
        at hexec
    exact ⟨_, hexec, hrefuse 2⟩
  · rw [State.slipServe_of_home _ v q hnone (by rwa [hplace]) (by rwa [hplace]) (by rwa [hplace]), State.slipTaken_mayCache,
      if_pos (by simp [hk, hm])] at hexec
    exact ⟨_, hexec, hrefuse 2⟩
  · rw [State.slipServe_of_home _ v q hnone (by rwa [hplace]) (by rwa [hplace]) (by rwa [hplace]), State.slipTaken_mayCache,
      if_neg (by simpa using hk)] at hexec
    exact ⟨s.slipTaken v q qs, hexec, s.slipTaken_queue v q qs, rfl⟩

end Sys2Proof.Machine
end

section
/-! PROOFS. The host's requests: O60 (R38, R218, R219, R321, R399 to R411, R419). -/

namespace Sys2Proof.Machine

open Sys2Proof.Safety

/-! ### Stalled or served -/

section
variable {s t : State} {c : Instr} {r : HostReq}

theorem exec_of_hostStalls (hexec : exec c s = .next (if s.hostStalls then s.stall r else t)) (h : s.hostStalls = true) :
    exec c s = .next (s.stall r) := hexec.trans (congrArg Host.Outcome.next (if_pos h))

theorem exec_of_hostServes (hexec : exec c s = .next (if s.hostStalls then s.stall r else t)) (h : s.hostStalls = false) :
    exec c s = .next t := hexec.trans (congrArg Host.Outcome.next (if_neg (Bool.eq_false_iff.mp h)))

end

theorem if_false_neg {α : Type} {b : Bool} (h : b = false) (x y : α) : (if b then x else y) = y := if_neg (Bool.eq_false_iff.mp h)

theorem and_not_eq_false {a b : Bool} (h : a = false ∨ b = true) : (a && !b) = false := by
  obtain rfl | rfl := h
  · exact Bool.false_and _
  · exact Bool.and_false _

/-! ### Configuration requests -/

section
variable {s : State} (r : HostReq)

theorem State.cfgServe_of_down (h : s.hostUp = false) : s.cfgServe r = s := if_pos (by rw [h]; rfl)

theorem State.cfgServe_of_enabled (hup : s.hostUp = true) (hfn : r.fn ≤ s.pci.vfs) (hoff : r.off < 4096) :
    s.cfgServe r = if r.write then (s.cfgWrite r.fn (r.off / 4 * 4) (r.off % 4) r.data).send .cpl [r.fn, r.tag] []
      else s.send .cpl [r.fn, r.tag] (slice (leBytes 4 (s.cfgRead r.fn (r.off / 4 * 4))) (r.off % 4) r.len) := by
  refine if_neg ?_
  rw [hup, decide_eq_false (Nat.not_lt.mpr hfn), decide_eq_false (Nat.not_le.mpr hoff)]
  exact Bool.false_ne_true

end

/-! ### BAR0 and VF pages -/

section
variable {s : State} {r : HostReq} (hup : s.hostUp = true) (hfn : r.fn ≤ s.pci.vfs)

theorem State.bar0Serve_of_down (h : s.hostUp = false) : s.bar0Serve r = s := if_pos (by rw [h]; rfl)

include hup hfn

/-- A BAR0 request of an enabled function, with a link. -/
theorem State.bar0Serve_of_enabled :
    s.bar0Serve r = if r.write && r.poison then s.aer aerUnc 12
      else if !(s.memSpace r.fn) then s.unsupported r
      else if (if r.write then r.data.length else r.len) = 0 then if r.write then s else s.send .cpl [r.fn, r.tag, 4] (List.replicate 4 0)
      else if s.barHeld || s.regWaits r.key then (s.regWake r.key).stall r
      else if r.fn = 0 then s.bar0Pf r
      else s.bar0Vf r := by
  refine if_neg ?_
  rw [hup, decide_eq_false (Nat.not_lt.mpr hfn)]
  exact Bool.false_ne_true

theorem State.bar0Serve_of_poison (h : (r.write && r.poison) = true) : s.bar0Serve r = s.aer aerUnc 12 :=
  (State.bar0Serve_of_enabled hup hfn).trans (if_pos h)

variable (hgood : (r.write && r.poison) = false)
include hgood

theorem State.bar0Serve_of_noSpace (hm : s.memSpace r.fn = false) : s.bar0Serve r = s.unsupported r :=
  (State.bar0Serve_of_enabled hup hfn).trans ((if_false_neg hgood _ _).trans (if_pos (by rw [hm]; rfl)))

variable (hm : s.memSpace r.fn = true)
include hm

theorem State.bar0Serve_of_space :
    s.bar0Serve r =
      if (if r.write then r.data.length else r.len) = 0 then if r.write then s else s.send .cpl [r.fn, r.tag, 4] (List.replicate 4 0)
      else if s.barHeld || s.regWaits r.key then (s.regWake r.key).stall r
      else if r.fn = 0 then s.bar0Pf r
      else s.bar0Vf r :=
  (State.bar0Serve_of_enabled hup hfn).trans ((if_false_neg hgood _ _).trans (if_false_neg (by rw [hm]; rfl) _ _))

theorem State.bar0Serve_of_empty (hn : (if r.write then r.data.length else r.len) = 0) :
    s.bar0Serve r = if r.write then s else s.send .cpl [r.fn, r.tag, 4] (List.replicate 4 0) :=
  (State.bar0Serve_of_space hup hfn hgood hm).trans (if_pos hn)

variable (hn : (if r.write then r.data.length else r.len) ≠ 0)
include hn

theorem State.bar0Serve_of_held (h : s.barHeld = true ∨ s.regWaits r.key = true) : s.bar0Serve r = (s.regWake r.key).stall r :=
  (State.bar0Serve_of_space hup hfn hgood hm).trans ((if_neg hn).trans (if_pos ((Bool.or_eq_true _ _).mpr h)))

theorem State.bar0Serve_of_free (hb : s.barHeld = false) (hw : s.regWaits r.key = false) :
    s.bar0Serve r = if r.fn = 0 then s.bar0Pf r else s.bar0Vf r :=
  (State.bar0Serve_of_space hup hfn hgood hm).trans ((if_neg hn).trans (if_false_neg (by rw [hb, hw]; rfl) _ _))

end

section
variable {s : State} {r : HostReq} (hin : r.off + (if r.write then r.data.length else r.len) ≤ 0x4000000)
include hin

theorem State.bar0Pf_of_absent (hb : s.blockOn (r.off / 0x100000) = false) :
    s.bar0Pf r =
      let s1 := s.rsetIf s.early R.pciCnt F.pciCnt_EARLY (satAdd (s.rf R.pciCnt F.pciCnt_EARLY) 1 0xFFFF)
      if r.write then s1 else s1.complete r (List.replicate r.len 0) :=
  (if_neg (Nat.not_lt.mpr hin)).trans (if_pos (by rw [hb]; rfl))

theorem State.bar0Pf_of_reset (hb : s.blockOn (r.off / 0x100000) = true) (hr : s.regReset r.off = true) : s.bar0Pf r = s.prst r :=
  (if_neg (Nat.not_lt.mpr hin)).trans ((if_false_neg (by rw [hb]; rfl) _ _).trans (if_pos hr))

theorem State.bar0Pf_of_open (hb : s.blockOn (r.off / 0x100000) = true) (hr : s.regReset r.off = false) :
    s.bar0Pf r = if r.write then s.regNow ⟨blockOfReg r.off, r.off, r.data.length, leNat r.data, 80, r.tag % 1024⟩
      else (s.regReadMsgs 80 (r.tag % 1024) r.off r.len).complete r (s.regBytes r.off r.len) :=
  (if_neg (Nat.not_lt.mpr hin)).trans ((if_false_neg (by rw [hb]; rfl) _ _).trans (if_false_neg hr _ _))

end

/-- An absent block counts an early access at most. -/
theorem State.earlyCount_frame (s : State) :
    onlyRegs [R.pciCnt] s (s.rsetIf s.early R.pciCnt F.pciCnt_EARLY (satAdd (s.rf R.pciCnt F.pciCnt_EARLY) 1 0xFFFF)) ∧
      sameButRegs s (s.rsetIf s.early R.pciCnt F.pciCnt_EARLY (satAdd (s.rf R.pciCnt F.pciCnt_EARLY) 1 0xFFFF)) := by
  unfold State.rsetIf
  split
  · exact ⟨fun k hk => s.rv_rset_ne _ _ fun h => hk (List.mem_singleton.mpr h.symm), rfl⟩
  · exact ⟨fun _ _ => rfl, rfl⟩

section
variable {s : State} {r : HostReq} (hin : r.off + (if r.write then r.data.length else r.len) ≤ 0x10000)
include hin

theorem State.bar0Vf_of_held (ht : s.tdiHeld (r.fn - 1) = true) (hb : r.tbit = false) : s.bar0Vf r = s.unsupported r :=
  (if_neg (Nat.not_lt.mpr hin)).trans (if_pos (by rw [ht, hb]; rfl))

variable (ht : s.tdiHeld (r.fn - 1) = false ∨ r.tbit = true)
include ht

theorem State.bar0Vf_of_reset (hr : s.tenReset (r.fn - 1) = true) : s.bar0Vf r = s.prst r :=
  (if_neg (Nat.not_lt.mpr hin)).trans ((if_false_neg (and_not_eq_false ht) _ _).trans (if_pos hr))

theorem State.bar0Vf_of_open (hr : s.tenReset (r.fn - 1) = false) :
    s.bar0Vf r = if r.write then s.vfWrite (r.fn - 1) r.off r.data
      else (s.regReadMsgs 80 (r.tag % 1024) r.key r.len).complete r (s.regBytes r.key r.len) :=
  (if_neg (Nat.not_lt.mpr hin)).trans ((if_false_neg (and_not_eq_false ht) _ _).trans (if_false_neg hr _ _))

end

/-! ### BAR2 -/

section
variable {s : State} {r : HostReq}

theorem State.bar2Serve_of_down (h : s.hostUp = false) : s.bar2Serve r = s := if_pos (by rw [h]; rfl)

variable (hup : s.hostUp = true)
include hup

theorem State.bar2Serve_of_poison (h : (r.write && r.poison) = true) : s.bar2Serve r = s.aer aerUnc 12 :=
  (if_false_neg (by rw [hup]; rfl) _ _).trans (if_pos h)

variable (hgood : (r.write && r.poison) = false)
include hgood

theorem State.bar2Serve_of_noSpace (hm : s.memSpace 0 = false) : s.bar2Serve r = s.unsupported r :=
  (if_false_neg (by rw [hup]; rfl) _ _).trans ((if_false_neg hgood _ _).trans (if_pos (by rw [hm]; rfl)))

variable (hm : s.memSpace 0 = true)
include hm

theorem State.bar2Serve_of_empty (hn : (if r.write then r.data.length else r.len) = 0) :
    s.bar2Serve r = if r.write then s else s.send .cpl [r.fn, r.tag, 4] (List.replicate 4 0) :=
  (if_false_neg (by rw [hup]; rfl) _ _).trans ((if_false_neg hgood _ _).trans ((if_false_neg (by rw [hm]; rfl) _ _).trans (if_pos hn)))

variable {n : Nat} (hlen : (if r.write then r.data.length else r.len) = n) (hn : n ≠ 0)
include hlen hn

/-- A BAR2 request of n bytes where PF0's memory space is enabled. -/
theorem State.bar2Serve_of_space :
    s.bar2Serve r = if s.early then
        let s1 := s.radd R.pciCnt F.pciCnt_EARLY 1
        if r.write then s1 else s1.complete r (List.replicate n 0)
      else if vaultEnd < r.off + n then
        let s1 := s.noteDecode 1 r.off
        if r.write then s1 else s1.complete r (List.replicate n 0)
      else if s.bar2Held r.off n then (s.unsupported r).noteDecode 1 r.off
      else if !(s.bar2Ready r [(r.off, n)]) then s.bar2Wait r [(r.off, n)]
      else if r.write then
        let w := (s.chargeFor r.who 72 (s.linesNew 72 [(r.off, n)])).moverWrite r.who 72 1 r.off r.data
        (w.1.bar2Bads true w.2).1
      else
        let w := (s.chargeFor r.who 72 (s.linesNew 72 [(r.off, n)])).moverRead r.who 72 1 r.off n
        let b := (w.1.bar2Train r.off n).bar2Bads false w.2.2
        if r.poison || !b.2 then (b.1.aer aerUnc 15).send .cplUr [r.fn, r.tag, 4] []
        else b.1.complete r w.2.1 := by
  subst hlen
  exact (if_false_neg (by rw [hup]; rfl) _ _).trans ((if_false_neg hgood _ _).trans ((if_false_neg (by rw [hm]; rfl) _ _).trans (if_neg
      hn)))

theorem State.bar2Serve_of_early (he : s.early = true) :
    s.bar2Serve r = if r.write then s.radd R.pciCnt F.pciCnt_EARLY 1
      else (s.radd R.pciCnt F.pciCnt_EARLY 1).complete r (List.replicate n 0) :=
  (State.bar2Serve_of_space hup hgood hm hlen hn).trans (if_pos he)

variable (he : s.early = false)
include he

theorem State.bar2Serve_of_absent (ha : vaultEnd < r.off + n) :
    s.bar2Serve r = if r.write then s.noteDecode 1 r.off else (s.noteDecode 1 r.off).complete r (List.replicate n 0) :=
  (State.bar2Serve_of_space hup hgood hm hlen hn).trans ((if_false_neg he _ _).trans (if_pos ha))

variable (ha : r.off + n ≤ vaultEnd)
include ha

theorem State.bar2Serve_of_held (hh : s.bar2Held r.off n = true) : s.bar2Serve r = (s.unsupported r).noteDecode 1 r.off :=
  (State.bar2Serve_of_space hup hgood hm hlen hn).trans ((if_false_neg he _ _).trans ((if_neg (Nat.not_lt.mpr ha)).trans (if_pos hh)))

variable (hh : s.bar2Held r.off n = false)
include hh

theorem State.bar2Serve_of_waiting (hr : s.bar2Ready r [(r.off, n)] = false) : s.bar2Serve r = s.bar2Wait r [(r.off, n)] :=
  (State.bar2Serve_of_space hup hgood hm hlen hn).trans ((if_false_neg he _ _).trans ((if_neg (Nat.not_lt.mpr ha)).trans
    ((if_false_neg hh _ _).trans (if_pos (by rw [hr]; rfl)))))

theorem State.bar2Serve_of_ready (hr : s.bar2Ready r [(r.off, n)] = true) :
    s.bar2Serve r = if r.write then
        let w := (s.chargeFor r.who 72 (s.linesNew 72 [(r.off, n)])).moverWrite r.who 72 1 r.off r.data
        (w.1.bar2Bads true w.2).1
      else
        let w := (s.chargeFor r.who 72 (s.linesNew 72 [(r.off, n)])).moverRead r.who 72 1 r.off n
        let b := (w.1.bar2Train r.off n).bar2Bads false w.2.2
        if r.poison || !b.2 then (b.1.aer aerUnc 15).send .cplUr [r.fn, r.tag, 4] []
        else b.1.complete r w.2.1 :=
  (State.bar2Serve_of_space hup hgood hm hlen hn).trans ((if_false_neg he _ _).trans ((if_neg (Nat.not_lt.mpr ha)).trans
    ((if_false_neg hh _ _).trans (if_false_neg (by rw [hr]; rfl) _ _))))

end

/-! ### A byte of configuration space that firmware keeps for the host -/

theorem withBytes_low (old : Nat) (b : Byte) : withBytes old 0 [b] % 256 = b.toNat :=
  (Nat.add_mul_mod_self_left _ _ _).trans (Nat.mod_eq_of_lt b.isLt)

theorem merged_low (old new : Nat) : ((old &&& (2 ^ 32 - 1 - 0xFF)) ||| (new &&& 0xFF)) % 2 ^ 32 % 2 ^ 8 = new % 2 ^ 8 := by
  rw [Nat.mod_mod_of_dvd _ (by decide), Nat.or_mod_two_pow, Nat.and_mod_two_pow, Nat.and_mod_two_pow]
  exact (congrArg₂ (· ||| ·) (Nat.and_zero _) (Nat.and_two_pow_sub_one_eq_mod _ 8)).trans ((Nat.zero_or _).trans (Nat.mod_mod _ _))

theorem cfgWritten_line (old new : Nat) (v : Bool) : cfgWritten 0 0x3C old new v % 256 = new % 256 := by
  have hcut : cfgWritten 0 0x3C old new v =
      (BitVec.ofNat 32 ((old &&& (2 ^ 32 - 1 - 0xFF)) ||| (new &&& 0xFF)) &&& ~~~(BitVec.ofNat 32 (new &&& 0))).toNat := rfl
  rw [hcut, Nat.and_zero, BitVec.not_zero, BitVec.and_allOnes, BitVec.toNat_ofNat]
  exact merged_low old new

theorem State.showTags_onlyRegs (s : State) : onlyRegs [R.pciTag] s s.showTags :=
  onlyRegs_trans (s.onlyRegs_rset _ _ _) (onlyRegs_trans (State.onlyRegs_rset _ _ _ _) (State.onlyRegs_rset _ _ _ _))

/-- A write of the interrupt line leaves it in configuration space and shows PCI_TAG. -/
theorem State.cfgWrite_line (s : State) (b : Byte) :
    ∃ pc, s.cfgWrite 0 0x3C 0 [b] = ({ s with pci := pc } : State).showTags ∧ ({ s with pci := pc } : State).cfgRaw 0 0x3C 0 % 256 =
        b.toNat := by
  have hnew := (cfgWritten_line (s.cfgRaw 0 0x3C 0) (withBytes (s.cfgRaw 0 0x3C 0) 0 [b]) (bitOf (s.cfgRaw 0 0x2C8 0) 0)).trans
    (withBytes_low _ b)
  have hwrite : s.cfgWrite 0 0x3C 0 [b] = (if cfgWritten 0 0x3C (s.cfgRaw 0 0x3C 0) (withBytes (s.cfgRaw 0 0x3C 0) 0 [b])
      (bitOf (s.cfgRaw 0 0x2C8 0) 0) = s.cfgRaw 0 0x3C 0 then s else s.cfgPut 0 0x3C (cfgWritten 0 0x3C (s.cfgRaw 0 0x3C 0)
      (withBytes (s.cfgRaw 0 0x3C 0) 0 [b]) (bitOf (s.cfgRaw 0 0x2C8 0) 0))).showTags := rfl
  generalize cfgWritten _ _ _ _ _ = w at hnew hwrite
  rw [hwrite]
  split
  · next h => exact ⟨s.pci, rfl, (congrArg (· % 256) h.symm).trans hnew⟩
  · exact ⟨_, rfl, (congrArg (· % 256) (s.cfgRaw_cfgPut_same 0 0x3C w 0)).trans ((Nat.mod_mod_of_dvd _ (by decide)).trans hnew)⟩

theorem State.showTags_cfgRaw (s : State) (fn off d : Nat) : s.showTags.cfgRaw fn off d = s.cfgRaw fn off d := rfl

theorem State.showTags_out (s : State) : s.showTags.out = s.out := rfl

theorem State.showTags_sameStores (s : State) : sameStores s s.showTags := ⟨rfl, rfl, rfl, rfl⟩

/-! ### Resets -/

theorem State.rsetIf_pci (s : State) (c : Bool) (k : Nat) (f : Fld) (x : Nat) : (s.rsetIf c k f x).pci = s.pci := by
  cases c <;> rfl

theorem State.each_pci {f : State → Nat → State} (h : ∀ s w, (f s w).pci = s.pci) (s : State) (l : List Nat) : (s.each l f).pci = s.pci
    := by
  induction l generalizing s with
  | nil => rfl
  | cons w l ih => exact (ih (f s w)).trans (h s w)

theorem State.pf0Down_pci (s : State) : s.pf0Down.pci.vfs = 0 ∧ s.pf0Down.pci.cfg = [] := by
  have h (t : State) := State.each_pci (fun s w => s.rsetIf_pci
    (decide (s.rf (R.dtuAckAddr w) F.dtuAckAddr_EN = 1) || (mget s.shadow (R.dtuAckAddr w)).isSome) (R.dtuAckAddr w) F.dtuAckAddr_EN 0)
    t (List.range 64)
  exact ⟨congrArg PciSt.vfs (h _), congrArg PciSt.cfg (h _)⟩

theorem bitOf_setBit_zero (n : Nat) (b : Bool) : bitOf (setBit n 0 b % 2 ^ 32) 0 = b := by
  have hbit : setBit n 0 b % 2 ^ 32 / 2 ^ 0 % 2 = b2n b :=
    calc setBit n 0 b % 2 ^ 32 / 2 ^ 0 % 2
      _ = (n / 2 * 2 + b2n b * 1 + n % 1) % 2 := (congrArg (· % 2) (Nat.div_one _)).trans (Nat.mod_mod_of_dvd _ (by decide))
      _ = b2n b % 2 := by rw [Nat.mod_one, Nat.mul_one, Nat.add_zero, Nat.mul_add_mod_self_right]
      _ = b2n b := by cases b <;> rfl
  refine (congrArg (fun x => decide (x = 1)) hbit).trans ?_
  cases b <;> rfl

/-- NO_ARI, as VF_ENABLE_SET shows it. -/
def State.ariShown (s : State) (ari : Bool) : State :=
  (s.rsetIf (!ari) R.pciStatus F.pciStatus_NO_ARI 1).rsetIf ari R.pciStatus F.pciStatus_NO_ARI 0

theorem State.ariShown_frame (s : State) (ari : Bool) : onlyRegs [R.pciStatus] s (s.ariShown ari) ∧ sameButRegs s (s.ariShown ari) := by
  cases ari
  · exact ⟨s.onlyRegs_rset _ _ 1, rfl⟩
  · exact ⟨s.onlyRegs_rset _ _ 0, rfl⟩

theorem State.vfEnableSet_of_ready {s : State} (h : s.rf R.pciStatus F.pciStatus_VF_READY ≠ 0) :
    ∃ u : State, u = (s.cfgPut 0 0x2C8 (setBit (s.cfgRaw 0 0x2C8 0) 0 true)).ariShown (bitOf (s.cfgRaw 0 0x2C8 0) 4) ∧
      s.vfEnableSet = { u with
        pci := { u.pci with vfs := min (s.cfgRaw 0 0x2D0 0 % 2 ^ 16) (if bitOf (s.cfgRaw 0 0x2C8 0) 4 then 4096 else 7) } } :=
  ⟨_, rfl, if_neg h⟩

theorem vfEnableSet_enables {s : State} (h : s.rf R.pciStatus F.pciStatus_VF_READY ≠ 0) :
    s.vfEnableSet.pci.vfs = min (s.cfgRaw 0 0x2D0 0 % 2 ^ 16) (if bitOf (s.cfgRaw 0 0x2C8 0) 4 then 4096 else 7) ∧
      bitOf (s.vfEnableSet.cfgRaw 0 0x2C8 0) 0 = true ∧ onlyRegs [R.pciStatus] s s.vfEnableSet ∧
      s.vfEnableSet = { s with pci := s.vfEnableSet.pci, regs := s.vfEnableSet.regs, shadow := s.vfEnableSet.shadow } := by
  obtain ⟨u, hu, hset⟩ := State.vfEnableSet_of_ready h
  obtain ⟨hregs, hsame⟩ := (s.cfgPut 0 0x2C8 (setBit (s.cfgRaw 0 0x2C8 0) 0 true)).ariShown_frame (bitOf (s.cfgRaw 0 0x2C8 0) 4)
  rw [← hu] at hregs hsame
  rw [hset]
  refine ⟨rfl, ?_, hregs, ?_⟩
  · have hraw : u.cfgRaw 0 0x2C8 0 = setBit (s.cfgRaw 0 0x2C8 0) 0 true % 2 ^ 32 := by
      rw [hsame]
      exact s.cfgRaw_cfgPut_same 0 0x2C8 _ 0
    exact (congrArg (bitOf · 0) hraw).trans (bitOf_setBit_zero _ true)
  · rw [hsame]
    rfl

/-! ### Completions -/

/-- What an option decides, where it is known. -/
theorem option_some {α β : Type} {o : Option α} {x : α} {b : β} {f : α → β} (h : o = some x) :
    (Option.casesOn (motive := fun _ => β) o b f) = f x := h ▸ rfl

theorem option_none {α β : Type} {o : Option α} {b : β} {f : α → β} (h : o = none) :
    (Option.casesOn (motive := fun _ => β) o b f) = b := h ▸ rfl

section
set_option smartUnfolding false
variable {s : State} {tag : Nat}

theorem exec_pcieCompletion_of_piece {r : RRead} {x : Nat × Nat × Nat} {fn st count : Nat} {poison : Bool} {data : List Byte}
    (hr : s.hostReadOf tag = some r) (hx : r.left.find? (fun x => x.1 = tag) = some x) :
    exec (.pcieCompletion fn tag st poison count data) s = match cplCause st poison count x.2.2 data.length with
      | some c => .next ((s.readFails r tag c).cplAer c).afterTag
      | none => .next (s.pieceIn r x data).afterTag := (option_some hr).trans (option_some hx)

/-- The hub's read without a requester, after a completion of its tag. -/
def State.orphanIn (s : State) (o : Nat × Nat × Option Nat) (bad : Bool) (n : Nat) : State :=
  { s with
    pci := { s.pci with
      orphan := if bad || decide (o.2.1 ≤ n) then s.pci.orphan.erase o
        else s.pci.orphan.map (fun y => if y = o then (o.1, o.2.1 - n, o.2.2) else y) } }

variable (hr : s.hostReadOf tag = none)
include hr

theorem exec_pcieCompletion_of_orphan {o : Nat × Nat × Option Nat} {fn st count : Nat} {poison : Bool} {data : List Byte}
    (ho : s.pci.orphan.find? (fun o => o.1 = tag) = some o) :
    exec (.pcieCompletion fn tag st poison count data) s =
      match cplCause st poison count o.2.1 data.length, o.2.2 with
      | some c, some f => .next (((s.orphanIn o (cplCause st poison count o.2.1 data.length).isSome data.length).hostFail f c).cplAer
            c).afterTag
      | _, _ => .next (s.orphanIn o (cplCause st poison count o.2.1 data.length).isSome data.length).afterTag :=
  (option_none hr).trans (option_some ho)

theorem exec_pcieCompletion_of_nobody {fn st count : Nat} {poison : Bool} {data : List Byte}
    (ho : s.pci.orphan.find? (fun o => o.1 = tag) = none) :
    exec (.pcieCompletion fn tag st poison count data) s = match s.pci.quar.find? (fun q => q.1 = tag) with
      | some q => .next (({ s with
          pci := { s.pci with quar := s.pci.quar.map (fun y => if y = q then (tag, true) else y) } } : State).lateCpl fn (!q.2))
      | none => .next (if s.hostUp then s.lateCpl fn true else s) := (option_none hr).trans (option_none ho)

theorem exec_completionTimeout_of_nobody (ho : s.pci.orphan.find? (fun o => o.1 = tag) = none) :
    exec (.completionTimeout tag) s = .next s := (option_none hr).trans (option_none ho)

theorem exec_completionTimeout_of_orphan {o : Nat × Nat × Option Nat} (ho : s.pci.orphan.find? (fun o => o.1 = tag) = some o) :
    ∃ u : State, u.pci.orphan = s.pci.orphan.erase o ∧ u = { s with pci := { s.pci with orphan := u.pci.orphan } } ∧
      ∃ v : State, v = (match o.2.2 with | some f => (u.hostFail f 1).aer aerUnc 14 | none => u) ∧
        exec (.completionTimeout tag) s = .next ({ v with pci := { v.pci with quar := v.pci.quar ++ [(tag, false)] } } : State).afterTag
            := by
  refine ⟨{ s with pci := { s.pci with orphan := s.pci.orphan.erase o } }, rfl, rfl, _, rfl, ?_⟩
  obtain ⟨_, _, _ | f⟩ := o
  · exact (option_none hr).trans (option_some ho)
  · exact (option_none hr).trans (option_some ho)

end

theorem State.pciCap_rv_ne (s : State) (fn c : Nat) {k : Nat} (h : R.pciErr ≠ k) : (s.pciCap fn c).rv k = s.rv k := by
  have hput (t : State) (v : Word) : ({ t with regs := mput t.regs R.pciErr v } : State).rv k = t.rv k := by
    simp [State.rv, mget_mput_ne _ _ h]
  unfold State.pciCap
  dsimp only
  split
  · exact hput s _
  · exact (hput _ _).trans (hput s _)

theorem State.aer_regs (s : State) (off bit : Nat) : (s.aer off bit).regs = s.regs := by
  obtain ⟨pc, o, h⟩ := s.aer_frame off bit
  rw [h]

theorem State.lateCpl_late (s : State) (fn : Nat) (log : Bool) :
    (s.lateCpl fn log).rf R.pciCnt F.pciCnt_LATE = satAdd (s.rf R.pciCnt F.pciCnt_LATE) 1 (2 ^ F.pciCnt_LATE.w - 1) := by
  have hcount := s.rf_radd_satAdd R.pciCnt F.pciCnt_LATE 1 (by decide)
  cases log
  · exact hcount
  · refine (congrArg (fget · _) (State.pciCap_rv_ne _ _ _ (by decide))).trans (Eq.trans ?_ hcount)
    exact State.rf_of_regs (State.aer_regs _ _ _) _ _

theorem State.aer_quar (s : State) (off bit : Nat) : (s.aer off bit).pci.quar = s.pci.quar :=
  iteInduction (motive := fun t : State => t.pci.quar = s.pci.quar) (fun _ => rfl) fun _ => rfl

theorem State.pciCap_pci (s : State) (fn c : Nat) : (s.pciCap fn c).pci = s.pci := by
  unfold State.pciCap
  dsimp only
  split <;> rfl

theorem State.readFails_quar (s : State) (r : RRead) (tag c : Nat) : (s.readFails r tag c).pci.quar = s.pci.quar :=
  (congrArg PciSt.quar (State.pciCap_pci _ _ _) : (s.hostFail r.func c).pci.quar = s.pci.quar)

set_option smartUnfolding false in
/-- A read that times out leaves its tag quarantined. -/
theorem exec_completionTimeout_of_read {s : State} {tag : Nat} {r : RRead} (hr : s.hostReadOf tag = some r) :
    ∃ u : State, exec (.completionTimeout tag) s = .next u.afterTag ∧ u.pci.quar = s.pci.quar ++ [(tag, false)] ∧ sameStores s u := by
  refine ⟨{ (s.readFails r tag 1).aer aerUnc 14 with
    pci := { ((s.readFails r tag 1).aer aerUnc 14).pci with quar := ((s.readFails r tag 1).aer aerUnc 14).pci.quar ++ [(tag, false)] } },
    ?_, ?_, ?_⟩
  · exact option_some hr
  · exact congrArg (· ++ _) ((State.aer_quar _ _ _).trans (s.readFails_quar _ _ _))
  · exact ⟨(State.aer_mem _ _ _).trans (s.readFails_mem _ _ _), (State.aer_holds _ _ _).trans (s.readFails_holds _ _ _),
      (State.aer_fuses _ _ _).trans (s.readFails_fuses _ _ _), (State.aer_time _ _ _).trans (s.readFails_time _ _ _)⟩

theorem State.cfgServe_write {s : State} {fn off len tag : Nat} {data : List Byte} (hup : s.hostUp = true) (hfn : fn ≤ s.pci.vfs)
    (hoff : off < 4096) : s.cfgServe ⟨.cfg, fn, off, true, len, tag, data, false, false⟩ =
      (s.cfgWrite fn (off / 4 * 4) (off % 4) data).send .cpl [fn, tag] [] := State.cfgServe_of_enabled _ hup hfn hoff

/-- Settles O60: each request's answer is one of the branches above. -/
theorem hostRequestsAreServedOrStalled : Obligations.HostRequestsAreServedOrStalled := by
  unfold Obligations.HostRequestsAreServedOrStalled
  intro s fn off len tag st count tn data poison tbit dmg write
  refine ⟨fun h => ?_, fun h hdown => ?_, fun h hup hfn hoff => ⟨?_, ?_⟩, fun h hup b => ?_, fun h hup hfn => ?_,
    fun h hup => ?_, fun h => ⟨fun ht => ?_, fun ht => ?_, ⟨_, exec_of_hostServes rfl h, s.pf0Down_pci⟩, ⟨_, exec_of_hostServes rfl h,
        rfl, ?_⟩⟩,
    fun h hready => ⟨_, exec_of_hostServes rfl h, vfEnableSet_enables hready⟩, fun h hready => ?_, fun r x hr hx => ⟨fun hc => ?_, fun c
        hc => ?_⟩,
    fun hr => ⟨fun o ho => ⟨⟨s.orphanIn o (cplCause st poison count o.2.1 data.length).isSome data.length, fun c hc => ?_, fun hc => ?_,
        rfl⟩,
      exec_completionTimeout_of_orphan hr ho⟩, fun ho => ⟨exec_completionTimeout_of_nobody hr ho, fun q hq => ⟨_, ?_, rfl, ?_⟩, fun hq =>
          ?_⟩⟩,
    fun r hr => exec_completionTimeout_of_read hr, ⟨_, rfl, fun q hq => ?_, fun q hq hne => ?_, rfl⟩⟩
  · have hstall (c : Instr) (r : HostReq) (t : State) (hexec : exec c s = .next (if s.hostStalls then s.stall r else t)) :=
      exec_of_hostStalls hexec h
    exact List.forall_mem_cons.mpr ⟨hstall _ _ _ rfl, List.forall_mem_cons.mpr ⟨hstall _ _ _ rfl, List.forall_mem_cons.mpr ⟨hstall _ _ _
        rfl,
      List.forall_mem_cons.mpr ⟨hstall _ _ _ rfl, List.forall_mem_cons.mpr ⟨hstall _ _ _ rfl, List.forall_mem_cons.mpr ⟨hstall _ _ _ rfl,
      List.forall_mem_cons.mpr ⟨hstall _ _ _ rfl, List.forall_mem_cons.mpr ⟨hstall _ _ _ rfl, List.forall_mem_nil _⟩⟩⟩⟩⟩⟩⟩⟩
  · have hsame (c : Instr) (r : HostReq) (t : State) (hexec : exec c s = .next (if s.hostStalls then s.stall r else t)) (ht : t = s) :
      exec c s = .next s := (exec_of_hostServes hexec h).trans (congrArg _ ht)
    exact List.forall_mem_cons.mpr ⟨hsame _ _ _ rfl (State.cfgServe_of_down _ hdown), List.forall_mem_cons.mpr
      ⟨hsame _ _ _ rfl (State.bar0Serve_of_down hdown), List.forall_mem_cons.mpr ⟨hsame _ _ _ rfl (State.bar2Serve_of_down hdown),
      List.forall_mem_cons.mpr ⟨hsame _ _ _ rfl (State.bar2Serve_of_down hdown), List.forall_mem_nil _⟩⟩⟩⟩
  · exact ⟨_, (exec_of_hostServes rfl h).trans (congrArg _ (State.cfgServe_of_enabled _ hup hfn hoff)), rfl, rfl⟩
  · exact (exec_of_hostServes rfl h).trans (congrArg _ (State.cfgServe_of_enabled _ hup hfn hoff))
  · obtain ⟨pc, hwrite, hbyte⟩ := s.cfgWrite_line b
    have hserve : s.cfgServe ⟨.cfg, 0, 0x3C, true, 1, tag, [b], false, false⟩ = (s.cfgWrite 0 0x3C 0 [b]).send .cpl [0, tag] [] :=
      State.cfgServe_write (off := 0x3C) hup (Nat.zero_le _) (by decide)
    refine ⟨_, (exec_of_hostServes rfl h).trans (congrArg _ hserve), ?_⟩
    rw [hwrite]
    exact ⟨hbyte, congrArg (· ++ _) (State.showTags_out _), State.showTags_onlyRegs { s with pci := pc },
      State.showTags_sameStores { s with pci := pc }⟩
  · intro r q get put
    have hget (u : State) (hu : s.bar0Serve r = u) :
        get = .next u := (exec_of_hostServes rfl h).trans (congrArg _ hu)
    have hput (u : State) (hu : s.bar0Serve q = u) :
        put = .next u := (exec_of_hostServes rfl h).trans (congrArg _ hu)
    refine ⟨fun hp => hput _ (State.bar0Serve_of_poison (r := q) hup hfn hp), fun hm => ⟨hget _ (State.bar0Serve_of_noSpace (r := r) hup
        hfn rfl hm),
      fun hp => hput _ (State.bar0Serve_of_noSpace (r := q) hup hfn hp hm)⟩, fun hm => ⟨fun hn => hget _ (State.bar0Serve_of_empty (r :=
          r) hup hfn rfl hm hn),
      fun hp hd => hput _ (State.bar0Serve_of_empty (r := q) hup hfn hp hm (congrArg List.length hd)), fun hw => ⟨fun hn => hget _
        (State.bar0Serve_of_held (r := r) hup hfn rfl hm hn.ne' hw), fun hp hd => hput _ (State.bar0Serve_of_held (r := q) hup hfn hp hm
        (mt List.length_eq_zero_iff.mp hd) hw)⟩, fun hb hw h0 hn hin => ?_, fun hb hw h0 hp hd hin => ?_, fun hb hw h0 hn hin => ?_,
      fun hb hw h0 hp hd hin => ?_⟩⟩
    · have hpf (u : State) (hu : s.bar0Pf r = u) :=
        hget u ((State.bar0Serve_of_free (r := r) hup hfn rfl hm hn.ne' hb hw).trans ((if_pos h0).trans hu))
      exact ⟨fun ha => ⟨_, hpf _ (State.bar0Pf_of_absent (r := r) hin ha), s.earlyCount_frame⟩, fun ha hr => hpf _ (State.bar0Pf_of_reset
          (r := r) hin ha hr),
        fun ha hr => hpf _ (State.bar0Pf_of_open (r := r) hin ha hr)⟩
    · have hpf (u : State) (hu : s.bar0Pf q = u) :=
        hput u ((State.bar0Serve_of_free (r := q) hup hfn hp hm (mt List.length_eq_zero_iff.mp hd) hb hw).trans ((if_pos h0).trans hu))
      exact ⟨fun ha => ⟨_, hpf _ (State.bar0Pf_of_absent (r := q) hin ha), s.earlyCount_frame⟩, fun ha hr => hpf _ (State.bar0Pf_of_reset
          (r := q) hin ha hr),
        fun ha hr => hpf _ (State.bar0Pf_of_open (r := q) hin ha hr)⟩
    · have hvf (u : State) (hu : s.bar0Vf r = u) :=
        hget u ((State.bar0Serve_of_free (r := r) hup hfn rfl hm hn.ne' hb hw).trans ((if_neg h0.ne').trans hu))
      exact ⟨fun ht htb => hvf _ (State.bar0Vf_of_held (r := r) hin ht htb), fun ht hr => hvf _ (State.bar0Vf_of_reset (r := r) hin ht
          hr),
        fun ht hr => hvf _ (State.bar0Vf_of_open (r := r) hin ht hr)⟩
    · have hvf (u : State) (hu : s.bar0Vf q = u) :=
        hput u ((State.bar0Serve_of_free (r := q) hup hfn hp hm (mt List.length_eq_zero_iff.mp hd) hb hw).trans ((if_neg h0.ne').trans
            hu))
      exact ⟨fun ht htb => hvf _ (State.bar0Vf_of_held (r := q) hin ht htb), fun ht hr => hvf _ (State.bar0Vf_of_reset (r := q) hin ht
          hr),
        fun ht hr => hvf _ (State.bar0Vf_of_open (r := q) hin ht hr)⟩
  · intro r q get put
    have hget (u : State) (hu : s.bar2Serve r = u) :
        get = .next u := (exec_of_hostServes rfl h).trans (congrArg _ hu)
    have hput (u : State) (hu : s.bar2Serve q = u) :
        put = .next u := (exec_of_hostServes rfl h).trans (congrArg _ hu)
    refine ⟨fun hp => hput _ (State.bar2Serve_of_poison (r := q) hup hp), fun hm => ⟨hget _ (State.bar2Serve_of_noSpace (r := r) hup rfl
        hm),
      fun hp => hput _ (State.bar2Serve_of_noSpace (r := q) hup hp hm)⟩, fun hm => ⟨fun hn => hget _ (State.bar2Serve_of_empty (r := r)
          hup rfl hm hn),
      fun hp hd => hput _ (State.bar2Serve_of_empty (r := q) hup hp hm (congrArg List.length hd))⟩, fun hm he => ⟨fun hn => hget _
        (State.bar2Serve_of_early (r := r) hup rfl hm rfl hn.ne' he), fun hp hd => hput _ (State.bar2Serve_of_early (r := q) hup hp hm rfl
        (mt List.length_eq_zero_iff.mp hd) he)⟩, fun hm he ha hn => ⟨hget _ (State.bar2Serve_of_absent (r := r) hup rfl hm rfl hn.ne' he
            ha),
        fun hp hd => hput _ (State.bar2Serve_of_absent (r := q) hup hp hm hd hn.ne' he ha)⟩, fun hm he ha hn => ⟨fun hh =>
        ⟨hget _ (State.bar2Serve_of_held (r := r) hup rfl hm rfl hn.ne' he ha hh), fun hp hd => hput _ (State.bar2Serve_of_held (r := q)
            hup hp hm hd hn.ne' he ha hh)⟩,
        fun hh => ⟨fun hr => hget _ (State.bar2Serve_of_waiting (r := r) hup rfl hm rfl hn.ne' he ha hh hr),
          fun hr => hget _ (State.bar2Serve_of_ready (r := r) hup rfl hm rfl hn.ne' he ha hh hr),
          fun hp hd => ⟨fun hr => hput _ (State.bar2Serve_of_waiting (r := q) hup hp hm hd hn.ne' he ha hh hr),
            fun hr => hput _ (State.bar2Serve_of_ready (r := q) hup hp hm hd hn.ne' he ha hh hr)⟩⟩⟩⟩
  · exact (exec_of_hostServes rfl h).trans (congrArg _ (if_pos ht))
  · exact (exec_of_hostServes rfl h).trans (congrArg _ (if_neg (Nat.not_lt.mpr ht)))
  · exact (congrArg (bitOf · 0) (State.cfgRaw_cfgPut_same _ 0 0x2C8 _ 0)).trans (bitOf_setBit_zero _ false)
  · exact (exec_of_hostServes rfl h).trans (congrArg _ (if_pos hready))
  · exact (exec_pcieCompletion_of_piece hr hx).trans (by rw [hc])
  · exact (exec_pcieCompletion_of_piece hr hx).trans (by rw [hc])
  · refine ⟨?_, (exec_pcieCompletion_of_orphan hr ho).trans ?_⟩
    · rw [hc]
      rfl
    · rw [hc]
      cases o.2.2 <;> rfl
  · refine ⟨fun hlen => ?_, (exec_pcieCompletion_of_orphan hr ho).trans (by rw [hc])⟩
    exact if_pos (by rw [hc, decide_eq_true hlen]; rfl)
  · exact (exec_pcieCompletion_of_nobody hr ho).trans (by rw [hq])
  · exact State.lateCpl_late _ _ _
  · exact (exec_pcieCompletion_of_nobody hr ho).trans (by rw [hq])
  · exact of_decide_eq_true (List.mem_filter.mp hq).2
  · exact List.mem_filter.mpr ⟨hq, decide_eq_true hne⟩

end Sys2Proof.Machine
end

section
/-! PROOFS. The vector unit's lane-wise functions: O15 (03_tensor_engines, R88, R89; 04_leg_programs, R116, R123). -/

namespace Sys2Proof.Machine

open Sys2Proof.Safety

-- A state with its facts: one rule for each number of facts, so that each fact about the state is proved on its own.

theorem exists_and₄ {α : Type} {A B C D : α → Prop} (t : α) (a : A t) (b : B t) (c : C t) (d : D t) : ∃ t, A t ∧ B t ∧ C t ∧ D t :=
  ⟨t, a, b, c, d⟩

theorem exists_and₈ {α : Type} {A B C D E F G H : α → Prop} (t : α) (a : A t) (b : B t) (c : C t) (d : D t) (e : E t) (f : F t) (g : G t)
    (h : H t) : ∃ t, A t ∧ B t ∧ C t ∧ D t ∧ E t ∧ F t ∧ G t ∧ H t :=
  ⟨t, a, b, c, d, e, f, g, h⟩

-- Tables written entry after entry.

section
variable {key : Nat → Nat} {val : Nat → Lane} {l : List Nat} (m : NMap Lane)

theorem mget_foldl_mput_of_mem {x : Nat} (hkey : ∀ y, key y = key x → y = x) (hx : x ∈ l) :
    mget (l.foldl (fun m y => mput m (key y) (val y)) m) (key x) = some (val x) := by
  induction hx generalizing m with
  | tail y _hx ih => exact ih _
  | head l =>
    exact List.foldlRecOn (motive := fun m => mget m (key x) = some (val x)) l _ (mget_mput_same m _ _) fun m hm y _hy =>
      (mget_mput m _ _ _).trans (iteInduction (motive := fun o => o = some (val x))
        (fun h => congrArg (fun y => some (val y)) (hkey y h)) fun _h => hm)

theorem mget_foldl_mput_of_not_mem {j : Nat} (hj : ∀ y ∈ l, key y ≠ j) :
    mget (l.foldl (fun m y => mput m (key y) (val y)) m) j = mget m j :=
  List.foldlRecOn (motive := fun t => mget t j = mget m j) l _ rfl fun t ht y hy => (mget_mput_ne t _ (hj y hy)).trans ht

end

theorem row_of_lt {n v y : Nat} (hy : y < n) : (v * n + y) / n = v :=
  Nat.div_eq_of_lt_le (Nat.le_add_right _ _) ((Nat.add_lt_add_left hy _).trans_eq (Nat.succ_mul v n).symm)

theorem row_inj {n u v y z : Nat} (hy : y < n) (hz : z < n) (h : v * n + y = u * n + z) : v = u :=
  (row_of_lt hy).symm.trans ((congrArg (fun i => i / n) h).trans (row_of_lt hz))

theorem row_lt {n p v y : Nat} (hv : v < p) (hy : y < n) : v * n + y < p * n :=
  (Nat.add_lt_add_left hy _).trans_le ((Nat.succ_mul v n).symm.le.trans (Nat.mul_le_mul_right n hv))

-- Physical TEs and vector registers. The definitions of these proofs are noncomputable: nothing runs them.

theorem State.ph_setPh_same (s : State) (x : Nat) (p : PhysSt) : (s.setPh x p).ph x = p :=
  congrArg (fun o : Option PhysSt => o.getD .fresh) (mget_mput_same _ _ _)

theorem State.setLeg_run (s : State) (k : Nat) (r : LegRun) : ((s.setLeg k r).tez k).run = some r :=
  congrArg TeSt.run (s.tez_setTe_same k _)

theorem PhysSt.accAt_vreg (x : PhysSt) (m : NMap Lane) (i : Nat) : ({ x with vreg := m } : PhysSt).accAt i = x.accAt i := rfl

/-- What a lane reads as, by what its TE keeps of it. -/
noncomputable def PhysSt.laneOf (x : PhysSt) (v l : Nat) (o : Option Lane) : Nat :=
  match o with
  | some b => b.toNat
  | none => if x.epoch = 0 then 0 else (Config.lostWord x.epoch (0x10000 + v * 64 + l)).toNat

theorem PhysSt.lane_vreg (x : PhysSt) (m : NMap Lane) (v l : Nat) : ({ x with vreg := m } : PhysSt).lane v l = x.laneOf v l (mget m (v * 64 + l)) :=
  rfl

section
variable (s : State) (k v : Nat) (f : Nat → Nat)

theorem State.vreg_setVreg (u l : Nat) : (s.setVreg k v f).vreg k u l = (s.ph (s.physOf k)).laneOf u l
    (mget ((List.range 64).foldl (fun m l => mput m (v * 64 + l) (BitVec.ofNat 32 (f l))) (s.ph (s.physOf k)).vreg) (u * 64 + l)) :=
  (congrArg (fun x : PhysSt => x.lane u l) (s.ph_setPh_same _ _)).trans (PhysSt.lane_vreg _ _ u l)

theorem State.vreg_setVreg_same (l : Nat) (hl : l < 64) : (s.setVreg k v f).vreg k v l = f l % 2 ^ 32 :=
  (s.vreg_setVreg k v f v l).trans ((congrArg ((s.ph (s.physOf k)).laneOf v l)
    (mget_foldl_mput_of_mem _ (fun _y e => Nat.add_left_cancel e) (List.mem_range.mpr hl))).trans (BitVec.toNat_ofNat _ _))

theorem State.vreg_setVreg_ne (u l : Nat) (hu : u ≠ v) (hl : l < 64) : (s.setVreg k v f).vreg k u l = s.vreg k u l :=
  (s.vreg_setVreg k v f u l).trans (congrArg ((s.ph (s.physOf k)).laneOf u l) (mget_foldl_mput_of_not_mem _ fun _y hy e =>
    hu (row_inj hl (List.mem_range.mp hy) e.symm)))

end

-- Instructions that issue.

/-- What an instruction that issues does: its effect, and its leg past it (R116, R129). -/
theorem State.issue_of_issues {s : State} {k cls : Nat} {sel : Nat → Bool} {hold : LegRun → Nat → List (Nat × Nat)} {r : LegRun} {w : Nat}
    (act : State → LegRun → Nat → State × LegRun) (h : issues s k cls sel hold r w) :
    s.issue k cls sel hold act = (act s r w).1.setLeg k (act s r w).2.advance := by
  unfold State.issue
  rw [h.1]
  exact (if_pos ⟨h.2.1, h.2.2.1⟩).trans ((if_pos h.2.2.2.1).trans (if_neg (Bool.eq_false_iff.mp h.2.2.2.2)))

/-- A lane keeps the low 32 bits of what is written to it. -/
theorem State.setVreg_mod (s : State) (k v : Nat) (f : Nat → Nat) : (s.setVreg k v fun l => f l % 2 ^ 32) = s.setVreg k v f :=
  congrArg (fun val : Nat → Lane => s.setPh (s.physOf k) { s.ph (s.physOf k) with
    vreg := (List.range 64).foldl (fun m l => mput m (v * 64 + l) (val l)) (s.ph (s.physOf k)).vreg })
    (funext fun l => BitVec.eq_of_toNat_eq (Nat.mod_mod (f l) _))

theorem exec_vecShl (k : Nat) (s : State) : exec (.vecShl k) s = .next (s.vecOp k 0x0B (fun _i a b _c => a * 2 ^ (b % 32))) :=
  congrArg (fun act => Host.Outcome.next (s.issue k 3 (isVec 0x0B) (fun _r _w => []) act)) (funext fun s => funext fun r => funext fun _w =>
    congrArg (fun t => (t, r)) (s.setVreg_mod k _ _))

/-- Settles O15: each of the 24 commands is State.vecOp of its function, which issues. -/
theorem vectorFormsWriteEveryLane : Obligations.VectorFormsWriteEveryLane := by
  intro s k r w forms x hx h
  refine exists_and₈ ((s.setVreg k (vecI w).vd fun l => x.2.2 (vecI w).int (s.vreg k (vecI w).va l) (s.opB k (vecI w) l)
      (s.vreg k (vecI w).vc l)).setLeg k r.advance)
    ((?_ : exec (x.1 k) s = .next (s.vecOp k x.2.1 x.2.2)).trans (congrArg Host.Outcome.next (State.issue_of_issues _ h)))
    (s.vreg_setVreg_same k _ _) (s.vreg_setVreg_ne k _ _) (State.setLeg_run _ _ _) (fun j hj => State.tez_setTe_ne _ _ hj.symm)
    (fun i => (congrArg (fun x : PhysSt => x.accAt i) (s.ph_setPh_same _ _)).trans (PhysSt.accAt_vreg _ _ i))
    (fun y hy => congrArg (fun o : Option PhysSt => o.getD .fresh) (mget_mput_ne _ _ hy.symm)) rfl
  clear h
  revert x
  refine List.map_inj_left.mp ?_
  exact congrArg (List.set (forms.map fun x => Host.Outcome.next (s.vecOp k x.2.1 x.2.2)) 11) (exec_vecShl k s)

end Sys2Proof.Machine
end

section
/-! PROOFS. Vector loads, stores and random draws: O16 (03_tensor_engines, R92; 04_leg_programs, R123, R124). -/

namespace Sys2Proof.Machine

open Sys2Proof.Safety

theorem exists₂_and₈ {α β : Type} {A B C D E F G H : α → β → Prop} (t : α) (r : β) (a : A t r) (b : B t r) (c : C t r) (d : D t r)
    (e : E t r) (f : F t r) (g : G t r) (h : H t r) : ∃ t r, A t r ∧ B t r ∧ C t r ∧ D t r ∧ E t r ∧ F t r ∧ G t r ∧ H t r :=
  ⟨t, exists_and₈ r a b c d e f g h⟩

theorem State.holds_holdWrite_bytes32 (s : State) (k a : Nat) (f : Nat → Nat) (l : List Nat) (r : LegRun) :
    ((s.holdWrite k a (bytes32 (l.map f))).setLeg k r).holds = (s.holdWrite k a (l.flatMap fun i => leBytes 4 (f i))).holds :=
  congrArg (fun b => (s.holdWrite k a b).holds) (List.flatMap_map f (leBytes 4) l)

theorem State.setLeg_holdWrite_frame (s : State) (k a : Nat) (bs : List Byte) (r : LegRun) :
    (s.holdWrite k a bs).setLeg k r =
      { s with te := ((s.holdWrite k a bs).setLeg k r).te, holds := ((s.holdWrite k a bs).setLeg k r).holds } := rfl

/-- Settles O16: LD and the draws write a vector register, ST a hold. -/
theorem vectorLoadStoreAndRandomForms : Obligations.VectorLoadStoreAndRandomForms := by
  intro s k r w v
  refine ⟨fun h => exists_and₄ ((s.setVreg k v.vd fun l => s.holdNat k (vecHold v r.loops + 4 * l) 4).setLeg k r.advance)
      (congrArg Host.Outcome.next (State.issue_of_issues (hold := vecSpan) _ h)) (s.vreg_setVreg_same k _ _) (s.vreg_setVreg_ne k _ _)
      ⟨State.setLeg_run _ _ _, rfl⟩,
    fun h => exists_and₄ ((s.holdWrite k (vecHold v r.loops) (bytes32 ((List.range 64).map (s.vreg k v.va)))).setLeg k r.advance)
      (congrArg Host.Outcome.next (State.issue_of_issues (hold := vecSpan) _ h)) (s.holds_holdWrite_bytes32 k _ _ _ _)
      (State.setLeg_run _ _ _) (s.setLeg_holdWrite_frame k _ _ _),
    fun x hx h => exists₂_and₈ ((s.setVreg k v.vd fun l => x.2.2 ((randWords (s.rf (R.teRng k) F.teRng_SEED) r.seed r.entry.step k v.sidx
        (mgetD r.draws v.sidx 0)).getD l 0)).setLeg k (LegRun.advance { r with draws := mput r.draws v.sidx (mgetD r.draws v.sidx 0 + 16) }))
      (LegRun.advance { r with draws := mput r.draws v.sidx (mgetD r.draws v.sidx 0 + 16) })
      ((?_ : exec (x.1 k) s = .next (s.rand k x.2.1 x.2.2)).trans (congrArg Host.Outcome.next (State.issue_of_issues _ h)))
      (s.vreg_setVreg_same k _ _) (State.setLeg_run _ _ _) (congrArg (fun o : Option Nat => o.getD 0) (mget_mput_same _ _ _))
      (fun i hi => mget_mput_ne _ _ hi.symm) rfl rfl rfl⟩
  clear h
  revert x
  exact List.map_inj_left.mp rfl

end Sys2Proof.Machine
end

section
/-! PROOFS. Reductions: O18 (03_tensor_engines, R90, R91; 04_leg_programs, R127). -/

namespace Sys2Proof.Machine

open Sys2Proof.Safety

/-- A RED's second list goes to its place; an empty one writes nothing. -/
theorem State.holdWrite_unless_nil (s : State) (k a : Nat) (l : List Nat) :
    (if l.isEmpty then s else s.holdWrite k a (bytes32 l)) = s.holdWrite k a (bytes32 l) := by
  induction l with
  | nil => rfl
  | cons x l _ih => rfl

/-- The rule of each RED form (R90, R91, R127). -/
noncomputable def redRule (k op : Nat) : State → RedI → List Nat → List Nat × List Nat :=
  [fun _s _d l => ([redSum l], []), fun _s _d l => ([redMax l], []), fun _s _d l => (softmax l, []),
    fun s d l => (rmsNorm l (s.hold32s k (d.wadr * 64) d.n) (s.holdNat k (d.eps * 64) 4), []),
    fun s d l => (layerNorm l (s.hold32s k (d.wadr * 64) d.n) (s.hold32s k (d.badr * 64) d.n) (s.holdNat k (d.eps * 64) 4), []),
    fun _s _d l => ([(argmax l).1, (argmax l).2], []), fun _s d l => ((topk l d.k).map fun p => p.2, (topk l d.k).map fun p => p.1)].getD op
    fun _s _d _l => ([], [])

/-- Settles O18: each of the seven commands is State.red of its rule. -/
theorem reductionsWriteTheirResults : Obligations.ReductionsWriteTheirResults := by
  intro s k r w d src forms x hx h
  refine exists_and₄ (((s.holdWrite k (d.dst * 64) (bytes32 x.2.2.1)).holdWrite k (d.dst * 64 + 256) (bytes32 x.2.2.2)).setLeg k r.advance)
    ((?_ : exec (x.1 k) s = .next (s.red k x.2.1 (redRule k x.2.1))).trans (congrArg Host.Outcome.next
      ((State.issue_of_issues _ h).trans (congrArg (fun t : State => t.setLeg k r.advance) ((State.holdWrite_unless_nil _ _ _ _).trans
        (congrArg (fun y : List Nat × List Nat => (s.holdWrite k (d.dst * 64) (bytes32 y.1)).holdWrite k (d.dst * 64 + 256) (bytes32 y.2))
          (?_ : redRule k x.2.1 s d src = x.2.2))))))) rfl
    (State.setLeg_run _ _ _) rfl
  all_goals
    clear h
    revert x
    exact List.map_inj_left.mp rfl

end Sys2Proof.Machine
end

section
/-! PROOFS. Moves that complete: O23 (04_leg_programs, R82, R118, R131, R174). -/

namespace Sys2Proof.Machine

open Sys2Proof.Safety

/-- The rows of an HCOPY or a ZERO change the hold alone. -/
theorem State.movInside_frame (s : State) (k : Nat) (m : MovX) : s.movInside k m = { s with holds := (s.movInside k m).holds } :=
  List.foldlRecOn (motive := fun t : State => t = { s with holds := t.holds }) m.pieces _ rfl fun t ht p _hp =>
    congrArg (fun u : State => { u with holds := (t.holdWrite k p.2.1 (if m.op = 2 then t.holdRead k p.1 p.2.2 else
      List.replicate p.2.2 0)).holds }) ht

/-- An operation past LOAD and STORE takes the last of three ways. -/
theorem ite_of_two_or_three {α : Type} {n : Nat} (hn : n = 2 ∨ n = 3) (a b c : α) : (if n = 0 then a else if n = 1 then b else c) = c :=
  hn.elim (congrArg fun n => if n = 0 then a else if n = 1 then b else c) (congrArg fun n => if n = 0 then a else if n = 1 then b else c)

/-- What a MOV_COMPLETE does with the MOV it finds: one that is ready has its effect and leaves its TE, one that is not asks (R82). -/
noncomputable def State.movFound (s : State) (k : Nat) (o : Option MovX) : Host.Outcome State Fault Refusal :=
  match o with
  | some m =>
    if s.movReady k m then
      .next ((s.movDo k ((s.partOf m.tenant).getD 64) m).setTe k (((s.movDo k ((s.partOf m.tenant).getD 64) m).tez k).without m))
    else .next (s.movOpen k m)
  | none => .next s

theorem exec_movComplete_of_find {s : State} {k n : Nat} {r : LegRun} {o : Option MovX} (hrun : (s.tez k).run = some r)
    (ho : ((s.tez k).tail ++ r.movs).find? (fun m => m.id = n) = o) : exec (.movComplete k n) s = s.movFound k o :=
  congrArg (s.movFound k) ((congrArg (fun run => ((s.tez k).tail ++ match run with
    | some r => r.movs
    | none => []).find? fun m : MovX => m.id = n) hrun).trans ho)

theorem exec_movComplete_of_ready {s u : State} {k n : Nat} {r : LegRun} {m : MovX} (hrun : (s.tez k).run = some r)
    (hm : ((s.tez k).tail ++ r.movs).find? (fun m => m.id = n) = some m) (hready : s.movReady k m = true)
    (hdo : s.movDo k ((s.partOf m.tenant).getD 64) m = u) : exec (.movComplete k n) s = .next (u.setTe k ((u.tez k).without m)) :=
  (exec_movComplete_of_find hrun hm).trans ((if_pos hready).trans
    (congrArg (fun u : State => Host.Outcome.next (u.setTe k ((u.tez k).without m))) hdo))

/-- Settles O23: a MOV_COMPLETE finds its MOV ready, waiting, or none. -/
theorem movesCompleteAndReleaseTheirRange : Obligations.MovesCompleteAndReleaseTheirRange := by
  intro s k n r m hrun
  exact ⟨fun hm => ⟨fun hop => exists_and₄ (State.setTe { s with holds := (s.movInside k m).holds } k ((s.tez k).without m))
        (exec_movComplete_of_ready hrun hm (ite_of_two_or_three hop _ _ _) ((ite_of_two_or_three hop _ _ _).trans (s.movInside_frame k m))) rfl
        (State.tez_setTe_same _ _ _) rfl,
      fun hop hready => ⟨_, exec_movComplete_of_ready hrun hm hready (if_pos hop), rfl, State.tez_setTe_same _ _ _⟩,
      fun hop hready => exists_and₄ _
        (exec_movComplete_of_ready hrun hm hready ((if_neg fun h => Nat.one_ne_zero (hop.symm.trans h)).trans (if_pos hop))) rfl
        (State.movSpill_holds _ _ _ _) (State.tez_setTe_same _ _ _),
      fun _hop hready => (exec_movComplete_of_find hrun hm).trans (if_neg (Bool.eq_false_iff.mp hready))⟩, exec_movComplete_of_find hrun⟩

end Sys2Proof.Machine
end

section
/-! PROOFS. An MMA that completes: O26 (03_tensor_engines, R73, R74). -/

namespace Sys2Proof.Machine

theorem PhysSt.accAt_clearSets (x : PhysSt) {n p c : Nat} (hp : p < n) (hc : c < 512) : (clearSets x n).accAt (accKey p c) = 0 :=
  congrArg (fun o : Option Lane => match o with
    | some v => v
    | none => if x.epoch = 0 then 0 else Config.lostWord x.epoch (accKey p c))
    (mget_foldl_mput_of_mem (key := fun i => i) (val := fun _i => 0) x.acc (fun _i e => e) (List.mem_range.mpr (row_lt hp hc)))

/-- The columns of an MMA's mode. -/
noncomputable def MmaX.columns (m : MmaX) : Nat :=
  match m.mode with
  | some mm => mm.md.n
  | none => 0

theorem MmaX.columns_eq (m : MmaX) : m.columns = m.mode.elim 0 (fun mm => mm.md.n) :=
  Option.rec (motive := fun o => (match o with
    | some mm => mm.md.n
    | none => 0) = o.elim 0 (fun mm => mm.md.n)) rfl (fun _mm => rfl) m.mode

section
variable (s : State) (k : Nat)

/-- The state once a drain has written its sums to the hold (R73). -/
noncomputable def State.withSums (m : MmaX) (n : Nat) : State :=
  if m.op = 1 ∨ m.op = 2 then s.holdWrite k m.dst (drainBytes (s.ph (s.physOf k)) m.p n) else s

theorem State.withSums_frame (m : MmaX) (n : Nat) : s.withSums k m n = { s with holds := (s.withSums k m n).holds } :=
  iteInduction (motive := fun t : State => t = { s with holds := t.holds }) (fun _h => rfl) fun _h => rfl

/-- What an MMA leaves: all but an ACC have also set their sets to 0 (R73). -/
noncomputable def State.mmaDone (m : MmaX) (n : Nat) : State :=
  { s with
    holds := (s.withSums k m n).holds
    phys := if m.op = 0 then s.phys else mput s.phys (s.physOf k) (clearSets (s.ph (s.physOf k)) m.p) }

theorem State.clear_withSums (m : MmaX) (n : Nat) :
    (if m.op = 0 then s.withSums k m n else (s.withSums k m n).setPh (s.physOf k) (clearSets (s.ph (s.physOf k)) m.p)) = s.mmaDone k m n :=
  (congrArg (fun u : State => if m.op = 0 then u else u.setPh (s.physOf k) (clearSets (s.ph (s.physOf k)) m.p)) (s.withSums_frame k m n)).trans
    (apply_ite (fun phys => { s with holds := (s.withSums k m n).holds, phys := phys }) (m.op = 0) s.phys _).symm

/-- What an MMA_COMPLETE does with the MMA it finds: one whose blocks are consumed has its effect and leaves its leg (R74). -/
noncomputable def State.mmaFound (r : LegRun) (o : Option MmaX) : Host.Outcome State Fault Refusal :=
  match o with
  | some m =>
    if m.blocks.isEmpty then
      let x := s.ph (s.physOf k)
      let s1 := s.withSums k m m.columns
      let s2 := if m.op = 0 then s1 else s1.setPh (s.physOf k) (clearSets x m.p)
      .next (s2.setLeg k { r with mma := none })
    else .next s
  | none => .next s

end

theorem exec_mmaComplete {s : State} {k : Nat} {r : LegRun} {o : Option MmaX} (hrun : (s.tez k).run = some r) (ho : r.mma = o) :
    exec (.mmaComplete k) s = s.mmaFound k r o :=
  (congrArg (fun run => match run with
    | some r => s.mmaFound k r r.mma
    | none => .next s) hrun).trans (congrArg (s.mmaFound k r) ho)

/-- Settles O26: the hold and the array are those of State.mmaDone, and the leg has no MMA. -/
theorem matrixOperationsComplete : Obligations.MatrixOperationsComplete := by
  intro s k r m hrun
  exact ⟨fun hm hblocks => exists_and₈ ((s.mmaDone k m m.columns).setLeg k { r with mma := none })
      ((exec_mmaComplete hrun hm).trans ((if_pos (List.isEmpty_iff.mpr hblocks)).trans
        (congrArg (fun u : State => Host.Outcome.next (u.setLeg k { r with mma := none })) (s.clear_withSums k m _))))
      (State.setLeg_run _ _ _)
      (fun hop => (congrArg State.holds (if_pos hop)).trans
        (congrArg (fun n => (s.holdWrite k m.dst (drainBytes (s.ph (s.physOf k)) m.p n)).holds) m.columns_eq))
      (fun h1 h2 => (congrArg State.holds (if_neg (not_or.mpr ⟨h1, h2⟩)) : (s.withSums k m m.columns).holds = s.holds))
      (fun hop p c hp hc => (congrArg (fun phys => (mgetD phys (s.physOf k) PhysSt.fresh).accAt (accKey p c)) (if_neg hop)).trans
        ((congrArg (fun x : PhysSt => x.accAt (accKey p c)) (State.ph_setPh_same _ _ _)).trans (PhysSt.accAt_clearSets _ hp hc)))
      (fun hop => if_pos hop)
      (fun v l => iteInduction (motive := fun phys => (mgetD phys (s.physOf k) PhysSt.fresh).lane v l = s.vreg k v l) (fun _h => rfl)
        fun _h => (congrArg (fun x : PhysSt => x.lane v l) (s.ph_setPh_same _ (clearSets (s.ph (s.physOf k)) m.p)) :)) rfl,
    fun hm hblocks => (exec_mmaComplete hrun hm).trans (if_neg fun h => hblocks (List.isEmpty_iff.mp h)), exec_mmaComplete hrun⟩

end Sys2Proof.Machine
end

section
/-! PROOFS. Failing TEs and firmware's requests about them: O28 (03_tensor_engines, R94, R95, R106, R107). -/

namespace Sys2Proof.Machine

theorem State.teCap_kept (s : State) (tile phys cause : Nat) : (s.teCap tile phys cause).err = s.err ∧ (s.teCap tile phys cause).te = s.te := by
  unfold State.teCap
  generalize s.laneOf tile phys = o
  induction o with
  | none => exact ⟨rfl, rfl⟩
  | some j => exact ⟨rfl, rfl⟩

/-- A lane that fails shows it, and its partition falls due (R94, R95). -/
theorem State.laneFails_frame (s : State) (tile j : Nat) : s.laneFails tile j =
    { s.rset (R.teStatus (4 * tile + j)) F.teStatus_STATE 3 with parts := (s.laneFails tile j).parts } := by
  unfold State.laneFails
  generalize s.partOfTile tile = o
  induction o with
  | none => rfl
  | some p => rfl

/-- A physical TE that becomes failing, as it serves lane j: captured, noted with the sailing, reported (R94). -/
noncomputable def State.failed (s : State) (tile phys cause : Nat) (lane : Option Nat) : State :=
  ((s.teCap tile phys cause).setPh (5 * tile + phys) { (s.teCap tile phys cause).ph (5 * tile + phys) with failing := some s.sail }).errBare
    clsDegrading 0x03 cause (4 * tile + lane.getD 0)

theorem State.becomeFailing_of_lane {s : State} {tile phys j : Nat} (cause : Nat) (hphys : phys < 5) (hlane : s.laneOf tile phys = some j)
    (hmark : s.teFailed tile phys = false) (hnew : (s.ph (5 * tile + phys)).failing = none) :
    s.becomeFailing tile phys cause = (s.failed tile phys cause (some j)).laneFails tile j :=
  (if_neg (not_or.mpr ⟨Bool.eq_false_iff.mp hmark, not_or.mpr ⟨Option.not_isSome_iff_eq_none.mpr hnew, Nat.not_le.mpr hphys⟩⟩)).trans
    (congrArg (fun o : Option Nat => match o with
      | some i => (s.failed tile phys cause o).laneFails tile i
      | none => s.failed tile phys cause o) hlane)

-- Requests put into the shadow of TE_SPARE (R11, R107).

theorem fget_or (v u : Word) (f : Fld) : fget (v ||| u) f = fget v f ||| fget u f :=
  (congrArg (fun n => n / 2 ^ f.lo % 2 ^ f.w) (BitVec.toNat_or v u)).trans
    ((congrArg (fun n => n % 2 ^ f.w) Nat.or_div_two_pow).trans Nat.or_mod_two_pow)

theorem State.shadow_spareShadow (s : State) (tile : Nat) (f : Fld) (x : Nat) :
    mgetD (s.spareShadow tile f x).shadow (R.teSpare tile) (0, 0) =
      (fset (mgetD s.shadow (R.teSpare tile) (0, 0)).1 f x, (mgetD s.shadow (R.teSpare tile) (0, 0)).2 ||| fmask f) :=
  congrArg (fun o : Option (Word × Word) => o.getD (0, 0)) (mget_mput_same _ _ _)

theorem State.spareReq_lane (s : State) (tile lane : Nat) :
    ((s.spareShadow tile F.teSpare_REQ_LANE lane).spareReq tile).1 = lane % 2 ^ F.teSpare_REQ_LANE.w :=
  (congrArg (fun y : Word × Word => if fget y.2 F.teSpare_REQ_LANE = 0 then 7 else fget y.1 F.teSpare_REQ_LANE)
    (s.shadow_spareShadow tile F.teSpare_REQ_LANE lane)).trans
    ((if_neg (mt (fun h => (Nat.or_eq_zero_iff.mp ((fget_or _ _ _).symm.trans h)).2) (by decide))).trans (fget_fset _ _ _ (by decide)))

theorem and_or_ones : ∀ x o : Fin 32, x.val &&& (o.val ||| 31) = x.val := by
  decide

/-- Requests to return TEs combine (R107). -/
theorem State.spareReq_clrFailed (s : State) (tile mask : Nat) :
    ((s.clrFailed tile mask).spareReq tile).2 = ((s.spareReq tile).2 ||| mask % 32) :=
  have hasked : (s.spareReq tile).2 ||| mask % 32 < 32 :=
    Nat.or_lt_two_pow (n := 5) (Nat.and_lt_two_pow _ (Nat.mod_lt _ (by decide))) (Nat.mod_lt _ (by decide))
  (congrArg (fun y : Word × Word => fget y.1 F.teSpare_CLR_FAILED &&& fget y.2 F.teSpare_CLR_FAILED)
    (s.shadow_spareShadow tile F.teSpare_CLR_FAILED _)).trans
    ((congrArg₂ HAnd.hAnd ((fget_fset _ _ _ (by decide)).trans (Nat.mod_eq_of_lt hasked)) (fget_or _ _ _)).trans
      (and_or_ones ⟨_, hasked⟩ ⟨_, Nat.mod_lt _ (by decide)⟩))

/-- Settles O28: a corrected error is reported alone, another one marks the TE and its lane, requests wait in the shadow. -/
theorem aFailingEngineIsMarkedUntilTheNextI2 : Obligations.AFailingEngineIsMarkedUntilTheNextI2 := by
  intro s tile phys lane mask
  exact ⟨exists₂_and₈ ((s.teCap tile phys 1).errBare clsCorrected 0x03 1 (4 * tile + (s.laneOf tile phys).getD 0)) _ rfl
      (congrArg₂ HAppend.hAppend (congrArg ErrSt.inbox (s.teCap_kept tile phys 1).1) rfl) rfl rfl rfl (s.teCap_mem _ _ _) (s.teCap_holds _ _ _)
      (s.teCap_kept tile phys 1).2,
    fun cause j hcause hphys hlane hmark hnew => exists₂_and₈
      { (s.failed tile phys cause (some j)).rset (R.teStatus (4 * tile + j)) F.teStatus_STATE 3 with
        parts := ((s.failed tile phys cause (some j)).laneFails tile j).parts }
      ⟨clsDegrading, 0x03, cause, 4 * tile + j, none, 0, none, none, (s.teCap tile phys cause).sail, false⟩
      ((if_neg hcause).trans (congrArg Host.Outcome.next
        ((State.becomeFailing_of_lane cause hphys hlane hmark hnew).trans (State.laneFails_frame _ _ _))))
      (congrArg₂ HAppend.hAppend (congrArg ErrSt.inbox (s.teCap_kept tile phys cause).1) rfl) rfl rfl rfl
      (congrArg PhysSt.failing (State.ph_setPh_same _ _ _))
      (State.rf_rset_same _ _ _ 3 (by decide)) ⟨s.teCap_mem _ _ _, s.teCap_holds _ _ _, (s.teCap_kept tile phys cause).2⟩,
    exists_and₄ _ rfl (s.spareReq_lane tile lane) rfl fun x hj => mget_mput_ne _ _ hj.symm,
    exists_and₄ _ rfl (s.spareReq_clrFailed tile mask) rfl fun x hj => mget_mput_ne _ _ hj.symm⟩

end Sys2Proof.Machine
end

section
/-! PROOFS. A hold's bytes: O24 (03_tensor_engines, R67, R82, R86, R87). -/

namespace Sys2Proof.Machine

/-- The quarter of a hold that holds quarter q of the addresses, beside carry window c (R87). -/
noncomputable def quarterOf (c q : Nat) : Nat := if q = 3 then c else if q < c then q else q + 1

theorem quarterOf_lt : ∀ c q : Fin 4, quarterOf c q < 4 := by decide

theorem quarterOf_inj : ∀ c q p : Fin 4, quarterOf c q = quarterOf c p → q = p := by decide

theorem holdAddr_eq (c a : Nat) : holdAddr c a = quarterOf (c % 4) (a / 0x80000) * 0x80000 + a % 0x80000 :=
  (apply_ite (fun q => q * 0x80000 + a % 0x80000) (a / 0x80000 = 3) _ _).symm

theorem holdAddr_lt (c : Nat) {a : Nat} (ha : a < 0x200000) : holdAddr c a < 0x200000 :=
  (holdAddr_eq c a).trans_lt (row_lt (quarterOf_lt ⟨c % 4, Nat.mod_lt _ (by decide)⟩ ⟨a / 0x80000, Nat.div_lt_of_lt_mul ha⟩)
    (Nat.mod_lt _ (by decide)))

/-- Different addresses lie at different bytes (R87). -/
theorem holdAddr_inj (c : Nat) {a b : Nat} (ha : a < 0x200000) (hb : b < 0x200000) (h : holdAddr c a = holdAddr c b) : a = b :=
  have hrow : quarterOf (c % 4) (a / 0x80000) * 0x80000 + a % 0x80000 = quarterOf (c % 4) (b / 0x80000) * 0x80000 + b % 0x80000 :=
    (holdAddr_eq c a).symm.trans (h.trans (holdAddr_eq c b))
  have hquarter : quarterOf (c % 4) (a / 0x80000) = quarterOf (c % 4) (b / 0x80000) :=
    row_inj (Nat.mod_lt a (by decide)) (Nat.mod_lt b (by decide)) hrow
  Nat.ext_div_mod (congrArg Fin.val (quarterOf_inj ⟨c % 4, Nat.mod_lt _ (by decide)⟩ ⟨a / 0x80000, Nat.div_lt_of_lt_mul ha⟩
    ⟨b / 0x80000, Nat.div_lt_of_lt_mul hb⟩ hquarter))
    (Nat.add_left_cancel (hrow.trans (congrArg (fun n => n * 0x80000 + b % 0x80000) hquarter.symm)))

/-- Where a TE's hold has the byte of an address. -/
noncomputable def State.holdKeyOf (s : State) (k a : Nat) : Nat :=
  holdKey (s.physOf k) (holdAddr (s.ph (s.physOf k)).carryQ (a % 0x200000))

/-- A byte is written at its own place, and the mirror's in another TE's SRAM (R86). -/
theorem State.holdByte_holdWrite_byte (s : State) (k a b : Nat) (v : Byte) :
    (s.holdWrite k a [v]).holdByte k b = cellRead (cellWrite s.holds (s.holdKeyOf k a) v) (s.holdKeyOf k b) :=
  iteInduction (motive := fun mi => cellRead (holdPut s.holds (s.physOf k) (s.ph (s.physOf k)).carryQ mi (k % 4) (a % 0x200000) v) (s.holdKeyOf k b) =
      cellRead (cellWrite s.holds (s.holdKeyOf k a) v) (s.holdKeyOf k b))
    (fun h => iteInduction (motive := fun t => cellRead t (s.holdKeyOf k b) = cellRead (cellWrite s.holds (s.holdKeyOf k a) v) (s.holdKeyOf k b))
      (fun _h => cellRead_cellWrite_ne _ _ fun e => h.2.2 (row_inj
        ((congrArg (fun n => n + _) (Nat.mul_comm _ _)).trans_lt (row_lt (Nat.mod_lt k (by decide : 0 < 4))
          (Nat.mod_lt (a % 0x200000) (by decide : 0 < 0x80000))))
        (holdAddr_lt _ (Nat.mod_lt b (by decide : 0 < 0x200000))) e))
      fun _h => rfl) fun _h => rfl

-- A hold as plain memory: written side by side, a hold and a memory of its addresses agree on a byte.

/-- A hold has for address b what a memory has there. -/
def State.HoldAgrees (s : State) (k b : Nat) (M : List Host.Cell) : Prop :=
  Memory.wf s.holds = true ∧ Memory.wf M = true ∧ s.holdByte k b = cellRead M b

section
variable {s : State} {k a b : Nat} {M : List Host.Cell} (h : s.HoldAgrees k b M) (hb : b < 0x200000)
include h hb

theorem State.HoldAgrees.put (ha : a < 0x200000) (v : Byte) : (s.holdWrite k a [v]).HoldAgrees k b (cellWrite M a v) :=
  ⟨holdPut_wf _ _ _ _ _ _ _ h.1, Memory.wf_cellWrite _ _ _ h.2.1, (s.holdByte_holdWrite_byte k a b v).trans ((eq_or_ne a b).elim
    (Eq.rec (motive := fun i _e => cellRead (cellWrite s.holds (s.holdKeyOf k a) v) (s.holdKeyOf k i) = cellRead (cellWrite M a v) i)
      ((cellRead_cellWrite _ _ _ h.1).trans (cellRead_cellWrite _ _ _ h.2.1).symm))
    fun hne => (cellRead_cellWrite_ne _ _ fun e => hne (Nat.ModEq.eq_of_lt_of_lt
      (holdAddr_inj _ (Nat.mod_lt a (by decide)) (Nat.mod_lt b (by decide)) (Nat.add_left_cancel e)) ha hb)).trans
        (h.2.2.trans (cellRead_cellWrite_ne _ _ hne).symm))⟩

theorem State.HoldAgrees.puts {bs : List Byte} (ha : a + bs.length ≤ 0x200000) : (s.holdWrite k a bs).HoldAgrees k b (cellsWrite M a bs) := by
  induction bs generalizing s M a with
  | nil => exact h
  | cons v bs ih =>
    exact ih (h.put hb ((Nat.lt_add_of_pos_right (Nat.succ_pos _)).trans_le ha) v) ((Nat.add_right_comm a 1 _).trans_le ha)

end

/-- A byte of a hold written, and a memory that has that byte written alike. -/
theorem State.holdByte_holdWrite {s : State} {k a b : Nat} {bs : List Byte} (hs : Safety.Canon s) (ha : a + bs.length ≤ 0x200000)
    (hb : b < 0x200000) : (s.holdWrite k a bs).holdByte k b = cellRead (cellsWrite (cellWrite [] b (s.holdByte k b)) a bs) b :=
  (State.HoldAgrees.puts ⟨hs.2.2.2, Memory.wf_cellWrite _ _ _ Memory.wf_nil, (cellRead_cellWrite [] b _ Memory.wf_nil).symm⟩ hb ha).2.2

/-- Settles O24: the hold and a memory that has its byte are written side by side. -/
theorem holdWritesReachTheirBytesAlone : Obligations.HoldWritesReachTheirBytesAlone := by
  intro s k a b bs hs ha hb
  exact ⟨fun hab hin => (State.holdByte_holdWrite hs ha hb).trans ((congrArg (cellRead _) (Nat.add_sub_cancel' hab).symm).trans
      ((cellRead_cellsWrite_in bs _ a (b - a) (Memory.wf_cellWrite _ _ _ Memory.wf_nil) (Nat.sub_lt_left_of_lt_add hab hin)).trans
        (List.getD_eq_getElem _ _ _).symm)),
    fun hout => (State.holdByte_holdWrite hs ha hb).trans ((cellRead_cellsWrite_out bs _ a b hout).trans (cellRead_cellWrite _ _ _ Memory.wf_nil))⟩

end Sys2Proof.Machine
end
